-- ==== Sys2Proof/Word.lean ====
section
/-! DEFINITION. The word types of the hardware: bytes, the 32-bit register word, binary32 patterns and 48-bit EXT48 words. -/
namespace Sys2Proof
/-- One byte. -/
abbrev Byte := BitVec 8
/-- A register word of the host map, 32 bits, little-endian (R6). -/
abbrev Word := BitVec 32
/-- An IEEE 754 binary32 pattern (R134). -/
abbrev F32 := BitVec 32
/-- A 48-bit EXT48 word (R135). -/
abbrev Ext48 := BitVec 48
end Sys2Proof
end

