-- ==== Sys2Proof/Syntax.lean ====
section
/-! DEFINITION. The commands of the module: one constructor per row of spec/opcode_table.json, with the operands an
event or a host action of that row brings from outside. -/
namespace Sys2Proof

/-- How an access reaches the module (R486); a service core is a path of its own for the semaphores (R517). -/
inductive Path where
  | spi
  | ring (portB : Bool)
  | branch
  | debug
  | core (c : Fin 4)
  deriving DecidableEq, Repr
/-- A host access: its path and the tenancy it acts for. The SPI port, the debug port and the service cores act as
tenancy 0 (R486). -/
structure Access where
  path : Path
  ten : Fin 8
  deriving DecidableEq, Repr
/-- What the outside brings to a tick: the four ADC samples (24-bit, R137), the instances whose DRAM line is late
(R153), the players whose buffer ran dry (R206), and the samples of units that deliver none of their own. -/
structure TickEnv where
  adc : List Int
  late : List Nat
  underrun : List Nat
  deriving DecidableEq, Repr
/-- What a scrubber's read of a memory word finds, beyond the errors the model already holds in that word: nothing new,
a single-bit error, or an uncorrectable error (R130, R532). -/
inductive ScrubFind where
  | clean
  | single
  | double
  deriving DecidableEq, Repr
/-- The memory that MEMORY_SCRUB reads (R532). -/
inductive ScrubMem where
  | sram
  | footing
  | dram
  deriving DecidableEq, Repr
/-- A Flary frame as it arrives (R495): the path, the source address, the header fields, the 16 AUTH bytes and the body. -/
structure FlaryReq where
  branch : Bool
  portB : Bool
  src : BitVec 48
  op : Fin 256
  ten : Fin 8
  ttl : Nat
  hops : Nat
  target : BitVec 48
  reqMac : BitVec 48
  relay : BitVec 48
  seq : Word
  status : Byte
  done : Nat
  auth : List Byte
  body : List Byte
  deriving DecidableEq, Repr
/-- The sense data of an UP frame as the model carries it: output voltage in mV and channel current in mA of CH0 to CH7,
rails and VBUS in V, rail currents of BST0 to BST3 in mA, converter input currents in mA, power-die temperatures and baseplate temperature in 0.1 °C. -/
structure Sense where
  v : List Int
  i : List Int
  rail : List Nat
  railI : List Int
  vbus : Nat
  iin : List Nat
  die : List Int
  base : Int
  deriving DecidableEq, Repr

/-- The supplies that a modulator sample finds: the rail of the channel's converter and VDRV, in mV (R338, R345). -/
structure DriveSense where
  rail : Int
  vdrv : Int
  deriving DecidableEq, Repr

/-- A frame that the service bus brings: its bytes with the FCS, whether it had an odd number of nibbles, and whether a code
error fell in it (R321, R324). -/
structure SbusFrame where
  bytes : List Byte
  oddNibble : Bool
  codeError : Bool
  deriving DecidableEq, Repr
/-- How the sending of a slot of the service bus ended: the RESULT of R322, the collisions met, and whether it was deferred
(R324). -/
structure SbusSent where
  result : Fin 4
  collisions : Fin 17
  deferred : Bool
  deriving DecidableEq, Repr

/-- The commands of the block: one constructor per row of the opcode table, in the table's order. -/
inductive Instr where
  /-- A write to a register or field that has no row of its own is applied according to its field types, with the permission, width and value checks (R10). -/
  | regWrite (acc : Access) (addr : Word) (value : Word)
  /-- VL5 crosses its rising threshold with REF_OK set, and the logic side leaves reset 10 ms later and starts its boot (R582). -/
  | vl5PowerOn (xtal : Bool)
  /-- RST_N held low for at least 1 µs parks the link and resets the logic side; the footing domain keeps its state (R582). -/
  | rstN
  /-- VDRV rises past 11.0 V; the power-control die starts, with every channel OFF, and waits for its first valid DN frame (R583). -/
  | vdrvRelease
  /-- VDRV falls below 4.0 V, which resets the power-control die and ends every record held until removal (R611). -/
  | vdrvRemoved
  /-- VBUS stays below 20 V for 10 ms while VDRV is present, and the die clears its held records (R611). -/
  | vbusRemoved
  /-- VBUS rises past 40 V and the boost converters may switch (R578). -/
  | vbusStart
  /-- VBUS has exceeded 110 V for 1 µs; PWR_VBUS_ABS puts every channel in the safe state at class CAPSTONE (R576). -/
  | vbusAbs
  /-- VDRV has been below 10.5 V for 10 µs; every channel goes to the safe state with CAUSE VDRV (R368). -/
  | vdrvLow
  /-- A power-die junction is above 150 °C; the channel pair on that die goes to the safe state with CAUSE HOT (R368). -/
  | dieHot (k : Fin 4)
  /-- VL5 has been below 4.5 V for 10 µs; FLT_VL5_LOW becomes ACTIVE, every channel is set in SAFE_MASK and the analog outputs are held (R532). -/
  | vl5Low
  /-- VL5 has been at or above 4.5 V for 10 µs, and the condition of FLT_VL5_LOW ends (R532). -/
  | vl5Recover
  /-- The logic-die junction has been above 140 °C for 1 ms; FLT_LOGIC_HOT becomes ACTIVE with the reaction of FLT_VL5_LOW (R532). -/
  | logicHot
  /-- The logic-die junction has been at or below 135 °C for 1 ms, and the condition of FLT_LOGIC_HOT ends (R532). -/
  | logicCool
  /-- The barrier monitor finds leakage or a failed isolator test pattern; CAPSTONE is raised and every channel is held safe (R532). -/
  | isoBarrier
  /-- The power-control die accepts the DN frame of a tick, with its samples, rail targets, mask and register requests (R19). -/
  | dnFrame (crcOk : Bool)
  /-- Four consecutive DN frames fail or are missing without SAFE_REQ, and every channel goes to the safe state with class HALT (R16). -/
  | dnLinkLost
  /-- SAFE_REQ is asserted and no valid DN frame has arrived for 2 ticks; PWR_LOGIC_COLLAPSE is recorded at CAPSTONE (R15). -/
  | logicCollapse
  /-- The logic side receives the UP frame of a tick with sense data, register read data and high-voltage fault codes (R17). -/
  | upFrame (crcOk : Bool) (sense : Sense)
  /-- Four consecutive UP frames fail or are missing; BAR_UP_LOST is raised and every channel is set in SAFE_MASK (R17). -/
  | upLinkLost
  /-- SAFE_REQ asserts and the power-control die forces the safe state on the selected channels within 1 µs (R14). -/
  | safeReqAssert
  /-- The channel current has stayed below 0.5 A for 8 samples, and every switch of the channel turns off (R353). -/
  | safeStateOff (n : Fin 8)
  /-- The current has not decayed within 1 ms; all switches turn off regardless and PWR_SAFE_SLOW is raised (R353). -/
  | safeStateSlow (n : Fin 8)
  /-- After D55 returns to L0 the barrier link resynchronises and leaves the parked condition (R562). -/
  | linkResync
  /-- The tick edge advances KS_COUNT and the head performs its fixed boundary work in order (R51). -/
  | keystoneTick (env : TickEnv)
  /-- At cycle 250 of the next head the engine wakes a gated stone (R164). -/
  | stoneWake (stone : Fin 32)
  /-- A DRAM line arrives for which a stone is stalled, and the stone resumes (R153). -/
  | streamLineArrive (stone : Fin 32) (cycle : Nat)
  /-- A write-stream line completes its write-back and frees its buffer slot (R152). -/
  | streamWritebackDone (id : Nat)
  /-- At the commit point the overrun detector checks every stone and stops those that have not finished (R63). -/
  | commitPoint
  /-- KS_ALARMn_CTRL.ARM arms alarm n for its target tick, or refuses it as late (R53). -/
  | ksAlarmArm (acc : Access) (n : Fin 4)
  /-- KS_ALARMn_CTRL.DISARM cancels a pending alarm (R53). -/
  | ksAlarmDisarm (acc : Access) (n : Fin 4)
  /-- A pending alarm reaches its target tick and sets its KS_INT_STATUS.ALARM bit (R53). -/
  | ksAlarmFire (n : Fin 4)
  /-- KS_CTRL.CAPTURE copies KS_COUNT and the current engine cycle into the capture registers in one step (R10). -/
  | ksCapture (acc : Access)
  /-- KS_CTRL.OVR_CLR clears the overrun count and the overrun records (R66). -/
  | ksOvrClr (acc : Access)
  /-- An IEEE 802.1AS Sync arrives on the SlavePort and the time servo follows the grandmaster (R269). -/
  | gptpSync (portB : Bool) (gm : BitVec 48) (timeNs : Nat)
  /-- A peer-delay exchange completes and the mean link delay of the port is updated (R303). -/
  | gptpPdelay (port : Fin 3) (delayNs : Nat)
  /-- No Sync has arrived for three sync intervals, and the media PLL holds its tuning (R272). -/
  | syncTimeout
  /-- IMG_SLOT_CTRL.OPEN starts erasing the addressed slot and makes it OPEN (R70). -/
  | slotOpen (acc : Access) (slotB : Bool)
  /-- The erase of a slot completes (R70). -/
  | slotEraseDone (slotB : Bool)
  /-- A write to IMG_SLOT_DATA appends 4 bytes at IMG_SLOT_PTR while the slot is OPEN (R70). -/
  | slotData (acc : Access) (data : Word)
  /-- IMG_SLOT_CTRL.CLOSE makes an OPEN slot CLOSED (R70). -/
  | slotClose (acc : Access) (slotB : Bool)
  /-- IMG_SLOT_CTRL.VERIFY starts stages F and S on a slot without staging it (R70). -/
  | slotVerify (acc : Access) (slotB : Bool)
  /-- A verify finishes and the slot is set VALID or INVALID with its refusal code (R106). -/
  | slotVerifyDone (slotB : Bool) (badPages : List Nat)
  /-- IMG_CTRL.LOAD starts reading the chosen slot into staging, running stages F, S and X (R111). -/
  | imgLoad (acc : Access) (slotB : Bool)
  /-- A load ends, with the image STAGED or refused and discarded (R108). -/
  | imgLoadDone (badPages : List Nat)
  /-- IMG_CTRL.ARM runs the stage A checks and schedules the rebuild start at T − W (R113). -/
  | imgArm (acc : Access)
  /-- IMG_CTRL.DISARM returns an ARMED image to STAGED (R119). -/
  | imgDisarm (acc : Access)
  /-- IMG_CTRL.DISCARD ends LOADING, STAGED or REFUSED and discards the staged image (R111). -/
  | imgDiscard (acc : Access)
  /-- IMG_CTRL.DEACTIVATE mutes every LIVE output of the active image (R120). -/
  | imgDeactivate (acc : Access)
  /-- Once every output is HELD or OFF, the schedule stops at the next tick and no image is active (R120). -/
  | deactivateDone
  /-- IMG_CTRL.ACCEPT sets ACCEPTED and ends an epoch mismatch, unless it is refused as busy (R125). -/
  | imgAccept (acc : Access)
  /-- At the head of T − W the stage A checks are repeated, the old image stops and the rebuild runs (R115). -/
  | rebuildStart
  /-- At the head of tick T the new image becomes active with its initial parameters and epoch (R118). -/
  | activation
  /-- Writing 1 to IMG_SIG.LOCK permanently freezes ENFORCE and the key slots (R105). -/
  | sigLock (acc : Access)
  /-- The scrubber reads stone local memory words through the service port and corrects single-bit errors in place (R130). -/
  | stoneScrub (stone : Fin 32) (word : Fin 32768) (found : ScrubFind)
  /-- The scrubbers read tick SRAM, footing memory and DRAM words, correct single-bit errors and report errors (R532). -/
  | memoryScrub (mem : ScrubMem) (word : Nat) (found : ScrubFind)
  /-- ENG_CTRL.CNT_CLR clears the transfer-grout, stream-late, ECC and NaN counters (R153). -/
  | engCntClr (acc : Access)
  /-- ENG_CTRL.PEAK_CLR clears the peak and stall records of every stone (R166). -/
  | engPeakClr (acc : Access)
  /-- A host write to a parameter word is checked for rights, range and ties, then applied or sent to the shadow bank (R170). -/
  | paramWrite (acc : Access) (offset : Fin 65536) (width : Fin 3) (value : Word)
  /-- MIX_SWAP_CTRL.ARM arms a safe-load swap of a space for a target tick (R189). -/
  | swapArm (acc : Access) (space : Fin 8)
  /-- MIX_SWAP_CTRL.DISARM cancels a pending swap armed by this tenancy (R189). -/
  | swapDisarm (acc : Access) (space : Fin 8)
  /-- MIX_SWAP_CTRL.REVERT copies the values in effect over the shadow bank (R191). -/
  | swapRevert (acc : Access) (space : Fin 8)
  /-- At the head of T − G the shadow bank is taken and copied into the inactive local banks (R190). -/
  | swapStage (space : Fin 8)
  /-- At position 4 of the head of T, every instance of the space changes bank; an instance whose set breaks a tie keeps its bank (R190). -/
  | swapFire (space : Fin 8)
  /-- MIX_LATCH_CTRL.ARM arms a meter latch for its tick (R195). -/
  | latchArm (acc : Access)
  /-- MIX_LATCH_CTRL.DISARM cancels a pending meter latch (R195). -/
  | latchDisarm (acc : Access)
  /-- MIX_LATCH_CTRL.HOLD_CLR sets the peak hold of every meter to 0 at the next head (R194). -/
  | holdClr (acc : Access)
  /-- A due meter latch copies every live half to its latched half and resets the live peaks (R195). -/
  | meterLatch
  /-- MIX_PFIR_CTRL.LOAD starts loading the taps of one partitioned-FIR channel, fading it out (R178). -/
  | pfirLoad (acc : Access) (id : Fin 4096) (ch : Fin 8)
  /-- A coefficient load completes and the channel fades back in (R178). -/
  | pfirLoadDone
  /-- No sample has arrived at a converter for 16 ticks; it resynchronises and grouts (R198). -/
  | srcAbsent (id : Fin 4096)
  /-- After Z ticks of zero output the converter starts its 64-tick ramp-in (R199). -/
  | srcSettled (id : Fin 4096)
  /-- The converter's ramp-in ends and SETTLING clears (R199). -/
  | srcRampEnd (id : Fin 4096)
  /-- MIX_REC_CTRL.FREEZE starts a freeze and the recorder enters POST (R202). -/
  | recFreeze (acc : Access)
  /-- MIX_REC_CTRL.RUN returns the recorder to RUN (R202). -/
  | recRun (acc : Access)
  /-- POST ticks have passed; the recorder stops writing and enters FROZEN (R202). -/
  | recFrozen
  /-- MIX_MSG_CTRL.OPEN starts erasing the addressed message and makes it OPEN (R205). -/
  | msgOpen (acc : Access) (number : Fin 1024)
  /-- A write to MIX_MSG_DATA appends 4 bytes to the OPEN message (R205). -/
  | msgData (acc : Access) (data : Word)
  /-- MIX_MSG_CTRL.CLOSE makes an OPEN message CLOSED (R205). -/
  | msgClose (acc : Access) (number : Fin 1024)
  /-- MIX_MSG_CTRL.VERIFY starts checking the header and DATA_CRC of the message (R205). -/
  | msgVerify (acc : Access) (number : Fin 1024)
  /-- MIX_MSG_CTRL.DELETE starts erasing the message (R205). -/
  | msgDelete (acc : Access) (number : Fin 1024)
  /-- A message OPEN, DELETE or VERIFY completes and the message state is set (R205). -/
  | msgOpDone
  /-- A change of OVR_A or OVR_B, stable for 32 ticks, is accepted and the override state machine moves (R207). -/
  | ovrInputAccept (pinA : Bool) (pinB : Bool)
  /-- DISC ticks pass with the inputs disagreeing; the override becomes effective and OVR_DISCREPANCY is raised (R207). -/
  | ovrDiscExpire
  /-- OVR_STAT and PLAYABLE follow a change of the playable conditions within one ring cycle (R212). -/
  | ovrStatUpdate
  /-- A ring audio frame is received, forwarded by cut-through and checked at its end (R225). -/
  | audioFrame (portB : Bool) (frame : List Byte)
  /-- In every ring cycle the head launches each frame of each direction at its launch time (R224). -/
  | headLaunch (west : Bool) (k : Fin 16)
  /-- A frame has not begun to arrive 12 µs after its expected phase, and the node generates it (R229). -/
  | frameGenerate (west : Bool) (k : Fin 16)
  /-- RING_DP_CTRL.AGE_CLR restarts the age records of every lane (R236). -/
  | dpAgeClr (acc : Access)
  /-- RING_DP_CTRL.CNT_CLR clears every ring data-path counter (R234). -/
  | dpCntClr (acc : Access)
  /-- A BEACON is received and acted on: state, roles, segment list and the displacement or merge of a coordinator (R252). -/
  | beaconRx (portB : Bool) (frame : List Byte)
  /-- A CLAIM is forwarded and the node enters WAITING, or the CLAIM is discarded (R254). -/
  | claimRx (portB : Bool) (frame : List Byte)
  /-- A ROLL gives the node its hop count and east port, or is reflected at a line end (R258). -/
  | rollRx (portB : Bool) (frame : List Byte)
  /-- The coordinator stores a node's REPORT, and builds the plan once every report is held (R260). -/
  | reportRx (portB : Bool) (frame : List Byte)
  /-- A PLAN is received and held for its EFFECTIVE cycle (R263). -/
  | planRx (portB : Bool) (frame : List Byte)
  /-- A held plan is put into effect at the head of its EFFECTIVE cycle, or later once the node is locked (R263). -/
  | planEffective
  /-- A SEGMENT LOSS or IN_SERVICE is received and the coordinator updates its segment list (R282). -/
  | segmentRx (portB : Bool) (frame : List Byte)
  /-- A PROBE is received; once both ends are READY the segment enters service as heal, join, merge or renumber (R285). -/
  | probeRx (portB : Bool) (frame : List Byte)
  /-- A TIMING REQ is answered with an ACK, or voids crossing requests (R274). -/
  | timingReqRx (portB : Bool) (frame : List Byte)
  /-- A TIMING ACK schedules the handover at its SWITCH cycle (R274). -/
  | timingAckRx (portB : Bool) (frame : List Byte)
  /-- A TIMING ASSERT schedules the better node's mastership at its SWITCH cycle (R275). -/
  | timingAssertRx (portB : Bool) (frame : List Byte)
  /-- At the SWITCH cycle the new master becomes grandmaster and the port states are recomputed (R274). -/
  | timingSwitch
  /-- A REQ has had no ACK for 100 ms and lapses with RESULT 8 (R274). -/
  | timingLapse
  /-- The coordinator grants a speed step with STEP GO, or denies it with a reason (R287). -/
  | stepReqRx (portB : Bool) (frame : List Byte)
  /-- A STEP GO schedules a retrain of the segment at its CYCLE (R288). -/
  | stepGoRx (portB : Bool) (frame : List Byte)
  /-- A STEP DONE ends the step and frees the coordinator for the next one (R288). -/
  | stepDoneRx (portB : Bool) (frame : List Byte)
  /-- A STEP DENY ends a port's request (R287). -/
  | stepDenyRx (portB : Bool) (frame : List Byte)
  /-- A STEP FAIL ends the step with the segment lost (R288). -/
  | stepFailRx (portB : Bool) (frame : List Byte)
  /-- At CYCLE both ends retrain at the target speed as a planned step (R288). -/
  | stepRetrain
  /-- The link has been up at the target speed for 100 ms; the segment returns and STEP DONE is sent (R288). -/
  | stepLinkUp (portB : Bool)
  /-- The link is not up within 5 s; STEP FAIL is sent and the segment is lost with reason 4 (R288). -/
  | stepTimeout (portB : Bool)
  /-- A SLEEP frame schedules sleep entry at its ENTER cycle (R291). -/
  | sleepRx (portB : Bool) (frame : List Byte)
  /-- At the head of cycle ENTER, LIVE outputs are muted and held while the active image is kept (R291). -/
  | sleepEnter
  /-- A WAKE frame wakes the node and is passed on its other ring port within 200 µs (R293). -/
  | wakeRx (portB : Bool) (frame : List Byte)
  /-- A SNAPSHOT frame arms a snapshot for its target, or is recorded as missed (R329). -/
  | snapshotRx (portB : Bool) (frame : List Byte)
  /-- A control frame with a bad version, type or length is discarded and counted (R250). -/
  | controlFrameBad (portB : Bool) (frame : List Byte)
  /-- 100 ms in LISTEN without a BEACON takes a capable node to CLAIMING (R252). -/
  | listenTimeout
  /-- A node in CLAIMING repeats its CLAIM every 100 ms (R253). -/
  | claimRepeat
  /-- 200 ms in WAITING without a BEACON returns the node to LISTEN (R252). -/
  | waitingTimeout
  /-- A follower that has heard no BEACON for 100 ms returns to LISTEN (R252). -/
  | followerTimeout
  /-- The standby has heard no BEACON for 50 ms, or receives HANDOFF, and takes over as coordinator (R278). -/
  | standbyTakeover
  /-- The coordinator sends its BEACON every twelfth ring cycle (R257). -/
  | beaconSend
  /-- A node sends its REPORT within 10 ms of its first roll or of a change of its LIVE flag (R260). -/
  | reportSend
  /-- 1 s after the rolls the coordinator builds and issues the plan with the reports it holds (R260). -/
  | planBuildTimeout
  /-- The coordinator resends a new plan at 1 ms intervals, and the plan in effect once every second (R262). -/
  | planResend
  /-- A head whose launch function has not been renewed for 20 ms stops launching frames (R279). -/
  | headLaunchExpire
  /-- 24 ring cycles pass without a good frame; the segment leaves service and LOSS is sent (R282). -/
  | segmentSilence (portB : Bool)
  /-- A port's link goes down; its segment leaves service and the drop is counted (R282). -/
  | linkDown (port : Fin 3)
  /-- A port's link comes up and the hold-off count starts (R283). -/
  | linkUp (port : Fin 3) (speed : Fin 3) (advert : Fin 8)
  /-- The link has been up for HOLD_MS and the port sets READY in its PROBEs (R283). -/
  | holdOffDone (portB : Bool)
  /-- A port in hold-off sends a PROBE every 100 ms (R283). -/
  | probeSend (portB : Bool)
  /-- A segment has been out of service for 10 s and the coordinator re-rolls (R286). -/
  | segmentRerollTimeout
  /-- 1 s after wake the silence rules apply again and the coordinator steps the ring to the plan's speed (R294). -/
  | silenceResume
  /-- RING_CTL_CTRL.COMMIT issues a plan from the RING_CFG registers or reports why it does not (R265). -/
  | ringCommit (acc : Access)
  /-- RING_CTL_CTRL.TM_REQ sends a TIMING REQ for a timing-master handover (R273). -/
  | ringTmReq (acc : Access)
  /-- RING_CTL_CTRL.LEAVE sends a REPORT with LEAVING, or a HANDOFF BEACON from the coordinator (R281). -/
  | ringLeave (acc : Access)
  /-- RING_CTL_CTRL.REROLL makes the coordinator re-roll and issue a plan (R286). -/
  | ringReroll (acc : Access)
  /-- RING_CTL_CTRL.SLEEP on the coordinator sends SLEEP with an ENTER cycle (R290). -/
  | ringSleep (acc : Access)
  /-- RING_CTL_CTRL.WAKE wakes the node from network sleep and sends WAKE (R293). -/
  | ringWake (acc : Access)
  /-- A change of PORT_Pp_CFG.MODE drops the link and renegotiates it (R300). -/
  | portModeWrite (acc : Access) (port : Fin 3) (mode : Fin 8)
  /-- A port whose load has stayed low for HOLD_S asks for the next lower speed (R305). -/
  | speedLowerReq (port : Fin 3)
  /-- A port whose load has stayed high for 1 s asks for the next higher speed (R306). -/
  | speedRaiseReq (port : Fin 3)
  /-- A received PAUSE frame is counted and, when honoured, holds the port's non-audio transmission (R309). -/
  | pauseRx (port : Fin 3) (frame : List Byte)
  /-- A pause has lasted LIMIT_MS; the watchdog breaks it and ignores PAUSE for RECOVER_MS (R310). -/
  | pauseBreak (port : Fin 3)
  /-- RECOVER_MS ends and the port honours PAUSE again (R310). -/
  | pauseRecover (port : Fin 3)
  /-- An incoming AAF frame delivers its samples to its stream endpoint, or is refused and counted (R316). -/
  | aafRx (port : Fin 3) (frame : List Byte)
  /-- Every 125 µs each enabled outgoing stream sends a frame of the ticks committed in that interval (R315). -/
  | aafTx
  /-- Setting EN of an AAF stream checks its setting and enables it or refuses (R314). -/
  | aafStreamEnable (acc : Access) (stream : Fin 16)
  /-- An IEEE 1722.1 AECP command is answered, and a setting command acts only with AVDECC_WR (R318). -/
  | aecpCommand (port : Fin 3) (frame : List Byte)
  /-- An IEEE 1722.1 ACMP connection command is answered and acted on (R317). -/
  | acmpCommand (port : Fin 3) (frame : List Byte)
  /-- An ENTITY_DISCOVER is answered with the entity's advertisement (R317). -/
  | adpDiscover (port : Fin 3) (frame : List Byte)
  /-- The entity sends ENTITY_AVAILABLE every 2 s (R317). -/
  | adpAvailable
  /-- A service-bus frame is received into the receive queue, or discarded when the queue is full (R322). -/
  | sbusRx (frame : SbusFrame)
  /-- The host advances SBUS_TX_HEAD and the module queues the filled slots for sending (R322). -/
  | sbusTxHead (acc : Access) (value : Word)
  /-- A transmit slot ends; RESULT is written and SBUS_TX_TAIL advances (R322). -/
  | sbusTxDone (result : SbusSent)
  /-- The host advances SBUS_RX_TAIL to free read slots (R322). -/
  | sbusRxTail (acc : Access) (value : Word)
  /-- No PLCA beacon for the timeout; the node falls back to CSMA/CD and raises SBUS_PLCA_LOST (R320). -/
  | plcaLoss
  /-- A PLCA beacon is received, and a node that had fallen back returns to PLCA (R320). -/
  | plcaBeacon
  /-- PORT_STAT_CTRL.SEND arms a snapshot and floods a SNAPSHOT frame (R328). -/
  | snapSend (acc : Access)
  /-- PORT_STAT_CTRL.LOCAL arms a snapshot on this node only (R328). -/
  | snapLocal (acc : Access)
  /-- At the target tick every counter is latched into the snapshot bank, together with a meter latch (R330). -/
  | snapshotFire
  /-- PWR_CHn_CTRL.ARM takes a HELD channel to ARMED with precharge, unless ARM is barred (R347). -/
  | chArm (acc : Access) (n : Fin 8)
  /-- PWR_CHn_CTRL.RELEASE schedules a release of an ARMED channel, timed or untimed (R347). -/
  | chRelease (acc : Access) (n : Fin 8) (timed : Bool)
  /-- PWR_CHn_CTRL.MUTE schedules a mute of a LIVE channel, or returns an ARMED one to HELD (R347). -/
  | chMute (acc : Access) (n : Fin 8) (timed : Bool)
  /-- PWR_CHn_CTRL.DISARM cancels a pending release or mute (R347). -/
  | chDisarm (acc : Access) (n : Fin 8)
  /-- At the head of a timed release's target tick, the release proceeds if READY or ends as NOT_READY (R349). -/
  | releaseDue (n : Fin 8)
  /-- The gate drives are released on the first A0 carrier start and the channel reads LIVE (R346). -/
  | releaseEdge (n : Fin 8)
  /-- At the mute's due tick the channel reads MUTING and the mute ramp starts (R352). -/
  | muteDue (n : Fin 8)
  /-- After the ramp the legs go to half duty and the gate drives are withdrawn; the channel reads HELD (R352). -/
  | muteEnd (n : Fin 8)
  /-- At each 6.144 MHz sample the loop computes the modulation index of a running channel (R338). -/
  | modulatorSample (n : Fin 8) (vA : Int) (vB : Int) (i : Int) (rail : DriveSense)
  /-- The current stays at 1.25 × the limit for 2 µs, or reaches 40 A; the channel goes to the safe state with a load fault (R368). -/
  | loadShort (n : Fin 8)
  /-- PWR_SW_CTRL.APPLY validates and applies the switching-frequency settings, with the station-list search (R358). -/
  | swApply (acc : Access)
  /-- A switching-frequency ramp reaches its target (R359). -/
  | swRampEnd
  /-- The switching-clock source in use becomes invalid and every modulator moves to the other source (R361). -/
  | clkFailover
  /-- REC has been valid for 100 ms and the modulators return to it (R362). -/
  | clkReturn (ramp : Bool)
  /-- Neither switching-clock source is valid, and every channel goes to the safe state with CAUSE CLOCK (R363). -/
  | clkLost
  /-- An output phase with excess current or desaturation is disconnected within 1 µs and the channel is degraded (R364). -/
  | phaseLoss (n : Fin 8) (phase : Fin 4)
  /-- A boost phase is disconnected and the converter runs at two-thirds power (R374). -/
  | bstPhaseLoss (k : Fin 4) (phase : Fin 3)
  /-- A rail has been above 142 V for 1 µs; the converter stops and its channels go safe (R375). -/
  | railOv (k : Fin 4)
  /-- A rail has been more than 10 V below its target for 100 µs and BST_RAIL_LOW is counted (R375). -/
  | railLow (k : Fin 4)
  /-- The lookahead has been at least W_min for 12 ring cycles and fallback ends (R381). -/
  | fallbackEnd (n : Fin 8)
  /-- Every 1 ms the voice-coil thermal model and its protection gain are updated (R383). -/
  | thermalUpdate
  /-- Every 1 s the coil resistance measurement may raise Tc, or raise PROT_R_IMPLAUSIBLE (R385). -/
  | rmeasUpdate
  /-- The DC count reaches DC_MS; a DC load fault is declared and the channel is set in SAFE_MASK (R389). -/
  | dcFault (n : Fin 8)
  /-- A write to BST_CHn_PROT is refused if it would leave a served channel without protection (R390). -/
  | protSelectWrite (acc : Access) (n : Fin 8) (value : Word)
  /-- BST_DIAG_CTRL.START begins a diagnostic run, or refuses it with a RESULT (R392). -/
  | diagStart (acc : Access)
  /-- BST_DIAG_CTRL.ABORT, the override, a mute cause or a step ends the run as aborted (R397). -/
  | diagAbort (acc : Access)
  /-- A channel started by the run is not LIVE within 100 ms and reads NOT_READY (R393). -/
  | diagReadyTimeout
  /-- A test frequency's dwell ends and its impedance is measured (R394). -/
  | diagDwellEnd
  /-- A channel's tests end; its verdict is formed and the run moves to the next channel (R395). -/
  | diagChannelEnd
  /-- An acoustic background or channel measurement ends and its band levels are formed (R398). -/
  | acouMeasEnd
  /-- The last channel is done; the fades end and the run reports its result (R393). -/
  | diagRunEnd
  /-- A pending ADC gain takes effect at a sign change, or 10 ms after the write (R404). -/
  | adcGainApply (n : Fin 4)
  /-- ANA_CTRL.ADC_SYNC resets the decimators of all four channels (R406). -/
  | adcSync (acc : Access)
  /-- Z ticks after a decimator reset, the channel starts its 64-tick ramp (R406). -/
  | adcSettled (n : Fin 4)
  /-- The decimator ramp ends and SETTLING and RAMPING clear (R406). -/
  | adcRampEnd (n : Fin 4)
  /-- ANA_OUTn_CTRL.START ramps a HELD analog output up to LIVE, or is refused as busy (R412). -/
  | outStart (acc : Access) (n : Fin 4)
  /-- ANA_OUTn_CTRL.STOP ramps a LIVE analog output down (R412). -/
  | outStop (acc : Access) (n : Fin 4)
  /-- An analog output ramp ends; after a ramp down the output reads HELD (R411). -/
  | outRampEnd (n : Fin 4)
  /-- An output's 20 ms soft power-up ends and it reads HELD (R410). -/
  | outPowerUpEnd (n : Fin 4)
  /-- An output's 20 ms soft power-down ends (R410). -/
  | outPowerDownEnd (n : Fin 4)
  /-- The charge pump has been out of regulation for 100 µs; every analog output goes OFF (R415). -/
  | cpFail
  /-- The charge pump has been in regulation for 100 ms and the outputs may leave OFF (R415). -/
  | cpRecover
  /-- An analog output's current limit starts to act and ANA_OUT_SHORT is raised (R414). -/
  | outShort (n : Fin 4)
  /-- A jack sense level stable for 20 ms is accepted, muting or freeing its unit (R416). -/
  | jackAccept (input : Fin 7) (high : Bool)
  /-- The AES3 receiver finds two complete blocks of preambles and locks (R420). -/
  | aesLock
  /-- Errors or silence end the AES3 lock and AES_LOCK_LOST is raised (R420). -/
  | aesLockLoss
  /-- An AES3 subframe delivers a sample, or grout on a parity, biphase or validity error (R421). -/
  | aesSubframe (b : Bool) (index : Fin 192) (sample : BitVec 24) (cs : Bool) (validity : Bool) (parity : Bool) (code : Bool)
  /-- At the end of a block the channel-status bytes are copied after the CRC check (R422). -/
  | aesBlockEnd
  /-- The NONAUDIO end conditions are met and the audio ramps back in (R424). -/
  | nonaudioEnd
  /-- Writing SAPn_CFG.EN checks the configuration and starts the port, or refuses it (R433). -/
  | sapEnable (acc : Access) (n : Fin 3)
  /-- A serial-audio-port frame is transferred, moving its slots to and from staging and DMA (R429). -/
  | sapFrame (n : Fin 3) (rx : List Nat) (clocks : Bool)
  /-- A follower port locks after 16 good frames (R430). -/
  | sapLock (n : Fin 3)
  /-- A follower port loses lock and SAP_LOCK_LOST is raised (R430). -/
  | sapLockLoss (n : Fin 3)
  /-- Setting a DMA's EN checks the buffer and enables the DMA, or refuses it (R440). -/
  | dmaEnable (acc : Access) (n : Fin 3) (playback : Bool)
  /-- The host advances the capture read count (R438). -/
  | capRdWrite (acc : Access) (n : Fin 3) (value : Word)
  /-- The host advances the playback write count (R438). -/
  | pbWrWrite (acc : Access) (n : Fin 3) (value : Word)
  /-- Every 10 ms the frame rate of the AES3 input and the follower ports is updated (R435). -/
  | rateMeasure (unit : Fin 4) (rate : Fin 33554432)
  /-- On an update tick an aux channel forms and latches its code from the source of its mode (R447). -/
  | auxUpdate (n : Fin 4)
  /-- A write to AUXn_QUEUE appends a code, or is refused when the queue is full (R449). -/
  | auxQueueWrite (acc : Access) (n : Fin 4) (value : Word)
  /-- AUXn_CTRL.FLUSH empties the queue (R449). -/
  | auxFlush (acc : Access) (n : Fin 4)
  /-- AUXn_CTRL.SYNC resets the generator phase and noise source at the next update (R454). -/
  | auxSync (acc : Access) (n : Fin 4)
  /-- AUXn_CTRL.MODE_REQ requests NORMAL or TEST at the next update (R451). -/
  | auxModeReq (acc : Access) (n : Fin 4) (mode : Fin 4)
  /-- Writing EN 1 starts the channel's 100 µs power-up toward START-UP (R451). -/
  | auxEnable (acc : Access) (n : Fin 4)
  /-- Writing EN 0, or its domain leaving L0, takes the channel OFF and empties its queue (R451). -/
  | auxDisable (acc : Access) (n : Fin 4)
  /-- START_TICKS ticks have passed in START-UP and the channel goes to NORMAL (R451). -/
  | auxStartEnd (n : Fin 4)
  /-- An aux output's current limit starts to act and AUX_SHORT is raised (R458). -/
  | auxShort (n : Fin 4)
  /-- The reference stops or drifts; REF_OK clears and the media and switching PLLs hold (R460). -/
  | refLoss
  /-- After 10 ms of good reference REF_OK sets and the held PLLs close their loops (R460). -/
  | refReturn (xtal : Bool)
  /-- A PLL starts when its domain enters L0, choosing its band (R463). -/
  | pllStart (p : Fin 3)
  /-- A PLL's phase error stays within the window for 1,024 reference cycles and LOCK sets (R467). -/
  | pllLock (p : Fin 3)
  /-- A PLL loses lock, enters hold and raises its unlock source (R470). -/
  | pllLockLoss (p : Fin 3)
  /-- A PLL has been locked again for 10 ms and leaves the hold (R470). -/
  | pllHoldEnd (p : Fin 3)
  /-- A change of CLK_Pp_CFG.BW takes effect at the next reference cycle, keeping the integral term (R466). -/
  | pllBwChange (p : Fin 3)
  /-- A write to CLK_Pp_PHASE.STEP starts a phase step, or is refused (R478). -/
  | phaseStepWrite (acc : Access) (p : Fin 3) (value : Word)
  /-- One unit of a pending phase step is applied in a reference cycle (R478). -/
  | phaseStepUnit (p : Fin 3)
  /-- A ramp profile is loaded into the ramp generator, replacing any running profile (R472). -/
  | rampLoad (p : Fin 3) (segs : List (Word × Word))
  /-- A ramp segment ends; the next segment starts, or the profile ends and RAMP is set (R475). -/
  | rampSegmentEnd (p : Fin 3)
  /-- A change of an MCLK output's source, divider or format takes effect at its next falling edge (R484). -/
  | mclkConfig (n : Fin 2)
  /-- An SPI READ request executes its incrementing reads and returns the response frame (R490). -/
  | spiRead (count : Fin 512) (width : Fin 4) (addr : Word) (crcOk : Bool)
  /-- An SPI WRITE request executes its incrementing writes (R490). -/
  | spiWrite (count : Fin 512) (width : Fin 4) (addr : Word) (data : List Byte) (crcOk : Bool)
  /-- An SPI READ_FIX request reads one address repeatedly (R490). -/
  | spiReadFix (count : Fin 512) (width : Fin 4) (addr : Word) (crcOk : Bool)
  /-- An SPI WRITE_FIX request writes one address repeatedly (R490). -/
  | spiWriteFix (count : Fin 512) (width : Fin 4) (addr : Word) (data : List Byte) (crcOk : Bool)
  /-- An SPI STATUS request returns TEN_IRQ_PEND (R493). -/
  | spiStatus (crcOk : Bool)
  /-- An SPI REPEAT request returns the previous response without executing anything (R493). -/
  | spiRepeat (crcOk : Bool)
  /-- SPI_CS_N rises before the request ends; nothing executes and no response is given (R491). -/
  | spiCsAbort
  /-- A DISCOVER request returns the identity and status words without authentication (R500). -/
  | flaryDiscover (req : FlaryReq)
  /-- A Flary READ is authenticated, checked for replay and executes reads with the tenancy's rights (R500). -/
  | flaryRead (req : FlaryReq)
  /-- A Flary WRITE executes incrementing writes with the tenancy's rights (R500). -/
  | flaryWrite (req : FlaryReq)
  /-- A Flary READ_FIX reads one address repeatedly (R500). -/
  | flaryReadFix (req : FlaryReq)
  /-- A Flary WRITE_FIX writes one address repeatedly (R500). -/
  | flaryWriteFix (req : FlaryReq)
  /-- EVENT_SUB creates, renews or ends an interrupt subscription (R502). -/
  | flaryEventSub (req : FlaryReq)
  /-- A subscribed TEN_IRQ_PEND bit has risen and an EVENT is sent, at most once in 10 ms (R502). -/
  | flaryEventSend (sub : Nat)
  /-- A subscription lapses 60 s after its last EVENT_SUB (R502). -/
  | flarySubLapse (sub : Nat)
  /-- SLOT_XFER OPEN erases an image slot or firmware copy (R501). -/
  | slotXferOpen (req : FlaryReq)
  /-- SLOT_XFER DATA appends data at the expected offset (R501). -/
  | slotXferData (req : FlaryReq)
  /-- SLOT_XFER CLOSE closes the slot (R501). -/
  | slotXferClose (req : FlaryReq)
  /-- SLOT_XFER VERIFY verifies the slot, or a firmware copy against Itwald's key (R501). -/
  | slotXferVerify (req : FlaryReq)
  /-- MSG_XFER OPEN erases a message and makes it OPEN (R501). -/
  | msgXferOpen (req : FlaryReq)
  /-- MSG_XFER DATA appends data at the expected offset (R501). -/
  | msgXferData (req : FlaryReq)
  /-- MSG_XFER CLOSE closes the message (R501). -/
  | msgXferClose (req : FlaryReq)
  /-- MSG_XFER VERIFY checks the message (R501). -/
  | msgXferVerify (req : FlaryReq)
  /-- MSG_XFER DELETE erases the message (R501). -/
  | msgXferDelete (req : FlaryReq)
  /-- LOG_READ returns fleet log records (R500). -/
  | flaryLogRead (req : FlaryReq)
  /-- TELEMETRY returns the last sense frame and the channel states (R500). -/
  | flaryTelemetry (req : FlaryReq)
  /-- A Flary response is forwarded on the ring, or relayed to the branch port when RELAY names this node (R498). -/
  | flaryResponse (req : FlaryReq)
  /-- TEN_ALLOC_CTRL.ALLOC creates a zeroed runtime DRAM allocation, or refuses it (R508). -/
  | tenAlloc (acc : Access) (mib : Fin 8192)
  /-- TEN_ALLOC_CTRL.FREE releases the named allocation (R508). -/
  | tenFree (acc : Access) (handle : Fin 16)
  /-- TEN_HOLD.HOLD takes a hold on an instance, subject to rank (R505). -/
  | tenHold (acc : Access) (id : Fin 4096)
  /-- TEN_HOLD.RELEASE ends this tenancy's hold on an instance (R505). -/
  | tenRelease (acc : Access) (id : Fin 4096)
  /-- TEN_CTRL.EVICT marks a tenancy for eviction at the next epoch change (R512). -/
  | tenEvict (acc : Access) (ten : Fin 8)
  /-- A write to TEN_DRAM_WIN moves the tenancy's window for later accesses (R507). -/
  | dramWinWrite (acc : Access) (value : Word)
  /-- A write to a tenancy cap changes its quota in effect and may set OVER (R511). -/
  | capWrite (acc : Access) (ten : Fin 8) (cap : Fin 4) (value : Word)
  /-- A read of TEN_SEMn acquires the semaphore when free and reports the owner (R518). -/
  | semRead (acc : Access) (n : Fin 64)
  /-- A read of TEN_SEMn_WAIT stalls until the semaphore can be granted (R518). -/
  | semWait (acc : Access) (n : Fin 64)
  /-- A semaphore wait ends after TIMEOUT_MS with TIMEOUT (R518). -/
  | semWaitTimeout (n : Fin 64)
  /-- A write of 1 to TEN_SEMn_REL by the owner frees the semaphore and grants the next waiter (R519). -/
  | semRel (acc : Access) (n : Fin 64)
  /-- A tenancy's hold on a semaphore exceeds LEASE_MS; the semaphore is freed and marked BROKEN (R520). -/
  | semLeaseExpire (n : Fin 64)
  /-- A service core has not signalled its watchdog for 100 ms; it restarts and its semaphores are broken (R516). -/
  | watchdogExpire (core : Fin 4)
  /-- A DAW READ command reads an address with tenancy 0's rights, quietly or not (R523). -/
  | dawRead (addr : Word)
  /-- A DAW WRITE command writes an address, intrusively into stone memory when enabled (R523). -/
  | dawWrite (addr : Word) (data : Word)
  /-- A DAW READ_NEXT reads the previous address plus 4 (R523). -/
  | dawReadNext
  /-- A DAW WRITE_NEXT writes the previous address plus 4 (R523). -/
  | dawWriteNext (data : Word)
  /-- Loading EXTEST sets every channel in SAFE_MASK, raises DBG_EXTEST and drives the boundary scan (R522). -/
  | extest
  /-- Loading CLAMP sets every channel in SAFE_MASK and raises DBG_EXTEST (R522). -/
  | clamp
  /-- Loading HIGHZ sets every channel in SAFE_MASK and raises DBG_EXTEST (R522). -/
  | highz
  /-- The IDCODE instruction selects the 32-bit IDCODE register (R521). -/
  | idcode
  /-- The SAMPLE/PRELOAD instruction samples or preloads the boundary scan (R521). -/
  | samplePreload
  /-- BYPASS, and every unlisted code, selects the 1-bit bypass register (R521). -/
  | bypass
  /-- A test-logic reset selects IDCODE (R521). -/
  | tapReset
  /-- DBG_CORE_CTRL.HALT stops the named service cores at their next instruction boundary (R526). -/
  | coreHalt (acc : Access) (mask : Fin 16)
  /-- DBG_CORE_CTRL.RESUME restarts the named service cores (R526). -/
  | coreResume (acc : Access) (mask : Fin 16)
  /-- DBG_SEM_BREAK frees a semaphore whatever its owner and marks it BROKEN (R520). -/
  | semBreak (acc : Access) (n : Fin 64)
  /-- Writing 1 to DBG_CFG.LOCK from the SPI port permanently limits the debug port (R527). -/
  | dbgLock (acc : Access)
  /-- A write of FLT_SRCn.CLASS changes the class from the next tick (R529). -/
  | fltClassWrite (acc : Access) (source : Fin 256) (cls : Fin 4)
  /-- FLT_CLEAR.HALT requests clearing of the uncleared HALT raises that may be cleared (R542). -/
  | fltClearHalt (acc : Access)
  /-- FLT_CLEAR.LOAD requests clearing of the load faults of the channels in LOAD_MASK (R541). -/
  | fltClearLoad (acc : Access) (mask : Fin 256)
  /-- FLT_CLEAR.RESTART with a clear starts the freed outputs that have FLAGS.START (R543). -/
  | fltClearRestart (acc : Access) (halt : Bool) (load : Bool) (mask : Fin 256)
  /-- FLT_CLEAR.CNT_CLR clears every source COUNT and LOST (R533). -/
  | fltCntClr (acc : Access)
  /-- At the head of the next tick the clear acts, updating SAFE_MASK, the bars and the history (R544). -/
  | fltClearEffect
  /-- A read of FLT_HIST_TOP0 removes the oldest entry and fills the path's buffer (R550). -/
  | histPop (acc : Access)
  /-- FLT_INJ.ARM arms an error injection, or refuses it (R553). -/
  | injArm (acc : Access) (target : Fin 16) (mode : Fin 4) (unit : Fin 32)
  /-- With FN_WATCH set, the FAULT_N wire is low while this module does not drive it, and FLT_EXT_FAULT is raised (R539). -/
  | extFault
  /-- A domain idle for IDLE_US descends to its TARGET (R557). -/
  | domainIdleDescend (d : Fin 60)
  /-- An access to a domain below L0 requests its wake and stalls (R558). -/
  | domainDemandWake (d : Fin 60)
  /-- A waking domain reaches L0 and the stalled access proceeds (R558). -/
  | domainWakeDone (d : Fin 60)
  /-- A write of DOM_Dnn_CFG.TARGET is refused below L1 for a floored domain (R560). -/
  | domainTargetWrite (acc : Access) (d : Fin 60) (target : Fin 4)
  /-- DOM_CTRL.SLEEP starts network or storage sleep at the next tick head, or is refused (R567). -/
  | domSleep (acc : Access) (storage : Bool)
  /-- Once all outputs are HELD, the schedule is suspended and every domain is taken to its sleep state (R568). -/
  | sleepEntryReady
  /-- DOM_CTRL.WAKE is a host wake source that ends the sleep (R571). -/
  | domWake (acc : Access)
  /-- WAKE_N low for at least 10 µs wakes the node (R571). -/
  | wakeNPin
  /-- Link energy on a port for 1 ms wakes a node from storage sleep (R571). -/
  | linkEnergy (port : Fin 3)
  /-- Carrier on the service bus for 100 µs wakes the node (R571). -/
  | sbusActivity
  /-- The PLLs, engine and barrier link are back after a storage wake; the schedule runs and KS_COUNT resumes (R574). -/
  | storageWakeReady (timeNs : Nat) (sleptMs : Nat)
  /-- VL5 falls below the 4.2 V falling threshold of the power-on reset and the logic side is held in reset (R578). -/
  | vl5PowerOff
  /-- The shared FAULT_N wire returns high, so FN_LOW clears and the condition of FLT_EXT_FAULT ends (R539). -/
  | faultNWireReleased
  /-- VDRV returns above 10.5 V without falling to the reset level, ending the condition of PWR_VDRV_LOW (R368). -/
  | vdrvRecover
  /-- The power-die junction falls back to 150 °C or below, ending the condition of PWR_DIE_HOT (R368). -/
  | powerDieCool (k : Fin 4)
  /-- An analog output's current limit stops acting and ANA_OUTn_STAT.SHORT returns to 0 (R414). -/
  | outShortEnd (n : Fin 4)
  /-- An aux output's current limit stops acting and AUXn_STATE.SHORT returns to 0 (R458). -/
  | auxShortEnd (n : Fin 4)
  /-- The quanta requested by an honoured PAUSE run out and the port resumes its non-audio transmission (R309). -/
  | pauseEnd (port : Fin 3)
  /-- Every 100 ms a port's LOAD is updated from its wire occupancy averaged over the last second (R304). -/
  | portLoadUpdate (port : Fin 3)
  /-- Every 10 ms the power-control die recomputes the derating factor k from the baseplate temperature and scales the boost input limits (R603). -/
  | thermalDeratingUpdate (tc : Int)
  /-- The boot loader finishes verifying a firmware copy and the service cores start, or neither copy verifies and only the debug port answers (R515). -/
  | firmwareBootDone (copyA : Bool) (copyB : Bool) (version : Word) (ucode : Fin 65536) (bands : List (List Word))
  /-- The DAW instruction is loaded into the debug instruction register, selecting the 68-bit debug access window and ending any EXTEST, CLAMP or HIGHZ (R521). -/
  | dawInstruction
  deriving DecidableEq, Repr

end Sys2Proof
end

