-- ==== Sys2Proof/Config.lean ====
section
/-! DEFINITION. What an implementation fixes and the spec leaves open: constants with no body, so that no proof can see
a value of them. Each is a free value of the assumption log. -/
namespace Sys2Proof.Config
/-- The engine cycle at which an event that is not tied to the schedule happens, by event number; the model reduces it
modulo the cycles of a tick (free value, log entry 3). -/
opaque asyncCycle : Nat → Nat
/-- KS_OFFSET for an offset in ns that its 32 bits do not hold (R48; free value, log entry 21). -/
opaque wideOffset : Int → Word
/-- A byte of a gPTP message that the options of R269 do not give, by event and offset (free value, log entry 42). -/
opaque gptpByte : Nat → Nat → Byte
/-- The number that codes a kind of fleet-log record; the spec lists the kinds without numbers (free value, log entry 4). -/
opaque logKind : Nat → Nat
/-- The bytes of a fleet-log record's data that the spec gives no meaning, by record index and byte (free value, log
entry 4). -/
opaque logData : Nat → Nat → Byte
/-- A word of a stone's local memory that the layout of a placed instance, which the spec does not give, decides; by
event number and key (free value, log entry 5). -/
opaque localByte : Nat → Nat → Byte
/-- Whether a write into an instance's local memory reaches a byte of it: event, kind of write (0 its run, 1 a parameter
write, 2 a bank copy, 3 a stream line, 4 a load of taps), offset (R132; free value, log entry 5). -/
opaque localWrites : Nat → Nat → Nat → Bool
/-- y_dB − x_dB of R179 in dB, by MODE, at a detector level of 0, where 20·log₁₀ has no value (free value, log entry 12). -/
opaque silentGain : Nat → Rat
/-- Output of a sample-rate converter by instance, tick and channel; the filter is not stated (free value, log entry 13). -/
opaque srcOut : Nat → Nat → Nat → F32
/-- The fast-transform part of a partitioned FIR by microcode release, ticks since activation modulo 256, taps and input
samples, newest first, within the bound of R612 (free value, log entry 13). -/
opaque pfirTail : Word → Nat → List F32 → List F32 → F32
/-- A message sample converted to another base rate: message, rate, frame, channel (R206; free value, log entry 13). -/
opaque msgResample : Nat → Nat → Nat → Nat → F32
/-- Taps of the interpolator of R336 by base rate and distance from the middle of its response in periods of 6.144 MHz; the spec
gives its delay and its linear phase, not its taps (free value, log entry 16). -/
opaque interpTap : Nat → Nat → Rat
/-- Whether coefficient k of R339 is rounded up in magnitude to binary32, from L in nH and C in nF; no rounding is stated (free
value, log entry 16). -/
opaque coefUp : Nat → Nat → Nat → Bool
/-- RA where PWR_CHn_FILT.C_NF is 0 and R339 divides by it, from L in nH (free value, log entry 16). -/
opaque openRa : Nat → F32
/-- The value that the loop takes a coefficient for whose word is a NaN or an infinity, by event and coefficient (R340; free value,
log entry 16). -/
opaque wildCoef : Nat → Nat → Rat
/-- Where in its sweep the spread stands at tick 0, in sweeps (R355; free value, log entry 16). -/
opaque sweepPhase : Rat
/-- Whether the input limit of a converter acts in a tick whose UP frame is missing, so that no measurement reaches the model, by
event and converter (R373; free value, log entry 17). -/
opaque limitActs : Nat → Nat → Bool
/-- The modulation index that u / vrail gives when the sensed rail reads 0 (R338; free value, log entry 16). -/
opaque zeroRail : Nat → Rat
/-- Coefficients b0, b1, b2, a1, a2 of the second-order band-pass filter of R385 by base rate, RFREQ and index; its discrete form is
not stated (free value, log entry 17). -/
opaque bandCoef : Nat → Nat → Nat → Rat
/-- The samples of a measurement after the filter of a band, by base rate and band; band filters are stated by class only (R398; free
value, log entry 17). -/
opaque acouBand : Nat → Nat → List Int → List Rat
/-- A level in 0.1 dBFS whose mean square is 0, by event and band (R398; free value, log entry 17). -/
opaque acouSilent : Nat → Nat → Int
/-- A word of the model state of R388 in the save set of D55, by event and index; the spec states no format for it (free value, log
entry 17). -/
opaque modelWord : Nat → Nat → Word
/-- Phase of an impedance whose magnitude is not finite (R394; free value, log entry 17). -/
opaque zFree : Nat → Rat
/-- The 24-bit sample that an outgoing AAF stream carries in a channel that no endpoint feeds; not stated (free value, log
entry 20). -/
opaque aafPad : Nat → Nat
/-- Bytes of an IEEE 1722.1 answer that the spec gives no value: field (1 entity capabilities, 2 talker capabilities, 3
listener capabilities, 4 further) and event (free value, log entry 20). -/
opaque avdecc : Nat → Nat → Nat
/-- The contents of an IEEE 1722.1 descriptor, by type and index (free value, log entry 20). -/
opaque descriptor : Nat → Nat → List Byte
/-- What a host reads from a word of stone memory or tick SRAM with an uncorrectable error; R532 states only what the
engine does with it (free value, log entry 26). -/
opaque badRead : Nat → Word
/-- SEQ of an EVENT, which answers no request (free value, log entry 27). -/
opaque eventSeq : Nat → Nat
/-- Whether a firmware copy verifies against Itwald's signing key, whose value and signature layout the source leaves out
(R501; free value of the bytes, log entry 28). -/
opaque fwVerifies : List Byte → Bool
/-- The slot status word of a firmware copy: copy, and event (R500; free value, log entry 28). -/
opaque fwStatus : Nat → Nat → Word
/-- The largest cable delay in ns, the slowest speed code modulo 3, and whether every mode is corbel, over the ring's segments
that lie beyond this node's ports, by event; the spec does not say how a node learns them (R238; free value, log entry 72). -/
opaque ringCable : Nat → Nat
opaque ringSpeed : Nat → Nat
opaque ringCorbel : Nat → Bool
/-- Speed code, modulo 3, of a ring segment beyond this node's ports, by event and segment; the spec does not say how the
coordinator learns it (R265; free value, log entry 72). -/
opaque segSpeed : Nat → Nat → Nat
/-- Bits 63 to 48 of the tuple of a node from which none has been read, by MAC address, taken modulo 2^12 (R275; free value, log
entry 41). -/
opaque unheard : Nat → Nat
/-- Whether the monitor of the high-voltage side is the one that found a fault of the barrier, by event; the row does not say (R532,
R545; free value, log entry 22). -/
opaque isoSide : Nat → Bool
/-- The ring-time servo of the media PLL at a Sync: its steering in parts per 10¹² from its bandwidth, the offset measured in ns
and its steering so far; the spec gives its bandwidth and no law (R468, log entry 75). -/
opaque servo : Nat → Int → Int → Int
/-- The ring's rate against the media PLL's nominal at a tick, in parts per 10¹²; nothing in the module shows it (R471, log
entry 75). -/
opaque ringPpt : Nat → Int
/-- Of a frame received with a wrong FCS: bit 0, whether it had an odd number of nibbles; bit 1, whether it had a coding error (R324;
free value, log entry 78). -/
opaque lineError : Nat → Nat
/-- The random number from which NONCE is drawn at each reset (R247; free value, log entry 14). -/
opaque nonce : Nat → Nat
end Sys2Proof.Config
end

