-- ==== Sys2Proof/Machine/Bits.lean ====
section
/-! DEFINITION. Bit fields, byte orders, saturating counters and the canonical key-value lists that every layer uses. -/
namespace Sys2Proof.Machine

/-- Bits [hi:lo] of a number. -/
def bitsOf (w hi lo : Nat) : Nat := w / 2 ^ lo % 2 ^ (hi + 1 - lo)
/-- A number with its bits [hi:lo] replaced by `v`, reduced to the field's width. -/
def putBits (w hi lo v : Nat) : Nat :=
  w % 2 ^ lo + (v % 2 ^ (hi + 1 - lo)) * 2 ^ lo + w / 2 ^ (hi + 1) * 2 ^ (hi + 1)
/-- Bit `b` of a number. -/
def bit (w b : Nat) : Bool := w / 2 ^ b % 2 == 1
/-- 1 for true, 0 for false. -/
def b2n (b : Bool) : Nat := if b then 1 else 0
/-- The little-endian bytes of a number, `n` of them. -/
def leBytes : Nat → Nat → List Byte
  | 0, _ => []
  | n + 1, v => BitVec.ofNat 8 v :: leBytes n (v / 256)
/-- The value of little-endian bytes. -/
def leVal : List Byte → Nat
  | [] => 0
  | b :: bs => b.toNat + 256 * leVal bs
/-- The big-endian bytes of a number, `n` of them. -/
def beBytes (n v : Nat) : List Byte := (leBytes n v).reverse
/-- The value of big-endian bytes. -/
def beVal (bs : List Byte) : Nat := leVal bs.reverse
/-- `n` bytes of a byte list from offset `o`; bytes past the end are missing. -/
def slice (bs : List Byte) (o n : Nat) : List Byte := (bs.drop o).take n
/-- The little-endian value of `n` bytes at offset `o`. -/
def leAt (bs : List Byte) (o n : Nat) : Nat := leVal (slice bs o n)
/-- The big-endian value of `n` bytes at offset `o`. -/
def beAt (bs : List Byte) (o n : Nat) : Nat := beVal (slice bs o n)
/-- The two's-complement reading of an `n`-bit field. -/
def sext (n v : Nat) : Int := if bit v (n - 1) then (v % 2 ^ n : Nat) - (2 ^ n : Nat) else (v % 2 ^ n : Nat)
/-- The `n`-bit two's-complement pattern of an integer. -/
def toTwos (n : Nat) (i : Int) : Nat := (i % (2 ^ n : Nat)).toNat
/-- An integer limited to a range. -/
def clampI (lo hi i : Int) : Int := if i < lo then lo else if hi < i then hi else i
/-- A counter that holds at its largest value. -/
def satInc (mx v : Nat) : Nat := if v < mx then v + 1 else v
/-- A counter that holds at its largest value, advanced by `k`. -/
def satAdd (mx v k : Nat) : Nat := if v + k < mx then v + k else mx
/-- The smallest integer not below `a / b`. -/
def ceilDiv (a b : Nat) : Nat := (a + b - 1) / b
/-- Element `i` of a list, or a default. -/
def nth {α : Type} (l : List α) (i : Nat) (d : α) : α := l.getD i d
/-- A list with element `i` replaced. -/
def setNth {α : Type} (l : List α) (i : Nat) (v : α) : List α := l.set i v
/-- A list with element `i` changed. -/
def modNth {α : Type} (l : List α) (i : Nat) (f : α → α) : List α :=
  match l[i]? with
  | some a => l.set i (f a)
  | none => l
/-- Indexed elements of a list. -/
def indexed {α : Type} (l : List α) : List (Nat × α) := (List.range l.length).zip l
/-- The 8-bit, 32-bit, … mask of the numbers of a list below `n`. -/
def maskOf (l : List Nat) (n : Nat) : Nat := ((List.range n).filter (fun i => l.contains i)).foldl (fun a i => a + 2 ^ i) 0
/-- The numbers below `n` whose bits are set in a mask. -/
def bitsSet (m n : Nat) : List Nat := (List.range n).filter (fun i => bit m i)

/-- A canonical key-value list: keys strictly rising, no entry equal to its key's default `d`. -/
abbrev KMap (α : Type) := List (Nat × α)
/-- The value at a key: the listed one, or the default. -/
def KMap.get {α : Type} (d : Nat → α) : KMap α → Nat → α
  | [], k => d k
  | (k', v) :: m, k => if k' = k then v else if k < k' then d k else KMap.get d m k
/-- A write to a key; writing the default removes the entry. -/
def KMap.put {α : Type} [DecidableEq α] (d : Nat → α) : KMap α → Nat → α → KMap α
  | [], k, v => if v = d k then [] else [(k, v)]
  | (k', v') :: m, k, v =>
    if k' = k then (if v = d k then m else (k, v) :: m)
    else if k < k' then (if v = d k then (k', v') :: m else (k, v) :: (k', v') :: m)
    else (k', v') :: KMap.put d m k v
/-- The canonical form, from a lower bound on the keys. -/
def KMap.wfFrom {α : Type} [DecidableEq α] (d : Nat → α) : Nat → KMap α → Bool
  | _, [] => true
  | lo, (k, v) :: m => decide (lo ≤ k) && decide (v ≠ d k) && KMap.wfFrom d (k + 1) m
/-- The canonical form. -/
def KMap.wf {α : Type} [DecidableEq α] (d : Nat → α) (m : KMap α) : Bool := KMap.wfFrom d 0 m
/-- The list without the keys that a test names. -/
def KMap.dropKeys {α : Type} (p : Nat → Bool) (m : KMap α) : KMap α := m.filter (fun e => !p e.1)

end Sys2Proof.Machine
end

