-- ==== Sys2Proof/Machine/Num.lean ====
section
/-! DEFINITION. The numbers inside the engine: binary32 under R134, EXT48 under R135, the port limit of R136, the
endpoint conversions of R137 and R138 and the grout values of R65. Values are computed exactly over the rationals and
rounded once where the spec rounds. -/
namespace Sys2Proof.Machine

/-- 2 to an integer power, exactly. -/
def pow2 (e : Int) : Rat := if 0 ≤ e then ((2 ^ e.toNat : Nat) : Rat) else 1 / ((2 ^ (-e).toNat : Nat) : Rat)
/-- The magnitude of a rational. -/
def ratAbs (q : Rat) : Rat := if q < 0 then -q else q
/-- The greatest integer not above a rational. -/
def ratFloor (q : Rat) : Int := q.num / (q.den : Int)
/-- Nearest integer, ties to even. -/
def ratRne (q : Rat) : Int :=
  let f := ratFloor q
  let r := q - (f : Rat)
  if r < 1 / 2 then f else if 1 / 2 < r then f + 1 else if f % 2 = 0 then f else f + 1
/-- Rounding toward zero. -/
def ratTrunc (q : Rat) : Int := if q < 0 then -ratFloor (-q) else ratFloor q
/-- The exponent `e` with 2^e ≤ q < 2^(e+1), for q > 0. -/
def ratExp (q : Rat) : Int :=
  let e : Int := (Nat.log2 q.num.natAbs : Int) - (Nat.log2 q.den : Int)
  if pow2 e ≤ q then (if pow2 (e + 1) ≤ q then e + 1 else e) else e - 1

/-- What a pattern stands for: a NaN, an infinity, or a finite value; a zero keeps its sign. -/
inductive FVal where
  | nan
  | inf (neg : Bool)
  | fin (neg : Bool) (q : Rat)
  deriving DecidableEq, Repr

/-- The finite value of a rational; zero is +0. -/
def FVal.ofRat (q : Rat) : FVal := .fin (decide (q < 0)) q
/-- The sign of a value. -/
def FVal.neg : FVal → Bool
  | .nan => false
  | .inf n => n
  | .fin n _ => n
/-- The rational of a finite value; 0 for a NaN or an infinity. -/
def FVal.rat : FVal → Rat
  | .fin _ q => q
  | _ => 0

/-- The value of a binary32 pattern; a subnormal counts as zero of its sign (R134). -/
def f32Val (w : F32) : FVal :=
  let n := w.toNat
  let neg := bit n 31
  let e := bitsOf n 30 23
  let f := bitsOf n 22 0
  let sg : Rat := if neg then -1 else 1
  if e = 255 then (if f = 0 then .inf neg else .nan)
  else if e = 0 then .fin neg 0
  else .fin neg (sg * ((2 ^ 23 + f : Nat) : Rat) * pow2 ((e : Int) - 150))

/-- The pattern of a magnitude whose rounded significand is `m` (24 bits) at exponent `e`. -/
def f32Pack (neg : Bool) (m : Nat) (e : Int) : F32 :=
  BitVec.ofNat 32 (b2n neg * 2 ^ 31 + (e + 127).toNat * 2 ^ 23 + (m - 2 ^ 23))
/-- The canonical NaN pattern; the spec names none (log entry 11). -/
def f32Nan : F32 := 0x7FC00000#32
/-- Rounding to binary32, nearest with ties to even; a result below the normal range is zero of its sign, a result
above the format is an infinity (R134). -/
def f32Round : FVal → F32
  | .nan => f32Nan
  | .inf n => if n then 0xFF800000#32 else 0x7F800000#32
  | .fin n q =>
    if q = 0 then (if n then 0x80000000#32 else 0#32)
    else
      let a := ratAbs q
      let neg := decide (q < 0)
      let e := ratExp a
      let m := (ratRne (a * pow2 (23 - e))).toNat
      let (m, e) := if m = 2 ^ 24 then (2 ^ 23, e + 1) else (m, e)
      if e < -126 then (if neg then 0x80000000#32 else 0#32)
      else if 127 < e then (if neg then 0xFF800000#32 else 0x7F800000#32)
      else f32Pack neg m e
/-- Rounding toward zero to binary32, for grout (R65). -/
def f32Trunc : FVal → F32
  | .fin n q =>
    if q = 0 then (if n then 0x80000000#32 else 0#32)
    else
      let a := ratAbs q
      let neg := decide (q < 0)
      let e := ratExp a
      let m := (ratFloor (a * pow2 (23 - e))).toNat
      if e < -126 then (if neg then 0x80000000#32 else 0#32) else f32Pack neg m e
  | v => f32Round v
/-- The binary32 nearest to a rational. -/
def f32OfRat (q : Rat) : F32 := f32Round (FVal.ofRat q)
/-- The rational value of a binary32 pattern; 0 for a NaN or an infinity. -/
def f32Rat (w : F32) : Rat := (f32Val w).rat
/-- The exact value of a finite binary32 pattern, subnormals included; none for a NaN or an infinity. -/
def f32Exact (w : F32) : Option Rat :=
  let n := w.toNat
  let e := bitsOf n 30 23
  let sg : Rat := if bit n 31 then -1 else 1
  if e = 255 then none
  else if e = 0 then some (sg * ((bitsOf n 22 0 : Nat) : Rat) * pow2 (-149))
  else some (sg * ((2 ^ 23 + bitsOf n 22 0 : Nat) : Rat) * pow2 ((e : Int) - 150))
/-- The binary32 next above a rational in magnitude, or next below; the rational itself where the format holds it. -/
def f32Next (up : Bool) (q : Rat) : F32 :=
  let w := f32Trunc (FVal.ofRat q)
  if up && f32Rat w ≠ q then w + 1#32 else w
/-- The binary32 of an integer. -/
def f32OfInt (i : Int) : F32 := f32OfRat (i : Rat)

/-- The exact product of two values. -/
def fvMul (a b : FVal) : FVal :=
  let n := a.neg != b.neg
  match a, b with
  | .nan, _ => .nan
  | _, .nan => .nan
  | .inf _, .fin _ q => if q = 0 then .nan else .inf n
  | .fin _ q, .inf _ => if q = 0 then .nan else .inf n
  | .inf _, .inf _ => .inf n
  | .fin _ p, .fin _ q => .fin n (p * q)
/-- The exact sum of two values; a zero sum of opposite signs is +0. -/
def fvAdd (a b : FVal) : FVal :=
  match a, b with
  | .nan, _ => .nan
  | _, .nan => .nan
  | .inf m, .inf n => if m = n then .inf m else .nan
  | .inf m, .fin _ _ => .inf m
  | .fin _ _, .inf n => .inf n
  | .fin m p, .fin n q =>
    let r := p + q
    if r = 0 then .fin (m && n) 0 else .fin (decide (r < 0)) r
/-- The value with its sign turned. -/
def fvNeg : FVal → FVal
  | .nan => .nan
  | .inf n => .inf (!n)
  | .fin n q => .fin (!n) (-q)
/-- The magnitude of a value. -/
def fvAbs : FVal → FVal
  | .nan => .nan
  | .inf _ => .inf false
  | .fin _ q => .fin false (ratAbs q)
/-- binary32 product, rounded once. -/
def f32Mul (a b : F32) : F32 := f32Round (fvMul (f32Val a) (f32Val b))
/-- binary32 sum, rounded once. -/
def f32Add (a b : F32) : F32 := f32Round (fvAdd (f32Val a) (f32Val b))
/-- binary32 difference, rounded once. -/
def f32Sub (a b : F32) : F32 := f32Round (fvAdd (f32Val a) (fvNeg (f32Val b)))
/-- Fused multiply-add a·b + c, rounded once (R134). -/
def f32Fma (a b c : F32) : F32 := f32Round (fvAdd (fvMul (f32Val a) (f32Val b)) (f32Val c))
/-- The magnitude of a binary32. -/
def f32Abs (a : F32) : F32 := a &&& 0x7FFFFFFF#32
/-- Whether a binary32 value is a NaN. -/
def f32IsNan (a : F32) : Bool := decide (f32Val a = .nan)
/-- a < b on finite and infinite values; false with a NaN. -/
def f32Lt (a b : F32) : Bool :=
  match f32Val a, f32Val b with
  | .nan, _ => false
  | _, .nan => false
  | .inf m, .inf n => m && !n
  | .inf m, .fin _ _ => m
  | .fin _ _, .inf n => !n
  | .fin _ p, .fin _ q => decide (p < q)
/-- The larger of two magnitudes. -/
def f32MaxAbs (a b : F32) : F32 := if f32Lt (f32Abs a) (f32Abs b) then f32Abs b else f32Abs a
/-- The square root of a positive rational to 60 significant bits; one that is not exact lies strictly between two of
them, so that it rounds to a shorter format as the root itself does. -/
def sqrtRat (q : Rat) : Rat :=
  let k : Int := 2 * ((120 - ratExp q) / 2)
  let z := (ratFloor (q * pow2 k)).toNat
  let r := Nat.sqrt z
  let st : Rat := if r * r = z ∧ ratFloor (q * pow2 k) = q * pow2 k then 0 else 1 / 2
  ((r : Rat) + st) * pow2 (-(k / 2))
/-- The square root of a non-negative binary32, rounded to nearest (R134). -/
def f32Sqrt (a : F32) : F32 :=
  match f32Val a with
  | .fin n q => if q ≤ 0 then (if n && decide (q < 0) then f32Nan else a) else f32OfRat (sqrtRat q)
  | v => if v.neg then f32Nan else a

/-! ## Elementary functions

In fixed point with 120 fraction bits; a value is rounded to the format it is kept in once (log entry 12). -/

/-- π · 2^120, rounded down. -/
def piFix : Int := 4175892906503776358826876457663557747
/-- Terms of the alternating power series of sine or cosine in 120-bit fixed point: term, argument squared, index. -/
def trigSeries : Nat → Int → Int → Int → Int
  | 0, _, _, _ => 0
  | n + 1, t, x2, k => t + trigSeries n (-(t * x2 / 2 ^ 120) / (k * (k + 1))) x2 (k + 2)
/-- sin x, or cos x, for 0 ≤ x ≤ π / 2 in fixed point. -/
def trigFix (x : Int) (cos : Bool) : Int :=
  let x2 := x * x / 2 ^ 120
  if cos then trigSeries 20 (2 ^ 120) x2 1 else trigSeries 20 x x2 2
/-- tan(π·f) for 0 < f < 1/2. -/
def tanPi (f : Rat) : Rat :=
  let x := ratFloor ((piFix : Rat) * f)
  ((trigFix x false : Int) : Rat) / ((trigFix x true : Int) : Rat)
/-- Terms of the power series of artanh in fixed point: power, argument squared, index. -/
def atanhSeries : Nat → Int → Int → Int → Int
  | 0, _, _, _ => 0
  | n + 1, t, y2, k => t / k + atanhSeries n (t * y2 / 2 ^ 120) y2 (k + 2)
/-- 2·artanh y in fixed point, for y given in fixed point. -/
def atanhFix2 (y : Int) : Int := 2 * atanhSeries 40 y (y * y / 2 ^ 120) 1
/-- ln 2 in fixed point. -/
def ln2Fix : Int := atanhFix2 (2 ^ 120 / 3)
/-- ln q in fixed point, for q > 0: the exponent of q and 2·artanh((m − 1) / (m + 1)) of its significand. -/
def lnFix (q : Rat) : Int :=
  let e := ratExp q
  let m := q * pow2 (-e)
  e * ln2Fix + atanhFix2 (ratFloor ((m - 1) / (m + 1) * pow2 120))
/-- Terms of the power series of the exponential in fixed point: term, argument, index. -/
def expSeries : Nat → Int → Int → Int → Int
  | 0, _, _, _ => 0
  | n + 1, t, x, k => t + expSeries n (t * x / 2 ^ 120 / k) x (k + 1)
/-- The exponential of a rational. -/
def expRat (q : Rat) : Rat :=
  let x := ratFloor (q * pow2 120)
  ((expSeries 36 (2 ^ 120) (x % ln2Fix) 1 : Int) : Rat) * pow2 (x / ln2Fix - 120)
/-- 20·log₁₀ q, for q > 0. -/
def dbOf (q : Rat) : Rat := 20 * ((lnFix q : Int) : Rat) / ((lnFix 10 : Int) : Rat)
/-- 10^(d / 20). -/
def undb (d : Rat) : Rat := expRat (d * ((lnFix 10 : Int) : Rat) * pow2 (-120) / 20)
/-- The one-pole coefficient exp(−1 / n) of R179 as binary32. -/
def decay (n : Nat) : F32 := f32OfRat (expRat (-1 / (n : Rat)))
/-- Coefficients b0, b1, b2, a1, a2 of a section of a crossover split (R181) at a frequency and rate in hertz: shape 0
low-pass, 1 high-pass, 2 all-pass. A Butterworth section under the bilinear transform with prewarping; two of one shape in
series are one side of the fourth-order Linkwitz–Riley pair, and the sum of the two sides is the all-pass. -/
def xoverSection (f fs : Rat) (shape : Nat) : List F32 :=
  let k := tanPi (f / fs)
  let r := sqrtRat 2 * k
  let n := 1 + r + k * k
  let a1 := 2 * (k * k - 1) / n
  let a2 := (1 - r + k * k) / n
  (match shape with
    | 0 => [k * k / n, 2 * k * k / n, k * k / n, a1, a2]
    | 1 => [1 / n, -2 / n, 1 / n, a1, a2]
    | _ => [a2, a1, 1, a1, a2]).map f32OfRat
/-- Coefficients b0, b1, a1 of section k of the pink filter (R456) at f0 and the rate it runs at: (1 + s/ωz) / (1 + s/ωp)
with the pole at f0·4^k, the zero at 2·f0·4^k, each prewarped. -/
def pinkSection (f0 fsu : Rat) (k : Nat) : List F32 :=
  let p := tanPi (f0 * ((4 ^ k : Nat) : Rat) / fsu)
  let z := tanPi (2 * f0 * ((4 ^ k : Nat) : Rat) / fsu)
  let n := 1 + 1 / p
  [(1 + 1 / z) / n, (1 - 1 / z) / n, (1 - 1 / p) / n].map f32OfRat
/-- The six sections of the pink filter. -/
def pinkSections (f0 fsu : Rat) : List (List F32) := (List.range 6).map (pinkSection f0 fsu)

/-! ## EXT48 and the limits at ports and endpoints -/

/-- The value of an EXT48 word: exponent 0 is zero, every other exponent is finite (R135). -/
def extVal (w : Ext48) : FVal :=
  let n := w.toNat
  let neg := bit n 47
  let e := bitsOf n 46 39
  let f := bitsOf n 38 0
  let sg : Rat := if neg then -1 else 1
  if e = 0 then .fin neg 0 else .fin neg (sg * ((2 ^ 39 + f : Nat) : Rat) * pow2 ((e : Int) - 166))
/-- The largest EXT48 magnitude of a sign. -/
def extMax (neg : Bool) : Ext48 := BitVec.ofNat 48 (b2n neg * 2 ^ 47 + (2 ^ 47 - 1))
/-- Rounding to EXT48 with the saturation and the flush of R135; a NaN gives +0 and counts. -/
def extRound : FVal → Ext48 × Nat
  | .nan => (0#48, 1)
  | .inf n => (extMax n, 0)
  | .fin n q =>
    if q = 0 then (BitVec.ofNat 48 (b2n n * 2 ^ 47), 0)
    else
      let a := ratAbs q
      let neg := decide (q < 0)
      let e := ratExp a
      let m := (ratRne (a * pow2 (39 - e))).toNat
      let (m, e) := if m = 2 ^ 40 then (2 ^ 39, e + 1) else (m, e)
      if e < -126 then (BitVec.ofNat 48 (b2n neg * 2 ^ 47), 0)
      else if 128 < e then (extMax neg, 0)
      else (BitVec.ofNat 48 (b2n neg * 2 ^ 47 + (e + 127).toNat * 2 ^ 39 + (m - 2 ^ 39)), 0)
/-- A multiply-add of two values into an EXT48 accumulator: exact product, one rounding (R135). -/
def extMac (acc : Ext48) (a b : FVal) : Ext48 × Nat := extRound (fvAdd (extVal acc) (fvMul a b))
/-- The sum Σ aᵢ·bᵢ over the pairs in order, in one EXT48 accumulator (R612); the second part counts NaNs. -/
def extSum (ps : List (FVal × FVal)) : Ext48 × Nat :=
  ps.foldl (fun (acc : Ext48 × Nat) p => let r := extMac acc.1 p.1 p.2; (r.1, acc.2 + r.2)) (0#48, 0)
/-- An EXT48 word rounded to binary32. -/
def extF32 (w : Ext48) : F32 := f32Round (extVal w)

/-- The limit of every value written to a port (R136): ±256, a NaN becomes +0 and counts. -/
def portLimit (v : FVal) : F32 × Nat :=
  match v with
  | .nan => (0#32, 1)
  | .inf n => (if n then 0xC3800000#32 else 0x43800000#32, 0)
  | .fin n q =>
    if 256 < ratAbs q then (if n then 0xC3800000#32 else 0x43800000#32, 0) else (f32Round (.fin n q), 0)
/-- The port limit of a binary32. -/
def portF32 (w : F32) : F32 × Nat := portLimit (f32Val w)

/-- A 24-bit two's-complement sample as the binary32 of its tick I/O word (R137). -/
def sampleToF32 (s : Int) : F32 := f32OfRat ((s : Rat) / ((2 ^ 23 : Nat) : Rat))
/-- A 32-bit sample, scaled by its upper 24 bits' weight and rounded (R137). -/
def sample32ToF32 (s : Int) : F32 := f32OfRat ((s : Rat) / ((2 ^ 31 : Nat) : Rat))
/-- The 24-bit sample of an output endpoint: limited to −1 … 1 − 2⁻²³, scaled and rounded (R138). -/
def f32ToSample (w : F32) : Int :=
  match f32Val w with
  | .nan => 0
  | .inf n => if n then -(2 ^ 23) else 2 ^ 23 - 1
  | .fin _ q =>
    if q < -1 then -(2 ^ 23) else if 1 - pow2 (-23) < q then 2 ^ 23 - 1 else ratRne (q * ((2 ^ 23 : Nat) : Rat))

/-- The grout factor of R65 for the j-th missing tick: 1 at j = 1, then (33 − j) / 32, then 0. -/
def groutFactor (j : Nat) : Rat := if j ≤ 1 then 1 else if j ≤ 33 then ((33 - j : Nat) : Rat) / 32 else 0
/-- The grout value of a binary32 value (R65). -/
def groutF32 (s : F32) (j : Nat) : F32 :=
  if j ≤ 1 then s else f32Trunc (fvMul (f32Val s) (.fin false (groutFactor j)))
/-- The grout value of an integer sample (R65). -/
def groutInt (s : Int) (j : Nat) : Int := if j ≤ 1 then s else ratTrunc ((s : Rat) * groutFactor j)

/-- The linear ramp value g0 + (g1 − g0)·k / n, exact and rounded once to binary32 (R174). -/
def rampF32 (g0 g1 : F32) (k n : Nat) : F32 :=
  f32OfRat (f32Rat g0 + (f32Rat g1 - f32Rat g0) * (k : Rat) / (n : Rat))

end Sys2Proof.Machine
end

