-- ==== Sys2Proof/Machine/RegMap.lean ====
section
/-! DEFINITION. The register map: every register of the spec's register lists with its address, its array strides, its
reset word, the tenancies that may write it and its writable fields; and one field constant per named field. -/
namespace Sys2Proof.Machine
/-- A field of a register: the address of the register (the address of element 0 of an array), the strides of its
(up to two) array indexes, the field's bit range, the register's reset word, and whether each tenancy has its own copy. -/
structure Fld where
  addr : Nat
  s1 : Nat
  s2 : Nat
  hi : Nat
  lo : Nat
  reset : Nat
  own : Bool
  deriving DecidableEq, Repr
/-- The field types of R10 that a write can touch. -/
inductive FldType where
  | rw | rc | w1c | wo | wa
  deriving DecidableEq, Repr
/-- Who may write a register: the line 'Writable by' above its table (R9, R503). -/
inductive Writers where
  | nobody | owner | every | msg | avdecc | semOwner | debug | dbgCfg
  deriving DecidableEq, Repr
/-- One row of the register map. `n1`, `n2` are the sizes of the array's dimensions, `f1` the first index of the
first dimension. Reserved and read-only bits are those that `fields` does not list. -/
structure RegRow where
  addr : Nat
  s1 : Nat
  f1 : Nat
  n1 : Nat
  s2 : Nat
  n2 : Nat
  reset : Nat
  writers : Writers
  own : Bool
  flash : Bool
  fields : List (FldType × Nat × Nat)
  deriving DecidableEq, Repr

end Sys2Proof.Machine
namespace Sys2Proof.Machine.Reg
open Sys2Proof.Machine
/-- IDENT_ID (01_architecture.md, line 154). -/
def IDENT_ID : Fld := ⟨0x0, 0x0, 0x0, 31, 0, 0xB08128, false⟩
def IDENT_ID_REV : Fld := ⟨0x0, 0x0, 0x0, 27, 16, 0xB08128, false⟩
def IDENT_ID_PART : Fld := ⟨0x0, 0x0, 0x0, 15, 0, 0xB08128, false⟩
/-- IDENT_FW (01_architecture.md, line 163). -/
def IDENT_FW : Fld := ⟨0x4, 0x0, 0x0, 31, 0, 0x0, false⟩
def IDENT_FW_COPY : Fld := ⟨0x4, 0x0, 0x0, 24, 24, 0x0, false⟩
def IDENT_FW_MAJOR : Fld := ⟨0x4, 0x0, 0x0, 23, 16, 0x0, false⟩
def IDENT_FW_MINOR : Fld := ⟨0x4, 0x0, 0x0, 15, 8, 0x0, false⟩
def IDENT_FW_PATCH : Fld := ⟨0x4, 0x0, 0x0, 7, 0, 0x0, false⟩
/-- IDENT_SERIAL_LO (01_architecture.md, line 174). -/
def IDENT_SERIAL_LO : Fld := ⟨0x8, 0x0, 0x0, 31, 0, 0x0, false⟩
/-- IDENT_SERIAL_HI (01_architecture.md, line 174). -/
def IDENT_SERIAL_HI : Fld := ⟨0xC, 0x0, 0x0, 31, 0, 0x0, false⟩
/-- IDENT_MAC_LO (01_architecture.md, line 181). -/
def IDENT_MAC_LO : Fld := ⟨0x10, 0x0, 0x0, 31, 0, 0x0, false⟩
/-- IDENT_MAC_HI (01_architecture.md, line 181). -/
def IDENT_MAC_HI : Fld := ⟨0x14, 0x0, 0x0, 31, 0, 0x0, false⟩
def IDENT_MAC_HI_MAC : Fld := ⟨0x14, 0x0, 0x0, 15, 0, 0x0, false⟩
/-- IDENT_HVID (01_architecture.md, line 190). -/
def IDENT_HVID : Fld := ⟨0x18, 0x0, 0x0, 31, 0, 0x0, false⟩
def IDENT_HVID_VALID : Fld := ⟨0x18, 0x0, 0x0, 16, 16, 0x0, false⟩
def IDENT_HVID_HVREV : Fld := ⟨0x18, 0x0, 0x0, 15, 0, 0x0, false⟩
/-- KS_STATUS (02_keystone.md, line 211). -/
def KS_STATUS : Fld := ⟨0x10000, 0x0, 0x0, 31, 0, 0x11, false⟩
def KS_STATUS_SLEWING : Fld := ⟨0x10000, 0x0, 0x0, 7, 7, 0x11, false⟩
def KS_STATUS_GM : Fld := ⟨0x10000, 0x0, 0x0, 6, 6, 0x11, false⟩
def KS_STATUS_LOCK : Fld := ⟨0x10000, 0x0, 0x0, 5, 5, 0x11, false⟩
def KS_STATUS_FREE : Fld := ⟨0x10000, 0x0, 0x0, 4, 4, 0x11, false⟩
def KS_STATUS_RATE : Fld := ⟨0x10000, 0x0, 0x0, 1, 0, 0x11, false⟩
/-- KS_CTRL (02_keystone.md, line 224). -/
def KS_CTRL : Fld := ⟨0x10004, 0x0, 0x0, 31, 0, 0x0, false⟩
def KS_CTRL_OVR_CLR : Fld := ⟨0x10004, 0x0, 0x0, 1, 1, 0x0, false⟩
def KS_CTRL_CAPTURE : Fld := ⟨0x10004, 0x0, 0x0, 0, 0, 0x0, false⟩
/-- KS_COUNT_LO (02_keystone.md, line 233). -/
def KS_COUNT_LO : Fld := ⟨0x10008, 0x0, 0x0, 31, 0, 0x0, false⟩
/-- KS_COUNT_HI (02_keystone.md, line 233). -/
def KS_COUNT_HI : Fld := ⟨0x1000C, 0x0, 0x0, 31, 0, 0x0, false⟩
/-- KS_CAP_LO (02_keystone.md, line 240). -/
def KS_CAP_LO : Fld := ⟨0x10010, 0x0, 0x0, 31, 0, 0x0, false⟩
/-- KS_CAP_HI (02_keystone.md, line 240). -/
def KS_CAP_HI : Fld := ⟨0x10014, 0x0, 0x0, 31, 0, 0x0, false⟩
/-- KS_CAP_CYCLE (02_keystone.md, line 247). -/
def KS_CAP_CYCLE : Fld := ⟨0x10018, 0x0, 0x0, 31, 0, 0x0, false⟩
def KS_CAP_CYCLE_CYCLE : Fld := ⟨0x10018, 0x0, 0x0, 14, 0, 0x0, false⟩
/-- KS_PRES (02_keystone.md, line 255). -/
def KS_PRES : Fld := ⟨0x1001C, 0x0, 0x0, 31, 0, 0x80000, false⟩
def KS_PRES_CYCLE_TICKS : Fld := ⟨0x1001C, 0x0, 0x0, 20, 16, 0x80000, false⟩
def KS_PRES_DELAY : Fld := ⟨0x1001C, 0x0, 0x0, 11, 0, 0x80000, false⟩
/-- KS_OFFSET (02_keystone.md, line 265). -/
def KS_OFFSET : Fld := ⟨0x10020, 0x0, 0x0, 31, 0, 0x0, false⟩
/-- KS_OVR_COUNT (02_keystone.md, line 272). -/
def KS_OVR_COUNT : Fld := ⟨0x10024, 0x0, 0x0, 31, 0, 0x0, false⟩
/-- KS_OVR_LAST_LO (02_keystone.md, line 279). -/
def KS_OVR_LAST_LO : Fld := ⟨0x10028, 0x0, 0x0, 31, 0, 0x0, false⟩
/-- KS_OVR_LAST_HI (02_keystone.md, line 279). -/
def KS_OVR_LAST_HI : Fld := ⟨0x1002C, 0x0, 0x0, 31, 0, 0x0, false⟩
/-- KS_OVR_STONES (02_keystone.md, line 286). -/
def KS_OVR_STONES : Fld := ⟨0x10030, 0x0, 0x0, 31, 0, 0x0, false⟩
/-- KS_INT_STATUS (02_keystone.md, line 293). -/
def KS_INT_STATUS : Fld := ⟨0x10034, 0x0, 0x0, 31, 0, 0x0, false⟩
def KS_INT_STATUS_CANCEL : Fld := ⟨0x10034, 0x0, 0x0, 7, 7, 0x0, false⟩
def KS_INT_STATUS_LOCK_CHG : Fld := ⟨0x10034, 0x0, 0x0, 6, 6, 0x0, false⟩
def KS_INT_STATUS_STEP : Fld := ⟨0x10034, 0x0, 0x0, 5, 5, 0x0, false⟩
def KS_INT_STATUS_OVR : Fld := ⟨0x10034, 0x0, 0x0, 4, 4, 0x0, false⟩
def KS_INT_STATUS_ALARM : Fld := ⟨0x10034, 0x0, 0x0, 3, 0, 0x0, false⟩
/-- KS_INT_EN (02_keystone.md, line 305). -/
def KS_INT_EN : Fld := ⟨0x10038, 0x0, 0x0, 31, 0, 0x0, false⟩
def KS_INT_EN_EN : Fld := ⟨0x10038, 0x0, 0x0, 7, 0, 0x0, false⟩
/-- KS_ALARMn_LO (02_keystone.md, line 313). -/
def KS_ALARMn_LO : Fld := ⟨0x10040, 0x10, 0x0, 31, 0, 0x0, false⟩
/-- KS_ALARMn_HI (02_keystone.md, line 313). -/
def KS_ALARMn_HI : Fld := ⟨0x10044, 0x10, 0x0, 31, 0, 0x0, false⟩
/-- KS_ALARMn_CTRL (02_keystone.md, line 320). -/
def KS_ALARMn_CTRL : Fld := ⟨0x10048, 0x10, 0x0, 31, 0, 0x0, false⟩
def KS_ALARMn_CTRL_STATE : Fld := ⟨0x10048, 0x10, 0x0, 4, 2, 0x0, false⟩
def KS_ALARMn_CTRL_DISARM : Fld := ⟨0x10048, 0x10, 0x0, 1, 1, 0x0, false⟩
def KS_ALARMn_CTRL_ARM : Fld := ⟨0x10048, 0x10, 0x0, 0, 0, 0x0, false⟩
/-- IMG_STATUS (03_ashlar_image.md, line 533). -/
def IMG_STATUS : Fld := ⟨0x20000, 0x0, 0x0, 31, 0, 0x0, false⟩
def IMG_STATUS_SIGNED : Fld := ⟨0x20000, 0x0, 0x0, 13, 13, 0x0, false⟩
def IMG_STATUS_RING_EPOCH : Fld := ⟨0x20000, 0x0, 0x0, 12, 12, 0x0, false⟩
def IMG_STATUS_SLOT_CHANGED : Fld := ⟨0x20000, 0x0, 0x0, 11, 11, 0x0, false⟩
def IMG_STATUS_ACCEPTED : Fld := ⟨0x20000, 0x0, 0x0, 10, 10, 0x0, false⟩
def IMG_STATUS_EPOCH_HOLD : Fld := ⟨0x20000, 0x0, 0x0, 9, 9, 0x0, false⟩
def IMG_STATUS_CLASS : Fld := ⟨0x20000, 0x0, 0x0, 8, 8, 0x0, false⟩
def IMG_STATUS_ACT_SLOT : Fld := ⟨0x20000, 0x0, 0x0, 7, 7, 0x0, false⟩
def IMG_STATUS_ACTIVE : Fld := ⟨0x20000, 0x0, 0x0, 6, 6, 0x0, false⟩
def IMG_STATUS_STAGE : Fld := ⟨0x20000, 0x0, 0x0, 2, 0, 0x0, false⟩
/-- IMG_CTRL (03_ashlar_image.md, line 550). -/
def IMG_CTRL : Fld := ⟨0x20004, 0x0, 0x0, 31, 0, 0x0, false⟩
def IMG_CTRL_SLOT : Fld := ⟨0x20004, 0x0, 0x0, 8, 8, 0x0, false⟩
def IMG_CTRL_ACCEPT : Fld := ⟨0x20004, 0x0, 0x0, 5, 5, 0x0, false⟩
def IMG_CTRL_DEACTIVATE : Fld := ⟨0x20004, 0x0, 0x0, 4, 4, 0x0, false⟩
def IMG_CTRL_DISCARD : Fld := ⟨0x20004, 0x0, 0x0, 3, 3, 0x0, false⟩
def IMG_CTRL_DISARM : Fld := ⟨0x20004, 0x0, 0x0, 2, 2, 0x0, false⟩
def IMG_CTRL_ARM : Fld := ⟨0x20004, 0x0, 0x0, 1, 1, 0x0, false⟩
def IMG_CTRL_LOAD : Fld := ⟨0x20004, 0x0, 0x0, 0, 0, 0x0, false⟩
/-- IMG_REFUSE (03_ashlar_image.md, line 565). -/
def IMG_REFUSE : Fld := ⟨0x20008, 0x0, 0x0, 31, 0, 0x0, false⟩
def IMG_REFUSE_COURSE : Fld := ⟨0x20008, 0x0, 0x0, 23, 8, 0x0, false⟩
def IMG_REFUSE_CODE : Fld := ⟨0x20008, 0x0, 0x0, 7, 0, 0x0, false⟩
/-- IMG_REFUSE_DETAIL (03_ashlar_image.md, line 574). -/
def IMG_REFUSE_DETAIL : Fld := ⟨0x2000C, 0x0, 0x0, 31, 0, 0x0, false⟩
/-- IMG_ACT_TICK_LO (03_ashlar_image.md, line 581). -/
def IMG_ACT_TICK_LO : Fld := ⟨0x20010, 0x0, 0x0, 31, 0, 0x0, false⟩
/-- IMG_ACT_TICK_HI (03_ashlar_image.md, line 581). -/
def IMG_ACT_TICK_HI : Fld := ⟨0x20014, 0x0, 0x0, 31, 0, 0x0, false⟩
/-- IMG_REBUILD (03_ashlar_image.md, line 588). -/
def IMG_REBUILD : Fld := ⟨0x20018, 0x0, 0x0, 31, 0, 0x0, false⟩
def IMG_REBUILD_TICKS : Fld := ⟨0x20018, 0x0, 0x0, 15, 0, 0x0, false⟩
/-- IMG_EPOCH_ACT_LO (03_ashlar_image.md, line 596). -/
def IMG_EPOCH_ACT_LO : Fld := ⟨0x20020, 0x0, 0x0, 31, 0, 0x0, false⟩
/-- IMG_EPOCH_ACT_HI (03_ashlar_image.md, line 596). -/
def IMG_EPOCH_ACT_HI : Fld := ⟨0x20024, 0x0, 0x0, 31, 0, 0x0, false⟩
/-- IMG_EPOCH_STG_LO (03_ashlar_image.md, line 596). -/
def IMG_EPOCH_STG_LO : Fld := ⟨0x20028, 0x0, 0x0, 31, 0, 0x0, false⟩
/-- IMG_EPOCH_STG_HI (03_ashlar_image.md, line 596). -/
def IMG_EPOCH_STG_HI : Fld := ⟨0x2002C, 0x0, 0x0, 31, 0, 0x0, false⟩
/-- IMG_EPOCH_RING_LO (03_ashlar_image.md, line 596). -/
def IMG_EPOCH_RING_LO : Fld := ⟨0x20030, 0x0, 0x0, 31, 0, 0x0, false⟩
/-- IMG_EPOCH_RING_HI (03_ashlar_image.md, line 596). -/
def IMG_EPOCH_RING_HI : Fld := ⟨0x20034, 0x0, 0x0, 31, 0, 0x0, false⟩
/-- IMG_BOOT (03_ashlar_image.md, line 603). -/
def IMG_BOOT : Fld := ⟨0x20038, 0x0, 0x0, 31, 0, 0x0, false⟩
def IMG_BOOT_AUTO : Fld := ⟨0x20038, 0x0, 0x0, 1, 1, 0x0, false⟩
def IMG_BOOT_SLOT : Fld := ⟨0x20038, 0x0, 0x0, 0, 0, 0x0, false⟩
/-- IMG_SIG (03_ashlar_image.md, line 612). -/
def IMG_SIG : Fld := ⟨0x2003C, 0x0, 0x0, 31, 0, 0x0, false⟩
def IMG_SIG_KEYS : Fld := ⟨0x2003C, 0x0, 0x0, 7, 4, 0x0, false⟩
def IMG_SIG_LOCK : Fld := ⟨0x2003C, 0x0, 0x0, 1, 1, 0x0, false⟩
def IMG_SIG_ENFORCE : Fld := ⟨0x2003C, 0x0, 0x0, 0, 0, 0x0, false⟩
/-- IMG_SLOTn_STATUS (03_ashlar_image.md, line 623). -/
def IMG_SLOTn_STATUS : Fld := ⟨0x20040, 0x4, 0x0, 31, 0, 0x0, false⟩
def IMG_SLOTn_STATUS_CODE : Fld := ⟨0x20040, 0x4, 0x0, 15, 8, 0x0, false⟩
def IMG_SLOTn_STATUS_STATE : Fld := ⟨0x20040, 0x4, 0x0, 2, 0, 0x0, false⟩
/-- IMG_SLOT_CTRL (03_ashlar_image.md, line 633). -/
def IMG_SLOT_CTRL : Fld := ⟨0x20048, 0x0, 0x0, 31, 0, 0x0, false⟩
def IMG_SLOT_CTRL_SLOT : Fld := ⟨0x20048, 0x0, 0x0, 8, 8, 0x0, false⟩
def IMG_SLOT_CTRL_VERIFY : Fld := ⟨0x20048, 0x0, 0x0, 2, 2, 0x0, false⟩
def IMG_SLOT_CTRL_CLOSE : Fld := ⟨0x20048, 0x0, 0x0, 1, 1, 0x0, false⟩
def IMG_SLOT_CTRL_OPEN : Fld := ⟨0x20048, 0x0, 0x0, 0, 0, 0x0, false⟩
/-- IMG_SLOT_DATA (03_ashlar_image.md, line 645). -/
def IMG_SLOT_DATA : Fld := ⟨0x2004C, 0x0, 0x0, 31, 0, 0x0, false⟩
/-- IMG_SLOT_PTR (03_ashlar_image.md, line 652). -/
def IMG_SLOT_PTR : Fld := ⟨0x20050, 0x0, 0x0, 31, 0, 0x0, false⟩
def IMG_SLOT_PTR_BYTES : Fld := ⟨0x20050, 0x0, 0x0, 26, 0, 0x0, false⟩
/-- IMG_INT_STATUS (03_ashlar_image.md, line 660). -/
def IMG_INT_STATUS : Fld := ⟨0x20058, 0x0, 0x0, 31, 0, 0x0, false⟩
def IMG_INT_STATUS_SLOT_DONE : Fld := ⟨0x20058, 0x0, 0x0, 5, 5, 0x0, false⟩
def IMG_INT_STATUS_EPOCH_CHG : Fld := ⟨0x20058, 0x0, 0x0, 4, 4, 0x0, false⟩
def IMG_INT_STATUS_CANCELLED : Fld := ⟨0x20058, 0x0, 0x0, 3, 3, 0x0, false⟩
def IMG_INT_STATUS_ACTIVATED : Fld := ⟨0x20058, 0x0, 0x0, 2, 2, 0x0, false⟩
def IMG_INT_STATUS_REFUSED : Fld := ⟨0x20058, 0x0, 0x0, 1, 1, 0x0, false⟩
def IMG_INT_STATUS_STAGED : Fld := ⟨0x20058, 0x0, 0x0, 0, 0, 0x0, false⟩
/-- IMG_INT_EN (03_ashlar_image.md, line 673). -/
def IMG_INT_EN : Fld := ⟨0x2005C, 0x0, 0x0, 31, 0, 0x0, false⟩
def IMG_INT_EN_EN : Fld := ⟨0x2005C, 0x0, 0x0, 5, 0, 0x0, false⟩
/-- IMG_KEYk_w (03_ashlar_image.md, line 681). -/
def IMG_KEYk_w : Fld := ⟨0x20100, 0x40, 0x4, 31, 0, 0x0, false⟩
/-- ENG_STATUS (04_engine.md, line 303). -/
def ENG_STATUS : Fld := ⟨0x30000, 0x0, 0x0, 31, 0, 0x0, false⟩
def ENG_STATUS_USED : Fld := ⟨0x30000, 0x0, 0x0, 13, 8, 0x0, false⟩
def ENG_STATUS_REBUILD : Fld := ⟨0x30000, 0x0, 0x0, 2, 2, 0x0, false⟩
def ENG_STATUS_CLASS : Fld := ⟨0x30000, 0x0, 0x0, 1, 1, 0x0, false⟩
def ENG_STATUS_RUN : Fld := ⟨0x30000, 0x0, 0x0, 0, 0, 0x0, false⟩
/-- ENG_CTRL (04_engine.md, line 315). -/
def ENG_CTRL : Fld := ⟨0x30004, 0x0, 0x0, 31, 0, 0x1, false⟩
def ENG_CTRL_CNT_CLR : Fld := ⟨0x30004, 0x0, 0x0, 2, 2, 0x1, false⟩
def ENG_CTRL_PEAK_CLR : Fld := ⟨0x30004, 0x0, 0x0, 1, 1, 0x1, false⟩
def ENG_CTRL_GATE : Fld := ⟨0x30004, 0x0, 0x0, 0, 0, 0x1, false⟩
/-- ENG_STONES (04_engine.md, line 325). -/
def ENG_STONES : Fld := ⟨0x30008, 0x0, 0x0, 31, 0, 0x0, false⟩
/-- ENG_BUDGET (04_engine.md, line 332). -/
def ENG_BUDGET : Fld := ⟨0x3000C, 0x0, 0x0, 31, 0, 0x42E18, false⟩
def ENG_BUDGET_PF : Fld := ⟨0x3000C, 0x0, 0x0, 23, 16, 0x42E18, false⟩
def ENG_BUDGET_CYCLES : Fld := ⟨0x3000C, 0x0, 0x0, 14, 0, 0x42E18, false⟩
/-- ENG_UCODE (04_engine.md, line 342). -/
def ENG_UCODE : Fld := ⟨0x30010, 0x0, 0x0, 31, 0, 0x0, false⟩
def ENG_UCODE_MAJOR : Fld := ⟨0x30010, 0x0, 0x0, 15, 8, 0x0, false⟩
def ENG_UCODE_MINOR : Fld := ⟨0x30010, 0x0, 0x0, 7, 0, 0x0, false⟩
/-- ENG_FABRIC (04_engine.md, line 351). -/
def ENG_FABRIC : Fld := ⟨0x30014, 0x0, 0x0, 31, 0, 0x0, false⟩
def ENG_FABRIC_XFERS : Fld := ⟨0x30014, 0x0, 0x0, 14, 0, 0x0, false⟩
/-- ENG_XFER_GROUT (04_engine.md, line 359). -/
def ENG_XFER_GROUT : Fld := ⟨0x30018, 0x0, 0x0, 31, 0, 0x0, false⟩
/-- ENG_STREAM (04_engine.md, line 366). -/
def ENG_STREAM : Fld := ⟨0x3001C, 0x0, 0x0, 31, 0, 0x0, false⟩
def ENG_STREAM_LAST_VALID : Fld := ⟨0x3001C, 0x0, 0x0, 31, 31, 0x0, false⟩
def ENG_STREAM_LAST_ID : Fld := ⟨0x3001C, 0x0, 0x0, 27, 16, 0x0, false⟩
def ENG_STREAM_COUNT : Fld := ⟨0x3001C, 0x0, 0x0, 13, 0, 0x0, false⟩
/-- ENG_STREAM_LATE (04_engine.md, line 377). -/
def ENG_STREAM_LATE : Fld := ⟨0x30020, 0x0, 0x0, 31, 0, 0x0, false⟩
/-- ENG_ECC_CORR (04_engine.md, line 384). -/
def ENG_ECC_CORR : Fld := ⟨0x30024, 0x0, 0x0, 31, 0, 0x0, false⟩
/-- ENG_ECC_LAST (04_engine.md, line 391). -/
def ENG_ECC_LAST : Fld := ⟨0x30028, 0x0, 0x0, 31, 0, 0x0, false⟩
def ENG_ECC_LAST_DOUBLE : Fld := ⟨0x30028, 0x0, 0x0, 31, 31, 0x0, false⟩
def ENG_ECC_LAST_STONE : Fld := ⟨0x30028, 0x0, 0x0, 28, 24, 0x0, false⟩
def ENG_ECC_LAST_OFFSET : Fld := ⟨0x30028, 0x0, 0x0, 17, 0, 0x0, false⟩
/-- ENG_NAN (04_engine.md, line 402). -/
def ENG_NAN : Fld := ⟨0x3002C, 0x0, 0x0, 31, 0, 0x0, false⟩
/-- ENG_INT_STATUS (04_engine.md, line 409). -/
def ENG_INT_STATUS : Fld := ⟨0x30030, 0x0, 0x0, 31, 0, 0x0, false⟩
def ENG_INT_STATUS_NAN : Fld := ⟨0x30030, 0x0, 0x0, 5, 5, 0x0, false⟩
def ENG_INT_STATUS_ECC_DOUBLE : Fld := ⟨0x30030, 0x0, 0x0, 4, 4, 0x0, false⟩
def ENG_INT_STATUS_ECC_CORR : Fld := ⟨0x30030, 0x0, 0x0, 3, 3, 0x0, false⟩
def ENG_INT_STATUS_XFER_GROUT : Fld := ⟨0x30030, 0x0, 0x0, 2, 2, 0x0, false⟩
def ENG_INT_STATUS_STREAM_LATE : Fld := ⟨0x30030, 0x0, 0x0, 1, 1, 0x0, false⟩
def ENG_INT_STATUS_STALL : Fld := ⟨0x30030, 0x0, 0x0, 0, 0, 0x0, false⟩
/-- ENG_INT_EN (04_engine.md, line 422). -/
def ENG_INT_EN : Fld := ⟨0x30034, 0x0, 0x0, 31, 0, 0x0, false⟩
def ENG_INT_EN_EN : Fld := ⟨0x30034, 0x0, 0x0, 5, 0, 0x0, false⟩
/-- ENG_STONEn_SCHED (04_engine.md, line 430). -/
def ENG_STONEn_SCHED : Fld := ⟨0x30100, 0x10, 0x0, 31, 0, 0x0, false⟩
def ENG_STONEn_SCHED_ENTRIES : Fld := ⟨0x30100, 0x10, 0x0, 28, 16, 0x0, false⟩
def ENG_STONEn_SCHED_END : Fld := ⟨0x30100, 0x10, 0x0, 15, 0, 0x0, false⟩
/-- ENG_STONEn_PEAK (04_engine.md, line 439). -/
def ENG_STONEn_PEAK : Fld := ⟨0x30104, 0x10, 0x0, 31, 0, 0x0, false⟩
def ENG_STONEn_PEAK_END : Fld := ⟨0x30104, 0x10, 0x0, 15, 0, 0x0, false⟩
/-- ENG_STONEn_STALL (04_engine.md, line 447). -/
def ENG_STONEn_STALL : Fld := ⟨0x30108, 0x10, 0x0, 31, 0, 0x0, false⟩
/-- ENG_STONEn_MEM (04_engine.md, line 454). -/
def ENG_STONEn_MEM : Fld := ⟨0x3010C, 0x10, 0x0, 31, 0, 0x0, false⟩
def ENG_STONEn_MEM_BYTES : Fld := ⟨0x3010C, 0x10, 0x0, 18, 0, 0x0, false⟩
/-- MIX_VIEW (05_routing_mixing.md, line 340). -/
def MIX_VIEW : Fld := ⟨0x70000, 0x0, 0x0, 31, 0, 0x0, true⟩
def MIX_VIEW_TEN : Fld := ⟨0x70000, 0x0, 0x0, 2, 0, 0x0, true⟩
/-- MIX_SWAP_CTRL (05_routing_mixing.md, line 348). -/
def MIX_SWAP_CTRL : Fld := ⟨0x70004, 0x0, 0x0, 31, 0, 0x0, true⟩
def MIX_SWAP_CTRL_TEN : Fld := ⟨0x70004, 0x0, 0x0, 10, 8, 0x0, true⟩
def MIX_SWAP_CTRL_REVERT : Fld := ⟨0x70004, 0x0, 0x0, 2, 2, 0x0, true⟩
def MIX_SWAP_CTRL_DISARM : Fld := ⟨0x70004, 0x0, 0x0, 1, 1, 0x0, true⟩
def MIX_SWAP_CTRL_ARM : Fld := ⟨0x70004, 0x0, 0x0, 0, 0, 0x0, true⟩
/-- MIX_SWAP_TICK_LO (05_routing_mixing.md, line 360). -/
def MIX_SWAP_TICK_LO : Fld := ⟨0x70008, 0x0, 0x0, 31, 0, 0x0, true⟩
/-- MIX_SWAP_TICK_HI (05_routing_mixing.md, line 360). -/
def MIX_SWAP_TICK_HI : Fld := ⟨0x7000C, 0x0, 0x0, 31, 0, 0x0, true⟩
/-- MIX_SWAP_STATUS (05_routing_mixing.md, line 367). -/
def MIX_SWAP_STATUS : Fld := ⟨0x70010, 0x0, 0x0, 31, 0, 0x0, false⟩
def MIX_SWAP_STATUS_BY : Fld := ⟨0x70010, 0x0, 0x0, 18, 16, 0x0, false⟩
def MIX_SWAP_STATUS_HELD : Fld := ⟨0x70010, 0x0, 0x0, 4, 4, 0x0, false⟩
def MIX_SWAP_STATUS_WRITES_PENDING : Fld := ⟨0x70010, 0x0, 0x0, 3, 3, 0x0, false⟩
def MIX_SWAP_STATUS_STATE : Fld := ⟨0x70010, 0x0, 0x0, 2, 0, 0x0, false⟩
/-- MIX_LATCH_CTRL (05_routing_mixing.md, line 379). -/
def MIX_LATCH_CTRL : Fld := ⟨0x70014, 0x0, 0x0, 31, 0, 0x0, false⟩
def MIX_LATCH_CTRL_STATE : Fld := ⟨0x70014, 0x0, 0x0, 6, 4, 0x0, false⟩
def MIX_LATCH_CTRL_HOLD_CLR : Fld := ⟨0x70014, 0x0, 0x0, 2, 2, 0x0, false⟩
def MIX_LATCH_CTRL_DISARM : Fld := ⟨0x70014, 0x0, 0x0, 1, 1, 0x0, false⟩
def MIX_LATCH_CTRL_ARM : Fld := ⟨0x70014, 0x0, 0x0, 0, 0, 0x0, false⟩
/-- MIX_LATCH_TICK_LO (05_routing_mixing.md, line 391). -/
def MIX_LATCH_TICK_LO : Fld := ⟨0x70018, 0x0, 0x0, 31, 0, 0x0, false⟩
/-- MIX_LATCH_TICK_HI (05_routing_mixing.md, line 391). -/
def MIX_LATCH_TICK_HI : Fld := ⟨0x7001C, 0x0, 0x0, 31, 0, 0x0, false⟩
/-- MIX_REJECT (05_routing_mixing.md, line 398). -/
def MIX_REJECT : Fld := ⟨0x70020, 0x0, 0x0, 31, 0, 0x0, true⟩
/-- MIX_PFIR_SRC (05_routing_mixing.md, line 405). -/
def MIX_PFIR_SRC : Fld := ⟨0x70024, 0x0, 0x0, 31, 0, 0x0, true⟩
/-- MIX_PFIR_CTRL (05_routing_mixing.md, line 412). -/
def MIX_PFIR_CTRL : Fld := ⟨0x70028, 0x0, 0x0, 31, 0, 0x0, true⟩
def MIX_PFIR_CTRL_LOAD : Fld := ⟨0x70028, 0x0, 0x0, 31, 31, 0x0, true⟩
def MIX_PFIR_CTRL_BUSY : Fld := ⟨0x70028, 0x0, 0x0, 30, 30, 0x0, true⟩
def MIX_PFIR_CTRL_RESULT : Fld := ⟨0x70028, 0x0, 0x0, 29, 28, 0x0, true⟩
def MIX_PFIR_CTRL_CH : Fld := ⟨0x70028, 0x0, 0x0, 14, 12, 0x0, true⟩
def MIX_PFIR_CTRL_ID : Fld := ⟨0x70028, 0x0, 0x0, 11, 0, 0x0, true⟩
/-- MIX_SRC_SEL (05_routing_mixing.md, line 424). -/
def MIX_SRC_SEL : Fld := ⟨0x7002C, 0x0, 0x0, 31, 0, 0x0, true⟩
def MIX_SRC_SEL_ID : Fld := ⟨0x7002C, 0x0, 0x0, 11, 0, 0x0, true⟩
/-- MIX_SRC_STAT (05_routing_mixing.md, line 432). -/
def MIX_SRC_STAT : Fld := ⟨0x70030, 0x0, 0x0, 31, 0, 0x0, false⟩
def MIX_SRC_STAT_VALID : Fld := ⟨0x70030, 0x0, 0x0, 31, 31, 0x0, false⟩
def MIX_SRC_STAT_SETTLING : Fld := ⟨0x70030, 0x0, 0x0, 30, 30, 0x0, false⟩
def MIX_SRC_STAT_LOCKED : Fld := ⟨0x70030, 0x0, 0x0, 29, 29, 0x0, false⟩
def MIX_SRC_STAT_ABSENT : Fld := ⟨0x70030, 0x0, 0x0, 28, 28, 0x0, false⟩
def MIX_SRC_STAT_RESYNC : Fld := ⟨0x70030, 0x0, 0x0, 15, 0, 0x0, false⟩
/-- MIX_SRC_RATIO (05_routing_mixing.md, line 444). -/
def MIX_SRC_RATIO : Fld := ⟨0x70034, 0x0, 0x0, 31, 0, 0x0, false⟩
/-- MIX_REC_CTRL (05_routing_mixing.md, line 451). -/
def MIX_REC_CTRL : Fld := ⟨0x70040, 0x0, 0x0, 31, 0, 0x4B0004, false⟩
def MIX_REC_CTRL_POST : Fld := ⟨0x70040, 0x0, 0x0, 27, 8, 0x4B0004, false⟩
def MIX_REC_CTRL_ON_HALT : Fld := ⟨0x70040, 0x0, 0x0, 2, 2, 0x4B0004, false⟩
def MIX_REC_CTRL_FREEZE : Fld := ⟨0x70040, 0x0, 0x0, 1, 1, 0x4B0004, false⟩
def MIX_REC_CTRL_RUN : Fld := ⟨0x70040, 0x0, 0x0, 0, 0, 0x4B0004, false⟩
/-- MIX_REC_STATUS (05_routing_mixing.md, line 463). -/
def MIX_REC_STATUS : Fld := ⟨0x70044, 0x0, 0x0, 31, 0, 0x0, false⟩
def MIX_REC_STATUS_SENSE : Fld := ⟨0x70044, 0x0, 0x0, 2, 2, 0x0, false⟩
def MIX_REC_STATUS_STATE : Fld := ⟨0x70044, 0x0, 0x0, 1, 0, 0x0, false⟩
/-- MIX_REC_LAST_LO (05_routing_mixing.md, line 472). -/
def MIX_REC_LAST_LO : Fld := ⟨0x70048, 0x0, 0x0, 31, 0, 0x0, false⟩
/-- MIX_REC_LAST_HI (05_routing_mixing.md, line 472). -/
def MIX_REC_LAST_HI : Fld := ⟨0x7004C, 0x0, 0x0, 31, 0, 0x0, false⟩
/-- MIX_REC_SENSE_BASE (05_routing_mixing.md, line 479). -/
def MIX_REC_SENSE_BASE : Fld := ⟨0x70050, 0x0, 0x0, 31, 0, 0x0, false⟩
/-- MIX_REC_SENSE_SLOTS (05_routing_mixing.md, line 486). -/
def MIX_REC_SENSE_SLOTS : Fld := ⟨0x70054, 0x0, 0x0, 31, 0, 0x0, false⟩
def MIX_REC_SENSE_SLOTS_SLOTS : Fld := ⟨0x70054, 0x0, 0x0, 23, 0, 0x0, false⟩
/-- MIX_MSG_CTRL (05_routing_mixing.md, line 494). -/
def MIX_MSG_CTRL : Fld := ⟨0x70060, 0x0, 0x0, 31, 0, 0x0, false⟩
def MIX_MSG_CTRL_NUMBER : Fld := ⟨0x70060, 0x0, 0x0, 25, 16, 0x0, false⟩
def MIX_MSG_CTRL_VERIFY : Fld := ⟨0x70060, 0x0, 0x0, 3, 3, 0x0, false⟩
def MIX_MSG_CTRL_DELETE : Fld := ⟨0x70060, 0x0, 0x0, 2, 2, 0x0, false⟩
def MIX_MSG_CTRL_CLOSE : Fld := ⟨0x70060, 0x0, 0x0, 1, 1, 0x0, false⟩
def MIX_MSG_CTRL_OPEN : Fld := ⟨0x70060, 0x0, 0x0, 0, 0, 0x0, false⟩
/-- MIX_MSG_DATA (05_routing_mixing.md, line 507). -/
def MIX_MSG_DATA : Fld := ⟨0x70064, 0x0, 0x0, 31, 0, 0x0, false⟩
/-- MIX_MSG_STATUS (05_routing_mixing.md, line 514). -/
def MIX_MSG_STATUS : Fld := ⟨0x70068, 0x0, 0x0, 31, 0, 0x0, false⟩
def MIX_MSG_STATUS_FREE : Fld := ⟨0x70068, 0x0, 0x0, 31, 16, 0x0, false⟩
def MIX_MSG_STATUS_FAILS : Fld := ⟨0x70068, 0x0, 0x0, 15, 8, 0x0, false⟩
def MIX_MSG_STATUS_BUSY : Fld := ⟨0x70068, 0x0, 0x0, 3, 3, 0x0, false⟩
def MIX_MSG_STATUS_STATE : Fld := ⟨0x70068, 0x0, 0x0, 2, 0, 0x0, false⟩
/-- MIX_OVR_CFG (05_routing_mixing.md, line 525). -/
def MIX_OVR_CFG : Fld := ⟨0x70070, 0x0, 0x0, 31, 0, 0x0, false⟩
def MIX_OVR_CFG_POL_B : Fld := ⟨0x70070, 0x0, 0x0, 1, 1, 0x0, false⟩
def MIX_OVR_CFG_POL_A : Fld := ⟨0x70070, 0x0, 0x0, 0, 0, 0x0, false⟩
/-- MIX_OVR_STATUS (05_routing_mixing.md, line 534). -/
def MIX_OVR_STATUS : Fld := ⟨0x70074, 0x0, 0x0, 31, 0, 0x0, false⟩
def MIX_OVR_STATUS_GLITCHES : Fld := ⟨0x70074, 0x0, 0x0, 31, 28, 0x0, false⟩
def MIX_OVR_STATUS_PLAYABLE : Fld := ⟨0x70074, 0x0, 0x0, 27, 16, 0x0, false⟩
def MIX_OVR_STATUS_CAN_PLAY : Fld := ⟨0x70074, 0x0, 0x0, 7, 7, 0x0, false⟩
def MIX_OVR_STATUS_DISC : Fld := ⟨0x70074, 0x0, 0x0, 6, 6, 0x0, false⟩
def MIX_OVR_STATUS_EFFECTIVE : Fld := ⟨0x70074, 0x0, 0x0, 5, 5, 0x0, false⟩
def MIX_OVR_STATUS_B : Fld := ⟨0x70074, 0x0, 0x0, 4, 4, 0x0, false⟩
def MIX_OVR_STATUS_A : Fld := ⟨0x70074, 0x0, 0x0, 3, 3, 0x0, false⟩
def MIX_OVR_STATUS_STATE : Fld := ⟨0x70074, 0x0, 0x0, 1, 0, 0x0, false⟩
/-- MIX_INT_STATUS (05_routing_mixing.md, line 550). -/
def MIX_INT_STATUS : Fld := ⟨0x70080, 0x0, 0x0, 31, 0, 0x0, false⟩
def MIX_INT_STATUS_OVR_CHG : Fld := ⟨0x70080, 0x0, 0x0, 8, 8, 0x0, false⟩
def MIX_INT_STATUS_MSG_DONE : Fld := ⟨0x70080, 0x0, 0x0, 7, 7, 0x0, false⟩
def MIX_INT_STATUS_REC_FROZEN : Fld := ⟨0x70080, 0x0, 0x0, 6, 6, 0x0, false⟩
def MIX_INT_STATUS_PFIR_DONE : Fld := ⟨0x70080, 0x0, 0x0, 5, 5, 0x0, false⟩
def MIX_INT_STATUS_SRC_RESYNC : Fld := ⟨0x70080, 0x0, 0x0, 4, 4, 0x0, false⟩
def MIX_INT_STATUS_LATCH : Fld := ⟨0x70080, 0x0, 0x0, 3, 3, 0x0, false⟩
def MIX_INT_STATUS_SWAP_LATE : Fld := ⟨0x70080, 0x0, 0x0, 2, 2, 0x0, false⟩
def MIX_INT_STATUS_SWAP_DONE : Fld := ⟨0x70080, 0x0, 0x0, 1, 1, 0x0, false⟩
def MIX_INT_STATUS_REJECT : Fld := ⟨0x70080, 0x0, 0x0, 0, 0, 0x0, false⟩
/-- MIX_INT_EN (05_routing_mixing.md, line 566). -/
def MIX_INT_EN : Fld := ⟨0x70084, 0x0, 0x0, 31, 0, 0x0, false⟩
def MIX_INT_EN_EN : Fld := ⟨0x70084, 0x0, 0x0, 8, 0, 0x0, false⟩
/-- RING_DP_STATUS (06_ring_transport.md, line 266). -/
def RING_DP_STATUS : Fld := ⟨0x80000, 0x0, 0x0, 31, 0, 0x0, false⟩
def RING_DP_STATUS_PLAN : Fld := ⟨0x80000, 0x0, 0x0, 31, 31, 0x0, false⟩
def RING_DP_STATUS_HEAD : Fld := ⟨0x80000, 0x0, 0x0, 30, 30, 0x0, false⟩
def RING_DP_STATUS_REGEN_E : Fld := ⟨0x80000, 0x0, 0x0, 29, 29, 0x0, false⟩
def RING_DP_STATUS_REGEN_W : Fld := ⟨0x80000, 0x0, 0x0, 28, 28, 0x0, false⟩
def RING_DP_STATUS_EAST_PORT : Fld := ⟨0x80000, 0x0, 0x0, 27, 27, 0x0, false⟩
def RING_DP_STATUS_OK_E : Fld := ⟨0x80000, 0x0, 0x0, 26, 26, 0x0, false⟩
def RING_DP_STATUS_OK_W : Fld := ⟨0x80000, 0x0, 0x0, 25, 25, 0x0, false⟩
def RING_DP_STATUS_FRAMES : Fld := ⟨0x80000, 0x0, 0x0, 20, 16, 0x0, false⟩
def RING_DP_STATUS_CHANNELS : Fld := ⟨0x80000, 0x0, 0x0, 9, 0, 0x0, false⟩
/-- RING_DP_PLAN (06_ring_transport.md, line 283). -/
def RING_DP_PLAN : Fld := ⟨0x80004, 0x0, 0x0, 31, 0, 0x0, false⟩
def RING_DP_PLAN_NODES : Fld := ⟨0x80004, 0x0, 0x0, 28, 16, 0x0, false⟩
def RING_DP_PLAN_PLAN_ID : Fld := ⟨0x80004, 0x0, 0x0, 15, 0, 0x0, false⟩
/-- RING_DP_POS (06_ring_transport.md, line 292). -/
def RING_DP_POS : Fld := ⟨0x80008, 0x0, 0x0, 31, 0, 0x0, false⟩
def RING_DP_POS_HEAD : Fld := ⟨0x80008, 0x0, 0x0, 28, 16, 0x0, false⟩
def RING_DP_POS_POSITION : Fld := ⟨0x80008, 0x0, 0x0, 12, 0, 0x0, false⟩
/-- RING_DP_CTRL (06_ring_transport.md, line 302). -/
def RING_DP_CTRL : Fld := ⟨0x8000C, 0x0, 0x0, 31, 0, 0x1, false⟩
def RING_DP_CTRL_AGE_CLR : Fld := ⟨0x8000C, 0x0, 0x0, 2, 2, 0x1, false⟩
def RING_DP_CTRL_CNT_CLR : Fld := ⟨0x8000C, 0x0, 0x0, 1, 1, 0x1, false⟩
def RING_DP_CTRL_SEND_EN : Fld := ⟨0x8000C, 0x0, 0x0, 0, 0, 0x1, false⟩
/-- RING_DP_BOUND (06_ring_transport.md, line 312). -/
def RING_DP_BOUND : Fld := ⟨0x80010, 0x0, 0x0, 31, 0, 0x0, false⟩
def RING_DP_BOUND_SEAMLESS : Fld := ⟨0x80010, 0x0, 0x0, 27, 16, 0x0, false⟩
def RING_DP_BOUND_SHORT : Fld := ⟨0x80010, 0x0, 0x0, 11, 0, 0x0, false⟩
/-- RING_DP_LOOK (06_ring_transport.md, line 322). -/
def RING_DP_LOOK : Fld := ⟨0x80014, 0x0, 0x0, 31, 0, 0x0, false⟩
def RING_DP_LOOK_VALID : Fld := ⟨0x80014, 0x0, 0x0, 31, 31, 0x0, false⟩
def RING_DP_LOOK_LANE : Fld := ⟨0x80014, 0x0, 0x0, 22, 16, 0x0, false⟩
def RING_DP_LOOK_LOOK : Fld := ⟨0x80014, 0x0, 0x0, 11, 0, 0x0, false⟩
/-- RING_CNT_LONE (06_ring_transport.md, line 333). -/
def RING_CNT_LONE : Fld := ⟨0x80020, 0x0, 0x0, 31, 0, 0x0, false⟩
/-- RING_CNT_LOST (06_ring_transport.md, line 333). -/
def RING_CNT_LOST : Fld := ⟨0x80024, 0x0, 0x0, 31, 0, 0x0, false⟩
/-- RING_CNT_LATE (06_ring_transport.md, line 333). -/
def RING_CNT_LATE : Fld := ⟨0x80028, 0x0, 0x0, 31, 0, 0x0, false⟩
/-- RING_CNT_ABSENT (06_ring_transport.md, line 333). -/
def RING_CNT_ABSENT : Fld := ⟨0x8002C, 0x0, 0x0, 31, 0, 0x0, false⟩
/-- RING_CNT_FCS_E (06_ring_transport.md, line 333). -/
def RING_CNT_FCS_E : Fld := ⟨0x80030, 0x0, 0x0, 31, 0, 0x0, false⟩
/-- RING_CNT_FCS_W (06_ring_transport.md, line 333). -/
def RING_CNT_FCS_W : Fld := ⟨0x80034, 0x0, 0x0, 31, 0, 0x0, false⟩
/-- RING_CNT_REGEN_E (06_ring_transport.md, line 333). -/
def RING_CNT_REGEN_E : Fld := ⟨0x80038, 0x0, 0x0, 31, 0, 0x0, false⟩
/-- RING_CNT_REGEN_W (06_ring_transport.md, line 333). -/
def RING_CNT_REGEN_W : Fld := ⟨0x8003C, 0x0, 0x0, 31, 0, 0x0, false⟩
/-- RING_CNT_SEND_MISS (06_ring_transport.md, line 333). -/
def RING_CNT_SEND_MISS : Fld := ⟨0x80040, 0x0, 0x0, 31, 0, 0x0, false⟩
/-- RING_CNT_FOREIGN (06_ring_transport.md, line 333). -/
def RING_CNT_FOREIGN : Fld := ⟨0x80044, 0x0, 0x0, 31, 0, 0x0, false⟩
/-- RING_CNT_AGED (06_ring_transport.md, line 333). -/
def RING_CNT_AGED : Fld := ⟨0x80048, 0x0, 0x0, 31, 0, 0x0, false⟩
/-- RING_DP_INT_STATUS (06_ring_transport.md, line 340). -/
def RING_DP_INT_STATUS : Fld := ⟨0x80050, 0x0, 0x0, 31, 0, 0x0, false⟩
def RING_DP_INT_STATUS_PLAN_CHG : Fld := ⟨0x80050, 0x0, 0x0, 7, 7, 0x0, false⟩
def RING_DP_INT_STATUS_SEND_MISS : Fld := ⟨0x80050, 0x0, 0x0, 6, 6, 0x0, false⟩
def RING_DP_INT_STATUS_CONFLICT : Fld := ⟨0x80050, 0x0, 0x0, 5, 5, 0x0, false⟩
def RING_DP_INT_STATUS_FCS : Fld := ⟨0x80050, 0x0, 0x0, 4, 4, 0x0, false⟩
def RING_DP_INT_STATUS_REGEN : Fld := ⟨0x80050, 0x0, 0x0, 3, 3, 0x0, false⟩
def RING_DP_INT_STATUS_LATE : Fld := ⟨0x80050, 0x0, 0x0, 2, 2, 0x0, false⟩
def RING_DP_INT_STATUS_LONE : Fld := ⟨0x80050, 0x0, 0x0, 1, 1, 0x0, false⟩
def RING_DP_INT_STATUS_LOST : Fld := ⟨0x80050, 0x0, 0x0, 0, 0, 0x0, false⟩
/-- RING_DP_INT_EN (06_ring_transport.md, line 355). -/
def RING_DP_INT_EN : Fld := ⟨0x80054, 0x0, 0x0, 31, 0, 0x0, false⟩
def RING_DP_INT_EN_EN : Fld := ⟨0x80054, 0x0, 0x0, 7, 0, 0x0, false⟩
/-- RING_LANE_SEL (06_ring_transport.md, line 363). -/
def RING_LANE_SEL : Fld := ⟨0x80060, 0x0, 0x0, 31, 0, 0x0, true⟩
def RING_LANE_SEL_LANE : Fld := ⟨0x80060, 0x0, 0x0, 6, 0, 0x0, true⟩
/-- RING_LANE_LONE (06_ring_transport.md, line 371). -/
def RING_LANE_LONE : Fld := ⟨0x80064, 0x0, 0x0, 31, 0, 0x0, false⟩
/-- RING_LANE_LOST (06_ring_transport.md, line 371). -/
def RING_LANE_LOST : Fld := ⟨0x80068, 0x0, 0x0, 31, 0, 0x0, false⟩
/-- RING_LANE_LATE (06_ring_transport.md, line 371). -/
def RING_LANE_LATE : Fld := ⟨0x8006C, 0x0, 0x0, 31, 0, 0x0, false⟩
/-- RING_LANE_GROUT (06_ring_transport.md, line 371). -/
def RING_LANE_GROUT : Fld := ⟨0x80070, 0x0, 0x0, 31, 0, 0x0, false⟩
/-- RING_GROUP_SEL (06_ring_transport.md, line 378). -/
def RING_GROUP_SEL : Fld := ⟨0x80080, 0x0, 0x0, 31, 0, 0x1, true⟩
def RING_GROUP_SEL_GROUP : Fld := ⟨0x80080, 0x0, 0x0, 7, 0, 0x1, true⟩
/-- RING_GROUP_STAT (06_ring_transport.md, line 386). -/
def RING_GROUP_STAT : Fld := ⟨0x80084, 0x0, 0x0, 31, 0, 0x0, false⟩
def RING_GROUP_STAT_GROUTING : Fld := ⟨0x80084, 0x0, 0x0, 23, 16, 0x0, false⟩
def RING_GROUP_STAT_LANES : Fld := ⟨0x80084, 0x0, 0x0, 7, 0, 0x0, false⟩
/-- RING_GROUP_SPLIT (06_ring_transport.md, line 396). -/
def RING_GROUP_SPLIT : Fld := ⟨0x80088, 0x0, 0x0, 31, 0, 0x0, false⟩
/-- RING_SENDn (06_ring_transport.md, line 403). -/
def RING_SENDn : Fld := ⟨0x80300, 0x4, 0x0, 31, 0, 0x0, false⟩
def RING_SENDn_DECLARED : Fld := ⟨0x80300, 0x4, 0x0, 31, 31, 0x0, false⟩
def RING_SENDn_SOURCE : Fld := ⟨0x80300, 0x4, 0x0, 30, 30, 0x0, false⟩
def RING_SENDn_ACTIVE : Fld := ⟨0x80300, 0x4, 0x0, 29, 29, 0x0, false⟩
def RING_SENDn_CONFLICT : Fld := ⟨0x80300, 0x4, 0x0, 28, 28, 0x0, false⟩
def RING_SENDn_CHANNEL : Fld := ⟨0x80300, 0x4, 0x0, 8, 0, 0x0, false⟩
/-- RING_TAPn_STAT (06_ring_transport.md, line 415). -/
def RING_TAPn_STAT : Fld := ⟨0x80400, 0x8, 0x0, 31, 0, 0x0, false⟩
def RING_TAPn_STAT_TAPPED : Fld := ⟨0x80400, 0x8, 0x0, 31, 31, 0x0, false⟩
def RING_TAPn_STAT_OK_E : Fld := ⟨0x80400, 0x8, 0x0, 30, 30, 0x0, false⟩
def RING_TAPn_STAT_OK_W : Fld := ⟨0x80400, 0x8, 0x0, 29, 29, 0x0, false⟩
def RING_TAPn_STAT_GROUTING : Fld := ⟨0x80400, 0x8, 0x0, 28, 28, 0x0, false⟩
def RING_TAPn_STAT_SELF : Fld := ⟨0x80400, 0x8, 0x0, 27, 27, 0x0, false⟩
def RING_TAPn_STAT_GROUP : Fld := ⟨0x80400, 0x8, 0x0, 23, 16, 0x0, false⟩
def RING_TAPn_STAT_CHANNEL : Fld := ⟨0x80400, 0x8, 0x0, 8, 0, 0x0, false⟩
/-- RING_TAPn_AGE (06_ring_transport.md, line 430). -/
def RING_TAPn_AGE : Fld := ⟨0x80404, 0x8, 0x0, 31, 0, 0xFFFFFFFF, false⟩
def RING_TAPn_AGE_WEST : Fld := ⟨0x80404, 0x8, 0x0, 31, 16, 0xFFFFFFFF, false⟩
def RING_TAPn_AGE_EAST : Fld := ⟨0x80404, 0x8, 0x0, 15, 0, 0xFFFFFFFF, false⟩
/-- RING_CTL_STATUS (07_ring_control.md, line 338). -/
def RING_CTL_STATUS : Fld := ⟨0x80800, 0x0, 0x0, 31, 0, 0x0, false⟩
def RING_CTL_STATUS_DUP : Fld := ⟨0x80800, 0x0, 0x0, 31, 31, 0x0, false⟩
def RING_CTL_STATUS_STANDBY : Fld := ⟨0x80800, 0x0, 0x0, 30, 30, 0x0, false⟩
def RING_CTL_STATUS_TM : Fld := ⟨0x80800, 0x0, 0x0, 29, 29, 0x0, false⟩
def RING_CTL_STATUS_BROKEN : Fld := ⟨0x80800, 0x0, 0x0, 28, 28, 0x0, false⟩
def RING_CTL_STATUS_DSHORT : Fld := ⟨0x80800, 0x0, 0x0, 27, 27, 0x0, false⟩
def RING_CTL_STATUS_RATE_MIS : Fld := ⟨0x80800, 0x0, 0x0, 26, 26, 0x0, false⟩
def RING_CTL_STATUS_STATE : Fld := ⟨0x80800, 0x0, 0x0, 2, 0, 0x0, false⟩
/-- RING_CTL_CFG (07_ring_control.md, line 352). -/
def RING_CTL_CFG : Fld := ⟨0x80804, 0x0, 0x0, 31, 0, 0x80080, false⟩
def RING_CTL_CFG_CLASS : Fld := ⟨0x80804, 0x0, 0x0, 19, 16, 0x80080, false⟩
def RING_CTL_CFG_PRIORITY : Fld := ⟨0x80804, 0x0, 0x0, 7, 0, 0x80080, false⟩
/-- RING_CFG_PLAN (07_ring_control.md, line 362). -/
def RING_CFG_PLAN : Fld := ⟨0x80808, 0x0, 0x0, 31, 0, 0x10800080, false⟩
def RING_CFG_PLAN_RATE : Fld := ⟨0x80808, 0x0, 0x0, 29, 28, 0x10800080, false⟩
def RING_CFG_PLAN_CHANNELS : Fld := ⟨0x80808, 0x0, 0x0, 25, 16, 0x10800080, false⟩
def RING_CFG_PLAN_DELAY : Fld := ⟨0x80808, 0x0, 0x0, 11, 0, 0x10800080, false⟩
/-- RING_CFG_HOLD (07_ring_control.md, line 374). -/
def RING_CFG_HOLD : Fld := ⟨0x8080C, 0x0, 0x0, 31, 0, 0x7D0, false⟩
def RING_CFG_HOLD_HOLD_MS : Fld := ⟨0x8080C, 0x0, 0x0, 15, 0, 0x7D0, false⟩
/-- RING_CFG_EPOCH_LO (07_ring_control.md, line 382). -/
def RING_CFG_EPOCH_LO : Fld := ⟨0x80810, 0x0, 0x0, 31, 0, 0x0, false⟩
/-- RING_CFG_EPOCH_HI (07_ring_control.md, line 382). -/
def RING_CFG_EPOCH_HI : Fld := ⟨0x80814, 0x0, 0x0, 31, 0, 0x0, false⟩
/-- RING_CTL_CTRL (07_ring_control.md, line 389). -/
def RING_CTL_CTRL : Fld := ⟨0x80818, 0x0, 0x0, 31, 0, 0x0, false⟩
def RING_CTL_CTRL_SLEEP_MODE : Fld := ⟨0x80818, 0x0, 0x0, 8, 8, 0x0, false⟩
def RING_CTL_CTRL_WAKE : Fld := ⟨0x80818, 0x0, 0x0, 5, 5, 0x0, false⟩
def RING_CTL_CTRL_SLEEP : Fld := ⟨0x80818, 0x0, 0x0, 4, 4, 0x0, false⟩
def RING_CTL_CTRL_LEAVE : Fld := ⟨0x80818, 0x0, 0x0, 3, 3, 0x0, false⟩
def RING_CTL_CTRL_REROLL : Fld := ⟨0x80818, 0x0, 0x0, 2, 2, 0x0, false⟩
def RING_CTL_CTRL_TM_REQ : Fld := ⟨0x80818, 0x0, 0x0, 1, 1, 0x0, false⟩
def RING_CTL_CTRL_COMMIT : Fld := ⟨0x80818, 0x0, 0x0, 0, 0, 0x0, false⟩
/-- RING_CTL_RESULT (07_ring_control.md, line 404). -/
def RING_CTL_RESULT : Fld := ⟨0x8081C, 0x0, 0x0, 31, 0, 0x0, false⟩
def RING_CTL_RESULT_RESULT : Fld := ⟨0x8081C, 0x0, 0x0, 7, 0, 0x0, false⟩
/-- RING_TM_TARGET_LO (07_ring_control.md, line 412). -/
def RING_TM_TARGET_LO : Fld := ⟨0x80820, 0x0, 0x0, 31, 0, 0x0, false⟩
/-- RING_TM_TARGET_HI (07_ring_control.md, line 412). -/
def RING_TM_TARGET_HI : Fld := ⟨0x80824, 0x0, 0x0, 15, 0, 0x0, false⟩
/-- RING_COORD_LO (07_ring_control.md, line 419). -/
def RING_COORD_LO : Fld := ⟨0x80828, 0x0, 0x0, 31, 0, 0x0, false⟩
/-- RING_COORD_HI (07_ring_control.md, line 419). -/
def RING_COORD_HI : Fld := ⟨0x8082C, 0x0, 0x0, 31, 0, 0x0, false⟩
/-- RING_GM_LO (07_ring_control.md, line 419). -/
def RING_GM_LO : Fld := ⟨0x80830, 0x0, 0x0, 31, 0, 0x0, false⟩
/-- RING_GM_HI (07_ring_control.md, line 419). -/
def RING_GM_HI : Fld := ⟨0x80834, 0x0, 0x0, 31, 0, 0x0, false⟩
/-- RING_STANDBY_LO (07_ring_control.md, line 419). -/
def RING_STANDBY_LO : Fld := ⟨0x80838, 0x0, 0x0, 31, 0, 0x0, false⟩
/-- RING_STANDBY_HI (07_ring_control.md, line 419). -/
def RING_STANDBY_HI : Fld := ⟨0x8083C, 0x0, 0x0, 31, 0, 0x0, false⟩
/-- RING_CTL_RTT (07_ring_control.md, line 426). -/
def RING_CTL_RTT : Fld := ⟨0x80840, 0x0, 0x0, 31, 0, 0x0, false⟩
def RING_CTL_RTT_RTT : Fld := ⟨0x80840, 0x0, 0x0, 23, 0, 0x0, false⟩
/-- RING_SEG_PORTp (07_ring_control.md, line 434). -/
def RING_SEG_PORTp : Fld := ⟨0x80850, 0x4, 0x0, 31, 0, 0x0, false⟩
def RING_SEG_PORTp_LINK : Fld := ⟨0x80850, 0x4, 0x0, 31, 31, 0x0, false⟩
def RING_SEG_PORTp_IN_SERVICE : Fld := ⟨0x80850, 0x4, 0x0, 30, 30, 0x0, false⟩
def RING_SEG_PORTp_STEPPING : Fld := ⟨0x80850, 0x4, 0x0, 29, 29, 0x0, false⟩
def RING_SEG_PORTp_READY : Fld := ⟨0x80850, 0x4, 0x0, 28, 28, 0x0, false⟩
def RING_SEG_PORTp_SPEED : Fld := ⟨0x80850, 0x4, 0x0, 27, 26, 0x0, false⟩
def RING_SEG_PORTp_DROPS : Fld := ⟨0x80850, 0x4, 0x0, 23, 16, 0x0, false⟩
def RING_SEG_PORTp_HOLD_LEFT : Fld := ⟨0x80850, 0x4, 0x0, 15, 0, 0x0, false⟩
/-- RING_SEG_DOWN0 (07_ring_control.md, line 448). -/
def RING_SEG_DOWN0 : Fld := ⟨0x80858, 0x0, 0x0, 31, 0, 0xFFFFFFFF, false⟩
def RING_SEG_DOWN0_SEG_HI : Fld := ⟨0x80858, 0x0, 0x0, 31, 16, 0xFFFFFFFF, false⟩
def RING_SEG_DOWN0_SEG_LO : Fld := ⟨0x80858, 0x0, 0x0, 15, 0, 0xFFFFFFFF, false⟩
/-- RING_SEG_DOWN1 (07_ring_control.md, line 448). -/
def RING_SEG_DOWN1 : Fld := ⟨0x8085C, 0x0, 0x0, 31, 0, 0xFFFFFFFF, false⟩
def RING_SEG_DOWN1_SEG_HI : Fld := ⟨0x8085C, 0x0, 0x0, 31, 16, 0xFFFFFFFF, false⟩
def RING_SEG_DOWN1_SEG_LO : Fld := ⟨0x8085C, 0x0, 0x0, 15, 0, 0xFFFFFFFF, false⟩
/-- RING_CTL_CNT_ELECT (07_ring_control.md, line 456). -/
def RING_CTL_CNT_ELECT : Fld := ⟨0x80860, 0x0, 0x0, 31, 0, 0x0, false⟩
/-- RING_CTL_CNT_TAKEOVER (07_ring_control.md, line 456). -/
def RING_CTL_CNT_TAKEOVER : Fld := ⟨0x80864, 0x0, 0x0, 31, 0, 0x0, false⟩
/-- RING_CTL_CNT_STEP (07_ring_control.md, line 456). -/
def RING_CTL_CNT_STEP : Fld := ⟨0x80868, 0x0, 0x0, 31, 0, 0x0, false⟩
/-- RING_CTL_CNT_PLAN_LATE (07_ring_control.md, line 456). -/
def RING_CTL_CNT_PLAN_LATE : Fld := ⟨0x8086C, 0x0, 0x0, 31, 0, 0x0, false⟩
/-- RING_CTL_CNT_BAD (07_ring_control.md, line 456). -/
def RING_CTL_CNT_BAD : Fld := ⟨0x80870, 0x0, 0x0, 31, 0, 0x0, false⟩
/-- RING_CTL_INT_STATUS (07_ring_control.md, line 463). -/
def RING_CTL_INT_STATUS : Fld := ⟨0x80880, 0x0, 0x0, 31, 0, 0x0, false⟩
def RING_CTL_INT_STATUS_WAKE : Fld := ⟨0x80880, 0x0, 0x0, 7, 7, 0x0, false⟩
def RING_CTL_INT_STATUS_STEP : Fld := ⟨0x80880, 0x0, 0x0, 6, 6, 0x0, false⟩
def RING_CTL_INT_STATUS_TM_CHG : Fld := ⟨0x80880, 0x0, 0x0, 5, 5, 0x0, false⟩
def RING_CTL_INT_STATUS_COORD_CHG : Fld := ⟨0x80880, 0x0, 0x0, 4, 4, 0x0, false⟩
def RING_CTL_INT_STATUS_DUP : Fld := ⟨0x80880, 0x0, 0x0, 3, 3, 0x0, false⟩
def RING_CTL_INT_STATUS_SEGMENT : Fld := ⟨0x80880, 0x0, 0x0, 2, 2, 0x0, false⟩
def RING_CTL_INT_STATUS_RESULT : Fld := ⟨0x80880, 0x0, 0x0, 1, 1, 0x0, false⟩
def RING_CTL_INT_STATUS_STATE : Fld := ⟨0x80880, 0x0, 0x0, 0, 0, 0x0, false⟩
/-- RING_CTL_INT_EN (07_ring_control.md, line 478). -/
def RING_CTL_INT_EN : Fld := ⟨0x80884, 0x0, 0x0, 31, 0, 0x0, false⟩
def RING_CTL_INT_EN_EN : Fld := ⟨0x80884, 0x0, 0x0, 7, 0, 0x0, false⟩
/-- PORT_Pp_CFG (08_ports_mac.md, line 236). -/
def PORT_Pp_CFG : Fld := ⟨0x90000, 0x20, 0x0, 31, 0, 0x41, false⟩
def PORT_Pp_CFG_PAUSE_HONOUR : Fld := ⟨0x90000, 0x20, 0x0, 6, 6, 0x41, false⟩
def PORT_Pp_CFG_AUTO_LOW : Fld := ⟨0x90000, 0x20, 0x0, 5, 5, 0x41, false⟩
def PORT_Pp_CFG_EEE : Fld := ⟨0x90000, 0x20, 0x0, 4, 4, 0x41, false⟩
def PORT_Pp_CFG_MODE : Fld := ⟨0x90000, 0x20, 0x0, 3, 1, 0x41, false⟩
def PORT_Pp_CFG_EN : Fld := ⟨0x90000, 0x20, 0x0, 0, 0, 0x41, false⟩
/-- PORT_Pp_LINK (08_ports_mac.md, line 248). -/
def PORT_Pp_LINK : Fld := ⟨0x90004, 0x20, 0x0, 31, 0, 0xFFFF, false⟩
def PORT_Pp_LINK_LINK : Fld := ⟨0x90004, 0x20, 0x0, 31, 31, 0xFFFF, false⟩
def PORT_Pp_LINK_SPEED : Fld := ⟨0x90004, 0x20, 0x0, 30, 29, 0xFFFF, false⟩
def PORT_Pp_LINK_CORBEL : Fld := ⟨0x90004, 0x20, 0x0, 28, 28, 0xFFFF, false⟩
def PORT_Pp_LINK_LPI : Fld := ⟨0x90004, 0x20, 0x0, 27, 27, 0xFFFF, false⟩
def PORT_Pp_LINK_PAUSED : Fld := ⟨0x90004, 0x20, 0x0, 26, 26, 0xFFFF, false⟩
def PORT_Pp_LINK_LOAD : Fld := ⟨0x90004, 0x20, 0x0, 25, 16, 0xFFFF, false⟩
def PORT_Pp_LINK_DELAY_NS : Fld := ⟨0x90004, 0x20, 0x0, 15, 0, 0xFFFF, false⟩
/-- PORT_Pp_SPEED (08_ports_mac.md, line 261). -/
def PORT_Pp_SPEED : Fld := ⟨0x90008, 0x20, 0x0, 31, 0, 0x12C3C1E, false⟩
def PORT_Pp_SPEED_HOLD_S : Fld := ⟨0x90008, 0x20, 0x0, 27, 16, 0x12C3C1E, false⟩
def PORT_Pp_SPEED_RAISE_PCT : Fld := ⟨0x90008, 0x20, 0x0, 15, 8, 0x12C3C1E, false⟩
def PORT_Pp_SPEED_LOW_PCT : Fld := ⟨0x90008, 0x20, 0x0, 7, 0, 0x12C3C1E, false⟩
/-- PORT_Pp_PAUSE (08_ports_mac.md, line 271). -/
def PORT_Pp_PAUSE : Fld := ⟨0x9000C, 0x20, 0x0, 31, 0, 0xA03E8, false⟩
def PORT_Pp_PAUSE_LIMIT_MS : Fld := ⟨0x9000C, 0x20, 0x0, 25, 16, 0xA03E8, false⟩
def PORT_Pp_PAUSE_RECOVER_MS : Fld := ⟨0x9000C, 0x20, 0x0, 15, 0, 0xA03E8, false⟩
/-- PORT_BR_CFG (08_ports_mac.md, line 280). -/
def PORT_BR_CFG : Fld := ⟨0x90080, 0x0, 0x0, 31, 0, 0x0, false⟩
def PORT_BR_CFG_AVDECC_WR : Fld := ⟨0x90080, 0x0, 0x0, 1, 1, 0x0, false⟩
def PORT_BR_CFG_AVDECC : Fld := ⟨0x90080, 0x0, 0x0, 0, 0, 0x0, false⟩
/-- PORT_STAT_CTRL (08_ports_mac.md, line 289). -/
def PORT_STAT_CTRL : Fld := ⟨0x90090, 0x0, 0x0, 31, 0, 0x0, false⟩
def PORT_STAT_CTRL_LOCAL : Fld := ⟨0x90090, 0x0, 0x0, 1, 1, 0x0, false⟩
def PORT_STAT_CTRL_SEND : Fld := ⟨0x90090, 0x0, 0x0, 0, 0, 0x0, false⟩
/-- PORT_SNAP_TICK_LO (08_ports_mac.md, line 298). -/
def PORT_SNAP_TICK_LO : Fld := ⟨0x90094, 0x0, 0x0, 31, 0, 0x0, false⟩
/-- PORT_SNAP_TICK_HI (08_ports_mac.md, line 298). -/
def PORT_SNAP_TICK_HI : Fld := ⟨0x90098, 0x0, 0x0, 31, 0, 0x0, false⟩
/-- PORT_SNAP_ID (08_ports_mac.md, line 305). -/
def PORT_SNAP_ID : Fld := ⟨0x9009C, 0x0, 0x0, 31, 0, 0x1, false⟩
/-- PORT_SNAP_STATUS (08_ports_mac.md, line 312). -/
def PORT_SNAP_STATUS : Fld := ⟨0x900A0, 0x0, 0x0, 31, 0, 0x0, false⟩
def PORT_SNAP_STATUS_STATE : Fld := ⟨0x900A0, 0x0, 0x0, 2, 0, 0x0, false⟩
/-- PORT_SNAP_LAST_ID (08_ports_mac.md, line 320). -/
def PORT_SNAP_LAST_ID : Fld := ⟨0x900A4, 0x0, 0x0, 31, 0, 0x0, false⟩
/-- PORT_SNAP_BANK_ID (08_ports_mac.md, line 320). -/
def PORT_SNAP_BANK_ID : Fld := ⟨0x900A8, 0x0, 0x0, 31, 0, 0x0, false⟩
/-- PORT_SNAP_BANK_TICK_LO (08_ports_mac.md, line 327). -/
def PORT_SNAP_BANK_TICK_LO : Fld := ⟨0x900AC, 0x0, 0x0, 31, 0, 0x0, false⟩
/-- PORT_SNAP_BANK_TICK_HI (08_ports_mac.md, line 327). -/
def PORT_SNAP_BANK_TICK_HI : Fld := ⟨0x900B0, 0x0, 0x0, 31, 0, 0x0, false⟩
/-- PORT_INT_STATUS (08_ports_mac.md, line 334). -/
def PORT_INT_STATUS : Fld := ⟨0x900C0, 0x0, 0x0, 31, 0, 0x0, false⟩
def PORT_INT_STATUS_AAF : Fld := ⟨0x900C0, 0x0, 0x0, 6, 6, 0x0, false⟩
def PORT_INT_STATUS_SPEED_REQ : Fld := ⟨0x900C0, 0x0, 0x0, 5, 5, 0x0, false⟩
def PORT_INT_STATUS_PAUSE_BREAK : Fld := ⟨0x900C0, 0x0, 0x0, 4, 4, 0x0, false⟩
def PORT_INT_STATUS_LINK_CHG : Fld := ⟨0x900C0, 0x0, 0x0, 3, 3, 0x0, false⟩
def PORT_INT_STATUS_HALF : Fld := ⟨0x900C0, 0x0, 0x0, 2, 2, 0x0, false⟩
def PORT_INT_STATUS_SNAP_MISSED : Fld := ⟨0x900C0, 0x0, 0x0, 1, 1, 0x0, false⟩
def PORT_INT_STATUS_SNAP_FIRED : Fld := ⟨0x900C0, 0x0, 0x0, 0, 0, 0x0, false⟩
/-- PORT_INT_EN (08_ports_mac.md, line 348). -/
def PORT_INT_EN : Fld := ⟨0x900C4, 0x0, 0x0, 31, 0, 0x0, false⟩
def PORT_INT_EN_EN : Fld := ⟨0x900C4, 0x0, 0x0, 6, 0, 0x0, false⟩
/-- PORT_STAT_HALFm_LO (08_ports_mac.md, line 356). -/
def PORT_STAT_HALFm_LO : Fld := ⟨0x90100, 0x8, 0x0, 31, 0, 0x0, false⟩
/-- PORT_STAT_HALFm_HI (08_ports_mac.md, line 356). -/
def PORT_STAT_HALFm_HI : Fld := ⟨0x90104, 0x8, 0x0, 31, 0, 0x0, false⟩
/-- PORT_STAT_HALF_EN (08_ports_mac.md, line 363). -/
def PORT_STAT_HALF_EN : Fld := ⟨0x90120, 0x0, 0x0, 31, 0, 0x0, false⟩
def PORT_STAT_HALF_EN_EN : Fld := ⟨0x90120, 0x0, 0x0, 3, 0, 0x0, false⟩
/-- PORT_AAFs_CFG (08_ports_mac.md, line 371). -/
def PORT_AAFs_CFG : Fld := ⟨0x90200, 0x20, 0x0, 31, 0, 0x0, false⟩
def PORT_AAFs_CFG_EN : Fld := ⟨0x90200, 0x20, 0x0, 31, 31, 0x0, false⟩
def PORT_AAFs_CFG_FMT : Fld := ⟨0x90200, 0x20, 0x0, 30, 30, 0x0, false⟩
def PORT_AAFs_CFG_RATE : Fld := ⟨0x90200, 0x20, 0x0, 29, 29, 0x0, false⟩
def PORT_AAFs_CFG_CHANNELS : Fld := ⟨0x90200, 0x20, 0x0, 28, 22, 0x0, false⟩
def PORT_AAFs_CFG_PCP : Fld := ⟨0x90200, 0x20, 0x0, 21, 19, 0x0, false⟩
def PORT_AAFs_CFG_VID : Fld := ⟨0x90200, 0x20, 0x0, 11, 0, 0x0, false⟩
/-- PORT_AAFs_SID_LO (08_ports_mac.md, line 371). -/
def PORT_AAFs_SID_LO : Fld := ⟨0x90204, 0x20, 0x0, 31, 0, 0x0, false⟩
/-- PORT_AAFs_SID_HI (08_ports_mac.md, line 371). -/
def PORT_AAFs_SID_HI : Fld := ⟨0x90208, 0x20, 0x0, 31, 0, 0x0, false⟩
/-- PORT_AAFs_DMAC_LO (08_ports_mac.md, line 371). -/
def PORT_AAFs_DMAC_LO : Fld := ⟨0x9020C, 0x20, 0x0, 31, 0, 0x0, false⟩
/-- PORT_AAFs_DMAC_HI (08_ports_mac.md, line 371). -/
def PORT_AAFs_DMAC_HI : Fld := ⟨0x90210, 0x20, 0x0, 31, 0, 0x0, false⟩
def PORT_AAFs_DMAC_HI_DMAC : Fld := ⟨0x90210, 0x20, 0x0, 15, 0, 0x0, false⟩
/-- PORT_AAFs_TRANSIT (08_ports_mac.md, line 386). -/
def PORT_AAFs_TRANSIT : Fld := ⟨0x90214, 0x20, 0x0, 31, 0, 0x7D0, false⟩
def PORT_AAFs_TRANSIT_TRANSIT : Fld := ⟨0x90214, 0x20, 0x0, 13, 0, 0x7D0, false⟩
/-- PORT_AAFs_STAT (08_ports_mac.md, line 394). -/
def PORT_AAFs_STAT : Fld := ⟨0x90218, 0x20, 0x0, 31, 0, 0x0, false⟩
def PORT_AAFs_STAT_ACTIVE : Fld := ⟨0x90218, 0x20, 0x0, 31, 31, 0x0, false⟩
def PORT_AAFs_STAT_BAD : Fld := ⟨0x90218, 0x20, 0x0, 30, 16, 0x0, false⟩
def PORT_AAFs_STAT_GAPS : Fld := ⟨0x90218, 0x20, 0x0, 15, 0, 0x0, false⟩
/-- PORT_CNTm_i (08_ports_mac.md, line 403). -/
def PORT_CNTm_i : Fld := ⟨0x91000, 0x100, 0x4, 31, 0, 0x0, false⟩
/-- PORT_SNAPm_i (08_ports_mac.md, line 403). -/
def PORT_SNAPm_i : Fld := ⟨0x91400, 0x100, 0x4, 31, 0, 0x0, false⟩
/-- PORT_SNAPX_j (08_ports_mac.md, line 410). -/
def PORT_SNAPX_j : Fld := ⟨0x91800, 0x4, 0x0, 31, 0, 0x0, false⟩
/-- SBUS_CFG (08_ports_mac.md, line 421). -/
def SBUS_CFG : Fld := ⟨0xA0000, 0x0, 0x0, 31, 0, 0x200803, false⟩
def SBUS_CFG_BURST : Fld := ⟨0xA0000, 0x0, 0x0, 27, 24, 0x200803, false⟩
def SBUS_CFG_TO_TIMER : Fld := ⟨0xA0000, 0x0, 0x0, 23, 16, 0x200803, false⟩
def SBUS_CFG_NODE_COUNT : Fld := ⟨0xA0000, 0x0, 0x0, 11, 8, 0x200803, false⟩
def SBUS_CFG_MCAST : Fld := ⟨0xA0000, 0x0, 0x0, 5, 5, 0x200803, false⟩
def SBUS_CFG_NODE_ID : Fld := ⟨0xA0000, 0x0, 0x0, 4, 2, 0x200803, false⟩
def SBUS_CFG_PLCA : Fld := ⟨0xA0000, 0x0, 0x0, 1, 1, 0x200803, false⟩
def SBUS_CFG_EN : Fld := ⟨0xA0000, 0x0, 0x0, 0, 0, 0x200803, false⟩
/-- SBUS_STATUS (08_ports_mac.md, line 437). -/
def SBUS_STATUS : Fld := ⟨0xA0004, 0x0, 0x0, 31, 0, 0x0, false⟩
def SBUS_STATUS_CSMA : Fld := ⟨0xA0004, 0x0, 0x0, 2, 2, 0x0, false⟩
def SBUS_STATUS_PLCA_OK : Fld := ⟨0xA0004, 0x0, 0x0, 1, 1, 0x0, false⟩
def SBUS_STATUS_ACTIVE : Fld := ⟨0xA0004, 0x0, 0x0, 0, 0, 0x0, false⟩
/-- SBUS_TX_BASE (08_ports_mac.md, line 447). -/
def SBUS_TX_BASE : Fld := ⟨0xA0010, 0x0, 0x0, 31, 0, 0x0, false⟩
/-- SBUS_TX_HEAD (08_ports_mac.md, line 454). -/
def SBUS_TX_HEAD : Fld := ⟨0xA0014, 0x0, 0x0, 31, 0, 0x0, false⟩
def SBUS_TX_HEAD_INDEX : Fld := ⟨0xA0014, 0x0, 0x0, 5, 0, 0x0, false⟩
/-- SBUS_TX_TAIL (08_ports_mac.md, line 454). -/
def SBUS_TX_TAIL : Fld := ⟨0xA0018, 0x0, 0x0, 31, 0, 0x0, false⟩
def SBUS_TX_TAIL_INDEX : Fld := ⟨0xA0018, 0x0, 0x0, 5, 0, 0x0, false⟩
/-- SBUS_RX_BASE (08_ports_mac.md, line 447). -/
def SBUS_RX_BASE : Fld := ⟨0xA0020, 0x0, 0x0, 31, 0, 0x0, false⟩
/-- SBUS_RX_HEAD (08_ports_mac.md, line 454). -/
def SBUS_RX_HEAD : Fld := ⟨0xA0024, 0x0, 0x0, 31, 0, 0x0, false⟩
def SBUS_RX_HEAD_INDEX : Fld := ⟨0xA0024, 0x0, 0x0, 5, 0, 0x0, false⟩
/-- SBUS_RX_TAIL (08_ports_mac.md, line 454). -/
def SBUS_RX_TAIL : Fld := ⟨0xA0028, 0x0, 0x0, 31, 0, 0x0, false⟩
def SBUS_RX_TAIL_INDEX : Fld := ⟨0xA0028, 0x0, 0x0, 5, 0, 0x0, false⟩
/-- SBUS_INT_STATUS (08_ports_mac.md, line 462). -/
def SBUS_INT_STATUS : Fld := ⟨0xA0030, 0x0, 0x0, 31, 0, 0x0, false⟩
def SBUS_INT_STATUS_PLCA_CHG : Fld := ⟨0xA0030, 0x0, 0x0, 3, 3, 0x0, false⟩
def SBUS_INT_STATUS_TX_ERR : Fld := ⟨0xA0030, 0x0, 0x0, 2, 2, 0x0, false⟩
def SBUS_INT_STATUS_TX_DONE : Fld := ⟨0xA0030, 0x0, 0x0, 1, 1, 0x0, false⟩
def SBUS_INT_STATUS_RX : Fld := ⟨0xA0030, 0x0, 0x0, 0, 0, 0x0, false⟩
/-- SBUS_INT_EN (08_ports_mac.md, line 473). -/
def SBUS_INT_EN : Fld := ⟨0xA0034, 0x0, 0x0, 31, 0, 0x0, false⟩
def SBUS_INT_EN_EN : Fld := ⟨0xA0034, 0x0, 0x0, 3, 0, 0x0, false⟩
/-- SAPn_CFG (11_audio_io.md, line 386). -/
def SAPn_CFG : Fld := ⟨0xB0000, 0x100, 0x0, 31, 0, 0x90002, false⟩
def SAPn_CFG_EN : Fld := ⟨0xB0000, 0x100, 0x0, 31, 31, 0x90002, false⟩
def SAPn_CFG_LEADER : Fld := ⟨0xB0000, 0x100, 0x0, 30, 30, 0x90002, false⟩
def SAPn_CFG_FORMAT : Fld := ⟨0xB0000, 0x100, 0x0, 29, 29, 0x90002, false⟩
def SAPn_CFG_TRISTATE : Fld := ⟨0xB0000, 0x100, 0x0, 28, 28, 0x90002, false⟩
def SAPn_CFG_FS_POL : Fld := ⟨0xB0000, 0x100, 0x0, 27, 27, 0x90002, false⟩
def SAPn_CFG_BCLK_EDGE : Fld := ⟨0xB0000, 0x100, 0x0, 26, 26, 0x90002, false⟩
def SAPn_CFG_FS_WIDTH : Fld := ⟨0xB0000, 0x100, 0x0, 25, 24, 0x90002, false⟩
def SAPn_CFG_DELAY : Fld := ⟨0xB0000, 0x100, 0x0, 23, 23, 0x90002, false⟩
def SAPn_CFG_SLOT_BITS : Fld := ⟨0xB0000, 0x100, 0x0, 19, 18, 0x90002, false⟩
def SAPn_CFG_DATA_BITS : Fld := ⟨0xB0000, 0x100, 0x0, 17, 16, 0x90002, false⟩
def SAPn_CFG_SLOTS : Fld := ⟨0xB0000, 0x100, 0x0, 5, 0, 0x90002, false⟩
/-- SAPn_STAT (11_audio_io.md, line 405). -/
def SAPn_STAT : Fld := ⟨0xB0004, 0x100, 0x0, 31, 0, 0x0, false⟩
def SAPn_STAT_LOCK : Fld := ⟨0xB0004, 0x100, 0x0, 31, 31, 0x0, false⟩
def SAPn_STAT_RUN : Fld := ⟨0xB0004, 0x100, 0x0, 30, 30, 0x0, false⟩
def SAPn_STAT_RATE_BAD : Fld := ⟨0xB0004, 0x100, 0x0, 29, 29, 0x0, false⟩
def SAPn_STAT_CFG_BAD : Fld := ⟨0xB0004, 0x100, 0x0, 28, 28, 0x0, false⟩
def SAPn_STAT_CLASS : Fld := ⟨0xB0004, 0x100, 0x0, 23, 20, 0x0, false⟩
/-- SAPn_RATE (11_audio_io.md, line 418). -/
def SAPn_RATE : Fld := ⟨0xB0008, 0x100, 0x0, 31, 0, 0x0, false⟩
def SAPn_RATE_RATE : Fld := ⟨0xB0008, 0x100, 0x0, 24, 0, 0x0, false⟩
/-- SAPn_RATE_REF (11_audio_io.md, line 418). -/
def SAPn_RATE_REF : Fld := ⟨0xB000C, 0x100, 0x0, 31, 0, 0x0, false⟩
def SAPn_RATE_REF_RATE : Fld := ⟨0xB000C, 0x100, 0x0, 24, 0, 0x0, false⟩
/-- SAPn_ERR (11_audio_io.md, line 426). -/
def SAPn_ERR : Fld := ⟨0xB0010, 0x100, 0x0, 31, 0, 0x0, false⟩
def SAPn_ERR_FRAME : Fld := ⟨0xB0010, 0x100, 0x0, 31, 16, 0x0, false⟩
def SAPn_ERR_LOSS : Fld := ⟨0xB0010, 0x100, 0x0, 15, 0, 0x0, false⟩
/-- SAPn_RXOWN (11_audio_io.md, line 434). -/
def SAPn_RXOWN : Fld := ⟨0xB0014, 0x100, 0x0, 31, 0, 0x0, false⟩
/-- SAPn_TXOWN (11_audio_io.md, line 434). -/
def SAPn_TXOWN : Fld := ⟨0xB0018, 0x100, 0x0, 31, 0, 0x0, false⟩
/-- SAPn_CAP_CFG (11_audio_io.md, line 441). -/
def SAPn_CAP_CFG : Fld := ⟨0xB0020, 0x100, 0x0, 31, 0, 0x0, false⟩
def SAPn_CAP_CFG_EN : Fld := ⟨0xB0020, 0x100, 0x0, 31, 31, 0x0, false⟩
def SAPn_CAP_CFG_PACK : Fld := ⟨0xB0020, 0x100, 0x0, 30, 30, 0x0, false⟩
def SAPn_CAP_CFG_IRQ_FRAMES : Fld := ⟨0xB0020, 0x100, 0x0, 15, 0, 0x0, false⟩
/-- SAPn_CAP_MASK (11_audio_io.md, line 451). -/
def SAPn_CAP_MASK : Fld := ⟨0xB0024, 0x100, 0x0, 31, 0, 0x0, false⟩
/-- SAPn_CAP_BASE (11_audio_io.md, line 451). -/
def SAPn_CAP_BASE : Fld := ⟨0xB0028, 0x100, 0x0, 31, 0, 0x0, false⟩
/-- SAPn_CAP_FRAMES (11_audio_io.md, line 458). -/
def SAPn_CAP_FRAMES : Fld := ⟨0xB002C, 0x100, 0x0, 31, 0, 0x0, false⟩
def SAPn_CAP_FRAMES_FRAMES : Fld := ⟨0xB002C, 0x100, 0x0, 19, 0, 0x0, false⟩
/-- SAPn_CAP_WR (11_audio_io.md, line 466). -/
def SAPn_CAP_WR : Fld := ⟨0xB0030, 0x100, 0x0, 31, 0, 0x0, false⟩
/-- SAPn_CAP_RD (11_audio_io.md, line 466). -/
def SAPn_CAP_RD : Fld := ⟨0xB0034, 0x100, 0x0, 31, 0, 0x0, false⟩
/-- SAPn_CAP_STAT (11_audio_io.md, line 473). -/
def SAPn_CAP_STAT : Fld := ⟨0xB0038, 0x100, 0x0, 31, 0, 0x0, false⟩
def SAPn_CAP_STAT_STOPPED : Fld := ⟨0xB0038, 0x100, 0x0, 31, 31, 0x0, false⟩
def SAPn_CAP_STAT_CONFLICT : Fld := ⟨0xB0038, 0x100, 0x0, 30, 30, 0x0, false⟩
def SAPn_CAP_STAT_OVERRUN : Fld := ⟨0xB0038, 0x100, 0x0, 15, 0, 0x0, false⟩
/-- SAPn_CAP_MARK (11_audio_io.md, line 483). -/
def SAPn_CAP_MARK : Fld := ⟨0xB003C, 0x100, 0x0, 31, 0, 0x0, false⟩
/-- SAPn_CAP_MARK_TICK_LO (11_audio_io.md, line 483). -/
def SAPn_CAP_MARK_TICK_LO : Fld := ⟨0xB0040, 0x100, 0x0, 31, 0, 0x0, false⟩
/-- SAPn_CAP_MARK_TICK_HI (11_audio_io.md, line 483). -/
def SAPn_CAP_MARK_TICK_HI : Fld := ⟨0xB0044, 0x100, 0x0, 31, 0, 0x0, false⟩
/-- SAPn_PB_CFG (11_audio_io.md, line 441). -/
def SAPn_PB_CFG : Fld := ⟨0xB0050, 0x100, 0x0, 31, 0, 0x0, false⟩
def SAPn_PB_CFG_EN : Fld := ⟨0xB0050, 0x100, 0x0, 31, 31, 0x0, false⟩
def SAPn_PB_CFG_PACK : Fld := ⟨0xB0050, 0x100, 0x0, 30, 30, 0x0, false⟩
def SAPn_PB_CFG_IRQ_FRAMES : Fld := ⟨0xB0050, 0x100, 0x0, 15, 0, 0x0, false⟩
/-- SAPn_PB_MASK (11_audio_io.md, line 451). -/
def SAPn_PB_MASK : Fld := ⟨0xB0054, 0x100, 0x0, 31, 0, 0x0, false⟩
/-- SAPn_PB_BASE (11_audio_io.md, line 451). -/
def SAPn_PB_BASE : Fld := ⟨0xB0058, 0x100, 0x0, 31, 0, 0x0, false⟩
/-- SAPn_PB_FRAMES (11_audio_io.md, line 458). -/
def SAPn_PB_FRAMES : Fld := ⟨0xB005C, 0x100, 0x0, 31, 0, 0x0, false⟩
def SAPn_PB_FRAMES_FRAMES : Fld := ⟨0xB005C, 0x100, 0x0, 19, 0, 0x0, false⟩
/-- SAPn_PB_WR (11_audio_io.md, line 466). -/
def SAPn_PB_WR : Fld := ⟨0xB0060, 0x100, 0x0, 31, 0, 0x0, false⟩
/-- SAPn_PB_RD (11_audio_io.md, line 466). -/
def SAPn_PB_RD : Fld := ⟨0xB0064, 0x100, 0x0, 31, 0, 0x0, false⟩
/-- SAPn_PB_STAT (11_audio_io.md, line 473). -/
def SAPn_PB_STAT : Fld := ⟨0xB0068, 0x100, 0x0, 31, 0, 0x0, false⟩
def SAPn_PB_STAT_STOPPED : Fld := ⟨0xB0068, 0x100, 0x0, 31, 31, 0x0, false⟩
def SAPn_PB_STAT_CONFLICT : Fld := ⟨0xB0068, 0x100, 0x0, 30, 30, 0x0, false⟩
def SAPn_PB_STAT_UNDERRUN : Fld := ⟨0xB0068, 0x100, 0x0, 15, 0, 0x0, false⟩
/-- SAPn_PB_MARK (11_audio_io.md, line 483). -/
def SAPn_PB_MARK : Fld := ⟨0xB006C, 0x100, 0x0, 31, 0, 0x0, false⟩
/-- SAPn_PB_MARK_TICK_LO (11_audio_io.md, line 483). -/
def SAPn_PB_MARK_TICK_LO : Fld := ⟨0xB0070, 0x100, 0x0, 31, 0, 0x0, false⟩
/-- SAPn_PB_MARK_TICK_HI (11_audio_io.md, line 483). -/
def SAPn_PB_MARK_TICK_HI : Fld := ⟨0xB0074, 0x100, 0x0, 31, 0, 0x0, false⟩
/-- SAP_INT_STATUS (11_audio_io.md, line 490). -/
def SAP_INT_STATUS : Fld := ⟨0xB0300, 0x0, 0x0, 31, 0, 0x0, false⟩
def SAP_INT_STATUS_PB_UNDER0 : Fld := ⟨0xB0300, 0x0, 0x0, 5, 5, 0x0, false⟩
def SAP_INT_STATUS_PB_UNDER1 : Fld := ⟨0xB0300, 0x0, 0x0, 11, 11, 0x0, false⟩
def SAP_INT_STATUS_PB_UNDER2 : Fld := ⟨0xB0300, 0x0, 0x0, 17, 17, 0x0, false⟩
def SAP_INT_STATUS_PB0 : Fld := ⟨0xB0300, 0x0, 0x0, 4, 4, 0x0, false⟩
def SAP_INT_STATUS_PB1 : Fld := ⟨0xB0300, 0x0, 0x0, 10, 10, 0x0, false⟩
def SAP_INT_STATUS_PB2 : Fld := ⟨0xB0300, 0x0, 0x0, 16, 16, 0x0, false⟩
def SAP_INT_STATUS_CAP_OVR0 : Fld := ⟨0xB0300, 0x0, 0x0, 3, 3, 0x0, false⟩
def SAP_INT_STATUS_CAP_OVR1 : Fld := ⟨0xB0300, 0x0, 0x0, 9, 9, 0x0, false⟩
def SAP_INT_STATUS_CAP_OVR2 : Fld := ⟨0xB0300, 0x0, 0x0, 15, 15, 0x0, false⟩
def SAP_INT_STATUS_CAP0 : Fld := ⟨0xB0300, 0x0, 0x0, 2, 2, 0x0, false⟩
def SAP_INT_STATUS_CAP1 : Fld := ⟨0xB0300, 0x0, 0x0, 8, 8, 0x0, false⟩
def SAP_INT_STATUS_CAP2 : Fld := ⟨0xB0300, 0x0, 0x0, 14, 14, 0x0, false⟩
def SAP_INT_STATUS_LOCK_CHG0 : Fld := ⟨0xB0300, 0x0, 0x0, 1, 1, 0x0, false⟩
def SAP_INT_STATUS_LOCK_CHG1 : Fld := ⟨0xB0300, 0x0, 0x0, 7, 7, 0x0, false⟩
def SAP_INT_STATUS_LOCK_CHG2 : Fld := ⟨0xB0300, 0x0, 0x0, 13, 13, 0x0, false⟩
def SAP_INT_STATUS_RATE_CHG0 : Fld := ⟨0xB0300, 0x0, 0x0, 0, 0, 0x0, false⟩
def SAP_INT_STATUS_RATE_CHG1 : Fld := ⟨0xB0300, 0x0, 0x0, 6, 6, 0x0, false⟩
def SAP_INT_STATUS_RATE_CHG2 : Fld := ⟨0xB0300, 0x0, 0x0, 12, 12, 0x0, false⟩
/-- SAP_INT_EN (11_audio_io.md, line 503). -/
def SAP_INT_EN : Fld := ⟨0xB0304, 0x0, 0x0, 31, 0, 0x0, false⟩
def SAP_INT_EN_EN : Fld := ⟨0xB0304, 0x0, 0x0, 17, 0, 0x0, false⟩
/-- ANA_STATUS (11_audio_io.md, line 227). -/
def ANA_STATUS : Fld := ⟨0xC0000, 0x0, 0x0, 31, 0, 0x0, false⟩
def ANA_STATUS_SETTLING : Fld := ⟨0xC0000, 0x0, 0x0, 11, 8, 0x0, false⟩
def ANA_STATUS_CP_OK : Fld := ⟨0xC0000, 0x0, 0x0, 0, 0, 0x0, false⟩
/-- ANA_CTRL (11_audio_io.md, line 237). -/
def ANA_CTRL : Fld := ⟨0xC0004, 0x0, 0x0, 31, 0, 0x0, false⟩
def ANA_CTRL_CNT_CLR : Fld := ⟨0xC0004, 0x0, 0x0, 1, 1, 0x0, false⟩
def ANA_CTRL_ADC_SYNC : Fld := ⟨0xC0004, 0x0, 0x0, 0, 0, 0x0, false⟩
/-- ANA_ADCn_CFG (11_audio_io.md, line 246). -/
def ANA_ADCn_CFG : Fld := ⟨0xC0010, 0x4, 0x0, 31, 0, 0x0, false⟩
def ANA_ADCn_CFG_JACK_MUTE : Fld := ⟨0xC0010, 0x4, 0x0, 8, 8, 0x0, false⟩
def ANA_ADCn_CFG_RANGE : Fld := ⟨0xC0010, 0x4, 0x0, 7, 7, 0x0, false⟩
def ANA_ADCn_CFG_GAIN : Fld := ⟨0xC0010, 0x4, 0x0, 5, 0, 0x0, false⟩
/-- ANA_ADCn_STAT (11_audio_io.md, line 257). -/
def ANA_ADCn_STAT : Fld := ⟨0xC0020, 0x4, 0x0, 31, 0, 0x0, false⟩
def ANA_ADCn_STAT_SETTLING : Fld := ⟨0xC0020, 0x4, 0x0, 31, 31, 0x0, false⟩
def ANA_ADCn_STAT_RAMPING : Fld := ⟨0xC0020, 0x4, 0x0, 30, 30, 0x0, false⟩
def ANA_ADCn_STAT_GAIN_PEND : Fld := ⟨0xC0020, 0x4, 0x0, 29, 29, 0x0, false⟩
def ANA_ADCn_STAT_MUTED : Fld := ⟨0xC0020, 0x4, 0x0, 28, 28, 0x0, false⟩
def ANA_ADCn_STAT_OVL : Fld := ⟨0xC0020, 0x4, 0x0, 15, 0, 0x0, false⟩
/-- ANA_OUTn_CFG (11_audio_io.md, line 269). -/
def ANA_OUTn_CFG : Fld := ⟨0xC0040, 0x10, 0x0, 31, 0, 0x1E00000, false⟩
def ANA_OUTn_CFG_RAMP : Fld := ⟨0xC0040, 0x10, 0x0, 28, 16, 0x1E00000, false⟩
def ANA_OUTn_CFG_JACK_MUTE : Fld := ⟨0xC0040, 0x10, 0x0, 9, 9, 0x1E00000, false⟩
def ANA_OUTn_CFG_LEVEL : Fld := ⟨0xC0040, 0x10, 0x0, 1, 0, 0x1E00000, false⟩
/-- ANA_OUTn_CTRL (11_audio_io.md, line 281). -/
def ANA_OUTn_CTRL : Fld := ⟨0xC0044, 0x10, 0x0, 31, 0, 0x0, false⟩
def ANA_OUTn_CTRL_STOP : Fld := ⟨0xC0044, 0x10, 0x0, 1, 1, 0x0, false⟩
def ANA_OUTn_CTRL_START : Fld := ⟨0xC0044, 0x10, 0x0, 0, 0, 0x0, false⟩
/-- ANA_OUTn_STAT (11_audio_io.md, line 290). -/
def ANA_OUTn_STAT : Fld := ⟨0xC0048, 0x10, 0x0, 31, 0, 0x0, false⟩
def ANA_OUTn_STAT_SHORT : Fld := ⟨0xC0048, 0x10, 0x0, 31, 31, 0x0, false⟩
def ANA_OUTn_STAT_JACK : Fld := ⟨0xC0048, 0x10, 0x0, 30, 30, 0x0, false⟩
def ANA_OUTn_STAT_RAMP : Fld := ⟨0xC0048, 0x10, 0x0, 29, 28, 0x0, false⟩
def ANA_OUTn_STAT_STATE : Fld := ⟨0xC0048, 0x10, 0x0, 1, 0, 0x0, false⟩
/-- ANA_JACK_CFG (11_audio_io.md, line 301). -/
def ANA_JACK_CFG : Fld := ⟨0xC0080, 0x0, 0x0, 31, 0, 0x0, false⟩
def ANA_JACK_CFG_POL : Fld := ⟨0xC0080, 0x0, 0x0, 6, 0, 0x0, false⟩
/-- ANA_JACK_STAT (11_audio_io.md, line 301). -/
def ANA_JACK_STAT : Fld := ⟨0xC0084, 0x0, 0x0, 31, 0, 0x0, false⟩
def ANA_JACK_STAT_PRESENT : Fld := ⟨0xC0084, 0x0, 0x0, 6, 0, 0x0, false⟩
/-- ANA_AES_CFG (11_audio_io.md, line 309). -/
def ANA_AES_CFG : Fld := ⟨0xC00A0, 0x0, 0x0, 31, 0, 0xB, false⟩
def ANA_AES_CFG_NA_EN : Fld := ⟨0xC00A0, 0x0, 0x0, 3, 3, 0xB, false⟩
def ANA_AES_CFG_VMUTE : Fld := ⟨0xC00A0, 0x0, 0x0, 2, 2, 0xB, false⟩
def ANA_AES_CFG_GUARD : Fld := ⟨0xC00A0, 0x0, 0x0, 1, 1, 0xB, false⟩
def ANA_AES_CFG_EN : Fld := ⟨0xC00A0, 0x0, 0x0, 0, 0, 0xB, false⟩
/-- ANA_AES_STAT (11_audio_io.md, line 320). -/
def ANA_AES_STAT : Fld := ⟨0xC00A4, 0x0, 0x0, 31, 0, 0x0, false⟩
def ANA_AES_STAT_LOCK : Fld := ⟨0xC00A4, 0x0, 0x0, 31, 31, 0x0, false⟩
def ANA_AES_STAT_NONAUDIO : Fld := ⟨0xC00A4, 0x0, 0x0, 30, 30, 0x0, false⟩
def ANA_AES_STAT_NA_CS : Fld := ⟨0xC00A4, 0x0, 0x0, 29, 29, 0x0, false⟩
def ANA_AES_STAT_NA_BURST : Fld := ⟨0xC00A4, 0x0, 0x0, 28, 28, 0x0, false⟩
def ANA_AES_STAT_PRO : Fld := ⟨0xC00A4, 0x0, 0x0, 27, 27, 0x0, false⟩
def ANA_AES_STAT_VALIDITY : Fld := ⟨0xC00A4, 0x0, 0x0, 26, 26, 0x0, false⟩
def ANA_AES_STAT_CLASS : Fld := ⟨0xC00A4, 0x0, 0x0, 19, 16, 0x0, false⟩
/-- ANA_AES_RATE (11_audio_io.md, line 335). -/
def ANA_AES_RATE : Fld := ⟨0xC00A8, 0x0, 0x0, 31, 0, 0x0, false⟩
def ANA_AES_RATE_RATE : Fld := ⟨0xC00A8, 0x0, 0x0, 24, 0, 0x0, false⟩
/-- ANA_AES_RATE_REF (11_audio_io.md, line 335). -/
def ANA_AES_RATE_REF : Fld := ⟨0xC00AC, 0x0, 0x0, 31, 0, 0x0, false⟩
def ANA_AES_RATE_REF_RATE : Fld := ⟨0xC00AC, 0x0, 0x0, 24, 0, 0x0, false⟩
/-- ANA_AES_ERR (11_audio_io.md, line 343). -/
def ANA_AES_ERR : Fld := ⟨0xC00B0, 0x0, 0x0, 31, 0, 0x0, false⟩
def ANA_AES_ERR_PARITY : Fld := ⟨0xC00B0, 0x0, 0x0, 31, 16, 0x0, false⟩
def ANA_AES_ERR_CODE : Fld := ⟨0xC00B0, 0x0, 0x0, 15, 8, 0x0, false⟩
def ANA_AES_ERR_CS_CRC : Fld := ⟨0xC00B0, 0x0, 0x0, 7, 0, 0x0, false⟩
/-- ANA_AES_CSc_k (11_audio_io.md, line 352). -/
def ANA_AES_CSc_k : Fld := ⟨0xC00C0, 0x20, 0x4, 31, 0, 0x0, false⟩
/-- ANA_INT_STATUS (11_audio_io.md, line 359). -/
def ANA_INT_STATUS : Fld := ⟨0xC0100, 0x0, 0x0, 31, 0, 0x0, false⟩
def ANA_INT_STATUS_CP_FAIL : Fld := ⟨0xC0100, 0x0, 0x0, 7, 7, 0x0, false⟩
def ANA_INT_STATUS_OUT_SHORT : Fld := ⟨0xC0100, 0x0, 0x0, 6, 6, 0x0, false⟩
def ANA_INT_STATUS_OUT_STATE : Fld := ⟨0xC0100, 0x0, 0x0, 5, 5, 0x0, false⟩
def ANA_INT_STATUS_ADC_SETTLED : Fld := ⟨0xC0100, 0x0, 0x0, 4, 4, 0x0, false⟩
def ANA_INT_STATUS_AES_NONAUDIO : Fld := ⟨0xC0100, 0x0, 0x0, 3, 3, 0x0, false⟩
def ANA_INT_STATUS_AES_RATE : Fld := ⟨0xC0100, 0x0, 0x0, 2, 2, 0x0, false⟩
def ANA_INT_STATUS_AES_LOCK : Fld := ⟨0xC0100, 0x0, 0x0, 1, 1, 0x0, false⟩
def ANA_INT_STATUS_JACK : Fld := ⟨0xC0100, 0x0, 0x0, 0, 0, 0x0, false⟩
/-- ANA_INT_EN (11_audio_io.md, line 374). -/
def ANA_INT_EN : Fld := ⟨0xC0104, 0x0, 0x0, 31, 0, 0x0, false⟩
def ANA_INT_EN_EN : Fld := ⟨0xC0104, 0x0, 0x0, 7, 0, 0x0, false⟩
/-- AUX_CTRL (12_aux_dac.md, line 161). -/
def AUX_CTRL : Fld := ⟨0xD0004, 0x0, 0x0, 31, 0, 0x0, false⟩
def AUX_CTRL_CNT_CLR : Fld := ⟨0xD0004, 0x0, 0x0, 0, 0, 0x0, false⟩
/-- AUX_INT_STATUS (12_aux_dac.md, line 169). -/
def AUX_INT_STATUS : Fld := ⟨0xD0010, 0x0, 0x0, 31, 0, 0x0, false⟩
def AUX_INT_STATUS_SHORT0 : Fld := ⟨0xD0010, 0x0, 0x0, 3, 3, 0x0, false⟩
def AUX_INT_STATUS_SHORT1 : Fld := ⟨0xD0010, 0x0, 0x0, 7, 7, 0x0, false⟩
def AUX_INT_STATUS_SHORT2 : Fld := ⟨0xD0010, 0x0, 0x0, 11, 11, 0x0, false⟩
def AUX_INT_STATUS_SHORT3 : Fld := ⟨0xD0010, 0x0, 0x0, 15, 15, 0x0, false⟩
def AUX_INT_STATUS_MODE0 : Fld := ⟨0xD0010, 0x0, 0x0, 2, 2, 0x0, false⟩
def AUX_INT_STATUS_MODE1 : Fld := ⟨0xD0010, 0x0, 0x0, 6, 6, 0x0, false⟩
def AUX_INT_STATUS_MODE2 : Fld := ⟨0xD0010, 0x0, 0x0, 10, 10, 0x0, false⟩
def AUX_INT_STATUS_MODE3 : Fld := ⟨0xD0010, 0x0, 0x0, 14, 14, 0x0, false⟩
def AUX_INT_STATUS_UNDER0 : Fld := ⟨0xD0010, 0x0, 0x0, 1, 1, 0x0, false⟩
def AUX_INT_STATUS_UNDER1 : Fld := ⟨0xD0010, 0x0, 0x0, 5, 5, 0x0, false⟩
def AUX_INT_STATUS_UNDER2 : Fld := ⟨0xD0010, 0x0, 0x0, 9, 9, 0x0, false⟩
def AUX_INT_STATUS_UNDER3 : Fld := ⟨0xD0010, 0x0, 0x0, 13, 13, 0x0, false⟩
def AUX_INT_STATUS_LOW0 : Fld := ⟨0xD0010, 0x0, 0x0, 0, 0, 0x0, false⟩
def AUX_INT_STATUS_LOW1 : Fld := ⟨0xD0010, 0x0, 0x0, 4, 4, 0x0, false⟩
def AUX_INT_STATUS_LOW2 : Fld := ⟨0xD0010, 0x0, 0x0, 8, 8, 0x0, false⟩
def AUX_INT_STATUS_LOW3 : Fld := ⟨0xD0010, 0x0, 0x0, 12, 12, 0x0, false⟩
/-- AUX_INT_EN (12_aux_dac.md, line 180). -/
def AUX_INT_EN : Fld := ⟨0xD0014, 0x0, 0x0, 31, 0, 0x0, false⟩
def AUX_INT_EN_EN : Fld := ⟨0xD0014, 0x0, 0x0, 15, 0, 0x0, false⟩
/-- AUXn_CFG (12_aux_dac.md, line 188). -/
def AUXn_CFG : Fld := ⟨0xD0100, 0x40, 0x0, 31, 0, 0x100001, false⟩
def AUXn_CFG_EN : Fld := ⟨0xD0100, 0x40, 0x0, 31, 31, 0x100001, false⟩
def AUXn_CFG_SPAN : Fld := ⟨0xD0100, 0x40, 0x0, 29, 28, 0x100001, false⟩
def AUXn_CFG_SRC : Fld := ⟨0xD0100, 0x40, 0x0, 25, 24, 0x100001, false⟩
def AUXn_CFG_LOW_MARK : Fld := ⟨0xD0100, 0x40, 0x0, 21, 16, 0x100001, false⟩
def AUXn_CFG_DIV : Fld := ⟨0xD0100, 0x40, 0x0, 15, 0, 0x100001, false⟩
/-- AUXn_CTRL (12_aux_dac.md, line 202). -/
def AUXn_CTRL : Fld := ⟨0xD0104, 0x40, 0x0, 31, 0, 0x0, false⟩
def AUXn_CTRL_MODE_REQ : Fld := ⟨0xD0104, 0x40, 0x0, 9, 8, 0x0, false⟩
def AUXn_CTRL_FLUSH : Fld := ⟨0xD0104, 0x40, 0x0, 1, 1, 0x0, false⟩
def AUXn_CTRL_SYNC : Fld := ⟨0xD0104, 0x40, 0x0, 0, 0, 0x0, false⟩
/-- AUXn_STATE (12_aux_dac.md, line 213). -/
def AUXn_STATE : Fld := ⟨0xD0108, 0x40, 0x0, 31, 0, 0x0, false⟩
def AUXn_STATE_SHORT : Fld := ⟨0xD0108, 0x40, 0x0, 31, 31, 0x0, false⟩
def AUXn_STATE_WAVE : Fld := ⟨0xD0108, 0x40, 0x0, 22, 20, 0x0, false⟩
def AUXn_STATE_MODE : Fld := ⟨0xD0108, 0x40, 0x0, 18, 16, 0x0, false⟩
def AUXn_STATE_CODE : Fld := ⟨0xD0108, 0x40, 0x0, 15, 0, 0x0, false⟩
/-- AUXn_HOLD (12_aux_dac.md, line 225). -/
def AUXn_HOLD : Fld := ⟨0xD010C, 0x40, 0x0, 31, 0, 0x0, false⟩
def AUXn_HOLD_START_TICKS : Fld := ⟨0xD010C, 0x40, 0x0, 31, 16, 0x0, false⟩
def AUXn_HOLD_CODE : Fld := ⟨0xD010C, 0x40, 0x0, 15, 0, 0x0, false⟩
/-- AUXn_GEN (12_aux_dac.md, line 233). -/
def AUXn_GEN : Fld := ⟨0xD0110, 0x40, 0x0, 31, 0, 0x0, false⟩
def AUXn_GEN_WAVE : Fld := ⟨0xD0110, 0x40, 0x0, 31, 29, 0x0, false⟩
def AUXn_GEN_SPECIAL : Fld := ⟨0xD0110, 0x40, 0x0, 28, 28, 0x0, false⟩
def AUXn_GEN_AMP : Fld := ⟨0xD0110, 0x40, 0x0, 14, 0, 0x0, false⟩
/-- AUXn_GEN_INC (12_aux_dac.md, line 243). -/
def AUXn_GEN_INC : Fld := ⟨0xD0114, 0x40, 0x0, 31, 0, 0x0, false⟩
/-- AUXn_GEN_OFS (12_aux_dac.md, line 243). -/
def AUXn_GEN_OFS : Fld := ⟨0xD0118, 0x40, 0x0, 31, 0, 0x0, false⟩
def AUXn_GEN_OFS_OFFSET : Fld := ⟨0xD0118, 0x40, 0x0, 15, 0, 0x0, false⟩
/-- AUXn_QUEUE (12_aux_dac.md, line 252). -/
def AUXn_QUEUE : Fld := ⟨0xD011C, 0x40, 0x0, 31, 0, 0x0, false⟩
def AUXn_QUEUE_CODE : Fld := ⟨0xD011C, 0x40, 0x0, 15, 0, 0x0, false⟩
/-- AUXn_QSTAT (12_aux_dac.md, line 260). -/
def AUXn_QSTAT : Fld := ⟨0xD0120, 0x40, 0x0, 31, 0, 0x0, false⟩
def AUXn_QSTAT_LEVEL : Fld := ⟨0xD0120, 0x40, 0x0, 30, 24, 0x0, false⟩
def AUXn_QSTAT_OVER : Fld := ⟨0xD0120, 0x40, 0x0, 23, 12, 0x0, false⟩
def AUXn_QSTAT_UNDER : Fld := ⟨0xD0120, 0x40, 0x0, 11, 0, 0x0, false⟩
/-- CLK_STATUS (13_clocks.md, line 167). -/
def CLK_STATUS : Fld := ⟨0xE0000, 0x0, 0x0, 31, 0, 0x0, false⟩
def CLK_STATUS_REF_XTAL : Fld := ⟨0xE0000, 0x0, 0x0, 8, 8, 0x0, false⟩
def CLK_STATUS_REF_OK : Fld := ⟨0xE0000, 0x0, 0x0, 7, 7, 0x0, false⟩
def CLK_STATUS_HOLD : Fld := ⟨0xE0000, 0x0, 0x0, 6, 4, 0x0, false⟩
def CLK_STATUS_LOCK : Fld := ⟨0xE0000, 0x0, 0x0, 2, 0, 0x0, false⟩
/-- CLK_INT_STATUS (13_clocks.md, line 179). -/
def CLK_INT_STATUS : Fld := ⟨0xE0010, 0x0, 0x0, 31, 0, 0x0, false⟩
def CLK_INT_STATUS_BAND : Fld := ⟨0xE0010, 0x0, 0x0, 7, 7, 0x0, false⟩
def CLK_INT_STATUS_RAMP : Fld := ⟨0xE0010, 0x0, 0x0, 6, 4, 0x0, false⟩
def CLK_INT_STATUS_LOCK_CHG : Fld := ⟨0xE0010, 0x0, 0x0, 3, 1, 0x0, false⟩
def CLK_INT_STATUS_REF : Fld := ⟨0xE0010, 0x0, 0x0, 0, 0, 0x0, false⟩
/-- CLK_INT_EN (13_clocks.md, line 190). -/
def CLK_INT_EN : Fld := ⟨0xE0014, 0x0, 0x0, 31, 0, 0x0, false⟩
def CLK_INT_EN_EN : Fld := ⟨0xE0014, 0x0, 0x0, 7, 0, 0x0, false⟩
/-- CLK_MEDIA_SLEW (13_clocks.md, line 198). -/
def CLK_MEDIA_SLEW : Fld := ⟨0xE0020, 0x0, 0x0, 31, 0, 0x320064, false⟩
def CLK_MEDIA_SLEW_MAX_PPM : Fld := ⟨0xE0020, 0x0, 0x0, 24, 16, 0x320064, false⟩
def CLK_MEDIA_SLEW_RATE : Fld := ⟨0xE0020, 0x0, 0x0, 13, 0, 0x320064, false⟩
/-- CLK_MEDIA_SERVO (13_clocks.md, line 208). -/
def CLK_MEDIA_SERVO : Fld := ⟨0xE0024, 0x0, 0x0, 31, 0, 0xA, false⟩
def CLK_MEDIA_SERVO_BW : Fld := ⟨0xE0024, 0x0, 0x0, 6, 0, 0xA, false⟩
/-- CLK_LOCKA (13_clocks.md, line 216). -/
def CLK_LOCKA : Fld := ⟨0xE0028, 0x0, 0x0, 31, 0, 0x3, false⟩
def CLK_LOCKA_SEL : Fld := ⟨0xE0028, 0x0, 0x0, 1, 0, 0x3, false⟩
/-- CLK_MCLKn_CFG (13_clocks.md, line 224). -/
def CLK_MCLKn_CFG : Fld := ⟨0xE0040, 0x4, 0x0, 31, 0, 0x32, false⟩
def CLK_MCLKn_CFG_SRC : Fld := ⟨0xE0040, 0x4, 0x0, 29, 28, 0x32, false⟩
def CLK_MCLKn_CFG_FORMAT : Fld := ⟨0xE0040, 0x4, 0x0, 25, 24, 0x32, false⟩
def CLK_MCLKn_CFG_DRIVE : Fld := ⟨0xE0040, 0x4, 0x0, 20, 20, 0x32, false⟩
def CLK_MCLKn_CFG_DIV : Fld := ⟨0xE0040, 0x4, 0x0, 15, 0, 0x32, false⟩
/-- CLK_Pp_CFG (13_clocks.md, line 238). -/
def CLK_Pp_CFG : Fld := ⟨0xE0100, 0x100, 0x0, 31, 0, 0x1401, false⟩
def CLK_Pp_CFG_LOCK_WIN : Fld := ⟨0xE0100, 0x100, 0x0, 15, 8, 0x1401, false⟩
def CLK_Pp_CFG_BW : Fld := ⟨0xE0100, 0x100, 0x0, 1, 0, 0x1401, false⟩
/-- CLK_Pp_STATUS (13_clocks.md, line 248). -/
def CLK_Pp_STATUS : Fld := ⟨0xE0104, 0x100, 0x0, 31, 0, 0x0, false⟩
def CLK_Pp_STATUS_BAND : Fld := ⟨0xE0104, 0x100, 0x0, 31, 28, 0x0, false⟩
def CLK_Pp_STATUS_BAND_ERR : Fld := ⟨0xE0104, 0x100, 0x0, 27, 27, 0x0, false⟩
def CLK_Pp_STATUS_LOCK : Fld := ⟨0xE0104, 0x100, 0x0, 26, 26, 0x0, false⟩
def CLK_Pp_STATUS_HOLD : Fld := ⟨0xE0104, 0x100, 0x0, 25, 25, 0x0, false⟩
def CLK_Pp_STATUS_SSC_ON : Fld := ⟨0xE0104, 0x100, 0x0, 24, 24, 0x0, false⟩
def CLK_Pp_STATUS_SEG : Fld := ⟨0xE0104, 0x100, 0x0, 19, 16, 0x0, false⟩
/-- CLK_Pp_OFFSET (13_clocks.md, line 262). -/
def CLK_Pp_OFFSET : Fld := ⟨0xE0108, 0x100, 0x0, 31, 0, 0x0, false⟩
/-- CLK_Pp_PHASE (13_clocks.md, line 269). -/
def CLK_Pp_PHASE : Fld := ⟨0xE010C, 0x100, 0x0, 31, 0, 0x0, false⟩
def CLK_Pp_PHASE_PENDING : Fld := ⟨0xE010C, 0x100, 0x0, 31, 16, 0x0, false⟩
def CLK_Pp_PHASE_STEP : Fld := ⟨0xE010C, 0x100, 0x0, 15, 0, 0x0, false⟩
/-- CLK_Pp_BANDb (13_clocks.md, line 285). -/
def CLK_Pp_BANDb : Fld := ⟨0xE0140, 0x100, 0x4, 31, 0, 0x0, false⟩
def CLK_Pp_BANDb_F_HI : Fld := ⟨0xE0140, 0x100, 0x4, 31, 20, 0x0, false⟩
def CLK_Pp_BANDb_F_LO : Fld := ⟨0xE0140, 0x100, 0x4, 19, 8, 0x0, false⟩
def CLK_Pp_BANDb_CODE : Fld := ⟨0xE0140, 0x100, 0x4, 7, 0, 0x0, false⟩
/-- CLK_Pp_RAMPs_SLOPE (13_clocks.md, line 294). -/
def CLK_Pp_RAMPs_SLOPE : Fld := ⟨0xE0180, 0x100, 0x8, 31, 0, 0x0, false⟩
/-- CLK_Pp_RAMPs_DUR (13_clocks.md, line 294). -/
def CLK_Pp_RAMPs_DUR : Fld := ⟨0xE0184, 0x100, 0x8, 31, 0, 0x0, false⟩
/-- CLK_P1_DIV (13_clocks.md, line 277). -/
def CLK_P1_DIV : Fld := ⟨0xE0210, 0x0, 0x0, 31, 0, 0x472, false⟩
def CLK_P1_DIV_K : Fld := ⟨0xE0210, 0x0, 0x0, 12, 0, 0x472, false⟩
/-- PWR_STATUS (09_power_stage.md, line 331). -/
def PWR_STATUS : Fld := ⟨0xF0000, 0x0, 0x0, 31, 0, 0x0, false⟩
def PWR_STATUS_SAFE_REQ : Fld := ⟨0xF0000, 0x0, 0x0, 31, 31, 0x0, false⟩
def PWR_STATUS_SAFE_IND : Fld := ⟨0xF0000, 0x0, 0x0, 30, 30, 0x0, false⟩
def PWR_STATUS_DEGRADED : Fld := ⟨0xF0000, 0x0, 0x0, 15, 8, 0x0, false⟩
def PWR_STATUS_SAFE : Fld := ⟨0xF0000, 0x0, 0x0, 7, 0, 0x0, false⟩
/-- PWR_CTRL (09_power_stage.md, line 342). -/
def PWR_CTRL : Fld := ⟨0xF0004, 0x0, 0x0, 31, 0, 0x0, false⟩
def PWR_CTRL_CNT_CLR : Fld := ⟨0xF0004, 0x0, 0x0, 0, 0, 0x0, false⟩
/-- PWR_SW_CFG (09_power_stage.md, line 350). -/
def PWR_SW_CFG : Fld := ⟨0xF0008, 0x0, 0x0, 31, 0, 0x40A0870, false⟩
def PWR_SW_CFG_SSC : Fld := ⟨0xF0008, 0x0, 0x0, 29, 28, 0x40A0870, false⟩
def PWR_SW_CFG_SSC_RATE : Fld := ⟨0xF0008, 0x0, 0x0, 27, 26, 0x40A0870, false⟩
def PWR_SW_CFG_MODE : Fld := ⟨0xF0008, 0x0, 0x0, 25, 25, 0x40A0870, false⟩
def PWR_SW_CFG_RAMP : Fld := ⟨0xF0008, 0x0, 0x0, 22, 16, 0x40A0870, false⟩
def PWR_SW_CFG_FREQ_KHZ : Fld := ⟨0xF0008, 0x0, 0x0, 11, 0, 0x40A0870, false⟩
/-- PWR_SW_WIN (09_power_stage.md, line 364). -/
def PWR_SW_WIN : Fld := ⟨0xF000C, 0x0, 0x0, 31, 0, 0x3000180, false⟩
def PWR_SW_WIN_F_MAX : Fld := ⟨0xF000C, 0x0, 0x0, 25, 16, 0x3000180, false⟩
def PWR_SW_WIN_F_MIN : Fld := ⟨0xF000C, 0x0, 0x0, 9, 0, 0x3000180, false⟩
/-- PWR_SW_CTRL (09_power_stage.md, line 374). -/
def PWR_SW_CTRL : Fld := ⟨0xF0010, 0x0, 0x0, 31, 0, 0x0, false⟩
def PWR_SW_CTRL_APPLY : Fld := ⟨0xF0010, 0x0, 0x0, 0, 0, 0x0, false⟩
/-- PWR_SW_STATUS (09_power_stage.md, line 382). -/
def PWR_SW_STATUS : Fld := ⟨0xF0014, 0x0, 0x0, 31, 0, 0x1C000000, false⟩
def PWR_SW_STATUS_RAMPING : Fld := ⟨0xF0014, 0x0, 0x0, 31, 31, 0x1C000000, false⟩
def PWR_SW_STATUS_SSC_ON : Fld := ⟨0xF0014, 0x0, 0x0, 30, 30, 0x1C000000, false⟩
def PWR_SW_STATUS_SOURCE : Fld := ⟨0xF0014, 0x0, 0x0, 29, 28, 0x1C000000, false⟩
def PWR_SW_STATUS_REC_VALID : Fld := ⟨0xF0014, 0x0, 0x0, 27, 27, 0x1C000000, false⟩
def PWR_SW_STATUS_LOC_VALID : Fld := ⟨0xF0014, 0x0, 0x0, 26, 26, 0x1C000000, false⟩
def PWR_SW_STATUS_MARGIN : Fld := ⟨0xF0014, 0x0, 0x0, 23, 16, 0x1C000000, false⟩
def PWR_SW_STATUS_RESULT : Fld := ⟨0xF0014, 0x0, 0x0, 3, 0, 0x1C000000, false⟩
/-- PWR_SW_FREQ (09_power_stage.md, line 397). -/
def PWR_SW_FREQ : Fld := ⟨0xF0018, 0x0, 0x0, 31, 0, 0x20F580, false⟩
def PWR_SW_FREQ_HZ : Fld := ⟨0xF0018, 0x0, 0x0, 21, 0, 0x20F580, false⟩
/-- PWR_SW_GUARD (09_power_stage.md, line 405). -/
def PWR_SW_GUARD : Fld := ⟨0xF001C, 0x0, 0x0, 31, 0, 0x14, false⟩
def PWR_SW_GUARD_GUARD : Fld := ⟨0xF001C, 0x0, 0x0, 7, 0, 0x14, false⟩
/-- PWR_CNT_DN_CRC (09_power_stage.md, line 413). -/
def PWR_CNT_DN_CRC : Fld := ⟨0xF0020, 0x0, 0x0, 31, 0, 0x0, false⟩
/-- PWR_CNT_UP_CRC (09_power_stage.md, line 413). -/
def PWR_CNT_UP_CRC : Fld := ⟨0xF0024, 0x0, 0x0, 31, 0, 0x0, false⟩
/-- PWR_CNT_FAILOVER (09_power_stage.md, line 413). -/
def PWR_CNT_FAILOVER : Fld := ⟨0xF0028, 0x0, 0x0, 31, 0, 0x0, false⟩
/-- PWR_INT_STATUS (09_power_stage.md, line 420). -/
def PWR_INT_STATUS : Fld := ⟨0xF0030, 0x0, 0x0, 31, 0, 0x0, false⟩
def PWR_INT_STATUS_SW_DONE : Fld := ⟨0xF0030, 0x0, 0x0, 5, 5, 0x0, false⟩
def PWR_INT_STATUS_FAILOVER : Fld := ⟨0xF0030, 0x0, 0x0, 4, 4, 0x0, false⟩
def PWR_INT_STATUS_PHASE : Fld := ⟨0xF0030, 0x0, 0x0, 3, 3, 0x0, false⟩
def PWR_INT_STATUS_SAFE : Fld := ⟨0xF0030, 0x0, 0x0, 2, 2, 0x0, false⟩
def PWR_INT_STATUS_ACTION : Fld := ⟨0xF0030, 0x0, 0x0, 1, 1, 0x0, false⟩
def PWR_INT_STATUS_STATE : Fld := ⟨0xF0030, 0x0, 0x0, 0, 0, 0x0, false⟩
/-- PWR_INT_EN (09_power_stage.md, line 433). -/
def PWR_INT_EN : Fld := ⟨0xF0034, 0x0, 0x0, 31, 0, 0x0, false⟩
def PWR_INT_EN_EN : Fld := ⟨0xF0034, 0x0, 0x0, 5, 0, 0x0, false⟩
/-- PWR_SW_LISTk (09_power_stage.md, line 441). -/
def PWR_SW_LISTk : Fld := ⟨0xF0040, 0x4, 0x0, 31, 0, 0x0, false⟩
def PWR_SW_LISTk_CARRIER : Fld := ⟨0xF0040, 0x4, 0x0, 11, 0, 0x0, false⟩
/-- PWR_CHn_CFG (09_power_stage.md, line 449). -/
def PWR_CHn_CFG : Fld := ⟨0xF0100, 0x40, 0x0, 31, 0, 0x180DC6E, false⟩
def PWR_CHn_CFG_LOOP_MAN : Fld := ⟨0xF0100, 0x40, 0x0, 31, 31, 0x180DC6E, false⟩
def PWR_CHn_CFG_MUTE_TICKS : Fld := ⟨0xF0100, 0x40, 0x0, 30, 18, 0x180DC6E, false⟩
def PWR_CHn_CFG_VFS : Fld := ⟨0xF0100, 0x40, 0x0, 16, 8, 0x180DC6E, false⟩
def PWR_CHn_CFG_ILIM : Fld := ⟨0xF0100, 0x40, 0x0, 7, 0, 0x180DC6E, false⟩
/-- PWR_CHn_FILT (09_power_stage.md, line 460). -/
def PWR_CHn_FILT : Fld := ⟨0xF0104, 0x40, 0x0, 31, 0, 0x3E8125C, false⟩
def PWR_CHn_FILT_C_NF : Fld := ⟨0xF0104, 0x40, 0x0, 31, 16, 0x3E8125C, false⟩
def PWR_CHn_FILT_L_NH : Fld := ⟨0xF0104, 0x40, 0x0, 15, 0, 0x3E8125C, false⟩
/-- PWR_CHn_CTRL (09_power_stage.md, line 468). -/
def PWR_CHn_CTRL : Fld := ⟨0xF0108, 0x40, 0x0, 31, 0, 0x0, false⟩
def PWR_CHn_CTRL_TIMED : Fld := ⟨0xF0108, 0x40, 0x0, 8, 8, 0x0, false⟩
def PWR_CHn_CTRL_DISARM : Fld := ⟨0xF0108, 0x40, 0x0, 3, 3, 0x0, false⟩
def PWR_CHn_CTRL_MUTE : Fld := ⟨0xF0108, 0x40, 0x0, 2, 2, 0x0, false⟩
def PWR_CHn_CTRL_RELEASE : Fld := ⟨0xF0108, 0x40, 0x0, 1, 1, 0x0, false⟩
def PWR_CHn_CTRL_ARM : Fld := ⟨0xF0108, 0x40, 0x0, 0, 0, 0x0, false⟩
/-- PWR_CHn_TICK_LO (09_power_stage.md, line 481). -/
def PWR_CHn_TICK_LO : Fld := ⟨0xF010C, 0x40, 0x0, 31, 0, 0x0, false⟩
/-- PWR_CHn_TICK_HI (09_power_stage.md, line 481). -/
def PWR_CHn_TICK_HI : Fld := ⟨0xF0110, 0x40, 0x0, 31, 0, 0x0, false⟩
/-- PWR_CHn_STATE (09_power_stage.md, line 488). -/
def PWR_CHn_STATE : Fld := ⟨0xF0114, 0x40, 0x0, 31, 0, 0x0, false⟩
def PWR_CHn_STATE_READY : Fld := ⟨0xF0114, 0x40, 0x0, 31, 31, 0x0, false⟩
def PWR_CHn_STATE_DEGRADED : Fld := ⟨0xF0114, 0x40, 0x0, 30, 30, 0x0, false⟩
def PWR_CHn_STATE_PHASES : Fld := ⟨0xF0114, 0x40, 0x0, 29, 26, 0x0, false⟩
def PWR_CHn_STATE_ACTION : Fld := ⟨0xF0114, 0x40, 0x0, 22, 19, 0x0, false⟩
def PWR_CHn_STATE_CAUSE : Fld := ⟨0xF0114, 0x40, 0x0, 15, 8, 0x0, false⟩
def PWR_CHn_STATE_STATE : Fld := ⟨0xF0114, 0x40, 0x0, 2, 0, 0x0, false⟩
/-- PWR_CHn_COEFk (09_power_stage.md, line 505). -/
def PWR_CHn_COEFk : Fld := ⟨0xF0120, 0x40, 0x4, 31, 0, 0x0, false⟩
/-- PWR_CHn_CNT (09_power_stage.md, line 512). -/
def PWR_CHn_CNT : Fld := ⟨0xF013C, 0x40, 0x0, 31, 0, 0x0, false⟩
def PWR_CHn_CNT_ILIM : Fld := ⟨0xF013C, 0x40, 0x0, 31, 16, 0x0, false⟩
def PWR_CHn_CNT_CLIP : Fld := ⟨0xF013C, 0x40, 0x0, 15, 0, 0x0, false⟩
/-- PWR_BSTk_CFG (10_boost_protection.md, line 515). -/
def PWR_BSTk_CFG : Fld := ⟨0xF0800, 0x20, 0x0, 31, 0, 0x30, false⟩
def PWR_BSTk_CFG_IIN_LIM : Fld := ⟨0xF0800, 0x20, 0x0, 7, 0, 0x30, false⟩
/-- PWR_BSTk_STATE (10_boost_protection.md, line 523). -/
def PWR_BSTk_STATE : Fld := ⟨0xF0804, 0x20, 0x0, 31, 0, 0x0, false⟩
def PWR_BSTk_STATE_RUN : Fld := ⟨0xF0804, 0x20, 0x0, 31, 31, 0x0, false⟩
def PWR_BSTk_STATE_DEGRADED : Fld := ⟨0xF0804, 0x20, 0x0, 30, 30, 0x0, false⟩
def PWR_BSTk_STATE_PHASES : Fld := ⟨0xF0804, 0x20, 0x0, 29, 27, 0x0, false⟩
def PWR_BSTk_STATE_PASS : Fld := ⟨0xF0804, 0x20, 0x0, 26, 26, 0x0, false⟩
def PWR_BSTk_STATE_VBUS : Fld := ⟨0xF0804, 0x20, 0x0, 23, 16, 0x0, false⟩
def PWR_BSTk_STATE_RAIL : Fld := ⟨0xF0804, 0x20, 0x0, 15, 8, 0x0, false⟩
def PWR_BSTk_STATE_IIN : Fld := ⟨0xF0804, 0x20, 0x0, 7, 0, 0x0, false⟩
/-- PWR_BSTk_CNT (10_boost_protection.md, line 537). -/
def PWR_BSTk_CNT : Fld := ⟨0xF0808, 0x20, 0x0, 31, 0, 0x0, false⟩
def PWR_BSTk_CNT_ILIM : Fld := ⟨0xF0808, 0x20, 0x0, 31, 16, 0x0, false⟩
def PWR_BSTk_CNT_RAIL_LOW : Fld := ⟨0xF0808, 0x20, 0x0, 15, 0, 0x0, false⟩
/-- BST_STATUS (10_boost_protection.md, line 253). -/
def BST_STATUS : Fld := ⟨0x100000, 0x0, 0x0, 31, 0, 0x0, false⟩
def BST_STATUS_TRIPPED : Fld := ⟨0x100000, 0x0, 0x0, 23, 16, 0x0, false⟩
def BST_STATUS_LIMITING : Fld := ⟨0x100000, 0x0, 0x0, 15, 8, 0x0, false⟩
def BST_STATUS_FALLBACK : Fld := ⟨0x100000, 0x0, 0x0, 3, 0, 0x0, false⟩
/-- BST_CTRL (10_boost_protection.md, line 264). -/
def BST_CTRL : Fld := ⟨0x100004, 0x0, 0x0, 31, 0, 0x0, false⟩
def BST_CTRL_CNT_CLR : Fld := ⟨0x100004, 0x0, 0x0, 0, 0, 0x0, false⟩
/-- BST_AMB (10_boost_protection.md, line 272). -/
def BST_AMB : Fld := ⟨0x100008, 0x0, 0x0, 31, 0, 0x15E, false⟩
def BST_AMB_SRC : Fld := ⟨0x100008, 0x0, 0x0, 31, 31, 0x15E, false⟩
def BST_AMB_AMB : Fld := ⟨0x100008, 0x0, 0x0, 15, 0, 0x15E, false⟩
/-- BST_INT_STATUS (10_boost_protection.md, line 281). -/
def BST_INT_STATUS : Fld := ⟨0x100010, 0x0, 0x0, 31, 0, 0x0, false⟩
def BST_INT_STATUS_DIAG_DONE : Fld := ⟨0x100010, 0x0, 0x0, 4, 4, 0x0, false⟩
def BST_INT_STATUS_TRIP : Fld := ⟨0x100010, 0x0, 0x0, 3, 3, 0x0, false⟩
def BST_INT_STATUS_LIMIT : Fld := ⟨0x100010, 0x0, 0x0, 2, 2, 0x0, false⟩
def BST_INT_STATUS_FALLBACK : Fld := ⟨0x100010, 0x0, 0x0, 1, 1, 0x0, false⟩
def BST_INT_STATUS_R_ODD : Fld := ⟨0x100010, 0x0, 0x0, 0, 0, 0x0, false⟩
/-- BST_INT_EN (10_boost_protection.md, line 293). -/
def BST_INT_EN : Fld := ⟨0x100014, 0x0, 0x0, 31, 0, 0x0, false⟩
def BST_INT_EN_EN : Fld := ⟨0x100014, 0x0, 0x0, 4, 0, 0x0, false⟩
/-- BST_CONVk_CFG (10_boost_protection.md, line 301). -/
def BST_CONVk_CFG : Fld := ⟨0x100040, 0x10, 0x0, 31, 0, 0xA87400A, false⟩
def BST_CONVk_CFG_DECAY : Fld := ⟨0x100040, 0x10, 0x0, 31, 24, 0xA87400A, false⟩
def BST_CONVk_CFG_RAIL_MAX : Fld := ⟨0x100040, 0x10, 0x0, 23, 16, 0xA87400A, false⟩
def BST_CONVk_CFG_WINDOW : Fld := ⟨0x100040, 0x10, 0x0, 15, 8, 0xA87400A, false⟩
def BST_CONVk_CFG_HEAD : Fld := ⟨0x100040, 0x10, 0x0, 7, 0, 0xA87400A, false⟩
/-- BST_CONVk_STATUS (10_boost_protection.md, line 311). -/
def BST_CONVk_STATUS : Fld := ⟨0x100044, 0x10, 0x0, 31, 0, 0x0, false⟩
def BST_CONVk_STATUS_FALLBACK : Fld := ⟨0x100044, 0x10, 0x0, 31, 31, 0x0, false⟩
def BST_CONVk_STATUS_DEGRADED : Fld := ⟨0x100044, 0x10, 0x0, 30, 30, 0x0, false⟩
def BST_CONVk_STATUS_PHASES : Fld := ⟨0x100044, 0x10, 0x0, 29, 27, 0x0, false⟩
def BST_CONVk_STATUS_PASS : Fld := ⟨0x100044, 0x10, 0x0, 26, 26, 0x0, false⟩
def BST_CONVk_STATUS_STATE : Fld := ⟨0x100044, 0x10, 0x0, 25, 24, 0x0, false⟩
def BST_CONVk_STATUS_RAIL : Fld := ⟨0x100044, 0x10, 0x0, 23, 16, 0x0, false⟩
def BST_CONVk_STATUS_TARGET : Fld := ⟨0x100044, 0x10, 0x0, 15, 8, 0x0, false⟩
/-- BST_CONVk_CNT (10_boost_protection.md, line 325). -/
def BST_CONVk_CNT : Fld := ⟨0x100048, 0x10, 0x0, 31, 0, 0x0, false⟩
def BST_CONVk_CNT_FALLBACK : Fld := ⟨0x100048, 0x10, 0x0, 31, 16, 0x0, false⟩
def BST_CONVk_CNT_LOOK_SHORT : Fld := ⟨0x100048, 0x10, 0x0, 15, 0, 0x0, false⟩
/-- BST_CHn_ENV (10_boost_protection.md, line 333). -/
def BST_CHn_ENV : Fld := ⟨0x100100, 0x40, 0x0, 31, 0, 0x80, false⟩
def BST_CHn_ENV_DELAY : Fld := ⟨0x100100, 0x40, 0x0, 31, 16, 0x80, false⟩
def BST_CHn_ENV_PATHGAIN : Fld := ⟨0x100100, 0x40, 0x0, 15, 8, 0x80, false⟩
def BST_CHn_ENV_NONE : Fld := ⟨0x100100, 0x40, 0x0, 7, 7, 0x80, false⟩
def BST_CHn_ENV_LANE : Fld := ⟨0x100100, 0x40, 0x0, 6, 0, 0x80, false⟩
/-- BST_CHn_PROT (10_boost_protection.md, line 343). -/
def BST_CHn_PROT : Fld := ⟨0x100104, 0x40, 0x0, 31, 0, 0x140640, false⟩
def BST_CHn_PROT_DC_V : Fld := ⟨0x100104, 0x40, 0x0, 23, 16, 0x140640, false⟩
def BST_CHn_PROT_DC_MS : Fld := ⟨0x100104, 0x40, 0x0, 12, 4, 0x140640, false⟩
def BST_CHn_PROT_DC_EN : Fld := ⟨0x100104, 0x40, 0x0, 1, 1, 0x140640, false⟩
def BST_CHn_PROT_TH_EN : Fld := ⟨0x100104, 0x40, 0x0, 0, 0, 0x140640, false⟩
/-- BST_CHn_TH0 (10_boost_protection.md, line 356). -/
def BST_CHn_TH0 : Fld := ⟨0x100108, 0x40, 0x0, 31, 0, 0x3A980096, false⟩
def BST_CHn_TH0_TAU1 : Fld := ⟨0x100108, 0x40, 0x0, 31, 16, 0x3A980096, false⟩
def BST_CHn_TH0_RTH1 : Fld := ⟨0x100108, 0x40, 0x0, 15, 0, 0x3A980096, false⟩
/-- BST_CHn_TH1 (10_boost_protection.md, line 356). -/
def BST_CHn_TH1 : Fld := ⟨0x10010C, 0x40, 0x0, 31, 0, 0x1770012C, false⟩
def BST_CHn_TH1_TAU2 : Fld := ⟨0x10010C, 0x40, 0x0, 31, 16, 0x1770012C, false⟩
def BST_CHn_TH1_RTH2 : Fld := ⟨0x10010C, 0x40, 0x0, 15, 0, 0x1770012C, false⟩
/-- BST_CHn_TH2 (10_boost_protection.md, line 356). -/
def BST_CHn_TH2 : Fld := ⟨0x100110, 0x40, 0x0, 31, 0, 0xE100032, false⟩
def BST_CHn_TH2_TAU3 : Fld := ⟨0x100110, 0x40, 0x0, 31, 16, 0xE100032, false⟩
def BST_CHn_TH2_RTH3 : Fld := ⟨0x100110, 0x40, 0x0, 15, 0, 0xE100032, false⟩
/-- BST_CHn_TH3 (10_boost_protection.md, line 366). -/
def BST_CHn_TH3 : Fld := ⟨0x100114, 0x40, 0x0, 31, 0, 0xB40016A8, false⟩
def BST_CHn_TH3_TMAX : Fld := ⟨0x100114, 0x40, 0x0, 31, 24, 0xB40016A8, false⟩
def BST_CHn_TH3_RE20 : Fld := ⟨0x100114, 0x40, 0x0, 15, 0, 0xB40016A8, false⟩
/-- BST_CHn_TH4 (10_boost_protection.md, line 375). -/
def BST_CHn_TH4 : Fld := ⟨0x100118, 0x40, 0x0, 31, 0, 0x0, false⟩
def BST_CHn_TH4_RFREQ : Fld := ⟨0x100118, 0x40, 0x0, 31, 16, 0x0, false⟩
/-- BST_CHn_STATE (10_boost_protection.md, line 383). -/
def BST_CHn_STATE : Fld := ⟨0x10011C, 0x40, 0x0, 31, 0, 0x15E, false⟩
def BST_CHn_STATE_TRIPPED : Fld := ⟨0x10011C, 0x40, 0x0, 31, 31, 0x15E, false⟩
def BST_CHn_STATE_LIMITING : Fld := ⟨0x10011C, 0x40, 0x0, 30, 30, 0x15E, false⟩
def BST_CHn_STATE_DC_ALARM : Fld := ⟨0x10011C, 0x40, 0x0, 29, 29, 0x15E, false⟩
def BST_CHn_STATE_DEGRADED : Fld := ⟨0x10011C, 0x40, 0x0, 28, 28, 0x15E, false⟩
def BST_CHn_STATE_R_VALID : Fld := ⟨0x10011C, 0x40, 0x0, 27, 27, 0x15E, false⟩
def BST_CHn_STATE_GAIN : Fld := ⟨0x10011C, 0x40, 0x0, 23, 16, 0x15E, false⟩
def BST_CHn_STATE_TCOIL : Fld := ⟨0x10011C, 0x40, 0x0, 15, 0, 0x15E, false⟩
/-- BST_CHn_TEMP (10_boost_protection.md, line 397). -/
def BST_CHn_TEMP : Fld := ⟨0x100120, 0x40, 0x0, 31, 0, 0x15E015E, false⟩
def BST_CHn_TEMP_TPOLE : Fld := ⟨0x100120, 0x40, 0x0, 31, 16, 0x15E015E, false⟩
def BST_CHn_TEMP_TAIR : Fld := ⟨0x100120, 0x40, 0x0, 15, 0, 0x15E015E, false⟩
/-- BST_CHn_RES (10_boost_protection.md, line 397). -/
def BST_CHn_RES : Fld := ⟨0x100124, 0x40, 0x0, 31, 0, 0x0, false⟩
def BST_CHn_RES_R_MODEL : Fld := ⟨0x100124, 0x40, 0x0, 31, 16, 0x0, false⟩
def BST_CHn_RES_R_MEAS : Fld := ⟨0x100124, 0x40, 0x0, 15, 0, 0x0, false⟩
/-- BST_CHn_CAP (10_boost_protection.md, line 405). -/
def BST_CHn_CAP : Fld := ⟨0x100128, 0x40, 0x0, 31, 0, 0xA000000, false⟩
def BST_CHn_CAP_CAP_TOL : Fld := ⟨0x100128, 0x40, 0x0, 31, 24, 0xA000000, false⟩
def BST_CHn_CAP_CAP_NF : Fld := ⟨0x100128, 0x40, 0x0, 19, 0, 0xA000000, false⟩
/-- BST_CHn_VERDICT (10_boost_protection.md, line 414). -/
def BST_CHn_VERDICT : Fld := ⟨0x10012C, 0x40, 0x0, 31, 0, 0x0, false⟩
def BST_CHn_VERDICT_CAP_EST : Fld := ⟨0x10012C, 0x40, 0x0, 31, 12, 0x0, false⟩
def BST_CHn_VERDICT_VERDICT : Fld := ⟨0x10012C, 0x40, 0x0, 3, 0, 0x0, false⟩
/-- BST_CHn_AMASK (10_boost_protection.md, line 423). -/
def BST_CHn_AMASK : Fld := ⟨0x100130, 0x40, 0x0, 31, 0, 0x3FF, false⟩
def BST_CHn_AMASK_MASK : Fld := ⟨0x100130, 0x40, 0x0, 9, 0, 0x3FF, false⟩
/-- BST_DIAG_CFG (10_boost_protection.md, line 431). -/
def BST_DIAG_CFG : Fld := ⟨0x100300, 0x0, 0x0, 31, 0, 0x5000000, false⟩
def BST_DIAG_CFG_SHORT : Fld := ⟨0x100300, 0x0, 0x0, 31, 24, 0x5000000, false⟩
def BST_DIAG_CFG_CHMASK : Fld := ⟨0x100300, 0x0, 0x0, 7, 0, 0x5000000, false⟩
/-- BST_DIAG_CTRL (10_boost_protection.md, line 440). -/
def BST_DIAG_CTRL : Fld := ⟨0x100304, 0x0, 0x0, 31, 0, 0x0, false⟩
def BST_DIAG_CTRL_ABORT : Fld := ⟨0x100304, 0x0, 0x0, 4, 4, 0x0, false⟩
def BST_DIAG_CTRL_MODE : Fld := ⟨0x100304, 0x0, 0x0, 3, 2, 0x0, false⟩
def BST_DIAG_CTRL_START : Fld := ⟨0x100304, 0x0, 0x0, 0, 0, 0x0, false⟩
/-- BST_DIAG_STATUS (10_boost_protection.md, line 451). -/
def BST_DIAG_STATUS : Fld := ⟨0x100308, 0x0, 0x0, 31, 0, 0x0, false⟩
def BST_DIAG_STATUS_RESULT : Fld := ⟨0x100308, 0x0, 0x0, 31, 28, 0x0, false⟩
def BST_DIAG_STATUS_CHAN : Fld := ⟨0x100308, 0x0, 0x0, 27, 25, 0x0, false⟩
def BST_DIAG_STATUS_RUNNING : Fld := ⟨0x100308, 0x0, 0x0, 24, 24, 0x0, false⟩
def BST_DIAG_STATUS_DONE : Fld := ⟨0x100308, 0x0, 0x0, 23, 16, 0x0, false⟩
def BST_DIAG_STATUS_PASS : Fld := ⟨0x100308, 0x0, 0x0, 15, 8, 0x0, false⟩
def BST_DIAG_STATUS_FAIL : Fld := ⟨0x100308, 0x0, 0x0, 7, 0, 0x0, false⟩
/-- BST_ACOU_CFG (10_boost_protection.md, line 463). -/
def BST_ACOU_CFG : Fld := ⟨0x100310, 0x0, 0x0, 31, 0, 0x283A, false⟩
def BST_ACOU_CFG_GEN_ID : Fld := ⟨0x100310, 0x0, 0x0, 31, 20, 0x283A, false⟩
def BST_ACOU_CFG_ADC : Fld := ⟨0x100310, 0x0, 0x0, 17, 16, 0x283A, false⟩
def BST_ACOU_CFG_LEVEL : Fld := ⟨0x100310, 0x0, 0x0, 15, 8, 0x283A, false⟩
def BST_ACOU_CFG_TOL : Fld := ⟨0x100310, 0x0, 0x0, 7, 4, 0x283A, false⟩
def BST_ACOU_CFG_SNR : Fld := ⟨0x100310, 0x0, 0x0, 3, 0, 0x283A, false⟩
/-- BST_ACOU_TIME (10_boost_protection.md, line 475). -/
def BST_ACOU_TIME : Fld := ⟨0x100314, 0x0, 0x0, 31, 0, 0x7D003E8, false⟩
def BST_ACOU_TIME_MEAS_MS : Fld := ⟨0x100314, 0x0, 0x0, 31, 16, 0x7D003E8, false⟩
def BST_ACOU_TIME_BG_MS : Fld := ⟨0x100314, 0x0, 0x0, 15, 0, 0x7D003E8, false⟩
/-- BST_CHn_ZREFk (10_boost_protection.md, line 483). -/
def BST_CHn_ZREFk : Fld := ⟨0x100400, 0x40, 0x4, 31, 0, 0x140000, false⟩
def BST_CHn_ZREFk_TOL : Fld := ⟨0x100400, 0x40, 0x4, 23, 16, 0x140000, false⟩
def BST_CHn_ZREFk_ZNOM : Fld := ⟨0x100400, 0x40, 0x4, 15, 0, 0x140000, false⟩
/-- BST_CHn_ZRESk (10_boost_protection.md, line 492). -/
def BST_CHn_ZRESk : Fld := ⟨0x100420, 0x40, 0x4, 31, 0, 0x0, false⟩
def BST_CHn_ZRESk_VERDICT : Fld := ⟨0x100420, 0x40, 0x4, 31, 30, 0x0, false⟩
def BST_CHn_ZRESk_NOREF : Fld := ⟨0x100420, 0x40, 0x4, 29, 29, 0x0, false⟩
def BST_CHn_ZRESk_PHASE : Fld := ⟨0x100420, 0x40, 0x4, 23, 16, 0x0, false⟩
def BST_CHn_ZRESk_MAG : Fld := ⟨0x100420, 0x40, 0x4, 15, 0, 0x0, false⟩
/-- BST_ACOU_REFn_b (10_boost_protection.md, line 503). -/
def BST_ACOU_REFn_b : Fld := ⟨0x100800, 0x40, 0x4, 31, 0, 0x0, false⟩
def BST_ACOU_REFn_b_REF : Fld := ⟨0x100800, 0x40, 0x4, 15, 0, 0x0, false⟩
/-- BST_ACOU_LVLn_b (10_boost_protection.md, line 503). -/
def BST_ACOU_LVLn_b : Fld := ⟨0x100A00, 0x40, 0x4, 31, 0, 0x0, false⟩
def BST_ACOU_LVLn_b_BG : Fld := ⟨0x100A00, 0x40, 0x4, 31, 16, 0x0, false⟩
def BST_ACOU_LVLn_b_LVL : Fld := ⟨0x100A00, 0x40, 0x4, 15, 0, 0x0, false⟩
/-- TEN_IRQ_PEND (14_hosts.md, line 240). -/
def TEN_IRQ_PEND : Fld := ⟨0x110000, 0x0, 0x0, 31, 0, 0x0, false⟩
def TEN_IRQ_PEND_PEND : Fld := ⟨0x110000, 0x0, 0x0, 15, 0, 0x0, false⟩
/-- TEN_CTRL (14_hosts.md, line 248). -/
def TEN_CTRL : Fld := ⟨0x110004, 0x0, 0x0, 31, 0, 0x0, false⟩
def TEN_CTRL_EVICT : Fld := ⟨0x110004, 0x0, 0x0, 8, 8, 0x0, false⟩
def TEN_CTRL_TEN : Fld := ⟨0x110004, 0x0, 0x0, 2, 0, 0x0, false⟩
/-- TEN_SEM_CFG (14_hosts.md, line 258). -/
def TEN_SEM_CFG : Fld := ⟨0x110008, 0x0, 0x0, 31, 0, 0x3E8000A, false⟩
def TEN_SEM_CFG_LEASE_MS : Fld := ⟨0x110008, 0x0, 0x0, 31, 16, 0x3E8000A, false⟩
def TEN_SEM_CFG_TIMEOUT_MS : Fld := ⟨0x110008, 0x0, 0x0, 15, 0, 0x3E8000A, false⟩
/-- TEN_FLARY_CFG (14_hosts.md, line 266). -/
def TEN_FLARY_CFG : Fld := ⟨0x11000C, 0x0, 0x0, 31, 0, 0x3, false⟩
def TEN_FLARY_CFG_RELAY : Fld := ⟨0x11000C, 0x0, 0x0, 2, 2, 0x3, false⟩
def TEN_FLARY_CFG_BRANCH : Fld := ⟨0x11000C, 0x0, 0x0, 1, 1, 0x3, false⟩
def TEN_FLARY_CFG_RING : Fld := ⟨0x11000C, 0x0, 0x0, 0, 0, 0x3, false⟩
/-- TEN_CNT_AUTH (14_hosts.md, line 276). -/
def TEN_CNT_AUTH : Fld := ⟨0x110010, 0x0, 0x0, 31, 0, 0x0, false⟩
/-- TEN_CNT_REPLAY (14_hosts.md, line 276). -/
def TEN_CNT_REPLAY : Fld := ⟨0x110014, 0x0, 0x0, 31, 0, 0x0, false⟩
/-- TEN_INT_STATUS (14_hosts.md, line 283). -/
def TEN_INT_STATUS : Fld := ⟨0x110020, 0x0, 0x0, 31, 0, 0x0, false⟩
def TEN_INT_STATUS_EVICTED : Fld := ⟨0x110020, 0x0, 0x0, 4, 4, 0x0, false⟩
def TEN_INT_STATUS_SEM_BROKEN : Fld := ⟨0x110020, 0x0, 0x0, 3, 3, 0x0, false⟩
def TEN_INT_STATUS_SEM_TIMEOUT : Fld := ⟨0x110020, 0x0, 0x0, 2, 2, 0x0, false⟩
def TEN_INT_STATUS_AUTH : Fld := ⟨0x110020, 0x0, 0x0, 1, 1, 0x0, false⟩
def TEN_INT_STATUS_OVER : Fld := ⟨0x110020, 0x0, 0x0, 0, 0, 0x0, false⟩
/-- TEN_INT_EN (14_hosts.md, line 295). -/
def TEN_INT_EN : Fld := ⟨0x110024, 0x0, 0x0, 31, 0, 0x0, false⟩
def TEN_INT_EN_EN : Fld := ⟨0x110024, 0x0, 0x0, 4, 0, 0x0, false⟩
/-- TEN_ALLOC_CTRL (14_hosts.md, line 303). -/
def TEN_ALLOC_CTRL : Fld := ⟨0x110030, 0x0, 0x0, 31, 0, 0x0, true⟩
def TEN_ALLOC_CTRL_ALLOC : Fld := ⟨0x110030, 0x0, 0x0, 31, 31, 0x0, true⟩
def TEN_ALLOC_CTRL_FREE : Fld := ⟨0x110030, 0x0, 0x0, 30, 30, 0x0, true⟩
def TEN_ALLOC_CTRL_HANDLE : Fld := ⟨0x110030, 0x0, 0x0, 19, 16, 0x0, true⟩
def TEN_ALLOC_CTRL_SIZE_MIB : Fld := ⟨0x110030, 0x0, 0x0, 12, 0, 0x0, true⟩
/-- TEN_ALLOC_STAT (14_hosts.md, line 315). -/
def TEN_ALLOC_STAT : Fld := ⟨0x110034, 0x0, 0x0, 31, 0, 0x0, true⟩
def TEN_ALLOC_STAT_RESULT : Fld := ⟨0x110034, 0x0, 0x0, 30, 28, 0x0, true⟩
def TEN_ALLOC_STAT_HANDLE : Fld := ⟨0x110034, 0x0, 0x0, 19, 16, 0x0, true⟩
def TEN_ALLOC_STAT_OFFSET_MIB : Fld := ⟨0x110034, 0x0, 0x0, 12, 0, 0x0, true⟩
/-- TEN_HOLD (14_hosts.md, line 327). -/
def TEN_HOLD : Fld := ⟨0x110038, 0x0, 0x0, 31, 0, 0x0, true⟩
def TEN_HOLD_HOLD : Fld := ⟨0x110038, 0x0, 0x0, 31, 31, 0x0, true⟩
def TEN_HOLD_RELEASE : Fld := ⟨0x110038, 0x0, 0x0, 30, 30, 0x0, true⟩
def TEN_HOLD_RESULT : Fld := ⟨0x110038, 0x0, 0x0, 29, 28, 0x0, true⟩
def TEN_HOLD_ID : Fld := ⟨0x110038, 0x0, 0x0, 11, 0, 0x0, true⟩
/-- TEN_DRAM_WIN (14_hosts.md, line 338). -/
def TEN_DRAM_WIN : Fld := ⟨0x11003C, 0x0, 0x0, 31, 0, 0x0, true⟩
def TEN_DRAM_WIN_BASE_GIB : Fld := ⟨0x11003C, 0x0, 0x0, 2, 0, 0x0, true⟩
/-- TEN_Tt_STATUS (14_hosts.md, line 346). -/
def TEN_Tt_STATUS : Fld := ⟨0x110100, 0x40, 0x0, 31, 0, 0x0, false⟩
def TEN_Tt_STATUS_PRESENT : Fld := ⟨0x110100, 0x40, 0x0, 31, 31, 0x0, false⟩
def TEN_Tt_STATUS_EVICT_PEND : Fld := ⟨0x110100, 0x40, 0x0, 30, 30, 0x0, false⟩
def TEN_Tt_STATUS_RANK : Fld := ⟨0x110100, 0x40, 0x0, 15, 8, 0x0, false⟩
def TEN_Tt_STATUS_OVER : Fld := ⟨0x110100, 0x40, 0x0, 4, 0, 0x0, false⟩
/-- TEN_Tt_RIGHTS (14_hosts.md, line 358). -/
def TEN_Tt_RIGHTS : Fld := ⟨0x110104, 0x40, 0x0, 31, 0, 0x0, false⟩
def TEN_Tt_RIGHTS_RIGHTS : Fld := ⟨0x110104, 0x40, 0x0, 4, 0, 0x0, false⟩
/-- TEN_Tt_CAP0 (14_hosts.md, line 366). -/
def TEN_Tt_CAP0 : Fld := ⟨0x110108, 0x40, 0x0, 31, 0, 0xFFFFF, false⟩
def TEN_Tt_CAP0_CYCLES : Fld := ⟨0x110108, 0x40, 0x0, 19, 0, 0xFFFFF, false⟩
/-- TEN_Tt_CAP1 (14_hosts.md, line 366). -/
def TEN_Tt_CAP1 : Fld := ⟨0x11010C, 0x40, 0x0, 31, 0, 0xFFFFFFFF, false⟩
/-- TEN_Tt_CAP2 (14_hosts.md, line 366). -/
def TEN_Tt_CAP2 : Fld := ⟨0x110110, 0x40, 0x0, 31, 0, 0x1A00, false⟩
def TEN_Tt_CAP2_DRAM_MIB : Fld := ⟨0x110110, 0x40, 0x0, 12, 0, 0x1A00, false⟩
/-- TEN_Tt_CAP3 (14_hosts.md, line 366). -/
def TEN_Tt_CAP3 : Fld := ⟨0x110114, 0x40, 0x0, 31, 0, 0x404000, false⟩
def TEN_Tt_CAP3_SEND_LANES : Fld := ⟨0x110114, 0x40, 0x0, 22, 16, 0x404000, false⟩
def TEN_Tt_CAP3_PARAM_WORDS : Fld := ⟨0x110114, 0x40, 0x0, 14, 0, 0x404000, false⟩
/-- TEN_Tt_USE0 (14_hosts.md, line 377). -/
def TEN_Tt_USE0 : Fld := ⟨0x110118, 0x40, 0x0, 31, 0, 0x0, false⟩
/-- TEN_Tt_USE1 (14_hosts.md, line 377). -/
def TEN_Tt_USE1 : Fld := ⟨0x11011C, 0x40, 0x0, 31, 0, 0x0, false⟩
/-- TEN_Tt_USE2 (14_hosts.md, line 377). -/
def TEN_Tt_USE2 : Fld := ⟨0x110120, 0x40, 0x0, 31, 0, 0x0, false⟩
/-- TEN_Tt_USE3 (14_hosts.md, line 377). -/
def TEN_Tt_USE3 : Fld := ⟨0x110124, 0x40, 0x0, 31, 0, 0x0, false⟩
/-- TEN_KEYt_w (14_hosts.md, line 384). -/
def TEN_KEYt_w : Fld := ⟨0x110400, 0x20, 0x4, 31, 0, 0x0, false⟩
/-- TEN_XLATEt_h (14_hosts.md, line 391). -/
def TEN_XLATEt_h : Fld := ⟨0x110600, 0x40, 0x4, 31, 0, 0x0, false⟩
def TEN_XLATEt_h_VALID : Fld := ⟨0x110600, 0x40, 0x4, 31, 31, 0x0, false⟩
def TEN_XLATEt_h_OFFSET_MIB : Fld := ⟨0x110600, 0x40, 0x4, 28, 16, 0x0, false⟩
def TEN_XLATEt_h_SIZE_MIB : Fld := ⟨0x110600, 0x40, 0x4, 12, 0, 0x0, false⟩
/-- TEN_SEMn (14_hosts.md, line 402). -/
def TEN_SEMn : Fld := ⟨0x110C00, 0x10, 0x0, 31, 0, 0x0, false⟩
def TEN_SEMn_GRANT : Fld := ⟨0x110C00, 0x10, 0x0, 31, 31, 0x0, false⟩
def TEN_SEMn_AGAIN : Fld := ⟨0x110C00, 0x10, 0x0, 30, 30, 0x0, false⟩
def TEN_SEMn_BROKEN : Fld := ⟨0x110C00, 0x10, 0x0, 29, 29, 0x0, false⟩
def TEN_SEMn_OWNER : Fld := ⟨0x110C00, 0x10, 0x0, 4, 0, 0x0, false⟩
/-- TEN_SEMn_WAIT (14_hosts.md, line 413). -/
def TEN_SEMn_WAIT : Fld := ⟨0x110C04, 0x10, 0x0, 31, 0, 0x0, false⟩
/-- TEN_SEMn_REL (14_hosts.md, line 413). -/
def TEN_SEMn_REL : Fld := ⟨0x110C08, 0x10, 0x0, 31, 0, 0x0, false⟩
def TEN_SEMn_REL_RELEASE : Fld := ⟨0x110C08, 0x10, 0x0, 0, 0, 0x0, false⟩
/-- FLT_STATUS (15_faults.md, line 273). -/
def FLT_STATUS : Fld := ⟨0x120000, 0x0, 0x0, 31, 0, 0x0, false⟩
def FLT_STATUS_CAPSTONE : Fld := ⟨0x120000, 0x0, 0x0, 31, 31, 0x0, false⟩
def FLT_STATUS_HALT : Fld := ⟨0x120000, 0x0, 0x0, 30, 30, 0x0, false⟩
def FLT_STATUS_DEGRADE : Fld := ⟨0x120000, 0x0, 0x0, 29, 29, 0x0, false⟩
def FLT_STATUS_FROZEN : Fld := ⟨0x120000, 0x0, 0x0, 28, 28, 0x0, false⟩
def FLT_STATUS_FN_DRIVE : Fld := ⟨0x120000, 0x0, 0x0, 27, 27, 0x0, false⟩
def FLT_STATUS_FN_LOW : Fld := ⟨0x120000, 0x0, 0x0, 26, 26, 0x0, false⟩
def FLT_STATUS_PLUMB_RUN : Fld := ⟨0x120000, 0x0, 0x0, 25, 25, 0x0, false⟩
def FLT_STATUS_HALT_CH : Fld := ⟨0x120000, 0x0, 0x0, 23, 16, 0x0, false⟩
def FLT_STATUS_HALT_ANA : Fld := ⟨0x120000, 0x0, 0x0, 15, 12, 0x0, false⟩
def FLT_STATUS_LOAD : Fld := ⟨0x120000, 0x0, 0x0, 7, 0, 0x0, false⟩
/-- FLT_CFG (15_faults.md, line 291). -/
def FLT_CFG : Fld := ⟨0x120004, 0x0, 0x0, 31, 0, 0x2, false⟩
def FLT_CFG_INJ_EN : Fld := ⟨0x120004, 0x0, 0x0, 4, 4, 0x2, false⟩
def FLT_CFG_FN_WATCH : Fld := ⟨0x120004, 0x0, 0x0, 3, 3, 0x2, false⟩
def FLT_CFG_FN_CLASS : Fld := ⟨0x120004, 0x0, 0x0, 1, 0, 0x2, false⟩
/-- FLT_CLEAR (15_faults.md, line 302). -/
def FLT_CLEAR : Fld := ⟨0x120008, 0x0, 0x0, 31, 0, 0x0, false⟩
def FLT_CLEAR_HALT : Fld := ⟨0x120008, 0x0, 0x0, 31, 31, 0x0, false⟩
def FLT_CLEAR_LOAD : Fld := ⟨0x120008, 0x0, 0x0, 30, 30, 0x0, false⟩
def FLT_CLEAR_RESTART : Fld := ⟨0x120008, 0x0, 0x0, 29, 29, 0x0, false⟩
def FLT_CLEAR_CNT_CLR : Fld := ⟨0x120008, 0x0, 0x0, 28, 28, 0x0, false⟩
def FLT_CLEAR_LOAD_MASK : Fld := ⟨0x120008, 0x0, 0x0, 7, 0, 0x0, false⟩
/-- FLT_CLEAR_STAT (15_faults.md, line 314). -/
def FLT_CLEAR_STAT : Fld := ⟨0x12000C, 0x0, 0x0, 31, 0, 0x0, false⟩
def FLT_CLEAR_STAT_RESULT : Fld := ⟨0x12000C, 0x0, 0x0, 31, 30, 0x0, false⟩
def FLT_CLEAR_STAT_LOAD_LEFT : Fld := ⟨0x12000C, 0x0, 0x0, 23, 16, 0x0, false⟩
def FLT_CLEAR_STAT_HALT_LEFT : Fld := ⟨0x12000C, 0x0, 0x0, 7, 0, 0x0, false⟩
/-- FLT_FIRSTw (15_faults.md, line 325). -/
def FLT_FIRSTw : Fld := ⟨0x120010, 0x4, 0x0, 31, 0, 0x0, false⟩
/-- FLT_HIST_STAT (15_faults.md, line 332). -/
def FLT_HIST_STAT : Fld := ⟨0x120020, 0x0, 0x0, 31, 0, 0x0, false⟩
def FLT_HIST_STAT_FROZEN : Fld := ⟨0x120020, 0x0, 0x0, 31, 31, 0x0, false⟩
def FLT_HIST_STAT_LEVEL : Fld := ⟨0x120020, 0x0, 0x0, 21, 16, 0x0, false⟩
def FLT_HIST_STAT_LOST : Fld := ⟨0x120020, 0x0, 0x0, 15, 0, 0x0, false⟩
/-- FLT_HIST_TOP0 (15_faults.md, line 342). -/
def FLT_HIST_TOP0 : Fld := ⟨0x120030, 0x0, 0x0, 31, 0, 0x0, false⟩
/-- FLT_HIST_TOPw (15_faults.md, line 342). -/
def FLT_HIST_TOPw : Fld := ⟨0x120030, 0x4, 0x0, 31, 0, 0x0, false⟩
/-- FLT_INJ (15_faults.md, line 350). -/
def FLT_INJ : Fld := ⟨0x120040, 0x0, 0x0, 31, 0, 0x100, false⟩
def FLT_INJ_ARM : Fld := ⟨0x120040, 0x0, 0x0, 31, 31, 0x100, false⟩
def FLT_INJ_STATE : Fld := ⟨0x120040, 0x0, 0x0, 26, 24, 0x100, false⟩
def FLT_INJ_TARGET : Fld := ⟨0x120040, 0x0, 0x0, 19, 16, 0x100, false⟩
def FLT_INJ_MODE : Fld := ⟨0x120040, 0x0, 0x0, 9, 8, 0x100, false⟩
def FLT_INJ_UNIT : Fld := ⟨0x120040, 0x0, 0x0, 4, 0, 0x100, false⟩
/-- FLT_INJ_ADDR (15_faults.md, line 365). -/
def FLT_INJ_ADDR : Fld := ⟨0x120044, 0x0, 0x0, 31, 0, 0x0, false⟩
/-- FLT_INT_STATUS (15_faults.md, line 372). -/
def FLT_INT_STATUS : Fld := ⟨0x120050, 0x0, 0x0, 31, 0, 0x0, false⟩
def FLT_INT_STATUS_FN_CHG : Fld := ⟨0x120050, 0x0, 0x0, 6, 6, 0x0, false⟩
def FLT_INT_STATUS_INJ_FOUND : Fld := ⟨0x120050, 0x0, 0x0, 5, 5, 0x0, false⟩
def FLT_INT_STATUS_HIST_LOST : Fld := ⟨0x120050, 0x0, 0x0, 4, 4, 0x0, false⟩
def FLT_INT_STATUS_CAPSTONE : Fld := ⟨0x120050, 0x0, 0x0, 3, 3, 0x0, false⟩
def FLT_INT_STATUS_HALT : Fld := ⟨0x120050, 0x0, 0x0, 2, 2, 0x0, false⟩
def FLT_INT_STATUS_DEGRADE : Fld := ⟨0x120050, 0x0, 0x0, 1, 1, 0x0, false⟩
def FLT_INT_STATUS_NOTE : Fld := ⟨0x120050, 0x0, 0x0, 0, 0, 0x0, false⟩
/-- FLT_INT_EN (15_faults.md, line 386). -/
def FLT_INT_EN : Fld := ⟨0x120054, 0x0, 0x0, 31, 0, 0x0, false⟩
def FLT_INT_EN_EN : Fld := ⟨0x120054, 0x0, 0x0, 6, 0, 0x0, false⟩
/-- FLT_HIST_PEEKk_w (15_faults.md, line 394). -/
def FLT_HIST_PEEKk_w : Fld := ⟨0x120100, 0x10, 0x4, 31, 0, 0x0, false⟩
/-- FLT_SRCn (15_faults.md, line 401). -/
def FLT_SRCn : Fld := ⟨0x120400, 0x4, 0x0, 31, 0, 0x0, false⟩
def FLT_SRCn_FIXED : Fld := ⟨0x120400, 0x4, 0x0, 31, 31, 0x0, false⟩
def FLT_SRCn_ACTIVE : Fld := ⟨0x120400, 0x4, 0x0, 30, 30, 0x0, false⟩
def FLT_SRCn_UNCLEARED : Fld := ⟨0x120400, 0x4, 0x0, 29, 29, 0x0, false⟩
def FLT_SRCn_CLASS : Fld := ⟨0x120400, 0x4, 0x0, 25, 24, 0x0, false⟩
def FLT_SRCn_COUNT : Fld := ⟨0x120400, 0x4, 0x0, 15, 0, 0x0, false⟩
/-- DOM_STATUS (16_power_domains.md, line 221). -/
def DOM_STATUS : Fld := ⟨0x130000, 0x0, 0x0, 31, 0, 0x0, false⟩
def DOM_STATUS_CAUSE : Fld := ⟨0x130000, 0x0, 0x0, 11, 8, 0x0, false⟩
def DOM_STATUS_STORAGE : Fld := ⟨0x130000, 0x0, 0x0, 2, 2, 0x0, false⟩
def DOM_STATUS_SLEEP : Fld := ⟨0x130000, 0x0, 0x0, 1, 0, 0x0, false⟩
/-- DOM_CTRL (16_power_domains.md, line 232). -/
def DOM_CTRL : Fld := ⟨0x130004, 0x0, 0x0, 31, 0, 0x0, false⟩
def DOM_CTRL_MODE : Fld := ⟨0x130004, 0x0, 0x0, 8, 8, 0x0, false⟩
def DOM_CTRL_WAKE : Fld := ⟨0x130004, 0x0, 0x0, 1, 1, 0x0, false⟩
def DOM_CTRL_SLEEP : Fld := ⟨0x130004, 0x0, 0x0, 0, 0, 0x0, false⟩
/-- DOM_WAKE_EN (16_power_domains.md, line 243). -/
def DOM_WAKE_EN : Fld := ⟨0x130008, 0x0, 0x0, 31, 0, 0xFF, false⟩
def DOM_WAKE_EN_HOST : Fld := ⟨0x130008, 0x0, 0x0, 7, 7, 0xFF, false⟩
def DOM_WAKE_EN_OVR : Fld := ⟨0x130008, 0x0, 0x0, 6, 6, 0xFF, false⟩
def DOM_WAKE_EN_EN : Fld := ⟨0x130008, 0x0, 0x0, 5, 0, 0xFF, false⟩
/-- DOM_SLEEP_MS (16_power_domains.md, line 253). -/
def DOM_SLEEP_MS : Fld := ⟨0x13000C, 0x0, 0x0, 31, 0, 0x0, false⟩
/-- DOM_INT_STATUS (16_power_domains.md, line 260). -/
def DOM_INT_STATUS : Fld := ⟨0x130010, 0x0, 0x0, 31, 0, 0x0, false⟩
def DOM_INT_STATUS_FLOOR : Fld := ⟨0x130010, 0x0, 0x0, 3, 3, 0x0, false⟩
def DOM_INT_STATUS_COLD : Fld := ⟨0x130010, 0x0, 0x0, 2, 2, 0x0, false⟩
def DOM_INT_STATUS_SLEPT : Fld := ⟨0x130010, 0x0, 0x0, 1, 1, 0x0, false⟩
def DOM_INT_STATUS_WOKE : Fld := ⟨0x130010, 0x0, 0x0, 0, 0, 0x0, false⟩
/-- DOM_INT_EN (16_power_domains.md, line 271). -/
def DOM_INT_EN : Fld := ⟨0x130014, 0x0, 0x0, 31, 0, 0x0, false⟩
def DOM_INT_EN_EN : Fld := ⟨0x130014, 0x0, 0x0, 3, 0, 0x0, false⟩
/-- DOM_Dnn_CFG (16_power_domains.md, line 279). -/
def DOM_Dnn_CFG : Fld := ⟨0x130100, 0x20, 0x0, 31, 0, 0x3E80000, false⟩
def DOM_Dnn_CFG_IDLE_US : Fld := ⟨0x130100, 0x20, 0x0, 31, 16, 0x3E80000, false⟩
def DOM_Dnn_CFG_TARGET : Fld := ⟨0x130100, 0x20, 0x0, 1, 0, 0x3E80000, false⟩
/-- DOM_Dnn_STAT (16_power_domains.md, line 288). -/
def DOM_Dnn_STAT : Fld := ⟨0x130104, 0x20, 0x0, 31, 0, 0x0, false⟩
def DOM_Dnn_STAT_USED : Fld := ⟨0x130104, 0x20, 0x0, 31, 31, 0x0, false⟩
def DOM_Dnn_STAT_EXCEPT : Fld := ⟨0x130104, 0x20, 0x0, 30, 30, 0x0, false⟩
def DOM_Dnn_STAT_KEEP : Fld := ⟨0x130104, 0x20, 0x0, 29, 29, 0x0, false⟩
def DOM_Dnn_STAT_SAVED : Fld := ⟨0x130104, 0x20, 0x0, 28, 28, 0x0, false⟩
def DOM_Dnn_STAT_SLEEP : Fld := ⟨0x130104, 0x20, 0x0, 27, 27, 0x0, false⟩
def DOM_Dnn_STAT_SAVE_WORDS : Fld := ⟨0x130104, 0x20, 0x0, 24, 16, 0x0, false⟩
def DOM_Dnn_STAT_STATE : Fld := ⟨0x130104, 0x20, 0x0, 1, 0, 0x0, false⟩
/-- DOM_Dnn_CNT (16_power_domains.md, line 303). -/
def DOM_Dnn_CNT : Fld := ⟨0x130108, 0x20, 0x0, 31, 0, 0x0, false⟩
def DOM_Dnn_CNT_WAKES : Fld := ⟨0x130108, 0x20, 0x0, 31, 16, 0x0, false⟩
def DOM_Dnn_CNT_COLD : Fld := ⟨0x130108, 0x20, 0x0, 15, 0, 0x0, false⟩
/-- DOM_Dnn_TAG_LO (16_power_domains.md, line 311). -/
def DOM_Dnn_TAG_LO : Fld := ⟨0x13010C, 0x20, 0x0, 31, 0, 0x0, false⟩
/-- DOM_Dnn_TAG_HI (16_power_domains.md, line 311). -/
def DOM_Dnn_TAG_HI : Fld := ⟨0x130110, 0x20, 0x0, 31, 0, 0x0, false⟩
/-- DBG_CFG (14_hosts.md, line 425). -/
def DBG_CFG : Fld := ⟨0x140000, 0x0, 0x0, 31, 0, 0x1, false⟩
def DBG_CFG_LOCK : Fld := ⟨0x140000, 0x0, 0x0, 2, 2, 0x1, false⟩
def DBG_CFG_INTRUSIVE : Fld := ⟨0x140000, 0x0, 0x0, 1, 1, 0x1, false⟩
def DBG_CFG_QUIET : Fld := ⟨0x140000, 0x0, 0x0, 0, 0, 0x1, false⟩
/-- DBG_CORE_CTRL (14_hosts.md, line 435). -/
def DBG_CORE_CTRL : Fld := ⟨0x140004, 0x0, 0x0, 31, 0, 0x0, false⟩
def DBG_CORE_CTRL_RESUME : Fld := ⟨0x140004, 0x0, 0x0, 9, 9, 0x0, false⟩
def DBG_CORE_CTRL_HALT : Fld := ⟨0x140004, 0x0, 0x0, 8, 8, 0x0, false⟩
def DBG_CORE_CTRL_MASK : Fld := ⟨0x140004, 0x0, 0x0, 3, 0, 0x0, false⟩
/-- DBG_CORE_STATUS (14_hosts.md, line 446). -/
def DBG_CORE_STATUS : Fld := ⟨0x140008, 0x0, 0x0, 31, 0, 0x0, false⟩
def DBG_CORE_STATUS_RESTARTED : Fld := ⟨0x140008, 0x0, 0x0, 11, 8, 0x0, false⟩
def DBG_CORE_STATUS_HALTED : Fld := ⟨0x140008, 0x0, 0x0, 3, 0, 0x0, false⟩
/-- DBG_SEM_BREAK (14_hosts.md, line 456). -/
def DBG_SEM_BREAK : Fld := ⟨0x14000C, 0x0, 0x0, 31, 0, 0x0, false⟩
def DBG_SEM_BREAK_BREAK : Fld := ⟨0x14000C, 0x0, 0x0, 31, 31, 0x0, false⟩
def DBG_SEM_BREAK_SEM : Fld := ⟨0x14000C, 0x0, 0x0, 5, 0, 0x0, false⟩
end Sys2Proof.Machine.Reg
namespace Sys2Proof.Machine
/-- Rows of the IDENT block, part 0. -/
def regRowsIdent0 : List RegRow := [
  ⟨0x0, 0x0, 0, 1, 0x0, 1, 0xB08128, .nobody, false, false, []⟩,
  ⟨0x4, 0x0, 0, 1, 0x0, 1, 0x0, .nobody, false, false, []⟩,
  ⟨0x8, 0x0, 0, 1, 0x0, 1, 0x0, .nobody, false, false, []⟩,
  ⟨0xC, 0x0, 0, 1, 0x0, 1, 0x0, .nobody, false, false, []⟩,
  ⟨0x10, 0x0, 0, 1, 0x0, 1, 0x0, .nobody, false, false, []⟩,
  ⟨0x14, 0x0, 0, 1, 0x0, 1, 0x0, .nobody, false, false, []⟩,
  ⟨0x18, 0x0, 0, 1, 0x0, 1, 0x0, .nobody, false, false, []⟩]
/-- The register list of the IDENT block. -/
def regRowsIdent : List RegRow := regRowsIdent0
/-- Rows of the KS block, part 0. -/
def regRowsKs0 : List RegRow := [
  ⟨0x10000, 0x0, 0, 1, 0x0, 1, 0x11, .nobody, false, false, []⟩,
  ⟨0x10004, 0x0, 0, 1, 0x0, 1, 0x0, .owner, false, false, [(.wa, 1, 1), (.wa, 0, 0)]⟩,
  ⟨0x10008, 0x0, 0, 1, 0x0, 1, 0x0, .nobody, false, false, []⟩,
  ⟨0x1000C, 0x0, 0, 1, 0x0, 1, 0x0, .nobody, false, false, []⟩,
  ⟨0x10010, 0x0, 0, 1, 0x0, 1, 0x0, .nobody, false, false, []⟩,
  ⟨0x10014, 0x0, 0, 1, 0x0, 1, 0x0, .nobody, false, false, []⟩,
  ⟨0x10018, 0x0, 0, 1, 0x0, 1, 0x0, .nobody, false, false, []⟩,
  ⟨0x1001C, 0x0, 0, 1, 0x0, 1, 0x80000, .nobody, false, false, []⟩,
  ⟨0x10020, 0x0, 0, 1, 0x0, 1, 0x0, .nobody, false, false, []⟩,
  ⟨0x10024, 0x0, 0, 1, 0x0, 1, 0x0, .nobody, false, false, []⟩,
  ⟨0x10028, 0x0, 0, 1, 0x0, 1, 0x0, .nobody, false, false, []⟩,
  ⟨0x1002C, 0x0, 0, 1, 0x0, 1, 0x0, .nobody, false, false, []⟩,
  ⟨0x10030, 0x0, 0, 1, 0x0, 1, 0x0, .nobody, false, false, []⟩,
  ⟨0x10034, 0x0, 0, 1, 0x0, 1, 0x0, .owner, false, false, [(.w1c, 7, 7), (.w1c, 6, 6), (.w1c, 5, 5), (.w1c, 4, 4), (.w1c, 3, 0)]⟩,
  ⟨0x10038, 0x0, 0, 1, 0x0, 1, 0x0, .owner, false, false, [(.rw, 7, 0)]⟩,
  ⟨0x10040, 0x10, 0, 4, 0x0, 1, 0x0, .owner, false, false, [(.rw, 31, 0)]⟩,
  ⟨0x10044, 0x10, 0, 4, 0x0, 1, 0x0, .owner, false, false, [(.rw, 31, 0)]⟩,
  ⟨0x10048, 0x10, 0, 4, 0x0, 1, 0x0, .owner, false, false, [(.wa, 1, 1), (.wa, 0, 0)]⟩]
/-- The register list of the KS block. -/
def regRowsKs : List RegRow := regRowsKs0
/-- Rows of the IMG block, part 0. -/
def regRowsImg0 : List RegRow := [
  ⟨0x20000, 0x0, 0, 1, 0x0, 1, 0x0, .nobody, false, false, []⟩,
  ⟨0x20004, 0x0, 0, 1, 0x0, 1, 0x0, .owner, false, false, [(.rw, 8, 8), (.wa, 5, 5), (.wa, 4, 4), (.wa, 3, 3), (.wa, 2, 2), (.wa, 1, 1), (.wa, 0, 0)]⟩,
  ⟨0x20008, 0x0, 0, 1, 0x0, 1, 0x0, .nobody, false, false, []⟩,
  ⟨0x2000C, 0x0, 0, 1, 0x0, 1, 0x0, .nobody, false, false, []⟩,
  ⟨0x20010, 0x0, 0, 1, 0x0, 1, 0x0, .owner, false, false, [(.rw, 31, 0)]⟩,
  ⟨0x20014, 0x0, 0, 1, 0x0, 1, 0x0, .owner, false, false, [(.rw, 31, 0)]⟩,
  ⟨0x20018, 0x0, 0, 1, 0x0, 1, 0x0, .nobody, false, false, []⟩,
  ⟨0x20020, 0x0, 0, 1, 0x0, 1, 0x0, .nobody, false, false, []⟩,
  ⟨0x20024, 0x0, 0, 1, 0x0, 1, 0x0, .nobody, false, false, []⟩,
  ⟨0x20028, 0x0, 0, 1, 0x0, 1, 0x0, .nobody, false, false, []⟩,
  ⟨0x2002C, 0x0, 0, 1, 0x0, 1, 0x0, .nobody, false, false, []⟩,
  ⟨0x20030, 0x0, 0, 1, 0x0, 1, 0x0, .nobody, false, false, []⟩,
  ⟨0x20034, 0x0, 0, 1, 0x0, 1, 0x0, .nobody, false, false, []⟩,
  ⟨0x20038, 0x0, 0, 1, 0x0, 1, 0x0, .owner, false, true, [(.rw, 1, 1), (.rw, 0, 0)]⟩,
  ⟨0x2003C, 0x0, 0, 1, 0x0, 1, 0x0, .owner, false, true, [(.rw, 1, 1), (.rw, 0, 0)]⟩,
  ⟨0x20040, 0x4, 0, 2, 0x0, 1, 0x0, .nobody, false, false, []⟩,
  ⟨0x20048, 0x0, 0, 1, 0x0, 1, 0x0, .owner, false, false, [(.rw, 8, 8), (.wa, 2, 2), (.wa, 1, 1), (.wa, 0, 0)]⟩,
  ⟨0x2004C, 0x0, 0, 1, 0x0, 1, 0x0, .owner, false, false, [(.wo, 31, 0)]⟩,
  ⟨0x20050, 0x0, 0, 1, 0x0, 1, 0x0, .nobody, false, false, []⟩,
  ⟨0x20058, 0x0, 0, 1, 0x0, 1, 0x0, .owner, false, false, [(.w1c, 5, 5), (.w1c, 4, 4), (.w1c, 3, 3), (.w1c, 2, 2), (.w1c, 1, 1), (.w1c, 0, 0)]⟩,
  ⟨0x2005C, 0x0, 0, 1, 0x0, 1, 0x0, .owner, false, false, [(.rw, 5, 0)]⟩,
  ⟨0x20100, 0x40, 0, 4, 0x4, 16, 0x0, .owner, false, true, [(.rw, 31, 0)]⟩]
/-- The register list of the IMG block. -/
def regRowsImg : List RegRow := regRowsImg0
/-- Rows of the ENG block, part 0. -/
def regRowsEng0 : List RegRow := [
  ⟨0x30000, 0x0, 0, 1, 0x0, 1, 0x0, .nobody, false, false, []⟩,
  ⟨0x30004, 0x0, 0, 1, 0x0, 1, 0x1, .owner, false, false, [(.wa, 2, 2), (.wa, 1, 1), (.rw, 0, 0)]⟩,
  ⟨0x30008, 0x0, 0, 1, 0x0, 1, 0x0, .nobody, false, false, []⟩,
  ⟨0x3000C, 0x0, 0, 1, 0x0, 1, 0x42E18, .nobody, false, false, []⟩,
  ⟨0x30010, 0x0, 0, 1, 0x0, 1, 0x0, .nobody, false, false, []⟩,
  ⟨0x30014, 0x0, 0, 1, 0x0, 1, 0x0, .nobody, false, false, []⟩,
  ⟨0x30018, 0x0, 0, 1, 0x0, 1, 0x0, .nobody, false, false, []⟩,
  ⟨0x3001C, 0x0, 0, 1, 0x0, 1, 0x0, .nobody, false, false, []⟩,
  ⟨0x30020, 0x0, 0, 1, 0x0, 1, 0x0, .nobody, false, false, []⟩,
  ⟨0x30024, 0x0, 0, 1, 0x0, 1, 0x0, .nobody, false, false, []⟩,
  ⟨0x30028, 0x0, 0, 1, 0x0, 1, 0x0, .nobody, false, false, []⟩,
  ⟨0x3002C, 0x0, 0, 1, 0x0, 1, 0x0, .nobody, false, false, []⟩,
  ⟨0x30030, 0x0, 0, 1, 0x0, 1, 0x0, .owner, false, false, [(.w1c, 5, 5), (.w1c, 4, 4), (.w1c, 3, 3), (.w1c, 2, 2), (.w1c, 1, 1), (.w1c, 0, 0)]⟩,
  ⟨0x30034, 0x0, 0, 1, 0x0, 1, 0x0, .owner, false, false, [(.rw, 5, 0)]⟩,
  ⟨0x30100, 0x10, 0, 32, 0x0, 1, 0x0, .nobody, false, false, []⟩,
  ⟨0x30104, 0x10, 0, 32, 0x0, 1, 0x0, .nobody, false, false, []⟩,
  ⟨0x30108, 0x10, 0, 32, 0x0, 1, 0x0, .nobody, false, false, []⟩,
  ⟨0x3010C, 0x10, 0, 32, 0x0, 1, 0x0, .nobody, false, false, []⟩]
/-- The register list of the ENG block. -/
def regRowsEng : List RegRow := regRowsEng0
/-- Rows of the MIX block, part 0. -/
def regRowsMix0 : List RegRow := [
  ⟨0x70000, 0x0, 0, 1, 0x0, 1, 0x0, .every, true, false, [(.rw, 2, 0)]⟩,
  ⟨0x70004, 0x0, 0, 1, 0x0, 1, 0x0, .every, true, false, [(.rw, 10, 8), (.wa, 2, 2), (.wa, 1, 1), (.wa, 0, 0)]⟩,
  ⟨0x70008, 0x0, 0, 1, 0x0, 1, 0x0, .every, true, false, [(.rw, 31, 0)]⟩,
  ⟨0x7000C, 0x0, 0, 1, 0x0, 1, 0x0, .every, true, false, [(.rw, 31, 0)]⟩,
  ⟨0x70010, 0x0, 0, 1, 0x0, 1, 0x0, .nobody, false, false, []⟩,
  ⟨0x70014, 0x0, 0, 1, 0x0, 1, 0x0, .owner, false, false, [(.wa, 2, 2), (.wa, 1, 1), (.wa, 0, 0)]⟩,
  ⟨0x70018, 0x0, 0, 1, 0x0, 1, 0x0, .owner, false, false, [(.rw, 31, 0)]⟩,
  ⟨0x7001C, 0x0, 0, 1, 0x0, 1, 0x0, .owner, false, false, [(.rw, 31, 0)]⟩,
  ⟨0x70020, 0x0, 0, 1, 0x0, 1, 0x0, .nobody, true, false, [(.rc, 31, 0)]⟩,
  ⟨0x70024, 0x0, 0, 1, 0x0, 1, 0x0, .every, true, false, [(.rw, 31, 0)]⟩,
  ⟨0x70028, 0x0, 0, 1, 0x0, 1, 0x0, .every, true, false, [(.wa, 31, 31), (.rw, 14, 12), (.rw, 11, 0)]⟩,
  ⟨0x7002C, 0x0, 0, 1, 0x0, 1, 0x0, .every, true, false, [(.rw, 11, 0)]⟩,
  ⟨0x70030, 0x0, 0, 1, 0x0, 1, 0x0, .nobody, false, false, []⟩,
  ⟨0x70034, 0x0, 0, 1, 0x0, 1, 0x0, .nobody, false, false, []⟩,
  ⟨0x70040, 0x0, 0, 1, 0x0, 1, 0x4B0004, .owner, false, false, [(.rw, 27, 8), (.rw, 2, 2), (.wa, 1, 1), (.wa, 0, 0)]⟩,
  ⟨0x70044, 0x0, 0, 1, 0x0, 1, 0x0, .nobody, false, false, []⟩,
  ⟨0x70048, 0x0, 0, 1, 0x0, 1, 0x0, .nobody, false, false, []⟩,
  ⟨0x7004C, 0x0, 0, 1, 0x0, 1, 0x0, .nobody, false, false, []⟩,
  ⟨0x70050, 0x0, 0, 1, 0x0, 1, 0x0, .owner, false, false, [(.rw, 31, 0)]⟩,
  ⟨0x70054, 0x0, 0, 1, 0x0, 1, 0x0, .owner, false, false, [(.rw, 23, 0)]⟩,
  ⟨0x70060, 0x0, 0, 1, 0x0, 1, 0x0, .msg, false, false, [(.rw, 25, 16), (.wa, 3, 3), (.wa, 2, 2), (.wa, 1, 1), (.wa, 0, 0)]⟩,
  ⟨0x70064, 0x0, 0, 1, 0x0, 1, 0x0, .msg, false, false, [(.wo, 31, 0)]⟩,
  ⟨0x70068, 0x0, 0, 1, 0x0, 1, 0x0, .nobody, false, false, []⟩,
  ⟨0x70070, 0x0, 0, 1, 0x0, 1, 0x0, .owner, false, false, [(.rw, 1, 1), (.rw, 0, 0)]⟩,
  ⟨0x70074, 0x0, 0, 1, 0x0, 1, 0x0, .nobody, false, false, []⟩]
/-- Rows of the MIX block, part 1. -/
def regRowsMix1 : List RegRow := [
  ⟨0x70080, 0x0, 0, 1, 0x0, 1, 0x0, .owner, false, false, [(.w1c, 8, 8), (.w1c, 7, 7), (.w1c, 6, 6), (.w1c, 5, 5), (.w1c, 4, 4), (.w1c, 3, 3), (.w1c, 2, 2), (.w1c, 1, 1), (.w1c, 0, 0)]⟩,
  ⟨0x70084, 0x0, 0, 1, 0x0, 1, 0x0, .owner, false, false, [(.rw, 8, 0)]⟩]
/-- The register list of the MIX block. -/
def regRowsMix : List RegRow := regRowsMix0 ++ regRowsMix1
/-- Rows of the RING block, part 0. -/
def regRowsRing0 : List RegRow := [
  ⟨0x80000, 0x0, 0, 1, 0x0, 1, 0x0, .nobody, false, false, []⟩,
  ⟨0x80004, 0x0, 0, 1, 0x0, 1, 0x0, .nobody, false, false, []⟩,
  ⟨0x80008, 0x0, 0, 1, 0x0, 1, 0x0, .nobody, false, false, []⟩,
  ⟨0x8000C, 0x0, 0, 1, 0x0, 1, 0x1, .owner, false, false, [(.wa, 2, 2), (.wa, 1, 1), (.rw, 0, 0)]⟩,
  ⟨0x80010, 0x0, 0, 1, 0x0, 1, 0x0, .nobody, false, false, []⟩,
  ⟨0x80014, 0x0, 0, 1, 0x0, 1, 0x0, .nobody, false, false, []⟩,
  ⟨0x80020, 0x0, 0, 1, 0x0, 1, 0x0, .nobody, false, false, []⟩,
  ⟨0x80024, 0x0, 0, 1, 0x0, 1, 0x0, .nobody, false, false, []⟩,
  ⟨0x80028, 0x0, 0, 1, 0x0, 1, 0x0, .nobody, false, false, []⟩,
  ⟨0x8002C, 0x0, 0, 1, 0x0, 1, 0x0, .nobody, false, false, []⟩,
  ⟨0x80030, 0x0, 0, 1, 0x0, 1, 0x0, .nobody, false, false, []⟩,
  ⟨0x80034, 0x0, 0, 1, 0x0, 1, 0x0, .nobody, false, false, []⟩,
  ⟨0x80038, 0x0, 0, 1, 0x0, 1, 0x0, .nobody, false, false, []⟩,
  ⟨0x8003C, 0x0, 0, 1, 0x0, 1, 0x0, .nobody, false, false, []⟩,
  ⟨0x80040, 0x0, 0, 1, 0x0, 1, 0x0, .nobody, false, false, []⟩,
  ⟨0x80044, 0x0, 0, 1, 0x0, 1, 0x0, .nobody, false, false, []⟩,
  ⟨0x80048, 0x0, 0, 1, 0x0, 1, 0x0, .nobody, false, false, []⟩,
  ⟨0x80050, 0x0, 0, 1, 0x0, 1, 0x0, .owner, false, false, [(.w1c, 7, 7), (.w1c, 6, 6), (.w1c, 5, 5), (.w1c, 4, 4), (.w1c, 3, 3), (.w1c, 2, 2), (.w1c, 1, 1), (.w1c, 0, 0)]⟩,
  ⟨0x80054, 0x0, 0, 1, 0x0, 1, 0x0, .owner, false, false, [(.rw, 7, 0)]⟩,
  ⟨0x80060, 0x0, 0, 1, 0x0, 1, 0x0, .every, true, false, [(.rw, 6, 0)]⟩,
  ⟨0x80064, 0x0, 0, 1, 0x0, 1, 0x0, .nobody, false, false, []⟩,
  ⟨0x80068, 0x0, 0, 1, 0x0, 1, 0x0, .nobody, false, false, []⟩,
  ⟨0x8006C, 0x0, 0, 1, 0x0, 1, 0x0, .nobody, false, false, []⟩,
  ⟨0x80070, 0x0, 0, 1, 0x0, 1, 0x0, .nobody, false, false, []⟩,
  ⟨0x80080, 0x0, 0, 1, 0x0, 1, 0x1, .every, true, false, [(.rw, 7, 0)]⟩]
/-- Rows of the RING block, part 1. -/
def regRowsRing1 : List RegRow := [
  ⟨0x80084, 0x0, 0, 1, 0x0, 1, 0x0, .nobody, false, false, []⟩,
  ⟨0x80088, 0x0, 0, 1, 0x0, 1, 0x0, .nobody, false, false, []⟩,
  ⟨0x80300, 0x4, 0, 64, 0x0, 1, 0x0, .nobody, false, false, []⟩,
  ⟨0x80400, 0x8, 0, 128, 0x0, 1, 0x0, .nobody, false, false, []⟩,
  ⟨0x80404, 0x8, 0, 128, 0x0, 1, 0xFFFFFFFF, .nobody, false, false, []⟩,
  ⟨0x80800, 0x0, 0, 1, 0x0, 1, 0x0, .nobody, false, false, []⟩,
  ⟨0x80804, 0x0, 0, 1, 0x0, 1, 0x80080, .owner, false, true, [(.rw, 19, 16), (.rw, 7, 0)]⟩,
  ⟨0x80808, 0x0, 0, 1, 0x0, 1, 0x10800080, .owner, false, true, [(.rw, 29, 28), (.rw, 25, 16), (.rw, 11, 0)]⟩,
  ⟨0x8080C, 0x0, 0, 1, 0x0, 1, 0x7D0, .owner, false, true, [(.rw, 15, 0)]⟩,
  ⟨0x80810, 0x0, 0, 1, 0x0, 1, 0x0, .owner, false, true, [(.rw, 31, 0)]⟩,
  ⟨0x80814, 0x0, 0, 1, 0x0, 1, 0x0, .owner, false, true, [(.rw, 31, 0)]⟩,
  ⟨0x80818, 0x0, 0, 1, 0x0, 1, 0x0, .owner, false, false, [(.rw, 8, 8), (.wa, 5, 5), (.wa, 4, 4), (.wa, 3, 3), (.wa, 2, 2), (.wa, 1, 1), (.wa, 0, 0)]⟩,
  ⟨0x8081C, 0x0, 0, 1, 0x0, 1, 0x0, .nobody, false, false, []⟩,
  ⟨0x80820, 0x0, 0, 1, 0x0, 1, 0x0, .owner, false, false, [(.rw, 31, 0)]⟩,
  ⟨0x80824, 0x0, 0, 1, 0x0, 1, 0x0, .owner, false, false, [(.rw, 15, 0)]⟩,
  ⟨0x80828, 0x0, 0, 1, 0x0, 1, 0x0, .nobody, false, false, []⟩,
  ⟨0x8082C, 0x0, 0, 1, 0x0, 1, 0x0, .nobody, false, false, []⟩,
  ⟨0x80830, 0x0, 0, 1, 0x0, 1, 0x0, .nobody, false, false, []⟩,
  ⟨0x80834, 0x0, 0, 1, 0x0, 1, 0x0, .nobody, false, false, []⟩,
  ⟨0x80838, 0x0, 0, 1, 0x0, 1, 0x0, .nobody, false, false, []⟩,
  ⟨0x8083C, 0x0, 0, 1, 0x0, 1, 0x0, .nobody, false, false, []⟩,
  ⟨0x80840, 0x0, 0, 1, 0x0, 1, 0x0, .nobody, false, false, []⟩,
  ⟨0x80850, 0x4, 0, 2, 0x0, 1, 0x0, .nobody, false, false, []⟩,
  ⟨0x80858, 0x0, 0, 1, 0x0, 1, 0xFFFFFFFF, .nobody, false, false, []⟩,
  ⟨0x8085C, 0x0, 0, 1, 0x0, 1, 0xFFFFFFFF, .nobody, false, false, []⟩]
/-- Rows of the RING block, part 2. -/
def regRowsRing2 : List RegRow := [
  ⟨0x80860, 0x0, 0, 1, 0x0, 1, 0x0, .nobody, false, false, []⟩,
  ⟨0x80864, 0x0, 0, 1, 0x0, 1, 0x0, .nobody, false, false, []⟩,
  ⟨0x80868, 0x0, 0, 1, 0x0, 1, 0x0, .nobody, false, false, []⟩,
  ⟨0x8086C, 0x0, 0, 1, 0x0, 1, 0x0, .nobody, false, false, []⟩,
  ⟨0x80870, 0x0, 0, 1, 0x0, 1, 0x0, .nobody, false, false, []⟩,
  ⟨0x80880, 0x0, 0, 1, 0x0, 1, 0x0, .owner, false, false, [(.w1c, 7, 7), (.w1c, 6, 6), (.w1c, 5, 5), (.w1c, 4, 4), (.w1c, 3, 3), (.w1c, 2, 2), (.w1c, 1, 1), (.w1c, 0, 0)]⟩,
  ⟨0x80884, 0x0, 0, 1, 0x0, 1, 0x0, .owner, false, false, [(.rw, 7, 0)]⟩]
/-- The register list of the RING block. -/
def regRowsRing : List RegRow := regRowsRing0 ++ regRowsRing1 ++ regRowsRing2
/-- Rows of the PORT block, part 0. -/
def regRowsPort0 : List RegRow := [
  ⟨0x90000, 0x20, 0, 3, 0x0, 1, 0x41, .owner, false, false, [(.rw, 6, 6), (.rw, 5, 5), (.rw, 4, 4), (.rw, 3, 1), (.rw, 0, 0)]⟩,
  ⟨0x90004, 0x20, 0, 3, 0x0, 1, 0xFFFF, .nobody, false, false, []⟩,
  ⟨0x90008, 0x20, 0, 3, 0x0, 1, 0x12C3C1E, .owner, false, false, [(.rw, 27, 16), (.rw, 15, 8), (.rw, 7, 0)]⟩,
  ⟨0x9000C, 0x20, 0, 3, 0x0, 1, 0xA03E8, .owner, false, false, [(.rw, 25, 16), (.rw, 15, 0)]⟩,
  ⟨0x90080, 0x0, 0, 1, 0x0, 1, 0x0, .owner, false, false, [(.rw, 1, 1), (.rw, 0, 0)]⟩,
  ⟨0x90090, 0x0, 0, 1, 0x0, 1, 0x0, .owner, false, false, [(.wa, 1, 1), (.wa, 0, 0)]⟩,
  ⟨0x90094, 0x0, 0, 1, 0x0, 1, 0x0, .owner, false, false, [(.rw, 31, 0)]⟩,
  ⟨0x90098, 0x0, 0, 1, 0x0, 1, 0x0, .owner, false, false, [(.rw, 31, 0)]⟩,
  ⟨0x9009C, 0x0, 0, 1, 0x0, 1, 0x1, .owner, false, false, [(.rw, 31, 0)]⟩,
  ⟨0x900A0, 0x0, 0, 1, 0x0, 1, 0x0, .nobody, false, false, []⟩,
  ⟨0x900A4, 0x0, 0, 1, 0x0, 1, 0x0, .nobody, false, false, []⟩,
  ⟨0x900A8, 0x0, 0, 1, 0x0, 1, 0x0, .nobody, false, false, []⟩,
  ⟨0x900AC, 0x0, 0, 1, 0x0, 1, 0x0, .nobody, false, false, []⟩,
  ⟨0x900B0, 0x0, 0, 1, 0x0, 1, 0x0, .nobody, false, false, []⟩,
  ⟨0x900C0, 0x0, 0, 1, 0x0, 1, 0x0, .owner, false, false, [(.w1c, 6, 6), (.w1c, 5, 5), (.w1c, 4, 4), (.w1c, 3, 3), (.w1c, 2, 2), (.w1c, 1, 1), (.w1c, 0, 0)]⟩,
  ⟨0x900C4, 0x0, 0, 1, 0x0, 1, 0x0, .owner, false, false, [(.rw, 6, 0)]⟩,
  ⟨0x90100, 0x8, 0, 4, 0x0, 1, 0x0, .owner, false, false, [(.w1c, 31, 0)]⟩,
  ⟨0x90104, 0x8, 0, 4, 0x0, 1, 0x0, .owner, false, false, [(.w1c, 31, 0)]⟩,
  ⟨0x90120, 0x0, 0, 1, 0x0, 1, 0x0, .owner, false, false, [(.rw, 3, 0)]⟩,
  ⟨0x90200, 0x20, 0, 16, 0x0, 1, 0x0, .avdecc, false, false, [(.rw, 31, 31), (.rw, 30, 30), (.rw, 29, 29), (.rw, 28, 22), (.rw, 21, 19), (.rw, 11, 0)]⟩,
  ⟨0x90204, 0x20, 0, 16, 0x0, 1, 0x0, .avdecc, false, false, [(.rw, 31, 0)]⟩,
  ⟨0x90208, 0x20, 0, 16, 0x0, 1, 0x0, .avdecc, false, false, [(.rw, 31, 0)]⟩,
  ⟨0x9020C, 0x20, 0, 16, 0x0, 1, 0x0, .avdecc, false, false, [(.rw, 31, 0)]⟩,
  ⟨0x90210, 0x20, 0, 16, 0x0, 1, 0x0, .avdecc, false, false, [(.rw, 15, 0)]⟩,
  ⟨0x90214, 0x20, 8, 8, 0x0, 1, 0x7D0, .avdecc, false, false, [(.rw, 13, 0)]⟩]
/-- Rows of the PORT block, part 1. -/
def regRowsPort1 : List RegRow := [
  ⟨0x90218, 0x20, 0, 16, 0x0, 1, 0x0, .nobody, false, false, []⟩,
  ⟨0x91000, 0x100, 0, 4, 0x4, 64, 0x0, .nobody, false, false, []⟩,
  ⟨0x91400, 0x100, 0, 4, 0x4, 64, 0x0, .nobody, false, false, []⟩,
  ⟨0x91800, 0x4, 0, 21, 0x0, 1, 0x0, .nobody, false, false, []⟩]
/-- The register list of the PORT block. -/
def regRowsPort : List RegRow := regRowsPort0 ++ regRowsPort1
/-- Rows of the SBUS block, part 0. -/
def regRowsSbus0 : List RegRow := [
  ⟨0xA0000, 0x0, 0, 1, 0x0, 1, 0x200803, .owner, false, false, [(.rw, 27, 24), (.rw, 23, 16), (.rw, 11, 8), (.rw, 5, 5), (.rw, 4, 2), (.rw, 1, 1), (.rw, 0, 0)]⟩,
  ⟨0xA0004, 0x0, 0, 1, 0x0, 1, 0x0, .nobody, false, false, []⟩,
  ⟨0xA0010, 0x0, 0, 1, 0x0, 1, 0x0, .owner, false, false, [(.rw, 31, 0)]⟩,
  ⟨0xA0014, 0x0, 0, 1, 0x0, 1, 0x0, .owner, false, false, [(.rw, 5, 0)]⟩,
  ⟨0xA0018, 0x0, 0, 1, 0x0, 1, 0x0, .nobody, false, false, []⟩,
  ⟨0xA0020, 0x0, 0, 1, 0x0, 1, 0x0, .owner, false, false, [(.rw, 31, 0)]⟩,
  ⟨0xA0024, 0x0, 0, 1, 0x0, 1, 0x0, .nobody, false, false, []⟩,
  ⟨0xA0028, 0x0, 0, 1, 0x0, 1, 0x0, .owner, false, false, [(.rw, 5, 0)]⟩,
  ⟨0xA0030, 0x0, 0, 1, 0x0, 1, 0x0, .owner, false, false, [(.w1c, 3, 3), (.w1c, 2, 2), (.w1c, 1, 1), (.w1c, 0, 0)]⟩,
  ⟨0xA0034, 0x0, 0, 1, 0x0, 1, 0x0, .owner, false, false, [(.rw, 3, 0)]⟩]
/-- The register list of the SBUS block. -/
def regRowsSbus : List RegRow := regRowsSbus0
/-- Rows of the SAP block, part 0. -/
def regRowsSap0 : List RegRow := [
  ⟨0xB0000, 0x100, 0, 3, 0x0, 1, 0x90002, .owner, false, false, [(.rw, 31, 31), (.rw, 30, 30), (.rw, 29, 29), (.rw, 28, 28), (.rw, 27, 27), (.rw, 26, 26), (.rw, 25, 24), (.rw, 23, 23), (.rw, 19, 18), (.rw, 17, 16), (.rw, 5, 0)]⟩,
  ⟨0xB0004, 0x100, 0, 3, 0x0, 1, 0x0, .nobody, false, false, []⟩,
  ⟨0xB0008, 0x100, 0, 3, 0x0, 1, 0x0, .nobody, false, false, []⟩,
  ⟨0xB000C, 0x100, 0, 3, 0x0, 1, 0x0, .nobody, false, false, []⟩,
  ⟨0xB0010, 0x100, 0, 3, 0x0, 1, 0x0, .nobody, false, false, []⟩,
  ⟨0xB0014, 0x100, 0, 3, 0x0, 1, 0x0, .nobody, false, false, []⟩,
  ⟨0xB0018, 0x100, 0, 3, 0x0, 1, 0x0, .nobody, false, false, []⟩,
  ⟨0xB0020, 0x100, 0, 3, 0x0, 1, 0x0, .owner, false, false, [(.rw, 31, 31), (.rw, 30, 30), (.rw, 15, 0)]⟩,
  ⟨0xB0024, 0x100, 0, 3, 0x0, 1, 0x0, .owner, false, false, [(.rw, 31, 0)]⟩,
  ⟨0xB0028, 0x100, 0, 3, 0x0, 1, 0x0, .owner, false, false, [(.rw, 31, 0)]⟩,
  ⟨0xB002C, 0x100, 0, 3, 0x0, 1, 0x0, .owner, false, false, [(.rw, 19, 0)]⟩,
  ⟨0xB0030, 0x100, 0, 3, 0x0, 1, 0x0, .nobody, false, false, []⟩,
  ⟨0xB0034, 0x100, 0, 3, 0x0, 1, 0x0, .owner, false, false, [(.rw, 31, 0)]⟩,
  ⟨0xB0038, 0x100, 0, 3, 0x0, 1, 0x0, .nobody, false, false, []⟩,
  ⟨0xB003C, 0x100, 0, 3, 0x0, 1, 0x0, .nobody, false, false, []⟩,
  ⟨0xB0040, 0x100, 0, 3, 0x0, 1, 0x0, .nobody, false, false, []⟩,
  ⟨0xB0044, 0x100, 0, 3, 0x0, 1, 0x0, .nobody, false, false, []⟩,
  ⟨0xB0050, 0x100, 0, 3, 0x0, 1, 0x0, .owner, false, false, [(.rw, 31, 31), (.rw, 30, 30), (.rw, 15, 0)]⟩,
  ⟨0xB0054, 0x100, 0, 3, 0x0, 1, 0x0, .owner, false, false, [(.rw, 31, 0)]⟩,
  ⟨0xB0058, 0x100, 0, 3, 0x0, 1, 0x0, .owner, false, false, [(.rw, 31, 0)]⟩,
  ⟨0xB005C, 0x100, 0, 3, 0x0, 1, 0x0, .owner, false, false, [(.rw, 19, 0)]⟩,
  ⟨0xB0060, 0x100, 0, 3, 0x0, 1, 0x0, .owner, false, false, [(.rw, 31, 0)]⟩,
  ⟨0xB0064, 0x100, 0, 3, 0x0, 1, 0x0, .nobody, false, false, []⟩,
  ⟨0xB0068, 0x100, 0, 3, 0x0, 1, 0x0, .nobody, false, false, []⟩,
  ⟨0xB006C, 0x100, 0, 3, 0x0, 1, 0x0, .nobody, false, false, []⟩]
/-- Rows of the SAP block, part 1. -/
def regRowsSap1 : List RegRow := [
  ⟨0xB0070, 0x100, 0, 3, 0x0, 1, 0x0, .nobody, false, false, []⟩,
  ⟨0xB0074, 0x100, 0, 3, 0x0, 1, 0x0, .nobody, false, false, []⟩,
  ⟨0xB0300, 0x0, 0, 1, 0x0, 1, 0x0, .owner, false, false, [(.w1c, 5, 5), (.w1c, 11, 11), (.w1c, 17, 17), (.w1c, 4, 4), (.w1c, 10, 10), (.w1c, 16, 16), (.w1c, 3, 3), (.w1c, 9, 9), (.w1c, 15, 15), (.w1c, 2, 2), (.w1c, 8, 8), (.w1c, 14, 14), (.w1c, 1, 1), (.w1c, 7, 7), (.w1c, 13, 13), (.w1c, 0, 0), (.w1c, 6, 6), (.w1c, 12, 12)]⟩,
  ⟨0xB0304, 0x0, 0, 1, 0x0, 1, 0x0, .owner, false, false, [(.rw, 17, 0)]⟩]
/-- The register list of the SAP block. -/
def regRowsSap : List RegRow := regRowsSap0 ++ regRowsSap1
/-- Rows of the ANA block, part 0. -/
def regRowsAna0 : List RegRow := [
  ⟨0xC0000, 0x0, 0, 1, 0x0, 1, 0x0, .nobody, false, false, []⟩,
  ⟨0xC0004, 0x0, 0, 1, 0x0, 1, 0x0, .owner, false, false, [(.wa, 1, 1), (.wa, 0, 0)]⟩,
  ⟨0xC0010, 0x4, 0, 4, 0x0, 1, 0x0, .owner, false, false, [(.rw, 8, 8), (.rw, 7, 7), (.rw, 5, 0)]⟩,
  ⟨0xC0020, 0x4, 0, 4, 0x0, 1, 0x0, .nobody, false, false, []⟩,
  ⟨0xC0040, 0x10, 0, 4, 0x0, 1, 0x1E00000, .owner, false, false, [(.rw, 28, 16), (.rw, 9, 9), (.rw, 1, 0)]⟩,
  ⟨0xC0044, 0x10, 0, 4, 0x0, 1, 0x0, .owner, false, false, [(.wa, 1, 1), (.wa, 0, 0)]⟩,
  ⟨0xC0048, 0x10, 0, 4, 0x0, 1, 0x0, .nobody, false, false, []⟩,
  ⟨0xC0080, 0x0, 0, 1, 0x0, 1, 0x0, .owner, false, false, [(.rw, 6, 0)]⟩,
  ⟨0xC0084, 0x0, 0, 1, 0x0, 1, 0x0, .nobody, false, false, []⟩,
  ⟨0xC00A0, 0x0, 0, 1, 0x0, 1, 0xB, .owner, false, false, [(.rw, 3, 3), (.rw, 2, 2), (.rw, 1, 1), (.rw, 0, 0)]⟩,
  ⟨0xC00A4, 0x0, 0, 1, 0x0, 1, 0x0, .nobody, false, false, []⟩,
  ⟨0xC00A8, 0x0, 0, 1, 0x0, 1, 0x0, .nobody, false, false, []⟩,
  ⟨0xC00AC, 0x0, 0, 1, 0x0, 1, 0x0, .nobody, false, false, []⟩,
  ⟨0xC00B0, 0x0, 0, 1, 0x0, 1, 0x0, .nobody, false, false, []⟩,
  ⟨0xC00C0, 0x20, 0, 2, 0x4, 6, 0x0, .nobody, false, false, []⟩,
  ⟨0xC0100, 0x0, 0, 1, 0x0, 1, 0x0, .owner, false, false, [(.w1c, 7, 7), (.w1c, 6, 6), (.w1c, 5, 5), (.w1c, 4, 4), (.w1c, 3, 3), (.w1c, 2, 2), (.w1c, 1, 1), (.w1c, 0, 0)]⟩,
  ⟨0xC0104, 0x0, 0, 1, 0x0, 1, 0x0, .owner, false, false, [(.rw, 7, 0)]⟩]
/-- The register list of the ANA block. -/
def regRowsAna : List RegRow := regRowsAna0
/-- Rows of the AUX block, part 0. -/
def regRowsAux0 : List RegRow := [
  ⟨0xD0004, 0x0, 0, 1, 0x0, 1, 0x0, .owner, false, false, [(.wa, 0, 0)]⟩,
  ⟨0xD0010, 0x0, 0, 1, 0x0, 1, 0x0, .owner, false, false, [(.w1c, 3, 3), (.w1c, 7, 7), (.w1c, 11, 11), (.w1c, 15, 15), (.w1c, 2, 2), (.w1c, 6, 6), (.w1c, 10, 10), (.w1c, 14, 14), (.w1c, 1, 1), (.w1c, 5, 5), (.w1c, 9, 9), (.w1c, 13, 13), (.w1c, 0, 0), (.w1c, 4, 4), (.w1c, 8, 8), (.w1c, 12, 12)]⟩,
  ⟨0xD0014, 0x0, 0, 1, 0x0, 1, 0x0, .owner, false, false, [(.rw, 15, 0)]⟩,
  ⟨0xD0100, 0x40, 0, 4, 0x0, 1, 0x100001, .owner, false, false, [(.rw, 31, 31), (.rw, 29, 28), (.rw, 25, 24), (.rw, 21, 16), (.rw, 15, 0)]⟩,
  ⟨0xD0104, 0x40, 0, 4, 0x0, 1, 0x0, .owner, false, false, [(.wa, 9, 8), (.wa, 1, 1), (.wa, 0, 0)]⟩,
  ⟨0xD0108, 0x40, 0, 4, 0x0, 1, 0x0, .nobody, false, false, []⟩,
  ⟨0xD010C, 0x40, 0, 4, 0x0, 1, 0x0, .owner, false, false, [(.rw, 31, 16), (.rw, 15, 0)]⟩,
  ⟨0xD0110, 0x40, 0, 4, 0x0, 1, 0x0, .owner, false, false, [(.rw, 31, 29), (.rw, 28, 28), (.rw, 14, 0)]⟩,
  ⟨0xD0114, 0x40, 0, 4, 0x0, 1, 0x0, .owner, false, false, [(.rw, 31, 0)]⟩,
  ⟨0xD0118, 0x40, 0, 4, 0x0, 1, 0x0, .owner, false, false, [(.rw, 15, 0)]⟩,
  ⟨0xD011C, 0x40, 0, 4, 0x0, 1, 0x0, .owner, false, false, [(.wo, 15, 0)]⟩,
  ⟨0xD0120, 0x40, 0, 4, 0x0, 1, 0x0, .nobody, false, false, []⟩]
/-- The register list of the AUX block. -/
def regRowsAux : List RegRow := regRowsAux0
/-- Rows of the CLK block, part 0. -/
def regRowsClk0 : List RegRow := [
  ⟨0xE0000, 0x0, 0, 1, 0x0, 1, 0x0, .nobody, false, false, []⟩,
  ⟨0xE0010, 0x0, 0, 1, 0x0, 1, 0x0, .owner, false, false, [(.w1c, 7, 7), (.w1c, 6, 4), (.w1c, 3, 1), (.w1c, 0, 0)]⟩,
  ⟨0xE0014, 0x0, 0, 1, 0x0, 1, 0x0, .owner, false, false, [(.rw, 7, 0)]⟩,
  ⟨0xE0020, 0x0, 0, 1, 0x0, 1, 0x320064, .owner, false, false, [(.rw, 24, 16), (.rw, 13, 0)]⟩,
  ⟨0xE0024, 0x0, 0, 1, 0x0, 1, 0xA, .owner, false, false, [(.rw, 6, 0)]⟩,
  ⟨0xE0028, 0x0, 0, 1, 0x0, 1, 0x3, .owner, false, false, [(.rw, 1, 0)]⟩,
  ⟨0xE0040, 0x4, 0, 2, 0x0, 1, 0x32, .owner, false, false, [(.rw, 29, 28), (.rw, 25, 24), (.rw, 20, 20), (.rw, 15, 0)]⟩,
  ⟨0xE0100, 0x100, 0, 3, 0x0, 1, 0x1401, .owner, false, false, [(.rw, 15, 8), (.rw, 1, 0)]⟩,
  ⟨0xE0104, 0x100, 0, 3, 0x0, 1, 0x0, .nobody, false, false, []⟩,
  ⟨0xE0108, 0x100, 0, 3, 0x0, 1, 0x0, .nobody, false, false, []⟩,
  ⟨0xE010C, 0x100, 0, 3, 0x0, 1, 0x0, .owner, false, false, [(.wa, 15, 0)]⟩,
  ⟨0xE0140, 0x100, 0, 3, 0x4, 16, 0x0, .nobody, false, false, []⟩,
  ⟨0xE0180, 0x100, 0, 3, 0x8, 8, 0x0, .nobody, false, false, []⟩,
  ⟨0xE0184, 0x100, 0, 3, 0x8, 8, 0x0, .nobody, false, false, []⟩,
  ⟨0xE0210, 0x0, 0, 1, 0x0, 1, 0x472, .nobody, false, false, []⟩]
/-- The register list of the CLK block. -/
def regRowsClk : List RegRow := regRowsClk0
/-- Rows of the PWR block, part 0. -/
def regRowsPwr0 : List RegRow := [
  ⟨0xF0000, 0x0, 0, 1, 0x0, 1, 0x0, .nobody, false, false, []⟩,
  ⟨0xF0004, 0x0, 0, 1, 0x0, 1, 0x0, .owner, false, false, [(.wa, 0, 0)]⟩,
  ⟨0xF0008, 0x0, 0, 1, 0x0, 1, 0x40A0870, .owner, false, false, [(.rw, 29, 28), (.rw, 27, 26), (.rw, 25, 25), (.rw, 22, 16), (.rw, 11, 0)]⟩,
  ⟨0xF000C, 0x0, 0, 1, 0x0, 1, 0x3000180, .owner, false, false, [(.rw, 25, 16), (.rw, 9, 0)]⟩,
  ⟨0xF0010, 0x0, 0, 1, 0x0, 1, 0x0, .owner, false, false, [(.wa, 0, 0)]⟩,
  ⟨0xF0014, 0x0, 0, 1, 0x0, 1, 0x1C000000, .nobody, false, false, []⟩,
  ⟨0xF0018, 0x0, 0, 1, 0x0, 1, 0x20F580, .nobody, false, false, []⟩,
  ⟨0xF001C, 0x0, 0, 1, 0x0, 1, 0x14, .owner, false, false, [(.rw, 7, 0)]⟩,
  ⟨0xF0020, 0x0, 0, 1, 0x0, 1, 0x0, .nobody, false, false, []⟩,
  ⟨0xF0024, 0x0, 0, 1, 0x0, 1, 0x0, .nobody, false, false, []⟩,
  ⟨0xF0028, 0x0, 0, 1, 0x0, 1, 0x0, .nobody, false, false, []⟩,
  ⟨0xF0030, 0x0, 0, 1, 0x0, 1, 0x0, .owner, false, false, [(.w1c, 5, 5), (.w1c, 4, 4), (.w1c, 3, 3), (.w1c, 2, 2), (.w1c, 1, 1), (.w1c, 0, 0)]⟩,
  ⟨0xF0034, 0x0, 0, 1, 0x0, 1, 0x0, .owner, false, false, [(.rw, 5, 0)]⟩,
  ⟨0xF0040, 0x4, 0, 32, 0x0, 1, 0x0, .owner, false, false, [(.rw, 11, 0)]⟩,
  ⟨0xF0100, 0x40, 0, 8, 0x0, 1, 0x180DC6E, .owner, false, false, [(.rw, 31, 31), (.rw, 30, 18), (.rw, 16, 8), (.rw, 7, 0)]⟩,
  ⟨0xF0104, 0x40, 0, 8, 0x0, 1, 0x3E8125C, .owner, false, false, [(.rw, 31, 16), (.rw, 15, 0)]⟩,
  ⟨0xF0108, 0x40, 0, 8, 0x0, 1, 0x0, .owner, false, false, [(.rw, 8, 8), (.wa, 3, 3), (.wa, 2, 2), (.wa, 1, 1), (.wa, 0, 0)]⟩,
  ⟨0xF010C, 0x40, 0, 8, 0x0, 1, 0x0, .owner, false, false, [(.rw, 31, 0)]⟩,
  ⟨0xF0110, 0x40, 0, 8, 0x0, 1, 0x0, .owner, false, false, [(.rw, 31, 0)]⟩,
  ⟨0xF0114, 0x40, 0, 8, 0x0, 1, 0x0, .nobody, false, false, []⟩,
  ⟨0xF0120, 0x40, 0, 8, 0x4, 7, 0x0, .owner, false, false, [(.rw, 31, 0)]⟩,
  ⟨0xF013C, 0x40, 0, 8, 0x0, 1, 0x0, .nobody, false, false, []⟩,
  ⟨0xF0800, 0x20, 0, 4, 0x0, 1, 0x30, .owner, false, false, [(.rw, 7, 0)]⟩,
  ⟨0xF0804, 0x20, 0, 4, 0x0, 1, 0x0, .nobody, false, false, []⟩,
  ⟨0xF0808, 0x20, 0, 4, 0x0, 1, 0x0, .nobody, false, false, []⟩]
/-- The register list of the PWR block. -/
def regRowsPwr : List RegRow := regRowsPwr0
/-- Rows of the BST block, part 0. -/
def regRowsBst0 : List RegRow := [
  ⟨0x100000, 0x0, 0, 1, 0x0, 1, 0x0, .nobody, false, false, []⟩,
  ⟨0x100004, 0x0, 0, 1, 0x0, 1, 0x0, .owner, false, false, [(.wa, 0, 0)]⟩,
  ⟨0x100008, 0x0, 0, 1, 0x0, 1, 0x15E, .owner, false, false, [(.rw, 31, 31), (.rw, 15, 0)]⟩,
  ⟨0x100010, 0x0, 0, 1, 0x0, 1, 0x0, .owner, false, false, [(.w1c, 4, 4), (.w1c, 3, 3), (.w1c, 2, 2), (.w1c, 1, 1), (.w1c, 0, 0)]⟩,
  ⟨0x100014, 0x0, 0, 1, 0x0, 1, 0x0, .owner, false, false, [(.rw, 4, 0)]⟩,
  ⟨0x100040, 0x10, 0, 4, 0x0, 1, 0xA87400A, .owner, false, false, [(.rw, 31, 24), (.rw, 23, 16), (.rw, 15, 8), (.rw, 7, 0)]⟩,
  ⟨0x100044, 0x10, 0, 4, 0x0, 1, 0x0, .nobody, false, false, []⟩,
  ⟨0x100048, 0x10, 0, 4, 0x0, 1, 0x0, .nobody, false, false, []⟩,
  ⟨0x100100, 0x40, 0, 8, 0x0, 1, 0x80, .owner, false, false, [(.rw, 31, 16), (.rw, 15, 8), (.rw, 7, 7), (.rw, 6, 0)]⟩,
  ⟨0x100104, 0x40, 0, 8, 0x0, 1, 0x140640, .owner, false, false, [(.rw, 23, 16), (.rw, 12, 4), (.rw, 1, 1), (.rw, 0, 0)]⟩,
  ⟨0x100108, 0x40, 0, 8, 0x0, 1, 0x3A980096, .owner, false, false, [(.rw, 31, 16), (.rw, 15, 0)]⟩,
  ⟨0x10010C, 0x40, 0, 8, 0x0, 1, 0x1770012C, .owner, false, false, [(.rw, 31, 16), (.rw, 15, 0)]⟩,
  ⟨0x100110, 0x40, 0, 8, 0x0, 1, 0xE100032, .owner, false, false, [(.rw, 31, 16), (.rw, 15, 0)]⟩,
  ⟨0x100114, 0x40, 0, 8, 0x0, 1, 0xB40016A8, .owner, false, false, [(.rw, 31, 24), (.rw, 15, 0)]⟩,
  ⟨0x100118, 0x40, 0, 8, 0x0, 1, 0x0, .owner, false, false, [(.rw, 31, 16)]⟩,
  ⟨0x10011C, 0x40, 0, 8, 0x0, 1, 0x15E, .nobody, false, false, []⟩,
  ⟨0x100120, 0x40, 0, 8, 0x0, 1, 0x15E015E, .nobody, false, false, []⟩,
  ⟨0x100124, 0x40, 0, 8, 0x0, 1, 0x0, .nobody, false, false, []⟩,
  ⟨0x100128, 0x40, 0, 8, 0x0, 1, 0xA000000, .owner, false, false, [(.rw, 31, 24), (.rw, 19, 0)]⟩,
  ⟨0x10012C, 0x40, 0, 8, 0x0, 1, 0x0, .nobody, false, false, []⟩,
  ⟨0x100130, 0x40, 0, 8, 0x0, 1, 0x3FF, .owner, false, false, [(.rw, 9, 0)]⟩,
  ⟨0x100300, 0x0, 0, 1, 0x0, 1, 0x5000000, .owner, false, false, [(.rw, 31, 24), (.rw, 7, 0)]⟩,
  ⟨0x100304, 0x0, 0, 1, 0x0, 1, 0x0, .owner, false, false, [(.wa, 4, 4), (.rw, 3, 2), (.wa, 0, 0)]⟩,
  ⟨0x100308, 0x0, 0, 1, 0x0, 1, 0x0, .nobody, false, false, []⟩,
  ⟨0x100310, 0x0, 0, 1, 0x0, 1, 0x283A, .owner, false, false, [(.rw, 31, 20), (.rw, 17, 16), (.rw, 15, 8), (.rw, 7, 4), (.rw, 3, 0)]⟩]
/-- Rows of the BST block, part 1. -/
def regRowsBst1 : List RegRow := [
  ⟨0x100314, 0x0, 0, 1, 0x0, 1, 0x7D003E8, .owner, false, false, [(.rw, 31, 16), (.rw, 15, 0)]⟩,
  ⟨0x100400, 0x40, 0, 8, 0x4, 8, 0x140000, .owner, false, false, [(.rw, 23, 16), (.rw, 15, 0)]⟩,
  ⟨0x100420, 0x40, 0, 8, 0x4, 8, 0x0, .nobody, false, false, []⟩,
  ⟨0x100800, 0x40, 0, 8, 0x4, 10, 0x0, .owner, false, true, [(.rw, 15, 0)]⟩,
  ⟨0x100A00, 0x40, 0, 8, 0x4, 10, 0x0, .nobody, false, false, []⟩]
/-- The register list of the BST block. -/
def regRowsBst : List RegRow := regRowsBst0 ++ regRowsBst1
/-- Rows of the TEN block, part 0. -/
def regRowsTen0 : List RegRow := [
  ⟨0x110000, 0x0, 0, 1, 0x0, 1, 0x0, .nobody, false, false, []⟩,
  ⟨0x110004, 0x0, 0, 1, 0x0, 1, 0x0, .owner, false, false, [(.wa, 8, 8), (.rw, 2, 0)]⟩,
  ⟨0x110008, 0x0, 0, 1, 0x0, 1, 0x3E8000A, .owner, false, false, [(.rw, 31, 16), (.rw, 15, 0)]⟩,
  ⟨0x11000C, 0x0, 0, 1, 0x0, 1, 0x3, .owner, false, true, [(.rw, 2, 2), (.rw, 1, 1), (.rw, 0, 0)]⟩,
  ⟨0x110010, 0x0, 0, 1, 0x0, 1, 0x0, .nobody, false, false, []⟩,
  ⟨0x110014, 0x0, 0, 1, 0x0, 1, 0x0, .nobody, false, false, []⟩,
  ⟨0x110020, 0x0, 0, 1, 0x0, 1, 0x0, .owner, false, false, [(.w1c, 4, 4), (.w1c, 3, 3), (.w1c, 2, 2), (.w1c, 1, 1), (.w1c, 0, 0)]⟩,
  ⟨0x110024, 0x0, 0, 1, 0x0, 1, 0x0, .owner, false, false, [(.rw, 4, 0)]⟩,
  ⟨0x110030, 0x0, 0, 1, 0x0, 1, 0x0, .every, true, false, [(.wa, 31, 31), (.wa, 30, 30), (.rw, 19, 16), (.rw, 12, 0)]⟩,
  ⟨0x110034, 0x0, 0, 1, 0x0, 1, 0x0, .nobody, true, false, []⟩,
  ⟨0x110038, 0x0, 0, 1, 0x0, 1, 0x0, .every, true, false, [(.wa, 31, 31), (.wa, 30, 30), (.rw, 11, 0)]⟩,
  ⟨0x11003C, 0x0, 0, 1, 0x0, 1, 0x0, .every, true, false, [(.rw, 2, 0)]⟩,
  ⟨0x110100, 0x40, 0, 8, 0x0, 1, 0x0, .nobody, false, false, []⟩,
  ⟨0x110104, 0x40, 0, 8, 0x0, 1, 0x0, .owner, false, false, [(.rw, 4, 0)]⟩,
  ⟨0x110108, 0x40, 0, 8, 0x0, 1, 0xFFFFF, .owner, false, false, [(.rw, 19, 0)]⟩,
  ⟨0x11010C, 0x40, 0, 8, 0x0, 1, 0xFFFFFFFF, .owner, false, false, [(.rw, 31, 0)]⟩,
  ⟨0x110110, 0x40, 0, 8, 0x0, 1, 0x1A00, .owner, false, false, [(.rw, 12, 0)]⟩,
  ⟨0x110114, 0x40, 0, 8, 0x0, 1, 0x404000, .owner, false, false, [(.rw, 22, 16), (.rw, 14, 0)]⟩,
  ⟨0x110118, 0x40, 0, 8, 0x0, 1, 0x0, .nobody, false, false, []⟩,
  ⟨0x11011C, 0x40, 0, 8, 0x0, 1, 0x0, .nobody, false, false, []⟩,
  ⟨0x110120, 0x40, 0, 8, 0x0, 1, 0x0, .nobody, false, false, []⟩,
  ⟨0x110124, 0x40, 0, 8, 0x0, 1, 0x0, .nobody, false, false, []⟩,
  ⟨0x110400, 0x20, 0, 8, 0x4, 8, 0x0, .owner, false, true, [(.wo, 31, 0)]⟩,
  ⟨0x110600, 0x40, 0, 8, 0x4, 16, 0x0, .nobody, false, false, []⟩,
  ⟨0x110C00, 0x10, 0, 64, 0x0, 1, 0x0, .nobody, false, false, [(.rc, 31, 31), (.rc, 30, 30), (.rc, 29, 29), (.rc, 4, 0)]⟩]
/-- Rows of the TEN block, part 1. -/
def regRowsTen1 : List RegRow := [
  ⟨0x110C04, 0x10, 0, 64, 0x0, 1, 0x0, .nobody, false, false, [(.rc, 31, 0)]⟩,
  ⟨0x110C08, 0x10, 0, 64, 0x0, 1, 0x0, .semOwner, false, false, [(.wa, 0, 0)]⟩]
/-- The register list of the TEN block. -/
def regRowsTen : List RegRow := regRowsTen0 ++ regRowsTen1
/-- Rows of the FLT block, part 0. -/
def regRowsFlt0 : List RegRow := [
  ⟨0x120000, 0x0, 0, 1, 0x0, 1, 0x0, .nobody, false, false, []⟩,
  ⟨0x120004, 0x0, 0, 1, 0x0, 1, 0x2, .owner, false, false, [(.rw, 4, 4), (.rw, 3, 3), (.rw, 1, 0)]⟩,
  ⟨0x120008, 0x0, 0, 1, 0x0, 1, 0x0, .owner, false, false, [(.wa, 31, 31), (.wa, 30, 30), (.wa, 29, 29), (.wa, 28, 28), (.wo, 7, 0)]⟩,
  ⟨0x12000C, 0x0, 0, 1, 0x0, 1, 0x0, .nobody, false, false, []⟩,
  ⟨0x120010, 0x4, 0, 4, 0x0, 1, 0x0, .nobody, false, false, []⟩,
  ⟨0x120020, 0x0, 0, 1, 0x0, 1, 0x0, .nobody, false, false, []⟩,
  ⟨0x120030, 0x0, 0, 1, 0x0, 1, 0x0, .nobody, false, false, [(.rc, 31, 0)]⟩,
  ⟨0x120030, 0x4, 1, 3, 0x0, 1, 0x0, .nobody, false, false, []⟩,
  ⟨0x120040, 0x0, 0, 1, 0x0, 1, 0x100, .owner, false, false, [(.wa, 31, 31), (.rw, 19, 16), (.rw, 9, 8), (.rw, 4, 0)]⟩,
  ⟨0x120044, 0x0, 0, 1, 0x0, 1, 0x0, .owner, false, false, [(.rw, 31, 0)]⟩,
  ⟨0x120050, 0x0, 0, 1, 0x0, 1, 0x0, .owner, false, false, [(.w1c, 6, 6), (.w1c, 5, 5), (.w1c, 4, 4), (.w1c, 3, 3), (.w1c, 2, 2), (.w1c, 1, 1), (.w1c, 0, 0)]⟩,
  ⟨0x120054, 0x0, 0, 1, 0x0, 1, 0x0, .owner, false, false, [(.rw, 6, 0)]⟩,
  ⟨0x120100, 0x10, 0, 32, 0x4, 4, 0x0, .nobody, false, false, []⟩,
  ⟨0x120400, 0x4, 0, 256, 0x0, 1, 0x0, .owner, false, false, [(.rw, 25, 24)]⟩]
/-- The register list of the FLT block. -/
def regRowsFlt : List RegRow := regRowsFlt0
/-- Rows of the DOM block, part 0. -/
def regRowsDom0 : List RegRow := [
  ⟨0x130000, 0x0, 0, 1, 0x0, 1, 0x0, .nobody, false, false, []⟩,
  ⟨0x130004, 0x0, 0, 1, 0x0, 1, 0x0, .owner, false, false, [(.rw, 8, 8), (.wa, 1, 1), (.wa, 0, 0)]⟩,
  ⟨0x130008, 0x0, 0, 1, 0x0, 1, 0xFF, .owner, false, true, [(.rw, 7, 7), (.rw, 5, 0)]⟩,
  ⟨0x13000C, 0x0, 0, 1, 0x0, 1, 0x0, .nobody, false, false, []⟩,
  ⟨0x130010, 0x0, 0, 1, 0x0, 1, 0x0, .owner, false, false, [(.w1c, 3, 3), (.w1c, 2, 2), (.w1c, 1, 1), (.w1c, 0, 0)]⟩,
  ⟨0x130014, 0x0, 0, 1, 0x0, 1, 0x0, .owner, false, false, [(.rw, 3, 0)]⟩,
  ⟨0x130100, 0x20, 0, 60, 0x0, 1, 0x3E80000, .owner, false, true, [(.rw, 31, 16), (.rw, 1, 0)]⟩,
  ⟨0x130104, 0x20, 0, 60, 0x0, 1, 0x0, .nobody, false, false, []⟩,
  ⟨0x130108, 0x20, 0, 60, 0x0, 1, 0x0, .nobody, false, false, []⟩,
  ⟨0x13010C, 0x20, 0, 60, 0x0, 1, 0x0, .nobody, false, false, []⟩,
  ⟨0x130110, 0x20, 0, 60, 0x0, 1, 0x0, .nobody, false, false, []⟩]
/-- The register list of the DOM block. -/
def regRowsDom : List RegRow := regRowsDom0
/-- Rows of the DBG block, part 0. -/
def regRowsDbg0 : List RegRow := [
  ⟨0x140000, 0x0, 0, 1, 0x0, 1, 0x1, .dbgCfg, false, true, [(.rw, 2, 2), (.rw, 1, 1), (.rw, 0, 0)]⟩,
  ⟨0x140004, 0x0, 0, 1, 0x0, 1, 0x0, .debug, false, false, [(.wa, 9, 9), (.wa, 8, 8), (.rw, 3, 0)]⟩,
  ⟨0x140008, 0x0, 0, 1, 0x0, 1, 0x0, .nobody, false, false, []⟩,
  ⟨0x14000C, 0x0, 0, 1, 0x0, 1, 0x0, .debug, false, false, [(.wa, 31, 31), (.rw, 5, 0)]⟩]
/-- The register list of the DBG block. -/
def regRowsDbg : List RegRow := regRowsDbg0
end Sys2Proof.Machine
end

