-- ==== Sys2Proof/Machine/Crypto.lean ====
section
/-! DEFINITION. The check words and signatures the spec names: CRC-32C (R77), the Ethernet FCS, SHA-256, HMAC-SHA-256
(R496) and ECDSA over P-256 (R101). -/
namespace Sys2Proof.Machine

/-- One bit of a reflected CRC with the reflected polynomial `poly`. -/
def crcBit (poly : Word) (c : Word) : Word := if c.toNat % 2 = 1 then (c >>> 1) ^^^ poly else c >>> 1
/-- One byte of a reflected CRC. -/
def crcByte (poly : Word) (c : Word) (b : Byte) : Word :=
  let c := c ^^^ (b.setWidth 32)
  crcBit poly (crcBit poly (crcBit poly (crcBit poly (crcBit poly (crcBit poly (crcBit poly (crcBit poly c)))))))
/-- A reflected 32-bit CRC, initial value and final XOR all ones. -/
def crc32 (poly : Word) (bs : List Byte) : Word := (bs.foldl (crcByte poly) 0xFFFFFFFF#32) ^^^ 0xFFFFFFFF#32
/-- CRC-32C (R77). -/
def crc32c (bs : List Byte) : Nat := (crc32 0x82F63B78#32 bs).toNat
/-- The Ethernet frame check sequence (IEEE 802.3 of the spec's standards table). -/
def fcs32 (bs : List Byte) : Nat := (crc32 0xEDB88320#32 bs).toNat

/-- The 32-bit words of a number of 512 bits, highest first. -/
def wordsOf (n x : Nat) : List Word := (List.range n).map (fun k => BitVec.ofNat 32 (x >>> (32 * (n - 1 - k))))
/-- The 64 round constants, sixteen to a number: the first 32 bits of the fractional parts of the cube roots of the first 64 primes. -/
def sha256K : List Word :=
  wordsOf 16 0x428a2f9871374491b5c0fbcfe9b5dba53956c25b59f111f1923f82a4ab1c5ed5d807aa9812835b01243185be550c7dc372be5d7480deb1fe9bdc06a7c19bf174 ++
  wordsOf 16 0xe49b69c1efbe47860fc19dc6240ca1cc2de92c6f4a7484aa5cb0a9dc76f988da983e5152a831c66db00327c8bf597fc7c6e00bf3d5a7914706ca635114292967 ++
  wordsOf 16 0x27b70a852e1b21384d2c6dfc53380d13650a7354766a0abb81c2c92e92722c85a2bfe8a1a81a664bc24b8b70c76c51a3d192e819d6990624f40e3585106aa070 ++
  wordsOf 16 0x19a4c1161e376c082748774c34b0bcb5391c0cb34ed8aa4a5b9cca4f682e6ff3748f82ee78a5636f84c878148cc7020890befffaa4506cebbef9a3f7c67178f2
/-- The chaining value before the first block: the same bits of the square roots of the first eight primes. -/
def sha256H0 : List Word := wordsOf 8 0x6a09e667bb67ae853c6ef372a54ff53a510e527f9b05688c1f83d9ab5be0cd19
/-- The three rotations of a word, summed modulo 2, that the round and the schedule are made of; the schedule's third one shifts. -/
def shaMix (x : Word) (r : Nat × Nat × Nat) (shift : Bool := false) : Word :=
  let last := if shift then x >>> r.2.2 else x.rotateRight r.2.2
  last ^^^ x.rotateRight r.2.1 ^^^ x.rotateRight r.1
/-- The message schedule, newest word first, extended by `n` words. -/
def sha256Extend : Nat → List Word → List Word
  | 0, ws => ws
  | n + 1, ws =>
    let back (k : Nat) : Word := ws.getD (k - 1) 0
    sha256Extend n ((back 7 + back 16 + shaMix (back 2) (17, 19, 10) true + shaMix (back 15) (7, 18, 3) true) :: ws)
/-- One round on the eight working variables, in their order; the choice and the majority are written with three operations each. -/
def sha256Round (v : List Word) (kw : Word × Word) : List Word :=
  let x (k : Nat) : Word := v.getD k 0
  let choice := x 6 ^^^ (x 4 &&& (x 5 ^^^ x 6))
  let major := (x 0 &&& (x 1 ||| x 2)) ||| (x 1 &&& x 2)
  let up := kw.1 + kw.2 + x 7 + choice + shaMix (x 4) (6, 11, 25)
  (up + major + shaMix (x 0) (2, 13, 22)) :: (v.take 3 ++ (x 3 + up) :: (v.drop 4).take 3)
/-- The 32-bit big-endian words of a block. -/
def beWords : Nat → List Byte → List Word
  | 0, _ => []
  | n + 1, bs => BitVec.ofNat 32 (beVal (bs.take 4)) :: beWords n (bs.drop 4)
/-- One block of SHA-256. -/
def sha256Block (h : List Word) (blk : List Byte) : List Word :=
  let ws := (sha256Extend 48 (beWords 16 blk).reverse).reverse
  List.zipWith (· + ·) h ((sha256K.zip ws).foldl sha256Round h)
/-- The blocks of a padded message. -/
def sha256Blocks : Nat → List Word → List Byte → List Word
  | 0, h, _ => h
  | n + 1, h, bs => sha256Blocks n (sha256Block h (bs.take 64)) (bs.drop 64)
/-- SHA-256 of a byte string. -/
def sha256 (m : List Byte) : List Byte :=
  let l := m.length
  let z := (119 - l % 64) % 64
  let p := m ++ (0x80#8 :: List.replicate z 0#8) ++ beBytes 8 (8 * l)
  ((sha256Blocks (p.length / 64) sha256H0 p).map (fun w => beBytes 4 w.toNat)).flatten
/-- HMAC-SHA-256 with a key of at most 64 bytes. -/
def hmacSha256 (key m : List Byte) : List Byte :=
  let k := key ++ List.replicate (64 - key.length) 0#8
  sha256 (k.map (· ^^^ 0x5C#8) ++ sha256 (k.map (· ^^^ 0x36#8) ++ m))

/-- The field prime of P-256. -/
def p256P : Nat := 0xffffffff00000001000000000000000000000000ffffffffffffffffffffffff
/-- The group order of P-256. -/
def p256N : Nat := 0xffffffff00000000ffffffffffffffffbce6faada7179e84f3b9cac2fc632551
/-- The coefficient b of P-256. -/
def p256B : Nat := 0x5ac635d8aa3a93e7b3ebbd55769886bc651d06b0cc53b0f63bce3c3e27d2604b
/-- The base point of P-256. -/
def p256G : Nat × Nat :=
  (0x6b17d1f2e12c4247f8bce6e563a440f277037d812deb33a0f4a13945d898c296,
   0x4fe342e2fe1a7f9b8ee7eb4a7c0f9e162bce33576b315ececbb6406837bf51f5)
/-- x^e mod m by squaring; `n` bounds the bits of `e`. -/
def powMod : Nat → Nat → Nat → Nat → Nat
  | 0, _, _, m => 1 % m
  | n + 1, x, e, m =>
    let r := powMod n (x * x % m) (e / 2) m
    if e % 2 = 1 then r * x % m else r
/-- The inverse modulo a prime. -/
def invMod (x m : Nat) : Nat := powMod 256 (x % m) (m - 2) m
/-- Point addition on P-256 in affine form; `none` is the point at infinity. -/
def p256Add (a b : Option (Nat × Nat)) : Option (Nat × Nat) :=
  match a, b with
  | none, q => q
  | p, none => p
  | some (x1, y1), some (x2, y2) =>
    let p := p256P
    if x1 = x2 ∧ (y1 + y2) % p = 0 then none
    else
      let l := if x1 = x2 then (3 * x1 * x1 + (p - 3)) % p * invMod (2 * y1) p % p
        else (y2 + (p - y1)) % p * invMod (x2 + (p - x1)) p % p
      let x3 := (l * l + (p - x1) + (p - x2)) % p
      some (x3, (l * ((x1 + (p - x3)) % p) + (p - y1)) % p)
/-- Scalar multiplication; `n` bounds the bits of `k`. -/
def p256Mul : Nat → Nat → Option (Nat × Nat) → Option (Nat × Nat)
  | 0, _, _ => none
  | n + 1, k, q =>
    let r := p256Mul n (k / 2) (p256Add q q)
    if k % 2 = 1 then p256Add r q else r
/-- Whether a pair of coordinates is a point of P-256. -/
def p256OnCurve (x y : Nat) : Bool :=
  decide (x < p256P) && decide (y < p256P) && decide (y * y % p256P = (x * x * x + (p256P - 3) * x + p256B) % p256P)
/-- ECDSA verification of signature (r, s) on a message under public key (x, y) (R101, R102). -/
def ecdsaVerify (x y r s : Nat) (msg : List Byte) : Bool :=
  p256OnCurve x y && decide (0 < r) && decide (r < p256N) && decide (0 < s) && decide (s < p256N) &&
    (let e := beVal (sha256 msg)
     let w := invMod s p256N
     match p256Add (p256Mul 256 (e * w % p256N) (some p256G)) (p256Mul 256 (r * w % p256N) (some (x, y))) with
     | none => false
     | some (px, _) => decide (px % p256N = r))

end Sys2Proof.Machine
end

