-- ==== Sys2Proof/Machine/ImageTypes.lean ====
section
/-! DEFINITION. The Ashlar image as records: what R75 to R100 lay out in bytes. -/
namespace Sys2Proof.Machine

/-- A record of the TENANCY course (R80). -/
structure TenCfg where
  present : Nat
  rank : Nat
  cycles : Nat
  stones : Nat
  dramMib : Nat
  sendLanes : Nat
  paramWords : Nat
  deriving DecidableEq, Repr
/-- An absent tenancy. -/
def TenCfg.absent : TenCfg := ⟨0, 0, 0, 0, 0, 0, 0⟩
/-- An instance record (R83); `off` is its byte offset in the image. -/
structure Inst where
  id : Nat
  kind : Nat
  kver : Nat
  stone : Nat
  ten : Nat
  writers : Nat
  flags : Nat
  nIn : Nat
  nOut : Nat
  localOff : Nat
  localLen : Nat
  dramKib : Nat
  paramWords : Nat
  paramBase : Nat
  off : Nat
  deriving DecidableEq, Repr
/-- Whether a record is an endpoint (R83). -/
def Inst.isEndpoint (i : Inst) : Bool := i.kind = 0x40 || i.kind = 0x41
/-- PORT code of an endpoint (R85). -/
def Inst.port (i : Inst) : Nat := i.localOff % 256
/-- UNIT of an endpoint. -/
def Inst.unit (i : Inst) : Nat := i.localOff / 256 % 256
/-- FIRST channel of an endpoint. -/
def Inst.first (i : Inst) : Nat := i.localOff / 65536
/-- Channels of an endpoint. -/
def Inst.chans (i : Inst) : Nat := if i.kind = 0x40 then i.nOut else i.nIn
/-- FLAGS.START of an endpoint. -/
def Inst.start (i : Inst) : Bool := bit i.flags 0
/-- A net record (R86). -/
structure Net where
  src : Nat
  srcPort : Nat
  dst : Nat
  dstPort : Nat
  off : Nat
  deriving DecidableEq, Repr
/-- An entry of a stone list (R88). -/
structure Entry where
  id : Nat
  start : Nat
  off : Nat
  deriving DecidableEq, Repr
/-- A stone list. -/
structure StoneList where
  stone : Nat
  entries : List Entry
  off : Nat
  deriving DecidableEq, Repr
/-- A mortar fabric transfer (R88). -/
structure Xfer where
  src : Nat
  srcPort : Nat
  dst : Nat
  cycle : Nat
  off : Nat
  deriving DecidableEq, Repr
/-- A MEMORY region (R90). -/
structure Region where
  kind : Nat
  ten : Nat
  off : Nat
  size : Nat
  pos : Nat
  deriving DecidableEq, Repr
/-- A tap record (R92). -/
structure Tap where
  chan : Nat
  lane : Nat
  group : Nat
  pos : Nat
  deriving DecidableEq, Repr
/-- A send record (R92). -/
structure SendRec where
  chan : Nat
  lane : Nat
  ten : Nat
  pos : Nat
  deriving DecidableEq, Repr
/-- A record of a PARAMS course (R98). -/
structure ParamRec where
  id : Nat
  word : Nat
  vals : List Word
  pos : Nat
  deriving DecidableEq, Repr
/-- The OVERRIDE body (R97). -/
structure OvrCfg where
  outMask : Nat
  source : Nat
  srcIndex : Nat
  message : Nat
  discMs : Nat
  margin : Nat
  deriving DecidableEq, Repr
/-- A course as found in the slot (R76). -/
structure Course where
  typ : Nat
  ten : Nat
  index : Nat
  off : Nat
  len : Nat
  deriving DecidableEq, Repr
/-- An image: header fields and the bodies of its courses. -/
structure Image where
  rate : Nat
  cls : Nat
  epoch : Nat
  len : Nat
  stones : Nat
  buildId : Nat
  producer : Nat
  courses : List Course
  tens : List TenCfg
  used : Nat
  except : Nat
  insts : List Inst
  nets : List Net
  lists : List StoneList
  xfers : List Xfer
  regions : List Region
  lanes : Bool
  dMin : Nat
  taps : List Tap
  sends : List SendRec
  regs : List (Nat × Nat)
  faults : Option (List Nat)
  ovr : Option OvrCfg
  params : List (Nat × List ParamRec)
  signed : Bool
  slot : Nat
  deriving DecidableEq, Repr
/-- An image with nothing in it, the start of a parse. -/
def Image.empty : Image :=
  ⟨1, 0, 0, 0, 0, 0, 0, [], [], 0, 0, [], [], [], [], [], false, 0, [], [], [], none, none, [], false, 0⟩
/-- The base rate in Hz of a rate code (R75). -/
def rateHz (r : Nat) : Nat := if r = 0 then 48000 else if r = 1 then 96000 else 192000
/-- Ticks per ring cycle N of a rate code (R41). -/
def rateN (r : Nat) : Nat := if r = 0 then 4 else if r = 1 then 8 else 16
/-- Engine cycles per tick of a rate code (R5). -/
def rateCycles (r : Nat) : Nat := if r = 0 then 25000 else if r = 1 then 12500 else 6250
/-- Schedulable cycles of a rate code (R49, R157). -/
def rateBudget (r : Nat) : Nat := rateCycles r - 700
/-- Presentation-buffer entries per lane B of a rate code (R59). -/
def rateB (r : Nat) : Nat := if r = 0 then 768 else if r = 1 then 1536 else 3072
/-- The instance of an ID. -/
def Image.inst (im : Image) (id : Nat) : Option Inst := im.insts.find? (fun i => i.id = id)
/-- The net that drives an input port (R86). -/
def Image.driver (im : Image) (id port : Nat) : Option Net := im.nets.find? (fun n => n.dst = id && n.dstPort = port)
/-- The region of a kind. -/
def Image.region (im : Image) (k : Nat) : Option Region := im.regions.find? (fun r => r.kind = k)
/-- A refusal: code, course index (0xFFFF for the header and stage A) and byte offset (R106). -/
structure Refuse where
  code : Nat
  course : Nat
  detail : Nat
  deriving DecidableEq, Repr

end Sys2Proof.Machine
end

