-- ==== Sys2Proof/Machine/Kinds.lean ====
section
/-! DEFINITION. The block kinds: costs, sizes and port limits of R159 to R161, parameter words, ranges and defaults of
R173, and the ties of R610. -/
namespace Sys2Proof.Machine

/-- Blocks of `c` channels of four lanes. -/
def q4 (c : Nat) : Nat := ceilDiv c 4
/-- The channel count of a kind's instance (R159). -/
def kindC (k nIn nOut : Nat) : Nat :=
  match k with
  | 0x07 => nOut
  | 0x0C => nOut
  | 0x12 => nOut
  | _ => nIn
/-- Whether KVER and the port counts lie within the limits of R159 (KIND, R107). -/
def kindPortsOk (k v i o : Nat) : Bool :=
  let eq (hi : Nat) := decide (i = o) && decide (1 ≤ i) && decide (i ≤ hi)
  let rng (x lo hi : Nat) := decide (lo ≤ x) && decide (x ≤ hi)
  match k with
  | 0x01 => v = 0 && eq 64
  | 0x02 => v = 0 && rng i 1 64 && rng o 1 64
  | 0x03 => rng v 1 32 && eq 16
  | 0x04 => rng v 1 64 && eq 8
  | 0x05 => rng v 1 64 && eq 8
  | 0x06 => rng v 0 1 && eq 32
  | 0x07 => v = 0 && rng o 1 16 && (i = o || i = o + 1)
  | 0x08 => rng v 0 2 && eq 16
  | 0x09 => rng v 2 8 && rng i 1 4 && o = v * i
  | 0x0A => v = 0 && rng i 1 64 && rng o 1 64
  | 0x0B => v = 0 && rng i 2 64 && o = 1
  | 0x0C => v = 0 && rng o 1 16 && i = o + 1
  | 0x0D => rng v 0 1 && eq 16
  | 0x0E => v = 0 && rng i 1 64 && o = 0
  | 0x0F => v = 0 && eq 8
  | 0x10 => v = 0 && i = 0 && rng o 1 8
  | 0x11 => v = 0 && rng i 1 64 && o = 0
  | 0x12 => v = 0 && i = 0 && rng o 1 2
  | 0x13 => rng v 1 8 && i = 0 && o = 1
  | 0x14 => v = 0 && eq 8
  | _ => false
/-- Partitions P of a partitioned FIR (R159). -/
def pfirP (v : Nat) : Nat := v * 4096 / 256 - 2
/-- The body cost B in cycles (R159). -/
def kindBody (k v i o : Nat) : Nat :=
  let c := kindC k i o
  match k with
  | 0x01 => 2 * q4 c
  | 0x02 => 2 * q4 (i * o)
  | 0x03 => 6 * v * q4 c
  | 0x04 => c * q4 (16 * v) + 2 * c
  | 0x05 => c * (144 + 2 * pfirP v)
  | 0x06 => if v = 0 then 2 * c else 2 * c + 4
  | 0x07 => 20 + 16 * c
  | 0x08 => if v = 0 then 16 * c else 20 * c
  | 0x09 => 48 * (v - 1) * q4 c
  | 0x0A => q4 o + 2
  | 0x0B => q4 i
  | 0x0C => 16 + 2 * c
  | 0x0D => 4 * c
  | 0x0E => 3 * c
  | 0x0F => 40 + 96 * c
  | 0x10 => 6 * o
  | 0x11 => 4 + 2 * c
  | 0x12 => 4 + 2 * c
  | 0x13 => 32 + 8 * v
  | 0x14 => 12 * c
  | _ => 0
/-- The cost C = O + B of an instance (R155); an endpoint has none. -/
def Inst.cost (i : Inst) : Nat := if i.isEndpoint then 0 else 8 + i.nIn + i.nOut + kindBody i.kind i.kver i.nIn i.nOut
/-- The state size S in bytes; PF of the rate enters the stream kinds (R159). -/
def kindState (k v i o pf : Nat) : Nat :=
  let c := kindC k i o
  match k with
  | 0x01 => 8 * c
  | 0x02 => 8 * i * o
  | 0x03 => 16 * v * c
  | 0x04 => 8 * (16 * v) * c
  | 0x05 => 20480 * c
  | 0x06 => if v = 0 then 8 * c else 128 * c * (pf + 1)
  | 0x07 => 32 * c
  | 0x08 => if v = 0 then 32 * c else 1568 * c
  | 0x09 => 128 * (v - 1) * c
  | 0x0A => 4 * o
  | 0x0C => 16 + 8 * c
  | 0x0D => 16 * c
  | 0x0E => 16 * c
  | 0x0F => 1024 + 3072 * c
  | 0x10 => 16 * o
  | 0x11 => 64 + 4 * c * (pf + 1)
  | 0x12 => 64 + 4 * c * (pf + 1)
  | 0x13 => 64 + 48 * v
  | 0x14 => 32 * c
  | _ => 0
/-- The least DRAM_KIB of a kind (R159). -/
def kindDram (k v i o : Nat) : Nat :=
  let c := kindC k i o
  match k with
  | 0x05 => ceilDiv (c * pfirP v * 4112) 1024
  | 0x06 => if v = 1 then c else 0
  | 0x11 => 64
  | 0x12 => 64
  | _ => 0
/-- DRAM streams of an instance (R150). -/
def kindStreams (k v : Nat) : Nat :=
  match k with
  | 0x06 => if v = 1 then 2 else 0
  | 0x05 => 3
  | 0x11 => 1
  | 0x12 => 1
  | _ => 0
/-- The count of parameter words of a kind and variant (R173). -/
def kindWords (k v i o : Nat) : Nat :=
  let c := kindC k i o
  match k with
  | 0x01 => c + 1
  | 0x02 => i * o + 1
  | 0x03 => 5 * v * c
  | 0x04 => 16 * v * c
  | 0x05 => c + 1
  | 0x06 => c + 1
  | 0x07 => 8
  | 0x08 => if v = 0 then 2 else if v = 1 then 3 else 3 + 2 * c
  | 0x09 => v - 1
  | 0x0A => o
  | 0x0C => 5
  | 0x0D => 2
  | 0x0E => 3
  | 0x10 => 3 * o
  | 0x12 => 4
  | 0x13 => v + 2
  | 0x14 => c
  | _ => 0
/-- Local parameter bank bytes per word p of R160. -/
def clsP (cls : Nat) : Nat := if cls = 0 then 4 else 8
/-- The least LOCAL_LEN of an instance (R160). -/
def Inst.leastLocal (x : Inst) (cls rate : Nat) : Nat :=
  64 * ceilDiv (32 + clsP cls * x.paramWords + kindState x.kind x.kver x.nIn x.nOut (rateN rate / 2)) 64
/-- The longest delay m of a delay instance in ticks (R161). -/
def Inst.maxDelay (x : Inst) (cls : Nat) : Nat :=
  if x.kver = 0 then (x.localLen - 32 - clsP cls * x.paramWords) / (4 * x.nIn) - 1
  else x.dramKib * 256 / x.nIn - 1

/-- The format and range of a parameter word (R173). -/
inductive PRange where
  | f (lo hi : Rat)
  | u (lo hi : Nat)
  | sel (i : Nat)
  | none
  deriving DecidableEq, Repr
/-- The range of word `w` of an instance (R173). -/
def Inst.range (x : Inst) (cls rate w : Nat) : PRange :=
  let c := kindC x.kind x.nIn x.nOut
  let fs : Rat := (rateHz rate : Nat)
  let ramp := PRange.u 0 65535
  match x.kind with
  | 0x01 => if w < c then .f (-256) 256 else ramp
  | 0x02 => if w < x.nIn * x.nOut then .f (-256) 256 else ramp
  | 0x03 => if w % 5 < 3 then .f (-256) 256 else if w % 5 = 3 then .f (-2) 2 else .f (-1) 1
  | 0x04 => .f (-256) 256
  | 0x05 => if w < c then .f (-256) 256 else ramp
  | 0x06 => if w < c then .u 1 (x.maxDelay cls) else .u 0 4096
  | 0x07 => match w with
    | 0 => .f (-80) 0 | 1 => .f 1 100 | 2 => .f 0 24 | 3 => .u 1 65535 | 4 => .u 1 1048575
    | 5 => .f (-24) 24 | 6 => .u 0 2 | 7 => .u 0 1 | _ => .none
  | 0x08 =>
    if w = 0 then .f (-40) 0 else if w = 1 then .u 1 1048575
    else if w = 2 then .u 0 (if x.kver = 1 then 383 else 3071)
    else if w < 3 + c then .u 0 127 else .f (-48) 48
  | 0x09 => .f 10 (45 / 100 * fs)
  | 0x0A => .sel x.nIn
  | 0x0C => match w with
    | 0 => .f (-80) 0 | 1 => .f (-60) 0 | 2 => .u 1 65535 | 3 => .u 0 1048575 | 4 => .u 1 1048575 | _ => .none
  | 0x0D => .u 1 1048575
  | 0x0E => match w with
    | 0 => .u 0 16777215 | 1 => .u 1 1048575 | 2 => .f 0 256 | _ => .none
  | 0x10 => if w % 3 = 0 then .u 0 3 else if w % 3 = 1 then .f 1 (45 / 100 * fs) else .f 0 1
  | 0x12 => match w with
    | 0 => .u 0 1023 | 1 => .u 0 2 | 2 => .f 0 1 | 3 => .u 0 16777215 | _ => .none
  | 0x13 => if w < x.kver then .f 1000 40000 else if w = x.kver then .f 0 1 else .u 96 1048575
  | 0x14 => .u 0 7
  | _ => .none
/-- Whether a value lies in a range; an infinity or a NaN lies outside every range (R173). -/
def PRange.ok (r : PRange) (v : Word) : Bool :=
  match r with
  | .f lo hi => match f32Val v with
    | .fin _ q => decide (lo ≤ q) && decide (q ≤ hi)
    | _ => false
  | .u lo hi => decide (lo ≤ v.toNat) && decide (v.toNat ≤ hi)
  | .sel i => decide (v.toNat < 512) && (decide (v.toNat % 256 < i) || decide (v.toNat % 256 = 255))
  | .none => false
/-- The stored form of a value: a subnormal F word is the zero of its sign (R173). -/
def PRange.norm (r : PRange) (v : Word) : Word :=
  match r with
  | .f _ _ => if v.toNat % 2 ^ 31 < 2 ^ 23 then BitVec.ofNat 32 (v.toNat / 2 ^ 31 * 2 ^ 31) else v
  | _ => v
/-- The default of word `w` (R173). -/
def Inst.dflt (x : Inst) (w : Nat) : Word :=
  let c := kindC x.kind x.nIn x.nOut
  let F (q : Rat) : Word := f32OfRat q
  let U (n : Nat) : Word := BitVec.ofNat 32 n
  match x.kind with
  | 0x01 => if w < c then F 1 else U 0
  | 0x02 => if w < x.nIn * x.nOut ∧ w / x.nIn = w % x.nIn then F 1 else U 0
  | 0x03 => if w % 5 = 0 then F 1 else U 0
  | 0x04 => if w % (16 * x.kver) = 0 then F 1 else U 0
  | 0x05 => if w < c then F 1 else U 0
  | 0x06 => if w < c then U 1 else U 0
  | 0x07 => match w with
    | 1 => F 1 | 3 => U 96 | 4 => U 9600 | _ => U 0
  | 0x08 => if w = 0 then F (-1 / 10) else if w = 1 then U 4800 else U 0
  | 0x09 => F ((100 * 2 ^ w : Nat) : Rat)
  | 0x0A => if w < x.nIn then U w else U 255
  | 0x0C => match w with
    | 0 => F (-40) | 1 => F (-20) | 2 => U 96 | 3 => U 48000 | 4 => U 48000 | _ => U 0
  | 0x0D => if w = 0 then U 1 else U 9600
  | 0x0E => match w with
    | 0 => U 96000 | 1 => U 28800 | 2 => F 1 | _ => U 0
  | 0x10 => if w % 3 = 1 then F 1000 else if w % 3 = 2 then F (1 / 10) else U 0
  | 0x12 => if w = 2 then F 1 else U 0
  | 0x13 => if w < x.kver then F ((1000 + 5000 * w : Nat) : Rat) else if w = x.kver then F (1 / 20) else U 9600
  | 0x14 => U w
  | _ => U 0
/-- The default words of an instance. -/
def Inst.defaults (x : Inst) : List Word := (List.range x.paramWords).map x.dflt
/-- Rising crossover frequencies, each at least 1.25 times the one before (R173). -/
def risingOk : List Word → Bool
  | a :: b :: r => decide (5 / 4 * f32Rat a ≤ f32Rat b) && risingOk (b :: r)
  | _ => true
/-- The ties of one instance's whole set (R610): crossover order, and protection hook channels that differ (R187). -/
def Inst.tiesOk (x : Inst) (ws : List Word) : Bool :=
  match x.kind with
  | 0x09 => risingOk ws
  | 0x14 => decide ws.Nodup
  | _ => true
/-- Meter channels of an image before an instance, and in all (R193). -/
def meterBase (l : List Inst) (id : Nat) : Nat :=
  (l.filter (fun i => i.kind = 0x0E && decide (i.id < id))).foldl (fun a i => a + i.nIn) 0

end Sys2Proof.Machine
end

