-- ==== Sys2Proof/Machine/Image.lean ====
section
/-! DEFINITION. Stages F and S of the validation (R106, R613): the bytes of a slot read as an image, and its
signature. -/
namespace Sys2Proof.Machine

/-- A slot as the flash controller gives it: the bytes written since OPEN, the 4,096-byte pages that it reports as beyond
correction, and whether power failed while it was written. -/
structure Flash where
  bytes : List Byte
  bad : List Nat
  cut : Bool
  deriving DecidableEq, Repr
/-- The outcome of a check. -/
abbrev Chk (α : Type) := Except Refuse α
/-- A check that must hold, or its refusal. -/
def need (c : Bool) (code course detail : Nat) : Chk Unit := if c then .ok () else .error ⟨code, course, detail⟩
/-- `n` bytes of a slot; erased flash reads 0xFF. -/
def Flash.get (fl : Flash) (o n : Nat) : List Byte :=
  let l := (fl.bytes.drop o).take n
  l ++ List.replicate (n - l.length) 0xFF#8
/-- A little-endian field of a slot. -/
def Flash.num (fl : Flash) (o n : Nat) : Nat := leVal (fl.get o n)
/-- Reading the pages that hold bytes [o, o+n), from the first page not yet read: a page beyond correction refuses
with FLASH, an erased page with INCOMPLETE, and an erased first page with EMPTY (R106). Where power failed before the slot held its
whole image, so that `cut` is set, a page that is written in part counts as erased (R73; DEDUCED, log entry 59). -/
def Flash.touch (fl : Flash) (next o n course : Nat) : Chk Nat :=
  let last := (o + n - 1) / 4096
  if n = 0 ∨ last < next then .ok next
  else do
    let _ ← (List.range (last + 1 - next)).mapM (fun k => do
      let p := next + k
      need (!fl.bad.contains p) 0x0E course (4096 * p)
      need (decide (4096 * p + (if fl.cut && p ≠ 0 then 4095 else 0) < fl.bytes.length)) (if p = 0 then 0x01 else 0x07) course (4096 * p))
    .ok (last + 1)
/-- A reserved field must be 0 (RESERVED). -/
def Flash.zero (fl : Flash) (o n course : Nat) : Chk Unit := need (fl.num o n = 0) 0x0F course o
/-- The pad bytes of a body must be 0; the first byte that is not is named. -/
def Flash.pad (fl : Flash) (o e course : Nat) : Chk Unit :=
  match (List.range (e - o)).find? (fun k => fl.num (o + k) 1 ≠ 0) with
  | some k => .error ⟨0x0F, course, o + k⟩
  | none => .ok ()
/-- The offsets of `n` records of `size` bytes. -/
def recOffs (o size n : Nat) : List Nat := (List.range n).map (fun k => o + size * k)
/-- A length rounded up to a multiple of 16. -/
def up16 (n : Nat) : Nat := ceilDiv n 16 * 16

/-- The place of a course type in the order of R78; NOTE and unknown types have none. -/
def courseRank (t : Nat) : Option Nat :=
  if 1 ≤ t ∧ t ≤ 0x0B then some t else if t = 0xFE then some 0x0C else if t = 0xFF then some 0x0D else none
/-- The body length a type fixes. -/
def fixedLen (t : Nat) : Option Nat :=
  match t with
  | 0x01 => some 256 | 0x02 => some 16 | 0x09 => some 256 | 0x0A => some 16 | 0xFE => some 80 | 0xFF => some 16
  | _ => none
/-- The bits n for which `p n` holds, as a mask of 64 bits. -/
def hasRingEndpoint (im : Image) : Bool := im.insts.any (fun i => i.isEndpoint && (i.port = 1 || i.port = 2))

/-- The body of a course read into the image, with the checks of stage F on its fields (R80 to R100). -/
def parseBody (fl : Flash) (im : Image) (t ten c off len : Nat) : Chk Image :=
  let b := off + 16
  let e := b + len
  let cl (x : Bool) : Chk Unit := need x 0x0B c (off + 4)
  match t with
  | 0x01 => do
    let rs ← (recOffs b 32 8).mapM (fun o => do
      fl.zero (o + 2) 2 c
      fl.zero (o + 0x12) 2 c
      fl.zero (o + 0x18) 8 c
      .ok (TenCfg.mk (fl.num o 1) (fl.num (o + 1) 1) (fl.num (o + 4) 4) (fl.num (o + 8) 4) (fl.num (o + 12) 4)
        (fl.num (o + 16) 2) (fl.num (o + 20) 4)))
    .ok { im with tens := rs }
  | 0x02 => .ok { im with used := fl.num b 8, except := fl.num (b + 8) 8 }
  | 0x03 => do
    cl (decide (16 ≤ len))
    let n := fl.num b 2
    cl (up16 (16 + 32 * n) = len)
    fl.zero (b + 2) 14 c
    let rs ← (recOffs (b + 16) 32 n).mapM (fun o => do
      let k := fl.num (o + 2) 1
      let ep := k = 0x40 ∨ k = 0x41
      need (if ep then decide (fl.num (o + 7) 1 < 2) else decide (fl.num (o + 7) 1 = 0)) 0x0F c (o + 7)
      fl.zero (o + 10) 2 c
      need (!decide (ep ∧ 65536 ≤ fl.num (o + 16) 4)) 0x0F c (o + 18)
      fl.zero (o + 28) 4 c
      .ok { id := fl.num o 2, kind := k, kver := fl.num (o + 3) 1, stone := fl.num (o + 4) 1, ten := fl.num (o + 5) 1,
            writers := fl.num (o + 6) 1, flags := fl.num (o + 7) 1, nIn := fl.num (o + 8) 1, nOut := fl.num (o + 9) 1,
            localOff := fl.num (o + 12) 4, localLen := fl.num (o + 16) 4, dramKib := fl.num (o + 20) 4,
            paramWords := fl.num (o + 24) 2, paramBase := fl.num (o + 26) 2, off := o : Inst })
    fl.pad (b + 16 + 32 * n) e c
    .ok { im with insts := rs }
  | 0x04 => do
    cl (decide (16 ≤ len))
    let n := fl.num b 2
    cl (up16 (16 + 8 * n) = len)
    fl.zero (b + 2) 14 c
    let rs ← (recOffs (b + 16) 8 n).mapM (fun o => do
      fl.zero (o + 3) 1 c
      fl.zero (o + 7) 1 c
      .ok (Net.mk (fl.num o 2) (fl.num (o + 2) 1) (fl.num (o + 4) 2) (fl.num (o + 6) 1) o))
    fl.pad (b + 16 + 8 * n) e c
    .ok { im with nets := rs }
  | 0x05 => do
    cl (decide (16 ≤ len))
    let nl := fl.num b 2
    let nx := fl.num (b + 2) 2
    fl.zero (b + 4) 12 c
    let (ls, pos) ← (List.range nl).foldlM (fun (acc : List StoneList × Nat) _ => do
      let p := acc.2
      cl (decide (p + 8 ≤ e))
      fl.zero (p + 1) 1 c
      let n := fl.num (p + 2) 2
      fl.zero (p + 4) 4 c
      cl (decide (p + 8 + 4 * n ≤ e))
      let es := (recOffs (p + 8) 4 n).map (fun o => Entry.mk (fl.num o 2) (fl.num (o + 2) 2) o)
      .ok (acc.1 ++ [StoneList.mk (fl.num p 1) es p], p + 8 + 4 * n)) ([], b + 16)
    cl (up16 (pos - b + 8 * nx) = len)
    let xs ← (recOffs pos 8 nx).mapM (fun o => do
      fl.zero (o + 6) 2 c
      .ok (Xfer.mk (fl.num o 2) (fl.num (o + 2) 1) (fl.num (o + 3) 1) (fl.num (o + 4) 2) o))
    fl.pad (pos + 8 * nx) e c
    .ok { im with lists := ls, xfers := xs }
  | 0x06 => do
    cl (decide (16 ≤ len))
    let n := fl.num b 2
    cl (up16 (16 + 16 * n) = len)
    fl.zero (b + 2) 14 c
    let rs ← (recOffs (b + 16) 16 n).mapM (fun o => do
      fl.zero (o + 2) 2 c
      fl.zero (o + 12) 4 c
      .ok (Region.mk (fl.num o 1) (fl.num (o + 1) 1) (fl.num (o + 4) 4) (fl.num (o + 8) 4) o))
    .ok { im with regions := rs }
  | 0x07 => do
    cl (decide (16 ≤ len))
    let nt := fl.num (b + 2) 2
    let ns := fl.num (b + 4) 2
    cl (up16 (16 + 4 * (nt + ns)) = len)
    fl.zero (b + 6) 10 c
    let ts := (recOffs (b + 16) 4 nt).map (fun o => Tap.mk (fl.num o 2) (fl.num (o + 2) 1) (fl.num (o + 3) 1) o)
    let ss := (recOffs (b + 16 + 4 * nt) 4 ns).map (fun o => SendRec.mk (fl.num o 2) (fl.num (o + 2) 1) (fl.num (o + 3) 1) o)
    fl.pad (b + 16 + 4 * (nt + ns)) e c
    .ok { im with lanes := true, dMin := fl.num b 2, taps := ts, sends := ss }
  | 0x08 => do
    cl (decide (16 ≤ len))
    let n := fl.num b 2
    cl (up16 (16 + 8 * n) = len)
    fl.zero (b + 2) 14 c
    fl.pad (b + 16 + 8 * n) e c
    .ok { im with regs := (recOffs (b + 16) 8 n).map (fun o => (fl.num o 4, fl.num (o + 4) 4)) }
  | 0x09 => .ok { im with faults := some ((List.range 256).map (fun k => fl.num (b + k) 1)) }
  | 0x0A => do
    need (decide (fl.num b 2 < 4096)) 0x0F c b
    fl.zero (b + 9) 7 c
    .ok { im with ovr := some ⟨fl.num b 2, fl.num (b + 2) 1, fl.num (b + 3) 1, fl.num (b + 4) 2, fl.num (b + 6) 2, fl.num (b + 8) 1⟩ }
  | 0x0B => do
    cl (decide (16 ≤ len))
    let n := fl.num b 2
    fl.zero (b + 2) 14 c
    let (rs, pos) ← (List.range n).foldlM (fun (acc : List ParamRec × Nat) _ => do
      let p := acc.2
      cl (decide (p + 8 ≤ e))
      let k := fl.num (p + 4) 2
      fl.zero (p + 6) 2 c
      cl (decide (p + 8 + 4 * k ≤ e))
      .ok (acc.1 ++ [ParamRec.mk (fl.num p 2) (fl.num (p + 2) 2) ((recOffs (p + 8) 4 k).map (fun o => BitVec.ofNat 32 (fl.num o 4))) p],
           p + 8 + 4 * k)) ([], b + 16)
    cl (up16 (pos - b) = len)
    fl.pad pos e c
    .ok { im with params := im.params ++ [(ten, rs)] }
  | 0xFE => do
    fl.zero (b + 1) 15 c
    .ok im
  | _ => .ok im

/-- The walk over the courses of stage F, in byte order. -/
def walkF : Nat → Flash → (len count idx off next rank pten : Nat) → (sign : Bool) → List Nat → Image → Chk Image
  | 0, _, _, _, idx, off, _, _, _, _, _, _ => .error ⟨0x0D, idx, off⟩
  | fuel + 1, fl, len, count, idx, off, next, rank, pten, sign, have', im => do
    let next ← fl.touch next off 16 idx
    let t := fl.num off 1
    let r := courseRank t
    -- R613: a required course whose place the walk has passed
    let _ ← [1, 2, 3, 4, 5, 6, 7].mapM (fun k =>
      match r with
      | none => .ok ()
      | some r => need (!decide (k < r ∧ !have'.contains k ∧ (k ≠ 7 ∨ hasRingEndpoint im))) 0x0C idx off)
    need (!decide (t ≠ 0xFF ∧ off + 32 = len)) 0x07 idx off
    need (!decide (r = none ∧ t ≠ 0x70 ∧ fl.num (off + 2) 1 % 2 = 0)) 0x09 idx off
    need (!(sign && t ≠ 0xFF) && !decide (t = 0xFF ∧ off + 32 ≠ len)) 0x0A idx off
    need (match r with
      | none => true
      | some r => decide (rank < r) || (t = 0x0B && rank = r)) 0x0A idx off
    need (fl.num (off + 1) 1 = 1) 0x09 idx (off + 1)
    need (decide (fl.num (off + 2) 1 < 2)) 0x0F idx (off + 2)
    let ten := fl.num (off + 3) 1
    need (if t = 0x0B then decide (ten < 8) && decide (pten ≤ ten) else ten = 0xFF) 0x0A idx (off + 3)
    let bl := fl.num (off + 4) 4
    need (!decide (t ≠ 0xFF ∧ len < off + 48 + bl)) 0x07 idx (off + 4)
    need (bl % 16 = 0) 0x0B idx (off + 4)
    need (match fixedLen t with
      | some n => bl = n
      | none => true) 0x0B idx (off + 4)
    need (fl.num (off + 8) 2 = idx) 0x0A idx (off + 8)
    fl.zero (off + 10) 2 idx
    let next ← fl.touch next (off + 16) bl idx
    need (fl.num (off + 12) 4 = crc32c (fl.get off 12 ++ fl.get (off + 16) bl)) 0x08 idx (off + 12)
    let im ← parseBody fl im t ten idx off bl
    let im := { im with courses := im.courses ++ [⟨t, ten, idx, off, bl⟩] }
    if t = 0xFF then do
      let b := off + 16
      need (fl.num b 4 = len) 0x0D idx b
      need (fl.num (b + 4) 2 = count && count = idx + 1) 0x0D idx (b + 4)
      fl.zero (b + 6) 2 idx
      need (fl.num (b + 8) 4 = 0x444E4521) 0x0D idx (b + 8)
      fl.zero (b + 12) 4 idx
      .ok im
    else
      walkF fuel fl len count (idx + 1) (off + 16 + bl) next (match r with
        | some r => r
        | none => rank) (if t = 0x0B then ten + 1 else pten) (sign || t = 0xFE) (t :: have') im

/-- Stage F over a slot (R106, codes 0x01 to 0x0F). -/
def stageF (fl : Flash) (emptySlot : Bool) : Chk Image := do
  let h := 0xFFFF
  need (!emptySlot) 0x01 h 0
  let next ← fl.touch 0 0 64 h
  let short := fl.cut && (decide (fl.bytes.length < 64) || decide (fl.bytes.length < fl.num 8 4))
  need (!(short && decide (fl.bytes.length < 4096))) 0x07 h 0
  let fl := { fl with cut := short }
  need (fl.num 0 4 ≠ 0xFFFFFFFF) 0x01 h 0
  need (fl.num 0 4 = 0x4C485341) 0x02 h 0
  need (fl.num 4 2 = 1) 0x03 h 4
  need (fl.num 6 2 = 64) 0x03 h 6
  let len := fl.num 8 4
  need (decide (96 ≤ len) && decide (len ≤ 67108864) && len % 16 = 0) 0x06 h 8
  need (decide (fl.num 12 4 < 8)) 0x0F h 12
  need (fl.num 0x18 2 = 0x8128) 0x05 h 0x18
  need (decide (fl.num 0x1A 2 ≤ 0x0B0)) 0x05 h 0x1A
  fl.zero 0x1E 2 h
  fl.zero 0x2C 16 h
  need (fl.num 0x3C 4 = crc32c (fl.get 0 60)) 0x04 h 0x3C
  let im := { Image.empty with rate := fl.num 12 4 % 4, cls := fl.num 12 4 / 4, epoch := fl.num 16 8, len := len,
                               stones := fl.num 0x28 4, buildId := fl.num 0x20 4, producer := fl.num 0x24 4 }
  walkF 65536 fl len (fl.num 0x1C 2) 0 64 next 0 0 false [] im

/-- What stage S reads of the signature registers: ENFORCE and the 64 bytes of each key slot. -/
structure SigCtx where
  enforce : Bool
  keys : List (List Byte)
  deriving DecidableEq, Repr
/-- Whether a key slot holds a key (R102). -/
def keyPresent (k : List Byte) : Bool := k.any (· ≠ 0#8)
/-- Stage S (R101 to R104): answers whether a signature was verified. -/
def stageS (fl : Flash) (im : Image) (sc : SigCtx) : Chk Bool :=
  match im.courses.find? (fun c => c.typ = 0xFE) with
  | none => do
    let e := im.courses.getLast?.getD ⟨0xFF, 0xFF, 0, 0, 16⟩
    need (!sc.enforce) 0x10 e.index e.off
    .ok false
  | some c => do
    let b := c.off + 16
    let k := fl.num b 1
    need (decide (k ≤ 3)) 0x11 c.index b
    let key := sc.keys.getD k []
    if keyPresent key then do
      let ok := ecdsaVerify (beVal (key.take 32)) (beVal (key.drop 32)) (beVal (fl.get (b + 16) 32)) (beVal (fl.get (b + 48) 32))
        (fl.get 0 c.off)
      need ok 0x12 c.index (b + 16)
      .ok true
    else do
      need (!sc.enforce) 0x11 c.index b
      .ok false

end Sys2Proof.Machine
end

