-- ==== Sys2Proof/Machine/StateCore.lean ====
section
/-! DEFINITION. The state of the tick, the image machine, the engine, routing and mixing, the override, the fault
collector, the hosts and tenancies, the power domains and the memories. Registers that the spec numbers live in the
register file of State.lean; these structures hold what lies behind them. -/
namespace Sys2Proof.Machine

/-- The keystone tick (R42 to R56). -/
structure KsState where
  /-- KS_COUNT (R42). -/
  count : Nat
  /-- Engine cycle of the tick that the model's time has reached (R49). -/
  cycle : Nat
  /-- The commit point of the tick has passed (R63). -/
  committed : Bool
  /-- The keystone tick runs (R537). -/
  running : Bool
  /-- Target ticks of KS alarms 0 to 3, taken at arming (KS_ALARMn_LO), and whether each is pending (R53). -/
  alarmTgt : List Nat
  alarmOn : List Bool
  deriving DecidableEq, Repr
/-- The tick at reset: KS_COUNT 0; the first tick edge starts it (R43, R537). -/
def KsState.reset : KsState := ⟨0, 0, false, false, [0, 0, 0, 0], [false, false, false, false]⟩

/-- A slot of the flash (R69, R70). -/
structure Slot where
  /-- 0 EMPTY, 1 OPEN, 2 CLOSED, 3 VALID, 4 INVALID. -/
  state : Nat
  /-- Refusal code while INVALID. -/
  code : Nat
  /-- The bytes written since OPEN; flash beyond them is erased. -/
  bytes : List Byte
  /-- Pages that the flash controller cannot correct. -/
  bad : List Nat
  /-- An erase is running (OPEN). -/
  erasing : Bool
  /-- A verify is running. -/
  verifying : Bool
  /-- The slot was being written when power failed (R73). -/
  cut : Bool
  deriving DecidableEq, Repr
/-- A slot as it leaves the factory (R3). -/
def Slot.erased : Slot := ⟨0, 0, [], [], false, false, false⟩
/-- The image machine (R69 to R127). -/
structure ImgState where
  /-- Slots A and B (R69). -/
  slots : List Slot
  /-- The slot that a load is reading (R111). -/
  loading : Option Nat
  /-- The image in the staging area (R111). -/
  staged : Option Image
  /-- The active image. -/
  active : Option Image
  /-- Target tick T of a pending activation (R113). -/
  target : Nat
  /-- Rebuild start T − W (R113). -/
  rebuildAt : Nat
  /-- The pending activation was armed by the module itself under R121. -/
  auto : Bool
  /-- DEACTIVATE is under way (R120). -/
  deact : Bool
  deriving DecidableEq, Repr
/-- The image machine of a new module (R3). -/
def ImgState.reset : ImgState := ⟨[Slot.erased, Slot.erased], none, none, none, 0, 0, false, false⟩

/-- A value ramp of R174 or a crossfade of R177 and R182: from, to, tick within it, length. -/
structure Ramp where
  from' : F32
  to' : F32
  pos : Nat
  len : Nat
  deriving DecidableEq, Repr
/-- The state of a block instance: parameters in effect, inactive bank (R188), EXT48 state (R135), binary32 state,
counters, sample histories and ramps. -/
structure InstSt where
  id : Nat
  par : List Word
  alt : List Word
  ext : List Ext48
  fs : List F32
  ns : List Nat
  hist : List (List F32)
  ramps : List Ramp
  deriving DecidableEq, Repr
/-- The grout record of a value: the last sample produced and the missing ticks since (R65). -/
structure Grout where
  last : F32
  miss : Nat
  deriving DecidableEq, Repr
/-- One stone in the tick: next entry of its list, stall cycles so far, the instance it stalls on, the cycle the
stall began, whether it was stopped at the commit point, and whether R164 has gated it. -/
structure StoneRun where
  next : Nat
  delay : Nat
  stall : Option Nat
  since : Nat
  stopped : Bool
  gated : Bool
  deriving DecidableEq, Repr
/-- A stone at the head of a tick. -/
def StoneRun.idle : StoneRun := ⟨0, 0, none, 0, false, false⟩
/-- The engine (R128 to R167). -/
structure EngState where
  insts : List InstSt
  /-- Grout records of tick I/O words and landing words, by tick SRAM offset (R141, R147). -/
  grout : KMap Grout
  stones : List StoneRun
  /-- Next transfer of the schedule (R142). -/
  xnext : Nat
  /-- Transfers in flight: landing cycle, landing word, value (R142). -/
  flying : List (Nat × Nat × F32)
  /-- Instances whose read line has not arrived (R153). -/
  late : List Nat
  /-- Players whose buffer ran dry in this tick (R206). -/
  underrun : List Nat
  /-- Read-stream lines requested: instance and tick of need (R152). -/
  wanted : List (Nat × Nat)
  /-- Write-stream lines written in this tick, issued at the next head (R152). -/
  wrote : List Nat
  /-- Write-backs outstanding: instance and issue tick (R152). -/
  writing : List (Nat × Nat)
  /-- Instances abandoned in this tick (R63, R132). -/
  abandoned : List Nat
  /-- Instances that have run in this tick and the engine cycle at which each ends (R155). -/
  ends : List (Nat × Nat)
  /-- Domains that a stone has woken and the engine cycle of this tick at which each is ready (R165). -/
  waking : List (Nat × Nat)
  /-- What the words that delay instances read stale held at the head (R148). -/
  before : List (Nat × F32)
  /-- The presentation-buffer entries that lookahead limiters read, as the head found them: lane, tick, value (R232). -/
  ahead : List (Nat × Nat × F32)
  /-- Instances under way: the engine cycle of the end, the instance, and the values that it then writes to its outputs (R155). -/
  outs : List (Nat × Nat × List F32)
  deriving DecidableEq, Repr
/-- The engine with no image. -/
def EngState.reset : EngState := ⟨[], [], List.replicate 32 StoneRun.idle, 0, [], [], [], [], [], [], [], [], [], [], [], []⟩

/-- The safe-load swap of a tenancy's space (R189 to R192): STATE of MIX_SWAP_STATUS, whether one is pending (a refused ARM
shows LATE in STATE beside it), the tenancy that armed it, its target, the bank taken at T − G, HELD and WRITES_PENDING. -/
structure Swap where
  state : Nat
  on : Bool
  by' : Nat
  target : Nat
  bank : List Word
  held : Bool
  pend : Bool
  deriving DecidableEq, Repr
/-- A space with no swap. -/
def Swap.idle : Swap := ⟨0, false, 0, 0, [], false, false⟩
/-- A sample-rate converter endpoint (R197 to R199): phase 0 running, 1 silent for the Z ticks, 2 ramping in; ticks of
that phase done; whether its source's rate is followed; whether no sample has arrived for 16 ticks; ticks since the last
sample; resynchronisations since activation; and the source rate over the base rate with 24 fraction bits. -/
structure Src where
  id : Nat
  phase : Nat
  pos : Nat
  locked : Bool
  absent : Bool
  silent : Nat
  resync : Nat
  ratio : Nat
  deriving DecidableEq, Repr
/-- A message of the store (R204, R205); states as MIX_MSG_STATUS.STATE. -/
structure Msg where
  number : Nat
  state : Nat
  bytes : List Byte
  deriving DecidableEq, Repr
/-- A coefficient load of R178: tenancy, instance, channel, and the DRAM key of the taps. -/
structure PfirLoad where
  ten : Nat
  id : Nat
  ch : Nat
  src : Nat
  deriving DecidableEq, Repr
/-- Routing and mixing (R168 to R206). -/
structure MixState where
  /-- Class S parameter writes that take effect at the next tick (R11): instance, word, value. -/
  pendS : List (Nat × Nat × Word)
  swaps : List Swap
  /-- A meter latch is pending, and its target; a refused ARM shows LATE in STATE beside it (R195). -/
  latchOn : Bool
  latchTgt : Nat
  /-- HOLD_CLR waits for the next head (R194). -/
  holdClr : Bool
  pfir : Option PfirLoad
  srcs : List Src
  /-- POST ticks left, and the last tick that the recorder has written (R202). -/
  post : Nat
  recLast : Nat
  msgs : List Msg
  /-- A message operation under way: 1 OPEN, 2 DELETE, 3 VERIFY, and the message (R205). -/
  msgOp : Option (Nat × Nat)
  deriving DecidableEq, Repr
/-- Routing and mixing of a new module. -/
def MixState.reset : MixState := ⟨[], List.replicate 8 Swap.idle, false, 0, false, none, [], 0, 0, [], none⟩

/-- The life-safety override (R207 to R213). -/
structure OvrState where
  /-- Levels of OVR_A and OVR_B on the pins, after the 32-tick filter. -/
  pinA : Bool
  pinB : Bool
  /-- Tick t1 of R207. -/
  t1 : Nat
  /-- Tick at which inputs that still disagree make the override effective and raise OVR_DISCREPANCY: t1 + DISC, or DISC after
  they came to disagree in ACTIVE. -/
  discAt : Option Nat
  /-- The last change of the accepted inputs woke the module from storage sleep, so that DISC counts from the wake (R209). -/
  woke : Bool
  /-- Tick from which the override is effective, while it waits for it. -/
  effAt : Option Nat
  /-- Tick from which the override ends, while it waits for it. -/
  endAt : Option Nat
  /-- Ticks of the 32-tick fade of R210 done, toward the override. -/
  fade : Nat
  /-- Outputs that the override started (R211), as OUT_MASK. -/
  started : Nat
  /-- Position of each player in the announcement: instance and frame or gap tick (R210). -/
  pos : List (Nat × Nat)
  /-- The OVR_STAT pin conducts (R212). -/
  stat : Bool
  deriving DecidableEq, Repr
/-- The override at reset: contacts open (pins high), idle. -/
def OvrState.reset : OvrState := ⟨true, true, 0, none, false, none, none, 0, 0, [], false⟩

/-- An entry of the fault history (R547); `seq` orders the events of a tick. -/
structure HistEntry where
  tick : Nat
  cycle : Nat
  cls : Nat
  kind : Nat
  hv : Bool
  source : Nat
  data : Nat
  seq : Nat
  deriving DecidableEq, Repr
/-- An uncleared HALT or CAPSTONE raise, with the channels and analog outputs of its scope (R533, R534). -/
structure Raise where
  source : Nat
  cls : Nat
  unit : Nat
  chMask : Nat
  anaMask : Nat
  tick : Nat
  deriving DecidableEq, Repr
/-- A write of FLT_CLEAR that waits for the head of the next tick (R544). -/
structure ClearReq where
  halt : Bool
  load : Bool
  restart : Bool
  cnt : Bool
  mask : Nat
  tick : Nat
  deriving DecidableEq, Repr
/-- An armed injection (R553): TARGET, MODE, UNIT and, for a memory, the byte address within it, as ARM found them. -/
structure Inj where
  target : Nat
  mode : Nat
  unit : Nat
  addr : Nat
  deriving DecidableEq, Repr
/-- The fault collector (R528 to R554). -/
structure FltState where
  /-- Classes that differ from the default, by source (R529). -/
  cls : KMap Nat
  /-- Class writes that govern from the next tick (R529). -/
  clsPend : List (Nat × Nat)
  /-- Sources that are ACTIVE, with the unit and the class of the raise (R540). -/
  active : List (Nat × Nat × Nat)
  raises : List Raise
  /-- Uncleared load faults: source, channel, class and tick of the raise (R541). -/
  loads : List (Nat × Nat × Nat × Nat)
  capstone : Bool
  hist : List HistEntry
  first : Option HistEntry
  /-- The next HALT or CAPSTONE raise is kept in FLT_FIRST (R549). -/
  firstOpen : Bool
  frozen : Bool
  /-- Sources counted, and source-unit pairs entered, in this tick (R533). -/
  counted : List Nat
  entered : List (Nat × Nat)
  /-- Number of the event under way, which orders entries that R548 leaves equal. -/
  seq : Nat
  clear : Option ClearReq
  /-- The injection that is ARMED. -/
  inj : Option Inj
  /-- Read buffers of the SPI, Flary and debug paths (R550). -/
  bufs : List (List Word)
  /-- Pins: PLUMB high, FAULT_N driven by this module, the FAULT_N wire low. -/
  plumb : Bool
  plumbHold : Bool
  wireLow : Bool
  /-- FN_LOW as last seen by the 1 µs filter. -/
  fnSeen : Bool
  /-- SAFE_MASK bits that own reactions hold: BAR_UP_LOST, VL5 or logic heat, DBG_EXTEST (R535). -/
  ownUp : Bool
  ownVl5 : Bool
  ownHot : Bool
  ownExt : Bool
  /-- A DN frame with a non-zero mask has gone, so SAFE_REQ is asserted (R535). -/
  safeReq : Bool
  deriving DecidableEq, Repr
/-- The fault collector at reset. -/
def FltState.reset : FltState :=
  { cls := [], clsPend := [], active := [], raises := [], loads := [], capstone := false, hist := [], first := none, firstOpen := true,
    frozen := false, counted := [], entered := [], seq := 0, clear := none, inj := none, bufs := [[], [], []], plumb := false,
    plumbHold := false, wireLow := false, fnSeen := false, ownUp := false, ownVl5 := false, ownHot := false, ownExt := false,
    safeReq := false }

/-- A DRAM allocation of a tenancy's pool (R506). -/
structure Alloc where
  ten : Nat
  handle : Nat
  offMib : Nat
  sizeMib : Nat
  deriving DecidableEq, Repr
/-- An event subscription (R502): bits that rose since the last EVENT are gathered. -/
structure Sub where
  ten : Nat
  mac : Nat
  mask : Nat
  rose : Nat
  branch : Bool
  /-- RELAY of the EVENT_SUB. -/
  relay : Nat
  deriving DecidableEq, Repr
/-- A hardware semaphore (R517): owner code and the BROKEN mark. -/
structure Sem where
  owner : Nat
  broken : Bool
  deriving DecidableEq, Repr
/-- A record of the fleet log (R501). -/
structure LogRec where
  index : Nat
  count : Nat
  timeNs : Nat
  kind : Nat
  source : Nat
  data : List Byte
  deriving DecidableEq, Repr
/-- Tenancies, quotas, semaphores and services (R502 to R520). -/
structure TenState where
  /-- Allocations, oldest first (R506, R508). -/
  allocs : List Alloc
  /-- Holds: tenancy and instance (R505). -/
  holds : List (Nat × Nat)
  /-- Tenancies marked for eviction (R512). -/
  evict : List Nat
  /-- OVER masks of the tenancies, as TEN_Tt_STATUS.OVER (R511). -/
  overs : List Nat
  sems : List Sem
  subs : List Sub
  /-- Remembered requesters: tenancy, REQ_MAC, highest SEQ, stored response (R497), newest first. -/
  seen : List (Nat × Nat × Nat × List Byte)
  /-- Fleet log, oldest first, and the next index (R501). -/
  log : List LogRec
  logNext : Nat
  /-- Window bases taken when a DMA address register was written, by register key (R507). -/
  dmaBase : KMap Nat
  deriving DecidableEq, Repr
/-- Tenancies of a module with no image. -/
def TenState.reset : TenState := ⟨[], [], [], List.replicate 8 0, List.replicate 64 ⟨0, false⟩, [], [], [], 0, []⟩

/-- The frame a request answers with. -/
inductive ReqKind where
  | single
  | spi
  | flary (hdr : List Byte) (branch : Bool)
  | telem (hdr : List Byte) (branch : Bool)
  | daw
  deriving DecidableEq, Repr
/-- A request of several accesses and how far it has come (R488). -/
structure Request where
  kind : ReqKind
  path : Path
  ten : Nat
  write : Bool
  /-- Bytes from one access to the next, 0 for READ_FIX and WRITE_FIX, and bytes per access: 1, 2 or 4. -/
  stride : Nat
  width : Nat
  left : Nat
  addr : Nat
  data : List Byte
  done : Nat
  out : List Byte
  deriving DecidableEq, Repr
/-- Why a request waits: a domain on its way to L0 (R558), a semaphore (R518), or a barrier round trip (R25). -/
inductive Wait where
  | domain (d : Nat)
  | sem (n : Nat)
  | barrier
  deriving DecidableEq, Repr
/-- A request stalled, in arrival order (R25, R518, R558). -/
structure Stalled where
  req : Request
  wait : Wait
  deriving DecidableEq, Repr
/-- A request received while service core 1 is halted: a frame of the SPI host port with its OP, COUNT, WIDTH, ADDR, data and whether its CRC
is right, or a Flary frame (R490, R499, R526). -/
inductive Waiting where
  | spi (op count width addr : Nat) (data : List Byte) (crcOk : Bool)
  | flary (r : FlaryReq)
  deriving DecidableEq, Repr
/-- The host paths (R486 to R501) and the debug port (R521 to R527). -/
structure HostState where
  /-- Requests that wait for service core 1 (R499). -/
  waiting : List Waiting
  /-- Status and data of the last single access. -/
  last : Nat × Word
  stalled : List Stalled
  /-- The last executed SPI response frame, for REPEAT (R493). -/
  spiResp : List Byte
  /-- The response frame on SPI_MISO (R492). -/
  spiOut : List Byte
  /-- Debug access window: last address, last status, last data, a command running (R523). -/
  dawAddr : Nat
  dawStatus : Nat
  dawData : Word
  dawBusy : Bool
  /-- Instruction in the debug port's instruction register (R521). -/
  tap : Nat
  /-- The service cores run (R515). -/
  fwRun : Bool
  /-- Firmware copies A and B: bytes, a write open, the copy verifies (R501, R515). -/
  fw : List (List Byte × Bool × Bool)
  deriving DecidableEq, Repr
/-- The host paths at reset: no access yet, IDCODE selected, both firmware copies valid (R3, R521). -/
def HostState.reset : HostState :=
  { waiting := [], last := (0, 0#32), stalled := [], spiResp := [], spiOut := [], dawAddr := 0, dawStatus := 0, dawData := 0#32,
    dawBusy := false, tap := 1, fwRun := false, fw := [([], false, true), ([], false, true)] }

/-- A switched power domain (R556): state code, a wake under way, the state held by sleep. -/
structure Domain where
  state : Nat
  waking : Bool
  sleepHold : Bool
  deriving DecidableEq, Repr
/-- The power domains (R555 to R574). -/
structure DomState where
  doms : List Domain
  /-- A sleep request waits: mode and the ring cycle of ENTER, or none for the next tick head (R291, R567). -/
  sleepAt : Option (Nat × Nat)
  /-- Sleep entry under way, outputs being muted (R291). -/
  entering : Bool
  /-- Power-stage channels and analog outputs to resume after sleep, as OUT_MASK (R563). -/
  resume : Nat
  /-- Tick at which the entry to the last sleep ended, from which DOM_SLEEP_MS counts. -/
  sleptAt : Nat
  /-- The barrier link is parked (R561). -/
  parked : Bool
  /-- VL5 is above the threshold of its power-on reset (R578). -/
  powered : Bool
  deriving DecidableEq, Repr
/-- Every domain at L0 after reset, as DOM_Dnn_STAT.STATE resets to 0. -/
def DomState.reset : DomState := ⟨List.replicate 60 ⟨0, false, false⟩, none, false, 0, 0, false, true⟩

/-- An error in a memory word: memory 0 stone, 1 tick SRAM, 2 DRAM, 3 footing; address of the 8-byte word; whether
it is uncorrectable; whether it was planted by an injection (R132, R532, R553). -/
structure EccMark where
  mem : Nat
  addr : Nat
  dbl : Bool
  inj : Bool
  deriving DecidableEq, Repr
/-- The memories (R24, R128, R141, R563): canonical lists of cells (key, byte); an unlisted byte reads 0. A stone's local memory lies at
262,144 × stone; a tenancy's pool at 2^33 × tenancy. -/
structure MemState where
  stone : List Host.Cell
  sram : List Host.Cell
  dram : List Host.Cell
  foot : List Host.Cell
  ecc : List EccMark
  deriving DecidableEq, Repr
/-- Memories with nothing listed. -/
def MemState.reset : MemState := ⟨[], [], [], [], []⟩

end Sys2Proof.Machine
end

