-- ==== Sys2Proof/Machine/StateIo.lean ====
section
/-! DEFINITION. The state of the analog inputs and outputs, the AES3 receiver, the serial audio ports, the auxiliary DACs
and the clocks, beside what their registers hold (R402 to R485). -/
namespace Sys2Proof.Machine

/-- An ADC channel (R403 to R407, R417): the gain in effect, ticks since the decimator's reset or of its ramp, depth of
the jack-mute fade in 32nds, and the decimator sample completed in the tick before. -/
structure AdcCh where
  gain : Nat
  ticks : Nat
  mute : Nat
  sample : Int
  deriving DecidableEq, Repr
/-- An analog output (R408 to R415): the ramp's weight as ticks done of its length, power-up and power-down under way, a
start that waits for the end of the power-up, and the samples in the interpolator, newest first (R413). -/
structure OutCh where
  pos : Nat
  len : Nat
  up : Bool
  down : Bool
  start : Bool
  line : List Int
  deriving DecidableEq, Repr
/-- The analog block: its channels, and the accepted levels of the jack sense inputs, high while open (R416). -/
structure AnaState where
  adc : List AdcCh
  out : List OutCh
  jack : List Bool
  deriving DecidableEq, Repr
/-- The analog block at reset. -/
def AnaState.reset : AnaState :=
  ⟨List.replicate 4 ⟨0, 0, 0, 0⟩, List.replicate 4 ⟨0, 480, false, false, false, []⟩, List.replicate 7 true⟩

/-- The AES3 receiver (R419 to R425). -/
structure AesState where
  /-- GUARD in effect, and the frames it holds, oldest first. -/
  guard : Bool
  held : List (Option Int × Option Int)
  /-- The sample of subframe A of the frame in progress. -/
  first : Option Int
  /-- Samples delivered last and missing frames since, for subframes A and B. -/
  last : List Int
  miss : List Nat
  /-- Consecutive preamble or biphase errors. -/
  bad : Nat
  /-- The subframe before held Pa in its upper 16 bits. -/
  pa : Bool
  /-- Channel-status bits of the block in progress of subframes A and B, as numbers. -/
  cs : List Nat
  /-- Complete blocks in which bit 1 has read 0 in both subframes, and frames since the last preamble pair (R423). -/
  clean : Nat
  quiet : Nat
  /-- Source frames of the ramp-in after NONAUDIO done, of 64 (R424). -/
  ramp : Nat
  deriving DecidableEq, Repr
/-- The receiver at reset: not locked. -/
def AesState.reset : AesState := ⟨true, [], none, [0, 0], [0, 0], 0, false, [0, 0], 0, 0, 64⟩

/-- A serial audio port (R426 to R442): the words of the last complete frame received; the 24-bit samples the tail staged
for its transmit slots; the words of the frame on DOUT, none for high impedance; the last sample and missing frames of each
playback slot; and the follower frames in a row with a wrong, and with a right, bit-clock count (R430). -/
structure SapPort where
  rx : List Nat
  tx : List Int
  sent : List (Option Nat)
  pb : List (Int × Nat)
  bad : Nat
  good : Nat
  deriving DecidableEq, Repr
/-- A port that has carried nothing. -/
def SapPort.reset : SapPort := ⟨[], List.replicate 32 0, [], List.replicate 32 (0, 40), 0, 0⟩

/-- An aux channel (R444 to R458). -/
structure AuxCh where
  /-- DIV in effect since the head of the tick, and the tick of the last update. -/
  div : Nat
  done : Option Nat
  /-- Tick at which EN was written 1, while the power-up waits; tick of entry to START-UP. -/
  powered : Option Nat
  entered : Nat
  /-- Mode request that waits: 1 NORMAL, 2 TEST; a SYNC that waits. -/
  req : Nat
  sync : Bool
  queue : List Nat
  phase : Nat
  noise : Nat
  pink : List (BitVec 48)
  /-- The endpoint's sample committed in this tick. -/
  eng : Int
  /-- The ladder code that drives the output in this tick; none while the output is released and pulled to 0 V (R447, R448). -/
  pin : Option Nat
  deriving DecidableEq, Repr
/-- A channel that is OFF; its noise source is seeded when a mode is entered (R454). -/
def AuxCh.reset : AuxCh := ⟨1, none, none, 0, 0, false, [], 0, 0, [], 0, none⟩

/-- A PLL (R461 to R480): it runs; it holds for want of the reference or for an unlock; the bandwidth in effect; the
frequency its ramps have reached with their last whole segment, in parts per 10¹², and the tick at which the running segment
began; the output phase that steps have moved, in units. -/
structure Pll where
  on : Bool
  refHold : Bool
  lockHold : Bool
  bw : Nat
  ppt : Int
  segAt : Nat
  phase : Int
  deriving DecidableEq, Repr
/-- The clocks: the PLLs, the MCLK settings in effect (R482 to R484), and the steering of the media oscillator by its ring-time
servo, in parts per 10¹² (R468, R471). -/
structure ClkState where
  plls : List Pll
  mclk : List (BitVec 32)
  servo : Int
  deriving DecidableEq, Repr
/-- The clocks at reset: no PLL runs; the outputs are off. -/
def ClkState.reset : ClkState := ⟨[⟨false, false, false, 1, 0, 0, 0⟩, ⟨false, false, false, 1, 0, 0, 0⟩, ⟨false, false, false, 3, 0, 0, 0⟩], [0x32#32, 0x32#32], 0⟩

end Sys2Proof.Machine
end

