-- ==== Sys2Proof/Machine/StateNet.lean ====
section
/-! DEFINITION. The state of the ring data path, ring control, time synchronisation, the Ethernet ports and the service
bus (R214 to R331), beside what their registers hold. -/
namespace Sys2Proof.Machine

/-- A ring plan (R214, R248): cycles are full ring-cycle numbers. -/
structure Plan where
  id : Nat
  rate : Nat
  channels : Nat
  d : Nat
  nodes : Nat
  head : Nat
  effective : Nat
  epoch : Nat
  hold : Nat
  standby : Nat
  gm : Nat
  source : List Nat
  deriving DecidableEq, Repr
/-- A tapped lane (R232 to R237). Lists of two hold the east and the west direction. -/
structure Lane where
  lane : Nat
  chan : Nat
  group : Nat
  /-- Taken from the node's own send staging (R218). -/
  self : Bool
  /-- Last source cycle taken from each direction. -/
  last : List (Option Nat)
  /-- Arrival map of the last 256 source cycles: cycle, east bit + 2 × west bit. -/
  map : List (Nat × Nat)
  /-- Ages recorded in the last 256 ring cycles, by direction: ring cycle and age (R236). -/
  ages : List (List (Nat × Nat))
  /-- Ring cycles, of the last 16, in which a cycle was taken from each direction. -/
  takes : List (List Nat)
  grouting : Bool
  deriving DecidableEq, Repr
/-- A frame that has returned to the head (R224): direction 0 east or 1 west, index, PLAN_ID, descriptors and samples. -/
structure Returned where
  dir : Nat
  index : Nat
  plan : Nat
  body : List Byte
  deriving DecidableEq, Repr
/-- The ring data path (R214 to R242). -/
structure RdpState where
  /-- The plan in effect. -/
  plan : Option Plan
  /-- Ring cycle from which it is in effect here. -/
  since : Nat
  /-- Taps and sends of the image placed last (R117), and where its regions lie in the tick SRAM. -/
  lanes : List Lane
  sends : List SendRec
  presOff : Nat
  stageOff : Nat
  /-- Rate code of the placed image, and the tick from which the active image is active; none while no image is. -/
  imgTick : Option Nat
  placed : Bool
  /-- Send lanes in conflict (R216). -/
  conflict : List Nat
  /-- Last source cycle written, by direction × 16 + frame (R226). -/
  written : List (Nat × Nat)
  /-- Ring cycle in which each send lane was last written. -/
  sentAt : List (Nat × Nat)
  /-- Ring cycle in which a frame of direction × 16 + index last arrived or was generated or launched. -/
  seen : List (Nat × Nat)
  gen : List (Nat × Nat)
  launched : List (Nat × Nat)
  /-- Frames that returned to the head since the last launch. -/
  returned : List Returned
  /-- Ring cycles, of the last 16, in which a good frame arrived, by direction. -/
  good : List (List Nat)
  /-- Ring cycle of the last generated frame, by direction. -/
  regenAt : List (Option Nat)
  /-- Counts of RING_LANE_ registers at 4 × lane + (0 lone, 1 lost, 2 late, 3 grout). -/
  laneCnt : List (Nat × Nat)
  /-- RING_GROUP_SPLIT by group. -/
  splits : List (Nat × Nat)
  /-- The launch function is renewed (R279). -/
  launchOn : Bool
  deriving DecidableEq, Repr
/-- The data path at reset: no plan, no image. -/
def RdpState.reset : RdpState :=
  { plan := none, since := 0, lanes := [], sends := [], presOff := 0, stageOff := 0, imgTick := none, placed := false,
    conflict := [], written := [], sentAt := [], seen := [], gen := [], launched := [], returned := [],
    good := [[], []], regenAt := [none, none], laneCnt := [], splits := [], launchOn := false }

/-- What this node has read of another node: its tuple, and its position in the plan in effect (R247, R260). -/
structure Known where
  mac : Nat
  tuple : Nat
  pos : Option Nat
  deriving DecidableEq, Repr
/-- A node's REPORT as the coordinator holds it (R260, R261): position in the plan in effect, hop counts of the rolls,
flags, and the channels it sends. -/
structure Report where
  mac : Nat
  tuple : Nat
  pos : Option Nat
  east : Option Nat
  west : Option Nat
  leaving : Bool
  live : Bool
  dup : Bool
  /-- PLAN_ID of the plan that its position belongs to. -/
  plan : Nat
  chans : List Nat
  deriving DecidableEq, Repr
/-- The ring configuration (R264). -/
structure RingConf where
  rate : Nat
  channels : Nat
  d : Nat
  epoch : Nat
  hold : Nat
  deriving DecidableEq, Repr
/-- A speed step (R287, R288): segment (0xFFFF for all), speed code, cycle of the GO. -/
structure StepGo where
  segment : Nat
  speed : Nat
  cycle : Nat
  deriving DecidableEq, Repr
/-- A segment out of service as this node knows it (R282, R286): number, REASON, ring cycle of the loss, and whether the
coordinator has re-rolled for it. -/
structure SegOut where
  seg : Nat
  reason : Nat
  since : Nat
  rolled : Bool
  deriving DecidableEq, Repr
/-- Ring control (R243 to R295). -/
structure RctState where
  /-- 16 × PRIORITY + CLASS still in use after a write to RING_CTL_CFG, until the next CLAIM or REPORT (R245). -/
  cfg : Option Nat
  /-- NONCE and the last SEQ of this node's control frames (R247). -/
  nonce : Nat
  seq : Nat
  /-- Control frames acted on: ORIG_MAC, NONCE, TYPE, SEQ, newest first (R249, R293). -/
  seen : List (Nat × Nat × Nat × Nat)
  /-- Claims of other originators: tuple and ring cycle seen (R254). -/
  claims : List (Nat × Nat)
  /-- SEQ of this node's last CLAIM, the ports it was sent by, and the ports by whose sending it has returned (R255). -/
  claimSeq : Nat
  claimPorts : List Nat
  claimBack : List Nat
  /-- Hop count and SEQ of the last east and west rolls (R258). -/
  eastHop : Option (Nat × Nat)
  westHop : Option (Nat × Nat)
  /-- Of this coordinator's own rolls: END_HOPS of the reflected ones, NODES of an east roll that came round (R259). -/
  rollEast : Option Nat
  rollWest : Option Nat
  rollRing : Option Nat
  /-- The coordinator waits for reports since its rolls, and the position it takes in the plan it builds (R260, R278). -/
  building : Bool
  head : Nat
  /-- Position in the plan in effect. -/
  pos : Option Nat
  /-- A REPORT is due (R260), and the LIVE flag last reported. -/
  reportDue : Bool
  reported : Bool
  /-- Reports the coordinator holds, and what every node has read of the others. -/
  reports : List Report
  known : List Known
  /-- Plans received that are not yet in effect, times a new plan is still to be sent, and its PLAN_ID (R262). -/
  waiting : List Plan
  sendsLeft : Nat
  lastId : Nat
  /-- Announced epoch (R266). -/
  epoch : Option Nat
  /-- The ring configuration that the next plan carries (R264). -/
  conf : Option RingConf
  /-- A COMMIT that waits for speed steps, and the segments still to be stepped up (R265). -/
  commit : Option RingConf
  commitSegs : List Nat
  /-- Tuple of the coordinator; MAC of the timing master, of the standby and of the previous coordinator. -/
  coord : Option Nat
  gm : Option Nat
  standby : Option Nat
  prevCoord : Option Nat
  takeover : Bool
  /-- This node has announced that it leaves (R281). -/
  left : Bool
  /-- Own timing request outstanding: target MAC; switch pending: new master, cycle, and whether it answers this node's own
  request; lock-out from a cycle (R273 to R276). -/
  tmReq : Option Nat
  tmSwitch : Option (Nat × Nat × Bool)
  tmLock : Option Nat
  /-- Ring cycle of this node's last BEACON; SEQ, tick, and the first reflected return in µs of its last 256, newest first; the round
  trip in µs (R277). -/
  beaconAt : Nat
  beacons : List (Nat × Int × Option Nat)
  rtt : Nat
  /-- Port states of 802.1AS on ring ports: 0 disabled, 1 SlavePort, 2 MasterPort, 3 PassivePort (R270). -/
  portState : List Nat
  /-- Segments out of service (R282); the segment number between the two ends of a line, which no cable joins (R259); whether rolls came
  after the plan in effect, and the ring cycle of the last of them; and a re-roll that waits for rolls under way (R280, R286). -/
  segDown : List SegOut
  gap : Option Nat
  rolled : Bool
  rolledAt : Nat
  rerollDue : Bool
  /-- Last PROBE of the neighbour on each port: COORD MAC, POSITION, READY. -/
  probes : List (Option (Nat × Nat × Bool))
  /-- Tick, before 0 where a step of KS_COUNT put it there, at which each port's link came up; ticks of its drops of the last 60 s; tick of the last RING_SEGMENT_FLAP (R284). -/
  upAt : List Int
  drops : List (List Int)
  flapAt : Option Int
  /-- The step that the coordinator has granted, and the segments from which it awaits DONE or FAIL; the step that this node's own ports take part in, and those ports; the tick of
  the last DONE; and requests of this node's ports (R287, R288, R308). -/
  step : Option StepGo
  stepLeft : List Nat
  stepLocal : Option StepGo
  stepPorts : List Nat
  stepDoneAt : Option Int
  stepReq : List Bool
  /-- State code before sleep; the silence rules are suspended after a wake; the coordinator has yet to grant the step after it;
  outputs wait for the plan to be carried again (R292, R294). -/
  before : Nat
  quiet : Bool
  wakeStep : Bool
  wakeStart : Bool
  deriving DecidableEq, Repr
/-- Ring control at reset: ISOLATED; NONCE is a non-zero value drawn at each reset (R247, log entry 14). -/
def RctState.reset : RctState :=
  { cfg := none, nonce := 1 + Sys2Proof.Config.nonce 0 % 4294967295, seq := 0, seen := [], claims := [], claimSeq := 0, claimPorts := [], claimBack := [], eastHop := none,
    westHop := none, rollEast := none, rollWest := none, rollRing := none, building := false, head := 0, pos := none,
    reportDue := false, reported := false, reports := [], known := [], waiting := [], sendsLeft := 0, lastId := 0,
    epoch := none, conf := none, commit := none, commitSegs := [], coord := none, gm := none, standby := none, prevCoord := none,
    takeover := false, left := false, tmReq := none, tmSwitch := none, tmLock := none, beaconAt := 0, beacons := [],
    rtt := 0, portState := [0, 0], segDown := [], gap := none, rolled := false, rolledAt := 0, rerollDue := false, probes := [none, none], upAt := [0, 0], drops := [[], []],
    flapAt := none, step := none, stepLeft := [], stepLocal := none, stepPorts := [], stepDoneAt := none, stepReq := [false, false], before := 0,
    quiet := false, wakeStep := false, wakeStart := false }

/-- A frame held by a pause, on a port (R309). -/
structure HeldFrame where
  port : Nat
  bytes : List Byte
  deriving DecidableEq, Repr
/-- An AAF stream, 0 to 7 incoming and 8 to 15 outgoing (R312 to R316): the last or next sequence number, whether one
has been seen, the tick of the last frame, and the samples staged since the last frame, oldest tick first, by channel. -/
structure Aaf where
  seq : Nat
  seen : Bool
  lastTick : Option Nat
  staged : List (Nat × List (Nat × Int))
  /-- The 1722.1 peer it is connected to (R317). -/
  peer : Option Nat
  deriving DecidableEq, Repr
/-- A stream that has carried nothing. -/
def Aaf.reset : Aaf := ⟨0, false, none, [], none⟩
/-- The ports and the service bus (R296 to R331). -/
structure PortState where
  held : List HeldFrame
  /-- Within RECOVER_MS of a pause break, by port (R310). -/
  deaf : List Bool
  /-- Speed codes the link partner advertised, as a mask, by port (R306); whether a port has had its first link-up in its mode
  (R299); and the one speed that the branch port advertises while it renegotiates (R307). -/
  advert : List Nat
  linked : List Bool
  /-- The port's link has been up since reset, so that another speed is a change (R324). -/
  wasUp : List Bool
  branchOnly : Option Nat
  /-- Bytes that the branch port had sent at the last tick, for its low-power idle. -/
  branchSent : Nat
  /-- Wire bytes received and sent since reset by port, and their values at the last ten load updates (R304). -/
  wire : List (Nat × Nat)
  loads : List (List (Nat × Nat))
  /-- A snapshot is pending; a refused one shows LATE or MISSED in STATE beside it. -/
  snapOn : Bool
  /-- Target tick of the pending snapshot. -/
  snapTgt : Nat
  /-- The pending snapshot's SNAP_ID. -/
  snapId : Nat
  aaf : List Aaf
  /-- 1722.1: acquiring and locking controllers; registered controllers with their MAC addresses and the sequence number of the
  next notification; available_index (R317, R318). -/
  acquired : Option Nat
  locked : Option Nat
  notify : List (Nat × Nat × Nat)
  availIndex : Nat
  /-- A PLCA loss counted until the next beacon (R320), and the tick of the last carrier on the service bus. -/
  plcaLost : Bool
  sbusAt : Option Nat
  deriving DecidableEq, Repr
/-- The ports at reset. -/
def PortState.reset : PortState :=
  { held := [], deaf := [false, false, false], advert := [0, 0, 0], linked := [false, false, false], wasUp := [false, false, false],
    branchOnly := none, branchSent := 0, wire := [(0, 0), (0, 0), (0, 0)], loads := [[], [], []],
    snapOn := false, snapTgt := 0, snapId := 0, aaf := List.replicate 16 Aaf.reset, acquired := none, locked := none, notify := [],
    availIndex := 0, plcaLost := false, sbusAt := none }

/-- Time synchronisation (R42 to R48, R269 to R272): KS_COUNT is floor(t × fs) of the module's 802.1AS time t, so that no
clock is kept beside it. -/
structure TimeState where
  /-- Offset of the local tick edge from ring time in ns that the last Sync measured (R48), positive when the local edge is
  late. -/
  offsetNs : Int
  /-- The time follows a grandmaster other than the module itself. -/
  synced : Bool
  deriving DecidableEq, Repr
/-- Time at reset (R43). -/
def TimeState.reset : TimeState := ⟨0, false⟩

end Sys2Proof.Machine
end

