-- ==== Sys2Proof/Machine/StatePwr.lean ====
section
/-! DEFINITION. The state of the barrier link, the power stage, the boost converters, the protection models and the load
diagnostics, beside what their registers hold (R13 to R20, R332 to R401). -/
namespace Sys2Proof.Machine

/-- Who made a register request: a host, which waits for its result, the REGS course of a rebuild, or a diagnostic run (R117, R351). -/
inductive PwrWho where
  | host | course | run
  deriving DecidableEq, Repr
/-- A request across the barrier (R369). -/
structure PwrReq where
  write : Bool
  addr : Nat
  value : Word
  who : PwrWho
  deriving DecidableEq, Repr
/-- What an accepted DN frame leaves for the start of the next tick: samples of CH0 to CH7 (24-bit codes, none for a
channel without one), rail targets in 0.5 V, own starts and stops, and the requests it carried (R19, R20, R351, R369). -/
structure DnBox where
  samples : List (Option Int)
  targets : List Rat
  starts : Nat
  stops : Nat
  reqs : List PwrReq
  deriving DecidableEq, Repr
/-- A channel of the power stage (R332 to R368). -/
structure PwrCh where
  /-- Pending action: 0 none, 1 release, 2 mute; timed; its target, or the earliest tick of an untimed release (R349). -/
  act : Nat
  timed : Bool
  target : Nat
  /-- Due tick of a release that proceeds, until its edge (R346). -/
  edge : Option Nat
  /-- Due tick and length of the mute under way (R352). -/
  muteT : Nat
  muteM : Nat
  /-- Both legs are low-side on: the safe state, until the current has decayed (R353). -/
  low : Bool
  /-- Phases disconnected: bits 3 to 0 are A0, A1, B0, B1 (R364). -/
  out : Nat
  /-- Sample last applied and missing ticks since, for the grout of R16; the sample values applied after the mute
  weight, newest first. -/
  last : Int
  miss : Nat
  hist : List Rat
  /-- Loop state of R338: s, e1, e2, q1, q2, and m. -/
  ls : Rat
  le1 : Rat
  le2 : Rat
  lq1 : Rat
  lq2 : Rat
  m : Rat
  /-- Clip and current limit already met in this tick. -/
  clipped : Bool
  limited : Bool
  /-- Samples at 6.144 MHz since the start of the tick. -/
  sub : Nat
  deriving DecidableEq, Repr
/-- A channel of a power-control die that has just started. -/
def PwrCh.reset : PwrCh :=
  { act := 0, timed := false, target := 0, edge := none, muteT := 0, muteM := 96, low := false, out := 0, last := 0,
    miss := 34, hist := [], ls := 0, le1 := 0, le2 := 0, lq1 := 0, lq2 := 0, m := 0, clipped := false, limited := false, sub := 0 }
/-- A boost converter on the high-voltage side (R371 to R375): phases out (bits 2 to 0 are P0 to P2), stopped by BST_LOST
or BST_RAIL_OV, the target in force. -/
structure PwrBst where
  out : Nat
  stopped : Bool
  target : Rat
  deriving DecidableEq, Repr
/-- No sense data yet. -/
def Sense.zero : Sense := ⟨List.replicate 8 0, List.replicate 8 0, List.replicate 4 0, List.replicate 4 0, 0, List.replicate 4 0, List.replicate 4 0, 0⟩
/-- The barrier link and the power stage (R13 to R20, R332 to R370). -/
structure PwrState where
  /-- VDRV is past its release threshold: the power-control die runs (R583). -/
  on : Bool
  /-- VBUS has passed the start threshold (R578). -/
  vbusOn : Bool
  /-- A valid DN frame has been accepted since VDRV's release, or since the link was parked (R583, R562). -/
  dnSeen : Bool
  /-- A valid UP frame has been accepted since reset or since the parked condition ended (R17). -/
  upSeen : Bool
  /-- The link has left the parked condition and frames do not yet flow both ways (R562). -/
  fresh : Bool
  /-- Consecutive bad DN frames and UP frames, and consecutive valid UP frames while BAR_UP_LOST is ACTIVE. -/
  dnBad : Nat
  upBad : Nat
  upGood : Nat
  /-- An UP frame, good or bad, has come in this tick (R17). -/
  upDone : Bool
  /-- The DN link is lost (R16); the power-control die holds every channel safe until it is restored. -/
  dnLost : Bool
  /-- The DN frame of this tick has been sent. -/
  dnDone : Bool
  /-- The last DN frame was accepted, and the mask it carried. -/
  dnOk : Bool
  dnMask : Nat
  /-- SAFE_REQ as the power-control die sees it (R13, R14). -/
  safeReq : Bool
  /-- The samples and targets that the tail of this tick staged (R19, R20). -/
  stage : List (Option Int)
  targets : List Rat
  /-- The samples and targets that the DN frame of this tick carries: those staged in the tail of the tick before (R19). -/
  send : List (Option Int)
  sendT : List Rat
  /-- Own starts and stops for the next DN frame (R351). -/
  starts : Nat
  stops : Nat
  /-- Requests waiting for a DN frame, in issue order, and the accepted frame's contents until the next tick. -/
  reqs : List PwrReq
  box : Option DnBox
  /-- Results that the next UP frame returns: status and data (R369). -/
  results : List (Nat × Word)
  /-- Faults that the next UP frame reports: source, unit, 0 raise, 1 becomes ACTIVE, 2 ends, 3 a raise at a planted error (R56). -/
  faults : List (Nat × Nat × Nat)
  chans : List PwrCh
  bsts : List PwrBst
  sense : Sense
  /-- CAPSTONE sources that the power-control die holds (R15, R545). -/
  held : List Nat
  /-- Conditions of R368: VDRV low, and die pairs hot. -/
  vdrvLow : Bool
  hot : List Bool
  /-- Switching frequency settings that APPLY put into effect: MODE, SSC, SSC_RATE, RAMP, the f_sw it set in Hz, and a ramp under
  way: target Hz, start Hz, start tick (R358). -/
  swMode : Nat
  swSsc : Nat
  swRate : Nat
  swRampRate : Nat
  swHz : Nat
  swRamp : Option (Nat × Nat × Nat)
  /-- Derating factor of R603 and the baseplate temperature that set it. -/
  derate : Rat
  derateAt : Int
  deriving DecidableEq, Repr
/-- The link and the power stage at reset: the power-control die not yet released, no frame yet. -/
def PwrState.reset : PwrState :=
  { on := false, vbusOn := false, dnSeen := false, upSeen := false, fresh := false, dnBad := 0, upBad := 0, upGood := 0, upDone := false, dnLost := false,
    dnDone := false, dnOk := false, dnMask := 0, safeReq := false, stage := List.replicate 8 none, targets := [40, 40, 40, 40],
    send := List.replicate 8 none, sendT := [40, 40, 40, 40],
    starts := 0, stops := 0, reqs := [], box := none, results := [], faults := [], chans := List.replicate 8 PwrCh.reset,
    bsts := List.replicate 4 ⟨0, false, 40⟩, sense := Sense.zero, held := [], vdrvLow := false, hot := [false, false, false, false],
    swMode := 0, swSsc := 0, swRate := 1, swRampRate := 10, swHz := 2160000, swRamp := none, derate := 1, derateAt := 0 }

/-- A second-order section in direct form, as the resistance measurement filters a signal (R385): its last two inputs and outputs,
newest first. -/
structure Biquad where
  x1 : Rat
  x2 : Rat
  y1 : Rat
  y2 : Rat
  deriving DecidableEq, Repr
/-- A section at rest. -/
def Biquad.reset : Biquad := ⟨0, 0, 0, 0⟩
/-- The models of a channel on the logic side (R376 to R389). Temperatures in °C, gain and integrator in dB. -/
structure BstCh where
  tc : Rat
  tp : Rat
  ta : Rat
  g : Rat
  overdrive : Rat
  /-- TH_EN as the last update of the model took it (R390). -/
  thOn : Bool
  /-- The band-pass filters of v and i, and Σ v·i, Σ i² and the count of the filtered values since the last measurement (R385). -/
  bpV : Biquad
  bpI : Biquad
  rVi : Rat
  rIi : Rat
  rN : Nat
  /-- Sum of i² in A² and UP frames since the last update (R384). -/
  isum : Rat
  icnt : Nat
  /-- Milliseconds that g has stood at −40 dB with Tc above TL (R387). -/
  floorMs : Nat
  /-- UP-frame voltages of the last 10 ms in mV, newest first; DC count; sign of the last mean (R389). -/
  vhist : List Int
  dc : Nat
  dcNeg : Bool
  /-- Needs of the last 65,536 ticks in 0.5 V, newest first (R378). -/
  needs : List Nat
  /-- In fallback, and ticks for which the lookahead has sufficed (R381). -/
  fallback : Bool
  okTicks : Nat
  deriving DecidableEq, Repr
/-- The models at a cold initialisation: every node at ambient 35 °C, gain 0 (R388). -/
def BstCh.reset : BstCh :=
  { tc := 35, tp := 35, ta := 35, g := 0, overdrive := 0, thOn := false, bpV := Biquad.reset, bpI := Biquad.reset, rVi := 0, rIi := 0, rN := 0, isum := 0, icnt := 0, floorMs := 0, vhist := [], dc := 0, dcNeg := false,
    needs := [], fallback := false, okTicks := 0 }
/-- A measured impedance: whether it was measured, whether it is infinite (no load current), its real and imaginary part
in ohms, and its frequency (R394). -/
structure ZMeas where
  ok : Bool
  inf : Bool
  re : Rat
  im : Rat
  freq : Rat
  deriving DecidableEq, Repr
/-- Step of a diagnostic run (R393, R398). -/
inductive DiagStep where
  | idle | background | starting | dwell (k : Nat) | measure | muting
  deriving DecidableEq, Repr
/-- A load diagnostic run (R392 to R400). -/
structure DiagState where
  step : DiagStep
  mode : Nat
  /-- Channels left to test, the one under test first. -/
  chans : List Nat
  /-- Channels that the run started, as a mask. -/
  started : Nat
  /-- The channel under test went to the safe state, or was not LIVE in time. -/
  faulted : Bool
  /-- Depth of the fade of R393 in 32nds: it rises to 32 while a run lasts and falls to 0 after it. -/
  fade : Nat
  /-- The same of each power-stage output at its endpoint, which stays up while its channel is under test (R393, R398). -/
  outFade : List Nat
  /-- Ticks of the present dwell; its sense samples (v, i) after the first quarter, newest first. -/
  ticks : Nat
  samples : List (Int × Int)
  meas : List ZMeas
  /-- A verdict other than PASS has been formed in this run. -/
  bad : Bool
  /-- Samples of the microphone's ADC channel since the present measurement began, newest first (R398). -/
  mic : List Int
  deriving DecidableEq, Repr
/-- No run. -/
def DiagState.reset : DiagState := ⟨.idle, 0, [], 0, false, 0, List.replicate 8 0, 0, [], [], false, []⟩
/-- The BST block's state (R371 to R401). -/
structure BstState where
  chans : List BstCh
  /-- Demand of each channel at this tick in 0.5 V, as the head formed it (R378). -/
  demand : List Nat
  /-- Target of each converter sent last, in V (R380). -/
  targets : List Rat
  diag : DiagState
  deriving DecidableEq, Repr
/-- The BST block at reset. -/
def BstState.reset : BstState := ⟨List.replicate 8 BstCh.reset, List.replicate 8 0, [40, 40, 40, 40], DiagState.reset⟩

end Sys2Proof.Machine
end

