-- ==== Sys2Proof/Machine/State.lean ====
section
/-! DEFINITION. The state of the module: every unit's structure, the register file, the memories, the frames sent to
the outside, and the queue of waiting commands; and the state after reset. -/
namespace Sys2Proof.Machine

/-- A frame or message that the module has sent: port 0 ring A, 1 ring B, 2 branch, 3 service bus. -/
structure Emission where
  port : Nat
  bytes : List Byte
  deriving DecidableEq, Repr
/-- The state of the module. -/
structure State where
  ks : KsState
  img : ImgState
  eng : EngState
  mix : MixState
  ovr : OvrState
  flt : FltState
  ten : TenState
  host : HostState
  dom : DomState
  rdp : RdpState
  rct : RctState
  time : TimeState
  port : PortState
  pwr : PwrState
  bst : BstState
  ana : AnaState
  aes : AesState
  sap : List SapPort
  aux : List AuxCh
  clk : ClkState
  mem : MemState
  /-- Aux channels that a HALT or CAPSTONE raise sends to RECOVERY at their next update (R451). -/
  auxRec : List Bool
  /-- The register file: words that differ from their reset value, by address, a tenancy's own copy at
  tenancy × 2^32 + address (R6, R9). -/
  regs : KMap Word
  /-- Frames sent, oldest first. -/
  emitted : List Emission
  /-- The model's own counter of free values used (log entry 2). -/
  free : Nat
  /-- The commands that wait, first in, first out. -/
  pending : List Instr
  deriving DecidableEq, Repr
/-- The module right after reset, as the spec gives it; what it leaves open is named in the assumption log. -/
def State.reset : State :=
  { ks := KsState.reset, img := ImgState.reset, eng := EngState.reset, mix := MixState.reset, ovr := OvrState.reset,
    flt := FltState.reset, ten := TenState.reset, host := HostState.reset, dom := DomState.reset, rdp := RdpState.reset,
    rct := RctState.reset, time := TimeState.reset, port := PortState.reset,
    pwr := PwrState.reset, bst := BstState.reset, ana := AnaState.reset, aes := AesState.reset,
    sap := List.replicate 3 SapPort.reset, aux := List.replicate 4 AuxCh.reset, clk := ClkState.reset,
    mem := MemState.reset, auxRec := [false, false, false, false], regs := [], emitted := [], free := 0, pending := [] }

/-- Why the machine stops with a fault: no command of this block does, so the type has one constructor that no meaning
answers with; a step on it would be safe, since nothing goes on. -/
inductive Fault where
  /-- Raised by no meaning. Safe. -/
  | none
  deriving DecidableEq, Repr
/-- Why the machine refuses a command. -/
inductive Refusal where
  /-- The command has no meaning in the model yet; answered by the dispatch alone. Safe: the run stops. -/
  | notModelled (mnemonic : String)
  deriving DecidableEq, Repr

end Sys2Proof.Machine
end

