-- ==== Sys2Proof/Machine/Ops.lean ====
section
/-! DEFINITION. The named operations over the state: registers and fields, interrupt bits, memories with their check
bits, fault raises, and the questions that every unit asks of the image and the outputs. -/
namespace Sys2Proof.Machine
open Sys2Proof

/-! ## Registers -/

/-- The key of a register in the register file. -/
def Fld.key (f : Fld) (i j t : Nat) : Nat := f.addr + f.s1 * i + f.s2 * j + (if f.own then t * 2 ^ 32 else 0)
/-- The reset word of a register; MIX_VIEW and MIX_SWAP_CTRL reset to the tenancy's own number, and CLK_P2_CFG to the
system PLL's bandwidth. -/
def Fld.resetWord (f : Fld) (i t : Nat) : Word :=
  BitVec.ofNat 32 (if f.addr = 0x70000 then t else if f.addr = 0x70004 then t * 256
    else if f.addr = 0xE0100 ∧ i = 2 then 0x1403 else f.reset)
/-- The stored word of a register. -/
def State.word (s : State) (f : Fld) (i : Nat := 0) (j : Nat := 0) (t : Nat := 0) : Word :=
  KMap.get (fun _ => f.resetWord i t) s.regs (f.key i j t)
/-- The register file with a word replaced. -/
def State.setWord (s : State) (f : Fld) (v : Word) (i : Nat := 0) (j : Nat := 0) (t : Nat := 0) : State :=
  { s with regs := KMap.put (fun _ => f.resetWord i t) s.regs (f.key i j t) v }
/-- The value of a field. -/
def State.get (s : State) (f : Fld) (i : Nat := 0) (j : Nat := 0) (t : Nat := 0) : Nat :=
  bitsOf (s.word f i j t).toNat f.hi f.lo
/-- Whether a one-bit field is 1. -/
def State.is (s : State) (f : Fld) (i : Nat := 0) (j : Nat := 0) (t : Nat := 0) : Bool := s.get f i j t == 1
/-- The state with a field replaced. -/
def State.set (s : State) (f : Fld) (v : Nat) (i : Nat := 0) (j : Nat := 0) (t : Nat := 0) : State :=
  s.setWord f (BitVec.ofNat 32 (putBits (s.word f i j t).toNat f.hi f.lo v)) i j t
/-- The state with a one-bit field set or cleared. -/
def State.setB (s : State) (f : Fld) (b : Bool) (i : Nat := 0) (j : Nat := 0) (t : Nat := 0) : State := s.set f (b2n b) i j t
/-- A field counted up, holding at its largest value. -/
def State.inc (s : State) (f : Fld) (i : Nat := 0) (j : Nat := 0) (t : Nat := 0) : State :=
  s.set f (satInc (2 ^ (f.hi + 1 - f.lo) - 1) (s.get f i j t)) i j t
/-- A field counted up by `k`, holding at its largest value. -/
def State.incBy (s : State) (f : Fld) (k : Nat) (i : Nat := 0) (j : Nat := 0) (t : Nat := 0) : State :=
  s.set f (satAdd (2 ^ (f.hi + 1 - f.lo) - 1) (s.get f i j t) k) i j t
/-- A 64-bit value in a pair of registers. -/
def State.get64 (s : State) (lo hi : Fld) (i : Nat := 0) (t : Nat := 0) : Nat := s.get lo i 0 t + 2 ^ 32 * s.get hi i 0 t
/-- A pair of registers set to a 64-bit value. -/
def State.set64 (s : State) (lo hi : Fld) (v : Nat) (i : Nat := 0) (t : Nat := 0) : State :=
  (s.set lo (v % 2 ^ 32) i 0 t).set hi (v / 2 ^ 32) i 0 t
/-- A fold over the numbers below `n`. -/
def State.forN (s : State) (n : Nat) (f : State → Nat → State) : State := (List.range n).foldl f s

/-! ## Interrupts -/

/-- The interrupt status and enable registers of the blocks of TEN_IRQ_PEND, by bit (R494). -/
def irqRegs : List (Nat × Fld × Fld) := [
  (0, Reg.KS_INT_STATUS, Reg.KS_INT_EN), (1, Reg.IMG_INT_STATUS, Reg.IMG_INT_EN), (2, Reg.ENG_INT_STATUS, Reg.ENG_INT_EN),
  (3, Reg.MIX_INT_STATUS, Reg.MIX_INT_EN), (4, Reg.RING_DP_INT_STATUS, Reg.RING_DP_INT_EN),
  (4, Reg.RING_CTL_INT_STATUS, Reg.RING_CTL_INT_EN), (5, Reg.PORT_INT_STATUS, Reg.PORT_INT_EN),
  (6, Reg.SBUS_INT_STATUS, Reg.SBUS_INT_EN), (7, Reg.SAP_INT_STATUS, Reg.SAP_INT_EN), (8, Reg.ANA_INT_STATUS, Reg.ANA_INT_EN),
  (9, Reg.AUX_INT_STATUS, Reg.AUX_INT_EN), (10, Reg.CLK_INT_STATUS, Reg.CLK_INT_EN), (11, Reg.PWR_INT_STATUS, Reg.PWR_INT_EN),
  (12, Reg.BST_INT_STATUS, Reg.BST_INT_EN), (13, Reg.TEN_INT_STATUS, Reg.TEN_INT_EN), (14, Reg.FLT_INT_STATUS, Reg.FLT_INT_EN),
  (15, Reg.DOM_INT_STATUS, Reg.DOM_INT_EN)]
/-- TEN_IRQ_PEND (R494). -/
def State.irqPend (s : State) : Nat :=
  maskOf ((irqRegs.filter (fun r => (s.word r.2.1 &&& s.word r.2.2) ≠ 0#32)).map (·.1)) 16
/-- The blocks with any status bit set, enabled or not (R502). -/
def State.irqRaw (s : State) : Nat := maskOf ((irqRegs.filter (fun r => s.word r.2.1 ≠ 0#32)).map (·.1)) 16
/-- The IRQ_N pin is driven low (R494). -/
def State.irqPin (s : State) : Bool := s.irqPend ≠ 0
/-- An interrupt status bit set; a rise of the block's pending bit is gathered by every subscription (R502). -/
def State.int (s : State) (f : Fld) (b : Nat := 0) : State :=
  let raw := s.irqRaw
  let w := s.word f
  let s := s.setWord f (BitVec.ofNat 32 (putBits w.toNat (f.lo + b) (f.lo + b) 1))
  let rose := maskOf ((List.range 16).filter (fun k => bit s.irqRaw k && !bit raw k)) 16
  if rose = 0 then s
  else { s with ten := { s.ten with subs := s.ten.subs.map (fun u => { u with rose := u.rose ||| (rose &&& u.mask) }) } }

/-! ## Free values and frames -/

/-- The next free-value number, and the state that has used it. -/
def State.fresh (s : State) : Nat × State := (s.free, { s with free := s.free + 1 })
/-- A frame sent. -/
def State.emit (s : State) (port : Nat) (bytes : List Byte) : State := { s with emitted := s.emitted ++ [⟨port, bytes⟩] }

/-! ## Memories -/

/-- What a byte that no entry lists reads as (log entry 6). -/
def memDflt : Nat → Byte := fun _ => 0#8
/-- A byte of a memory. -/
def Mem.rd (m : List Host.Cell) (a : Nat) : Byte := KMap.get memDflt m a
/-- A memory with a byte written. -/
def Mem.wr (m : List Host.Cell) (a : Nat) (v : Byte) : List Host.Cell := KMap.put memDflt m a v
/-- The canonical form of a memory. -/
def Mem.wf (m : List Host.Cell) : Bool := KMap.wf memDflt m
/-- `n` bytes from an address. -/
def Mem.rdN (m : List Host.Cell) (a n : Nat) : List Byte := (List.range n).map (fun k => Mem.rd m (a + k))
/-- A memory with bytes written from an address. -/
def Mem.wrN (m : List Host.Cell) (a : Nat) : List Byte → List Host.Cell
  | [] => m
  | b :: bs => Mem.wrN (Mem.wr m a b) (a + 1) bs
/-- A little-endian word of a memory. -/
def Mem.word (m : List Host.Cell) (a : Nat) : Word := BitVec.ofNat 32 (leVal (Mem.rdN m a 4))
/-- A memory with a little-endian word written. -/
def Mem.setWord (m : List Host.Cell) (a : Nat) (v : Word) : List Host.Cell := Mem.wrN m a (leBytes 4 v.toNat)
/-- A memory with an address range cleared. -/
def Mem.clear (m : List Host.Cell) (a n : Nat) : List Host.Cell := KMap.dropKeys (fun k => decide (a ≤ k) && decide (k < a + n)) m
/-- The error mark of the 8-byte word that holds an address, in memory `k`. -/
def State.eccAt (s : State) (k a : Nat) : Option EccMark := s.mem.ecc.find? (fun e => e.mem = k && e.addr = a / 8 * 8)
/-- The state with the error of a word removed. -/
def State.eccDrop (s : State) (k a : Nat) : State :=
  { s with mem := { s.mem with ecc := s.mem.ecc.filter (fun e => !(e.mem = k && e.addr = a / 8 * 8)) } }
/-- A write to the words of memory `k` clears their errors (R132, R532), and an armed injection on one of them plants
its error instead (R553). `st` is the stone for memory 0. -/
def State.eccWrite (s : State) (k a n : Nat) : State :=
  let ws := (List.range (if n = 0 then 0 else (a + n - 1) / 8 - a / 8 + 1)).map (fun j => (a / 8 + j) * 8)
  let s := ws.foldl (fun s w => s.eccDrop k w) s
  match s.flt.inj with
  | some x =>
    if x.target = k && ws.contains x.addr then
      ({ s with mem := { s.mem with ecc := ⟨k, x.addr, decide (x.mode ≠ 1), true⟩ :: s.mem.ecc }, flt := { s.flt with inj := none } } : State).set
        Reg.FLT_INJ_STATE 2
    else s
  | none => s

/-- An armed injection on a frame of target `tgt` (4 to 7) is planted; answers whether the frame is spoiled. -/
def State.injFrame (s : State) (tgt unit : Nat) : State × Bool :=
  match s.flt.inj with
  | some x =>
    if x.target = tgt && (tgt ≠ 6 || x.unit = unit) then
      (({ s with flt := { s.flt with inj := none } } : State).set Reg.FLT_INJ_STATE 2, true)
    else (s, false)
  | none => (s, false)
/-- Whether every byte of a range of tenancy 0's pool lies in its runtime allocations; `n` allocations are followed. -/
def State.dram0Covered (s : State) : Nat → Nat → Nat → Bool
  | 0, _, _ => false
  | n + 1, lo, hi =>
    match s.ten.allocs.find? (fun x => x.ten = 0 && decide (x.offMib * 2 ^ 20 ≤ lo) && decide (lo < (x.offMib + x.sizeMib) * 2 ^ 20)) with
    | some x => decide (hi ≤ (x.offMib + x.sizeMib) * 2 ^ 20) || s.dram0Covered n ((x.offMib + x.sizeMib) * 2 ^ 20) hi
    | none => false

/-! ## The image, the rate and the outputs -/

/-- The base rate code in effect (R41). -/
def State.rate (s : State) : Nat := s.get Reg.KS_STATUS_RATE
/-- Ticks per ring cycle N. -/
def State.nTicks (s : State) : Nat := rateN s.rate
/-- The stage of IMG_STATUS. -/
def State.stage (s : State) : Nat := s.get Reg.IMG_STATUS_STAGE
/-- The image whose partition and base rate govern: from the start of a rebuild the new one, else the active one (R117). -/
def State.partIm (s : State) : Option Image := if s.stage = 4 then s.img.staged else s.img.active
/-- The base rate against which a setting is judged: during a rebuild, that of the new image (R94, R314, R433). -/
def State.courseRate (s : State) : Nat :=
  if s.stage = 4 then (match s.img.staged with
    | some im => im.rate
    | none => s.rate) else s.rate
/-- Whether a predicate holds of the active image. -/
def State.imgHas (s : State) (p : Image → Bool) : Bool :=
  match s.img.active with
  | some im => p im
  | none => false
/-- The channel state of CHn (R26). -/
def State.ch (s : State) (n : Nat) : Nat := s.get Reg.PWR_CHn_STATE_STATE n
/-- The state of analog output n (R27). -/
def State.anaSt (s : State) (n : Nat) : Nat := s.get Reg.ANA_OUTn_STAT_STATE n
/-- Some power-stage channel is ARMED, LIVE or MUTING, or some analog output is LIVE (R44). -/
def State.outputsActive (s : State) : Bool :=
  (List.range 8).any (fun n => decide (2 ≤ s.ch n)) || (List.range 4).any (fun n => s.anaSt n = 3)
/-- Output channels of an image: power-stage channels and analog outputs served, as OUT_MASK. -/
def Image.served (im : Image) : Nat :=
  maskOf ((im.insts.filter (fun i => i.kind = 0x41 && (i.port = 0x0A || i.port = 0x09))).flatMap (fun i =>
    (List.range i.chans).map (fun k => i.first + k + (if i.port = 0x09 then 8 else 0)))) 12
/-- The outputs whose endpoint has FLAGS.START, as OUT_MASK. -/
def Image.startMask (im : Image) : Nat :=
  maskOf ((im.insts.filter (fun i => i.kind = 0x41 && i.start && (i.port = 0x0A || i.port = 0x09))).flatMap (fun i =>
    (List.range i.chans).map (fun k => i.first + k + (if i.port = 0x09 then 8 else 0)))) 12
/-- The outputs the active image serves. -/
def State.served (s : State) : Nat :=
  match s.img.active with
  | some im => im.served
  | none => 0

/-! ## Raising a fault (R528 to R535) -/

/-- Scope of a source (R534). -/
inductive Scope where
  | all | pwr | ch | pair | ana
  deriving DecidableEq, Repr
/-- The source table: number, default class, scope (R531). -/
def sourceTable : List (Nat × Nat × Scope) := [
  (0x00, 3, .all), (0x01, 3, .all), (0x02, 3, .all), (0x03, 2, .all), (0x04, 2, .all), (0x05, 2, .all), (0x10, 1, .all),
  (0x11, 1, .all), (0x12, 0, .all), (0x13, 2, .all), (0x14, 0, .all), (0x15, 2, .all), (0x16, 0, .all), (0x17, 1, .all),
  (0x18, 0, .all), (0x19, 1, .all), (0x1A, 0, .all), (0x1B, 0, .all)] ++ [
  (0x20, 0, .all), (0x21, 2, .pwr), (0x22, 0, .all), (0x23, 2, .pwr), (0x24, 1, .ch), (0x25, 2, .ch), (0x26, 2, .ch),
  (0x27, 0, .ch), (0x28, 0, .ch), (0x29, 1, .pwr), (0x2A, 2, .pwr), (0x2B, 2, .pwr), (0x2C, 2, .pair), (0x2D, 0, .ch),
  (0x2E, 1, .pwr), (0x30, 1, .pair), (0x31, 2, .pair), (0x32, 2, .pair), (0x33, 0, .pair), (0x34, 0, .pair),
  (0x35, 0, .pair), (0x36, 0, .ch), (0x37, 2, .ch), (0x38, 2, .ch), (0x39, 0, .ch), (0x3A, 0, .ch)] ++ [
  (0x40, 0, .all), (0x41, 0, .all), (0x42, 1, .all), (0x43, 1, .all), (0x44, 1, .all), (0x45, 0, .all), (0x46, 1, .all),
  (0x47, 1, .all), (0x48, 1, .all), (0x50, 0, .all), (0x51, 0, .all), (0x52, 0, .all), (0x60, 0, .ana), (0x61, 2, .ana),
  (0x62, 0, .all), (0x63, 0, .all), (0x64, 0, .all), (0x65, 0, .all), (0x66, 1, .all), (0x70, 1, .all), (0x71, 1, .all),
  (0x72, 1, .pwr), (0x73, 2, .all), (0x74, 2, .all)] ++ [
  (0x80, 0, .all), (0x81, 0, .all), (0x82, 1, .all), (0x83, 1, .all), (0x84, 0, .all), (0x85, 2, .pwr)]
/-- The row of a source; unused numbers have none. -/
def sourceRow (n : Nat) : Option (Nat × Nat × Scope) := sourceTable.find? (fun r => r.1 = n)
/-- The default class of a source (R529). -/
def sourceDefault (n : Nat) : Nat :=
  match sourceRow n with
  | some r => r.2.1
  | none => 0
/-- The class a source has now (R529). -/
def State.srcClass (s : State) (n : Nat) : Nat := KMap.get sourceDefault s.flt.cls n
/-- The power channels of a scope. -/
def Scope.chMask (sc : Scope) (unit : Nat) : Nat :=
  match sc with
  | .all => 255
  | .pwr => 255
  | .ch => 2 ^ unit % 256
  | .pair => 3 * 4 ^ unit % 256
  | .ana => 0
/-- The analog outputs of a scope. -/
def Scope.anaMask (sc : Scope) : Nat :=
  match sc with
  | .all => 15
  | .ana => 15
  | _ => 0
/-- Analog outputs of a mask that are LIVE go to HELD without a ramp, and what their interpolators hold is dropped, so that
the pins are at 0 V (R27, R32). -/
def State.holdAnalog (s : State) (mask : Nat) : State :=
  s.forN 4 (fun s n => if bit mask n && s.anaSt n = 3 then
    let s : State := { s with ana := { s.ana with out := modNth s.ana.out n (fun c => { c with line := [] }) } }
    ((s.set Reg.ANA_OUTn_STAT_STATE 1 n).set Reg.ANA_OUTn_STAT_RAMP 0 n).int Reg.ANA_INT_STATUS_OUT_STATE else s)
/-- A freeze of the recorder (R202): from RUN it enters POST for POST ticks. -/
def State.recFreeze (s : State) : State :=
  if s.get Reg.MIX_REC_STATUS_STATE = 1 then
    ({ s with mix := { s.mix with post := s.get Reg.MIX_REC_CTRL_POST } } : State).set Reg.MIX_REC_STATUS_STATE 2
  else s
/-- A record added to the fleet log by the running service cores (R501, R551). -/
def State.log (s : State) (kind source : Nat) (data : List Byte) : State :=
  if s.host.fwRun then
    let ns := s.ks.count * 1000000000 / rateHz s.rate
    let i := s.ten.logNext
    let d := data ++ (List.range (40 - data.length)).map (fun k => Config.logData i (data.length + k))
    let r : LogRec := ⟨i, s.ks.count, ns, Config.logKind kind, source, d⟩
    let l := s.ten.log ++ [r]
    { s with ten := { s.ten with log := l.drop (l.length - 1048576), logNext := (i + 1) % 2 ^ 32 } }
  else s
/-- The words of a history entry (R547). -/
def HistEntry.words (e : HistEntry) : List Word := [
  BitVec.ofNat 32 e.tick, BitVec.ofNat 32 (e.tick / 2 ^ 32),
  BitVec.ofNat 32 (2 ^ 31 + e.cls * 2 ^ 29 + e.kind * 2 ^ 27 + b2n e.hv * 2 ^ 26 + e.source * 2 ^ 16 + e.cycle % 2 ^ 15),
  BitVec.ofNat 32 e.data]
/-- Whether the first of two lists of keys does not come after the second. -/
def keysLe : List Nat → List Nat → Bool
  | x :: l, y :: m => decide (x < y) || (x = y && keysLe l m)
  | _, _ => true
/-- The keys of R548: tick, CYCLE, source and unit; entries equal in these keep the order of their events. -/
def HistEntry.keys (e : HistEntry) : List Nat := [e.tick, e.cycle, e.source, e.data % 65536, e.seq]
/-- Whether an entry stands before another (R548). -/
def HistEntry.before (a b : HistEntry) : Bool := keysLe a.keys b.keys
/-- An entry put at its place (R548). -/
def histInsert (e : HistEntry) (l : List HistEntry) : List HistEntry :=
  l.filter (fun x => x.before e) ++ [e] ++ l.filter (fun x => !x.before e)
/-- An entry queued and written to the fleet log; a full queue loses its oldest, a frozen one takes no entry (R549, R551, R552). -/
def State.histPush (s : State) (e : HistEntry) : State :=
  let lose (s : State) := (s.inc Reg.FLT_HIST_STAT_LOST).int Reg.FLT_INT_STATUS_HIST_LOST
  if s.flt.frozen then lose s
  else
    let s := s.log 0 e.source ((e.words.map (fun w => leBytes 4 w.toNat)).flatten)
    let l := histInsert e s.flt.hist
    if 32 < l.length then lose { s with flt := { s.flt with hist := l.drop 1 } }
    else { s with flt := { s.flt with hist := l } }
/-- The frozen queue copied to the footing memory (R552, R563). -/
def State.freezeHist (s : State) : State :=
  let bytes := (s.flt.hist.flatMap (fun e => (e.words.map (fun w => leBytes 4 w.toNat)).flatten)).take 512
  ({ s with flt := { s.flt with frozen := true }, mem := { s.mem with foot := Mem.wrN s.mem.foot 0xF400 bytes } } : State).eccWrite 3 0xF400 bytes.length
/-- A raise of a source for a unit, with the detail of DATA[31:16] (R533). `cyc` is the engine cycle where the event is
tied to the schedule; otherwise the stamp is a free value below the cycles of the tick, and 0 on the high-voltage side
(R56). -/
def State.raise (s : State) (src unit : Nat) (detail : Nat := 0) (cyc : Option Nat := none) (hv : Bool := false)
    (inj : Bool := false) : State :=
  match sourceRow src with
  | none => s
  | some row =>
    let cls := s.srcClass src
    let k := s.free
    let cycle := if hv then 0 else match cyc with
      | some c => c
      | none => Config.asyncCycle k % rateCycles s.rate
    let s : State := { s with free := s.free + 1 }
    let s := if s.flt.counted.contains src then s
      else ({ s with flt := { s.flt with counted := src :: s.flt.counted } } : State).inc Reg.FLT_SRCn_COUNT src
    let entry : HistEntry := ⟨s.ks.count, cycle, cls, b2n inj, hv, src, unit % 65536 + detail * 65536, s.flt.seq⟩
    let s := if s.flt.entered.contains (src, unit) then s
      else ({ s with flt := { s.flt with entered := (src, unit) :: s.flt.entered } } : State).histPush entry
    let s := s.int Reg.FLT_INT_STATUS cls
    if cls < 2 then s
    else
      let ch := if cls = 3 then 255 else row.2.2.chMask unit
      let an := if cls = 3 then 15 else row.2.2.anaMask
      let s : State := { s with flt := { s.flt with
        raises := s.flt.raises.filter (fun r => !(r.source = src && r.unit = unit)) ++ [⟨src, cls, unit, ch, an, s.ks.count⟩],
        first := if s.flt.firstOpen then some entry else s.flt.first, firstOpen := false, capstone := s.flt.capstone || cls = 3 } }
      let s := s.holdAnalog an
      let s := if s.is Reg.MIX_REC_CTRL_ON_HALT then s.recFreeze else s
      let s : State := { s with auxRec := s.auxRec.map (fun _ => true) }
      if cls = 3 ∧ !s.flt.frozen then s.freezeHist else s
/-- A raise that begins an event of its own, after which the order of R548 starts afresh. -/
def State.event (s : State) : State := { s with flt := { s.flt with seq := s.flt.seq + 1 } }
/-- A source becomes ACTIVE for a unit, and is raised (R540). -/
def State.raiseActive (s : State) (src unit : Nat) (detail : Nat := 0) (cyc : Option Nat := none) (hv : Bool := false) : State :=
  let s := s.raise src unit detail cyc hv
  { s with flt := { s.flt with active := s.flt.active.filter (fun a => !(a.1 = src && a.2.1 = unit)) ++ [(src, unit, s.srcClass src)] } }
/-- The condition of a source ends for a unit (R540). -/
def State.endActive (s : State) (src unit : Nat) : State :=
  { s with flt := { s.flt with active := s.flt.active.filter (fun a => !(a.1 = src && a.2.1 = unit)) } }
/-- Whether a source is ACTIVE for any unit. -/
def State.isActive (s : State) (src : Nat) : Bool := s.flt.active.any (fun a => a.1 = src)
/-- Whether a source is ACTIVE for a unit. -/
def State.isActiveU (s : State) (src unit : Nat) : Bool := s.flt.active.any (fun a => a.1 = src && a.2.1 = unit)
/-- A load fault declared on a channel (R541). -/
def State.loadFault (s : State) (src ch : Nat) : State :=
  { s with flt := { s.flt with loads := s.flt.loads.filter (fun l => !(l.1 = src && l.2.1 = ch)) ++ [(src, ch, s.srcClass src, s.ks.count)] } }
/-- Channels with an uncleared load fault, as a mask (R541). -/
def State.loadMask (s : State) : Nat := maskOf (s.flt.loads.map (·.2.1)) 8
/-- Channels that own reactions hold in SAFE_MASK while their condition is ACTIVE (R535). -/
def State.ownMask (s : State) : Nat := if s.flt.ownUp || s.flt.ownVl5 || s.flt.ownHot || s.flt.ownExt then 255 else 0
/-- SAFE_MASK as the DN frame of the tick carries it: raises and load faults of earlier ticks, and own reactions (R535). -/
def State.safeMask (s : State) : Nat :=
  ((s.flt.raises.filter (fun r => decide (r.tick < s.ks.count))).foldl (fun a r => a ||| r.chMask) 0) |||
    maskOf ((s.flt.loads.filter (fun l => decide (l.2.2.2 < s.ks.count))).map (·.2.1)) 8 ||| s.ownMask
/-- Channels covered by an uncleared HALT or CAPSTONE raise (FLT_STATUS.HALT_CH). -/
def State.haltCh (s : State) : Nat := s.flt.raises.foldl (fun a r => a ||| r.chMask) 0
/-- Analog outputs covered by an uncleared HALT or CAPSTONE raise. -/
def State.haltAna (s : State) : Nat := s.flt.raises.foldl (fun a r => a ||| r.anaMask) 0
/-- Analog outputs on which START is barred: covered by a raise, or held by FLT_VL5_LOW or FLT_LOGIC_HOT (R532, R533). -/
def State.anaBar (s : State) : Nat := s.haltAna ||| (if s.flt.ownVl5 || s.flt.ownHot then 15 else 0)
/-- Channels on which ARM and RELEASE are barred (R533, R541). -/
def State.chBar (s : State) : Nat := s.haltCh ||| s.loadMask ||| s.ownMask
/-- The ACTIVE sources with their class: those whose condition lasts, and those raised in this tick, since an event's source is not
ACTIVE after its tick (R540; DEDUCED, log entry 62). -/
def State.actives (s : State) : List (Nat × Nat) :=
  s.flt.active.map (fun a => (a.1, a.2.2)) ++ s.flt.entered.map (fun e => (e.1, s.srcClass e.1))
/-- Whether this module drives FAULT_N low (R538). -/
def State.fnDrive (s : State) : Bool :=
  let fc := s.get Reg.FLT_CFG_FN_CLASS
  s.flt.capstone || s.flt.raises.any (fun r => decide (fc ≤ r.cls) && r.source ≠ 5) ||
    s.actives.any (fun a => decide (fc ≤ a.2) && decide (a.2 < 2) && a.1 ≠ 5) ||
    s.flt.loads.any (fun l => decide (fc ≤ l.2.2.1))
/-- Every channel that R391 or an own reaction forces: no HALT raise is uncleared and no CAPSTONE has occurred. -/
def State.haltFree (s : State) : Bool := s.flt.raises.all (fun r => decide (r.cls < 2)) && !s.flt.capstone

/-! ## Reads with check bits (R132, R532, R553) -/

/-- An injection's planted error has been reported (R553). -/
def State.injReport (s : State) : State := (s.set Reg.FLT_INJ_STATE 3).int Reg.FLT_INT_STATUS_INJ_FOUND
/-- The record of a stone's memory error: counter, last error and interrupt bit (R132). -/
def State.stoneEcc (s : State) (addr : Nat) (dbl : Bool) : State :=
  let s := s.setWord Reg.ENG_ECC_LAST (BitVec.ofNat 32 (b2n dbl * 2 ^ 31 + addr / 262144 * 2 ^ 24 + addr % 262144))
  if dbl then s.int Reg.ENG_INT_STATUS_ECC_DOUBLE else (s.inc Reg.ENG_ECC_CORR).int Reg.ENG_INT_STATUS_ECC_CORR
/-- The source of an error in memory `k`, and the unit it names: the stone for stone memory, else 0 (R531). -/
def eccSource (k : Nat) (dbl : Bool) : Nat := (if k = 0 then 0x12 else 0x14 + 2 * (k - 1)) + b2n dbl
/-- One error met by a read: the raise, the stone's records, and the injection it belongs to. A single-bit error is corrected and not
met again; an uncorrectable one stays in its word (R132, R532). -/
def State.eccMeet (s : State) (e : EccMark) (cyc : Option Nat) : State :=
  let s := s.raise (eccSource e.mem e.dbl) (if e.mem = 0 then e.addr / 262144 else 0) 0 cyc false e.inj
  let s := if e.mem = 0 then s.stoneEcc e.addr e.dbl else s
  let left := if e.dbl then s.mem.ecc.map (fun x => if x = e then { x with inj := false } else x) else s.mem.ecc.filter (· ≠ e)
  let s : State := { s with mem := { s.mem with ecc := left } }
  if e.inj then s.injReport else s
/-- The errors in the words of memory `k` that `n` bytes from an address touch. -/
def State.eccIn (s : State) (k a n : Nat) : List EccMark :=
  s.mem.ecc.filter (fun e => e.mem = k && decide (a / 8 * 8 ≤ e.addr) && decide (e.addr < a + n))
/-- A read of `n` bytes of memory `k`: every error met is raised; answers whether the read found no uncorrectable one. -/
def State.eccRead (s : State) (k a n : Nat) (cyc : Option Nat := none) : State × Bool :=
  let es := s.eccIn k a n
  (es.foldl (fun s e => s.eccMeet e cyc) s, es.all (fun e => !e.dbl))
/-- Bytes written to the tick SRAM. -/
def State.sramWrite (s : State) (a : Nat) (bs : List Byte) : State :=
  ({ s with mem := { s.mem with sram := Mem.wrN s.mem.sram a bs } } : State).eccWrite 1 a bs.length
/-- Bytes written to DRAM. -/
def State.dramWrite (s : State) (a : Nat) (bs : List Byte) : State :=
  ({ s with mem := { s.mem with dram := Mem.wrN s.mem.dram a bs } } : State).eccWrite 2 a bs.length
/-- Bytes written to the footing memory. -/
def State.footWrite (s : State) (a : Nat) (bs : List Byte) : State :=
  ({ s with mem := { s.mem with foot := Mem.wrN s.mem.foot a bs } } : State).eccWrite 3 a bs.length
/-- Bytes written to a stone's local memory (the cell key is 262,144 × stone + offset). -/
def State.stoneWrite (s : State) (a : Nat) (bs : List Byte) : State :=
  ({ s with mem := { s.mem with stone := Mem.wrN s.mem.stone a bs } } : State).eccWrite 0 a bs.length

end Sys2Proof.Machine
end

