-- ==== Sys2Proof/Machine/Faults.lean ====
section
/-! DEFINITION. The fault collector: leaving a class, PLUMB and FAULT_N, injections, and the sources that the fault
chapter itself defines (R532 to R554). -/
namespace Sys2Proof.Machine
open Sys2Proof

/-- The outcome of a register action: the state and a status code of R487. -/
abbrev Act := State × Nat
/-- Status OK. -/
def stOk : Nat := 0
/-- Status BUSY. -/
def stBusy : Nat := 1
/-- Status ACCESS_ERROR. -/
def stAccess : Nat := 2
/-- Status PERMISSION_ERROR. -/
def stPerm : Nat := 3

/-- Whether the coil of a channel is below TMAX, so that its thermal trip may be cleared (R541). -/
def State.tripClearable (s : State) (ch : Nat) : Bool :=
  decide ((nth s.bst.chans ch BstCh.reset).tc < ((s.get Reg.BST_CHn_TH3_TMAX ch : Nat) : Rat))
/-- FLT_CLEAR written: the request waits for the head of the next tick (R544); a second write in the same tick joins it. -/
def actFltClear (halt load restart cnt : Bool) (mask : Nat) (s : State) : State :=
  if !(halt || load || cnt) then s
  else
    let r := match s.flt.clear with
      | some c => { c with halt := c.halt || halt, load := c.load || load, restart := c.restart || restart, cnt := c.cnt || cnt,
                           mask := c.mask ||| (if load then mask else 0) }
      | none => ⟨halt, load, restart, cnt, if load then mask else 0, s.ks.count⟩
    { s with flt := { s.flt with clear := some r } }
/-- CNT_CLR: COUNT of every source, but for the raises of this tick, and LOST (R533, R544). -/
def fltCntClr (s : State) : State :=
  (s.forN 256 (fun s n => s.set Reg.FLT_SRCn_COUNT (b2n (s.flt.counted.contains n)) n)).set Reg.FLT_HIST_STAT_LOST 0
/-- Outputs barred by the collector, as OUT_MASK. -/
def State.barMask (s : State) : Nat := s.chBar + 256 * s.anaBar
/-- The clear that is due acts (R541 to R545); answers the outputs it freed from every bar, and whether RESTART was
written with it. -/
def clearAct (s : State) : State × Nat × Bool :=
  match s.flt.clear with
  | none => (s, 0, false)
  | some c =>
    if s.ks.count ≤ c.tick then (s, 0, false)
    else
      let s : State := { s with flt := { s.flt with clear := none } }
      let s := if c.cnt && !s.flt.capstone then fltCntClr s else s
      if s.flt.capstone then (s.set Reg.FLT_CLEAR_STAT_RESULT 3, 0, false)
      else if !(c.halt || c.load) then (s, 0, false)
      else
        let before := s.barMask
        let goneLoads := s.flt.loads.filter (fun l => c.load && bit c.mask l.2.1 && (l.1 ≠ 0x37 || s.tripClearable l.2.1))
        let leftLoads := s.flt.loads.filter (fun l => !goneLoads.contains l)
        let s : State := { s with flt := { s.flt with loads := leftLoads } }
        let s := goneLoads.foldl (fun s l => s.setB Reg.BST_CHn_STATE_TRIPPED (leftLoads.any (fun x => x.2.1 = l.2.1)) l.2.1) s
        let may (r : Raise) : Bool := c.halt && decide (r.tick ≤ c.tick) && !s.isActive r.source &&
          !leftLoads.any (fun l => l.1 = r.source && l.2.1 = r.unit)
        let gone := s.flt.raises.filter may
        let left := s.flt.raises.filter (fun r => !may r)
        let halts := left.filter (fun r => r.cls = 2)
        let s : State := { s with flt := { s.flt with raises := left, firstOpen := s.flt.firstOpen || (c.halt && halts = []) } }
        let loadMask := maskOf (goneLoads.map (·.2.1)) 8
        let loadLeft := if c.load then maskOf ((leftLoads.filter (fun l => bit c.mask l.2.1)).map (·.2.1)) 8 else 0
        let all := loadLeft = 0 && (!c.halt || halts = [])
        let s := ((s.set Reg.FLT_CLEAR_STAT_RESULT (if all then 1 else 2)).set Reg.FLT_CLEAR_STAT_LOAD_LEFT loadLeft).set
          Reg.FLT_CLEAR_STAT_HALT_LEFT (min 255 halts.length)
        let s := s.histPush ⟨s.ks.count, 0, 0, 2, false, 0, loadMask + 256 * min 255 gone.length, s.flt.seq⟩
        let after := s.barMask
        (s, before - (before &&& after), c.restart)
/-- Class writes of the tick before govern from here (R529); the per-tick records of R533 start afresh. -/
def fltTickStart (s : State) : State :=
  let m := s.flt.clsPend.foldl (fun m p => KMap.put sourceDefault m p.1 p.2) s.flt.cls
  { s with flt := { s.flt with cls := m, clsPend := [], counted := [], entered := [], seq := s.flt.seq + 1 } }
/-- PLUMB at a tick edge (R537). -/
def plumbEdge (s : State) : State :=
  let k := s.ks.count
  let f := s.flt
  if !s.haltFree then
    (if f.plumbHold then s else if k % 4 = 0 then { s with flt := { f with plumb := false, plumbHold := true } } else s)
  else if f.plumbHold then
    (if k % 8 = 0 then { s with flt := { f with plumb := true, plumbHold := false } } else s)
  else { s with flt := { f with plumb := decide (k % 8 < 4) } }
/-- The level on the FAULT_N wire: low when this module or another drives it (R538). -/
def State.fnLow (s : State) : Bool := s.flt.wireLow || s.fnDrive
/-- FN_LOW watched: FN_CHG on a change, and FLT_EXT_FAULT while the wire is low and this module does not drive it (R539). -/
def fnWatch (s : State) : State :=
  let s := if s.fnLow ≠ s.flt.fnSeen then
      ({ s with flt := { s.flt with fnSeen := s.fnLow } } : State).int Reg.FLT_INT_STATUS_FN_CHG
    else s
  let ext := s.is Reg.FLT_CFG_FN_WATCH && s.flt.wireLow && !s.fnDrive
  if ext && !s.isActive 5 then s.raiseActive 5 0 else if !ext && s.isActive 5 then s.endActive 5 0 else s
/-- The byte that an injection's ADDR names in the memory of its target: a tenancy-0 window address goes through the window
base that stood when ADDR was written (R507, R554). -/
def State.injKey (s : State) : Nat :=
  let a := s.get Reg.FLT_INJ_ADDR
  match s.get Reg.FLT_INJ_TARGET with
  | 0 => 262144 * s.get Reg.FLT_INJ_UNIT + a
  | 2 => (a - 0x40000000) + KMap.get (fun _ => 0) s.ten.dmaBase 0x120044 * 2 ^ 30
  | _ => a
/-- Whether an address names a word of the memory of an injection target (R554). -/
def State.injAddrOk (s : State) (tgt : Nat) : Bool :=
  let a := s.get Reg.FLT_INJ_ADDR
  a % 8 = 0 && (match tgt with
    | 0 => decide (a < 262144)
    | 1 => decide (a < 33554432)
    | 2 => decide (0x40000000 ≤ a) && s.ten.allocs.any (fun x => x.ten = 0 && decide (x.offMib * 2 ^ 20 ≤ s.injKey) &&
             decide (s.injKey < (x.offMib + x.sizeMib) * 2 ^ 20))
    | _ => decide (a < 65536))
/-- FLT_INJ.ARM (R553, R554). -/
def actInjArm (s : State) : Act :=
  let tgt := s.get Reg.FLT_INJ_TARGET
  if !s.is Reg.FLT_CFG_INJ_EN then (s, stPerm)
  else if s.get Reg.FLT_INJ_STATE = 1 || s.is Reg.MIX_OVR_STATUS_EFFECTIVE || s.flt.capstone then (s, stBusy)
  else if 8 ≤ tgt then (s.set Reg.FLT_INJ_STATE 4, stAccess)
  else if tgt < 4 && (s.get Reg.FLT_INJ_MODE = 0 || !s.injAddrOk tgt) then (s.set Reg.FLT_INJ_STATE 4, stAccess)
  else
    let x : Inj := ⟨tgt, s.get Reg.FLT_INJ_MODE, s.get Reg.FLT_INJ_UNIT, s.injKey⟩
    (({ s with flt := { s.flt with inj := some x } } : State).set Reg.FLT_INJ_STATE 1, stOk)
/-- FLT_VL5_LOW or FLT_LOGIC_HOT becomes ACTIVE: every channel in SAFE_MASK, every analog output to HELD (R532). -/
def lowHotOn (src : Nat) (s : State) : State :=
  let s := s.event.raiseActive src 0
  let s : State := if src = 3 then { s with flt := { s.flt with ownVl5 := true } } else { s with flt := { s.flt with ownHot := true } }
  s.holdAnalog 15
/-- Row VL5_LOW (R532). -/
def execVl5Low (s : State) : Host.Outcome State Fault Refusal := .next (if s.isActive 3 then s else lowHotOn 3 s)
/-- Row VL5_RECOVER (R532). -/
def execVl5Recover (s : State) : Host.Outcome State Fault Refusal :=
  .next ({ s.endActive 3 0 with flt := { (s.endActive 3 0).flt with ownVl5 := false } })
/-- Row LOGIC_HOT (R532). -/
def execLogicHot (s : State) : Host.Outcome State Fault Refusal := .next (if s.isActive 4 then s else lowHotOn 4 s)
/-- Row LOGIC_COOL (R532). -/
def execLogicCool (s : State) : Host.Outcome State Fault Refusal :=
  .next ({ s.endActive 4 0 with flt := { (s.endActive 4 0).flt with ownHot := false } })
/-- Row EXT_FAULT: another module drives the FAULT_N wire (R539). -/
def execExtFault (s : State) : Host.Outcome State Fault Refusal :=
  .next (fnWatch { s.event with flt := { s.event.flt with wireLow := true } })
/-- Row FAULT_N_WIRE_RELEASED: no other module drives the wire any more (R539). -/
def execFaultNWireReleased (s : State) : Host.Outcome State Fault Refusal :=
  .next (fnWatch { s.event with flt := { s.event.flt with wireLow := false } })

end Sys2Proof.Machine
end

