-- ==== Sys2Proof/Machine/Blocks.lean ====
section
/-! DEFINITION. What each block kind does with the samples of a tick (R174 to R187, R455, R456). -/
namespace Sys2Proof.Machine
open Sys2Proof

/-! ## The shared sine table and noise register (R455, R456) -/

/-- sin(2πi / 4,096) · 2^120 for i in the first eighth of the circle, or its cosine. -/
def sinFix (i : Nat) (cos : Bool) : Int := trigFix (piFix * (2 * i) / 4096) cos
/-- Entry i of the sine table, rounded to binary32 (R455). -/
def sineTab (i : Nat) : F32 :=
  let i := i % 4096
  let neg := 2048 ≤ i
  let j := i % 2048
  let j := if 1024 < j then 2048 - j else j
  let v := if j ≤ 512 then sinFix j false else sinFix (1024 - j) true
  f32OfRat ((if neg then -(v : Rat) else (v : Rat)) / ((2 ^ 120 : Nat) : Rat))
/-- The interpolated sine of a 32-bit phase, in one fused multiply-add (R455). -/
def sineAt (ph : Nat) : F32 :=
  let i := ph / 2 ^ 20 % 4096
  let f := f32OfRat (((ph % 2 ^ 20 : Nat) : Rat) / ((2 ^ 20 : Nat) : Rat))
  let a := sineTab i
  f32Fma f (f32Sub (sineTab (i + 1)) a) a
/-- One advance of a noise register (R456). -/
def noiseStep (r : Nat) : Nat := if r % 2 = 1 then (BitVec.ofNat 32 (r / 2) ^^^ 0x80200003#32).toNat else r / 2
/-- `n` advances of a noise register. -/
def noiseAdv : Nat → Nat → Nat
  | 0, r => r
  | n + 1, r => noiseAdv n (noiseStep r)
/-- The white value of a noise register (R456). -/
def noiseWhite (r : Nat) : Rat := ((sext 16 (r / 65536) : Int) : Rat) / 32768

/-! ## Sections and ramps -/

/-- A binary32 value as the EXT48 word of the same value. -/
def f32Ext (w : F32) : Ext48 := (extRound (f32Val w)).1
/-- The EXT48 word nearest to a rational. -/
def extOfRat (q : Rat) : Ext48 := (extRound (FVal.ofRat q)).1

/-- A second-order section: coefficients b0, b1, b2, a1, a2; state x₁, x₂, y₁, y₂; answers y and the new state, and
counts NaNs (R175, R612). -/
def biquad (cf : List F32) (x : Ext48) (st : List Ext48) : Ext48 × List Ext48 × Nat :=
  let c (k : Nat) := f32Val (nth cf k 0#32)
  let e (k : Nat) := extVal (nth st k 0#48)
  let (y, n) := extSum [(c 0, extVal x), (c 1, e 0), (c 2, e 1), (fvNeg (c 3), e 2), (fvNeg (c 4), e 3)]
  (y, [x, nth st 0 0#48, y, nth st 2 0#48], n)
/-- The value a ramp applied last (R174). -/
def Ramp.now (r : Ramp) : F32 := if r.len ≤ r.pos then r.to' else if r.pos = 0 then r.from' else rampF32 r.from' r.to' r.pos r.len
/-- A ramp at its target. -/
def Ramp.at' (v : F32) : Ramp := ⟨v, v, 0, 0⟩
/-- One tick of a ramp toward a target; a new target starts a new ramp from the value last applied (R174). -/
def Ramp.step (r : Ramp) (tgt : F32) (len : Nat) : Ramp :=
  let r := if tgt = r.to' then r else ⟨r.now, tgt, 0, len⟩
  if r.pos < r.len then { r with pos := r.pos + 1 } else r
/-- The detector of R179: e ← a·e + (1 − a)·|x| in EXT48. -/
def detect (e : Ext48) (x : F32) (attack release : Nat) : Ext48 :=
  let ax := f32Abs x
  let a := if decide ((extVal e).rat < f32Rat ax) then decay attack else decay release
  (extSum [(f32Val a, extVal e), (f32Val (f32Sub 0x3F800000#32 a), f32Val ax)]).1
/-- A first-order section of the pink filter on a sample: coefficients b0, b1, a1; state x₁, y₁ (R456). -/
def pinkOne (cf : List F32) (x x1 y1 : Ext48) : Ext48 :=
  let c (j : Nat) := f32Val (nth cf j 0#32)
  (extSum [(c 0, extVal x), (c 1, extVal x1), (fvNeg (c 2), extVal y1)]).1
/-- The pink filter run on one sample, in ascending k: output and new state, two words for each section (R456). -/
def pinkRun : List (List F32) → Ext48 → List Ext48 → Ext48 × List Ext48
  | [], x, _ => (x, [])
  | cf :: r, x, st =>
    let y := pinkOne cf x (nth st 0 0#48) (nth st 1 0#48)
    let t := pinkRun r y (st.drop 2)
    (t.1, x :: y :: t.2)
/-- Σ h² of the filter's impulse response over `n` samples, from an input sample and a state. -/
def pinkEnergy (cf : List (List F32)) : Nat → Ext48 → List Ext48 → Rat → Rat
  | 0, _, _, acc => acc
  | n + 1, x, st, acc =>
    let y := pinkRun cf x st
    pinkEnergy cf n 0#48 y.2 (acc + (extVal y.1).rat * (extVal y.1).rat)
/-- σ of the filter (R456). -/
def pinkSigma (cf : List (List F32)) : Rat := sqrtRat (pinkEnergy cf 1048576 (f32Ext 0x3F800000#32) [] 0 / 3)
/-- The product of a sample and a gain as a port value. -/
def gainPort (x g : F32) : F32 × Nat := portLimit (fvMul (f32Val x) (f32Val g))
/-- A magnitude limited to ±m. -/
def clipTo (x m : F32) : F32 := if f32Lt m (f32Abs x) then (if bit x.toNat 31 then m ||| 0x80000000#32 else m) else x

/-- What a block reads beside its ports. -/
structure BlkEnv where
  tick : Nat
  /-- ENG_UCODE (R612). -/
  ucode : Word
  rate : Nat
  /-- Protection gains of CH0 to CH7 (R187). -/
  gains : List F32
  /-- Whether input `port` of a protection hook applies the gain of a power-stage channel: instance, port, channel (R187). -/
  applies : Nat → Nat → Nat → Bool
  /-- A presentation-buffer entry k ticks ahead on a lane, if valid (R180). -/
  look : Nat → Nat → Option F32
  /-- The lookahead L of a lane (R62). -/
  lookL : Nat → Nat
  /-- Whether a diagnostic run drives its test signal through an impedance test instance (R186). -/
  diag : Nat → Bool
  /-- RMS level of the noise that a generator plays for an acoustic run (R398). -/
  noise : Nat → Option Rat
  /-- Converter's ramp factor, or none while it outputs 0 (R199). -/
  src : Nat → Option Rat
  /-- Ticks since a sample of a converter's source was due, while none arrives (R198). -/
  srcMiss : Nat → Option Nat
  /-- The fades on the input endpoint channel that feeds a converter's channel, if one does (R210, R393): instance and channel. -/
  srcFade : Nat → Nat → Option Rat
/-- The outcome of a block: new state, port values, NaNs counted. -/
abbrev BlkOut := InstSt × List F32 × Nat

/-- A parameter word as a number. -/
def InstSt.u (s : InstSt) (w : Nat) : Nat := (nth s.par w 0#32).toNat
/-- A parameter word as a binary32. -/
def InstSt.f (s : InstSt) (w : Nat) : F32 := nth s.par w 0#32
/-- Port values limited under R136, with the NaNs they counted. -/
def ports (vs : List FVal) : List F32 × Nat :=
  let ps := vs.map portLimit
  (ps.map (·.1), (ps.map (·.2)).sum)

/-- The state of an instance with its initial parameters (R117, R118): no history, ramps at their targets, noise
registers seeded (R185). -/
def InstSt.init (x : Inst) (par : List Word) : InstSt :=
  let c := kindC x.kind x.nIn x.nOut
  let ramps := match x.kind with
    | 0x01 => (par.take c).map Ramp.at'
    | 0x02 => (par.take (x.nIn * x.nOut)).map Ramp.at'
    | 0x05 => (par.take c).map Ramp.at'
    | 0x06 => List.replicate c (Ramp.at' 0#32)
    | 0x0A => par.map Ramp.at'
    | _ => []
  let ns := match x.kind with
    | 0x05 => 0 :: List.replicate (3 * c) 0
    | 0x06 => (par.take c).map (·.toNat) ++ List.replicate c 0
    | 0x0A => par.map (·.toNat) ++ par.map (·.toNat)
    | 0x10 => (List.range x.nOut).flatMap (fun r => [0, 1 + 8 * x.id + r])
    | _ => List.replicate 8 0
  let ext := if x.kind = 0x08 then List.replicate c (f32Ext 0x3F800000#32) else []
  ⟨x.id, par, par, ext, [], ns, List.replicate (max c 1) [], ramps⟩

/-- Gain (R174). -/
def procGain (x : Inst) (s : InstSt) (ins : List F32) : BlkOut :=
  let rs := (indexed s.ramps).map (fun (k, r) => r.step (s.f k) (s.u x.nIn))
  let (o, n) := ports ((ins.zip rs).map (fun (v, r) => fvMul (f32Val v) (f32Val r.now)))
  ({ s with ramps := rs }, o, n)
/-- Matrix mix: Σ over inputs in ascending order (R174, R612). -/
def procMatrix (x : Inst) (s : InstSt) (ins : List F32) : BlkOut :=
  let rs := (indexed s.ramps).map (fun (k, r) => r.step (s.f k) (s.u (x.nIn * x.nOut)))
  let sums := (List.range x.nOut).map (fun r =>
    extSum ((indexed ins).map (fun (j, v) => (f32Val (nth rs (r * x.nIn + j) (Ramp.at' 0#32)).now, f32Val v))))
  let (o, n) := ports (sums.map (fun p => extVal p.1))
  ({ s with ramps := rs }, o, n + (sums.map (·.2)).sum)
/-- One channel through `n` sections in ascending k; state of section k at 4k (R175). -/
def runSections (cf : Nat → List F32) : Nat → Nat → Ext48 → List Ext48 → Ext48 × List Ext48 × Nat
  | 0, _, x, _ => (x, [], 0)
  | n + 1, k, x, st =>
    let (y, s', c) := biquad (cf k) x (st.take 4)
    let (z, r, c') := runSections cf n (k + 1) y (st.drop 4)
    (z, s' ++ r, c + c')
/-- Biquad chain (R175). -/
def procBiquad (x : Inst) (s : InstSt) (ins : List F32) : BlkOut :=
  let n := x.kver
  let res := (indexed ins).map (fun (ch, v) =>
    runSections (fun k => (List.range 5).map (fun j => s.f (5 * (ch * n + k) + j))) n 0 (f32Ext v) ((s.ext.drop (4 * n * ch)).take (4 * n)))
  let (o, c) := ports (res.map (fun r => extVal r.1))
  ({ s with ext := (res.map (fun r => r.2.1 ++ List.replicate (4 * n - r.2.1.length) 0#48)).flatten }, o, c + (res.map (·.2.2)).sum)
/-- Direct FIR (R175, R612). -/
def procFir (x : Inst) (s : InstSt) (ins : List F32) : BlkOut :=
  let n := 16 * x.kver
  let h := (indexed ins).map (fun (ch, v) => (v :: nth s.hist ch []).take n)
  let sums := (indexed h).map (fun (ch, l) => extSum ((indexed l).map (fun (j, v) => (f32Val (s.f (ch * n + j)), f32Val v))))
  let (o, c) := ports (sums.map (fun p => extVal p.1))
  ({ s with hist := h }, o, c + (sums.map (·.2)).sum)
/-- The fade of a partitioned-FIR channel during a load (R178): direction 0 full, 1 falling, 2 silent, 3 rising; ticks of
the fade; the level in 32nds that a falling fade started from. `ns` holds the ticks since activation modulo 256 and then
the fade of each channel. -/
def InstSt.pfirFade (s : InstSt) (ch : Nat) : Nat × Nat × Nat :=
  (nth s.ns (1 + 3 * ch) 0, nth s.ns (2 + 3 * ch) 0, nth s.ns (3 + 3 * ch) 0)
/-- The fade of a channel replaced. -/
def InstSt.setFade (s : InstSt) (ch : Nat) (f : Nat × Nat × Nat) : InstSt :=
  { s with ns := setNth (setNth (setNth s.ns (1 + 3 * ch) f.1) (2 + 3 * ch) f.2.1) (3 + 3 * ch) f.2.2 }
/-- One tick of a fade. -/
def fadeStep (f : Nat × Nat × Nat) : Nat × Nat × Nat :=
  match f with
  | (1, p, q) => if p + 1 < 32 then (1, p + 1, q) else (2, 0, 0)
  | (3, p, _) => if p + 1 < 32 then (3, p + 1, 0) else (0, 0, 0)
  | f => f
/-- The factor of a fade. -/
def fadeLevel (f : Nat × Nat × Nat) : Rat :=
  match f with
  | (1, p, q) => ((q * (32 - p) : Nat) : Rat) / 1024
  | (2, _, _) => 0
  | (3, p, _) => ((p : Nat) : Rat) / 32
  | _ => 1
/-- A load begins to fade a channel out, from the level it has. -/
def fadeOut (f : Nat × Nat × Nat) : Nat × Nat × Nat :=
  match f with
  | (0, _, _) => (1, 0, 32)
  | (3, p, _) => (1, 0, p)
  | f => f
/-- Σ over taps 512 to n − 1 of a partitioned FIR: the free value of the microcode's transforms, a number within the bound of R612 where
every tap and input is one. -/
def pfirTail (ucode : Word) (phase : Nat) (taps xs : List F32) : F32 :=
  let exact : Rat := ((taps.zip xs).map (fun (h, v) => f32Rat h * f32Rat v)).sum
  let big : Rat := xs.foldl (fun (a : Rat) v => max a (ratAbs (f32Rat v))) 0
  let bound : Rat := pow2 (-20) * (taps.map (fun h => ratAbs (f32Rat h))).sum * big
  let f := Config.pfirTail ucode phase taps xs
  let number (v : F32) : Bool := (f32Exact v).isSome
  if !(taps.all number && xs.all number) then f
  else if bound = 0 then 0#32 else if number f && decide (ratAbs (f32Rat f - exact) ≤ bound) then f else f32OfRat exact
/-- Partitioned FIR (R176, R178, R612): the direct taps in EXT48, the tail, and the GAIN ramp and load fade on their sum,
rounded once. -/
def procPfir (x : Inst) (s : InstSt) (ins : List F32) (e : BlkEnv) : BlkOut :=
  let n := 4096 * x.kver
  let rs := (indexed s.ramps).map (fun (k, r) => r.step (s.f k) (s.u x.nIn))
  let h := (indexed ins).map (fun (ch, v) => (v :: nth s.hist ch []).take n)
  let fades := (List.range x.nIn).map (fun ch => fadeStep (s.pfirFade ch))
  let vals := (indexed h).map (fun (ch, l) =>
    let taps := (List.range n).map (fun j => nth s.fs (ch * n + j) 0#32)
    let head := extSum (((taps.take 512).zip l).map (fun (t, v) => (f32Val t, f32Val v)))
    let tail := pfirTail e.ucode (nth s.ns 0 0) (taps.drop 512) (l.drop 512)
    let g := (nth rs ch (Ramp.at' 0#32)).now
    let y := fvMul (fvAdd (extVal head.1) (f32Val tail)) (f32Val g)
    (fvMul y (FVal.ofRat (fadeLevel (nth fades ch (0, 0, 0)))), head.2))
  let (o, c) := ports (vals.map (·.1))
  ({ s with hist := h, ramps := rs, ns := (nth s.ns 0 0 + 1) % 256 :: fades.flatMap (fun f => [f.1, f.2.1, f.2.2]) },
    o, c + (vals.map (·.2)).sum)
/-- Delay (R149, R161, R177): `ns` holds the tap in use of each channel and then the tap a crossfade leaves; `fresh`
says which inputs carry the sample of this tick. A change during a crossfade leaves from the value last output. -/
def procDelay (x : Inst) (s : InstSt) (ins : List F32) (fresh : Nat → Bool) (m : Nat) : BlkOut :=
  let c := x.nIn
  let h := (indexed ins).map (fun (ch, v) => (v :: nth s.hist ch []).take (m + 1))
  let res := (List.range c).map (fun ch =>
    let l := nth h ch []
    let tap (d : Nat) : F32 := nth l (if fresh ch then d else d - 1) 0#32
    let want := s.u ch
    let cur := nth s.ns ch 1
    let r := nth s.ramps ch (Ramp.at' 0#32)
    let xf := s.u c
    let changed := want ≠ cur
    let busy := decide (r.pos < r.len)
    -- the ramp's `from'` holds the value last output, used as the old side once a change interrupts a crossfade
    let old := if changed then (if busy then 0 else cur) else nth s.ns (c + ch) 0
    let r := if changed then { r with pos := 0, len := xf, to' := r.from' } else r
    let r := if r.pos < r.len then { r with pos := r.pos + 1 } else r
    let oldV := if old = 0 then r.to' else tap old
    let y := if r.len = 0 ∨ r.len ≤ r.pos then tap want
      else f32OfRat (f32Rat oldV + (f32Rat (tap want) - f32Rat oldV) * ((r.pos : Nat) : Rat) / ((r.len : Nat) : Rat))
    (y, want, old, { r with from' := y }))
  let (o, n) := ports (res.map (fun r => f32Val r.1))
  ({ s with hist := h, ns := res.map (·.2.1) ++ res.map (·.2.2.1), ramps := res.map (·.2.2.2) }, o, n)
/-- The static curve of R179 in dB, computed exactly from the binary32 level; none is −∞. -/
def dynCurve (mode : Nat) (xdb t r w : Rat) : Option Rat :=
  match mode with
  | 0 => some (if 2 * (xdb - t) < -w then xdb
      else if ratAbs (2 * (xdb - t)) ≤ w ∧ w ≠ 0 then xdb + (1 / r - 1) * (xdb - t + w / 2) * (xdb - t + w / 2) / (2 * w)
      else if xdb ≤ t then xdb else t + (xdb - t) / r)
  | 1 => some (if xdb < t then t + (xdb - t) * r else xdb)
  | _ => if xdb < t then none else some xdb
/-- The gain of R179 in dB at a detector level, computed exactly; none is −∞. At a level of 0, which lies below every
threshold, a gate is −∞ and y_dB − x_dB of the other curves is a free value. -/
def dynGain (mode : Nat) (e t r w makeup : Rat) : Option Rat :=
  if e ≤ 0 then (if mode = 2 then none else some (Config.silentGain mode + makeup))
  else (dynCurve mode (dbOf e) t r w).map (fun y => y - dbOf e + makeup)
/-- Dynamics (R179): the gain is rounded to binary32 once. -/
def procDyn (x : Inst) (s : InstSt) (ins : List F32) : BlkOut :=
  let c := x.nOut
  let e := (indexed ins).map (fun (k, v) => detect (nth s.ext k 0#48) v (s.u 3) (s.u 4))
  let lv := e.map (fun w => (extVal w).rat)
  let key := x.nIn = c + 1
  let mx := (lv.take c).foldl max 0
  let gain (ch : Nat) : FVal :=
    let l := if key then nth lv c 0 else if s.u 7 = 1 then mx else nth lv ch 0
    match dynGain (s.u 6) l (f32Rat (s.f 0)) (f32Rat (s.f 1)) (f32Rat (s.f 2)) (f32Rat (s.f 5)) with
    | none => .fin false 0
    | some g => f32Val (f32OfRat (undb g))
  let (o, n) := ports ((indexed (ins.take c)).map (fun (ch, v) => fvMul (f32Val v) (gain ch)))
  ({ s with ext := e }, o, n)
/-- The gain that brings a magnitude to a ceiling, at most 1. -/
def limNeed (ceil mag : F32) : Rat := if f32Lt ceil mag then f32Rat ceil / f32Rat mag else 1
/-- One tick of a limiter's gain in EXT48 (R135, R180): linearly toward each need below it over the ticks left to that need,
whichever takes it lowest, or back toward the least need by the one-pole release. -/
def limStep (g : Ext48) (needs : List (Nat × Rat)) (release : Nat) : Ext48 :=
  let q := (extVal g).rat
  if needs.any (fun n => decide (n.2 < q)) then
    extOfRat ((needs.filter (fun n => decide (n.2 < q))).foldl (fun (a : Rat) n => min a (q + (n.2 - q) / ((n.1 + 1 : Nat) : Rat))) q)
  else
    let a := decay release
    let least := f32OfRat (needs.foldl (fun (a : Rat) n => min a n.2) 1)
    (extSum [(f32Val a, extVal g), (f32Val (f32Sub 0x3F800000#32 a), f32Val least)]).1
/-- The largest magnitude of a window in ascending ticks ahead, and where it first stands. -/
def windowPeak (l : List (Nat × F32)) : Nat × F32 :=
  l.foldl (fun (k, m) (j, v) => if f32Lt m (f32Abs v) then (j, f32Abs v) else (k, m)) (0, 0#32)
/-- The samples that variant 2 sees of a lane, scaled, for `n` ticks from tick `j` + 1: an entry that is not valid counts as
the nearest valid entry before it, or as the current input (R379). -/
def limAhead (look : Nat → Option F32) (pg : Rat) : Nat → Nat → F32 → List (Nat × F32)
  | 0, _, _ => []
  | n + 1, j, last =>
    let w := match look (j + 1) with
      | some w => f32OfRat (f32Rat w * pg)
      | none => last
    (j + 1, w) :: limAhead look pg n (j + 1) w
/-- Peak limiter (R180, R379): gains in `ext`, the signal of variant 1 in `hist` as far back as LOOK can reach. The ceiling is the
largest binary32 value not above 10^(CEIL/20). -/
def procLimiter (x : Inst) (s : InstSt) (ins : List F32) (e : BlkEnv) : BlkOut :=
  let ceil := f32Trunc (FVal.ofRat (undb (f32Rat (s.f 0))))
  let res := (indexed ins).map (fun (ch, v) =>
    let g := nth s.ext ch (f32Ext 0x3F800000#32)
    let step := match x.kver with
      | 0 => (limStep g [(0, limNeed ceil (f32Abs v))] (s.u 1), v, ([] : List F32))
      | 1 =>
        let l := (v :: nth s.hist ch []).take 384
        let needs := (List.range (s.u 2 + 1)).map (fun k => (k, limNeed ceil (f32Abs (nth l (s.u 2 - k) 0#32))))
        (limStep g needs (s.u 1), nth l (s.u 2) 0#32, l)
      | _ =>
        let lane := s.u (3 + ch)
        let ahead := limAhead (e.look lane) (undb (f32Rat (s.f (3 + x.nIn + ch)))) (min (s.u 2) (e.lookL lane)) 0 v
        let (k, m) := windowPeak ((0, v) :: ahead)
        (limStep g [(k, limNeed ceil m)] (s.u 1), v, [])
    (clipTo (f32Round (fvMul (f32Val step.2.1) (extVal step.1))) ceil, step.1, step.2.2))
  let (o, n) := ports (res.map (fun r => f32Val r.1))
  ({ s with ext := res.map (·.2.1), hist := res.map (·.2.2) }, o, n)
/-- Crossover (R181): split k divides what lies above the splits before it by a fourth-order Linkwitz–Riley pair; each
band below a split passes the split's all-pass. `ext` holds 4 words for each of the sections of a channel, in the order
they run. -/
def procXover (x : Inst) (s : InstSt) (ins : List F32) (e : BlkEnv) : BlkOut :=
  let b := x.kver
  let cf (k shape : Nat) : List F32 := xoverSection (f32Rat (s.f k)) ((rateHz e.rate : Nat) : Rat) shape
  -- sections of one channel: per split 2 low-pass, 2 high-pass, then one all-pass for each lower band
  let run (v : F32) (st : List Ext48) : List Ext48 × List Ext48 × Nat :=
    let step (acc : List Ext48 × Ext48 × List Ext48 × List Ext48 × Nat) (k : Nat) :=
      let (bands, hi, old, new, cnt) := acc
      let (lo, s1, c1) := runSections (fun _ => cf k 0) 2 0 hi (old.take 8)
      let (h2, s2, c2) := runSections (fun _ => cf k 1) 2 0 hi ((old.drop 8).take 8)
      let (bands', old', s3, c3) := bands.foldl (fun (a : List Ext48 × List Ext48 × List Ext48 × Nat) w =>
        let (y, t, c) := biquad (cf k 2) w (a.2.1.take 4)
        (a.1 ++ [y], a.2.1.drop 4, a.2.2.1 ++ t, a.2.2.2 + c)) ([], old.drop 16, [], 0)
      (bands' ++ [lo], h2, old', new ++ s1 ++ s2 ++ s3, cnt + c1 + c2 + c3)
    let (bands, hi, _, new, cnt) := (List.range (b - 1)).foldl step ([], f32Ext v, st, [], 0)
    (bands ++ [hi], new, cnt)
  let per := (b - 1) * 16 + 4 * ((b - 1) * (b - 2) / 2)
  let res := (indexed ins).map (fun (ch, v) => run v (((s.ext.drop (per * ch)).take per) ++ List.replicate per 0#48))
  let (o, n) := ports ((List.range b).flatMap (fun k => res.map (fun r => extVal (nth r.1 k 0#48))))
  ({ s with ext := (res.map (fun r => r.2.1)).flatten }, o, n + (res.map (·.2.2)).sum)
/-- Polarity and selector, with the 32-tick crossfade of R182: `ns` holds the selection in use and the one it leaves. -/
def procSel (x : Inst) (s : InstSt) (ins : List F32) : BlkOut :=
  let o := x.nOut
  let pick (w : Nat) : FVal :=
    if w % 256 = 255 then .fin false 0
    else let v := f32Val (nth ins (w % 256) 0#32); if bit w 8 then fvNeg v else v
  let res := (List.range o).map (fun r =>
    let want := s.u r
    let cur := nth s.ns r 0
    let rp := nth s.ramps r (Ramp.at' 0#32)
    let (old, rp) := if want = cur then (nth s.ns (o + r) 0, rp) else (cur, { rp with pos := 0, len := 32 })
    let rp := if rp.pos < rp.len then { rp with pos := rp.pos + 1 } else rp
    let a := pick old
    let b := pick want
    let y := if rp.len ≤ rp.pos then b else FVal.ofRat (a.rat + (b.rat - a.rat) * ((rp.pos : Nat) : Rat) / 32)
    (y, want, old, rp))
  let (out, n) := ports (res.map (·.1))
  ({ s with ns := res.map (·.2.1) ++ res.map (·.2.2.1), ramps := res.map (·.2.2.2) }, out, n)
/-- Sum (R182, R612). -/
def procSum (s : InstSt) (ins : List F32) : BlkOut :=
  let (a, n) := extSum (ins.map (fun v => (FVal.fin false 1, f32Val v)))
  let (o, m) := ports [extVal a]
  (s, o, n + m)
/-- Ducker (R183): `ext` holds the key's level, the gain in dB and the gain that the present move left; `ns` the ticks that
the level has been below THRESH, 1 while ducking, the ticks of the move, and its target's pattern. The level of 0 is below
every threshold. -/
def procDuck (x : Inst) (s : InstSt) (ins : List F32) : BlkOut :=
  let c := x.nOut
  let e := detect (nth s.ext 0 0#48) (nth ins c 0#32) (s.u 2) (s.u 4)
  let lv := (extVal e).rat
  let t := f32Rat (s.f 0)
  let loud := decide (0 < lv) && decide (t < dbOf lv)
  let below := decide (lv ≤ 0) || decide (dbOf lv < t)
  let cnt := if below then nth s.ns 0 0 + 1 else 0
  let duck := loud || (nth s.ns 1 0 = 1 && (!below || decide (cnt ≤ s.u 3)))
  let tgt := if duck then s.f 1 else 0#32
  let g := nth s.ext 1 0#48
  let moved := nth s.ns 1 0 ≠ b2n duck ∨ nth s.ns 3 0 ≠ tgt.toNat
  let from' := if moved then g else nth s.ext 2 0#48
  let len := if duck then s.u 2 else s.u 4
  let pos := if moved then 1 else min (nth s.ns 2 0 + 1) len
  let a := (extVal from').rat
  let g := if len ≤ pos then f32Ext tgt else extOfRat (a + (f32Rat tgt - a) * (pos : Rat) / (len : Rat))
  let lin := f32OfRat (undb (extVal g).rat)
  let (o, n) := ports ((ins.take c).map (fun v => fvMul (f32Val v) (f32Val lin)))
  ({ s with ext := [e, g, from'], ns := [cnt, b2n duck, pos, tgt.toNat] }, o, n)
/-- Envelope (R184). -/
def procEnv (x : Inst) (s : InstSt) (ins : List F32) : BlkOut :=
  let e := (indexed ins).map (fun (k, v) =>
    if x.kver = 0 then detect (nth s.ext k 0#48) v (s.u 0) (s.u 1)
    else
      let a := decay (s.u 0)
      let sq := fvMul (f32Val v) (f32Val v)
      (extSum [(f32Val a, extVal (nth s.ext k 0#48)), (f32Val (f32Sub 0x3F800000#32 a), sq)]).1)
  let (o, n) := ports (e.map (fun w => if x.kver = 0 then extVal w else f32Val (f32Sqrt (extF32 w))))
  ({ s with ext := e }, o, n)
/-- Generator (R185, R398): `ns` holds a phase and a noise register for each output; `ext` 12 words of pink filter. -/
def procGen (x : Inst) (s : InstSt) (e : BlkEnv) : BlkOut :=
  let fs := rateHz e.rate
  let cf := pinkSections 10 ((fs : Nat) : Rat)
  let res := (List.range x.nOut).map (fun r =>
    let run := e.noise x.id
    let ty := if run.isNone then s.u (3 * r) else if r = 0 then 3 else 0
    let level := match run with
      | some q => f32OfRat q
      | none => s.f (3 * r + 2)
    let ph := nth s.ns (2 * r) 0
    let step := (ratRne (f32Rat (s.f (3 * r + 1)) * ((2 ^ 32 : Nat) : Rat) / ((fs : Nat) : Rat))).toNat
    let reg := noiseAdv 16 (nth s.ns (2 * r + 1) 1)
    let w := noiseWhite reg
    let st := (s.ext.drop (12 * r)).take 12
    let pk := pinkRun cf (f32Ext (f32OfRat w)) st
    let out : FVal := match ty with
      | 0 => .fin false 0
      | 1 => fvMul (f32Val level) (f32Val (sineAt ph))
      | 2 => fvMul (fvMul (f32Val level) (f32Val (f32Sqrt 0x40400000#32))) (FVal.ofRat w)
      | _ =>
        let v := f32Rat level * (extVal pk.1).rat / pinkSigma cf
        let m := 4 * f32Rat level
        FVal.ofRat (if v < -m then -m else if m < v then m else v)
    (out, [(ph + step) % 2 ^ 32, reg], pk.2))
  let (o, n) := ports (res.map (·.1))
  ({ s with ns := (res.map (·.2.1)).flatten, ext := (res.map (·.2.2)).flatten }, o, n)
/-- Impedance test (R186, R455): 0 except during a diagnostic run on the channel it drives; `ns` holds the phase, the index
of the frequency and the ticks that it has been played. -/
def procImp (x : Inst) (s : InstSt) (e : BlkEnv) : BlkOut :=
  if !e.diag x.id then ({ s with ns := [0, 0, 0] }, [0#32], 0)
  else
    let ended := decide (s.u (x.kver + 1) ≤ nth s.ns 2 0)
    let ph := if ended then 0 else nth s.ns 0 0
    let k := if ended then nth s.ns 1 0 + 1 else nth s.ns 1 0
    let t := if ended then 0 else nth s.ns 2 0
    if x.kver ≤ k then ({ s with ns := [0, x.kver, 0] }, [0#32], 0)
    else
      let step := (ratRne (f32Rat (s.f k) * ((2 ^ 32 : Nat) : Rat) / ((rateHz e.rate : Nat) : Rat))).toNat
      let (o, n) := ports [fvMul (f32Val (s.f x.kver)) (f32Val (sineAt ph))]
      ({ s with ns := [(ph + step) % 2 ^ 32, k, t + 1] }, o, n)
/-- Protection hook (R187): where writes of CH make several ports name one channel, the first applies its gain. -/
def procHook (x : Inst) (s : InstSt) (ins : List F32) (e : BlkEnv) : BlkOut :=
  let (o, n) := ports ((indexed ins).map (fun (ch, v) =>
    if e.applies x.id ch (s.u ch) then fvMul (f32Val v) (f32Val (nth e.gains (s.u ch) 0x3F800000#32)) else f32Val v))
  (s, o, n)
/-- Z of a base rate in ticks, the group delay of a converter (R199). -/
def srcZ (rate : Nat) : Nat := 24 * 2 ^ rate
/-- Sample-rate-converter endpoint (R198, R199, R210): 0 while it settles, then its output under the 64-tick ramp; the grout of
its last outputs while no sample arrives. `ns` counts the ticks in which the input of each channel has been silent: of an endpoint by
its fades, of a block by its words. With a group delay of Z the output depends on no input more than 2Z ticks old, so that it is 0 after
that many (DEDUCED, log entry 64). -/
def procSrc (x : Inst) (s : InstSt) (ins : List F32) (e : BlkEnv) : BlkOut :=
  let z := 2 * srcZ e.rate
  let silent (ch : Nat) : Bool := match e.srcFade x.id ch with
    | some f => decide (f = 0)
    | none => decide (f32Rat (nth ins ch 0#32) = 0)
  let quiet := (List.range x.nOut).map (fun ch => if silent ch then min z (nth s.ns ch 0 + 1) else 0)
  match e.srcMiss x.id with
  | some j => ({ s with ns := quiet }, (List.range x.nOut).map (fun ch => groutF32 (nth s.fs ch 0#32) j), 0)
  | none =>
    let (o, n) := ports ((List.range x.nOut).map (fun ch => match e.src x.id with
      | none => .fin false 0
      | some f => if z ≤ nth quiet ch 0 then .fin false 0 else fvMul (f32Val (Config.srcOut x.id e.tick ch)) (FVal.ofRat f)))
    ({ s with fs := o, ns := quiet }, o, n)
/-- One instance in one tick. The message player's samples come with the environment of the engine; a meter and a
recorder tap keep their inputs for the tail. -/
def procBlock (x : Inst) (s : InstSt) (ins : List F32) (e : BlkEnv) (fresh : Nat → Bool) (m : Nat) (player : List F32) : BlkOut :=
  match x.kind with
  | 0x01 => procGain x s ins
  | 0x02 => procMatrix x s ins
  | 0x03 => procBiquad x s ins
  | 0x04 => procFir x s ins
  | 0x05 => procPfir x s ins e
  | 0x06 => procDelay x s ins fresh m
  | 0x07 => procDyn x s ins
  | 0x08 => procLimiter x s ins e
  | 0x09 => procXover x s ins e
  | 0x0A => procSel x s ins
  | 0x0B => procSum s ins
  | 0x0C => procDuck x s ins
  | 0x0D => procEnv x s ins
  | 0x0F => procSrc x s ins e
  | 0x10 => procGen x s e
  | 0x12 => (s, player, 0)
  | 0x13 => procImp x s e
  | 0x14 => procHook x s ins e
  | _ => ({ s with fs := ins }, [], 0)

end Sys2Proof.Machine
end

