-- ==== Sys2Proof/Machine/Src.lean ====
section
/-! DEFINITION. Sample-rate-converter endpoints: resynchronisation, absence and settling (R197 to R199). -/
namespace Sys2Proof.Machine
open Sys2Proof

/-- The asynchronous unit of a converter: PORT and UNIT of the endpoint that feeds its first input, or that its first
output feeds (R197). -/
def Image.srcUnit (im : Image) (id : Nat) : Option (Nat × Nat) :=
  let async (i : Inst) : Bool := i.isEndpoint && [0x03, 0x04, 0x05, 0x06, 0x07].contains i.port
  let ins := (im.nets.filter (fun n => n.dst = id)).filterMap (fun n => im.inst n.src)
  let outs := (im.nets.filter (fun n => n.src = id)).filterMap (fun n => im.inst n.dst)
  ((ins ++ outs).find? async).map (fun i => (if i.port = 0x07 then 0x06 else i.port, i.unit))
/-- Whether an asynchronous input endpoint feeds a converter, so that its samples come when its source sends them: the AES3 input, a
serial audio port in follower mode, a branch AAF stream (R197). -/
def State.srcFed (s : State) (im : Image) (id : Nat) : Bool := im.nets.any (fun n => n.dst = id && (match im.inst n.src with
  | some i => i.kind = 0x40 && (i.port = 3 || i.port = 5 || (i.port = 6 && !s.is Reg.SAPn_CFG_LEADER i.unit))
  | none => false))
/-- The converters of an image at activation, each resynchronising (R198). -/
def Image.srcs (im : Image) : List Src :=
  (im.insts.filter (fun i => i.kind = 0x0F)).map (fun i => ⟨i.id, 1, 0, false, false, 0, 0, 0⟩)
/-- Converters changed; a resynchronisation among the changes sets its interrupt bit. -/
def State.modSrc (s : State) (p : Src → Bool) (f : Src → Src) : State :=
  let new := s.mix.srcs.map (fun c => if p c then f c else c)
  let hit := (s.mix.srcs.zip new).any (fun c => c.1.resync ≠ c.2.resync || (c.1 ≠ c.2 && c.1.resync = 0xFFFF && c.2.phase = 1 && c.2.pos = 0))
  let s : State := { s with mix := { s.mix with srcs := new } }
  if hit then s.int Reg.MIX_INT_STATUS_SRC_RESYNC else s
/-- A resynchronisation (R198, R199). -/
def Src.resynced (c : Src) : Src := { c with phase := 1, pos := 0, resync := min 0xFFFF (c.resync + 1) }
/-- Whether a converter belongs to a unit. -/
def State.srcOf (s : State) (port unit : Nat) (c : Src) : Bool := s.imgHas (fun im => im.srcUnit c.id = some (port, unit))
/-- A unit's lock report: its converters resynchronise when lock returns (R198). -/
def State.srcLock (s : State) (port unit : Nat) (locked : Bool) : State :=
  s.modSrc (s.srcOf port unit) (fun c => if locked && !c.locked then { c.resynced with locked := true } else { c with locked := locked })
/-- A unit's measured rate has changed by more than 0.5 % (R198); `ratio` has 24 fraction bits. -/
def State.srcRate (s : State) (port unit ratio : Nat) (changed : Bool) : State :=
  s.modSrc (s.srcOf port unit) (fun c => { (if changed then c.resynced else c) with ratio := min (2 ^ 32 - 1) ratio })
/-- A sample of a unit has arrived. -/
def State.srcSample (s : State) (port unit : Nat) : State :=
  s.modSrc (s.srcOf port unit) (fun c => { c with silent := 0, absent := false })
/-- A frame of an AAF stream has arrived: its samples come at the stream's rate, which R314 holds to the base rate, and the source is
followed (R198; DEDUCED, log entry 64). -/
def State.srcStream (s : State) (i : Nat) : State :=
  (s.srcSample 3 i).modSrc (s.srcOf 3 i) (fun c => { c with locked := true, ratio := 2 ^ 24 })
/-- Every converter resynchronises: a step of KS_COUNT (R198). -/
def State.srcAll (s : State) : State := s.modSrc (fun _ => true) Src.resynced
/-- One tick of every converter: its silence, if a source outside the module feeds it, and its settling are counted. -/
def srcTick (s : State) : State :=
  s.modSrc (fun _ => true) (fun c => { c with silent := if s.imgHas (fun im => s.srcFed im c.id) then c.silent + 1 else 0, pos := if c.absent || c.phase = 0 then c.pos else c.pos + 1 })
/-- The ramp factor of a converter, or none while it outputs 0 (R199). -/
def State.srcFactor (s : State) (id : Nat) : Option Rat :=
  match s.mix.srcs.find? (fun c => c.id = id) with
  | some c => if c.phase = 0 then some 1 else if c.phase = 1 then none else some (((min 64 c.pos : Nat) : Rat) / 64)
  | none => none
/-- Samples in each frame of an AAF stream, one a tick, by the rate code of its CFG or the base rate (R312). -/
def aafTicks (rate : Nat) : Nat := if rate = 0 then 6 else 12
/-- Ticks between the arrivals of a converter's source: the frames of an AAF stream, or its samples, rounded up; those of 32 kHz at
192 kHz before a rate is measured (R312; log entry 64). -/
def State.srcPeriod (s : State) (c : Src) : Nat :=
  if s.imgHas (fun im => (im.srcUnit c.id).any (fun u => u.1 = 3)) then aafTicks s.rate
  else if c.ratio = 0 then 6 else ceilDiv (2 ^ 24) c.ratio
/-- Ticks since a sample of a converter was due, while none arrives (R198). -/
def State.srcMiss (s : State) (id : Nat) : Option Nat :=
  match s.mix.srcs.find? (fun c => c.id = id) with
  | some c => if s.srcPeriod c < c.silent then some (c.silent - s.srcPeriod c) else none
  | none => none
/-- Row SRC_ABSENT: no sample has arrived at a converter for 16 ticks (R198). -/
def execSrcAbsent (id : Fin 4096) (s : State) : Host.Outcome State Fault Refusal :=
  .next (s.modSrc (fun c => c.id = id.val && decide (16 ≤ c.silent) && !c.absent) (fun c =>
    { c.resynced with absent := true, locked := c.locked && !s.imgHas (fun im => (im.srcUnit c.id).any (fun u => u.1 = 3)) }))
/-- Row SRC_SETTLED: the Z ticks are over (R199). -/
def execSrcSettled (id : Fin 4096) (s : State) : Host.Outcome State Fault Refusal :=
  .next (s.modSrc (fun c => c.id = id.val && c.phase = 1 && decide (srcZ s.rate ≤ c.pos)) (fun c => { c with phase := 2, pos := 0 }))
/-- Row SRC_RAMP_END: the 64-tick ramp is over (R199). -/
def execSrcRampEnd (id : Fin 4096) (s : State) : Host.Outcome State Fault Refusal :=
  .next (s.modSrc (fun c => c.id = id.val && c.phase = 2 && decide (64 ≤ c.pos)) (fun c => { c with phase := 0, pos := 0 }))

end Sys2Proof.Machine
end

