-- ==== Sys2Proof/Machine/Ana.lean ====
section
/-! DEFINITION. The analog inputs and outputs, jack detection and the AES3 receiver (R402 to R425). -/
namespace Sys2Proof.Machine
open Sys2Proof

/-- State code of a switched domain; a stone that R164 has gated stands in L1. -/
def State.domAt (s : State) (d : Nat) : Nat :=
  let x := (nth s.dom.doms d ⟨0, false, false⟩).state
  if x = 0 && decide (d < 32) && (nth s.eng.stones d StoneRun.idle).gated then 1 else x

/-! ## Analog inputs (R403 to R407, R417) -/

/-- An ADC channel changed. -/
def State.modAdc (s : State) (n : Nat) (f : AdcCh → AdcCh) : State := { s with ana := { s.ana with adc := modNth s.ana.adc n f } }
/-- An ADC channel. -/
def State.adcCh (s : State) (n : Nat) : AdcCh := nth s.ana.adc n ⟨0, 0, 0, 0⟩
/-- Z of the decimators in ticks (R406). -/
def adcZ (rate : Nat) : Nat := if rate = 2 then 12 else 18
/-- ANA_STATUS.SETTLING. -/
def showSettling (s : State) : State :=
  s.set Reg.ANA_STATUS_SETTLING (maskOf ((List.range 4).filter (fun n => s.is Reg.ANA_ADCn_STAT_SETTLING n)) 4)
/-- The decimators of all four channels reset together (R406). -/
def adcReset (s : State) : State :=
  showSettling (s.forN 4 (fun s n => ((s.modAdc n (fun c => { c with ticks := 0 })).setB Reg.ANA_ADCn_STAT_SETTLING true n).setB
    Reg.ANA_ADCn_STAT_RAMPING false n))
/-- Row ADC_SETTLED: Z ticks have passed and the ramp of 64 ticks starts (R406). -/
def adcSettled (n : Nat) (s : State) : State :=
  if s.is Reg.ANA_ADCn_STAT_SETTLING n && !s.is Reg.ANA_ADCn_STAT_RAMPING n && decide (adcZ s.rate ≤ (s.adcCh n).ticks) then
    (s.modAdc n (fun c => { c with ticks := 0 })).setB Reg.ANA_ADCn_STAT_RAMPING true n
  else s
/-- Row ADC_RAMP_END: the ramp is over (R406). -/
def adcRampEnd (n : Nat) (s : State) : State :=
  if s.is Reg.ANA_ADCn_STAT_RAMPING n && decide (64 ≤ (s.adcCh n).ticks) then
    showSettling (((s.setB Reg.ANA_ADCn_STAT_SETTLING false n).setB Reg.ANA_ADCn_STAT_RAMPING false n).int Reg.ANA_INT_STATUS_ADC_SETTLED)
  else s
/-- Whether the plug of sense input b is present (R416). -/
def State.plugged (s : State) (b : Nat) : Bool := nth s.ana.jack b true = bit (s.get Reg.ANA_JACK_CFG_POL) b
/-- Ticks of the 32-tick fade of jack mute done in the present tick, toward 0 while the jack is absent (R417). -/
def State.adcFade (s : State) (n : Nat) : Nat :=
  if s.is Reg.ANA_ADCn_CFG_JACK_MUTE n && !s.plugged n then min 32 ((s.adcCh n).mute + 1) else (s.adcCh n).mute - 1
/-- One tick of an ADC channel: the sample completed in the tick before, its settling and its jack mute (R405 to R407,
R417). -/
def adcTick (env : List Int) (s : State) (n : Nat) : State :=
  let v := clampI (-(2 ^ 23)) (2 ^ 23 - 1) (nth env n 0)
  let s := if s.domAt 50 = 0 ∧ (v = 2 ^ 23 - 1 ∨ v = -(2 ^ 23)) then s.inc Reg.ANA_ADCn_STAT_OVL n else s
  let mute := s.is Reg.ANA_ADCn_CFG_JACK_MUTE n && !s.plugged n
  let m := s.adcFade n
  let s := s.setB Reg.ANA_ADCn_STAT_MUTED (mute || m ≠ 0) n
  s.modAdc n (fun c => { c with sample := v, ticks := c.ticks + 1, mute := m })
/-- The sample of an ADC channel at its converter. -/
def State.adcRaw (s : State) (n : Nat) : Int := if s.domAt 50 = 0 then (s.adcCh n).sample else 0
/-- The value that the gather places for an ADC channel. -/
def State.adcValue (s : State) (n : Nat) : F32 :=
  let c := s.adcCh n
  let f : Rat := if s.domAt 50 ≠ 0 then 0
    else if s.is Reg.ANA_ADCn_STAT_RAMPING n then ((min 64 c.ticks : Nat) : Rat) / 64
    else if s.is Reg.ANA_ADCn_STAT_SETTLING n then 0 else 1
  f32OfRat ((c.sample : Rat) / ((2 ^ 23 : Nat) : Rat) * f * (((32 - s.adcFade n : Nat) : Rat) / 32))
/-- A write to ANA_ADCn_CFG (R403, R404). -/
def adcCfgWrite (n : Nat) (v : Word) (s : State) : Act :=
  let g := bitsOf v.toNat 5 0
  if n < 2 then
    if 60 < g then (s, stAccess)
    else
      let s := s.setWord Reg.ANA_ADCn_CFG (BitVec.ofNat 32 (putBits v.toNat 7 7 0)) n
      (s.setB Reg.ANA_ADCn_STAT_GAIN_PEND (g ≠ (s.adcCh n).gain) n, stOk)
  else (s.setWord Reg.ANA_ADCn_CFG (BitVec.ofNat 32 (putBits v.toNat 5 0 0)) n, stOk)
/-- Row ADC_GAIN_APPLY: the output has changed sign, or 10 ms have passed since the write (R404). -/
def adcGainApply (n : Nat) (s : State) : State :=
  if s.is Reg.ANA_ADCn_STAT_GAIN_PEND n then
    (s.modAdc n (fun c => { c with gain := s.get Reg.ANA_ADCn_CFG_GAIN n })).setB Reg.ANA_ADCn_STAT_GAIN_PEND false n
  else s

/-! ## Analog outputs (R408 to R415, R418) -/

/-- An analog output changed. -/
def State.modOut (s : State) (n : Nat) (f : OutCh → OutCh) : State := { s with ana := { s.ana with out := modNth s.ana.out n f } }
/-- An analog output. -/
def State.outCh (s : State) (n : Nat) : OutCh := nth s.ana.out n ⟨0, 480, false, false, false, []⟩
/-- The state code of an analog output set (R27). -/
def State.setAna (s : State) (n v : Nat) : State :=
  if s.anaSt n = v then s else (s.set Reg.ANA_OUTn_STAT_STATE v n).int Reg.ANA_INT_STATUS_OUT_STATE
/-- The sense input of an output's jack: both headphone channels follow JS_HP (R418). -/
def outJack (n : Nat) : Nat := if n < 2 then 4 else n + 3
/-- Jack mute acts on an output (R418): not while the override is effective and names it. -/
def State.jackMuted (s : State) (n : Nat) : Bool :=
  s.is Reg.ANA_OUTn_CFG_JACK_MUTE n && !s.plugged (outJack n) &&
    !(s.is Reg.MIX_OVR_STATUS_EFFECTIVE && s.imgHas (fun im => match im.ovr with
      | some o => bit o.outMask (n + 8)
      | none => false))
/-- A ramp up started on a HELD output (R411). -/
def State.anaUp (s : State) (n : Nat) : State :=
  ((s.modOut n (fun c => { c with pos := 0, len := s.get Reg.ANA_OUTn_CFG_RAMP n })).set Reg.ANA_OUTn_STAT_RAMP 1 n).setAna n 3
/-- A ramp down started on a LIVE output, from the weight that applies (R411, R412). -/
def State.anaDown (s : State) (n : Nat) : State :=
  let r := s.get Reg.ANA_OUTn_STAT_RAMP n
  if s.anaSt n ≠ 3 || r = 2 then s
  else
    let len := s.get Reg.ANA_OUTn_CFG_RAMP n
    (if r = 1 then s else s.modOut n (fun c => { c with pos := len, len := len })).set Reg.ANA_OUTn_STAT_RAMP 2 n
/-- Whether START is barred on an output by a fault (R412, R532). -/
def State.anaBarred (s : State) (n : Nat) : Bool := bit s.anaBar n || s.flt.capstone
/-- ANA_OUTn_CTRL.START (R412). -/
def actOutStart (n : Nat) (s : State) : Act :=
  if s.anaSt n = 0 || s.get Reg.ANA_OUTn_STAT_RAMP n = 2 || s.img.active.isNone || s.anaBarred n ||
      s.is Reg.IMG_STATUS_EPOCH_HOLD || s.jackMuted n then (s, stBusy)
  else if s.anaSt n = 1 then (s.anaUp n, stOk) else (s, stOk)
/-- ANA_OUTn_CTRL.STOP (R412). -/
def actOutStop (n : Nat) (s : State) : Act := (s.anaDown n, stOk)
/-- A start that the module makes itself; an output still OFF is started at the end of its power-up (R412). -/
def State.anaOwnStart (s : State) (n : Nat) : State :=
  if s.anaBarred n || s.jackMuted n then s
  else if s.anaSt n = 1 then s.anaUp n
  else if s.anaSt n = 0 then s.modOut n (fun c => { c with start := true }) else s
/-- Analog outputs of a mask ramped down (R410). -/
def State.anaStop (s : State) (mask : Nat) : State :=
  s.forN 4 (fun s n => if bit mask n then (s.anaDown n).modOut n (fun c => { c with start := false }) else s)
/-- Analog outputs of a mask started by the module. -/
def State.anaStart (s : State) (mask : Nat) : State := s.forN 4 (fun s n => if bit mask n then s.anaOwnStart n else s)
/-- Whether an output is to be powered: its domain is at L0, the image serves it or its headphone partner, and the charge
pump is in regulation (R409, R415). -/
def State.anaWanted (s : State) (n : Nat) : Bool :=
  s.domAt 51 = 0 && s.is Reg.ANA_STATUS_CP_OK && (if n < 2 then bit s.served 8 || bit s.served 9 else bit s.served (n + 8))
/-- OFF to HELD and HELD to OFF as R409 asks, through the soft power-up and power-down (R410). -/
def anaFollow (s : State) : State :=
  s.forN 4 (fun s n =>
    let c := s.outCh n
    let want := s.anaWanted n
    if s.anaSt n = 0 then
      if want && !c.up && !c.down then s.modOut n (fun c => { c with up := true })
      else if !want && c.up then s.modOut n (fun c => { c with up := false, start := false }) else s
    else if !want then
      ((s.modOut n (fun c => { c with down := true, start := false, line := [] })).set Reg.ANA_OUTn_STAT_RAMP 0 n).setAna n 0
    else s)
/-- The outputs that share an amplifier with output n: both headphone channels, or a line output alone (R409). -/
def ampOuts (n : Nat) : List Nat := if n < 2 then [0, 1] else [n]
/-- Row OUT_POWER_UP_END: the soft power-up of an output, and of its headphone partner, is over (R409, R410, R412). -/
def outPowerUpEnd (n : Nat) (s : State) : State :=
  (ampOuts n).foldl (fun s n =>
    let c := s.outCh n
    if !c.up then s
    else
      let s := (s.modOut n (fun c => { c with up := false, start := false })).setAna n 1
      if c.start then s.anaOwnStart n else s) s
/-- Row OUT_POWER_DOWN_END: the soft power-down of an output, and of its headphone partner, is over (R409, R410). -/
def outPowerDownEnd (n : Nat) (s : State) : State :=
  if (s.outCh n).down then
    anaFollow ((ampOuts n).foldl (fun s n => s.modOut n (fun c => { c with down := false })) s)
  else s
/-- One tick of an output's ramp. -/
def outRampTick (s : State) (n : Nat) : State :=
  match s.get Reg.ANA_OUTn_STAT_RAMP n with
  | 1 => s.modOut n (fun c => { c with pos := min c.len (c.pos + 1) })
  | 2 => s.modOut n (fun c => { c with pos := c.pos - 1 })
  | _ => s
/-- Row OUT_RAMP_END: an output's ramp is over (R411). -/
def outRampEnd (n : Nat) (s : State) : State :=
  let c := s.outCh n
  match s.get Reg.ANA_OUTn_STAT_RAMP n with
  | 1 => if c.len ≤ c.pos then s.set Reg.ANA_OUTn_STAT_RAMP 0 n else s
  | 2 => if c.pos = 0 then (s.set Reg.ANA_OUTn_STAT_RAMP 0 n).setAna n 1 else s
  | _ => s
/-- The weight of an output (R411). -/
def State.outWeight (s : State) (n : Nat) : Rat :=
  let c := s.outCh n
  if s.anaSt n ≠ 3 then 0
  else if s.get Reg.ANA_OUTn_STAT_RAMP n = 0 then 1 else ((c.pos : Nat) : Rat) / ((c.len : Nat) : Rat)
/-- The interpolator's group delay in ticks (R406). -/
def outDelay (rate : Nat) : Nat := if rate = 2 then 10 else 16
/-- The tail of a tick: the committed sample of each output, weighted, enters its interpolator (R411, R413). -/
def outTail (code : Nat → Int) (s : State) : State :=
  s.forN 4 (fun s n =>
    let s := outRampTick s n
    let v := ratRne ((code n : Rat) * s.outWeight n)
    s.modOut n (fun c => { c with line := (v :: c.line).take 18 }))
/-- The sample at an output's pin: the one committed 1 tick and the interpolator's delay ago (R413). -/
def State.outPin (s : State) (n : Nat) : Int := if s.anaSt n = 0 then 0 else nth (s.outCh n).line (outDelay s.rate) 0
/-- Row CP_FAIL: the charge pump has left regulation (R415). -/
def cpFail (s : State) : State :=
  let s := (((s.setB Reg.ANA_STATUS_CP_OK false).event.raise 0x61 0).int Reg.ANA_INT_STATUS_CP_FAIL)
  s.forN 4 (fun s n => ((s.modOut n (fun c => { c with up := false, down := false, start := false, line := [] })).set
    Reg.ANA_OUTn_STAT_RAMP 0 n).setAna n 0)
/-- Row CP_RECOVER: the charge pump has been in regulation for 100 ms (R415). -/
def cpRecover (s : State) : State := anaFollow (s.setB Reg.ANA_STATUS_CP_OK true)
/-- Row OUT_SHORT: an output's current limit starts to act (R414). -/
def outShort (n : Nat) (s : State) : State :=
  if s.is Reg.ANA_OUTn_STAT_SHORT n then s
  else ((s.setB Reg.ANA_OUTn_STAT_SHORT true n).event.raise 0x60 n).int Reg.ANA_INT_STATUS_OUT_SHORT
/-- PRESENT and the JACK bits, and what the absence of a plug does (R416 to R418). -/
def jackShow (s : State) : State :=
  let s := s.set Reg.ANA_JACK_STAT_PRESENT (maskOf ((List.range 7).filter s.plugged) 7)
  s.forN 4 (fun s n =>
    let s := s.setB Reg.ANA_OUTn_STAT_JACK (s.plugged (outJack n)) n
    if s.jackMuted n then s.anaDown n else s)
/-- Jack mute holds at every tick: an output whose jack is absent is stopped, also once the override no longer names it, or
once JACK_MUTE is written (R418). -/
def jackTick (s : State) : State := s.forN 4 (fun s n => if s.jackMuted n then s.anaDown n else s)
/-- Row JACK_ACCEPT: a sense level has been stable for 20 ms (R416). -/
def jackAccept (b : Nat) (high : Bool) (s : State) : State :=
  if nth s.ana.jack b true = high then s
  else jackShow (({ s with ana := { s.ana with jack := setNth s.ana.jack b high } } : State).int Reg.ANA_INT_STATUS_JACK)

/-! ## The AES3 receiver (R419 to R425, R435, R436) -/

/-- CLASS of a rate in 0.01 Hz (R435). -/
def rateClass (r : Nat) : Nat :=
  let near (nom : Nat) : Bool := decide (200 * ((100 * nom : Nat) - (r : Nat) : Int).natAbs ≤ r)
  ((indexed [32000, 44100, 48000, 88200, 96000, 176400, 192000]).find? (fun p => near p.2)).elim 0 (fun p => p.1 + 1)
/-- A gain or loss of lock of the receiver: LOCK, its interrupts, the rate reference and the converters (R420, R436, R198). The frames
that it held and the block in progress are lost; NONAUDIO ends under R423 alone. -/
def State.aesLock (s : State) (on : Bool) : State :=
  if s.is Reg.ANA_AES_STAT_LOCK = on then s
  else
    let s := (s.setB Reg.ANA_AES_STAT_LOCK on).int Reg.ANA_INT_STATUS_AES_LOCK
    let s := s.set Reg.ANA_AES_STAT_CLASS (if on then rateClass (s.get Reg.ANA_AES_RATE_RATE) else 0)
    let s := (s.set Reg.ANA_AES_RATE_REF_RATE (s.get Reg.ANA_AES_RATE_RATE)).int Reg.ANA_INT_STATUS_AES_RATE
    let s := s.srcLock 0x05 0 on
    let s : State := { s with aes := { s.aes with guard := s.is Reg.ANA_AES_CFG_GUARD, held := [], first := none, bad := 0, pa := false, cs := [0, 0] } }
    if on then s else s.event.raise 0x62 0
/-- Row AES_LOCK: two complete blocks of preambles have been found (R420). -/
def aesLockOn (s : State) : State := if s.is Reg.ANA_AES_CFG_EN && s.domAt 53 = 0 then s.aesLock true else s
/-- A write to ANA_AES_CFG; EN 0 stops the receiver. -/
def aesCfgWrite (v : Word) (s : State) : Act :=
  let s := s.setWord Reg.ANA_AES_CFG v
  (if s.is Reg.ANA_AES_CFG_EN then s else s.aesLock false, stOk)
/-- Entry into NONAUDIO; the frames the guard holds are replaced with 0 (R423 to R425). -/
def aesNonaudio (burst : Bool) (s : State) : State :=
  let s := if burst then s.setB Reg.ANA_AES_STAT_NA_BURST true else s.setB Reg.ANA_AES_STAT_NA_CS true
  if s.is Reg.ANA_AES_STAT_NONAUDIO then s
  else
    let s := ((s.setB Reg.ANA_AES_STAT_NONAUDIO true).int Reg.ANA_INT_STATUS_AES_NONAUDIO).event.raise 0x63 0
    { s with aes := { s.aes with held := s.aes.held.map (fun _ => (some 0, some 0)), last := [0, 0], miss := [0, 0], ramp := 0 } }
/-- One frame delivered to the endpoint (R421, R424): exactly 0 in NONAUDIO, and a ramp of 64 frames after it. -/
def aesDeliver (f : Option Int × Option Int) (s : State) : State :=
  let na := s.is Reg.ANA_AES_STAT_NONAUDIO
  let r := s.aes.ramp
  let w (x : Int) : Int := if na then 0 else if r < 64 then ratRne ((x : Rat) * ((r : Nat) : Rat) / 64) else x
  let put (s : State) (k : Nat) (x : Option Int) : State := match x with
    | some v => { s with aes := { s.aes with last := setNth s.aes.last k (w v), miss := setNth s.aes.miss k 0 } }
    | none => { s with aes := { s.aes with miss := modNth s.aes.miss k (fun j => min 40 (j + 1)) } }
  let s := put (put s 0 f.1) 1 f.2
  let s : State := if na then s else { s with aes := { s.aes with ramp := min 64 (r + 1) } }
  if f.1.isSome || f.2.isSome then s.srcSample 0x05 0 else s
/-- A complete frame: delivered at once, or behind the 192 frames of the guard (R425). -/
def aesFrame (f : Option Int × Option Int) (s : State) : State :=
  let s : State := { s with aes := { s.aes with quiet := s.aes.quiet + 1 } }
  if !s.aes.guard then aesDeliver f s
  else
    let h := s.aes.held ++ [f]
    match h with
    | x :: r => if 192 < h.length then aesDeliver x { s with aes := { s.aes with held := r } } else { s with aes := { s.aes with held := h } }
    | [] => s
/-- Row AES_SUBFRAME: a subframe of a locked receiver (R421, R423): its place in the block, its 24-bit sample, its
channel-status and validity bits, and whether it has a parity error or a biphase or preamble error. -/
def aesSubframe (b : Bool) (index sample : Nat) (cs validity parity code : Bool) (s : State) : State :=
  if !s.is Reg.ANA_AES_STAT_LOCK then s
  else
    let k := b2n b
    let s := s.event
    let vbad := s.is Reg.ANA_AES_CFG_VMUTE && validity
    let s := if parity || vbad then s.inc Reg.ANA_AES_ERR_PARITY else s
    let s := if code then s.inc Reg.ANA_AES_ERR_CODE else s
    let s : State := { s with aes := { s.aes with bad := if code then s.aes.bad + 1 else 0 } }
    if 8 ≤ s.aes.bad then s.aesLock false
    else
      let good := !(parity || code)
      let x : Option Int := if good && !vbad then some (sext 24 sample) else none
      let s := s.setB Reg.ANA_AES_STAT_VALIDITY (if b then s.is Reg.ANA_AES_STAT_VALIDITY || validity else validity)
      let s : State := { s with aes := { s.aes with cs := modNth s.aes.cs k (fun w => if cs then w ||| 2 ^ index else w) } }
      let up := sample / 256 % 65536
      let burst := good && s.aes.pa && up = 0x4E1F
      let s : State := { s with aes := { s.aes with pa := good && up = 0xF872, quiet := if burst then 0 else s.aes.quiet } }
      let na := s.is Reg.ANA_AES_CFG_NA_EN
      let s := if na && good && cs && index = 1 then aesNonaudio false { s with aes := { s.aes with clean := 0 } } else s
      let s := if na && burst then aesNonaudio true s else s
      if !b then { s with aes := { s.aes with first := x } }
      else aesFrame (s.aes.first, x) { s with aes := { s.aes with first := none } }
/-- The CRC of byte 23 of a professional channel-status block: x⁸ + x⁴ + x³ + x² + 1 over bytes 0 to 22, seeded with ones,
each byte taken least significant bit first, as AES3 defines it (log entry 19). -/
def csCrc (bytes : List Nat) : Nat :=
  bytes.foldl (fun c b => (List.range 8).foldl (fun (c : Nat) i =>
    let x := (bit b i) != (bit c 0)
    let c := c / 2
    if x then (BitVec.ofNat 8 c ^^^ 0xB8#8).toNat else c) c) 0xFF
/-- Row AES_BLOCK_END: the channel status of a complete block is copied, after the CRC check in the professional format
(R422, R423). -/
def aesBlockEnd (s : State) : State :=
  if !s.is Reg.ANA_AES_STAT_LOCK then s
  else
    let bits := s.aes.cs
    let s := s.forN 2 (fun s c =>
      let w := nth bits c 0
      let byte (k : Nat) : Nat := w / 2 ^ (8 * k) % 256
      let pro := bit w 0
      let bytes := (List.range 24).map byte
      let s := s.setB Reg.ANA_AES_STAT_PRO pro
      if pro && csCrc (bytes.take 23) ≠ byte 23 then s.inc Reg.ANA_AES_ERR_CS_CRC
      else s.forN 6 (fun s k => s.setWord Reg.ANA_AES_CSc_k (BitVec.ofNat 32 (w / 2 ^ (32 * k) % 2 ^ 32)) c k))
    let clean := bits.all (fun w => !bit w 1)
    { s with aes := { s.aes with cs := [0, 0], clean := if clean then s.aes.clean + 1 else 0 } }
/-- Row NONAUDIO_END: bit 1 has read 0 for 2 complete blocks and no preamble pair has appeared for 8,192 frames (R423). -/
def nonaudioEnd (s : State) : State :=
  if s.is Reg.ANA_AES_STAT_NONAUDIO && decide (2 ≤ s.aes.clean) && decide (8192 ≤ s.aes.quiet) then
    let s := ((s.setB Reg.ANA_AES_STAT_NONAUDIO false).setB Reg.ANA_AES_STAT_NA_CS false).setB Reg.ANA_AES_STAT_NA_BURST false
    { s with aes := { s.aes with ramp := 0 } }
  else s
/-- The value that the gather places for AES3 channel c: the sample most recently received, or grout (R197, R421). -/
def State.aesValue (s : State) (c : Nat) : F32 :=
  if s.is Reg.ANA_AES_STAT_NONAUDIO then 0#32 else sampleToF32 (groutInt (nth s.aes.last c 0) (nth s.aes.miss c 0))
/-- Row RATE_MEASURE for the AES3 input: a measurement in 0.01 Hz (R435, R436). -/
def aesRate (r : Nat) (s : State) : State :=
  let ref := s.get Reg.ANA_AES_RATE_REF_RATE
  let cls := if s.is Reg.ANA_AES_STAT_LOCK then rateClass r else 0
  let far := decide (ref < 200 * ((r : Int) - (ref : Int)).natAbs)
  let chg := far || cls ≠ s.get Reg.ANA_AES_STAT_CLASS
  let s := (s.set Reg.ANA_AES_RATE_RATE r).set Reg.ANA_AES_STAT_CLASS cls
  let s := s.srcRate 0x05 0 (r * 2 ^ 24 / (100 * rateHz s.rate)) far
  if chg then (s.set Reg.ANA_AES_RATE_REF_RATE r).int Reg.ANA_INT_STATUS_AES_RATE else s
/-- ANA_CTRL.CNT_CLR. -/
def actAnaCntClr (s : State) : State := (s.forN 4 (fun s n => s.set Reg.ANA_ADCn_STAT_OVL 0 n)).setWord Reg.ANA_AES_ERR 0#32

/-- Row ADC_GAIN_APPLY. -/
def execAdcGainApply (n : Fin 4) (s : State) : Host.Outcome State Fault Refusal := .next (adcGainApply n.val s)
/-- Row ADC_SETTLED. -/
def execAdcSettled (n : Fin 4) (s : State) : Host.Outcome State Fault Refusal := .next (adcSettled n.val s)
/-- Row ADC_RAMP_END. -/
def execAdcRampEnd (n : Fin 4) (s : State) : Host.Outcome State Fault Refusal := .next (adcRampEnd n.val s)
/-- Row OUT_RAMP_END. -/
def execOutRampEnd (n : Fin 4) (s : State) : Host.Outcome State Fault Refusal := .next (outRampEnd n.val s)
/-- Row OUT_POWER_UP_END. -/
def execOutPowerUpEnd (n : Fin 4) (s : State) : Host.Outcome State Fault Refusal := .next (outPowerUpEnd n.val s)
/-- Row OUT_POWER_DOWN_END. -/
def execOutPowerDownEnd (n : Fin 4) (s : State) : Host.Outcome State Fault Refusal := .next (outPowerDownEnd n.val s)
/-- Row CP_FAIL. -/
def execCpFail (s : State) : Host.Outcome State Fault Refusal := .next (cpFail s)
/-- Row CP_RECOVER. -/
def execCpRecover (s : State) : Host.Outcome State Fault Refusal := .next (cpRecover s)
/-- Row OUT_SHORT. -/
def execOutShort (n : Fin 4) (s : State) : Host.Outcome State Fault Refusal := .next (outShort n.val s)
/-- Row OUT_SHORT_END (R414). -/
def execOutShortEnd (n : Fin 4) (s : State) : Host.Outcome State Fault Refusal := .next (s.setB Reg.ANA_OUTn_STAT_SHORT false n.val)
/-- Row JACK_ACCEPT. -/
def execJackAccept (input : Fin 7) (high : Bool) (s : State) : Host.Outcome State Fault Refusal := .next (jackAccept input.val high s)
/-- Row AES_LOCK. -/
def execAesLock (s : State) : Host.Outcome State Fault Refusal := .next (aesLockOn s)
/-- Row AES_LOCK_LOSS (R420). -/
def execAesLockLoss (s : State) : Host.Outcome State Fault Refusal := .next (s.aesLock false)
/-- Row AES_SUBFRAME. -/
def execAesSubframe (b : Bool) (index : Fin 192) (sample : BitVec 24) (cs validity parity code : Bool) (s : State) :
    Host.Outcome State Fault Refusal := .next (aesSubframe b index.val sample.toNat cs validity parity code s)
/-- Row AES_BLOCK_END. -/
def execAesBlockEnd (s : State) : Host.Outcome State Fault Refusal := .next (aesBlockEnd s)
/-- Row NONAUDIO_END. -/
def execNonaudioEnd (s : State) : Host.Outcome State Fault Refusal := .next (nonaudioEnd s)

end Sys2Proof.Machine
end

