-- ==== Sys2Proof/Machine/AuxDac.lean ====
section
/-! DEFINITION. The auxiliary ladder DACs and their generators (R444 to R458). -/
namespace Sys2Proof.Machine
open Sys2Proof

/-- An aux channel. -/
def State.ax (s : State) (n : Nat) : AuxCh := nth s.aux n AuxCh.reset
/-- An aux channel changed. -/
def State.modAux (s : State) (n : Nat) (f : AuxCh → AuxCh) : State := { s with aux := modNth s.aux n f }
/-- Mode of a channel: 0 OFF, 1 START-UP, 2 NORMAL, 3 TEST, 4 RECOVERY (R451). -/
def State.auxMode (s : State) (n : Nat) : Nat := s.get Reg.AUXn_STATE_MODE n
/-- A channel's interrupt bit: 0 LOW, 1 UNDER, 2 MODE, 3 SHORT. -/
def State.auxInt (s : State) (n k : Nat) : State := s.int Reg.AUX_INT_STATUS (4 * n + k)
/-- Whether a channel's span is bipolar (R445). -/
def State.auxBipolar (s : State) (n : Nat) : Bool := decide (2 ≤ s.get Reg.AUXn_CFG_SPAN n)
/-- The ladder code of a code: 32,768 is added on a bipolar span (R445). -/
def State.auxLadder (s : State) (n c : Nat) : Nat := if s.auxBipolar n then (c + 32768) % 65536 else c
/-- The voltage at a channel's output in this tick, in volts: V_span × c / 65,536, or V_half × c / 32,768, of the code that drives
it, and 0 V while it is released (R445, R448). -/
def State.auxVolts (s : State) (n : Nat) : Rat :=
  let v : Rat := if s.get Reg.AUXn_CFG_SPAN n % 2 = 0 then 5 else 10
  match (s.ax n).pin with
  | none => 0
  | some c => if s.auxBipolar n then v * ((c : Int) - 32768 : Int) / 32768 else v * (c : Nat) / 65536
/-- QSTAT.LEVEL. -/
def showQueue (s : State) (n : Nat) : State := s.set Reg.AUXn_QSTAT_LEVEL (s.ax n).queue.length n
/-- A channel's queue emptied (R449). -/
def auxEmpty (n : Nat) (s : State) : State := showQueue (s.modAux n (fun c => { c with queue := [] })) n
/-- A channel taken OFF at once: its output is released (R448, R451). -/
def auxOff (n : Nat) (s : State) : State :=
  let was := s.auxMode n
  let s := s.modAux n (fun c => { c with powered := none, req := 0, sync := false, pin := none })
  if was = 0 then s else ((s.set Reg.AUXn_STATE_MODE 0 n).set Reg.AUXn_STATE_WAVE 0 n).auxInt n 2
/-- A channel's mode set, its generator restarted at phase 0 with its noise source reseeded (R454). -/
def auxEnter (n m : Nat) (s : State) : State :=
  let s := s.modAux n (fun c => { c with phase := 0, noise := 1 + n, pink := List.replicate 12 0#48, sync := false })
  if s.auxMode n = m then s else (s.set Reg.AUXn_STATE_MODE m n).auxInt n 2
/-- Rounding to the nearest integer, halves away from zero. -/
def roundAway (q : Rat) : Int := if q < 0 then -ratFloor (-q + 1 / 2) else ratFloor (q + 1 / 2)
/-- The generator step of R455: the code, and the channel with its phase and noise advanced. -/
def State.auxGen (s : State) (n : Nat) : Nat × AuxCh :=
  let c := s.ax n
  let wave := if s.auxMode n = 2 then 0 else s.get Reg.AUXn_GEN_WAVE n
  let p : Rat := ((c.phase : Nat) : Rat) / ((2 ^ 32 : Nat) : Rat)
  let noise := noiseAdv 16 c.noise
  let w := noiseWhite noise
  let fsu : Rat := ((rateHz s.rate : Nat) : Rat) / ((c.div : Nat) : Rat)
  let cf := pinkSections (fsu / 4800) fsu
  let pk := pinkRun cf (f32Ext (f32OfRat w)) c.pink
  let clip1 (x : Rat) : Rat := if 1 < x then 1 else if x < -1 then -1 else x
  let v : Rat := match wave with
    | 0 => f32Rat (sineAt c.phase)
    | 1 => 1 - 4 * ratAbs (p - 1 / 2)
    | 2 => 2 * p - 1
    | 3 => w
    | _ => clip1 ((extVal pk.1).rat / 4 / pinkSigma cf)
  let bi := s.auxBipolar n
  let ofs : Int := if bi then sext 16 (s.get Reg.AUXn_GEN_OFS_OFFSET n) else (s.get Reg.AUXn_GEN_OFS_OFFSET n : Nat)
  let x := clampI (if bi then -32768 else 0) (if bi then 32767 else 65535) (ofs + roundAway (((s.get Reg.AUXn_GEN_AMP n : Nat) : Rat) * v))
  (toTwos 16 x, { c with
    phase := (c.phase + s.get Reg.AUXn_GEN_INC n) % 2 ^ 32, noise := noise, pink := if wave = 4 then pk.2 else c.pink })
/-- The code of a 24-bit endpoint sample (R450). -/
def auxEngine (bipolar : Bool) (x : Int) : Nat := if bipolar then toTwos 24 x / 256 else if x < 0 then 0 else (x / 128).toNat
/-- Whether the present tick is an update tick of a channel whose update has not been made yet (R447). -/
def State.auxDue (s : State) (n : Nat) : Bool :=
  let c := s.ax n
  s.ks.committed && s.ks.count % c.div = 0 && c.done ≠ some s.ks.count && s.domAt 52 = 0
/-- The mode that takes effect at this update, if any (R451 to R453). -/
def State.auxNext (s : State) (n : Nat) : Option Nat :=
  let c := s.ax n
  let m := s.auxMode n
  let k := s.ks.count
  if m = 0 then match c.powered with
    | some t => if 100 * rateHz s.rate ≤ (k - t) * 1000000 then some 1 else none
    | none => none
  else if nth s.auxRec n false && m ≠ 4 then some 4
  else if c.req = 1 && (m ≠ 4 || s.haltFree) && m ≠ 2 then some 2
  else if c.req = 2 && (m = 1 || m = 2) then some 3
  else if m = 1 && decide (s.get Reg.AUXn_HOLD_START_TICKS n ≤ k - c.entered) then some 2
  else none
/-- The head entry of the queue removed and latched; an empty queue holds the last code (R449). -/
def auxPop (n : Nat) (s : State) : State :=
  match (s.ax n).queue with
  | v :: r =>
    let s := showQueue ((s.modAux n (fun c => { c with queue := r })).set Reg.AUXn_STATE_CODE v n) n
    if r.length = s.get Reg.AUXn_CFG_LOW_MARK n then s.auxInt n 0 else s
  | [] => (s.inc Reg.AUXn_QSTAT_UNDER n).auxInt n 1
/-- The generator step that every update performs: the channel's phase and noise advance, and `use` latches its code (R455,
R456). -/
def auxStep (n : Nat) (use : Bool) (s : State) : State :=
  let (v, c) := s.auxGen n
  let s := s.modAux n (fun _ => c)
  if use then s.set Reg.AUXn_STATE_CODE v n else s
/-- Row AUX_UPDATE: the update of a channel in the tail of an update tick (R447 to R455). -/
def auxUpdate (n : Nat) (s : State) : State :=
  if !s.auxDue n then s
  else
    let next := s.auxNext n
    let sync := (s.ax n).sync
    let rec' := nth s.auxRec n false
    let s : State := { s.modAux n (fun c => { c with done := some s.ks.count, req := if c.req ≠ 0 && s.auxMode n ≠ 0 then 0 else c.req }) with
      auxRec := if rec' then setNth s.auxRec n false else s.auxRec }
    let s := match next with
      | some 1 => (auxEnter n 1 s).modAux n (fun c => { c with powered := none, entered := s.ks.count })
      | some m => auxEnter n m s
      | none => if sync then auxEnter n (s.auxMode n) s else s
    let m := s.auxMode n
    if m = 0 then s
    else
      let s := s.set Reg.AUXn_STATE_WAVE (if m = 2 then 0 else s.get Reg.AUXn_GEN_WAVE n) n
      if m = 2 then match s.get Reg.AUXn_CFG_SRC n with
        | 0 => auxPop n (auxStep n false s)
        | 1 => (auxStep n false s).set Reg.AUXn_STATE_CODE (auxEngine (s.auxBipolar n) (s.ax n).eng) n
        | _ => auxStep n true s
      else if s.is Reg.AUXn_GEN_SPECIAL n then auxStep n true s
      else (auxStep n false s).set Reg.AUXn_STATE_CODE (s.get Reg.AUXn_HOLD_CODE n) n
/-- The edge of a tick: each output moves to the code latched in the tail before it, holds 0 V in its power-up, and is released
while the channel is OFF; the divisors take effect from the head (R447, R448, R451). -/
def auxHead (s : State) : State :=
  s.forN 4 (fun s n =>
    let pin (c : AuxCh) : Option Nat :=
      if s.auxMode n ≠ 0 then some (s.auxLadder n (s.get Reg.AUXn_STATE_CODE n))
      else if c.powered.isSome then some (s.auxLadder n 0) else none
    s.modAux n (fun c => { c with div := max 1 (s.get Reg.AUXn_CFG_DIV n), pin := pin c }))
/-- A write to AUXn_CFG (R445, R447, R448, R451). -/
def auxCfgWrite (n : Nat) (v : Word) (s : State) : Act :=
  let w := v.toNat
  let was := s.is Reg.AUXn_CFG_EN n
  if bitsOf w 25 24 = 3 ∨ bitsOf w 15 0 = 0 then (s, stAccess)
  else if was && bitsOf w 29 28 ≠ s.get Reg.AUXn_CFG_SPAN n then (s, stBusy)
  else
    let s := s.setWord Reg.AUXn_CFG v n
    if bit w 31 then (if was && (s.auxMode n ≠ 0 || (s.ax n).powered.isSome) then s else s.modAux n (fun c => { c with powered := some s.ks.count, pin := some (s.auxLadder n 0) }), stOk)
    else (if was then auxEmpty n (auxOff n s) else s, stOk)
/-- AUXn_CTRL.MODE_REQ (R452). -/
def actAuxMode (n r : Nat) (s : State) : Act :=
  let m := s.auxMode n
  if r = 0 then (s, stOk)
  else if r = 3 then (s, stAccess)
  else if r = 1 && m = 2 then (s, stOk)
  else if (r = 1 && (m = 1 || m = 3 || (m = 4 && s.haltFree))) || (r = 2 && (m = 1 || m = 2)) then
    (s.modAux n (fun c => { c with req := r }), stOk)
  else (s, stBusy)
/-- AUXn_CTRL.FLUSH (R449). -/
def actAuxFlush (n : Nat) (s : State) : Act := (auxEmpty n s, stOk)
/-- AUXn_CTRL.SYNC (R454). -/
def actAuxSync (n : Nat) (s : State) : Act := (s.modAux n (fun c => { c with sync := true }), stOk)
/-- A write to AUXn_QUEUE (R449). -/
def auxQueueWrite (n : Nat) (v : Word) (s : State) : Act :=
  if 64 ≤ (s.ax n).queue.length then (s.inc Reg.AUXn_QSTAT_OVER n, stAccess)
  else (showQueue (s.modAux n (fun c => { c with queue := c.queue ++ [v.toNat % 65536] })) n, stOk)
/-- A write to AUXn_GEN; waveforms 5 to 7 do not exist. -/
def auxGenWrite (n : Nat) (v : Word) (s : State) : Act :=
  if 5 ≤ bitsOf v.toNat 31 29 then (s, stAccess) else (s.setWord Reg.AUXn_GEN v n, stOk)
/-- AUX_CTRL.CNT_CLR. -/
def actAuxCntClr (s : State) : State := s.forN 4 (fun s n => (s.set Reg.AUXn_QSTAT_OVER 0 n).set Reg.AUXn_QSTAT_UNDER 0 n)
/-- Row AUX_SHORT: an output's current limit starts to act (R458). -/
def auxShort (n : Nat) (s : State) : State :=
  if s.is Reg.AUXn_STATE_SHORT n then s else ((s.setB Reg.AUXn_STATE_SHORT true n).event.raise 0x65 n).auxInt n 3

/-- Row AUX_UPDATE. -/
def execAuxUpdate (n : Fin 4) (s : State) : Host.Outcome State Fault Refusal := .next (auxUpdate n.val s)
/-- Row AUX_START_END: the end of START-UP, at an update tick (R451). -/
def execAuxStartEnd (n : Fin 4) (s : State) : Host.Outcome State Fault Refusal :=
  .next (if s.auxMode n.val = 1 && decide (s.get Reg.AUXn_HOLD_START_TICKS n.val ≤ s.ks.count - (s.ax n.val).entered) then
    auxUpdate n.val s else s)
/-- Row AUX_SHORT. -/
def execAuxShort (n : Fin 4) (s : State) : Host.Outcome State Fault Refusal := .next (auxShort n.val s)
/-- Row AUX_SHORT_END (R458). -/
def execAuxShortEnd (n : Fin 4) (s : State) : Host.Outcome State Fault Refusal := .next (s.setB Reg.AUXn_STATE_SHORT false n.val)

end Sys2Proof.Machine
end

