-- ==== Sys2Proof/Machine/Pwr.lean ====
section
/-! DEFINITION. The power stage and the barrier link: channel states, control requests, releases and mutes, the safe state,
the switching frequency, phases, detectors, DN and UP frames (R13 to R20, R26 to R30, R332 to R370). -/
namespace Sys2Proof.Machine
open Sys2Proof

/-! ## Channels -/

/-- A channel's structure. -/
def State.pc (s : State) (n : Nat) : PwrCh := nth s.pwr.chans n PwrCh.reset
/-- A channel's structure changed. -/
def State.modPc (s : State) (n : Nat) (f : PwrCh → PwrCh) : State := { s with pwr := { s.pwr with chans := modNth s.pwr.chans n f } }
/-- A fault that the next UP frame reports (R56): 0 raise, 1 becomes ACTIVE, 2 ends, 3 a raise at a planted error. -/
def State.hvFault (s : State) (src unit what : Nat) : State :=
  if s.pwr.on then { s with pwr := { s.pwr with faults := s.pwr.faults ++ [(src, unit, what)] } } else s
/-- A channel's state code set (R26). -/
def State.setCh (s : State) (n v : Nat) : State :=
  if s.ch n = v then s else (s.set Reg.PWR_CHn_STATE_STATE v n).int Reg.PWR_INT_STATUS_STATE
/-- ACTION of a channel set; its endings raise the interrupt bit. -/
def State.setAction (s : State) (n v : Nat) : State :=
  let s := s.set Reg.PWR_CHn_STATE_ACTION v n
  if 3 ≤ v then s.int Reg.PWR_INT_STATUS_ACTION else s
/-- A pending action or a release before its edge cancelled (R350). -/
def State.cancelAction (s : State) (n : Nat) : State :=
  let c := s.pc n
  if c.act = 0 && c.edge.isNone then s
  else (s.modPc n (fun c => { c with act := 0, edge := none })).setAction n 6
/-- PHASES and DEGRADED of a channel, and PWR_STATUS.DEGRADED (R365). -/
def State.showPhases (s : State) (n : Nat) : State :=
  let out := (s.pc n).out
  let s := (s.set Reg.PWR_CHn_STATE_PHASES (if s.ch n = 0 then 0 else 15 - out) n).setB Reg.PWR_CHn_STATE_DEGRADED (out ≠ 0) n
  let s := s.setB Reg.BST_CHn_STATE_DEGRADED (out ≠ 0) n
  s.set Reg.PWR_STATUS_DEGRADED (maskOf ((List.range 8).filter (fun k => (s.pc k).out ≠ 0)) 8)
/-- Each leg of a channel has at least one phase in service. -/
def PwrCh.legsOk (c : PwrCh) : Bool := bitsOf c.out 3 2 ≠ 3 && bitsOf c.out 1 0 ≠ 3
/-- Channels that a detection of the power-control die holds in the safe state now. -/
def State.hvHold (s : State) : Nat :=
  let p := s.pwr
  if p.dnLost || p.vdrvLow || p.held ≠ [] || s.get Reg.PWR_SW_STATUS_SOURCE = 2 then 255
  else maskOf ((List.range 8).filter (fun n => nth p.hot (n / 2) false || (nth p.bsts (n / 2) ⟨0, false, 40⟩).stopped ||
    !(s.pc n).legsOk)) 8
/-- Channels that SAFE_REQ holds: those of the last DN frame if it was accepted, else every channel (R14, R535). -/
def State.reqHold (s : State) : Nat := if s.pwr.safeReq then (if s.pwr.dnOk then s.pwr.dnMask else 255) else 0
/-- PWR_STATUS.SAFE and SAFE_IND. -/
def State.showSafe (s : State) : State :=
  let low := maskOf ((List.range 8).filter (fun n => (s.pc n).low)) 8
  let live := maskOf ((List.range 8).filter (fun n => s.ch n ≠ 0)) 8
  let hv := s.hvHold
  let own := maskOf ((List.range 8).filter (fun n => (s.pc n).low && decide (2 ≤ s.get Reg.PWR_CHn_STATE_CAUSE n))) 8
  (s.set Reg.PWR_STATUS_SAFE ((hv ||| s.reqHold ||| low) &&& live)).setB Reg.PWR_STATUS_SAFE_IND ((hv ||| own) &&& live ≠ 0)
/-- The safe state entered by one channel with a cause: HELD from that moment, low-side on, pending actions cancelled (R14,
R29, R350, R353). -/
def State.safeOne (s : State) (cause n : Nat) : State :=
  if s.ch n = 0 then s
  else
    let s := s.cancelAction n
    let s := if s.get Reg.PWR_CHn_STATE_ACTION n = 2 then s.setAction n 6 else s
    let s := (s.set Reg.PWR_CHn_STATE_CAUSE cause n).setB Reg.PWR_CHn_STATE_READY false n
    let s := (s.modPc n (fun c => { c with low := true, ls := 0, le1 := 0, le2 := 0, lq1 := 0, lq2 := 0, m := 0 })).int
      Reg.PWR_INT_STATUS_SAFE
    let s : State := if s.bst.diag.step ≠ .idle && s.bst.diag.chans.head? = some n then
      { s with bst := { s.bst with diag := { s.bst.diag with faulted := true } } } else s
    s.setCh n 1
/-- The safe state forced on the channels of a mask, but for those of another mask that are in it already. -/
def State.safeNew (s : State) (already mask cause : Nat) : State :=
  (s.forN 8 (fun s n => if bit mask n && (!bit already n || decide (2 ≤ s.ch n)) then s.safeOne cause n else s)).showSafe
/-- The safe state forced on the channels of a mask that are not already in it. -/
def State.hvSafe (s : State) (mask cause : Nat) : State := s.safeNew (s.get Reg.PWR_STATUS_SAFE) mask cause
/-- Whether the active image configures a channel (R28). -/
def State.configured (s : State) (n : Nat) : Bool := bit s.served n
/-- State code of the power domain of a channel (D56 to D59). -/
def State.chDomain (s : State) (n : Nat) : Nat := (nth s.dom.doms (56 + n / 2) ⟨0, false, false⟩).state
/-- OFF to HELD and HELD to OFF (R28, R583): a channel is HELD while its domain is at L0, the active image configures it
and the power-control die has had a valid DN frame. -/
def chFollow (s : State) : State :=
  (s.forN 8 (fun s n =>
    let want := s.pwr.on && s.pwr.dnSeen && s.chDomain n = 0 && s.configured n
    if s.ch n = 0 && want then (s.setCh n 1).showPhases n
    else if s.ch n = 1 && !want then ((s.modPc n (fun c => { c with low := false })).setCh n 0).showPhases n else s)).showSafe
/-- Every channel OFF at once: the power-control die has no supply, or its channels' domains leave L0. -/
def allOff (s : State) : State :=
  (s.forN 8 (fun s n =>
    let s := s.cancelAction n
    let s := (s.setB Reg.PWR_CHn_STATE_READY false n).modPc n (fun c => { c with low := false, m := 0 })
    (s.setCh n 0).showPhases n)).showSafe

/-! ## Control requests (R344 to R352) -/

/-- Whether ARM is barred on a channel (R348, R614). -/
def State.armBarred (s : State) (n : Nat) : Bool :=
  bit s.chBar n || s.flt.capstone || !(s.pc n).legsOk || s.pwr.held ≠ [] || (nth s.pwr.bsts (n / 2) ⟨0, false, 40⟩).stopped ||
    bit (s.hvHold ||| s.reqHold) n
/-- π to 120 bits. -/
def piRat : Rat := (piFix : Rat) / ((2 ^ 120 : Nat) : Rat)
/-- The coefficients KI, B0, B1, B2, A1, A2 and RA of R339, before they are rounded, from L in nH and C in nF. `r` is (ωc / ω0)², `a`
and `b` are ωc·cot(ωcT/2) over ωz and over ωp. The loop gain that K sets to 1 is that of the compensator of B0 to A2 through the
plant, the integrator apart (DEDUCED, log entry 16). -/
def loopCoefs (l c : Nat) : List Rat :=
  let r : Rat := 2 * piRat * piRat * ((l * c : Nat) : Rat) / 10 ^ 8
  let t := tanPi (1000 / 61440)
  let a := 3 / t
  let b := 1 / (3 * t)
  let k := sqrtRat ((1 - r) * (1 - r) + 196 / 100 * r) / 9
  let d := (1 + b) * (1 + b)
  [k * 2 * piRat * 1000 / 61440 / 4, k * (1 + a) * (1 + a) / d, 2 * k * (1 + a) * (1 - a) / d, k * (1 - a) * (1 - a) / d,
    2 * (1 - b) / (1 + b), (1 - b) * (1 - b) / d, 14 / 10 * sqrtRat (2 * ((l : Nat) : Rat) / ((c : Nat) : Rat))]
/-- A coefficient as the power-control die writes it. -/
def loopCoef (l c k : Nat) : F32 :=
  if k = 6 ∧ c = 0 then Config.openRa l
  else if k = 6 ∧ l = 0 then 0#32
  else f32Next (Config.coefUp l c k) (nth (loopCoefs l c) k 0)
/-- The precharge source of a channel is connected from the rail to its bridge outputs: on entry to ARMED, until it leaves it (R344,
R345). -/
def State.precharge (s : State) (n : Nat) : Bool := s.ch n = 2
/-- Entry to ARMED: the converter's target at its 40 V minimum until the next DN frame carries one, the legs at 50 % duty, the loop
state cleared, coefficients computed with LOOP_MAN at 0 (R339, R344). -/
def State.arm (s : State) (n : Nat) : State :=
  let s : State := { s with pwr := { s.pwr with bsts := modNth s.pwr.bsts (n / 2) (fun b => { b with target := 40 }) } }
  let s := s.modPc n (fun c => { c with ls := 0, le1 := 0, le2 := 0, lq1 := 0, lq2 := 0, m := 0, low := false })
  let s := if s.is Reg.PWR_CHn_CFG_LOOP_MAN n then s
    else s.forN 7 (fun s k => s.setWord Reg.PWR_CHn_COEFk
      (loopCoef (s.get Reg.PWR_CHn_FILT_L_NH n) (s.get Reg.PWR_CHn_FILT_C_NF n) k) n k)
  (s.setB Reg.PWR_CHn_STATE_READY false n).setCh n 2
/-- ARM (R347). -/
def actChArm (n : Nat) (s : State) : Act :=
  if s.ch n = 1 && !s.armBarred n then (s.arm n, stOk) else (s, stBusy)
/-- The target tick of a timed request. -/
def State.chTick (s : State) (n : Nat) : Nat := s.get64 Reg.PWR_CHn_TICK_LO Reg.PWR_CHn_TICK_HI n
/-- A release or mute scheduled at the tick k at which it takes effect (R349, R350). One that is LATE leaves a pending action as it
is (R53). -/
def State.schedule (s : State) (n act : Nat) (timed : Bool) : State :=
  let k := s.ks.count
  if timed && decide (s.chTick n ≤ k) then s.setAction n 4
  else
    ((s.cancelAction n).modPc n (fun c => { c with act := act, timed := timed, target := if timed then s.chTick n else k + 4 })).setAction n act
/-- RELEASE (R347, R349, R30). -/
def actChRelease (n : Nat) (s : State) : Act :=
  if s.ch n = 2 then (s.schedule n 1 (s.is Reg.PWR_CHn_CTRL_TIMED n), stOk) else (s, stBusy)
/-- An ARMED channel returned to HELD with the gate drives still withheld. -/
def State.disarmed (s : State) (n : Nat) : State := ((s.cancelAction n).setB Reg.PWR_CHn_STATE_READY false n).setCh n 1
/-- MUTE (R347, R349). -/
def actChMute (n : Nat) (s : State) : Act :=
  if s.ch n = 2 then (s.disarmed n, stOk)
  else if s.ch n = 3 then (s.schedule n 2 (s.is Reg.PWR_CHn_CTRL_TIMED n), stOk)
  else (s, stBusy)
/-- DISARM (R347). -/
def actChDisarm (n : Nat) (s : State) : Act := if s.ch n = 4 then (s, stBusy) else (s.cancelAction n, stOk)
/-- A mute starts with due tick T (R352). -/
def State.startMute (s : State) (n t : Nat) : State :=
  let s := s.modPc n (fun c => { c with act := 0, edge := none, muteT := t, muteM := s.get Reg.PWR_CHn_CFG_MUTE_TICKS n })
  (s.setAction n 2).setCh n 4
/-- The mute due at this tick, if one is (R352). -/
def muteDue (n : Nat) (s : State) : State :=
  let c := s.pc n
  if c.act = 2 && decide (c.target ≤ s.ks.count) && s.ch n = 3 then s.startMute n s.ks.count else s
/-- The release due at this tick, if one is (R349). -/
def releaseDue (n : Nat) (s : State) : State :=
  let c := s.pc n
  let ready := s.is Reg.PWR_CHn_STATE_READY n
  if c.act = 1 && decide (c.target ≤ s.ks.count) && s.ch n = 2 then
    if ready then s.modPc n (fun c => { c with act := 0, edge := some s.ks.count })
    else if c.timed then (s.modPc n (fun c => { c with act := 0 })).setAction n 5 else s
  else s
/-- The release edge: at or after tick T + 2 the channel reads LIVE (R346). -/
def releaseEdge (n : Nat) (s : State) : State :=
  match (s.pc n).edge with
  | some t => if decide (t + 2 ≤ s.ks.count) && s.ch n = 2 then
      (((s.modPc n (fun c => { c with edge := none })).setB Reg.PWR_CHn_STATE_READY false n).setAction n 3).setCh n 3
    else s
  | none => s
/-- The end of a mute: at or after tick T + M + 2 the gate drives are withdrawn (R352). -/
def muteEnd (n : Nat) (s : State) : State :=
  let c := s.pc n
  if s.ch n = 4 && decide (c.muteT + c.muteM + 2 ≤ s.ks.count) then
    ((s.modPc n (fun c => { c with ls := 0, le1 := 0, le2 := 0, lq1 := 0, lq2 := 0, m := 0 })).setAction n 3).setCh n 1
  else s
/-- A start that the module makes itself: ARM and an untimed RELEASE, each with its effect under R347, subject to R348 (R351). -/
def State.ownStart (s : State) (n : Nat) : State :=
  let s := if s.ch n = 1 && !s.armBarred n then s.arm n else s
  if s.ch n = 2 then s.schedule n 1 false else s
/-- A stop that the module makes itself (R351). -/
def State.ownStop (s : State) (n : Nat) : State :=
  if s.ch n = 3 then (s.cancelAction n).startMute n s.ks.count
  else if s.ch n = 2 then s.disarmed n else s
/-- Own starts and stops asked for: each travels in the DN frame of this tick (R351). -/
def State.askStart (s : State) (mask : Nat) : State :=
  { s with pwr := { s.pwr with starts := s.pwr.starts ||| mask, stops := s.pwr.stops - (s.pwr.stops &&& mask) } }
/-- Own stops asked for. -/
def State.askStop (s : State) (mask : Nat) : State :=
  { s with pwr := { s.pwr with stops := s.pwr.stops ||| mask, starts := s.pwr.starts - (s.pwr.starts &&& mask) } }

/-! ## The loop (R336 to R341, R345) -/

/-- The current limit of a channel in mA: ILIM, halved while degraded (R341). -/
def State.ilim (s : State) (n : Nat) : Rat :=
  ((s.get Reg.PWR_CHn_CFG_ILIM n * 250 : Nat) : Rat) / (if (s.pc n).out ≠ 0 then 2 else 1)
/-- A rational limited to ±a. -/
def clampRat (a x : Rat) : Rat := if a < x then a else if x < -a then -a else x
/-- READY as a sample finds it (R345): rail at least 38 V, legs within 3 % of half the rail and 50 mV of each other, a
clock source, VDRV within the range of R577, and a phase in each leg. Millivolts. -/
def State.readyNow (s : State) (n : Nat) (vA vB : Int) (x : DriveSense) : Bool :=
  let near (v : Int) : Bool := decide (ratAbs ((v : Rat) - (x.rail : Rat) / 2) ≤ (x.rail : Rat) / 2 * 3 / 100)
  decide (38000 ≤ x.rail) && near vA && near vB && decide (ratAbs ((vA - vB : Int) : Rat) < 50) &&
    s.get Reg.PWR_SW_STATUS_SOURCE ≠ 2 && decide (11400 ≤ x.vdrv) && decide (x.vdrv ≤ 12600) && (s.pc n).legsOk
/-- The samples at 6.144 MHz of a tick (R336). -/
def tickSamples (rate : Nat) : Nat := 128 / 2 ^ rate
/-- The interpolator of R336 in full-scale units at a 6.144 MHz sample of the tick, from the samples applied, newest first. A causal
response of linear phase whose delay is 24 periods is symmetric about period 24 and spans 49 periods (DEDUCED, log entry 16). -/
def interpolate (rate : Nat) (hist : List Rat) (sub : Nat) : Rat :=
  ((indexed hist).map (fun p =>
    let t := sub + p.1 * tickSamples rate
    if t ≤ 48 then Config.interpTap rate ((t : Int) - 24).natAbs * p.2 else 0)).sum
/-- Duty of both phases of leg A and of leg B (R333). -/
def PwrCh.dutyA (c : PwrCh) : Rat := (1 + c.m) / 2
def PwrCh.dutyB (c : PwrCh) : Rat := (1 - c.m) / 2
/-- Carrier offset in degrees of phase `ph` of a channel: 0 to 3 is A0, A1, B0, B1 (R334). -/
def carrierOffset (n ph : Nat) : Rat :=
  ((n : Nat) : Rat) * 45 / 4 + (match ph with
    | 0 => 0
    | 1 => 180
    | 2 => 90
    | _ => 270)
/-- A coefficient as the loop uses it: the word unchanged (R340). -/
def State.coef (s : State) (n j : Nat) : Rat :=
  match f32Exact (s.word Reg.PWR_CHn_COEFk n j) with
  | some q => q
  | none => Config.wildCoef s.free j
/-- Every coefficient of a channel is a number. -/
def State.coefsFinite (s : State) (n : Nat) : Bool := (List.range 7).all (fun j => (f32Exact (s.word Reg.PWR_CHn_COEFk n j)).isSome)
/-- One sample at 6.144 MHz of the loop of a running channel: leg voltages and rail in mV, channel current in mA (R338, R341). A tick
has no more samples than R336 gives it. In ARMED the loop runs and the legs stay at 50 % duty (R344). -/
def modSample (n : Nat) (vA vB i : Int) (x : DriveSense) (s : State) : State :=
  let st := s.ch n
  if st < 2 ∨ tickSamples s.rate ≤ (s.pc n).sub then s
  else
    let c := s.pc n
    let rail := x.rail
    let k := s.coef n
    let halt := st = 4 && decide (c.muteT + c.muteM + 1 ≤ s.ks.count)
    let r : Rat := if st = 2 then 0 else
      ((s.get Reg.PWR_CHn_CFG_VFS n : Nat) : Rat) / 2 * interpolate s.rate c.hist c.sub
    let v : Rat := ((vA - vB : Int) : Rat) / 1000
    let ia : Rat := (i : Rat) / 1000
    let vr : Rat := (rail : Rat) / 1000
    let e := r - v
    let s1 := clampRat vr (c.ls + k 0 * e)
    let q := k 1 * e + k 2 * c.le1 + k 3 * c.le2 - k 4 * c.lq1 - k 5 * c.lq2
    let u := r + s1 + q - k 6 * ia
    let limit := decide (s.ilim n ≤ ratAbs (i : Rat)) && decide (0 < u * ia)
    let m0 := if vr = 0 then Config.zeroRail s.free else u / vr
    let step : Rat := 1 / 64
    let m1 := if limit then (if ratAbs c.m ≤ step then 0 else if 0 < c.m then c.m - step else c.m + step) else m0
    let lim : Rat := 97 / 100
    let clip := !limit && decide (lim < ratAbs m1)
    let s2 := if limit || clip then c.ls else s1
    let s := if st = 2 then s.setB Reg.PWR_CHn_STATE_READY (s.readyNow n vA vB x) n else s
    let s : State := if vr = 0 || !s.coefsFinite n then { s with free := s.free + 1 } else s
    if halt then s.modPc n (fun c => { c with m := 0, sub := c.sub + 1 })
    else
      let s := s.modPc n (fun c => { c with
        ls := s2, le1 := e, le2 := c.le1, lq1 := q, lq2 := c.lq1, m := if st = 2 then 0 else clampRat lim m1,
        clipped := c.clipped || clip, limited := c.limited || limit, sub := c.sub + 1 })
      let s := if clip && !c.clipped then (s.inc Reg.PWR_CHn_CNT_CLIP n).hvFault 0x28 n 0 else s
      if limit && !c.limited then (s.inc Reg.PWR_CHn_CNT_ILIM n).hvFault 0x27 n 0 else s

/-! ## Switching frequency (R354 to R363) -/

/-- Whether a frequency in kHz keeps the guard from every listed carrier (R356). -/
def fitsList (list : List Nat) (guard f : Nat) : Bool :=
  list.all (fun c => c = 0 || (List.range 5).all (fun h => decide ((guard : Int) ≤ (((h + 1) * f : Nat) - (c : Nat) : Int).natAbs)))
/-- The search of R356 from `f` down, over `n` values. -/
def stationSearch (list : List Nat) (guard : Nat) : Nat → Nat → Option Nat
  | 0, _ => none
  | n + 1, f => if fitsList list guard f then some f else stationSearch list guard n (f - 1)
/-- The least distance over all harmonics and entries, saturating at 255 (R356). -/
def stationMargin (list : List Nat) (f : Nat) : Nat :=
  (list.filter (· ≠ 0)).foldl (fun a c => (List.range 5).foldl (fun a h => min a (((h + 1) * f : Nat) - (c : Nat) : Int).natAbs) a) 255
/-- The listed carriers. -/
def State.carriers (s : State) : List Nat := (List.range 32).map (fun k => s.get Reg.PWR_SW_LISTk_CARRIER k)
/-- Some channel is ARMED, LIVE or MUTING. -/
def State.chActive (s : State) : Bool := (List.range 8).any (fun n => decide (2 ≤ s.ch n))
/-- SSC_ON: spread is applied while REC is in use (R361). -/
def State.showSsc (s : State) : State :=
  s.setB Reg.PWR_SW_STATUS_SSC_ON (s.pwr.swSsc ≠ 0 && s.get Reg.PWR_SW_STATUS_SOURCE = 0)
/-- Whether the settings lie in their ranges (R355, R356, R358). -/
def State.swRangesOk (s : State) : Bool :=
  let ssc := s.get Reg.PWR_SW_CFG_SSC
  let f := s.get Reg.PWR_SW_CFG_FREQ_KHZ
  let lo := s.get Reg.PWR_SW_WIN_F_MIN
  let hi := s.get Reg.PWR_SW_WIN_F_MAX
  let g := s.get Reg.PWR_SW_GUARD_GUARD
  let r := s.get Reg.PWR_SW_CFG_RAMP
  ssc ≠ 3 && s.get Reg.PWR_SW_CFG_SSC_RATE ≠ 3 && decide (1 ≤ r) && decide (r ≤ 100) &&
  decide (384 ≤ lo) && decide (lo ≤ hi) && decide (hi ≤ 768) && decide (5 ≤ g) && decide (g ≤ 50) &&
  s.carriers.all (fun c => c = 0 || (decide (100 ≤ c) && decide (c ≤ 4000))) &&
  (if s.is Reg.PWR_SW_CFG_MODE then ssc = 0
   else match ssc with
    | 0 => decide (1920 ≤ f) && decide (f ≤ 2400)
    | 1 => decide (1960 ≤ f) && decide (f ≤ 2352)
    | _ => decide (2000 ≤ f) && decide (f ≤ 2400))
/-- f_sw moved to a value in Hz: a ramp while a channel is active, else at once (R359). -/
def State.swMove (s : State) (hz : Nat) : State :=
  let cur := s.get Reg.PWR_SW_FREQ_HZ
  let s : State := { s with pwr := { s.pwr with swHz := hz } }
  if cur ≠ hz && s.chActive then
    (({ s with pwr := { s.pwr with swRamp := some (hz, cur, s.ks.count) } } : State)).setB Reg.PWR_SW_STATUS_RAMPING true
  else (({ s with pwr := { s.pwr with swRamp := none } } : State).set Reg.PWR_SW_FREQ_HZ hz).setB Reg.PWR_SW_STATUS_RAMPING false
/-- PWR_SW_CTRL.APPLY (R356 to R359). -/
def actSwApply (s : State) : Act :=
  let mode := s.get Reg.PWR_SW_CFG_MODE
  let ssc := s.get Reg.PWR_SW_CFG_SSC
  let done (s : State) (r : Nat) : Act :=
    ((s.set Reg.PWR_SW_STATUS_RESULT r).int Reg.PWR_INT_STATUS_SW_DONE, if r < 3 then stOk else stBusy)
  if !s.swRangesOk then done s 4
  else if s.chActive && (mode ≠ s.pwr.swMode || (s.pwr.swSsc = 0 && ssc ≠ 0)) then done s 3
  else
    let s : State := { s with
      pwr := { s.pwr with
      swMode := mode, swSsc := ssc, swRate := s.get Reg.PWR_SW_CFG_SSC_RATE, swRampRate := s.get Reg.PWR_SW_CFG_RAMP } }
    let s := s.showSsc
    if mode = 0 then done ((s.set Reg.PWR_SW_STATUS_MARGIN 0).swMove (1000 * s.get Reg.PWR_SW_CFG_FREQ_KHZ)) 1
    else
      let lo := s.get Reg.PWR_SW_WIN_F_MIN
      let hi := s.get Reg.PWR_SW_WIN_F_MAX
      match stationSearch s.carriers (s.get Reg.PWR_SW_GUARD_GUARD) (hi - lo + 1) hi with
      | some f => done ((s.set Reg.PWR_SW_STATUS_MARGIN (stationMargin s.carriers f)).swMove (1000 * f)) 1
      | none =>
        let cur := s.get Reg.PWR_SW_FREQ_HZ
        let hz := if 1000 * lo ≤ cur ∧ cur ≤ 1000 * hi then cur else 1000 * lo
        done (((s.set Reg.PWR_SW_STATUS_MARGIN (stationMargin s.carriers (hz / 1000))).swMove hz).hvFault 0x2E 0 0) 2
/-- The instantaneous f_sw in Hz at the start of this tick, its spread included: a triangular sweep at the rate in effect (R355, R361). -/
def State.swNow (s : State) : Rat :=
  let hz : Rat := ((s.get Reg.PWR_SW_FREQ_HZ : Nat) : Rat)
  let rate := match s.pwr.swRate with
    | 0 => 24000
    | 1 => 32000
    | _ => 48000
  let p := Config.sweepPhase + ((s.ks.count * rate : Nat) : Rat) / ((rateHz s.rate : Nat) : Rat)
  let p := p - ((ratFloor p : Int) : Rat)
  let tri := if p ≤ 1 / 2 then 2 * p else 2 - 2 * p
  if !s.is Reg.PWR_SW_STATUS_SSC_ON then hz
  else if s.pwr.swSsc = 1 then hz * (1 + (2 * tri - 1) * 2 / 100) else hz * (1 - tri * 4 / 100)
/-- f_sw at a tick of a ramp, moving at the RAMP in effect, in kHz per ms (R359). -/
def State.rampHz (s : State) (hz from' t0 : Nat) : Nat :=
  let d := s.pwr.swRampRate * 1000000 * (s.ks.count - t0) / rateHz s.rate
  if from' ≤ hz then min hz (from' + d) else max hz (from' - d)
/-- LOC is in use after REC was lost, and holds its last frequency (R360). -/
def State.locHolds (s : State) : Bool := s.get Reg.PWR_SW_STATUS_SOURCE = 1 && !s.is Reg.PWR_SW_STATUS_REC_VALID
/-- A ramp carried on by one tick. -/
def swRampTick (s : State) : State :=
  match s.pwr.swRamp with
  | some (hz, from', t0) => if s.locHolds then s else s.set Reg.PWR_SW_FREQ_HZ (s.rampHz hz from' t0)
  | none => s
/-- The end of a ramp (R359, R362). -/
def swRampEnd (s : State) : State :=
  match s.pwr.swRamp with
  | some (hz, _, _) => (((({ s with pwr := { s.pwr with swRamp := none } } : State).set Reg.PWR_SW_FREQ_HZ hz).setB
      Reg.PWR_SW_STATUS_RAMPING false).int Reg.PWR_INT_STATUS_SW_DONE)
  | none => s
/-- The clock source in use set (R361 to R363). -/
def State.swSource (s : State) (v : Nat) : State :=
  if s.get Reg.PWR_SW_STATUS_SOURCE = v then s
  else ((s.set Reg.PWR_SW_STATUS_SOURCE v).int Reg.PWR_INT_STATUS_FAILOVER).showSsc
/-- The source in use becomes invalid while the other is valid (R361). -/
def clkFailover (s : State) : State :=
  let src := s.get Reg.PWR_SW_STATUS_SOURCE
  if !s.pwr.on then s
  else if src = 0 && s.is Reg.PWR_SW_STATUS_LOC_VALID then
    (((s.setB Reg.PWR_SW_STATUS_REC_VALID false).swSource 1).inc Reg.PWR_CNT_FAILOVER).hvFault 0x29 0 0
  else if src = 1 && s.is Reg.PWR_SW_STATUS_REC_VALID then
    (((s.setB Reg.PWR_SW_STATUS_LOC_VALID false).swSource 0).inc Reg.PWR_CNT_FAILOVER).hvFault 0x29 0 0
  else s
/-- REC has been valid for 100 ms: every modulator returns to it, through a ramp from the frequency held to that of REC when the
error is above 0.2 %, else at once (R362). LOC, which tracks a valid REC, is valid again (R360; DEDUCED, log entry 16). -/
def clkReturn (ramp : Bool) (s : State) : State :=
  if !s.pwr.on then s
  else
    let s := (s.setB Reg.PWR_SW_STATUS_REC_VALID true).setB Reg.PWR_SW_STATUS_LOC_VALID true
    if s.get Reg.PWR_SW_STATUS_SOURCE = 0 then s
    else
      let s := s.swSource 0
      let s := if ramp then ({ s with pwr := { s.pwr with swRamp := some (s.pwr.swHz, s.get Reg.PWR_SW_FREQ_HZ, s.ks.count) } } : State).setB
          Reg.PWR_SW_STATUS_RAMPING true
        else if s.pwr.swRamp.isNone then s.set Reg.PWR_SW_FREQ_HZ s.pwr.swHz else swRampTick s
      s.showSafe
/-- Neither source is valid (R363). -/
def clkLost (s : State) : State :=
  if !s.pwr.on then s
  else (((s.setB Reg.PWR_SW_STATUS_REC_VALID false).setB Reg.PWR_SW_STATUS_LOC_VALID false).swSource 2).hvFault 0x2A 0 0 |>.hvSafe 255 4
/-- REC is lost with the DN link it is recovered from: the source in use fails over, or none is left (R360, R361, R363). -/
def recLost (s : State) : State :=
  let src := s.get Reg.PWR_SW_STATUS_SOURCE
  if src = 2 || (src = 1 && s.is Reg.PWR_SW_STATUS_LOC_VALID) then s.setB Reg.PWR_SW_STATUS_REC_VALID false
  else if src = 0 && s.is Reg.PWR_SW_STATUS_LOC_VALID then clkFailover s else clkLost s

/-! ## Phases and detectors (R364 to R368, R374, R375) -/

/-- A phase of a channel disconnected: phase 0 to 3 is A0, A1, B0, B1 (R364 to R366). -/
def phaseLoss (n ph : Nat) (s : State) : State :=
  let b := 2 ^ (3 - ph)
  if !s.pwr.on || s.ch n = 0 || (s.pc n).out &&& b ≠ 0 then s
  else
    let s := (s.modPc n (fun c => { c with out := c.out ||| b })).showPhases n
    let s := (s.int Reg.PWR_INT_STATUS_PHASE).hvFault 0x24 n 0
    if (s.pc n).legsOk then s else (s.hvFault 0x25 n 0).hvSafe (2 ^ n) 3
/-- A short found on a running channel (R368). -/
def loadShort (n : Nat) (s : State) : State :=
  if !s.pwr.on || s.ch n < 2 then s else (s.hvFault 0x26 n 0).hvSafe (2 ^ n) 2
/-- VDRV below 10.5 V (R368). -/
def vdrvLow (s : State) : State :=
  if !s.pwr.on || s.pwr.vdrvLow then s
  else (({ s with pwr := { s.pwr with vdrvLow := true } } : State).hvFault 0x2B 0 1).hvSafe 255 5
/-- VDRV above 10.5 V again (R368). -/
def vdrvRecover (s : State) : State :=
  if !s.pwr.vdrvLow then s else (({ s with pwr := { s.pwr with vdrvLow := false } } : State).hvFault 0x2B 0 2).showSafe
/-- A power die above 150 °C (R368). -/
def dieHot (k : Nat) (s : State) : State :=
  if !s.pwr.on || nth s.pwr.hot k false then s
  else (({ s with pwr := { s.pwr with hot := setNth s.pwr.hot k true } } : State).hvFault 0x2C k 1).hvSafe (3 * 4 ^ k) 6
/-- A power die back at 150 °C or below (R368). -/
def dieCool (k : Nat) (s : State) : State :=
  if !nth s.pwr.hot k false then s
  else (({ s with pwr := { s.pwr with hot := setNth s.pwr.hot k false } } : State).hvFault 0x2C k 2).showSafe
/-- A CAPSTONE source that the power-control die holds, and reports in the next UP frame (R15, R545). -/
def hvCapstone (src cause : Nat) (s : State) : State :=
  if !s.pwr.on || s.pwr.held.contains src then s
  else (({ s with pwr := { s.pwr with held := s.pwr.held ++ [src] } } : State).hvFault src 0 0).hvSafe 255 cause
/-- VBUS above its absolute maximum (R368, R576). -/
def vbusAbs (s : State) : State := hvCapstone 1 10 s
/-- SAFE_REQ asserted and no valid DN frame for 2 ticks: the collapse is recorded, and the link is down (R15, R18); not
while the link is parked or before its first valid frame (R561, R583). -/
def logicCollapse (s : State) : State :=
  if s.pwr.on && s.pwr.dnSeen && !s.dom.parked && s.pwr.safeReq && !s.pwr.dnOk then
    hvCapstone 2 8 { s with pwr := { s.pwr with dnLost := true } }
  else s
/-- A converter's structure. -/
def State.bst' (s : State) (k : Nat) : PwrBst := nth s.pwr.bsts k ⟨0, false, 40⟩
/-- A converter's registers on both sides: PHASES, DEGRADED, RUN, PASS, STATE; with both channels OFF its rail stands at the
pass-through level (R372, R382). -/
def State.showBst (s : State) (k : Nat) : State :=
  let b := s.bst' k
  let run := !b.stopped && s.pwr.vbusOn && (decide (1 ≤ s.ch (2 * k)) || decide (1 ≤ s.ch (2 * k + 1)))
  let off := s.ch (2 * k) = 0 && s.ch (2 * k + 1) = 0
  let pass := s.pwr.on && !b.stopped && (off || decide (b.target < ((s.pwr.sense.vbus : Nat) : Rat) - 1 / 2))
  let ph := if s.pwr.on && !b.stopped then 7 - b.out else 0
  let s := ((((s.set Reg.PWR_BSTk_STATE_PHASES ph k).setB Reg.PWR_BSTk_STATE_DEGRADED (b.out ≠ 0) k).setB Reg.PWR_BSTk_STATE_RUN
    (run && !pass) k).setB Reg.PWR_BSTk_STATE_PASS pass k)
  (((s.set Reg.BST_CONVk_STATUS_PHASES ph k).setB Reg.BST_CONVk_STATUS_DEGRADED (b.out ≠ 0) k).setB Reg.BST_CONVk_STATUS_PASS
    pass k).set Reg.BST_CONVk_STATUS_STATE (if b.stopped then 2 else b2n run) k
/-- A converter stopped: all its phases open, its channels safe with CAUSE RAIL (R375, R614). -/
def bstStop (src k : Nat) (s : State) : State :=
  if !s.pwr.on || (s.bst' k).stopped then s
  else
    let s : State := { s with pwr := { s.pwr with bsts := modNth s.pwr.bsts k (fun b => { b with stopped := true }) } }
    ((s.showBst k).hvFault src k 0).hvSafe (3 * 4 ^ k) 9
/-- A boost phase disconnected; a second one stops the converter (R374, R375). -/
def bstPhaseLoss (k ph : Nat) (s : State) : State :=
  let b := 2 ^ (2 - ph)
  if !s.pwr.on || (s.bst' k).out &&& b ≠ 0 then s
  else
    let first := (s.bst' k).out = 0
    let s : State := { s with pwr := { s.pwr with bsts := modNth s.pwr.bsts k (fun x => { x with out := x.out ||| b }) } }
    let s := s.showBst k
    if first then s.hvFault 0x30 k 0 else bstStop 0x31 k s
/-- A rail low for 100 µs: counted (R375). -/
def railLow (k : Nat) (s : State) : State :=
  if !s.pwr.on then s else (s.inc Reg.PWR_BSTk_CNT_RAIL_LOW k).hvFault 0x33 k 0
/-- The derating factor recomputed from a baseplate temperature in 0.1 °C; it rises only after a fall of 1 °C (R603). -/
def deratingUpdate (tc : Int) (s : State) : State :=
  let k : Rat := if tc ≤ 850 then 1 else if 1250 ≤ tc then 3 / 10 else 1 - 7 / 10 * ((tc : Rat) / 10 - 85) / 40
  if !s.pwr.on then s
  else if k < s.pwr.derate ∨ (s.pwr.derate < k ∧ tc ≤ s.pwr.derateAt - 10) then
    { s with pwr := { s.pwr with derate := k, derateAt := tc } }
  else s
/-- The input limit of a converter in 0.25 A: IIN_LIM, two-thirds while degraded, scaled by the derating (R373, R374,
R603). -/
def State.inLimit (s : State) (k : Nat) : Rat :=
  ((s.get Reg.PWR_BSTk_CFG_IIN_LIM k : Nat) : Rat) * (if (s.bst' k).out ≠ 0 then 2 / 3 else 1) * s.pwr.derate
/-- The limit of a converter acted in this tick: counted, and reported (R373, R375). -/
def State.limitCount (s : State) (k : Nat) : State := (s.inc Reg.PWR_BSTk_CNT_ILIM k).hvFault 0x34 k 0
/-- The input limits at the currents measured in this tick, in mA: one acts while the current stands at it (R373; DEDUCED, log entry
17). -/
def limitSense (iin : List Nat) (s : State) : State :=
  s.forN 4 (fun s k => if decide (s.inLimit k * 250 ≤ ((nth iin k 0 : Nat) : Rat)) then s.limitCount k else s)
/-- The same in a tick whose measurements do not reach the model: only a converter with a running channel can be at its limit. -/
def limitUnseen (s : State) : State :=
  s.forN 4 (fun s k =>
    if s.pwr.on && (decide (2 ≤ s.ch (2 * k)) || decide (2 ≤ s.ch (2 * k + 1))) then
      (let (j, s) := s.fresh; if Config.limitActs j k then s.limitCount k else s)
    else s)

/-! ## Supplies of the high-voltage side (R578, R583, R611) -/

/-- The records that hold until VDRV or VBUS is removed are cleared (R15, R367, R374, R545, R614). -/
def clearHeld (s : State) : State :=
  let s : State := { s with
    pwr := { s.pwr with
    held := [], bsts := s.pwr.bsts.map (fun b => { b with out := 0, stopped := false }),
    chans := s.pwr.chans.map (fun c => { c with out := 0 }) } }
  ((s.forN 8 (fun s n => s.showPhases n)).forN 4 (fun s k => s.showBst k)).showSafe
/-- VDRV below 4.0 V: the power-control die and every switch are off, and its registers lose their values (R611). -/
def vdrvRemoved (s : State) : State :=
  let s := clearHeld (allOff s)
  let p := PwrState.reset
  let keep : State := { s with
    pwr := { p with
      upSeen := s.pwr.upSeen, upBad := s.pwr.upBad, upGood := s.pwr.upGood, upDone := s.pwr.upDone,
      stage := s.pwr.stage, targets := s.pwr.targets, send := s.pwr.send, sendT := s.pwr.sendT, starts := s.pwr.starts, stops := s.pwr.stops, reqs := s.pwr.reqs,
      vbusOn := s.pwr.vbusOn, sense := s.pwr.sense },
    regs := KMap.dropKeys (fun k => decide (0xF0000 ≤ k) && decide (k < 0x100000)) s.regs }
  keep.showSafe
/-- VDRV past 11.0 V: the power-control die starts and waits for a valid DN frame (R583). -/
def vdrvRelease (s : State) : State := if s.pwr.on then s else { s with pwr := { s.pwr with on := true } }
/-- VBUS below 20 V for 10 ms with VDRV present (R611). -/
def vbusRemoved (s : State) : State :=
  let s : State := { s with pwr := { s.pwr with vbusOn := false } }
  let s := if s.pwr.on then clearHeld s else s
  s.forN 4 (fun s k => s.showBst k)
/-- VBUS past 40 V (R578). -/
def vbusStart (s : State) : State := ({ s with pwr := { s.pwr with vbusOn := true } } : State).forN 4 (fun s k => s.showBst k)

/-! ## The barrier link (R14 to R20, R369, R535, R562) -/

/-- The link carries valid frames in both directions (R18). The spec states no threshold for a direction that has stopped
carrying them: the model takes it as down once its frames count as lost under R16 or R17, that is after 4 bad or missing
ones, or after LOGIC_COLLAPSE (DESIGN CHOICE, log entry 67). -/
def State.linkOk (s : State) : Bool :=
  s.pwr.on && s.pwr.dnSeen && s.pwr.upSeen && !s.pwr.dnLost && !s.dom.parked && decide (s.pwr.upBad < 4)
/-- The DN link is lost: every channel safe, with CAUSE LINK and BAR_DN_LOST unless SAFE_REQ is asserted, which holds the
channels already (R16). -/
def dnLinkLost (s : State) : State :=
  if !s.pwr.on || !s.pwr.dnSeen || s.dom.parked || s.pwr.dnLost then s
  else
    let req := s.pwr.safeReq
    let s : State := { s with pwr := { s.pwr with dnLost := true, dnOk := false, fresh := false } }
    recLost (if req then s.hvSafe 255 1 else (s.hvFault 0x21 0 1).hvSafe 255 7)
/-- The last DN frame was not accepted: SAFE_REQ holds every channel; with it, 2 such ticks are a collapse of the logic
side, and 4 are the loss of the link (R15, R16, R535). -/
def dnSilent (s : State) : State :=
  let s := if s.pwr.safeReq then s.hvSafe 255 1 else s
  let s := if 2 ≤ s.pwr.dnBad then logicCollapse s else s
  if 4 ≤ s.pwr.dnBad then dnLinkLost s else s
/-- A DN frame that fails its CRC: the frame is counted and reported, its requests are discarded (R16). Those of a REGS course, which
the rebuild has to apply, go again in the next frame (DESIGN CHOICE, log entry 37). -/
def dnBad (inj : Bool) (s : State) : State :=
  let s := (s.inc Reg.PWR_CNT_DN_CRC).hvFault 0x20 0 (if inj then 3 else 0)
  let sent := s.pwr.reqs.take 4
  let s : State := { s with
    pwr := { s.pwr with
    dnBad := s.pwr.dnBad + 1, dnOk := false, box := none,
    results := s.pwr.results ++ (sent.filter (fun q => q.who = PwrWho.host)).map (fun _ => (stAccess, 0#32)),
    reqs := sent.filter (fun q => q.who = PwrWho.course) ++ s.pwr.reqs.drop 4, starts := 0, stops := 0 } }
  dnSilent s
/-- No DN frame came in a tick (R16). -/
def dnMissing (s : State) : State := dnSilent { s with pwr := { s.pwr with dnBad := s.pwr.dnBad + 1, dnOk := false } }
/-- A DN frame accepted: mask acted on at once, contents kept for the start of the next tick (R19, R369, R535). -/
def dnAccept (s : State) : State :=
  let mask := s.safeMask
  let req := mask ≠ 0
  let safe := s.get Reg.PWR_STATUS_SAFE
  let s : State := { s with
    flt := { s.flt with safeReq := req }, pwr := { s.pwr with
    dnSeen := true, dnBad := 0, dnOk := true, dnMask := mask, safeReq := req,
    box := some ⟨s.pwr.send, s.pwr.sendT, s.pwr.starts, s.pwr.stops, s.pwr.reqs.take 4⟩,
    reqs := s.pwr.reqs.drop 4, starts := 0, stops := 0 } }
  let s := s.setB Reg.PWR_STATUS_SAFE_REQ req
  let s : State := if s.pwr.dnLost then
      (({ s with pwr := { s.pwr with dnLost := false } } : State).setB Reg.PWR_SW_STATUS_REC_VALID true).hvFault 0x21 0 2 else s
  (chFollow s).safeNew safe mask 1
/-- Row DN_FRAME: the DN frame of this tick reaches the power-control die. An injected error counts as a failed CRC and is
found by the die (R553, target 4). -/
def dnFrame (crcOk : Bool) (s : State) : State :=
  if s.pwr.dnDone || s.dom.parked then s
  else
    let s : State := { s with pwr := { s.pwr with dnDone := true } }
    let (s, spoiled) := s.injFrame 4 0
    if !s.pwr.on then s
    else if crcOk && !spoiled then dnAccept s.event
    else
      if s.pwr.dnSeen then dnBad spoiled s.event else s
/-- The sample values of a channel's tick: the box's sample, or the grout of R16; weighted during a mute (R352). -/
def applySample (box : Option DnBox) (n : Nat) (s : State) : State :=
  let c := s.pc n
  let x : Option Int := match box with
    | some b => nth b.samples n none
    | none => none
  let (v, c) := match x with
    | some v => (v, { c with last := v, miss := 0 })
    | none => (groutInt c.last (c.miss + 1), { c with miss := min 40 (c.miss + 1) })
  let p := s.ks.count - 2
  let w : Rat := if s.ch n = 4 && decide (c.muteT ≤ p) then
      (if p - c.muteT < c.muteM then ((c.muteM - 1 - (p - c.muteT) : Nat) : Rat) / ((c.muteM : Nat) : Rat) else 0) else 1
  let y : Rat := (v : Rat) / ((2 ^ 23 : Nat) : Rat) * w
  s.modPc n (fun _ => { c with hist := (y :: c.hist).take 64, clipped := false, limited := false, sub := 0 })
/-- The start of a tick on the high-voltage side: the targets of the frame before take effect, within 40 to 135 V, then its requests,
own starts and stops, samples, releases and mutes due (R19, R349, R351, R369, R372). `run` executes one register request. -/
def hvTick (run : PwrReq → State → State × Nat × Word) (s : State) : State :=
  let box := s.pwr.box
  let gone := s.pwr.on && s.pwr.dnSeen && !s.dom.parked && !s.pwr.dnDone
  let s : State := { s with pwr := { s.pwr with box := none, dnDone := false, send := s.pwr.stage, sendT := s.pwr.targets } }
  let s := if gone then dnMissing s else s
  if !s.pwr.on then s
  else
    let s := match box with
      | some b =>
        let s : State := { s with
          pwr := { s.pwr with
          bsts := (indexed s.pwr.bsts).map (fun (x : Nat × PwrBst) => { x.2 with target := max 40 (min 135 (nth b.targets x.1 40)) }) } }
        let s := b.reqs.foldl (fun s (r : PwrReq) =>
          let (s, st, d) := run r s
          if r.who = PwrWho.host then { s with pwr := { s.pwr with results := s.pwr.results ++ [(st, d)] } } else s) s
        let s := (s.forN 8 (fun s n => if bit b.stops n then s.ownStop n else s)).forN 8
          (fun s n => if bit b.starts n then s.ownStart n else s)
        s.forN 4 (fun s k => s.showBst k)
      | none => s
    let s := s.forN 8 (fun s n => applySample box n s)
    let s := s.forN 8 (fun s n => muteDue n (releaseDue n s))
    swRampTick s
/-- A fault that an UP frame reports reaches the collector, stamped with this tick and cycle 0 (R56). -/
def upFault (s : State) (f : Nat × Nat × Nat) : State :=
  let load := f.1 = 0x26
  let s := match f.2.2 with
    | 0 => s.raise f.1 f.2.1 0 none true
    | 1 => s.raiseActive f.1 f.2.1 0 none true
    | 3 => (s.raise f.1 f.2.1 0 none true true).injReport
    | _ => s.endActive f.1 f.2.1
  if load then s.loadFault f.1 f.2.1 else s
/-- BAR_UP_LOST becomes ACTIVE: every channel in SAFE_MASK (R17). -/
def upLinkLost (s : State) : State :=
  if !s.pwr.upSeen || s.dom.parked || s.flt.ownUp then s
  else
    let s := s.event.raiseActive 0x23 0
    { s with flt := { s.flt with ownUp := true }, pwr := { s.pwr with upBad := max 4 s.pwr.upBad, upGood := 0, fresh := false } }
/-- The registers that show the sense data: rails, VBUS, input currents. -/
def showSense (s : State) : State :=
  let x := s.pwr.sense
  s.forN 4 (fun s k =>
    let s := ((s.set Reg.PWR_BSTk_STATE_VBUS (min 255 x.vbus) k).set Reg.PWR_BSTk_STATE_RAIL (min 255 (nth x.rail k 0)) k).set
      Reg.PWR_BSTk_STATE_IIN (min 255 (nth x.iin k 0 / 250)) k
    (s.set Reg.BST_CONVk_STATUS_RAIL (min 255 (nth x.rail k 0)) k).showBst k)
/-- One sample through a second-order section. -/
def Biquad.run (k : Nat → Rat) (x : Rat) (b : Biquad) : Biquad :=
  ⟨x, b.x1, k 0 * x + k 1 * b.x1 + k 2 * b.x2 - k 3 * b.y1 - k 4 * b.y2, b.y1⟩
/-- The resistance measurement's share of a tick's v and i in V and A (R385). -/
def BstCh.measure (c : BstCh) (k : Nat → Rat) (v i : Rat) : BstCh :=
  let bv := c.bpV.run k v
  let bi := c.bpI.run k i
  { c with bpV := bv, bpI := bi, rVi := c.rVi + bv.y1 * bi.y1, rIi := c.rIi + bi.y1 * bi.y1, rN := c.rN + 1 }
/-- The logic-side models that an UP frame feeds: voltage history, current sums and the filters of the resistance measurement (R384,
R385, R389). -/
def bstSense (s : State) : State :=
  let x := s.pwr.sense
  let keep := rateHz s.rate / 100
  { s with
      bst := { s.bst with
      chans := (indexed s.bst.chans).map (fun (c : Nat × BstCh) =>
      let ia : Rat := ((nth x.i c.1 0 : Int) : Rat) / 1000
      let f := s.get Reg.BST_CHn_TH4_RFREQ c.1
      let m := if f = 0 then c.2 else c.2.measure (Config.bandCoef s.rate f) (((nth x.v c.1 0 : Int) : Rat) / 1000) ia
      { m with isum := c.2.isum + ia * ia, icnt := c.2.icnt + 1, vhist := (nth x.v c.1 0 :: c.2.vhist).take keep }) } }
/-- The tick of sense data given to the models: the frame's, or the previous ones again (R17). -/
def upSense (x : Option Sense) (s : State) : State :=
  let s : State := match x with
    | some v => { s with pwr := { s.pwr with sense := v } }
    | none => s
  let s := bstSense (showSense s)
  match s.bst.diag.step, x with
  | .dwell _, some v => match s.bst.diag.chans.head? with
    | some n => { s with
        bst := { s.bst with
        diag := { s.bst.diag with
        ticks := s.bst.diag.ticks + 1,
        samples := (nth v.v n 0, nth v.i n 0) :: s.bst.diag.samples } } }
    | none => s
  | .dwell _, none => match s.bst.diag.chans.head? with
    | some n => { s with
        bst := { s.bst with
        diag := { s.bst.diag with
        ticks := s.bst.diag.ticks + 1,
        samples := (nth s.pwr.sense.v n 0, nth s.pwr.sense.i n 0) :: s.bst.diag.samples } } }
    | none => s
  | _, _ => s
/-- A valid UP frame: sense data, faults, and the results of register requests, which `deliver` gives to those who wait
(R17, R56, R369). -/
def upAccept (deliver : List (Nat × Word) → State → State) (x : Sense) (s : State) : State :=
  let lost := s.flt.ownUp
  let good := s.pwr.upGood + 1
  let s : State := { s with pwr := { s.pwr with upSeen := true, fresh := s.pwr.fresh && !s.pwr.dnSeen, upGood := good, upBad := if lost && good < 4 then s.pwr.upBad else 0 } }
  let s : State := if lost && decide (4 ≤ good) then { s.endActive 0x23 0 with flt := { (s.endActive 0x23 0).flt with ownUp := false } } else s
  let s := upSense (some x) (s.setWord Reg.IDENT_HVID 0x100B0#32)
  let fs := s.pwr.faults
  let rs := s.pwr.results
  let s : State := { s with pwr := { s.pwr with faults := [], results := [] } }
  let s := fs.foldl upFault s
  deliver rs s
/-- Row UP_FRAME: the UP frame of this tick reaches the logic side. -/
def upFrame (deliver : List (Nat × Word) → State → State) (crcOk : Bool) (x : Sense) (s : State) : State :=
  if !s.pwr.on || s.dom.parked || s.pwr.upDone then s
  else
    let s := limitSense x.iin ({ s with pwr := { s.pwr with upDone := true } } : State).event
    let (s, spoiled) := s.injFrame 5 0
    if crcOk && !spoiled then upAccept deliver x s
    else
      let s := (s.inc Reg.PWR_CNT_UP_CRC).raise 0x22 0 0 none false spoiled
      let s := if spoiled then s.injReport else s
      let s := upSense none s
      let rs := s.pwr.results
      let s : State := { s with pwr := { s.pwr with upBad := s.pwr.upBad + 1, upGood := 0, results := [] } }
      let s := if 4 ≤ s.pwr.upBad then upLinkLost s else s
      if rs = [] then s else deliver (rs.map (fun _ => (stAccess, 0#32))) s
/-- The end of a tick on the logic side of the link: a tick without an UP frame counts as a bad one, its sense values
repeat, and at the fourth the link is lost (R17). The repeat in a tick whose frame is missing rather than bad is the
model's (DESIGN CHOICE, log entry 67). -/
def upTickEnd (s : State) : State :=
  let came := s.pwr.upDone
  let s : State := { s with pwr := { s.pwr with upDone := false } }
  let s := if came || s.dom.parked then s else limitUnseen s
  if came || !s.pwr.upSeen || s.dom.parked then s
  else
    let s := upSense none s
    let s : State := { s with pwr := { s.pwr with upBad := s.pwr.upBad + 1, upGood := 0 } }
    if 4 ≤ s.pwr.upBad then upLinkLost s else s
/-- SAFE_REQ asserts at the power-control die (R13, R14). -/
def safeReqAssert (s : State) : State :=
  if !s.pwr.on then s
  else
    let s := ({ s with pwr := { s.pwr with safeReq := true } } : State).setB Reg.PWR_STATUS_SAFE_REQ true
    s.hvSafe s.reqHold 1
/-- The current of a channel in the safe state has decayed: every switch off (R353). -/
def safeOff (n : Nat) (s : State) : State := if (s.pc n).low then (s.modPc n (fun c => { c with low := false })).showSafe else s
/-- The current has not decayed within 1 ms (R353). -/
def safeSlow (n : Nat) (s : State) : State :=
  if (s.pc n).low then ((s.modPc n (fun c => { c with low := false })).showSafe).hvFault 0x2D n 0 else s
/-- The link resynchronised: it leaves the parked condition (R562, R17). -/
def linkResync (s : State) : State :=
  if s.dom.parked && (nth s.dom.doms 55 ⟨0, false, false⟩).state = 0 then
    { s with
      dom := { s.dom with parked := false }, pwr := { s.pwr with
      dnSeen := false, upSeen := false, fresh := s.pwr.on, dnOk := false, dnBad := 0,
      upBad := 0, upGood := 0, upDone := false, dnDone := false } }
  else s
/-- A DN frame marked parked: channels OFF, converters stopped, no fault from the silence that follows (R561). -/
def linkPark (s : State) : State :=
  if s.dom.parked then s
  else
    let s : State := { s with dom := { s.dom with parked := true }, pwr := { s.pwr with box := none, fresh := false } }
    let s : State := if s.pwr.on then { s with
      dom := { s.dom with
      doms := (indexed s.dom.doms).map (fun (d : Nat × Domain) =>
      if 56 ≤ d.1 then { d.2 with state := 3 } else d.2) } } else s
    (allOff s).forN 4 (fun s k => s.showBst k)
/-- PWR_CTRL.CNT_CLR. -/
def actPwrCntClr (s : State) : State :=
  let s := ((s.setWord Reg.PWR_CNT_DN_CRC 0#32).setWord Reg.PWR_CNT_UP_CRC 0#32).setWord Reg.PWR_CNT_FAILOVER 0#32
  (s.forN 8 (fun s n => s.setWord Reg.PWR_CHn_CNT 0#32 n)).forN 4 (fun s k => s.setWord Reg.PWR_BSTk_CNT 0#32 k)

end Sys2Proof.Machine
end

