-- ==== Sys2Proof/Machine/NetOps.lean ====
section
/-! DEFINITION. The Ethernet layer: addresses, statistics counters, frames received and sent, pauses and the capacity of
a port mode (R21, R220, R242, R296 to R299, R309, R324 to R326). -/
namespace Sys2Proof.Machine
open Sys2Proof

/-- The base MAC address of the module (R21). -/
def State.baseMac (s : State) : Nat := s.get Reg.IDENT_MAC_LO + 2 ^ 32 * bitsOf (s.word Reg.IDENT_MAC_HI).toNat 15 0
/-- The MAC address of a MAC: base plus its number (R21). -/
def State.portMac (s : State) (m : Nat) : Nat := (s.baseMac + m) % 2 ^ 48
/-- The EtherType of a frame, behind one VLAN tag if it carries one. -/
def etherType (f : List Byte) : Nat := if beAt f 12 2 = 0x8100 then beAt f 16 2 else beAt f 12 2
/-- A frame padded to 60 bytes, with its FCS (R220); `bad` sends the ones' complement of the FCS (R228). -/
def withFcs (f : List Byte) (bad : Bool := false) : List Byte :=
  let f := f ++ List.replicate (60 - f.length) 0#8
  let c := fcs32 f
  f ++ leBytes 4 (if bad then 2 ^ 32 - 1 - c else c)
/-- Whether the last four bytes of a frame are the FCS of the bytes before them. -/
def fcsOk (f : List Byte) : Bool := decide (4 < f.length) && leAt f (f.length - 4) 4 = fcs32 (f.take (f.length - 4))
/-- A statistics counter counted up; it wraps, and a change of bit 31 from 0 to 1 sets its half bit (R324, R326). -/
def State.cntBy (s : State) (m i k : Nat) : State :=
  let v := s.get Reg.PORT_CNTm_i m i
  let w := (v + k) % 2 ^ 32
  let s := s.set Reg.PORT_CNTm_i w m i
  if !bit v 31 && bit w 31 then
    let s := if i < 32 then s.setWord Reg.PORT_STAT_HALFm_LO (s.word Reg.PORT_STAT_HALFm_LO m ||| BitVec.ofNat 32 (2 ^ i)) m
      else s.setWord Reg.PORT_STAT_HALFm_HI (s.word Reg.PORT_STAT_HALFm_HI m ||| BitVec.ofNat 32 (2 ^ (i - 32))) m
    if bit (s.get Reg.PORT_STAT_HALF_EN_EN) m then s.int Reg.PORT_INT_STATUS_HALF else s
  else s
/-- A statistics counter counted up by one. -/
def State.cnt (s : State) (m i : Nat) : State := s.cntBy m i 1
/-- The counter offset of a frame's length bucket (R324, counters 5 to 11). -/
def lenBucket (n : Nat) : Nat :=
  if n ≤ 64 then 0 else if n ≤ 127 then 1 else if n ≤ 255 then 2 else if n ≤ 511 then 3 else if n ≤ 1023 then 4
  else if n ≤ 1518 then 5 else 6
/-- The counter offset of a frame's destination: 0 unicast, 1 multicast, 2 broadcast. -/
def destKind (f : List Byte) : Nat := if beAt f 0 6 = 2 ^ 48 - 1 then 2 else if bit (beAt f 0 1) 0 then 1 else 0
/-- The counter offset of a frame's type: audio, other ring frame, gPTP, AVTP; none for another. -/
def typeKind (f : List Byte) : Option Nat :=
  let t := etherType f
  if t = 0x88B5 then (if bitsOf (beAt f 14 1) 3 0 = 1 then some 0 else some 1)
  else if t = 0x88F7 then some 2 else if t = 0x22F0 then some 3 else none
/-- Wire bytes of a frame: preamble and inter-frame gap included. -/
def wireLen (f : List Byte) : Nat := f.length + 20
/-- Received or sent wire bytes added to a port's count (R304). -/
def State.addWire (s : State) (m : Nat) (rx tx : Nat) : State :=
  { s with port := { s.port with wire := modNth s.port.wire m (fun p => (p.1 + rx, p.2 + tx)) } }
/-- A PAUSE frame of IEEE 802.3x. -/
def isPause (f : List Byte) : Bool := beAt f 12 2 = 0x8808 && beAt f 14 2 = 1
/-- What a frame with a wrong FCS on MAC 0 to 2 counts beside it: an odd number of nibbles, which 100BASE-TX alone can have, and a coding
error. The rows bring whole bytes, so that both are free (R324; free values, log entry 78). -/
def State.lineErrors (s : State) (m : Nat) : State :=
  let (k, s) := s.fresh
  let e := Config.lineError k
  let s := if s.get Reg.PORT_Pp_LINK_SPEED m = 0 && bit e 0 then s.cnt m 18 else s
  if bit e 1 then s.cnt m 22 else s
/-- The counters of a frame received whole on MAC `m` (R324, R325). -/
def State.rxCount (s : State) (m : Nat) (f : List Byte) : State :=
  let n := f.length
  let ok := fcsOk f
  let s := s.addWire m (wireLen f) 0
  let s := s.cntBy m 0 n
  let s := if ok then s.cnt m 1 else if m < 3 then s.lineErrors m else s
  if n < 64 then s.cnt m 19
  else if 1522 < n then s.cnt m (if ok then 20 else 21)
  else if !ok then s.cnt m 17
  else
    let s := (s.cnt m (2 + destKind f)).cnt m (5 + lenBucket n)
    let s := match typeKind f with
      | some k => s.cnt m (12 + k)
      | none => s
    if isPause f then s.cnt m 16 else s
/-- The counters of a frame sent by MAC `m`. -/
def State.txCount (s : State) (m : Nat) (f : List Byte) : State :=
  let s := (s.addWire m 0 (wireLen f)).cntBy m 25 f.length
  let s := ((s.cnt m 26).cnt m (27 + destKind f)).cnt m (30 + lenBucket f.length)
  match typeKind f with
  | some k => s.cnt m (37 + k)
  | none => s
/-- A frame that a port accepts: 64 to 1,522 bytes with a correct FCS (R297). -/
def frameGood (f : List Byte) : Bool := decide (64 ≤ f.length) && decide (f.length ≤ 1522) && fcsOk f
/-- Whether the link of port `p` (0 A, 1 B, 2 branch) is up. -/
def State.linkUp (s : State) (p : Nat) : Bool := s.is Reg.PORT_Pp_LINK_LINK p
/-- Speed code of a port. -/
def State.speed (s : State) (p : Nat) : Nat := s.get Reg.PORT_Pp_LINK_SPEED p
/-- Bits per second of a speed code (R248, R296). -/
def speedBits (c : Nat) : Nat := if c = 0 then 100000000 else if c = 1 then 1000000000 else 2500000000
/-- Frames that a pause holds on a port: on a ring port, all but audio and control frames (R309). -/
def pauseHolds (p : Nat) (f : List Byte) : Bool := p = 2 || etherType f ≠ 0x88B5
/-- A frame, FCS included, sent by a port whose link is up; a paused port keeps what the pause holds. -/
def State.sendOn (s : State) (p : Nat) (f : List Byte) : State :=
  if !s.linkUp p then (if typeKind f = some 0 then s else s.cnt p 41)
  else if s.is Reg.PORT_Pp_LINK_PAUSED p && pauseHolds p f then
    { s with port := { s.port with held := s.port.held ++ [⟨p, f⟩] } }
  else
    let s := if p = 2 then s.setB Reg.PORT_Pp_LINK_LPI false 2 else s
    (s.emit p f).txCount p f
/-- The frames a pause held on a port, sent in order once it ends (R309, R310). -/
def State.flushHeld (s : State) (p : Nat) : State :=
  let fs := s.port.held.filter (fun h => h.port = p)
  let s : State := { s with port := { s.port with held := s.port.held.filter (fun h => h.port ≠ p) } }
  fs.foldl (fun s h => s.sendOn p h.bytes) s
/-- Samples per slot frame SPF of a rate code (R215). -/
def spf (rate : Nat) : Nat := if rate = 2 then 16 else 32
/-- FRAMES of a plan (R215). -/
def Plan.frames (p : Plan) : Nat := ceilDiv p.channels (spf p.rate)
/-- Slots of frame k of a plan (R215). -/
def Plan.slots (p : Plan) (k : Nat) : Nat := if k + 1 < p.frames then spf p.rate else p.channels - spf p.rate * (p.frames - 1)
/-- Bytes on the wire of an audio frame of S slots and N ticks (R220). -/
def audioWire (slots n : Nat) : Nat := max 64 (34 + 4 * slots + 3 * n * slots) + 20
/-- Wire bytes of one ring cycle of a plan in one direction. -/
def Plan.wire (p : Plan) : Nat := ((List.range p.frames).map (fun k => audioWire (p.slots k) (rateN p.rate))).sum
/-- The capacity rule of R242: at most 75 % of the ring cycle at the mode's rate. -/
def Plan.fits (p : Plan) (speed : Nat) : Bool := decide (p.wire * 8 * 12000 * 4 ≤ 3 * speedBits speed)
/-- The segment of ring port `p` is in service (R283). -/
def State.inService (s : State) (p : Nat) : Bool := s.is Reg.RING_SEG_PORTp_IN_SERVICE p
/-- The port carries the plan in effect (R231). -/
def State.carries (s : State) (p : Nat) : Bool :=
  s.linkUp p && s.inService p && (match s.rdp.plan with
    | some pl => pl.fits (s.speed p)
    | none => true)
/-- The DRAM cell key of an address that a register holds for the module's own DMA: tenancy 0's pool offset with the
window base taken when the register was written (R507). -/
def State.dmaKey (s : State) (reg addr : Nat) : Nat :=
  (addr - 0x40000000) + KMap.get (fun _ => 0) s.ten.dmaBase reg * 2 ^ 30
/-- The 802.1AS time of a tick in ns, rounded down (R42). -/
def State.timeNs (s : State) (tick : Nat) : Nat := tick * 1000000000 / rateHz s.rate
/-- The ring cycle of the present tick (R42). -/
def State.cycleNo (s : State) : Nat := s.ks.count / s.nTicks

end Sys2Proof.Machine
end

