-- ==== Sys2Proof/Machine/Rdp.lean ====
section
/-! DEFINITION. The ring data path: frames, taps, deduplication, sends, launch and generation, ages and bounds (R214 to
R242). Directions are 0 east and 1 west. -/
namespace Sys2Proof.Machine
open Sys2Proof

/-! ## Frames -/

/-- A list with bytes replaced from an offset. -/
def splice (f : List Byte) (o : Nat) (bs : List Byte) : List Byte := f.take o ++ bs ++ f.drop (o + bs.length)
/-- VER and TYPE of a ring frame (R221). -/
def ringVer (f : List Byte) : Nat := bitsOf (beAt f 14 1) 7 4
/-- TYPE of a ring frame. -/
def ringType (f : List Byte) : Nat := bitsOf (beAt f 14 1) 3 0
/-- An audio frame: EtherType 0x88B5, TYPE 1. -/
def isAudio (f : List Byte) : Bool := beAt f 12 2 = 0x88B5 && ringType f = 1
/-- Offset of the sample of slot s and tick t in a frame of S slots (R222). -/
def sampleOff (slots n s t : Nat) : Nat := 30 + 4 * slots + 3 * (n * s + t)
/-- The bytes of a slot's descriptor. -/
def slotDesc (sseq pres : Nat) : List Byte := beBytes 4 (sseq % 65536 * 65536 + pres % 65536)
/-- Source MAC of the port a copy leaves by, launch header, and body of an audio frame (R220, R221). -/
def audioHead (mac dir rate index slots cycle plan origin : Nat) (regen : Bool) : List Byte :=
  beBytes 6 0x030000000001 ++ beBytes 6 mac ++ beBytes 2 0x88B5 ++
  [0x11#8, BitVec.ofNat 8 (dir * 128 + b2n regen * 64 + rate * 16 + index), BitVec.ofNat 8 slots, 0#8] ++
  beBytes 4 (cycle % 2 ^ 32) ++ beBytes 2 plan ++ [0#8, 0#8] ++ beBytes 2 origin ++ [0#8, 0#8]
/-- The port by which copies of a direction arrive (R215, R258). -/
def State.rxPort (s : State) (dir : Nat) : Nat :=
  let e := s.get Reg.RING_DP_STATUS_EAST_PORT
  if dir = 0 then e else 1 - e
/-- The port by which copies of a direction leave: the other one. -/
def State.txPort (s : State) (dir : Nat) : Nat := 1 - s.rxPort dir
/-- This node's position. -/
def State.position (s : State) : Nat := s.get Reg.RING_DP_POS_POSITION
/-- This node is the head of the plan in effect (R214). -/
def State.isHead (s : State) : Bool :=
  match s.rdp.plan with
  | some p => p.head = s.position && s.rct.pos.isSome
  | none => false
/-- The plan names this node as the source of a channel (R216). -/
def State.named (s : State) (ch : Nat) : Bool :=
  match s.rdp.plan with
  | some p => decide (ch < p.channels) && nth p.source ch 0xFFF = s.position && s.position ≠ 0xFFF && s.rct.pos.isSome
  | none => false
/-- A channel has a source (R217). -/
def State.hasSource (s : State) (ch : Nat) : Bool :=
  match s.rdp.plan with
  | some p => decide (ch < p.channels) && nth p.source ch 0xFFF ≠ 0xFFF
  | none => false
/-- RING_CTL_STATUS.RATE_MIS: neither taps nor sends (R267). -/
def State.rateMis (s : State) : Bool := s.is Reg.RING_CTL_STATUS_RATE_MIS
/-- A frame sent by a ring port; an armed injection spoils its FCS (R553, target 6). -/
def State.sendAudio (s : State) (dir : Nat) (f : List Byte) (bad : Bool) : State :=
  let p := s.txPort dir
  if !s.carries p then s
  else
    let (s, hit) := s.injFrame 6 p
    s.sendOn p (withFcs f (bad != hit))

/-! ## Sends (R216 to R219, R226) -/

/-- The lowest source cycle that is still intact in the send staging (R219). -/
def State.lowIntact (s : State) : Nat := ceilDiv (s.ks.count + b2n s.ks.committed) s.nTicks - 2
/-- The newest complete source cycle; none before the first is complete. -/
def State.newestCycle (s : State) : Option Nat := if s.cycleNo = 0 then none else some (s.cycleNo - 1)
/-- The send channels this node writes in frame k: send record (none while no image is placed), slot. -/
def State.mySlots (s : State) (p : Plan) (k : Nat) : List (Option Nat × Nat) :=
  let lo := k * spf p.rate
  let here (ch : Nat) : Bool := decide (lo ≤ ch) && decide (ch < lo + p.slots k) && s.named ch
  if s.rdp.placed then ((indexed s.rdp.sends).filter (fun r => here r.2.chan)).map (fun r => (some r.1, r.2.chan - lo))
  else ((List.range (p.slots k)).filter (fun j => here (lo + j))).map (fun j => (none, j))
/-- The staging entry of a send record for a source tick: tag valid and sample (R219). -/
def State.staged (s : State) (i tick : Nat) : Bool × Nat :=
  let bs := Mem.rdN s.mem.sram (s.rdp.stageOff + 4 * (2 * s.nTicks * i + tick % (2 * s.nTicks))) 4
  (bit (leAt bs 3 1) 7, leAt bs 0 3)
/-- The frame with one slot holding source cycle e of a send record, with the plan's ticks in each (R222, R226). -/
def State.writeSlot (s : State) (f : List Byte) (p : Plan) (k e : Nat) (r : Option Nat × Nat) : List Byte :=
  let n := rateN p.rate
  let ent := (List.range n).map (fun t => match r.1 with
    | some i => if s.is Reg.RING_DP_CTRL_SEND_EN && n = s.nTicks then s.staged i (e * n + t) else (false, 0)
    | none => (false, 0))
  let pres := maskOf (((indexed ent).filter (fun x => x.2.1)).map (·.1)) n
  let f := splice f (30 + 4 * r.2) (slotDesc e pres)
  (indexed ent).foldl (fun f x => splice f (sampleOff (p.slots k) n r.2 x.1) (beBytes 3 (if x.2.1 then x.2.2 else 0))) f
/-- A pass of frame k of a direction: the oldest complete intact cycle after the last one written (R226); an image of another rate than
the plan's writes none (R267). -/
def State.passSends (s : State) (p : Plan) (dir k : Nat) (f : List Byte) : State × List Byte :=
  let mine := if s.rateMis && s.img.active.isSome then [] else s.mySlots p k
  match mine, s.newestCycle with
  | [], _ => (s, f)
  | _, none => (s, f)
  | _, some hi =>
    let key := dir * 16 + k
    let x := match s.rdp.written.find? (fun w => w.1 = key) with
      | some w => w.2 + 1
      | none => hi
    let lo := s.lowIntact
    let miss := lo - x
    let s := if miss = 0 then s else (s.incBy Reg.RING_CNT_SEND_MISS miss).int Reg.RING_DP_INT_STATUS_SEND_MISS
    let e := max x lo
    let put (s : State) (v : Nat) : State :=
      { s with rdp := { s.rdp with written := s.rdp.written.filter (fun w => w.1 ≠ key) ++ [(key, v)] } }
    if e ≤ hi then
      let s := put s e
      let ids := mine.filterMap (·.1)
      let s : State := { s with rdp := { s.rdp with
        sentAt := s.rdp.sentAt.filter (fun w => !ids.contains w.1) ++ ids.map (fun i => (i, s.cycleNo)) } }
      (s, mine.foldl (fun f r => s.writeSlot f p k e r) f)
    else if miss = 0 then (s, f) else (put s (lo - 1), f)

/-! ## Taps (R232, R233, R236) -/

/-- Bytes of the presentation buffer per lane entry; address of entry P of a lane (R60). -/
def State.entryAddr (s : State) (lane p : Nat) : Nat := s.rdp.presOff + 4 * (lane * rateB s.rate + p % rateB s.rate)
/-- The tag of an entry for presentation tick P (R60). -/
def entryTag (b p : Nat) : Nat := 128 + p / b % 128
/-- Entry P of a lane, if it is valid and of that lap (R60). -/
def State.entry (s : State) (lane p : Nat) : Option Nat :=
  let a := s.entryAddr lane p
  if leVal (Mem.rdN s.mem.sram (a + 3) 1) = entryTag (rateB s.rate) p then some (leVal (Mem.rdN s.mem.sram a 3)) else none
/-- A count of a lane (RING_LANE_ registers). -/
def State.laneInc (s : State) (lane which : Nat) : State :=
  let k := 4 * lane + which
  let v := satInc (2 ^ 32 - 1) (KMap.get (fun _ => 0) s.rdp.laneCnt k)
  { s with rdp := { s.rdp with laneCnt := KMap.put (fun _ => 0) s.rdp.laneCnt k v } }
/-- A late sample (R61, R233). -/
def State.lateSample (s : State) (lane : Nat) : State :=
  ((s.inc Reg.RING_CNT_LATE).int Reg.RING_DP_INT_STATUS_LATE).laneInc lane 2
/-- A sample stored for presentation tick P (R60), unless the entry is valid with another lap (R61). -/
def State.storeEntry (s : State) (lane p sample : Nat) : State :=
  let b := rateB s.rate
  let old := leVal (Mem.rdN s.mem.sram (s.entryAddr lane p + 3) 1)
  if 128 ≤ old ∧ old ≠ entryTag b p then s.lateSample lane
  else s.sramWrite (s.entryAddr lane p) (leBytes 3 sample ++ [BitVec.ofNat 8 (entryTag b p)])
/-- The lane list with one lane changed. -/
def State.modLane (s : State) (lane : Nat) (f : Lane → Lane) : State :=
  { s with rdp := { s.rdp with lanes := s.rdp.lanes.map (fun l => if l.lane = lane then f l else l) } }
/-- One slot taken for a lane from a direction (R233). A source cycle before cycle 0 is no cycle and is ignored. -/
def State.takeSlot (s : State) (p : Plan) (l : Lane) (dir sseq pres : Nat) (sample : Nat → Nat) : State :=
  let m := s.cycleNo
  let back := (m + 65536 - sseq % 65536) % 65536
  if m < back then s
  else
    let e := m - back
    let fresh := match nth l.last dir none with
      | some x => decide (x < e)
      | none => true
    if !fresh then s
    else
      let n := s.nTicks
      let age := s.ks.count + 1 - e * n
      let old := match l.map.find? (fun w => w.1 = e) with
        | some w => w.2
        | none => 0
      let s := s.modLane l.lane (fun l => { l with
        last := setNth l.last dir (some e),
        ages := modNth l.ages dir (fun a => a ++ [(m, age)]),
        takes := modNth l.takes dir (fun t => if t.contains m then t else t ++ [m]),
        map := (l.map.filter (fun w => w.1 ≠ e && decide (m < w.1 + 256))) ++ [(e, old ||| 2 ^ dir)] })
      if old ≠ 0 then s
      else s.forN n (fun s t =>
        if !bit pres t then s.inc Reg.RING_CNT_ABSENT
        else if e * n + t + p.d ≤ s.ks.count then s.lateSample l.lane
        else s.storeEntry l.lane (e * n + t + p.d) (sample t))
/-- Every tapped slot of a good frame (R233). -/
def State.tapFrame (s : State) (p : Plan) (dir k : Nat) (f : List Byte) : State :=
  if s.rateMis then s
  else
    let n := s.nTicks
    (List.range (p.slots k)).foldl (fun s j =>
      match s.rdp.lanes.find? (fun l => l.chan = k * spf p.rate + j && !l.self) with
      | some l => if s.hasSource l.chan then
          s.takeSlot p l dir (beAt f (30 + 4 * j) 2) (beAt f (32 + 4 * j) 2) (fun t => beAt f (sampleOff (p.slots k) n j t) 3) else s
      | none => s) s

/-! ## Passing frames (R223 to R230) -/

/-- The last value recorded for a key. -/
def lastOf (l : List (Nat × Nat)) (k : Nat) : Option Nat := (l.find? (fun w => w.1 = k)).map (·.2)
/-- A record replaced. -/
def setLast (l : List (Nat × Nat)) (k v : Nat) : List (Nat × Nat) := l.filter (fun w => w.1 ≠ k) ++ [(k, v)]
/-- Row AUDIO_FRAME: an audio frame whose last byte has arrived on a ring port (R223, R225, R228, R230, R231, R233). -/
def audioFrame (portB : Bool) (f : List Byte) (s : State) : State :=
  let port := b2n portB
  if !(s.linkUp port && isAudio f) then s
  else
    let s := s.event.rxCount port f
    match s.rdp.plan with
    | none => if s.inService port then s.inc Reg.RING_CNT_FOREIGN else s
    | some p =>
      if !s.carries port then s
      else
        let dir := bitsOf (beAt f 15 1) 7 7
        let k := bitsOf (beAt f 15 1) 3 0
        if ringVer f ≠ 1 ∨ s.rxPort dir ≠ port ∨ p.frames ≤ k ∨ beAt f 16 1 ≠ p.slots k then s.inc Reg.RING_CNT_FOREIGN
        else
          let m := s.cycleNo
          let key := dir * 16 + k
          let good := fcsOk f
          let ours := beAt f 22 2 = p.id
          let cyc := beAt f 18 4
          let gen := s.rdp.gen.contains (key, cyc)
          let early := cyc = (m + 1) % 2 ^ 32
          let s : State := { s with rdp := { s.rdp with seen := setLast s.rdp.seen key (if early then m + 1 else m) } }
          let s := if good then s
            else ((s.inc (if dir = 0 then Reg.RING_CNT_FCS_E else Reg.RING_CNT_FCS_W)).int Reg.RING_DP_INT_STATUS_FCS).raise 0x40 port
          let s := if good then { s with rdp := { s.rdp with
            good := modNth s.rdp.good dir (fun g => if g.contains m then g else g ++ [m]) } } else s
          let s := if ours then (if good then s.tapFrame p dir k f else s) else s.inc Reg.RING_CNT_FOREIGN
          if s.isHead then
            let kept := s.rdp.returned.filter (fun r => !(r.dir = dir && r.index = k))
            let back : Returned := ⟨dir, k, beAt f 22 2, slice f 30 (4 * p.slots k + 3 * rateN p.rate * p.slots k)⟩
            if good then { s with rdp := { s.rdp with returned := kept ++ [back] } } else s
          else if gen then s
          else
            let hops := min 0xFFF (bitsOf (beAt f 24 2) 11 0 + 1)
            let g := splice (f.take (f.length - 4)) 24 (beBytes 2 (bitsOf (beAt f 24 2) 15 12 * 4096 + hops))
            let (s, g) := if ours then s.passSends p dir k g else (s, g)
            s.sendAudio dir g (!good)
/-- A frame body with every descriptor and sample 0. -/
def emptyBody (slots n : Nat) : List Byte := List.replicate (4 * slots + 3 * n * slots) 0#8
/-- The returned body with PRES cleared in slots whose source cycle is too old at cycle c (R224), and how many. -/
def ageBody (p : Plan) (k c : Nat) (body : List Byte) : List Byte × Nat :=
  (List.range (p.slots k)).foldl (fun (acc : List Byte × Nat) j =>
    let sseq := beAt acc.1 (4 * j) 2
    let back := (c + 65536 - sseq) % 65536
    if ceilDiv p.d (rateN p.rate) + 2 < back then (splice acc.1 (4 * j + 2) [0#8, 0#8], acc.2 + 1) else acc) (body, 0)
/-- Row HEAD_LAUNCH: the head launches frame k of a direction in the present cycle (R224); it writes its own sends as
the frame leaves. -/
def headLaunch (dir k : Nat) (s : State) : State :=
  match s.rdp.plan with
  | none => s
  | some p =>
    let c := s.cycleNo
    let key := dir * 16 + k
    if !(s.isHead && s.rdp.launchOn && decide (k < p.frames) && decide (s.rdp.since ≤ c)) || lastOf s.rdp.launched key = some c then s
    else
      let n := rateN p.rate
      let back := s.rdp.returned.find? (fun r => r.dir = dir && r.index = k)
      let (body, aged) := match back with
        | some r => if r.plan = p.id then ageBody p k c r.body else (emptyBody (p.slots k) n, 0)
        | none => (emptyBody (p.slots k) n, 0)
      let s := s.incBy Reg.RING_CNT_AGED aged
      let kept := s.rdp.returned.filter (fun r => !(r.dir = dir && r.index = k))
      let s : State := { s with rdp := { s.rdp with launched := setLast s.rdp.launched key c, returned := kept } }
      let f := audioHead (s.portMac (s.txPort dir)) dir p.rate k (p.slots k) c p.id s.position false ++ body
      let (s, f) := s.passSends p dir k f
      s.sendAudio dir f false
/-- Row FRAME_GENERATE: no frame k of a direction has arrived by its expected phase plus 12 µs (R229). -/
def frameGenerate (dir k : Nat) (s : State) : State :=
  match s.rdp.plan with
  | none => s
  | some p =>
    let c := s.cycleNo
    let key := dir * 16 + k
    let seen := match lastOf s.rdp.seen key with
      | some x => decide (c ≤ x)
      | none => false
    if s.isHead || !decide (k < p.frames) || seen || s.rdp.gen.contains (key, c % 2 ^ 32) then s
    else
      let kept := s.rdp.gen.filter (fun g => decide ((c + 2 ^ 32 - g.2) % 2 ^ 32 < 256))
      let s : State := { s with rdp := { s.rdp with gen := kept ++ [(key, c % 2 ^ 32)], regenAt := setNth s.rdp.regenAt dir (some c) } }
      let f := audioHead (s.portMac (s.txPort dir)) dir p.rate k (p.slots k) c p.id s.position true ++ emptyBody (p.slots k) (rateN p.rate)
      let (s, f) := s.passSends p dir k f
      let s := (s.inc (if dir = 0 then Reg.RING_CNT_REGEN_E else Reg.RING_CNT_REGEN_W)).int Reg.RING_DP_INT_STATUS_REGEN
      s.sendAudio dir f false
/-- Row AUDIO_FRAME. -/
def execAudioFrame (portB : Bool) (frame : List Byte) (s : State) : Host.Outcome State Fault Refusal := .next (audioFrame portB frame s)
/-- Row HEAD_LAUNCH. -/
def execHeadLaunch (west : Bool) (k : Fin 16) (s : State) : Host.Outcome State Fault Refusal := .next (headLaunch (b2n west) k.val s)
/-- Row FRAME_GENERATE. -/
def execFrameGenerate (west : Bool) (k : Fin 16) (s : State) : Host.Outcome State Fault Refusal :=
  .next (frameGenerate (b2n west) k.val s)

/-! ## Ages, lookahead and bounds (R236 to R239) -/

/-- A direction is OK for a lane: a cycle was taken in each of the last 16 ring cycles (R236). -/
def Lane.ok (l : Lane) (dir m : Nat) : Bool := decide (16 ≤ m) && (List.range 16).all (fun j => (nth l.takes dir []).contains (m - 16 + j))
/-- The largest age of the last 256 ring cycles of a direction (R236). -/
def Lane.age (l : Lane) (dir m : Nat) : Option Nat :=
  ((nth l.ages dir []).filter (fun a => decide (m ≤ a.1 + 256))).foldl (fun (o : Option Nat) a => some (max a.2 (o.getD 0))) none
/-- The transport age A of a lane (R237, R218). -/
def Lane.transport (l : Lane) (d m : Nat) : Nat :=
  if l.self then 1
  else
    let as' := ([0, 1].filter (fun dir => l.ok dir m)).filterMap (fun dir => l.age dir m)
    match as' with
    | [] => d
    | a :: r => r.foldl min a
/-- The lookahead L of a lane in ticks (R62, R237). -/
def State.lookahead (s : State) (lane : Nat) : Nat :=
  match s.rdp.plan, s.rdp.lanes.find? (fun l => l.lane = lane) with
  | some p, some l => p.d - l.transport p.d s.cycleNo
  | _, _ => 0
/-- A_bound(h) of R238 in ticks: `hop` and `cable` in ns, `bits` the slowest speed in bits per second. -/
def ageBound (p : Plan) (hop cable bits h : Nat) : Nat :=
  let n := rateN p.rate
  let wire := audioWire (p.slots 0) n
  let ns : Rat := ((h * (hop + cable) + 12000 : Nat) : Rat) + ((wire * 8 * 1000000000 : Nat) : Rat) / ((bits : Nat) : Rat)
  3 * n + (-ratFloor (-(ns * ((rateHz p.rate : Nat) : Rat) / 1000000000))).toNat
/-- RING_DP_BOUND (R238, R239): D_seamless and D_short. The hop latency of R225 is 400 ns where every mode is corbel and 3,200 ns
otherwise; what the segments beyond this node's ports add is free (log entry 72). -/
def showBound (s : State) : State :=
  match s.rdp.plan with
  | none => s
  | some p =>
    let up := [0, 1].filter s.linkUp
    let cables := up.filterMap (fun q => let v := s.get Reg.PORT_Pp_LINK_DELAY_NS q; if v = 0xFFFF then none else some v)
    let codes := up.map s.speed
    let corbel := up.all (fun q => s.is Reg.PORT_Pp_LINK_CORBEL q)
    let (e, s) := s.fresh
    let beyond := decide (2 < p.nodes)
    let hop := if (up ≠ [] || beyond) && corbel && (!beyond || Config.ringCorbel e) then 400 else 3200
    let cable := (cables ++ (if beyond then [Config.ringCable e] else [])).foldl max 0
    let bits := speedBits ((codes ++ (if beyond then [Config.ringSpeed e % 3] else [])).foldl min 2)
    s.setWord Reg.RING_DP_BOUND (BitVec.ofNat 32 (min 0xFFF (ageBound p hop cable bits (p.nodes - 1)) * 65536 +
      min 0xFFF (ageBound p hop cable bits (p.nodes / 2))))

/-! ## Conflicts and what the registers show -/

/-- The send conflicts of R216, recomputed when a plan comes into effect or an image activates; a new one is raised. -/
def sendConflicts (s : State) : State :=
  let new := if s.rdp.plan.isSome && s.rdp.imgTick.isSome then (s.rdp.sends.filter (fun r => !s.named r.chan)).map (·.lane) else []
  let born := new.filter (fun l => !s.rdp.conflict.contains l)
  let s : State := { s with rdp := { s.rdp with conflict := new } }
  match born with
  | [] => s
  | l :: r => (s.int Reg.RING_DP_INT_STATUS_CONFLICT).raise 0x43 (r.foldl min l)
/-- OK of a direction for a lane that is not self-tapped and has a source (R217, R236). -/
def State.tapOk (s : State) (l : Lane) (dir : Nat) : Bool := !l.self && s.hasSource l.chan && l.ok dir s.cycleNo
/-- The data-path registers that follow the plan, the position and the placed image. -/
def rdpShow (s : State) : State :=
  let s := match s.rdp.plan with
    | some p =>
      let s := ((s.setB Reg.RING_DP_STATUS_PLAN true).setB Reg.RING_DP_STATUS_HEAD s.isHead).set Reg.RING_DP_STATUS_FRAMES p.frames
      let s := ((s.set Reg.RING_DP_STATUS_CHANNELS p.channels).set Reg.RING_DP_PLAN_NODES p.nodes).set Reg.RING_DP_PLAN_PLAN_ID p.id
      showBound (s.set Reg.RING_DP_POS_HEAD p.head)
    | none => s
  let s := s.rdp.sends.foldl (fun s r => s.setWord Reg.RING_SENDn (BitVec.ofNat 32 (2 ^ 31 + b2n (s.named r.chan) * 2 ^ 30 +
    b2n (s.rdp.conflict.contains r.lane) * 2 ^ 28 + r.chan)) r.lane) s
  s.rdp.lanes.foldl (fun s l => s.setWord Reg.RING_TAPn_STAT (BitVec.ofNat 32 (2 ^ 31 + b2n (s.tapOk l 0) * 2 ^ 30 +
    b2n (s.tapOk l 1) * 2 ^ 29 + b2n l.grouting * 2 ^ 28 + b2n l.self * 2 ^ 27 + l.group * 65536 + l.chan)) l.lane) s
/-- The registers brought up to date at the start of ring cycle m: OK bits, ages, generated and written marks, least
lookahead. -/
def rdpCycleShow (s : State) : State :=
  let m := s.cycleNo
  let okDir (d : Nat) : Bool := decide (16 ≤ m) && (List.range 16).all (fun j => (nth s.rdp.good d []).contains (m - 16 + j))
  let regen (d : Nat) : Bool := match nth s.rdp.regenAt d none with
    | some c => c + 1 = m
    | none => false
  let s := (((s.setB Reg.RING_DP_STATUS_OK_E (okDir 0)).setB Reg.RING_DP_STATUS_OK_W (okDir 1)).setB Reg.RING_DP_STATUS_REGEN_E
    (regen 0)).setB Reg.RING_DP_STATUS_REGEN_W (regen 1)
  let s : State := { s with rdp := { s.rdp with
    good := s.rdp.good.map (fun g => g.filter (fun c => decide (m ≤ c + 16))),
    lanes := s.rdp.lanes.map (fun l => { l with
      takes := l.takes.map (fun t => t.filter (fun c => decide (m ≤ c + 16))),
      ages := l.ages.map (fun a => a.filter (fun c => decide (m ≤ c.1 + 256))),
      map := l.map.filter (fun w => decide (m ≤ w.1 + 256)) }) } }
  let s := (indexed s.rdp.sends).foldl (fun s r => s.setB Reg.RING_SENDn_ACTIVE
    (match lastOf s.rdp.sentAt r.1 with
      | some c => c + 1 = m
      | none => false) r.2.lane) s
  let s := s.rdp.lanes.foldl (fun s l => if l.self then s else
    ((s.setB Reg.RING_TAPn_STAT_OK_E (s.tapOk l 0) l.lane).setB Reg.RING_TAPn_STAT_OK_W (s.tapOk l 1) l.lane).setWord
      Reg.RING_TAPn_AGE (BitVec.ofNat 32 (min 0xFFFF ((l.age 1 m).getD 0xFFFF) * 65536 + min 0xFFFF ((l.age 0 m).getD 0xFFFF))) l.lane) s
  let looks := (s.rdp.lanes.filter (fun l => !l.self)).map (fun l => (s.lookahead l.lane, l.lane))
  match looks with
  | [] => s.setWord Reg.RING_DP_LOOK 0#32
  | x :: r =>
    let b := r.foldl (fun a y => if y.1 < a.1 then y else a) x
    s.setWord Reg.RING_DP_LOOK (BitVec.ofNat 32 (2 ^ 31 + b.2 * 65536 + min 0xFFF b.1))
/-- Rebuild step 2: the ring MACs point at the taps and sends of an image, and VALID is cleared in the whole
presentation buffer (R117, R218). -/
def rdpPlace (im : Image) (s : State) : State :=
  let off (k : Nat) : Nat := match im.region k with
    | some r => r.off
    | none => 0
  let own := im.sends.map (·.chan)
  let s := (s.forN 128 (fun s n => (s.setWord Reg.RING_TAPn_STAT 0#32 n).setWord Reg.RING_TAPn_AGE 0xFFFFFFFF#32 n)).forN 64
    (fun s n => s.setWord Reg.RING_SENDn 0#32 n)
  rdpShow { s with rdp := { s.rdp with
    lanes := im.taps.map (fun t => ⟨t.lane, t.chan, t.group, own.contains t.chan, [none, none], [], [[], []], [[], []], false⟩),
    sends := im.sends, presOff := off 1, stageOff := off 2, imgTick := none, placed := true, written := [], sentAt := [],
    conflict := [] } }
/-- No image: no taps and no sends declared. -/
def rdpUnplace (s : State) : State :=
  let s := (s.forN 128 (fun s n => (s.setWord Reg.RING_TAPn_STAT 0#32 n).setWord Reg.RING_TAPn_AGE 0xFFFFFFFF#32 n)).forN 64
    (fun s n => s.setWord Reg.RING_SENDn 0#32 n)
  rdpShow { s with rdp := { s.rdp with lanes := [], sends := [], imgTick := none, placed := false, written := [], sentAt := [], conflict := [] } }
/-- The placed image becomes the active one at tick T (R118, R216, R226, R234). -/
def rdpActivate (s : State) : State :=
  rdpShow (sendConflicts { s with rdp := { s.rdp with imgTick := some s.ks.count, written := [] } })
/-- RING_DP_CTRL.AGE_CLR (R236). -/
def actAgeClr (s : State) : State :=
  let s : State := { s with rdp := { s.rdp with lanes := s.rdp.lanes.map (fun l => { l with ages := [[], []] }) } }
  s.rdp.lanes.foldl (fun s l => s.setWord Reg.RING_TAPn_AGE 0xFFFFFFFF#32 l.lane) s
/-- RING_DP_CTRL.CNT_CLR: every RING_CNT_, RING_LANE_ and RING_GROUP_SPLIT counter. -/
def actRingCntClr (s : State) : State :=
  let s := [Reg.RING_CNT_LONE, Reg.RING_CNT_LOST, Reg.RING_CNT_LATE, Reg.RING_CNT_ABSENT, Reg.RING_CNT_FCS_E, Reg.RING_CNT_FCS_W,
    Reg.RING_CNT_REGEN_E, Reg.RING_CNT_REGEN_W, Reg.RING_CNT_SEND_MISS, Reg.RING_CNT_FOREIGN, Reg.RING_CNT_AGED].foldl
    (fun s f => s.setWord f 0#32) s
  { s with rdp := { s.rdp with laneCnt := [], splits := [] } }

/-! ## The head and the tail of the tick -/

/-- The gather of one lane at tick P: its sample, and VALID cleared by the read; none when the entry is not valid with the
lap of P, which discards and counts one of another lap as late, or while no plan is in effect (R60, R61, R217, R218, R235).
An uncorrectable error in the entry's word makes the value missing (R532). -/
def State.gatherLane (s : State) (l : Lane) : State × Option Nat :=
  let k := s.ks.count
  let a := s.entryAddr l.lane k
  let v := s.entry l.lane k
  let tag := leVal (Mem.rdN s.mem.sram (a + 3) 1)
  let (s, ok) := s.eccRead 1 a 4 (some 0)
  let s := if tag < 128 then s else s.sramWrite (a + 3) [BitVec.ofNat 8 (tag - 128)]
  let s := if v.isNone && decide (128 ≤ tag) then s.lateSample l.lane else s
  let v := if ok && s.rdp.plan.isSome then v else none
  let s := if v.isNone then s.laneInc l.lane 3 else s
  let s := s.modLane l.lane (fun l => { l with grouting := v.isNone })
  (s.setB Reg.RING_TAPn_STAT_GROUTING v.isNone l.lane, v)
/-- The arrival bits of a source cycle on a lane (R232): east + 2 × west. -/
def Lane.bits (l : Lane) (e : Nat) : Nat :=
  match l.map.find? (fun w => w.1 = e) with
  | some w => w.2
  | none => 0
/-- The classification of the cycle whose last presentation tick this is (R234), and the group splits (R241). -/
def rdpClassify (s : State) : State :=
  let groups := ((List.range 255).map (· + 1)).filter (fun g => s.rdp.lanes.any (fun l => l.group = g))
  let s := groups.foldl (fun s g =>
    let ls := s.rdp.lanes.filter (fun l => l.group = g)
    if ls.any (·.grouting) && !ls.all (·.grouting) then
      { s with rdp := { s.rdp with splits := KMap.put (fun _ => 0) s.rdp.splits g (satInc (2 ^ 32 - 1) (KMap.get (fun _ => 0) s.rdp.splits g)) } }
    else s) s
  match s.rdp.plan, s.rdp.imgTick with
  | some p, some act =>
    let n := s.nTicks
    let k := s.ks.count
    if s.rateMis || decide (k + 1 < p.d + n) || (k + 1 - p.d) % n ≠ 0 then s
    else
      let e := (k + 1 - p.d) / n - 1
      if e < p.effective || decide (e * n + p.d < max act (p.effective * n)) then s
      else
        let ls := s.rdp.lanes.filter (fun l => !l.self && s.hasSource l.chan)
        let s := ls.foldl (fun s l =>
          if l.bits e = 3 then s
          else if l.bits e = 0 then ((s.inc Reg.RING_CNT_LOST).int Reg.RING_DP_INT_STATUS_LOST).laneInc l.lane 1
          else (((s.inc Reg.RING_CNT_LONE).int Reg.RING_DP_INT_STATUS_LONE).laneInc l.lane 0).raise 0x41 l.lane 0 (some 0)) s
        match ls.filter (fun l => l.bits e = 0) with
        | [] => s
        | l :: r => s.raise 0x42 ((r.map (·.lane)).foldl min l.lane) 0 (some 0)
  | _, _ => s
/-- The tail of tick T: the sample of each send record staged for source tick T, or no sample (R219), and self-taps
stored for P = T + D (R218). `v` gives the committed sample of a send lane as a 24-bit code. -/
def rdpTail (v : Nat → Option Nat) (s : State) : State :=
  let n := s.nTicks
  let t := s.ks.count
  (indexed s.rdp.sends).foldl (fun s r =>
    let x := if s.is Reg.RING_DP_CTRL_SEND_EN && s.rdp.imgTick.isSome then v r.2.lane else none
    let s := s.sramWrite (s.rdp.stageOff + 4 * (2 * n * r.1 + t % (2 * n))) (match x with
      | some c => leBytes 3 c ++ [0x80#8]
      | none => [0#8, 0#8, 0#8, 0#8])
    match x, s.rdp.plan, s.rdp.lanes.find? (fun l => l.chan = r.2.chan && l.self) with
    | some c, some p, some l => if s.rateMis then s else s.storeEntry l.lane (t + p.d) c
    | _, _, _ => s) s

end Sys2Proof.Machine
end

