-- ==== Sys2Proof/Machine/Bst.lean ====
section
/-! DEFINITION. The envelope law, the voice-coil thermal model, the DC detector and the load diagnostics (R376 to R401). -/
namespace Sys2Proof.Machine
open Sys2Proof

/-! ## The envelope law (R376 to R381) -/

/-- 10^(1/40) · 2^256, rounded down. -/
def tenthRoot : Nat := 122653201870688238681113447890872772735228151372249731188470297164370127802353
/-- 10^(g/40), the gain of g half-decibels, to about 250 bits; exact at whole powers of ten. -/
def pow10Half (g : Int) : Rat :=
  let r : Rat := ((tenthRoot ^ (g % 40).toNat : Nat) : Rat) / ((2 ^ (256 * (g % 40).toNat) : Nat) : Rat)
  let d := g / 40
  if 0 ≤ d then r * ((10 ^ d.toNat : Nat) : Rat) else r / ((10 ^ (-d).toNat : Nat) : Rat)
/-- The smallest integer not below a rational. -/
def ratCeil (q : Rat) : Int := -ratFloor (-q)
/-- W_min of a rate code in ticks (R376). -/
def wMin (rate : Nat) : Nat := 16 * 2 ^ rate
/-- The need of a magnitude on a channel in 0.5 V, with a gain of g half-decibels (R377). -/
def State.need (s : State) (n : Nat) (x : Rat) (g : Int) : Nat :=
  let v : Rat := ((s.get Reg.PWR_CHn_CFG_VFS n : Nat) : Rat)
  let y := x * pow10Half g
  (ratCeil (v * (if 1 < y then 1 else y) * 100 / 97 + ((s.get Reg.BST_CONVk_CFG_HEAD (n / 2) : Nat) : Rat))).toNat
/-- The full-scale need (R377). -/
def State.fullNeed (s : State) (n : Nat) : Nat := s.need n 1 0
/-- A channel of the models. -/
def State.bc (s : State) (n : Nat) : BstCh := nth s.bst.chans n BstCh.reset
/-- A channel of the models changed. -/
def State.modBc (s : State) (n : Nat) (f : BstCh → BstCh) : State := { s with bst := { s.bst with chans := modNth s.bst.chans n f } }
/-- A channel is LIVE or MUTING. -/
def State.sounding (s : State) (n : Nat) : Bool := decide (3 ≤ s.ch n)
/-- Whether a lane is tapped. -/
def State.tapped (s : State) (lane : Nat) : Bool := s.rdp.lanes.any (fun l => l.lane = lane)
/-- The reach L + DELAY of a channel's lookahead; 0 with no tapped lane (R381). -/
def State.reachOf (s : State) (n : Nat) : Nat :=
  let lane := s.get Reg.BST_CHn_ENV_LANE n
  if s.tapped lane then s.lookahead lane + s.get Reg.BST_CHn_ENV_DELAY n else 0
/-- The magnitude of a 24-bit code. -/
def codeMag (c : Nat) : Rat := ratAbs ((sext 24 c : Int) : Rat) / ((2 ^ 23 : Nat) : Rat)
/-- The magnitude of the lookahead entry u of a lane; 1.0 where the entry is not valid or its word is bad (R379). -/
def State.lookMag (s : State) (lane u : Nat) : Rat :=
  match s.entry lane u with
  | some c => if (s.eccIn 1 (s.entryAddr lane u) 4).any (·.dbl) then 1 else codeMag c
  | none => 1
/-- The demand of a channel at this tick in 0.5 V (R378, R381). -/
def State.demandOf (s : State) (n : Nat) : Nat :=
  let c := s.bc n
  if s.is Reg.BST_CHn_ENV_NONE n || c.fallback then s.fullNeed n
  else
    let lane := s.get Reg.BST_CHn_ENV_LANE n
    let d := s.get Reg.BST_CHn_ENV_DELAY n
    let w := min (s.get Reg.BST_CONVk_CFG_WINDOW (n / 2)) (s.reachOf n)
    let g := sext 8 (s.get Reg.BST_CHn_ENV_PATHGAIN n)
    let past := ((c.needs.drop (d - w)).take (d + 1 - (d - w))).foldl max 0
    (List.range (w - d)).foldl (fun a j => max a (s.need n (s.lookMag lane (s.ks.count + 1 + j)) g)) past
/-- The onset and the end by state of a channel's fallback (R381). -/
def fallbackStep (s : State) (n : Nat) : State :=
  let k := n / 2
  let c := s.bc n
  let may := !s.is Reg.BST_CHn_ENV_NONE n && s.sounding n
  let short := decide (s.reachOf n < wMin s.rate)
  if !may then s.modBc n (fun c => { c with fallback := false, okTicks := 0 })
  else if c.fallback then s.modBc n (fun c => { c with okTicks := if short then 0 else c.okTicks + 1 })
  else if short then
    let s := (s.modBc n (fun c => { c with fallback := true, okTicks := 0 })).inc Reg.BST_CONVk_CNT_LOOK_SHORT k
    let s := if s.is Reg.BST_CONVk_STATUS_FALLBACK k then s else s.int Reg.BST_INT_STATUS_FALLBACK
    (s.setB Reg.BST_CONVk_STATUS_FALLBACK true k).raise 0x35 k 0 (some 0)
  else s
/-- FALLBACK of the converters. -/
def showFallback (s : State) : State :=
  s.forN 4 (fun s k => s.setB Reg.BST_CONVk_STATUS_FALLBACK ((s.bc (2 * k)).fallback || (s.bc (2 * k + 1)).fallback) k)
/-- The law's part in the head of a tick: the needs of the gathered values, fallback and the demands. `gathered` gives the
value the gather supplied from a lane. A need stays as its tick formed it, whatever LANE, PATHGAIN or HEAD become later, and a
tick in which the lane is not gathered counts as 0 (DESIGN CHOICE, log entry 74). -/
def bstHead (gathered : Nat → Option F32) (s : State) : State :=
  let s := s.forN 8 (fun s n =>
    if s.is Reg.BST_CHn_ENV_NONE n then s.modBc n (fun c => { c with needs := [] })
    else match gathered (s.get Reg.BST_CHn_ENV_LANE n) with
      | some v =>
        let x := s.need n (ratAbs (f32Rat v)) (sext 8 (s.get Reg.BST_CHn_ENV_PATHGAIN n))
        s.modBc n (fun c => { c with needs := (x :: c.needs).take 65536 })
      | none => s.modBc n (fun c => { c with needs := (0 :: c.needs).take 65536 }))
  let s := showFallback (s.forN 8 fallbackStep)
  let s := s.forN 4 (fun s k => if s.is Reg.BST_CONVk_STATUS_FALLBACK k then s.inc Reg.BST_CONVk_CNT_FALLBACK k else s)
  { s with bst := { s.bst with demand := (List.range 8).map s.demandOf } }
/-- Row FALLBACK_END: the lookahead has sufficed for 12 ring cycles (R381). -/
def fallbackEnd (n : Nat) (s : State) : State :=
  let c := s.bc n
  if c.fallback && decide (12 * s.nTicks ≤ c.okTicks) then showFallback (s.modBc n (fun c => { c with fallback := false, okTicks := 0 }))
  else s
/-- The target of a converter for this tick, from the demands and the committed samples (R380). -/
def State.railTarget (s : State) (k : Nat) : Rat :=
  let chs := [2 * k, 2 * k + 1].filter s.sounding
  let needs := chs.map (fun n => max (nth s.bst.demand n 0) (match nth s.pwr.stage n none with
    | some c => s.need n (ratAbs ((c : Int) : Rat) / ((2 ^ 23 : Nat) : Rat)) 0
    | none => 0))
  let want : Rat := ((needs.foldl max 80 : Nat) : Rat) / 2
  let fall : Rat := ((s.get Reg.BST_CONVk_CFG_DECAY k * 1000 : Nat) : Rat) / ((rateHz s.rate : Nat) : Rat)
  let held := max want (nth s.bst.targets k 40 - fall)
  min held ((s.get Reg.BST_CONVk_CFG_RAIL_MAX k : Nat) : Rat)
/-- The law in the tail of a tick: the targets of the next DN frame (R380). -/
def bstTail (s : State) : State :=
  let ts := (List.range 4).map s.railTarget
  let s : State := { s with bst := { s.bst with targets := ts }, pwr := { s.pwr with targets := ts } }
  s.forN 4 (fun s k => s.set Reg.BST_CONVk_STATUS_TARGET (ratCeil (nth ts k 40)).toNat k)
/-- BST_CTRL.CNT_CLR. -/
def actBstCntClr (s : State) : State := s.forN 4 (fun s k => s.setWord Reg.BST_CONVk_CNT 0#32 k)
/-- BST_STATUS as a read assembles it. -/
def State.bstStatus (s : State) : Word :=
  let m (f : Fld) := maskOf ((List.range 8).filter (fun n => s.is f n)) 8
  BitVec.ofNat 32 (m Reg.BST_CHn_STATE_TRIPPED * 65536 + m Reg.BST_CHn_STATE_LIMITING * 256 +
    maskOf ((List.range 4).filter (fun k => s.is Reg.BST_CONVk_STATUS_FALLBACK k)) 4)

/-! ## The thermal model and the protection gain (R383 to R388, R391) -/

/-- The life-safety override is effective for a channel (R391). -/
def State.ovrFor (s : State) (n : Nat) : Bool :=
  s.is Reg.MIX_OVR_STATUS_EFFECTIVE && s.imgHas (fun im => match im.ovr with
    | some o => bit o.outMask n
    | none => false)
/-- The gain applied to a channel in dB (R386, R391). -/
def State.gainDb (s : State) (n : Nat) : Rat :=
  if !(s.bc n).thOn then 0
  else
    let g := (s.bc n).g
    match s.img.active with
    | some im => match im.ovr with
      | some o => if s.ovrFor n then min 0 (g + ((o.margin : Nat) : Rat) / 2) else g
      | none => g
    | none => g
/-- The protection gain of a channel (R187, R386). -/
def State.protGain (s : State) (n : Nat) : F32 :=
  let g := s.gainDb n
  if g = 0 then 0x3F800000#32 else f32OfRat (undb g)
/-- A temperature as a register shows it, in 0.1 °C. -/
def tenths (t : Rat) : Nat := toTwos 16 (clampI (-32768) 32767 (ratRne (t * 10)))
/-- R_model in ohms (R384). -/
def State.rModel (s : State) (n : Nat) : Rat :=
  ((s.get Reg.BST_CHn_TH3_RE20 n : Nat) : Rat) / 1000 * (1 + 393 / 100000 * ((s.bc n).tc - 20))
/-- The registers of a channel's model. -/
def showModel (s : State) (n : Nat) : State :=
  let c := s.bc n
  let gain := (clampI 0 160 (ratRne (-4 * s.gainDb n))).toNat
  let s := ((s.set Reg.BST_CHn_STATE_TCOIL (tenths c.tc) n).set Reg.BST_CHn_STATE_GAIN gain n).setB Reg.BST_CHn_STATE_LIMITING
    (decide (c.g < 0)) n
  let s := (s.set Reg.BST_CHn_TEMP_TPOLE (tenths c.tp) n).set Reg.BST_CHn_TEMP_TAIR (tenths c.ta) n
  s.set Reg.BST_CHn_RES_R_MODEL (clampI 0 65535 (ratRne (s.rModel n * 1000))).toNat n
/-- The ambient temperature of R383 in °C. -/
def State.ambient (s : State) : Rat :=
  if s.is Reg.BST_AMB_SRC then ((s.pwr.sense.base : Int) : Rat) / 10 else ((sext 16 (s.get Reg.BST_AMB_AMB) : Int) : Rat) / 10
/-- The nodes after one millisecond (R383). -/
def thermalNodes (s : State) (n : Nat) (p : Rat) (c : BstCh) : BstCh :=
  let r1 : Rat := ((s.get Reg.BST_CHn_TH0_RTH1 n : Nat) : Rat) / 100
  let r2 : Rat := ((s.get Reg.BST_CHn_TH1_RTH2 n : Nat) : Rat) / 100
  let r3 : Rat := ((s.get Reg.BST_CHn_TH2_RTH3 n : Nat) : Rat) / 100
  let c1 : Rat := ((s.get Reg.BST_CHn_TH0_TAU1 n : Nat) : Rat) / 1000 / r1
  let c2 : Rat := ((s.get Reg.BST_CHn_TH1_TAU2 n : Nat) : Rat) / 10 / r2
  let c3 : Rat := ((s.get Reg.BST_CHn_TH2_TAU3 n : Nat) : Rat) / r3
  let dt : Rat := 1 / 1000
  { c with
      tc := c.tc + dt / c1 * (p - (c.tc - c.tp) / r1)
      tp := c.tp + dt / c2 * ((c.tc - c.tp) / r1 - (c.tp - c.ta) / r2)
      ta := c.ta + dt / c3 * ((c.tp - c.ta) / r2 - (c.ta - s.ambient) / r3) }
/-- The protection gain after one millisecond (R386). -/
def gainStep (tl : Rat) (c : BstCh) : BstCh :=
  let x : Rat := if c.tc ≤ tl - 10 then 0 else -6 / 10 * (c.tc - (tl - 10))
  let over1 := if tl < c.tc then max (c.overdrive - 1 / 100) (-34) else min (c.overdrive + 2 / 1000) 0
  let want := max (x + over1) (-40)
  let g := if want < c.g then want else min want (c.g + 2 / 1000)
  { c with overdrive := over1, g := g, floorMs := if g = -40 ∧ tl < c.tc then c.floorMs + 1 else 0 }
/-- A thermal or DC load fault declared (R387, R389). -/
def declareTrip (src n : Nat) (s : State) : State :=
  if s.flt.loads.any (fun l => l.1 = src && l.2.1 = n) then s
  else ((((s.raise src n).loadFault src n).setB Reg.BST_CHn_STATE_TRIPPED true n).int Reg.BST_INT_STATUS_TRIP)
/-- Whether the BST domain is at L0 (R388). -/
def State.bstRuns (s : State) : Bool := (nth s.dom.doms 55 ⟨0, false, false⟩).state = 0
/-- One millisecond of a channel's model (R383 to R387). -/
def thermalStep (s : State) (n : Nat) : State :=
  if !s.is Reg.BST_CHn_PROT_TH_EN n then showModel (s.modBc n (fun c => { c with thOn := false, isum := 0, icnt := 0 })) n
  else
    let c := s.bc n
    let i2 : Rat := if c.icnt = 0 then (let i : Rat := ((nth s.pwr.sense.i n 0 : Int) : Rat) / 1000; i * i) else c.isum / ((c.icnt : Nat) : Rat)
    let lim := s.ilim n / 1000
    let p := (if lim * lim < i2 then lim * lim else i2) * s.rModel n
    let tl : Rat := ((s.get Reg.BST_CHn_TH3_TMAX n : Nat) : Rat)
    let c := gainStep tl (thermalNodes s n p { c with thOn := true, isum := 0, icnt := 0 })
    let was := s.is Reg.BST_CHn_STATE_LIMITING n
    let s := showModel (s.modBc n (fun _ => c)) n
    let s := if decide (c.g < 0) && !was then (s.raise 0x36 n).int Reg.BST_INT_STATUS_LIMIT else s
    if (decide (tl + 20 < c.tc) || decide (10000 ≤ c.floorMs)) && !s.ovrFor n then declareTrip 0x37 n s else s
/-- Row THERMAL_UPDATE: every channel's model after a millisecond (R383). -/
def thermalUpdate (s : State) : State := if !s.bstRuns then s else s.event.forN 8 thermalStep
/-- One second of a channel's resistance measurement, from the filtered v and i of its UP frames: valid where the RMS of i is at least
0.2 A (R385). -/
def rmeasStep (s : State) (n : Nat) : State :=
  let c := s.bc n
  let s := s.modBc n (fun c => { c with rVi := 0, rIi := 0, rN := 0 })
  if s.get Reg.BST_CHn_TH4_RFREQ n = 0 || !s.is Reg.BST_CHn_PROT_TH_EN n then s.setB Reg.BST_CHn_STATE_R_VALID false n
  else
    let ok := decide (0 < c.rN) && decide (((c.rN : Nat) : Rat) * 4 / 100 ≤ c.rIi)
    let s := s.setB Reg.BST_CHn_STATE_R_VALID ok n
    if !ok then s
    else
      let r := c.rVi / c.rIi
      let re : Rat := ((s.get Reg.BST_CHn_TH3_RE20 n : Nat) : Rat) / 1000
      let s := s.set Reg.BST_CHn_RES_R_MEAS (clampI 0 65535 (ratRne (r * 1000))).toNat n
      if r < re / 2 ∨ re * 5 / 2 < r then (s.raise 0x39 n).int Reg.BST_INT_STATUS_R_ODD
      else showModel (s.modBc n (fun c => { c with tc := max c.tc (20 + (r / re - 1) / (393 / 100000)) })) n
/-- Row RMEAS_UPDATE (R385). -/
def rmeasUpdate (s : State) : State := if !s.bstRuns then s else s.event.forN 8 rmeasStep
/-- A cold initialisation of the models: every node at ambient, g at 0 (R388). -/
def bstCold (s : State) : State :=
  let a := s.ambient
  (s.forN 8 (fun s n => s.modBc n (fun c => { c with tc := a, tp := a, ta := a, g := 0, overdrive := 0, floorMs := 0 }))).forN 8 showModel

/-! ## The DC detector (R389) -/

/-- The ticks that DC_MS lasts. -/
def State.dcTicks (s : State) (n : Nat) : Nat := s.get Reg.BST_CHn_PROT_DC_MS n * rateHz s.rate / 1000
/-- A DC load fault declared once the count is reached. -/
def dcDeclare (n : Nat) (s : State) : State :=
  if decide (s.dcTicks n ≤ (s.bc n).dc) && decide (0 < (s.bc n).dc) then declareTrip 0x38 n s else s
/-- One tick of a channel's detector. The sign of the previous tick is that of its mean, a mean of 0 counting as positive and the
mean being formed in every tick (DESIGN CHOICE, log entry 74). -/
def dcStep (s : State) (n : Nat) : State :=
  let c := s.bc n
  let sum : Int := c.vhist.foldl (· + ·) 0
  let neg := decide (sum < 0)
  if !(s.is Reg.BST_CHn_PROT_DC_EN n && s.sounding n) then
    (s.modBc n (fun c => { c with dc := 0, dcNeg := neg })).setB Reg.BST_CHn_STATE_DC_ALARM false n
  else
    let big := decide (((100 * s.get Reg.BST_CHn_PROT_DC_V n * c.vhist.length : Nat) : Int) ≤ sum.natAbs) && c.vhist ≠ []
    let dc := if big && neg = c.dcNeg then c.dc + 1 else 0
    let s := (s.modBc n (fun c => { c with dc := dc, dcNeg := neg })).setB Reg.BST_CHn_STATE_DC_ALARM (decide (0 < dc)) n
    dcDeclare n s
/-- The detector in the tail of a tick. -/
def dcTail (s : State) : State := s.forN 8 dcStep
/-- Whether a write to BST_CHn_PROT would leave a served channel without protection (R390). -/
def State.protBare (s : State) (n : Nat) (v : Word) : Bool := s.img.active.isSome && bit s.served n && v.toNat % 4 = 0

/-! ## Load diagnostics (R392 to R400) -/

/-- sin of a number of turns in an eighth of the circle or its complement, by the series of R455. -/
def sinTurn (q : Rat) : Rat :=
  let q := q - ((ratFloor q : Int) : Rat)
  let neg := decide ((1 : Rat) / 2 ≤ q)
  let q := if neg then q - 1 / 2 else q
  let q := if 1 / 4 < q then 1 / 2 - q else q
  let fix (t : Rat) : Int := ratFloor ((piFix : Rat) * 2 * t)
  let v : Int := if q ≤ 1 / 8 then (let x := fix q; trigSeries 24 x (x * x / 2 ^ 120) 2)
    else (let x := fix (1 / 4 - q); trigSeries 24 (2 ^ 120) (x * x / 2 ^ 120) 1)
  ((if neg then -v else v : Int) : Rat) / ((2 ^ 120 : Nat) : Rat)
/-- cos of a number of turns. -/
def cosTurn (q : Rat) : Rat := sinTurn (q + 1 / 4)
/-- The instances reached by nets from a set, in `n` rounds; every input of a block reaches its outputs. -/
def Image.reach (im : Image) : Nat → List Nat → List Nat
  | 0, l => l
  | n + 1, l =>
    let new := ((im.nets.filter (fun t => l.contains t.src)).map (·.dst)).filter (fun d => !l.contains d)
    if new = [] then l else im.reach n (l ++ new.eraseDups)
/-- Whether a path of nets leads from an instance to the output endpoint's channel CHn (R392). -/
def Image.drives (im : Image) (id n : Nat) : Bool :=
  let r := im.reach im.insts.length [id]
  im.nets.any (fun t => r.contains t.src && (match im.inst t.dst with
    | some i => i.kind = 0x41 && i.port = 0x0A && i.first + t.dstPort = n
    | none => false))
/-- The impedance test instance that runs for a channel: the one with the lowest ID of those that drive it (R392). -/
def Image.tester (im : Image) (n : Nat) : Option Inst :=
  (im.insts.filter (fun i => i.kind = 0x13 && im.drives i.id n)).foldl (fun a i => match a with
    | some b => if i.id < b.id then some i else a
    | none => some i) none
/-- The impedance test instance of the channel under test. -/
def State.tester (s : State) : Option Inst :=
  match s.img.active, s.bst.diag.chans.head? with
  | some im, some n => im.tester n
  | _, _ => none
/-- The diagnostic state changed. -/
def State.modDiag (s : State) (f : DiagState → DiagState) : State := { s with bst := { s.bst with diag := f s.bst.diag } }
/-- A run is in progress. -/
def State.diagRuns (s : State) : Bool := s.bst.diag.step ≠ .idle
/-- Whether a run drives its test signal through an impedance test instance now (R186). -/
def State.diagTests (s : State) (id : Nat) : Bool :=
  match s.bst.diag.step, s.tester with
  | .dwell _, some t => t.id = id
  | _, _ => false
/-- The RMS level of the pink noise of a generator that an acoustic run uses (R398). -/
def State.diagNoise (s : State) (id : Nat) : Option Rat :=
  if s.diagRuns && decide (2 ≤ s.bst.diag.mode) && id = s.get Reg.BST_ACOU_CFG_GEN_ID then
    some (undb (-((s.get Reg.BST_ACOU_CFG_LEVEL : Nat) : Rat) / 2))
  else none
/-- The factor of the fade of R393. -/
def State.diagFade (s : State) : Rat := ((32 - s.bst.diag.fade : Nat) : Rat) / 32
/-- The factor of the fade of a power-stage output. -/
def State.diagOutFade (s : State) (n : Nat) : Rat := ((32 - nth s.bst.diag.outFade n 0 : Nat) : Rat) / 32
/-- A power-stage output is faded: a run lasts and its channel is not the one under test; while the background is measured
none is (R393, R398). -/
def DiagState.fadesOut (d : DiagState) (n : Nat) : Bool :=
  d.step ≠ .idle && (d.step = .background || d.chans.head? ≠ some n)
/-- One tick of the fades, from the tick after START. -/
def diagFadeTick (s : State) : State :=
  let move (on : Bool) (x : Nat) : Nat := if on then min 32 (x + 1) else x - 1
  s.modDiag (fun d => { d with fade := move (d.step ≠ .idle) d.fade, outFade := (indexed d.outFade).map (fun x => move (d.fadesOut x.1) x.2) })
/-- Whether a generator, player or test instance takes part in the run (R393, R398). -/
def State.diagPart (s : State) (id : Nat) : Bool :=
  if s.bst.diag.mode = 1 then s.diagTests id else id = s.get Reg.BST_ACOU_CFG_GEN_ID
/-- The words of an instance's parameters as the engine holds them. -/
def State.instPar (s : State) (id : Nat) : List Word :=
  match s.eng.insts.find? (fun i => i.id = id) with
  | some i => i.par
  | none => []
/-- Register requests of a run: PWR_CHn_CTRL written with ARM (1), RELEASE (2) or MUTE (4), as a host would; over a link that is down
they have no effect (R18, R351). -/
def State.runCtrl (s : State) (n : Nat) (bits : List Nat) : State :=
  if !s.linkOk then s
  else { s with pwr := { s.pwr with reqs := s.pwr.reqs ++ bits.map (fun b => ⟨true, Reg.PWR_CHn_CTRL.addr + Reg.PWR_CHn_CTRL.s1 * n, BitVec.ofNat 32 b, .run⟩) } }
/-- The next channel of a run begins: a HELD channel is started, a LIVE one is tested at once (R393). -/
def diagBegin (s : State) : State :=
  match s.bst.diag.chans with
  | [] => s.modDiag (fun d => { d with step := .muting })
  | n :: _ =>
    let s := s.set Reg.BST_DIAG_STATUS_CHAN n
    let s := s.modDiag (fun d => { d with step := .starting, faulted := false, ticks := 0, samples := [], meas := [] })
    if s.ch n = 1 then (s.runCtrl n [1, 2]).modDiag (fun d => { d with started := d.started ||| 2 ^ n }) else s
/-- A channel under test that is LIVE goes on to its test signal. -/
def diagTail (s : State) : State :=
  match s.bst.diag.step, s.bst.diag.chans.head? with
  | .starting, some n => if s.ch n = 3 then s.modDiag (fun d => { d with step := if d.mode = 1 then .dwell 0 else .measure, ticks := 0, samples := [], mic := [] }) else s
  | _, _ => s
/-- BST_DIAG_CTRL.START (R392). -/
def actDiagStart (s : State) : Act :=
  let mode := s.get Reg.BST_DIAG_CTRL_MODE
  let mask := s.get Reg.BST_DIAG_CFG_CHMASK
  let chs := bitsSet mask 8
  let refuse (r : Nat) : Act := ((s.set Reg.BST_DIAG_STATUS_RESULT r).int Reg.BST_INT_STATUS_DIAG_DONE, stBusy)
  if s.diagRuns || s.is Reg.MIX_OVR_STATUS_EFFECTIVE || s.img.active.isNone || s.stage = 3 || s.stage = 4 ||
      s.is Reg.IMG_STATUS_EPOCH_HOLD then refuse 2
  else if mode = 0 || mask = 0 then refuse 5
  else if !s.imgHas (fun im => if mode = 1 then chs.all (fun n => (im.tester n).isSome) else
      (match im.inst (s.get Reg.BST_ACOU_CFG_GEN_ID) with
       | some i => i.kind = 0x10
       | none => false)) then refuse 3
  else
    let s := s.setWord Reg.BST_DIAG_STATUS (BitVec.ofNat 32 (2 ^ 24))
    let s := chs.foldl (fun s n => (s.setWord Reg.BST_CHn_VERDICT 0#32 n).forN 8 (fun s k => s.setWord Reg.BST_CHn_ZRESk 0#32 n k)) s
    let s : State := { s with bst := { s.bst with diag := { DiagState.reset with
      mode := mode, chans := chs, step := .background, fade := s.bst.diag.fade, outFade := s.bst.diag.outFade } } }
    (if mode = 1 then diagBegin s else s, stOk)
/-- The end of a run (R393, R397): RESULT and the interrupt. MODE stays, by which the fades in know what took part. -/
def diagFinish (result : Nat) (s : State) : State :=
  let s := s.modDiag (fun d => { DiagState.reset with mode := d.mode, fade := d.fade, outFade := d.outFade })
  ((s.set Reg.BST_DIAG_STATUS_RESULT result).setB Reg.BST_DIAG_STATUS_RUNNING false).int Reg.BST_INT_STATUS_DIAG_DONE
/-- A run aborted (R397); channels in `keep` that the run started stay as they are. -/
def diagAbort (keep : Nat) (s : State) : State :=
  if !s.diagRuns then s
  else
    let st := s.bst.diag.started
    diagFinish 4 ((bitsSet (st - (st &&& keep)) 8).foldl (fun s n => s.runCtrl n [4]) s)
/-- BST_DIAG_CTRL.ABORT; without a run it does nothing. -/
def actDiagAbort (s : State) : State := diagAbort 0 s
/-- The phasor sum (2/N) Σ x[t]·e^(−jωt) of samples paired with their tick in the dwell, x in thousandths. -/
def phasor (turn : Rat) (xs : List (Nat × Int)) : Rat × Rat :=
  let n : Rat := ((xs.length : Nat) : Rat)
  let re := (xs.map (fun p => ((p.2 : Int) : Rat) / 1000 * cosTurn (turn * ((p.1 : Nat) : Rat)))).sum
  let im := (xs.map (fun p => ((p.2 : Int) : Rat) / 1000 * sinTurn (turn * ((p.1 : Nat) : Rat)))).sum
  (2 / n * re, -2 / n * im)
/-- Z of a dwell (R394): frequency in Hz, samples oldest first, filter capacitance of the channel in nF. -/
def measureZ (fs : Nat) (f cnf : Rat) (dwell : Nat) (samples : List (Int × Int)) : ZMeas :=
  let none' : ZMeas := ⟨false, false, 0, 0, f⟩
  if ((fs : Nat) : Rat) * 45 / 100 ≤ f then none'
  else
    let ix := (indexed samples).drop (dwell / 4)
    let turn := f / ((fs : Nat) : Rat)
    let (vr, vi) := phasor turn (ix.map (fun p => (p.1, p.2.1)))
    let (ir, ii) := phasor turn (ix.map (fun p => (p.1, p.2.2)))
    if (vr * vr + vi * vi) / 2 < 1 / 4 then none'
    else
      let b := piRat * f * cnf / 1000000000
      let (lr, li) := (ir + b * vi, ii - b * vr)
      let d := lr * lr + li * li
      if d = 0 then ⟨true, true, 0, 0, f⟩ else ⟨true, false, (vr * lr + vi * li) / d, (vi * lr - vr * li) / d, f⟩
/-- |Z|² of a measurement in Ω². -/
def ZMeas.mag2 (z : ZMeas) : Rat := z.re * z.re + z.im * z.im
/-- Whether |Z| is below a value. -/
def ZMeas.below (z : ZMeas) (x : Rat) : Bool := !z.inf && decide (z.mag2 < x * x)
/-- Whether |Z| is above a value. -/
def ZMeas.above (z : ZMeas) (x : Rat) : Bool := z.inf || decide (x * x < z.mag2)
/-- |Z| in 10 mΩ, saturating. -/
def ZMeas.magField (z : ZMeas) : Nat :=
  if z.inf then 65535 else min 65535 ((Nat.sqrt (ratFloor (z.mag2 * 40000)).toNat + 1) / 2)
/-- The phase of Z in whole degrees: the one of −180 to 180 whose direction lies nearest. -/
def ZMeas.phaseDeg (z : ZMeas) : Int :=
  ((List.range 361).foldl (fun (a : Int × Rat) (k : Nat) =>
    let d : Int := (k : Int) - 180
    let p := z.re * cosTurn ((d : Rat) / 360) + z.im * sinTurn ((d : Rat) / 360)
    if a.2 < p then (d, p) else a) (0, z.re)).1
/-- tan 20° · 2^120, rounded down. -/
def tan20 : Rat := ((483799425019030475182978242422447690 : Nat) : Rat) / ((2 ^ 120 : Nat) : Rat)
/-- The phase of Z lies above −20° (R396). -/
def ZMeas.capShort (z : ZMeas) : Bool := if 0 < z.re then decide (-(z.re * tan20) < z.im) else decide (0 ≤ z.im)
/-- Row DIAG_DWELL_END: the dwell of a frequency is over and its impedance is measured (R394). -/
def diagDwellEnd (s : State) : State :=
  match s.bst.diag.step, s.bst.diag.chans.head?, s.tester with
  | .dwell k, some n, some t =>
    let par := s.instPar t.id
    let dwell := (nth par (t.kver + 1) 0#32).toNat
    if s.bst.diag.ticks < dwell then s
    else
      let z := measureZ (rateHz s.rate) (f32Rat (nth par k 0#32)) ((s.get Reg.PWR_CHn_FILT_C_NF n : Nat) : Rat) dwell
        (s.bst.diag.samples.reverse.take dwell)
      -- the engine has gone on to the next frequency, whose frames already stand at the front
      s.modDiag (fun d => { d with
        meas := d.meas ++ [z], ticks := d.ticks - dwell, samples := d.samples.take (d.ticks - dwell), step := if k + 1 < t.kver then .dwell (k + 1) else .muting })
  | _, _, _ => s
/-- The result of one frequency in BST_CHn_ZRESk (R395); answers whether it is LOW or HIGH. -/
def showZ (n k : Nat) (z : ZMeas) (s : State) : State × Bool :=
  if !z.ok then (s.setWord Reg.BST_CHn_ZRESk 0#32 n k, false)
  else
    let nom : Rat := ((s.get Reg.BST_CHn_ZREFk_ZNOM n k : Nat) : Rat) / 100
    let tol : Rat := ((s.get Reg.BST_CHn_ZREFk_TOL n k : Nat) : Rat) / 100
    let v := if nom = 0 then 1 else if z.below (nom * (1 - tol)) then 2 else if z.above (nom * (1 + tol)) then 3 else 1
    let (ph, s) : Int × State := if z.inf then (let (j, s) := s.fresh; (ratFloor (Config.zFree j), s)) else (z.phaseDeg, s)
    (s.setWord Reg.BST_CHn_ZRESk (BitVec.ofNat 32 (v * 2 ^ 30 + b2n (decide (nom = 0)) * 2 ^ 29 +
      toTwos 8 (clampI (-128) 127 ph) * 65536 + z.magField)) n k, v ≠ 1)
/-- The capacitor check of R396: CAP_EST, and verdict 5 or 6 if it fails. -/
def capCheck (n : Nat) (lo : ZMeas) (s : State) : State × Option Nat :=
  let c := s.get Reg.BST_CHn_CAP_CAP_NF n
  if c = 0 then (s, none)
  else
    let tol : Rat := ((s.get Reg.BST_CHn_CAP_CAP_TOL n : Nat) : Rat) / 100
    let w := 2 * piRat * lo.freq * lo.im
    let est : Option Rat := if w = 0 then none else some (-1000000000 / w)
    let fld := match est with
      | none => 0xFFFFF
      | some e => (clampI 0 0xFFFFF (ratRne e)).toNat
    let out := match est with
      | none => true
      | some e => decide (e < (c : Rat) * (1 - tol)) || decide ((c : Rat) * (1 + tol) < e)
    (s.set Reg.BST_CHn_VERDICT_CAP_EST fld n, if lo.capShort then some 5 else if out then some 6 else none)
/-- The verdict of a channel in mode 1 (R395). -/
def loadVerdict (n : Nat) (s : State) : State × Nat :=
  let d := s.bst.diag
  let (s, zOut) := (indexed d.meas).foldl (fun (a : State × Bool) p => let r := showZ n p.1 p.2 a.1; (r.1, a.2 || r.2)) (s, false)
  let ms := d.meas.filter (·.ok)
  let lo := ms.foldl (fun (a : Option ZMeas) z => match a with
    | some b => if z.freq < b.freq then some z else a
    | none => some z) none
  let (s, cap) := match lo with
    | some z => capCheck n z s
    | none => (s, none)
  let short : Rat := ((s.get Reg.BST_DIAG_CFG_SHORT : Nat) : Rat) / 10
  (s, if d.faulted then 9
    else if ms = [] then 7
    else if ms.any (fun z => z.below short) then 3
    else if ms.all (fun z => z.above 100) then 2
    else match cap with
      | some v => v
      | none => if zOut then 4 else 1)
/-- Measured and background level of a band in 0.1 dBFS. -/
def State.lvl (s : State) (n b : Nat) : Int := sext 16 (s.get Reg.BST_ACOU_LVLn_b_LVL n b)
/-- The bands that count for a channel. -/
def State.bands (s : State) (n : Nat) : List Nat := bitsSet (s.get Reg.BST_CHn_AMASK_MASK n) 10
/-- Every masked band lies SNR above the background (R399, R400). -/
def State.snrOk (s : State) (n : Nat) : Bool :=
  (s.bands n).all (fun b => decide ((10 * s.get Reg.BST_ACOU_CFG_SNR : Nat) ≤ s.lvl n b - sext 16 (s.get Reg.BST_ACOU_LVLn_b_BG n b)))
/-- The verdict of a channel in modes 2 and 3 (R399, R400). -/
def acouVerdict (n : Nat) (s : State) : Nat :=
  if s.bst.diag.faulted then 9
  else if !s.snrOk n then 10
  else if s.bst.diag.mode = 3 then 1
  else
    let bs := s.bands n
    let ds := bs.map (fun b => s.lvl n b - sext 16 (s.get Reg.BST_ACOU_REFn_b_REF n b))
    let sum := ds.foldl (· + ·) 0
    let k : Int := (bs.length : Int)
    if decide (60 * k < sum.natAbs) then 11
    else if ds.any (fun d => decide ((10 * s.get Reg.BST_ACOU_CFG_TOL : Nat) * k < (d * k - sum).natAbs)) then 12
    else 1
/-- The microphone's sample of this tick, straight from its converter, while a run measures (R398). -/
def diagListen (x : Int) (s : State) : State :=
  let d := s.bst.diag
  if decide (2 ≤ d.mode) && (d.step = .background || d.step = .measure) then
    s.modDiag (fun d => { d with mic := x :: d.mic })
  else s
/-- The level of a band in 0.1 dBFS over the last `ms` milliseconds: the mean square of the filtered samples (R398). -/
def State.micLevel (s : State) (ms b : Nat) : Int :=
  let ys := Config.acouBand s.rate b (s.bst.diag.mic.take (ms * rateHz s.rate / 1000)).reverse
  let p := (ys.map (fun y => y * y)).sum / ((ys.length : Nat) : Rat)
  if p = 0 then Config.acouSilent s.free b else ratRne (5 * dbOf p)
/-- Row ACOU_MEAS_END: the background or a channel has been measured (R398, R400). -/
def acouMeasEnd (s : State) : State :=
  let d := s.bst.diag
  let s' := s.fresh.2
  let ms := s.get (if d.step = .background then Reg.BST_ACOU_TIME_BG_MS else Reg.BST_ACOU_TIME_MEAS_MS)
  let level (b : Nat) : Nat := toTwos 16 (clampI (-32768) 32767 (s.micLevel ms b))
  match d.step, d.chans.head? with
  | .background, some _ =>
    diagBegin (d.chans.foldl (fun s n => s.forN 10 (fun s b => s.set Reg.BST_ACOU_LVLn_b_BG (level b) n b)) s')
  | .measure, some n =>
    let s := s'.forN 10 (fun s b => s.set Reg.BST_ACOU_LVLn_b_LVL (level b) n b)
    let s := if d.mode = 3 && !d.faulted && s.snrOk n then s.forN 10 (fun s b => s.set Reg.BST_ACOU_REFn_b_REF (level b) n b) else s
    s.modDiag (fun d => { d with step := .muting })
  | _, _ => s
/-- A channel's verdict recorded, its start undone, and the run moved on; the first verdict of the run other than PASS raises
DIAG_FAIL (R393, R395, R397). -/
def diagNext (n v : Nat) (s : State) : State :=
  let s := (s.set Reg.BST_CHn_VERDICT_VERDICT v n).log 4 n []
  let s := s.set Reg.BST_DIAG_STATUS_DONE (s.get Reg.BST_DIAG_STATUS_DONE ||| 2 ^ n)
  let s := if v = 1 then s.set Reg.BST_DIAG_STATUS_PASS (s.get Reg.BST_DIAG_STATUS_PASS ||| 2 ^ n)
    else s.set Reg.BST_DIAG_STATUS_FAIL (s.get Reg.BST_DIAG_STATUS_FAIL ||| 2 ^ n)
  let s := if bit s.bst.diag.started n then s.runCtrl n [4] else s
  let s := if v ≠ 1 && !s.bst.diag.bad then s.raise 0x3A n else s
  diagBegin (s.modDiag (fun d => { d with bad := d.bad || v ≠ 1, chans := d.chans.drop 1, started := d.started - (d.started &&& 2 ^ n) }))
/-- Row DIAG_READY_TIMEOUT: the channel under test is not LIVE within 100 ms (R393). -/
def diagReadyTimeout (s : State) : State :=
  match s.bst.diag.step, s.bst.diag.chans.head? with
  | .starting, some n => if s.ch n = 3 then s else diagNext n (if s.bst.diag.faulted then 9 else 8) s
  | _, _ => s
/-- Row DIAG_CHANNEL_END: the tests of a channel are over, or it went to the safe state (R395, R399). -/
def diagChannelEnd (s : State) : State :=
  match s.bst.diag.chans.head? with
  | some n =>
    if s.bst.diag.step = .muting || (s.bst.diag.faulted && s.bst.diag.step ≠ .background) then
      let (s, v) := if s.bst.diag.mode = 1 then loadVerdict n s else (s, acouVerdict n s)
      diagNext n v s
    else s
  | none => s
/-- Row DIAG_RUN_END: the last channel is done (R393). -/
def diagRunEnd (s : State) : State := if s.bst.diag.step = .muting && s.bst.diag.chans = [] then diagFinish 1 s else s

/-- Row FALLBACK_END. -/
def execFallbackEnd (n : Fin 8) (s : State) : Host.Outcome State Fault Refusal := .next (fallbackEnd n.val s)
/-- Row THERMAL_UPDATE. -/
def execThermalUpdate (s : State) : Host.Outcome State Fault Refusal := .next (thermalUpdate s)
/-- Row RMEAS_UPDATE. -/
def execRmeasUpdate (s : State) : Host.Outcome State Fault Refusal := .next (rmeasUpdate s)
/-- Row DC_FAULT. -/
def execDcFault (n : Fin 8) (s : State) : Host.Outcome State Fault Refusal := .next (dcDeclare n.val s.event)
/-- Row DIAG_READY_TIMEOUT. -/
def execDiagReadyTimeout (s : State) : Host.Outcome State Fault Refusal := .next (diagReadyTimeout s)
/-- Row DIAG_DWELL_END. -/
def execDiagDwellEnd (s : State) : Host.Outcome State Fault Refusal := .next (diagDwellEnd s)
/-- Row DIAG_CHANNEL_END. -/
def execDiagChannelEnd (s : State) : Host.Outcome State Fault Refusal := .next (diagChannelEnd s)
/-- Row ACOU_MEAS_END. -/
def execAcouMeasEnd (s : State) : Host.Outcome State Fault Refusal := .next (acouMeasEnd s)
/-- Row DIAG_RUN_END. -/
def execDiagRunEnd (s : State) : Host.Outcome State Fault Refusal := .next (diagRunEnd s)

end Sys2Proof.Machine
end

