-- ==== Sys2Proof/Machine/Clk.lean ====
section
/-! DEFINITION. Clock synthesis: the reference, the three PLLs, ramps, phase steps and the MCLK outputs (R459 to R485). -/
namespace Sys2Proof.Machine
open Sys2Proof

/-- A PLL's structure. -/
def State.pll (s : State) (p : Nat) : Pll := nth s.clk.plls p ⟨false, false, false, 1, 0, 0, 0⟩
/-- A PLL's structure changed. -/
def State.modPll (s : State) (p : Nat) (f : Pll → Pll) : State := { s with clk := { s.clk with plls := modNth s.clk.plls p f } }
/-- REF_OK (R460). -/
def State.refOk (s : State) : Bool := s.is Reg.CLK_STATUS_REF_OK
/-- The bits of CLK_STATUS and CLK_Pp_STATUS that follow a PLL. -/
def showPll (s : State) : State :=
  let s := s.forN 3 (fun s p => s.setB Reg.CLK_Pp_STATUS_HOLD ((s.pll p).refHold || (s.pll p).lockHold) p)
  let s := s.set Reg.CLK_STATUS_HOLD (maskOf ((List.range 3).filter (fun p => s.is Reg.CLK_Pp_STATUS_HOLD p)) 3)
  let s := s.set Reg.CLK_STATUS_LOCK (maskOf ((List.range 3).filter (fun p => s.is Reg.CLK_Pp_STATUS_LOCK p)) 3)
  s.setB Reg.CLK_Pp_STATUS_SSC_ON (s.is Reg.PWR_SW_STATUS_SSC_ON) 1
/-- LOCK of a PLL changed (R467). -/
def State.setLock (s : State) (p : Nat) (on : Bool) : State :=
  if s.is Reg.CLK_Pp_STATUS_LOCK p = on then s
  else showPll ((s.setB Reg.CLK_Pp_STATUS_LOCK on p).int Reg.CLK_INT_STATUS (1 + p))
/-- The frequency change of a ramp segment in its first `us` µs, in parts per 10¹²: SLOPE for that time, on the media PLL held to
RATE while R45 governs (R471, R475). -/
def State.rampMove (s : State) (p k us : Nat) : Int :=
  let d := sext 32 (s.word Reg.CLK_Pp_RAMPs_SLOPE p k).toNat * (us : Int)
  let m : Int := (s.get Reg.CLK_MEDIA_SLEW_RATE * us / 10 : Nat)
  if p = 0 && s.outputsActive then clampI (-m) m d else d
/-- The frequency that a PLL's ramp has reached, in parts per 10¹² (R475): the part of the running segment counts its elapsed time
in whole ticks (DESIGN CHOICE, log entry 56). -/
def State.pptNow (s : State) (p : Nat) : Int :=
  let g := s.get Reg.CLK_Pp_STATUS_SEG p
  let q := s.pll p
  if g = 0 then q.ppt
  else
    let us := min (s.word Reg.CLK_Pp_RAMPs_DUR p (g - 1)).toNat ((s.ks.count - q.segAt) * 1000000 / rateHz s.rate)
    q.ppt + s.rampMove p (g - 1) us
/-- The segment number of a PLL's ramp set, its elapsed time starting at this tick; the frequency is `ppt` (R475, R476). -/
def State.rampSeg (s : State) (p g : Nat) (ppt : Int) : State :=
  (s.set Reg.CLK_Pp_STATUS_SEG g p).modPll p (fun q => { q with ppt := ppt, segAt := s.ks.count })
/-- The offset of the media oscillator from its nominal, in parts per 10¹²: servo and ramp, whose sum keeps within MAX_PPM of the
ring's rate while R45 governs (R468, R471). -/
def State.mediaPpt (s : State) : Int :=
  let ring := Config.ringPpt s.ks.count
  let m : Int := (s.get Reg.CLK_MEDIA_SLEW_MAX_PPM * 1000000 : Nat)
  let v := s.pptNow 0 + s.clk.servo
  if s.outputsActive then clampI (ring - m) (ring + m) v else v
/-- The offset of a PLL's oscillator from its nominal, in parts per 10¹²: the system PLL follows the media PLL unless it holds; the
switching PLL's nominal is K × f_sw in effect (R461, R462). -/
def State.pllPpt (s : State) (p : Nat) : Int :=
  match p with
  | 0 => s.mediaPpt
  | 1 => 0
  | _ => if (s.pll 2).lockHold then (s.pll 2).ppt else s.mediaPpt
/-- A hold stops the ramp running on a PLL at its current frequency (R468). -/
def State.stopRamp (s : State) (p : Nat) : State :=
  let s := s.rampSeg p 0 (if p = 2 then s.pllPpt 2 else s.pptNow p)
  if p = 1 then ({ s with pwr := { s.pwr with swRamp := none } } : State).setB Reg.PWR_SW_STATUS_RAMPING false else s
/-- Row REF_LOSS: REF_OK clears and the media and switching PLLs hold (R460, R468). -/
def refLoss (s : State) : State :=
  if !s.refOk then s
  else
    let s := ((s.setB Reg.CLK_STATUS_REF_OK false).int Reg.CLK_INT_STATUS_REF).event.raise 0x70 0
    showPll (s.forN 2 (fun s p => if (s.pll p).on then (s.stopRamp p).modPll p (fun q => { q with refHold := true }) else s))
/-- Row REF_RETURN: 10 ms of good reference; the held PLLs close their loops (R460, R469). -/
def refReturn (xtal : Bool) (s : State) : State :=
  if s.refOk then s
  else
    let s := ((s.setB Reg.CLK_STATUS_REF_OK true).setB Reg.CLK_STATUS_REF_XTAL xtal).int Reg.CLK_INT_STATUS_REF
    showPll (s.forN 3 (fun s p => s.modPll p (fun q => { q with refHold := false })))
/-- The operating window of a PLL in 10 kHz (R464). -/
def pllWindow (p : Nat) : Nat × Nat := if p = 0 then (245514, 246006) else if p = 1 then (225000, 246000) else (239760, 240240)
/-- The lowest band entry that contains the window (R464). -/
def State.pllBand (s : State) (p : Nat) : Option Nat :=
  let (lo, hi) := pllWindow p
  (List.range 16).find? (fun b => s.get Reg.CLK_Pp_BANDb_F_HI p b ≠ 0 && decide (100 * s.get Reg.CLK_Pp_BANDb_F_LO p b ≤ lo) &&
    decide (hi ≤ 100 * s.get Reg.CLK_Pp_BANDb_F_HI p b))
/-- The divider K of the switching PLL at a frequency in Hz (R473). -/
def switchK (hz : Nat) (centred : Bool) : Nat := if centred then 2460000000 * 100 / (hz * 102) else 2460000000 / hz
/-- The domain of a PLL: D47, D48 or D49 (R555). -/
def pllDomain (p : Nat) : Nat := 47 + p
/-- Row PLL_START: a PLL whose domain is at L0 starts, choosing its band; without the reference the media and switching PLLs
hold (R463 to R465, R468, R473). -/
def pllStart (p : Nat) (s : State) : State :=
  if (s.pll p).on || s.domAt (pllDomain p) ≠ 0 then s
  else match s.pllBand p with
    | some b =>
      let s := (s.set Reg.CLK_Pp_STATUS_BAND b p).setB Reg.CLK_Pp_STATUS_BAND_ERR false p
      let s := if p = 1 then s.set Reg.CLK_P1_DIV_K (switchK (s.get Reg.PWR_SW_FREQ_HZ) (s.pwr.swSsc = 1)) else s
      let s : State := { s with clk := { s.clk with servo := if p = 0 then 0 else s.clk.servo } }
      showPll (s.modPll p (fun q => { q with on := true, refHold := !s.refOk && decide (p < 2), bw := s.get Reg.CLK_Pp_CFG_BW p, ppt := 0 }))
    | none => ((s.setB Reg.CLK_Pp_STATUS_BAND_ERR true p).int Reg.CLK_INT_STATUS_BAND).event.raise 0x74 p
/-- A PLL stopped: its domain has left L0 (R463). -/
def pllStop (p : Nat) (s : State) : State :=
  if !(s.pll p).on then s
  else (s.stopRamp p).modPll p (fun q => { q with on := false, refHold := false, lockHold := false }) |>.setLock p false |> showPll
/-- Row PLL_LOCK (R467). -/
def pllLock (p : Nat) (s : State) : State := if (s.pll p).on then s.setLock p true else s
/-- Row PLL_LOCK_LOSS: the PLL holds while the reference is good, and its source is raised (R467, R470). -/
def pllLockLoss (p : Nat) (s : State) : State :=
  if !s.is Reg.CLK_Pp_STATUS_LOCK p then s
  else
    let s := s.setLock p false
    if !s.refOk then s
    else showPll (((s.stopRamp p).modPll p (fun q => { q with lockHold := true })).event.raise (0x71 + p) p)
/-- Row PLL_HOLD_END: the PLL has been locked again for 10 ms (R470). -/
def pllHoldEnd (p : Nat) (s : State) : State :=
  if s.is Reg.CLK_Pp_STATUS_LOCK p then showPll (s.modPll p (fun q => { q with lockHold := false })) else s
/-- Row PLL_BW_CHANGE: a new bandwidth takes effect at the next reference cycle (R466). -/
def pllBwChange (p : Nat) (s : State) : State := s.modPll p (fun q => { q with bw := s.get Reg.CLK_Pp_CFG_BW p })

/-! ## Ramps and phase steps (R475 to R479) -/

/-- The end of a profile: the frequency reached is held (R475). -/
def rampDone (p : Nat) (s : State) : State :=
  let s := (s.rampSeg p 0 (s.pptNow p)).int Reg.CLK_INT_STATUS (4 + p)
  if p = 1 then swRampEnd s else s
/-- A profile loaded into the ramp generator of the media or switching PLL, replacing any that runs; it starts from the frequency
reached, and one whose first segment has DUR 0 ends at once (R475, R476). -/
def rampLoad (p : Nat) (segs : List (Word × Word)) (s : State) : State :=
  if 2 ≤ p then s
  else
    let seg (k : Nat) := nth segs k (0#32, 0#32)
    let now := s.pptNow p
    let s := s.forN 8 (fun s k => (s.setWord Reg.CLK_Pp_RAMPs_SLOPE (seg k).1 p k).setWord Reg.CLK_Pp_RAMPs_DUR (seg k).2 p k)
    if (seg 0).2 = 0#32 then rampDone p (s.rampSeg p 0 now) else s.rampSeg p 1 now
/-- CLK_Pp_OFFSET as a read shows it, in parts per 10⁹ (R461). -/
def State.pllOffset (s : State) (p : Nat) : Word := BitVec.ofInt 32 (ratRne ((s.pllPpt p : Rat) / 1000))
/-- The ring-time servo at a Sync, which also steers the held word: while R45 governs, the sum of servo and ramp stays within
MAX_PPM of the ring's rate, and changes by at most RATE, all of which a running ramp takes (R468, R471; DESIGN CHOICE, log entry
75). -/
def servoStep (ns : Int) (s : State) : State :=
  let old := s.clk.servo
  let new := Config.servo (s.get Reg.CLK_MEDIA_SERVO_BW) ns old
  let m : Int := (s.get Reg.CLK_MEDIA_SLEW_MAX_PPM * 1000000 : Nat)
  let mid := Config.ringPpt s.ks.count - s.pptNow 0
  let d : Int := if s.get Reg.CLK_Pp_STATUS_SEG 0 = 0 then (s.get Reg.CLK_MEDIA_SLEW_RATE * 100000 / 32 : Nat) else 0
  let v := if s.outputsActive then clampI (old - d) (old + d) (clampI (mid - m) (mid + m) new) else new
  if (s.pll 0).on then { s with clk := { s.clk with servo := v } } else s
/-- LOCK_A in a reference cycle, given the phase errors of the PLLs in ps (R480). -/
def State.lockA (s : State) (err : Nat → Int) : Bool :=
  let inWin (p : Nat) : Bool := (s.pll p).on && decide ((err p).natAbs ≤ s.get Reg.CLK_Pp_CFG_LOCK_WIN p)
  match s.get Reg.CLK_LOCKA_SEL with
  | 3 => inWin 0 && inWin 1 && inWin 2
  | p => inWin p
/-- Row RAMP_SEGMENT_END: the frequency has moved by SLOPE × DUR; the next segment starts, or the profile ends (R475). -/
def rampSegmentEnd (p : Nat) (s : State) : State :=
  let g := s.get Reg.CLK_Pp_STATUS_SEG p
  if g = 0 || decide (2 ≤ p) then s
  else
    let k := g - 1
    let ppt := (s.pll p).ppt + s.rampMove p k (s.word Reg.CLK_Pp_RAMPs_DUR p k).toNat
    if g < 8 ∧ s.word Reg.CLK_Pp_RAMPs_DUR p g ≠ 0#32 then s.rampSeg p (g + 1) ppt else rampDone p (s.rampSeg p 0 ppt)
/-- The profile of R472 that removes an offset of `ns` nanoseconds, late when positive. -/
def slewProfile (maxPpm rate : Nat) (ns : Int) : List (Word × Word) :=
  -- M in ppm, ρ in 0.1 ppm/s, Δ in ns; 1 ppm/s is 1 ppt/µs; durations in µs
  let d := ns.natAbs
  let sg : Int := if 0 ≤ ns then 1 else -1
  let slope : Word := BitVec.ofInt 32 (sg * (ratRne (((rate : Nat) : Rat) / 10)))
  let back : Word := BitVec.ofInt 32 (-(sg * (ratRne (((rate : Nat) : Rat) / 10))))
  let full : Rat := ((maxPpm * maxPpm : Nat) : Rat) * 10 / ((rate : Nat) : Rat) * 1000
  if full ≤ ((d : Nat) : Rat) then
    let t : Nat := (ratRne (((maxPpm : Nat) : Rat) * 10 / ((rate : Nat) : Rat) * 1000000)).toNat
    let h : Nat := (ratRne (((d : Nat) : Rat) / ((maxPpm : Nat) : Rat) * 1000)).toNat - t
    [(slope, BitVec.ofNat 32 t), (0#32, BitVec.ofNat 32 h), (back, BitVec.ofNat 32 t)]
  else
    let t : Nat := Nat.sqrt (d * 10000000000 / rate)
    -- the hold lasts 0, and a segment of DUR 0 would end the profile (R475), so it is left out (log entry 21)
    [(slope, BitVec.ofNat 32 t), (back, BitVec.ofNat 32 t)]
/-- A write to CLK_Pp_PHASE.STEP (R478). -/
def phaseStepWrite (p : Nat) (v : Word) (s : State) : Act :=
  if 2 ≤ p then (s, stAccess)
  else if s.get Reg.CLK_Pp_PHASE_PENDING p ≠ 0 then (s, stBusy)
  else (s.set Reg.CLK_Pp_PHASE_PENDING (v.toNat % 65536) p, stOk)
/-- Row PHASE_STEP_UNIT: one unit applied in a reference cycle (R478, R479). -/
def phaseStepUnit (p : Nat) (s : State) : State :=
  let n := sext 16 (s.get Reg.CLK_Pp_PHASE_PENDING p)
  if n = 0 || decide (2 ≤ p) then s
  else
    let u : Int := if 0 < n then 1 else -1
    (s.set Reg.CLK_Pp_PHASE_PENDING (toTwos 16 (n - u)) p).modPll p (fun q => { q with phase := q.phase + u })

/-! ## MCLK outputs (R482 to R484) -/

/-- Whether a setting of an MCLK output keeps its format's limit (R482). -/
def State.mclkOk (s : State) (v : Word) : Bool :=
  let w := v.toNat
  let src := bitsOf w 29 28
  let div := bitsOf w 15 0
  let lim := if bitsOf w 25 24 = 2 then 100000000 else 50000000
  bitsOf w 25 24 ≠ 3 && (match src with
    | 1 => decide (25 ≤ div) && decide (2457600000 ≤ lim * div)
    | 2 => decide (s.get Reg.PWR_SW_FREQ_HZ ≤ lim)
    | _ => true)
/-- A write to CLK_MCLKn_CFG (R482). -/
def mclkWrite (n : Nat) (v : Word) (s : State) : Act := if s.mclkOk v then (s.setWord Reg.CLK_MCLKn_CFG v n, stOk) else (s, stAccess)
/-- Row MCLK_CONFIG: a change takes effect at the output's next falling edge (R484). -/
def mclkConfig (n : Nat) (s : State) : State :=
  { s with clk := { s.clk with mclk := setNth s.clk.mclk n (s.word Reg.CLK_MCLKn_CFG n) } }
/-- Whether an MCLK output runs: its source is chosen and its PLL, if it has one, runs (R484). -/
def State.mclkRuns (s : State) (n : Nat) : Bool :=
  match bitsOf (nth s.clk.mclk n 0#32).toNat 29 28 with
  | 0 => false
  | 1 => (s.pll 0).on && s.domAt 47 = 0
  | 2 => (s.pll 1).on && s.domAt 48 = 0
  | _ => s.refOk

/-- The length of an MCLK output's period and of its high part, in 1/1,024 of a media oscillator period: half for an even DIV, and
(DIV + 1) / 2 oscillator periods for an odd one (R482). -/
def State.mclkPeriod (s : State) (n : Nat) : Nat × Nat :=
  let div := bitsOf (nth s.clk.mclk n 0#32).toNat 15 0
  (1024 * div, 1024 * ((div + 1) / 2))
/-- The delay of an output's rising edges behind the tick edges in the same unit, where DIV divides the oscillator periods of a tick:
the media PLL's phase steps, taken as delays (R479, R483; DESIGN CHOICE, log entry 56). -/
def State.mclkEdge (s : State) (n : Nat) : Option Nat :=
  let (t, _) := s.mclkPeriod n
  if t ≠ 0 ∧ 1024 * (51200 / 2 ^ s.rate) % t = 0 then some (((s.pll 0).phase % (t : Int)).toNat) else none
/-- The level of a running media output at a time after a tick edge, and that of its complement contact, which only LVDS drives; an
output that does not run is low (R482 to R484). -/
def State.mclkLevel (s : State) (n time : Nat) : Option (Bool × Option Bool) :=
  let lvds := bitsOf (nth s.clk.mclk n 0#32).toNat 25 24 = 2
  let both (b : Bool) : Bool × Option Bool := (b, if lvds then some !b else none)
  if !s.mclkRuns n then some (both false)
  else
    let (t, high) := s.mclkPeriod n
    (s.mclkEdge n).map (fun e => both (decide ((time + t - e) % t < high)))

/-- Row REF_LOSS. -/
def execRefLoss (s : State) : Host.Outcome State Fault Refusal := .next (refLoss s)
/-- Row REF_RETURN: `xtal` says which reference the module found fitted (R459). -/
def execRefReturn (xtal : Bool) (s : State) : Host.Outcome State Fault Refusal := .next (refReturn xtal s)
/-- Row PLL_START. -/
def execPllStart (p : Fin 3) (s : State) : Host.Outcome State Fault Refusal := .next (pllStart p.val s)
/-- Row PLL_LOCK. -/
def execPllLock (p : Fin 3) (s : State) : Host.Outcome State Fault Refusal := .next (pllLock p.val s)
/-- Row PLL_LOCK_LOSS. -/
def execPllLockLoss (p : Fin 3) (s : State) : Host.Outcome State Fault Refusal := .next (pllLockLoss p.val s)
/-- Row PLL_HOLD_END. -/
def execPllHoldEnd (p : Fin 3) (s : State) : Host.Outcome State Fault Refusal := .next (pllHoldEnd p.val s)
/-- Row PLL_BW_CHANGE. -/
def execPllBwChange (p : Fin 3) (s : State) : Host.Outcome State Fault Refusal := .next (pllBwChange p.val s)
/-- Row RAMP_LOAD: the service cores load a profile (R472, R477). -/
def execRampLoad (p : Fin 3) (segs : List (Word × Word)) (s : State) : Host.Outcome State Fault Refusal := .next (rampLoad p.val segs s)
/-- Row RAMP_SEGMENT_END. -/
def execRampSegmentEnd (p : Fin 3) (s : State) : Host.Outcome State Fault Refusal := .next (rampSegmentEnd p.val s)
/-- Row PHASE_STEP_UNIT. -/
def execPhaseStepUnit (p : Fin 3) (s : State) : Host.Outcome State Fault Refusal := .next (phaseStepUnit p.val s)
/-- Row MCLK_CONFIG. -/
def execMclkConfig (n : Fin 2) (s : State) : Host.Outcome State Fault Refusal := .next (mclkConfig n.val s)

/-- K as a ramp carries f_sw: kept while the oscillator stays within 2,250 to 2,460 MHz, else moved by the least number of
steps of 1 that keep it there (R473). -/
def swKeep (s : State) : State :=
  let hz := s.get Reg.PWR_SW_FREQ_HZ
  let k := min (s.get Reg.CLK_P1_DIV_K) (2460000000 / hz)
  if s.is Reg.PWR_SW_STATUS_RAMPING then s.set Reg.CLK_P1_DIV_K (max k (ceilDiv 2250000000 hz)) else s
/-- APPLY with what it does to the switching PLL (R473, R477): K is set anew, and a ramp is loaded as one segment of
|Δf| / RAMP. -/
def swApply (s : State) : Act :=
  let (s, st) := actSwApply s
  if st ≠ stOk then (s, st)
  else
    let hz := s.get Reg.PWR_SW_FREQ_HZ
    let s := s.set Reg.CLK_P1_DIV_K (switchK hz (s.pwr.swSsc = 1))
    match s.pwr.swRamp with
    | some (tgt, from', _) =>
      let r := s.pwr.swRampRate
      let up : Int := if from' ≤ tgt then 1 else -1
      let slope := up * ratRne (((r * 10 ^ 12 : Nat) : Rat) / ((from' : Nat) : Rat))
      let dur := max 1 (ratRne (((max tgt from' - min tgt from' : Nat) : Rat) / ((r : Nat) : Rat))).toNat
      (rampLoad 1 [(BitVec.ofInt 32 slope, BitVec.ofNat 32 dur)] s, st)
    | none => (s, st)

end Sys2Proof.Machine
end

