-- ==== Sys2Proof/Machine/ImageCheck.lean ====
section
/-! DEFINITION. Stage X of the validation: the structure checks of R107 in the byte order of R106 and R613. -/
namespace Sys2Proof.Machine

/-- What stage X reads of the module: the caps of R510, the TARGET of each domain, the rules of each register of the
REGS course, and the combination rules of R94. -/
structure XCtx where
  caps : List TenCfg
  target : Nat → Nat
  /-- 0 accepted, 1 the address breaks R93, 2 the value is outside its range. -/
  regRule : Nat → Nat → Nat
  combos : List (Nat × Nat) → Bool
/-- The quota in effect of a tenancy (R510). -/
def quotaOf (c p : TenCfg) : TenCfg :=
  { c with cycles := min c.cycles p.cycles, stones := c.stones &&& p.stones, dramMib := min c.dramMib p.dramMib,
           sendLanes := min c.sendLanes p.sendLanes, paramWords := min c.paramWords p.paramWords }
/-- Whether KVER lies within its kind's limits. -/
def kverOk (k v : Nat) : Bool :=
  match k with
  | 0x03 => decide (1 ≤ v ∧ v ≤ 32)
  | 0x04 => decide (1 ≤ v ∧ v ≤ 64)
  | 0x05 => decide (1 ≤ v ∧ v ≤ 64)
  | 0x06 => decide (v ≤ 1)
  | 0x08 => decide (v ≤ 2)
  | 0x09 => decide (2 ≤ v ∧ v ≤ 8)
  | 0x0D => decide (v ≤ 1)
  | 0x13 => decide (1 ≤ v ∧ v ≤ 8)
  | _ => v = 0
/-- The units and channels of R85: port code, unit and channel ranges of an endpoint. -/
def endpointOk (x : Inst) : Bool :=
  let lim := match x.port with
    | 0x01 => (1, 128) | 0x02 => (1, 64) | 0x03 => (8, 64) | 0x04 => (8, 64) | 0x05 => (1, 2) | 0x06 => (3, 32)
    | 0x07 => (3, 32) | 0x08 => (1, 4) | 0x09 => (1, 4) | 0x0A => (1, 8) | 0x0B => (1, 4) | _ => (0, 0)
  let dirIn := x.port = 0x01 || x.port = 0x03 || x.port = 0x05 || x.port = 0x06 || x.port = 0x08
  decide (x.unit < lim.1) && decide (x.first + x.chans ≤ lim.2) && (dirIn == decide (x.kind = 0x40)) && decide (1 ≤ x.chans)
/-- Whether two byte ranges overlap. -/
def rangesMeet (a la b lb : Nat) : Bool := decide (a < b + lb) && decide (b < a + la) && decide (0 < la) && decide (0 < lb)
/-- The instances before position `k`. -/
def prefixOf {α : Type} (l : List α) (k : Nat) : List α := l.take k
/-- The course of a type, or the course that follows its place when it is absent (R613). -/
def courseOf (im : Image) (t : Nat) : Course :=
  match im.courses.find? (fun c => c.typ = t) with
  | some c => c
  | none => (im.courses.find? (fun c => decide ((courseRank t).getD 0 < (courseRank c.typ).getD 0))).getD
      (im.courses.getLast?.getD ⟨0xFF, 0xFF, 0, 0, 16⟩)

/-- The checks of the TENANCY course (R80, R91). -/
def checkTenancy (im : Image) : Chk Unit := do
  let c := courseOf im 0x01
  let b := c.off + 16
  let _ ← (indexed im.tens).mapM (fun (k, t) => do
    let o := b + 32 * k
    need (t.present = 1 || (t = TenCfg.absent)) 0x31 c.index o
    need (k ≠ 0 || t.present = 1) 0x31 c.index o
    need (k ≠ 0 || t.rank = 0) 0x31 c.index (o + 1)
    need (t.present = 0 || !(prefixOf im.tens k).any (fun u => u.present = 1 && u.rank = t.rank)) 0x31 c.index (o + 1)
    need (decide (t.paramWords ≤ 16384)) 0x31 c.index (o + 20))
  need (decide ((im.tens.map (·.dramMib)).sum ≤ 6656)) 0x2F c.index c.off
  need (decide ((im.tens.map (·.sendLanes)).sum ≤ 64)) 0x31 c.index c.off

/-- The DOMAIN_FLOOR check of stages X and A: every USED domain not in EXCEPT has a TARGET of L0 or L1. -/
def floorOk (im : Image) (target : Nat → Nat) : Bool :=
  (bitsSet im.used 60).all (fun d => bit im.except d || decide (target d ≤ 1))
/-- The checks of the DOMAINS course (R81). -/
def checkDomains (im : Image) (x : XCtx) : Chk Unit := do
  let c := courseOf im 0x02
  let b := c.off + 16
  need (decide (im.used < 2 ^ 60)) 0x40 c.index b
  need (decide (im.except < 2 ^ 60) && (bitsSet im.except 60).all (fun d => bit im.used d)) 0x40 c.index (b + 8)
  need (floorOk im x.target) 0x41 c.index b

/-- The stones that instances are placed on. -/
def stonesUsed (im : Image) : Nat := maskOf ((im.insts.filter (fun i => !i.isEndpoint)).map (·.stone)) 32
/-- The checks of the INSTANCES course (R83 to R85, R159, R160, R169). A record whose owner is absent has no quota either: the
QUOTA check at STONE stands before the PARTITION check at TEN, in field order. An endpoint with a port count in the direction it
lacks is refused with KIND, and one without a channel with PLACE: the spec gives neither a code (DESIGN CHOICE, log entry 15). -/
def checkInstances (im : Image) (x : XCtx) : Chk Unit := do
  let c := courseOf im 0x03
  need (decide (im.insts.length ≤ 4096)) 0x23 c.index (c.off + 16)
  let _ ← (indexed im.insts).mapM (fun (k, i) => do
    let o := i.off
    let prev := prefixOf im.insts k
    let own := nth im.tens i.ten TenCfg.absent
    let q := quotaOf own (nth x.caps i.ten TenCfg.absent)
    need (decide (i.id ≤ 4095) && prev.all (fun p => decide (p.id < i.id))) 0x23 c.index o
    need (i.isEndpoint || decide (1 ≤ i.kind ∧ i.kind ≤ 0x14)) 0x24 c.index (o + 2)
    if i.isEndpoint then do
      need (i.kver = 0) 0x25 c.index (o + 3)
      need (i.stone = 0xFF) 0x25 c.index (o + 4)
    else do
      need (kverOk i.kind i.kver) 0x24 c.index (o + 3)
      need (decide (i.stone < 32)) 0x25 c.index (o + 4)
      need (bit q.stones i.stone) 0x30 c.index (o + 4)
    need (own.present = 1) 0x31 c.index (o + 5)
    need (bit i.writers i.ten && (bitsSet i.writers 8).all (fun t => (nth im.tens t TenCfg.absent).present = 1)) 0x32 c.index (o + 6)
    if i.isEndpoint then do
      need ((if i.kind = 0x40 then i.nIn else i.nOut) = 0) 0x24 c.index (if i.kind = 0x40 then o + 8 else o + 9)
      need (endpointOk i && prev.all (fun p => !(p.isEndpoint && p.port = i.port && p.unit = i.unit &&
        rangesMeet p.first p.chans i.first i.chans))) 0x25 c.index (o + 12)
      need (i.localLen = i.chans) 0x25 c.index (o + 16)
      need (i.dramKib = 0) 0x25 c.index (o + 20)
      need (i.paramWords = 0) 0x25 c.index (o + 24)
      need (i.paramBase = 0) 0x25 c.index (o + 26)
    else do
      need ((List.range 256).any (fun m => kindPortsOk i.kind i.kver i.nIn m)) 0x24 c.index (o + 8)
      need (kindPortsOk i.kind i.kver i.nIn i.nOut) 0x24 c.index (o + 9)
      need (i.localOff % 64 = 0) 0x26 c.index (o + 12)
      need (decide (i.leastLocal im.cls im.rate ≤ i.localLen) && decide (i.localOff + i.localLen ≤ 262144) &&
        prev.all (fun p => !(!p.isEndpoint && p.stone = i.stone && rangesMeet p.localOff p.localLen i.localOff i.localLen)))
        0x26 c.index (o + 16)
      need (decide (kindDram i.kind i.kver i.nIn i.nOut ≤ i.dramKib)) 0x2F c.index (o + 20)
      need (i.paramWords = kindWords i.kind i.kver i.nIn i.nOut) 0x24 c.index (o + 24)
      need (decide (i.paramBase + i.paramWords ≤ q.paramWords) &&
        prev.all (fun p => !(p.ten = i.ten && rangesMeet p.paramBase p.paramWords i.paramBase i.paramWords))) 0x30 c.index (o + 26))
  need (stonesUsed im = im.stones) 0x22 0xFFFF 0x28
  let kib (t : Nat) := ((im.insts.filter (fun i => i.ten = t && !i.isEndpoint)).map (·.dramKib)).sum
  let cyc (t : Nat) := ((im.insts.filter (fun i => i.ten = t)).map (·.cost)).sum
  let _ ← (List.range 8).mapM (fun t => need (decide (kib t ≤ 1024 * (nth im.tens t TenCfg.absent).dramMib)) 0x2F c.index c.off)
  let _ ← (List.range 8).mapM (fun t =>
    let q := quotaOf (nth im.tens t TenCfg.absent) (nth x.caps t TenCfg.absent)
    need (decide (cyc t ≤ q.cycles) && decide (ceilDiv (kib t) 1024 ≤ q.dramMib)) 0x30 c.index c.off)
  .ok ()

/-- Whether block `v` can be reached from block `u` along nets that touch no delay, within `n` nets. -/
def reachNoDelay (im : Image) : Nat → List Nat → Nat → Bool
  | 0, fr, v => fr.contains v
  | n + 1, fr, v =>
    let nx := (im.nets.filter (fun e => fr.contains e.src && !fr.contains e.dst &&
      (match im.inst e.dst with
       | some i => !i.isEndpoint && i.kind ≠ 0x06
       | none => false))).map (·.dst)
    if nx = [] then fr.contains v else reachNoDelay im n (fr ++ nx.eraseDups) v
/-- Whether an instance is a block other than a delay. -/
def isPlain (im : Image) (id : Nat) : Bool :=
  match im.inst id with
  | some i => !i.isEndpoint && i.kind ≠ 0x06
  | none => false
/-- The checks of the NETS course (R86, R87). A record that repeats an input is always out of order as well: it is refused with
NET_DRIVE, which otherwise no second driver could bring (DEDUCED, log entry 15). -/
def checkNets (im : Image) : Chk Unit := do
  let c := courseOf im 0x04
  let ci := courseOf im 0x03
  let _ ← (indexed im.nets).mapM (fun (k, n) => do
    let src := im.inst n.src
    let dst := im.inst n.dst
    need (match src with
      | some i => decide (n.srcPort < i.nOut)
      | none => false) 0x27 c.index n.off
    need (match dst with
      | some i => decide (n.dstPort < i.nIn)
      | none => false) 0x27 c.index (n.off + 4)
    need ((prefixOf im.nets k).all (fun p => !(p.dst = n.dst && p.dstPort = n.dstPort))) 0x28 c.index (n.off + 4)
    need ((prefixOf im.nets k).all (fun p => decide (p.dst < n.dst ∨ (p.dst = n.dst ∧ p.dstPort < n.dstPort)))) 0x27 c.index (n.off + 4))
  let _ ← im.insts.mapM (fun i =>
    need ((List.range i.nIn).all (fun p => (im.driver i.id p).isSome)) 0x28 ci.index i.off)
  let _ ← im.nets.mapM (fun n =>
    need (!(isPlain im n.src && isPlain im n.dst && reachNoDelay im im.insts.length [n.dst] n.src)) 0x29 c.index n.off)
  .ok ()

/-- The entry of an instance with its stone. -/
def Image.entry (im : Image) (id : Nat) : Option (Nat × Entry) :=
  im.lists.findSome? (fun l => (l.entries.find? (fun e => e.id = id)).map (fun e => (l.stone, e)))
/-- The end of an instance's entry, in schedulable cycles (R155). -/
def Image.endOf (im : Image) (id : Nat) : Nat :=
  match im.entry id, im.inst id with
  | some (_, e), some i => e.start + i.cost
  | _, _ => 0
/-- Whether block `dst` on stone `st` reads port `p` of block `src`. -/
def readsOn (im : Image) (st src p : Nat) : Bool :=
  im.nets.any (fun n => n.src = src && n.srcPort = p && (match im.inst n.dst with
    | some i => !i.isEndpoint && i.stone = st
    | none => false))
/-- The end of a stone's last entry. -/
def Image.stoneEnd (im : Image) (st : Nat) : Nat :=
  match im.lists.find? (fun l => l.stone = st) with
  | some l => (match l.entries.getLast? with
    | some e => im.endOf e.id
    | none => 0)
  | none => 0
/-- The checks of the SCHEDULE course (R88, R89, R143 to R146, R156, R157). A list for a stone above 31, which the spec gives
no range and no code for, is refused with SCHED_ORDER (DESIGN CHOICE, log entry 15). -/
def checkSchedule (im : Image) : Chk Unit := do
  let c := courseOf im 0x05
  let ci := courseOf im 0x03
  let budget := rateBudget im.rate
  let _ ← (indexed im.lists).mapM (fun (k, l) => do
    need ((prefixOf im.lists k).all (fun p => decide (p.stone < l.stone)) && decide (l.stone < 32)) 0x2B c.index l.off
    let _ ← (indexed l.entries).mapM (fun (j, e) => do
      let prev := prefixOf l.entries j
      need ((match im.inst e.id with
        | some i => !i.isEndpoint && i.stone = l.stone
        | none => false) && !prev.any (fun p => p.id = e.id)) 0x2A c.index e.off
      need (prev.all (fun p => decide (p.start + (match im.inst p.id with
        | some i => i.cost
        | none => 0) ≤ e.start))) 0x2B c.index (e.off + 2)
      need (!isPlain im e.id || im.nets.all (fun n => !(n.dst = e.id) || (match im.inst n.src with
        | some i => i.isEndpoint || i.stone ≠ l.stone || decide (im.endOf i.id ≤ e.start)
        | none => true))) 0x2B c.index (e.off + 2))
    need (decide (im.stoneEnd l.stone ≤ budget)) 0x2C c.index (match l.entries.getLast? with
      | some e => e.off
      | none => l.off))
  let _ ← (indexed im.xfers).mapM (fun (k, t) => do
    let prev := prefixOf im.xfers k
    let src := im.inst t.src
    let sst := match src with
      | some i => i.stone
      | none => 0
    let stOf (y : Xfer) : Nat := match im.inst y.src with
      | some i => i.stone
      | none => 0
    need (match src with
      | some i => !i.isEndpoint && decide (t.srcPort < i.nOut)
      | none => false) 0x2D c.index t.off
    need (t.dst ≠ sst && decide (t.dst < 32) && bit im.stones t.dst) 0x2D c.index (t.off + 3)
    need (decide (im.endOf t.src ≤ t.cycle) && decide (t.cycle + 24 ≤ budget)) 0x2D c.index (t.off + 4)
    need (prev.all (fun p => decide (p.cycle < t.cycle ∨ (p.cycle = t.cycle ∧ stOf p < sst)))) 0x2D c.index t.off
    need (prev.all (fun p => !(p.cycle = t.cycle && p.dst = t.dst)) &&
      decide ((prev.filter (fun p => p.cycle = t.cycle)).length < 16) && decide (k < 16384)) 0x2D c.index t.off
    need (readsOn im t.dst t.src t.srcPort) 0x2D c.index t.off
    need (prev.all (fun p => !(p.src = t.src && p.srcPort = t.srcPort && p.dst = t.dst))) 0x2D c.index t.off)
  let _ ← im.insts.mapM (fun i => need (i.isEndpoint || (im.entry i.id).isSome) 0x2A ci.index i.off)
  let cross (e : Entry) (st : Nat) (p : Nat → Inst → Option Xfer → Bool) : Bool :=
    im.nets.all (fun n => !(n.dst = e.id) || (match im.inst n.src with
      | some i => i.isEndpoint || i.stone = st ||
          p n.srcPort i (im.xfers.find? (fun t => t.src = i.id && t.srcPort = n.srcPort && t.dst = st))
      | none => true))
  let _ ← im.lists.mapM (fun l => l.entries.mapM (fun e =>
    need (!isPlain im e.id || cross e l.stone (fun _ _ t => match t with
      | some t => decide (t.cycle + 24 ≤ e.start)
      | none => true)) 0x2B c.index (e.off + 2)))
  let _ ← im.lists.mapM (fun l => l.entries.mapM (fun e =>
    need (cross e l.stone (fun _ _ t => t.isSome)) 0x2D c.index e.off))
  .ok ()

/-- The size of a MEMORY region of a kind that R90 requires; 0 where none is required. -/
def regionNeed (im : Image) (k ten : Nat) : Nat :=
  match k with
  | 1 => 128 * rateB im.rate * 4
  | 2 => im.sends.length * 2 * rateN im.rate * 4
  | 3 => ceilDiv (4 * (im.insts.map (·.nOut)).sum) 64 * 64
  | 4 => ceilDiv (4 * im.xfers.length) 64 * 64
  | 5 => ceilDiv (32 * meterBase im.insts 65536) 64 * 64
  | 6 => 4 * (nth im.tens ten TenCfg.absent).paramWords
  | _ => (nth im.tens ten TenCfg.absent).dramMib
/-- The domains a schedule uses (R82). -/
def domainsUsed (im : Image) : List Nat :=
  (bitsSet (stonesUsed im) 32) ++
    (List.range 8).filterMap (fun b => if im.regions.any (fun r => decide (r.kind ≤ 6) && rangesMeet r.off r.size (b * 4194304) 4194304) then some (32 + b) else none) ++
    (if im.regions.any (fun r => r.kind = 7) then [40] else [])
/-- The kinds of MEMORY region whose size R90 and R193 fix. -/
def sizeFixed (k : Nat) : Bool := k = 1 || k = 5 || k = 6 || k = 7
/-- The checks of the MEMORY course (R90), the class check and the domain check (R613): a region that is missing or too small is
found at the end of the course. A region whose Count condition does not hold, such as send staging without a send lane, is accepted
when it keeps the other rules, and TEN of kinds 1 to 5, for which R90 states no value, is not checked (DESIGN CHOICE, log entry
15). -/
def checkMemory (im : Image) : Chk Unit := do
  let c := courseOf im 0x06
  let cd := courseOf im 0x02
  let _ ← (indexed im.regions).mapM (fun (k, r) => do
    let prev := prefixOf im.regions k
    let o := r.pos
    need (decide (1 ≤ r.kind ∧ r.kind ≤ 7)) 0x2E c.index o
    need (if r.kind = 6 ∨ r.kind = 7 then decide (r.ten < 8) && (nth im.tens r.ten TenCfg.absent).present = 1 else true) 0x2E c.index (o + 1)
    need (prev.all (fun p => !(p.kind = r.kind && (decide (r.kind ≤ 5) || p.ten = r.ten)))) 0x2E c.index o
    if r.kind = 7 then do
      need (r.off = 0) 0x2E c.index (o + 4)
      need (decide (r.size ≤ regionNeed im 7 r.ten)) 0x2E c.index (o + 8)
    else do
      need (r.off % 64 = 0 && (r.kind ≠ 1 || r.off % 4096 = 0)) 0x2E c.index (o + 4)
      need (decide (r.off + r.size ≤ 33554432) && (!sizeFixed r.kind || decide (r.size ≤ regionNeed im r.kind r.ten)) &&
        (r.kind ≠ 5 || decide (r.size ≤ 65536)) &&
        prev.all (fun p => !(decide (p.kind ≤ 6) && rangesMeet p.off p.size r.off r.size))) 0x2E c.index (o + 8))
  let shadowNeeded (t : Nat) := im.cls = 1 && decide (0 < (nth im.tens t TenCfg.absent).paramWords)
  need (if im.cls = 0 then decide ((bitsSet (stonesUsed im) 32).length ≤ 8) && im.regions.all (fun r => r.kind ≠ 6)
    else (List.range 8).all (fun t => !shadowNeeded t || im.regions.any (fun r => r.kind = 6 && r.ten = t))) 0x21 0xFFFF 0x0C
  let _ ← [1, 2, 3, 4, 5].mapM (fun k =>
    let n := regionNeed im k 0
    match im.region k with
    | some r => need (decide (n ≤ r.size)) 0x2E c.index r.pos
    | none => need (decide (k ≠ 1 ∧ k ≠ 3 ∧ n = 0)) 0x2E c.index c.off)
  let _ ← (List.range 8).mapM (fun t =>
    need (decide ((nth im.tens t TenCfg.absent).dramMib = 0) || im.regions.any (fun r => r.kind = 7 && r.ten = t)) 0x2E c.index c.off)
  let _ ← (im.regions.filter (fun r => r.kind = 6 || r.kind = 7)).mapM (fun r =>
    need (decide (regionNeed im r.kind r.ten ≤ r.size)) 0x2E c.index r.pos)
  need ((domainsUsed im).all (fun d => bit im.used d)) 0x40 cd.index cd.off

/-- The range of D for a rate (R59). -/
def dRange (r : Nat) : Nat × Nat := if r = 0 then (4, 768) else if r = 1 then (8, 1536) else (16, 3072)
/-- The checks of the LANES course (R92). -/
def checkLanes (im : Image) (x : XCtx) : Chk Unit :=
  if !im.lanes then .ok () else do
    let c := courseOf im 0x07
    let ci := courseOf im 0x03
    let mx := if im.rate = 2 then 256 else 512
    need (decide ((dRange im.rate).1 ≤ im.dMin ∧ im.dMin ≤ (dRange im.rate).2)) 0x38 c.index (c.off + 16)
    let _ ← (indexed im.taps).mapM (fun (k, t) => do
      need (decide (t.chan < mx)) 0x38 c.index t.pos
      need ((prefixOf im.taps k).all (fun p => p.chan ≠ t.chan)) 0x39 c.index t.pos
      need (decide (t.lane < 128)) 0x38 c.index (t.pos + 2)
      need ((prefixOf im.taps k).all (fun p => p.lane ≠ t.lane)) 0x39 c.index (t.pos + 2))
    let _ ← (indexed im.sends).mapM (fun (k, t) => do
      need (decide (t.chan < mx)) 0x38 c.index t.pos
      need ((prefixOf im.sends k).all (fun p => p.chan ≠ t.chan)) 0x39 c.index t.pos
      need (decide (t.lane < 64)) 0x38 c.index (t.pos + 2)
      need ((prefixOf im.sends k).all (fun p => p.lane ≠ t.lane)) 0x39 c.index (t.pos + 2)
      need ((nth im.tens t.ten TenCfg.absent).present = 1) 0x31 c.index (t.pos + 3))
    let _ ← (List.range 8).mapM (fun t =>
      let q := quotaOf (nth im.tens t TenCfg.absent) (nth x.caps t TenCfg.absent)
      need (decide ((im.sends.filter (fun s => s.ten = t)).length ≤ q.sendLanes)) 0x30 c.index c.off)
    let _ ← im.insts.mapM (fun i => need (!i.isEndpoint || (List.range i.chans).all (fun k =>
      if i.port = 1 then im.taps.any (fun t => t.lane = i.first + k)
      else if i.port = 2 then im.sends.any (fun t => t.lane = i.first + k) else true)) 0x39 ci.index i.off)
    .ok ()

/-- The power-stage channel that an output endpoint's channel serves. -/
def servedChannels (im : Image) : List (Nat × Inst) :=
  (im.insts.filter (fun i => i.kind = 0x41 && i.port = 0x0A)).flatMap (fun i => (List.range i.chans).map (fun k => (i.first + k, i)))
/-- The last value a REGS course gives a register. -/
def regsLast (rs : List (Nat × Nat)) (a : Nat) : Option Nat := (rs.reverse.find? (fun r => r.1 = a)).map (·.2)
/-- The checks of the REGS course (R93 to R95). -/
def checkRegs (im : Image) (x : XCtx) : Chk Unit := do
  let c := courseOf im 0x08
  let ci := courseOf im 0x03
  let _ ← (indexed im.regs).mapM (fun (k, r) => do
    let o := c.off + 32 + 8 * k
    let v := x.regRule r.1 r.2
    need (v ≠ 1) 0x42 c.index o
    need (v ≠ 2) 0x43 c.index (o + 4))
  need (x.combos im.regs) 0x43 c.index c.off
  let _ ← (servedChannels im).mapM (fun (ch, i) =>
    need (match regsLast im.regs (0x100104 + 0x40 * ch) with
      | some v => v % 4 ≠ 0
      | none => false) 0x44 ci.index i.off)
  .ok ()
/-- The checks of the FAULTS course (R96). -/
def checkFaults (im : Image) : Chk Unit :=
  match im.faults with
  | none => .ok ()
  | some fs => do
    let c := courseOf im 0x09
    let _ ← (indexed fs).mapM (fun (k, v) =>
      need (if k < 3 then v = 3 || v = 0xFF else decide (v ≤ 3) || v = 0xFF) 0x45 c.index (c.off + 16 + k))
    .ok ()
/-- The checks of the OVERRIDE course (R97). -/
def checkOverride (im : Image) : Chk Unit :=
  match im.ovr with
  | none => .ok ()
  | some o => do
    let c := courseOf im 0x0A
    let b := c.off + 16
    need (decide (o.source ≤ 2)) 0x46 c.index (b + 2)
    need (decide (o.srcIndex ≤ (if o.source = 1 then 127 else if o.source = 2 then 63 else 0))) 0x46 c.index (b + 3)
    need (if o.source = 0 then decide (1 ≤ o.message ∧ o.message ≤ 1023) else o.message = 0) 0x46 c.index (b + 4)
    need (decide (10 ≤ o.discMs ∧ o.discMs ≤ 500)) 0x46 c.index (b + 6)
    need (decide (o.margin ≤ 6)) 0x46 c.index (b + 8)
/-- The initial parameter set of an instance (R98): the defaults with the PARAMS records laid over. -/
def initialSet (im : Image) (i : Inst) : List Word :=
  ((im.params.filter (fun p => p.1 = i.ten)).flatMap (·.2)).foldl (fun ws r =>
    if r.id = i.id then (indexed r.vals).foldl (fun ws (k, v) => setNth ws (r.word + k) ((i.range im.cls im.rate (r.word + k)).norm v)) ws
    else ws) i.defaults
/-- The power-stage channels named by the protection hooks of an image's initial sets, with their instances. -/
def hookChannels (im : Image) : List (Nat × Inst) :=
  (im.insts.filter (fun i => i.kind = 0x14)).flatMap (fun i => (initialSet im i).map (fun w => (w.toNat, i)))
/-- The checks of the PARAMS courses (R98, R187, R610). -/
def checkParams (im : Image) : Chk Unit := do
  let ci := courseOf im 0x03
  let _ ← im.params.mapM (fun (t, rs) => do
    let c := (im.courses.find? (fun c => c.typ = 0x0B && c.ten = t)).getD ⟨0, 0, 0, 0, 0⟩
    let _ ← rs.mapM (fun r => do
      let x := im.inst r.id
      need (match x with
        | some i => i.ten = t
        | none => false) 0x47 c.index r.pos
      need (match x with
        | some i => decide (r.word + r.vals.length ≤ i.paramWords)
        | none => false) 0x47 c.index (r.pos + 2)
      let _ ← (indexed r.vals).mapM (fun (k, v) => need (match x with
        | some i => (i.range im.cls im.rate (r.word + k)).ok v
        | none => false) 0x47 c.index (r.pos + 8 + 4 * k))
      .ok ())
    let _ ← rs.mapM (fun r => need (match im.inst r.id with
      | some i => i.kind = 0x14 || i.tiesOk (initialSet im i)
      | none => true) 0x47 c.index r.pos)
    .ok ())
  let hs := hookChannels im
  let _ ← (indexed hs).mapM (fun (k, (ch, i)) => need (!(prefixOf hs k).any (fun p => p.1 = ch)) 0x44 ci.index i.off)
  .ok ()
/-- Stage X (R106, codes 0x20 to 0x47). -/
def stageX (im : Image) (x : XCtx) : Chk Unit := do
  need (decide (im.rate ≤ 2)) 0x20 0xFFFF 0x0C
  checkTenancy im
  checkDomains im x
  checkInstances im x
  checkNets im
  checkSchedule im
  checkMemory im
  checkLanes im x
  checkRegs im x
  checkFaults im
  checkOverride im
  checkParams im
/-- The rebuild length W of R112. -/
def rebuildTicks (im : Image) : Nat :=
  let s := ((im.insts.filter (fun i => !i.isEndpoint)).map (·.localLen)).sum +
    ((im.regions.filter (fun r => decide (r.kind ≤ 6))).map (·.size)).sum
  let p := (im.regs.filter (fun r => decide (0xF0000 ≤ r.1 ∧ r.1 < 0x100000))).length
  16 + ceilDiv s 65536 + ceilDiv p 4

end Sys2Proof.Machine
end

