-- ==== Sys2Proof/Machine/Outputs.lean ====
section
/-! DEFINITION. Outputs that the module starts, stops and holds by itself: the epoch rules, and the holds of a rate or
delay that does not fit the ring (R122 to R126, R267, R268, R351). -/
namespace Sys2Proof.Machine
open Sys2Proof

/-- The outputs of the OVERRIDE course while the override is effective, as OUT_MASK (R33, R211). -/
def State.ovrOuts (s : State) : Nat :=
  match s.img.active with
  | some im => if s.is Reg.MIX_OVR_STATUS_EFFECTIVE then (match im.ovr with
      | some o => o.outMask
      | none => 0) else 0
  | none => 0
/-- A diagnostic run ends when the module stops a channel that it still has to test (R397); the override keeps its outputs. -/
def diagStopped (mask : Nat) (s : State) : State :=
  if s.bst.diag.chans.any (fun n => bit mask n) then diagAbort s.ovrOuts s else s
/-- Outputs of a mask stopped by the module: LIVE channels to MUTING, ARMED ones to HELD, LIVE analog outputs to HELD
through their ramp (R351, R410). -/
def muteOutputs (mask : Nat) (s : State) : State :=
  let s := diagStopped mask s
  (s.askStop (maskOf ((List.range 8).filter (fun n => bit mask n && (s.ch n = 2 || s.ch n = 3))) 8)).anaStop (mask / 256)
/-- The outputs whose endpoint has FLAGS.START are started as at activation (R118, R351). -/
def startOutputs (s : State) : State :=
  match s.img.active with
  | some im => (s.askStart (im.startMask % 256)).anaStart (im.startMask / 256)
  | none => s
/-- An epoch mismatch (R122). -/
def State.epochMis (s : State) : Bool :=
  match s.img.active, s.rct.epoch with
  | some im, some e => im.epoch ≠ e && !s.is Reg.IMG_STATUS_ACCEPTED
  | _, _ => false
/-- The plan's rate is not the rate of this node (R267). -/
def State.rateDiffers (s : State) : Bool :=
  match s.rdp.plan with
  | some p => p.rate ≠ s.rate
  | none => false
/-- The active image's D_MIN exceeds the plan's D (R268). -/
def State.delayShort (s : State) : Bool :=
  match s.rdp.plan, s.img.active with
  | some p, some im => decide (p.d < im.dMin)
  | _, _ => false
/-- The outputs are held: by an epoch mismatch, or as under one by the rate or the delay (R123, R267, R268). -/
def State.outputsHeld (s : State) : Bool :=
  s.is Reg.IMG_STATUS_EPOCH_HOLD || s.is Reg.RING_CTL_STATUS_DSHORT ||
    (s.is Reg.RING_CTL_STATUS_RATE_MIS && s.img.active.isSome)
/-- A source that is ACTIVE exactly while a condition holds. -/
def State.follow (s : State) (src : Nat) (on : Bool) : State :=
  if on && !s.isActive src then s.event.raiseActive src 0 else if !on && s.isActive src then s.endActive src 0 else s
/-- The holds recomputed after a change of the plan, the announced epoch or the image: what begins mutes the outputs, and
what ends starts those with FLAGS.START (R123, R124, R267, R268). -/
def holdUpdate (s : State) : State :=
  let held := s.outputsHeld
  let mis := s.epochMis
  let s := if s.is Reg.IMG_STATUS_EPOCH_HOLD ≠ mis then
      (s.setB Reg.IMG_STATUS_EPOCH_HOLD mis).int Reg.IMG_INT_STATUS_EPOCH_CHG
    else s
  let s := (s.setB Reg.RING_CTL_STATUS_RATE_MIS s.rateDiffers).setB Reg.RING_CTL_STATUS_DSHORT s.delayShort
  let s := (s.follow 0x47 (s.rateDiffers && s.img.active.isSome)).follow 0x48 s.delayShort
  if !held && s.outputsHeld then muteOutputs (4095 - s.ovrOuts) s
  else if held && !s.outputsHeld then startOutputs s else s
/-- While outputs are held, one that has come to be ARMED or LIVE without the override is stopped again (R123). -/
def holdTick (s : State) : State := if s.outputsHeld then muteOutputs (4095 - s.ovrOuts) s else s
/-- The announced epoch (R122, R266); ACCEPTED ends with a change of it (R125). -/
def announce (e : Nat) (s : State) : State :=
  if s.rct.epoch = some e then s
  else ((({ s with rct := { s.rct with epoch := some e } } : State).setB Reg.IMG_STATUS_RING_EPOCH true).set64
    Reg.IMG_EPOCH_RING_LO Reg.IMG_EPOCH_RING_HI e).setB Reg.IMG_STATUS_ACCEPTED false |>.log 2 0 []
/-- IMG_CTRL.ACCEPT (R125). -/
def actAccept (s : State) : Act :=
  match s.img.active with
  | none => (s, stBusy)
  | some im =>
    if !s.epochMis || s.is Reg.RING_CTL_STATUS_RATE_MIS || decide (s.get Reg.KS_PRES_DELAY < im.dMin) then (s, stBusy)
    else (holdUpdate (s.setB Reg.IMG_STATUS_ACCEPTED true), stOk)

end Sys2Proof.Machine
end

