-- ==== Sys2Proof/Machine/RctBase.lean ====
section
/-! DEFINITION. Ring control, first part: control frames, roles, port states, the plan in effect, segments and numbering
(R243 to R272, R282 to R286). -/
namespace Sys2Proof.Machine
open Sys2Proof

/-! ## Frames -/

/-- The service core that runs ring control: core 0, once the firmware runs and while no debugger halts it. -/
def State.ctlRuns (s : State) : Bool := s.host.fwRun && !bit (s.get Reg.DBG_CORE_STATUS_HALTED) 0
/-- 16 × PRIORITY + CLASS of RING_CTL_CFG. -/
def State.cfgNow (s : State) : Nat := s.get Reg.RING_CTL_CFG_PRIORITY * 16 + s.get Reg.RING_CTL_CFG_CLASS
/-- This node's priority tuple (R243), with PRIORITY and CLASS as its last CLAIM or REPORT gave them (R245). -/
def State.tuple (s : State) : Nat := s.rct.cfg.getD s.cfgNow * 2 ^ 48 + s.baseMac
/-- The MAC address of a tuple. -/
def tupleMac (t : Nat) : Nat := t % 2 ^ 48
/-- The capability class of a tuple. -/
def tupleClass (t : Nat) : Nat := t / 2 ^ 48 % 16
/-- State code of R252. -/
def State.ctl (s : State) : Nat := s.get Reg.RING_CTL_STATUS_STATE
/-- The state code set; a change raises its interrupt bit. -/
def State.setCtl (s : State) (v : Nat) : State :=
  if s.ctl = v then s else (s.set Reg.RING_CTL_STATUS_STATE v).int Reg.RING_CTL_INT_STATUS_STATE
/-- This node is coordinator. -/
def State.isCoord (s : State) : Bool := s.ctl = 5
/-- This node has seen its own MAC address used by another (R256). -/
def State.isDup (s : State) : Bool := s.is Reg.RING_CTL_STATUS_DUP
/-- CLASS below 15 and DUP 0: the node may claim and be named standby or timing master (R244, R256). -/
def State.able (s : State) : Bool := s.get Reg.RING_CTL_CFG_CLASS ≠ 15 && !s.isDup
/-- This node is timing master of the ring (R269, R272); with DUP the address names the other node (R256). -/
def State.isTm (s : State) : Bool := s.rct.gm = some s.baseMac && !s.isDup
/-- This node is standby. -/
def State.isStandby (s : State) : Bool := s.rct.standby = some s.baseMac && !s.isDup
/-- Ring ports whose segment is in service. -/
def State.svc (s : State) : List Nat := [0, 1].filter (fun p => s.inService p)
/-- Ring control changed. -/
def State.modRct (s : State) (f : RctState → RctState) : State := { s with rct := f s.rct }
/-- A write to RING_CTL_CFG: what was in use stays so until the next CLAIM or REPORT (R245). -/
def ctlCfgWrite (v : Word) (s : State) : Act :=
  ((s.modRct (fun r => { r with cfg := some (r.cfg.getD s.cfgNow) })).setWord Reg.RING_CTL_CFG v, stOk)
/-- RESULT written (R265, R273, R281). -/
def State.setResult (s : State) (r : Nat) : State := (s.set Reg.RING_CTL_RESULT_RESULT r).int Reg.RING_CTL_INT_STATUS_RESULT
/-- The full number of an EFFECTIVE cycle given by its low 32 bits: the latest that is at most 2^16 cycles ahead of cycle `c`. A
plan is issued 256 cycles ahead, and one in effect may be older than 2^31 cycles (R262; DEDUCED, log entry 40). -/
def fullCycle (v c : Nat) : Nat := c + 2 ^ 16 - (c + 2 ^ 16 + 2 ^ 32 - v % 2 ^ 32) % 2 ^ 32
/-- Whether the EFFECTIVE cycle of a plan has come. -/
def planDue (v c : Nat) : Bool := decide (fullCycle v c ≤ c)
/-- Whether a 32-bit cycle number has been reached at cycle `c`. -/
def cycDue (v c : Nat) : Bool := decide ((c % 2 ^ 32 + 2 ^ 32 - v % 2 ^ 32) % 2 ^ 32 < 2 ^ 31)
/-- A field of the common part of a control frame: PORT, REFL, TTL, HOPS, ORIGIN, ORIG_MAC, NONCE, SEQ (R247). -/
def cPort (f : List Byte) : Nat := bitsOf (beAt f 15 1) 7 7
/-- REFL. -/
def cRefl (f : List Byte) : Bool := bit (beAt f 15 1) 6
/-- TTL. -/
def cTtl (f : List Byte) : Nat := beAt f 16 2
/-- HOPS. -/
def cHops (f : List Byte) : Nat := bitsOf (beAt f 24 2) 11 0
/-- ORIGIN; none for 0x1FFF. -/
def cOrigin (f : List Byte) : Option Nat := if bitsOf (beAt f 26 2) 12 0 = 0x1FFF then none else some (bitsOf (beAt f 26 2) 12 0)
/-- ORIG_MAC. -/
def cMac (f : List Byte) : Nat := beAt f 30 6
/-- NONCE. -/
def cNonce (f : List Byte) : Nat := beAt f 36 4
/-- SEQ. -/
def cSeq (f : List Byte) : Nat := beAt f 40 2
/-- `n` bytes of the body at offset `o` (R248). -/
def cBody (f : List Byte) (o n : Nat) : Nat := beAt f (46 + o) n
/-- A link-local type (R246, R248). -/
def ctlLocal (typ : Nat) : Bool := typ = 8 || typ = 12
/-- Body bytes that a frame's type requires (R248). -/
def bodyNeed (f : List Byte) : Nat :=
  match ringType f with
  | 2 => 64
  | 5 => 32 + up16 (2 * cBody f 24 2)
  | 6 => 40 + 2 * cBody f 4 2
  | 8 => 32
  | _ => 16
/-- A control frame that R250 discards. -/
def ctlBad (f : List Byte) : Bool :=
  let t := ringType f
  ringVer f ≠ 1 || t = 0 || t = 14 || t = 15 || decide (f.length < 50 + bodyNeed f)
/-- A control frame of this node for a port, FCS included (R246, R247). -/
def State.ctlFrame (s : State) (typ port seq : Nat) (body : List Byte) : List Byte :=
  let plan := match s.rdp.plan with
    | some p => p.id
    | none => 0
  withFcs (beBytes 6 (if ctlLocal typ then 0x030000000003 else 0x030000000002) ++ beBytes 6 (s.portMac port) ++ beBytes 2 0x88B5 ++
    beBytes 1 (16 + typ) ++ beBytes 1 (128 * port) ++ beBytes 2 8192 ++ beBytes 4 (s.cycleNo % 2 ^ 32) ++ beBytes 2 plan ++
    beBytes 2 0 ++ beBytes 2 (s.rct.pos.getD 0x1FFF) ++ beBytes 2 0 ++ beBytes 6 s.baseMac ++ beBytes 4 s.rct.nonce ++
    beBytes 2 seq ++ beBytes 4 0 ++ body)
/-- One control frame originated, with one SEQ, on the ports given (R247). -/
def State.ctlSend (s : State) (typ : Nat) (ports : List Nat) (body : List Byte) : State :=
  let q := (s.rct.seq + 1) % 65536
  let s := s.modRct (fun r => { r with seq := q })
  ports.foldl (fun s p => s.sendOn p (s.ctlFrame typ p q body)) s
/-- The frame passed on: TTL down, HOPS up, REFL as given, FCS formed anew (R249). -/
def ctlPassed (f : List Byte) (refl : Bool) : List Byte :=
  let g := f.take (f.length - 4)
  let g := splice (splice g 16 (beBytes 2 (cTtl f - 1))) 24 (beBytes 2 (bitsOf (beAt f 24 2) 15 12 * 4096 + min 0xFFF (cHops f + 1)))
  let g := if refl then splice g 15 (beBytes 1 (putBits (beAt f 15 1) 6 6 1)) else g
  g ++ leBytes 4 (fcs32 g)
/-- A flooded frame sent on by the other port, or reflected when that port's segment is not in service (R249). `turn`
is what a reflecting node writes into the frame. -/
def State.ctlPass (s : State) (p : Nat) (f : List Byte) (turn : List Byte → List Byte) : State :=
  if s.inService (1 - p) then s.sendOn (1 - p) (ctlPassed f false)
  else s.sendOn p (ctlPassed (turn f) true)
/-- The first copy of a frame: it has not been acted on (R249). -/
def State.ctlFirst (s : State) (f : List Byte) : Bool := !s.rct.seen.contains (cMac f, cNonce f, ringType f, cSeq f)
/-- A frame noted as acted on; the last 1,024 are kept. -/
def State.ctlMark (s : State) (f : List Byte) : State :=
  s.modRct (fun r => { r with seen := ((cMac f, cNonce f, ringType f, cSeq f) :: r.seen).take 1024 })

/-- The body of a PLAN frame (R248). -/
def planBody (p : Plan) : List Byte :=
  beBytes 2 p.id ++ beBytes 1 p.rate ++ beBytes 1 0 ++ beBytes 2 p.channels ++ beBytes 2 p.d ++ beBytes 2 p.nodes ++ beBytes 2 p.head ++
    beBytes 4 (p.effective % 2 ^ 32) ++ beBytes 8 p.epoch ++ beBytes 2 p.hold ++ beBytes 6 p.standby ++ beBytes 6 p.gm ++ beBytes 2 0 ++
    p.source.flatMap (beBytes 2)
/-- The ring configuration that a plan carries (R264). -/
def Plan.conf (p : Plan) : RingConf := ⟨p.rate, p.channels, p.d, p.epoch, p.hold⟩

/-! ## Roles and time -/

/-- The number of the segment that a port faces (R282); 0xFFFF with no plan in effect. -/
def State.segOf (s : State) (p : Nat) : Nat :=
  match s.rdp.plan, s.rct.pos with
  | some pl, some x => if p = s.rxPort 0 then (x + pl.nodes - 1) % pl.nodes else x
  | _, _ => 0xFFFF
/-- Segments out of service for R270: those the coordinator lists or the last BEACON listed, the gap between the ends of a line,
and those of this node's own ports. -/
def State.downSegs (s : State) : List Nat :=
  let listed := if s.isCoord then s.rct.segDown.map (·.seg)
    else [s.get Reg.RING_SEG_DOWN0_SEG_LO, s.get Reg.RING_SEG_DOWN0_SEG_HI, s.get Reg.RING_SEG_DOWN1_SEG_LO, s.get Reg.RING_SEG_DOWN1_SEG_HI]
  (listed ++ s.rct.gap.toList ++ ([0, 1].filter (fun p => !s.inService p)).map s.segOf).filter (· ≠ 0xFFFF)
/-- Hops from position x to t by falling (true) or rising position over segments in service. -/
def pathHops (nodes : Nat) (down : List Nat) (x t : Nat) (lower : Bool) : Option Nat :=
  let h := if lower then (x + nodes - t) % nodes else (t + nodes - x) % nodes
  let segs := (List.range h).map (fun j => if lower then (x + 2 * nodes - 1 - j) % nodes else (x + j) % nodes)
  if segs.any (fun g => down.contains g) then none else some h
/-- Whether the SlavePort at position x faces falling positions, that is, receives east copies (R270). -/
def slaveLower (nodes : Nat) (down : List Nat) (x t : Nat) : Option Bool :=
  if x = t then none
  else match pathHops nodes down x t true, pathHops nodes down x t false with
    | some a, some b => some (decide (a ≤ b))
    | some _, none => some true
    | none, some _ => some false
    | none, none => none
/-- Position of the timing master, if this node knows it. -/
def State.gmPos (s : State) : Option Nat :=
  match s.rct.gm, s.rdp.plan with
  | some g, some p =>
    if s.isTm then s.rct.pos
    else if s.rct.coord.map tupleMac = some g then some p.head
    else match s.rct.reports.find? (fun r => r.mac = g) with
      | some r => r.pos
      | none => (s.rct.known.find? (fun k => k.mac = g)).bind (·.pos)
  | _, _ => none
/-- State of a port in service while no plan is in effect, on the east side or not, alone in service or not: by the hops of the rolls, of
which the way round the ring has h + w. The neighbour beyond the other port is one hop farther on this side and one nearer on its own
(R270; DEDUCED, log entry 40). -/
def State.formRole (s : State) (east alone : Bool) : Nat :=
  if alone then 1
  else match s.rct.eastHop, s.rct.westHop with
    | some h, some w =>
      if decide (h.1 ≤ w.1) = east then 1
      else if (if east then decide (w.1 + 2 < h.1) else decide (h.1 + 2 ≤ w.1)) then 2 else 3
    | some _, none => if east then 1 else 2
    | none, some _ => if east then 2 else 1
    | none, none => if east then 1 else 3
/-- State of a ring port (R270): 0 disabled, 1 SlavePort, 2 MasterPort, 3 PassivePort. -/
def State.portRole (s : State) (p : Nat) : Nat :=
  let east := s.rxPort 0
  if !s.inService p then 0
  else match s.rdp.plan, s.rct.pos, s.gmPos with
    | some pl, some x, some t =>
      let down := s.downSegs
      let q := if p = east then (x + pl.nodes - 1) % pl.nodes else (x + 1) % pl.nodes
      if slaveLower pl.nodes down x t = some (decide (p = east)) then 1
      else if slaveLower pl.nodes down q t = some (decide (p ≠ east)) then 2 else 3
    | _, _, _ => if s.isTm then 2 else if s.rct.gm.isNone then 3 else s.formRole (p = east) (!s.inService (1 - p))
/-- The port states recomputed (R270). -/
def portsUpdate (s : State) : State := s.modRct (fun r => { r with portState := [s.portRole 0, s.portRole 1] })
/-- Hops from this node to the timing master, over the way that is in service; 0 where it is not known. -/
def State.gmHops (s : State) : Nat :=
  match s.rdp.plan, s.rct.pos, s.gmPos with
  | some pl, some x, some t =>
    let down := s.downSegs
    let a := pathHops pl.nodes down x t true
    let b := pathHops pl.nodes down x t false
    min (a.getD (b.getD 0)) (b.getD (a.getD 0))
  | _, _, _ => 0
/-- The offset of the local tick edge from ring time in ns; a node that follows no one has none (R48). -/
def State.offset (s : State) : Int := if s.time.synced && !s.isTm then s.time.offsetNs else 0
/-- KS_STATUS.GM, LOCK, FREE and SLEWING, KS_OFFSET and TIME_OFFSET (R45, R48): LOCK reads 1 only while the offset lies within the
alignment figure of the node's hop count. The register table reads FREE 1 without a plan in effect, while R263 wants LOCK before the
first plan takes effect: a synchronised node shows LOCK 1 and FREE 0 whether it has a plan or not (DESIGN CHOICE, log entry 21). An
offset outside the register's range has no stated value (free value, log entry 21). -/
def showTime (s : State) : State :=
  let gm := s.isTm && s.rdp.plan.isSome
  let follows := s.time.synced && !s.isTm
  let off := s.offset
  let lock := gm || (follows && decide (off.natAbs ≤ if s.gmHops ≤ 512 then 1000 else 4000))
  let far := decide (1000000000 < off.natAbs * rateHz s.rate)
  let s := s.setB Reg.KS_STATUS_GM gm
  let s := if s.is Reg.KS_STATUS_LOCK ≠ lock then (s.setB Reg.KS_STATUS_LOCK lock).int Reg.KS_INT_STATUS_LOCK_CHG else s
  let s := (s.setB Reg.KS_STATUS_FREE (!gm && !follows)).setB Reg.KS_STATUS_SLEWING far
  let s := s.setWord Reg.KS_OFFSET (if off.natAbs < 2 ^ 31 then BitVec.ofInt 32 off else Config.wideOffset off)
  s.follow 0x11 far
/-- The registers that name the coordinator, the timing master and the standby. -/
def showRoles (s : State) : State :=
  let c := s.rct.coord.getD 0
  let g := s.rct.gm.getD 0
  let b := s.rct.standby.getD 0
  let s := (s.set64 Reg.RING_COORD_LO Reg.RING_COORD_HI c).set64 Reg.RING_GM_LO Reg.RING_GM_HI g
  let s := s.set64 Reg.RING_STANDBY_LO Reg.RING_STANDBY_HI b
  showTime ((s.setB Reg.RING_CTL_STATUS_STANDBY s.isStandby).setB Reg.RING_CTL_STATUS_TM s.isTm)
/-- The coordinator as this node knows it. -/
def State.setCoord (s : State) (t : Option Nat) : State :=
  if s.rct.coord = t then s
  else showRoles ((s.modRct (fun r => { r with coord := t })).int Reg.RING_CTL_INT_STATUS_COORD_CHG)
/-- The timing master as this node knows it; a node that is master itself follows no one (R272). -/
def State.setGm (s : State) (g : Option Nat) : State :=
  if s.rct.gm = g then s
  else
    let s := (s.modRct (fun r => { r with gm := g })).int Reg.RING_CTL_INT_STATUS_TM_CHG
    let s : State := if s.isTm || g = none then { s with time := TimeState.reset } else s
    showRoles (portsUpdate s)
/-- The standby as this node knows it. -/
def State.setStandby (s : State) (b : Option Nat) : State := showRoles (s.modRct (fun r => { r with standby := b }))
/-- What a frame tells of another node: tuple, and position if it has one. -/
def State.note (s : State) (tuple : Nat) (pos : Option Nat) : State :=
  s.modRct (fun r => { r with known := r.known.filter (fun k => k.mac ≠ tupleMac tuple) ++ [⟨tupleMac tuple, tuple, pos⟩] })

/-! ## The plan in effect -/

/-- No plan in effect any more: the node has left the ring's plan (R252, R263); the announced epoch stays (R266). -/
def dropPlan (s : State) : State :=
  match s.rdp.plan with
  | none => s
  | some _ =>
    let s : State := { s with rdp := { s.rdp with plan := none, launchOn := false }, rct := { s.rct with pos := none } }
    let s := ((((s.setB Reg.RING_DP_STATUS_PLAN false).setB Reg.RING_DP_STATUS_HEAD false).set Reg.RING_DP_STATUS_FRAMES 0).set
      Reg.RING_DP_STATUS_CHANNELS 0).setWord Reg.RING_DP_PLAN 0#32
    let s := ((s.setWord Reg.RING_DP_POS 0#32).setWord Reg.RING_DP_BOUND 0#32).set Reg.KS_PRES_DELAY 0
    holdUpdate (showTime (portsUpdate (rdpShow (sendConflicts (s.int Reg.RING_DP_INT_STATUS_PLAN_CHG)))))
/-- What an office or a part in the ring keeps, given up: plans being built, commits and grants. -/
def RctState.quitOffice (r : RctState) : RctState := { r with building := false, takeover := false, commit := none, commitSegs := [], step := none, stepLeft := [], rerollDue := false, wakeStep := false }
/-- A node that takes no part any more: ISOLATED, or back to LISTEN (R252). -/
def leaveTo (st : Nat) (s : State) : State :=
  let s := dropPlan (s.setCtl st)
  let s := s.modRct (fun r => { r.quitOffice with
    eastHop := none, westHop := none, waiting := [], segDown := [], gap := none, rolled := false, left := r.left && st ≠ 0 })
  let s := (s.setCoord none).setStandby none
  if st = 0 then s.setGm none else s
/-- The hold-off in ms: of the plan in effect, else of the register (R283). -/
def State.holdMs (s : State) : Nat :=
  match s.rdp.plan with
  | some p => p.hold
  | none => s.get Reg.RING_CFG_HOLD_HOLD_MS
/-- A segment lost, noted at every node that hears of it (R282). -/
def State.addDown (s : State) (seg reason : Nat) : State :=
  if seg = 0xFFFF then s
  else
    let l := s.rct.segDown
    let l := if l.any (fun x => decide (x.seg = seg)) then l.map (fun x => if x.seg = seg then { x with reason := reason } else x)
      else l ++ [⟨seg, reason, s.cycleNo, false⟩]
    portsUpdate (s.modRct (fun r => { r with segDown := l }))
/-- A segment back in service (R285). -/
def State.segBack (s : State) (seg : Nat) : State :=
  portsUpdate (s.modRct (fun r => { r with
    segDown := r.segDown.filter (fun x => x.seg ≠ seg), gap := if r.gap = some seg then none else r.gap }))
/-- Link drops of a port in the last 60 s (R284). -/
def State.dropCountOf (s : State) (p : Nat) : Nat :=
  ((nth s.rct.drops p []).filter (fun t => decide ((s.ks.count : Int) < t + 60 * (rateHz s.rate : Int)))).length
/-- Ticks for which the link of a port has been up. -/
def State.upTicks (s : State) (p : Nat) : Nat := ((s.ks.count : Int) - nth s.rct.upAt p 0).toNat
/-- The link of a port has been up for HOLD_MS without a break (R283). -/
def State.heldOff (s : State) (p : Nat) : Bool := decide (s.holdMs * rateHz s.rate ≤ s.upTicks p * 1000)
/-- The body of a SEGMENT frame for a segment at a port. -/
def State.segBody (s : State) (op reason p seg : Nat) : List Byte :=
  beBytes 1 op ++ beBytes 1 reason ++ beBytes 2 seg ++ beBytes 1 p ++ beBytes 1 0 ++ beBytes 2 (min 255 (s.dropCountOf p)) ++ beBytes 8 0
/-- No segment of this node is in service or in a planned step, and it is awake: it takes no part (R252; log entry 41). -/
def State.cutOff (s : State) : Bool := s.svc = [] && s.rct.stepPorts = [] && s.ctl ≠ 6
/-- A segment leaves service at this node (R282); its port is READY to return only if its link has been up for HOLD_MS already (R283). -/
def segLost (p reason : Nat) (s : State) : State :=
  if !s.inService p then s
  else
    let body := s.segBody 1 reason p (s.segOf p)
    let s := (s.setB Reg.RING_SEG_PORTp_IN_SERVICE false p).int Reg.RING_CTL_INT_STATUS_SEGMENT
    let s := s.setB Reg.RING_SEG_PORTp_READY (s.linkUp p && s.heldOff p) p
    let s := s.addDown (s.segOf p) reason
    let s := (s.modRct (fun r => { r with probes := setNth r.probes p none })).raise 0x44 p
    let s := if s.ctlRuns then s.ctlSend 7 s.svc body else s
    portsUpdate (if s.cutOff then leaveTo 0 s else s)
/-- Segments whose port cannot carry the plan leave service (R231, R282). -/
def capacityCheck (s : State) : State :=
  match s.rdp.plan with
  | none => s
  | some pl => [0, 1].foldl (fun s p =>
      if s.inService p && s.linkUp p && !s.is Reg.RING_SEG_PORTp_STEPPING p && !pl.fits (s.speed p) && s.ctl ≠ 6 then segLost p 3 s else s) s
/-- Whether the plan in effect gives a channel that this node declares to no node (R260). The node at position 4,095, which no plan can
name, has CONFLICT instead (R216, R261; DEDUCED, log entry 40). -/
def State.omitsSend (s : State) : Bool :=
  match s.rdp.plan with
  | none => false
  | some p => s.rct.pos ≠ some 0xFFF && s.rdp.sends.any (fun r => decide (p.channels ≤ r.chan) || nth p.source r.chan 0xFFF = 0xFFF)
/-! ## Numbering and building a plan -/

/-- The BEACON of this coordinator (R257, R248); it names the next plan until its EFFECTIVE cycle (R262). -/
def State.beaconBody (s : State) (handoff : Bool) : List Byte :=
  let r := s.rct
  let next := r.waiting.getLast?.filter (fun p => !planDue p.effective s.cycleNo)
  let segs := (r.segDown.map (·.seg)).take 4
  let ep := match s.rdp.plan with
    | some p => p.epoch
    | none => 0
  beBytes 8 s.tuple ++ beBytes 6 (r.standby.getD 0) ++ beBytes 6 (r.gm.getD 0) ++ beBytes 6 (r.prevCoord.getD 0) ++
    beBytes 2 (b2n (r.segDown ≠ []) + 2 * b2n r.takeover + 4 * b2n handoff) ++ beBytes 8 ep ++
    beBytes 2 ((next.map (·.id)).getD 0) ++ beBytes 2 segs.length ++ beBytes 4 ((next.map (·.effective % 2 ^ 32)).getD 0) ++
    beBytes 4 r.rtt ++ ((segs ++ List.replicate (4 - segs.length) 0xFFFF).flatMap (beBytes 2)) ++ beBytes 8 0
/-- RING_SEG_DOWN of a SEG list. -/
def State.showDown (s : State) (segs : List Nat) : State :=
  (s.setWord Reg.RING_SEG_DOWN0 (BitVec.ofNat 32 (nth segs 1 0xFFFF * 65536 + nth segs 0 0xFFFF))).setWord Reg.RING_SEG_DOWN1
    (BitVec.ofNat 32 (nth segs 3 0xFFFF * 65536 + nth segs 2 0xFFFF))
/-- A BEACON sent; it renews the head's launch function (R257, R279). -/
def sendBeacon (handoff : Bool) (s : State) : State :=
  let body := s.beaconBody handoff
  let s := s.ctlSend 2 s.svc body
  let s : State := { s with
    rct := { s.rct with beaconAt := s.cycleNo, beacons := ((s.rct.seq, (s.ks.count : Int), none) :: s.rct.beacons).take 256 },
    rdp := { s.rdp with launchOn := true } }
  let s := s.setB Reg.RING_CTL_STATUS_BROKEN (s.rct.segDown ≠ [])
  portsUpdate ((s.set Reg.RING_CTL_RTT_RTT s.rct.rtt).showDown (s.rct.segDown.map (·.seg)))
/-- The coordinator's rolls, by each port in service (R257, R286); its own position no longer rests on another's rolls (R259). -/
def sendRolls (s : State) : State :=
  let s := s.modRct (fun r => { r with
    rollEast := none, rollWest := none, rollRing := none, building := true, head := 0, rolled := true, rolledAt := s.cycleNo,
    rerollDue := false, eastHop := none, westHop := none, reports := [] })
  let s := s.setB Reg.RING_DP_STATUS_EAST_PORT true
  let body := beBytes 2 0xFFFF ++ beBytes 14 0
  let s := if s.inService 0 then s.ctlSend 4 [0] body else s
  if s.inService 1 then s.ctlSend 4 [1] body else s
/-- NODES as the rolls give it, once they do (R259). -/
def State.rollNodes (s : State) : Option Nat :=
  match s.rct.rollRing with
  | some n => some n
  | none =>
    let a := if s.inService 0 then s.rct.rollEast else some 0
    let b := if s.inService 1 then s.rct.rollWest else some 0
    match a, b with
    | some a, some b => some (1 + a + b)
    | _, _ => none
/-- Position of a reporting node in a ring of `nodes` (R259). -/
def Report.newPos (nodes : Nat) (r : Report) : Option Nat :=
  match r.east, r.west with
  | some h, _ => some h
  | none, some j => some ((nodes + nodes - j % nodes) % nodes)
  | none, none => r.pos
/-- SOURCE of every channel (R261): the present source, which has its position in the plan in effect, keeps a contested channel, else the
lowest position. -/
def State.assignSources (s : State) (nodes channels : Nat) : List Nat :=
  let id := (s.rdp.plan.map (·.id)).getD 0
  let own : Report := ⟨s.baseMac, s.tuple, s.rct.pos, none, none, s.rct.left, false, false, id, s.rdp.sends.map (·.chan)⟩
  let all := ((own, s.rct.head) :: s.rct.reports.filterMap (fun r => (r.newPos nodes).map (fun x => (r, x)))).filter (fun x => !x.1.leaving)
  (List.range channels).map (fun ch =>
    let ds := all.filter (fun x => x.1.chans.contains ch && decide (x.2 < 0xFFF))
    let old := match s.rdp.plan with
      | some p => if ch < p.channels then nth p.source ch 0xFFF else 0xFFF
      | none => 0xFFF
    match ds.find? (fun x => old ≠ 0xFFF && x.1.pos = some old && x.1.plan = id) with
    | some x => x.2
    | none => match ds with
      | [] => 0xFFF
      | d :: r => r.foldl (fun a x => min a x.2) d.2)
/-- The plan of a PLAN frame. -/
def readPlan (f : List Byte) : Plan :=
  let ch := cBody f 4 2
  { id := cBody f 0 2, rate := cBody f 2 1, channels := ch, d := cBody f 6 2, nodes := cBody f 8 2, head := cBody f 10 2,
    effective := cBody f 12 4, epoch := cBody f 16 8, hold := cBody f 24 2, standby := cBody f 26 6, gm := cBody f 32 6,
    source := (List.range ch).map (fun k => cBody f (40 + 2 * k) 2 % 4096) }
/-- The ring configuration of the RING_CFG registers (R264). -/
def State.cfgConf (s : State) : RingConf :=
  ⟨s.get Reg.RING_CFG_PLAN_RATE, s.get Reg.RING_CFG_PLAN_CHANNELS, s.get Reg.RING_CFG_PLAN_DELAY,
    s.get64 Reg.RING_CFG_EPOCH_LO Reg.RING_CFG_EPOCH_HI, s.get Reg.RING_CFG_HOLD_HOLD_MS⟩
/-- Whether a configuration lies in the ranges of R214, R59 and the hold-off register (R265). -/
def RingConf.ok (c : RingConf) : Bool :=
  let d := dRange c.rate
  decide (c.rate < 3) && decide (8 ≤ c.channels) && decide (c.channels ≤ (if c.rate = 2 then 256 else 512)) && c.channels % 8 = 0 &&
    decide (d.1 ≤ c.d) && decide (c.d ≤ d.2) && decide (500 ≤ c.hold) && decide (c.hold ≤ 30000)
/-- The best capable node of the reports, for standby (R244). -/
def State.bestStandby (s : State) : Option Nat :=
  match s.rct.reports.filter (fun r => !r.leaving && !r.dup && tupleClass r.tuple ≠ 15) with
  | [] => none
  | r :: l => some (tupleMac (l.foldl (fun a x => min a x.tuple) r.tuple))
/-- The standby that a plan names: the one in office while it takes part, since a change of its tuple never removes it (R245), else the
best capable node (R244). -/
def State.nextStandby (s : State) : Option Nat :=
  match s.rct.standby with
  | some m => if s.rct.reports.any (fun r => r.mac = m && !r.leaving && !r.dup) then some m else s.bestStandby
  | none => s.bestStandby
/-- A plan built from the reports held, and sent for the first time (R260 to R262). -/
def buildPlan (s : State) : State :=
  let c := s.rct.conf.getD s.cfgConf
  let nodes := match s.rdp.plan, s.rct.building with
    | some p, false => p.nodes
    | _, _ => s.rollNodes.getD (1 + s.rct.reports.length)
  let s := s.setStandby s.nextStandby
  let id := if s.rct.lastId = 0xFFFF then 1 else s.rct.lastId + 1
  let p : Plan := {
    id := id, rate := c.rate, channels := c.channels, d := c.d, nodes := nodes, head := s.rct.head,
    effective := (s.cycleNo + 256) % 2 ^ 32, epoch := c.epoch, hold := c.hold, standby := s.rct.standby.getD 0,
    gm := s.rct.gm.getD 0, source := s.assignSources nodes c.channels }
  let s := s.modRct (fun r => { r with building := false, lastId := id, waiting := r.waiting ++ [p], sendsLeft := 2 })
  s.ctlSend 6 s.svc (planBody p)
/-- A coordinator whose plan in effect gives the channels otherwise than R261 does issues a plan, unless it builds one or one
waits already (R260, R261; DEDUCED, log entry 40). -/
def planFix (s : State) : State :=
  match s.rdp.plan with
  | none => s
  | some p => if s.isCoord && s.ctlRuns && !s.rct.building && s.rct.waiting = [] && s.assignSources p.nodes p.channels ≠ p.source then buildPlan s
      else s
/-- The plan in effect, or the image, has changed: a node whose declared send the plan gives to no one reports (R260). -/
def sendsCheck (s : State) : State :=
  if s.isCoord then planFix s else if s.omitsSend then s.modRct (fun r => { r with reportDue := true }) else s
/-- Position of the segment number that no cable joins, on a line (R259); none on a ring. East of the coordinator the nodes have
an EAST_HOP alone. -/
def State.lineGap (s : State) : Option Nat :=
  let hops := (s.rct.reports.filter (fun r => r.west.isNone)).filterMap (·.east) ++
    (if s.rct.westHop.isNone then (s.rct.eastHop.map (·.1)).toList else [])
  if s.isCoord then (if s.rct.rollRing.isSome then none else some (s.rct.rollEast.getD 0))
  else if s.rct.eastHop.isSome && s.rct.westHop.isSome then none else some (hops.foldl max 0)
/-- The number that a segment of the plan in effect has in a plan after rolls, as far as this node knows the new positions of its ends
(R286). -/
def State.newSeg (s : State) (p : Plan) (pos : Option Nat) (seg : Nat) : Option Nat :=
  match s.rdp.plan with
  | none => none
  | some old =>
    let at' (x : Nat) : Option Nat :=
      if s.rct.pos = some x then pos else (s.rct.reports.find? (fun r => r.pos = some x && r.plan = old.id)).bind (·.newPos p.nodes)
    match at' seg, at' ((seg + 1) % old.nodes) with
    | some a, some b => if b = (a + 1) % p.nodes then some a else if a = (b + 1) % p.nodes then some b else none
    | some a, none => some a
    | none, some b => some ((b + p.nodes - 1) % p.nodes)
    | none, none => none
/-- The segments renumbered by rolls, once their plan takes effect (R286): those that the rolls passed are in service, unless they were
lost since; on a line the break that was listed is the gap between its ends. `move` gives a segment its new number. -/
def renumber (move : Nat → Option Nat) (s : State) : State :=
  if !s.rct.rolled then s
  else
    let g := s.lineGap
    let since (x : SegOut) : Bool := decide (s.rct.rolledAt ≤ x.since)
    let l := match g, s.rct.segDown.filter (fun x => !since x) with
      | some x, d :: _ => [{ d with seg := x, rolled := true }]
      | _, _ => []
    let late := (s.rct.segDown.filter since).filterMap (fun x => (move x.seg).map (fun n => { x with seg := n }))
    s.modRct (fun r => { r with rolled := false, gap := g, segDown := l ++ late.filter (fun x => g ≠ some x.seg) })
/-- A plan put into effect (R263, R266); its EFFECTIVE becomes a full cycle number. What the reports say of positions follows the
numbering. -/
def putPlan (p : Plan) (late : Bool) (s : State) : State :=
  let p := { p with effective := fullCycle p.effective s.cycleNo }
  let pos := if s.isCoord then some p.head
    else match s.rct.eastHop, s.rct.westHop with
      | some h, _ => some h.1
      | none, some j => some ((p.nodes + p.nodes - j.1 % p.nodes) % p.nodes)
      | none, none => s.rct.pos
  let move := s.newSeg p pos
  let s : State := { s with
    rdp := { s.rdp with plan := some p, since := s.cycleNo, written := [] },
    rct := { s.rct with
      pos := pos, waiting := s.rct.waiting.filter (fun q => planBody q ≠ planBody p && !planDue q.effective s.cycleNo),
      conf := if s.isCoord && s.rct.conf.isSome then s.rct.conf else some p.conf,
      reports := s.rct.reports.map (fun r => { r with pos := r.newPos p.nodes, plan := p.id }), takeover := false } }
  let s := renumber move s
  let s := if late then s.inc Reg.RING_CTL_CNT_PLAN_LATE else s
  let s := (s.set Reg.RING_DP_POS_POSITION (pos.getD 0)).set Reg.KS_PRES_DELAY p.d
  let s := rdpShow (sendConflicts (s.int Reg.RING_DP_INT_STATUS_PLAN_CHG))
  let s := showTime (portsUpdate s)
  let s := holdUpdate (announce p.epoch s)
  capacityCheck (sendsCheck s)
/-- The plan that is due put into effect, if this node may (R263); at a ring cycle's first tick. -/
def planCheck (s : State) : State :=
  let c := s.cycleNo
  let due := s.rct.waiting.filter (fun p => planDue p.effective c)
  if s.ks.count % s.nTicks ≠ 0 || !(s.ctl = 4 || s.ctl = 5) || !(s.is Reg.KS_STATUS_LOCK || s.isTm) then s
  else match due.getLast? with
    | none => s
    | some p => putPlan p (p.effective % 2 ^ 32 ≠ c % 2 ^ 32) s
/-- The plan built once every other node has reported (R260). -/
def buildIfHeld (s : State) : State :=
  match s.rct.building, s.rollNodes with
  | true, some n => if n ≤ s.rct.reports.length + 1 then buildPlan s else s
  | _, _ => s
/-- The coordinator re-rolls (R286); where rolls are under way, once their plan is built. -/
def reroll (s : State) : State :=
  if !(s.isCoord && s.ctlRuns) then s
  else if s.rct.building then s.modRct (fun r => { r with rerollDue := true }) else sendRolls s
/-- The re-roll that waited for a plan to be built. -/
def rerollCheck (s : State) : State := if s.rct.rerollDue && !s.rct.building then reroll s else s
/-- Office taken by election (R255, R257, R264). The configuration is taken from the registers as they stand: R265 checks it at
COMMIT only, so that a D outside the range of R59 goes into the plan (DESIGN CHOICE, log entry 40). -/
def electCoord (s : State) : State :=
  let s := (s.setCtl 5).inc Reg.RING_CTL_CNT_ELECT
  let s := s.modRct (fun r => { r with
    conf := if s.rdp.plan.isSome then r.conf else some s.cfgConf, prevCoord := none, takeover := false, claims := [] })
  let s := ((s.setCoord (some s.tuple)).setGm (some s.baseMac)).setStandby none
  sendRolls (sendBeacon false s)
/-- Office taken by the standby (R278). -/
def takeOver (s : State) : State :=
  let old := s.rct.coord.map tupleMac
  let s := (s.setCtl 5).inc Reg.RING_CTL_CNT_TAKEOVER
  let s := s.modRct (fun r => { r with
    prevCoord := old, takeover := true, building := false, head := r.pos.getD 0
    reports := r.reports.filter (fun x => some x.mac ≠ old) })
  let s := s.setCoord (some s.tuple)
  let s := if s.rct.gm = old then s.setGm (some s.baseMac) else s
  buildPlan (sendBeacon false (s.setStandby none))
/-- Office or election left for a coordinator in office (R252). A node without a position asks for one (R286). -/
def follow' (s : State) : State :=
  let s := (s.setCtl 4).modRct RctState.quitOffice
  let s : State := { s with rdp := { s.rdp with launchOn := false } }
  if s.rct.pos = none then s.modRct (fun r => { r with reportDue := true }) else s

/-! ## Duplicates -/

/-- A frame with this node's MAC address and another NONCE (R256): the node's roles end, and it claims no more. -/
def dupMac (f : List Byte) (s : State) : State :=
  if cMac f ≠ s.baseMac || cNonce f = s.rct.nonce || s.isDup then s
  else
    let tm := s.isTm
    let s := ((s.setB Reg.RING_CTL_STATUS_DUP true).int Reg.RING_CTL_INT_STATUS_DUP).raise 0x46 0
    let s := if s.isCoord then (follow' s).setCoord none else s
    let s := if tm then s.setGm none else s
    if s.rct.standby = some s.baseMac then s.setStandby none else s

end Sys2Proof.Machine
end

