-- ==== Sys2Proof/Machine/Rct.lean ====
section
/-! DEFINITION. Ring control, second part: the control frames received, the timeouts, the timing handover, segments and
speed steps, and the host's actions (R249 to R295). -/
namespace Sys2Proof.Machine
open Sys2Proof

/-! ## Receiving -/

/-- A control frame of a type arriving on a ring port: counted, and given on when it is good (R249, R250). -/
def ctlIn (typ : Nat) (portB : Bool) (f : List Byte) (act : State → State) (s : State) : State :=
  let p := b2n portB
  if !(s.linkUp p && beAt f 12 2 = 0x88B5 && ringType f = typ) then s
  else
    let s := s.event.rxCount p f
    if !frameGood f then s
    else if ctlBad f then s.inc Reg.RING_CTL_CNT_BAD
    else act s
/-- A flooded frame (R249): `ret` handles this node's own returned frame, `act` the first copy of another's. -/
def ctlFlood (typ : Nat) (portB : Bool) (f : List Byte) (ret act : State → State) : State → State :=
  ctlIn typ portB f (fun s =>
    let p := b2n portB
    if !s.inService p then s
    else if cMac f = s.baseMac && cNonce f = s.rct.nonce then (if s.ctlRuns then ret s else s)
    else if cTtl f ≤ 1 then s
    else
      let s := s.ctlPass p f id
      if s.ctlRuns && s.ctlFirst f then act (s.ctlMark f) else s)

/-- Segments of a BEACON's list that this node did not know of (R282). -/
def State.heardDown (s : State) (segs : List Nat) : State :=
  let new := segs.filter (fun g => decide (g ≠ 0xFFFF) && !s.rct.segDown.any (fun x => decide (x.seg = g)))
  s.modRct (fun r => { r with segDown := r.segDown ++ new.map (fun g => ⟨g, 0, s.cycleNo, false⟩) })
/-- The coordinator named by a BEACON accepted, with what the frame says (R252, R272, R282). -/
def beaconAdopt (f : List Byte) (s : State) : State :=
  let nz (v : Nat) : Option Nat := if v = 0 then none else some v
  let s := if s.ctl = 6 then s else follow' s
  let s := s.modRct (fun r => { r with prevCoord := nz (cBody f 20 6) })
  let s := ((s.setCoord (some (cBody f 0 8))).setStandby (nz (cBody f 8 6))).setGm (nz (cBody f 14 6))
  let s := (s.setB Reg.RING_CTL_STATUS_BROKEN (bit (cBody f 26 2) 0)).set Reg.RING_CTL_RTT_RTT (cBody f 44 4 % 2 ^ 24)
  let segs := (List.range 4).map (fun k => cBody f (48 + 2 * k) 2)
  let s := portsUpdate ((s.showDown segs).heardDown segs)
  if bit (cBody f 26 2) 2 && s.isStandby && s.ctl = 4 then takeOver s else s
/-- A BEACON of another node (R252, R278, R280). A follower takes up its own coordinator's BEACON, and another's when it is the
better or names the first as the one before it. -/
def beaconAct (f : List Byte) (s : State) : State :=
  let t := cBody f 0 8
  let s := dupMac f (s.note t (cOrigin f))
  if s.isCoord then
    if cBody f 20 6 = s.baseMac || t < s.tuple then beaconAdopt f s else reroll s
  else if s.ctl = 4 then
    match s.rct.coord with
    | none => beaconAdopt f s
    | some c => if t ≤ c || tupleMac c = tupleMac t || tupleMac c = cBody f 20 6 || tupleMac c = s.baseMac then beaconAdopt f s else s
  else if s.ctl = 0 then s else beaconAdopt f s
/-- A BEACON of this coordinator returned: the round trip (R277). On a line with two ways the first of a BEACON's reflected returns
waits for the second, whichever others come between. -/
def beaconReturn (p : Nat) (f : List Byte) (s : State) : State :=
  match s.rct.beacons.find? (fun b => b.1 = cSeq f) with
  | none => s
  | some b =>
    let us := ((s.ks.count : Int) - b.2.1).toNat * 1000000 / rateHz s.rate
    if !s.isCoord then s
    else if cRefl f then
      match b.2.2, s.svc with
      | none, [_, _] => s.modRct (fun r => { r with beacons := r.beacons.map (fun c => if c.1 = b.1 then (c.1, c.2.1, some us) else c) })
      | first, _ => s.modRct (fun r => { r with rtt := max (first.getD 0) us })
    else if p = 1 && cPort f = 0 then s.modRct (fun r => { r with rtt := us }) else s
/-- Row BEACON_RX. -/
def beaconRx (portB : Bool) (f : List Byte) : State → State := ctlFlood 2 portB f (beaconReturn (b2n portB) f) (beaconAct f)

/-- This node's own CLAIM returned (R255). -/
def claimReturn (f : List Byte) (s : State) : State :=
  if !(s.ctl = 2 && cSeq f = s.rct.claimSeq && s.rct.claimPorts.contains (cPort f)) then s
  else
    let s := s.modRct (fun r => { r with claimBack := cPort f :: r.claimBack })
    if s.rct.claimPorts.all (fun p => s.rct.claimBack.contains p) && s.able then electCoord s else s
/-- Row CLAIM_RX (R254, R255); 2,400 ring cycles are the last 200 ms. The other copy of the best claim seen, which travels the
other way or comes back reflected, goes on as the first did, since R255 has it return (DEDUCED, log entry 40). -/
def claimRx (portB : Bool) (f : List Byte) : State → State :=
  ctlIn 3 portB f (fun s =>
    let p := b2n portB
    if !s.inService p || !s.ctlRuns then s
    else if cMac f = s.baseMac && cNonce f = s.rct.nonce then claimReturn f s
    else if cTtl f ≤ 1 then s
    else
      let t := cBody f 0 8
      let s := dupMac f (s.note t none)
      let recent := s.rct.claims.filter (fun c => decide (s.cycleNo < c.2 + 2400))
      let seen := (t, s.cycleNo) :: recent.filter (fun c => c.1 ≠ t)
      let good := (!s.able || decide (t < s.tuple)) && recent.all (fun c => decide (t ≤ c.1))
      let s := s.modRct (fun r => { r with claims := seen })
      if !good then s
      else
        let s := s.ctlPass p f id
        if s.ctl = 2 then s.setCtl 3 else s)

/-- An unreflected roll of the coordinator (R258). A west roll belongs to the east roll whose SEQ stands just before its
own. -/
def rollTake (p : Nat) (f : List Byte) (s : State) : State :=
  let hop := cHops f + 1
  let q := cSeq f
  let s := s.modRct (fun r => if cPort f = 0 then { r with
      eastHop := some (hop, q), reportDue := true,
      westHop := match r.westHop with
        | some w => if w.2 = (q + 1) % 65536 then some w else none
        | none => none }
    else { r with
      westHop := some (hop, q), reportDue := true,
      eastHop := match r.eastHop with
        | some e => if (e.2 + 1) % 65536 = q then some e else none
        | none => none })
  let s := s.modRct (fun r => { r with rolled := true, rolledAt := s.cycleNo })
  let s := if cPort f = 0 then s.setB Reg.RING_DP_STATUS_EAST_PORT (p = 1)
    else if s.rct.eastHop = none then s.setB Reg.RING_DP_STATUS_EAST_PORT (p = 0) else s
  portsUpdate s
/-- This coordinator's own roll returned (R259). -/
def rollReturn (p : Nat) (f : List Byte) (s : State) : State :=
  if !(s.isCoord && s.rct.building) then s
  else
    buildIfHeld ((s.modRct (fun r => { r with rolledAt := s.cycleNo })).modRct (fun r =>
      if cRefl f then (if cPort f = 0 then { r with rollEast := some (cBody f 0 2) } else { r with rollWest := some (cBody f 0 2) })
      else if p = 1 && cPort f = 0 then { r with rollRing := some (cHops f + 1) } else r))
/-- Row ROLL_RX (R258, R259). -/
def rollRx (portB : Bool) (f : List Byte) : State → State :=
  ctlIn 4 portB f (fun s =>
    let p := b2n portB
    if !s.inService p then s
    else if cMac f = s.baseMac && cNonce f = s.rct.nonce then (if s.ctlRuns then rollReturn p f s else s)
    else if cTtl f ≤ 1 then s
    else
      let s := s.ctlPass p f (fun g => if cRefl f then g else splice g 46 (beBytes 2 (cHops f + 1)))
      if s.ctlRuns && !cRefl f && s.ctlFirst f && s.rct.coord.map tupleMac = some (cMac f) then rollTake p f (s.ctlMark f) else s)

/-- A REPORT of another node (R256, R260, R281, R286). -/
def reportAct (f : List Byte) (s : State) : State :=
  let t := cBody f 0 8
  let hop (o : Nat) : Option Nat := if cBody f o 2 = 0xFFFF then none else some (cBody f o 2)
  let fl := cBody f 13 1
  let n := min 64 (cBody f 24 2)
  let r : Report := ⟨cMac f, t, cOrigin f, hop 8, hop 10, bit fl 1, bit fl 3, bit fl 0, beAt f 22 2, (List.range n).map (fun k => cBody f (32 + 2 * k) 2)⟩
  let s := dupMac f (s.note t r.pos)
  let gone := s.rct.reports.any (fun y => y.mac = r.mac && y.leaving)
  let s := s.modRct (fun x => { x with reports := x.reports.filter (fun y => y.mac ≠ r.mac) ++ [r] })
  if !s.isCoord then s
  else
    let s := if r.leaving && s.rct.gm = some r.mac then s.setGm (some s.baseMac) else s
    if s.rct.building then buildIfHeld s
    else if r.leaving && !gone then buildPlan s
    else if r.pos = none then reroll s
    else planFix s
/-- Row REPORT_RX. -/
def reportRx (portB : Bool) (f : List Byte) : State → State := ctlFlood 5 portB f id (reportAct f)
/-- A PLAN of the coordinator (R252, R263). -/
def planAct (f : List Byte) (s : State) : State :=
  let p := readPlan f
  if s.isCoord || s.ctl = 0 || (match s.rct.coord with
      | some c => tupleMac c ≠ cMac f
      | none => false) then s
  else
    let s := if s.ctl = 6 then s else follow' s
    let body := planBody p
    if p.id = 0 || s.rdp.plan.map planBody = some body || s.rct.waiting.any (fun q => decide (planBody q = body)) then s
    else s.modRct (fun r => { r with waiting := r.waiting ++ [p], lastId := p.id })
/-- Row PLAN_RX. -/
def planRx (portB : Bool) (f : List Byte) : State → State := ctlFlood 6 portB f id (planAct f)
/-- A SEGMENT frame (R282, R285). An end that finds positions that are not adjacent has no number to give; from its IN_SERVICE the
coordinator learns that it is to re-roll (DEDUCED, log entry 40). -/
def segmentAct (f : List Byte) (s : State) : State :=
  let seg := cBody f 2 2
  if cBody f 0 1 = 1 then s.addDown seg (cBody f 1 1)
  else if cBody f 0 1 ≠ 2 then s
  else if seg = 0xFFFF then reroll s else s.segBack seg
/-- Row SEGMENT_RX. -/
def segmentRx (portB : Bool) (f : List Byte) : State → State := ctlFlood 7 portB f id (segmentAct f)

/-! ## Segments -/

/-- A segment enters service at this node (R283, R285). A merge is left to R280. -/
def enterService (p : Nat) (s : State) : State :=
  let s := (s.setB Reg.RING_SEG_PORTp_IN_SERVICE true p).int Reg.RING_CTL_INT_STATUS_SEGMENT
  let s := portsUpdate (if s.ctl = 0 then s.setCtl 1 else s)
  match nth s.rct.probes p none with
  | none => s
  | some (mac, pos, _) =>
    let same := s.rct.coord.map tupleMac = some mac
    let near := match s.rdp.plan, s.rct.pos with
      | some pl, some x => pos = (if p = s.rxPort 0 then (x + pl.nodes - 1) % pl.nodes else (x + 1) % pl.nodes)
      | _, _ => false
    let tell (seg : Nat) (s : State) : State := if s.ctlRuns then s.ctlSend 7 s.svc (s.segBody 2 0 p seg) else s
    if same && near then (tell (s.segOf p) s).segBack (s.segOf p)
    else if mac = 0 || pos = 0xFFFF then reroll s
    else if !same then s
    else if s.isCoord then reroll s else tell 0xFFFF s
/-- The port can carry the plan in effect, if there is one (R231, R242). -/
def State.fitsPlan (s : State) (p : Nat) : Bool := (s.rdp.plan.map (fun pl => pl.fits (s.speed p))).getD true
/-- A segment enters service once this end and the other are READY (R283), on a port that can carry the plan (R282). -/
def serviceCheck (p : Nat) (s : State) : State :=
  if s.linkUp p && !s.inService p && s.fitsPlan p && s.is Reg.RING_SEG_PORTp_READY p && !s.is Reg.RING_SEG_PORTp_STEPPING p &&
      (match nth s.rct.probes p none with
        | some (_, _, r) => r
        | none => false) then enterService p s else s
/-- Row PROBE_RX (R283, R285). -/
def probeRx (portB : Bool) (f : List Byte) : State → State :=
  ctlIn 8 portB f (fun s =>
    let p := b2n portB
    let s := s.modRct (fun r => { r with probes := setNth r.probes p (some (cBody f 0 6, cBody f 6 2, bit (cBody f 18 2) 0)) })
    serviceCheck p s)
/-- Row PROBE_SEND (R283). -/
def probeSend (p : Nat) (s : State) : State :=
  if !(s.linkUp p && !s.inService p && s.ctlRuns) then s
  else
    let ms := s.upTicks p * 1000 / rateHz s.rate
    let ep := match s.rdp.plan with
      | some pl => pl.epoch
      | none => 0
    let id := match s.rdp.plan with
      | some pl => pl.id
      | none => 0
    s.ctlSend 8 [p] (beBytes 6 ((s.rct.coord.map tupleMac).getD 0) ++ beBytes 2 (s.rct.pos.getD 0xFFFF) ++ beBytes 8 ep ++ beBytes 2 id ++
      beBytes 2 (b2n (s.is Reg.RING_SEG_PORTp_READY p)) ++ beBytes 4 (min (2 ^ 32 - 1) ms) ++ beBytes 8 0)
/-- Row HOLD_OFF_DONE (R283). -/
def holdOffDone (p : Nat) (s : State) : State :=
  if s.linkUp p && !s.inService p && !s.is Reg.RING_SEG_PORTp_STEPPING p && s.heldOff p then
    serviceCheck p ((s.setB Reg.RING_SEG_PORTp_READY true p).set Reg.RING_SEG_PORTp_HOLD_LEFT 0 p)
  else s
/-- HOLD_LEFT of a port in ms (R283). -/
def State.holdLeft (s : State) (p : Nat) : Nat :=
  if !s.linkUp p || s.is Reg.RING_SEG_PORTp_READY p || s.inService p then 0
  else s.holdMs - s.upTicks p * 1000 / rateHz s.rate
/-- A drop of a ring port's link counted (R284). -/
def dropCount (p : Nat) (s : State) : State :=
  let now : Int := s.ks.count
  let minute : Int := 60 * rateHz s.rate
  let l := (now :: nth s.rct.drops p []).filter (fun t => decide (now < t + minute))
  let s := s.modRct (fun r => { r with drops := setNth r.drops p l })
  let again := match s.rct.flapAt with
    | some t => decide (t + minute ≤ now)
    | none => true
  if decide (4 ≤ l.length) && again then (s.modRct (fun r => { r with flapAt := some now })).raise 0x45 p else s
/-- A ring port's link is down: its segment leaves service, unless a step retrains it (R282, R288); DROPS counts no drop of a step
(DEDUCED, log entry 40). -/
def ringLinkDown (p : Nat) (s : State) : State :=
  let s := ((s.setB Reg.RING_SEG_PORTp_LINK false p).setB Reg.RING_SEG_PORTp_READY false p).set Reg.RING_SEG_PORTp_HOLD_LEFT 0 p
  let s := if s.is Reg.RING_SEG_PORTp_STEPPING p then s
    else segLost p 1 ((dropCount p s).modRct (fun r => { r with probes := setNth r.probes p none }))
  showBound s
/-- A ring port's link is up: the hold-off count starts, unless a step brought it up (R283, R288). -/
def ringLinkUp (p speed : Nat) (s : State) : State :=
  let s := ((s.setB Reg.RING_SEG_PORTp_LINK true p).setB Reg.RING_SEG_PORTp_READY false p).set Reg.RING_SEG_PORTp_SPEED speed p
  let s := showBound (s.modRct (fun r => { r with upAt := setNth r.upAt p (s.ks.count : Int) }))
  if s.is Reg.RING_SEG_PORTp_STEPPING p then s else s.set Reg.RING_SEG_PORTp_HOLD_LEFT s.holdMs p
/-- The link of a port goes down (R282, R324); what a pause held is discarded. -/
def linkDown (p : Nat) (s : State) : State :=
  if !s.linkUp p then s
  else
    let lost := (s.port.held.filter (fun h => h.port = p)).length
    let s : State := { s with port := { s.port with held := s.port.held.filter (fun h => h.port ≠ p) } }
    let s := ((s.setB Reg.PORT_Pp_LINK_LINK false p).setB Reg.PORT_Pp_LINK_PAUSED false p).set Reg.PORT_Pp_LINK_DELAY_NS 0xFFFF p
    let s := (((s.setB Reg.PORT_Pp_LINK_LPI false p).cnt p 52).cntBy p 41 lost).int Reg.PORT_INT_STATUS_LINK_CHG
    if p < 2 then ringLinkDown p (s.modRct (fun r => { r with stepReq := setNth r.stepReq p false })) else s
/-! ## Timing-master handover (R273 to R276) -/

/-- The body of a TIMING frame. -/
def timingBody (op target switch : Nat) : List Byte := beBytes 1 op ++ beBytes 1 0 ++ beBytes 6 target ++ beBytes 4 (switch % 2 ^ 32) ++ beBytes 4 0
/-- Of two nodes, the one that is not timing master. -/
def State.otherTm (s : State) (a b : Nat) : Nat := if s.rct.gm = some a then b else a
/-- No REQ may be issued yet after a void or a switch (R276). -/
def State.tmBarred (s : State) : Bool :=
  match s.rct.tmLock with
  | some c => decide (1000 * (s.cycleNo - c) < 12 * s.get Reg.RING_CTL_RTT_RTT)
  | none => false
/-- Nothing that this node has read of another bars it from becoming timing master: CLASS 15 or DUP (R244, R273). -/
def State.mayBeTm (s : State) (mac : Nat) : Bool :=
  !s.rct.known.any (fun k => k.mac = mac && tupleClass k.tuple = 15) && !s.rct.reports.any (fun r => r.mac = mac && r.dup)
/-- RING_CTL_CTRL.TM_REQ (R273, R276). What this node has not read of the other node does not bar the request. -/
def actTmReq (s : State) : Act :=
  let me := s.baseMac
  let tgt := s.get Reg.RING_TM_TARGET_LO + 2 ^ 32 * (s.get Reg.RING_TM_TARGET_HI % 65536)
  let ok := tgt ≠ me && ((s.isTm && s.mayBeTm tgt) || (s.rct.gm = some tgt && s.able))
  if s.tmBarred then (s.setResult 6, stBusy)
  else if !ok then (s.setResult 7, stBusy)
  else
    let s := s.modRct (fun r => { r with tmReq := some tgt })
    (s.ctlSend 9 s.svc (timingBody 1 tgt 0), stOk)
/-- A TIMING REQ (R274, R275). -/
def timingReqAct (f : List Byte) (s : State) : State :=
  let me := s.baseMac
  let them := cMac f
  if cBody f 2 6 ≠ me then s
  else match s.rct.tmReq with
    | none =>
      let c := s.cycleNo + 256
      let new := s.otherTm me them
      if !(if new = me then s.able else s.mayBeTm them) then s
      else (s.modRct (fun r => { r with tmSwitch := some (new, c % 2 ^ 32, false) })).ctlSend 9 s.svc (timingBody 2 them c)
    | some t =>
      if t ≠ them then s
      else
        let s := (s.modRct (fun r => { r with tmReq := none, tmLock := some s.cycleNo })).setResult 5
        let other := match s.rct.known.find? (fun k => k.mac = them) with
          | some k => k.tuple
          | none => Config.unheard them % 4096 * 2 ^ 48 + them
        if decide (s.tuple < other) && !s.isTm then
          let c := s.cycleNo + 256
          let s := s.modRct (fun r => { r with tmSwitch := some (me, c % 2 ^ 32, false) })
          s.ctlSend 9 s.svc (timingBody 3 them c)
        else s
/-- A TIMING ACK: every node schedules the handover (R274). -/
def timingAckAct (f : List Byte) (s : State) : State :=
  let mine := decide (cBody f 2 6 = s.baseMac) && s.rct.tmReq = some (cMac f)
  s.modRct (fun r => { r with
    tmReq := if mine then none else r.tmReq, tmSwitch := some (s.otherTm (cMac f) (cBody f 2 6), cBody f 8 4, mine) })
/-- A TIMING ASSERT (R275). -/
def timingAssertAct (f : List Byte) (s : State) : State := s.modRct (fun r => { r with tmSwitch := some (cMac f, cBody f 8 4, false) })
/-- A TIMING frame of one operation; others pass by. -/
def timingRx (op : Nat) (portB : Bool) (f : List Byte) (act : State → State) (s : State) : State :=
  if cBody f 0 1 ≠ op then s else ctlFlood 9 portB f id act s
/-- The handover that is due (R274); the two nodes keep silent for a round trip after it (R276). RESULT is 1 at the node whose
request was answered; a void keeps RESULT 5 (R275). -/
def timingSwitch (s : State) : State :=
  match s.rct.tmSwitch with
  | none => s
  | some (m, c, mine) =>
    if !cycDue c s.cycleNo then s
    else
      let was := s.isTm
      let s := (s.modRct (fun r => { r with tmSwitch := none })).setGm (some m)
      let s := if was || s.isTm then s.modRct (fun r => { r with tmLock := some s.cycleNo }) else s
      if mine then s.setResult 1 else s
/-- Row TIMING_LAPSE (R274). -/
def timingLapse (s : State) : State :=
  match s.rct.tmReq with
  | none => s
  | some _ => (s.modRct (fun r => { r with tmReq := none })).setResult 8

/-! ## Speed steps (R287 to R289) -/

/-- The body of a STEP frame. -/
def stepBody (op speed seg cycle reason : Nat) : List Byte :=
  beBytes 1 op ++ beBytes 1 speed ++ beBytes 2 seg ++ beBytes 4 (cycle % 2 ^ 32) ++ beBytes 1 reason ++ beBytes 7 0
/-- Why the coordinator denies a step, if it does (R287). -/
def State.stepDeny (s : State) (speed : Nat) : Option Nat :=
  if s.rct.segDown ≠ [] then some 1
  else if (match s.rdp.plan with
      | some p => decide (p.d < s.get Reg.RING_DP_BOUND_SEAMLESS)
      | none => false) then some 2
  else if (match s.rdp.plan with
      | some p => !p.fits speed
      | none => false) then some 3
  else if s.rct.step.isSome then some 4
  else match s.rct.stepDoneAt with
    | some t => if (s.ks.count : Int) < t + (rateHz s.rate : Int) then some 5 else none
    | none => none
/-- This node's ports that a step retrains; a port in corbel mode has one speed and stays as it is (R298; DEDUCED, log entry 40). -/
def State.stepMine (s : State) (seg : Nat) : List Nat :=
  [0, 1].filter (fun p => s.inService p && !s.is Reg.PORT_Pp_LINK_CORBEL p && (seg = 0xFFFF || s.segOf p = seg))
/-- This node takes part in a step: its ports are to retrain at the cycle given. -/
def stepJoin (g : StepGo) (s : State) : State :=
  let busy := s.rct.stepPorts.filter (fun p => s.is Reg.RING_SEG_PORTp_STEPPING p)
  let mine := s.stepMine g.segment
  if mine = [] then s
  else s.modRct (fun r => { r with
    stepLocal := some g, stepPorts := busy ++ mine
    stepReq := [nth r.stepReq 0 false && !mine.contains 0, nth r.stepReq 1 false && !mine.contains 1] })
/-- The segments that a step retrains: one, or those of the plan in service, of which a port of this node in corbel mode keeps its own. -/
def State.stepSegs (s : State) (seg : Nat) : List Nat :=
  if seg ≠ 0xFFFF then [seg]
  else match s.rdp.plan with
    | none => []
    | some p =>
      let out := s.downSegs ++ ([0, 1].filter (fun q => s.is Reg.PORT_Pp_LINK_CORBEL q)).map s.segOf
      (List.range p.nodes).filter (fun g => !out.contains g)
/-- A step granted by the coordinator (R287, R289). -/
def stepGrant (seg speed : Nat) (s : State) : State :=
  let c := (s.cycleNo + 256) % 2 ^ 32
  let g : StepGo := ⟨seg, speed, c⟩
  let s := stepJoin g (s.modRct (fun r => { r with step := some g, stepLeft := s.stepSegs seg }))
  s.ctlSend 10 s.svc (stepBody 2 speed seg c 0)
/-- LIVE is 0 at the coordinator and in the last REPORT of every other node of the plan (R289). -/
def State.noneLive (s : State) : Bool :=
  !s.outputsActive && s.rct.reports.all (fun r => !r.live) && (match s.rdp.plan with
    | some p => decide (p.nodes ≤ s.rct.reports.length + 1)
    | none => false)
/-- A request of a segment's end decided by the coordinator (R287). A request for every segment names no end, and is not one
(DEDUCED, log entry 40). -/
def stepAsked (seg speed : Nat) (s : State) : State :=
  if seg = 0xFFFF then s
  else match s.stepDeny speed with
  | some r => s.ctlSend 10 s.svc (stepBody 4 speed seg 0 r)
  | none => stepGrant seg speed s
/-- A ring port asks for a speed (R307); with no plan in effect its segment has no number to ask for. The coordinator decides its
own request at once. -/
def stepRequest (p speed : Nat) (s : State) : State :=
  let seg := s.segOf p
  if seg = 0xFFFF then s
  else if s.isCoord then
    match s.stepDeny speed with
    | some _ => s.int Reg.RING_CTL_INT_STATUS_STEP
    | none => stepGrant seg speed s
  else (s.modRct (fun r => { r with stepReq := setNth r.stepReq p true })).ctlSend 10 s.svc (stepBody 1 speed seg 0 0)
/-- The lowest speed that carries a ring configuration (R242). -/
def RingConf.speed (c : RingConf) : Nat :=
  let p : Plan := ⟨0, c.rate, c.channels, c.d, 1, 0, 0, c.epoch, c.hold, 0, 0, []⟩
  ([0, 1, 2].find? (fun v => p.fits v)).getD 2
/-- A COMMIT carried out: the configuration is in the next plan (R265). -/
def commitIssue (c : RingConf) (s : State) : State :=
  let s := (s.modRct (fun r => { r with commit := none, commitSegs := [], conf := some c })).setResult 1
  if s.rct.building then s else buildPlan s
/-- The step of the coordinator is over, with the segments whose part in it has ended: it frees the next. A segment that failed is out of
service, so that a COMMIT waits for it no more (R265, R287, R288). -/
def stepClose (segs : List Nat) (s : State) : State :=
  (s.modRct (fun r => { r with step := none, stepLeft := [], commitSegs := r.commitSegs.filter (fun x => !segs.contains x) })).int
    Reg.RING_CTL_INT_STATUS_STEP
/-- A step ends 6 s after its CYCLE at the latest: every end has sent DONE or FAIL within 5 s (R288), and a second is left for the frame.
A segment whose ends keep their speed, in corbel mode, sends neither (DESIGN CHOICE, log entry 40). -/
def stepLapse (s : State) : State :=
  match s.rct.step with
  | some g => if s.isCoord && cycDue ((g.cycle + 72000) % 2 ^ 32) s.cycleNo then
      stepClose (if g.segment = 0xFFFF then s.rct.commitSegs else [g.segment]) s else s
  | none => s
/-- The next step of a COMMIT that waits for steps, and its plan after the last (R265). Segments step up one at a time under R287;
where R287 denies a step and R289 admits one, all step at once (DESIGN CHOICE, log entry 40). -/
def commitStep (s : State) : State :=
  match s.rct.commit, s.rct.commitSegs with
  | none, _ => s
  | some c, [] => commitIssue c s
  | some c, g :: _ =>
    if !(s.isCoord && s.ctlRuns) || s.rct.step.isSome then s
    else if (s.stepDeny c.speed).isNone then stepGrant g c.speed s
    else if s.noneLive then stepGrant 0xFFFF c.speed s else s
/-- The segments in service that lack a speed, as far as the coordinator knows them: those beyond its own ports are free (log
entry 72). With no plan in effect segments have no numbers, and none is stepped (DEDUCED, log entry 40). -/
def State.lacking (s : State) (v e : Nat) : List Nat :=
  match s.rdp.plan with
  | none => []
  | some p =>
    let down := s.downSegs
    (List.range p.nodes).filter (fun g => !down.contains g && decide ((match [0, 1].find? (fun q => s.segOf q = g) with
      | some q => s.speed q
      | none => Config.segSpeed e g % 3) < v))
/-- RING_CTL_CTRL.COMMIT (R265). -/
def actCommit (s : State) : Act :=
  let c := s.cfgConf
  if !s.isCoord then (s.setResult 3, stOk)
  else if (match s.rct.conf with
      | some o => o.epoch = c.epoch && (o.d ≠ c.d || o.rate ≠ c.rate)
      | none => false) then (s.setResult 2, stBusy)
  else if !c.ok then (s.setResult 4, stBusy)
  else
    let (e, s) := s.fresh
    match s.lacking c.speed e with
    | [] => (commitIssue c s, stOk)
    | l => (commitStep ((s.modRct (fun r => { r with commit := some c, commitSegs := l })).setResult 9), stOk)
/-- A segment's part in a step is over for the coordinator, DONE or failed (R287, R288): the first DONE or FAIL of each segment counts,
and that of the last ends the step. -/
def stepOver (seg : Nat) (done : Bool) (s : State) : State :=
  if !s.isCoord then s
  else
    let s := if done then s.modRct (fun r => { r with stepDoneAt := some (s.ks.count : Int) }) else s
    match s.rct.step with
    | none => s
    | some g =>
      let left := s.rct.stepLeft.filter (· ≠ seg)
      if g.segment ≠ 0xFFFF && g.segment ≠ seg then s
      else if left ≠ [] then s.modRct (fun r => { r with stepLeft := left })
      else commitStep (stepClose (if g.segment = 0xFFFF then s.rct.commitSegs else [seg]) s)
/-- A STEP frame of one operation. -/
def stepRx (op : Nat) (portB : Bool) (f : List Byte) (act : State → State) (s : State) : State :=
  if cBody f 0 1 ≠ op then s else ctlFlood 10 portB f id act s
/-- STEP REQ at the coordinator (R287). -/
def stepReqAct (f : List Byte) (s : State) : State := if s.isCoord then stepAsked (cBody f 2 2) (cBody f 1 1) s else s
/-- STEP GO at a node (R288). -/
def stepGoAct (f : List Byte) (s : State) : State := if s.isCoord then s else stepJoin ⟨cBody f 2 2, cBody f 1 1, cBody f 4 4⟩ s
/-- STEP DENY at the node that asked (R287). -/
def stepDenyAct (f : List Byte) (s : State) : State :=
  let mine := [0, 1].filter (fun p => nth s.rct.stepReq p false && s.segOf p = cBody f 2 2)
  if mine = [] then s
  else (s.modRct (fun r => { r with stepReq := [nth r.stepReq 0 false && !mine.contains 0, nth r.stepReq 1 false && !mine.contains 1] })).int
    Reg.RING_CTL_INT_STATUS_STEP
/-- STEP FAIL (R288). -/
def stepFailAct (f : List Byte) (s : State) : State := stepOver (cBody f 2 2) false (s.addDown (cBody f 2 2) 4)
/-- The retraining of this node's ports, once due (R288): the link drops, and the segment is out of service as a planned step. -/
def stepRetrain (s : State) : State :=
  match s.rct.stepLocal with
  | none => s
  | some g =>
    let ports := s.rct.stepPorts.filter (fun p => !s.is Reg.RING_SEG_PORTp_STEPPING p)
    if !cycDue g.cycle s.cycleNo || ports = [] then s
    else
      let s := ports.foldl (fun s p =>
        linkDown p ((s.setB Reg.RING_SEG_PORTp_STEPPING true p).setB Reg.RING_SEG_PORTp_IN_SERVICE false p)) s
      portsUpdate ((s.inc Reg.RING_CTL_CNT_STEP).int Reg.RING_CTL_INT_STATUS_SEGMENT)
/-- A port's part in a step is over. -/
def State.stepPortEnd (s : State) (p : Nat) : State :=
  let s := (s.setB Reg.RING_SEG_PORTp_STEPPING false p).int Reg.RING_CTL_INT_STATUS_STEP
  let left := s.rct.stepPorts.filter (· ≠ p)
  s.modRct (fun r => { r with stepPorts := left, stepLocal := if left = [] then none else r.stepLocal })
/-- Row STEP_LINK_UP (R288). -/
def stepLinkUp (p : Nat) (s : State) : State :=
  match s.rct.stepLocal with
  | none => s
  | some g =>
    if !(s.is Reg.RING_SEG_PORTp_STEPPING p && s.linkUp p && s.speed p = g.speed) then s
    else
      let s := (s.stepPortEnd p).setB Reg.RING_SEG_PORTp_IN_SERVICE true p
      let s := portsUpdate ((s.setB Reg.RING_SEG_PORTp_READY true p).int Reg.RING_CTL_INT_STATUS_SEGMENT)
      let seg := s.segOf p
      let s := if s.ctlRuns then s.ctlSend 10 s.svc (stepBody 3 g.speed seg 0 0) else s
      capacityCheck (stepOver seg true s)
/-- Row STEP_TIMEOUT (R288): the segment is lost and returns under R283. -/
def stepTimeout (p : Nat) (s : State) : State :=
  match s.rct.stepLocal with
  | none => s
  | some g =>
    if !s.is Reg.RING_SEG_PORTp_STEPPING p then s
    else
      let seg := s.segOf p
      let body := s.segBody 1 4 p seg
      let s := (s.stepPortEnd p).addDown seg 4
      let s := ((s.setB Reg.RING_SEG_PORTp_READY false p).raise 0x44 p).modRct (fun r => { r with probes := setNth r.probes p none })
      let s := if s.ctlRuns then (s.ctlSend 10 s.svc (stepBody 5 g.speed seg 0 0)).ctlSend 7 s.svc body else s
      let s := stepOver seg false s
      if s.cutOff then leaveTo 0 s else portsUpdate s

/-! ## Timeouts and the host's actions -/

/-- A CLAIM sent (R253). -/
def sendClaim (s : State) : State :=
  let ports := s.svc
  let s := s.modRct (fun r => { r with cfg := none })
  let s := s.ctlSend 3 ports (beBytes 8 s.tuple ++ beBytes 8 0)
  s.modRct (fun r => { r with claimSeq := r.seq, claimPorts := ports, claimBack := [] })
/-- The silence rules of R252 and R278 do not apply: in sleep, and for 1 s after a wake (R292, R294). -/
def State.hushed (s : State) : Bool := s.rct.quiet || s.get Reg.DOM_STATUS_SLEEP = 1 || s.get Reg.DOM_STATUS_SLEEP = 2
/-- Row LISTEN_TIMEOUT (R252, R244). -/
def listenTimeout (s : State) : State := if s.ctl = 1 && s.ctlRuns && !s.hushed && s.able then sendClaim (s.setCtl 2) else s
/-- Row CLAIM_REPEAT (R244, R253). -/
def claimRepeat (s : State) : State := if s.ctl = 2 && s.ctlRuns && !s.hushed && s.able then sendClaim s else s
/-- Row WAITING_TIMEOUT (R252). -/
def waitingTimeout (s : State) : State := if s.ctl = 3 && s.ctlRuns && !s.hushed then s.setCtl 1 else s
/-- Row FOLLOWER_TIMEOUT (R252). -/
def followerTimeout (s : State) : State := if s.ctl = 4 && s.ctlRuns && !s.hushed && !s.isStandby then leaveTo 1 s else s
/-- Row STANDBY_TAKEOVER (R278). -/
def standbyTakeover (s : State) : State := if s.ctl = 4 && s.ctlRuns && !s.hushed && s.isStandby then takeOver s else s
/-- Row BEACON_SEND: every twelfth ring cycle (R257). -/
def beaconSend (s : State) : State := if s.isCoord && s.ctlRuns && decide (s.rct.beaconAt + 12 ≤ s.cycleNo) then sendBeacon false s else s
/-- The body of this node's REPORT (R248, R260). -/
def State.reportBody (s : State) : List Byte :=
  let hop (h : Option (Nat × Nat)) : Nat := (h.map (·.1)).getD 0xFFFF
  let im := s.img.active
  let chans := s.rdp.sends.map (·.chan)
  let fl := b2n (s.is Reg.RING_CTL_STATUS_DUP) + 2 * b2n s.rct.left + 4 * b2n (s.is Reg.KS_STATUS_LOCK) + 8 * b2n s.outputsActive
  let body := beBytes 8 s.tuple ++ beBytes 2 (hop s.rct.eastHop) ++ beBytes 2 (hop s.rct.westHop) ++
    beBytes 1 ((im.map (·.rate)).getD 0xFF) ++ beBytes 1 fl ++ beBytes 2 ((im.map (·.dMin)).getD 0) ++ beBytes 8 ((im.map (·.epoch)).getD 0) ++
    beBytes 2 chans.length ++ beBytes 6 0 ++ chans.flatMap (beBytes 2)
  body ++ List.replicate (up16 body.length - body.length) 0#8
/-- A REPORT sent; RING_CTL_CFG is in use from it on (R245). -/
def sendReport (s : State) : State :=
  let s := s.modRct (fun r => { r with cfg := none })
  (s.ctlSend 5 s.svc s.reportBody).modRct (fun r => { r with reportDue := false, reported := s.outputsActive })
/-- Row REPORT_SEND (R260). -/
def reportSend (s : State) : State :=
  if s.ctl = 4 && s.ctlRuns && s.svc ≠ [] && (s.rct.reportDue || s.rct.reported ≠ s.outputsActive) then sendReport s else s
/-- Row PLAN_BUILD_TIMEOUT (R260). -/
def planBuildTimeout (s : State) : State := if s.isCoord && s.ctlRuns && s.rct.building then buildPlan s else s
/-- Row PLAN_RESEND (R262). -/
def planResend (s : State) : State :=
  if !(s.isCoord && s.ctlRuns) then s
  else match s.rct.waiting.getLast?, s.rct.sendsLeft, s.rdp.plan with
    | some p, n + 1, _ => (s.ctlSend 6 s.svc (planBody p)).modRct (fun r => { r with sendsLeft := n })
    | _, _, some p => s.ctlSend 6 s.svc (planBody p)
    | _, _, none => s
/-- Row HEAD_LAUNCH_EXPIRE: 20 ms are 240 ring cycles (R279). -/
def headLaunchExpire (s : State) : State :=
  if s.rdp.launchOn && decide (s.rct.beaconAt + 240 ≤ s.cycleNo) then { s with rdp := { s.rdp with launchOn := false } } else s
/-- Row SEGMENT_REROLL_TIMEOUT: 10 s are 120,000 ring cycles (R286); the coordinator re-rolls once for a segment. -/
def segmentRerollTimeout (s : State) : State :=
  if s.isCoord && s.rct.segDown.any (fun x => !x.rolled && decide (x.since + 120000 ≤ s.cycleNo)) then
    reroll (s.modRct (fun r => { r with segDown := r.segDown.map (fun x => { x with rolled := true }) }))
  else s
/-- The step after a wake (R294): the coordinator steps every segment to the speed that the plan needs, as soon as no output is active
and no step under way (R289); at 100BASE-TX, where network sleep left them, there is nothing to step. -/
def wakeStep (s : State) : State :=
  match s.rdp.plan with
  | none => s
  | some p =>
    if !(s.rct.wakeStep && s.isCoord && s.ctlRuns && s.rct.step.isNone && s.noneLive) then s
    else
      let s := s.modRct (fun r => { r with wakeStep := false })
      if p.conf.speed = 0 then s else stepGrant 0xFFFF p.conf.speed s
/-- Row SILENCE_RESUME (R294). -/
def silenceResume (s : State) : State :=
  if !s.rct.quiet then s else wakeStep (s.modRct (fun r => { r with quiet := false, wakeStep := s.isCoord }))
/-- After a wake, outputs with FLAGS.START start at the first cycle in which every port of the ring that this node has carries the plan
again, the step done, and LOCK reads 1 (R294). -/
def wakeCheck (s : State) : State :=
  if s.rct.wakeStart && s.is Reg.KS_STATUS_LOCK && s.rdp.plan.isSome && s.rct.stepPorts = [] && s.svc ≠ [] &&
      s.svc.all (fun p => s.carries p) then
    let s := s.modRct (fun r => { r with wakeStart := false })
    if s.outputsHeld then s else startOutputs s
  else s
/-- RING_CTL_CTRL.LEAVE (R281): LEAVING stays set in the REPORTs of a node that has left, until it takes no part any more. -/
def actRingLeave (s : State) : Act :=
  if s.isCoord && s.rct.standby = none then (s.setResult 10, stBusy)
  else
    let s := s.modRct (fun r => { r with left := decide (s.ctl ≠ 0) })
    ((sendReport (if s.isCoord then sendBeacon true s else s)).setResult 1, stOk)
/-- RING_CTL_CTRL.REROLL (R286). -/
def actReroll (s : State) : Act := if s.isCoord then (reroll s, stOk) else (s, stBusy)
/-- RING_CTL_CTRL.SLEEP (R290): the three copies leave in one step of the model. -/
def actRingSleep (s : State) : Act :=
  if !s.isCoord then (s, stBusy)
  else
    let mode := 1 + s.get Reg.RING_CTL_CTRL_SLEEP_MODE
    let c := (s.cycleNo + 256) % 2 ^ 32
    let body := beBytes 1 mode ++ beBytes 3 0 ++ beBytes 4 c ++ beBytes 8 0
    let s : State := { s with dom := { s.dom with sleepAt := some (mode, c) } }
    (s.forN 3 (fun s _ => s.ctlSend 11 s.svc body), stOk)
/-- A SLEEP frame (R291). -/
def sleepAct (f : List Byte) (s : State) : State :=
  let m := cBody f 0 1
  if m = 1 || m = 2 then { s with dom := { s.dom with sleepAt := some (m, cBody f 4 4) } } else s
/-- Row CONTROL_FRAME_BAD (R250): a frame that is in order is not its business. -/
def controlFrameBad (portB : Bool) (f : List Byte) (s : State) : State :=
  let p := b2n portB
  if !(s.linkUp p && beAt f 12 2 = 0x88B5 && ringType f ≠ 1 && frameGood f && ctlBad f) then s
  else (s.event.rxCount p f).inc Reg.RING_CTL_CNT_BAD

end Sys2Proof.Machine
end

