-- ==== Sys2Proof/Machine/Port.lean ====
section
/-! DEFINITION. The Ethernet ports: links, modes, speeds, pauses and load, the service bus, and the counter snapshot (R296
to R310, R319 to R331). -/
namespace Sys2Proof.Machine
open Sys2Proof

/-! ## Links and modes -/

/-- The speeds that a port advertises, as a mask of codes (R296, R298): of its mode; of a ring port in MODE 0 after its first
link-up, the speed it has, since only a step or network sleep changes it (R299); in a step, the target (R299); in network sleep,
100BASE-TX (R291); of the branch port that renegotiates, the new one (R307). -/
def State.offers (s : State) (p : Nat) : Nat :=
  let ring := decide (p < 2)
  let base := match s.get Reg.PORT_Pp_CFG_MODE p with
    | 0 => if ring then (if nth s.port.linked p false then 2 ^ s.speed p else 7) else (s.port.branchOnly.map (2 ^ ·)).getD 3
    | 1 => 4
    | 2 => 2
    | 3 => 1
    | _ => 4
  let stepping := ring && s.is Reg.RING_SEG_PORTp_STEPPING p
  if ring && (s.get Reg.DOM_STATUS_SLEEP = 1 || (stepping && s.ctl = 6)) then 1
  else match s.rct.stepLocal with
    | some g => if stepping then (if s.get Reg.PORT_Pp_CFG_MODE p = 0 then 2 ^ g.speed else base &&& 2 ^ g.speed) else base
    | none => base
/-- The speed at which a port links with a partner that advertises `advert`: the highest common one (R298); in corbel mode, which
has no negotiation, its own (R302). -/
def State.linkSpeed (s : State) (p advert : Nat) : Option Nat :=
  let m := if s.get Reg.PORT_Pp_CFG_MODE p = 4 then 4 else s.offers p &&& advert
  if !s.is Reg.PORT_Pp_CFG_EN p then none else [2, 1, 0].find? (fun v => bit m v)
/-- Row LINK_UP (R283, R298, R301). `advert` are the speeds that the link partner advertised. In network sleep both ends enter low-power
idle (R291); no row tells of the partner's at another time (DEDUCED, log entry 78). -/
def linkUpEv (p speed advert : Nat) (s : State) : State :=
  if s.linkUp p || s.linkSpeed p advert ≠ some speed then s
  else
    let chg := s.speed p ≠ speed && nth s.port.wasUp p false
    let s : State := { s with port := { s.port with
      advert := setNth s.port.advert p advert, linked := setNth s.port.linked p true, wasUp := setNth s.port.wasUp p true
      branchOnly := if p = 2 then none else s.port.branchOnly } }
    let s := ((s.setB Reg.PORT_Pp_LINK_LINK true p).set Reg.PORT_Pp_LINK_SPEED speed p).setB Reg.PORT_Pp_LINK_CORBEL
      (s.get Reg.PORT_Pp_CFG_MODE p = 4) p
    let s := (if chg then s.cnt p 51 else s).int Reg.PORT_INT_STATUS_LINK_CHG
    let s := if p < 2 && s.get Reg.DOM_STATUS_SLEEP = 1 && !s.is Reg.PORT_Pp_LINK_CORBEL p then
        ((s.setB Reg.PORT_Pp_LINK_LPI true p).cnt p 42).cnt p 24 else s
    if p < 2 then ringLinkUp p speed s else s
/-- A write to PORT_Pp_CFG (R298, R300): a mode that the port does not have leaves MODE as it is; a change of it renegotiates from
the start. -/
def portCfgWrite (p : Nat) (v : Word) (s : State) : Act :=
  let old := s.get Reg.PORT_Pp_CFG_MODE p
  let new := bitsOf v.toNat 3 1
  let bad := decide (4 < new) || (p = 2 && (new = 1 || new = 4))
  let chg := !bad && new ≠ old
  let s := s.setWord Reg.PORT_Pp_CFG (if bad then BitVec.ofNat 32 (putBits v.toNat 3 1 old) else v) p
  let s := if chg || !s.is Reg.PORT_Pp_CFG_EN p then linkDown p s else s
  let s : State := if chg then { s with port := { s.port with
      linked := setNth s.port.linked p false, branchOnly := if p = 2 then none else s.port.branchOnly } } else s
  (if chg then s.setB Reg.PORT_Pp_LINK_CORBEL (new = 4) p else s, if bad then stAccess else stOk)
/-- The branch port's low-power idle (R297): with EEE 1 and no AAF stream enabled it is entered once a tick has passed in which
nothing was sent, and a frame sent ends it (DESIGN CHOICE, log entry 73). -/
def branchLpi (s : State) : State :=
  let sent := (nth s.port.wire 2 (0, 0)).2
  let idle := s.linkUp 2 && s.is Reg.PORT_Pp_CFG_EEE 2 && !(List.range 16).any (fun i => s.is Reg.PORT_AAFs_CFG_EN i)
  let enter := idle && sent = s.port.branchSent && !s.is Reg.PORT_Pp_LINK_LPI 2
  let s : State := { s with port := { s.port with branchSent := sent } }
  if enter then (s.setB Reg.PORT_Pp_LINK_LPI true 2).cnt 2 42
  else if !idle && s.is Reg.PORT_Pp_LINK_LPI 2 then s.setB Reg.PORT_Pp_LINK_LPI false 2 else s
/-- gPTP messages of the lengths given received on a port: counted, and part of its load; what they say the row gives (R269, R304, R324;
PRESUMED, log entry 42). -/
def gptpIn (p : Nat) (lens : List Nat) (s : State) : State :=
  lens.foldl (fun s n => s.rxCount p (withFcs (beBytes 6 0x0180C200000E ++ List.replicate 6 0#8 ++ beBytes 2 0x88F7 ++ List.replicate n 0#8))) s
/-- Row GPTP_PDELAY: the Pdelay_Resp and the Pdelay_Resp_Follow_Up have come (R303). -/
def gptpPdelay (p ns : Nat) (s : State) : State :=
  if !s.linkUp p then s
  else
    let s := (gptpIn p [54, 54] s.event).set Reg.PORT_Pp_LINK_DELAY_NS (min 0xFFFE ns) p
    if p < 2 then showBound s else s
/-- Row PORT_LOAD_UPDATE (R304): wire bytes of the last ten updates, of 100 ms each, in per mille of the speed. -/
def portLoadUpdate (p : Nat) (s : State) : State :=
  let now := nth s.port.wire p (0, 0)
  let l := nth s.port.loads p []
  let old := if l.length < 10 then (0, 0) else l.getLast?.getD (0, 0)
  let bytes := max (now.1 - old.1) (now.2 - old.2)
  let load := (bytes * 8 * 1000 + speedBits (s.speed p) / 2) / speedBits (s.speed p)
  let s : State := { s with port := { s.port with loads := setNth s.port.loads p ((now :: l).take 10) } }
  s.set Reg.PORT_Pp_LINK_LOAD (if s.linkUp p then min 1000 load else 0) p
/-- Some AAF stream is enabled. -/
def State.aafOn (s : State) : Bool := (List.range 16).any (fun i => s.is Reg.PORT_AAFs_CFG_EN i)
/-- A port asks for a speed: a ring port of the coordinator, the branch port by renegotiating (R307, R308). -/
def speedAsk (p speed : Nat) (s : State) : State :=
  let s := s.int Reg.PORT_INT_STATUS_SPEED_REQ
  if p = 2 then linkDown 2 { s with port := { s.port with branchOnly := some speed } } else if s.ctlRuns then stepRequest p speed s else s
/-- A ring port's segment has no step asked for or in progress (R308). -/
def State.stepFree (s : State) (p : Nat) : Bool :=
  p = 2 || (s.inService p && !nth s.rct.stepReq p false && !s.rct.stepPorts.contains p)
/-- Row SPEED_LOWER_REQ: the load has stayed low for HOLD_S (R305). -/
def speedLower (p : Nat) (s : State) : State :=
  let cur := s.speed p
  let low := cur - 1
  let carries := p = 2 || (match s.rdp.plan with
    | some pl => pl.fits low
    | none => true)
  if s.linkUp p && s.is Reg.PORT_Pp_CFG_AUTO_LOW p && s.get Reg.PORT_Pp_CFG_MODE p = 0 && cur ≠ 0 && s.stepFree p && carries &&
      (p ≠ 2 || !s.aafOn) &&
      decide (s.get Reg.PORT_Pp_LINK_LOAD p * speedBits cur ≤ 10 * s.get Reg.PORT_Pp_SPEED_LOW_PCT p * speedBits low) then speedAsk p low s else s
/-- Row SPEED_RAISE_REQ: the load has stayed high for 1 s (R306). The next speed up is the next that both ends have (R307; DEDUCED, log
entry 78). -/
def speedRaise (p : Nat) (s : State) : State :=
  let cur := s.speed p
  match [1, 2].find? (fun v => decide (cur < v) && decide (v ≤ (if p = 2 then 1 else 2)) && bit (nth s.port.advert p 0) v) with
  | none => s
  | some v =>
    if s.linkUp p && s.get Reg.PORT_Pp_CFG_MODE p = 0 && s.stepFree p &&
        decide (10 * s.get Reg.PORT_Pp_SPEED_RAISE_PCT p ≤ s.get Reg.PORT_Pp_LINK_LOAD p) then speedAsk p v s
    else s

/-! ## Pauses (R309, R310) -/

/-- The pause of a port ends: what it held is sent. -/
def pauseEnd (p : Nat) (s : State) : State :=
  if s.is Reg.PORT_Pp_LINK_PAUSED p then (s.setB Reg.PORT_Pp_LINK_PAUSED false p).flushHeld p else s
/-- Row PAUSE_RX. -/
def pauseRx (p : Nat) (f : List Byte) (s : State) : State :=
  if !(s.linkUp p && isPause f) then s
  else
    let s := s.rxCount p f
    if !frameGood f || !s.is Reg.PORT_Pp_CFG_PAUSE_HONOUR p || nth s.port.deaf p false then s
    else if beAt f 16 2 = 0 then pauseEnd p s
    else s.setB Reg.PORT_Pp_LINK_PAUSED true p
/-- Row PAUSE_BREAK. -/
def pauseBreak (p : Nat) (s : State) : State :=
  if !s.is Reg.PORT_Pp_LINK_PAUSED p then s
  else
    let s : State := { s with port := { s.port with deaf := setNth s.port.deaf p true } }
    pauseEnd p (((s.cnt p 50).int Reg.PORT_INT_STATUS_PAUSE_BREAK).event.raise 0x50 p)
/-- Row PAUSE_RECOVER. -/
def pauseRecover (p : Nat) (s : State) : State := { s with port := { s.port with deaf := setNth s.port.deaf p false } }

/-! ## The service bus (R319 to R323) -/

/-- PLCA_OK and CSMA set. -/
def State.setPlca (s : State) (ok : Bool) : State :=
  let s := if s.is Reg.SBUS_STATUS_PLCA_OK ≠ ok then (s.setB Reg.SBUS_STATUS_PLCA_OK ok).int Reg.SBUS_INT_STATUS_PLCA_CHG else s
  s.setB Reg.SBUS_STATUS_CSMA (!ok)
/-- A write to SBUS_CFG: without PLCA, or powered down, PLCA is not OK (R319). -/
def sbusCfgWrite (v : Word) (s : State) : Act :=
  let s := s.setWord Reg.SBUS_CFG v
  (if s.is Reg.SBUS_CFG_PLCA && s.is Reg.SBUS_CFG_EN then s
    else ({ s with port := { s.port with plcaLost := false } } : State).setPlca false, stOk)
/-- Row PLCA_LOSS: counted and raised once per loss (R320). -/
def plcaLoss (s : State) : State :=
  if !(s.is Reg.SBUS_CFG_PLCA && s.is Reg.SBUS_CFG_EN && s.get Reg.SBUS_CFG_NODE_ID ≠ 0) || s.port.plcaLost then s
  else
    let s : State := { s with port := { s.port with plcaLost := true } }
    ((s.setPlca false).cnt 3 49).event.raise 0x52 0
/-- Row PLCA_BEACON: a beacon received, or sent by node 0 (R320, R324). -/
def plcaBeacon (s : State) : State :=
  if !(s.is Reg.SBUS_CFG_EN && s.domAt 46 = 0) then s
  else
    let s : State := { s with port := { s.port with plcaLost := false, sbusAt := some s.ks.count } }
    (if s.is Reg.SBUS_CFG_PLCA then s.setPlca true else s).cnt 3 48
/-- DRAM key of the slot of an index in a queue, if tenancy 0's allocations cover it (R321, R507). -/
def State.sbusSlot (s : State) (base : Fld) (x : Nat) : Option Nat :=
  let a := s.dmaKey (base.key 0 0 0) (s.get base / 2048 * 2048) + 2048 * (x % 32)
  if decide (0x40000000 ≤ s.get base) && decide (s.get base / 2048 * 2048 + 65536 ≤ 2 ^ 32) && s.dram0Covered 16 a (a + 2048) then some a else none
/-- Row SBUS_RX (R321 to R323); a frame of an odd number of nibbles, or with a coding error, is counted as such (R324). -/
def sbusRx (f : List Byte) (odd code : Bool) (s : State) : State :=
  if !(s.is Reg.SBUS_CFG_EN && s.domAt 46 = 0) then s
  else
    let s : State := { s with port := { s.port with sbusAt := some s.ks.count } }
    let s := s.rxCount 3 f
    let s := if odd && !fcsOk f then s.cnt 3 18 else s
    let s := if code then s.cnt 3 22 else s
    let d := beAt f 0 6
    let mine := d = s.portMac 3 || destKind f = 2 || (destKind f = 1 && s.is Reg.SBUS_CFG_MCAST)
    if !frameGood f || !mine then s
    else
      let h := s.get Reg.SBUS_RX_HEAD_INDEX
      let full := (h + 64 - s.get Reg.SBUS_RX_TAIL_INDEX) % 64 = 32
      match s.sbusSlot Reg.SBUS_RX_BASE h with
      | some a =>
        if full then s.cnt 3 23
        else
          let body := f.take (f.length - 4)
          let s := s.dramWrite a (leBytes 2 body.length ++ leBytes 2 0 ++ leBytes 8 s.ks.count ++ leBytes 4 0 ++ body)
          (s.set Reg.SBUS_RX_HEAD_INDEX ((h + 1) % 64)).int Reg.SBUS_INT_STATUS_RX
      | none => s.cnt 3 23
/-- A write to SBUS_TX_HEAD (R322). -/
def sbusTxHead (v : Word) (s : State) : Act :=
  let new := v.toNat % 64
  let h := s.get Reg.SBUS_TX_HEAD_INDEX
  let t := s.get Reg.SBUS_TX_TAIL_INDEX
  if (new + 64 - h) % 64 + (h + 64 - t) % 64 ≤ 32 then (s.set Reg.SBUS_TX_HEAD_INDEX new, stOk) else (s, stAccess)
/-- A write to SBUS_RX_TAIL (R322). -/
def sbusRxTail (v : Word) (s : State) : Act :=
  let new := v.toNat % 64
  let h := s.get Reg.SBUS_RX_HEAD_INDEX
  let t := s.get Reg.SBUS_RX_TAIL_INDEX
  if (new + 64 - t) % 64 ≤ (h + 64 - t) % 64 then (s.set Reg.SBUS_RX_TAIL_INDEX new, stOk) else (s, stAccess)
/-- Row SBUS_TX_DONE: the oldest filled slot ends (R321, R322), after a number of collisions, and deferred or not (R324). A
slot outside tenancy 0's memory ends with its index only. -/
def sbusTxDone (result col : Nat) (deferred : Bool) (s : State) : State :=
  let h := s.get Reg.SBUS_TX_HEAD_INDEX
  let t := s.get Reg.SBUS_TX_TAIL_INDEX
  if h = t || !(s.is Reg.SBUS_CFG_EN && s.domAt 46 = 0) then s
  else
    let next (s : State) : State := (s.set Reg.SBUS_TX_TAIL_INDEX ((t + 1) % 64)).int Reg.SBUS_INT_STATUS_TX_DONE
    match s.sbusSlot Reg.SBUS_TX_BASE t with
    | none => (next s).int Reg.SBUS_INT_STATUS_TX_ERR
    | some a =>
      let (s, _) := s.eccRead 2 a 2048
      let len := leVal (Mem.rdN s.mem.dram a 2)
      let good := decide (60 ≤ len) && decide (len ≤ 1518)
      if good && result = 3 then s
      else
        let r := if good then result else 3
        let s := if r ≠ 0 then s else
          let f := withFcs (Mem.rdN s.mem.dram (a + 16) len)
          (({ s with port := { s.port with sbusAt := some s.ks.count } } : State).emit 3 f).txCount 3 f
        let s := if r = 1 then s.cnt 3 46 else if r = 2 then s.cnt 3 45 else s
        let s := if r = 0 ∧ col = 1 then s.cnt 3 43 else if r = 0 ∧ 2 ≤ col ∧ col ≤ 15 then s.cnt 3 44 else s
        let s := if r ≠ 3 && deferred then s.cnt 3 47 else s
        let s := (s.dramWrite (a + 2) (leBytes 2 r)).dramWrite (a + 4) (leBytes 8 s.ks.count ++ leBytes 4 0)
        let s := next s
        if r = 0 then s else s.int Reg.SBUS_INT_STATUS_TX_ERR
/-- SBUS_STATUS.ACTIVE: carrier within the last 1 ms. -/
def State.sbusActive (s : State) : Bool :=
  match s.port.sbusAt with
  | some t => decide (s.ks.count * 1000 < (t + 1) * 1000 + rateHz s.rate)
  | none => false

/-! ## The counter snapshot (R327 to R331) -/

/-- A snapshot armed. -/
def State.snapArm (s : State) (tgt id : Nat) : State :=
  ({ s with port := { s.port with snapOn := true, snapTgt := tgt, snapId := id } } : State).set Reg.PORT_SNAP_STATUS_STATE 1
/-- PORT_STAT_CTRL.SEND and LOCAL (R328): a refused one leaves the pending one armed (R53). -/
def actSnap (send : Bool) (s : State) : Act :=
  let id := s.get Reg.PORT_SNAP_ID
  let tgt := s.get64 Reg.PORT_SNAP_TICK_LO Reg.PORT_SNAP_TICK_HI
  if id = 0 then (s, stAccess)
  else
    let s := s.setWord Reg.PORT_SNAP_LAST_ID (BitVec.ofNat 32 id)
    if tgt ≤ s.ks.count then
      ((s.set Reg.PORT_SNAP_STATUS_STATE 3).int Reg.PORT_INT_STATUS_SNAP_MISSED, stOk)
    else
      let s := s.snapArm tgt id
      (if send then s.ctlSend 13 s.svc (beBytes 8 tgt ++ beBytes 4 id ++ beBytes 4 0) else s, stOk)
/-- A SNAPSHOT frame (R329). -/
def snapAct (f : List Byte) (s : State) : State :=
  let tgt := cBody f 0 8
  let id := cBody f 8 4
  let pend := s.port.snapOn
  if pend && s.port.snapId = id && decide (s.ks.count < tgt) then s
  else
    let s := s.setWord Reg.PORT_SNAP_LAST_ID (BitVec.ofNat 32 id)
    if s.ks.count < tgt then
      let s := if pend then s.int Reg.PORT_INT_STATUS_SNAP_MISSED else s
      s.snapArm tgt id
    else ((s.set Reg.PORT_SNAP_STATUS_STATE 5).int Reg.PORT_INT_STATUS_SNAP_MISSED).raise 0x51 0
/-- The registers that a snapshot copies beside the port counters (R330). -/
def snapExtra : List Fld := [
  Reg.RING_CNT_LONE, Reg.RING_CNT_LOST, Reg.RING_CNT_LATE, Reg.RING_CNT_ABSENT, Reg.RING_CNT_FCS_E, Reg.RING_CNT_FCS_W,
  Reg.RING_CNT_REGEN_E, Reg.RING_CNT_REGEN_W, Reg.RING_CNT_SEND_MISS, Reg.RING_CNT_FOREIGN, Reg.RING_CNT_AGED,
  Reg.RING_CTL_CNT_ELECT, Reg.RING_CTL_CNT_TAKEOVER, Reg.RING_CTL_CNT_STEP, Reg.RING_CTL_CNT_PLAN_LATE, Reg.RING_CTL_CNT_BAD,
  Reg.KS_OVR_COUNT, Reg.ENG_STREAM_LATE, Reg.ENG_XFER_GROUT, Reg.ENG_ECC_CORR, Reg.ENG_NAN]
/-- The snapshot that is due copied into the bank (R330, R331); answers whether one fired. -/
def snapFire (s : State) : State × Bool :=
  if !s.port.snapOn || decide (s.ks.count < s.port.snapTgt) then (s, false)
  else
    let s := (List.range 4).foldl (fun s m => (List.range 64).foldl (fun s i =>
      s.setWord Reg.PORT_SNAPm_i (s.word Reg.PORT_CNTm_i m i) m i) s) s
    let s := (indexed snapExtra).foldl (fun s x => s.setWord Reg.PORT_SNAPX_j (s.word x.2) x.1) s
    let s := s.setWord Reg.PORT_SNAP_BANK_ID (BitVec.ofNat 32 s.port.snapId)
    let s := s.set64 Reg.PORT_SNAP_BANK_TICK_LO Reg.PORT_SNAP_BANK_TICK_HI s.port.snapTgt
    let s : State := { s with port := { s.port with snapOn := false } }
    ((s.set Reg.PORT_SNAP_STATUS_STATE 2).int Reg.PORT_INT_STATUS_SNAP_FIRED, true)
/-- The pending snapshot cancelled by a step of KS_COUNT (R46, R331); answers whether one was pending. -/
def snapCancel (s : State) : State × Bool :=
  if !s.port.snapOn then (s, false)
  else ((({ s with port := { s.port with snapOn := false } } : State).set Reg.PORT_SNAP_STATUS_STATE 4).int Reg.PORT_INT_STATUS_SNAP_MISSED, true)

end Sys2Proof.Machine
end

