-- ==== Sys2Proof/Machine/Avb.lean ====
section
/-! DEFINITION. AAF streams and IEEE 1722.1 on the branch port (R311 to R318). The octets of the frames are those of IEEE
1722-2016 and IEEE 1722.1-2021, which the spec names and does not repeat (log entry 20). -/
namespace Sys2Proof.Machine
open Sys2Proof

/-! ## AAF streams -/

/-- A stream. -/
def State.aaf (s : State) (i : Nat) : Aaf := nth s.port.aaf i Aaf.reset
/-- A stream changed. -/
def State.modAaf (s : State) (i : Nat) (f : Aaf → Aaf) : State := { s with port := { s.port with aaf := modNth s.port.aaf i f } }
/-- The most channels of a stream by format and rate (R313). -/
def aafMax (fmt rate : Nat) : Nat := if rate = 0 then (if fmt = 0 then 64 else 61) else (if fmt = 0 then 41 else 30)
/-- The highest endpoint channel FIRST + COUNT that the image in effect declares on stream i (R314); none declared is 0. -/
def State.aafNeed (s : State) (i : Nat) : Nat :=
  match s.partIm with
  | none => 0
  | some im => ((im.insts.filter (fun x => x.isEndpoint && x.port = (if i < 8 then 3 else 4) && x.unit = i % 8)).map
      (fun x => x.first + x.chans)).foldl max 0
/-- Whether a setting of stream i is accepted (R314): v is the CFG word, whose channels count among those of the enabled streams where
it enables the stream. -/
def State.aafOk (s : State) (i : Nat) (v : Word) : Bool :=
  let w := v.toNat
  let ch := bitsOf w 28 22
  let rate := bitsOf w 29 29
  let dir := i / 8
  let others := ((List.range 8).filter (fun k => dir * 8 + k ≠ i && s.is Reg.PORT_AAFs_CFG_EN (dir * 8 + k))).foldl
    (fun a k => a + s.get Reg.PORT_AAFs_CFG_CHANNELS (dir * 8 + k)) 0
  decide (1 ≤ ch) && decide (ch ≤ aafMax (bitsOf w 30 30) rate) && decide (s.aafNeed i ≤ ch) && rate = s.courseRate &&
    decide (others + (if bit w 31 then ch else 0) ≤ 64)
/-- A setting of stream i taken as it is, with what the stream then keeps. -/
def aafSet (i : Nat) (v : Word) (s : State) : State :=
  let was := s.is Reg.PORT_AAFs_CFG_EN i
  let s := s.setWord Reg.PORT_AAFs_CFG v i
  if !bit v.toNat 31 then s.modAaf i (fun a => { a with seen := false, staged := [] })
  else if was then s else s.modAaf i (fun _ => { Aaf.reset with peer := (s.aaf i).peer })
/-- A write to PORT_AAFs_CFG (R314): an enable that breaks the rule leaves EN at 0; an enabled stream keeps its setting. -/
def aafCfgWrite (i : Nat) (v : Word) (s : State) : Act :=
  let was := s.is Reg.PORT_AAFs_CFG_EN i
  if !bit v.toNat 31 || s.aafOk i v then (aafSet i v s, stOk)
  else if was then (s, stAccess)
  else (s.setWord Reg.PORT_AAFs_CFG (BitVec.ofNat 32 (putBits v.toNat 31 31 0)) i, stAccess)
/-- The setting of an enabled stream checked again after an activation: one that no longer fits is disabled (R314). -/
def aafActivate (s : State) : State :=
  s.forN 16 (fun s i => if s.is Reg.PORT_AAFs_CFG_EN i && !s.aafOk i (s.word Reg.PORT_AAFs_CFG i) then s.setB Reg.PORT_AAFs_CFG_EN false i else s)
/-- STREAM_ID of a stream. -/
def State.aafSid (s : State) (i : Nat) : Nat := s.get64 Reg.PORT_AAFs_SID_LO Reg.PORT_AAFs_SID_HI i
/-- A frame refused (R312). -/
def aafBad (i : Nat) (s : State) : State := (s.inc Reg.PORT_AAFs_STAT_BAD i).int Reg.PORT_INT_STATUS_AAF
/-- Whether an AAF frame body is one of those of R312 and fits its stream's setting. -/
def State.aafGood (s : State) (i : Nat) (f : List Byte) : Bool :=
  let o := 18
  let w := (s.word Reg.PORT_AAFs_CFG i).toNat
  let fmt := bitsOf w 30 30
  let rate := bitsOf w 29 29
  let ch := bitsOf w 28 22
  let bytes := if fmt = 0 then 3 else 4
  let depth := beAt f (o + 19) 1
  let len := beAt f (o + 20) 2
  beAt f 12 2 = 0x8100 && bitsOf (beAt f 14 2) 15 13 = bitsOf w 21 19 && bitsOf (beAt f 14 2) 11 0 = bitsOf w 11 0 &&
    beAt f o 1 = 2 && bitsOf (beAt f (o + 1) 1) 6 4 = 0 &&
    beAt f (o + 16) 1 = (if fmt = 0 then 3 else 2) && (depth = 24 || (fmt = 1 && depth = 32)) &&
    bitsOf (beAt f (o + 17) 1) 7 4 = (if rate = 0 then 5 else 7) && beAt f (o + 17) 2 % 1024 = ch &&
    len = aafTicks rate * ch * bytes && decide (len ≤ 1476) && decide (o + 24 + len + 4 ≤ f.length)
/-- The samples of the last tick of a frame by channel, as 32-bit numbers. -/
def State.aafLast (s : State) (i : Nat) (f : List Byte) : List (Nat × Int) :=
  let w := (s.word Reg.PORT_AAFs_CFG i).toNat
  let ch := bitsOf w 28 22
  let bytes := if bitsOf w 30 30 = 0 then 3 else 4
  (List.range ch).map (fun c =>
    let x := beAt f (42 + ((aafTicks (bitsOf w 29 29) - 1) * ch + c) * bytes) bytes
    (c, sext 32 (if bytes = 3 then x * 256 else x)))
/-- Row AAF_RX: a frame on the branch port (R312, R316). A stream frame (sv 1) that names an enabled stream and is outside R312,
untagged or of another subtype among them, is counted in its BAD. -/
def aafRx (port : Nat) (f : List Byte) (s : State) : State :=
  if port ≠ 2 || !s.linkUp 2 || etherType f ≠ 0x22F0 || !decide (18 < f.length) then s
  else
    let s := s.rxCount 2 f
    let o := if beAt f 12 2 = 0x8100 then 18 else 14
    if !frameGood f || !bit (beAt f (o + 1) 1) 7 then s
    else match (List.range 8).find? (fun i => s.is Reg.PORT_AAFs_CFG_EN i && s.aafSid i = beAt f (o + 4) 8) with
      | none => s
      | some i =>
        if !s.aafGood i f then aafBad i s
        else
          let q := beAt f 20 1
          let a := s.aaf i
          let s := if a.seen && q ≠ (a.seq + 1) % 256 then (s.inc Reg.PORT_AAFs_STAT_GAPS i).int Reg.PORT_INT_STATUS_AAF else s
          let s := s.modAaf i (fun a => { a with seq := q, seen := true, lastTick := some s.ks.count, staged := [(s.ks.count, s.aafLast i f)] })
          s.srcStream i
/-- The value that the gather places for channel c of incoming stream i: the sample most recently received (R137, R197). -/
def State.aafValue (s : State) (i c : Nat) : F32 :=
  match (s.aaf i).staged with
  | (_, l) :: _ => (match l.find? (fun p => p.1 = c) with
    | some p => sample32ToF32 p.2
    | none => 0#32)
  | [] => 0#32
/-- The samples that the tail of a tick stages for the outgoing streams: stream, channel and 24-bit sample (R315). -/
def aafStage (l : List (Nat × Nat × Int)) (s : State) : State :=
  s.forN 8 (fun s k => if s.is Reg.PORT_AAFs_CFG_EN (8 + k) then
    let mine := (l.filter (fun x => x.1 = k)).map (·.2)
    s.modAaf (8 + k) (fun a => { a with staged := (a.staged ++ [(s.ks.count, mine)]).drop (a.staged.length - 23) })
    else s)
/-- One frame of outgoing stream i, formed of the ticks of the interval that ends (R315). -/
def aafSend (i : Nat) (s : State) : State :=
  let w := (s.word Reg.PORT_AAFs_CFG i).toNat
  let fmt := bitsOf w 30 30
  let ch := bitsOf w 28 22
  let n := aafTicks (bitsOf w 29 29)
  let a := s.aaf i
  let ticks := a.staged.drop (a.staged.length - n)
  if !s.is Reg.PORT_AAFs_CFG_EN i || decide (ticks.length < n) || !s.linkUp 2 then s
  else
    let t0 := (ticks.map (·.1)).headD 0
    let ts := (s.timeNs t0 + 1000 * s.get Reg.PORT_AAFs_TRANSIT_TRANSIT i) % 2 ^ 32
    let one (t : Nat × List (Nat × Int)) : List Byte := (List.range ch).flatMap (fun c =>
      let x := match t.2.find? (fun p => p.1 = c) with
        | some p => toTwos 24 p.2
        | none => Config.aafPad (t.1 * 64 + c) % 2 ^ 24
      if fmt = 0 then beBytes 3 x else beBytes 4 (x * 256))
    let data := ticks.flatMap one
    let dmac := s.get Reg.PORT_AAFs_DMAC_LO i + 2 ^ 32 * s.get Reg.PORT_AAFs_DMAC_HI_DMAC i
    let seq := if a.seen then (a.seq + 1) % 256 else a.seq
    let f := beBytes 6 dmac ++ beBytes 6 (s.portMac 2) ++ beBytes 2 0x8100 ++ beBytes 2 (bitsOf w 21 19 * 8192 + bitsOf w 11 0) ++
      beBytes 2 0x22F0 ++ beBytes 1 2 ++ beBytes 1 0x81 ++ beBytes 1 seq ++ beBytes 1 0 ++ beBytes 8 (s.aafSid i) ++ beBytes 4 ts ++
      beBytes 1 (if fmt = 0 then 3 else 2) ++ beBytes 2 ((if bitsOf w 29 29 = 0 then 5 else 7) * 4096 + ch) ++ beBytes 1 24 ++
      beBytes 2 data.length ++ beBytes 2 0 ++ data
    let s := s.modAaf i (fun a => { a with seq := seq, seen := true, lastTick := some s.ks.count, staged := [] })
    s.sendOn 2 (withFcs f)
/-- Row AAF_TX: the 125 µs interval ends (R315). -/
def aafTx (s : State) : State := s.forN 8 (fun s k => aafSend (8 + k) s)
/-- PORT_AAFs_STAT.ACTIVE: a valid frame in the last 1 ms. -/
def State.aafActive (s : State) (i : Nat) : Bool :=
  match (s.aaf i).lastTick with
  | some t => decide (s.ks.count * 1000 < (t + 1) * 1000 + rateHz s.rate)
  | none => false

/-! ## IEEE 1722.1 -/

/-- entity_id: the base MAC address with 0xFF 0xFE after byte 2 (R317). -/
def State.entityId (s : State) : Nat := s.baseMac / 2 ^ 24 * 2 ^ 40 + 0xFFFE * 2 ^ 24 + s.baseMac % 2 ^ 24
/-- The module is an entity on the branch port (R317). -/
def State.avdecc (s : State) : Bool := s.is Reg.PORT_BR_CFG_AVDECC && s.linkUp 2
/-- A 1722.1 frame to `dst`: subtype, message type, status and data. -/
def State.avtpCtl (s : State) (dst sub typ status : Nat) (data : List Byte) : State :=
  s.sendOn 2 (withFcs (beBytes 6 dst ++ beBytes 6 (s.portMac 2) ++ beBytes 2 0x22F0 ++ beBytes 1 sub ++ beBytes 1 typ ++
    beBytes 2 (status * 2048 + (data.length - 8)) ++ data))
/-- The streams of a direction that the active image declares. -/
def State.streams (s : State) (out : Bool) : List Nat := (List.range 8).filter (fun k => s.aafNeed (if out then 8 + k else k) ≠ 0)
/-- An ADP message: 0 ENTITY_AVAILABLE, 1 ENTITY_DEPARTING (R317). -/
def adpSend (typ : Nat) (s : State) : State :=
  let k := s.free
  let fld (j n : Nat) : List Byte := beBytes n (Config.avdecc j k)
  let s := (s.fresh).2
  let model := 0x81280000 + s.get Reg.IDENT_FW_MAJOR
  let gm := s.rct.gm.getD s.baseMac
  let gmId := gm / 2 ^ 24 * 2 ^ 40 + 0xFFFE * 2 ^ 24 + gm % 2 ^ 24
  s.avtpCtl 0x91E0F0010000 0xFA typ 31 (beBytes 8 s.entityId ++ beBytes 8 model ++ fld 1 4 ++ beBytes 2 (s.streams true).length ++ fld 2 2 ++
    beBytes 2 (s.streams false).length ++ fld 3 2 ++ beBytes 4 0 ++ beBytes 4 s.port.availIndex ++ beBytes 8 gmId ++ beBytes 4 0 ++ fld 4 4 ++
    beBytes 8 0 ++ beBytes 4 0)
/-- Row ADP_AVAILABLE: available_index counts each advertisement. -/
def adpAvailable (s : State) : State :=
  if !s.avdecc then s
  else
    let s := adpSend 0 s
    { s with port := { s.port with availIndex := (s.port.availIndex + 1) % 2 ^ 32 } }
/-- Row ADP_DISCOVER: an ENTITY_DISCOVER for this entity or for all (R317). -/
def adpDiscover (port : Nat) (f : List Byte) (s : State) : State :=
  if port ≠ 2 || !s.linkUp 2 then s
  else
    let s := s.rxCount 2 f
    if frameGood f && s.avdecc && etherType f = 0x22F0 && beAt f 14 2 % 4096 = 0xA02 && (beAt f 18 8 = 0 || beAt f 18 8 = s.entityId) then
      adpAvailable s else s
/-- A write to PORT_BR_CFG: an entity that ends announces it (R317). -/
def brCfgWrite (v : Word) (s : State) : Act :=
  let s := if s.avdecc && !bit v.toNat 0 then adpSend 1 s else s
  (s.setWord Reg.PORT_BR_CFG v, stOk)
/-- CFG fields of an AAF stream format of IEEE 1722 (R312); none for a format outside it. -/
def formatCfg (v : Nat) : Option (Nat × Nat × Nat) :=
  let fmt := v / 2 ^ 40 % 256
  let depth := v / 2 ^ 32 % 256
  let nsr := v / 2 ^ 48 % 16
  let ch := v / 2 ^ 22 % 1024
  if v / 2 ^ 56 % 128 = 2 && (nsr = 5 || nsr = 7) && ((fmt = 2 && (depth = 24 || depth = 32)) || (fmt = 3 && depth = 24)) &&
      v / 2 ^ 12 % 1024 = (if nsr = 5 then 6 else 12) then
    some (if fmt = 3 then 0 else 1, if nsr = 5 then 0 else 1, ch) else none
/-- The stream format of a stream's CFG. -/
def State.cfgFormat (s : State) (i : Nat) : Nat :=
  let w := (s.word Reg.PORT_AAFs_CFG i).toNat
  2 * 2 ^ 56 + (if bitsOf w 29 29 = 0 then 5 else 7) * 2 ^ 48 + (if bitsOf w 30 30 = 0 then 3 else 2) * 2 ^ 40 + 24 * 2 ^ 32 +
    bitsOf w 28 22 * 2 ^ 22 + aafTicks (bitsOf w 29 29) * 2 ^ 12
/-- The CFG word of a stream with another VLAN identifier and enable. -/
def State.cfgWith (s : State) (i vid : Nat) (on : Bool) : Word :=
  BitVec.ofNat 32 (putBits (putBits (s.word Reg.PORT_AAFs_CFG i).toNat 11 0 (vid % 4096)) 31 31 (b2n on))
/-- STREAM_ID, destination and VLAN of a stream set (R318). -/
def State.setStream (s : State) (i sid dmac vid : Nat) : State :=
  let s := (s.set64 Reg.PORT_AAFs_SID_LO Reg.PORT_AAFs_SID_HI sid i).set Reg.PORT_AAFs_DMAC_LO (dmac % 2 ^ 32) i
  (s.set Reg.PORT_AAFs_DMAC_HI_DMAC (dmac / 2 ^ 32) i).set Reg.PORT_AAFs_CFG_VID vid i
/-- The stream that a descriptor of type 5 (STREAM_INPUT) or 6 (STREAM_OUTPUT) names, if the image declares it. -/
def State.descStream (s : State) (typ idx : Nat) : Option Nat :=
  if typ = 5 && (s.streams false).contains idx then some idx
  else if typ = 6 && (s.streams true).contains idx then some (8 + idx) else none
/-- Whether a descriptor exists (R317, R318). -/
def State.hasDesc (s : State) (typ idx : Nat) : Bool :=
  if typ = 5 || typ = 6 then (s.descStream typ idx).isSome
  else decide (idx = 0) && [0x0000, 0x0001, 0x0002, 0x0009, 0x000A, 0x000C, 0x000D, 0x0014, 0x0017, 0x0024].contains typ
/-- The known part of a descriptor's body: of the ENTITY, its identity, the streams declared and available_index (R317); the rest
is free. -/
def State.descBody (s : State) (typ idx : Nat) (e : Nat) : List Byte :=
  if typ ≠ 0 then Config.descriptor typ idx
  else beBytes 8 s.entityId ++ beBytes 8 (0x81280000 + s.get Reg.IDENT_FW_MAJOR) ++ beBytes 4 (Config.avdecc 1 e) ++
    beBytes 2 (s.streams true).length ++ beBytes 2 (Config.avdecc 2 e) ++ beBytes 2 (s.streams false).length ++
    beBytes 2 (Config.avdecc 3 e) ++ beBytes 4 0 ++ beBytes 4 s.port.availIndex ++ Config.descriptor typ idx
/-- A SET_STREAM_INFO of stream i with the fields that its flags name; none where the setting breaks R314 or the range of
TRANSIT. The latency field of an outgoing stream sets TRANSIT (PRESUMED, log entry 20). -/
def setInfo (i : Nat) (d : List Byte) (s : State) : Option State :=
  let fl := beAt d 4 4
  let sid := if bit fl 30 then beAt d 16 8 else s.aafSid i
  let dmac := if bit fl 28 then beAt d 28 6 else s.get Reg.PORT_AAFs_DMAC_LO i + 2 ^ 32 * s.get Reg.PORT_AAFs_DMAC_HI_DMAC i
  let vid := if bit fl 25 then beAt d 44 2 else s.get Reg.PORT_AAFs_CFG_VID i
  let us := beAt d 24 4 / 1000
  let lat := bit fl 29 && decide (8 ≤ i)
  if !s.aafOk i (s.cfgWith i vid (s.is Reg.PORT_AAFs_CFG_EN i)) || (lat && (decide (us < 250) || decide (10000 < us))) then none
  else
    let s := s.setStream i sid dmac (vid % 4096)
    some (if lat then s.set Reg.PORT_AAFs_TRANSIT_TRANSIT us i else s)
/-- The body of an AEM answer after its command word: status and data (R317, R318). `who` is the controller, `mac` its address. -/
def aemAnswer (cmd who mac : Nat) (d : List Byte) (s : State) : State × Nat × List Byte :=
  let typ := beAt d 0 2
  let idx := beAt d 2 2
  let k := s.free
  let free (n : Nat) : List Byte := beBytes n (Config.avdecc 4 k)
  let s := (s.fresh).2
  let wr := s.is Reg.PORT_BR_CFG_AVDECC_WR
  let barred := (match s.port.acquired with
      | some a => decide (a ≠ who)
      | none => false) || (match s.port.locked with
      | some a => decide (a ≠ who)
      | none => false)
  let set (code : Nat) : Nat := if !wr then 11 else if barred then (if s.port.acquired.isSome then 4 else 3) else code
  match cmd with
  | 0x00 =>
    let rel := bit (beAt d 0 4) 31
    let held : Bool := match s.port.acquired with
      | some a => decide (a ≠ who)
      | none => false
    if held then (s, 4, beBytes 4 (beAt d 0 4) ++ beBytes 8 (s.port.acquired.getD 0) ++ beBytes 4 0)
    else ({ s with port := { s.port with acquired := if rel then none else some who } }, 0,
      beBytes 4 (beAt d 0 4) ++ beBytes 8 (if rel then 0 else who) ++ beBytes 4 0)
  | 0x01 =>
    let rel := bit (beAt d 0 4) 0
    let held : Bool := match s.port.locked with
      | some a => decide (a ≠ who)
      | none => false
    if held then (s, 3, beBytes 4 (beAt d 0 4) ++ beBytes 8 (s.port.locked.getD 0) ++ beBytes 4 0)
    else ({ s with port := { s.port with locked := if rel then none else some who } }, 0,
      beBytes 4 (beAt d 0 4) ++ beBytes 8 (if rel then 0 else who) ++ beBytes 4 0)
  | 0x02 => (s, 0, [])
  | 0x04 =>
    let t := beAt d 4 2
    let i := beAt d 6 2
    if s.hasDesc t i then (s, 0, slice d 0 4 ++ beBytes 2 t ++ beBytes 2 i ++ s.descBody t i k) else (s, 2, slice d 0 8)
  | 0x08 =>
    match s.descStream typ idx with
    | none => (s, 2, slice d 0 12)
    | some i =>
      let old := slice d 0 4 ++ beBytes 8 (s.cfgFormat i)
      if set 0 ≠ 0 then (s, set 0, old)
      else if s.is Reg.PORT_AAFs_CFG_EN i then (s, 12, old)
      else match formatCfg (beAt d 4 8) with
      | none => (s, 7, old)
      | some (fm, rt, ch) =>
        let v := BitVec.ofNat 32 (putBits (putBits (putBits (s.word Reg.PORT_AAFs_CFG i).toNat 30 30 fm) 29 29 rt) 28 22 ch)
        if s.aafOk i v then (s.setWord Reg.PORT_AAFs_CFG v i, 0, slice d 0 12) else (s, 7, old)
  | 0x09 =>
    match s.descStream typ idx with
    | none => (s, 2, slice d 0 4 ++ beBytes 8 0)
    | some i => (s, 0, slice d 0 4 ++ beBytes 8 (s.cfgFormat i))
  | 0x0E =>
    match s.descStream typ idx with
    | none => (s, 2, d)
    | some i =>
      if set 0 ≠ 0 then (s, set 0, d)
      else match setInfo i d s with
        | some t => (t, 0, d)
        | none => (s, 7, d)
  | 0x0F =>
    match s.descStream typ idx with
    | none => (s, 2, d)
    | some i =>
      let dmac := s.get Reg.PORT_AAFs_DMAC_LO i + 2 ^ 32 * s.get Reg.PORT_AAFs_DMAC_HI_DMAC i
      (s, 0, slice d 0 4 ++ free 4 ++ beBytes 8 (s.cfgFormat i) ++ beBytes 8 (s.aafSid i) ++ free 4 ++ beBytes 6 dmac ++ free 10 ++
        beBytes 2 (s.get Reg.PORT_AAFs_CFG_VID i) ++ free 2)
  | 0x24 => ({ s with port := { s.port with notify := s.port.notify.filter (fun x => x.1 ≠ who) ++ [(who, mac, 0)] } }, 0, [])
  | 0x25 => ({ s with port := { s.port with notify := s.port.notify.filter (fun x => x.1 ≠ who) } }, 0, [])
  | 0x27 =>
    let gm := s.rct.gm.getD s.baseMac
    (s, if typ = 9 && idx = 0 then 0 else 2, slice d 0 4 ++ beBytes 8 (gm / 2 ^ 24 * 2 ^ 40 + 0xFFFE * 2 ^ 24 + gm % 2 ^ 24) ++
      beBytes 4 (s.get Reg.PORT_Pp_LINK_DELAY_NS 2) ++ beBytes 1 0 ++ free 3)
  | 0x29 => (s, if s.hasDesc typ idx then 0 else 2, slice d 0 4 ++ free 132)
  | _ => (s, 1, d)
/-- An unsolicited notification of a command that changed a setting, to every registered controller but the one that sent it
(R317; the layout is that of IEEE 1722.1, log entry 20). -/
def notifyAll (who cmd : Nat) (data : List Byte) (s : State) : State :=
  let s := s.port.notify.foldl (fun s x => if x.1 = who then s else
    s.avtpCtl x.2.1 0xFB 1 0 (beBytes 8 s.entityId ++ beBytes 8 x.1 ++ beBytes 2 x.2.2 ++ beBytes 2 (32768 + cmd) ++ data)) s
  { s with port := { s.port with notify := s.port.notify.map (fun x => if x.1 = who then x else (x.1, x.2.1, (x.2.2 + 1) % 65536)) } }
/-- Row AECP_COMMAND (R317, R318): an AEM command to this entity is answered to its sender. -/
def aecpCommand (port : Nat) (f : List Byte) (s : State) : State :=
  if port ≠ 2 || !s.linkUp 2 then s
  else
    let s := s.rxCount 2 f
    if !(frameGood f && s.avdecc && etherType f = 0x22F0 && beAt f 14 1 = 0xFB && beAt f 15 1 % 2 = 0 && beAt f 18 8 = s.entityId) then s
    else
      let who := beAt f 26 8
      let cmd := beAt f 36 2 % 32768
      let d := (f.drop 38).take (f.length - 42)
      let typ := beAt f 15 1
      let r := if typ = 0 then aemAnswer cmd who (beAt f 6 6) d s else (s, 1, d)
      let t := r.1.avtpCtl (beAt f 6 6) 0xFB (typ + 1) r.2.1 (slice f 18 20 ++ r.2.2)
      if typ = 0 && r.2.1 = 0 && [0x00, 0x01, 0x08, 0x0E].contains cmd then notifyAll who cmd r.2.2 t else t
/-- Row ACMP_COMMAND (R317, R318): the connection commands of the streams that the image declares. ACMP has one status for what is
not implemented and what is not supported (31). A command that changes a setting is barred to a controller while another has
acquired or locked the entity (16). -/
def acmpCommand (port : Nat) (f : List Byte) (s : State) : State :=
  if port ≠ 2 || !s.linkUp 2 then s
  else
    let s := s.rxCount 2 f
    let typ := beAt f 15 1 % 16
    let rx := typ = 6 || typ = 8 || typ = 10
    let tx := typ = 0 || typ = 2 || typ = 4
    let who := beAt f 26 8
    let mine := if rx then beAt f 42 8 = s.entityId else beAt f 34 8 = s.entityId
    if !(frameGood f && s.avdecc && etherType f = 0x22F0 && beAt f 14 1 = 0xFC && typ % 2 = 0 && mine) then s
    else if !(rx || tx) then s.avtpCtl 0x91E0F0010000 0xFC (typ + 1) 31 (slice f 18 52)
    else
      let uid := if rx then beAt f 52 2 else beAt f 50 2
      let answer (s : State) (st : Nat) (i : Nat) : State :=
        let dmac := s.get Reg.PORT_AAFs_DMAC_LO i + 2 ^ 32 * s.get Reg.PORT_AAFs_DMAC_HI_DMAC i
        s.avtpCtl 0x91E0F0010000 0xFC (typ + 1) st (beBytes 8 (s.aafSid i) ++ slice f 26 28 ++ beBytes 6 dmac ++
          beBytes 2 (b2n (s.is Reg.PORT_AAFs_CFG_EN i)) ++ slice f 62 4 ++ beBytes 2 (s.get Reg.PORT_AAFs_CFG_VID i) ++ beBytes 2 0)
      match s.descStream (if rx then 5 else 6) uid with
      | none => s.avtpCtl 0x91E0F0010000 0xFC (typ + 1) (if rx then 1 else 2) (slice f 18 52)
      | some i =>
        let barred := s.port.acquired.any (· ≠ who) || s.port.locked.any (· ≠ who)
        if typ = 4 || typ = 10 then answer s 0 i
        else if !s.is Reg.PORT_BR_CFG_AVDECC_WR then answer s 31 i
        else if barred then answer s 16 i
        else
          let on := typ = 0 || typ = 6
          let vid := if typ = 6 then beAt f 66 2 else s.get Reg.PORT_AAFs_CFG_VID i
          let v := s.cfgWith i vid on
          if on && !s.aafOk i v then answer s 7 i
          else
            let s := if typ = 6 then
                (s.setStream i (beAt f 18 8) (beAt f 54 6) (vid % 4096)).modAaf i (fun a => { a with peer := some (beAt f 34 8) })
              else if typ = 8 then s.modAaf i (fun a => { a with peer := none }) else s
            answer (aafCfgWrite i v s).1 0 i

end Sys2Proof.Machine
end

