-- ==== Sys2Proof/Machine/Override.lean ====
section
/-! DEFINITION. The life-safety override: inputs and discrepancy, what it fades and starts, and OVR_STAT (R33, R207 to
R212, R391, R514). -/
namespace Sys2Proof.Machine
open Sys2Proof

/-- An input is active at the level that MIX_OVR_CFG names (R207). -/
def State.ovrA (s : State) : Bool := s.ovr.pinA == s.is Reg.MIX_OVR_CFG_POL_A
/-- OVR_B is active. -/
def State.ovrB (s : State) : Bool := s.ovr.pinB == s.is Reg.MIX_OVR_CFG_POL_B
/-- The OVERRIDE course of the active image. -/
def State.ovrCourse (s : State) : Option OvrCfg :=
  match s.img.active with
  | some im => im.ovr
  | none => none
/-- DISC in ticks (R207); none without a course, where the row OVR_DISC_EXPIRE asserts that the time has passed (log entry
23). -/
def State.discTicks (s : State) : Option Nat := s.ovrCourse.map (fun o => o.discMs * rateHz s.rate / 1000)
/-- The override structure changed. -/
def State.modOvr (s : State) (f : OvrState → OvrState) : State := { s with ovr := f s.ovr }
/-- EFFECTIVE set or cleared. -/
def State.setEffective (s : State) (on : Bool) : State :=
  ((s.setB Reg.MIX_OVR_STATUS_EFFECTIVE on).int Reg.MIX_INT_STATUS_OVR_CHG).log 3 (b2n on) []
/-- The stamps of the override moved into another numbering of the ticks. -/
def OvrState.shift (o : OvrState) (mv : Nat → Nat) : OvrState :=
  { o with t1 := mv o.t1, discAt := o.discAt.map mv, effAt := o.effAt.map mv, endAt := o.endAt.map mv }
/-- The override becomes effective: a diagnostic run ends (R397), and an announcement begins at frame 0 (R210). While the
tick is stopped the 32 ticks of the fade pass before it runs again. -/
def ovrBegin (s : State) : State :=
  let s := s.modOvr (fun o => { o with effAt := none, endAt := none, pos := [], fade := if s.ks.running then o.fade else 32 })
  if s.is Reg.MIX_OVR_STATUS_EFFECTIVE then s
  else diagAbort (match s.ovrCourse with
    | some o => o.outMask
    | none => 0) (s.setEffective true)
/-- Every message player of the active image stopped, to wait for its own start condition: what it has seen of MODE and MESSAGE stays
(R206, R211). -/
def playersStop (s : State) : State :=
  match s.img.active with
  | none => s
  | some im =>
    let player (id : Nat) : Bool := s.stage ≠ 4 && im.insts.any (fun x => x.id = id && x.kind = 0x12)
    { s with eng := { s.eng with insts := s.eng.insts.map (fun i => if player i.id then { i with ns := i.ns.take 2 ++ [0, 0, 0] } else i) } }
/-- The override ends: the outputs it started return to HELD, and message players fall silent (R211). -/
def ovrEnd (s : State) : State :=
  let m := s.ovr.started
  let s := s.modOvr (fun o => { o with endAt := none, effAt := none, started := 0, pos := [], fade := if s.ks.running then o.fade else 0 })
  if s.is Reg.MIX_OVR_STATUS_EFFECTIVE then muteOutputs m (playersStop (s.setEffective false)) else s
/-- STATE of the override. -/
def State.ovrSt (s : State) : Nat := s.get Reg.MIX_OVR_STATUS_STATE
/-- OVR_DISCREPANCY begins (R207, R208). -/
def discRaise (s : State) : State :=
  let s := s.modOvr (fun o => { o with discAt := none })
  if s.is Reg.MIX_OVR_STATUS_DISC then s else (s.setB Reg.MIX_OVR_STATUS_DISC true).event.raiseActive 0x66 0
/-- A change of the accepted inputs moves the override's state (R207). Both inputs changing in one tick count as agreement, so
that out of PENDING they make the override ACTIVE even where they change places, and in ACTIVE DISC is counted afresh from there
(DEDUCED, log entry 60). While the tick does not run, what is due from the next tick is due at once (R209). -/
def ovrMove (s : State) : State :=
  let a := s.ovrA
  let b := s.ovrB
  let both := s.is Reg.MIX_OVR_STATUS_A ≠ a && s.is Reg.MIX_OVR_STATUS_B ≠ b
  let k := s.ks.count
  let disc := s.discTicks.map (k + ·)
  let s := (s.setB Reg.MIX_OVR_STATUS_A a).setB Reg.MIX_OVR_STATUS_B b
  let active (s : State) : State :=
    let s := (s.set Reg.MIX_OVR_STATUS_STATE 2).modOvr (fun o => { o with discAt := if a && b then none else disc })
    if s.ks.running then s.modOvr (fun o => { o with effAt := some (k + 1), endAt := none }) else ovrBegin s
  let s := if !a && !b && s.is Reg.MIX_OVR_STATUS_DISC then (s.setB Reg.MIX_OVR_STATUS_DISC false).endActive 0x66 0 else s
  match s.ovrSt with
  | 0 =>
    if a && b then active s
    else if a || b then (s.set Reg.MIX_OVR_STATUS_STATE 1).modOvr (fun o => { o with t1 := k, discAt := disc }) else s
  | 1 =>
    if (a && b) || both then active s
    else if a || b then s
    else ((s.set Reg.MIX_OVR_STATUS_STATE 0).inc Reg.MIX_OVR_STATUS_GLITCHES).modOvr (fun o => { o with discAt := none })
  | _ =>
    if a && b then s.modOvr (fun o => { o with discAt := none })
    else if a || b then s.modOvr (fun o => { o with discAt := if o.discAt.isSome && !both then o.discAt else disc })
    else
      let s := (s.set Reg.MIX_OVR_STATUS_STATE 0).modOvr (fun o => { o with discAt := none })
      if s.ks.running then s.modOvr (fun o => { o with effAt := none, endAt := some (k + 1) }) else ovrEnd s
/-- Row OVR_INPUT_ACCEPT: levels of the two pins that have been stable for 32 ticks (R207). -/
def ovrAccept (a b : Bool) (s : State) : State :=
  if s.ovr.pinA = a ∧ s.ovr.pinB = b then s else ovrMove (s.modOvr (fun o => { o with pinA := a, pinB := b }))
/-- Row OVR_DISC_EXPIRE: DISC ticks have passed with the inputs disagreeing (R207). While the tick runs the model counts them
itself; while it is stopped, or without a course that gives DISC, the row asserts that they have passed. -/
def ovrDiscExpire (s : State) : State :=
  let due : Bool := match s.ovr.discAt with
    | some t => !s.ks.running || decide (t ≤ s.ks.count)
    | none => true
  if s.ovrA = s.ovrB || !due then s
  else if s.ovrSt = 1 then discRaise (ovrBegin (s.set Reg.MIX_OVR_STATUS_STATE 2))
  else if s.ovrSt = 2 then discRaise s else s
/-- What the footing domain counted while the tick was stopped is carried into the count at which it runs again, `gone` ticks after the
wake (R209). DISC of a change that woke the module is counted from the wake. One that came between the wake and the first tick did so at
a moment that the commands do not give: a free part of those ticks, short of DISC, which OVR_DISC_EXPIRE would have ended, has passed of
it (free value, log entry 60). -/
def ovrCarry (old gone : Nat) (s : State) : State :=
  let d := s.discTicks.getD 0
  if s.ovr.discAt = some (old + d) && d ≠ 0 then
    let (k, s) := s.fresh
    let e := if s.ovr.woke then gone else Config.asyncCycle k % max 1 (min gone d)
    s.modOvr (fun o => { o with discAt := some (s.ks.count + d - e), woke := false })
  else s.modOvr (fun o => { o with woke := false })
/-- A write to MIX_OVR_CFG: the accepted levels are judged by the new polarity. -/
def ovrCfgWrite (v : Word) (s : State) : Act := (ovrMove (s.setWord Reg.MIX_OVR_CFG v), stOk)

/-! ## What it starts and fades (R210, R211) -/

/-- Outputs of OUT_MASK that are HELD and that R33 lets the override take. -/
def State.ovrTake (s : State) : Nat :=
  let m := s.ovrOuts
  let bar := s.barMask
  maskOf ((List.range 12).filter (fun n => bit m n && !bit bar n && !s.flt.capstone &&
    (if n < 8 then s.ch n = 1 else s.anaSt (n - 8) = 1))) 12
/-- One tick of the override at the head: what is due begins or ends, the fade of 32 ticks moves, and every HELD output
that it may take is started (R207, R210, R211, R514). -/
def ovrHead (s : State) : State :=
  let k := s.ks.count
  let due (t : Option Nat) : Bool := match t with
    | some t => decide (t ≤ k)
    | none => false
  let s := if due s.ovr.discAt then ovrDiscExpire s else s
  let s := if due s.ovr.effAt then ovrBegin s else s
  let s := if due s.ovr.endAt then ovrEnd s else s
  let on := s.is Reg.MIX_OVR_STATUS_EFFECTIVE && s.ovrCourse.isSome
  let s := s.modOvr (fun o => { o with fade := if on then min 32 (o.fade + 1) else o.fade - 1 })
  let m := s.ovrTake
  if m = 0 then s
  else ((s.askStart (m % 256)).anaStart (m / 256)).modOvr (fun o => { o with started := o.started ||| m })
/-- The factor of the fade of R210. -/
def State.ovrFactor (s : State) : Rat := ((32 - s.ovr.fade : Nat) : Rat) / 32
/-- The branch input channels of an image in stream order: instance and channel (R210). -/
def Image.branchIns (im : Image) : List (Nat × Nat) :=
  let eps := im.insts.filter (fun i => i.kind = 0x40 && i.port = 3)
  ((List.range 8).flatMap (fun u => (List.range 64).flatMap (fun c =>
    (eps.filter (fun i => i.unit = u && decide (i.first ≤ c) && decide (c < i.first + i.chans))).map (fun i => (i.id, c - i.first)))))
/-- The input-endpoint channel that is the override's source (R210). -/
def Image.ovrSource (im : Image) : Option (Nat × Nat) :=
  match im.ovr with
  | some o =>
    if o.source = 1 then
      (im.insts.find? (fun i => i.kind = 0x40 && i.port = 1 && decide (i.first ≤ o.srcIndex) && decide (o.srcIndex < i.first + i.chans))).map
        (fun i => (i.id, o.srcIndex - i.first))
    else if o.source = 2 then im.branchIns[o.srcIndex]?
    else none
  | none => none
/-- The factor of an input-endpoint channel (R210). -/
def State.ovrIn (s : State) (id ch : Nat) : Rat :=
  if s.ovr.fade = 0 || s.imgHas (fun im => im.ovrSource = some (id, ch)) then 1 else s.ovrFactor
/-- OUT_MASK bit of a channel of an output endpoint. -/
def Inst.outBit (x : Inst) (ch : Nat) : Option Nat :=
  if x.port = 0x0A then some (x.first + ch) else if x.port = 0x09 then some (8 + x.first + ch) else none
/-- The factor of an output-endpoint channel: those of OUT_MASK are not faded (R210, R434, R450). -/
def State.ovrOut (s : State) (x : Inst) (ch : Nat) : Rat :=
  if s.ovr.fade = 0 then 1
  else match s.ovrCourse, x.outBit ch with
    | some o, some b => if bit o.outMask b then 1 else s.ovrFactor
    | _, _ => s.ovrFactor

/-! ## OVR_STAT (R212) -/

/-- Whether a net leads from a port of an instance, or from any port of a message player, to an output of OUT_MASK. -/
def Image.pathTo (im : Image) (start : Net → Bool) (n : Nat) : Bool :=
  let first := (im.nets.filter start).map (·.dst)
  let ends (t : Net) : Bool := match im.inst t.dst with
    | some i => i.kind = 0x41 && i.outBit t.dstPort = some n
    | none => false
  let r := im.reach im.insts.length first.eraseDups
  im.nets.any (fun t => (start t || r.contains t.src) && ends t)
/-- A message of the store is VALID. -/
def State.msgValid (s : State) (n : Nat) : Bool := s.mix.msgs.any (fun m => m.number = n && m.state = 3)
/-- Whether the port of the override's source carries traffic (R212): for a ring lane, a good audio frame arrived in this
ring cycle or the one before; for a branch channel, its stream is ACTIVE. -/
def State.ovrTraffic (s : State) (im : Image) (o : OvrCfg) : Bool :=
  if o.source = 1 then
    s.rdp.plan.isSome && [0, 1].any (fun d => (nth s.rdp.good d []).any (fun c => decide (s.cycleNo ≤ c + 1)))
  else match im.ovrSource with
    | some (id, _) => (match im.inst id with
      | some i => s.aafActive i.unit
      | none => false)
    | none => false
/-- The playable outputs, as OUT_MASK (R212). -/
def State.playable (s : State) : Nat :=
  match s.img.active with
  | none => 0
  | some im => match im.ovr with
    | none => 0
    | some o =>
      let start (t : Net) : Bool := if o.source = 0 then (match im.inst t.src with
          | some i => i.kind = 0x12
          | none => false) else im.ovrSource = some (t.src, t.srcPort)
      let awake := s.get Reg.DOM_STATUS_SLEEP = 0
      let src := if o.source = 0 then s.msgValid o.message
        else awake && s.ovrTraffic im o
      if !src || s.flt.capstone then 0
      else maskOf ((List.range 12).filter (fun n => bit o.outMask n && !bit s.barMask n && im.pathTo start n)) 12
/-- Row OVR_STAT_UPDATE: PLAYABLE, CAN_PLAY and the pin (R212). -/
def ovrStat (s : State) : State :=
  let m := s.playable
  let can := m ≠ 0
  let chg := s.is Reg.MIX_OVR_STATUS_CAN_PLAY ≠ can
  let s := ((s.set Reg.MIX_OVR_STATUS_PLAYABLE m).setB Reg.MIX_OVR_STATUS_CAN_PLAY can).modOvr (fun o => { o with stat := can })
  if chg then s.int Reg.MIX_INT_STATUS_OVR_CHG else s

end Sys2Proof.Machine
end

