-- ==== Sys2Proof/Machine/Sap.lean ====
section
/-! DEFINITION. The serial audio ports, their capture and playback buffers, and rate measurement (R426 to R442). -/
namespace Sys2Proof.Machine
open Sys2Proof

/-- A serial audio port. -/
def State.sp (s : State) (n : Nat) : SapPort := nth s.sap n SapPort.reset
/-- A serial audio port changed. -/
def State.modSap (s : State) (n : Nat) (f : SapPort → SapPort) : State := { s with sap := modNth s.sap n f }
/-- Bits of a width code (SLOT_BITS and DATA_BITS). -/
def widthBits (c : Nat) : Nat := if c = 0 then 16 else if c = 1 then 24 else 32
/-- Slots per frame in effect: I²S has 2 (R427). -/
def State.sapSlots (s : State) (n : Nat) : Nat := if s.is Reg.SAPn_CFG_FORMAT n then s.get Reg.SAPn_CFG_SLOTS n else 2
/-- The limits of R428 at a frame rate in 0.01 Hz. -/
def State.sapFits (s : State) (n rate : Nat) : Bool :=
  let k := s.sapSlots n
  let cap := if rate ≤ 5400000 then 32 else if rate ≤ 10800000 then 16 else if rate ≤ 21600000 then 8 else 0
  decide (k ≤ cap) && decide (rate * k * widthBits (s.get Reg.SAPn_CFG_SLOT_BITS n) ≤ 4915200000)
/-- The settings that EN checks (R426, R427, R433). -/
def State.sapCfgOk (s : State) (n : Nat) : Bool :=
  let sb := s.get Reg.SAPn_CFG_SLOT_BITS n
  let db := s.get Reg.SAPn_CFG_DATA_BITS n
  let k := s.sapSlots n
  s.get Reg.SAPn_CFG_FS_WIDTH n ≠ 3 && sb ≠ 3 && decide (db ≤ sb) && decide (2 ≤ k) && decide (k ≤ 32) &&
    (!s.is Reg.SAPn_CFG_LEADER n || s.sapFits n (100 * rateHz s.courseRate))
/-- A port's interrupt bit: 0 rate change, 1 lock change, 2 capture mark, 3 overrun, 4 playback mark, 5 underrun. -/
def State.sapInt (s : State) (n k : Nat) : State := s.int Reg.SAP_INT_STATUS (6 * n + k)
/-- A gain or loss of lock of a port (R430, R436, R198). -/
def State.sapLock (s : State) (n : Nat) (on : Bool) : State :=
  if s.is Reg.SAPn_STAT_LOCK n = on then s
  else
    let s := (s.setB Reg.SAPn_STAT_LOCK on n).sapInt n 1
    let r := s.get Reg.SAPn_RATE_RATE n
    let s := s.set Reg.SAPn_STAT_CLASS (if on then rateClass r else 0) n
    let s := (s.set Reg.SAPn_RATE_REF_RATE r n).sapInt n 0
    if s.is Reg.SAPn_CFG_LEADER n then s else s.srcLock 0x06 n on
/-- Loss of lock of a port: counted and raised (R431). -/
def sapLockLoss (n : Nat) (s : State) : State :=
  if !s.is Reg.SAPn_STAT_LOCK n then s
  else (((s.sapLock n false).inc Reg.SAPn_ERR_LOSS n).modSap n (fun p => { p with rx := [], good := 0 })).event.raise 0x64 n
/-- Row SAP_LOCK: 16 good frames in a row on an enabled follower (R430). -/
def sapLockOn (n : Nat) (s : State) : State :=
  if s.is Reg.SAPn_CFG_EN n && s.is Reg.SAPn_STAT_RUN n && !s.is Reg.SAPn_CFG_LEADER n && !s.is Reg.SAPn_STAT_RATE_BAD n && s.domAt 53 = 0 &&
    decide (16 ≤ (s.sp n).good) then s.sapLock n true else s
/-- A port started with its settings checked, or refused (R433). A leader's frames run at once, a follower's from the first
one received. -/
def sapStart (n : Nat) (s : State) : Act :=
  if !s.sapCfgOk n then ((s.setB Reg.SAPn_CFG_EN false n).setB Reg.SAPn_STAT_CFG_BAD true n, stAccess)
  else
    let s := (s.setB Reg.SAPn_CFG_EN true n).setB Reg.SAPn_STAT_CFG_BAD false n
    if s.is Reg.SAPn_CFG_LEADER n then
      ((((s.setB Reg.SAPn_STAT_RUN true n).setB Reg.SAPn_STAT_RATE_BAD false n).set Reg.SAPn_RATE_RATE (100 * rateHz s.rate) n).sapLock n true, stOk)
    else (s, stOk)
/-- A write to SAPn_CFG (R433): with EN at 1 nothing but EN may change. -/
def sapCfgWrite (n : Nat) (v : Word) (s : State) : Act :=
  let old := s.word Reg.SAPn_CFG n
  if s.is Reg.SAPn_CFG_EN n then
    if v.toNat % 2 ^ 31 ≠ old.toNat % 2 ^ 31 then (s, stBusy) else (s.setWord Reg.SAPn_CFG v n, stOk)
  else
    let s := s.setWord Reg.SAPn_CFG (BitVec.ofNat 32 (v.toNat % 2 ^ 31)) n
    if bit v.toNat 31 then sapStart n s else (s, stOk)
/-- The line format in effect: FS_POL, DELAY, FS_WIDTH and BCLK_EDGE; I²S has its own (R427). -/
def State.sapLine (s : State) (n : Nat) : Nat × Nat × Nat × Nat :=
  if s.is Reg.SAPn_CFG_FORMAT n then
    (s.get Reg.SAPn_CFG_FS_POL n, s.get Reg.SAPn_CFG_DELAY n, s.get Reg.SAPn_CFG_FS_WIDTH n, s.get Reg.SAPn_CFG_BCLK_EDGE n)
  else (1, 1, 2, 0)
/-- Bit clocks of a frame (R428). -/
def State.sapClocks (s : State) (n : Nat) : Nat := s.sapSlots n * widthBits (s.get Reg.SAPn_CFG_SLOT_BITS n)
/-- The level of FSYNC in bit clock i after the edge that starts a frame: one bit clock, one slot or half a frame wide, starting
high with FS_POL 0 and low with FS_POL 1 (R427). -/
def State.sapFsync (s : State) (n i : Nat) : Bool :=
  let (pol, _, width, _) := s.sapLine n
  let w := if width = 0 then 1 else if width = 1 then widthBits (s.get Reg.SAPn_CFG_SLOT_BITS n) else s.sapClocks n / 2
  decide (i % s.sapClocks n < w) != decide (pol = 1)
/-- The slot and the bit of it, counted from the most significant, that bit clock i after the frame's edge carries: the first
bit of slot 0 follows the edge by DELAY (R427). -/
def State.sapPlace (s : State) (n i : Nat) : Nat × Nat :=
  let w := widthBits (s.get Reg.SAPn_CFG_SLOT_BITS n)
  let j := (i + s.sapClocks n - (s.sapLine n).2.1) % s.sapClocks n
  (j / w, j % w)
/-- The bit on DOUT in bit clock i of the frame on the wire: the slot's word left-justified, most significant bit first, 0 after
it; none while DOUT is at high impedance (R426, R427, R432). -/
def State.sapDout (s : State) (n i : Nat) : Option Bool :=
  let (k, b) := s.sapPlace n i
  let d := widthBits (s.get Reg.SAPn_CFG_DATA_BITS n)
  match nth (s.sp n).sent k none with
  | none => none
  | some w => some (decide (b < d) && bit w (d - 1 - b))
/-- The 24-bit sample of a received word (R428, R437). -/
def wordSample (db w : Nat) : Nat := if db = 0 then w % 2 ^ 16 * 256 else if db = 1 then w % 2 ^ 24 else w / 256 % 2 ^ 24
/-- The word sent for a 24-bit sample (R138, R428). -/
def sampleWord (db : Nat) (x : Int) : Nat :=
  let t := toTwos 24 x
  if db = 0 then t / 256 else if db = 1 then t else t * 256
/-- The value that the gather places for a received slot: the last complete frame's (R197, R430). -/
def State.sapValue (s : State) (n slot : Nat) : F32 :=
  let db := s.get Reg.SAPn_CFG_DATA_BITS n
  let w := nth (s.sp n).rx slot 0
  if db = 2 then sample32ToF32 (sext 32 w) else sampleToF32 (sext 24 (wordSample db w))

/-! ## Capture and playback (R437 to R442) -/

/-- Bytes of a sample in a buffer. -/
def packW (pack : Bool) : Nat := if pack then 4 else 3
/-- Whether settings of a DMA may be enabled: mask, base, frames and packing (R440). -/
def State.dmaFits (s : State) (n : Nat) (base : Fld) (m a f : Nat) (pack : Bool) : Bool :=
  let lo := s.dmaKey (base.key n 0 0) a
  let bytes := (bitsSet m 32).length * packW pack * f
  m ≠ 0 && a % 64 = 0 && decide (2 ≤ f) && decide (f ≤ 1048575) && decide (0x40000000 ≤ a) && decide (a + bytes ≤ 2 ^ 32) &&
    s.dram0Covered (s.ten.allocs.length + 1) lo (lo + bytes)
/-- The same of the settings that the registers hold. -/
def State.dmaOk (s : State) (n : Nat) (mask base frames : Fld) (pack : Bool) : Bool :=
  s.dmaFits n base (s.get mask n) (s.get base n) (s.get frames n) pack
/-- A write to SAPn_CAP_CFG or SAPn_PB_CFG (R438 to R440). -/
def dmaCfgWrite (pb : Bool) (n : Nat) (v : Word) (s : State) : Act :=
  let cfg := if pb then Reg.SAPn_PB_CFG else Reg.SAPn_CAP_CFG
  let st := if pb then Reg.SAPn_PB_STAT else Reg.SAPn_CAP_STAT
  let old := s.word cfg n
  if bit old.toNat 31 then
    if v.toNat % 2 ^ 31 ≠ old.toNat % 2 ^ 31 then (s, stBusy) else (s.setWord cfg v n, stOk)
  else
    let s := s.setWord cfg (BitVec.ofNat 32 (v.toNat % 2 ^ 31)) n
    if !bit v.toNat 31 then (s, stOk)
    else
      let ok := if pb then s.dmaOk n Reg.SAPn_PB_MASK Reg.SAPn_PB_BASE Reg.SAPn_PB_FRAMES_FRAMES (bit v.toNat 30)
        else s.dmaOk n Reg.SAPn_CAP_MASK Reg.SAPn_CAP_BASE Reg.SAPn_CAP_FRAMES_FRAMES (bit v.toNat 30)
      if !ok then (s, stAccess)
      else
        let s := (s.setWord cfg v n).setWord st 0#32 n
        let s := if pb then (s.setWord Reg.SAPn_PB_WR 0#32 n).setWord Reg.SAPn_PB_RD 0#32 n
          else (s.setWord Reg.SAPn_CAP_WR 0#32 n).setWord Reg.SAPn_CAP_RD 0#32 n
        (if pb then (s.modSap n (fun p => { p with pb := List.replicate 32 (0, 40) })).setB Reg.SAPn_PB_STAT_CONFLICT
            (s.get Reg.SAPn_PB_MASK n &&& s.get Reg.SAPn_TXOWN n ≠ 0) n
          else s, stOk)
/-- A write to SAPn_CAP_RD (R438). -/
def capRdWrite (n : Nat) (v : Word) (s : State) : Act :=
  let rd := s.word Reg.SAPn_CAP_RD n
  let wr := s.word Reg.SAPn_CAP_WR n
  if (v - rd).toNat ≤ (wr - rd).toNat then (s.setWord Reg.SAPn_CAP_RD v n, stOk) else (s, stAccess)
/-- A write to SAPn_PB_WR (R438). -/
def pbWrWrite (n : Nat) (v : Word) (s : State) : Act :=
  let rd := s.word Reg.SAPn_PB_RD n
  let wr := s.word Reg.SAPn_PB_WR n
  if (v - wr).toNat + (wr - rd).toNat ≤ s.get Reg.SAPn_PB_FRAMES_FRAMES n then (s.setWord Reg.SAPn_PB_WR v n, stOk) else (s, stAccess)
/-- The tick in which the frame that begins at this boundary starts on the wire: a leader's boundary after the commit point is the
edge of the next tick (R429, R442). -/
def State.sapBegins (s : State) (n : Nat) : Nat := s.ks.count + b2n (s.is Reg.SAPn_CFG_LEADER n && s.ks.committed)
/-- The marks of R442 after a count has advanced to `c`: the tick in which a captured frame was completed, or in which a playback
frame starts on the wire. -/
def State.sapMark (s : State) (pb : Bool) (n c : Nat) : State :=
  let k := if pb then s.get Reg.SAPn_PB_CFG_IRQ_FRAMES n else s.get Reg.SAPn_CAP_CFG_IRQ_FRAMES n
  if k = 0 || c % k ≠ 0 then s
  else
    let w : Word := BitVec.ofNat 32 c
    if pb then ((s.setWord Reg.SAPn_PB_MARK w n).set64 Reg.SAPn_PB_MARK_TICK_LO Reg.SAPn_PB_MARK_TICK_HI (s.sapBegins n) n).sapInt n 4
    else ((s.setWord Reg.SAPn_CAP_MARK w n).set64 Reg.SAPn_CAP_MARK_TICK_LO Reg.SAPn_CAP_MARK_TICK_HI s.ks.count n).sapInt n 2
/-- One frame captured (R437 to R439). -/
def capFrame (n : Nat) (s : State) : State :=
  if !s.is Reg.SAPn_CAP_CFG_EN n then s
  else
    let wr := s.word Reg.SAPn_CAP_WR n
    let rd := s.word Reg.SAPn_CAP_RD n
    let frames := s.get Reg.SAPn_CAP_FRAMES_FRAMES n
    if (wr - rd).toNat = frames then (s.inc Reg.SAPn_CAP_STAT_OVERRUN n).sapInt n 3
    else
      let pack := s.is Reg.SAPn_CAP_CFG_PACK n
      let slots := bitsSet (s.get Reg.SAPn_CAP_MASK n) 32
      let a := s.dmaKey (Reg.SAPn_CAP_BASE.key n 0 0) (s.get Reg.SAPn_CAP_BASE n) + slots.length * packW pack * (wr.toNat % frames)
      let db := s.get Reg.SAPn_CFG_DATA_BITS n
      let bytes := slots.flatMap (fun k =>
        let x := wordSample db (nth (s.sp n).rx k 0)
        if pack then leBytes 4 (x * 256) else leBytes 3 x)
      let s := (s.dramWrite a bytes).setWord Reg.SAPn_CAP_WR (wr + 1#32) n
      s.sapMark false n (wr + 1#32).toNat
/-- One playback frame taken, or grout for each of its slots (R438, R439). -/
def pbFrame (n : Nat) (s : State) : State :=
  if !s.is Reg.SAPn_PB_CFG_EN n then s
  else
    let wr := s.word Reg.SAPn_PB_WR n
    let rd := s.word Reg.SAPn_PB_RD n
    let slots := bitsSet (s.get Reg.SAPn_PB_MASK n) 32
    let s := s.setB Reg.SAPn_PB_STAT_CONFLICT (s.get Reg.SAPn_PB_MASK n &&& s.get Reg.SAPn_TXOWN n ≠ 0) n
    if wr = rd then
      ((s.inc Reg.SAPn_PB_STAT_UNDERRUN n).sapInt n 5).modSap n (fun p => { p with
        pb := (indexed p.pb).map (fun (x : Nat × (Int × Nat)) => if slots.contains x.1 then (x.2.1, min 40 (x.2.2 + 1)) else x.2) })
    else
      let pack := s.is Reg.SAPn_PB_CFG_PACK n
      let frames := s.get Reg.SAPn_PB_FRAMES_FRAMES n
      let w := packW pack
      let a := s.dmaKey (Reg.SAPn_PB_BASE.key n 0 0) (s.get Reg.SAPn_PB_BASE n) + slots.length * w * (rd.toNat % frames)
      let (s, ok) := s.eccRead 2 a (slots.length * w)
      let bytes := Mem.rdN s.mem.dram a (slots.length * w)
      let val (j : Nat) : Int := if !ok then 0 else if pack then sext 24 (leAt bytes (4 * j + 1) 3) else sext 24 (leAt bytes (3 * j) 3)
      let s := s.modSap n (fun p => { p with
        pb := (indexed slots).foldl (fun (l : List (Int × Nat)) x => setNth l x.2 (val x.1, 0)) p.pb })
      let s := s.setWord Reg.SAPn_PB_RD (rd + 1#32) n
      s.sapMark true n (rd + 1#32).toNat
/-- The words of the frame sent: endpoints' slots, playback slots under the override's fade, and unowned slots (R428, R431,
R432, R434, R441). -/
def State.sapSend (s : State) (n : Nat) : List (Option Nat) :=
  let db := s.get Reg.SAPn_CFG_DATA_BITS n
  let p := s.sp n
  let tri := s.is Reg.SAPn_CFG_TRISTATE n
  let own := s.get Reg.SAPn_TXOWN n
  let mask := if s.is Reg.SAPn_PB_CFG_EN n then s.get Reg.SAPn_PB_MASK n else 0
  (List.range (s.sapSlots n)).map (fun k =>
    if !s.is Reg.SAPn_STAT_LOCK n then (if tri then none else some 0)
    else if bit own k then some (sampleWord db (nth p.tx k 0))
    else if bit mask k then
      let x := nth p.pb k (0, 40)
      some (sampleWord db (ratTrunc ((groutInt x.1 x.2 : Rat) * (((32 - s.ovr.fade : Nat) : Rat) / 32))))
    else if tri then none else some 0)
/-- Row SAP_FRAME: the boundary of two frames of a running port. The frame that ends brings the words received on DIN and
whether its bit clocks were counted right; the frame that begins carries on DOUT what is staged, a playback frame among it (R429 to
R432, R438; DEDUCED, log entry 75). A second wrong count in a row ends a follower's lock (R430). -/
def sapFrame (n : Nat) (rx : List Nat) (clocks : Bool) (s : State) : State :=
  if !s.is Reg.SAPn_STAT_RUN n && !s.is Reg.SAPn_CFG_EN n then s
  else
    let s := s.setB Reg.SAPn_STAT_RUN true n
    let leader := s.is Reg.SAPn_CFG_LEADER n
    let good := leader || clocks
    let s := if good then s else s.inc Reg.SAPn_ERR_FRAME n
    let s := s.modSap n (fun p => { p with bad := if good then 0 else p.bad + 1, good := if good then min 16 (p.good + 1) else 0 })
    let s := if 2 ≤ (s.sp n).bad then sapLockLoss n s else s
    let s := if s.is Reg.SAPn_STAT_LOCK n && good then
        let db := widthBits (s.get Reg.SAPn_CFG_DATA_BITS n)
        let s := s.modSap n (fun p => { p with rx := (rx.take (s.sapSlots n)).map (· % 2 ^ db) })
        let s := if leader then s else s.srcSample 0x06 n
        pbFrame n (capFrame n s)
      else s
    let s := s.modSap n (fun p => { p with sent := s.sapSend n })
    if s.is Reg.SAPn_CFG_EN n then s
    else (((s.setB Reg.SAPn_STAT_RUN false n).setB Reg.SAPn_STAT_RATE_BAD false n).sapLock n false).modSap n (fun p => { p with rx := [], sent := [] })
/-- Row RATE_MEASURE for a port: a measurement in 0.01 Hz (R431, R435, R436). -/
def sapRate (n r : Nat) (s : State) : State :=
  if !s.is Reg.SAPn_STAT_RUN n && !s.is Reg.SAPn_CFG_EN n then s
  else
    let leader := s.is Reg.SAPn_CFG_LEADER n
    let r := if leader then 100 * rateHz s.rate else r
    let ref := s.get Reg.SAPn_RATE_REF_RATE n
    let bad := !leader && (decide (r < 3200000) || decide (21600000 < r) || !s.sapFits n r)
    let s := (s.set Reg.SAPn_RATE_RATE r n).setB Reg.SAPn_STAT_RATE_BAD bad n
    let s := if bad then sapLockLoss n s else s
    let cls := if s.is Reg.SAPn_STAT_LOCK n then rateClass r else 0
    let far := decide (ref < 200 * ((r : Int) - (ref : Int)).natAbs)
    let chg := far || cls ≠ s.get Reg.SAPn_STAT_CLASS n
    let s := s.set Reg.SAPn_STAT_CLASS cls n
    let s := if leader then s else s.srcRate 0x06 n (r * 2 ^ 24 / (100 * rateHz s.rate)) far
    if chg then (s.set Reg.SAPn_RATE_REF_RATE r n).sapInt n 0 else s
/-- RXOWN and TXOWN of the active image (R432). -/
def sapOwn (s : State) : State :=
  s.forN 3 (fun s n =>
    let m (port : Nat) : Nat := match s.img.active with
      | some im => maskOf ((im.insts.filter (fun i => i.isEndpoint && i.port = port && i.unit = n)).flatMap
          (fun i => (List.range i.chans).map (· + i.first))) 32
      | none => 0
    (s.setWord Reg.SAPn_RXOWN (BitVec.ofNat 32 (m 0x06)) n).setWord Reg.SAPn_TXOWN (BitVec.ofNat 32 (m 0x07)) n)
/-- What an activation does to the ports: leaders are checked against the new rate, and every DMA stops (R433, R440). -/
def sapActivate (s : State) : State :=
  sapOwn (s.forN 3 (fun s n =>
    let s := if s.is Reg.SAPn_CFG_EN n && s.is Reg.SAPn_CFG_LEADER n then
        (if s.sapCfgOk n then sapRate n 0 s
         else ((((s.setB Reg.SAPn_CFG_EN false n).setB Reg.SAPn_STAT_CFG_BAD true n).setB Reg.SAPn_STAT_RUN false n).sapLock n false).modSap n
           (fun p => { p with rx := [] }))
      else s
    let s := if s.is Reg.SAPn_CAP_CFG_EN n then (s.setB Reg.SAPn_CAP_CFG_EN false n).setB Reg.SAPn_CAP_STAT_STOPPED true n else s
    if s.is Reg.SAPn_PB_CFG_EN n then (s.setB Reg.SAPn_PB_CFG_EN false n).setB Reg.SAPn_PB_STAT_STOPPED true n else s))
/-- A transmit slot's sample staged by the tail (R429). -/
def State.sapStage (s : State) (n slot : Nat) (x : Int) : State := s.modSap n (fun p => { p with tx := setNth p.tx slot x })

/-- Row SAP_FRAME. -/
def execSapFrame (n : Fin 3) (rx : List Nat) (clocks : Bool) (s : State) : Host.Outcome State Fault Refusal :=
  .next (sapFrame n.val rx clocks s)
/-- Row SAP_LOCK. -/
def execSapLock (n : Fin 3) (s : State) : Host.Outcome State Fault Refusal := .next (sapLockOn n.val s)
/-- Row SAP_LOCK_LOSS. -/
def execSapLockLoss (n : Fin 3) (s : State) : Host.Outcome State Fault Refusal :=
  .next (if s.is Reg.SAPn_CFG_LEADER n.val then s else sapLockLoss n.val s)
/-- Row RATE_MEASURE: unit 0 to 2 a serial audio port, 3 the AES3 input (R435). -/
def execRateMeasure (unit : Fin 4) (rate : Fin 33554432) (s : State) : Host.Outcome State Fault Refusal :=
  .next (if unit.val = 3 then aesRate rate.val s else sapRate unit.val rate.val s)

end Sys2Proof.Machine
end

