-- ==== Sys2Proof/Machine/Dom.lean ====
section
/-! DEFINITION. The switched power domains: conditions, descents, save sets in the footing memory, and exits (R555 to R566,
R81, R82). -/
namespace Sys2Proof.Machine
open Sys2Proof

/-! ## Which registers a domain holds -/

/-- The register lists of the blocks whose register file lies in a domain (R555); the override's registers lie in the
footing domain. -/
def blockRows (d : Nat) : List RegRow :=
  match d with
  | 41 => regRowsRing ++ regRowsPort
  | 46 => regRowsSbus
  | 49 => (regRowsKs ++ regRowsEng ++ regRowsMix ++ regRowsClk).filter (fun r => r.addr ≠ 0x70070 && r.addr ≠ 0x70074)
  | 52 => regRowsAux
  | 53 => regRowsSap ++ regRowsAna
  | 55 => regRowsBst
  | _ => []
/-- The domain that a register's address belongs to; none in the footing domain and on the power-control die. -/
def addrDomain (a : Nat) : Option Nat :=
  let b := a / 0x10000
  if a = 0x70070 ∨ a = 0x70074 then none
  else if b = 1 ∨ (3 ≤ b ∧ b ≤ 7) ∨ b = 14 then some 49
  else if b = 8 ∨ b = 9 then some 41
  else if b = 10 then some 46
  else if b = 11 ∨ b = 12 then some 53
  else if b = 13 then some 52
  else if b = 15 ∨ b = 16 then some 55
  else none
/-- The words of a row: field of the whole word, indexes and tenancy. -/
def RegRow.words (r : RegRow) : List (Fld × Nat × Nat × Nat) :=
  let f : Fld := ⟨r.addr, r.s1, r.s2, 31, 0, r.reset, r.own⟩
  (List.range r.n1).flatMap (fun i => (List.range r.n2).flatMap (fun j =>
    (List.range (if r.own then 8 else 1)).map (fun t => (f, r.f1 + i, j, t))))
/-- The mask of the RW bits of a row. -/
def RegRow.rwMask (r : RegRow) : Nat :=
  (r.fields.filter (fun f => f.1 = .rw)).foldl (fun a f => a ||| ((2 ^ (f.2.1 + 1 - f.2.2) - 1) * 2 ^ f.2.2)) 0
/-- The save list of a domain (R564): the words with RW fields, in address order of the register lists, with their masks. -/
def saveList (d : Nat) : List ((Fld × Nat × Nat × Nat) × Nat) :=
  ((blockRows d).filter (fun r => r.rwMask ≠ 0)).flatMap (fun r => r.words.map (fun w => (w, r.rwMask)))

/-- Words of the model state of R388 in the save list of D55: three for each channel (DESIGN CHOICE, log entry 17). -/
def modelWords (d : Nat) : Nat := if d = 55 then 24 else 0
/-- SAVE_WORDS of a domain (R564). -/
def saveLen (d : Nat) : Nat := (saveList d).length + modelWords d

/-! ## State codes and conditions -/

/-- A domain's structure changed. -/
def State.modDom (s : State) (d : Nat) (f : Domain → Domain) : State := { s with dom := { s.dom with doms := modNth s.dom.doms d f } }
/-- A domain's structure. -/
def State.domn (s : State) (d : Nat) : Domain := nth s.dom.doms d ⟨0, false, false⟩
/-- USED and EXCEPT of the active image, and of an image ARMED or REBUILDING (R560). -/
def State.domUsed (s : State) (d : Nat) : Bool × Bool :=
  let of (o : Option Image) : Bool × Bool := match o with
    | some im => (bit im.used d, bit im.used d && bit im.except d)
    | none => (false, false)
  let a := of s.img.active
  let b := if s.stage = 3 ∨ s.stage = 4 then of s.img.staged else (false, false)
  (a.1 || b.1, a.2 || b.2)
/-- A domain has the floor of R560: some image names it in USED and not in EXCEPT, and the module is not asleep (R568). -/
def State.floored (s : State) (d : Nat) : Bool :=
  let of (o : Option Image) : Bool := match o with
    | some im => bit im.used d && !bit im.except d
    | none => false
  let code := s.get Reg.DOM_STATUS_SLEEP
  code ≠ 1 && code ≠ 2 && (of s.img.active || ((s.stage = 3 || s.stage = 4) && of s.img.staged))
/-- Whether the active image has an endpoint of a port code. -/
def State.hasPort (s : State) (kind port : Nat) : Bool := s.imgHas (fun im => im.insts.any (fun i => i.kind = kind && i.port = port))
/-- A flash or I²C operation is in progress. -/
def State.flashBusy (s : State) : Bool :=
  s.img.slots.any (fun x => x.erasing || x.verifying) || s.img.loading.isSome || s.mix.msgOp.isSome
/-- The condition of R555 that keeps a domain at L0. -/
def State.domKeep (s : State) (d : Nat) : Bool :=
  let pairs := (List.range 4).any (fun k => s.domAt (56 + k) = 0)
  match d with
  | 40 => s.domAt 41 = 0 || s.domAt 42 = 0
  | 41 => true
  | 42 => true
  | 43 => s.is Reg.PORT_Pp_CFG_EN 0
  | 44 => s.is Reg.PORT_Pp_CFG_EN 1
  | 45 => s.is Reg.PORT_Pp_CFG_EN 2
  | 46 => s.is Reg.SBUS_CFG_EN
  | 47 => true
  | 48 => pairs
  | 49 => true
  | 50 => s.hasPort 0x40 8 || decide (2 ≤ s.bst.diag.mode ∧ s.diagRuns)
  | 51 => s.hasPort 0x41 9
  | 52 => (List.range 4).any (fun n => s.is Reg.AUXn_CFG_EN n)
  | 53 => s.is Reg.ANA_AES_CFG_EN || (List.range 3).any (fun n => s.is Reg.SAPn_CFG_EN n)
  | 54 => s.flashBusy
  | 55 => s.served % 256 ≠ 0 || pairs
  | 56 => bitsOf s.served 1 0 ≠ 0
  | 57 => bitsOf s.served 3 2 ≠ 0
  | 58 => bitsOf s.served 5 4 ≠ 0
  | 59 => bitsOf s.served 7 6 ≠ 0
  | _ => false
/-- TARGET of a domain. -/
def State.domTarget (s : State) (d : Nat) : Nat := s.get Reg.DOM_Dnn_CFG_TARGET d

/-! ## Save sets (R563 to R566) -/

/-- The epoch in effect; 0 while no image is active. -/
def State.epochNow (s : State) : Nat :=
  match s.img.active with
  | some im => im.epoch
  | none => 0
/-- The header of a save set: EPOCH, WORDS, VALID, CRC. -/
def State.saveHead (s : State) (d : Nat) : Nat × Nat × Bool × Nat :=
  let h := Mem.rdN s.mem.foot (0xF000 + 16 * d) 16
  (leAt h 0 8, leAt h 8 2, leAt h 10 1 = 1, leAt h 12 4)
/-- VALID of a save set cleared. -/
def State.saveDrop (s : State) (d : Nat) : State := s.footWrite (0xF000 + 16 * d + 10) [0#8]
/-- The save list copied into the save set, with its header (R564). -/
def domSave (d : Nat) (s : State) : State :=
  let l := saveList d
  if l = [] then s
  else
    let bytes := l.flatMap (fun w => leBytes 4 ((s.word w.1.1 w.1.2.1 w.1.2.2.1 w.1.2.2.2).toNat &&& w.2)) ++
      (List.range (modelWords d)).flatMap (fun k => leBytes 4 (Config.modelWord s.free k).toNat)
    let s := if modelWords d = 0 then s else s.fresh.2
    let s := s.footWrite (0x400 * d) bytes
    s.footWrite (0xF000 + 16 * d) (leBytes 8 s.epochNow ++ leBytes 2 (saveLen d) ++ [1#8, 0#8] ++ leBytes 4 (crc32c bytes))
/-- The status fields among a domain's registers that show units of other domains, with their indexes: the reference monitor of
the footing domain and the PLLs for D49, whose band tables come from the calibration in flash; the converters, the charge pump and
the analog outputs for D53 (R406, R410, R415, R460, R464, R555; DEDUCED, log entry 75). -/
def domForeign (d : Nat) : List (Fld × Nat × Nat) :=
  let one (f : Fld) (n : Nat) : List (Fld × Nat × Nat) := (List.range n).map (fun i => (f, i, 0))
  match d with
  | 49 => one Reg.CLK_STATUS_REF_XTAL 1 ++ one Reg.CLK_STATUS_REF_OK 1 ++ one Reg.CLK_Pp_STATUS 3 ++ one Reg.CLK_P1_DIV_K 1 ++
    (List.range 3).flatMap (fun p => (List.range 16).map (fun b => (Reg.CLK_Pp_BANDb, p, b)))
  | 53 => one Reg.ANA_STATUS_CP_OK 1 ++ one Reg.ANA_OUTn_STAT 4 ++ one Reg.ANA_ADCn_STAT_SETTLING 4 ++ one Reg.ANA_ADCn_STAT_RAMPING 4 ++
    one Reg.ANA_ADCn_STAT_GAIN_PEND 4 ++ one Reg.ANA_ADCn_STAT_MUTED 4
  | _ => []
/-- Every register of a domain at its reset value; those kept in flash keep theirs, and those that show other domains' units go
on showing them. -/
def domRegsReset (d : Nat) (s : State) : State :=
  let keep := (domForeign d).map (fun x => (x, s.get x.1 x.2.1 x.2.2))
  let s := ((blockRows d).filter (fun r => !r.flash)).foldl (fun s r => r.words.foldl (fun s w =>
    s.setWord w.1 (w.1.resetWord w.2.1 w.2.2.2) w.2.1 w.2.2.1 w.2.2.2) s) s
  keep.foldl (fun s x => s.set x.1.1 x.2 x.1.2.1 x.1.2.2) s
/-- The BST unit after L3: of its internal state only the model state of R388 is in the save set, whose words follow a format the spec
does not state, so that the model keeps the values themselves (log entry 17). -/
def bstSaved (s : State) : State :=
  let keep (c : BstCh) : BstCh := { BstCh.reset with tc := c.tc, tp := c.tp, ta := c.ta, g := c.g, overdrive := c.overdrive }
  { s with bst := { BstState.reset with chans := s.bst.chans.map keep, diag := s.bst.diag } }
/-- What a unit holds behind its registers is lost in L3: the queues of the aux channels, and what the receivers of D53 held. -/
def domUnitLost (d : Nat) (s : State) : State :=
  match d with
  | 52 => s.forN 4 (fun s n => s.modAux n (fun c => { c with queue := [] }))
  | 53 => { s with aes := AesState.reset, sap := s.sap.map (fun _ => SapPort.reset) }
  | 55 => bstSaved s
  | _ => s
/-- The saved words put back over the reset values. -/
def domRegsRestore (d : Nat) (s : State) : State :=
  (indexed (saveList d)).foldl (fun s x =>
    let w := x.2.1
    let old := (s.word w.1 w.2.1 w.2.2.1 w.2.2.2).toNat
    let v := leVal (Mem.rdN s.mem.foot (0x400 * d + 4 * x.1) 4)
    s.setWord w.1 (BitVec.ofNat 32 ((old - (old &&& x.2.2)) + (v &&& x.2.2))) w.2.1 w.2.2.1 w.2.2.2) s
/-- The REGS records that a cold initialisation applies: of the image being rebuilt, or else of the active image (R565). -/
def State.coldRegs (s : State) (d : Nat) : List (Nat × Nat) :=
  match (if s.stage = 4 then s.img.staged else s.img.active) with
  | some im => im.regs.filter (fun r => addrDomain r.1 = some d)
  | none => []
/-- The counts of a DMA whose EN comes back from a save set: EN has gone from 0 to 1 (R438). -/
def dmaCounts (s : State) : State :=
  s.forN 3 (fun s n =>
    let s := if s.is Reg.SAPn_CAP_CFG_EN n then (s.setWord Reg.SAPn_CAP_WR 0#32 n).setWord Reg.SAPn_CAP_RD 0#32 n else s
    if s.is Reg.SAPn_PB_CFG_EN n then (s.setWord Reg.SAPn_PB_WR 0#32 n).setWord Reg.SAPn_PB_RD 0#32 n else s)
/-- The status registers of a domain that follow the state of its unit, after its registers have been set. -/
def domShow (d : Nat) (s : State) : State :=
  match d with
  | 46 => s.setPlca false
  | 49 => showPll s
  | 52 => s.forN 4 showQueue
  | 53 => dmaCounts (sapOwn (jackShow (showSettling s)))
  | 55 => showFallback (s.forN 8 showModel)
  | _ => s
/-- The exit of a domain from L3 (R559, R565): its memory is cleared, and its registers are restored or
cold-initialised. `ap` applies a REGS record. -/
def domFromL3 (ap : Nat → Nat → State → State) (d : Nat) (s : State) : State :=
  let m := s.mem
  let lost (p : EccMark → Bool) : List EccMark := m.ecc.filter (fun e => !p e)
  let m : MemState :=
    if d < 32 then ⟨Mem.clear m.stone (262144 * d) 262144, m.sram, m.dram, m.foot, lost (fun e => e.mem = 0 && e.addr / 262144 = d)⟩
    else if d < 40 then ⟨m.stone, Mem.clear m.sram (4194304 * (d - 32)) 4194304, m.dram, m.foot,
      lost (fun e => e.mem = 1 && e.addr / 4194304 = d - 32)⟩
    else if d = 40 then ⟨m.stone, m.sram, [], m.foot, lost (fun e => e.mem = 2)⟩ else m
  let s : State := { s with mem := m }
  let l := saveList d
  if l = [] then s
  else
    let (s, okH) := s.eccRead 3 (0xF000 + 16 * d) 16
    let (s, okB) := s.eccRead 3 (0x400 * d) (4 * saveLen d)
    let h := s.saveHead d
    let crc := crc32c (Mem.rdN s.mem.foot (0x400 * d) (4 * saveLen d))
    let bad : Nat := if !h.2.2.1 then (if h.2.1 = 0 then 4 else 3)
      else if !okH || !okB then 2
      else if h.1 ≠ s.epochNow then 1
      else if h.2.2.2 ≠ crc then 2 else 0
    let s := domRegsReset d (domUnitLost d s)
    let s :=
      if bad = 0 then domShow d (domRegsRestore d s)
      else
        let s := domShow d ((s.coldRegs d).foldl (fun s r => ap r.1 r.2 s) s)
        let s := if d = 55 then bstCold s else s
        (((s.inc Reg.DOM_Dnn_CNT_COLD d).int Reg.DOM_INT_STATUS_COLD).event.raise 0x1B d bad)
    s.saveDrop d

/-! ## Descents and exits -/

/-- A port whose domain leaves L0: its link drops, a step that it took part in is over for it, and the next link is negotiated afresh
(R283, R295, R299). -/
def portLeft (p : Nat) (s : State) : State :=
  let s := linkDown p s
  let s := if p < 2 && s.rct.stepPorts.contains p then
      let t := s.stepPortEnd p
      if t.cutOff then leaveTo 0 t else t
    else s
  { s with port := { s.port with linked := setNth s.port.linked p false } }
/-- A serial audio port whose domain leaves L0: no frames run, and a follower loses its lock (R430, R431). -/
def sapLeft (s : State) (n : Nat) : State :=
  let s := if s.is Reg.SAPn_CFG_LEADER n then s.sapLock n false else sapLockLoss n s
  (s.setB Reg.SAPn_STAT_RUN false n).modSap n (fun p => { p with rx := [], bad := 0, good := 0 })
/-- What the units of a domain do when it leaves L0 (R28, R409, R451, R463, R561). -/
def domLeft (d : Nat) (s : State) : State :=
  match d with
  | 43 => portLeft 0 s
  | 44 => portLeft 1 s
  | 45 => portLeft 2 s
  | 47 => pllStop 0 s
  | 48 => pllStop 1 s
  | 49 => pllStop 2 s
  | 51 => anaFollow s
  | 52 => s.forN 4 (fun s n => auxOff n s)
  | 53 => (s.aesLock false).forN 3 sapLeft
  | 55 => linkPark s
  | 56 => chFollow s
  | 57 => chFollow s
  | 58 => chFollow s
  | 59 => chFollow s
  | _ => s
/-- A domain descends to a state (R556): on entry to L3 it saves its list. -/
def domDown (d st : Nat) (s : State) : State :=
  let old := s.domAt d
  if st ≤ old then s
  else
    let s := if st = 3 then domSave d s else s
    let s := s.modDom d (fun x => { x with state := st, waking := false })
    if old = 0 then domLeft d s else s
/-- What the units of a domain do when it reaches L0 from a state: the decimators reset after L2 and L3 (R406); a leader port's
frames run again; and an aux channel whose EN is 1 powers up as if EN were written 1 (DEDUCED, log entry 55). -/
def domReached (d old : Nat) (s : State) : State :=
  match d with
  | 50 => if 2 ≤ old then adcReset s else s
  | 51 => anaFollow s
  | 52 => s.forN 4 (fun s n => if s.is Reg.AUXn_CFG_EN n && s.auxMode n = 0 && (s.ax n).powered.isNone then
      s.modAux n (fun c => { c with powered := some s.ks.count, pin := some (s.auxLadder n 0) }) else s)
  | 53 => s.forN 3 (fun s n => if s.is Reg.SAPn_CFG_EN n && s.is Reg.SAPn_CFG_LEADER n then (sapStart n s).1 else s)
  | 56 => chFollow s
  | 57 => chFollow s
  | 58 => chFollow s
  | 59 => chFollow s
  | _ => s
/-- A domain reaches L0 (R556, R559, R565); a gated stone goes on (R164). -/
def domUp (ap : Nat → Nat → State → State) (d : Nat) (s : State) : State :=
  let old := s.domAt d
  let s := s.modDom d (fun x => { x with state := 0, waking := false })
  let s : State := { s with eng := { s.eng with
    waking := s.eng.waking.filter (fun w => w.1 ≠ d)
    stones := modNth s.eng.stones d (fun t => { t with gated := false }) } }
  if old = 0 then s else domReached d old (if old = 3 then domFromL3 ap d s else s)
/-- Domains whose condition holds are brought to L0 outside sleep (R555). -/
def domFollow (ap : Nat → Nat → State → State) (s : State) : State :=
  if s.get Reg.DOM_STATUS_SLEEP ≠ 0 then s
  else s.forN 60 (fun s d => if s.domAt d ≠ 0 && s.domKeep d then domUp ap d s else s)
/-- An access to a domain below L0 requests its wake (R558); a domain on its way up is not asked again. -/
def domDemand (d : Nat) (s : State) : State :=
  if s.domAt d = 0 || (s.domn d).waking then s
  else (s.modDom d (fun x => { x with waking := true })).inc Reg.DOM_Dnn_CNT_WAKES d
/-- The state in which sleep holds a domain (R568); none when its TARGET applies. -/
def State.sleepState (s : State) (storage : Bool) (d : Nat) : Option Nat :=
  let used := (s.domUsed d).1
  if d < 40 then (if used then some 2 else if storage then some 3 else none)
  else match d with
  | 40 => some (if storage then 2 else 0)
  | 41 => some (if storage then 2 else 0)
  | 42 => some 2
  | 43 => some (if storage then 3 else 0)
  | 44 => some (if storage then 3 else 0)
  | 45 => some (if storage then 3 else 0)
  | 46 => some 3
  | 47 => some (if storage then 3 else 0)
  | 48 => some 3
  | 49 => some (if storage then 3 else 0)
  | 50 => some 3
  | 51 => some 3
  | 52 => if storage then some 3 else if s.domKeep 52 then some 0 else none
  | 53 => some 3
  | 54 => if storage then some 3 else none
  | _ => some 3
/-- Row DOMAIN_IDLE_DESCEND: IDLE_US µs have passed without an access (R557, R560); in sleep, the return to the sleep state
after a demand wake (R568). -/
def domIdle (d : Nat) (s : State) : State :=
  if (s.domn d).waking then s
  else if (s.domn d).sleepHold then
    domDown d ((s.sleepState (s.is Reg.DOM_STATUS_STORAGE) d).getD (s.domTarget d)) s
  else if s.domKeep d then s
  else domDown d (if s.floored d then min 1 (s.domTarget d) else s.domTarget d) s
/-- A write to DOM_Dnn_CFG (R560): a floored domain keeps a TARGET above L2. -/
def domCfgWrite (d : Nat) (v : Word) (s : State) : Act :=
  if s.floored d && decide (2 ≤ v.toNat % 4) then (s.int Reg.DOM_INT_STATUS_FLOOR, stBusy)
  else (s.setWord Reg.DOM_Dnn_CFG v d, stOk)
/-- DOM_Dnn_STAT as a read assembles it. -/
def State.domStat (s : State) (d : Nat) : Word :=
  let u := s.domUsed d
  BitVec.ofNat 32 (b2n u.1 * 2 ^ 31 + b2n u.2 * 2 ^ 30 + b2n (s.domKeep d) * 2 ^ 29 + b2n (s.saveHead d).2.2.1 * 2 ^ 28 +
    b2n (s.domn d).sleepHold * 2 ^ 27 + saveLen d * 2 ^ 16 + s.domAt d)
/-- EPOCH of a domain's save set as DOM_Dnn_TAG shows it. -/
def State.domTag (s : State) (d : Nat) : Nat := let h := s.saveHead d; if h.2.2.1 then h.1 else 0

end Sys2Proof.Machine
end

