-- ==== Sys2Proof/Machine/Engine.lean ====
section
/-! DEFINITION. The engine in a tick: the input gather, the schedule with its transfers and stalls, grout, the commit point
and the tail (R49 to R51, R63 to R66, R128 to R167, R193 to R206). -/
namespace Sys2Proof.Machine
open Sys2Proof

/-! ## Where values lie in the tick SRAM (R139, R144, R193) -/

/-- Offset of a region of a kind. -/
def Image.regOff (im : Image) (k : Nat) : Nat :=
  match im.region k with
  | some r => r.off
  | none => 0
/-- Output ports of the instances below an ID. -/
def Image.portsBelow (im : Image) (id : Nat) : Nat := ((im.insts.filter (fun i => decide (i.id < id))).map (·.nOut)).sum
/-- The tick I/O word of an output port (R139). -/
def Image.ioWord (im : Image) (id port : Nat) : Nat := im.regOff 3 + 4 * (im.portsBelow id + port)
/-- The landing word of the j-th transfer (R144). -/
def Image.landWord (im : Image) (j : Nat) : Nat := im.regOff 4 + 4 * j
/-- The transfer that brings a port to a stone (R145). -/
def Image.xferOf (im : Image) (src port stone : Nat) : Option (Nat × Xfer) :=
  (indexed im.xfers).find? (fun x => x.2.src = src && x.2.srcPort = port && x.2.dst = stone)
/-- The word that an instance reads for an input port (R140, R145). -/
def Image.inWord (im : Image) (x : Inst) (p : Nat) : Option Nat :=
  match im.driver x.id p with
  | none => none
  | some n => match im.inst n.src with
    | none => none
    | some i =>
      if i.isEndpoint || i.stone = x.stone || x.isEndpoint then some (im.ioWord n.src n.srcPort)
      else (im.xferOf n.src n.srcPort x.stone).map (fun j => im.landWord j.1)
/-- The scheduled start of an instance on its stone. -/
def Image.startOf (im : Image) (id : Nat) : Nat :=
  match (im.lists.flatMap (·.entries)).find? (fun e => e.id = id) with
  | some e => e.start
  | none => 0
/-- Whether an input of a delay instance is fresh by the schedule (R148, R149). -/
def Image.fresh (im : Image) (x : Inst) (p : Nat) : Bool :=
  match im.driver x.id p with
  | none => false
  | some n => match im.inst n.src with
    | none => false
    | some i =>
      if i.isEndpoint then true
      else if i.stone = x.stone then decide (im.startOf i.id + i.cost ≤ im.startOf x.id)
      else match im.xferOf n.src n.srcPort x.stone with
        | some j => decide (j.2.cycle + 24 ≤ im.startOf x.id)
        | none => false
/-- Prefetch depth PF (R151). -/
def pfTicks (rate : Nat) : Nat := rateN rate / 2
/-- An instance has a read stream, or a write stream (R150). -/
def Inst.reads (x : Inst) : Bool := x.kind = 0x05 || x.kind = 0x12 || (x.kind = 0x06 && x.kver = 1)
/-- An instance has a write stream. -/
def Inst.writes (x : Inst) : Bool := x.kind = 0x05 || x.kind = 0x11 || (x.kind = 0x06 && x.kver = 1)
/-- Bytes of a stream per tick, but for those of a partitioned FIR, which pass a line in every tick (R150). -/
def Inst.streamBytes (x : Inst) : Nat := 4 * max x.nIn x.nOut
/-- Whether the read stream needs the first byte of a 64-byte line in the j-th tick after activation (R152). -/
def Inst.lineStarts (x : Inst) (j : Nat) : Bool :=
  x.kind = 0x05 || decide (64 * ceilDiv (x.streamBytes * j) 64 < x.streamBytes * (j + 1))
/-- Slots of a recorder tap (R200). -/
def Inst.recSlots (x : Inst) : Nat := (1024 * x.dramKib - 64) / (4 * x.nIn)
/-- Whether the write stream writes the last byte of a line in the j-th tick after activation, tick k; a recorder's last slot
ends its area (R152, R200). -/
def Inst.lineEnds (x : Inst) (j k : Nat) : Bool :=
  let i := if x.kind = 0x11 then k % x.recSlots else j
  x.kind = 0x05 || decide (x.streamBytes * i / 64 < x.streamBytes * (i + 1) / 64) || (x.kind = 0x11 && i + 1 = x.recSlots)

/-! ## Grout records (R65, R141) -/

/-- A record of a word; a word that has produced nothing yet has 0 as its last sample. -/
def State.groutAt (s : State) (w : Nat) : Grout := KMap.get (fun _ => ⟨0#32, 0⟩) s.eng.grout w
/-- A record replaced. -/
def State.setGrout (s : State) (w : Nat) (g : Grout) : State :=
  { s with eng := { s.eng with grout := KMap.put (fun _ => ⟨0#32, 0⟩) s.eng.grout w g } }
/-- The grout value of a word in the present tick, if the word is missing in it. -/
def State.groutPeek (s : State) (w : Nat) : F32 := let g := s.groutAt w; groutF32 g.last (g.miss + 1)
/-- A produced value written to a word. -/
def State.putWord (s : State) (w : Nat) (v : F32) : State := (s.sramWrite w (leBytes 4 v.toNat)).setGrout w ⟨v, 0⟩
/-- The grout value written to a word that is missing in this tick. -/
def State.groutWord (s : State) (w : Nat) : State :=
  let g := s.groutAt w
  (s.sramWrite w (leBytes 4 (groutF32 g.last (g.miss + 1)).toNat)).setGrout w ⟨g.last, min 40 (g.miss + 1)⟩
/-- A word of the tick SRAM read as a value: an uncorrectable error makes it missing (R532). -/
def State.readWord (s : State) (w : Nat) (cyc : Option Nat) : State × F32 :=
  let (s, ok) := s.eccRead 1 w 4 cyc
  (s, if ok then Mem.word s.mem.sram w else s.groutPeek w)
/-- A value multiplied by a factor; a factor of 1 changes nothing. -/
def scaleF32 (v : F32) (f : Rat) : F32 := if f = 1 then v else f32Round (fvMul (f32Val v) (FVal.ofRat f))

/-! ## The input gather (R51 position 6) -/

/-- The lanes gathered: sample or grout of each tapped lane, the grout records keyed above the tick SRAM. -/
def gatherLanes (s : State) : State × List (Nat × F32) :=
  s.rdp.lanes.foldl (fun (a : State × List (Nat × F32)) l =>
    let (s, v) := a.1.gatherLane l
    let key := 2 ^ 32 + l.lane
    match v with
    | some c => let x := sampleToF32 (sext 24 c); (s.setGrout key ⟨x, 0⟩, a.2 ++ [(l.lane, x)])
    | none =>
      let g := s.groutAt key
      (s.setGrout key ⟨g.last, min 40 (g.miss + 1)⟩, a.2 ++ [(l.lane, groutF32 g.last (g.miss + 1))])) (s, [])
/-- The value that a source unit supplies to channel c of an input endpoint (R137, R197). -/
def State.sourceValue (s : State) (lanes : List (Nat × F32)) (x : Inst) (c : Nat) : F32 :=
  let n := x.first + c
  match x.port with
  | 1 => (match lanes.find? (fun l => l.1 = n) with
    | some l => l.2
    | none => 0#32)
  | 3 => s.aafValue x.unit n
  | 5 => s.aesValue n
  | 6 => s.sapValue x.unit n
  | 8 => s.adcValue n
  | _ => 0#32
/-- The gather: every input endpoint's words written, under the fades of R210 and R393. -/
def gather (s : State) : State × List (Nat × F32) :=
  let (s, lanes) := gatherLanes s
  match s.img.active with
  | none => (s, lanes)
  | some im =>
    if !s.is Reg.ENG_STATUS_RUN then (s, lanes)
    else ((im.insts.filter (fun x => x.kind = 0x40)).foldl (fun s x => s.forN x.nOut (fun s c =>
      s.putWord (im.ioWord x.id c) (scaleF32 (s.sourceValue lanes x c) (s.ovrIn x.id c * s.diagFade)))) s, lanes)

/-! ## Message players (R204, R206, R210) -/

/-- The bytes of a message that is VALID. -/
def State.msgBytes (s : State) (n : Nat) : Option (List Byte) := (s.mix.msgs.find? (fun m => m.number = n && m.state = 3)).map (·.bytes)
/-- Frames of a message at a base rate (R206). -/
def msgFrames (b : List Byte) (rate : Nat) : Nat := leAt b 8 4 * rateHz rate / rateHz (leAt b 4 1 % 4)
/-- A sample of a message for a player's output: frame and channel; a one-channel message drives every output. -/
def msgSample (num : Nat) (b : List Byte) (rate fr ch : Nat) : F32 :=
  let chs := leAt b 5 1
  let c := if chs ≤ ch then 0 else ch
  if leAt b 4 1 % 4 = rate then sampleToF32 (sext 24 (leAt b (32 + 3 * (fr * chs + c)) 3)) else Config.msgResample num rate fr c
/-- A player failure (R206). -/
def State.msgFail (s : State) : State := s.inc Reg.MIX_MSG_STATUS_FAILS
/-- The message of the announcement, while every player plays it (R210). -/
def State.announcing (s : State) : Option Nat :=
  match s.ovrCourse with
  | some o => if s.is Reg.MIX_OVR_STATUS_EFFECTIVE && o.source = 0 then some o.message else none
  | none => none
/-- NaNs counted (R135, R136). -/
def State.nans (s : State) (n : Nat) : State := if n = 0 then s else (s.incBy Reg.ENG_NAN n).int Reg.ENG_INT_STATUS_NAN
/-- Port values of a player limited under R136, with the NaNs counted. -/
def State.playPorts (s : State) (vs : List FVal) : State × List F32 := let p := ports vs; (s.nans p.2, p.1)
/-- One tick of a player's announcement: positions count frames and then the gap of 96,000 ticks. -/
def announceTick (x : Inst) (m : Nat) (s : State) : State × List F32 :=
  let zero := List.replicate x.nOut 0#32
  let pos := lastOf s.ovr.pos x.id
  match s.msgBytes m with
  | none => ((if pos.isNone then s.msgFail else s).modOvr (fun o => { o with pos := setLast o.pos x.id 0 }), zero)
  | some b =>
    let n := msgFrames b s.rate
    let p := pos.getD 0
    if s.eng.underrun.contains x.id then (s.msgFail.modOvr (fun o => { o with pos := setLast o.pos x.id p }), zero)
    else
      let (s, out) := if p < n then s.playPorts ((List.range x.nOut).map (fun c => f32Val (msgSample m b s.rate p c))) else (s, zero)
      (s.modOvr (fun o => { o with pos := setLast o.pos x.id (if p + 1 < n + 96000 then p + 1 else 0) }), out)
/-- One tick of a player: its state of MODE and MESSAGE before, playing (1) or between two repeats (2), frame and gap left (`ns` 0 to
4), and the values of its outputs; only MODE 2 repeats (R206). -/
def playerTick (x : Inst) (i : InstSt) (s : State) : State × InstSt × List F32 :=
  let zero := List.replicate x.nOut 0#32
  let mode := i.u 1
  let msg := i.u 0
  let was := nth i.ns 0 0
  let old := nth i.ns 1 0
  match s.announcing with
  | some m => let r := announceTick x m s; (r.1, { i with ns := [mode, msg, 0, 0, 0] }, r.2)
  | none =>
    let start := mode ≠ 0 && (was = 0 || msg ≠ old)
    let playing := if mode = 0 then 0 else if start then 1 else nth i.ns 2 0
    let pos := if start then 0 else nth i.ns 3 0
    let gap := if start then 0 else nth i.ns 4 0
    if playing = 0 ∨ (playing = 2 ∧ mode ≠ 2) then (s, { i with ns := [mode, msg, 0, 0, 0] }, zero)
    else if 0 < gap then (s, { i with ns := [mode, msg, 2, pos, gap - 1] }, zero)
    else match s.msgBytes msg with
      | none => (s.msgFail, { i with ns := [mode, msg, 0, 0, 0] }, zero)
      | some b =>
        let n := msgFrames b s.rate
        if n ≤ pos then (s, { i with ns := [mode, msg, 0, 0, 0] }, zero)
        else if s.eng.underrun.contains x.id then (s.msgFail, { i with ns := [mode, msg, 1, pos, 0] }, zero)
        else
          let (s, out) := s.playPorts ((List.range x.nOut).map (fun c => fvMul (f32Val (msgSample msg b s.rate pos c)) (f32Val (i.f 2))))
          let i' := if pos + 1 < n then [mode, msg, 1, pos + 1, 0]
            else if mode = 2 then [mode, msg, 2, 0, i.u 3] else [mode, msg, 0, 0, 0]
          (s, { i with ns := i' }, out)

/-! ## Running one instance -/

/-- The state of an instance in the engine. -/
def State.instSt (s : State) (id : Nat) : InstSt :=
  match s.eng.insts.find? (fun i => i.id = id) with
  | some i => i
  | none => ⟨id, [], [], [], [], [], [], []⟩
/-- The state of an instance replaced. -/
def State.putInst (s : State) (i : InstSt) : State :=
  { s with eng := { s.eng with insts := s.eng.insts.map (fun j => if j.id = i.id then i else j) } }
/-- An instance of the active image. -/
def State.imgInst (s : State) (id : Nat) : Option Inst :=
  match s.img.active with
  | some im => im.inst id
  | none => none
/-- The engine structure changed. -/
def State.modEng (s : State) (f : EngState → EngState) : State := { s with eng := f s.eng }
/-- The protection hook port that applies the gain of a power-stage channel: of those that name it, the one with the lowest
instance ID and port (R187). -/
def State.hookOwner (s : State) (im : Image) (n : Nat) : Option (Nat × Nat) :=
  let named := (im.insts.filter (fun x => x.kind = 0x14)).flatMap (fun x =>
    ((List.range x.nIn).filter (fun p => (s.instSt x.id).u p = n)).map (fun p => (x.id, p)))
  named.foldl (fun a x => match a with
    | some b => if x.1 < b.1 then some x else a
    | none => some x) none
/-- What a block reads beside its ports, in this tick. -/
def State.blkEnv (s : State) (im : Image) : BlkEnv :=
  { tick := s.ks.count, ucode := s.word Reg.ENG_UCODE, rate := s.rate, gains := (List.range 8).map s.protGain,
    applies := fun id p n => decide (s.hookOwner im n = some (id, p)),
    look := fun lane j => (s.eng.ahead.find? (fun a => a.1 = lane && a.2.1 = s.ks.count + j)).map (·.2.2),
    lookL := s.lookahead, diag := s.diagTests, noise := s.diagNoise, src := s.srcFactor, srcMiss := s.srcMiss,
    srcFade := fun id ch => (im.nets.find? (fun t => t.dst = id && t.dstPort = ch)).bind (fun t => match im.inst t.src with
      | some i => if i.isEndpoint then some (s.ovrIn i.id t.srcPort * s.diagFade) else none
      | none => none) }
/-- A write into an instance's local memory: which of its words it reaches is free, and an error in one of them ends (R132). -/
def State.localWrote (s : State) (x : Inst) (use : Nat) : State :=
  let a := 262144 * x.stone + x.localOff
  if (s.eccIn 0 a x.localLen).isEmpty then s
  else
    let (k, s) := s.fresh
    let hit (e : EccMark) : Bool := e.mem = 0 && decide (a ≤ e.addr) && decide (e.addr < a + x.localLen) && Config.localWrites k use (e.addr - a)
    { s with mem := { s.mem with ecc := s.mem.ecc.filter (fun e => !hit e) } }
/-- Whether the recorder writes in this tick (R202). -/
def State.recording (s : State) : Bool :=
  s.get Reg.MIX_REC_STATUS_STATE = 1 || (s.get Reg.MIX_REC_STATUS_STATE = 2 && decide (0 < s.mix.post))
/-- The DRAM key of an instance's area (R200). -/
def Image.dramArea (im : Image) (x : Inst) : Nat :=
  2 ^ 33 * x.ten + 1024 * ((im.insts.filter (fun i => i.ten = x.ten && !i.isEndpoint && decide (i.id < x.id))).map (·.dramKib)).sum
/-- The words of a recorder tap written to its slot, with the header; the tick is then one the recorder has written (R200, R202). -/
def recWrite (im : Image) (x : Inst) (ins : List F32) (s : State) : State :=
  let a := im.dramArea x
  let slots := x.recSlots
  let k := s.ks.count
  let s := ({ s with mix := { s.mix with recLast := k } } : State).dramWrite a (leBytes 8 k ++ leBytes 4 slots ++ leBytes 4 x.nIn)
  s.dramWrite (a + 64 + 4 * x.nIn * (k % slots)) (ins.flatMap (fun v => leBytes 4 v.toNat))
/-- An instance abandoned for this tick (R132). -/
def State.abandon (s : State) (id : Nat) : State := s.modEng (fun e => { e with abandoned := e.abandoned ++ [id] })
/-- Ticks of the active image done (R152). -/
def State.imgAge (s : State) : Nat := s.ks.count - s.rdp.imgTick.getD s.ks.count
/-- The values that an instance's inputs carry; a delay's stale read gives what the word held at the head, the value of the
tick before (R148). -/
def readIns (im : Image) (x : Inst) (cyc : Nat) (s : State) : State × List F32 :=
  (List.range x.nIn).foldl (fun (a : State × List F32) p =>
    match im.inWord x p with
    | none => (a.1, a.2 ++ [0#32])
    | some w =>
      let src := (im.driver x.id p).map (·.src)
      if (match src with
        | some i => a.1.eng.abandoned.contains i && w = im.ioWord i ((im.driver x.id p).map (·.srcPort) |>.getD 0)
        | none => false) && (x.kind ≠ 0x06 || im.fresh x p) then (a.1, a.2 ++ [a.1.groutPeek w])
      else
        let (s, v) := a.1.readWord w (some cyc)
        let v := match (if x.kind = 0x06 && !im.fresh x p then s.eng.before.find? (fun b => b.1 = w) else none) with
          | some b => if (s.eccIn 1 w 4).any (·.dbl) then v else b.2
          | none => v
        (s, a.2 ++ [v])) (s, [])
/-- An instance run at a cycle: its local memory and inputs are read and its block computed; its outputs are written at its end (R147,
R155). An uncorrectable error in its local memory abandons it (R132, R139). -/
def runInst (im : Image) (x : Inst) (cyc : Nat) (s : State) : State :=
  let s := s.event
  let (s, ok) := s.eccRead 0 (262144 * x.stone + x.localOff) x.localLen (some cyc)
  if !ok then s.abandon x.id
  else
    let (s, ins) := readIns im x cyc s
    let i := s.instSt x.id
    let (s, i, player) := if x.kind = 0x12 then playerTick x i s else (s, i, [])
    let (i, outs, n) := procBlock x i ins (s.blkEnv im) (im.fresh x) (x.maxDelay im.cls) player
    let f : Rat := if x.kind = 0x10 || x.kind = 0x12 || x.kind = 0x13 then
        (if x.kind = 0x12 && s.announcing.isSome then 1 else s.ovrFactor) * (if s.diagPart x.id then 1 else s.diagFade)
      else 1
    let s := ((s.putInst i).nans n).localWrote x 0
    let s := if x.kind = 0x11 && s.recording then recWrite im x ins s else s
    let s := if x.writes && x.lineEnds s.imgAge s.ks.count && (x.kind ≠ 0x11 || s.recording) then s.modEng (fun e => { e with wrote := e.wrote ++ [x.id] }) else s
    s.modEng (fun e => { e with outs := e.outs ++ [(cyc + x.cost, x.id, outs.map (fun v => scaleF32 v f))] })
/-- The end of an instance: its outputs are written (R139, R155). -/
def doOuts (im : Image) (id : Nat) (s : State) : State :=
  let mine := s.eng.outs.filter (fun o => o.2.1 = id)
  let s := s.modEng (fun e => { e with outs := e.outs.filter (fun o => o.2.1 ≠ id) })
  mine.foldl (fun s o => (indexed o.2.2).foldl (fun s v => s.putWord (im.ioWord id v.1) v.2) s) s

/-! ## The timeline of the schedule (R142 to R147, R153, R155, R165) -/

/-- A stone in the tick. -/
def State.stone (s : State) (n : Nat) : StoneRun := nth s.eng.stones n StoneRun.idle
/-- A stone changed. -/
def State.modStone (s : State) (n : Nat) (f : StoneRun → StoneRun) : State := s.modEng (fun e => { e with stones := modNth e.stones n f })
/-- The entries of a stone. -/
def Image.entries (im : Image) (n : Nat) : List Entry :=
  match im.lists.find? (fun l => l.stone = n) with
  | some l => l.entries
  | none => []
/-- The commit point's engine cycle (R49). -/
def commitCycle (rate : Nat) : Nat := 400 + rateBudget rate
/-- Cycles that a stone has stalled, counted (R153, R165). -/
def State.stallBy (s : State) (n c : Nat) : State :=
  (s.modStone n (fun t => { t with delay := t.delay + c })).incBy Reg.ENG_STONEn_STALL c n
/-- An event of the timeline. -/
inductive EngEv where
  | done (id : Nat)
  | land
  | xfer
  | entry (stone : Nat)
  deriving DecidableEq, Repr
/-- The events that wait and the engine cycle of each: ends of instances, landings, the next transfer, then the stones' next entries. -/
def State.engEvents (s : State) (im : Image) : List (Nat × EngEv) :=
  s.eng.outs.map (fun o => (o.1, .done o.2.1)) ++
  (match s.eng.flying with
    | (t, _, _) :: _ => [(t, .land)]
    | [] => []) ++
  (match im.xfers[s.eng.xnext]? with
    | some x => [(400 + x.cycle, .xfer)]
    | none => []) ++
  ((List.range 32).filterMap (fun n =>
    let t := s.stone n
    if t.stopped || t.stall.isSome then none
    else ((im.entries n)[t.next]?).map (fun e => (400 + e.start + t.delay, .entry n))))
/-- The earliest event; of those at one cycle, the first in the order above. -/
def State.engNext (s : State) (im : Image) : Option (Nat × EngEv) :=
  (s.engEvents im).foldl (fun a e => match a with
    | some b => if e.1 < b.1 then some e else a
    | none => some e) none
/-- The domains an instance touches: its stone, the banks of its words, and the DRAM of its streams (R82, R163). -/
def Image.touches (im : Image) (x : Inst) : List Nat :=
  let ins := (List.range x.nIn).filterMap (im.inWord x)
  let outs := (List.range x.nOut).map (im.ioWord x.id)
  ([x.stone] ++ (ins ++ outs).map (fun w => 32 + w / 4194304) ++
    (if x.kind = 0x0E then [32 + im.regOff 5 / 4194304] else []) ++ (if x.reads || x.writes then [40] else [])).eraseDups
/-- The longest exit of a state in engine cycles (R556). -/
def exitCycles (st : Nat) : Nat := if st = 0 then 0 else if st = 1 then 120 else if st = 2 then 1200 else 12000
/-- The engine cycle at which a domain that a stone has woken is ready. -/
def State.readyAt (s : State) (d : Nat) : Option Nat := (s.eng.waking.find? (fun w => w.1 = d)).map (·.2)
/-- The domains of a list whose exit is over by a cycle reach L0 (R165). -/
def domainsReady (ap : Nat → Nat → State → State) (l : List Nat) (cyc : Nat) (s : State) : State :=
  l.foldl (fun s d => match s.readyAt d with
    | some r => if r ≤ cyc then domUp ap d s else s
    | none => s) s
/-- A stall on the domains that an instance touches and finds below L0: each not on its way is woken, and the stone waits for
the last of their exits (R165, R558). -/
def domainStall (l : List Nat) (n cyc : Nat) (s : State) : State :=
  let s := l.foldl (fun s d =>
    if (s.readyAt d).isSome then s
    else
      let (k, s) := s.fresh
      (domDemand d s).modEng (fun e => { e with waking := e.waking ++ [(d, cyc + Config.asyncCycle k % (exitCycles (s.domAt d) + 1))] })) s
  let ready := l.foldl (fun r d => max r ((s.readyAt d).getD cyc)) cyc
  let s := s.modStone n (fun t => { t with delay := t.delay + (ready - cyc) })
  (s.incBy Reg.ENG_STONEn_STALL (min ready (max cyc (commitCycle s.rate)) - cyc) n).int Reg.ENG_INT_STATUS_STALL
/-- A stream stall begins (R153). -/
def streamStall (x : Inst) (cyc : Nat) (s : State) : State :=
  let s := (s.inc Reg.ENG_STREAM_LATE).setB Reg.ENG_STREAM_LAST_VALID true
  let s := ((s.set Reg.ENG_STREAM_LAST_ID x.id).int Reg.ENG_INT_STATUS_STREAM_LATE).int Reg.ENG_INT_STATUS_STALL
  s.modStone x.stone (fun t => { t with stall := some x.id, since := cyc })
/-- A write-back of an instance is outstanding that holds the slot it must write: the spec gives neither the number of slots nor the
order of their reuse, and the model takes one issued PF or more ticks ago as holding it (R152, R153; DESIGN CHOICE, log entry 77). -/
def State.wbBlocked (s : State) (id : Nat) : Bool := s.eng.writing.any (fun w => w.1 = id && decide (w.2 + pfTicks s.rate ≤ s.ks.count))
/-- The next entry of a stone attempted at a cycle. -/
def tryEntry (ap : Nat → Nat → State → State) (im : Image) (n cyc : Nat) (s : State) : State :=
  let es := im.entries n
  match es[(s.stone n).next]? with
  | none => s
  | some e => match im.inst e.id with
    | none => s.modStone n (fun t => { t with next := t.next + 1 })
    | some x =>
      let s := domainsReady ap (im.touches x) cyc s
      let low := (im.touches x).filter (fun d => s.domAt d ≠ 0)
      if low ≠ [] then domainStall low n cyc s
      else if x.reads && s.eng.late.contains x.id then streamStall x cyc s
      else if x.writes && (x.kind ≠ 0x11 || s.recording) && s.wbBlocked x.id then streamStall x cyc s
      else if commitCycle s.rate < cyc + x.cost then s.modStone n (fun t => { t with stopped := true })
      else
        let s := (runInst im x cyc s).modEng (fun g => { g with ends := (x.id, cyc + x.cost) :: g.ends })
        s.modStone n (fun t => { t with
          next := t.next + 1, gated := decide (es.length ≤ t.next + 1) && s.is Reg.ENG_CTRL_GATE })
/-- The next transfer reads its word, or the grout of a producer that has not ended (R142, R147). -/
def doXfer (im : Image) (s : State) : State :=
  match im.xfers[s.eng.xnext]? with
  | none => s
  | some x =>
    let j := s.eng.xnext
    let c := 400 + x.cycle
    let s := s.modEng (fun e => { e with xnext := j + 1 })
    let w := im.ioWord x.src x.srcPort
    let fly (s : State) (v : F32) : State := s.modEng (fun e => { e with flying := e.flying ++ [(c + 24, j, v)] })
    if s.eng.abandoned.contains x.src then fly s (s.groutPeek w)
    else if s.eng.ends.any (fun e => e.1 = x.src && decide (e.2 ≤ c)) then (let (s, v) := s.readWord w (some c); fly s v)
    else fly ((s.inc Reg.ENG_XFER_GROUT).int Reg.ENG_INT_STATUS_XFER_GROUT) (s.groutPeek w)
/-- The oldest transfer in flight lands. -/
def doLand (im : Image) (s : State) : State :=
  match s.eng.flying with
  | [] => s
  | (_, j, v) :: r => (s.modEng (fun e => { e with flying := r })).putWord (im.landWord j) v
/-- The timeline run up to a cycle; it pauses when a stone stalls. -/
def engRun (ap : Nat → Nat → State → State) (im : Image) (pause : Bool) (limit : Nat) : Nat → State → State
  | 0, s => s
  | fuel + 1, s =>
    if pause && (List.range 32).any (fun n => (s.stone n).stall.isSome) then s
    else match s.engNext im with
    | none => s
    | some (t, ev) =>
      if limit < t then s
      else
        let s : State := { s with ks := { s.ks with cycle := max s.ks.cycle t } }
        engRun ap im pause limit fuel (match ev with
          | .done id => doOuts im id s
          | .land => doLand im s
          | .xfer => doXfer im s
          | .entry n => tryEntry ap im n t s)
/-- Enough rounds for a tick: every entry may stall on its domains, its line and its write-back before it runs. -/
def Image.fuel (im : Image) : Nat := 5 * im.insts.length + 2 * im.xfers.length + 64
/-- The timeline of the active image run up to a cycle. -/
def engTo (ap : Nat → Nat → State → State) (pause : Bool) (limit : Nat) (s : State) : State :=
  match s.img.active with
  | some im => if s.is Reg.ENG_STATUS_RUN && !s.ks.committed then engRun ap im pause limit im.fuel s else s
  | none => s
/-- A stalled stone goes on from a cycle (R153). -/
def resumeStone (n cyc : Nat) (s : State) : State :=
  let t := s.stone n
  let c := max cyc t.since - t.since
  (s.stallBy n c).modStone n (fun t => { t with stall := none })
/-- Row STREAM_LINE_ARRIVE: the line that a stone waits for has arrived, or one still missing after an overrun before the stone reaches
it again (R153). -/
def lineArrive (ap : Nat → Nat → State → State) (n cyc : Nat) (s : State) : State :=
  match (s.stone n).stall with
  | none => s.modEng (fun e => { e with late := e.late.filter (fun i => (s.imgInst i).map (·.stone) ≠ some n) })
  | some id =>
    let c := min (commitCycle s.rate) (max cyc s.ks.cycle)
    let s := engTo ap false c s
    let s := match s.imgInst id with
      | some x => s.localWrote x 3
      | none => s
    if !s.eng.late.contains id then s
    else engTo ap true (commitCycle s.rate) (resumeStone n c (s.modEng (fun e => { e with late := e.late.filter (· ≠ id) })))
/-- A write-back of an instance has completed: its oldest outstanding one is struck off (R152). -/
def dropWriting (id : Nat) : List (Nat × Nat) → List (Nat × Nat)
  | [] => []
  | w :: r => if w.1 = id then r else w :: dropWriting id r
/-- Row STREAM_WRITEBACK_DONE: the slot is free, and a stone that waits for it goes on (R152, R153). -/
def writebackDone (ap : Nat → Nat → State → State) (id : Nat) (s : State) : State :=
  let s := s.modEng (fun e => { e with writing := dropWriting id e.writing })
  match (List.range 32).find? (fun n => (s.stone n).stall = some id) with
  | some n =>
    if s.wbBlocked id || s.eng.late.contains id || s.ks.committed then s
    else
      let (k, s) := s.fresh
      let c := min (commitCycle s.rate) (max s.ks.cycle (Config.asyncCycle k % rateCycles s.rate))
      engTo ap true (commitCycle s.rate) (resumeStone n c (engTo ap false c s))
  | none => s
/-- A gated stone woken: its domain stands in L0 again (R164). -/
def stoneWake (n : Nat) (s : State) : State :=
  if (s.stone n).gated then
    (s.modStone n (fun t => { t with gated := false })).modDom n (fun x => { x with waking := false })
  else s

/-! ## The head's part: streams (R51 position 7, R152, R154) -/

/-- The lines that the head of a tick requests: the instances whose read streams need the first byte of a line PF ticks on,
of the active image, or in the last PF ticks of a rebuild of the image it places, at that image's base rate (R152, R154). -/
def State.requests (s : State) : List (Nat × Nat) :=
  let of (im : Image) (first : Nat) : List (Nat × Nat) :=
    let t := s.ks.count + pfTicks im.rate
    if t < first then [] else (im.insts.filter (fun x => x.reads && x.lineStarts (t - first))).map (fun x => (x.id, t))
  match s.partIm with
  | some im => if s.stage = 4 then of im s.img.target else if s.is Reg.ENG_STATUS_RUN then of im (s.rdp.imgTick.getD s.ks.count) else []
  | none => []
/-- The words that delay instances read stale, as they stand at the head (R148). -/
def State.staleWords (s : State) (im : Image) : List (Nat × F32) :=
  (im.insts.filter (fun x => x.kind = 0x06)).flatMap (fun x =>
    ((List.range x.nIn).filter (fun p => !im.fresh x p)).filterMap (fun p => (im.inWord x p).map (fun w => (w, Mem.word s.mem.sram w))))
/-- The entries that a lookahead limiter reads, as they stand at the head; one with an uncorrectable error is not valid
(R232, R532). -/
def State.aheadOf (s : State) (x : Inst) : List (Nat × Nat × F32) :=
  let i := s.instSt x.id
  (List.range x.nIn).flatMap (fun ch =>
    let lane := i.u (3 + ch)
    (List.range (min (i.u 2) (s.lookahead lane))).filterMap (fun j =>
      let p := s.ks.count + j + 1
      if (s.eccIn 1 (s.entryAddr lane p) 4).any (·.dbl) then none
      else (s.entry lane p).map (fun c => (lane, p, sampleToF32 (sext 24 c)))))
/-- The instances whose read streams need the first byte of a line in this tick. -/
def State.needed (s : State) : List Nat := (s.eng.wanted.filter (fun w => w.2 = s.ks.count)).map (·.1)
/-- The line that an instance read last in the tick before holds the first byte it reads in this one too (R150, R152). -/
def State.sameLine (s : State) (id : Nat) : Bool :=
  match s.imgInst id with
  | some x => x.kind ≠ 0x05 && x.streamBytes * s.imgAge % 64 ≠ 0
  | none => false
/-- The lines of this tick that are not late fill their buffers (R132, R152). -/
def linesIn (im : Image) (late : List Nat) (s : State) : State :=
  (im.insts.filter (fun x => s.needed.contains x.id && !late.contains x.id)).foldl (fun s x => s.localWrote x 3) s
/-- What the engine keeps of the head for the schedule: the words read stale and the entries looked ahead to. -/
def headViews (im : Image) (s : State) : State :=
  let before := s.staleWords im
  let ahead := (im.insts.filter (fun x => x.kind = 0x08 && x.kver = 2)).flatMap s.aheadOf
  s.modEng (fun e => { e with before := before, ahead := ahead })
/-- The engine at the head of a tick: gated stones are woken, stones, transfers and marks start afresh, write-backs are issued
and lines requested; a line may be late in the tick that needs its first byte, and stays late while the ticks that read it pass without
its arrival. -/
def engHead (late underrun : List Nat) (s : State) : State :=
  let k := s.ks.count
  let s := s.forN 32 (fun s n => stoneWake n s)
  let s := match s.img.active with
    | some im => if s.is Reg.ENG_STATUS_RUN then headViews im (linesIn im late s) else s
    | none => s
  let late := late.filter (fun i => s.needed.contains i) ++ s.eng.late.filter (fun i => s.sameLine i && !late.contains i)
  let req := s.requests
  s.modEng (fun e => { e with
    stones := List.replicate 32 StoneRun.idle, xnext := 0, flying := [], late := late,
    underrun := underrun, wanted := e.wanted.filter (fun w => decide (k < w.2)) ++ req,
    wrote := [], writing := e.writing ++ e.wrote.map (fun i => (i, k)), abandoned := [], ends := [], outs := [],
    waking := e.waking.map (fun w => (w.1, w.2 - rateCycles s.rate)) })

/-! ## The commit point (R63, R64, R66, R141, R166) -/

/-- The stones that have not reached the end of their lists. -/
def State.overrun (s : State) (im : Image) : List Nat :=
  (List.range 32).filter (fun n => decide ((s.stone n).next < (im.entries n).length))
/-- The overrun verdict: stones stopped, instances abandoned, peaks recorded, missing words grouted. -/
def commitVerdict (im : Image) (s : State) : State :=
  let c := commitCycle s.rate
  let bad := s.overrun im
  let s := bad.foldl (fun s n =>
    let s := if (s.stone n).stall.isSome then resumeStone n c s else s
    let left := ((im.entries n).drop (s.stone n).next).map (·.id)
    let s := (s.modStone n (fun t => { t with stopped := true, stall := none })).set Reg.ENG_STONEn_PEAK_END 0xFFFF n
    s.modEng (fun e => { e with abandoned := e.abandoned ++ left })) s
  let s := s.forN 32 (fun s n => match (im.entries n).getLast? with
    | some e => if bad.contains n then s
      else match s.eng.ends.find? (fun x => x.1 = e.id) with
        | some x => s.set Reg.ENG_STONEn_PEAK_END (max (s.get Reg.ENG_STONEn_PEAK_END n) (x.2 - 400)) n
        | none => s
    | none => s)
  let s := s.eng.abandoned.foldl (fun s id => match im.inst id with
    | some x => s.forN x.nOut (fun s p => s.groutWord (im.ioWord id p))
    | none => s) s
  if bad = [] then s
  else
    let s := ((s.inc Reg.KS_OVR_COUNT).set64 Reg.KS_OVR_LAST_LO Reg.KS_OVR_LAST_HI s.ks.count).setWord Reg.KS_OVR_STONES
      (BitVec.ofNat 32 (maskOf bad 32))
    ((s.int Reg.KS_INT_STATUS_OVR).event).raise 0x10 0 0 (some c)

/-! ## Meters (R193 to R195) -/

/-- The live half of a meter record after one value: PEAK, RMS, HOLD, CLIPS; `hist` of the instance keeps, per channel, the
mean square and the tick count of HOLD. -/
def meterStep (rec : List Word) (ms : Ext48) (age hold tau : Nat) (clip x : F32) : List Word × Ext48 × Nat :=
  let ax := f32Abs x
  let a := decay tau
  let sq := fvMul (f32Val x) (f32Val x)
  let ms := (extSum [(f32Val a, extVal ms), (f32Val (f32Sub 0x3F800000#32 a), sq)]).1
  let h := nth rec 2 0#32
  let (h, age) := if f32Lt h ax then (ax, 0) else if hold ≠ 0 && decide (hold ≤ age + 1) then (ax, 0) else (h, age + 1)
  let n := (nth rec 3 0#32).toNat
  let n := if f32Lt ax clip then n else satInc (2 ^ 32 - 1) n
  ([f32MaxAbs (nth rec 0 0#32) ax, f32Sqrt (extF32 ms), h, BitVec.ofNat 32 n], ms, age)
/-- The live half of record j. -/
def State.meterLive (s : State) (a : Nat) : List Word := (List.range 4).map (fun k => Mem.word s.mem.sram (a + 4 * k))
/-- One meter instance in the tail: its inputs of the tick enter its records. -/
def meterTail (im : Image) (x : Inst) (s : State) : State :=
  if s.eng.abandoned.contains x.id then s
  else
    let base := im.regOff 5 + 32 * meterBase im.insts x.id
    let i := s.instSt x.id
    (List.range x.nIn).foldl (fun s ch =>
      let a := base + 32 * ch
      let i := s.instSt x.id
      let (r, ms, age) := meterStep (s.meterLive a) (nth i.ext ch 0#48) (nth i.ns ch 0) (i.u 0) (i.u 1) (i.f 2) (nth i.fs ch 0#32)
      let s := s.sramWrite a (r.flatMap (fun w => leBytes 4 w.toNat))
      s.putInst { i with ext := setNth i.ext ch ms, ns := setNth i.ns ch age })
      (s.putInst { i with
        ext := i.ext ++ List.replicate (x.nIn - i.ext.length) 0#48, ns := i.ns ++ List.replicate (x.nIn - i.ns.length) 0 })
/-- Every meter in the tail of a tick. -/
def metersTail (im : Image) (s : State) : State := (im.insts.filter (fun x => x.kind = 0x0E)).foldl (fun s x => meterTail im x s) s
/-- The addresses of the meter records of the active image; while REBUILDING its region holds the new image's memory (R117). -/
def State.meterRecs (s : State) : List Nat :=
  match s.img.active with
  | some im =>
    if s.stage = 4 then [] else
    let n := ((im.insts.filter (fun x => x.kind = 0x0E)).map (·.nIn)).sum
    (List.range n).map (fun j => im.regOff 5 + 32 * j)
  | none => []
/-- A meter latch: every live half copied, and each live PEAK set to 0 (R195). -/
def meterLatch (s : State) : State :=
  (s.meterRecs.foldl (fun s a => (s.sramWrite (a + 16) (Mem.rdN s.mem.sram a 16)).sramWrite a [0#8, 0#8, 0#8, 0#8]) s).int
    Reg.MIX_INT_STATUS_LATCH
/-- HOLD of every meter set to 0 at the head after HOLD_CLR (R194). -/
def holdClear (s : State) : State :=
  if s.mix.holdClr then
    { s.meterRecs.foldl (fun s a => s.sramWrite (a + 8) [0#8, 0#8, 0#8, 0#8]) s with mix := { s.mix with holdClr := false } }
  else s

/-! ## The tail (R138, R187, R201, R202) -/

/-- The committed value of channel c of an output endpoint, without an image at 0 (R116, R140). -/
def State.outValue (s : State) (im : Image) (x : Inst) (c : Nat) : State × F32 :=
  match im.inWord x c with
  | some w => s.readWord w (some (commitCycle s.rate))
  | none => (s, 0#32)
/-- A value limited under R138, as a rational; a NaN counts as 0. -/
def limit1 (v : F32) : Rat :=
  match f32Val v with
  | .nan => 0
  | .inf n => if n then -1 else 1 - pow2 (-23)
  | .fin _ q => if q < -1 then -1 else if 1 - pow2 (-23) < q then 1 - pow2 (-23) else q
/-- Whether a protection hook channel of the image names a power-stage channel (R187). -/
def State.hooked (s : State) (im : Image) (n : Nat) : Bool := (s.hookOwner im n).isSome
/-- The factor of an output channel: the fades of R210 and R393. -/
def State.outFactor (s : State) (x : Inst) (c : Nat) : Rat :=
  let d : Rat := if x.port = 0x0A then s.diagOutFade (x.first + c) else 1
  s.ovrOut x c * d
/-- The 24-bit sample of channel c of an output endpoint (R138, R187). -/
def State.outSample (s : State) (im : Image) (x : Inst) (c : Nat) (v : F32) : Int :=
  let g : Rat := if x.port = 0x0A && !s.hooked im (x.first + c) then f32Rat (s.protGain (x.first + c)) else 1
  ratRne (limit1 v * g * s.outFactor x c * ((2 ^ 23 : Nat) : Rat))
/-- The samples of all output endpoints: port, unit, channel of the unit, sample. -/
def outSamples (s : State) : State × List (Nat × Nat × Nat × Int) :=
  match s.img.active with
  | none => (s, [])
  | some im =>
    let zero := !s.is Reg.ENG_STATUS_RUN
    (im.insts.filter (fun x => x.kind = 0x41)).foldl (fun a x =>
      (List.range x.nIn).foldl (fun (a : State × List (Nat × Nat × Nat × Int)) c =>
        let (s, v) := if zero then (a.1, 0#32) else a.1.outValue im x c
        (s, a.2 ++ [(x.port, x.unit, x.first + c, s.outSample im x c v)])) a) (s, [])
/-- The sample of a port's channel among the committed ones. -/
def pick (l : List (Nat × Nat × Nat × Int)) (port unit ch : Nat) : Option Int :=
  (l.find? (fun x => x.1 = port && x.2.1 = unit && x.2.2.1 = ch)).map (·.2.2.2)
/-- A sense frame of R201. -/
def senseFrame (s : State) : List Byte :=
  let x := s.pwr.sense
  let f (q : Rat) : List Byte := leBytes 4 (f32OfRat q).toNat
  let milli (l : List Int) (n : Nat) : List Byte := (List.range n).flatMap (fun k => f (((nth l k 0 : Int) : Rat) / 1000))
  let die : Int := x.die.foldl max (x.die.headD 0)
  milli x.v 8 ++ milli x.i 8 ++ (List.range 4).flatMap (fun k => f ((nth x.rail k 0 : Nat) : Rat)) ++ milli x.railI 4 ++
    f ((die : Rat) / 10) ++ f ((x.base : Rat) / 10) ++ leBytes 8 s.ks.count ++ List.replicate 16 0#8
/-- The sense record of the tick (R201), for every tick but those in which the recorder has stopped writing (R202). -/
def senseRec (s : State) : State :=
  let n := s.get Reg.MIX_REC_SENSE_SLOTS_SLOTS
  let on := n ≠ 0 && (s.get Reg.MIX_REC_STATUS_STATE = 0 || s.recording)
  let s := s.setB Reg.MIX_REC_STATUS_SENSE on
  if !on then s
  else
    let a := s.dmaKey (Reg.MIX_REC_SENSE_BASE.key 0 0 0) (s.get Reg.MIX_REC_SENSE_BASE) + 128 * (s.ks.count % n)
    if decide (0x40000000 ≤ s.get Reg.MIX_REC_SENSE_BASE) && decide (s.get Reg.MIX_REC_SENSE_BASE + 128 * n ≤ 2 ^ 32) &&
      s.dram0Covered (s.ten.allocs.length + 1) a (a + 128) then s.dramWrite a (senseFrame s) else s
/-- The recorder's count of the tick (R202). -/
def recTail (s : State) : State :=
  if !s.recording then s
  else
    let p := if s.get Reg.MIX_REC_STATUS_STATE = 2 then s.mix.post - 1 else s.mix.post
    { s with mix := { s.mix with recLast := s.ks.count, post := p } }
/-- Row REC_FROZEN: the POST ticks are over (R202). -/
def recFrozen (s : State) : State :=
  if s.get Reg.MIX_REC_STATUS_STATE = 2 && s.mix.post = 0 then
    ((s.set Reg.MIX_REC_STATUS_STATE 3).set64 Reg.MIX_REC_LAST_LO Reg.MIX_REC_LAST_HI s.mix.recLast).int Reg.MIX_INT_STATUS_REC_FROZEN
  else s
/-- The tail: the committed samples staged for every sink, the law of the boost targets, records and detectors. -/
def tail (s : State) : State :=
  let (s, l) := outSamples s
  let served := s.served
  let s : State := { s with pwr := { s.pwr with
    stage := (List.range 8).map (fun n => if bit served n then some ((pick l 0x0A 0 n).getD 0) else none) } }
  let s := rdpTail (fun lane => (pick l 2 0 lane).map (toTwos 24)) s
  let s := outTail (fun n => (pick l 9 0 n).getD 0) s
  let s := s.forN 3 (fun s u => s.forN 32 (fun s k => s.sapStage u k ((pick l 7 u k).getD 0)))
  let s := aafStage ((l.filter (fun x => x.1 = 4)).map (fun x => (x.2.1, x.2.2.1, x.2.2.2))) s
  let s := s.forN 4 (fun s n => s.modAux n (fun c => { c with eng := (pick l 0x0B 0 n).getD 0 }))
  let s := diagTail (dcTail (bstTail s))
  fnWatch (recTail (senseRec s))
/-- Row COMMIT_POINT: the rest of the schedule, the overrun verdict and the tail (R49, R63). -/
def commitPoint (ap : Nat → Nat → State → State) (s : State) : State :=
  if !s.ks.running || s.ks.committed then s
  else
    let c := commitCycle s.rate
    let s := engTo ap false c s
    let s := match s.img.active with
      | some im => if s.is Reg.ENG_STATUS_RUN then metersTail im (commitVerdict im s) else s
      | none => s
    let s : State := { s with ks := { s.ks with cycle := c, committed := true } }
    tail s

end Sys2Proof.Machine
end

