-- ==== Sys2Proof/Machine/Tenancy.lean ====
section
/-! DEFINITION. Tenancies: presence, quotas and use, runtime allocations, holds, eviction, and the hardware semaphores (R503 to
R520). -/
namespace Sys2Proof.Machine
open Sys2Proof

/-! ## Presence, quotas and use -/

/-- The record of a tenancy in the partition in effect: the active image's, and the new one's from its rebuild on (R117). -/
def State.tenRec (s : State) (t : Nat) : TenCfg :=
  match s.partIm with
  | some im => nth im.tens t TenCfg.absent
  | none => TenCfg.absent
/-- Whether a tenancy has rights at all (R503); tenancy 0 always has. -/
def State.tenPresent (s : State) (t : Nat) : Bool := t = 0 || (s.tenRec t).present = 1
/-- The caps of TEN_Tt_CAP0 to CAP3 (R510). -/
def State.caps (s : State) : List TenCfg :=
  (List.range 8).map (fun t => ⟨1, 0, s.get Reg.TEN_Tt_CAP0_CYCLES t, s.get Reg.TEN_Tt_CAP1 t, s.get Reg.TEN_Tt_CAP2_DRAM_MIB t,
    s.get Reg.TEN_Tt_CAP3_SEND_LANES t, s.get Reg.TEN_Tt_CAP3_PARAM_WORDS t⟩)
/-- The quota in effect of a tenancy (R510). -/
def State.quota (s : State) (t : Nat) : TenCfg := quotaOf (s.tenRec t) (nth s.caps t TenCfg.absent)
/-- MiB of all allocations of a tenancy. -/
def State.dramUse (s : State) (t : Nat) : Nat := ((s.ten.allocs.filter (fun a => a.ten = t)).map (·.sizeMib)).sum
/-- What a tenancy uses: cycles (R158), stones, DRAM, send lanes and parameter words. -/
def State.tenUse (s : State) (t : Nat) : TenCfg :=
  match s.partIm with
  | some im =>
    let own := im.insts.filter (fun i => i.ten = t)
    ⟨1, 0, (own.map (·.cost)).sum, maskOf ((own.filter (fun i => !i.isEndpoint)).map (·.stone)) 32, s.dramUse t,
      (im.sends.filter (fun r => r.ten = t)).length, (own.map (·.paramWords)).sum⟩
  | none => { TenCfg.absent with dramMib := s.dramUse t }
/-- The quantities whose use exceeds the quota in effect, as TEN_Tt_STATUS.OVER (R511). -/
def State.overMask (s : State) (t : Nat) : Nat :=
  let u := s.tenUse t
  let q := s.quota t
  b2n (decide (q.cycles < u.cycles)) + 2 * b2n (decide (u.stones &&& q.stones ≠ u.stones)) + 4 * b2n (decide (q.dramMib < u.dramMib)) +
    8 * b2n (decide (q.sendLanes < u.sendLanes)) + 16 * b2n (decide (q.paramWords < u.paramWords))
/-- OVER of every tenancy brought up to date; an onset raises TEN_OVER (R511). Without an image there is no quota to
exceed. -/
def overUpdate (s : State) : State :=
  s.forN 8 (fun s t =>
    let old := nth s.ten.overs t 0
    let new := if s.partIm.isNone then 0 else s.overMask t
    let s : State := { s with ten := { s.ten with overs := setNth s.ten.overs t new } }
    if old = 0 && new ≠ 0 then (s.int Reg.TEN_INT_STATUS_OVER).event.raise 0x81 t else s)
/-- A write of a cap (R510, R511). -/
def capWrite (f : Fld) (t : Nat) (v : Word) (s : State) : Act := (overUpdate ((s.setWord f v t).log 5 t []), stOk)
/-- TEN_CTRL.EVICT (R512). -/
def actEvict (s : State) : Act :=
  let t := s.get Reg.TEN_CTRL_TEN
  if t = 0 then (s, stAccess)
  else ({ s with ten := { s.ten with evict := s.ten.evict.filter (· ≠ t) ++ [t] } }, stOk)

/-! ## Allocations (R506 to R509) -/

/-- Words of `n` MiB at an offset of a tenancy's pool set to 0. -/
def State.poolClear (s : State) (t off n : Nat) : State :=
  let lo := 2 ^ 33 * t + off * 2 ^ 20
  { s with mem := { s.mem with dram := Mem.clear s.mem.dram lo (n * 2 ^ 20), ecc := s.mem.ecc.filter (fun e =>
      !(e.mem = 2 && decide (lo ≤ e.addr) && decide (e.addr < lo + n * 2 ^ 20))) } }
/-- The lowest offset of a pool at which `n` MiB fit: 0, or the end of an allocation. -/
def State.lowestFit (s : State) (t n pool : Nat) : Option Nat :=
  let own := s.ten.allocs.filter (fun a => a.ten = t)
  let cand := (0 :: own.map (fun a => a.offMib + a.sizeMib)).filter (fun o =>
    decide (o + n ≤ pool) && own.all (fun a => !rangesMeet o n a.offMib a.sizeMib))
  match cand with
  | [] => none
  | x :: r => some (r.foldl min x)
/-- TEN_ALLOC_STAT.RESULT, with the status of the write (log entry 18). -/
def State.allocResult (s : State) (t r : Nat) : Act := (s.set Reg.TEN_ALLOC_STAT_RESULT r 0 0 t, if r = 1 then stOk else stBusy)
/-- TEN_ALLOC_CTRL.ALLOC (R508). -/
def actAlloc (t : Nat) (s : State) : Act :=
  let n := s.get Reg.TEN_ALLOC_CTRL_SIZE_MIB 0 0 t
  let free := ((List.range 15).map (· + 1)).filter (fun h => !s.ten.allocs.any (fun a => a.ten = t && a.handle = h))
  if n = 0 || decide (6656 < n) then (s, stAccess)
  else if t ≠ 0 && !bit (s.get Reg.TEN_Tt_RIGHTS_RIGHTS t) 4 then s.allocResult t 5
  else match free with
  | [] => s.allocResult t 4
  | h :: _ =>
    if (s.quota t).dramMib < s.dramUse t + n then s.allocResult t 2
    else match s.lowestFit t n (s.tenRec t).dramMib with
    | none => s.allocResult t 3
    | some o =>
      let s := s.poolClear t o n
      let s : State := { s with ten := { s.ten with allocs := s.ten.allocs ++ [⟨t, h, o, n⟩] } }
      (overUpdate s |>.set Reg.TEN_ALLOC_STAT_HANDLE h 0 0 t |>.set Reg.TEN_ALLOC_STAT_OFFSET_MIB o 0 0 t).allocResult t 1
/-- TEN_ALLOC_CTRL.FREE (R508). -/
def actFree (t : Nat) (s : State) : Act :=
  let h := s.get Reg.TEN_ALLOC_CTRL_HANDLE 0 0 t
  if h = 0 then (s, stAccess)
  else if s.ten.allocs.any (fun a => a.ten = t && a.handle = h) then
    (overUpdate { s with ten := { s.ten with allocs := s.ten.allocs.filter (fun a => !(a.ten = t && a.handle = h)) } }).allocResult t 1
  else s.allocResult t 4
/-- MiB of the image allocation of a tenancy (R506). -/
def Image.imageMib (im : Image) (t : Nat) : Nat :=
  ceilDiv (((im.insts.filter (fun i => i.ten = t && !i.isEndpoint)).map (·.dramKib)).sum) 1024
/-- Evictions marked are done, newest allocation first (R512); `n` allocations are followed. -/
def State.evictOne (s : State) (t : Nat) : Nat → State
  | 0 => s
  | n + 1 =>
    if s.dramUse t ≤ (s.quota t).dramMib then s
    else match (s.ten.allocs.filter (fun a => a.ten = t && a.handle ≠ 0)).getLast? with
    | none => s
    | some a => State.evictOne (({ s with ten := { s.ten with allocs := s.ten.allocs.filter (· ≠ a) } } : State).int
        Reg.TEN_INT_STATUS_EVICTED) t n
/-- The partition of a new image placed in its rebuild: allocations kept where they fit, and cleared; the holds of tenancies that it
lacks end (R117, R505, R509). -/
def tenPlace (im : Image) (s : State) : State :=
  let keep := s.ten.allocs.filter (fun a => a.handle ≠ 0 && decide (im.imageMib a.ten ≤ a.offMib) &&
    decide (a.offMib + a.sizeMib ≤ (nth im.tens a.ten TenCfg.absent).dramMib))
  let s := keep.foldl (fun s a => s.poolClear a.ten a.offMib a.sizeMib) s
  let img := ((List.range 8).filter (fun t => im.imageMib t ≠ 0)).map (fun t => (⟨t, 0, 0, im.imageMib t⟩ : Alloc))
  let holds := s.ten.holds.filter (fun h => h.1 = 0 || (nth im.tens h.1 TenCfg.absent).present = 1)
  overUpdate { s with ten := { s.ten with allocs := img ++ keep, holds := holds } }
/-- What the activation itself does to the tenancies: holds end, and evictions are done when the epoch in effect changes
(R505, R512). -/
def tenActivate (im : Image) (oldEpoch : Option Nat) (s : State) : State :=
  let s : State := { s with ten := { s.ten with holds := [] } }
  let s := if oldEpoch = some im.epoch then s
    else
      let s := s.ten.evict.foldl (fun s t => s.evictOne t 15) s
      { s with ten := { s.ten with evict := [] } }
  overUpdate (s.log 5 0 [])
/-- No image is active: no tenancy but 0 is present, and image allocations fall with the image. -/
def tenDeactivate (s : State) : State :=
  overUpdate { s with ten := { s.ten with allocs := s.ten.allocs.filter (fun a => a.handle ≠ 0), holds := s.ten.holds.filter (fun h => h.1 = 0) } }

/-! ## The DRAM window (R24, R506, R507) -/

/-- Whether allocations of a tenancy cover a range of its pool; `n` allocations are followed. -/
def State.poolCovered (s : State) (t : Nat) : Nat → Nat → Nat → Bool
  | 0, _, _ => false
  | n + 1, lo, hi =>
    match s.ten.allocs.find? (fun x => x.ten = t && decide (x.offMib * 2 ^ 20 ≤ lo) && decide (lo < (x.offMib + x.sizeMib) * 2 ^ 20)) with
    | some x => decide (hi ≤ (x.offMib + x.sizeMib) * 2 ^ 20) || s.poolCovered t n ((x.offMib + x.sizeMib) * 2 ^ 20) hi
    | none => false
/-- The cell key of a DRAM-window address of a tenancy; none where no allocation covers the access. -/
def State.dramKey (s : State) (t a n : Nat) : Option Nat :=
  let x := a - 0x40000000 + s.get Reg.TEN_DRAM_WIN_BASE_GIB 0 0 t * 2 ^ 30
  if s.poolCovered t 16 x (x + n) then some (2 ^ 33 * t + x) else none
/-- A write of TEN_DRAM_WIN (R507). -/
def dramWinWrite (t : Nat) (v : Word) (s : State) : Act :=
  if 4 < v.toNat % 8 then (s, stAccess) else (s.setWord Reg.TEN_DRAM_WIN v 0 0 t, stOk)
/-- A DMA address register written: it keeps the window base of tenancy 0 in effect (R507). -/
def dmaAddrWrite (f : Fld) (i t : Nat) (v : Word) (s : State) : Act :=
  let s := s.setWord f v i 0 t
  ({ s with ten := { s.ten with dmaBase := KMap.put (fun _ => 0) s.ten.dmaBase (f.key i 0 t) (s.get Reg.TEN_DRAM_WIN_BASE_GIB) } }, stOk)

/-! ## Holds (R505) -/

/-- Rank of a tenancy. -/
def State.rankOf (s : State) (t : Nat) : Nat := if t = 0 then 0 else (s.tenRec t).rank
/-- Whether a tenancy owns or may write an instance of the active image. -/
def State.mayWrite (s : State) (t id : Nat) : Bool :=
  s.imgHas (fun im => match im.inst id with
    | some i => i.ten = t || bit i.writers t
    | none => false)
/-- TEN_HOLD.RESULT. -/
def State.holdResult (s : State) (t r : Nat) : State := s.set Reg.TEN_HOLD_RESULT r 0 0 t
/-- TEN_HOLD.HOLD. -/
def actHold (t : Nat) (s : State) : Act :=
  let id := s.get Reg.TEN_HOLD_ID 0 0 t
  if !s.mayWrite t id then (s.holdResult t 3, stPerm)
  else
    let add (s : State) : Act :=
      (({ s with ten := { s.ten with holds := s.ten.holds.filter (fun h => h.2 ≠ id) ++ [(t, id)] } } : State).holdResult t 1, stOk)
    match s.ten.holds.find? (fun h => h.2 = id) with
    | some h =>
      if h.1 = t then (s.holdResult t 1, stOk)
      else if s.rankOf h.1 ≤ s.rankOf t ∨ 16 ≤ (s.ten.holds.filter (fun h => h.1 = t)).length then (s.holdResult t 2, stBusy)
      else add s
    | none => if 16 ≤ (s.ten.holds.filter (fun h => h.1 = t)).length then (s.holdResult t 2, stBusy) else add s
/-- TEN_HOLD.RELEASE. -/
def actHoldRelease (t : Nat) (s : State) : Act :=
  let id := s.get Reg.TEN_HOLD_ID 0 0 t
  if s.ten.holds.contains (t, id) then
    (({ s with ten := { s.ten with holds := s.ten.holds.filter (· ≠ (t, id)) } } : State).holdResult t 1, stOk)
  else (s.holdResult t 3, stBusy)
/-- Whether a hold bars a tenancy from an instance's parameter words. -/
def State.heldFrom (s : State) (t id : Nat) : Bool :=
  t ≠ 0 && s.ten.holds.any (fun h => h.2 = id && h.1 ≠ t && decide (s.rankOf h.1 < s.rankOf t))

/-! ## Semaphores (R517 to R520) -/

/-- A semaphore. -/
def State.sem (s : State) (n : Nat) : Sem := nth s.ten.sems n ⟨0, false⟩
/-- A semaphore replaced. -/
def State.setSem (s : State) (n : Nat) (x : Sem) : State := { s with ten := { s.ten with sems := setNth s.ten.sems n x } }
/-- The owner code of a path: a service core, a tenancy, or the debug port (R517). -/
def semCode (p : Path) (t : Nat) : Nat :=
  match p with
  | .debug => 16
  | .core c => 1 + c.val
  | _ => 8 + t
/-- The limits of R517 on who may acquire a semaphore. -/
def semAllowed (n code : Nat) : Bool := decide (16 ≤ n) || decide (code ≤ 4)
/-- A semaphore granted or shown to a reader: the word of TEN_SEMn, with the state after the read (R518). -/
def semTake (n code : Nat) (s : State) : State × Word :=
  let x := s.sem n
  if x.owner = 0 then (s.setSem n ⟨code, false⟩, BitVec.ofNat 32 (2 ^ 31 + b2n x.broken * 2 ^ 29 + code))
  else if x.owner = code then (s, BitVec.ofNat 32 (3 * 2 ^ 30 + code))
  else (s, BitVec.ofNat 32 x.owner)
/-- A semaphore freed by its lease, a watchdog restart or the debug port: the next grant is BROKEN (R520). -/
def semBreak (n : Nat) (s : State) : State :=
  if (s.sem n).owner = 0 then s
  else ((s.setSem n ⟨0, true⟩).int Reg.TEN_INT_STATUS_SEM_BROKEN).event.raise 0x84 0
/-- TEN_SEMn_REL (R519). -/
def actSemRel (n code : Nat) (s : State) : Act :=
  if (s.sem n).owner = code then (s.setSem n ⟨0, false⟩, stOk) else (s, stPerm)

/-! ## TEN registers that follow the state -/

/-- TEN_Tt_STATUS. -/
def State.tenStatus (s : State) (t : Nat) : Word :=
  let r := s.tenRec t
  BitVec.ofNat 32 (b2n (r.present = 1) * 2 ^ 31 + b2n (s.ten.evict.contains t) * 2 ^ 30 + r.rank % 256 * 256 + nth s.ten.overs t 0)
/-- TEN_Tt_USE0 to USE3. -/
def State.tenUseWord (s : State) (t k : Nat) : Word :=
  let u := s.tenUse t
  BitVec.ofNat 32 (match k with
    | 0 => u.cycles
    | 1 => u.stones
    | 2 => u.dramMib
    | _ => u.sendLanes * 65536 + u.paramWords)
/-- TEN_XLATEt_h. -/
def State.xlate (s : State) (t h : Nat) : Word :=
  match s.ten.allocs.find? (fun a => a.ten = t && a.handle = h) with
  | some a => BitVec.ofNat 32 (2 ^ 31 + a.offMib * 65536 + a.sizeMib)
  | none => 0#32

end Sys2Proof.Machine
end

