-- ==== Sys2Proof/Machine/Regs.lean ====
section
/-! DEFINITION. The register file seen by address: the row that an address names, a write of a register's RW fields as its
unit takes it, and what a REGS course may hold and does (R6, R7, R93 to R95). -/
namespace Sys2Proof.Machine
open Sys2Proof

/-! ## Rows -/

/-- The register list of a 64 KiB block of the address map. -/
def blockRegs (b : Nat) : List RegRow :=
  match b with
  | 0 => regRowsIdent
  | 1 => regRowsKs
  | 2 => regRowsImg
  | 3 => regRowsEng
  | 7 => regRowsMix
  | 8 => regRowsRing
  | 9 => regRowsPort
  | 10 => regRowsSbus
  | 11 => regRowsSap
  | 12 => regRowsAna
  | 13 => regRowsAux
  | 14 => regRowsClk
  | 15 => regRowsPwr
  | 16 => regRowsBst
  | 17 => regRowsTen
  | 18 => regRowsFlt
  | 19 => regRowsDom
  | 20 => regRowsDbg
  | _ => []
/-- The indexes of an address in a row's array. -/
def RegRow.at' (r : RegRow) (a : Nat) : Option (Nat × Nat) :=
  (List.range r.n2).findSome? (fun j =>
    let b := r.addr + r.s2 * j
    if a < b then none
    else
      let i := if r.s1 = 0 then r.f1 else (a - b) / r.s1
      if b + r.s1 * i = a ∧ r.f1 ≤ i ∧ i < r.f1 + r.n1 then some (i, j) else none)
/-- The row of an address with its indexes; none where no register is defined (R7). -/
def regFind (a : Nat) : Option (RegRow × Nat × Nat) :=
  (blockRegs (a / 65536)).findSome? (fun r => (r.at' a).map (fun ij => (r, ij.1, ij.2)))
/-- The whole word of a row as a field. -/
def RegRow.fld (r : RegRow) : Fld := ⟨r.addr, r.s1, r.s2, 31, 0, r.reset, r.own⟩
/-- The mask of the bits of a field type in a row. -/
def RegRow.mask (r : RegRow) (t : FldType) : Nat :=
  (r.fields.filter (fun f => f.1 = t)).foldl (fun a f => a ||| ((2 ^ (f.2.1 + 1 - f.2.2) - 1) * 2 ^ f.2.2)) 0

/-! ## A write of RW fields -/

/-- A field that ignores writes keeps its old value in a word about to be written. -/
def keepBits (old v : Word) (hi lo : Nat) : Word := BitVec.ofNat 32 (putBits v.toNat hi lo (bitsOf old.toNat hi lo))
/-- Channels of a converter are OFF or HELD (PWR_BSTk_CFG). -/
def State.pairIdle (s : State) (k : Nat) : Bool := decide (s.ch (2 * k) < 2) && decide (s.ch (2 * k + 1) < 2)
/-- A write of a register's RW fields by a tenancy, with the word that they and the other bits make: what each unit adds
to or refuses of it. -/
def regRw (r : RegRow) (i j t : Nat) (v : Word) (s : State) : Act :=
  let f := r.fld
  let old := s.word f i j t
  let plain : Act := (s.setWord f v i j t, stOk)
  match r.addr with
  -- IMG: the lock of R105; a write of a locked key completes with OK (DESIGN CHOICE, log entry 18)
  | 0x2003C => (s.setWord f (if bit old.toNat 1 then old else v) i j t, stOk)
  | 0x20100 => (if s.is Reg.IMG_SIG_LOCK then s else s.setWord f v i j t, stOk)
  -- MIX
  | 0x70024 => dmaAddrWrite f i t v s
  | 0x70050 => dmaAddrWrite f i t v s
  | 0x70070 => ovrCfgWrite v s
  -- RING
  | 0x80804 => ctlCfgWrite v s
  -- PORT and SBUS
  | 0x90000 => portCfgWrite i v s
  | 0x90080 => brCfgWrite v s
  | 0x90200 => aafCfgWrite i v s
  | 0xA0000 => sbusCfgWrite v s
  | 0xA0010 => dmaAddrWrite f i t (keepBits 0#32 v 10 0) s
  | 0xA0014 => sbusTxHead v s
  | 0xA0020 => dmaAddrWrite f i t (keepBits 0#32 v 10 0) s
  | 0xA0028 => sbusRxTail v s
  -- SAP (R433, R438, R440)
  | 0xB0000 => sapCfgWrite i v s
  | 0xB0020 => dmaCfgWrite false i v s
  | 0xB0024 => if s.is Reg.SAPn_CAP_CFG_EN i then (s, stBusy) else plain
  | 0xB0028 => if s.is Reg.SAPn_CAP_CFG_EN i then (s, stBusy) else dmaAddrWrite f i t v s
  | 0xB002C => if s.is Reg.SAPn_CAP_CFG_EN i then (s, stBusy) else plain
  | 0xB0034 => capRdWrite i v s
  | 0xB0050 => dmaCfgWrite true i v s
  | 0xB0054 => if s.is Reg.SAPn_PB_CFG_EN i then (s, stBusy) else plain
  | 0xB0058 => if s.is Reg.SAPn_PB_CFG_EN i then (s, stBusy) else dmaAddrWrite f i t v s
  | 0xB005C => if s.is Reg.SAPn_PB_CFG_EN i then (s, stBusy) else plain
  | 0xB0060 => pbWrWrite i v s
  -- ANA
  | 0xC0010 => adcCfgWrite i v s
  | 0xC0040 => if 2 ≤ i ∧ bitsOf v.toNat 1 0 = 3 then (s, stAccess) else plain
  | 0xC0080 => (jackShow (s.setWord f v i j t), stOk)
  | 0xC00A0 => aesCfgWrite v s
  -- AUX and CLK
  | 0xD0100 => auxCfgWrite i v s
  | 0xD0110 => auxGenWrite i v s
  | 0xE0040 => mclkWrite i v s
  -- PWR (R370)
  | 0xF0100 => if s.ch i < 2 then plain else (s, stBusy)
  | 0xF0104 => if s.ch i < 2 then plain else (s, stBusy)
  | 0xF0120 => if s.ch i < 2 ∧ s.is Reg.PWR_CHn_CFG_LOOP_MAN i then plain else (s, stBusy)
  | 0xF0800 => if s.pairIdle i then plain else (s, stBusy)
  -- BST (R390)
  | 0x100104 => if v.toNat % 4 = 0 ∧ bit s.served i then (s, stAccess) else plain
  -- TEN
  | 0x11003C => dramWinWrite t v s
  | 0x110104 => (if i = 0 then s else s.setWord f v i j t, stOk)
  | 0x110108 => capWrite f i v s
  | 0x11010C => capWrite f i v s
  | 0x110110 => capWrite f i v s
  | 0x110114 => capWrite f i v s
  -- FLT (R529, R530)
  | 0x120044 => dmaAddrWrite f i t v s
  | 0x120400 =>
    if (sourceRow i).isNone ∨ i < 3 then (s, stOk)
    else ({ s with flt := { s.flt with clsPend := s.flt.clsPend ++ [(i, bitsOf v.toNat 25 24)] } }, stOk)
  -- DOM and DBG
  | 0x130100 => domCfgWrite i v s
  | 0x140000 => (s.setWord f (if bit old.toNat 2 then BitVec.ofNat 32 (putBits v.toNat 2 2 1) else v) i j t, stOk)
  | _ => plain

/-! ## The REGS course (R93, R94) -/

/-- The ranges that the register lists state: register, field bits, least and largest value. -/
def regRanges : List (Nat × Nat × Nat × Nat × Nat) := [
  (0x90000, 3, 1, 0, 4), (0x90008, 27, 16, 10, 3600), (0x90008, 15, 8, 10, 95), (0x90008, 7, 0, 5, 90), (0x9000C, 25, 16, 1, 1000),
  (0x9000C, 15, 0, 100, 60000), (0x90200, 28, 22, 1, 64), (0x90214, 13, 0, 250, 10000), (0xA0000, 23, 16, 16, 255),
  (0xA0000, 11, 8, 1, 8), (0xB0000, 25, 24, 0, 2), (0xB0000, 19, 18, 0, 2), (0xB0000, 17, 16, 0, 2), (0xB0000, 5, 0, 2, 32),
  (0xB002C, 19, 0, 2, 1048575), (0xB005C, 19, 0, 2, 1048575), (0xC0040, 28, 16, 32, 4096)] ++ [
  (0xD0100, 25, 24, 0, 2), (0xD0100, 15, 0, 1, 65535), (0xD0110, 31, 29, 0, 4), (0xE0020, 24, 16, 1, 500), (0xE0020, 13, 0, 1, 10000),
  (0xE0024, 6, 0, 1, 100), (0xE0100, 15, 8, 4, 255), (0xF0008, 29, 28, 0, 2), (0xF0008, 27, 26, 0, 2), (0xF0008, 22, 16, 1, 100),
  (0xF000C, 25, 16, 384, 768), (0xF000C, 9, 0, 384, 768), (0xF001C, 7, 0, 5, 50), (0xF0100, 30, 18, 8, 4096),
  (0xF0100, 16, 8, 20, 270), (0xF0100, 7, 0, 4, 112), (0xF0800, 7, 0, 8, 80)] ++ [
  (0x100040, 31, 24, 1, 100), (0x100040, 23, 16, 40, 135), (0x100040, 7, 0, 0, 40), (0x100104, 23, 16, 5, 100),
  (0x100104, 12, 4, 10, 500), (0x100108, 31, 16, 100, 65535), (0x100108, 15, 0, 1, 65535), (0x10010C, 31, 16, 1, 65535),
  (0x10010C, 15, 0, 1, 65535), (0x100110, 31, 16, 1, 65535), (0x100110, 15, 0, 1, 65535), (0x100114, 31, 24, 60, 250),
  (0x100114, 15, 0, 500, 65535), (0x100128, 31, 24, 1, 50), (0x100300, 31, 24, 1, 50), (0x100310, 15, 8, 0, 80),
  (0x100310, 7, 4, 1, 12), (0x100310, 3, 0, 3, 15), (0x100314, 31, 16, 100, 10000), (0x100314, 15, 0, 100, 10000), (0x100400, 23, 16, 1, 100)]
/-- The further conditions on a value: ranges that allow 0 as well, signed ranges, and ties within one register. -/
def valueOk (s : State) (im : Image) (r : RegRow) (i v : Nat) : Bool :=
  let between (lo hi : Int) (x : Int) : Bool := decide (lo ≤ x) && decide (x ≤ hi)
  match r.addr with
  | 0x90000 => i ≠ 2 || (bitsOf v 3 1 ≠ 1 && bitsOf v 3 1 ≠ 4)
  | 0x90008 => decide (bitsOf v 7 0 < bitsOf v 15 8)
  | 0xB0000 => decide (bitsOf v 17 16 ≤ bitsOf v 19 18)
  | 0xC0010 => decide (2 ≤ i) || decide (bitsOf v 5 0 ≤ 60)
  | 0xC0040 => decide (i < 2) || bitsOf v 1 0 ≠ 3
  | 0xB0028 => v % 64 = 0
  | 0xB0058 => v % 64 = 0
  | 0xE0040 => s.mclkOk (BitVec.ofNat 32 v)
  | 0xF000C => decide (bitsOf v 9 0 ≤ bitsOf v 25 16)
  | 0xF0040 => v = 0 || between 100 4000 v
  | 0x100008 => between (-550) 1250 (sext 16 (bitsOf v 15 0))
  | 0x100040 => decide (wMin im.rate ≤ bitsOf v 15 8)
  | 0x100100 => between (-96) 96 (sext 8 (bitsOf v 15 8)) && (bit v 7 || im.taps.any (fun t => t.lane = bitsOf v 6 0))
  | 0x100118 => bitsOf v 31 16 = 0 || between 20 5000 (bitsOf v 31 16)
  | _ => true
/-- What the course may do to an address: 0 accepted, 1 not a register of R93, 2 a value that R94 refuses. -/
def State.regRule (s : State) (im : Image) (a v : Nat) : Nat :=
  if a < 0x90000 ∨ 0x110000 ≤ a then 1
  else match regFind a with
  | none => 1
  | some (r, i, _) =>
    if r.fields = [] ∨ r.fields.any (fun f => f.1 ≠ .rw) ∨ (r.writers ≠ .owner ∧ r.writers ≠ .avdecc) ∨
        r.addr = 0xB0034 ∨ r.addr = 0xB0060 then 1
    else if v &&& r.mask .rw ≠ v then 2
    else if regRanges.any (fun g => g.1 = r.addr && (decide (bitsOf v g.2.1 g.2.2.1 < g.2.2.2.1) || decide (g.2.2.2.2 < bitsOf v g.2.1 g.2.2.1))) then 2
    else if valueOk s im r i v then 0 else 2
/-- The value that a register will hold once the course of an image has been applied (R94). -/
def State.afterCourse (s : State) (im : Image) (f : Fld) (i : Nat) (j : Nat) : Nat :=
  match regsLast im.regs (f.key i j 0) with
  | some v => v
  | none =>
    let now := (s.word f i j).toNat
    if f.addr / 65536 = 15 then (if s.linkOk then now else (f.resetWord i 0).toNat)
    else match addrDomain f.addr with
    | some d =>
      if s.domAt d ≠ 3 then now
      else
        let h := s.saveHead d
        match (indexed (saveList d)).find? (fun x => x.2.1.1.key x.2.1.2.1 x.2.1.2.2.1 0 = f.key i j 0) with
        | some x =>
          let rst := (f.resetWord i 0).toNat
          if h.2.2.1 && h.1 = im.epoch then rst - (rst &&& x.2.2) + (leVal (Mem.rdN s.mem.foot (0x400 * d + 4 * x.1) 4) &&& x.2.2) else rst
        | none => now
    | none => now
/-- A field of that value. -/
def State.fieldAfter (s : State) (im : Image) (f : Fld) (i : Nat := 0) (j : Nat := 0) : Nat := bitsOf (s.afterCourse im f i j) f.hi f.lo
/-- The filter table of R342: least and largest L in nH, C in nF and corner in Hz for a switching mode. -/
def filterOk (mode l c : Nat) : Bool :=
  let t := if mode = 0 then (3300, 6800, 470, 2200, 50000, 160000) else (10000, 22000, 1000, 4700, 25000, 75000)
  let pi : Rat := (piFix : Rat) / 2 ^ 120
  let x : Rat := 2 * pi * pi * ((l * c : Nat) : Rat) / 10 ^ 18
  let sq (f : Nat) : Rat := 1 / (((f * f : Nat) : Rat))
  decide (t.1 ≤ l) && decide (l ≤ t.2.1) && decide (t.2.2.1 ≤ c) && decide (c ≤ t.2.2.2.1) &&
    decide (x ≤ sq t.2.2.2.2.1) && decide (sq t.2.2.2.2.2 ≤ x)
/-- The setting of an AAF stream that the course names, or that is enabled once it has been applied, keeps R314. -/
def State.aafCourseOk (s : State) (im : Image) (i : Nat) : Bool :=
  let on (k : Nat) : Bool := s.fieldAfter im Reg.PORT_AAFs_CFG_EN k = 1
  let ch (k : Nat) : Nat := s.fieldAfter im Reg.PORT_AAFs_CFG_CHANNELS k
  let rate := s.fieldAfter im Reg.PORT_AAFs_CFG_RATE i
  let need := ((im.insts.filter (fun x => x.isEndpoint && x.port = (if i < 8 then 3 else 4) && x.unit = i % 8)).map
    (fun x => x.first + x.chans)).foldl max 0
  let dir := i / 8
  let named := (regsLast im.regs (Reg.PORT_AAFs_CFG.key i 0 0)).isSome
  !(on i || named) || (decide (ch i ≤ aafMax (s.fieldAfter im Reg.PORT_AAFs_CFG_FMT i) rate) && decide (need ≤ ch i) && rate = im.rate &&
    decide ((((List.range 8).map (fun k => dir * 8 + k)).filter on).foldl (fun a k => a + ch k) 0 ≤ 64))
/-- A serial audio port that leads once the course has been applied keeps the limits of R426 to R428 at the image's rate. -/
def State.sapCourseOk (s : State) (im : Image) (n : Nat) : Bool :=
  let g (f : Fld) : Nat := s.fieldAfter im f n
  let k := if g Reg.SAPn_CFG_FORMAT = 1 then g Reg.SAPn_CFG_SLOTS else 2
  let sb := g Reg.SAPn_CFG_SLOT_BITS
  let cap := if im.rate = 0 then 32 else if im.rate = 1 then 16 else 8
  g Reg.SAPn_CFG_EN = 0 || (decide (g Reg.SAPn_CFG_DATA_BITS ≤ sb) && sb ≠ 3 && g Reg.SAPn_CFG_FS_WIDTH ≠ 3 && decide (2 ≤ k) &&
    (g Reg.SAPn_CFG_LEADER = 0 || (decide (k ≤ cap) && decide (rateHz im.rate * k * widthBits sb ≤ 49152000))))
/-- A DMA of a serial audio port that is enabled once the course has been applied keeps R440. -/
def State.dmaCourseOk (s : State) (im : Image) (n : Nat) : Bool :=
  let g (f : Fld) : Nat := s.fieldAfter im f n
  (g Reg.SAPn_CAP_CFG_EN = 0 || s.dmaFits n Reg.SAPn_CAP_BASE (g Reg.SAPn_CAP_MASK) (g Reg.SAPn_CAP_BASE) (g Reg.SAPn_CAP_FRAMES_FRAMES)
    (g Reg.SAPn_CAP_CFG_PACK = 1)) &&
  (g Reg.SAPn_PB_CFG_EN = 0 || s.dmaFits n Reg.SAPn_PB_BASE (g Reg.SAPn_PB_MASK) (g Reg.SAPn_PB_BASE) (g Reg.SAPn_PB_FRAMES_FRAMES)
    (g Reg.SAPn_PB_CFG_PACK = 1))
/-- The combination rules of R94: R342, R355, R356, R314, R428, R440 and the window of the station list. -/
def State.combosOk (s : State) (im : Image) : Bool :=
  let mode := s.fieldAfter im Reg.PWR_SW_CFG_MODE
  let ssc := s.fieldAfter im Reg.PWR_SW_CFG_SSC
  let fr := s.fieldAfter im Reg.PWR_SW_CFG_FREQ_KHZ
  let named (n : Nat) : Bool := (regsLast im.regs (Reg.PWR_CHn_FILT.key n 0 0)).isSome
  (if mode = 1 then ssc = 0
   else match ssc with
    | 0 => decide (1920 ≤ fr) && decide (fr ≤ 2400)
    | 1 => decide (1960 ≤ fr) && decide (fr ≤ 2352)
    | 2 => decide (2000 ≤ fr) && decide (fr ≤ 2400)
    | _ => false) &&
  decide (s.fieldAfter im Reg.PWR_SW_WIN_F_MIN ≤ s.fieldAfter im Reg.PWR_SW_WIN_F_MAX) &&
  (List.range 8).all (fun n => !(bit im.served n || named n) ||
    filterOk mode (s.fieldAfter im Reg.PWR_CHn_FILT_L_NH n) (s.fieldAfter im Reg.PWR_CHn_FILT_C_NF n)) &&
  (List.range 16).all (s.aafCourseOk im) && (List.range 3).all (s.sapCourseOk im) &&
  (List.range 3).all (s.dmaCourseOk im)
/-- A record of a REGS course applied: the register takes the value, and a unit that is enabled is stopped first, so that
its settings can change. One of the PWR block crosses the barrier as any register write does (R369), and waits for a link that is down
(log entry 37); the settings of AAF streams were judged together (R94, R314). -/
def applyReg (a v : Nat) (s : State) : State :=
  match regFind a with
  | none => s
  | some (r, i, j) =>
    let s := match r.addr with
      | 0xB0000 => s.setB Reg.SAPn_CFG_EN false i
      | 0xB0020 => s.setB Reg.SAPn_CAP_CFG_EN false i
      | 0xB0024 => s.setB Reg.SAPn_CAP_CFG_EN false i
      | 0xB0028 => s.setB Reg.SAPn_CAP_CFG_EN false i
      | 0xB002C => s.setB Reg.SAPn_CAP_CFG_EN false i
      | 0xB0050 => s.setB Reg.SAPn_PB_CFG_EN false i
      | 0xB0054 => s.setB Reg.SAPn_PB_CFG_EN false i
      | 0xB0058 => s.setB Reg.SAPn_PB_CFG_EN false i
      | 0xB005C => s.setB Reg.SAPn_PB_CFG_EN false i
      | 0xD0100 => if bitsOf v 29 28 = s.get Reg.AUXn_CFG_SPAN i then s else (auxEmpty i (auxOff i s)).setB Reg.AUXn_CFG_EN false i
      | _ => s
    if r.addr / 65536 = 15 then { s with pwr := { s.pwr with reqs := s.pwr.reqs ++ [⟨true, a, BitVec.ofNat 32 v, .course⟩] } }
    else if r.addr = 0x90200 then aafSet i (BitVec.ofNat 32 v) s
    -- the new image serves other channels than the one that stops (R95, R390)
    else if r.addr = 0x100104 then s.setWord r.fld (BitVec.ofNat 32 v) i j
    else (regRw r i j 0 (BitVec.ofNat 32 v) s).1

end Sys2Proof.Machine
end

