-- ==== Sys2Proof/Machine/Mix.lean ====
section
/-! DEFINITION. Parameters and their safe-load swaps, meter latches, coefficient loads, the recorder's commands and the message
store (R168 to R172, R178, R188 to R196, R202, R204, R205, R610). -/
namespace Sys2Proof.Machine
open Sys2Proof

/-! ## Spaces and their words (R168 to R171) -/

/-- The instance of a space whose range holds word w. -/
def Image.paramInst (im : Image) (ten w : Nat) : Option Inst :=
  im.insts.find? (fun i => i.ten = ten && decide (i.paramBase ≤ w) && decide (w < i.paramBase + i.paramWords))
/-- The word of an instance in effect. -/
def State.parWord (s : State) (x : Inst) (k : Nat) : Word := nth (s.instSt x.id).par k 0#32
/-- The shadow bank's address of word w of a space, in an image of class L. -/
def Image.shadowAddr (im : Image) (ten w : Nat) : Option Nat :=
  if im.cls = 0 then none
  else (im.regions.find? (fun r => r.kind = 6 && r.ten = ten)).map (fun r => r.off + 4 * w)
/-- Whether a tenancy may read the words of an instance (R171, R196). -/
def Inst.readable (x : Inst) (t : Nat) : Bool := t = 0 || x.ten = t || bit x.writers t
/-- A read of word w of the PARAM page or, with `shadow`, of the SHADOW page (R171). -/
def paramRead (t w : Nat) (shadow : Bool) (s : State) : State × Nat × Word :=
  let sp := s.get Reg.MIX_VIEW_TEN 0 0 t
  match s.img.active with
  | none => (s, if t = 0 then stOk else stPerm, 0#32)
  | some im => match im.paramInst sp w with
    | none => (s, if t = 0 then stOk else stPerm, 0#32)
    | some x =>
      if !x.readable t then (s, stPerm, 0#32)
      else match (if shadow then im.shadowAddr sp w else none) with
        | none => (s, stOk, s.parWord x (w - x.paramBase))
        | some a =>
          let (s, ok) := s.eccRead 1 a 4
          (s.fresh.2, stOk, if ok then Mem.word s.mem.sram a else Config.badRead s.free)
/-- The words of an instance as they will stand at the next tick boundary (R11, R610). -/
def State.parNext (s : State) (x : Inst) : List Word :=
  (s.mix.pendS.filter (fun p => p.1 = x.id)).foldl (fun ws p => setNth ws p.2.1 p.2.2) (s.instSt x.id).par
/-- A write refused for its value (R170). -/
def mixReject (t : Nat) (s : State) : Act := ((s.inc Reg.MIX_REJECT 0 0 t).int Reg.MIX_INT_STATUS_REJECT, stAccess)
/-- A write of `n` bytes at byte `o` of word w of the PARAM page (R170, R172, R188, R505, R610). -/
def paramWrite (t w o n v : Nat) (s : State) : Act :=
  let sp := s.get Reg.MIX_VIEW_TEN 0 0 t
  match s.img.active with
  | none => (s, stPerm)
  | some im => match im.paramInst sp w with
    | none => (s, stPerm)
    | some x =>
      if !bit x.writers t ∨ s.heldFrom t x.id then (s, stPerm)
      else if s.stage = 3 ∨ s.stage = 4 then (s, stBusy)
      else
        let k := w - x.paramBase
        let merge (old : Word) : Word := BitVec.ofNat 32 (putBits old.toNat (8 * (o + n) - 1) (8 * o) v)
        let rng := x.range im.cls im.rate k
        match im.shadowAddr sp w with
        | none =>
          let now := s.parNext x
          let new := merge (nth now k 0#32)
          if !rng.ok new || !x.tiesOk (setNth now k (rng.norm new)) then mixReject t s
          else ({ s with mix := { s.mix with pendS := s.mix.pendS ++ [(x.id, k, rng.norm new)] } }, stOk)
        | some a =>
          let new := merge (Mem.word s.mem.sram a)
          if !rng.ok new then mixReject t s
          else
            let s := s.sramWrite a (leBytes 4 (rng.norm new).toNat)
            ({ s with mix := { s.mix with swaps := modNth s.mix.swaps sp (fun x => { x with pend := true }) } }, stOk)
/-- The writes of class S that waited for the tick boundary take effect (R11). -/
def paramTick (s : State) : State :=
  let s := s.mix.pendS.foldl (fun s p =>
    let i := s.instSt p.1
    let s := s.putInst { i with par := setNth i.par p.2.1 p.2.2 }
    match s.imgInst p.1 with
      | some x => s.localWrote x 1
      | none => s) s
  { s with mix := { s.mix with pendS := [] } }

/-! ## Swaps (R189 to R192, R610) -/

/-- A space's swap. -/
def State.swap (s : State) (sp : Nat) : Swap := nth s.mix.swaps sp Swap.idle
/-- A space's swap changed. -/
def State.modSwap (s : State) (sp : Nat) (f : Swap → Swap) : State := { s with mix := { s.mix with swaps := modNth s.mix.swaps sp f } }
/-- G of a space (R190). -/
def Image.swapG (im : Image) (sp : Nat) : Nat := 2 + ceilDiv (nth im.tens sp TenCfg.absent).paramWords 4096
/-- A pending or staging swap cancelled. -/
def State.swapDrop (s : State) (sp : Nat) : State :=
  (s.modSwap sp (fun x => { x with state := 5, on := false, bank := [] })).int Reg.MIX_INT_STATUS_SWAP_LATE
/-- Whether a swap of a space is pending or staging. -/
def Swap.live (x : Swap) : Bool := x.on || x.state = 2
/-- A space that a tenancy may swap: it contains an instance that the tenancy owns or may write. -/
def Image.maySwap (im : Image) (t sp : Nat) : Bool := im.insts.any (fun i => i.ten = sp && (sp = t || bit i.writers t))
/-- MIX_SWAP_CTRL.ARM; one that is LATE leaves a pending swap armed (R53, R190). -/
def actSwapArm (t : Nat) (s : State) : Act :=
  let sp := s.get Reg.MIX_SWAP_CTRL_TEN 0 0 t
  match s.img.active with
  | none => (s, stBusy)
  | some im =>
    let x := s.swap sp
    if im.cls = 0 then (s, stBusy)
    else if !im.maySwap t sp then (s, stPerm)
    else if x.state = 2 ∨ (x.on ∧ x.by' ≠ t) then (s, stBusy)
    else
      let tgt := s.get64 Reg.MIX_SWAP_TICK_LO Reg.MIX_SWAP_TICK_HI 0 t
      if tgt ≤ s.ks.count + im.swapG sp then 
        ((s.modSwap sp (fun x => { x with state := 4, by' := t })).int Reg.MIX_INT_STATUS_SWAP_LATE, stOk)
      else (s.modSwap sp (fun x => { x with state := 1, on := true, by' := t, target := tgt }), stOk)
/-- MIX_SWAP_CTRL.DISARM. -/
def actSwapDisarm (t : Nat) (s : State) : Act :=
  let sp := s.get Reg.MIX_SWAP_CTRL_TEN 0 0 t
  (if (s.swap sp).on ∧ (s.swap sp).by' = t then s.swapDrop sp else s, stOk)
/-- The instances of a space. -/
def State.spaceInsts (s : State) (sp : Nat) : List Inst :=
  match s.img.active with
  | some im => im.insts.filter (fun i => i.ten = sp && decide (0 < i.paramWords))
  | none => []
/-- MIX_SWAP_CTRL.REVERT (R191); while REBUILDING, when the shadow banks of the new image are placed, it completes with BUSY (DESIGN
CHOICE, log entry 76). -/
def actSwapRevert (t : Nat) (s : State) : Act :=
  let sp := s.get Reg.MIX_SWAP_CTRL_TEN 0 0 t
  match s.img.active with
  | none => (s, stBusy)
  | some im =>
    if im.cls = 0 ∨ (s.swap sp).state = 2 ∨ s.stage = 4 then (s, stBusy)
    else if !im.maySwap t sp then (s, stPerm)
    else
      let s := (s.spaceInsts sp).foldl (fun s x => match im.shadowAddr sp x.paramBase with
        | some a => s.sramWrite a ((s.instSt x.id).par.flatMap (fun w => leBytes 4 w.toNat))
        | none => s) s
      (s.modSwap sp (fun x => { x with pend := false }), stOk)
/-- The words of an instance in a bank taken. -/
def Inst.bankOf (x : Inst) (bank : List Word) : List Word := (bank.drop x.paramBase).take x.paramWords
/-- The head of T − G: the shadow bank is taken, judged, and copied to the inactive local banks (R190, R610); a space without
parameter words has none to take. A rebuild, which stops the image, lets no swap stage (log entry 76). -/
def swapStage (sp : Nat) (s : State) : State :=
  match s.img.active with
  | none => s
  | some im =>
    let x := s.swap sp
    if !x.on ∨ s.stage = 4 ∨ s.ks.count + im.swapG sp < x.target then s
    else match im.shadowAddr sp 0 with
      | none => s.modSwap sp (fun x => { x with state := 2, on := false, bank := [], pend := false, held := false })
      | some a =>
        let n := (nth im.tens sp TenCfg.absent).paramWords
        let (s, ok) := s.eccRead 1 a (4 * n) (some 0)
        let bank := (List.range n).map (fun k =>
          if ok || !(s.eccIn 1 (a + 4 * k) 4).any (·.dbl) then Mem.word s.mem.sram (a + 4 * k) else 0#32)
        let bad := (s.spaceInsts sp).filter (fun i => !i.tiesOk (i.bankOf bank))
        let s := (s.spaceInsts sp).foldl (fun s i => if bad.contains i then s else
          let st := s.instSt i.id; (s.putInst { st with alt := i.bankOf bank }).localWrote i 2) s
        let s := s.modSwap sp (fun x => { x with state := 2, on := false, bank := bank, pend := false, held := bad ≠ [] })
        if bad = [] then s else s.int Reg.MIX_INT_STATUS_REJECT
/-- Position 4 of the head of T: every instance of the space changes bank, but for those whose set breaks a tie. -/
def swapFire (sp : Nat) (s : State) : State :=
  let x := s.swap sp
  if x.state ≠ 2 ∨ s.ks.count < x.target then s
  else
    let s := (s.spaceInsts sp).foldl (fun s i => if !i.tiesOk (i.bankOf x.bank) then s else
      let st := s.instSt i.id; s.putInst { st with par := st.alt, alt := st.par }) s
    (s.modSwap sp (fun x => { x with state := 3, bank := [] })).int Reg.MIX_INT_STATUS_SWAP_DONE
/-- Every swap that is pending or staging cancelled; answers whether there was one. -/
def swapCancel (s : State) : State × Bool :=
  (s.forN 8 (fun s sp => if (s.swap sp).live then s.swapDrop sp else s), s.mix.swaps.any (·.live))
/-- MIX_SWAP_STATUS of the space that a tenancy views. -/
def State.swapStatus (s : State) (t : Nat) : Word :=
  let x := s.swap (s.get Reg.MIX_VIEW_TEN 0 0 t)
  BitVec.ofNat 32 (x.by' * 65536 + b2n x.held * 16 + b2n x.pend * 8 + x.state)

/-! ## Meter latches (R194 to R196) -/

/-- MIX_LATCH_CTRL.ARM; one that is LATE leaves a pending latch armed (R53). -/
def actLatchArm (s : State) : Act :=
  let tgt := s.get64 Reg.MIX_LATCH_TICK_LO Reg.MIX_LATCH_TICK_HI
  if tgt ≤ s.ks.count then (s.set Reg.MIX_LATCH_CTRL_STATE 3, stOk)
  else (({ s with mix := { s.mix with latchOn := true, latchTgt := tgt } } : State).set Reg.MIX_LATCH_CTRL_STATE 1, stOk)
/-- A pending latch cancelled; answers whether there was one. -/
def latchCancel (s : State) : State × Bool :=
  if s.mix.latchOn then (({ s with mix := { s.mix with latchOn := false } } : State).set Reg.MIX_LATCH_CTRL_STATE 4, true)
  else (s, false)
/-- Whether a latch is due. -/
def State.latchDue (s : State) : Bool := s.mix.latchOn && decide (s.mix.latchTgt ≤ s.ks.count)
/-- The latch that is due, once with a snapshot of the same tick (R195). -/
def latchFire (snap : Bool) (s : State) : State :=
  let due := s.latchDue
  let s := if due || snap then meterLatch s else s
  if due then ({ s with mix := { s.mix with latchOn := false } } : State).set Reg.MIX_LATCH_CTRL_STATE 2 else s
/-- MIX_LATCH_CTRL.HOLD_CLR. -/
def actHoldClr (s : State) : Act := ({ s with mix := { s.mix with holdClr := true } }, stOk)
/-- A read of a meter record's word: the records of other tenancies' meters read 0 (R196). -/
def meterRead (t o : Nat) (s : State) : State × Nat × Word :=
  match s.img.active with
  | none => (s, stOk, 0#32)
  | some im =>
    let j := o / 32
    match im.insts.find? (fun x => x.kind = 0x0E && decide (meterBase im.insts x.id ≤ j) && decide (j < meterBase im.insts x.id + x.nIn)) with
    | none => (s, stOk, 0#32)
    | some x =>
      if !x.readable t then (s, stOk, 0#32)
      else
        let a := im.regOff 5 + o
        let (s, ok) := s.eccRead 1 a 4
        (s.fresh.2, stOk, if ok then Mem.word s.mem.sram a else Config.badRead s.free)

/-! ## Coefficient loads (R178) -/

/-- MIX_PFIR_CTRL.RESULT of a tenancy. -/
def State.pfirResult (s : State) (t r : Nat) : State := s.set Reg.MIX_PFIR_CTRL_RESULT r 0 0 t
/-- MIX_PFIR_CTRL.LOAD. -/
def actPfirLoad (t : Nat) (s : State) : Act :=
  let id := s.get Reg.MIX_PFIR_CTRL_ID 0 0 t
  let ch := s.get Reg.MIX_PFIR_CTRL_CH 0 0 t
  let a := s.get Reg.MIX_PFIR_SRC 0 0 t
  let off := a - 0x40000000 + KMap.get (fun _ => 0) s.ten.dmaBase (Reg.MIX_PFIR_SRC.key 0 0 t) * 2 ^ 30
  match (match s.img.active with
    | some im => im.inst id
    | none => none) with
  | none => (s.pfirResult t 2, stBusy)
  | some x =>
    let n := 16384 * x.kver
    if s.mix.pfir.isNone && bit x.writers t && x.kind = 0x05 && decide (ch < x.nIn) && a % 64 = 0 && decide (0x40000000 ≤ a) &&
        decide (a + n ≤ 2 ^ 32) && s.poolCovered t 16 off (off + n) then
      let i := s.instSt id
      let s := s.putInst (i.setFade ch (fadeOut (i.pfirFade ch)))
      ({ s with mix := { s.mix with pfir := some ⟨t, id, ch, 2 ^ 33 * t + off⟩ } }, stOk)
    else (s.pfirResult t 2, stBusy)
/-- A load completes once the channel has faded out: the taps are taken from DRAM and the channel fades in. -/
def pfirDone (s : State) : State :=
  match s.mix.pfir with
  | none => s
  | some l =>
    let i := s.instSt l.id
    match (match s.img.active with
      | some im => im.inst l.id
      | none => none) with
    | none => s
    | some x =>
      if (i.pfirFade l.ch).1 ≠ 2 then s
      else
        let n := 4096 * x.kver
        let (s, _) := s.eccRead 2 l.src (4 * n)
        let taps := (List.range n).map (fun k => if (s.eccIn 2 (l.src + 4 * k) 4).any (·.dbl) then 0#32 else Mem.word s.mem.dram (l.src + 4 * k))
        let fs := i.fs ++ List.replicate (n * x.nIn - i.fs.length) 0#32
        let i := i.setFade l.ch (3, 0, 0)
        let s := (s.putInst { i with fs := fs.take (l.ch * n) ++ taps ++ fs.drop (l.ch * n + n) }).localWrote x 4
        (({ s with mix := { s.mix with pfir := none } } : State).pfirResult l.ten 1).int Reg.MIX_INT_STATUS_PFIR_DONE
/-- A load whose image stops is refused. -/
def pfirCancel (s : State) : State :=
  match s.mix.pfir with
  | some l => (({ s with mix := { s.mix with pfir := none } } : State).pfirResult l.ten 2).int Reg.MIX_INT_STATUS_PFIR_DONE
  | none => s

/-! ## Converters and the recorder -/

/-- MIX_SRC_STAT and MIX_SRC_RATIO of the converter that a tenancy selects. -/
def State.srcShown (s : State) (t : Nat) : Option Src :=
  let id := s.get Reg.MIX_SRC_SEL_ID 0 0 t
  if t = 0 || s.mayWrite t id then s.mix.srcs.find? (fun c => c.id = id) else none
/-- MIX_SRC_STAT. -/
def State.srcStat (s : State) (t : Nat) : Word :=
  match s.srcShown t with
  | some c => BitVec.ofNat 32 (2 ^ 31 + b2n (c.phase ≠ 0) * 2 ^ 30 + b2n c.locked * 2 ^ 29 + b2n c.absent * 2 ^ 28 + c.resync)
  | none => 0#32
/-- MIX_SRC_RATIO. -/
def State.srcRatio (s : State) (t : Nat) : Word :=
  match s.srcShown t with
  | some c => BitVec.ofNat 32 c.ratio
  | none => 0#32
/-- MIX_REC_CTRL.RUN (R202): nothing runs without an image. -/
def actRecRun (s : State) : Act :=
  if s.get Reg.MIX_REC_STATUS_STATE = 0 then (s, stBusy) else (s.set Reg.MIX_REC_STATUS_STATE 1, stOk)

/-! ## The message store (R204, R205) -/

/-- A message of the store; one that is not stored is EMPTY. -/
def State.msg (s : State) (n : Nat) : Msg := (s.mix.msgs.find? (fun m => m.number = n)).getD ⟨n, 0, []⟩
/-- A message replaced; an EMPTY one leaves the store. -/
def State.putMsg (s : State) (m : Msg) : State :=
  let rest := s.mix.msgs.filter (fun x => x.number ≠ m.number)
  { s with mix := { s.mix with msgs := if m.state = 0 then rest else rest ++ [m] } }
/-- Bytes stored. -/
def State.msgUsed (s : State) : Nat := (s.mix.msgs.map (fun m => m.bytes.length)).sum
/-- Whether a player plays a message, or the announcement is that message (R205). -/
def State.msgPlayed (s : State) (n : Nat) : Bool :=
  s.announcing = some n || s.imgHas (fun im => s.is Reg.ENG_STATUS_RUN && im.insts.any (fun x =>
    x.kind = 0x12 && nth (s.instSt x.id).ns 1 0 = n && nth (s.instSt x.id).ns 2 0 ≠ 0))
/-- An operation recorded as running. -/
def State.msgStart (s : State) (op n : Nat) : State := { s with mix := { s.mix with msgOp := some (op, n) } }
/-- OPEN (1), DELETE (2) or VERIFY (3) of a message starts; CLOSE (0) is done at once. -/
def msgOp (op n : Nat) (s : State) : Act :=
  let m := s.msg n
  if n = 0 then (s, stAccess)
  else if s.mix.msgOp.isSome then (s, stBusy)
  else match op with
    | 0 => if m.state = 1 then ((s.putMsg { m with state := 2 }).int Reg.MIX_INT_STATUS_MSG_DONE, stOk) else (s, stBusy)
    | 1 => if s.msgPlayed n then (s, stBusy) else ((s.putMsg ⟨n, 1, []⟩).msgStart op n, stOk)
    | 2 => if s.msgPlayed n then (s, stBusy) else (s.msgStart op n, stOk)
    | _ => if 2 ≤ m.state then (s.msgStart op n, stOk) else (s, stBusy)
/-- Bytes appended to a message that is OPEN and on which no operation runs, while the store has room (R205). -/
def msgAppend (n : Nat) (bs : List Byte) (s : State) : State :=
  let m := s.msg n
  if n ≠ 0 && m.state = 1 && !s.mix.msgOp.any (fun o => o.2 = n) && decide (s.msgUsed + bs.length ≤ 268435456) then s.putMsg { m with bytes := m.bytes ++ bs } else s
/-- Whether the header and DATA_CRC of a message hold (R204). -/
def msgGood (b : List Byte) : Bool :=
  let n := leAt b 8 4 * leAt b 5 1 * 3
  slice b 0 4 = [0x4D#8, 0x53#8, 0x47#8, 0x31#8] && decide (leAt b 4 1 ≤ 2) && (leAt b 5 1 = 1 || leAt b 5 1 = 2) &&
    decide (32 + n ≤ b.length) && crc32c (slice b 32 n) = leAt b 12 4
/-- The operation under way completes. -/
def msgDone (s : State) : State :=
  match s.mix.msgOp with
  | none => s
  | some (op, n) =>
    let m := s.msg n
    let s : State := { s with mix := { s.mix with msgOp := none } }
    let s := if op = 2 then s.putMsg ⟨n, 0, []⟩
      else if op = 3 then s.putMsg { m with state := if msgGood m.bytes then 3 else 4 } else s
    s.int Reg.MIX_INT_STATUS_MSG_DONE
/-- MIX_MSG_STATUS of a message. -/
def State.msgStatus (s : State) (n : Nat) : Word :=
  BitVec.ofNat 32 ((256 - ceilDiv s.msgUsed 1048576) * 65536 + s.get Reg.MIX_MSG_STATUS_FAILS * 256 + b2n s.mix.msgOp.isSome * 8 +
    (if n = 0 then 0 else (s.msg n).state))

end Sys2Proof.Machine
end

