-- ==== Sys2Proof/Machine/Stage.lean ====
section
/-! DEFINITION. Image slots, loading and validation, arming, rebuild, activation and deactivation, steps of KS_COUNT, and KS
alarms (R40 to R47, R53, R69 to R73, R106 to R121, R566, R613). -/
namespace Sys2Proof.Machine
open Sys2Proof

/-! ## Steps of KS_COUNT (R44 to R47) -/

/-- The base rate in effect, with what reports it (R41, R151, R157). -/
def State.setRate (s : State) (r : Nat) : State :=
  (((s.set Reg.KS_STATUS_RATE r).set Reg.KS_PRES_CYCLE_TICKS (rateN r)).set Reg.ENG_BUDGET_CYCLES (rateBudget r)).set
    Reg.ENG_BUDGET_PF (pfTicks r)
/-- A KS alarm marked pending or not. -/
def State.setAlarm (s : State) (n : Nat) (on : Bool) : State := { s with ks := { s.ks with alarmOn := setNth s.ks.alarmOn n on } }
/-- KS_COUNT set to a new count, at `hz` for `was` ticks a second: what the model keeps as a tick moves with it, so that ticks already
elapsed stay, and of what is a time in seconds its length. -/
def stepCountAt (hz was new : Nat) (s : State) : State :=
  let old := s.ks.count
  let mv (x : Nat) : Nat := x + new - old
  let ms (x : Int) : Int := (new : Int) - ((old : Int) - x) * (hz : Int) / (was : Int)
  let mt (x : Nat) : Nat := (ms x).toNat
  let mo (x : Option Nat) : Option Nat := x.map mt
  let second (l : List (Nat × Nat)) : List (Nat × Nat) := l.map (fun p => (p.1, mv p.2))
  let s : State := { s with
    ks := { s.ks with count := new }
    ovr := s.ovr.shift mt
    eng := { s.eng with wanted := second s.eng.wanted, writing := second s.eng.writing }
    mix := { s.mix with recLast := mv s.mix.recLast }
    flt := { s.flt with
      raises := s.flt.raises.map (fun r => { r with tick := mv r.tick })
      loads := s.flt.loads.map (fun l => (l.1, l.2.1, l.2.2.1, mv l.2.2.2))
      clear := s.flt.clear.map (fun c => { c with tick := mv c.tick }) }
    dom := { s.dom with sleepAt := s.dom.sleepAt.map (fun p => if p.1 < 3 then p else (p.1, mv p.2)), sleptAt := mt s.dom.sleptAt }
    clk := { s.clk with plls := s.clk.plls.map (fun q => { q with segAt := mt q.segAt }) }
    aux := s.aux.map (fun c => { c with done := mo c.done, powered := mo c.powered, entered := mt c.entered })
    port := { s.port with sbusAt := mo s.port.sbusAt, aaf := s.port.aaf.map (fun a => { a with lastTick := mo a.lastTick }) }
    rdp := { s.rdp with imgTick := s.rdp.imgTick.map mv }
    rct := { s.rct with
      beacons := s.rct.beacons.map (fun b => (b.1, ms b.2.1, b.2.2)), upAt := s.rct.upAt.map ms
      drops := s.rct.drops.map (fun l => l.map ms), flapAt := s.rct.flapAt.map ms, stepDoneAt := s.rct.stepDoneAt.map ms }
    pwr := { s.pwr with
      swRamp := s.pwr.swRamp.map (fun r => (r.1, r.2.1, mt r.2.2))
      chans := s.pwr.chans.map (fun c => { c with target := mv c.target, edge := c.edge.map mv, muteT := mv c.muteT }) } }
  s.int Reg.KS_INT_STATUS_STEP
/-- KS_COUNT set to a new count at the rate it has. -/
def stepCount (new : Nat) (s : State) : State := stepCountAt 1 1 new s
/-- An ARMED or REBUILDING image whose activation a step cancels returns to STAGED (R46). -/
def imgCancel (s : State) : State :=
  let s := (((s.set Reg.IMG_STATUS_STAGE 2).setB Reg.ENG_STATUS_REBUILD false).set Reg.IMG_REFUSE_CODE 0x54).set Reg.IMG_REFUSE_COURSE 0xFFFF
  (s.setWord Reg.IMG_REFUSE_DETAIL 0#32).int Reg.IMG_INT_STATUS_CANCELLED
/-- Every tick-stamped action pending cancelled in its block (R46), every pending release and mute, timed or not (R350), and a
diagnostic run ended (R397); `keep` leaves the activation that makes the step. A release that was due and waits for its edge
(R346) is under way and not pending (DESIGN CHOICE, log entry 68). -/
def cancelActions (keep : Bool) (s : State) : State :=
  let alarms := (List.range 4).filter (fun n => nth s.ks.alarmOn n false)
  let chans := (List.range 8).filter (fun n => (s.pc n).act ≠ 0)
  let stage := !keep && (s.stage = 3 || s.stage = 4)
  let s := diagAbort s.ovrOuts s
  let (s, swaps) := swapCancel s
  let (s, latch) := latchCancel s
  let (s, snap) := snapCancel s
  let s := alarms.foldl (fun s n => (s.setAlarm n false).set Reg.KS_ALARMn_CTRL_STATE 4 n) s
  let s := chans.foldl (fun s n => s.cancelAction n) s
  let s := if stage then imgCancel s else s
  if alarms ≠ [] || chans ≠ [] || stage || swaps || latch || snap then s.int Reg.KS_INT_STATUS_CANCEL else s

/-! ## KS alarms and captures (R53, R10, R66) -/

/-- KS_ALARMn_CTRL.ARM. A refused arm has no effect (R53): an alarm that is pending already stays pending and fires, while
STATE, which has one value, reads LATE until it does (DESIGN CHOICE, log entry 68). -/
def actAlarmArm (n : Nat) (s : State) : Act :=
  let t := s.get64 Reg.KS_ALARMn_LO Reg.KS_ALARMn_HI n
  if t ≤ s.ks.count then (s.set Reg.KS_ALARMn_CTRL_STATE 3 n, stOk)
  else ((({ s with ks := { s.ks with alarmTgt := setNth s.ks.alarmTgt n t } } : State).setAlarm n true).set Reg.KS_ALARMn_CTRL_STATE 1 n, stOk)
/-- KS_ALARMn_CTRL.DISARM. -/
def actAlarmDisarm (n : Nat) (s : State) : Act :=
  (if nth s.ks.alarmOn n false then (s.setAlarm n false).set Reg.KS_ALARMn_CTRL_STATE 4 n else s, stOk)
/-- Alarm n fires at the head of its target tick. -/
def alarmFire (n : Nat) (s : State) : State :=
  if nth s.ks.alarmOn n false ∧ nth s.ks.alarmTgt n 0 ≤ s.ks.count then
    ((s.setAlarm n false).set Reg.KS_ALARMn_CTRL_STATE 2 n).int Reg.KS_INT_STATUS_ALARM n
  else s
/-- KS_CTRL.CAPTURE. -/
def actCapture (s : State) : Act :=
  let (k, s) := s.fresh
  let c := s.ks.cycle + Config.asyncCycle k % (rateCycles s.rate - s.ks.cycle)
  ((s.set64 Reg.KS_CAP_LO Reg.KS_CAP_HI s.ks.count).set Reg.KS_CAP_CYCLE_CYCLE c, stOk)
/-- KS_CTRL.OVR_CLR. -/
def actOvrClr (s : State) : Act :=
  (((s.setWord Reg.KS_OVR_COUNT 0#32).set64 Reg.KS_OVR_LAST_LO Reg.KS_OVR_LAST_HI 0).setWord Reg.KS_OVR_STONES 0#32, stOk)
/-- ENG_CTRL.CNT_CLR. -/
def actEngCntClr (s : State) : Act :=
  ((((s.setWord Reg.ENG_XFER_GROUT 0#32).setWord Reg.ENG_STREAM_LATE 0#32).setWord Reg.ENG_ECC_CORR 0#32).setWord Reg.ENG_NAN 0#32
    |>.setB Reg.ENG_STREAM_LAST_VALID false, stOk)
/-- ENG_CTRL.PEAK_CLR (R166). -/
def actPeakClr (s : State) : Act :=
  (s.forN 32 (fun s n => (s.set Reg.ENG_STONEn_PEAK_END 0 n).setWord Reg.ENG_STONEn_STALL 0#32 n), stOk)

/-! ## Slots (R69 to R72) -/

/-- A slot. -/
def State.slot (s : State) (n : Nat) : Slot := nth s.img.slots n Slot.erased
/-- A slot changed. -/
def State.modSlot (s : State) (n : Nat) (f : Slot → Slot) : State := { s with img := { s.img with slots := modNth s.img.slots n f } }
/-- A slot that a load is reading (R71), or whose erase or verify runs: OPEN, CLOSE and VERIFY are then busy, the second being
the model's (DESIGN CHOICE, log entry 69). -/
def State.slotBusy (s : State) (n : Nat) : Bool := s.img.loading = some n || (s.slot n).erasing || (s.slot n).verifying
/-- A slot written to: SLOT_CHANGED where the active image was loaded from it (R72). -/
def State.slotWritten (s : State) (n : Nat) : State :=
  if s.is Reg.IMG_STATUS_ACTIVE && s.get Reg.IMG_STATUS_ACT_SLOT = n then s.setB Reg.IMG_STATUS_SLOT_CHANGED true else s
/-- OPEN. -/
def slotOpen (n : Nat) (s : State) : Act :=
  if s.slotBusy n then (s, stBusy)
  else
    ((s.modSlot n (fun x => { x with state := 1, code := 0, bytes := [], bad := [], erasing := true, cut := false })).slotWritten n, stOk)
/-- The erase of a slot completes. -/
def slotErased (n : Nat) (s : State) : State :=
  if (s.slot n).erasing then (s.modSlot n (fun x => { x with erasing := false })).int Reg.IMG_INT_STATUS_SLOT_DONE else s
/-- Bytes appended to a slot that is OPEN, below 64 MiB (R70, R72). -/
def slotAppend (n : Nat) (bs : List Byte) (s : State) : State :=
  let x := s.slot n
  if x.state = 1 && decide (x.bytes.length + bs.length ≤ 67108864) then
    (s.modSlot n (fun x => { x with bytes := x.bytes ++ bs })).slotWritten n
  else s
/-- A slot after a loss of power: one that was being written has no END course, and is no longer OPEN (R73). A reset by RST_N, which
R73 does not name, does the same (DESIGN CHOICE, log entry 59). -/
def Slot.powerLost (x : Slot) : Slot :=
  { x with state := if x.state = 1 then 2 else x.state, erasing := false, verifying := false, cut := x.cut || x.state = 1 }
/-- CLOSE; on a slot that is not OPEN it completes with BUSY (DESIGN CHOICE, log entry 69). -/
def slotClose (n : Nat) (s : State) : Act :=
  if s.slotBusy n ∨ (s.slot n).state ≠ 1 then (s, stBusy)
  else ((s.modSlot n (fun x => { x with state := 2 })).int Reg.IMG_INT_STATUS_SLOT_DONE, stOk)
/-- VERIFY; on a slot that is EMPTY or OPEN it completes with BUSY (DESIGN CHOICE, log entry 69). -/
def slotVerify (n : Nat) (s : State) : Act :=
  if s.slotBusy n ∨ (s.slot n).state < 2 then (s, stBusy) else (s.modSlot n (fun x => { x with verifying := true }), stOk)
/-- The 64 bytes of a key slot (R102). -/
def State.keySlot (s : State) (k : Nat) : List Byte := (List.range 16).flatMap (fun w => leBytes 4 (s.word Reg.IMG_KEYk_w k w).toNat)
/-- What stage S reads of the signature registers. -/
def State.sigCtx (s : State) : SigCtx := ⟨s.is Reg.IMG_SIG_ENFORCE, (List.range 4).map s.keySlot⟩
/-- Stages F and S of a slot (R106). -/
def stageFS (x : Slot) (sc : SigCtx) : Chk Image := do
  let im ← stageF ⟨x.bytes, x.bad, x.cut⟩ (x.state = 0)
  let sg ← stageS ⟨x.bytes, x.bad, x.cut⟩ im sc
  .ok { im with signed := sg }
/-- The slot after a check of it: VALID, or INVALID with the code. -/
def State.slotResult (s : State) (n : Nat) (r : Option Refuse) : State :=
  s.modSlot n (fun x => match r with
    | none => { x with state := 3, code := 0 }
    | some e => { x with state := 4, code := e.code })
/-- A verify finishes; `bad` names the pages that the flash controller could not correct. -/
def slotVerified (n : Nat) (bad : List Nat) (s : State) : State :=
  if !(s.slot n).verifying then s
  else
    let s := s.modSlot n (fun x => { x with verifying := false, bad := bad })
    (s.slotResult n (match stageFS (s.slot n) s.sigCtx with
      | .ok _ => none
      | .error e => some e)).int Reg.IMG_INT_STATUS_SLOT_DONE

/-! ## Loading (R106, R108, R111) -/

/-- Nothing staged: W and the staged epoch read 0. -/
def State.unstage (s : State) : State :=
  (({ s with img := { s.img with staged := none } } : State).set Reg.IMG_REBUILD_TICKS 0).set64 Reg.IMG_EPOCH_STG_LO Reg.IMG_EPOCH_STG_HI 0
/-- LOAD of a slot; `auto` marks the module's own load of R121. A LOAD while LOADING drops the load under way and starts
afresh on the slot named (DESIGN CHOICE, log entry 70). -/
def imgLoad (n : Nat) (auto : Bool) (s : State) : Act :=
  if s.stage = 3 ∨ s.stage = 4 ∨ (s.slot n).state = 1 then (s, stBusy)
  else
    let s := s.unstage.set Reg.IMG_STATUS_STAGE 1
    ({ s with img := { s.img with loading := some n, auto := auto } }, stOk)
/-- A refusal recorded (R106). -/
def State.refuse (s : State) (e : Refuse) : State :=
  (((s.set Reg.IMG_REFUSE_CODE e.code).set Reg.IMG_REFUSE_COURSE e.course).setWord Reg.IMG_REFUSE_DETAIL (BitVec.ofNat 32 e.detail)).int
    Reg.IMG_INT_STATUS_REFUSED |>.event.raise 0x1A 0 e.code
/-- What stage X reads of the module. -/
def State.xctx (s : State) (im : Image) : XCtx := ⟨s.caps, s.domTarget, s.regRule im, fun _ => s.combosOk im⟩
/-- The checks of stage A: DOMAIN_FLOOR, the combination rules, LATE at arming or OUTPUTS_ACTIVE at the rebuild start,
DELAY_SHORT, CAPSTONE (R114, R115). R114 gives no order at arming: the model takes that of R115, with LATE in the place of
OUTPUTS_ACTIVE (DESIGN CHOICE, log entry 15). -/
def State.stageA (s : State) (im : Image) (rebuild : Bool) (start : Int) : Option Nat :=
  if !floorOk im s.domTarget then some 0x41
  else if !s.combosOk im then some 0x43
  else if !rebuild && decide (start ≤ (s.ks.count : Int)) then some 0x50
  else if rebuild && s.outputsActive then some 0x51
  else if s.rdp.plan.isSome && decide (s.get Reg.KS_PRES_DELAY < im.dMin) then some 0x52
  else if s.flt.capstone then some 0x53 else none
/-- A refusal in stage A: the image stays staged. -/
def State.refuseA (s : State) (code : Nat) : State := (s.set Reg.IMG_STATUS_STAGE 2).refuse ⟨code, 0xFFFF, 0⟩
/-- An arming for tick `t` (R113, R114). -/
def armAt (t : Nat) (im : Image) (s : State) : State :=
  let n := s.nTicks
  let t := if im.rate = s.rate then t else ceilDiv t n * n
  let w := rebuildTicks im
  match s.stageA im false ((t : Int) - w) with
  | some c => s.refuseA c
  | none => ({ s with img := { s.img with target := t, rebuildAt := t - w } } : State).set Reg.IMG_STATUS_STAGE 3
/-- ARM. A refusal in stage A is reported by IMG_REFUSE; the write completes with OK (DESIGN CHOICE, log entry 18). -/
def actImgArm (s : State) : Act :=
  match s.img.staged with
  | some im => if s.stage = 2 then (armAt (s.get64 Reg.IMG_ACT_TICK_LO Reg.IMG_ACT_TICK_HI) im s, stOk) else (s, stBusy)
  | none => (s, stBusy)
/-- DISARM (R119); outside ARMED and REBUILDING it has no effect and completes with OK (DESIGN CHOICE, log entry 18). -/
def actImgDisarm (s : State) : Act :=
  if s.stage = 4 then (s, stBusy) else if s.stage = 3 then (s.set Reg.IMG_STATUS_STAGE 2, stOk) else (s, stOk)
/-- DISCARD. -/
def actImgDiscard (s : State) : Act :=
  if s.stage = 3 ∨ s.stage = 4 then (s, stBusy)
  else
    let s := s.unstage.set Reg.IMG_STATUS_STAGE 0
    ({ s with img := { s.img with loading := none, auto := false } }, stOk)
/-- A load ends: stages F, S and X decide (R108); the module's own load is armed at once (R121). -/
def imgLoadDone (bad : List Nat) (s : State) : State :=
  match s.img.loading with
  | none => s
  | some n =>
    let s := s.modSlot n (fun x => { x with bad := bad })
    let auto := s.img.auto
    let s : State := { s with img := { s.img with loading := none, auto := false } }
    let r : Chk Image := do
      let im ← stageFS (s.slot n) s.sigCtx
      stageX im (s.xctx im)
      .ok { im with slot := n }
    match r with
    | .error e => ((s.slotResult n (some e)).set Reg.IMG_STATUS_STAGE 5).refuse e
    | .ok im =>
      let w := rebuildTicks im
      let s := (s.slotResult n none).set Reg.IMG_STATUS_STAGE 2
      let s := ({ s with img := { s.img with staged := some im } } : State).set Reg.IMG_REBUILD_TICKS w
      let s := (s.set64 Reg.IMG_EPOCH_STG_LO Reg.IMG_EPOCH_STG_HI im.epoch).int Reg.IMG_INT_STATUS_STAGED
      if auto then armAt (ceilDiv (s.ks.count + w + 1) s.nTicks * s.nTicks) im s else s

/-! ## Rebuild (R115 to R117, R566) -/

/-- A range of memory `k` set to 0, with the errors in it. -/
def State.memZero (s : State) (k a n : Nat) : State :=
  let m := s.mem
  let ecc := m.ecc.filter (fun e => !(e.mem = k && decide (a ≤ e.addr) && decide (e.addr < a + n)))
  { s with mem := { m with ecc := ecc, stone := if k = 0 then Mem.clear m.stone a n else m.stone, sram := if k = 1 then Mem.clear m.sram a n else m.sram } }
/-- Memory of the new image placed: local areas and tick SRAM regions are cleared, in domains that are woken for it, and
shadow banks filled with the initial sets. -/
def placeMemory (im : Image) (s : State) : State :=
  let s := (domainsUsed im).foldl (fun s d => if s.domAt d = 0 then s else domUp applyReg d (domDemand d s)) s
  let s := (im.insts.filter (fun x => !x.isEndpoint)).foldl (fun s x => s.memZero 0 (262144 * x.stone + x.localOff) x.localLen) s
  let s := (im.regions.filter (fun r => decide (r.kind ≤ 6))).foldl (fun s r => s.memZero 1 r.off r.size) s
  (im.regions.filter (fun r => r.kind = 6)).foldl (fun s r =>
    (im.insts.filter (fun x => x.ten = r.ten && decide (0 < x.paramWords))).foldl (fun s x =>
      s.sramWrite (r.off + 4 * x.paramBase) ((initialSet im x).flatMap (fun w => leBytes 4 w.toNat))) s) s
/-- The save sets of another epoch lose VALID (R566). -/
def dropSaves (im : Image) (s : State) : State :=
  s.forN 60 (fun s d => let h := s.saveHead d; if h.2.2.1 && h.1 ≠ im.epoch then s.saveDrop d else s)
/-- The REGS course applied in course order; a domain that is asleep is woken (R117, R565). -/
def applyRegs (im : Image) (s : State) : State :=
  im.regs.foldl (fun s r =>
    let s := match addrDomain r.1 with
      | some d => if s.domAt d = 0 then s else domUp applyReg d (domDemand d s)
      | none => s
    applyReg r.1 r.2 s) s
/-- Every class at its default, then the FAULTS course (R96, R529). -/
def applyFaults (im : Image) (s : State) : State :=
  let cls : KMap Nat := match im.faults with
    | some l => (indexed l).foldl (fun m p => if p.2 = 255 ∨ (sourceRow p.1).isNone then m else KMap.put sourceDefault m p.1 p.2) []
    | none => []
  { s with flt := { s.flt with cls := cls, clsPend := [] } }
/-- The local areas of the image that stops hold what its instances left there, in a layout the spec does not give (R120,
log entry 5). -/
def localLeft (s : State) : State :=
  match s.img.active with
  | none => s
  | some im => (im.insts.filter (fun x => !x.isEndpoint && decide (s.domAt x.stone < 3))).foldl (fun s x =>
      let a := 262144 * x.stone + x.localOff
      { s.fresh.2 with
        mem := { s.mem with stone := Mem.wrN s.mem.stone a ((List.range x.localLen).map (fun k => Config.localByte s.free (a + k))) } }) s
/-- The block instances of an image with their initial parameter sets and cleared state (R117). -/
def Image.freshInsts (im : Image) : List InstSt := (im.insts.filter (fun x => !x.isEndpoint)).map (fun x => InstSt.init x (initialSet im x))
/-- The old image stops, and the rebuild's steps are done (R115 to R117). Until T it stays the active one for IMG_STATUS.ACTIVE, the
epoch in use and OVR_STAT (DESIGN CHOICE, log entry 76). -/
def rebuild (im : Image) (s : State) : State :=
  let s := ((s.set Reg.IMG_STATUS_STAGE 4).setB Reg.ENG_STATUS_RUN false).setB Reg.ENG_STATUS_REBUILD true
  let s := pfirCancel (latchCancel (swapCancel s).1).1
  let s := s.modEng (fun e => { EngState.reset with insts := e.insts })
  let s := rdpPlace im (placeMemory im (localLeft s))
  let s := tenPlace im (applyFaults im (applyRegs im (dropSaves im s)))
  s.modEng (fun e => { e with insts := im.freshInsts })
/-- The head of T − W (R115). -/
def rebuildStart (s : State) : State :=
  match s.img.staged with
  | some im =>
    if s.stage ≠ 3 ∨ s.ks.count < s.img.rebuildAt then s
    else match s.stageA im true 0 with
      | some c => s.refuseA c
      | none => rebuild im s
  | none => s

/-! ## Activation and deactivation (R118, R120) -/

/-- The ENG figures of the active image; 0 without one (R167). -/
def engFigures (s : State) : State :=
  let ent (im : Image) (n : Nat) : List Entry := im.entries n
  let endOf (im : Image) (n : Nat) : Nat := match (ent im n).getLast? with
    | some e => e.start + (match im.inst e.id with
      | some x => x.cost
      | none => 0)
    | none => 0
  match s.img.active with
  | some im =>
    let used := (List.range 32).filter (fun n => ent im n ≠ [])
    let s := s.forN 32 (fun s n =>
      ((s.set Reg.ENG_STONEn_SCHED_ENTRIES (ent im n).length n).set Reg.ENG_STONEn_SCHED_END (endOf im n) n).set Reg.ENG_STONEn_MEM_BYTES
        (((im.insts.filter (fun x => !x.isEndpoint && x.stone = n)).map (·.localLen)).sum) n)
    let s := ((s.setWord Reg.ENG_STONES (BitVec.ofNat 32 (maskOf used 32))).set Reg.ENG_FABRIC_XFERS im.xfers.length).set Reg.ENG_STREAM_COUNT
      (((im.insts.filter (fun x => !x.isEndpoint)).map (fun x => kindStreams x.kind x.kver)).sum)
    ((s.set Reg.ENG_STATUS_USED used.length).set Reg.ENG_STATUS_CLASS im.cls).setB Reg.ENG_STATUS_RUN true
  | none =>
    let s := s.forN 32 (fun s n => (s.setWord Reg.ENG_STONEn_SCHED 0#32 n).set Reg.ENG_STONEn_MEM_BYTES 0 n)
    let s := ((s.setWord Reg.ENG_STONES 0#32).set Reg.ENG_FABRIC_XFERS 0).set Reg.ENG_STREAM_COUNT 0
    ((s.set Reg.ENG_STATUS_USED 0).set Reg.ENG_STATUS_CLASS 0).setB Reg.ENG_STATUS_RUN false
/-- IMG_STATUS and the active epoch of an image. -/
def imgShow (s : State) : State :=
  match s.img.active with
  | some im =>
    let s := (((s.setB Reg.IMG_STATUS_ACTIVE true).set Reg.IMG_STATUS_ACT_SLOT im.slot).set Reg.IMG_STATUS_CLASS im.cls).setB Reg.IMG_STATUS_SIGNED im.signed
    (s.setB Reg.IMG_STATUS_ACCEPTED false).set64 Reg.IMG_EPOCH_ACT_LO Reg.IMG_EPOCH_ACT_HI im.epoch
  | none =>
    let s := (((s.setB Reg.IMG_STATUS_ACTIVE false).set Reg.IMG_STATUS_ACT_SLOT 0).set Reg.IMG_STATUS_CLASS 0).setB Reg.IMG_STATUS_SIGNED false
    (s.setB Reg.IMG_STATUS_ACCEPTED false).set64 Reg.IMG_EPOCH_ACT_LO Reg.IMG_EPOCH_ACT_HI 0
/-- A change of the base rate at the head of a ring cycle (R47). -/
def rateChange (keep : Bool) (r : Nat) (s : State) : State :=
  if r = s.rate then s
  else
    let new := s.ks.count * rateHz r / rateHz s.rate
    adcReset (cancelActions keep (stepCountAt (rateHz r) (rateHz s.rate) new (s.setRate r)))
/-- The converters of the active image, resynchronised, following the units that feed them (R198). -/
def srcsActivate (im : Image) (s : State) : State :=
  let follow (c : Src) : Src := match im.srcUnit c.id with
    | some (5, _) => { c with locked := s.is Reg.ANA_AES_STAT_LOCK }
    | some (6, u) => { c with locked := s.is Reg.SAPn_STAT_LOCK u }
    | _ => c
  ({ s with mix := { s.mix with srcs := im.srcs.map follow } } : State).srcAll
/-- The staged image becomes the active one (R118, R188, R193, R203, R505 to R511). -/
def activate (im : Image) (s : State) : State :=
  let before := s.epochNow
  let had := s.img.active.map (·.epoch)
  let s := rateChange true im.rate s
  let s : State := { s with img := { s.img with active := some im, deact := false }, ovr := { s.ovr with pos := [] } }
  let s := (imgShow (s.unstage.set Reg.IMG_STATUS_STAGE 0)).setB Reg.IMG_STATUS_SLOT_CHANGED false |>.setB Reg.ENG_STATUS_REBUILD false
  let s := (engFigures s).modEng (fun e => { e with insts := im.freshInsts })
  let s := (swapCancel s).1
  let s := srcsActivate im { s with mix := { s.mix with pendS := [], swaps := s.mix.swaps.map (fun x => { x with pend := false, held := false }) } }
  let s := s.set Reg.MIX_REC_STATUS_STATE 1
  let s := tenActivate im had s
  let s := (im.insts.filter (fun x => x.kind = 0x11)).foldl (fun s x =>
    { s with mem := { s.mem with dram := Mem.clear s.mem.dram (im.dramArea x) (1024 * x.dramKib) } }) s
  let s := sendsCheck (aafActivate (sapActivate (rdpActivate (if s.pwr.on then (swApply s).1 else s))))
  let s := anaFollow (chFollow (domFollow applyReg (s.int Reg.IMG_INT_STATUS_ACTIVATED)))
  let s := (s.log 1 0 [])
  let s := if had = some im.epoch ∧ before = im.epoch then s else s.log 2 0 []
  let held := s.outputsHeld
  let s := holdUpdate s
  if held || s.outputsHeld then s else startOutputs s
/-- Position 3 of the head of tick T. -/
def activation (s : State) : State :=
  match s.img.staged with
  | some im => if s.stage = 4 ∧ s.img.target ≤ s.ks.count then activate im s else s
  | none => s
/-- DEACTIVATE (R120, R514); with no active image, or while REBUILDING, it completes with BUSY and no effect (DESIGN CHOICE, log
entry 18). -/
def actDeactivate (s : State) : Act :=
  if s.img.active.isNone ∨ s.stage = 4 ∨ s.is Reg.MIX_OVR_STATUS_EFFECTIVE then (s, stBusy)
  else (muteOutputs 4095 { s with img := { s.img with deact := true } }, stOk)
/-- Without an image: figures, tenancies and units that followed it (R109). -/
def noImage (s : State) : State :=
  let s := localLeft (pfirCancel (latchCancel (swapCancel s).1).1)
  let s : State := { s with img := { s.img with active := none, deact := false } }
  let s := (engFigures (imgShow s)).modEng (fun _ => EngState.reset)
  let s : State := { s with mix := { s.mix with srcs := [], pendS := [] } }
  let s := (s.set Reg.MIX_REC_STATUS_STATE 0).setB Reg.MIX_REC_STATUS_SENSE false
  let s := sapOwn (tenDeactivate (rdpUnplace s))
  anaFollow (chFollow (holdUpdate s))
/-- Without an image the module ticks at 96 kHz (R40): the rate returns to it at the first ring-cycle start, where the change
of KS_COUNT is exact (R47; DESIGN CHOICE, log entry 71), and RATE_MIS is judged by it (R267). -/
def rateHome (s : State) : State :=
  if s.img.active.isNone && s.stage ≠ 4 && s.ks.count % s.nTicks = 0 && s.rate ≠ 1 then holdUpdate (rateChange false 1 s) else s
/-- A step of KS_COUNT under R44: every tick-stamped action is cancelled; the converters resynchronise (R46, R198). A rebuild that is
cut short leaves no image active, since the spec does not say what becomes of the old image that stopped (DESIGN CHOICE, log entry
76). -/
def ksStep (new : Nat) (s : State) : State :=
  let cut := s.stage = 4
  let s := (cancelActions false (stepCount new s)).srcAll
  if cut then noImage s else s
/-- Once every output is HELD or OFF the schedule stops, at the head of a tick or between two ticks (R120). -/
def deactivateDone (s : State) : State :=
  rateHome (if s.img.deact && !s.outputsActive && s.stage ≠ 4 then noImage s else s)

end Sys2Proof.Machine
end

