-- ==== Sys2Proof/Machine/Time.lean ====
section
/-! DEFINITION. Time synchronisation, scrubbers, the clear of faults that is due, and the rows of the tick, the image machine
and the mixer that act once their time has come (R42 to R48, R53, R106 to R132, R152 to R164, R178 to R212, R269 to R272,
R326 to R331, R532, R541 to R544). -/
namespace Sys2Proof.Machine
open Sys2Proof

/-! ## Ring time (R42 to R48, R269 to R272) -/

/-- A step of KS_COUNT seen by the ring data path: what is kept by ring cycle starts afresh, and the silence of the
coordinator keeps its length. -/
def ringStep (old : Nat) (s : State) : State :=
  let mv (c : Nat) : Nat := c + s.cycleNo - old
  if s.cycleNo = old then s
  else
    let lane (l : Lane) : Lane := { l with last := [none, none], map := [], ages := [[], []], takes := [[], []] }
    let s : State := { s with rdp := { s.rdp with
      since := mv s.rdp.since, lanes := s.rdp.lanes.map lane, written := [], sentAt := [], seen := [], gen := [], launched := [], good := [[], []], regenAt := [none, none] } }
    s.modRct (fun r => { r with
      beaconAt := mv r.beaconAt, claims := r.claims.map (fun c => (c.1, mv c.2)), tmLock := r.tmLock.map mv
      rolledAt := mv r.rolledAt, segDown := r.segDown.map (fun x => { x with since := mv x.since }) })
/-- The link delay of a port is measured and within neighborPropDelayThresh, so that IEEE 802.1AS uses the port (R269). -/
def State.asCapable (s : State) (p : Nat) : Bool := decide (s.get Reg.PORT_Pp_LINK_DELAY_NS p ≤ 2000)
/-- The offset measured by a Sync, and what shows it. -/
def measured (ns : Int) (s : State) : State := showTime { s with time := ⟨ns, true⟩ }
/-- KS_COUNT of a ring time given in whole ns: the last tick that begins within that ns or before it (R42). -/
def countAt (rate t : Nat) : Nat := ((t + 1) * rateHz rate - 1) / 1000000000
/-- A Sync followed: `t` is the grandmaster's time in ns at the start of the present local tick. With no output active KS_COUNT is set
from it in one step, and the offset left is that of the edge from the tick it now begins (R44); otherwise the media PLL removes the
offset (R45, R472). Its ring-time servo steers either way, also while the reference is lost (R468). -/
def gptpFollow (t : Nat) (s : State) : State :=
  let off (s : State) : Int := (t : Int) - (s.timeNs s.ks.count : Nat)
  if s.outputsActive then
    let s := servoStep (off s) (measured (off s) s)
    if s.is Reg.KS_STATUS_SLEWING && s.get Reg.CLK_Pp_STATUS_SEG 0 = 0 && s.host.fwRun then
      rampLoad 0 (slewProfile (s.get Reg.CLK_MEDIA_SLEW_MAX_PPM) (s.get Reg.CLK_MEDIA_SLEW_RATE) s.offset) s
    else s
  else
    let new := countAt s.rate t
    let old := s.cycleNo
    let s := if new = s.ks.count then s else ringStep old (ksStep new s)
    servoStep (off s) (measured (off s) s)
/-- Row GPTP_SYNC: a Sync and its Follow_Up have come by a ring port, and the node follows those of the timing master on its SlavePort
(R269, R270). -/
def gptpSync (p gm t : Nat) (s : State) : State :=
  if !s.linkUp p then s
  else
    let s := gptpIn p [44, 76] s.event
    if nth s.rct.portState p 0 ≠ 1 ∨ s.rct.gm ≠ some gm ∨ s.isTm ∨ !s.asCapable p then s else gptpFollow t s
/-- No Sync for three sync intervals: the media PLL's ramp stops where it is, and a coordinator names itself timing master
(R35, R272). -/
def syncTimeout (s : State) : State :=
  if s.isTm then s
  else
    let s := showPll ((showTime { s with time := TimeState.reset }).stopRamp 0)
    if s.isCoord && s.ctlRuns then s.setGm (some s.baseMac) else s

/-- The 802.1AS state of the branch port: MasterPort (2) while the module is locked or grandmaster, else disabled (R311). -/
def State.branchRole (s : State) : Nat := if s.is Reg.KS_STATUS_LOCK then 2 else 0
/-- clockIdentity of a MAC address (R269). -/
def clockIdentity (mac : Nat) : List Byte := beBytes 3 (mac / 2 ^ 24) ++ beBytes 2 0xFFFE ++ beBytes 3 (mac % 2 ^ 24)
/-- systemIdentity of a priority tuple: priority1, clockClass, clockAccuracy, offsetScaledLogVariance, priority2, clockIdentity (R269). -/
def systemIdentity (t : Nat) : List Byte :=
  beBytes 1 (t / 2 ^ 52 % 256) ++ beBytes 1 248 ++ beBytes 1 0xFE ++ beBytes 2 0xFFFF ++ beBytes 1 (tupleClass t) ++ clockIdentity (tupleMac t)
/-- The tuple of the timing master, if this node has read it. -/
def State.gmTuple (s : State) : Option Nat :=
  if s.isTm then some s.tuple else s.rct.gm.bind (fun g => (s.rct.known.find? (fun k => k.mac = g)).map (·.tuple))
/-- A gPTP message of a type and length on a port (R269): domain 0, two-step Sync, this node's clockIdentity, and the interval given; the
layout is that of IEEE 802.1AS-2020, and what it leaves to the clock is free (PRESUMED, log entry 42). -/
def State.gptpFrame (s : State) (typ len port interval : Nat) : List Byte :=
  let m := s.portMac port
  let free (a n : Nat) : List Byte := (List.range n).map (fun k => Config.gptpByte s.free (a + k))
  let flags := Config.gptpByte s.free 6
  beBytes 6 0x0180C200000E ++ beBytes 6 m ++ beBytes 2 0x88F7 ++ beBytes 1 (16 + typ) ++ beBytes 1 0x12 ++ beBytes 2 len ++
    beBytes 1 0 ++ free 5 1 ++ [if typ = 0 then flags ||| 2#8 else flags] ++ free 7 13 ++ clockIdentity s.baseMac ++ free 28 5 ++ beBytes 1 interval ++ free 34 (len - 34)
/-- A gPTP message sent. -/
def State.gptpSend (s : State) (typ len interval port : Nat) : State :=
  ({ s with free := s.free + 1 } : State).sendOn port (withFcs (s.gptpFrame typ len port interval))
/-- The timing master's systemIdentity announced by a MasterPort (R269): the layout and the interval of 1 s are those of IEEE
802.1AS-2020, without its path trace (PRESUMED, log entry 42). -/
def State.gptpAnnounce (s : State) (port : Nat) : State :=
  match s.gmTuple with
  | none => s
  | some t =>
    let f := splice (splice (s.gptpFrame 11 64 port 0) 61 (systemIdentity t)) 75 (beBytes 2 s.gmHops)
    ({ s with free := s.free + 1 } : State).sendOn port (withFcs f)
/-- The gPTP messages of a tick (R269, R311): Announce each second and Sync and Follow_Up each 31.25 ms on every MasterPort, and Pdelay_Req each second
on every port with link. The spec gives the intervals and not their phase; they are counted in KS_COUNT (DESIGN CHOICE, log
entry 42). -/
def gptpTick (s : State) : State :=
  let hz := rateHz s.rate
  let masters := ([0, 1].filter (fun p => nth s.rct.portState p 0 = 2)) ++ (if s.branchRole = 2 then [2] else [])
  let s := if s.ks.count % (hz / 32) ≠ 0 then s
    else (masters.filter s.linkUp).foldl (fun s p => (s.gptpSend 0 44 0xFB p).gptpSend 8 76 0xFB p) s
  if s.ks.count % hz ≠ 0 then s
  else ([0, 1, 2].filter s.linkUp).foldl (fun s p => s.gptpSend 2 54 0 p) ((masters.filter s.linkUp).foldl (fun s p => s.gptpAnnounce p) s)

/-! ## Scrubbers (R130, R132, R532) -/

/-- An error that a scrubber's read finds in a word, beside what the word already holds. -/
def eccFind (k a : Nat) (f : ScrubFind) (s : State) : State :=
  let put (dbl : Bool) : State := { s with mem := { s.mem with ecc := ⟨k, a, dbl, false⟩ :: s.mem.ecc } }
  match f with
  | .clean => s
  | .single => if (s.eccAt k a).isSome then s else put false
  | .double => if (s.eccIn k a 8).any (·.dbl) then s else put true
/-- A scrubber reads a word: errors are raised, and single-bit errors corrected in place. -/
def scrub (k a : Nat) (f : ScrubFind) (s : State) : State :=
  let (s, ok) := (eccFind k a f s.event).eccRead k a 8
  if ok then s.eccDrop k a else s
/-- Row STONE_SCRUB on a stone whose domain is at L0. -/
def stoneScrub (n w : Nat) (f : ScrubFind) (s : State) : State := if s.domAt n = 0 then scrub 0 (262144 * n + 8 * w) f s else s
/-- Row MEMORY_SCRUB on a word of a memory that is there and whose domain is at L0. -/
def memoryScrub (m : ScrubMem) (w : Nat) (f : ScrubFind) (s : State) : State :=
  match m with
  | .sram => if 8 * w < 33554432 ∧ s.domAt (32 + 8 * w / 4194304) = 0 then scrub 1 (8 * w) f s else s
  | .footing => if 8 * w < 65536 then scrub 3 (8 * w) f s else s
  | .dram => if 8 * w < 2 ^ 36 ∧ s.domAt 40 = 0 then scrub 2 (8 * w) f s else s

/-! ## Clears and snapshots -/

/-- A clear that is due acts, and starts what RESTART asks for: outputs freed from every bar whose endpoint has FLAGS.START,
while no epoch mismatch exists (R543, R544). -/
def fltClearDue (s : State) : State :=
  let (s, freed, restart) := clearAct s
  let m := (match s.img.active with
    | some im => im.startMask
    | none => 0) &&& freed
  if !restart || m = 0 || s.outputsHeld then s else (s.askStart (m % 256)).anaStart (m / 256)
/-- Position 2 of the head: the snapshot and the meter latch that are due (R51, R195). -/
def latchesDue (s : State) : State := let (s, snap) := snapFire s; latchFire snap s

/-- Row KS_ALARM_FIRE (R53). -/
def execKsAlarmFire (n : Fin 4) (s : State) : Host.Outcome State Fault Refusal := .next (alarmFire n.val s)
/-- Row GPTP_SYNC (R44, R45, R269, R271). -/
def execGptpSync (portB : Bool) (gm : BitVec 48) (timeNs : Nat) (s : State) : Host.Outcome State Fault Refusal :=
  .next (gptpSync (b2n portB) gm.toNat timeNs s)
/-- Row SYNC_TIMEOUT (R272). -/
def execSyncTimeout (s : State) : Host.Outcome State Fault Refusal := .next (syncTimeout s)
/-- Row SLOT_ERASE_DONE (R70). -/
def execSlotEraseDone (slotB : Bool) (s : State) : Host.Outcome State Fault Refusal := .next (slotErased (b2n slotB) s)
/-- Row SLOT_VERIFY_DONE (R70, R106). -/
def execSlotVerifyDone (slotB : Bool) (badPages : List Nat) (s : State) : Host.Outcome State Fault Refusal :=
  .next (slotVerified (b2n slotB) badPages s)
/-- Row IMG_LOAD_DONE (R106, R108, R121). -/
def execImgLoadDone (badPages : List Nat) (s : State) : Host.Outcome State Fault Refusal := .next (imgLoadDone badPages s)
/-- Row DEACTIVATE_DONE: the schedule under way in a tick ends first, and it stops at the next tick (R120). -/
def execDeactivateDone (s : State) : Host.Outcome State Fault Refusal :=
  .next (if s.ks.running && !s.ks.committed then s else deactivateDone s)
/-- Row REBUILD_START (R115 to R117). -/
def execRebuildStart (s : State) : Host.Outcome State Fault Refusal := .next (rebuildStart s)
/-- Row ACTIVATION (R118). -/
def execActivation (s : State) : Host.Outcome State Fault Refusal := .next (activation s)
/-- Row STONE_SCRUB (R130, R132). -/
def execStoneScrub (stone : Fin 32) (word : Fin 32768) (found : ScrubFind) (s : State) : Host.Outcome State Fault Refusal :=
  .next (stoneScrub stone.val word.val found s)
/-- Row MEMORY_SCRUB (R532). -/
def execMemoryScrub (mem : ScrubMem) (word : Nat) (found : ScrubFind) (s : State) : Host.Outcome State Fault Refusal :=
  .next (memoryScrub mem word found s)
/-- Row SWAP_STAGE (R190, R610). -/
def execSwapStage (space : Fin 8) (s : State) : Host.Outcome State Fault Refusal := .next (swapStage space.val s)
/-- Row SWAP_FIRE (R190). -/
def execSwapFire (space : Fin 8) (s : State) : Host.Outcome State Fault Refusal := .next (swapFire space.val s)
/-- Row METER_LATCH (R195). -/
def execMeterLatch (s : State) : Host.Outcome State Fault Refusal := .next (latchFire false s)
/-- Row SNAPSHOT_FIRE (R328 to R331, R195). -/
def execSnapshotFire (s : State) : Host.Outcome State Fault Refusal := .next (latchesDue s)
/-- Row PFIR_LOAD_DONE (R178). -/
def execPfirLoadDone (s : State) : Host.Outcome State Fault Refusal := .next (pfirDone s)
/-- Row REC_FROZEN (R202). -/
def execRecFrozen (s : State) : Host.Outcome State Fault Refusal := .next (recFrozen s)
/-- Row MSG_OP_DONE (R205). -/
def execMsgOpDone (s : State) : Host.Outcome State Fault Refusal := .next (msgDone s)
/-- Row OVR_STAT_UPDATE (R212). -/
def execOvrStatUpdate (s : State) : Host.Outcome State Fault Refusal := .next (ovrStat s)
/-- Row FLT_CLEAR_EFFECT (R541 to R545). -/
def execFltClearEffect (s : State) : Host.Outcome State Fault Refusal := .next (fltClearDue s)
/-- Row STONE_WAKE (R164). -/
def execStoneWake (stone : Fin 32) (s : State) : Host.Outcome State Fault Refusal := .next (stoneWake stone.val s)
/-- Row STREAM_LINE_ARRIVE (R153). -/
def execStreamLineArrive (stone : Fin 32) (cycle : Nat) (s : State) : Host.Outcome State Fault Refusal :=
  .next (lineArrive applyReg stone.val cycle s)
/-- Row STREAM_WRITEBACK_DONE (R152). -/
def execStreamWritebackDone (id : Nat) (s : State) : Host.Outcome State Fault Refusal := .next (writebackDone applyReg id s)
/-- Row COMMIT_POINT (R49, R63). -/
def execCommitPoint (s : State) : Host.Outcome State Fault Refusal := .next (commitPoint applyReg s)

end Sys2Proof.Machine
end

