-- ==== Sys2Proof/Machine/Sleep.lean ====
section
/-! DEFINITION. Sleep and wake of the node: entry on a SLEEP frame or DOM_CTRL, the sleep states of the domains, the sources
that wake, and the return from storage sleep (R290 to R295, R514, R563, R567 to R574). -/
namespace Sys2Proof.Machine
open Sys2Proof

/-- SLEEP of DOM_STATUS. -/
def State.sleepCode (s : State) : Nat := s.get Reg.DOM_STATUS_SLEEP
/-- The node sleeps or is on its way to sleep. -/
def State.asleep (s : State) : Bool := s.sleepCode ≠ 0
/-- DOM_CTRL.SLEEP (R567): the sleep is due at the head of the next tick. Modes 1 and 2 are network and storage sleep by a
SLEEP frame, 3 and 4 the same by this register. -/
def actDomSleep (s : State) : Act :=
  if s.ctl = 4 ∨ s.ctl = 5 ∨ s.asleep ∨ s.stage = 3 ∨ s.stage = 4 ∨ s.is Reg.MIX_OVR_STATUS_EFFECTIVE then (s, stBusy)
  else ({ s with dom := { s.dom with sleepAt := some (3 + s.get Reg.DOM_CTRL_MODE, s.ks.count) } }, stOk)
/-- Whether a requested sleep is due: its ENTER cycle or the next tick has come, and the override is not effective (R514). -/
def State.sleepDue (s : State) : Option Nat :=
  match s.dom.sleepAt with
  | none => none
  | some (m, c) =>
    if s.is Reg.MIX_OVR_STATUS_EFFECTIVE then none
    else if m < 3 then (if cycDue c s.cycleNo then some m else none)
    else if c < s.ks.count then some (m - 2) else none
/-- The head of ENTER: outputs are muted, the image stays (R291). -/
def sleepEnter (s : State) : State :=
  match s.sleepDue with
  | none => s
  | some m =>
    let s : State := { s with dom := { s.dom with sleepAt := none } }
    if s.asleep then s
    else
      let live := maskOf ((List.range 12).filter (fun n => if n < 8 then s.ch n = 3 && !bit s.bst.diag.started n else s.anaSt (n - 8) = 3)) 12
      let s := (s.set Reg.DOM_STATUS_SLEEP 3).setB Reg.DOM_STATUS_STORAGE (m = 2)
      muteOutputs 4095 { s with dom := { s.dom with entering := true, resume := live } }
/-- The sleep record of R563: mode, KS_COUNT, the TARGETs and the outputs to resume (log entry 24). -/
def sleepRecord (s : State) : State :=
  s.footWrite 0xF600 (leBytes 8 (1 + b2n (s.is Reg.DOM_STATUS_STORAGE)) ++ leBytes 8 s.ks.count ++
    (List.range 60).map (fun d => BitVec.ofNat 8 (s.domTarget d)) ++ leBytes 4 0 ++ leBytes 2 s.dom.resume)
/-- The domains in the order of R568. -/
def State.sleepOrder (s : State) : List Nat :=
  let low := List.range 40
  [51, 56, 57, 58, 59, 55, 48, 50, 53, 52, 46] ++ low.filter (fun d => (s.domUsed d).1) ++ low.filter (fun d => !(s.domUsed d).1) ++
    [42, 54, 45, 43, 44, 49, 47, 41, 40]
/-- A domain taken to its sleep state (R568). -/
def domSleep (storage : Bool) (d : Nat) (s : State) : State :=
  let st := (s.sleepState storage d).getD (s.domTarget d)
  let s := s.modDom d (fun x => { x with sleepHold := true })
  if st < s.domAt d then (if st = 0 then domUp applyReg d s else s) else domDown d st s
/-- Network sleep on the ring (R291): both ring ports retrain to 100BASE-TX, those in service or in a step as a planned step, whose
speed takes the place of the other's; a port in corbel mode keeps its link (R302). -/
def ringDoze (s : State) : State :=
  let g : StepGo := ⟨0xFFFF, 0, s.cycleNo⟩
  let s := s.forN 2 (fun s p => if s.inService p || s.is Reg.PORT_Pp_LINK_CORBEL p then s else linkDown p s)
  let s := s.modRct (fun r => if r.stepPorts = [] then r else { r with stepLocal := some g })
  stepRetrain (stepJoin g s)
/-- The end of it: a port that was not in service negotiates afresh (DEDUCED, log entry 58). -/
def ringStir (s : State) : State :=
  s.forN 2 (fun s p =>
    let s := s.setB Reg.PORT_Pp_LINK_LPI false p
    if s.inService p || s.is Reg.RING_SEG_PORTp_STEPPING p || s.is Reg.PORT_Pp_LINK_CORBEL p then s
    else
      let s := linkDown p s
      { s with port := { s.port with linked := setNth s.port.linked p false } })
/-- All outputs are HELD or OFF: the schedule is suspended and the domains go to their sleep states (R291, R292, R568, R569). A step that
the coordinator has granted ends with it, since sleep retrains every segment. -/
def sleepReady (s : State) : State :=
  if !s.dom.entering ∨ s.outputsActive then s
  else
    let storage := s.is Reg.DOM_STATUS_STORAGE
    let cut := storage && s.stage = 4
    let s := if storage then cancelActions false s else s
    let s := if storage && cut then noImage s else s
    let s := sleepRecord (s.setB Reg.ENG_STATUS_RUN false)
    let s := if s.ctl = 4 || s.ctl = 5 then (s.modRct (fun r => { r with before := s.ctl, step := none, stepLeft := [] })).setCtl 6 else s
    let s := s.sleepOrder.foldl (fun s d => domSleep storage d s) s
    let s := s.set Reg.DOM_STATUS_SLEEP (if storage then 2 else 1)
    let s := if storage then s else ringDoze s
    let s : State := if storage then { s with flt := { s.flt with plumb := false } } else s
    let s : State := { s with dom := { s.dom with entering := false, sleptAt := s.ks.count }, ks := { s.ks with running := s.ks.running && !storage } }
    s.int Reg.DOM_INT_STATUS_SLEPT

/-! ## Wake (R293, R294, R570 to R574) -/

/-- Holds of sleep ended, and the memories that the image uses brought to L0; the conditions of R555 bring the rest. -/
def domsWake (s : State) : State :=
  let s := s.forN 60 (fun s d => s.modDom d (fun x => { x with sleepHold := false }))
  let s := s.forN 40 (fun s d => if (s.domUsed d).1 then domUp applyReg d s else s)
  domFollow applyReg s
/-- The schedule runs again if there is an image. -/
def engResume (s : State) : State := if s.img.active.isSome && s.stage ≠ 4 then s.setB Reg.ENG_STATUS_RUN true else s
/-- What describes the active image in the registers that D49 lost in storage sleep: its figures, and its recorder running (R167,
R202; DEDUCED, log entry 58). -/
def imgReshow (s : State) : State :=
  if s.img.active.isSome then (engFigures s).set Reg.MIX_REC_STATUS_STATE 1 else s
/-- What a woken node waits for before its outputs start (R294). -/
def ringWaking (s : State) : State := s.modRct (fun r => { r with quiet := true, wakeStart := true })
/-- The end of a network sleep; `frame` says that a WAKE frame brought it, which is passed on rather than sent anew. -/
def networkWake (cause : Nat) (frame : Bool) (s : State) : State :=
  let ms := (s.ks.count - s.dom.sleptAt) * 1000 / rateHz s.rate
  let s := (s.setWord Reg.DOM_SLEEP_MS (BitVec.ofNat 32 (min 0xFFFFFFFF ms))).set Reg.DOM_STATUS_SLEEP 0
  let s := engResume (domsWake (ringStir s))
  let s := ringWaking (if s.ctl = 6 then s.setCtl s.rct.before else s)
  let s := if frame then s else s.ctlSend 12 ([0, 1].filter s.linkUp) (beBytes 1 cause ++ beBytes 15 0)
  (s.int Reg.RING_CTL_INT_STATUS_WAKE).int Reg.DOM_INT_STATUS_WOKE
/-- Step 1 of R574. -/
def storageWake (s : State) : State :=
  [41, 42, 40, 47, 49].foldl (fun s d => domUp applyReg d (s.modDom d (fun x => { x with sleepHold := false }))) (s.set Reg.DOM_STATUS_SLEEP 3)
/-- A wake source: its CAUSE, its bit of DOM_WAKE_EN, whether it acts in network and in storage sleep, and whether it is a
WAKE frame (R570, R571). -/
def wakeBy (cause en : Nat) (net sto frame : Bool) (s : State) : State :=
  let kind := if s.is Reg.DOM_STATUS_STORAGE then sto else net
  let on := en = 6 || bit (s.word Reg.DOM_WAKE_EN).toNat en
  let asleep := s.dom.entering || s.sleepCode = 1 || s.sleepCode = 2
  if !(kind && on && asleep) then s
  else
    let s := s.set Reg.DOM_STATUS_CAUSE cause
    if s.dom.entering then
      let s : State := { s with dom := { s.dom with entering := false } }
      ringWaking ((s.set Reg.DOM_STATUS_SLEEP 0).int Reg.DOM_INT_STATUS_WOKE)
    else if s.sleepCode = 1 then networkWake cause frame s else storageWake s
/-- DOM_CTRL.WAKE and RING_CTL_CTRL.WAKE: source 7 (R571); awake they do nothing. -/
def actHostWake (s : State) : Act := (wakeBy 5 7 true true false s, stOk)
/-- Step 3 of R574: `t` is the 802.1AS time in ns that the footing domain kept, `ms` the length of the sleep. -/
def storageReady (t ms : Nat) (s : State) : State :=
  if s.sleepCode ≠ 3 ∨ s.dom.entering ∨ !s.is Reg.DOM_STATUS_STORAGE then s
  else
    let s := (s.set Reg.DOM_STATUS_SLEEP 0).setWord Reg.DOM_SLEEP_MS (BitVec.ofNat 32 (min 0xFFFFFFFF ms))
    let s := s.setRate (match s.img.active with
      | some im => im.rate
      | none => 1)
    let old := s.ks.count
    let woke := s.dom.sleptAt + ms * rateHz s.rate / 1000
    let s : State := { s with ks := { s.ks with count := countAt s.rate t, cycle := 0, committed := true, running := true } }
    let s := ovrCarry old (s.ks.count - woke) s
    let s := [54, 55, 56, 57, 58, 59].foldl (fun s d => domUp applyReg d s) (domsWake s)
    let s := linkResync s
    let s := showTime { s with time := TimeState.reset }
    let s := leaveTo 0 s
    (ringWaking (engResume (imgReshow s))).int Reg.DOM_INT_STATUS_WOKE
/-- A WAKE frame on a ring port: the node wakes, and sends it on its other port once (R293). -/
def wakeRx (p : Nat) (f : List Byte) (s : State) : State :=
  if !(s.linkUp p && beAt f 12 2 = 0x88B5 && ringType f = 12 && frameGood f && !ctlBad f) then s
  else
    let s := s.event.rxCount p f
    if !s.ctlFirst f ∨ (cMac f = s.baseMac ∧ cNonce f = s.rct.nonce) then s
    else
      let s := s.ctlMark f
      let s := wakeBy 1 3 true false true s
      if s.linkUp (1 - p) then s.sendOn (1 - p) (ctlPassed f false) else s
/-- An input accepted as active wakes the node (R207, R571). -/
def inputWake (s : State) : State := if s.ovrA || s.ovrB then wakeBy 3 6 true true false s else s
/-- An override that has become effective wakes the node, whether an input, the end of DISC or a write made it so (R213, R571). -/
def ovrWake (s : State) : State := if s.is Reg.MIX_OVR_STATUS_EFFECTIVE then wakeBy 3 6 true true false s else s
/-- Accepted levels of the override pins. -/
def ovrInput (a b : Bool) (s : State) : State :=
  let t := inputWake (ovrAccept a b s)
  if s.ovr.pinA = a ∧ s.ovr.pinB = b then t else t.modOvr (fun o => { o with woke := s.sleepCode = 2 && t.sleepCode = 3 })

/-- Row OVR_INPUT_ACCEPT (R207, R571). -/
def execOvrInputAccept (pinA : Bool) (pinB : Bool) (s : State) : Host.Outcome State Fault Refusal := .next (ovrInput pinA pinB s)
/-- Row OVR_DISC_EXPIRE (R207, R213). -/
def execOvrDiscExpire (s : State) : Host.Outcome State Fault Refusal := .next (ovrWake (ovrDiscExpire s))
/-- Row SLEEP_ENTER (R291, R514, R567). -/
def execSleepEnter (s : State) : Host.Outcome State Fault Refusal := .next (sleepEnter s)
/-- Row SLEEP_ENTRY_READY: the schedule under way in a tick ends first, and it is suspended at the next head (R568). -/
def execSleepEntryReady (s : State) : Host.Outcome State Fault Refusal :=
  .next (if s.ks.running && !s.ks.committed then s else sleepReady s)
/-- Row WAKE_RX (R293, R571). -/
def execWakeRx (portB : Bool) (frame : List Byte) (s : State) : Host.Outcome State Fault Refusal := .next (wakeRx (b2n portB) frame s)
/-- Row WAKE_N_PIN (R571). -/
def execWakeNPin (s : State) : Host.Outcome State Fault Refusal := .next (wakeBy 2 5 true true false s)
/-- Row LINK_ENERGY (R571). -/
def execLinkEnergy (port : Fin 3) (s : State) : Host.Outcome State Fault Refusal := .next (wakeBy 6 port.val false true false s)
/-- Row SBUS_ACTIVITY (R571). -/
def execSbusActivity (s : State) : Host.Outcome State Fault Refusal := .next (wakeBy 4 4 true true false s)
/-- Row STORAGE_WAKE_READY (R569, R574). -/
def execStorageWakeReady (timeNs : Nat) (sleptMs : Nat) (s : State) : Host.Outcome State Fault Refusal := .next (storageReady timeNs sleptMs s)

end Sys2Proof.Machine
end

