-- ==== Sys2Proof/Machine/RegIo.lean ====
section
/-! DEFINITION. What a register reads as, and what a write of a whole register does: RW fields first, then its actions in
ascending bit order (R7, R9, R10, R12, R524, R550, R609). -/
namespace Sys2Proof.Machine
open Sys2Proof

/-! ## Reads -/

/-- A bit at a position. -/
def bitAt (b : Bool) (k : Nat) : Nat := b2n b * 2 ^ k
/-- A stored word with bits set over it. -/
def State.wordOver (s : State) (f : Fld) (add : Nat) (i : Nat := 0) (t : Nat := 0) : Word := s.word f i 0 t ||| BitVec.ofNat 32 add
/-- FLT_STATUS (R532 to R541). -/
def State.fltStatus (s : State) : Word :=
  BitVec.ofNat 32 (bitAt s.flt.capstone 31 + bitAt (s.flt.raises.any (fun r => r.cls = 2)) 30 +
    bitAt (s.actives.any (fun a => a.2 = 1)) 29 + bitAt s.flt.frozen 28 + bitAt s.fnDrive 27 + bitAt s.fnLow 26 +
    bitAt (s.haltFree && !s.flt.plumbHold && s.ks.running) 25 + s.haltCh % 256 * 65536 + s.haltAna % 16 * 4096 + s.loadMask)
/-- FLT_SRCn (R529, R530, R540). -/
def State.fltSrc (s : State) (n : Nat) : Word :=
  let cls := match s.flt.clsPend.reverse.find? (fun p => p.1 = n) with
    | some p => p.2
    | none => s.srcClass n
  s.wordOver Reg.FLT_SRCn_COUNT (bitAt (decide (n < 3)) 31 + bitAt (s.actives.any (fun a => a.1 = n)) 30 +
    bitAt (s.flt.raises.any (fun r => r.source = n) || s.flt.loads.any (fun l => l.1 = n)) 29) n &&& 0xE000FFFF#32 |||
    BitVec.ofNat 32 (cls * 2 ^ 24)
/-- RING_GROUP_STAT of the group that a tenancy selects (R241). -/
def State.groupStat (s : State) (t : Nat) : Word :=
  let g := s.get Reg.RING_GROUP_SEL_GROUP 0 0 t
  let l := s.rdp.lanes.filter (fun x => x.group = g)
  if g = 0 then 0#32 else BitVec.ofNat 32 ((l.filter (·.grouting)).length * 65536 + l.length)
/-- A counter of the lane that a tenancy selects. -/
def State.laneCount (s : State) (t k : Nat) : Word :=
  BitVec.ofNat 32 ((lastOf s.rdp.laneCnt (4 * s.get Reg.RING_LANE_SEL_LANE 0 0 t + k)).getD 0)
/-- Key slots that hold a key, as IMG_SIG.KEYS. -/
def State.sigKeys (s : State) : Nat := maskOf ((List.range 4).filter (fun k => keyPresent (s.keySlot k))) 4
/-- Word w of an entry of the history. -/
def histWord (e : Option HistEntry) (w : Nat) : Word :=
  match e with
  | some e => nth e.words w 0#32
  | none => 0#32
/-- The word that a register shows to a tenancy: stored, or assembled from the state. -/
def State.regShow (s : State) (r : RegRow) (i j t : Nat) : Word :=
  let w := s.word r.fld i j t
  match r.addr with
  | 0x10008 => BitVec.ofNat 32 s.ks.count
  | 0x1000C => BitVec.ofNat 32 (s.ks.count / 2 ^ 32)
  | 0x2003C => w ||| BitVec.ofNat 32 (s.sigKeys * 16)
  | 0x20040 => BitVec.ofNat 32 ((s.slot i).code * 256 + (s.slot i).state)
  | 0x20048 =>
    let x := s.slot (s.get Reg.IMG_SLOT_CTRL_SLOT)
    w ||| BitVec.ofNat 32 (bitAt x.erasing 0 + bitAt x.verifying 2)
  | 0x20050 => BitVec.ofNat 32 (s.slot (s.get Reg.IMG_SLOT_CTRL_SLOT)).bytes.length
  | 0x70010 => s.swapStatus t
  | 0x70028 => w ||| BitVec.ofNat 32 (bitAt s.mix.pfir.isSome 30)
  | 0x70030 => s.srcStat t
  | 0x70034 => s.srcRatio t
  | 0x70068 => s.msgStatus (s.get Reg.MIX_MSG_CTRL_NUMBER)
  | 0x80064 => s.laneCount t 0
  | 0x80068 => s.laneCount t 1
  | 0x8006C => s.laneCount t 2
  | 0x80070 => s.laneCount t 3
  | 0x80084 => s.groupStat t
  | 0x80088 => BitVec.ofNat 32 ((lastOf s.rdp.splits (s.get Reg.RING_GROUP_SEL_GROUP 0 0 t)).getD 0)
  | 0x80850 => BitVec.ofNat 32 (putBits (putBits w.toNat 23 16 (min 255 (s.dropCountOf i))) 15 0 (s.holdLeft i))
  | 0x90218 => BitVec.ofNat 32 (putBits w.toNat Reg.PORT_AAFs_STAT_ACTIVE.hi Reg.PORT_AAFs_STAT_ACTIVE.lo (b2n (s.aafActive i)))
  | 0xB0004 => if s.is Reg.SAPn_CFG_EN i then w else BitVec.ofNat 32 (putBits w.toNat Reg.SAPn_STAT_RUN.hi Reg.SAPn_STAT_RUN.lo 0)
  | 0xA0004 => BitVec.ofNat 32 (putBits w.toNat Reg.SBUS_STATUS_ACTIVE.hi Reg.SBUS_STATUS_ACTIVE.lo (b2n s.sbusActive))
  | 0xE0104 => BitVec.ofNat 32 (putBits w.toNat Reg.CLK_Pp_STATUS_SSC_ON.hi Reg.CLK_Pp_STATUS_SSC_ON.lo (b2n (i = 1 && s.is Reg.PWR_SW_STATUS_SSC_ON)))
  | 0xE0108 => s.pllOffset i
  | 0x100000 => s.bstStatus
  | 0x110000 => BitVec.ofNat 32 s.irqPend
  | 0x110100 => s.tenStatus i
  | 0x110104 => if i = 0 then 0x1F#32 else w
  | 0x110118 => s.tenUseWord i 0
  | 0x11011C => s.tenUseWord i 1
  | 0x110120 => s.tenUseWord i 2
  | 0x110124 => s.tenUseWord i 3
  | 0x110600 => s.xlate i j
  | 0x120000 => s.fltStatus
  | 0x120010 => histWord s.flt.first i
  | 0x120020 => BitVec.ofNat 32 (bitAt s.flt.frozen 31 + s.flt.hist.length * 65536 + w.toNat % 65536)
  | 0x120100 => histWord s.flt.hist[i]? j
  | 0x120400 => s.fltSrc i
  | 0x130104 => s.domStat i
  | 0x13010C => BitVec.ofNat 32 (s.domTag i)
  | 0x130110 => BitVec.ofNat 32 (s.domTag i / 2 ^ 32)
  | _ => w
/-- The read buffer of a path (R550): SPI and the service cores, Flary, debug. -/
def pathBuf (p : Path) : Nat :=
  match p with
  | .spi => 0
  | .core _ => 0
  | .ring _ => 1
  | .branch => 1
  | .debug => 2
/-- A debug read in quiet mode (R12, R524). -/
def State.quietRead (s : State) (p : Path) : Bool := p = .debug && s.is Reg.DBG_CFG_QUIET
/-- A read of FLT_HIST_TOP0 (R550, R552). -/
def histPop (p : Path) (s : State) : State × Word :=
  let ws := match s.flt.hist with
    | e :: _ => e.words
    | [] => [0#32, 0#32, 0#32, 0#32]
  let keep := s.quietRead p || s.flt.frozen
  ({ s with flt := { s.flt with bufs := setNth s.flt.bufs (pathBuf p) ws, hist := if keep then s.flt.hist else s.flt.hist.drop 1 } }, nth ws 0 0#32)
/-- What a quiet read of a semaphore shows: its owner, and GRANT with AGAIN to the owner itself. -/
def State.semPeek (s : State) (n code : Nat) : Word :=
  let x := s.sem n
  BitVec.ofNat 32 ((if x.owner = code then 3 * 2 ^ 30 else 0) + x.owner)
/-- The outcome of an access: complete with status and data, or waiting. -/
inductive Acc where
  | done (st : Nat) (v : Word)
  | wait (w : Wait)
  deriving DecidableEq, Repr
/-- Whether a tenancy may read a register (R9, R503, and the heads of the TEN, FLT and DBG lists). -/
def mayRead (r : RegRow) (t : Nat) : Bool :=
  if r.addr = 0x110400 then false
  else if r.addr / 65536 = 18 then t = 0 || r.addr = 0x120000
  else if r.addr / 65536 = 20 then t = 0 else true
/-- A read of a register with its side effects (R10). -/
def regRead (r : RegRow) (i j t : Nat) (p : Path) (s : State) : State × Acc :=
  let code := semCode p t
  if !mayRead r t then (s, .done stPerm 0#32)
  else match r.addr with
  | 0x70020 =>
    let w := s.word Reg.MIX_REJECT 0 0 t
    (if s.quietRead p then s else s.setWord Reg.MIX_REJECT 0#32 0 0 t, .done stOk w)
  | 0x120030 =>
    if i = 0 then (let (s, w) := histPop p s; (s, .done stOk w)) else (s, .done stOk (nth (nth s.flt.bufs (pathBuf p) []) i 0#32))
  | 0x110C00 =>
    if !semAllowed i code then (s, .done stPerm 0#32)
    else if s.quietRead p then (s, .done stOk (s.semPeek i code)) else (let (s, w) := semTake i code s; (s, .done stOk w))
  | 0x110C04 =>
    if !semAllowed i code then (s, .done stPerm 0#32)
    else if s.quietRead p then (s, .done stOk (s.semPeek i code))
    else if (s.sem i).owner = 0 ∨ (s.sem i).owner = code then (let (s, w) := semTake i code s; (s, .done stOk w))
    else (s, .wait (.sem i))
  | _ => (s, .done stOk (s.regShow r i j t))

/-! ## Writes -/

/-- Whether a path and tenancy may write a register (R9, R503, R504, R526, R527). -/
def State.mayWriteReg (s : State) (r : RegRow) (i t : Nat) (p : Path) : Bool :=
  match r.writers with
  | .nobody => false
  | .owner => t = 0 && (r.addr ≠ 0xE010C || decide (i < 2))
  | .every => true
  | .msg => t = 0 || bit (s.get Reg.TEN_Tt_RIGHTS_RIGHTS t) 0
  | .avdecc => t = 0
  | .semOwner => (s.sem i).owner = semCode p t
  | .debug => p = .debug
  | .dbgCfg => p = .debug || p = .spi
/-- An action that always completes. -/
def plainAct (f : State → State) (s : State) : Act := (f s, stOk)
/-- DBG_CORE_CTRL.HALT and RESUME (R526). -/
def actCores (halt : Bool) (s : State) : Act :=
  let m := s.get Reg.DBG_CORE_CTRL_MASK
  let h := s.get Reg.DBG_CORE_STATUS_HALTED
  (s.set Reg.DBG_CORE_STATUS_HALTED (if halt then h ||| m else h - (h &&& m)), stOk)
/-- DBG_SEM_BREAK.BREAK. -/
def actSemBreak (s : State) : Act := (semBreak (s.get Reg.DBG_SEM_BREAK_SEM) s, stOk)
/-- The actions that a write of `v` starts in a register, in ascending bit order. A write to MIX_MSG_DATA appends 4 bytes
whatever its width; the bytes that a narrower access does not cover are appended as 0 (DESIGN CHOICE, log entry 66). -/
def waActs (r : RegRow) (i t : Nat) (p : Path) (v : Nat) : List (State → Act) :=
  let on (b : Nat) (f : State → Act) : List (State → Act) := if bit v b then [f] else []
  match r.addr with
  | 0x10004 => on 0 actCapture ++ on 1 actOvrClr
  | 0x10048 => on 0 (actAlarmArm i) ++ on 1 (actAlarmDisarm i)
  | 0x20004 => on 0 (fun s => imgLoad (s.get Reg.IMG_CTRL_SLOT) false s) ++ on 1 actImgArm ++ on 2 actImgDisarm ++
      on 3 actImgDiscard ++ on 4 actDeactivate ++ on 5 actAccept
  | 0x20048 => on 0 (fun s => slotOpen (s.get Reg.IMG_SLOT_CTRL_SLOT) s) ++ on 1 (fun s => slotClose (s.get Reg.IMG_SLOT_CTRL_SLOT) s) ++
      on 2 (fun s => slotVerify (s.get Reg.IMG_SLOT_CTRL_SLOT) s)
  | 0x2004C => [plainAct (fun s => slotAppend (s.get Reg.IMG_SLOT_CTRL_SLOT) (leBytes 4 v) s)]
  | 0x30004 => on 1 actPeakClr ++ on 2 actEngCntClr
  | 0x70004 => on 0 (actSwapArm t) ++ on 1 (actSwapDisarm t) ++ on 2 (actSwapRevert t)
  | 0x70014 => on 0 actLatchArm ++ on 1 (plainAct (fun s => (latchCancel s).1)) ++ on 2 actHoldClr
  | 0x70028 => on 31 (actPfirLoad t)
  | 0x70040 => on 0 actRecRun ++ on 1 (fun s => if s.get Reg.MIX_REC_STATUS_STATE = 0 then (s, stBusy) else (s.recFreeze, stOk))
  | 0x70060 => ((List.range 4).filter (bit v)).map (fun b s => msgOp (nth [1, 0, 2, 3] b 0) (s.get Reg.MIX_MSG_CTRL_NUMBER) s)
  | 0x70064 => [plainAct (fun s => msgAppend (s.get Reg.MIX_MSG_CTRL_NUMBER) (leBytes 4 v) s)]
  | 0x70070 => [plainAct inputWake]
  | 0x8000C => on 1 (plainAct actRingCntClr) ++ on 2 (plainAct actAgeClr)
  | 0x80818 => on 0 actCommit ++ on 1 actTmReq ++ on 2 actReroll ++ on 3 actRingLeave ++ on 4 actRingSleep ++ on 5 actHostWake
  | 0x90090 => on 0 (actSnap true) ++ on 1 (actSnap false)
  | 0xC0004 => on 0 (plainAct adcReset) ++ on 1 (plainAct actAnaCntClr)
  | 0xC0044 => on 0 (actOutStart i) ++ on 1 (actOutStop i)
  | 0xD0004 => on 0 (plainAct actAuxCntClr)
  | 0xD0104 => on 0 (actAuxSync i) ++ on 1 (actAuxFlush i) ++ (if bitsOf v 9 8 = 0 then [] else [actAuxMode i (bitsOf v 9 8)])
  | 0xD011C => [auxQueueWrite i (BitVec.ofNat 32 v)]
  | 0xE010C => if v % 65536 = 0 then [] else [phaseStepWrite i (BitVec.ofNat 32 v)]
  | 0xF0004 => on 0 (plainAct actPwrCntClr)
  | 0xF0010 => on 0 swApply
  | 0xF0108 => on 0 (actChArm i) ++ on 1 (actChRelease i) ++ on 2 (actChMute i) ++ on 3 (actChDisarm i)
  | 0x100004 => on 0 (plainAct actBstCntClr)
  | 0x100304 => on 0 actDiagStart ++ on 4 (plainAct actDiagAbort)
  | 0x110004 => on 8 actEvict
  | 0x110030 => on 30 (actFree t) ++ on 31 (actAlloc t)
  | 0x110038 => on 30 (actHoldRelease t) ++ on 31 (actHold t)
  | 0x110C08 => on 0 (actSemRel i (semCode p t))
  | 0x120008 => if bitsOf v 31 28 = 0 then [] else [plainAct (actFltClear (bit v 31) (bit v 30) (bit v 29) (bit v 28) (v % 256))]
  | 0x120040 => on 31 actInjArm
  | 0x130004 => on 0 actDomSleep ++ on 1 actHostWake
  | 0x140004 => on 8 (actCores true) ++ on 9 (actCores false)
  | 0x14000C => on 31 actSemBreak
  | _ => []
/-- Actions run in order; the status is that of the first refused one (R609). -/
def runActs (st : Nat) (l : List (State → Act)) (s : State) : Act :=
  l.foldl (fun a f => let r := f a.1; (r.1, if a.2 = stOk then r.2 else a.2)) (s, st)
/-- A write of the bytes of `v` that `m` covers to a register that the writer may write: W1C bits clear, RW and kept WO
fields take their values, then the actions follow (R10, R609). -/
def regWrite (r : RegRow) (i j t : Nat) (p : Path) (v m : Nat) (s : State) : Act :=
  let f := r.fld
  let old := (s.word f i j t).toNat
  let clr := old &&& r.mask .w1c &&& v &&& m
  let s := if clr = 0 then s else s.setWord f (BitVec.ofNat 32 (old - clr)) i j t
  let old := old - clr
  -- DBG_CFG: the SPI port writes LOCK alone, the debug port the rest (R527)
  let rw := if r.addr = 0x140000 then (if p = .debug then 3 else 4) else if r.addr = 0x110400 then r.mask .wo else r.mask .rw
  let k := rw &&& m
  let (s, st) := if k = 0 then (s, stOk) else regRw r i j t (BitVec.ofNat 32 ((old - (old &&& k)) + (v &&& k))) s
  runActs st (waActs r i t p (v &&& m)) s
/-- A register request as the power-control die runs it (R369). -/
def pwrRun (q : PwrReq) (s : State) : State × Nat × Word :=
  match regFind q.addr with
  | none => (s, stOk, 0#32)
  | some (r, i, j) =>
    if q.write then (let (s, st) := regWrite r i j 0 .spi q.value.toNat 0xFFFFFFFF s; (s, st, 0#32)) else (s, stOk, s.regShow r i j 0)

end Sys2Proof.Machine
end

