-- ==== Sys2Proof/Machine/Access.lean ====
section
/-! DEFINITION. One access of a host to the address map, the requests that name several, and the waits of those that stall
(R6 to R10, R22 to R25, R131, R168, R369, R488, R506, R518, R525, R527, R532, R558, R562). -/
namespace Sys2Proof.Machine
open Sys2Proof

/-- Status TIMEOUT. -/
def stTimeout : Nat := 4
/-- Status CRC_ERROR. -/
def stCrc : Nat := 5
/-- Status AUTH_ERROR. -/
def stAuth : Nat := 6
/-- Status REPLAY. -/
def stReplay : Nat := 7
/-- Status BAD_REQUEST. -/
def stBad : Nat := 8

/-! ## The address map (R22 to R25) -/

/-- Addresses of a register block, the MIX window apart (R6). -/
def inBlocks (a : Nat) : Bool := decide (a < 0x40000) || (decide (0x80000 ≤ a) && decide (a < 0x150000))
/-- Addresses of the MIX window. -/
def inMix (a : Nat) : Bool := decide (0x40000 ≤ a) && decide (a < 0x80000)
/-- Addresses of the stone local memories. -/
def inStones (a : Nat) : Bool := decide (0x10000000 ≤ a) && decide (a < 0x10800000)
/-- Addresses of the DRAM window. -/
def inDram (a : Nat) : Bool := decide (0x40000000 ≤ a) && decide (a < 0x100000000)
/-- Whether an address lies in a range of the table of R22. -/
def mapped (a : Nat) : Bool := inBlocks a || inMix a || inStones a || inDram a
/-- Whether an access of a width is one that its range accepts (R6, R8). -/
def widthOk (a n : Nat) : Bool := (n = 4 || ((n = 1 || n = 2) && !inBlocks a)) && a % n = 0
/-- The word of the tick SRAM behind a MIX address: the shadow word of a class L image, or a meter record. -/
def State.mixSram (s : State) (t : Nat) (wr : Bool) (a : Nat) : Option Nat :=
  match s.img.active with
  | none => none
  | some im =>
    let page := a / 65536
    if (page = 4 ∧ wr) ∨ page = 5 then im.shadowAddr (s.get Reg.MIX_VIEW_TEN 0 0 t) (a % 65536 / 4)
    else if page = 6 then some (im.regOff 5 + a % 65536) else none
/-- The switched domains that an access needs at L0, in the order in which it meets them (R25, R555). -/
def State.accDomains (s : State) (t : Nat) (wr : Bool) (a : Nat) : List Nat :=
  if inStones a then [(a - 0x10000000) / 262144]
  else if inDram a then [40]
  else (addrDomain (a / 4 * 4)).toList ++ (if inMix a then ((s.mixSram t wr a).map (fun x => 32 + x / 4194304)).toList else [])
/-- Whether an access can go through a domain: it is at L0, and the barrier link, where the access crosses it, has left the
parked condition (R562). -/
def State.domReady (s : State) (a d : Nat) : Bool := s.domAt d = 0 && !(d = 55 && a / 65536 = 15 && s.dom.parked)

/-! ## The memories of the map -/

/-- Bytes whose contents follow a layout that the spec does not give (log entry 5). -/
def State.freeWord (s : State) (k n : Nat) : State × Acc :=
  (s.fresh.2, .done stOk (BitVec.ofNat 32 (leVal ((List.range n).map (fun j => Config.localByte s.free (k + j))))))
/-- Whether the local area of an instance of stone memory holds every byte of a range, or any. -/
def Inst.localAll (x : Inst) (k n : Nat) : Bool :=
  let b := 262144 * x.stone + x.localOff
  !x.isEndpoint && decide (b ≤ k) && decide (k + n ≤ b + x.localLen)
def Inst.localAny (x : Inst) (k n : Nat) : Bool :=
  let b := 262144 * x.stone + x.localOff
  !x.isEndpoint && decide (b < k + n) && decide (k < b + x.localLen)
/-- An access to the stone local memories (R131, R525). -/
def stoneAccess (p : Path) (t : Nat) (wr : Bool) (k n v : Nat) (s : State) : State × Acc :=
  let put (s : State) : State × Acc := (s.stoneWrite k (leBytes n v), .done stOk 0#32)
  let get (s : State) : State × Acc :=
    let (s, ok) := s.eccRead 0 k n
    if ok then (s, .done stOk (BitVec.ofNat 32 (leVal (Mem.rdN s.mem.stone k n)))) else (s.fresh.2, .done stOk (Config.badRead s.free))
  match s.img.active with
  | none => if t ≠ 0 then (s, .done stPerm 0#32) else if wr then put s else get s
  | some im =>
    if wr then (if p = .debug && s.is Reg.DBG_CFG_INTRUSIVE then put s else (s, .done stPerm 0#32))
    else if !(t = 0 || im.insts.any (fun x => x.ten = t && x.localAll k n)) then (s, .done stPerm 0#32)
    else if im.insts.any (fun x => x.localAny k n) then
      let (s, ok) := s.eccRead 0 k n
      if ok then s.freeWord k n else (s.fresh.2, .done stOk (Config.badRead s.free))
    else get s
/-- An access to the DRAM window (R24, R506, R532). The areas of instances other than recorder taps follow a layout that
the spec does not give. -/
def dramAccess (t : Nat) (wr : Bool) (a n v : Nat) (s : State) : State × Acc :=
  match s.dramKey t a n with
  | none => (s, .done stAccess 0#32)
  | some k =>
    if wr then (s.dramWrite k (leBytes n v), .done stOk 0#32)
    else if s.imgHas (fun im => im.insts.any (fun x => !x.isEndpoint && x.kind ≠ 0x11 && decide (im.dramArea x < k + n) &&
        decide (k < im.dramArea x + 1024 * x.dramKib))) then s.freeWord k n
    else
      let (s, ok) := s.eccRead 2 k n
      if ok then (s, .done stOk (BitVec.ofNat 32 (leVal (Mem.rdN s.mem.dram k n)))) else (s, .done stAccess 0#32)
/-- A request to the power-control die: it rides the next DN frame, and ends in the access-error status where the link is
down (R18, R25, R369). -/
def pwrSend (wr : Bool) (a : Nat) (v : Word) (s : State) : State × Acc :=
  if !s.linkOk then (s, .done stAccess 0#32)
  else ({ s with pwr := { s.pwr with reqs := s.pwr.reqs ++ [⟨wr, a, v, .host⟩] } }, .wait .barrier)
/-- The bytes of a word that an access of `n` bytes at byte `o` reads. -/
def lanes (w : Word) (o n : Nat) : Word := BitVec.ofNat 32 (w.toNat / 2 ^ (8 * o) % 2 ^ (8 * n))
/-- An access to a register, or to an offset with none; in the PWR block both cross the barrier (R7, R9, R10, R18, R25). -/
def regAccess (p : Path) (t : Nat) (wr : Bool) (a n v : Nat) (s : State) : State × Acc :=
  match regFind (a / 4 * 4) with
  | none => if a / 65536 = 15 then pwrSend wr a (BitVec.ofNat 32 v) s else (s, .done stOk 0#32)
  | some (r, i, j) =>
    let o := a % 4
    if wr then
      if !s.mayWriteReg r i t p then (s, .done stPerm 0#32)
      else if a / 65536 = 15 then pwrSend true a (BitVec.ofNat 32 v) s
      else
        let x := regWrite r i j t p (v % 2 ^ (8 * n) * 2 ^ (8 * o)) ((2 ^ (8 * n) - 1) * 2 ^ (8 * o)) s
        (x.1, .done x.2 0#32)
    else if !mayRead r t then (s, .done stPerm 0#32)
    else if a / 65536 = 15 then pwrSend false a 0#32 s
    else match regRead r i j t p s with
      | (s, .done st w) => (s, .done st (lanes w o n))
      | x => x
/-- An access to the PARAM, SHADOW or METER page (R168 to R172, R196); SHADOW and METER ignore writes. -/
def mixAccess (t : Nat) (wr : Bool) (a n v : Nat) (s : State) : State × Acc :=
  let w := a % 65536 / 4
  let page := a / 65536
  if wr then
    if page = 4 then (let x := paramWrite t w (a % 4) n v s; (x.1, .done x.2 0#32)) else (s, .done stOk 0#32)
  else
    let (s, st, x) := if page = 6 then meterRead t (a % 65536 / 4 * 4) s else paramRead t w (page = 5) s
    (s, .done st (lanes x (a % 4) n))
/-- One access of `n` bytes at an address, with the value `v` where it writes. A domain below L0 is woken first, and the
access waits for it. -/
def access (p : Path) (t : Nat) (wr : Bool) (a n v : Nat) (s : State) : State × Acc :=
  if !mapped a then (s, .done stAccess 0#32)
  else match (s.accDomains t wr a).find? (fun d => !s.domReady a d) with
  | some d => (domDemand d s, .wait (.domain d))
  | none =>
    if !widthOk a n then (s, .done stAccess 0#32)
    else if !s.tenPresent t then (s, .done stPerm 0#32)
    else if inStones a then stoneAccess p t wr (a - 0x10000000) n v s
    else if inDram a then dramAccess t wr a n v s
    else if inMix a && decide (a < 0x70000) then mixAccess t wr a n v s
    else regAccess p t wr a n v s

/-! ## Responses -/

/-- The response frame on SPI_MISO, with its CRC; an injection armed on it spoils the CRC (R492, R553). -/
def spiSend (body : List Byte) (s : State) : State :=
  let (s, bad) := s.injFrame 7 0
  let c := crc32c body
  { s with host := { s.host with spiOut := [0xA5#8] ++ body ++ leBytes 4 (if bad then 0xFFFFFFFF - c else c) } }
/-- STATUS, DONE and data of an SPI response (R492). -/
def spiBody (st done : Nat) (data : List Byte) : List Byte := leBytes 1 st ++ leBytes 2 done ++ data
/-- The response of an executed request, kept for REPEAT (R493). -/
def spiAnswer (st done : Nat) (data : List Byte) (s : State) : State :=
  let b := spiBody st done data
  spiSend b { s with host := { s.host with spiResp := b } }
/-- The 32-byte key of a tenancy (R496). -/
def State.tenKey (s : State) (t : Nat) : List Byte := (List.range 8).flatMap (fun w => leBytes 4 (s.word Reg.TEN_KEYt_w t w).toNat)
/-- Whether a tenancy has a key. -/
def State.hasKey (s : State) (t : Nat) : Bool := (s.tenKey t).any (fun b => b ≠ 0#8)
/-- AUTH over frame bytes 14 to 47 and the body; zero without a key (R496). -/
def State.flaryAuth (s : State) (t : Nat) (msg : List Byte) : List Byte :=
  if s.hasKey t then (hmacSha256 (s.tenKey t) msg).take 16 else List.replicate 16 0#8
/-- The parts of a Flary header that differ between frames (R495). -/
structure FlaryHdr where
  op : Nat
  ten : Nat
  status : Nat
  ttl : Nat
  hops : Nat
  target : Nat
  reqMac : Nat
  relay : Nat
  seq : Nat
  done : Nat
  deriving DecidableEq, Repr
/-- Frame bytes 14 to 47 (R495). -/
def FlaryHdr.bytes (h : FlaryHdr) (len : Nat) : List Byte :=
  beBytes 1 1 ++ beBytes 1 h.op ++ beBytes 1 h.ten ++ beBytes 1 h.status ++ beBytes 2 h.ttl ++ beBytes 2 h.hops ++ beBytes 6 h.target ++
    beBytes 6 h.reqMac ++ beBytes 6 h.relay ++ beBytes 4 h.seq ++ beBytes 2 len ++ beBytes 2 h.done
/-- A Flary frame, FCS included. -/
def flaryBytes (dst src : Nat) (h : FlaryHdr) (auth body : List Byte) : List Byte :=
  withFcs (beBytes 6 dst ++ beBytes 6 src ++ beBytes 2 0x88B6 ++ h.bytes body.length ++ auth ++ body)
/-- A frame of this node sent to a requester: on the branch port, unicast, or on both ring ports (R495, R498). -/
def flarySend (branch : Bool) (h : FlaryHdr) (auth body : List Byte) (s : State) : State :=
  if branch then s.sendOn 2 (flaryBytes h.reqMac (s.portMac 2) h auth body)
  else [0, 1].foldl (fun s p => if s.inService p then s.sendOn p (flaryBytes 0x030000000004 (s.portMac p) h auth body) else s) s
/-- The response to a request (R495 to R497): TARGET is this node. AUTH_ERROR carries a zero AUTH. -/
def flaryAnswer (h : FlaryHdr) (branch : Bool) (st done : Nat) (body : List Byte) (s : State) : State :=
  let r : FlaryHdr := { h with op := h.op % 128 + 128, status := st, ttl := 8192, hops := 0, target := s.baseMac, done := done }
  let auth := if st = stAuth then List.replicate 16 0#8 else s.flaryAuth h.ten (r.bytes body.length ++ body)
  flarySend branch r auth body s
/-- A response remembered for a repeat of its request (R497): DONE, STATUS and body. -/
def flaryKeep (h : FlaryHdr) (st done : Nat) (body : List Byte) (s : State) : State :=
  { s with ten := { s.ten with seen := s.ten.seen.map (fun (x : Nat × Nat × Nat × List Byte) =>
      if x.1 = h.ten && x.2.1 = h.reqMac && x.2.2.1 = h.seq then (x.1, x.2.1, x.2.2.1, leBytes 1 st ++ leBytes 2 done ++ body) else x) } }
/-- The header of a request as it is kept while the request runs, and read back. -/
def FlaryHdr.pack (h : FlaryHdr) : List Byte := h.bytes 0
def flaryUnpack (b : List Byte) : FlaryHdr :=
  ⟨beAt b 1 1, beAt b 2 1, beAt b 3 1, beAt b 4 2, beAt b 6 2, beAt b 8 6, beAt b 14 6, beAt b 20 6, beAt b 26 4, beAt b 32 2⟩
/-- A request has ended: its status and the data of its accesses go back by the path it came. -/
def finish (q : Request) (st : Nat) (v : Word) (s : State) : State :=
  match q.kind with
  | .single => { s with host := { s.host with last := (st, v) } }
  | .spi => spiAnswer st q.done q.out s
  | .flary hdr br =>
    let h := flaryUnpack hdr
    flaryKeep h st q.done q.out (flaryAnswer h br st q.done q.out s)
  | .telem hdr br =>
    let h := flaryUnpack hdr
    flaryKeep h st 0 q.out (flaryAnswer h br st 0 q.out s)
  | .daw => { s with host := { s.host with dawStatus := st, dawData := v, dawBusy := false } }

/-! ## Requests (R488) -/

/-- A request past an access that was OK. -/
def Request.next (q : Request) (v : Word) : Request :=
  { q with left := q.left - 1, done := q.done + 1, addr := q.addr + q.stride, data := q.data.drop q.width,
           out := if q.write then [] else q.out ++ leBytes q.width v.toNat }
/-- A request put to wait, after those already waiting. -/
def stall (q : Request) (w : Wait) (s : State) : State := { s with host := { s.host with stalled := s.host.stalled ++ [⟨q, w⟩] } }
/-- The accesses of a request in order, up to the first whose status is not OK, or the first that waits. `v` is the data of
the last access done. -/
def runReq : Nat → Word → Request → State → State
  | 0, v, q, s => finish q stOk v s
  | n + 1, _, q, s =>
    match access q.path q.ten q.write q.addr q.width (leVal (q.data.take q.width)) s with
    | (s, .done st v) => if st = stOk then runReq n v (q.next v) s else finish q st v s
    | (s, .wait w) => stall q w s
/-- A waiting access answered from outside: the request goes on, or ends (R369, R518). -/
def feed (q : Request) (st : Nat) (v : Word) (s : State) : State :=
  if st = stOk then runReq (q.left - 1) v (q.next v) s else finish q st v s
/-- Whether the wait of a request is over. A barrier wait ends with an UP frame; an access that met a parked link waits until
frames flow both ways again, and then makes its round trip (R25, R562). -/
def State.waitOver (s : State) (x : Stalled) : Bool :=
  match x.wait with
  | .domain d => s.domReady x.req.addr d && !(d = 55 && x.req.addr / 65536 = 15 && s.pwr.fresh)
  | .sem n => let o := (s.sem n).owner; o = 0 || o = semCode x.req.path x.req.ten
  | .barrier => false
/-- The first waiting request that satisfies a condition, and the rest. -/
def takeFirst (p : Stalled → Bool) : List Stalled → Option (Stalled × List Stalled)
  | [] => none
  | x :: xs => if p x then some (x, xs) else (takeFirst p xs).map (fun r => (r.1, x :: r.2))
/-- Requests whose wait is over go on, in arrival order; at most `n` of them. -/
def resumeN : Nat → State → State
  | 0, s => s
  | n + 1, s =>
    match takeFirst s.waitOver s.host.stalled with
    | none => s
    | some (x, rest) => resumeN n (runReq x.req.left 0#32 x.req { s with host := { s.host with stalled := rest } })
/-- Every request whose wait is over goes on. -/
def resume (s : State) : State := resumeN ((s.host.stalled.map (fun x => x.req.left)).sum + s.host.stalled.length) s
/-- A result of the power-control die reaches the request that waits for it longest (R369). -/
def deliverOne (s : State) (r : Nat × Word) : State :=
  match takeFirst (fun x => x.wait = .barrier) s.host.stalled with
  | none => s
  | some (x, rest) => feed x.req r.1 r.2 { s with host := { s.host with stalled := rest } }
/-- The results of an UP frame. -/
def deliver (rs : List (Nat × Word)) (s : State) : State := rs.foldl deliverOne s
/-- With the link down no result comes: requests that wait for one end in the access-error status (R18). Those of a REGS course
wait for the link (DESIGN CHOICE, log entry 37), and what an accepted frame carried still takes effect. -/
def barrierFail (s : State) : State :=
  if s.linkOk then s
  else
    let n := (s.host.stalled.filter (fun x => x.wait = .barrier)).length
    let box := s.pwr.box.map (fun b => { b with reqs := b.reqs.map (fun q => if q.who = .host then { q with who := .run } else q) })
    deliver (List.replicate n (stAccess, 0#32))
      { s with pwr := { s.pwr with reqs := s.pwr.reqs.filter (fun q => q.who = .course), results := [], box := box } }

/-! ## One access by a path -/

/-- A path answers: the service cores run for SPI, Flary and their own accesses, and the debug port is not locked (R515,
R516, R526, R527). -/
def State.pathOpen (s : State) (p : Path) : Bool :=
  let runs (c : Nat) : Bool := s.host.fwRun && !bit (s.get Reg.DBG_CORE_STATUS_HALTED) c
  match p with
  | .debug => s.dom.powered && !s.is Reg.DBG_CFG_LOCK
  | .core c => runs c.val
  | .ring _ => runs 1
  | .branch => runs 1
  | .spi => runs 1
/-- The tenancy an access acts for: TEN of the request on the Flary paths, else 0 (R486). -/
def accTen (x : Access) : Nat :=
  match x.path with
  | .ring _ => x.ten.val
  | .branch => x.ten.val
  | _ => 0
/-- One access by a host, outside a request of several. -/
def single (x : Access) (wr : Bool) (a n v : Nat) (s : State) : State :=
  if !s.pathOpen x.path then s
  else resume (runReq 1 0#32 ⟨.single, x.path, accTen x, wr, 0, n, 1, a, leBytes n v, 0, []⟩ s)
/-- A 32-bit read. -/
def hostRead (x : Access) (a : Nat) (s : State) : State := single x false a 4 0 s
/-- A 32-bit write. -/
def hostWrite (x : Access) (a v : Nat) (s : State) : State := single x true a 4 v s
/-- A write that sets fields of a register, keeps its other RW fields as they are, and starts the actions of its set WA bits:
`fs` gives bit positions and values. -/
def hostSet (x : Access) (f : Fld) (i : Nat) (fs : List (Nat × Nat × Nat)) (s : State) : State :=
  let t := accTen x
  let a := f.addr + f.s1 * i
  let rw := match regFind a with
    | some (r, _, _) => r.mask .rw
    | none => 0
  let v := fs.foldl (fun w g => putBits w g.1 g.2.1 g.2.2) ((s.word f i 0 t).toNat &&& rw)
  hostWrite x a v s

end Sys2Proof.Machine
end

