-- ==== Sys2Proof/Machine/Hosts.lean ====
section
/-! DEFINITION. The SPI host port, Flary messages, and the debug port (R489 to R504, R515 to R527). -/
namespace Sys2Proof.Machine
open Sys2Proof

/-! ## Flary frames as they arrive (R495) -/

end Sys2Proof.Machine
namespace Sys2Proof
open Sys2Proof.Machine

/-- The header of a frame. -/
def FlaryReq.hdr (r : FlaryReq) : FlaryHdr :=
  ⟨r.op.val, r.ten.val, r.status.toNat, r.ttl, r.hops, r.target.toNat, r.reqMac.toNat, r.relay.toNat, r.seq.toNat, r.done⟩
/-- The port a frame arrived on: 0 A, 1 B, 2 branch. -/
def FlaryReq.port (r : FlaryReq) : Nat := if r.branch then 2 else b2n r.portB
/-- The path that its accesses take. -/
def FlaryReq.path (r : FlaryReq) : Path := if r.branch then .branch else .ring r.portB
/-- The frame as it arrived. -/
def FlaryReq.frame (r : FlaryReq) (s : State) : List Byte :=
  flaryBytes (if r.branch then s.portMac 2 else 0x030000000004) r.src.toNat r.hdr r.auth r.body
/-- Bytes that AUTH of a request covers: TTL, HOPS and RELAY as its sender set them, since nodes on the way change them. -/
def FlaryReq.authMsg (r : FlaryReq) : List Byte := { r.hdr with ttl := 8192, hops := 0, relay := 0 }.bytes r.body.length ++ r.body
/-- The row that a request belongs to, by OP and ACT; none for an operation that R500 does not list. -/
def FlaryReq.rowOf (r : FlaryReq) : Option Nat :=
  let act := beAt r.body 0 1
  match r.op.val with
  | 8 => if 1 ≤ act ∧ act ≤ 4 then some (16 + act) else none
  | 9 => if 1 ≤ act ∧ act ≤ 5 then some (32 + act) else none
  | n => if n ≠ 0 ∧ n ≤ 11 ∧ n ≠ 7 then some n else none

end Sys2Proof
namespace Sys2Proof.Machine

/-! ## The SPI host port (R490 to R493) -/

/-- The request frame's response is not yet due: a request of this port is still running. -/
def State.spiBusy (s : State) : Bool :=
  s.host.stalled.any (fun x => x.req.kind = .spi) || s.host.waiting.any (fun w => match w with
    | .spi _ _ _ _ _ _ => true
    | .flary _ => false)
/-- What service core 1 does with a request: at once while it runs, and once it is resumed while it is halted (R499, R526). -/
def core1 (w : Waiting) (f : State → State) (s : State) : State :=
  if s.pathOpen .spi then f s
  else if s.host.fwRun then { s with host := { s.host with waiting := s.host.waiting ++ [w] } } else s
/-- A response that executes nothing and leaves the response kept for REPEAT. -/
def spiRefuse (st : Nat) (s : State) : State := spiSend (spiBody st 0 []) s
/-- READ, WRITE, READ_FIX and WRITE_FIX (R488, R490). -/
def spiAccess (write fixed : Bool) (count width addr : Nat) (data : List Byte) (s : State) : State :=
  let n := 2 ^ width
  if width = 3 ∨ count = 0 ∨ 256 < count ∨ (write = true ∧ data.length ≠ count * n) then spiRefuse stBad s
  else resume (runReq count 0#32 ⟨.spi, .spi, 0, write, if fixed then 0 else n, n, count, addr, data, 0, []⟩ s)
/-- STATUS: TEN_IRQ_PEND in place of read data (R493). -/
def spiStatus (s : State) : State := spiAnswer stOk 0 (leBytes 4 s.irqPend) s
/-- REPEAT: the response of the previous executed request again (R493). -/
def spiRepeat (s : State) : State := if s.host.spiResp = [] then spiRefuse stBad s else spiSend s.host.spiResp s
/-- What the request of an OP does (R490 to R493). -/
def spiServe (op count width addr : Nat) (data : List Byte) (crcOk : Bool) (s : State) : State :=
  if !crcOk then spiRefuse stCrc s
  else match op with
  | 5 => spiStatus s
  | 6 => spiRepeat s
  | k => spiAccess (k % 2 = 0) (decide (3 ≤ k)) count width addr data s
/-- A request frame received whole, at a port whose last request has been answered (R491, R492). -/
def spiFrame (op count width addr : Nat) (data : List Byte) (crcOk : Bool) (s : State) : State :=
  if s.spiBusy then s else core1 (.spi op count width addr data crcOk) (spiServe op count width addr data crcOk) s

/-! ## Flary frames (R495 to R499) -/

/-- A frame of a ring port passed on as a flooded control frame (R249, R498). -/
def flaryPass (r : FlaryReq) (s : State) : State :=
  let p := r.port
  if r.ttl ≤ 1 then s
  else
    let h := { r.hdr with ttl := r.ttl - 1, hops := min 65535 (r.hops + 1) }
    s.sendOn (if s.inService (1 - p) then 1 - p else p) (flaryBytes 0x030000000004 r.src.toNat h r.auth r.body)
/-- A request of the branch port relayed onto the ring (R498). -/
def flaryRelay (r : FlaryReq) (s : State) : State :=
  [0, 1].foldl (fun s p => if s.inService p then
    s.sendOn p (flaryBytes 0x030000000004 (s.portMac p) { r.hdr with relay := s.baseMac } r.auth r.body) else s) s
/-- What service core 1 does with a request that has arrived: acts on it, and relays it (R498). -/
def flaryTake (r : FlaryReq) (act : State → State) (s : State) : State :=
  let own := r.target.toNat = s.baseMac
  let s := if own || r.target.toNat = 2 ^ 48 - 1 then act s else s
  if r.branch && !own && s.is Reg.TEN_FLARY_CFG_RELAY then flaryRelay r s else s
/-- What a node does with a request frame: acts on it, passes it on, or both (R498, R499). -/
def flaryArrive (r : FlaryReq) (act : State → State) (s : State) : State :=
  if !s.linkUp r.port then s
  else
    let s := s.event.rxCount r.port (r.frame s)
    let own := r.target.toNat = s.baseMac
    let all := r.target.toNat = 2 ^ 48 - 1
    if r.branch then
      if s.is Reg.TEN_FLARY_CFG_BRANCH && (own || all || s.is Reg.TEN_FLARY_CFG_RELAY) then core1 (.flary r) (flaryTake r act) s else s
    else if !s.inService r.port then s
    else if r.relay.toNat = s.baseMac ∧ r.relay ≠ 0#48 then s
    else
      let s := if own then s else flaryPass r s
      if (own || all) && s.is Reg.TEN_FLARY_CFG_RING then core1 (.flary r) (flaryTake r act) s else s
/-- The requester's entry in the memory of its tenancy (R497). -/
def State.flarySeen (s : State) (r : FlaryReq) : Option (Nat × Nat × Nat × List Byte) :=
  s.ten.seen.find? (fun x => x.1 = r.ten.val && x.2.1 = r.reqMac.toNat)
/-- A requester's highest SEQ noted; each tenancy remembers the last 32 requesters. -/
def flaryNote (r : FlaryReq) (s : State) : State :=
  let rest := s.ten.seen.filter (fun x => !(x.1 = r.ten.val && x.2.1 = r.reqMac.toNat))
  let mine := (rest.filter (fun x => x.1 = r.ten.val)).take 31
  { s with ten := { s.ten with seen := (r.ten.val, r.reqMac.toNat, r.seq.toNat, []) :: mine ++ rest.filter (fun x => x.1 ≠ r.ten.val) } }
/-- A request whose authenticator is wrong, or whose tenancy has no key (R496). -/
def flaryAuthFail (r : FlaryReq) (s : State) : State :=
  let s := ((s.inc Reg.TEN_CNT_AUTH).int Reg.TEN_INT_STATUS_AUTH).raise 0x80 r.ten.val
  flaryAnswer r.hdr r.branch stAuth 0 [] s
/-- A request authenticated and accepted once is given on; a repeat gets the stored response (R496, R497). -/
def flaryCheck (r : FlaryReq) (act : State → State) (s : State) : State :=
  if !s.hasKey r.ten.val || r.auth ≠ s.flaryAuth r.ten.val r.authMsg then flaryAuthFail r s
  else match s.flarySeen r with
    | none => act (flaryNote r s)
    | some x =>
      if x.2.2.1 < r.seq.toNat then act (flaryNote r s)
      else if r.seq.toNat < x.2.2.1 then flaryAnswer r.hdr r.branch stReplay 0 [] (s.inc Reg.TEN_CNT_REPLAY)
      else if x.2.2.2 = [] then s
      else flaryAnswer r.hdr r.branch (leAt x.2.2.2 0 1) (leAt x.2.2.2 1 2) (x.2.2.2.drop 3) s
/-- A request answered at once, its response kept for a repeat. -/
def flaryReply (r : FlaryReq) (st : Nat) (body : List Byte) (s : State) : State :=
  flaryKeep r.hdr st 0 body (flaryAnswer r.hdr r.branch st 0 body s)

/-! ## The message set (R500 to R502, R504) -/

/-- Words as register data in a body. -/
def wordsLe (l : List Word) : List Byte := l.flatMap (fun w => leBytes 4 w.toNat)
/-- DISCOVER; a body on it is BAD_REQUEST (R487, R500). -/
def flaryDiscover (r : FlaryReq) (s : State) : State :=
  if r.body ≠ [] then flaryAnswer r.hdr r.branch stBad 0 [] s
  else flaryAnswer r.hdr r.branch stOk 0 (wordsLe ([Reg.IDENT_ID, Reg.IDENT_FW, Reg.IDENT_SERIAL_LO, Reg.IDENT_SERIAL_HI, Reg.IDENT_MAC_LO,
    Reg.IDENT_MAC_HI, Reg.RING_DP_POS, Reg.IMG_STATUS, Reg.IMG_EPOCH_ACT_LO, Reg.IMG_EPOCH_ACT_HI, Reg.MIX_OVR_STATUS].map (fun f => s.word f))) s
/-- READ, WRITE, READ_FIX and WRITE_FIX with the tenancy's rights. -/
def flaryAccess (write fixed : Bool) (r : FlaryReq) (s : State) : State :=
  let b := r.body
  let width := beAt b 0 1
  let n := 2 ^ width
  let count := beAt b 2 2
  let data := b.drop 8
  if b.length < 8 ∨ 2 < width ∨ count = 0 ∨ 256 < count ∨ data.length ≠ (if write then count * n else 0) then flaryReply r stBad [] s
  else resume (runReq count 0#32 ⟨.flary r.hdr.pack r.branch, r.path, r.ten.val, write, if fixed then 0 else n, n, count, beAt b 4 4, data, 0, []⟩ s)
/-- Whether a tenancy has a right: 0 MSG, 1 LOG, 2 TELEM, 3 EVENT, 4 ALLOC (R504). -/
def State.hasRight (s : State) (t k : Nat) : Bool := t = 0 || (s.tenPresent t && bit (s.get Reg.TEN_Tt_RIGHTS_RIGHTS t) k)
/-- A message that needs a right. -/
def flaryRight (k : Nat) (r : FlaryReq) (act : State → State) (s : State) : State :=
  if s.hasRight r.ten.val k then act s else flaryReply r stPerm [] s
/-- EVENT_SUB (R502): a MASK of 0 ends the subscription; a fifth of a tenancy replaces its oldest. -/
def eventSub (r : FlaryReq) (s : State) : State :=
  if r.body.length ≠ 4 then flaryReply r stBad [] s
  else
    let t := r.ten.val
    let mask := beAt r.body 0 4
    let rest := s.ten.subs.filter (fun u => !(u.ten = t && u.mac = r.reqMac.toNat))
    let mine := rest.filter (fun u => u.ten = t)
    let rest := if 4 ≤ mine.length ∧ mask ≠ 0 then rest.erase (mine.headD ⟨0, 0, 0, 0, false, 0⟩) else rest
    -- a renewal keeps the rises gathered for the next EVENT
    let rose := match s.ten.subs.find? (fun u => u.ten = t && u.mac = r.reqMac.toNat) with
      | some u => u.rose &&& mask
      | none => 0
    let new : List Sub := if mask = 0 then [] else [⟨t, r.reqMac.toNat, mask, rose, r.branch, r.relay.toNat⟩]
    flaryReply r stOk [] { s with ten := { s.ten with subs := rest ++ new } }
/-- EVENT: the bits that rose, then the INT_STATUS words of their blocks (R500, R502). -/
def eventSend (k : Nat) (s : State) : State :=
  match s.ten.subs[k]? with
  | none => s
  | some u =>
    if u.rose = 0 ∨ !s.pathOpen .branch then s
    else
      let body := leBytes 4 u.rose ++ wordsLe ((irqRegs.filter (fun x => bit u.rose x.1)).map (fun x => s.word x.2.1))
      let h : FlaryHdr := ⟨7, u.ten, 0, 8192, 0, s.baseMac, u.mac, u.relay, Config.eventSeq s.free % 2 ^ 32, 0⟩
      let auth := s.flaryAuth u.ten (h.bytes body.length ++ body)
      flarySend u.branch h auth body { s.fresh.2 with ten := { s.ten with subs := setNth s.ten.subs k { u with rose := 0 } } }
/-- A subscription lapses 60 s after its last EVENT_SUB (R502). -/
def subLapse (k : Nat) (s : State) : State := { s with ten := { s.ten with subs := s.ten.subs.eraseIdx k } }
/-- The firmware copy that runs, while the service cores run. -/
def State.fwRunning (s : State) (c : Nat) : Bool := s.host.fwRun && s.get Reg.IDENT_FW_COPY = c
/-- SLOT_XFER on a firmware copy (R501): the copy running is never written. -/
def fwXfer (act c : Nat) (off : Nat) (data : List Byte) (s : State) : Act :=
  let x := nth s.host.fw c ([], false, false)
  let put (y : List Byte × Bool × Bool) (s : State) : State := { s with host := { s.host with fw := setNth s.host.fw c y } }
  if s.fwRunning c && act ≠ 4 then (s, stBusy)
  else match act with
    | 1 => (put ([], true, false) s, stOk)
    | 2 => if !x.2.1 then (s, stBusy) else if off ≠ x.1.length then (s, stAccess) else (put (x.1 ++ data, true, false) s, stOk)
    | 3 => if x.2.1 then (put (x.1, false, false) s, stOk) else (s, stBusy)
    | _ => if x.2.1 then (s, stBusy) else (put (x.1, false, Config.fwVerifies x.1) s, stOk)
/-- SLOT_XFER (R500, R501). -/
def slotXfer (r : FlaryReq) (s : State) : State :=
  let b := r.body
  let act := beAt b 0 1
  let sl := beAt b 1 1
  let off := beAt b 4 4
  let data := b.drop 8
  if r.ten.val ≠ 0 then flaryReply r stPerm [] s
  else if b.length < 8 ∨ 1024 < data.length ∨ act = 0 ∨ 4 < act ∨ (act ≠ 2 ∧ data ≠ []) then flaryReply r stBad [] s
  else if 3 < sl then flaryReply r stAccess [] s
  else
    let (s, st) : Act :=
      if 2 ≤ sl then fwXfer act (sl - 2) off data s
      else match act with
        | 1 => slotOpen sl s
        | 2 => if off ≠ (s.slot sl).bytes.length then (s, stAccess) else (slotAppend sl data s, stOk)
        | 3 => slotClose sl s
        | _ => slotVerify sl s
    let word : Word := if sl < 2 then BitVec.ofNat 32 ((s.slot sl).code * 256 + (s.slot sl).state) else Config.fwStatus (sl - 2) s.free
    flaryReply r st (wordsLe [word]) s.fresh.2
/-- MSG_XFER (R500, R501). -/
def msgXfer (r : FlaryReq) (s : State) : State :=
  let b := r.body
  let act := beAt b 0 1
  let num := beAt b 1 2
  let off := beAt b 3 4
  let data := b.drop 7
  if b.length < 7 ∨ 1024 < data.length ∨ act = 0 ∨ 5 < act ∨ (act ≠ 2 ∧ data ≠ []) then flaryReply r stBad [] s
  else if 1023 < num then flaryReply r stAccess [] s
  else
    let (s, st) : Act :=
      match act with
      | 1 => msgOp 1 num s
      | 2 => if num = 0 ∨ off ≠ (s.msg num).bytes.length then (s, stAccess) else (msgAppend num data s, stOk)
      | 3 => msgOp 0 num s
      | 4 => msgOp 3 num s
      | _ => msgOp 2 num s
    flaryReply r st (wordsLe [s.msgStatus num]) s
/-- A fleet-log record as its 64 bytes (R501). -/
def LogRec.bytes (x : LogRec) : List Byte :=
  leBytes 4 x.index ++ leBytes 8 x.count ++ leBytes 8 x.timeNs ++ leBytes 2 x.kind ++ leBytes 2 x.source ++ x.data
/-- LOG_READ: the records from FIRST that the log still holds. -/
def logRead (r : FlaryReq) (s : State) : State :=
  let first := beAt r.body 0 4
  let n := beAt r.body 4 2
  if r.body.length ≠ 6 ∨ n = 0 ∨ 20 < n then flaryReply r stBad [] s
  else flaryReply r stOk ((s.ten.log.filter (fun x => decide (first ≤ x.index) && decide (x.index < first + n))).flatMap LogRec.bytes) s
/-- TELEMETRY: the sense frame of R201, then PWR_CHn_STATE of CH0 to CH7, which service core 3 reads across the barrier (R369);
over a link that is down the answer has the access-error status of those reads and ends with the sense frame (DESIGN CHOICE, log entry
45). -/
def telemetry (r : FlaryReq) (s : State) : State :=
  if r.body ≠ [] then flaryReply r stBad [] s
  else resume (runReq 8 0#32 ⟨.telem r.hdr.pack r.branch, .core 3, 0, false, 0x40, 4, 8, Reg.PWR_CHn_STATE.addr, [], 0, senseFrame s⟩ s)

/-- What a request asks for, with the right that it needs (R500); an operation that R500 does not list is answered BAD_REQUEST. -/
def flaryAct (r : FlaryReq) (s : State) : State :=
  match r.rowOf with
  | some 1 => flaryDiscover r s
  | some 2 => flaryCheck r (flaryAccess false false r) s
  | some 3 => flaryCheck r (flaryAccess true false r) s
  | some 4 => flaryCheck r (flaryAccess false true r) s
  | some 5 => flaryCheck r (flaryAccess true true r) s
  | some 6 => flaryCheck r (flaryRight 3 r (eventSub r)) s
  | some 10 => flaryCheck r (flaryRight 1 r (logRead r)) s
  | some 11 => flaryCheck r (flaryRight 2 r (telemetry r)) s
  | some k => if k < 32 then flaryCheck r (slotXfer r) s else flaryCheck r (flaryRight 0 r (msgXfer r)) s
  | none => flaryCheck r (flaryReply r stBad []) s
/-- A request of the row of number `k`. One whose operation no row lists is answered under any of them. -/
def flaryRow (k : Nat) (r : FlaryReq) (s : State) : State :=
  match r.rowOf with
  | some j => if j = k then flaryArrive r (flaryAct r) s else s
  | none => if 128 ≤ r.op.val ∨ r.op.val = 7 then s else flaryArrive r (flaryAct r) s
/-- A response that names this node as its relay goes out of the branch port (R498). -/
def flaryRelayed (r : FlaryReq) (s : State) : State := s.sendOn 2 (flaryBytes r.reqMac.toNat (s.portMac 2) r.hdr r.auth r.body)
/-- A response, or an EVENT, of another node (R498): relayed by core 1 to the branch port where RELAY names this node, else
passed on. -/
def flaryResponse (r : FlaryReq) (s : State) : State :=
  if (r.op.val < 128 ∧ r.op.val ≠ 7) ∨ !s.linkUp r.port then s
  else
    let s := s.event.rxCount r.port (r.frame s)
    if r.branch || !s.inService r.port || r.target.toNat = s.baseMac then s
    else if r.relay.toNat = s.baseMac ∧ r.relay ≠ 0#48 then
      core1 (.flary r) (flaryRelayed r) s
    else flaryPass r s

/-! ## Requests that waited for service core 1 (R499, R526) -/

/-- The rank by which a request is taken; the SPI host port acts as tenancy 0. -/
def State.waitRank (s : State) (w : Waiting) : Nat :=
  match w with
  | .spi _ _ _ _ _ _ => s.rankOf 0
  | .flary r => s.rankOf r.ten.val
/-- A request that waited is taken. -/
def serveOne (w : Waiting) (s : State) : State :=
  match w with
  | .spi op count width addr data ok => spiServe op count width addr data ok s
  | .flary r => if 128 ≤ r.op.val ∨ r.op.val = 7 then flaryRelayed r s else flaryTake r (flaryAct r) s
/-- Requests that waited are taken in rank order, and in arrival order within a rank; at most `n` of them (R499). -/
def serveN : Nat → State → State
  | 0, s => s
  | n + 1, s =>
    let low := (s.host.waiting.map s.waitRank).min?
    match s.host.waiting.find? (fun w => some (s.waitRank w) = low) with
    | none => s
    | some w => serveN n (serveOne w { s with host := { s.host with waiting := s.host.waiting.erase w } })
/-- The state after a command of the debug port: where that has resumed service core 1, the core takes what waited for it (R526). -/
def served (before s : State) : State :=
  if !before.pathOpen .spi && s.pathOpen .spi then serveN s.host.waiting.length s else s

/-! ## Service cores and semaphores (R515 to R520) -/

/-- A wait for a semaphore has lasted TIMEOUT_MS: the oldest waiter ends with TIMEOUT (R518). -/
def semTimeout (n : Nat) (s : State) : State :=
  match takeFirst (fun x => x.wait = .sem n) s.host.stalled with
  | none => s
  | some (x, rest) =>
    let s : State := { s with host := { s.host with stalled := rest } }
    finish x.req stTimeout 0#32 (s.int Reg.TEN_INT_STATUS_SEM_TIMEOUT)
/-- A tenancy's lease has run out (R520). -/
def leaseExpire (n : Nat) (s : State) : State :=
  let o := (s.sem n).owner
  if 8 ≤ o ∧ o ≤ 15 ∧ s.get Reg.TEN_SEM_CFG_LEASE_MS ≠ 0 then resume (semBreak n s) else s
/-- A running core has not signalled its watchdog for 100 ms (R516). The restarted core has lost the accesses it waited for,
but for those under way across the barrier, whose results still come (DEDUCED, log entry 47). -/
def watchdog (c : Nat) (s : State) : State :=
  if !s.pathOpen (.core ⟨c % 4, Nat.mod_lt c (by decide)⟩) then s
  else
    let kept := s.host.stalled.filter (fun x => decide (x.wait = .barrier) || !(x.req.path = .core ⟨c % 4, Nat.mod_lt c (by decide)⟩))
    let s : State := { s with host := { s.host with stalled := kept } }
    let s := s.forN 64 (fun s n => if (s.sem n).owner = 1 + c then semBreak n s else s)
    let s := s.set Reg.DBG_CORE_STATUS_RESTARTED (s.get Reg.DBG_CORE_STATUS_RESTARTED ||| 2 ^ c)
    resume (s.event.raise 0x83 0)

/-! ## The debug port (R521 to R527) -/

/-- An instruction loaded into the instruction register: EXTEST, CLAMP and HIGHZ first make every channel safe, and any other
ends that (R521, R522). Once locked, DAW acts as BYPASS (R527). -/
def tapLoad (code : Nat) (s : State) : State :=
  let code := if code = 0x20 && s.is Reg.DBG_CFG_LOCK then 0xFF else code
  let s : State := { s with host := { s.host with tap := code } }
  if code = 0 ∨ code = 4 ∨ code = 5 then
    let s : State := { s with flt := { s.flt with ownExt := true } }
    s.event.raiseActive 0x85 0
  else if s.flt.ownExt then ({ s with flt := { s.flt with ownExt := false } } : State).endActive 0x85 0
  else s
/-- The data register that an instruction selects: its length in bits (R521); none for the boundary scan, whose cells the
source does not list. -/
def State.tapLength (s : State) : Option Nat :=
  match s.host.tap with
  | 0 => none
  | 1 => some 32
  | 2 => none
  | 0x20 => if s.is Reg.DBG_CFG_LOCK then some 1 else some 68
  | _ => some 1
/-- What the IDCODE register reads. -/
def idcode : Word := 0xB8128001#32
/-- A DAW command: one 32-bit access with the rights of tenancy 0; discarded while the command before it runs (R523). -/
def daw (write : Bool) (addr data : Nat) (s : State) : State :=
  if !s.pathOpen .debug || s.host.tap ≠ 0x20 || s.host.dawBusy then s
  else
    let a := addr % 2 ^ 32
    let s : State := { s with host := { s.host with dawAddr := a, dawBusy := true } }
    resume (runReq 1 0#32 ⟨.daw, .debug, 0, write, 0, 4, 1, a, leBytes 4 data, 0, []⟩ s)
/-- Status and data that the next DAW shift returns (R523). -/
def State.dawOut (s : State) : Nat × Word := if s.host.dawBusy then (stBusy, 0#32) else (s.host.dawStatus, s.host.dawData)
/-- Row SPI_READ (R490, R491). -/
def execSpiRead (count : Fin 512) (width : Fin 4) (addr : Word) (crcOk : Bool) (s : State) : Host.Outcome State Fault Refusal :=
  .next (spiFrame 1 count.val width.val addr.toNat [] crcOk s)
/-- Row SPI_WRITE (R490, R491). -/
def execSpiWrite (count : Fin 512) (width : Fin 4) (addr : Word) (data : List Byte) (crcOk : Bool) (s : State) : Host.Outcome State Fault Refusal :=
  .next (spiFrame 2 count.val width.val addr.toNat data crcOk s)
/-- Row SPI_READ_FIX (R490). -/
def execSpiReadFix (count : Fin 512) (width : Fin 4) (addr : Word) (crcOk : Bool) (s : State) : Host.Outcome State Fault Refusal :=
  .next (spiFrame 3 count.val width.val addr.toNat [] crcOk s)
/-- Row SPI_WRITE_FIX (R490). -/
def execSpiWriteFix (count : Fin 512) (width : Fin 4) (addr : Word) (data : List Byte) (crcOk : Bool) (s : State) : Host.Outcome State Fault Refusal :=
  .next (spiFrame 4 count.val width.val addr.toNat data crcOk s)
/-- Row SPI_STATUS (R493). -/
def execSpiStatus (crcOk : Bool) (s : State) : Host.Outcome State Fault Refusal := .next (spiFrame 5 0 0 0 [] crcOk s)
/-- Row SPI_REPEAT (R493). -/
def execSpiRepeat (crcOk : Bool) (s : State) : Host.Outcome State Fault Refusal := .next (spiFrame 6 0 0 0 [] crcOk s)
/-- Row SPI_CS_ABORT (R491). -/
def execSpiCsAbort (s : State) : Host.Outcome State Fault Refusal := .next ({ s with host := { s.host with spiOut := [] } })
/-- Row FLARY_DISCOVER (R496, R500). -/
def execFlaryDiscover (req : FlaryReq) (s : State) : Host.Outcome State Fault Refusal := .next (flaryRow 1 req s)
/-- Row FLARY_READ (R496, R497, R500). -/
def execFlaryRead (req : FlaryReq) (s : State) : Host.Outcome State Fault Refusal := .next (flaryRow 2 req s)
/-- Row FLARY_WRITE (R500). -/
def execFlaryWrite (req : FlaryReq) (s : State) : Host.Outcome State Fault Refusal := .next (flaryRow 3 req s)
/-- Row FLARY_READ_FIX (R500). -/
def execFlaryReadFix (req : FlaryReq) (s : State) : Host.Outcome State Fault Refusal := .next (flaryRow 4 req s)
/-- Row FLARY_WRITE_FIX (R500). -/
def execFlaryWriteFix (req : FlaryReq) (s : State) : Host.Outcome State Fault Refusal := .next (flaryRow 5 req s)
/-- Row FLARY_EVENT_SUB (R502, R504). -/
def execFlaryEventSub (req : FlaryReq) (s : State) : Host.Outcome State Fault Refusal := .next (flaryRow 6 req s)
/-- Row FLARY_EVENT_SEND (R502). -/
def execFlaryEventSend (sub : Nat) (s : State) : Host.Outcome State Fault Refusal := .next (eventSend sub s)
/-- Row FLARY_SUB_LAPSE (R502). -/
def execFlarySubLapse (sub : Nat) (s : State) : Host.Outcome State Fault Refusal := .next (subLapse sub s)
/-- Row SLOT_XFER_OPEN (R70, R501). -/
def execSlotXferOpen (req : FlaryReq) (s : State) : Host.Outcome State Fault Refusal := .next (flaryRow 17 req s)
/-- Row SLOT_XFER_DATA (R70, R501). -/
def execSlotXferData (req : FlaryReq) (s : State) : Host.Outcome State Fault Refusal := .next (flaryRow 18 req s)
/-- Row SLOT_XFER_CLOSE (R70, R501). -/
def execSlotXferClose (req : FlaryReq) (s : State) : Host.Outcome State Fault Refusal := .next (flaryRow 19 req s)
/-- Row SLOT_XFER_VERIFY (R70, R501). -/
def execSlotXferVerify (req : FlaryReq) (s : State) : Host.Outcome State Fault Refusal := .next (flaryRow 20 req s)
/-- Row MSG_XFER_OPEN (R205, R501). -/
def execMsgXferOpen (req : FlaryReq) (s : State) : Host.Outcome State Fault Refusal := .next (flaryRow 33 req s)
/-- Row MSG_XFER_DATA (R205, R501). -/
def execMsgXferData (req : FlaryReq) (s : State) : Host.Outcome State Fault Refusal := .next (flaryRow 34 req s)
/-- Row MSG_XFER_CLOSE (R205, R501). -/
def execMsgXferClose (req : FlaryReq) (s : State) : Host.Outcome State Fault Refusal := .next (flaryRow 35 req s)
/-- Row MSG_XFER_VERIFY (R205, R501). -/
def execMsgXferVerify (req : FlaryReq) (s : State) : Host.Outcome State Fault Refusal := .next (flaryRow 36 req s)
/-- Row MSG_XFER_DELETE (R205, R501). -/
def execMsgXferDelete (req : FlaryReq) (s : State) : Host.Outcome State Fault Refusal := .next (flaryRow 37 req s)
/-- Row FLARY_LOG_READ (R501, R504). -/
def execFlaryLogRead (req : FlaryReq) (s : State) : Host.Outcome State Fault Refusal := .next (flaryRow 10 req s)
/-- Row FLARY_TELEMETRY (R500, R504). -/
def execFlaryTelemetry (req : FlaryReq) (s : State) : Host.Outcome State Fault Refusal := .next (flaryRow 11 req s)
/-- Row FLARY_RESPONSE (R498). -/
def execFlaryResponse (req : FlaryReq) (s : State) : Host.Outcome State Fault Refusal := .next (flaryResponse req s)
/-- Row SEM_WAIT_TIMEOUT (R518). -/
def execSemWaitTimeout (n : Fin 64) (s : State) : Host.Outcome State Fault Refusal := .next (semTimeout n.val s)
/-- Row SEM_LEASE_EXPIRE (R520). -/
def execSemLeaseExpire (n : Fin 64) (s : State) : Host.Outcome State Fault Refusal := .next (leaseExpire n.val s)
/-- Row WATCHDOG_EXPIRE (R516). -/
def execWatchdogExpire (core : Fin 4) (s : State) : Host.Outcome State Fault Refusal := .next (watchdog core.val s)
/-- Row DAW_READ (R523, R524). -/
def execDawRead (addr : Word) (s : State) : Host.Outcome State Fault Refusal := .next (daw false addr.toNat 0 s)
/-- Row DAW_WRITE (R523, R525). -/
def execDawWrite (addr : Word) (data : Word) (s : State) : Host.Outcome State Fault Refusal := .next (served s (daw true addr.toNat data.toNat s))
/-- Row DAW_READ_NEXT (R523). -/
def execDawReadNext (s : State) : Host.Outcome State Fault Refusal := .next (daw false (s.host.dawAddr + 4) 0 s)
/-- Row DAW_WRITE_NEXT (R523). -/
def execDawWriteNext (data : Word) (s : State) : Host.Outcome State Fault Refusal := .next (served s (daw true (s.host.dawAddr + 4) data.toNat s))
/-- Row EXTEST (R522). -/
def execExtest (s : State) : Host.Outcome State Fault Refusal := .next (tapLoad 0 s)
/-- Row CLAMP (R522). -/
def execClamp (s : State) : Host.Outcome State Fault Refusal := .next (tapLoad 4 s)
/-- Row HIGHZ (R522). -/
def execHighz (s : State) : Host.Outcome State Fault Refusal := .next (tapLoad 5 s)
/-- Row IDCODE (R521). -/
def execIdcode (s : State) : Host.Outcome State Fault Refusal := .next (tapLoad 1 s)
/-- Row SAMPLE_PRELOAD (R521). -/
def execSamplePreload (s : State) : Host.Outcome State Fault Refusal := .next (tapLoad 2 s)
/-- Row BYPASS (R521). -/
def execBypass (s : State) : Host.Outcome State Fault Refusal := .next (tapLoad 0xFF s)
/-- Row DAW_INSTRUCTION (R521). -/
def execDawInstruction (s : State) : Host.Outcome State Fault Refusal := .next (tapLoad 0x20 s)
/-- Row TAP_RESET (R521). -/
def execTapReset (s : State) : Host.Outcome State Fault Refusal := .next (tapLoad 1 s)

end Sys2Proof.Machine
end

