-- ==== Sys2Proof/Machine/HostRows.lean ====
section
/-! DEFINITION. The rows that a host brings about by a register write or read of its own: each is one access through the path
named, with the register's other fields as they stand (R10, R486, R609). -/
namespace Sys2Proof.Machine
open Sys2Proof

/-- A field with a value, for a composed write. -/
def Fld.is' (f : Fld) (v : Nat) : Nat × Nat × Nat := (f.hi, f.lo, v)
/-- A domain on its way up reaches L0 (R556, R558). -/
def domWoken (d : Nat) (s : State) : State := if (s.domn d).waking then domUp applyReg d s else s
/-- Row REG_WRITE (R10). -/
def execRegWrite (acc : Access) (addr : Word) (value : Word) (s : State) : Host.Outcome State Fault Refusal :=
  .next (served s (hostWrite acc addr.toNat value.toNat s))
/-- Row KS_ALARM_ARM (KS_ALARMn_CTRL.ARM, R53). -/
def execKsAlarmArm (acc : Access) (n : Fin 4) (s : State) : Host.Outcome State Fault Refusal :=
  .next (hostSet acc Reg.KS_ALARMn_CTRL n.val [Reg.KS_ALARMn_CTRL_ARM.is' 1] s)
/-- Row KS_ALARM_DISARM (KS_ALARMn_CTRL.DISARM, R53). -/
def execKsAlarmDisarm (acc : Access) (n : Fin 4) (s : State) : Host.Outcome State Fault Refusal :=
  .next (hostSet acc Reg.KS_ALARMn_CTRL n.val [Reg.KS_ALARMn_CTRL_DISARM.is' 1] s)
/-- Row KS_CAPTURE (KS_CTRL.CAPTURE, R10). -/
def execKsCapture (acc : Access) (s : State) : Host.Outcome State Fault Refusal := .next (hostSet acc Reg.KS_CTRL 0 [Reg.KS_CTRL_CAPTURE.is' 1] s)
/-- Row KS_OVR_CLR (KS_CTRL.OVR_CLR, R66). -/
def execKsOvrClr (acc : Access) (s : State) : Host.Outcome State Fault Refusal := .next (hostSet acc Reg.KS_CTRL 0 [Reg.KS_CTRL_OVR_CLR.is' 1] s)
/-- Row SLOT_OPEN (IMG_SLOT_CTRL.OPEN, R70). -/
def execSlotOpen (acc : Access) (slotB : Bool) (s : State) : Host.Outcome State Fault Refusal :=
  .next (hostSet acc Reg.IMG_SLOT_CTRL 0 [Reg.IMG_SLOT_CTRL_SLOT.is' (b2n slotB), Reg.IMG_SLOT_CTRL_OPEN.is' 1] s)
/-- Row SLOT_DATA (IMG_SLOT_DATA, R70). -/
def execSlotData (acc : Access) (data : Word) (s : State) : Host.Outcome State Fault Refusal :=
  .next (hostWrite acc Reg.IMG_SLOT_DATA.addr data.toNat s)
/-- Row SLOT_CLOSE (IMG_SLOT_CTRL.CLOSE, R70). -/
def execSlotClose (acc : Access) (slotB : Bool) (s : State) : Host.Outcome State Fault Refusal :=
  .next (hostSet acc Reg.IMG_SLOT_CTRL 0 [Reg.IMG_SLOT_CTRL_SLOT.is' (b2n slotB), Reg.IMG_SLOT_CTRL_CLOSE.is' 1] s)
/-- Row SLOT_VERIFY (IMG_SLOT_CTRL.VERIFY, R70). -/
def execSlotVerify (acc : Access) (slotB : Bool) (s : State) : Host.Outcome State Fault Refusal :=
  .next (hostSet acc Reg.IMG_SLOT_CTRL 0 [Reg.IMG_SLOT_CTRL_SLOT.is' (b2n slotB), Reg.IMG_SLOT_CTRL_VERIFY.is' 1] s)
/-- Row IMG_LOAD (IMG_CTRL.LOAD, R111). -/
def execImgLoad (acc : Access) (slotB : Bool) (s : State) : Host.Outcome State Fault Refusal :=
  .next (hostSet acc Reg.IMG_CTRL 0 [Reg.IMG_CTRL_SLOT.is' (b2n slotB), Reg.IMG_CTRL_LOAD.is' 1] s)
/-- Row IMG_ARM (IMG_CTRL.ARM, R113). -/
def execImgArm (acc : Access) (s : State) : Host.Outcome State Fault Refusal := .next (hostSet acc Reg.IMG_CTRL 0 [Reg.IMG_CTRL_ARM.is' 1] s)
/-- Row IMG_DISARM (IMG_CTRL.DISARM, R119). -/
def execImgDisarm (acc : Access) (s : State) : Host.Outcome State Fault Refusal := .next (hostSet acc Reg.IMG_CTRL 0 [Reg.IMG_CTRL_DISARM.is' 1] s)
/-- Row IMG_DISCARD (IMG_CTRL.DISCARD, R111). -/
def execImgDiscard (acc : Access) (s : State) : Host.Outcome State Fault Refusal := .next (hostSet acc Reg.IMG_CTRL 0 [Reg.IMG_CTRL_DISCARD.is' 1] s)
/-- Row IMG_DEACTIVATE (IMG_CTRL.DEACTIVATE, R120). -/
def execImgDeactivate (acc : Access) (s : State) : Host.Outcome State Fault Refusal :=
  .next (hostSet acc Reg.IMG_CTRL 0 [Reg.IMG_CTRL_DEACTIVATE.is' 1] s)
/-- Row IMG_ACCEPT (IMG_CTRL.ACCEPT, R125). -/
def execImgAccept (acc : Access) (s : State) : Host.Outcome State Fault Refusal := .next (hostSet acc Reg.IMG_CTRL 0 [Reg.IMG_CTRL_ACCEPT.is' 1] s)
/-- Row SIG_LOCK (IMG_SIG.LOCK, R105). -/
def execSigLock (acc : Access) (s : State) : Host.Outcome State Fault Refusal := .next (hostSet acc Reg.IMG_SIG 0 [Reg.IMG_SIG_LOCK.is' 1] s)
/-- Row ENG_CNT_CLR (ENG_CTRL.CNT_CLR, R153). -/
def execEngCntClr (acc : Access) (s : State) : Host.Outcome State Fault Refusal := .next (hostSet acc Reg.ENG_CTRL 0 [Reg.ENG_CTRL_CNT_CLR.is' 1] s)
/-- Row ENG_PEAK_CLR (ENG_CTRL.PEAK_CLR, R166). -/
def execEngPeakClr (acc : Access) (s : State) : Host.Outcome State Fault Refusal := .next (hostSet acc Reg.ENG_CTRL 0 [Reg.ENG_CTRL_PEAK_CLR.is' 1] s)
/-- Row PARAM_WRITE (R170). -/
def execParamWrite (acc : Access) (offset : Fin 65536) (width : Fin 3) (value : Word) (s : State) : Host.Outcome State Fault Refusal :=
  .next (single acc true (0x40000 + offset.val) (2 ^ width.val) value.toNat s)
/-- Row SWAP_ARM (MIX_SWAP_CTRL.ARM, R189). -/
def execSwapArm (acc : Access) (space : Fin 8) (s : State) : Host.Outcome State Fault Refusal :=
  .next (hostSet acc Reg.MIX_SWAP_CTRL 0 [Reg.MIX_SWAP_CTRL_TEN.is' space.val, Reg.MIX_SWAP_CTRL_ARM.is' 1] s)
/-- Row SWAP_DISARM (MIX_SWAP_CTRL.DISARM, R189). -/
def execSwapDisarm (acc : Access) (space : Fin 8) (s : State) : Host.Outcome State Fault Refusal :=
  .next (hostSet acc Reg.MIX_SWAP_CTRL 0 [Reg.MIX_SWAP_CTRL_TEN.is' space.val, Reg.MIX_SWAP_CTRL_DISARM.is' 1] s)
/-- Row SWAP_REVERT (MIX_SWAP_CTRL.REVERT, R191). -/
def execSwapRevert (acc : Access) (space : Fin 8) (s : State) : Host.Outcome State Fault Refusal :=
  .next (hostSet acc Reg.MIX_SWAP_CTRL 0 [Reg.MIX_SWAP_CTRL_TEN.is' space.val, Reg.MIX_SWAP_CTRL_REVERT.is' 1] s)
/-- Row LATCH_ARM (MIX_LATCH_CTRL.ARM, R195). -/
def execLatchArm (acc : Access) (s : State) : Host.Outcome State Fault Refusal :=
  .next (hostSet acc Reg.MIX_LATCH_CTRL 0 [Reg.MIX_LATCH_CTRL_ARM.is' 1] s)
/-- Row LATCH_DISARM (MIX_LATCH_CTRL.DISARM, R195). -/
def execLatchDisarm (acc : Access) (s : State) : Host.Outcome State Fault Refusal :=
  .next (hostSet acc Reg.MIX_LATCH_CTRL 0 [Reg.MIX_LATCH_CTRL_DISARM.is' 1] s)
/-- Row HOLD_CLR (MIX_LATCH_CTRL.HOLD_CLR, R194). -/
def execHoldClr (acc : Access) (s : State) : Host.Outcome State Fault Refusal :=
  .next (hostSet acc Reg.MIX_LATCH_CTRL 0 [Reg.MIX_LATCH_CTRL_HOLD_CLR.is' 1] s)
/-- Row PFIR_LOAD (MIX_PFIR_CTRL.LOAD, R178). -/
def execPfirLoad (acc : Access) (id : Fin 4096) (ch : Fin 8) (s : State) : Host.Outcome State Fault Refusal :=
  .next (hostSet acc Reg.MIX_PFIR_CTRL 0 [Reg.MIX_PFIR_CTRL_CH.is' ch.val, Reg.MIX_PFIR_CTRL_ID.is' id.val, Reg.MIX_PFIR_CTRL_LOAD.is' 1] s)
/-- Row REC_FREEZE (MIX_REC_CTRL.FREEZE, R202). -/
def execRecFreeze (acc : Access) (s : State) : Host.Outcome State Fault Refusal :=
  .next (hostSet acc Reg.MIX_REC_CTRL 0 [Reg.MIX_REC_CTRL_FREEZE.is' 1] s)
/-- Row REC_RUN (MIX_REC_CTRL.RUN, R202). -/
def execRecRun (acc : Access) (s : State) : Host.Outcome State Fault Refusal := .next (hostSet acc Reg.MIX_REC_CTRL 0 [Reg.MIX_REC_CTRL_RUN.is' 1] s)
/-- Row MSG_OPEN (MIX_MSG_CTRL.OPEN, R205). -/
def execMsgOpen (acc : Access) (number : Fin 1024) (s : State) : Host.Outcome State Fault Refusal :=
  .next (hostSet acc Reg.MIX_MSG_CTRL 0 [Reg.MIX_MSG_CTRL_NUMBER.is' number.val, Reg.MIX_MSG_CTRL_OPEN.is' 1] s)
/-- Row MSG_DATA (MIX_MSG_DATA, R205). -/
def execMsgData (acc : Access) (data : Word) (s : State) : Host.Outcome State Fault Refusal :=
  .next (hostWrite acc Reg.MIX_MSG_DATA.addr data.toNat s)
/-- Row MSG_CLOSE (MIX_MSG_CTRL.CLOSE, R205). -/
def execMsgClose (acc : Access) (number : Fin 1024) (s : State) : Host.Outcome State Fault Refusal :=
  .next (hostSet acc Reg.MIX_MSG_CTRL 0 [Reg.MIX_MSG_CTRL_NUMBER.is' number.val, Reg.MIX_MSG_CTRL_CLOSE.is' 1] s)
/-- Row MSG_VERIFY (MIX_MSG_CTRL.VERIFY, R205). -/
def execMsgVerify (acc : Access) (number : Fin 1024) (s : State) : Host.Outcome State Fault Refusal :=
  .next (hostSet acc Reg.MIX_MSG_CTRL 0 [Reg.MIX_MSG_CTRL_NUMBER.is' number.val, Reg.MIX_MSG_CTRL_VERIFY.is' 1] s)
/-- Row MSG_DELETE (MIX_MSG_CTRL.DELETE, R205). -/
def execMsgDelete (acc : Access) (number : Fin 1024) (s : State) : Host.Outcome State Fault Refusal :=
  .next (hostSet acc Reg.MIX_MSG_CTRL 0 [Reg.MIX_MSG_CTRL_NUMBER.is' number.val, Reg.MIX_MSG_CTRL_DELETE.is' 1] s)
/-- Row DP_AGE_CLR (RING_DP_CTRL.AGE_CLR, R236). -/
def execDpAgeClr (acc : Access) (s : State) : Host.Outcome State Fault Refusal :=
  .next (hostSet acc Reg.RING_DP_CTRL 0 [Reg.RING_DP_CTRL_AGE_CLR.is' 1] s)
/-- Row DP_CNT_CLR (RING_DP_CTRL.CNT_CLR, R234). -/
def execDpCntClr (acc : Access) (s : State) : Host.Outcome State Fault Refusal :=
  .next (hostSet acc Reg.RING_DP_CTRL 0 [Reg.RING_DP_CTRL_CNT_CLR.is' 1] s)
/-- Row RING_COMMIT (RING_CTL_CTRL.COMMIT, R265). -/
def execRingCommit (acc : Access) (s : State) : Host.Outcome State Fault Refusal :=
  .next (hostSet acc Reg.RING_CTL_CTRL 0 [Reg.RING_CTL_CTRL_COMMIT.is' 1] s)
/-- Row RING_TM_REQ (RING_CTL_CTRL.TM_REQ, R273). -/
def execRingTmReq (acc : Access) (s : State) : Host.Outcome State Fault Refusal :=
  .next (hostSet acc Reg.RING_CTL_CTRL 0 [Reg.RING_CTL_CTRL_TM_REQ.is' 1] s)
/-- Row RING_LEAVE (RING_CTL_CTRL.LEAVE, R281). -/
def execRingLeave (acc : Access) (s : State) : Host.Outcome State Fault Refusal :=
  .next (hostSet acc Reg.RING_CTL_CTRL 0 [Reg.RING_CTL_CTRL_LEAVE.is' 1] s)
/-- Row RING_REROLL (RING_CTL_CTRL.REROLL, R286). -/
def execRingReroll (acc : Access) (s : State) : Host.Outcome State Fault Refusal :=
  .next (hostSet acc Reg.RING_CTL_CTRL 0 [Reg.RING_CTL_CTRL_REROLL.is' 1] s)
/-- Row RING_SLEEP (RING_CTL_CTRL.SLEEP, R290). -/
def execRingSleep (acc : Access) (s : State) : Host.Outcome State Fault Refusal :=
  .next (hostSet acc Reg.RING_CTL_CTRL 0 [Reg.RING_CTL_CTRL_SLEEP.is' 1] s)
/-- Row RING_WAKE (RING_CTL_CTRL.WAKE, R293). -/
def execRingWake (acc : Access) (s : State) : Host.Outcome State Fault Refusal :=
  .next (hostSet acc Reg.RING_CTL_CTRL 0 [Reg.RING_CTL_CTRL_WAKE.is' 1] s)
/-- Row PORT_MODE_WRITE (PORT_Pp_CFG.MODE, R300). -/
def execPortModeWrite (acc : Access) (port : Fin 3) (mode : Fin 8) (s : State) : Host.Outcome State Fault Refusal :=
  .next (hostSet acc Reg.PORT_Pp_CFG port.val [Reg.PORT_Pp_CFG_MODE.is' mode.val] s)
/-- Row AAF_STREAM_ENABLE (PORT_AAFs_CFG.EN, R314). -/
def execAafStreamEnable (acc : Access) (stream : Fin 16) (s : State) : Host.Outcome State Fault Refusal :=
  .next (hostSet acc Reg.PORT_AAFs_CFG stream.val [Reg.PORT_AAFs_CFG_EN.is' 1] s)
/-- Row SBUS_TX_HEAD (SBUS_TX_HEAD, R322). -/
def execSbusTxHead (acc : Access) (value : Word) (s : State) : Host.Outcome State Fault Refusal :=
  .next (hostWrite acc Reg.SBUS_TX_HEAD.addr value.toNat s)
/-- Row SBUS_RX_TAIL (SBUS_RX_TAIL, R322). -/
def execSbusRxTail (acc : Access) (value : Word) (s : State) : Host.Outcome State Fault Refusal :=
  .next (hostWrite acc Reg.SBUS_RX_TAIL.addr value.toNat s)
/-- Row SNAP_SEND (PORT_STAT_CTRL.SEND, R328). -/
def execSnapSend (acc : Access) (s : State) : Host.Outcome State Fault Refusal :=
  .next (hostSet acc Reg.PORT_STAT_CTRL 0 [Reg.PORT_STAT_CTRL_SEND.is' 1] s)
/-- Row SNAP_LOCAL (PORT_STAT_CTRL.LOCAL, R328). -/
def execSnapLocal (acc : Access) (s : State) : Host.Outcome State Fault Refusal :=
  .next (hostSet acc Reg.PORT_STAT_CTRL 0 [Reg.PORT_STAT_CTRL_LOCAL.is' 1] s)
/-- Row CH_ARM (PWR_CHn_CTRL.ARM, R347). -/
def execChArm (acc : Access) (n : Fin 8) (s : State) : Host.Outcome State Fault Refusal :=
  .next (hostSet acc Reg.PWR_CHn_CTRL n.val [Reg.PWR_CHn_CTRL_ARM.is' 1] s)
/-- Row CH_RELEASE (PWR_CHn_CTRL.RELEASE, R347). -/
def execChRelease (acc : Access) (n : Fin 8) (timed : Bool) (s : State) : Host.Outcome State Fault Refusal :=
  .next (hostSet acc Reg.PWR_CHn_CTRL n.val [Reg.PWR_CHn_CTRL_TIMED.is' (b2n timed), Reg.PWR_CHn_CTRL_RELEASE.is' 1] s)
/-- Row CH_MUTE (PWR_CHn_CTRL.MUTE, R347). -/
def execChMute (acc : Access) (n : Fin 8) (timed : Bool) (s : State) : Host.Outcome State Fault Refusal :=
  .next (hostSet acc Reg.PWR_CHn_CTRL n.val [Reg.PWR_CHn_CTRL_TIMED.is' (b2n timed), Reg.PWR_CHn_CTRL_MUTE.is' 1] s)
/-- Row CH_DISARM (PWR_CHn_CTRL.DISARM, R347). -/
def execChDisarm (acc : Access) (n : Fin 8) (s : State) : Host.Outcome State Fault Refusal :=
  .next (hostSet acc Reg.PWR_CHn_CTRL n.val [Reg.PWR_CHn_CTRL_DISARM.is' 1] s)
/-- Row SW_APPLY (PWR_SW_CTRL.APPLY, R358). -/
def execSwApply (acc : Access) (s : State) : Host.Outcome State Fault Refusal := .next (hostSet acc Reg.PWR_SW_CTRL 0 [Reg.PWR_SW_CTRL_APPLY.is' 1] s)
/-- Row PROT_SELECT_WRITE (BST_CHn_PROT, R390). -/
def execProtSelectWrite (acc : Access) (n : Fin 8) (value : Word) (s : State) : Host.Outcome State Fault Refusal :=
  .next (hostWrite acc (Reg.BST_CHn_PROT.addr + Reg.BST_CHn_PROT.s1 * n.val) value.toNat s)
/-- Row DIAG_START (BST_DIAG_CTRL.START, R392). -/
def execDiagStart (acc : Access) (s : State) : Host.Outcome State Fault Refusal :=
  .next (hostSet acc Reg.BST_DIAG_CTRL 0 [Reg.BST_DIAG_CTRL_START.is' 1] s)
/-- Row DIAG_ABORT (BST_DIAG_CTRL.ABORT, R397). -/
def execDiagAbort (acc : Access) (s : State) : Host.Outcome State Fault Refusal :=
  .next (hostSet acc Reg.BST_DIAG_CTRL 0 [Reg.BST_DIAG_CTRL_ABORT.is' 1] s)
/-- Row ADC_SYNC (ANA_CTRL.ADC_SYNC, R406). -/
def execAdcSync (acc : Access) (s : State) : Host.Outcome State Fault Refusal := .next (hostSet acc Reg.ANA_CTRL 0 [Reg.ANA_CTRL_ADC_SYNC.is' 1] s)
/-- Row OUT_START (ANA_OUTn_CTRL.START, R412). -/
def execOutStart (acc : Access) (n : Fin 4) (s : State) : Host.Outcome State Fault Refusal :=
  .next (hostSet acc Reg.ANA_OUTn_CTRL n.val [Reg.ANA_OUTn_CTRL_START.is' 1] s)
/-- Row OUT_STOP (ANA_OUTn_CTRL.STOP, R412). -/
def execOutStop (acc : Access) (n : Fin 4) (s : State) : Host.Outcome State Fault Refusal :=
  .next (hostSet acc Reg.ANA_OUTn_CTRL n.val [Reg.ANA_OUTn_CTRL_STOP.is' 1] s)
/-- Row SAP_ENABLE (SAPn_CFG.EN, R433). -/
def execSapEnable (acc : Access) (n : Fin 3) (s : State) : Host.Outcome State Fault Refusal :=
  .next (hostSet acc Reg.SAPn_CFG n.val [Reg.SAPn_CFG_EN.is' 1] s)
/-- Row DMA_ENABLE (SAPn_CAP_CFG.EN or SAPn_PB_CFG.EN, R440). -/
def execDmaEnable (acc : Access) (n : Fin 3) (playback : Bool) (s : State) : Host.Outcome State Fault Refusal :=
  .next (hostSet acc (if playback then Reg.SAPn_PB_CFG else Reg.SAPn_CAP_CFG) n.val [(31, 31, 1)] s)
/-- Row CAP_RD_WRITE (SAPn_CAP_RD, R438). -/
def execCapRdWrite (acc : Access) (n : Fin 3) (value : Word) (s : State) : Host.Outcome State Fault Refusal :=
  .next (hostWrite acc (Reg.SAPn_CAP_RD.addr + Reg.SAPn_CAP_RD.s1 * n.val) value.toNat s)
/-- Row PB_WR_WRITE (SAPn_PB_WR, R438). -/
def execPbWrWrite (acc : Access) (n : Fin 3) (value : Word) (s : State) : Host.Outcome State Fault Refusal :=
  .next (hostWrite acc (Reg.SAPn_PB_WR.addr + Reg.SAPn_PB_WR.s1 * n.val) value.toNat s)
/-- Row AUX_QUEUE_WRITE (AUXn_QUEUE, R449). -/
def execAuxQueueWrite (acc : Access) (n : Fin 4) (value : Word) (s : State) : Host.Outcome State Fault Refusal :=
  .next (hostWrite acc (Reg.AUXn_QUEUE.addr + Reg.AUXn_QUEUE.s1 * n.val) value.toNat s)
/-- Row AUX_FLUSH (AUXn_CTRL.FLUSH, R449). -/
def execAuxFlush (acc : Access) (n : Fin 4) (s : State) : Host.Outcome State Fault Refusal :=
  .next (hostSet acc Reg.AUXn_CTRL n.val [Reg.AUXn_CTRL_FLUSH.is' 1] s)
/-- Row AUX_SYNC (AUXn_CTRL.SYNC, R454). -/
def execAuxSync (acc : Access) (n : Fin 4) (s : State) : Host.Outcome State Fault Refusal :=
  .next (hostSet acc Reg.AUXn_CTRL n.val [Reg.AUXn_CTRL_SYNC.is' 1] s)
/-- Row AUX_MODE_REQ (AUXn_CTRL.MODE_REQ, R451). -/
def execAuxModeReq (acc : Access) (n : Fin 4) (mode : Fin 4) (s : State) : Host.Outcome State Fault Refusal :=
  .next (hostSet acc Reg.AUXn_CTRL n.val [Reg.AUXn_CTRL_MODE_REQ.is' mode.val] s)
/-- Row AUX_ENABLE (AUXn_CFG.EN set, R451). -/
def execAuxEnable (acc : Access) (n : Fin 4) (s : State) : Host.Outcome State Fault Refusal :=
  .next (hostSet acc Reg.AUXn_CFG n.val [Reg.AUXn_CFG_EN.is' 1] s)
/-- Row AUX_DISABLE (AUXn_CFG.EN cleared, R451). -/
def execAuxDisable (acc : Access) (n : Fin 4) (s : State) : Host.Outcome State Fault Refusal :=
  .next (hostSet acc Reg.AUXn_CFG n.val [Reg.AUXn_CFG_EN.is' 0] s)
/-- Row PHASE_STEP_WRITE (CLK_Pp_PHASE.STEP, R478). -/
def execPhaseStepWrite (acc : Access) (p : Fin 3) (value : Word) (s : State) : Host.Outcome State Fault Refusal :=
  .next (hostWrite acc (Reg.CLK_Pp_PHASE.addr + Reg.CLK_Pp_PHASE.s1 * p.val) value.toNat s)
/-- Row TEN_ALLOC (TEN_ALLOC_CTRL.ALLOC, R508). -/
def execTenAlloc (acc : Access) (mib : Fin 8192) (s : State) : Host.Outcome State Fault Refusal :=
  .next (hostSet acc Reg.TEN_ALLOC_CTRL 0 [Reg.TEN_ALLOC_CTRL_SIZE_MIB.is' mib.val, Reg.TEN_ALLOC_CTRL_ALLOC.is' 1] s)
/-- Row TEN_FREE (TEN_ALLOC_CTRL.FREE, R508). -/
def execTenFree (acc : Access) (handle : Fin 16) (s : State) : Host.Outcome State Fault Refusal :=
  .next (hostSet acc Reg.TEN_ALLOC_CTRL 0 [Reg.TEN_ALLOC_CTRL_HANDLE.is' handle.val, Reg.TEN_ALLOC_CTRL_FREE.is' 1] s)
/-- Row TEN_HOLD (TEN_HOLD.HOLD, R505). -/
def execTenHold (acc : Access) (id : Fin 4096) (s : State) : Host.Outcome State Fault Refusal :=
  .next (hostSet acc Reg.TEN_HOLD 0 [Reg.TEN_HOLD_ID.is' id.val, Reg.TEN_HOLD_HOLD.is' 1] s)
/-- Row TEN_RELEASE (TEN_HOLD.RELEASE, R505). -/
def execTenRelease (acc : Access) (id : Fin 4096) (s : State) : Host.Outcome State Fault Refusal :=
  .next (hostSet acc Reg.TEN_HOLD 0 [Reg.TEN_HOLD_ID.is' id.val, Reg.TEN_HOLD_RELEASE.is' 1] s)
/-- Row TEN_EVICT (TEN_CTRL.EVICT, R512). -/
def execTenEvict (acc : Access) (ten : Fin 8) (s : State) : Host.Outcome State Fault Refusal :=
  .next (hostSet acc Reg.TEN_CTRL 0 [Reg.TEN_CTRL_TEN.is' ten.val, Reg.TEN_CTRL_EVICT.is' 1] s)
/-- Row DRAM_WIN_WRITE (TEN_DRAM_WIN, R507). -/
def execDramWinWrite (acc : Access) (value : Word) (s : State) : Host.Outcome State Fault Refusal :=
  .next (hostWrite acc Reg.TEN_DRAM_WIN.addr value.toNat s)
/-- Row CAP_WRITE (TEN_Tt_CAP0 to CAP3, R511). -/
def execCapWrite (acc : Access) (ten : Fin 8) (cap : Fin 4) (value : Word) (s : State) : Host.Outcome State Fault Refusal :=
  .next (hostWrite acc (Reg.TEN_Tt_CAP0.addr + Reg.TEN_Tt_CAP0.s1 * ten.val + 4 * cap.val) value.toNat s)
/-- Row SEM_READ (TEN_SEMn, R518). -/
def execSemRead (acc : Access) (n : Fin 64) (s : State) : Host.Outcome State Fault Refusal := .next (hostRead acc (0x110C00 + 16 * n.val) s)
/-- Row SEM_WAIT (TEN_SEMn_WAIT, R518). -/
def execSemWait (acc : Access) (n : Fin 64) (s : State) : Host.Outcome State Fault Refusal := .next (hostRead acc (0x110C04 + 16 * n.val) s)
/-- Row SEM_REL (TEN_SEMn_REL, R519). -/
def execSemRel (acc : Access) (n : Fin 64) (s : State) : Host.Outcome State Fault Refusal := .next (hostWrite acc (0x110C08 + 16 * n.val) 1 s)
/-- Row CORE_HALT (DBG_CORE_CTRL.HALT, R526). -/
def execCoreHalt (acc : Access) (mask : Fin 16) (s : State) : Host.Outcome State Fault Refusal :=
  .next (hostSet acc Reg.DBG_CORE_CTRL 0 [Reg.DBG_CORE_CTRL_MASK.is' mask.val, Reg.DBG_CORE_CTRL_HALT.is' 1] s)
/-- Row CORE_RESUME (DBG_CORE_CTRL.RESUME, R499, R526). -/
def execCoreResume (acc : Access) (mask : Fin 16) (s : State) : Host.Outcome State Fault Refusal :=
  .next (served s (hostSet acc Reg.DBG_CORE_CTRL 0 [Reg.DBG_CORE_CTRL_MASK.is' mask.val, Reg.DBG_CORE_CTRL_RESUME.is' 1] s))
/-- Row SEM_BREAK (DBG_SEM_BREAK.BREAK, R520). -/
def execSemBreak (acc : Access) (n : Fin 64) (s : State) : Host.Outcome State Fault Refusal :=
  .next (hostSet acc Reg.DBG_SEM_BREAK 0 [Reg.DBG_SEM_BREAK_SEM.is' n.val, Reg.DBG_SEM_BREAK_BREAK.is' 1] s)
/-- Row DBG_LOCK (DBG_CFG.LOCK, R527). -/
def execDbgLock (acc : Access) (s : State) : Host.Outcome State Fault Refusal := .next (hostSet acc Reg.DBG_CFG 0 [Reg.DBG_CFG_LOCK.is' 1] s)
/-- Row FLT_CLASS_WRITE (FLT_SRCn.CLASS, R529). -/
def execFltClassWrite (acc : Access) (source : Fin 256) (cls : Fin 4) (s : State) : Host.Outcome State Fault Refusal :=
  .next (hostSet acc Reg.FLT_SRCn source.val [Reg.FLT_SRCn_CLASS.is' cls.val] s)
/-- Row FLT_CLEAR_HALT (FLT_CLEAR.HALT, R542). -/
def execFltClearHalt (acc : Access) (s : State) : Host.Outcome State Fault Refusal := .next (hostSet acc Reg.FLT_CLEAR 0 [Reg.FLT_CLEAR_HALT.is' 1] s)
/-- Row FLT_CLEAR_LOAD (FLT_CLEAR.LOAD, R541). -/
def execFltClearLoad (acc : Access) (mask : Fin 256) (s : State) : Host.Outcome State Fault Refusal :=
  .next (hostSet acc Reg.FLT_CLEAR 0 [Reg.FLT_CLEAR_LOAD.is' 1, Reg.FLT_CLEAR_LOAD_MASK.is' mask.val] s)
/-- Row FLT_CLEAR_RESTART (FLT_CLEAR.RESTART, R543). -/
def execFltClearRestart (acc : Access) (halt : Bool) (load : Bool) (mask : Fin 256) (s : State) : Host.Outcome State Fault Refusal :=
  .next (hostSet acc Reg.FLT_CLEAR 0 [Reg.FLT_CLEAR_HALT.is' (b2n halt), Reg.FLT_CLEAR_LOAD.is' (b2n load), Reg.FLT_CLEAR_RESTART.is' 1, Reg.FLT_CLEAR_LOAD_MASK.is' mask.val] s)
/-- Row FLT_CNT_CLR (FLT_CLEAR.CNT_CLR, R533). -/
def execFltCntClr (acc : Access) (s : State) : Host.Outcome State Fault Refusal := .next (hostSet acc Reg.FLT_CLEAR 0 [Reg.FLT_CLEAR_CNT_CLR.is' 1] s)
/-- Row HIST_POP (FLT_HIST_TOP0, R550). -/
def execHistPop (acc : Access) (s : State) : Host.Outcome State Fault Refusal := .next (hostRead acc 0x120030 s)
/-- Row INJ_ARM (FLT_INJ.ARM, R553). -/
def execInjArm (acc : Access) (target : Fin 16) (mode : Fin 4) (unit : Fin 32) (s : State) : Host.Outcome State Fault Refusal :=
  .next (hostSet acc Reg.FLT_INJ 0 [Reg.FLT_INJ_TARGET.is' target.val, Reg.FLT_INJ_MODE.is' mode.val, Reg.FLT_INJ_UNIT.is' unit.val, Reg.FLT_INJ_ARM.is' 1] s)
/-- Row DOMAIN_TARGET_WRITE (DOM_Dnn_CFG.TARGET, R560). -/
def execDomainTargetWrite (acc : Access) (d : Fin 60) (target : Fin 4) (s : State) : Host.Outcome State Fault Refusal :=
  .next (hostSet acc Reg.DOM_Dnn_CFG d.val [Reg.DOM_Dnn_CFG_TARGET.is' target.val] s)
/-- Row DOM_SLEEP (DOM_CTRL.SLEEP, R567). -/
def execDomSleep (acc : Access) (storage : Bool) (s : State) : Host.Outcome State Fault Refusal :=
  .next (hostSet acc Reg.DOM_CTRL 0 [Reg.DOM_CTRL_MODE.is' (b2n storage), Reg.DOM_CTRL_SLEEP.is' 1] s)
/-- Row DOM_WAKE (DOM_CTRL.WAKE, R571). -/
def execDomWake (acc : Access) (s : State) : Host.Outcome State Fault Refusal := .next (hostSet acc Reg.DOM_CTRL 0 [Reg.DOM_CTRL_WAKE.is' 1] s)
/-- Row DOMAIN_IDLE_DESCEND (R557, R568). -/
def execDomainIdleDescend (d : Fin 60) (s : State) : Host.Outcome State Fault Refusal := .next (domIdle d.val s)
/-- Row DOMAIN_DEMAND_WAKE (R558). -/
def execDomainDemandWake (d : Fin 60) (s : State) : Host.Outcome State Fault Refusal := .next (domDemand d.val s)
/-- Row DOMAIN_WAKE_DONE (R556, R558). -/
def execDomainWakeDone (d : Fin 60) (s : State) : Host.Outcome State Fault Refusal := .next (resume (domWoken d.val s))
/-- Row LINK_RESYNC (R17, R562). -/
def execLinkResync (s : State) : Host.Outcome State Fault Refusal := .next (resume (linkResync s))
/-- Row UP_FRAME (R17, R56, R369). -/
def execUpFrame (crcOk : Bool) (sense : Sense) (s : State) : Host.Outcome State Fault Refusal := .next (resume (upFrame deliver crcOk sense s))

end Sys2Proof.Machine
end

