-- ==== Sys2Proof/Machine/PortRows.lean ====
section
/-! DEFINITION. The rows of the Ethernet ports, IEEE 1722 and 1722.1, and the service bus (R269 to R329). -/
namespace Sys2Proof.Machine
open Sys2Proof

/-- Row LINK_DOWN (R282, R284, R324). -/
def execLinkDown (port : Fin 3) (s : State) : Host.Outcome State Fault Refusal := .next (linkDown port.val s)
/-- Row LINK_UP (R283, R298, R301). -/
def execLinkUp (port : Fin 3) (speed : Fin 3) (advert : Fin 8) (s : State) : Host.Outcome State Fault Refusal :=
  .next (linkUpEv port.val speed.val advert.val s)
/-- Row GPTP_PDELAY (R303). -/
def execGptpPdelay (port : Fin 3) (delayNs : Nat) (s : State) : Host.Outcome State Fault Refusal := .next (gptpPdelay port.val delayNs s)
/-- Row PORT_LOAD_UPDATE (R304). -/
def execPortLoadUpdate (port : Fin 3) (s : State) : Host.Outcome State Fault Refusal := .next (portLoadUpdate port.val s)
/-- Row SPEED_LOWER_REQ (R305, R307, R308). -/
def execSpeedLowerReq (port : Fin 3) (s : State) : Host.Outcome State Fault Refusal := .next (speedLower port.val s)
/-- Row SPEED_RAISE_REQ (R306, R307, R308). -/
def execSpeedRaiseReq (port : Fin 3) (s : State) : Host.Outcome State Fault Refusal := .next (speedRaise port.val s)
/-- Row PAUSE_RX (R309). -/
def execPauseRx (port : Fin 3) (frame : List Byte) (s : State) : Host.Outcome State Fault Refusal := .next (pauseRx port.val frame s)
/-- Row PAUSE_END (R309). -/
def execPauseEnd (port : Fin 3) (s : State) : Host.Outcome State Fault Refusal := .next (pauseEnd port.val s)
/-- Row PAUSE_BREAK (R310). -/
def execPauseBreak (port : Fin 3) (s : State) : Host.Outcome State Fault Refusal := .next (pauseBreak port.val s)
/-- Row PAUSE_RECOVER (R310). -/
def execPauseRecover (port : Fin 3) (s : State) : Host.Outcome State Fault Refusal := .next (pauseRecover port.val s)
/-- Row AAF_RX (R312, R316). -/
def execAafRx (port : Fin 3) (frame : List Byte) (s : State) : Host.Outcome State Fault Refusal := .next (aafRx port.val frame s)
/-- Row AAF_TX (R315). -/
def execAafTx (s : State) : Host.Outcome State Fault Refusal := .next (aafTx s)
/-- Row AECP_COMMAND (R317, R318). -/
def execAecpCommand (port : Fin 3) (frame : List Byte) (s : State) : Host.Outcome State Fault Refusal := .next (aecpCommand port.val frame s)
/-- Row ACMP_COMMAND (R317, R318). -/
def execAcmpCommand (port : Fin 3) (frame : List Byte) (s : State) : Host.Outcome State Fault Refusal := .next (acmpCommand port.val frame s)
/-- Row ADP_DISCOVER (R317). -/
def execAdpDiscover (port : Fin 3) (frame : List Byte) (s : State) : Host.Outcome State Fault Refusal := .next (adpDiscover port.val frame s)
/-- Row ADP_AVAILABLE (R317). -/
def execAdpAvailable (s : State) : Host.Outcome State Fault Refusal := .next (adpAvailable s)
/-- Row SBUS_RX (R321, R322, R323). -/
def execSbusRx (frame : SbusFrame) (s : State) : Host.Outcome State Fault Refusal :=
  .next (sbusRx frame.bytes frame.oddNibble frame.codeError s)
/-- Row SBUS_TX_DONE (R321, R322). -/
def execSbusTxDone (result : SbusSent) (s : State) : Host.Outcome State Fault Refusal :=
  .next (sbusTxDone result.result.val result.collisions.val result.deferred s)
/-- Row PLCA_LOSS (R320). -/
def execPlcaLoss (s : State) : Host.Outcome State Fault Refusal := .next (plcaLoss s)
/-- Row PLCA_BEACON (R320). -/
def execPlcaBeacon (s : State) : Host.Outcome State Fault Refusal := .next (plcaBeacon s)
/-- Row SNAPSHOT_RX (R329). -/
def execSnapshotRx (portB : Bool) (frame : List Byte) (s : State) : Host.Outcome State Fault Refusal :=
  .next (ctlFlood 13 portB frame id (snapAct frame) s)

end Sys2Proof.Machine
end

