-- ==== Sys2Proof/Machine/PwrRows.lean ====
section
/-! DEFINITION. The rows of the barrier link, the supplies of the power stage, its channels and its boost converters (R13
to R17, R346 to R375, R532, R576, R583, R603, R611). -/
namespace Sys2Proof.Machine
open Sys2Proof

/-- The barrier monitor has found leakage or a failed test pattern: CAPSTONE, and the power-control die holds every channel
safe until VDRV or VBUS is removed; the spec lists no CAUSE of its own for it (R532, log entry 22). Which side's monitor found it
is a free value; the high-voltage side reports it in the next UP frame (R56, R545). -/
def isoBarrier (s : State) : State :=
  let (x, s) := s.fresh
  if Config.isoSide x then hvCapstone 0 1 s
  else
  let s := s.event.raise 0 0
  if !s.pwr.on || s.pwr.held.contains 0 then s
  else ({ s with pwr := { s.pwr with held := s.pwr.held ++ [0] } } : State).hvSafe 255 1

/-- Row VDRV_RELEASE (R583). -/
def execVdrvRelease (s : State) : Host.Outcome State Fault Refusal := .next (vdrvRelease s)
/-- Row VDRV_REMOVED (R611). -/
def execVdrvRemoved (s : State) : Host.Outcome State Fault Refusal := .next (vdrvRemoved s)
/-- Row VBUS_REMOVED (R611). -/
def execVbusRemoved (s : State) : Host.Outcome State Fault Refusal := .next (vbusRemoved s)
/-- Row VBUS_START (R578). -/
def execVbusStart (s : State) : Host.Outcome State Fault Refusal := .next (vbusStart s)
/-- Row VBUS_ABS (R368, R576). -/
def execVbusAbs (s : State) : Host.Outcome State Fault Refusal := .next (vbusAbs s)
/-- Row VDRV_LOW (R368). -/
def execVdrvLow (s : State) : Host.Outcome State Fault Refusal := .next (vdrvLow s)
/-- Row VDRV_RECOVER (R368). -/
def execVdrvRecover (s : State) : Host.Outcome State Fault Refusal := .next (vdrvRecover s)
/-- Row DIE_HOT (R368). -/
def execDieHot (k : Fin 4) (s : State) : Host.Outcome State Fault Refusal := .next (dieHot k.val s)
/-- Row POWER_DIE_COOL (R368). -/
def execPowerDieCool (k : Fin 4) (s : State) : Host.Outcome State Fault Refusal := .next (dieCool k.val s)
/-- Row ISO_BARRIER (R532). -/
def execIsoBarrier (s : State) : Host.Outcome State Fault Refusal := .next (isoBarrier s)
/-- Row DN_FRAME (R16, R19, R369, R535). -/
def execDnFrame (crcOk : Bool) (s : State) : Host.Outcome State Fault Refusal := .next (dnFrame crcOk s)
/-- Row DN_LINK_LOST (R16). -/
def execDnLinkLost (s : State) : Host.Outcome State Fault Refusal := .next (dnLinkLost s)
/-- Row LOGIC_COLLAPSE (R15). -/
def execLogicCollapse (s : State) : Host.Outcome State Fault Refusal := .next (logicCollapse s)
/-- Row UP_LINK_LOST (R17). -/
def execUpLinkLost (s : State) : Host.Outcome State Fault Refusal := .next (upLinkLost s)
/-- Row SAFE_REQ_ASSERT (R13, R14). -/
def execSafeReqAssert (s : State) : Host.Outcome State Fault Refusal := .next (safeReqAssert s)
/-- Row SAFE_STATE_OFF (R353). -/
def execSafeStateOff (n : Fin 8) (s : State) : Host.Outcome State Fault Refusal := .next (safeOff n.val s)
/-- Row SAFE_STATE_SLOW (R353). -/
def execSafeStateSlow (n : Fin 8) (s : State) : Host.Outcome State Fault Refusal := .next (safeSlow n.val s)
/-- Row RELEASE_DUE (R349). -/
def execReleaseDue (n : Fin 8) (s : State) : Host.Outcome State Fault Refusal := .next (releaseDue n.val s)
/-- Row RELEASE_EDGE (R346). -/
def execReleaseEdge (n : Fin 8) (s : State) : Host.Outcome State Fault Refusal := .next (releaseEdge n.val s)
/-- Row MUTE_DUE (R352). -/
def execMuteDue (n : Fin 8) (s : State) : Host.Outcome State Fault Refusal := .next (muteDue n.val s)
/-- Row MUTE_END (R352). -/
def execMuteEnd (n : Fin 8) (s : State) : Host.Outcome State Fault Refusal := .next (muteEnd n.val s)
/-- Row MODULATOR_SAMPLE (R338 to R345). -/
def execModulatorSample (n : Fin 8) (vA : Int) (vB : Int) (i : Int) (rail : DriveSense) (s : State) : Host.Outcome State Fault Refusal :=
  .next (modSample n.val vA vB i rail s)
/-- Row LOAD_SHORT (R368). -/
def execLoadShort (n : Fin 8) (s : State) : Host.Outcome State Fault Refusal := .next (loadShort n.val s)
/-- Row SW_RAMP_END (R359, R362). -/
def execSwRampEnd (s : State) : Host.Outcome State Fault Refusal := .next (swRampEnd s)
/-- Row CLK_FAILOVER (R361). -/
def execClkFailover (s : State) : Host.Outcome State Fault Refusal := .next (clkFailover s)
/-- Row CLK_RETURN (R362). -/
def execClkReturn (ramp : Bool) (s : State) : Host.Outcome State Fault Refusal := .next (clkReturn ramp s)
/-- Row CLK_LOST (R363). -/
def execClkLost (s : State) : Host.Outcome State Fault Refusal := .next (clkLost s)
/-- Row PHASE_LOSS (R364 to R366). -/
def execPhaseLoss (n : Fin 8) (phase : Fin 4) (s : State) : Host.Outcome State Fault Refusal := .next (phaseLoss n.val phase.val s)
/-- Row BST_PHASE_LOSS (R374). -/
def execBstPhaseLoss (k : Fin 4) (phase : Fin 3) (s : State) : Host.Outcome State Fault Refusal := .next (bstPhaseLoss k.val phase.val s)
/-- Row RAIL_OV (R375). -/
def execRailOv (k : Fin 4) (s : State) : Host.Outcome State Fault Refusal := .next (bstStop 0x32 k.val s)
/-- Row RAIL_LOW (R375). -/
def execRailLow (k : Fin 4) (s : State) : Host.Outcome State Fault Refusal := .next (railLow k.val s)
/-- Row THERMAL_DERATING_UPDATE (R603). -/
def execThermalDeratingUpdate (tc : Int) (s : State) : Host.Outcome State Fault Refusal := .next (deratingUpdate tc s)

end Sys2Proof.Machine
end

