-- ==== Sys2Proof/Machine/RctRows.lean ====
section
/-! DEFINITION. The rows of ring control: frames received, timeouts, steps and handover (R249 to R295). -/
namespace Sys2Proof.Machine
open Sys2Proof

/-- Row BEACON_RX (R252, R278, R280). -/
def execBeaconRx (portB : Bool) (frame : List Byte) (s : State) : Host.Outcome State Fault Refusal := .next (beaconRx portB frame s)
/-- Row CLAIM_RX (R254, R255). -/
def execClaimRx (portB : Bool) (frame : List Byte) (s : State) : Host.Outcome State Fault Refusal := .next (claimRx portB frame s)
/-- Row ROLL_RX (R258, R259). -/
def execRollRx (portB : Bool) (frame : List Byte) (s : State) : Host.Outcome State Fault Refusal := .next (rollRx portB frame s)
/-- Row REPORT_RX (R260). -/
def execReportRx (portB : Bool) (frame : List Byte) (s : State) : Host.Outcome State Fault Refusal := .next (reportRx portB frame s)
/-- Row PLAN_RX (R263). -/
def execPlanRx (portB : Bool) (frame : List Byte) (s : State) : Host.Outcome State Fault Refusal := .next (planRx portB frame s)
/-- Row PLAN_EFFECTIVE (R263). -/
def execPlanEffective (s : State) : Host.Outcome State Fault Refusal := .next (planCheck s)
/-- Row SEGMENT_RX (R282, R285). -/
def execSegmentRx (portB : Bool) (frame : List Byte) (s : State) : Host.Outcome State Fault Refusal := .next (segmentRx portB frame s)
/-- Row PROBE_RX (R283, R285). -/
def execProbeRx (portB : Bool) (frame : List Byte) (s : State) : Host.Outcome State Fault Refusal := .next (probeRx portB frame s)
/-- Row TIMING_REQ_RX (R274, R275). -/
def execTimingReqRx (portB : Bool) (frame : List Byte) (s : State) : Host.Outcome State Fault Refusal :=
  .next (timingRx 1 portB frame (timingReqAct frame) s)
/-- Row TIMING_ACK_RX (R274). -/
def execTimingAckRx (portB : Bool) (frame : List Byte) (s : State) : Host.Outcome State Fault Refusal :=
  .next (timingRx 2 portB frame (timingAckAct frame) s)
/-- Row TIMING_ASSERT_RX (R275). -/
def execTimingAssertRx (portB : Bool) (frame : List Byte) (s : State) : Host.Outcome State Fault Refusal :=
  .next (timingRx 3 portB frame (timingAssertAct frame) s)
/-- Row TIMING_SWITCH (R274). -/
def execTimingSwitch (s : State) : Host.Outcome State Fault Refusal := .next (timingSwitch s)
/-- Row TIMING_LAPSE (R274). -/
def execTimingLapse (s : State) : Host.Outcome State Fault Refusal := .next (timingLapse s)
/-- Row STEP_REQ_RX (R287). -/
def execStepReqRx (portB : Bool) (frame : List Byte) (s : State) : Host.Outcome State Fault Refusal :=
  .next (stepRx 1 portB frame (stepReqAct frame) s)
/-- Row STEP_GO_RX (R288). -/
def execStepGoRx (portB : Bool) (frame : List Byte) (s : State) : Host.Outcome State Fault Refusal := .next (stepRx 2 portB frame (stepGoAct frame) s)
/-- Row STEP_DONE_RX (R288). -/
def execStepDoneRx (portB : Bool) (frame : List Byte) (s : State) : Host.Outcome State Fault Refusal := .next (stepRx 3 portB frame (stepOver (cBody frame 2 2) true) s)
/-- Row STEP_DENY_RX (R287). -/
def execStepDenyRx (portB : Bool) (frame : List Byte) (s : State) : Host.Outcome State Fault Refusal :=
  .next (stepRx 4 portB frame (stepDenyAct frame) s)
/-- Row STEP_FAIL_RX (R288). -/
def execStepFailRx (portB : Bool) (frame : List Byte) (s : State) : Host.Outcome State Fault Refusal :=
  .next (stepRx 5 portB frame (stepFailAct frame) s)
/-- Row STEP_RETRAIN (R288). -/
def execStepRetrain (s : State) : Host.Outcome State Fault Refusal := .next (stepRetrain s)
/-- Row STEP_LINK_UP (R288). -/
def execStepLinkUp (portB : Bool) (s : State) : Host.Outcome State Fault Refusal := .next (stepLinkUp (b2n portB) s)
/-- Row STEP_TIMEOUT (R288). -/
def execStepTimeout (portB : Bool) (s : State) : Host.Outcome State Fault Refusal := .next (stepTimeout (b2n portB) s)
/-- Row SLEEP_RX (R291). -/
def execSleepRx (portB : Bool) (frame : List Byte) (s : State) : Host.Outcome State Fault Refusal :=
  .next (ctlFlood 11 portB frame id (sleepAct frame) s)
/-- Row CONTROL_FRAME_BAD (R250). -/
def execControlFrameBad (portB : Bool) (frame : List Byte) (s : State) : Host.Outcome State Fault Refusal := .next (controlFrameBad portB frame s)
/-- Row LISTEN_TIMEOUT (R252). -/
def execListenTimeout (s : State) : Host.Outcome State Fault Refusal := .next (listenTimeout s)
/-- Row CLAIM_REPEAT (R253). -/
def execClaimRepeat (s : State) : Host.Outcome State Fault Refusal := .next (claimRepeat s)
/-- Row WAITING_TIMEOUT (R252). -/
def execWaitingTimeout (s : State) : Host.Outcome State Fault Refusal := .next (waitingTimeout s)
/-- Row FOLLOWER_TIMEOUT (R252). -/
def execFollowerTimeout (s : State) : Host.Outcome State Fault Refusal := .next (followerTimeout s)
/-- Row STANDBY_TAKEOVER (R278). -/
def execStandbyTakeover (s : State) : Host.Outcome State Fault Refusal := .next (standbyTakeover s)
/-- Row BEACON_SEND (R257). -/
def execBeaconSend (s : State) : Host.Outcome State Fault Refusal := .next (beaconSend s)
/-- Row REPORT_SEND (R260). -/
def execReportSend (s : State) : Host.Outcome State Fault Refusal := .next (reportSend s)
/-- Row PLAN_BUILD_TIMEOUT (R260). -/
def execPlanBuildTimeout (s : State) : Host.Outcome State Fault Refusal := .next (planBuildTimeout s)
/-- Row PLAN_RESEND (R262). -/
def execPlanResend (s : State) : Host.Outcome State Fault Refusal := .next (planResend s)
/-- Row HEAD_LAUNCH_EXPIRE (R279). -/
def execHeadLaunchExpire (s : State) : Host.Outcome State Fault Refusal := .next (headLaunchExpire s)
/-- Row SEGMENT_SILENCE (R282). -/
def execSegmentSilence (portB : Bool) (s : State) : Host.Outcome State Fault Refusal := .next (segLost (b2n portB) 2 s)
/-- Row HOLD_OFF_DONE (R283). -/
def execHoldOffDone (portB : Bool) (s : State) : Host.Outcome State Fault Refusal := .next (holdOffDone (b2n portB) s)
/-- Row PROBE_SEND (R283). -/
def execProbeSend (portB : Bool) (s : State) : Host.Outcome State Fault Refusal := .next (probeSend (b2n portB) s)
/-- Row SEGMENT_REROLL_TIMEOUT (R286). -/
def execSegmentRerollTimeout (s : State) : Host.Outcome State Fault Refusal := .next (segmentRerollTimeout s)
/-- Row SILENCE_RESUME (R294). -/
def execSilenceResume (s : State) : Host.Outcome State Fault Refusal := .next (silenceResume s)

end Sys2Proof.Machine
end

