-- ==== Sys2Proof/Machine/Tick.lean ====
section
/-! DEFINITION. The keystone tick's head, the resets of the logic side, and the boot of its firmware (R42, R43, R51, R515,
R537, R545, R546, R563, R578, R582). -/
namespace Sys2Proof.Machine
open Sys2Proof

/-! ## The head of a tick (R51) -/

/-- Positions 1 and 2: the tick edge, and the latches that are due, which record the state at the end of the tick before
(R51, R52). -/
def tickEdge (s : State) : State :=
  let s : State := { s with ks := { s.ks with count := s.ks.count + 1, cycle := 0, committed := false, running := true } }
  holdClear (latchesDue (plumbEdge s))
/-- What stands on the tick edge beside R51: the UP frame of the tick before missed, register requests that a lost link leaves
without an answer, the collector's tick with the FAULT_N wire watched, and the high-voltage side's tick. -/
def edgeWork (s : State) : State := swKeep (hvTick pwrRun (fnWatch (fltTickStart (barrierFail (upTickEnd s)))))
/-- What falls on the head of a ring cycle: plans, the timing switch, speed steps, the start after a wake, OVR_STAT and sleep. -/
def cycleHead (s : State) : State :=
  if s.ks.count % s.nTicks = 0 then ovrStat (wakeCheck (wakeStep (rerollCheck (commitStep (stepLapse (stepRetrain (timingSwitch (rdpCycleShow (planCheck s))))))))) else s
/-- Units that follow the tick outside the order of R51: gPTP, sleep, domains, held outputs and jacks. -/
def tickFollow (s : State) : State := branchLpi (jackTick (holdTick (domFollow applyReg (sleepReady (sleepEnter (gptpTick s))))))
/-- Positions 3 to 5: activation, swaps, alarms; a clear of faults takes effect at the head (R544), and the override governs
the image of this tick (R211). -/
def tickStamped (s : State) : State :=
  let s := ovrWake (ovrHead (deactivateDone (activation (fltClearDue s))))
  let s := paramTick s
  let s := (s.forN 8 (fun s sp => swapStage sp s)).forN 8 (fun s sp => swapFire sp s)
  s.forN 4 (fun s n => alarmFire n s)
/-- Positions 6 and 7: the input gather with what follows from it, and the DRAM streams. -/
def tickGather (env : TickEnv) (s : State) : State :=
  let (s, lanes) := gather s
  let s := rdpClassify s
  let s := s.forN 4 (fun s n => adcTick env.adc s n)
  let s := diagListen (s.adcRaw (s.get Reg.BST_ACOU_CFG_ADC)) s
  let s := bstHead (fun l => (lanes.find? (fun x => x.1 = l)).map (·.2)) (srcTick s)
  engHead env.late env.underrun (diagFadeTick (auxHead s))
/-- Row KEYSTONE_TICK: the head of the tick, a rebuild that starts after its work (R115), then the schedule as far as its first
stall or its commit point. A tick whose COMMIT_POINT row has not come commits first. R51 gives timed releases and mutes no place: they
act with the high-voltage side's tick, before an activation of the same tick could cancel them (R47; DESIGN CHOICE, log entry 68). The
tick stops in storage sleep and while
the logic side is in reset (R537). -/
def keystoneTick (env : TickEnv) (s : State) : State :=
  let stopped := !s.dom.powered || (s.asleep && s.is Reg.DOM_STATUS_STORAGE && !s.dom.entering)
  if stopped then s
  else
    let s := tickFollow (cycleHead (edgeWork (tickEdge (commitPoint applyReg s))))
    if !s.ks.running then s
    else
      let s := rebuildStart (tickGather env (tickStamped s))
      resume (engTo applyReg true (commitCycle s.rate) s)

/-! ## Resets of the logic side (R545, R582) -/

/-- Sources whose condition the footing domain or the debug port watches, so that it outlives a reset by RST_N. -/
def footSources : List Nat := [3, 4, 5, 0x66, 0x70, 0x85]
/-- A register whose word outlives a reset of the logic side: factory data, flash, the power-control die while VDRV is
present, and for RST_N the blocks of the footing domain. -/
def regKept (foot hv : Bool) (k : Nat) : Bool :=
  let a := k % 2 ^ 32
  let b := a / 65536
  (b = 0 && a ≠ 4 && a ≠ 0x18) || (b = 15 && hv) ||
    (foot && (b = 2 || (decide (17 ≤ b) && decide (b ≤ 20)) || a = 0x70070 || a = 0x70074 || a = 0xE0000)) ||
    (match regFind a with
      | some (r, _, _) => r.flash
      | none => false)
/-- The logic side's part of the link and the power stage at reset; the die reports the CAPSTONE sources it holds in its
first UP frame (R546). -/
def pwrLogicReset (p : PwrState) : PwrState :=
  let r := PwrState.reset
  { p with
    dnDone := false, dnOk := false, upSeen := false, upBad := 0, upGood := 0, upDone := false, stage := r.stage, targets := r.targets, send := r.send, sendT := r.sendT, starts := 0, stops := 0, reqs := [], box := none,
    results := [], faults := p.faults ++ (p.held.filter (fun h => !p.faults.any (fun f => f.1 = h))).map (fun h => (h, 0, 0)) }
/-- The logic side reset; `foot` is a reset by RST_N, which the footing domain outlives, with its tick stamps carried into the
count that starts at 0. Flash and pin levels stay, and NONCE is drawn anew. -/
def logicReset (foot : Bool) (s : State) : State :=
  let r := State.reset
  let back (x : Nat) : Nat := x - s.ks.count
  let doms := (indexed r.dom.doms).map (fun (x : Nat × Domain) => if 56 ≤ x.1 ∧ s.dom.parked then s.domn x.1 else x.2)
  let t : State := { r with
    img := { r.img with slots := s.img.slots.map Slot.powerLost }
    mix := { r.mix with msgs := s.mix.msgs }
    ten := if foot then { s.ten with subs := [], seen := [] } else { r.ten with log := s.ten.log, logNext := s.ten.logNext }
    flt := if foot then { s.flt with
        active := s.flt.active.filter (fun a => footSources.contains a.1), ownUp := false, plumb := false,
        raises := s.flt.raises.map (fun x => { x with tick := back x.tick }),
        loads := s.flt.loads.map (fun l => (l.1, l.2.1, l.2.2.1, back l.2.2.2)),
        clear := s.flt.clear.map (fun c => { c with tick := back c.tick }) }
      else { r.flt with wireLow := s.flt.wireLow, fnSeen := s.flt.fnSeen }
    ovr := if foot then s.ovr.shift back else r.ovr
    host := if foot then { r.host with fw := s.host.fw, tap := s.host.tap, dawAddr := s.host.dawAddr, dawStatus := s.host.dawStatus, dawData := s.host.dawData }
      else { r.host with fw := s.host.fw }
    dom := { r.dom with doms := doms, parked := s.dom.parked }
    rct := { r.rct with nonce := 1 + Config.nonce (s.free + 1) % 4294967295 }
    pwr := pwrLogicReset s.pwr
    ana := { r.ana with jack := s.ana.jack }
    mem := if foot then { r.mem with foot := s.mem.foot, ecc := s.mem.ecc.filter (fun e => e.mem = 3) } else r.mem
    regs := s.regs.filter (fun e => regKept foot s.pwr.on e.1)
    emitted := s.emitted
    free := s.free + 1
    pending := s.pending }
  let t := showPll (jackShow (t.forN 4 (fun t k => t.showBst k)))
  if foot then
    let t := ((imgShow (t.unstage)).set Reg.IMG_STATUS_STAGE 0).set64 Reg.IMG_EPOCH_RING_LO Reg.IMG_EPOCH_RING_HI 0
    let t := ((t.setB Reg.IMG_STATUS_RING_EPOCH false).setB Reg.IMG_STATUS_EPOCH_HOLD false).setB Reg.IMG_STATUS_SLOT_CHANGED false
    tenDeactivate ((t.set Reg.DOM_STATUS_SLEEP 0).setB Reg.DOM_STATUS_STORAGE false)
  else t.setWord Reg.DBG_CFG (BitVec.ofNat 32 (1 + 4 * s.get Reg.DBG_CFG_LOCK))
/-- Row VL5_POWER_OFF: the logic side is held in reset, and its end of the barrier without power presents SAFE_REQ asserted
(R13, R578). -/
def vl5Off (s : State) : State :=
  let s := logicReset false s
  safeReqAssert { s with dom := { s.dom with powered := false } }
/-- Row VL5_POWER_ON: the logic side leaves reset with a good reference, a crystal or a driven clock (R459, R582). -/
def vl5On (xtal : Bool) (s : State) : State :=
  let s := logicReset false s
  (({ s with dom := { s.dom with powered := true } } : State).setB Reg.CLK_STATUS_REF_OK true).setB Reg.CLK_STATUS_REF_XTAL xtal
/-- Row RST_N: the link is parked first (R582). -/
def rstN (s : State) : State := if s.dom.powered then logicReset true (linkPark s) else s

/-! ## The boot (R73, R110, R121, R515) -/

/-- Row FIRMWARE_BOOT_DONE: the boot loader has verified copy A, and copy B where A failed; with a valid copy the service
cores start, with its release and the calibration tables, and IMG_BOOT.AUTO loads an image. -/
def bootDone (copyA copyB : Bool) (version : Word) (ucode : Nat) (bands : List (List Word)) (s : State) : State :=
  if !s.dom.powered || s.host.fwRun || !(copyA || copyB) then s
  else
    let s : State := { s with host := { s.host with fwRun := true } }
    let s := s.setWord Reg.IDENT_FW (BitVec.ofNat 32 (b2n (!copyA) * 2 ^ 24 + version.toNat % 2 ^ 24))
    let s := s.setWord Reg.ENG_UCODE (BitVec.ofNat 32 ucode)
    let s := s.forN 3 (fun s p => s.forN 16 (fun s b => s.setWord Reg.CLK_Pp_BANDb (nth (nth bands p []) b 0#32) p b))
    let s := if copyA then s else s.event.raise 0x82 0
    if s.is Reg.IMG_BOOT_AUTO then (imgLoad (s.get Reg.IMG_BOOT_SLOT) true s).1 else s
/-- Row KEYSTONE_TICK (R51). -/
def execKeystoneTick (env : TickEnv) (s : State) : Host.Outcome State Fault Refusal := .next (keystoneTick env s)
/-- Row VL5_POWER_ON (R582). -/
def execVl5PowerOn (xtal : Bool) (s : State) : Host.Outcome State Fault Refusal := .next (vl5On xtal s)
/-- Row VL5_POWER_OFF (R578). -/
def execVl5PowerOff (s : State) : Host.Outcome State Fault Refusal := .next (vl5Off s)
/-- Row RST_N (R582). -/
def execRstN (s : State) : Host.Outcome State Fault Refusal := .next (rstN s)
/-- Row FIRMWARE_BOOT_DONE (R515). -/
def execFirmwareBootDone (copyA : Bool) (copyB : Bool) (version : Word) (ucode : Fin 65536) (bands : List (List Word)) (s : State) : Host.Outcome State Fault Refusal :=
  .next (bootDone copyA copyB version ucode.val bands s)

end Sys2Proof.Machine
end

