-- ==== Sys2Proof/Machine/Dispatch.lean ====
section
/-! DEFINITION. The effect of a command: one arm per constructor, each one direct call of its meaning. -/
namespace Sys2Proof.Machine
open Sys2Proof

/-- What a command does to everything but the queue. -/
def exec (i : Instr) (s : State) : Host.Outcome State Fault Refusal :=
  match i with
  | .regWrite acc addr value => Sys2Proof.Machine.execRegWrite acc addr value s
  | .vl5PowerOn xtal => Sys2Proof.Machine.execVl5PowerOn xtal s
  | .rstN => Sys2Proof.Machine.execRstN s
  | .vdrvRelease => Sys2Proof.Machine.execVdrvRelease s
  | .vdrvRemoved => Sys2Proof.Machine.execVdrvRemoved s
  | .vbusRemoved => Sys2Proof.Machine.execVbusRemoved s
  | .vbusStart => Sys2Proof.Machine.execVbusStart s
  | .vbusAbs => Sys2Proof.Machine.execVbusAbs s
  | .vdrvLow => Sys2Proof.Machine.execVdrvLow s
  | .dieHot k => Sys2Proof.Machine.execDieHot k s
  | .vl5Low => Sys2Proof.Machine.execVl5Low s
  | .vl5Recover => Sys2Proof.Machine.execVl5Recover s
  | .logicHot => Sys2Proof.Machine.execLogicHot s
  | .logicCool => Sys2Proof.Machine.execLogicCool s
  | .isoBarrier => Sys2Proof.Machine.execIsoBarrier s
  | .dnFrame crcOk => Sys2Proof.Machine.execDnFrame crcOk s
  | .dnLinkLost => Sys2Proof.Machine.execDnLinkLost s
  | .logicCollapse => Sys2Proof.Machine.execLogicCollapse s
  | .upFrame crcOk sense => Sys2Proof.Machine.execUpFrame crcOk sense s
  | .upLinkLost => Sys2Proof.Machine.execUpLinkLost s
  | .safeReqAssert => Sys2Proof.Machine.execSafeReqAssert s
  | .safeStateOff n => Sys2Proof.Machine.execSafeStateOff n s
  | .safeStateSlow n => Sys2Proof.Machine.execSafeStateSlow n s
  | .linkResync => Sys2Proof.Machine.execLinkResync s
  | .keystoneTick env => Sys2Proof.Machine.execKeystoneTick env s
  | .stoneWake stone => Sys2Proof.Machine.execStoneWake stone s
  | .streamLineArrive stone cycle => Sys2Proof.Machine.execStreamLineArrive stone cycle s
  | .streamWritebackDone id => Sys2Proof.Machine.execStreamWritebackDone id s
  | .commitPoint => Sys2Proof.Machine.execCommitPoint s
  | .ksAlarmArm acc n => Sys2Proof.Machine.execKsAlarmArm acc n s
  | .ksAlarmDisarm acc n => Sys2Proof.Machine.execKsAlarmDisarm acc n s
  | .ksAlarmFire n => Sys2Proof.Machine.execKsAlarmFire n s
  | .ksCapture acc => Sys2Proof.Machine.execKsCapture acc s
  | .ksOvrClr acc => Sys2Proof.Machine.execKsOvrClr acc s
  | .gptpSync portB gm timeNs => Sys2Proof.Machine.execGptpSync portB gm timeNs s
  | .gptpPdelay port delayNs => Sys2Proof.Machine.execGptpPdelay port delayNs s
  | .syncTimeout => Sys2Proof.Machine.execSyncTimeout s
  | .slotOpen acc slotB => Sys2Proof.Machine.execSlotOpen acc slotB s
  | .slotEraseDone slotB => Sys2Proof.Machine.execSlotEraseDone slotB s
  | .slotData acc data => Sys2Proof.Machine.execSlotData acc data s
  | .slotClose acc slotB => Sys2Proof.Machine.execSlotClose acc slotB s
  | .slotVerify acc slotB => Sys2Proof.Machine.execSlotVerify acc slotB s
  | .slotVerifyDone slotB badPages => Sys2Proof.Machine.execSlotVerifyDone slotB badPages s
  | .imgLoad acc slotB => Sys2Proof.Machine.execImgLoad acc slotB s
  | .imgLoadDone badPages => Sys2Proof.Machine.execImgLoadDone badPages s
  | .imgArm acc => Sys2Proof.Machine.execImgArm acc s
  | .imgDisarm acc => Sys2Proof.Machine.execImgDisarm acc s
  | .imgDiscard acc => Sys2Proof.Machine.execImgDiscard acc s
  | .imgDeactivate acc => Sys2Proof.Machine.execImgDeactivate acc s
  | .deactivateDone => Sys2Proof.Machine.execDeactivateDone s
  | .imgAccept acc => Sys2Proof.Machine.execImgAccept acc s
  | .rebuildStart => Sys2Proof.Machine.execRebuildStart s
  | .activation => Sys2Proof.Machine.execActivation s
  | .sigLock acc => Sys2Proof.Machine.execSigLock acc s
  | .stoneScrub stone word found => Sys2Proof.Machine.execStoneScrub stone word found s
  | .memoryScrub mem word found => Sys2Proof.Machine.execMemoryScrub mem word found s
  | .engCntClr acc => Sys2Proof.Machine.execEngCntClr acc s
  | .engPeakClr acc => Sys2Proof.Machine.execEngPeakClr acc s
  | .paramWrite acc offset width value => Sys2Proof.Machine.execParamWrite acc offset width value s
  | .swapArm acc space => Sys2Proof.Machine.execSwapArm acc space s
  | .swapDisarm acc space => Sys2Proof.Machine.execSwapDisarm acc space s
  | .swapRevert acc space => Sys2Proof.Machine.execSwapRevert acc space s
  | .swapStage space => Sys2Proof.Machine.execSwapStage space s
  | .swapFire space => Sys2Proof.Machine.execSwapFire space s
  | .latchArm acc => Sys2Proof.Machine.execLatchArm acc s
  | .latchDisarm acc => Sys2Proof.Machine.execLatchDisarm acc s
  | .holdClr acc => Sys2Proof.Machine.execHoldClr acc s
  | .meterLatch => Sys2Proof.Machine.execMeterLatch s
  | .pfirLoad acc id ch => Sys2Proof.Machine.execPfirLoad acc id ch s
  | .pfirLoadDone => Sys2Proof.Machine.execPfirLoadDone s
  | .srcAbsent id => Sys2Proof.Machine.execSrcAbsent id s
  | .srcSettled id => Sys2Proof.Machine.execSrcSettled id s
  | .srcRampEnd id => Sys2Proof.Machine.execSrcRampEnd id s
  | .recFreeze acc => Sys2Proof.Machine.execRecFreeze acc s
  | .recRun acc => Sys2Proof.Machine.execRecRun acc s
  | .recFrozen => Sys2Proof.Machine.execRecFrozen s
  | .msgOpen acc number => Sys2Proof.Machine.execMsgOpen acc number s
  | .msgData acc data => Sys2Proof.Machine.execMsgData acc data s
  | .msgClose acc number => Sys2Proof.Machine.execMsgClose acc number s
  | .msgVerify acc number => Sys2Proof.Machine.execMsgVerify acc number s
  | .msgDelete acc number => Sys2Proof.Machine.execMsgDelete acc number s
  | .msgOpDone => Sys2Proof.Machine.execMsgOpDone s
  | .ovrInputAccept pinA pinB => Sys2Proof.Machine.execOvrInputAccept pinA pinB s
  | .ovrDiscExpire => Sys2Proof.Machine.execOvrDiscExpire s
  | .ovrStatUpdate => Sys2Proof.Machine.execOvrStatUpdate s
  | .audioFrame portB frame => Sys2Proof.Machine.execAudioFrame portB frame s
  | .headLaunch west k => Sys2Proof.Machine.execHeadLaunch west k s
  | .frameGenerate west k => Sys2Proof.Machine.execFrameGenerate west k s
  | .dpAgeClr acc => Sys2Proof.Machine.execDpAgeClr acc s
  | .dpCntClr acc => Sys2Proof.Machine.execDpCntClr acc s
  | .beaconRx portB frame => Sys2Proof.Machine.execBeaconRx portB frame s
  | .claimRx portB frame => Sys2Proof.Machine.execClaimRx portB frame s
  | .rollRx portB frame => Sys2Proof.Machine.execRollRx portB frame s
  | .reportRx portB frame => Sys2Proof.Machine.execReportRx portB frame s
  | .planRx portB frame => Sys2Proof.Machine.execPlanRx portB frame s
  | .planEffective => Sys2Proof.Machine.execPlanEffective s
  | .segmentRx portB frame => Sys2Proof.Machine.execSegmentRx portB frame s
  | .probeRx portB frame => Sys2Proof.Machine.execProbeRx portB frame s
  | .timingReqRx portB frame => Sys2Proof.Machine.execTimingReqRx portB frame s
  | .timingAckRx portB frame => Sys2Proof.Machine.execTimingAckRx portB frame s
  | .timingAssertRx portB frame => Sys2Proof.Machine.execTimingAssertRx portB frame s
  | .timingSwitch => Sys2Proof.Machine.execTimingSwitch s
  | .timingLapse => Sys2Proof.Machine.execTimingLapse s
  | .stepReqRx portB frame => Sys2Proof.Machine.execStepReqRx portB frame s
  | .stepGoRx portB frame => Sys2Proof.Machine.execStepGoRx portB frame s
  | .stepDoneRx portB frame => Sys2Proof.Machine.execStepDoneRx portB frame s
  | .stepDenyRx portB frame => Sys2Proof.Machine.execStepDenyRx portB frame s
  | .stepFailRx portB frame => Sys2Proof.Machine.execStepFailRx portB frame s
  | .stepRetrain => Sys2Proof.Machine.execStepRetrain s
  | .stepLinkUp portB => Sys2Proof.Machine.execStepLinkUp portB s
  | .stepTimeout portB => Sys2Proof.Machine.execStepTimeout portB s
  | .sleepRx portB frame => Sys2Proof.Machine.execSleepRx portB frame s
  | .sleepEnter => Sys2Proof.Machine.execSleepEnter s
  | .wakeRx portB frame => Sys2Proof.Machine.execWakeRx portB frame s
  | .snapshotRx portB frame => Sys2Proof.Machine.execSnapshotRx portB frame s
  | .controlFrameBad portB frame => Sys2Proof.Machine.execControlFrameBad portB frame s
  | .listenTimeout => Sys2Proof.Machine.execListenTimeout s
  | .claimRepeat => Sys2Proof.Machine.execClaimRepeat s
  | .waitingTimeout => Sys2Proof.Machine.execWaitingTimeout s
  | .followerTimeout => Sys2Proof.Machine.execFollowerTimeout s
  | .standbyTakeover => Sys2Proof.Machine.execStandbyTakeover s
  | .beaconSend => Sys2Proof.Machine.execBeaconSend s
  | .reportSend => Sys2Proof.Machine.execReportSend s
  | .planBuildTimeout => Sys2Proof.Machine.execPlanBuildTimeout s
  | .planResend => Sys2Proof.Machine.execPlanResend s
  | .headLaunchExpire => Sys2Proof.Machine.execHeadLaunchExpire s
  | .segmentSilence portB => Sys2Proof.Machine.execSegmentSilence portB s
  | .linkDown port => Sys2Proof.Machine.execLinkDown port s
  | .linkUp port speed advert => Sys2Proof.Machine.execLinkUp port speed advert s
  | .holdOffDone portB => Sys2Proof.Machine.execHoldOffDone portB s
  | .probeSend portB => Sys2Proof.Machine.execProbeSend portB s
  | .segmentRerollTimeout => Sys2Proof.Machine.execSegmentRerollTimeout s
  | .silenceResume => Sys2Proof.Machine.execSilenceResume s
  | .ringCommit acc => Sys2Proof.Machine.execRingCommit acc s
  | .ringTmReq acc => Sys2Proof.Machine.execRingTmReq acc s
  | .ringLeave acc => Sys2Proof.Machine.execRingLeave acc s
  | .ringReroll acc => Sys2Proof.Machine.execRingReroll acc s
  | .ringSleep acc => Sys2Proof.Machine.execRingSleep acc s
  | .ringWake acc => Sys2Proof.Machine.execRingWake acc s
  | .portModeWrite acc port mode => Sys2Proof.Machine.execPortModeWrite acc port mode s
  | .speedLowerReq port => Sys2Proof.Machine.execSpeedLowerReq port s
  | .speedRaiseReq port => Sys2Proof.Machine.execSpeedRaiseReq port s
  | .pauseRx port frame => Sys2Proof.Machine.execPauseRx port frame s
  | .pauseBreak port => Sys2Proof.Machine.execPauseBreak port s
  | .pauseRecover port => Sys2Proof.Machine.execPauseRecover port s
  | .aafRx port frame => Sys2Proof.Machine.execAafRx port frame s
  | .aafTx => Sys2Proof.Machine.execAafTx s
  | .aafStreamEnable acc stream => Sys2Proof.Machine.execAafStreamEnable acc stream s
  | .aecpCommand port frame => Sys2Proof.Machine.execAecpCommand port frame s
  | .acmpCommand port frame => Sys2Proof.Machine.execAcmpCommand port frame s
  | .adpDiscover port frame => Sys2Proof.Machine.execAdpDiscover port frame s
  | .adpAvailable => Sys2Proof.Machine.execAdpAvailable s
  | .sbusRx frame => Sys2Proof.Machine.execSbusRx frame s
  | .sbusTxHead acc value => Sys2Proof.Machine.execSbusTxHead acc value s
  | .sbusTxDone result => Sys2Proof.Machine.execSbusTxDone result s
  | .sbusRxTail acc value => Sys2Proof.Machine.execSbusRxTail acc value s
  | .plcaLoss => Sys2Proof.Machine.execPlcaLoss s
  | .plcaBeacon => Sys2Proof.Machine.execPlcaBeacon s
  | .snapSend acc => Sys2Proof.Machine.execSnapSend acc s
  | .snapLocal acc => Sys2Proof.Machine.execSnapLocal acc s
  | .snapshotFire => Sys2Proof.Machine.execSnapshotFire s
  | .chArm acc n => Sys2Proof.Machine.execChArm acc n s
  | .chRelease acc n timed => Sys2Proof.Machine.execChRelease acc n timed s
  | .chMute acc n timed => Sys2Proof.Machine.execChMute acc n timed s
  | .chDisarm acc n => Sys2Proof.Machine.execChDisarm acc n s
  | .releaseDue n => Sys2Proof.Machine.execReleaseDue n s
  | .releaseEdge n => Sys2Proof.Machine.execReleaseEdge n s
  | .muteDue n => Sys2Proof.Machine.execMuteDue n s
  | .muteEnd n => Sys2Proof.Machine.execMuteEnd n s
  | .modulatorSample n vA vB cur rail => Sys2Proof.Machine.execModulatorSample n vA vB cur rail s
  | .loadShort n => Sys2Proof.Machine.execLoadShort n s
  | .swApply acc => Sys2Proof.Machine.execSwApply acc s
  | .swRampEnd => Sys2Proof.Machine.execSwRampEnd s
  | .clkFailover => Sys2Proof.Machine.execClkFailover s
  | .clkReturn ramp => Sys2Proof.Machine.execClkReturn ramp s
  | .clkLost => Sys2Proof.Machine.execClkLost s
  | .phaseLoss n phase => Sys2Proof.Machine.execPhaseLoss n phase s
  | .bstPhaseLoss k phase => Sys2Proof.Machine.execBstPhaseLoss k phase s
  | .railOv k => Sys2Proof.Machine.execRailOv k s
  | .railLow k => Sys2Proof.Machine.execRailLow k s
  | .fallbackEnd n => Sys2Proof.Machine.execFallbackEnd n s
  | .thermalUpdate => Sys2Proof.Machine.execThermalUpdate s
  | .rmeasUpdate => Sys2Proof.Machine.execRmeasUpdate s
  | .dcFault n => Sys2Proof.Machine.execDcFault n s
  | .protSelectWrite acc n value => Sys2Proof.Machine.execProtSelectWrite acc n value s
  | .diagStart acc => Sys2Proof.Machine.execDiagStart acc s
  | .diagAbort acc => Sys2Proof.Machine.execDiagAbort acc s
  | .diagReadyTimeout => Sys2Proof.Machine.execDiagReadyTimeout s
  | .diagDwellEnd => Sys2Proof.Machine.execDiagDwellEnd s
  | .diagChannelEnd => Sys2Proof.Machine.execDiagChannelEnd s
  | .acouMeasEnd => Sys2Proof.Machine.execAcouMeasEnd s
  | .diagRunEnd => Sys2Proof.Machine.execDiagRunEnd s
  | .adcGainApply n => Sys2Proof.Machine.execAdcGainApply n s
  | .adcSync acc => Sys2Proof.Machine.execAdcSync acc s
  | .adcSettled n => Sys2Proof.Machine.execAdcSettled n s
  | .adcRampEnd n => Sys2Proof.Machine.execAdcRampEnd n s
  | .outStart acc n => Sys2Proof.Machine.execOutStart acc n s
  | .outStop acc n => Sys2Proof.Machine.execOutStop acc n s
  | .outRampEnd n => Sys2Proof.Machine.execOutRampEnd n s
  | .outPowerUpEnd n => Sys2Proof.Machine.execOutPowerUpEnd n s
  | .outPowerDownEnd n => Sys2Proof.Machine.execOutPowerDownEnd n s
  | .cpFail => Sys2Proof.Machine.execCpFail s
  | .cpRecover => Sys2Proof.Machine.execCpRecover s
  | .outShort n => Sys2Proof.Machine.execOutShort n s
  | .jackAccept input high => Sys2Proof.Machine.execJackAccept input high s
  | .aesLock => Sys2Proof.Machine.execAesLock s
  | .aesLockLoss => Sys2Proof.Machine.execAesLockLoss s
  | .aesSubframe b index sample cs validity parity code => Sys2Proof.Machine.execAesSubframe b index sample cs validity parity code s
  | .aesBlockEnd => Sys2Proof.Machine.execAesBlockEnd s
  | .nonaudioEnd => Sys2Proof.Machine.execNonaudioEnd s
  | .sapEnable acc n => Sys2Proof.Machine.execSapEnable acc n s
  | .sapFrame n rx clocks => Sys2Proof.Machine.execSapFrame n rx clocks s
  | .sapLock n => Sys2Proof.Machine.execSapLock n s
  | .sapLockLoss n => Sys2Proof.Machine.execSapLockLoss n s
  | .dmaEnable acc n playback => Sys2Proof.Machine.execDmaEnable acc n playback s
  | .capRdWrite acc n value => Sys2Proof.Machine.execCapRdWrite acc n value s
  | .pbWrWrite acc n value => Sys2Proof.Machine.execPbWrWrite acc n value s
  | .rateMeasure unit rate => Sys2Proof.Machine.execRateMeasure unit rate s
  | .auxUpdate n => Sys2Proof.Machine.execAuxUpdate n s
  | .auxQueueWrite acc n value => Sys2Proof.Machine.execAuxQueueWrite acc n value s
  | .auxFlush acc n => Sys2Proof.Machine.execAuxFlush acc n s
  | .auxSync acc n => Sys2Proof.Machine.execAuxSync acc n s
  | .auxModeReq acc n mode => Sys2Proof.Machine.execAuxModeReq acc n mode s
  | .auxEnable acc n => Sys2Proof.Machine.execAuxEnable acc n s
  | .auxDisable acc n => Sys2Proof.Machine.execAuxDisable acc n s
  | .auxStartEnd n => Sys2Proof.Machine.execAuxStartEnd n s
  | .auxShort n => Sys2Proof.Machine.execAuxShort n s
  | .refLoss => Sys2Proof.Machine.execRefLoss s
  | .refReturn xtal => Sys2Proof.Machine.execRefReturn xtal s
  | .pllStart p => Sys2Proof.Machine.execPllStart p s
  | .pllLock p => Sys2Proof.Machine.execPllLock p s
  | .pllLockLoss p => Sys2Proof.Machine.execPllLockLoss p s
  | .pllHoldEnd p => Sys2Proof.Machine.execPllHoldEnd p s
  | .pllBwChange p => Sys2Proof.Machine.execPllBwChange p s
  | .phaseStepWrite acc p value => Sys2Proof.Machine.execPhaseStepWrite acc p value s
  | .phaseStepUnit p => Sys2Proof.Machine.execPhaseStepUnit p s
  | .rampLoad p segs => Sys2Proof.Machine.execRampLoad p segs s
  | .rampSegmentEnd p => Sys2Proof.Machine.execRampSegmentEnd p s
  | .mclkConfig n => Sys2Proof.Machine.execMclkConfig n s
  | .spiRead count width addr crcOk => Sys2Proof.Machine.execSpiRead count width addr crcOk s
  | .spiWrite count width addr data crcOk => Sys2Proof.Machine.execSpiWrite count width addr data crcOk s
  | .spiReadFix count width addr crcOk => Sys2Proof.Machine.execSpiReadFix count width addr crcOk s
  | .spiWriteFix count width addr data crcOk => Sys2Proof.Machine.execSpiWriteFix count width addr data crcOk s
  | .spiStatus crcOk => Sys2Proof.Machine.execSpiStatus crcOk s
  | .spiRepeat crcOk => Sys2Proof.Machine.execSpiRepeat crcOk s
  | .spiCsAbort => Sys2Proof.Machine.execSpiCsAbort s
  | .flaryDiscover req => Sys2Proof.Machine.execFlaryDiscover req s
  | .flaryRead req => Sys2Proof.Machine.execFlaryRead req s
  | .flaryWrite req => Sys2Proof.Machine.execFlaryWrite req s
  | .flaryReadFix req => Sys2Proof.Machine.execFlaryReadFix req s
  | .flaryWriteFix req => Sys2Proof.Machine.execFlaryWriteFix req s
  | .flaryEventSub req => Sys2Proof.Machine.execFlaryEventSub req s
  | .flaryEventSend sub => Sys2Proof.Machine.execFlaryEventSend sub s
  | .flarySubLapse sub => Sys2Proof.Machine.execFlarySubLapse sub s
  | .slotXferOpen req => Sys2Proof.Machine.execSlotXferOpen req s
  | .slotXferData req => Sys2Proof.Machine.execSlotXferData req s
  | .slotXferClose req => Sys2Proof.Machine.execSlotXferClose req s
  | .slotXferVerify req => Sys2Proof.Machine.execSlotXferVerify req s
  | .msgXferOpen req => Sys2Proof.Machine.execMsgXferOpen req s
  | .msgXferData req => Sys2Proof.Machine.execMsgXferData req s
  | .msgXferClose req => Sys2Proof.Machine.execMsgXferClose req s
  | .msgXferVerify req => Sys2Proof.Machine.execMsgXferVerify req s
  | .msgXferDelete req => Sys2Proof.Machine.execMsgXferDelete req s
  | .flaryLogRead req => Sys2Proof.Machine.execFlaryLogRead req s
  | .flaryTelemetry req => Sys2Proof.Machine.execFlaryTelemetry req s
  | .flaryResponse req => Sys2Proof.Machine.execFlaryResponse req s
  | .tenAlloc acc mib => Sys2Proof.Machine.execTenAlloc acc mib s
  | .tenFree acc handle => Sys2Proof.Machine.execTenFree acc handle s
  | .tenHold acc id => Sys2Proof.Machine.execTenHold acc id s
  | .tenRelease acc id => Sys2Proof.Machine.execTenRelease acc id s
  | .tenEvict acc ten => Sys2Proof.Machine.execTenEvict acc ten s
  | .dramWinWrite acc value => Sys2Proof.Machine.execDramWinWrite acc value s
  | .capWrite acc ten cap value => Sys2Proof.Machine.execCapWrite acc ten cap value s
  | .semRead acc n => Sys2Proof.Machine.execSemRead acc n s
  | .semWait acc n => Sys2Proof.Machine.execSemWait acc n s
  | .semWaitTimeout n => Sys2Proof.Machine.execSemWaitTimeout n s
  | .semRel acc n => Sys2Proof.Machine.execSemRel acc n s
  | .semLeaseExpire n => Sys2Proof.Machine.execSemLeaseExpire n s
  | .watchdogExpire core => Sys2Proof.Machine.execWatchdogExpire core s
  | .dawRead addr => Sys2Proof.Machine.execDawRead addr s
  | .dawWrite addr data => Sys2Proof.Machine.execDawWrite addr data s
  | .dawReadNext => Sys2Proof.Machine.execDawReadNext s
  | .dawWriteNext data => Sys2Proof.Machine.execDawWriteNext data s
  | .extest => Sys2Proof.Machine.execExtest s
  | .clamp => Sys2Proof.Machine.execClamp s
  | .highz => Sys2Proof.Machine.execHighz s
  | .idcode => Sys2Proof.Machine.execIdcode s
  | .samplePreload => Sys2Proof.Machine.execSamplePreload s
  | .bypass => Sys2Proof.Machine.execBypass s
  | .tapReset => Sys2Proof.Machine.execTapReset s
  | .coreHalt acc mask => Sys2Proof.Machine.execCoreHalt acc mask s
  | .coreResume acc mask => Sys2Proof.Machine.execCoreResume acc mask s
  | .semBreak acc n => Sys2Proof.Machine.execSemBreak acc n s
  | .dbgLock acc => Sys2Proof.Machine.execDbgLock acc s
  | .fltClassWrite acc source cls => Sys2Proof.Machine.execFltClassWrite acc source cls s
  | .fltClearHalt acc => Sys2Proof.Machine.execFltClearHalt acc s
  | .fltClearLoad acc mask => Sys2Proof.Machine.execFltClearLoad acc mask s
  | .fltClearRestart acc halt load mask => Sys2Proof.Machine.execFltClearRestart acc halt load mask s
  | .fltCntClr acc => Sys2Proof.Machine.execFltCntClr acc s
  | .fltClearEffect => Sys2Proof.Machine.execFltClearEffect s
  | .histPop acc => Sys2Proof.Machine.execHistPop acc s
  | .injArm acc target mode unit => Sys2Proof.Machine.execInjArm acc target mode unit s
  | .extFault => Sys2Proof.Machine.execExtFault s
  | .domainIdleDescend d => Sys2Proof.Machine.execDomainIdleDescend d s
  | .domainDemandWake d => Sys2Proof.Machine.execDomainDemandWake d s
  | .domainWakeDone d => Sys2Proof.Machine.execDomainWakeDone d s
  | .domainTargetWrite acc d target => Sys2Proof.Machine.execDomainTargetWrite acc d target s
  | .domSleep acc storage => Sys2Proof.Machine.execDomSleep acc storage s
  | .sleepEntryReady => Sys2Proof.Machine.execSleepEntryReady s
  | .domWake acc => Sys2Proof.Machine.execDomWake acc s
  | .wakeNPin => Sys2Proof.Machine.execWakeNPin s
  | .linkEnergy port => Sys2Proof.Machine.execLinkEnergy port s
  | .sbusActivity => Sys2Proof.Machine.execSbusActivity s
  | .storageWakeReady timeNs sleptMs => Sys2Proof.Machine.execStorageWakeReady timeNs sleptMs s
  | .vl5PowerOff => Sys2Proof.Machine.execVl5PowerOff s
  | .faultNWireReleased => Sys2Proof.Machine.execFaultNWireReleased s
  | .vdrvRecover => Sys2Proof.Machine.execVdrvRecover s
  | .powerDieCool k => Sys2Proof.Machine.execPowerDieCool k s
  | .outShortEnd n => Sys2Proof.Machine.execOutShortEnd n s
  | .auxShortEnd n => Sys2Proof.Machine.execAuxShortEnd n s
  | .pauseEnd port => Sys2Proof.Machine.execPauseEnd port s
  | .portLoadUpdate port => Sys2Proof.Machine.execPortLoadUpdate port s
  | .thermalDeratingUpdate tc => Sys2Proof.Machine.execThermalDeratingUpdate tc s
  | .firmwareBootDone copyA copyB version ucode bands => Sys2Proof.Machine.execFirmwareBootDone copyA copyB version ucode bands s
  | .dawInstruction => Sys2Proof.Machine.execDawInstruction s

end Sys2Proof.Machine
end

