-- ==== Sys2Proof/Machine/Step.lean ====
section
/-! DEFINITION. One step: the command at the front of the queue; with an empty queue the block idles. -/
namespace Sys2Proof.Machine
open Sys2Proof

/-- The next command of the queue takes effect, with the rest of the queue left waiting; an empty queue leaves everything as
it is (DESIGN CHOICE, log entry 29). -/
def step (s : State) : Host.Outcome State Fault Refusal :=
  match s.pending with
  | [] => .next s
  | c :: rest => exec c { s with pending := rest }
/-- The state with the command that a word spells at the front of its queue; no row of the table gives a command bits, so
no word spells one. -/
def State.withFetchWord (s : State) (nbits w : Nat) : State :=
  match Sys2Proof.decodeTableWord nbits w with
  | some c => { s with pending := c :: s.pending }
  | none => s

end Sys2Proof.Machine
end

