-- ==== Sys2Proof/Safety.lean ====
section
/-! DEFINITION. The words that the statements use: what it is for a command to complete, for a host's access to go
straight through, for a register's word to take named fields, and for a state to hold its data in canonical form. -/
namespace Sys2Proof.Machine
open Sys2Proof

/-- A command completes with a next state of which `P` holds. -/
def Runs (o : Host.Outcome State Fault Refusal) (P : State → Prop) : Prop := ∃ t, o = .next t ∧ P t
/-- A host's write to a register address goes straight through: the path answers, the tenancy is present, the domains
behind the address are at L0, and no earlier request waits (R10, R22, R25, R486, R558). -/
def State.opens (s : State) (x : Access) (a : Nat) : Bool :=
  s.pathOpen x.path && s.tenPresent (accTen x) && (s.accDomains (accTen x) true a).all (fun d => s.domReady a d) &&
    s.host.stalled.isEmpty
/-- A host's write by tenancy 0 to a register address goes straight through. -/
def State.owns (s : State) (x : Access) (a : Nat) : Bool := s.opens x a && accTen x == 0
/-- The state after an access of a host's own has been answered with a status and data. -/
def State.answered (s : State) (st : Nat) (v : Word := 0#32) : State := { s with host := { s.host with last := (st, v) } }
/-- The state with the target tick of a keystone alarm. -/
def State.withAlarm (s : State) (n t : Nat) : State := { s with ks := { s.ks with alarmTgt := setNth s.ks.alarmTgt n t } }
/-- The offset in its pool of the taps that a tenancy's PFIR load reads (R184, R507). -/
def State.pfirOff (s : State) (t : Nat) : Nat :=
  s.get Reg.MIX_PFIR_SRC 0 0 t - 0x40000000 + KMap.get (fun _ => 0) s.ten.dmaBase (Reg.MIX_PFIR_SRC.key 0 0 t) * 2 ^ 30
/-- The node that RING_TM_TARGET names (R273). -/
def State.tmTarget (s : State) : Nat := s.get Reg.RING_TM_TARGET_LO + 2 ^ 32 * (s.get Reg.RING_TM_TARGET_HI % 65536)
/-- This node may hand the timing over to its target, or take it from it (R273). -/
def State.tmGood (s : State) : Bool :=
  s.tmTarget ≠ s.baseMac && ((s.isTm && s.mayBeTm s.tmTarget) || (s.rct.gm = some s.tmTarget && s.able))
/-- The state in which a diagnostic run of mode 1 begins on the channels named: no result, no verdict, no impedance (R393). -/
def State.diagPrepared (s : State) (chs : List Nat) : State :=
  (fun u : State => { u with bst := { u.bst with diag := { DiagState.reset with mode := 1, chans := chs, step := .background, fade := u.bst.diag.fade } } })
    (chs.foldl (fun u n => (u.setWord Reg.BST_CHn_VERDICT 0#32 n).forN 8 (fun u k => u.setWord Reg.BST_CHn_ZRESk 0#32 n k))
      (s.setWord Reg.BST_DIAG_STATUS (BitVec.ofNat 32 (2 ^ 24))))
/-- The state with `n` MiB at `o` of a tenancy's pool cleared and given to it under the handle `h` (R506). -/
def State.allocated (s : State) (t h o n : Nat) : State :=
  (fun u : State => { u with ten := { u.ten with allocs := u.ten.allocs ++ [⟨t, h, o, n⟩] } }) (s.poolClear t o n)
/-- The body of a SLEEP frame of this coordinator (R290). -/
def State.sleepBody (s : State) (mode : Nat) : List Byte := beBytes 1 mode ++ beBytes 3 0 ++ beBytes 4 ((s.cycleNo + 256) % 2 ^ 32) ++ beBytes 8 0
/-- The state in which a node looks at a Flary frame that has arrived: an event of its own, the frame counted (R495). -/
def State.flaryIn (s : State) (r : FlaryReq) : State := s.event.rxCount r.port (r.frame s)
/-- A request on a ring port reaches this node as its target, by a path that answers (R486, R498, R499). -/
def State.flaryReach (s : State) (r : FlaryReq) : Bool :=
  let u := s.flaryIn r
  s.linkUp r.port && !r.branch && u.inService r.port && r.target.toNat = u.baseMac && !(r.relay.toNat = u.baseMac && r.relay ≠ 0#48) &&
    u.is Reg.TEN_FLARY_CFG_RING && u.pathOpen r.path
/-- Such a request is authentic and new (R496, R497). -/
def State.flaryOk (s : State) (r : FlaryReq) : Bool :=
  let u := s.flaryIn r
  s.flaryReach r && u.hasKey r.ten.val && r.auth = u.flaryAuth r.ten.val r.authMsg && (match u.flarySeen r with
    | none => true
    | some x => decide (x.2.2.1 < r.seq.toNat))
/-- The state in which an accepted request acts: its SEQ noted for its requester (R497). -/
def State.flaryAt (s : State) (r : FlaryReq) : State := flaryNote r (s.flaryIn r)
/-- The state in which a node looks at a frame that has arrived on a ring port: an event of its own, the frame counted. -/
def State.ctlSeen (s : State) (b : Bool) (f : List Byte) : State := s.event.rxCount (b2n b) f
/-- A control frame of a type arrives in order on a ring port (R246 to R250). -/
def State.ctlGood (s : State) (typ : Nat) (b : Bool) (f : List Byte) : Bool :=
  s.linkUp (b2n b) && beAt f 12 2 = 0x88B5 && ringType f = typ && frameGood f && !ctlBad f
/-- The state in which a flooded frame of another node, passed on, is acted on (R249). -/
def State.ctlActs (s : State) (b : Bool) (f : List Byte) : State := ((s.ctlSeen b f).ctlPass (b2n b) f id).ctlMark f
/-- A flooded frame of another node arrives in order on a segment in service, for the first time, at running ring control. -/
def State.flooded (s : State) (typ : Nat) (b : Bool) (f : List Byte) : Bool :=
  let u := s.ctlSeen b f
  let v := u.ctlPass (b2n b) f id
  s.ctlGood typ b f && u.inService (b2n b) && !(cMac f = u.baseMac && cNonce f = u.rct.nonce) && decide (1 < cTtl f) && v.ctlRuns && v.ctlFirst f
/-- The state in which an action on a frame stands after its sender has been noted (R256). -/
def State.ctlNoted (s : State) (b : Bool) (f : List Byte) (pos : Option Nat) : State := dupMac f ((s.ctlActs b f).note (cBody f 0 8) pos)
/-- Keys strictly rising: the order in which a key-value list holds its entries. -/
def rising {α : Type} : KMap α → Bool
  | [] => true
  | (k, _) :: m => m.all (fun e => decide (k < e.1)) && rising m
/-- The state holds its data in canonical form: the register file in rising order, and every memory in the form in which
equal contents are equal lists. -/
def State.canon (s : State) : Bool :=
  rising s.regs && Mem.wf s.mem.stone && Mem.wf s.mem.sram && Mem.wf s.mem.dram && Mem.wf s.mem.foot
/-- `u` is `s` with the word of one register replaced by one whose fields read as named. -/
def State.Wrote (s : State) (f : Fld) (i t : Nat) (vals : List (Fld × Nat)) (u : State) : Prop :=
  ∃ w : Word, (∀ p ∈ vals, bitsOf w.toNat p.1.hi p.1.lo = p.2) ∧ u = s.setWord f w i 0 t

end Sys2Proof.Machine
end

