-- ==== Sys2Proof/Certificates/Slice0/Obligations.lean ====
section
/-! DEFINITION. The statements for the provers: what each family of commands does, and what every command and every step does. -/
open Sys2Proof Sys2Proof.Machine

/-- A step is the command at the front of the queue, on the state with the rest of the queue waiting; on an empty queue the
block idles, which is the model's choice (log entry 29). Where a clause leaves the state as it is because a condition of the
row does not hold, that is the model's choice (log entry 1). -/
def Obligations.StepRunsFrontCommand : Prop :=
  (∀ (s : State) (c : Instr) (rest : List Instr), s.pending = c :: rest → step s = exec c { s with pending := rest }) ∧
  (∀ s : State, s.pending = [] → step s = .next s)

/-- Every command completes with a next state, whatever the state and the operands, and leaves the queue as it stands; so a
step of a waiting queue takes exactly the command at its front. -/
def Obligations.EveryCommandCompletesAndKeepsQueue : Prop :=
  (∀ (c : Instr) (s : State), Runs (exec c s) (fun t => t.pending = s.pending)) ∧
  (∀ (s : State) (c : Instr) (rest : List Instr), s.pending = c :: rest → Runs (step s) (fun t => t.pending = rest))

/-- The state after reset (R2, R3, R43, R113, R409, R528, R529). It is in canonical form with no command waiting. IDENT_ID
holds the identity of revision B0. KS_COUNT is 0, the keystone runs free and is not locked. No image is active, both slots
are erased, the automatic load is off. Every power channel and every analog output is OFF. No fault is raised or active,
CAPSTONE is clear, and every source has its default class. Every byte of every memory reads 0, which is the model's choice
(log entry 6). -/
def Obligations.ResetStateHoldsSpecValues : Prop :=
  State.reset.canon = true ∧
  State.reset.pending = [] ∧
  (State.reset.get Reg.IDENT_ID_REV = 0x0B0 ∧ State.reset.get Reg.IDENT_ID_PART = 0x8128) ∧
  (State.reset.ks.count = 0 ∧ State.reset.is Reg.KS_STATUS_FREE = true ∧ State.reset.is Reg.KS_STATUS_LOCK = false) ∧
  (State.reset.img.active = none ∧ (∀ b : Fin 2, (State.reset.slot b.val).state = 0) ∧
    State.reset.is Reg.IMG_BOOT_AUTO = false) ∧
  (∀ n : Fin 8, State.reset.ch n.val = 0) ∧
  (∀ n : Fin 4, State.reset.anaSt n.val = 0) ∧
  (State.reset.flt.raises = [] ∧ State.reset.flt.active = [] ∧ State.reset.flt.capstone = false) ∧
  (∀ n, State.reset.srcClass n = sourceDefault n) ∧
  (∀ a, Mem.rd State.reset.mem.stone a = 0#8 ∧ Mem.rd State.reset.mem.sram a = 0#8 ∧ Mem.rd State.reset.mem.dram a = 0#8 ∧
    Mem.rd State.reset.mem.foot a = 0#8)

/-- Every step keeps the canonical form of the data: the register file in rising order of keys, and each of the four memories
a list of cells in rising order of addresses without an entry at the value of an unlisted byte. It holds of every state in
that form, whatever command stands at the front. -/
def Obligations.StepKeepsCanon : Prop :=
  ∀ s t : State, s.canon = true → step s = .next t → t.canon = true

/-- The register file, on a state in canonical form: a field just written reads as the value written, cut to its width; a
field of the same word beside it, and every register of another key, read as before; a counter that is incremented reads one
more, or stays at its largest value. -/
def Obligations.RegisterFieldsReadBack : Prop :=
  (∀ (s : State) (f : Fld) (v i j t : Nat), s.canon = true → f.lo ≤ f.hi → f.hi < 32 →
    (s.set f v i j t).get f i j t = v % 2 ^ (f.hi + 1 - f.lo)) ∧
  (∀ (s : State) (f g : Fld) (v i j t : Nat), s.canon = true → f.lo ≤ f.hi → f.hi < 32 → g.hi < 32 → g.addr = f.addr →
    g.s1 = f.s1 → g.s2 = f.s2 → g.own = f.own →
    g.reset = f.reset → (f.hi < g.lo ∨ g.hi < f.lo) → (s.set f v i j t).get g i j t = s.get g i j t) ∧
  (∀ (s : State) (f g : Fld) (v i j t i' j' t' : Nat), s.canon = true → g.key i' j' t' ≠ f.key i j t →
    (s.set f v i j t).get g i' j' t' = s.get g i' j' t') ∧
  (∀ (s : State) (f : Fld) (i j t : Nat), s.canon = true → f.lo ≤ f.hi → f.hi < 32 →
    (s.inc f i j t).get f i j t = min (s.get f i j t + 1) (2 ^ (f.hi + 1 - f.lo) - 1))

/-- The memories, in canonical form: the bytes of a write read back in order, every other byte reads as before, a cleared
range reads as unlisted bytes do (0, the choice of log entry 6), and every write and clear keeps the form. -/
def Obligations.MemoryBytesReadBack : Prop :=
  (∀ (m : List Host.Cell) (a i : Nat) (bs : List Byte), Mem.wf m = true → (h : i < bs.length) →
    Mem.rd (Mem.wrN m a bs) (a + i) = bs[i]) ∧
  (∀ (m : List Host.Cell) (a b : Nat) (bs : List Byte), Mem.wf m = true → (b < a ∨ a + bs.length ≤ b) →
    Mem.rd (Mem.wrN m a bs) b = Mem.rd m b) ∧
  (∀ (m : List Host.Cell) (a b n : Nat), Mem.wf m = true → Mem.rd (Mem.clear m a n) b = if a ≤ b ∧
    b < a + n then 0#8 else Mem.rd m b) ∧
  (∀ (m : List Host.Cell) (a n : Nat) (bs : List Byte), Mem.wf m = true → Mem.wf (Mem.wrN m a bs) = true ∧
    Mem.wf (Mem.clear m a n) = true) ∧
  (∀ (s : State) (a : Nat) (v : List Byte), s.canon = true → (s.stoneWrite a v).canon = true ∧ (s.sramWrite a v).canon = true ∧
    (s.dramWrite a v).canon = true)

/-- Row REG_WRITE (R6, R7, R10, R609). With the path open and nothing in the way: at a register whose rights allow it the
command is the register's own write, answered with its status (where it resumes service core 1, the requests that waited are
then taken: served, R526); at an offset with no register it changes nothing and is answered OK; at an address of a register
block that is not a multiple of 4 it changes nothing and is answered ACCESS_ERROR. For a register with no RW field and no
action, a write clears exactly the interrupt bits written 1. For a register without interrupt bits that takes any word, each
field of RW bits gets its value and every field outside them is kept. Under each condition named exec answers a next state:
regWrite. -/
def Obligations.RegisterWriteActsByFieldTypes : Prop :=
  (∀ (acc : Access) (a v : Word) (s u : State) (st : Nat) (r : RegRow) (i j : Nat), s.opens acc a.toNat = true →
    regFind a.toNat = some (r, i, j) →
    a.toNat % 4 = 0 → a.toNat / 65536 ≠ 15 → (a.toNat < 0x40000 ∨ (0x70000 ≤ a.toNat ∧ a.toNat < 0x150000)) →
    s.mayWriteReg r i (accTen acc) acc.path = true → regWrite r i j (accTen acc) acc.path v.toNat (2 ^ 32 - 1) s = (u, st) →
      u.host.stalled = [] →
    exec (.regWrite acc a v) s = .next (served s (u.answered st))) ∧
  (∀ (acc : Access) (a v : Word) (s : State), s.opens acc a.toNat = true → regFind a.toNat = none → a.toNat % 4 = 0 →
    a.toNat / 65536 ≠ 15 →
    (a.toNat < 0x40000 ∨ (0x70000 ≤ a.toNat ∧ a.toNat < 0x150000)) → exec (.regWrite acc a v) s = .next (s.answered stOk)) ∧
  (∀ (acc : Access) (a v : Word) (s : State), s.opens acc a.toNat = true → a.toNat % 4 ≠ 0 →
    (a.toNat < 0x40000 ∨ (0x80000 ≤ a.toNat ∧ a.toNat < 0x150000)) → exec (.regWrite acc a v) s = .next (s.answered stAccess)) ∧
  (∀ (s : State) (r : RegRow) (i j t v : Nat) (p : Path), s.canon = true → v < 2 ^ 32 → r.mask .rw = 0 → r.addr ≠ 0x140000 →
    r.addr ≠ 0x110400 →
    waActs r i t p v = [] →
    ((regWrite r i j t p v (2 ^ 32 - 1) s).1.word r.fld i j t).toNat = (s.word r.fld i j t).toNat - ((s.word r.fld i j t).toNat &&& r.mask .w1c &&& v)) ∧
  (∀ (s : State) (r : RegRow) (i j t v hi lo : Nat) (p : Path), s.canon = true → v < 2 ^ 32 → r.mask .w1c = 0 →
    r.addr ≠ 0x140000 → r.addr ≠ 0x110400 →
    waActs r i t p v = [] → (∀ w, regRw r i j t w s = (s.setWord r.fld w i j t, stOk)) → hi < 32 →
    ((∀ b, lo ≤ b → b ≤ hi → bit (r.mask .rw) b = true) →
      bitsOf ((regWrite r i j t p v (2 ^ 32 - 1) s).1.word r.fld i j t).toNat hi lo = bitsOf v hi lo) ∧
    ((∀ b, lo ≤ b → b ≤ hi → bit (r.mask .rw) b = false) →
      bitsOf ((regWrite r i j t p v (2 ^ 32 - 1) s).1.word r.fld i j t).toNat hi lo =
      bitsOf (s.word r.fld i j t).toNat hi lo))

/-- A write by a tenancy that a register does not list has no effect on any field, and a read by a tenancy that its block
does not permit to read reads 0 and performs no side effect; each completes with the permission-error status of the path that
carried it and raises no fault (R9). Under each condition named exec answers a next state: regWrite. -/
def Obligations.AccessWithoutRightIsRefused : Prop :=
  (∀ (p : Path) (t a n v : Nat) (s : State) (r : RegRow) (i j : Nat), regFind (a / 4 * 4) = some (r, i, j) →
    widthOk a n = true →
    (a < 0x40000 ∨ (0x70000 ≤ a ∧ a < 0x150000)) → s.tenPresent t = true →
    ((s.accDomains t true a).all (fun d => s.domReady a d) = true → s.mayWriteReg r i t p = false →
      access p t true a n v s = (s, .done stPerm 0#32)) ∧
    ((s.accDomains t false a).all (fun d => s.domReady a d) = true → mayRead r t = false → access p t false a n v s = (s,
      .done stPerm 0#32))) ∧
  (∀ (acc : Access) (a v : Word) (s : State) (r : RegRow) (i j : Nat), regFind a.toNat = some (r, i, j) → a.toNat % 4 = 0 →
    (a.toNat < 0x40000 ∨ (0x70000 ≤ a.toNat ∧ a.toNat < 0x150000)) → s.opens acc a.toNat = true →
      s.mayWriteReg r i (accTen acc) acc.path = false →
    exec (.regWrite acc a v) s = .next (s.answered stPerm))

/-- An access to an address outside every range of the map (R22, R23), or to the PWR block while the barrier link does not
carry valid frames both ways (R18), reads 0, has no effect and completes with the access-error status, on every path; a host
write there changes nothing but the answer. Under each condition named exec answers a next state: regWrite. -/
def Obligations.UnmappedOrCutOffAccessErrs : Prop :=
  (∀ (p : Path) (t a n v : Nat) (wr : Bool) (s : State),
    (0x150000 ≤ a ∧ a < 0x10000000) ∨ (0x10800000 ≤ a ∧ a < 0x40000000) ∨ 0x100000000 ≤ a →
    access p t wr a n v s = (s, .done stAccess 0#32)) ∧
  (∀ (acc : Access) (a v : Word) (s : State), s.pathOpen acc.path = true → s.host.stalled = [] →
    (0x150000 ≤ a.toNat ∧ a.toNat < 0x10000000) ∨ (0x10800000 ≤ a.toNat ∧ a.toNat < 0x40000000) →
    exec (.regWrite acc a v) s = .next (s.answered stAccess)) ∧
  (∀ (p : Path) (t a n v : Nat) (wr : Bool) (s : State), 0xF0000 ≤ a → a < 0x100000 → widthOk a n = true → s.linkOk = false →
    s.tenPresent t = true →
    (s.accDomains t wr a).all (fun d => s.domReady a d) = true →
    (∀ r i j, regFind (a / 4 * 4) = some (r, i, j) → (wr = false ∨ s.mayWriteReg r i t p = true)) →
    access p t wr a n v s = (s, .done stAccess 0#32))

/-- The safe state of the power channels (R14, R26, R29): of the channels named, each that is not OFF and is running, or is
not yet shown in the safe state, becomes HELD with the cause recorded, READY 0 and both legs low; an OFF channel and a
channel not named keep their state, cause and switches. A cause is one of those of PWR_CHn_STATE.CAUSE, below 16. -/
def Obligations.SafeStateHoldsNamedChannels : Prop :=
  (∀ (s : State) (mask cause : Nat) (n : Fin 8), s.canon = true → cause < 16 → bit mask n.val = true → s.ch n.val ≠ 0 →
    (bit (s.get Reg.PWR_STATUS_SAFE) n.val = false ∨ 2 ≤ s.ch n.val) →
    (s.hvSafe mask cause).ch n.val = 1 ∧ (s.hvSafe mask cause).get Reg.PWR_CHn_STATE_CAUSE n.val = cause ∧
    (s.hvSafe mask cause).is Reg.PWR_CHn_STATE_READY n.val = false ∧ ((s.hvSafe mask cause).pc n.val).low = true) ∧
  (∀ (s : State) (mask cause : Nat) (n : Fin 8), s.canon = true → (bit mask n.val = false ∨ s.ch n.val = 0) →
    (s.hvSafe mask cause).ch n.val = s.ch n.val ∧
      (s.hvSafe mask cause).get Reg.PWR_CHn_STATE_CAUSE n.val = s.get Reg.PWR_CHn_STATE_CAUSE n.val ∧
    (s.hvSafe mask cause).pc n.val = s.pc n.val)

/-- The raise of a fault source (R31, R533): COUNT rises once in a tick, held at its largest value, and no other source's
COUNT moves; the interrupt bit of the class is set; a NOTE or DEGRADE raise is not kept and changes no power channel and no
analog output; a HALT or CAPSTONE raise is kept with its source, class and unit, and CAPSTONE once raised stays; a number
outside the source table is never raised. -/
def Obligations.FaultRaiseCountsAndHolds : Prop :=
  (∀ (s : State) (n u d : Nat), s.canon = true → n < 256 → (sourceRow n).isSome = true → s.flt.counted.contains n = false →
    (s.raise n u d).get Reg.FLT_SRCn_COUNT n = min (s.get Reg.FLT_SRCn_COUNT n + 1) 65535) ∧
  (∀ (s : State) (n u d m : Nat), s.canon = true → n < 256 → m < 256 → (m ≠ n ∨ s.flt.counted.contains n = true) →
    (s.raise n u d).get Reg.FLT_SRCn_COUNT m = s.get Reg.FLT_SRCn_COUNT m) ∧
  (∀ (s : State) (n u d : Nat), s.canon = true → (sourceRow n).isSome = true → s.srcClass n < 4 →
    bit ((s.raise n u d).word Reg.FLT_INT_STATUS).toNat (s.srcClass n) = true) ∧
  (∀ (s : State) (n u d : Nat), s.canon = true → s.srcClass n < 2 → (s.raise n u d).flt.raises = s.flt.raises ∧
    (s.raise n u d).flt.capstone = s.flt.capstone ∧
    (∀ k, k < 8 → (s.raise n u d).ch k = s.ch k) ∧ (∀ k, k < 4 → (s.raise n u d).anaSt k = s.anaSt k)) ∧
  (∀ (s : State) (n u d : Nat), (sourceRow n).isSome = true → 2 ≤ s.srcClass n →
    (s.raise n u d).flt.raises.any (fun r => r.source = n && r.unit = u && r.cls = s.srcClass n) = true ∧
    (s.raise n u d).flt.capstone = (s.flt.capstone || s.srcClass n = 3)) ∧
  (∀ (s : State) (n u d : Nat), sourceRow n = none → s.raise n u d = s)

/-- One millisecond of the protection gain (R386), from a gain between -40 and 0 dB. With the slow part between -34 and 0 dB,
both stay in their ranges and the gain rises by at most 0.002 dB. A coil at least 10 °C below its limit with no slow part:
that stays 0 and the gain rises by 0.002 dB, up to 0. A coil above its limit: the slow part falls by 0.01 dB, here down to
-34 dB at most, and the gain is at once no more than what the two parts ask, or -40 dB. -/
def Obligations.ProtectionGainStaysBounded : Prop :=
  (∀ (tl : Rat) (c : BstCh), -40 ≤ c.g → c.g ≤ 0 → -34 ≤ c.overdrive → c.overdrive ≤ 0 →
    -40 ≤ (gainStep tl c).g ∧ (gainStep tl c).g ≤ 0 ∧ (gainStep tl c).g ≤ c.g + 2 / 1000 ∧ -34 ≤ (gainStep tl c).overdrive ∧
      (gainStep tl c).overdrive ≤ 0) ∧
  (∀ (tl : Rat) (c : BstCh), c.tc ≤ tl - 10 → -40 ≤ c.g → c.g ≤ 0 → c.overdrive = 0 → (gainStep tl c).overdrive = 0 ∧
    (gainStep tl c).g = min 0 (c.g + 2 / 1000)) ∧
  (∀ (tl : Rat) (c : BstCh), tl < c.tc → -34 ≤ c.overdrive - 1 / 100 → -40 ≤ c.g → c.g ≤ 0 →
    (gainStep tl c).overdrive = c.overdrive - 1 / 100 ∧
    (gainStep tl c).g ≤ max (-6 / 10 * (c.tc - tl + 10) + c.overdrive - 1 / 100) (-40))

/-- Grout (R65). For integer samples the first missing tick carries the last sample, ticks 2 to 33 carry it times (33 - j) /
32 rounded toward zero, and from tick 34 on it is 0. For floating-point samples the first tick is the sample, and from tick
33 on a non-zero finite sample has become a zero. -/
def Obligations.GroutHoldsThenFades : Prop :=
  (∀ (x : Int) (j : Nat), groutInt x 1 = x ∧ (2 ≤ j → j ≤ 33 → groutInt x j = (x * (33 - j)).tdiv 32) ∧ (34 ≤ j →
    groutInt x j = 0)) ∧
  (∀ (w : F32) (j : Nat), groutF32 w 1 = w ∧ (33 ≤ j → f32Rat w ≠ 0 → f32Rat (groutF32 w j) = 0))

/-- A write of 1 to TEN_SEMn_REL by the owner frees the semaphore. The same write by another owner has no effect and
completes with PERMISSION_ERROR (R519). Under each condition named exec answers a next state: semRel. -/
def Obligations.SemaphoreReleasedByOwnerOnly : Prop :=
  (∀ (acc : Access) (n : Fin 64) (s : State), s.opens acc (0x110C08 + 0x10 * n.val) = true →
    ((s.sem n.val).owner = semCode acc.path (accTen acc) → exec (.semRel acc n) s = .next ((s.setSem n.val ⟨0,
      false⟩).answered stOk)) ∧
    ((s.sem n.val).owner ≠ semCode acc.path (accTen acc) → exec (.semRel acc n) s = .next (s.answered stPerm)))

/-- KS commands of a host (R10, R53, R66). KS_ALARM_ARM of an alarm whose KS_ALARMn_LO and _HI hold a tick later than
KS_COUNT: the alarm is pending with that target. KS_ALARM_ARM of a tick that is not later: STATE reads LATE and nothing else
changes (that a pending alarm stays pending is the model's choice, log entry 68). KS_ALARM_DISARM of a pending alarm cancels
it; of any other it changes nothing. KS_CAPTURE copies KS_COUNT and a cycle from the last one known of this tick up to the
last of the tick, which the model leaves free (log entry 3). KS_OVR_CLR clears the overrun count, the last overrun and its
stones. Every write completes OK. Under each condition named exec answers a next state: ksAlarmArm, ksAlarmDisarm, ksCapture,
ksOvrClr. -/
def Obligations.KeystoneCommandsTakeEffect : Prop :=
  (∀ (acc : Access) (n : Fin 4) (s : State), s.owns acc (0x10048 + 0x10 * n.val) = true →
    s.ks.count < s.get64 Reg.KS_ALARMn_LO Reg.KS_ALARMn_HI n.val →
    exec (.ksAlarmArm acc n) s = .next
      ((((s.withAlarm n.val (s.get64 Reg.KS_ALARMn_LO Reg.KS_ALARMn_HI n.val)).setAlarm n.val true).set Reg.KS_ALARMn_CTRL_STATE 1 n.val).answered stOk)) ∧
  (∀ (acc : Access) (n : Fin 4) (s : State), s.owns acc (0x10048 + 0x10 * n.val) = true →
    s.get64 Reg.KS_ALARMn_LO Reg.KS_ALARMn_HI n.val ≤ s.ks.count →
    exec (.ksAlarmArm acc n) s = .next ((s.set Reg.KS_ALARMn_CTRL_STATE 3 n.val).answered stOk)) ∧
  (∀ (acc : Access) (n : Fin 4) (s : State), s.owns acc (0x10048 + 0x10 * n.val) = true → nth s.ks.alarmOn n.val false = true →
    exec (.ksAlarmDisarm acc n) s = .next (((s.setAlarm n.val false).set Reg.KS_ALARMn_CTRL_STATE 4 n.val).answered stOk)) ∧
  (∀ (acc : Access) (n : Fin 4) (s : State), s.owns acc (0x10048 + 0x10 * n.val) = true → nth s.ks.alarmOn n.val false = false →
    exec (.ksAlarmDisarm acc n) s = .next (s.answered stOk)) ∧
  (∀ (acc : Access) (s : State), s.owns acc 0x10004 = true → s.ks.cycle < rateCycles s.rate →
    ∃ c, s.ks.cycle ≤ c ∧ c < rateCycles s.rate ∧ exec (.ksCapture acc) s = .next
      (((({ s with free := s.free + 1 } : State).set64
      Reg.KS_CAP_LO Reg.KS_CAP_HI s.ks.count).set Reg.KS_CAP_CYCLE_CYCLE c).answered stOk)) ∧
  (∀ (acc : Access) (s : State), s.owns acc 0x10004 = true →
    exec (.ksOvrClr acc) s = .next ((((s.setWord Reg.KS_OVR_COUNT 0#32).set64 Reg.KS_OVR_LAST_LO Reg.KS_OVR_LAST_HI 0).setWord
      Reg.KS_OVR_STONES 0#32).answered stOk))

/-- Flash slots under a host (R69 to R72). Each write goes straight through (path open, tenancy present, domains at L0,
nothing waiting). SLOT_OPEN of a slot that no operation holds makes it OPEN, empty and erasing, with no result; of the slot
of the active image it also sets SLOT_CHANGED. SLOT_CLOSE of an open slot that no operation holds makes it CLOSED and raises
SLOT_DONE. SLOT_VERIFY of a slot closed or checked before starts its check. SLOT_DATA, with the slot named by SLOT open and
room left, appends four bytes and does what State.slotWritten says (SLOT_CHANGED where it is the active image's slot). Each
is answered OK, and the control register keeps only the slot named. Under each condition named exec answers a next state:
slotOpen, slotData, slotClose, slotVerify. -/
def Obligations.FlashSlotCommandsTakeEffect : Prop :=
  (∀ (acc : Access) (b : Bool) (s : State), s.owns acc 0x20048 = true → s.canon = true → s.slotBusy (b2n b) = false →
    (s.is Reg.IMG_STATUS_ACTIVE && s.get Reg.IMG_STATUS_ACT_SLOT == b2n b) = false → ∃ u,
    s.Wrote Reg.IMG_SLOT_CTRL 0 0 [(Reg.IMG_SLOT_CTRL_SLOT, b2n b)] u ∧ exec (.slotOpen acc b) s = .next
    ((u.modSlot (b2n b) (fun x => { x with state := 1, code := 0, bytes := [], bad := [], erasing := true })).answered stOk)) ∧
  (∀ (acc : Access) (b : Bool) (s : State), s.owns acc 0x20048 = true → s.canon = true → s.slotBusy (b2n b) = false →
    (s.is Reg.IMG_STATUS_ACTIVE && s.get Reg.IMG_STATUS_ACT_SLOT == b2n b) = true → ∃ u,
    s.Wrote Reg.IMG_SLOT_CTRL 0 0 [(Reg.IMG_SLOT_CTRL_SLOT, b2n b)] u ∧ exec (.slotOpen acc b) s = .next
    (((u.modSlot (b2n b) (fun x => { x with state := 1, code := 0, bytes := [], bad := [], erasing := true })).setB Reg.IMG_STATUS_SLOT_CHANGED true).answered stOk)) ∧
  (∀ (acc : Access) (b : Bool) (s : State), s.owns acc 0x20048 = true → s.canon = true → s.slotBusy (b2n b) = false →
    (s.slot (b2n b)).state = 1 → ∃ u, s.Wrote Reg.IMG_SLOT_CTRL 0 0 [(Reg.IMG_SLOT_CTRL_SLOT, b2n b)] u ∧
    exec (.slotClose acc b) s = .next
    (((u.modSlot (b2n b) (fun x => { x with state := 2 })).int Reg.IMG_INT_STATUS_SLOT_DONE).answered stOk)) ∧
  (∀ (acc : Access) (b : Bool) (s : State), s.owns acc 0x20048 = true → s.canon = true → s.slotBusy (b2n b) = false →
    2 ≤ (s.slot (b2n b)).state → ∃ u, s.Wrote Reg.IMG_SLOT_CTRL 0 0 [(Reg.IMG_SLOT_CTRL_SLOT, b2n b)] u ∧
    exec (.slotVerify acc b) s = .next ((u.modSlot (b2n b) (fun x => { x with verifying := true })).answered stOk)) ∧
  (∀ (acc : Access) (d : Word) (s : State), s.owns acc 0x2004C = true →
    (s.slot (s.get Reg.IMG_SLOT_CTRL_SLOT)).state = 1 →
    (s.slot (s.get Reg.IMG_SLOT_CTRL_SLOT)).bytes.length + 4 ≤ 67108864 →
    exec (.slotData acc d) s = .next (((s.modSlot (s.get Reg.IMG_SLOT_CTRL_SLOT)
      (fun x => { x with bytes := x.bytes ++ leBytes 4 d.toNat })).slotWritten (s.get Reg.IMG_SLOT_CTRL_SLOT)).answered stOk))

/-- Image control by a host (R105, R111, R113, R119, R120, R125). Each write goes straight through (path open, tenancy
present, domains at L0, nothing waiting). IMG_LOAD of a slot not open, no image armed or rebuilding, drops what is staged,
clears the rebuild length and the staged epoch, and starts the load. IMG_ARM of a staged image runs the stage A checks
(armAt) for the tick of IMG_ACT_TICK. IMG_DISARM of an armed image returns it to STAGED. IMG_DISCARD, nothing armed or
rebuilding, drops what is staged or loading and goes to IDLE. IMG_DEACTIVATE with an image active, no rebuild and no override
in effect mutes every output and marks the image as ending. IMG_ACCEPT with an epoch mismatch, a long enough D and no rate
mismatch sets ACCEPTED and updates the hold. SIG_LOCK, while LOCK is 0, sets it and keeps ENFORCE. Each is answered OK. Under
each condition named exec answers a next state: imgLoad, imgArm, imgDisarm, imgDiscard, imgDeactivate, imgAccept, sigLock. -/
def Obligations.ImageCommandsTakeEffect : Prop :=
  (∀ (acc : Access) (b : Bool) (s : State), s.owns acc 0x20004 = true → s.canon = true → s.stage ≠ 3 → s.stage ≠ 4 →
    (s.slot (b2n b)).state ≠ 1 → ∃ u, s.Wrote Reg.IMG_CTRL 0 0 [(Reg.IMG_CTRL_SLOT, b2n b)] u ∧ exec (.imgLoad acc b) s = .next
    ((((({ u with img := { u.img with staged := none, loading := some (b2n b), auto := false } } : State).set Reg.IMG_REBUILD_TICKS 0).set64 Reg.IMG_EPOCH_STG_LO Reg.IMG_EPOCH_STG_HI 0).set Reg.IMG_STATUS_STAGE 1).answered stOk)) ∧
  (∀ (acc : Access) (im : Image) (s : State), s.owns acc 0x20004 = true → s.canon = true → s.img.staged = some im →
    s.stage = 2 → ∃ u, s.Wrote Reg.IMG_CTRL 0 0 [(Reg.IMG_CTRL_SLOT, s.get Reg.IMG_CTRL_SLOT)] u ∧ exec (.imgArm acc) s = .next
    ((armAt (s.get64 Reg.IMG_ACT_TICK_LO Reg.IMG_ACT_TICK_HI) im u).answered stOk)) ∧
  (∀ (acc : Access) (s : State), s.owns acc 0x20004 = true → s.canon = true → s.stage = 3 → ∃ u,
    s.Wrote Reg.IMG_CTRL 0 0 [(Reg.IMG_CTRL_SLOT, s.get Reg.IMG_CTRL_SLOT)] u ∧ exec (.imgDisarm acc) s = .next
    ((u.set Reg.IMG_STATUS_STAGE 2).answered stOk)) ∧
  (∀ (acc : Access) (s : State), s.owns acc 0x20004 = true → s.canon = true → s.stage ≠ 3 → s.stage ≠ 4 → ∃ u,
    s.Wrote Reg.IMG_CTRL 0 0 [(Reg.IMG_CTRL_SLOT, s.get Reg.IMG_CTRL_SLOT)] u ∧ exec (.imgDiscard acc) s = .next
    ((((({ u with img := { u.img with staged := none, loading := none, auto := false } } : State).set Reg.IMG_REBUILD_TICKS 0).set64 Reg.IMG_EPOCH_STG_LO Reg.IMG_EPOCH_STG_HI 0).set Reg.IMG_STATUS_STAGE 0).answered stOk)) ∧
  (∀ (acc : Access) (s : State), s.owns acc 0x20004 = true → s.canon = true → s.img.active.isSome = true → s.stage ≠ 4 →
    s.is Reg.MIX_OVR_STATUS_EFFECTIVE = false → ∃ u, s.Wrote Reg.IMG_CTRL 0 0 [(Reg.IMG_CTRL_SLOT, s.get Reg.IMG_CTRL_SLOT)] u ∧
    exec (.imgDeactivate acc) s = .next ((muteOutputs 4095 { u with img := { u.img with deact := true } }).answered stOk)) ∧
  (∀ (acc : Access) (im : Image) (s : State), s.owns acc 0x20004 = true → s.canon = true → s.img.active = some im →
    s.epochMis = true → im.dMin ≤ s.get Reg.KS_PRES_DELAY → s.is Reg.RING_CTL_STATUS_RATE_MIS = false → ∃ u,
    s.Wrote Reg.IMG_CTRL 0 0 [(Reg.IMG_CTRL_SLOT, s.get Reg.IMG_CTRL_SLOT)] u ∧ exec (.imgAccept acc) s = .next
    ((holdUpdate (u.setB Reg.IMG_STATUS_ACCEPTED true)).answered stOk)) ∧
  (∀ (acc : Access) (s : State), s.owns acc 0x2003C = true → s.canon = true → s.is Reg.IMG_SIG_LOCK = false →
    ∃ u, s.Wrote Reg.IMG_SIG 0 0 [(Reg.IMG_SIG_LOCK, 1), (Reg.IMG_SIG_ENFORCE, s.get Reg.IMG_SIG_ENFORCE)] u ∧
      exec (.sigLock acc) s = .next (u.answered stOk))

/-- Engine and mixer commands of a host (R153, R166, R178, R191, R195, R202). Each write goes straight through (path open,
tenancy present, domains at L0, nothing waiting). ENG_CNT_CLR zeroes the transfer, stream, ECC and NaN counters and the mark
of the last late stream. ENG_PEAK_CLR zeroes the peak end and the stall count of all 32 stones. LATCH_ARM for a tick beyond
KS_COUNT: pending with that target. LATCH_ARM for a tick that has come: STATE reads LATE and nothing else changes.
LATCH_DISARM of a pending latch cancels it. HOLD_CLR is noted for the head of the tick. REC_RUN of a recorder not STOPPED
sets RUN. REC_FREEZE of one that runs sets POST and the ticks still to record. PFIR_LOAD with no load in progress, of a
channel of a PFIR instance that the tenancy may write, from an address in its pool that is a multiple of 64 and wholly
covered: the fade out begins and the load is in progress. Each is answered OK. Under each condition named exec answers a next
state: engCntClr, engPeakClr, latchArm, latchDisarm, holdClr, pfirLoad, recFreeze, recRun. -/
def Obligations.EngineCommandsTakeEffect : Prop :=
  (∀ (acc : Access) (s : State), s.owns acc 0x30004 = true → s.canon = true → ∃ u, s.Wrote Reg.ENG_CTRL 0 0 [(Reg.ENG_CTRL_GATE,
    s.get Reg.ENG_CTRL_GATE)] u ∧ exec (.engCntClr acc) s = .next
    ((((((u.setWord Reg.ENG_XFER_GROUT 0#32).setWord Reg.ENG_STREAM_LATE 0#32).setWord Reg.ENG_ECC_CORR 0#32).setWord Reg.ENG_NAN 0#32).setB Reg.ENG_STREAM_LAST_VALID false).answered stOk)) ∧
  (∀ (acc : Access) (s : State), s.owns acc 0x30004 = true → s.canon = true → ∃ u, s.Wrote Reg.ENG_CTRL 0 0 [(Reg.ENG_CTRL_GATE,
    s.get Reg.ENG_CTRL_GATE)] u ∧ exec (.engPeakClr acc) s = .next
    ((u.forN 32 (fun s n => (s.set Reg.ENG_STONEn_PEAK_END 0 n).setWord Reg.ENG_STONEn_STALL 0#32 n)).answered stOk)) ∧
  (∀ (acc : Access) (s : State), s.owns acc 0x70014 = true → s.ks.count < s.get64 Reg.MIX_LATCH_TICK_LO Reg.MIX_LATCH_TICK_HI →
    exec (.latchArm acc) s = .next
    ((({ s with mix := { s.mix with latchOn := true, latchTgt := s.get64 Reg.MIX_LATCH_TICK_LO Reg.MIX_LATCH_TICK_HI } } : State).set Reg.MIX_LATCH_CTRL_STATE 1).answered stOk)) ∧
  (∀ (acc : Access) (s : State), s.owns acc 0x70014 = true → s.get64 Reg.MIX_LATCH_TICK_LO Reg.MIX_LATCH_TICK_HI ≤ s.ks.count →
    exec (.latchArm acc) s = .next ((s.set Reg.MIX_LATCH_CTRL_STATE 3).answered stOk)) ∧
  (∀ (acc : Access) (s : State), s.owns acc 0x70014 = true → s.mix.latchOn = true → exec (.latchDisarm acc) s = .next
    ((({ s with mix := { s.mix with latchOn := false } } : State).set Reg.MIX_LATCH_CTRL_STATE 4).answered stOk)) ∧
  (∀ (acc : Access) (s : State), s.owns acc 0x70014 = true → exec (.holdClr acc) s = .next
    (({ s with mix := { s.mix with holdClr := true } }).answered stOk)) ∧
  (∀ (acc : Access) (s : State), s.owns acc 0x70040 = true → s.canon = true → s.get Reg.MIX_REC_STATUS_STATE ≠ 0 → ∃ u,
    s.Wrote Reg.MIX_REC_CTRL 0 0 [(Reg.MIX_REC_CTRL_POST, s.get Reg.MIX_REC_CTRL_POST), (Reg.MIX_REC_CTRL_ON_HALT,
    s.get Reg.MIX_REC_CTRL_ON_HALT)] u ∧ exec (.recRun acc) s = .next ((u.set Reg.MIX_REC_STATUS_STATE 1).answered stOk)) ∧
  (∀ (acc : Access) (s : State), s.owns acc 0x70040 = true → s.canon = true → s.get Reg.MIX_REC_STATUS_STATE = 1 → ∃ u,
    s.Wrote Reg.MIX_REC_CTRL 0 0 [(Reg.MIX_REC_CTRL_POST, s.get Reg.MIX_REC_CTRL_POST), (Reg.MIX_REC_CTRL_ON_HALT,
    s.get Reg.MIX_REC_CTRL_ON_HALT)] u ∧ exec (.recFreeze acc) s = .next
    ((({ u with mix := { u.mix with post := s.get Reg.MIX_REC_CTRL_POST } } : State).set Reg.MIX_REC_STATUS_STATE 2).answered stOk)) ∧
  (∀ (acc : Access) (id : Fin 4096) (ch : Fin 8) (im : Image) (x : Inst) (s : State), s.opens acc 0x70028 = true →
    s.canon = true → s.img.active = some im → im.inst id.val = some x → s.mix.pfir = none → x.kind = 5 →
    bit x.writers (accTen acc) = true → ch.val < x.nIn → s.get Reg.MIX_PFIR_SRC 0 0 (accTen acc) % 64 = 0 →
    0x40000000 ≤ s.get Reg.MIX_PFIR_SRC 0 0 (accTen acc) → s.get Reg.MIX_PFIR_SRC 0 0 (accTen acc) + 16384 * x.kver ≤ 2 ^ 32 →
    s.poolCovered (accTen acc) 16 (s.pfirOff (accTen acc)) (s.pfirOff (accTen acc) + 16384 * x.kver) = true → ∃ u,
    s.Wrote Reg.MIX_PFIR_CTRL 0 (accTen acc) [(Reg.MIX_PFIR_CTRL_CH, ch.val), (Reg.MIX_PFIR_CTRL_ID, id.val)] u ∧
    exec (.pfirLoad acc id ch) s = .next
    ((({ (u.putInst ((u.instSt id.val).setFade ch.val (fadeOut ((u.instSt id.val).pfirFade ch.val)))) with mix := { u.mix with pfir := some ⟨accTen acc, id.val, ch.val, 2 ^ 33 * accTen acc + s.pfirOff (accTen acc)⟩ } } : State)).answered stOk))

/-- Parameters under a host (R53, R170, R189 to R191). Each write goes straight through (path open, tenancy present, domains
at L0, nothing waiting). PARAM_WRITE of 1, 2 or 4 bytes at an aligned offset, to a word of an instance that the tenancy may
write and nobody else holds, no image armed or rebuilding: the word named is the old one with those bytes replaced. Class S
(no shadow word): accepted by range and ties, it is queued for the head of the next tick. Class L: accepted by its range, it
goes to the shadow word and marks the space pending. In both, a word that is not accepted changes nothing, counts in
MIX_REJECT, raises REJECT and is answered ACCESS_ERROR. SWAP_ARM of a class L space that the tenancy may swap, not staging
and not armed by another: for a tick beyond KS_COUNT plus its guard it is pending with that target; for another tick STATE
reads LATE with the interrupt, and what was armed stays armed (log entry 61). SWAP_DISARM by the tenancy that armed it
cancels it, with the interrupt. SWAP_REVERT copies the words in effect back over the shadow of every instance of the space
and clears the pending mark; for a class S image, while staging, or in REBUILDING (the last the choice of the model, log
entry 76), it is answered BUSY and changes nothing else. Under each condition named exec answers a next state: paramWrite,
swapArm, swapDisarm, swapRevert. -/
def Obligations.ParameterCommandsTakeEffect : Prop :=
  (∀ (acc : Access) (sp : Fin 8) (im : Image) (s : State), s.opens acc 0x70004 = true → s.canon = true →
    s.img.active = some im → im.cls ≠ 0 → im.maySwap (accTen acc) sp.val = true → (s.swap sp.val).state ≠ 2 →
    ¬((s.swap sp.val).on = true ∧ (s.swap sp.val).by' ≠ accTen acc) →
    s.ks.count + im.swapG sp.val < s.get64 Reg.MIX_SWAP_TICK_LO Reg.MIX_SWAP_TICK_HI 0 (accTen acc) → ∃ u,
    s.Wrote Reg.MIX_SWAP_CTRL 0 (accTen acc) [(Reg.MIX_SWAP_CTRL_TEN, sp.val)] u ∧ exec (.swapArm acc sp) s = .next
    ((u.modSwap sp.val (fun x => { x with state := 1, on := true, by' := accTen acc, target := s.get64 Reg.MIX_SWAP_TICK_LO Reg.MIX_SWAP_TICK_HI 0 (accTen acc) })).answered stOk)) ∧
  (∀ (acc : Access) (sp : Fin 8) (s : State), s.opens acc 0x70004 = true → s.canon = true → (s.swap sp.val).on = true →
    (s.swap sp.val).by' = accTen acc → ∃ u, s.Wrote Reg.MIX_SWAP_CTRL 0 (accTen acc) [(Reg.MIX_SWAP_CTRL_TEN, sp.val)] u ∧
    exec (.swapDisarm acc sp) s = .next
    (((u.modSwap sp.val (fun x => { x with state := 5, on := false, bank := [] })).int Reg.MIX_INT_STATUS_SWAP_LATE).answered stOk)) ∧
  (∀ (acc : Access) (sp : Fin 8) (im : Image) (s : State), s.opens acc 0x70004 = true → s.canon = true →
    s.img.active = some im → im.cls ≠ 0 → im.maySwap (accTen acc) sp.val = true → (s.swap sp.val).state ≠ 2 → s.stage ≠ 4 →
    s.spaceInsts sp.val = [] → ∃ u, s.Wrote Reg.MIX_SWAP_CTRL 0 (accTen acc) [(Reg.MIX_SWAP_CTRL_TEN, sp.val)] u ∧
    exec (.swapRevert acc sp) s = .next ((u.modSwap sp.val (fun x => { x with pend := false })).answered stOk)) ∧
  (∀ (acc : Access) (off : Fin 65536) (v : Word) (s : State) (im : Image) (x : Inst),
    s.opens acc (0x40000 + off.val) = true → off.val % 4 = 0 → s.img.active = some im →
    im.paramInst (s.get Reg.MIX_VIEW_TEN 0 0 (accTen acc)) (off.val / 4) = some x → bit x.writers (accTen acc) = true →
    s.heldFrom (accTen acc) x.id = false → s.stage ≠ 3 → s.stage ≠ 4 →
    im.shadowAddr (s.get Reg.MIX_VIEW_TEN 0 0 (accTen acc)) (off.val / 4) = none →
    (x.range im.cls im.rate (off.val / 4 - x.paramBase)).ok v = true →
    x.tiesOk (setNth (s.parNext x) (off.val / 4 - x.paramBase) ((x.range im.cls im.rate (off.val / 4 - x.paramBase)).norm v)) = true →
    exec (.paramWrite acc off 2 v) s = .next (({ s with mix := { s.mix with pendS := s.mix.pendS ++
      [(x.id, off.val / 4 - x.paramBase,
        (x.range im.cls im.rate (off.val / 4 - x.paramBase)).norm v)] } } : State).answered stOk)) ∧
  (∀ (acc : Access) (sp : Fin 8) (im : Image) (s : State), s.opens acc 0x70004 = true → s.canon = true →
    s.img.active = some im → im.cls ≠ 0 → im.maySwap (accTen acc) sp.val = true → (s.swap sp.val).state ≠ 2 →
    ¬((s.swap sp.val).on = true ∧ (s.swap sp.val).by' ≠ accTen acc) →
    s.get64 Reg.MIX_SWAP_TICK_LO Reg.MIX_SWAP_TICK_HI 0 (accTen acc) ≤ s.ks.count + im.swapG sp.val → ∃ u,
    s.Wrote Reg.MIX_SWAP_CTRL 0 (accTen acc) [(Reg.MIX_SWAP_CTRL_TEN, sp.val)] u ∧ exec (.swapArm acc sp) s = .next
    (((u.modSwap sp.val (fun x => { x with state := 4, by' := accTen acc })).int Reg.MIX_INT_STATUS_SWAP_LATE).answered stOk)) ∧
  (∀ (acc : Access) (off : Fin 65536) (v : Word) (s : State) (im : Image) (x : Inst) (a : Nat),
    s.opens acc (0x40000 + off.val) = true → off.val % 4 = 0 → s.img.active = some im →
    im.paramInst (s.get Reg.MIX_VIEW_TEN 0 0 (accTen acc)) (off.val / 4) = some x → bit x.writers (accTen acc) = true →
    s.heldFrom (accTen acc) x.id = false → s.stage ≠ 3 → s.stage ≠ 4 →
    im.shadowAddr (s.get Reg.MIX_VIEW_TEN 0 0 (accTen acc)) (off.val / 4) = some a →
    (x.range im.cls im.rate (off.val / 4 - x.paramBase)).ok v = true →
    exec (.paramWrite acc off 2 v) s = .next (((s.sramWrite a (leBytes 4
      ((x.range im.cls im.rate (off.val / 4 - x.paramBase)).norm v).toNat)).modSwap (s.get Reg.MIX_VIEW_TEN 0 0 (accTen acc))
      (fun y => { y with pend := true })).answered stOk)) ∧
  (∀ (acc : Access) (off : Fin 65536) (w : Fin 3) (v new : Word) (s : State) (im : Image) (x : Inst),
    s.opens acc (0x40000 + off.val) = true → off.val % 2 ^ w.val = 0 → s.img.active = some im →
    im.paramInst (s.get Reg.MIX_VIEW_TEN 0 0 (accTen acc)) (off.val / 4) = some x → bit x.writers (accTen acc) = true →
    s.heldFrom (accTen acc) x.id = false → s.stage ≠ 3 → s.stage ≠ 4 →
    im.shadowAddr (s.get Reg.MIX_VIEW_TEN 0 0 (accTen acc)) (off.val / 4) = none →
    new = BitVec.ofNat 32 (putBits (nth (s.parNext x) (off.val / 4 - x.paramBase) 0#32).toNat (8 * (off.val % 4 + 2 ^ w.val) - 1) (8 * (off.val % 4)) (v.toNat % 2 ^ (8 * 2 ^ w.val))) →
    (x.range im.cls im.rate (off.val / 4 - x.paramBase)).ok new = true →
      x.tiesOk (setNth (s.parNext x) (off.val / 4 - x.paramBase) ((x.range im.cls im.rate (off.val / 4 - x.paramBase)).norm new)) = true →
    exec (.paramWrite acc off w v) s = .next
      (({ s with mix := { s.mix with pendS := s.mix.pendS ++ [(x.id, off.val / 4 - x.paramBase, (x.range im.cls im.rate (off.val / 4 - x.paramBase)).norm new)] } } : State).answered stOk)) ∧
  (∀ (acc : Access) (off : Fin 65536) (w : Fin 3) (v new : Word) (s : State) (im : Image) (x : Inst),
    s.opens acc (0x40000 + off.val) = true → off.val % 2 ^ w.val = 0 → s.img.active = some im →
    im.paramInst (s.get Reg.MIX_VIEW_TEN 0 0 (accTen acc)) (off.val / 4) = some x → bit x.writers (accTen acc) = true →
    s.heldFrom (accTen acc) x.id = false → s.stage ≠ 3 → s.stage ≠ 4 →
    im.shadowAddr (s.get Reg.MIX_VIEW_TEN 0 0 (accTen acc)) (off.val / 4) = none →
    new = BitVec.ofNat 32 (putBits (nth (s.parNext x) (off.val / 4 - x.paramBase) 0#32).toNat (8 * (off.val % 4 + 2 ^ w.val) - 1) (8 * (off.val % 4)) (v.toNat % 2 ^ (8 * 2 ^ w.val))) →
    ((x.range im.cls im.rate (off.val / 4 - x.paramBase)).ok new = false ∨ x.tiesOk (setNth (s.parNext x) (off.val / 4 - x.paramBase) ((x.range im.cls im.rate (off.val / 4 - x.paramBase)).norm new)) = false) →
    exec (.paramWrite acc off w v) s = .next
      (((s.inc Reg.MIX_REJECT 0 0 (accTen acc)).int Reg.MIX_INT_STATUS_REJECT).answered stAccess)) ∧
  (∀ (acc : Access) (off : Fin 65536) (w : Fin 3) (v new : Word) (s : State) (im : Image) (x : Inst) (a : Nat),
    s.opens acc (0x40000 + off.val) = true → off.val % 2 ^ w.val = 0 → s.img.active = some im →
    im.paramInst (s.get Reg.MIX_VIEW_TEN 0 0 (accTen acc)) (off.val / 4) = some x → bit x.writers (accTen acc) = true →
    s.heldFrom (accTen acc) x.id = false → s.stage ≠ 3 → s.stage ≠ 4 →
    im.shadowAddr (s.get Reg.MIX_VIEW_TEN 0 0 (accTen acc)) (off.val / 4) = some a →
    new = BitVec.ofNat 32 (putBits (Mem.word s.mem.sram a).toNat (8 * (off.val % 4 + 2 ^ w.val) - 1) (8 * (off.val % 4)) (v.toNat % 2 ^ (8 * 2 ^ w.val))) →
    (x.range im.cls im.rate (off.val / 4 - x.paramBase)).ok new = true →
    exec (.paramWrite acc off w v) s = .next
      (((s.sramWrite a (leBytes 4 ((x.range im.cls im.rate (off.val / 4 - x.paramBase)).norm new).toNat)).modSwap (s.get Reg.MIX_VIEW_TEN 0 0 (accTen acc)) (fun y => { y with pend := true })).answered stOk)) ∧
  (∀ (acc : Access) (off : Fin 65536) (w : Fin 3) (v new : Word) (s : State) (im : Image) (x : Inst) (a : Nat),
    s.opens acc (0x40000 + off.val) = true → off.val % 2 ^ w.val = 0 → s.img.active = some im →
    im.paramInst (s.get Reg.MIX_VIEW_TEN 0 0 (accTen acc)) (off.val / 4) = some x → bit x.writers (accTen acc) = true →
    s.heldFrom (accTen acc) x.id = false → s.stage ≠ 3 → s.stage ≠ 4 →
    im.shadowAddr (s.get Reg.MIX_VIEW_TEN 0 0 (accTen acc)) (off.val / 4) = some a →
    new = BitVec.ofNat 32 (putBits (Mem.word s.mem.sram a).toNat (8 * (off.val % 4 + 2 ^ w.val) - 1) (8 * (off.val % 4)) (v.toNat % 2 ^ (8 * 2 ^ w.val))) →
    (x.range im.cls im.rate (off.val / 4 - x.paramBase)).ok new = false →
    exec (.paramWrite acc off w v) s = .next
      (((s.inc Reg.MIX_REJECT 0 0 (accTen acc)).int Reg.MIX_INT_STATUS_REJECT).answered stAccess)) ∧
  (∀ (acc : Access) (sp : Fin 8) (im : Image) (s : State), s.opens acc 0x70004 = true → s.canon = true →
    s.img.active = some im → im.cls ≠ 0 →
    im.maySwap (accTen acc) sp.val = true → (s.swap sp.val).state ≠ 2 → s.stage ≠ 4 →
    ∃ u, s.Wrote Reg.MIX_SWAP_CTRL 0 (accTen acc) [(Reg.MIX_SWAP_CTRL_TEN, sp.val)] u ∧ exec (.swapRevert acc sp) s = .next
      ((State.modSwap
      ((u.spaceInsts sp.val).foldl (fun (t : State) i => match im.shadowAddr sp.val i.paramBase with
        | some a => t.sramWrite a ((t.instSt i.id).par.flatMap (fun w => leBytes 4 w.toNat))
        | none => t) u) sp.val (fun x => { x with pend := false })).answered stOk)) ∧
  (∀ (acc : Access) (sp : Fin 8) (im : Image) (s : State), s.opens acc 0x70004 = true → s.canon = true →
    s.img.active = some im →
    im.cls = 0 ∨ (s.swap sp.val).state = 2 ∨ s.stage = 4 →
    ∃ u, s.Wrote Reg.MIX_SWAP_CTRL 0 (accTen acc) [(Reg.MIX_SWAP_CTRL_TEN, sp.val)] u ∧ exec (.swapRevert acc sp) s = .next
      (u.answered stBusy))

/-- The announcement store under a host (R204, R205). Each write goes straight through (path open, tenancy present, domains
at L0, nothing waiting). The sender is tenancy 0 or has right 0, NUMBER is not 0, and no operation runs. MSG_OPEN of a
message not played: it is open and empty, and its erasure starts. MSG_CLOSE of an open message closes it and raises MSG_DONE.
MSG_VERIFY of a closed or checked one starts its check. MSG_DELETE of one not played starts its deletion. MSG_DATA by tenancy
0, to the open message NUMBER with room in the store, appends four bytes. Each is answered OK. Under each condition named
exec answers a next state: msgOpen, msgData, msgClose, msgVerify, msgDelete. -/
def Obligations.MessageCommandsTakeEffect : Prop :=
  (∀ (acc : Access) (m : Fin 1024) (s : State), s.opens acc 0x70060 = true →
    (accTen acc = 0 ∨ bit (s.get Reg.TEN_Tt_RIGHTS_RIGHTS (accTen acc)) 0 = true) → s.canon = true → m.val ≠ 0 →
    s.mix.msgOp = none → s.msgPlayed m.val = false → ∃ u, s.Wrote Reg.MIX_MSG_CTRL 0 0 [(Reg.MIX_MSG_CTRL_NUMBER, m.val)] u ∧
    exec (.msgOpen acc m) s = .next (((u.putMsg ⟨m.val, 1, []⟩).msgStart 1 m.val).answered stOk)) ∧
  (∀ (acc : Access) (m : Fin 1024) (s : State), s.opens acc 0x70060 = true →
    (accTen acc = 0 ∨ bit (s.get Reg.TEN_Tt_RIGHTS_RIGHTS (accTen acc)) 0 = true) → s.canon = true → m.val ≠ 0 →
    s.mix.msgOp = none → (s.msg m.val).state = 1 → ∃ u, s.Wrote Reg.MIX_MSG_CTRL 0 0 [(Reg.MIX_MSG_CTRL_NUMBER, m.val)] u ∧
    exec (.msgClose acc m) s = .next
    (((u.putMsg { s.msg m.val with state := 2 }).int Reg.MIX_INT_STATUS_MSG_DONE).answered stOk)) ∧
  (∀ (acc : Access) (m : Fin 1024) (s : State), s.opens acc 0x70060 = true →
    (accTen acc = 0 ∨ bit (s.get Reg.TEN_Tt_RIGHTS_RIGHTS (accTen acc)) 0 = true) → s.canon = true → m.val ≠ 0 →
    s.mix.msgOp = none → 2 ≤ (s.msg m.val).state → ∃ u, s.Wrote Reg.MIX_MSG_CTRL 0 0 [(Reg.MIX_MSG_CTRL_NUMBER, m.val)] u ∧
    exec (.msgVerify acc m) s = .next ((u.msgStart 3 m.val).answered stOk)) ∧
  (∀ (acc : Access) (m : Fin 1024) (s : State), s.opens acc 0x70060 = true →
    (accTen acc = 0 ∨ bit (s.get Reg.TEN_Tt_RIGHTS_RIGHTS (accTen acc)) 0 = true) → s.canon = true → m.val ≠ 0 →
    s.mix.msgOp = none → s.msgPlayed m.val = false → ∃ u, s.Wrote Reg.MIX_MSG_CTRL 0 0 [(Reg.MIX_MSG_CTRL_NUMBER, m.val)] u ∧
    exec (.msgDelete acc m) s = .next ((u.msgStart 2 m.val).answered stOk)) ∧
  (∀ (acc : Access) (d : Word) (s : State), s.owns acc 0x70064 = true → s.get Reg.MIX_MSG_CTRL_NUMBER ≠ 0 →
    (s.msg (s.get Reg.MIX_MSG_CTRL_NUMBER)).state = 1 → s.mix.msgOp = none → s.msgUsed + 4 ≤ 268435456 →
    exec (.msgData acc d) s = .next ((s.putMsg { s.msg (s.get Reg.MIX_MSG_CTRL_NUMBER) with
      bytes := (s.msg (s.get Reg.MIX_MSG_CTRL_NUMBER)).bytes ++ leBytes 4 d.toNat }).answered stOk))

/-- Ring commands of a host (R237, R241, R264, R265, R273, R278, R281, R290). Each write goes straight through (path open,
tenancy present, domains at L0, nothing waiting). DP_CNT_CLR and DP_AGE_CLR clear the counters and the ages as actRingCntClr
and actAgeClr say. RING_COMMIT at the coordinator with no configuration waiting: values that fit, and no segment lacking the
speed, go into the next plan; with segments lacking it, RESULT is 9 and the first is stepped; values that do not fit give
RESULT 4 and BUSY. Elsewhere RESULT is 3. RING_REROLL at the coordinator re-rolls; elsewhere it is BUSY. RING_TM_REQ: barred,
RESULT 6 and BUSY; to a target that may be asked, the request goes out; to another, RESULT 7 and BUSY. RING_LEAVE: a follower
sends a REPORT; a coordinator with a standby sends the handing-over BEACON and then a REPORT; one without gives RESULT 10 and
BUSY. RING_SLEEP at the coordinator plans the sleep 256 cycles ahead and sends SLEEP three times; elsewhere it is BUSY.
RING_WAKE is what wakeBy 5 7 does. Where no other answer is named it is OK. Under each condition named exec answers a next
state: dpAgeClr, dpCntClr, ringCommit, ringTmReq, ringLeave, ringReroll, ringSleep, ringWake. -/
def Obligations.RingCommandsTakeEffect : Prop :=
  (∀ (acc : Access) (s : State), s.owns acc 0x8000C = true → s.canon = true → ∃ u,
    s.Wrote Reg.RING_DP_CTRL 0 0 [(Reg.RING_DP_CTRL_SEND_EN, s.get Reg.RING_DP_CTRL_SEND_EN)] u ∧ exec (.dpCntClr acc) s = .next
    ((actRingCntClr u).answered stOk)) ∧
  (∀ (acc : Access) (s : State), s.owns acc 0x8000C = true → s.canon = true → ∃ u,
    s.Wrote Reg.RING_DP_CTRL 0 0 [(Reg.RING_DP_CTRL_SEND_EN, s.get Reg.RING_DP_CTRL_SEND_EN)] u ∧ exec (.dpAgeClr acc) s = .next
    ((actAgeClr u).answered stOk)) ∧
  (∀ (acc : Access) (s : State), s.owns acc 0x80818 = true → s.canon = true → s.isCoord = false → ∃ u,
    s.Wrote Reg.RING_CTL_CTRL 0 0 [(Reg.RING_CTL_CTRL_SLEEP_MODE, s.get Reg.RING_CTL_CTRL_SLEEP_MODE)] u ∧
    exec (.ringCommit acc) s = .next ((u.setResult 3).answered stOk)) ∧
  (∀ (acc : Access) (s : State), s.owns acc 0x80818 = true → s.canon = true → s.isCoord = true → s.rct.conf = none →
    s.cfgConf.ok = true → s.lacking s.cfgConf.speed s.free = [] → ∃ u,
    s.Wrote Reg.RING_CTL_CTRL 0 0 [(Reg.RING_CTL_CTRL_SLEEP_MODE, s.get Reg.RING_CTL_CTRL_SLEEP_MODE)] u ∧
    exec (.ringCommit acc) s = .next ((commitIssue s.cfgConf u.fresh.2).answered stOk)) ∧
  (∀ (acc : Access) (s : State), s.owns acc 0x80818 = true → s.canon = true → s.isCoord = true → ∃ u,
    s.Wrote Reg.RING_CTL_CTRL 0 0 [(Reg.RING_CTL_CTRL_SLEEP_MODE, s.get Reg.RING_CTL_CTRL_SLEEP_MODE)] u ∧
    exec (.ringReroll acc) s = .next ((reroll u).answered stOk)) ∧
  (∀ (acc : Access) (s : State), s.owns acc 0x80818 = true → s.canon = true → s.tmBarred = true → ∃ u,
    s.Wrote Reg.RING_CTL_CTRL 0 0 [(Reg.RING_CTL_CTRL_SLEEP_MODE, s.get Reg.RING_CTL_CTRL_SLEEP_MODE)] u ∧
    exec (.ringTmReq acc) s = .next ((u.setResult 6).answered stBusy)) ∧
  (∀ (acc : Access) (s : State), s.owns acc 0x80818 = true → s.canon = true → s.tmBarred = false → s.tmGood = true → ∃ u,
    s.Wrote Reg.RING_CTL_CTRL 0 0 [(Reg.RING_CTL_CTRL_SLEEP_MODE, s.get Reg.RING_CTL_CTRL_SLEEP_MODE)] u ∧
    exec (.ringTmReq acc) s = .next
    (((u.modRct (fun r => { r with tmReq := some s.tmTarget })).ctlSend 9 s.svc (timingBody 1 s.tmTarget 0)).answered stOk)) ∧
  (∀ (acc : Access) (s : State), s.owns acc 0x80818 = true → s.canon = true → s.isCoord = false → ∃ u,
    s.Wrote Reg.RING_CTL_CTRL 0 0 [(Reg.RING_CTL_CTRL_SLEEP_MODE, s.get Reg.RING_CTL_CTRL_SLEEP_MODE)] u ∧
    exec (.ringLeave acc) s = .next
    (((sendReport (u.modRct (fun r => { r with left := decide (s.ctl ≠ 0) }))).setResult 1).answered stOk)) ∧
  (∀ (acc : Access) (s : State), s.owns acc 0x80818 = true → s.canon = true → s.isCoord = true → s.rct.standby ≠ none → ∃ u,
    s.Wrote Reg.RING_CTL_CTRL 0 0 [(Reg.RING_CTL_CTRL_SLEEP_MODE, s.get Reg.RING_CTL_CTRL_SLEEP_MODE)] u ∧
    exec (.ringLeave acc) s = .next
    (((sendReport (sendBeacon true (u.modRct (fun r => { r with left := decide (s.ctl ≠ 0) })))).setResult 1).answered stOk)) ∧
  (∀ (acc : Access) (s : State), s.owns acc 0x80818 = true → s.canon = true → s.isCoord = true → ∃ u,
    s.Wrote Reg.RING_CTL_CTRL 0 0 [(Reg.RING_CTL_CTRL_SLEEP_MODE, s.get Reg.RING_CTL_CTRL_SLEEP_MODE)] u ∧
    exec (.ringSleep acc) s = .next
    ((({ u with dom := { u.dom with sleepAt := some (1 + s.get Reg.RING_CTL_CTRL_SLEEP_MODE, (s.cycleNo + 256) % 2 ^ 32) } } : State).forN 3 (fun t _ => t.ctlSend 11 t.svc (s.sleepBody (1 + s.get Reg.RING_CTL_CTRL_SLEEP_MODE)))).answered stOk)) ∧
  (∀ (acc : Access) (s : State), s.owns acc 0x80818 = true → s.canon = true → ∃ u,
    s.Wrote Reg.RING_CTL_CTRL 0 0 [(Reg.RING_CTL_CTRL_SLEEP_MODE, s.get Reg.RING_CTL_CTRL_SLEEP_MODE)] u ∧
    exec (.ringWake acc) s = .next ((wakeBy 5 7 true true false u).answered stOk)) ∧
  (∀ (acc : Access) (s : State), s.owns acc 0x80818 = true → s.canon = true → s.isCoord = true → s.rct.conf = none →
    s.cfgConf.ok = true → s.lacking s.cfgConf.speed s.free ≠ [] → ∃ u,
    s.Wrote Reg.RING_CTL_CTRL 0 0 [(Reg.RING_CTL_CTRL_SLEEP_MODE, s.get Reg.RING_CTL_CTRL_SLEEP_MODE)] u ∧
    exec (.ringCommit acc) s = .next
    ((commitStep ((u.fresh.2.modRct (fun r => { r with commit := some s.cfgConf, commitSegs := s.lacking s.cfgConf.speed s.free })).setResult 9)).answered stOk)) ∧
  (∀ (acc : Access) (s : State), s.owns acc 0x80818 = true → s.canon = true → s.isCoord = true → s.rct.conf = none →
    s.cfgConf.ok = false → ∃ u, s.Wrote Reg.RING_CTL_CTRL 0 0 [(Reg.RING_CTL_CTRL_SLEEP_MODE,
    s.get Reg.RING_CTL_CTRL_SLEEP_MODE)] u ∧ exec (.ringCommit acc) s = .next ((u.setResult 4).answered stBusy)) ∧
  (∀ (acc : Access) (s : State), s.owns acc 0x80818 = true → s.canon = true → s.isCoord = true → s.rct.standby = none → ∃ u,
    s.Wrote Reg.RING_CTL_CTRL 0 0 [(Reg.RING_CTL_CTRL_SLEEP_MODE, s.get Reg.RING_CTL_CTRL_SLEEP_MODE)] u ∧
    exec (.ringLeave acc) s = .next ((u.setResult 10).answered stBusy)) ∧
  (∀ (acc : Access) (s : State), s.owns acc 0x80818 = true → s.canon = true → s.isCoord = false → ∃ u,
    s.Wrote Reg.RING_CTL_CTRL 0 0 [(Reg.RING_CTL_CTRL_SLEEP_MODE, s.get Reg.RING_CTL_CTRL_SLEEP_MODE)] u ∧
    exec (.ringReroll acc) s = .next ((u).answered stBusy)) ∧
  (∀ (acc : Access) (s : State), s.owns acc 0x80818 = true → s.canon = true → s.tmBarred = false → s.tmGood = false → ∃ u,
    s.Wrote Reg.RING_CTL_CTRL 0 0 [(Reg.RING_CTL_CTRL_SLEEP_MODE, s.get Reg.RING_CTL_CTRL_SLEEP_MODE)] u ∧
    exec (.ringTmReq acc) s = .next ((u.setResult 7).answered stBusy)) ∧
  (∀ (acc : Access) (s : State), s.owns acc 0x80818 = true → s.canon = true → s.isCoord = false → ∃ u,
    s.Wrote Reg.RING_CTL_CTRL 0 0 [(Reg.RING_CTL_CTRL_SLEEP_MODE, s.get Reg.RING_CTL_CTRL_SLEEP_MODE)] u ∧
    exec (.ringSleep acc) s = .next ((u).answered stBusy))

/-- Port, stream and service-bus commands of a host (R296, R298, R314, R322, R328). Each write goes straight through (path
open, tenancy present, domains at L0, nothing waiting). PORT_MODE_WRITE: a mode that the port has and that differs is taken,
the link goes down, and CORBEL is 1 for mode 4; one that it lacks leaves MODE and is answered ACCESS_ERROR; the one it has
already changes no field; in the last two cases a disabled port's link goes down. AAF_STREAM_ENABLE of a disabled stream:
settings that R314 accepts enable it afresh with its peer kept; others leave EN 0, ACCESS_ERROR. SBUS_TX_HEAD takes an index
that leaves at most 32 entries waiting; SBUS_RX_TAIL takes one no further than what the ring holds. SNAP_LOCAL and SNAP_SEND
with an ID that is not 0 and a tick beyond KS_COUNT note the ID and arm the snapshot; SEND also sends it on every port in
service. Where no other answer is named it is OK. Under each condition named exec answers a next state: portModeWrite,
aafStreamEnable, sbusTxHead, sbusRxTail, snapSend, snapLocal. -/
def Obligations.PortCommandsTakeEffect : Prop :=
  (∀ (acc : Access) (p : Fin 3) (m : Fin 8) (s : State), s.owns acc (0x90000 + 0x20 * p.val) = true → s.canon = true →
    m.val ≤ 4 → ¬(p.val = 2 ∧ (m.val = 1 ∨ m.val = 4)) → m.val ≠ s.get Reg.PORT_Pp_CFG_MODE p.val →
    ∃ u, s.Wrote Reg.PORT_Pp_CFG p.val 0 [(Reg.PORT_Pp_CFG_MODE, m.val), (Reg.PORT_Pp_CFG_EN, s.get Reg.PORT_Pp_CFG_EN p.val),
      (Reg.PORT_Pp_CFG_PAUSE_HONOUR, s.get Reg.PORT_Pp_CFG_PAUSE_HONOUR p.val), (Reg.PORT_Pp_CFG_AUTO_LOW,
      s.get Reg.PORT_Pp_CFG_AUTO_LOW p.val), (Reg.PORT_Pp_CFG_EEE, s.get Reg.PORT_Pp_CFG_EEE p.val)] u ∧
      exec (.portModeWrite acc p m) s = .next
        ((State.setB ((fun t : State => { t with port := { t.port with linked := setNth t.port.linked p.val false } }) (linkDown p.val u)) Reg.PORT_Pp_LINK_CORBEL (m.val = 4) p.val).answered stOk)) ∧
  (∀ (acc : Access) (k : Fin 16) (s : State), s.owns acc (0x90200 + 0x20 * k.val) = true → s.canon = true →
    s.is Reg.PORT_AAFs_CFG_EN k.val = false → ∃ u, s.Wrote Reg.PORT_AAFs_CFG k.val 0 [(Reg.PORT_AAFs_CFG_EN, 1),
      (Reg.PORT_AAFs_CFG_FMT, s.get Reg.PORT_AAFs_CFG_FMT k.val), (Reg.PORT_AAFs_CFG_RATE, s.get Reg.PORT_AAFs_CFG_RATE k.val),
      (Reg.PORT_AAFs_CFG_CHANNELS, s.get Reg.PORT_AAFs_CFG_CHANNELS k.val), (Reg.PORT_AAFs_CFG_PCP,
      s.get Reg.PORT_AAFs_CFG_PCP k.val), (Reg.PORT_AAFs_CFG_VID, s.get Reg.PORT_AAFs_CFG_VID k.val)] u ∧
      exec (.aafStreamEnable acc k) s = .next (if s.aafOk k.val (u.word Reg.PORT_AAFs_CFG k.val) then
        ((u.modAaf k.val (fun _ => { Aaf.reset with peer := (s.aaf k.val).peer })).answered stOk)
        else ((u.setB Reg.PORT_AAFs_CFG_EN false k.val).answered stAccess))) ∧
  (∀ (acc : Access) (v : Word) (s : State), s.owns acc 0xA0014 = true → s.canon = true →
    (v.toNat % 64 + 64 - s.get Reg.SBUS_TX_HEAD_INDEX) % 64 + (s.get Reg.SBUS_TX_HEAD_INDEX + 64 - s.get Reg.SBUS_TX_TAIL_INDEX) % 64 ≤ 32 →
    exec (.sbusTxHead acc v) s = .next ((s.set Reg.SBUS_TX_HEAD_INDEX (v.toNat % 64)).answered stOk)) ∧
  (∀ (acc : Access) (v : Word) (s : State), s.owns acc 0xA0028 = true → s.canon = true →
    (v.toNat % 64 + 64 - s.get Reg.SBUS_RX_TAIL_INDEX) % 64 ≤ (s.get Reg.SBUS_RX_HEAD_INDEX + 64 - s.get Reg.SBUS_RX_TAIL_INDEX) % 64 →
    exec (.sbusRxTail acc v) s = .next ((s.set Reg.SBUS_RX_TAIL_INDEX (v.toNat % 64)).answered stOk)) ∧
  (∀ (acc : Access) (s : State), s.owns acc 0x90090 = true → s.get Reg.PORT_SNAP_ID ≠ 0 →
    s.ks.count < s.get64 Reg.PORT_SNAP_TICK_LO Reg.PORT_SNAP_TICK_HI → s.canon = true → exec (.snapLocal acc) s = .next
    (((s.setWord Reg.PORT_SNAP_LAST_ID (BitVec.ofNat 32 (s.get Reg.PORT_SNAP_ID))).snapArm (s.get64 Reg.PORT_SNAP_TICK_LO Reg.PORT_SNAP_TICK_HI) (s.get Reg.PORT_SNAP_ID)).answered stOk)) ∧
  (∀ (acc : Access) (s : State), s.owns acc 0x90090 = true → s.get Reg.PORT_SNAP_ID ≠ 0 →
    s.ks.count < s.get64 Reg.PORT_SNAP_TICK_LO Reg.PORT_SNAP_TICK_HI → s.canon = true → exec (.snapSend acc) s = .next
    ((((s.setWord Reg.PORT_SNAP_LAST_ID (BitVec.ofNat 32 (s.get Reg.PORT_SNAP_ID))).snapArm (s.get64 Reg.PORT_SNAP_TICK_LO Reg.PORT_SNAP_TICK_HI) (s.get Reg.PORT_SNAP_ID)).ctlSend 13 (((s.setWord Reg.PORT_SNAP_LAST_ID (BitVec.ofNat 32 (s.get Reg.PORT_SNAP_ID))).snapArm (s.get64 Reg.PORT_SNAP_TICK_LO Reg.PORT_SNAP_TICK_HI) (s.get Reg.PORT_SNAP_ID)).svc) (beBytes 8 (s.get64 Reg.PORT_SNAP_TICK_LO Reg.PORT_SNAP_TICK_HI) ++ beBytes 4 (s.get Reg.PORT_SNAP_ID) ++ beBytes 4 0)).answered stOk)) ∧
  (∀ (acc : Access) (p : Fin 3) (m : Fin 8) (s : State), s.owns acc (0x90000 + 0x20 * p.val) = true → s.canon = true →
    4 < m.val ∨ (p.val = 2 ∧ (m.val = 1 ∨ m.val = 4)) →
    ∃ u, s.Wrote Reg.PORT_Pp_CFG p.val 0 [(Reg.PORT_Pp_CFG_MODE, s.get Reg.PORT_Pp_CFG_MODE p.val), (Reg.PORT_Pp_CFG_EN,
      s.get Reg.PORT_Pp_CFG_EN p.val), (Reg.PORT_Pp_CFG_PAUSE_HONOUR, s.get Reg.PORT_Pp_CFG_PAUSE_HONOUR p.val),
      (Reg.PORT_Pp_CFG_AUTO_LOW, s.get Reg.PORT_Pp_CFG_AUTO_LOW p.val), (Reg.PORT_Pp_CFG_EEE,
      s.get Reg.PORT_Pp_CFG_EEE p.val)] u ∧
      exec (.portModeWrite acc p m) s = .next
        ((if s.is Reg.PORT_Pp_CFG_EN p.val then u else linkDown p.val u).answered stAccess)) ∧
  (∀ (acc : Access) (p : Fin 3) (m : Fin 8) (s : State), s.owns acc (0x90000 + 0x20 * p.val) = true → s.canon = true →
    m.val ≤ 4 → ¬(p.val = 2 ∧ (m.val = 1 ∨ m.val = 4)) → m.val = s.get Reg.PORT_Pp_CFG_MODE p.val →
    ∃ u, s.Wrote Reg.PORT_Pp_CFG p.val 0 [(Reg.PORT_Pp_CFG_MODE, m.val), (Reg.PORT_Pp_CFG_EN, s.get Reg.PORT_Pp_CFG_EN p.val),
      (Reg.PORT_Pp_CFG_PAUSE_HONOUR, s.get Reg.PORT_Pp_CFG_PAUSE_HONOUR p.val), (Reg.PORT_Pp_CFG_AUTO_LOW,
      s.get Reg.PORT_Pp_CFG_AUTO_LOW p.val), (Reg.PORT_Pp_CFG_EEE, s.get Reg.PORT_Pp_CFG_EEE p.val)] u ∧
      exec (.portModeWrite acc p m) s = .next ((if s.is Reg.PORT_Pp_CFG_EN p.val then u else linkDown p.val u).answered stOk))

/-- Channel and switching-clock requests of a host (R25, R344 to R352, R369). Each write goes straight through (path open,
tenancy present, domains at L0, nothing waiting). With the link carrying frames both ways, CH_ARM, CH_RELEASE, CH_MUTE,
CH_DISARM and SW_APPLY complete as one request in the queue to the power-control die, a word with that action bit alone in
its low byte (RELEASE and MUTE with TIMED as given, APPLY the word 1), while the write waits for its result. At the die the
ARM of a channel that is HELD and not barred arms it, the MUTE of an ARMED one cancels its action, clears READY and makes it
HELD, and the DISARM of one that is not MUTING cancels its pending action; each results in OK. Each of them puts one request
in the queue, which at the die, whatever its state, arms the channel, schedules its release or mute 4 ticks on, cancels what
is pending, or applies the switching settings. Under each condition named exec answers a next state: chArm, chRelease,
chMute, chDisarm, swApply. -/
def Obligations.PowerChannelCommandsTakeEffect : Prop :=
  (∀ (acc : Access) (n : Fin 8) (s : State), s.owns acc (0xF0108 + 0x40 * n.val) = true → s.linkOk = true →
    ∃ w : Word, w.toNat % 256 = 1 ∧ exec (.chArm acc n) s = .next { s with
      pwr := { s.pwr with reqs := s.pwr.reqs ++ [⟨true, (0xF0108 + 0x40 * n.val), w, .host⟩] }
      host := { s.host with stalled := [⟨⟨.single, acc.path, 0, true, 0, 4, 1, (0xF0108 + 0x40 * n.val), leBytes 4 w.toNat, 0, []⟩, .barrier⟩] } }) ∧
  (∀ (acc : Access) (n : Fin 8) (tm : Bool) (s : State), s.owns acc (0xF0108 + 0x40 * n.val) = true → s.linkOk = true →
    ∃ w : Word, w.toNat % 256 = 2 ∧ bit w.toNat 8 = tm ∧ exec (.chRelease acc n tm) s = .next { s with
      pwr := { s.pwr with reqs := s.pwr.reqs ++ [⟨true, (0xF0108 + 0x40 * n.val), w, .host⟩] }
      host := { s.host with stalled := [⟨⟨.single, acc.path, 0, true, 0, 4, 1, (0xF0108 + 0x40 * n.val), leBytes 4 w.toNat, 0, []⟩, .barrier⟩] } }) ∧
  (∀ (acc : Access) (n : Fin 8) (tm : Bool) (s : State), s.owns acc (0xF0108 + 0x40 * n.val) = true → s.linkOk = true →
    ∃ w : Word, w.toNat % 256 = 4 ∧ bit w.toNat 8 = tm ∧ exec (.chMute acc n tm) s = .next { s with
      pwr := { s.pwr with reqs := s.pwr.reqs ++ [⟨true, (0xF0108 + 0x40 * n.val), w, .host⟩] }
      host := { s.host with stalled := [⟨⟨.single, acc.path, 0, true, 0, 4, 1, (0xF0108 + 0x40 * n.val), leBytes 4 w.toNat, 0, []⟩, .barrier⟩] } }) ∧
  (∀ (acc : Access) (n : Fin 8) (s : State), s.owns acc (0xF0108 + 0x40 * n.val) = true → s.linkOk = true →
    ∃ w : Word, w.toNat % 256 = 8 ∧ exec (.chDisarm acc n) s = .next { s with
      pwr := { s.pwr with reqs := s.pwr.reqs ++ [⟨true, (0xF0108 + 0x40 * n.val), w, .host⟩] }
      host := { s.host with stalled := [⟨⟨.single, acc.path, 0, true, 0, 4, 1, (0xF0108 + 0x40 * n.val), leBytes 4 w.toNat, 0, []⟩, .barrier⟩] } }) ∧
  (∀ (acc : Access) (s : State), s.owns acc 0xF0010 = true → s.linkOk = true →
    ∃ w : Word, w = 1#32 ∧ exec (.swApply acc) s = .next { s with
      pwr := { s.pwr with reqs := s.pwr.reqs ++ [⟨true, 0xF0010, w, .host⟩] }
      host := { s.host with stalled := [⟨⟨.single, acc.path, 0, true, 0, 4, 1, 0xF0010, leBytes 4 w.toNat, 0, []⟩, .barrier⟩] } }) ∧
  (∀ (n : Fin 8) (s : State), s.ch n.val = 1 → s.armBarred n.val = false → actChArm n.val s = (s.arm n.val, stOk)) ∧
  (∀ (n : Fin 8) (s : State), s.ch n.val = 2 → actChMute n.val s =
    (((s.cancelAction n.val).setB Reg.PWR_CHn_STATE_READY false n.val).setCh n.val 1, stOk)) ∧
  (∀ (n : Fin 8) (s : State), s.ch n.val ≠ 4 → actChDisarm n.val s = (s.cancelAction n.val, stOk)) ∧
  (∀ (acc : Access) (n : Fin 8) (s : State), s.owns acc (0xF0108 + 0x40 * n.val) = true → s.linkOk = true →
    ∃ (q : PwrReq) (t : State), exec (.chArm acc n) s = .next t ∧ t.pwr.reqs = s.pwr.reqs ++ [q] ∧ t.regs = s.regs ∧
      t.pending = s.pending ∧
    (∀ u : State, u.canon = true → n.val < u.pwr.chans.length → u.ch n.val = 1 → u.armBarred n.val = false → ∃ v,
      pwrRun q u = (v, stOk, 0#32) ∧ v.ch n.val = 2)) ∧
  (∀ (acc : Access) (n : Fin 8) (s : State), s.owns acc (0xF0108 + 0x40 * n.val) = true → s.linkOk = true →
    ∃ (q : PwrReq) (t : State), exec (.chRelease acc n false) s = .next t ∧ t.pwr.reqs = s.pwr.reqs ++ [q] ∧ t.regs = s.regs ∧
      t.pending = s.pending ∧
    (∀ u : State, u.canon = true → n.val < u.pwr.chans.length → u.ch n.val = 2 → ∃ v, pwrRun q u = (v, stOk, 0#32) ∧
      (v.pc n.val).act = 1 ∧ (v.pc n.val).target = u.ks.count + 4)) ∧
  (∀ (acc : Access) (n : Fin 8) (s : State), s.owns acc (0xF0108 + 0x40 * n.val) = true → s.linkOk = true →
    ∃ (q : PwrReq) (t : State), exec (.chMute acc n false) s = .next t ∧ t.pwr.reqs = s.pwr.reqs ++ [q] ∧ t.regs = s.regs ∧
      t.pending = s.pending ∧
    (∀ u : State, u.canon = true → n.val < u.pwr.chans.length → u.ch n.val = 3 → ∃ v, pwrRun q u = (v, stOk, 0#32) ∧
      (v.pc n.val).act = 2 ∧ (v.pc n.val).target = u.ks.count + 4)) ∧
  (∀ (acc : Access) (n : Fin 8) (s : State), s.owns acc (0xF0108 + 0x40 * n.val) = true → s.linkOk = true →
    ∃ (q : PwrReq) (t : State), exec (.chDisarm acc n) s = .next t ∧ t.pwr.reqs = s.pwr.reqs ++ [q] ∧ t.regs = s.regs ∧
      t.pending = s.pending ∧
    (∀ u : State, u.canon = true → n.val < u.pwr.chans.length → u.ch n.val ≠ 4 → ∃ v, pwrRun q u = (v, stOk, 0#32) ∧
      (v.pc n.val).act = 0 ∧ (v.pc n.val).edge = none)) ∧
  (∀ (acc : Access) (s : State), s.owns acc 0xF0010 = true → s.linkOk = true → ∃ (q : PwrReq) (t : State),
    exec (.swApply acc) s = .next t ∧
    t.pwr.reqs = s.pwr.reqs ++ [q] ∧ t.regs = s.regs ∧ t.pending = s.pending ∧ (∀ u : State, pwrRun q u = ((swApply u).1,
      (swApply u).2, 0#32)))

/-- Protection and diagnostics under a host (R390, R392, R393, R398). Each write goes straight through (path open, tenancy
present, domains at L0, nothing waiting). PROT_SELECT_WRITE: a word that keeps a model, or any word where the image does not
serve the channel, sets its four fields and is OK; with an image active, a word that would leave a served channel without a
model changes nothing and is ACCESS_ERROR. DIAG_START in mode 1, with no run under way, no override in effect, an image
active without arming, rebuild or hold, on channels that each have a tester: their results are cleared and the run begins
(diagBegin). DIAG_ABORT of a run ends it with result 4, its channels asked to stop. Under each condition named exec answers a
next state: protSelectWrite, diagStart, diagAbort. -/
def Obligations.ProtectionCommandsTakeEffect : Prop :=
  (∀ (acc : Access) (n : Fin 8) (v : Word) (s : State), s.owns acc (0x100104 + 0x40 * n.val) = true → s.canon = true →
    (v.toNat % 4 ≠ 0 ∨ bit s.served n.val = false →
      ∃ u, s.Wrote Reg.BST_CHn_PROT n.val 0 [(Reg.BST_CHn_PROT_DC_V, bitsOf v.toNat 23 16), (Reg.BST_CHn_PROT_DC_MS,
        bitsOf v.toNat 12 4),
        (Reg.BST_CHn_PROT_DC_EN, bitsOf v.toNat 1 1), (Reg.BST_CHn_PROT_TH_EN, bitsOf v.toNat 0 0)] u ∧
        exec (.protSelectWrite acc n v) s = .next (u.answered stOk)) ∧
    (v.toNat % 4 = 0 → s.img.active.isSome = true → bit s.served n.val = true → exec (.protSelectWrite acc n v) s = .next
      (s.answered stAccess))) ∧
  (∀ (acc : Access) (im : Image) (s : State), s.owns acc 0x100304 = true → s.canon = true → s.diagRuns = false →
    s.is Reg.MIX_OVR_STATUS_EFFECTIVE = false → s.img.active = some im → s.stage ≠ 3 → s.stage ≠ 4 →
    s.is Reg.IMG_STATUS_EPOCH_HOLD = false → s.get Reg.BST_DIAG_CTRL_MODE = 1 → s.get Reg.BST_DIAG_CFG_CHMASK ≠ 0 →
    (bitsSet (s.get Reg.BST_DIAG_CFG_CHMASK) 8).all (fun n => (im.tester n).isSome) = true → ∃ u,
    s.Wrote Reg.BST_DIAG_CTRL 0 0 [(Reg.BST_DIAG_CTRL_MODE, s.get Reg.BST_DIAG_CTRL_MODE)] u ∧ exec (.diagStart acc) s = .next
    ((diagBegin (u.diagPrepared (bitsSet (s.get Reg.BST_DIAG_CFG_CHMASK) 8))).answered stOk)) ∧
  (∀ (acc : Access) (s : State), s.owns acc 0x100304 = true → s.canon = true → s.diagRuns = true → ∃ u,
    s.Wrote Reg.BST_DIAG_CTRL 0 0 [(Reg.BST_DIAG_CTRL_MODE, s.get Reg.BST_DIAG_CTRL_MODE)] u ∧ exec (.diagAbort acc) s = .next
    ((diagFinish 4 (u.askStop s.bst.diag.started)).answered stOk))

/-- Analog and serial audio commands of a host (R406, R408, R410, R426, R433, R438 to R441). Each write goes straight through
(path open, tenancy present, domains at L0, nothing waiting). ADC_SYNC resets every decimator. OUT_START of a HELD output
that is not ramping down, with an image active and neither bar, hold nor jack against it, begins its ramp; OUT_STOP is what
anaDown does. SAP_ENABLE of a disabled port: settings that do not hold leave EN 0 and set CFG_BAD, ACCESS_ERROR; others
enable it, and a leader runs at once at the engine's rate. DMA_ENABLE of a capture or playback path whose mask, base and
frames are in order starts it with its status and indices at 0, playback with its silence in the converters. CAP_RD_WRITE
advances no further than CAP_WR; PB_WR_WRITE no further than the ring has frames. Where no other answer is named it is OK.
Under each condition named exec answers a next state: adcSync, outStart, outStop, sapEnable, dmaEnable, capRdWrite,
pbWrWrite. -/
def Obligations.AudioCommandsTakeEffect : Prop :=
  (∀ (acc : Access) (s : State), s.owns acc 0xC0004 = true → exec (.adcSync acc) s = .next ((adcReset s).answered stOk)) ∧
  (∀ (acc : Access) (n : Fin 4) (s : State), s.owns acc (0xC0044 + 0x10 * n.val) = true → s.anaSt n.val = 1 →
    s.get Reg.ANA_OUTn_STAT_RAMP n.val ≠ 2 → s.img.active.isSome = true → s.anaBarred n.val = false →
    s.is Reg.IMG_STATUS_EPOCH_HOLD = false → s.jackMuted n.val = false → exec (.outStart acc n) s = .next
    ((s.anaUp n.val).answered stOk)) ∧
  (∀ (acc : Access) (n : Fin 4) (s : State), s.owns acc (0xC0044 + 0x10 * n.val) = true → exec (.outStop acc n) s = .next
    ((s.anaDown n.val).answered stOk)) ∧
  (∀ (acc : Access) (n : Fin 3) (s : State), s.owns acc (0xB0000 + 0x100 * n.val) = true → s.canon = true →
    s.is Reg.SAPn_CFG_EN n.val = false → ∃ u, s.Wrote Reg.SAPn_CFG n.val 0 [(Reg.SAPn_CFG_EN, 0), (Reg.SAPn_CFG_LEADER,
      s.get Reg.SAPn_CFG_LEADER n.val), (Reg.SAPn_CFG_FORMAT, s.get Reg.SAPn_CFG_FORMAT n.val), (Reg.SAPn_CFG_TRISTATE,
      s.get Reg.SAPn_CFG_TRISTATE n.val), (Reg.SAPn_CFG_FS_POL, s.get Reg.SAPn_CFG_FS_POL n.val), (Reg.SAPn_CFG_BCLK_EDGE,
      s.get Reg.SAPn_CFG_BCLK_EDGE n.val), (Reg.SAPn_CFG_FS_WIDTH, s.get Reg.SAPn_CFG_FS_WIDTH n.val), (Reg.SAPn_CFG_DELAY,
      s.get Reg.SAPn_CFG_DELAY n.val), (Reg.SAPn_CFG_SLOT_BITS, s.get Reg.SAPn_CFG_SLOT_BITS n.val), (Reg.SAPn_CFG_DATA_BITS,
      s.get Reg.SAPn_CFG_DATA_BITS n.val), (Reg.SAPn_CFG_SLOTS, s.get Reg.SAPn_CFG_SLOTS n.val)] u ∧
      exec (.sapEnable acc n) s = .next (if u.sapCfgOk n.val then (if s.is Reg.SAPn_CFG_LEADER n.val then
        (((((((u.setB Reg.SAPn_CFG_EN true n.val).setB Reg.SAPn_STAT_CFG_BAD false n.val).setB Reg.SAPn_STAT_RUN true n.val).setB Reg.SAPn_STAT_RATE_BAD false n.val).set
          Reg.SAPn_RATE_RATE (100 * rateHz s.rate) n.val).sapLock n.val true).answered stOk)
        else (((u.setB Reg.SAPn_CFG_EN true n.val).setB Reg.SAPn_STAT_CFG_BAD false n.val).answered stOk))
        else (((u.setB Reg.SAPn_CFG_EN false n.val).setB Reg.SAPn_STAT_CFG_BAD true n.val).answered stAccess))) ∧
  (∀ (acc : Access) (n : Fin 3) (s : State), s.owns acc (0xB0020 + 0x100 * n.val) = true → s.canon = true →
    s.is Reg.SAPn_CAP_CFG_EN n.val = false →
    s.dmaOk n.val Reg.SAPn_CAP_MASK Reg.SAPn_CAP_BASE Reg.SAPn_CAP_FRAMES_FRAMES (s.is Reg.SAPn_CAP_CFG_PACK n.val) = true →
    ∃ u, s.Wrote Reg.SAPn_CAP_CFG n.val 0 [(Reg.SAPn_CAP_CFG_EN, 1), (Reg.SAPn_CAP_CFG_PACK, s.get Reg.SAPn_CAP_CFG_PACK n.val),
      (Reg.SAPn_CAP_CFG_IRQ_FRAMES, s.get Reg.SAPn_CAP_CFG_IRQ_FRAMES n.val)] u ∧
      exec (.dmaEnable acc n false) s = .next
        ((((u.setWord Reg.SAPn_CAP_STAT 0#32 n.val).setWord Reg.SAPn_CAP_WR 0#32 n.val).setWord
        Reg.SAPn_CAP_RD 0#32 n.val).answered stOk)) ∧
  (∀ (acc : Access) (n : Fin 3) (s : State), s.owns acc (0xB0050 + 0x100 * n.val) = true → s.canon = true →
    s.is Reg.SAPn_PB_CFG_EN n.val = false →
    s.dmaOk n.val Reg.SAPn_PB_MASK Reg.SAPn_PB_BASE Reg.SAPn_PB_FRAMES_FRAMES (s.is Reg.SAPn_PB_CFG_PACK n.val) = true →
    ∃ u, s.Wrote Reg.SAPn_PB_CFG n.val 0 [(Reg.SAPn_PB_CFG_EN, 1), (Reg.SAPn_PB_CFG_PACK, s.get Reg.SAPn_PB_CFG_PACK n.val),
      (Reg.SAPn_PB_CFG_IRQ_FRAMES, s.get Reg.SAPn_PB_CFG_IRQ_FRAMES n.val)] u ∧
      exec (.dmaEnable acc n true) s = .next
        (((((u.setWord Reg.SAPn_PB_STAT 0#32 n.val).setWord Reg.SAPn_PB_WR 0#32 n.val).setWord
        Reg.SAPn_PB_RD 0#32 n.val).modSap n.val (fun p => { p with pb := List.replicate 32 (0, 40) })).answered stOk)) ∧
  (∀ (acc : Access) (n : Fin 3) (v : Word) (s : State), s.owns acc (0xB0034 + 0x100 * n.val) = true →
    (v - s.word Reg.SAPn_CAP_RD n.val).toNat ≤ (s.word Reg.SAPn_CAP_WR n.val - s.word Reg.SAPn_CAP_RD n.val).toNat →
    exec (.capRdWrite acc n v) s = .next ((s.setWord Reg.SAPn_CAP_RD v n.val).answered stOk)) ∧
  (∀ (acc : Access) (n : Fin 3) (v : Word) (s : State), s.owns acc (0xB0060 + 0x100 * n.val) = true →
    (v - s.word Reg.SAPn_PB_WR n.val).toNat + (s.word Reg.SAPn_PB_WR n.val - s.word Reg.SAPn_PB_RD n.val).toNat ≤ s.get Reg.SAPn_PB_FRAMES_FRAMES n.val →
    exec (.pbWrWrite acc n v) s = .next ((s.setWord Reg.SAPn_PB_WR v n.val).answered stOk))

/-- Auxiliary converters and the phase step under a host (R446 to R452, R470). Each write goes straight through (path open,
tenancy present, domains at L0, nothing waiting). AUX_QUEUE_WRITE puts the low 16 bits in the queue while it holds fewer than
64; AUX_FLUSH empties it; AUX_SYNC is noted for the next update; AUX_MODE_REQ of mode 1 from modes 1 and 3, or of mode 2 from
modes 1 and 2, is noted. AUX_ENABLE of a disabled channel whose DIV is not 0 and SRC not 3 sets EN and starts the power-up at
KS_COUNT; AUX_DISABLE clears EN and does what auxOff says. PHASE_STEP_WRITE of a step that is not 0, on PLL 0 or 1 with none
pending, is pending. Each is answered OK. Under each condition named exec answers a next state: auxQueueWrite, auxFlush,
auxSync, auxModeReq, auxEnable, auxDisable, phaseStepWrite. -/
def Obligations.AuxAndClockCommandsTakeEffect : Prop :=
  (∀ (acc : Access) (n : Fin 4) (v : Word) (s : State), s.owns acc (0xD011C + 0x40 * n.val) = true →
    (s.ax n.val).queue.length < 64 →
    exec (.auxQueueWrite acc n v) s = .next
      ((showQueue (s.modAux n.val (fun c => { c with queue := c.queue ++ [v.toNat % 65536] })) n.val).answered stOk)) ∧
  (∀ (acc : Access) (n : Fin 4) (s : State), s.owns acc (0xD0104 + 0x40 * n.val) = true → exec (.auxFlush acc n) s = .next
    ((showQueue (s.modAux n.val (fun c => { c with queue := [] })) n.val).answered stOk)) ∧
  (∀ (acc : Access) (n : Fin 4) (s : State), s.owns acc (0xD0104 + 0x40 * n.val) = true → exec (.auxSync acc n) s = .next
    ((s.modAux n.val (fun c => { c with sync := true })).answered stOk)) ∧
  (∀ (acc : Access) (n : Fin 4) (m : Fin 4) (s : State), s.owns acc (0xD0104 + 0x40 * n.val) = true → (m.val = 1 ∧
    (s.auxMode n.val = 1 ∨ s.auxMode n.val = 3)) ∨ (m.val = 2 ∧ (s.auxMode n.val = 1 ∨ s.auxMode n.val = 2)) →
    exec (.auxModeReq acc n m) s = .next ((s.modAux n.val (fun c => { c with req := m.val })).answered stOk)) ∧
  (∀ (acc : Access) (n : Fin 4) (s : State), s.owns acc (0xD0100 + 0x40 * n.val) = true → s.canon = true →
    s.is Reg.AUXn_CFG_EN n.val = false → s.get Reg.AUXn_CFG_DIV n.val ≠ 0 → s.get Reg.AUXn_CFG_SRC n.val ≠ 3 →
    ∃ u, s.Wrote Reg.AUXn_CFG n.val 0 [(Reg.AUXn_CFG_EN, 1), (Reg.AUXn_CFG_DIV, s.get Reg.AUXn_CFG_DIV n.val),
      (Reg.AUXn_CFG_SPAN, s.get Reg.AUXn_CFG_SPAN n.val), (Reg.AUXn_CFG_SRC, s.get Reg.AUXn_CFG_SRC n.val),
      (Reg.AUXn_CFG_LOW_MARK, s.get Reg.AUXn_CFG_LOW_MARK n.val)] u ∧
      exec (.auxEnable acc n) s = .next ((u.modAux n.val (fun c => { c with powered := some s.ks.count })).answered stOk)) ∧
  (∀ (acc : Access) (n : Fin 4) (s : State), s.owns acc (0xD0100 + 0x40 * n.val) = true → s.canon = true →
    s.get Reg.AUXn_CFG_DIV n.val ≠ 0 → s.get Reg.AUXn_CFG_SRC n.val ≠ 3 →
    ∃ u, s.Wrote Reg.AUXn_CFG n.val 0 [(Reg.AUXn_CFG_EN, 0), (Reg.AUXn_CFG_DIV, s.get Reg.AUXn_CFG_DIV n.val),
      (Reg.AUXn_CFG_SPAN, s.get Reg.AUXn_CFG_SPAN n.val), (Reg.AUXn_CFG_SRC, s.get Reg.AUXn_CFG_SRC n.val),
      (Reg.AUXn_CFG_LOW_MARK, s.get Reg.AUXn_CFG_LOW_MARK n.val)] u ∧
      exec (.auxDisable acc n) s = .next ((auxOff n.val u).answered stOk)) ∧
  (∀ (acc : Access) (p : Fin 3) (v : Word) (s : State), s.owns acc (0xE010C + 0x100 * p.val) = true → p.val < 2 →
    v.toNat % 65536 ≠ 0 →
    s.get Reg.CLK_Pp_PHASE_PENDING p.val = 0 →
    exec (.phaseStepWrite acc p v) s = .next ((s.set Reg.CLK_Pp_PHASE_PENDING (v.toNat % 65536) p.val).answered stOk))

/-- Memory and holds under a host (R503 to R513). Each write goes straight through (path open, tenancy present, domains at
L0, nothing waiting). TEN_ALLOC of 1 to 6656 MiB by tenancy 0 or with right 4, within the quota and the pool: the range is
the lowest fit, its handle the lowest free one, it is cleared, and OFFSET, HANDLE and RESULT 1 say so. TEN_ALLOC of another
size is answered ACCESS_ERROR. TEN_FREE of an allocation of the tenancy gives it back. TEN_HOLD of an instance that the
tenancy may write: held by nobody, it is granted while the tenancy holds fewer than 16; held by another, it is taken from a
lower rank on the same terms and refused BUSY otherwise; of one that it may not write, it is refused PERMISSION_ERROR.
TEN_RELEASE of a hold of its own gives it up. TEN_EVICT of a tenancy but 0 waits for the head of the tick. DRAM_WIN_WRITE
takes a window of 0 to 4. CAP_WRITE of each of the four caps sets its fields, is logged, and brings the overruns up to date.
Under each condition named exec answers a next state: tenAlloc, tenFree, tenHold, tenRelease, tenEvict, dramWinWrite,
capWrite. -/
def Obligations.TenancyCommandsTakeEffect : Prop :=
  (∀ (acc : Access) (mib : Fin 8192) (o : Nat) (s : State), s.opens acc 0x110030 = true → s.canon = true → mib.val ≠ 0 →
    mib.val ≤ 6656 → accTen acc = 0 → s.ten.allocs.all (fun a => a.ten ≠ 0 || a.handle ≠ 1) = true →
    s.dramUse 0 + mib.val ≤ (s.quota 0).dramMib → s.lowestFit 0 mib.val (s.tenRec 0).dramMib = some o → ∃ u,
    s.Wrote Reg.TEN_ALLOC_CTRL 0 (accTen acc) [(Reg.TEN_ALLOC_CTRL_HANDLE, s.get Reg.TEN_ALLOC_CTRL_HANDLE 0 0 (accTen acc)),
    (Reg.TEN_ALLOC_CTRL_SIZE_MIB, mib.val)] u ∧ exec (.tenAlloc acc mib) s = .next
    (((((overUpdate (u.allocated 0 1 o mib.val)).set Reg.TEN_ALLOC_STAT_HANDLE 1 0 0 0).set Reg.TEN_ALLOC_STAT_OFFSET_MIB o 0 0 0).set Reg.TEN_ALLOC_STAT_RESULT 1 0 0 0).answered stOk)) ∧
  (∀ (acc : Access) (h : Fin 16) (s : State), s.opens acc 0x110030 = true → s.canon = true → h.val ≠ 0 →
    s.ten.allocs.any (fun a => a.ten = accTen acc && a.handle = h.val) = true → ∃ u,
    s.Wrote Reg.TEN_ALLOC_CTRL 0 (accTen acc) [(Reg.TEN_ALLOC_CTRL_HANDLE, h.val), (Reg.TEN_ALLOC_CTRL_SIZE_MIB,
    s.get Reg.TEN_ALLOC_CTRL_SIZE_MIB 0 0 (accTen acc))] u ∧ exec (.tenFree acc h) s = .next
    (((overUpdate { u with ten := { u.ten with allocs := u.ten.allocs.filter (fun a => !(a.ten = accTen acc && a.handle = h.val)) } }).set Reg.TEN_ALLOC_STAT_RESULT 1 0 0 (accTen acc)).answered stOk)) ∧
  (∀ (acc : Access) (id : Fin 4096) (s : State), s.opens acc 0x110038 = true → s.canon = true →
    s.mayWrite (accTen acc) id.val = true → s.ten.holds.all (fun h => h.2 ≠ id.val) = true →
    (s.ten.holds.filter (fun h => h.1 = accTen acc)).length < 16 → ∃ u, s.Wrote Reg.TEN_HOLD 0 (accTen acc) [(Reg.TEN_HOLD_ID,
    id.val)] u ∧ exec (.tenHold acc id) s = .next
    ((({ u with ten := { u.ten with holds := u.ten.holds ++ [(accTen acc, id.val)] } } : State).holdResult (accTen acc) 1).answered stOk)) ∧
  (∀ (acc : Access) (id : Fin 4096) (s : State), s.opens acc 0x110038 = true → s.canon = true →
    s.ten.holds.contains (accTen acc, id.val) = true → ∃ u, s.Wrote Reg.TEN_HOLD 0 (accTen acc) [(Reg.TEN_HOLD_ID, id.val)] u ∧
    exec (.tenRelease acc id) s = .next
    ((({ u with ten := { u.ten with holds := u.ten.holds.filter (· ≠ (accTen acc, id.val)) } } : State).holdResult (accTen acc) 1).answered stOk)) ∧
  (∀ (acc : Access) (t : Fin 8) (s : State), s.owns acc 0x110004 = true → s.canon = true → t.val ≠ 0 → ∃ u,
    s.Wrote Reg.TEN_CTRL 0 0 [(Reg.TEN_CTRL_TEN, t.val)] u ∧ exec (.tenEvict acc t) s = .next
    (({ u with ten := { u.ten with evict := u.ten.evict.filter (· ≠ t.val) ++ [t.val] } }).answered stOk)) ∧
  (∀ (acc : Access) (v : Word) (s : State), s.opens acc 0x11003C = true → s.canon = true → v.toNat % 8 ≤ 4 →
    ∃ u, s.Wrote Reg.TEN_DRAM_WIN 0 (accTen acc) [(Reg.TEN_DRAM_WIN_BASE_GIB, v.toNat % 8)] u ∧
      exec (.dramWinWrite acc v) s = .next (u.answered stOk)) ∧
  (∀ (acc : Access) (t : Fin 8) (v : Word) (s : State), s.owns acc (0x110108 + 0x40 * t.val) = true → s.canon = true →
    ∃ u, s.Wrote Reg.TEN_Tt_CAP0 t.val 0 [(Reg.TEN_Tt_CAP0_CYCLES, v.toNat % 2 ^ 20)] u ∧
      exec (.capWrite acc t 0 v) s = .next ((overUpdate (u.log 5 t.val [])).answered stOk)) ∧
  (∀ (acc : Access) (mib : Fin 8192) (h o : Nat) (s : State), s.opens acc 0x110030 = true → s.canon = true → mib.val ≠ 0 →
    mib.val ≤ 6656 →
    accTen acc = 0 ∨ bit (s.get Reg.TEN_Tt_RIGHTS_RIGHTS (accTen acc)) 4 = true → 1 ≤ h → h ≤ 15 →
    s.ten.allocs.all (fun a => a.ten ≠ accTen acc || a.handle ≠ h) = true →
    (List.range h).all (fun g => g = 0 || s.ten.allocs.any (fun a => a.ten = accTen acc && a.handle = g)) = true →
    s.dramUse (accTen acc) + mib.val ≤ (s.quota (accTen acc)).dramMib →
    s.lowestFit (accTen acc) mib.val (s.tenRec (accTen acc)).dramMib = some o →
    ∃ u, s.Wrote Reg.TEN_ALLOC_CTRL 0 (accTen acc) [(Reg.TEN_ALLOC_CTRL_HANDLE,
      s.get Reg.TEN_ALLOC_CTRL_HANDLE 0 0 (accTen acc)), (Reg.TEN_ALLOC_CTRL_SIZE_MIB, mib.val)] u ∧
      exec (.tenAlloc acc mib) s = .next
        (((((overUpdate (u.allocated (accTen acc) h o mib.val)).set Reg.TEN_ALLOC_STAT_HANDLE h 0 0 (accTen acc)).set
        Reg.TEN_ALLOC_STAT_OFFSET_MIB o 0 0 (accTen acc)).set Reg.TEN_ALLOC_STAT_RESULT 1 0 0 (accTen acc)).answered stOk)) ∧
  (∀ (acc : Access) (mib : Fin 8192) (s : State), s.opens acc 0x110030 = true → s.canon = true → mib.val = 0 ∨ 6656 < mib.val →
    ∃ u, s.Wrote Reg.TEN_ALLOC_CTRL 0 (accTen acc) [(Reg.TEN_ALLOC_CTRL_HANDLE,
      s.get Reg.TEN_ALLOC_CTRL_HANDLE 0 0 (accTen acc)), (Reg.TEN_ALLOC_CTRL_SIZE_MIB, mib.val)] u ∧
      exec (.tenAlloc acc mib) s = .next (u.answered stAccess)) ∧
  (∀ (acc : Access) (id : Fin 4096) (b : Nat) (s : State), s.opens acc 0x110038 = true → s.canon = true →
    s.mayWrite (accTen acc) id.val = true →
    s.ten.holds.filter (fun h => h.2 = id.val) = [(b, id.val)] → b ≠ accTen acc →
    ∃ u, s.Wrote Reg.TEN_HOLD 0 (accTen acc) [(Reg.TEN_HOLD_ID, id.val)] u ∧
      exec (.tenHold acc id) s = .next
        (if s.rankOf b ≤ s.rankOf (accTen acc) ∨ 16 ≤ (s.ten.holds.filter (fun h => h.1 = accTen acc)).length then
        (u.holdResult (accTen acc) 2).answered stBusy
        else ((({ u with ten := { u.ten with holds := u.ten.holds.filter (fun h => h.2 ≠ id.val) ++ [(accTen acc, id.val)] } } : State).holdResult (accTen acc) 1).answered stOk))) ∧
  (∀ (acc : Access) (id : Fin 4096) (s : State), s.opens acc 0x110038 = true → s.canon = true →
    s.mayWrite (accTen acc) id.val = false →
    ∃ u, s.Wrote Reg.TEN_HOLD 0 (accTen acc) [(Reg.TEN_HOLD_ID, id.val)] u ∧ exec (.tenHold acc id) s = .next
      ((u.holdResult (accTen acc) 3).answered stPerm)) ∧
  (∀ (acc : Access) (t : Fin 8) (v : Word) (s : State), s.owns acc (0x11010C + 0x40 * t.val) = true → s.canon = true →
    ∃ u, s.Wrote Reg.TEN_Tt_CAP1 t.val 0 [(Reg.TEN_Tt_CAP1, v.toNat)] u ∧ exec (.capWrite acc t 1 v) s = .next
      ((overUpdate (u.log 5 t.val [])).answered stOk)) ∧
  (∀ (acc : Access) (t : Fin 8) (v : Word) (s : State), s.owns acc (0x110110 + 0x40 * t.val) = true → s.canon = true →
    ∃ u, s.Wrote Reg.TEN_Tt_CAP2 t.val 0 [(Reg.TEN_Tt_CAP2_DRAM_MIB, v.toNat % 2 ^ 13)] u ∧ exec (.capWrite acc t 2 v) s = .next
      ((overUpdate (u.log 5 t.val [])).answered stOk)) ∧
  (∀ (acc : Access) (t : Fin 8) (v : Word) (s : State), s.owns acc (0x110114 + 0x40 * t.val) = true → s.canon = true →
    ∃ u, s.Wrote Reg.TEN_Tt_CAP3 t.val 0 [(Reg.TEN_Tt_CAP3_SEND_LANES, v.toNat / 65536 % 128), (Reg.TEN_Tt_CAP3_PARAM_WORDS,
      v.toNat % 2 ^ 15)] u ∧ exec (.capWrite acc t 3 v) s = .next ((overUpdate (u.log 5 t.val [])).answered stOk))

/-- Semaphores (R517 to R521, R526). SEM_READ that goes straight through, by a code that may have the semaphore, with no side
effect barred: a free one becomes the reader's and the value is bit 31, bit 29 where it was broken, and the reader's code;
one of another owner is left and the value is its owner. SEM_WAIT: a free one likewise; on one of another owner the read
waits. SEM_BREAK from the debug port on a held one frees it, marks it broken, raises SEM_BROKEN (source 0x84) and is OK.
SEM_WAIT_TIMEOUT ends the first access that waits for it with TIMEOUT and sets SEM_TIMEOUT. SEM_LEASE_EXPIRE with a lease
set, on a semaphore owned by a tenancy, breaks it in the same way and lets waiting accesses go on. WATCHDOG_EXPIRE of a core
drops its own waits but those at the barrier (log entry 47), breaks what it held, sets RESTARTED, raises 0x83 and lets
waiting accesses go on. Under each condition named exec answers a next state: semRead, semWait, semWaitTimeout,
semLeaseExpire, watchdogExpire, semBreak. -/
def Obligations.SemaphoreCommandsTakeEffect : Prop :=
  (∀ (acc : Access) (n : Fin 64) (s : State), s.opens acc (0x110C00 + 0x10 * n.val) = true →
    semAllowed n.val (semCode acc.path (accTen acc)) = true → s.quietRead acc.path = false →
    ((s.sem n.val).owner = 0 → exec (.semRead acc n) s = .next ((s.setSem n.val ⟨semCode acc.path (accTen acc),
      false⟩).answered stOk
      (BitVec.ofNat 32 (2 ^ 31 + b2n (s.sem n.val).broken * 2 ^ 29 + semCode acc.path (accTen acc))))) ∧
    ((s.sem n.val).owner ≠ 0 → (s.sem n.val).owner ≠ semCode acc.path (accTen acc) →
      exec (.semRead acc n) s = .next (s.answered stOk (BitVec.ofNat 32 (s.sem n.val).owner)))) ∧
  (∀ (acc : Access) (n : Fin 64) (s : State), s.opens acc (0x110C04 + 0x10 * n.val) = true →
    semAllowed n.val (semCode acc.path (accTen acc)) = true → s.quietRead acc.path = false →
    ((s.sem n.val).owner = 0 → exec (.semWait acc n) s = .next ((s.setSem n.val ⟨semCode acc.path (accTen acc),
      false⟩).answered stOk
      (BitVec.ofNat 32 (2 ^ 31 + b2n (s.sem n.val).broken * 2 ^ 29 + semCode acc.path (accTen acc))))) ∧
    ((s.sem n.val).owner ≠ 0 → (s.sem n.val).owner ≠ semCode acc.path (accTen acc) →
      exec (.semWait acc n) s = .next { s with host := { s.host with stalled :=
        [⟨⟨.single, acc.path, accTen acc, false, 0, 4, 1, 0x110C04 + 0x10 * n.val, leBytes 4 0, 0, []⟩, .sem n.val⟩] } })) ∧
  (∀ (acc : Access) (n : Fin 64) (s : State), s.opens acc 0x14000C = true → acc.path = .debug → s.canon = true →
    (s.sem n.val).owner ≠ 0 → ∃ u, s.Wrote Reg.DBG_SEM_BREAK 0 0 [(Reg.DBG_SEM_BREAK_SEM, n.val)] u ∧
    exec (.semBreak acc n) s = .next ((((u.setSem n.val ⟨0,
    true⟩).int Reg.TEN_INT_STATUS_SEM_BROKEN).event.raise 0x84 0).answered stOk)) ∧
  (∀ (n : Fin 64) (s : State) (q : Request), q.kind = .single → s.host.stalled = [⟨q, .sem n.val⟩] →
    exec (.semWaitTimeout n) s = .next
      (({ s with host := { s.host with stalled := [] } } : State).int Reg.TEN_INT_STATUS_SEM_TIMEOUT |>.answered stTimeout)) ∧
  (∀ (n : Fin 64) (s : State), 8 ≤ (s.sem n.val).owner → (s.sem n.val).owner ≤ 15 → s.get Reg.TEN_SEM_CFG_LEASE_MS ≠ 0 →
    s.host.stalled = [] →
    exec (.semLeaseExpire n) s = .next (((s.setSem n.val ⟨0, true⟩).int Reg.TEN_INT_STATUS_SEM_BROKEN).event.raise 0x84 0)) ∧
  (∀ (c : Fin 4) (s : State), s.pathOpen (.core c) = true → s.host.stalled = [] →
    (∀ n, n < 64 → (s.sem n).owner ≠ 1 + c.val) →
    exec (.watchdogExpire c) s = .next
      ((s.set Reg.DBG_CORE_STATUS_RESTARTED (s.get Reg.DBG_CORE_STATUS_RESTARTED ||| 2 ^ c.val)).event.raise 0x83 0)) ∧
  (∀ (s : State) (n : Fin 64) (x : Stalled) (l : List Stalled),
    takeFirst (fun x => x.wait = .sem n.val) s.host.stalled = some (x, l) →
    exec (.semWaitTimeout n) s = .next
      (finish x.req stTimeout 0#32 (({ s with host := { s.host with stalled := l } } : State).int Reg.TEN_INT_STATUS_SEM_TIMEOUT))) ∧
  (∀ (s : State) (n : Fin 64), 8 ≤ (s.sem n.val).owner → (s.sem n.val).owner ≤ 15 → s.get Reg.TEN_SEM_CFG_LEASE_MS ≠ 0 →
    exec (.semLeaseExpire n) s = .next (resume (((s.setSem n.val ⟨0,
      true⟩).int Reg.TEN_INT_STATUS_SEM_BROKEN).event.raise 0x84 0))) ∧
  (∀ (s u : State) (c : Fin 4), s.pathOpen (.core c) = true →
    u = ({ s with host := { s.host with stalled := s.host.stalled.filter (fun x => decide (x.wait = .barrier) || !(x.req.path = .core c)) } } : State).forN 64
      (fun t n => if (t.sem n).owner = 1 + c.val then semBreak n t else t) →
    exec (.watchdogExpire c) s = .next
      (resume ((u.set Reg.DBG_CORE_STATUS_RESTARTED (u.get Reg.DBG_CORE_STATUS_RESTARTED ||| 2 ^ c.val)).event.raise 0x83 0))) ∧
  (∀ (s : State) (n : Nat), (s.sem n).owner ≠ 0 → semBreak n s = ((s.setSem n ⟨0,
    true⟩).int Reg.TEN_INT_STATUS_SEM_BROKEN).event.raise 0x84 0)

/-- The debug registers (R523 to R527). Each write goes straight through (path open, tenancy present, domains at L0, nothing
waiting). CORE_HALT and CORE_RESUME from the debug port set and clear HALTED for the cores of MASK, and keep MASK; where
service core 1 runs again, what waited is taken (served), as said of one SPI request. DBG_LOCK from SPI sets LOCK and keeps
the other fields of DBG_CFG. Each is answered OK. Under each condition named exec answers a next state: coreHalt, coreResume,
dbgLock. -/
def Obligations.DebugCommandsTakeEffect : Prop :=
  (∀ (acc : Access) (m : Fin 16) (s : State), s.opens acc 0x140004 = true → acc.path = .debug → s.canon = true → ∃ u,
    s.Wrote Reg.DBG_CORE_CTRL 0 0 [(Reg.DBG_CORE_CTRL_MASK, m.val)] u ∧ exec (.coreHalt acc m) s = .next
    ((u.set Reg.DBG_CORE_STATUS_HALTED (s.get Reg.DBG_CORE_STATUS_HALTED ||| m.val)).answered stOk)) ∧
  (∀ (acc : Access) (m : Fin 16) (s : State), s.opens acc 0x140004 = true → acc.path = .debug → s.canon = true →
    ∃ u, s.Wrote Reg.DBG_CORE_CTRL 0 0 [(Reg.DBG_CORE_CTRL_MASK, m.val)] u ∧ exec (.coreResume acc m) s = .next (served s
      ((u.set Reg.DBG_CORE_STATUS_HALTED (s.get Reg.DBG_CORE_STATUS_HALTED - (s.get Reg.DBG_CORE_STATUS_HALTED &&& m.val))).answered stOk))) ∧
  (∀ (acc : Access) (s : State), s.opens acc 0x140000 = true → acc.path = .spi → s.canon = true →
    ∃ u, s.Wrote Reg.DBG_CFG 0 0 [(Reg.DBG_CFG_LOCK, 1), (Reg.DBG_CFG_QUIET, s.get Reg.DBG_CFG_QUIET),
      (Reg.DBG_CFG_INTRUSIVE, s.get Reg.DBG_CFG_INTRUSIVE)] u ∧ exec (.dbgLock acc) s = .next (u.answered stOk)) ∧
  (∀ (s b : State) (op count width addr : Nat) (data : List Byte) (ok : Bool), s.pathOpen .spi = true →
    b.pathOpen .spi = false →
    s.host.waiting = [.spi op count width addr data ok] →
      served b s = spiServe op count width addr data ok { s with host := { s.host with waiting := [] } })

/-- The fault collector under a host (R529, R533, R541, R544, R550 to R554). Each write goes straight through (path open,
tenancy present, domains at L0, nothing waiting). FLT_CLASS_WRITE for a source of the table but 0 to 2 is kept for the next
tick. FLT_CLEAR_HALT, FLT_CLEAR_LOAD and FLT_CLEAR_RESTART with no clear waiting are kept with their kinds, mask and tick.
FLT_CLEAR_EFFECT does nothing without a clear or before its next tick; after CAPSTONE it only ends with RESULT 3; for a HALT
clear with nothing active and no raise newer than it, every kept raise goes, RESULT is 1 and HALT_LEFT 0. FLT_CNT_CLR with no
clear waiting is kept likewise; at the next tick, alone and without CAPSTONE, every COUNT is the raise counted in that tick
or 0, and LOST 0. HIST_POP of a history not frozen gives the first word of its first entry, which moves to the path's buffer.
INJ_ARM, enabled, none pending, no override and no CAPSTONE: of a link target 4 to 7, or of a memory target 0 to 3 with a
MODE and an address that exists, it is pending; of another target, of MODE 0 or of another address STATE is 4, ACCESS_ERROR.
Disabled it is PERMISSION_ERROR, otherwise barred BUSY. Where no other answer is named it is OK. Where a clause leaves the
state as it is because a condition of the row does not hold, that is the model's choice (log entry 1). Under each condition
named exec answers a next state: fltClassWrite, fltClearHalt, fltClearLoad, fltClearRestart, fltCntClr, fltClearEffect,
histPop, injArm. -/
def Obligations.FaultCommandsTakeEffect : Prop :=
  (∀ (acc : Access) (n : Fin 256) (c : Fin 4) (s : State), s.owns acc (0x120400 + 4 * n.val) = true →
    (sourceRow n.val).isSome = true → 3 ≤ n.val →
    exec (.fltClassWrite acc n c) s = .next
      (({ s with flt := { s.flt with clsPend := s.flt.clsPend ++ [(n.val, c.val)] } } : State).answered stOk)) ∧
  (∀ (acc : Access) (s : State), s.owns acc 0x120008 = true → s.flt.clear = none →
    exec (.fltClearHalt acc) s = .next
      (({ s with flt := { s.flt with clear := some ⟨true, false, false, false, 0, s.ks.count⟩ } } : State).answered stOk)) ∧
  (∀ (acc : Access) (m : Fin 256) (s : State), s.owns acc 0x120008 = true → s.flt.clear = none →
    exec (.fltClearLoad acc m) s = .next
      (({ s with flt := { s.flt with clear := some ⟨false, true, false, false, m.val, s.ks.count⟩ } } : State).answered stOk)) ∧
  (∀ (acc : Access) (h l : Bool) (m : Fin 256) (s : State), s.owns acc 0x120008 = true → s.flt.clear = none → (h || l) = true →
    exec (.fltClearRestart acc h l m) s = .next
      (({ s with flt := { s.flt with clear := some ⟨h, l, true, false, if l then m.val else 0, s.ks.count⟩ } } : State).answered stOk)) ∧
  (∀ (acc : Access) (s : State), s.owns acc 0x120008 = true → s.flt.clear = none →
    exec (.fltCntClr acc) s = .next
      (({ s with flt := { s.flt with clear := some ⟨false, false, false, true, 0, s.ks.count⟩ } } : State).answered stOk)) ∧
  (∀ (acc : Access) (e : HistEntry) (l : List HistEntry) (s : State), s.owns acc 0x120030 = true →
    s.quietRead acc.path = false →
    s.flt.frozen = false → s.flt.hist = e :: l → exec (.histPop acc) s = .next (({ s with flt := { s.flt with
      hist := l, bufs := setNth s.flt.bufs (pathBuf acc.path) e.words } } : State).answered stOk (nth e.words 0 0#32))) ∧
  (∀ s : State, s.flt.clear = none → exec .fltClearEffect s = .next s) ∧
  (∀ (s : State) (c : ClearReq), s.flt.clear = some c → s.ks.count ≤ c.tick → exec .fltClearEffect s = .next s) ∧
  (∀ (s : State) (c : ClearReq), s.flt.clear = some c → c.tick < s.ks.count → s.flt.capstone = true →
    exec .fltClearEffect s = .next (({ s with flt := { s.flt with clear := none } } : State).set Reg.FLT_CLEAR_STAT_RESULT 3)) ∧
  (∀ (s : State) (c : ClearReq), s.canon = true → s.flt.clear = some c → c.tick < s.ks.count → s.flt.capstone = false →
    c.halt = true → c.load = false → c.restart = false → c.cnt = false →
    s.flt.active = [] → s.flt.loads = [] → (∀ r, r ∈ s.flt.raises → r.tick ≤ c.tick) →
    Runs (exec .fltClearEffect s) (fun t => t.flt.raises = [] ∧ t.flt.clear = none ∧ t.flt.firstOpen = true ∧
      t.get Reg.FLT_CLEAR_STAT_RESULT = 1 ∧
      t.get Reg.FLT_CLEAR_STAT_HALT_LEFT = 0)) ∧
  (∀ (acc : Access) (g : Fin 16) (m : Fin 4) (k : Fin 32) (s : State), s.owns acc 0x120040 = true → s.canon = true →
    s.is Reg.FLT_CFG_INJ_EN = true → s.get Reg.FLT_INJ_STATE ≠ 1 → s.is Reg.MIX_OVR_STATUS_EFFECTIVE = false →
    s.flt.capstone = false → 4 ≤ g.val → g.val < 8 → ∃ u, s.Wrote Reg.FLT_INJ 0 0 [(Reg.FLT_INJ_TARGET, g.val),
    (Reg.FLT_INJ_MODE, m.val), (Reg.FLT_INJ_UNIT, k.val)] u ∧ exec (.injArm acc g m k) s = .next
    ((({ u with flt := { u.flt with inj := some ⟨g.val, m.val, k.val, u.injKey⟩ } } : State).set Reg.FLT_INJ_STATE 1).answered stOk)) ∧
  (∀ (acc : Access) (g : Fin 16) (m : Fin 4) (k : Fin 32) (s : State), s.owns acc 0x120040 = true → s.canon = true →
    s.is Reg.FLT_CFG_INJ_EN = true → s.get Reg.FLT_INJ_STATE ≠ 1 → s.is Reg.MIX_OVR_STATUS_EFFECTIVE = false →
      s.flt.capstone = false → g.val < 4 → m.val ≠ 0 →
    ∃ u, s.Wrote Reg.FLT_INJ 0 0 [(Reg.FLT_INJ_TARGET, g.val), (Reg.FLT_INJ_MODE, m.val), (Reg.FLT_INJ_UNIT, k.val)] u ∧
      exec (.injArm acc g m k) s = .next (if u.injAddrOk g.val then
      (({ u with flt := { u.flt with inj := some ⟨g.val, m.val, k.val, u.injKey⟩ } } : State).set Reg.FLT_INJ_STATE 1).answered stOk
      else (u.set Reg.FLT_INJ_STATE 4).answered stAccess)) ∧
  (∀ (acc : Access) (g : Fin 16) (m : Fin 4) (k : Fin 32) (s : State), s.owns acc 0x120040 = true → s.canon = true →
    s.is Reg.FLT_CFG_INJ_EN = true → s.get Reg.FLT_INJ_STATE ≠ 1 → s.is Reg.MIX_OVR_STATUS_EFFECTIVE = false →
      s.flt.capstone = false → 8 ≤ g.val ∨ (g.val < 4 ∧ m.val = 0) →
    ∃ u, s.Wrote Reg.FLT_INJ 0 0 [(Reg.FLT_INJ_TARGET, g.val), (Reg.FLT_INJ_MODE, m.val), (Reg.FLT_INJ_UNIT, k.val)] u ∧
      exec (.injArm acc g m k) s = .next ((u.set Reg.FLT_INJ_STATE 4).answered stAccess)) ∧
  (∀ (acc : Access) (g : Fin 16) (m : Fin 4) (k : Fin 32) (s : State), s.owns acc 0x120040 = true → s.canon = true →
    s.is Reg.FLT_CFG_INJ_EN = false →
    ∃ u, s.Wrote Reg.FLT_INJ 0 0 [(Reg.FLT_INJ_TARGET, g.val), (Reg.FLT_INJ_MODE, m.val), (Reg.FLT_INJ_UNIT, k.val)] u ∧
      exec (.injArm acc g m k) s = .next (u.answered stPerm)) ∧
  (∀ (acc : Access) (g : Fin 16) (m : Fin 4) (k : Fin 32) (s : State), s.owns acc 0x120040 = true → s.canon = true →
    s.is Reg.FLT_CFG_INJ_EN = true →
      s.get Reg.FLT_INJ_STATE = 1 ∨ s.is Reg.MIX_OVR_STATUS_EFFECTIVE = true ∨ s.flt.capstone = true →
    ∃ u, s.Wrote Reg.FLT_INJ 0 0 [(Reg.FLT_INJ_TARGET, g.val), (Reg.FLT_INJ_MODE, m.val), (Reg.FLT_INJ_UNIT, k.val)] u ∧
      exec (.injArm acc g m k) s = .next (u.answered stBusy)) ∧
  (∀ (s : State) (c : ClearReq), s.flt.clear = some c → c.tick < s.ks.count → s.flt.capstone = false → c.halt = false →
    c.load = false → c.cnt = true → s.canon = true →
    Runs (exec .fltClearEffect s) (fun t => t.flt.clear = none ∧ t.get Reg.FLT_HIST_STAT_LOST = 0 ∧
      ∀ n, n < 256 → t.get Reg.FLT_SRCn_COUNT n = b2n (s.flt.counted.contains n)))

/-- Power domains under a host (R555, R557, R560, R566). Each write goes straight through (path open, tenancy present,
domains at L0, nothing waiting). DOMAIN_TARGET_WRITE: a level that the floor of the domain allows is taken, IDLE_US kept, OK;
of a domain with a floor, a level of 2 or 3 changes nothing but sets FLOOR and is BUSY. DOM_SLEEP of an awake node that is
neither follower nor coordinator, with no image armed or rebuilding and no override in effect, is planned for this tick in
the mode given, OK. DOM_WAKE is what wakeBy 5 7 does, OK. Under each condition named exec answers a next state:
domainTargetWrite, domSleep, domWake. -/
def Obligations.DomainCommandsTakeEffect : Prop :=
  (∀ (acc : Access) (d : Fin 60) (g : Fin 4) (s : State), s.owns acc (0x130100 + 0x20 * d.val) = true → s.canon = true →
    s.floored d.val = false ∨ g.val < 2 →
    ∃ u, s.Wrote Reg.DOM_Dnn_CFG d.val 0 [(Reg.DOM_Dnn_CFG_TARGET, g.val), (Reg.DOM_Dnn_CFG_IDLE_US,
      s.get Reg.DOM_Dnn_CFG_IDLE_US d.val)] u ∧ exec (.domainTargetWrite acc d g) s = .next (u.answered stOk)) ∧
  (∀ (acc : Access) (b : Bool) (s : State), s.owns acc 0x130004 = true → s.canon = true → s.ctl ≠ 4 → s.ctl ≠ 5 →
    s.asleep = false → s.stage ≠ 3 → s.stage ≠ 4 → s.is Reg.MIX_OVR_STATUS_EFFECTIVE = false → ∃ u,
    s.Wrote Reg.DOM_CTRL 0 0 [(Reg.DOM_CTRL_MODE, b2n b)] u ∧ exec (.domSleep acc b) s = .next
    (({ u with dom := { u.dom with sleepAt := some (3 + b2n b, s.ks.count) } }).answered stOk)) ∧
  (∀ (acc : Access) (s : State), s.owns acc 0x130004 = true → s.canon = true → ∃ u,
    s.Wrote Reg.DOM_CTRL 0 0 [(Reg.DOM_CTRL_MODE, s.get Reg.DOM_CTRL_MODE)] u ∧ exec (.domWake acc) s = .next
    ((wakeBy 5 7 true true false u).answered stOk)) ∧
  (∀ (acc : Access) (d : Fin 60) (g : Fin 4) (s : State), s.owns acc (0x130100 + 0x20 * d.val) = true → s.floored d.val = true →
    2 ≤ g.val →
    exec (.domainTargetWrite acc d g) s = .next ((s.int Reg.DOM_INT_STATUS_FLOOR).answered stBusy))

/-- The supply, temperature and FAULT_N events of the logic side (R532, R535, R538, R539). VL5_LOW (source 3) and LOGIC_HOT
(source 4), not yet ACTIVE: the source becomes ACTIVE and is raised, its own reaction is on, so that SAFE_MASK names all
eight channels (ownMask 255), and every analog output is held; while ACTIVE already they change nothing. VL5_RECOVER and
LOGIC_COOL end the condition and its own reaction. EXT_FAULT, the node not driving and source 5 not ACTIVE: the wire is low,
a change not seen before is noted with FN_CHG, and with FN_WATCH source 5 becomes ACTIVE. FAULT_N_WIRE_RELEASED, the node not
driving: the wire is high, a change is noted likewise, and an ACTIVE source 5 ends. Where a clause leaves the state as it is
because a condition of the row does not hold, that is the model's choice (log entry 1). Under each condition named exec
answers a next state: vl5Low, vl5Recover, logicHot, logicCool, extFault, faultNWireReleased. -/
def Obligations.LogicSupplyEventsTakeEffect : Prop :=
  (∀ (s : State), s.isActive 3 = false → exec .vl5Low s = .next
    (((fun u : State => { u with flt := { u.flt with ownVl5 := true } }) (s.event.raiseActive 3 0)).holdAnalog 15)) ∧
  (∀ (s : State), s.isActive 4 = false → exec .logicHot s = .next
    (((fun u : State => { u with flt := { u.flt with ownHot := true } }) (s.event.raiseActive 4 0)).holdAnalog 15)) ∧
  (∀ s : State, exec .vl5Recover s = .next ({ s.endActive 3 0 with flt := { (s.endActive 3 0).flt with ownVl5 := false } })) ∧
  (∀ s : State, exec .logicCool s = .next ({ s.endActive 4 0 with flt := { (s.endActive 4 0).flt with ownHot := false } })) ∧
  (∀ (s : State), s.flt.fnSeen = true → s.is Reg.FLT_CFG_FN_WATCH = true → s.fnDrive = false → s.isActive 5 = false →
    exec .extFault s = .next (({ s.event with flt := { s.event.flt with wireLow := true } } : State).raiseActive 5 0)) ∧
  (∀ (s : State), s.flt.fnSeen = false → s.fnDrive = false → s.isActive 5 = true → exec .faultNWireReleased s = .next
    (({ s.event with flt := { s.event.flt with wireLow := false } } : State).endActive 5 0)) ∧
  (∀ s : State, s.isActive 3 = true → exec .vl5Low s = .next s) ∧
  (∀ s : State, s.isActive 4 = true → exec .logicHot s = .next s) ∧
  (∀ s : State, s.flt.fnSeen = false → s.fnDrive = false → s.isActive 5 = false → exec .extFault s = .next
    ((if s.is Reg.FLT_CFG_FN_WATCH then fun u : State => u.raiseActive 5 0 else id)
    (({ s.event with flt := { s.event.flt with wireLow := true, fnSeen := true } } : State).int Reg.FLT_INT_STATUS_FN_CHG))) ∧
  (∀ s : State, s.flt.fnSeen = true → s.fnDrive = false → exec .faultNWireReleased s = .next
    ((if s.isActive 5 then fun u : State => u.endActive 5 0 else id)
    (({ s.event with flt := { s.event.flt with wireLow := false, fnSeen := false } } : State).int Reg.FLT_INT_STATUS_FN_CHG))) ∧
  (∀ s : State, s.isActive 3 = false → Runs (exec .vl5Low s) (fun t => t.isActive 3 = true ∧ t.ownMask = 255)) ∧
  (∀ s : State, s.isActive 4 = false → Runs (exec .logicHot s) (fun t => t.isActive 4 = true ∧ t.ownMask = 255))

/-- The supplies and temperatures of the power stage (R15, R368, R532, R576, R578, R583, R611). VDRV_RELEASE of a die that is
off starts it. VDRV_REMOVED leaves every channel OFF and at its reset data, nothing held, no valid DN frame, SAFE 0, and the
queue. VBUS_START and VBUS_REMOVED with the die on switch VBUS and show it in the converters; removal ends what CAPSTONE
holds. With the die on, VBUS_ABS not held yet (source 1, cause 10), VDRV_LOW not yet low (0x2B, cause 5), DIE_HOT of a leg
pair not yet hot (0x2C, cause 6, its two channels) and ISO_BARRIER (source 0, cause 1, at the node with HV 0 and a free
cycle, or by the high side) hold the channels named in the safe state with that cause and report their source. VDRV_RECOVER
and POWER_DIE_COOL of a condition that stands end it, report the end and show what is then safe. Under each condition named
exec answers a next state: vdrvRelease, vdrvRemoved, vbusRemoved, vbusStart, vbusAbs, vdrvLow, dieHot, isoBarrier,
vdrvRecover, powerDieCool. -/
def Obligations.PowerSupplyEventsTakeEffect : Prop :=
  (∀ (s : State), s.pwr.on = false → exec .vdrvRelease s = .next ({ s with pwr := { s.pwr with on := true } })) ∧
  (∀ s : State, s.canon = true → ∃ t, exec .vdrvRemoved s = .next t ∧ t.pwr.on = false ∧ t.pwr.held = [] ∧
    t.pwr.dnSeen = false ∧
    (∀ n, n < 8 → t.ch n = 0 ∧ t.pc n = PwrCh.reset) ∧ t.get Reg.PWR_STATUS_SAFE = 0 ∧ t.pending = s.pending) ∧
  (∀ s : State, exec .vbusStart s = .next
    (({ s with pwr := { s.pwr with vbusOn := true } } : State).forN 4 (fun u k => u.showBst k))) ∧
  (∀ (s : State), s.pwr.on = true → exec .vbusRemoved s = .next
    ((clearHeld ({ s with pwr := { s.pwr with vbusOn := false } } : State)).forN 4 (fun u k => u.showBst k))) ∧
  (∀ (s : State), s.pwr.on = true → s.pwr.held.contains 1 = false → exec .vbusAbs s = .next
    ((({ s with pwr := { s.pwr with held := s.pwr.held ++ [1] } } : State).hvFault 1 0 0).hvSafe 255 10)) ∧
  (∀ (s : State), s.pwr.on = true → s.pwr.vdrvLow = false → exec .vdrvLow s = .next
    ((({ s with pwr := { s.pwr with vdrvLow := true } } : State).hvFault 0x2B 0 1).hvSafe 255 5)) ∧
  (∀ (s : State), s.pwr.vdrvLow = true → exec .vdrvRecover s = .next
    ((({ s with pwr := { s.pwr with vdrvLow := false } } : State).hvFault 0x2B 0 2).showSafe)) ∧
  (∀ (s : State) (k : Fin 4), s.pwr.on = true → nth s.pwr.hot k.val false = false → exec (.dieHot k) s = .next
    ((({ s with pwr := { s.pwr with hot := setNth s.pwr.hot k.val true } } : State).hvFault 0x2C k.val 1).hvSafe (3 * 4 ^ k.val) 6)) ∧
  (∀ (s : State) (k : Fin 4), nth s.pwr.hot k.val false = true → exec (.powerDieCool k) s = .next
    ((({ s with pwr := { s.pwr with hot := setNth s.pwr.hot k.val false } } : State).hvFault 0x2C k.val 2).showSafe)) ∧
  (∀ s : State, s.pwr.on = true → s.pwr.held.contains 0 = false → exec .isoBarrier s = .next
    (let u : State := { s with free := s.free + 1 }
     let hold (v : State) : State := { v with pwr := { v.pwr with held := v.pwr.held ++ [0] } }
     if Config.isoSide s.free then ((hold u).hvFault 0 0 0).hvSafe 255 1 else (hold (u.event.raise 0 0)).hvSafe 255 1))

/-- The barrier link (R13 to R19, R353, R535, R562). With the die on and the link not parked, no injection: the first
DN_FRAME of a tick that is good is accepted (dnAccept) and a bad one after a valid one is counted (dnBad). DN_LINK_LOST after
a valid frame, SAFE_REQ clear: 0x21 becomes ACTIVE, every channel is held with cause 7, and the clock recovered from it is
lost (recLost). LOGIC_COLLAPSE while SAFE_REQ is asserted and no valid frame stands: source 2, held, every channel safe with
cause 8. UP_FRAME good, with nothing pending: the input limits are counted (limitSense), the frame is noted, and its sense
data and the revision of the die are taken. UP_LINK_LOST: source 0x23 becomes ACTIVE with its own reaction and the frames
count as lost. SAFE_REQ_ASSERT sets SAFE_REQ and holds at once the channels of the last accepted mask, or all of them after a
frame that was not, with cause 1. SAFE_STATE_OFF and SAFE_STATE_SLOW of a channel whose legs are low end the decay; SLOW also
reports 0x2D. LINK_RESYNC of a parked link with D55 at L0 starts both directions afresh and lets waiting accesses go on.
Under each condition named exec answers a next state: dnFrame, dnLinkLost, logicCollapse, upFrame, upLinkLost, safeReqAssert,
safeStateOff, safeStateSlow, linkResync. -/
def Obligations.BarrierLinkEventsTakeEffect : Prop :=
  (∀ (s : State), s.pwr.dnDone = false → s.dom.parked = false → s.flt.inj = none → s.pwr.on = true →
    exec (.dnFrame true) s = .next (dnAccept ({ s with pwr := { s.pwr with dnDone := true } } : State).event)) ∧
  (∀ (s : State), s.pwr.dnDone = false → s.dom.parked = false → s.flt.inj = none → s.pwr.on = true → s.pwr.dnSeen = true →
    exec (.dnFrame false) s = .next (dnBad false ({ s with pwr := { s.pwr with dnDone := true } } : State).event)) ∧
  (∀ (s : State), s.pwr.on = true → s.pwr.dnSeen = true → s.dom.parked = false → s.pwr.safeReq = false → s.pwr.dnLost = false →
    exec .dnLinkLost s = .next
    (recLost ((({ s with pwr := { s.pwr with dnLost := true, dnOk := false, fresh := false } } : State).hvFault 0x21 0 1).hvSafe 255 7))) ∧
  (∀ (s : State), s.pwr.on = true → s.pwr.dnSeen = true → s.dom.parked = false → s.pwr.safeReq = true → s.pwr.dnOk = false →
    s.pwr.held.contains 2 = false → exec .logicCollapse s = .next
    ((({ s with pwr := { s.pwr with dnLost := true, held := s.pwr.held ++ [2] } } : State).hvFault 2 0 0).hvSafe 255 8)) ∧
  (∀ (s : State) (x : Sense) (v : State), s.pwr.on = true → s.dom.parked = false → s.pwr.upDone = false →
    v = limitSense x.iin ({ s with pwr := { s.pwr with upDone := true } } : State).event → v.flt.inj = none →
    v.pwr.faults = [] → v.pwr.results = [] → v.flt.ownUp = false → exec (.upFrame true x) s = .next
    (resume (upSense (some x) (({ v with pwr := { v.pwr with upSeen := true, fresh := v.pwr.fresh && !v.pwr.dnSeen, upGood := v.pwr.upGood + 1, upBad := 0 } } : State).setWord Reg.IDENT_HVID 0x100B0#32)))) ∧
  (∀ (s : State), s.pwr.upSeen = true → s.pwr.fresh = false → s.dom.parked = false → s.flt.ownUp = false →
    exec .upLinkLost s = .next
    ((fun u : State => { u with flt := { u.flt with ownUp := true }, pwr := { u.pwr with upBad := max 4 s.pwr.upBad, upGood := 0 } }) (s.event.raiseActive 0x23 0))) ∧
  (∀ (s : State), s.pwr.on = true → exec .safeReqAssert s = .next
    ((({ s with pwr := { s.pwr with safeReq := true } } : State).setB Reg.PWR_STATUS_SAFE_REQ true).hvSafe (if s.pwr.dnOk then s.pwr.dnMask else 255) 1)) ∧
  (∀ (s : State) (n : Fin 8), (s.pc n.val).low = true → exec (.safeStateOff n) s = .next
    ((s.modPc n.val (fun c => { c with low := false })).showSafe)) ∧
  (∀ (s : State) (n : Fin 8), (s.pc n.val).low = true → exec (.safeStateSlow n) s = .next
    (((s.modPc n.val (fun c => { c with low := false })).showSafe).hvFault 0x2D n.val 0)) ∧
  (∀ (s : State), s.dom.parked = true → (nth s.dom.doms 55 ⟨0, false, false⟩).state = 0 → exec .linkResync s = .next
    (resume { s with dom := { s.dom with parked := false }, pwr := { s.pwr with dnSeen := false, upSeen := false, fresh := s.pwr.on, dnOk := false, dnBad := 0, upBad := 0, upGood := 0, upDone := false, dnDone := false } }))

/-- Channels of the power stage (R338, R346, R349, R352, R363, R364, R368). RELEASE_DUE of a due release of an ARMED channel:
READY, its edge is set for this tick; not READY and timed, the action ends NOT_READY. RELEASE_EDGE two ticks after the edge:
LIVE, READY 0, the action DONE. MUTE_DUE of a due mute of a LIVE channel: MUTING over MUTE_TICKS. MUTE_END two ticks after
those: HELD, DONE, the loops at 0. LOAD_SHORT of a channel ARMED or beyond, die on: 0x26 and the safe state with cause 2.
PHASE_LOSS, die on, channel not OFF: a first phase of the pair is noted as out, shown, PHASE set and 0x24 reported; one
already out changes nothing. MODULATOR_SAMPLE: of an OFF or HELD channel it changes nothing; past the last tick of a mute the
modulator is 0; of a LIVE channel below its current limit and in range, the loops take the values of R338 from the
interpolated sample, the measured voltage and current and the seven coefficients, and m is their sum over the rail within
0.97. Where a clause leaves the state as it is because a condition of the row does not hold, that is the model's choice (log
entry 1). Under each condition named exec answers a next state: releaseDue, releaseEdge, muteDue, muteEnd, modulatorSample,
loadShort, phaseLoss. -/
def Obligations.ChannelEventsTakeEffect : Prop :=
  (∀ (s : State) (n : Fin 8), (s.pc n.val).act = 1 → (s.pc n.val).target ≤ s.ks.count → s.ch n.val = 2 →
    s.is Reg.PWR_CHn_STATE_READY n.val = true → exec (.releaseDue n) s = .next
    ((s.modPc n.val (fun c => { c with act := 0, edge := some s.ks.count })))) ∧
  (∀ (s : State) (n : Fin 8), (s.pc n.val).act = 1 → (s.pc n.val).target ≤ s.ks.count → s.ch n.val = 2 →
    s.is Reg.PWR_CHn_STATE_READY n.val = false → (s.pc n.val).timed = true → exec (.releaseDue n) s = .next
    ((s.modPc n.val (fun c => { c with act := 0 })).setAction n.val 5)) ∧
  (∀ (s : State) (n : Fin 8) (t : Nat), (s.pc n.val).edge = some t → t + 2 ≤ s.ks.count → s.ch n.val = 2 →
    exec (.releaseEdge n) s = .next
    ((((s.modPc n.val (fun c => { c with edge := none })).setB Reg.PWR_CHn_STATE_READY false n.val).setAction n.val 3).setCh n.val 3)) ∧
  (∀ (s : State) (n : Fin 8), (s.pc n.val).act = 2 → (s.pc n.val).target ≤ s.ks.count → s.ch n.val = 3 →
    exec (.muteDue n) s = .next
    (((s.modPc n.val (fun c => { c with act := 0, edge := none, muteT := s.ks.count, muteM := s.get Reg.PWR_CHn_CFG_MUTE_TICKS n.val })).setAction n.val 2).setCh n.val 4)) ∧
  (∀ (s : State) (n : Fin 8), s.ch n.val = 4 → (s.pc n.val).muteT + (s.pc n.val).muteM + 2 ≤ s.ks.count →
    exec (.muteEnd n) s = .next
    (((s.modPc n.val (fun c => { c with ls := 0, le1 := 0, le2 := 0, lq1 := 0, lq2 := 0, m := 0 })).setAction n.val 3).setCh n.val 1)) ∧
  (∀ (s : State) (n : Fin 8), s.pwr.on = true → 2 ≤ s.ch n.val → exec (.loadShort n) s = .next
    ((s.hvFault 0x26 n.val 0).hvSafe (2 ^ n.val) 2)) ∧
  (∀ (s : State) (n : Fin 8) (ph : Fin 4), s.pwr.on = true → s.ch n.val ≠ 0 → (s.pc n.val).out = 0 →
    exec (.phaseLoss n ph) s = .next
    (((((s.modPc n.val (fun c => { c with out := 2 ^ (3 - ph.val) })).showPhases n.val).int Reg.PWR_INT_STATUS_PHASE).hvFault 0x24 n.val 0))) ∧
  (∀ (s : State) (n : Fin 8) (vA vB i : Int) (rail : DriveSense), s.ch n.val < 2 →
    exec (.modulatorSample n vA vB i rail) s = .next (s)) ∧
  (∀ (s : State) (n : Fin 8) (vA vB i : Int) (rail : DriveSense), s.ch n.val = 4 →
    (s.pc n.val).muteT + (s.pc n.val).muteM + 1 ≤ s.ks.count → rail.rail ≠ 0 →
    s.coefsFinite n.val = true → (s.pc n.val).sub < tickSamples s.rate →
    exec (.modulatorSample n vA vB i rail) s = .next (s.modPc n.val (fun c => { c with m := 0, sub := c.sub + 1 }))) ∧
  (∀ (s : State) (n : Fin 8) (vA vB i : Int) (rail : DriveSense) (c : PwrCh) (r e q s1 u : Rat), s.ch n.val = 3 →
    0 < rail.rail →
    (s.pc n.val).sub < tickSamples s.rate → s.coefsFinite n.val = true → c = s.pc n.val →
    r = ((s.get Reg.PWR_CHn_CFG_VFS n.val : Nat) : Rat) / 2 * interpolate s.rate c.hist c.sub →
      e = r - ((vA - vB : Int) : Rat) / 1000 →
    s1 = clampRat ((rail.rail : Rat) / 1000) (c.ls + s.coef n.val 0 * e) →
    q = s.coef n.val 1 * e + s.coef n.val 2 * c.le1 +
      s.coef n.val 3 * c.le2 - s.coef n.val 4 * c.lq1 - s.coef n.val 5 * c.lq2 →
    u = r + s1 + q - s.coef n.val 6 * ((i : Rat) / 1000) →
    ratAbs (i : Rat) < s.ilim n.val → ratAbs (u / ((rail.rail : Rat) / 1000)) ≤ 97 / 100 →
    exec (.modulatorSample n vA vB i rail) s = .next (s.modPc n.val (fun c => { c with
      ls := s1, le1 := e, le2 := c.le1, lq1 := q, lq2 := c.lq1, m := clampRat (97 / 100) (u / ((rail.rail : Rat) / 1000)),
        sub := c.sub + 1 }))) ∧
  (∀ (s : State) (n : Fin 8) (ph : Fin 4), s.pwr.on = true → s.ch n.val ≠ 0 → (s.pc n.val).out &&& 2 ^ (3 - ph.val) ≠ 0 →
    exec (.phaseLoss n ph) s = .next s)

/-- Boost converters and the switching clock (R359 to R363, R374, R375, R603), the die on. BST_PHASE_LOSS: the first phase is
noted, shown and reported as 0x30; a second one stops the converter with 0x31 (bstStop). RAIL_OV of a converter that runs
stops it, reports 0x32 and holds its two channels safe with cause 9. RAIL_LOW counts and reports 0x33.
THERMAL_DERATING_UPDATE: at 125 °C or more down to 0.3 at once, between 85 and 125 °C down to the line of R603 at once, at 85
°C or less back to 1 once 1 °C below where it stood. SW_RAMP_END of a ramp ends at its target with SW_DONE. CLK_FAILOVER from
a recovered clock to a valid local one: SOURCE 1, counted, 0x29. CLK_RETURN with no ramp running: both sources valid, SOURCE
0, with a ramp to the frequency of REC where the row says so, else that frequency at once (log entry 16). CLK_LOST: no
source, 0x2A, every channel safe with cause 4. Under each condition named exec answers a next state: swRampEnd, clkFailover,
clkReturn, clkLost, bstPhaseLoss, railOv, railLow, thermalDeratingUpdate. -/
def Obligations.ConverterEventsTakeEffect : Prop :=
  (∀ (s : State) (k : Fin 4) (ph : Fin 3), s.pwr.on = true → (s.bst' k.val).out = 0 → exec (.bstPhaseLoss k ph) s = .next
    ((({ s with pwr := { s.pwr with bsts := modNth s.pwr.bsts k.val (fun x => { x with out := 2 ^ (2 - ph.val) }) } } : State).showBst k.val).hvFault 0x30 k.val 0)) ∧
  (∀ (s : State) (k : Fin 4), s.pwr.on = true → (s.bst' k.val).stopped = false → exec (.railOv k) s = .next
    (((({ s with pwr := { s.pwr with bsts := modNth s.pwr.bsts k.val (fun b => { b with stopped := true }) } } : State).showBst k.val).hvFault 0x32 k.val 0).hvSafe (3 * 4 ^ k.val) 9)) ∧
  (∀ (s : State) (k : Fin 4), s.pwr.on = true → exec (.railLow k) s = .next
    ((s.inc Reg.PWR_BSTk_CNT_RAIL_LOW k.val).hvFault 0x33 k.val 0)) ∧
  (∀ (s : State) (tc : Int), s.pwr.on = true → tc ≤ 850 → s.pwr.derate < 1 → tc ≤ s.pwr.derateAt - 10 →
    exec (.thermalDeratingUpdate tc) s = .next ({ s with pwr := { s.pwr with derate := 1, derateAt := tc } })) ∧
  (∀ (s : State) (tc : Int), s.pwr.on = true → 1250 ≤ tc → 3 / 10 < s.pwr.derate → exec (.thermalDeratingUpdate tc) s = .next
    ({ s with pwr := { s.pwr with derate := 3 / 10, derateAt := tc } })) ∧
  (∀ (s : State) (hz f t : Nat), s.pwr.swRamp = some (hz, f, t) → exec .swRampEnd s = .next
    (((({ s with pwr := { s.pwr with swRamp := none } } : State).set Reg.PWR_SW_FREQ_HZ hz).setB Reg.PWR_SW_STATUS_RAMPING false).int Reg.PWR_INT_STATUS_SW_DONE)) ∧
  (∀ (s : State), s.pwr.on = true → s.get Reg.PWR_SW_STATUS_SOURCE = 0 → s.is Reg.PWR_SW_STATUS_LOC_VALID = true →
    exec .clkFailover s = .next
    ((((s.setB Reg.PWR_SW_STATUS_REC_VALID false).swSource 1).inc Reg.PWR_CNT_FAILOVER).hvFault 0x29 0 0)) ∧
  (∀ (s : State) (ramp : Bool), s.pwr.on = true → s.get Reg.PWR_SW_STATUS_SOURCE ≠ 0 → s.pwr.swRamp = none →
    exec (.clkReturn ramp) s = .next
    (((fun u : State => if ramp then ({ u with pwr := { u.pwr with swRamp := some (u.pwr.swHz, u.get Reg.PWR_SW_FREQ_HZ, u.ks.count) } } : State).setB Reg.PWR_SW_STATUS_RAMPING true else u.set Reg.PWR_SW_FREQ_HZ u.pwr.swHz) (((s.setB Reg.PWR_SW_STATUS_REC_VALID true).setB Reg.PWR_SW_STATUS_LOC_VALID true).swSource 0)).showSafe)) ∧
  (∀ (s : State), s.pwr.on = true → exec .clkLost s = .next
    (((((s.setB Reg.PWR_SW_STATUS_REC_VALID false).setB Reg.PWR_SW_STATUS_LOC_VALID false).swSource 2).hvFault 0x2A 0 0).hvSafe 255 4)) ∧
  (∀ (s : State) (k : Fin 4) (ph : Fin 3), s.pwr.on = true → (s.bst' k.val).out ≠ 0 →
    (s.bst' k.val).out &&& 2 ^ (2 - ph.val) = 0 →
    exec (.bstPhaseLoss k ph) s = .next
      (bstStop 0x31 k.val (({ s with pwr := { s.pwr with bsts := modNth s.pwr.bsts k.val (fun x => { x with out := x.out ||| 2 ^ (2 - ph.val) }) } } : State).showBst k.val))) ∧
  (∀ (s : State) (tc : Int) (k : Rat), s.pwr.on = true → 850 < tc → tc < 1250 → k = 1 - 7 / 10 * ((tc : Rat) / 10 - 85) / 40 →
    k < s.pwr.derate →
    exec (.thermalDeratingUpdate tc) s = .next { s with pwr := { s.pwr with derate := k, derateAt := tc } })

/-- Protection and diagnostics (R381 to R400). FALLBACK_END after twelve ring cycles of good frames ends the fallback.
THERMAL_UPDATE and RMEAS_UPDATE carry the models of all eight channels on (thermalStep, rmeasStep) while D55 runs. DC_FAULT
of a channel whose DC count is full, no load fault standing: 0x38 raised and declared, TRIPPED and TRIP set.
DIAG_READY_TIMEOUT of a run that starts a channel not LIVE goes on to the next with verdict 8, or 9 after a fault.
DIAG_DWELL_END with the dwell's ticks gathered adds the impedance measured from the last DWELL samples (measureZ) and goes on
to the next frequency or to muting. DIAG_CHANNEL_END while muting goes on with the verdict of the load or acoustic test.
ACOU_MEAS_END of a channel writes the levels of the ten bands over the last MEAS_MS of the microphone (micLevel) and goes on
to muting. DIAG_RUN_END of a run with no channel left and none bad: RESULT 1, RUNNING 0, DIAG_DONE, MODE as it was. Under
each condition named exec answers a next state: fallbackEnd, thermalUpdate, rmeasUpdate, dcFault, diagReadyTimeout,
diagDwellEnd, diagChannelEnd, acouMeasEnd, diagRunEnd. -/
def Obligations.ProtectionEventsTakeEffect : Prop :=
  (∀ (s : State) (n : Fin 8), (s.bc n.val).fallback = true → 12 * s.nTicks ≤ (s.bc n.val).okTicks →
    exec (.fallbackEnd n) s = .next (showFallback (s.modBc n.val (fun c => { c with fallback := false, okTicks := 0 })))) ∧
  (∀ (s : State), s.bstRuns = true → exec .thermalUpdate s = .next (s.event.forN 8 thermalStep)) ∧
  (∀ (s : State), s.bstRuns = true → exec .rmeasUpdate s = .next (s.event.forN 8 rmeasStep)) ∧
  (∀ (s : State) (n : Fin 8), s.dcTicks n.val ≤ (s.bc n.val).dc → 0 < (s.bc n.val).dc → s.flt.loads = [] →
    exec (.dcFault n) s = .next
    ((((s.event.raise 0x38 n.val).loadFault 0x38 n.val).setB Reg.BST_CHn_STATE_TRIPPED true n.val).int Reg.BST_INT_STATUS_TRIP)) ∧
  (∀ (s : State) (n : Nat) (l : List Nat), s.bst.diag.step = .starting → s.bst.diag.chans = n :: l → s.ch n ≠ 3 →
    exec .diagReadyTimeout s = .next (diagNext n (if s.bst.diag.faulted then 9 else 8) s)) ∧
  (∀ (s : State) (k n : Nat) (l : List Nat) (t : Inst), s.bst.diag.step = .dwell k → s.bst.diag.chans = n :: l →
    s.tester = some t → (nth (s.instPar t.id) (t.kver + 1) 0#32).toNat ≤ s.bst.diag.ticks → exec .diagDwellEnd s = .next
    (s.modDiag (fun d => { d with ticks := d.ticks - (nth (s.instPar t.id) (t.kver + 1) 0#32).toNat, samples := d.samples.take (d.ticks - (nth (s.instPar t.id) (t.kver + 1) 0#32).toNat), step := if k + 1 < t.kver then .dwell (k + 1) else .muting, meas := d.meas ++
      [measureZ (rateHz s.rate) (f32Rat (nth (s.instPar t.id) k 0#32)) ((s.get Reg.PWR_CHn_FILT_C_NF n : Nat) : Rat)
        (nth (s.instPar t.id) (t.kver + 1) 0#32).toNat (s.bst.diag.samples.reverse.take (nth (s.instPar t.id) (t.kver + 1) 0#32).toNat)] }))) ∧
  (∀ (s : State) (n : Nat) (l : List Nat), s.bst.diag.chans = n :: l → s.bst.diag.step = .muting → s.bst.diag.mode ≠ 1 →
    exec .diagChannelEnd s = .next (diagNext n (acouVerdict n s) s)) ∧
  (∀ (s : State) (n : Nat) (l : List Nat), s.bst.diag.chans = n :: l → s.bst.diag.step = .muting → s.bst.diag.mode = 1 →
    exec .diagChannelEnd s = .next (diagNext n (loadVerdict n s).2 (loadVerdict n s).1)) ∧
  (∀ (s : State) (n : Nat) (l : List Nat), s.bst.diag.chans = n :: l → s.bst.diag.step = .measure → s.bst.diag.mode = 2 →
    exec .acouMeasEnd s = .next ((({ s with free := s.free + 1 } : State).forN 10 (fun u b =>
      u.set Reg.BST_ACOU_LVLn_b_LVL (toTwos 16 (clampI (-32768) 32767 (s.micLevel (s.get Reg.BST_ACOU_TIME_MEAS_MS) b))) n b)).modDiag (fun d => { d with step := .muting }))) ∧
  (∀ (s : State), s.bst.diag.step = .muting → s.bst.diag.chans = [] → s.bst.diag.bad = false → exec .diagRunEnd s = .next
    (((((s.modDiag (fun d => { DiagState.reset with mode := d.mode, fade := d.fade, outFade := d.outFade })).set Reg.BST_DIAG_STATUS_RESULT 1).setB
      Reg.BST_DIAG_STATUS_RUNNING false).int Reg.BST_INT_STATUS_DIAG_DONE)))

/-- The keystone tick (R51, R63, R152, R153, R164). KEYSTONE_TICK: powered down, or asleep with storage off and no entry
going on, it changes nothing. Otherwise it closes the last tick at its commit point and does the edge, the head of the ring
cycle and what follows the tick, in that order; where KS_COUNT is then stopped that is all; where it runs, the latches,
activation, swaps and alarms of tickStamped follow, then the gather, the start of a due rebuild and the schedule up to its
first stall or the commit cycle, and waiting accesses go on. COMMIT_POINT of a running tick not committed: the schedule runs
to the commit cycle, with an image running its verdict and the meters' tails follow, and the tail closes the tick; a second
one changes nothing. STONE_WAKE of a gated stone ends its gating and its domain's wake. STREAM_LINE_ARRIVE: a stone not
stalled goes on; one stalled on a late line resumes at the later of the cycle given and the last one, with that line no
longer late. STREAM_WRITEBACK_DONE ends the write-back; where a stone waited for it alone, that stone goes on at a cycle that
the model leaves free (log entry 3). Where a clause leaves the state as it is because a condition of the row does not hold,
that is the model's choice (log entry 1). Under each condition named exec answers a next state: keystoneTick, stoneWake,
streamLineArrive, streamWritebackDone, commitPoint. -/
def Obligations.KeystoneTickTakesEffect : Prop :=
  (∀ (s : State) (env : TickEnv) (u : State), s.dom.powered = true →
    (s.asleep && s.is Reg.DOM_STATUS_STORAGE && !s.dom.entering) = false →
    (tickFollow (cycleHead (edgeWork (tickEdge (commitPoint applyReg s))))).ks.running = true →
    u = rebuildStart (tickGather env (tickStamped (tickFollow (cycleHead (edgeWork (tickEdge (commitPoint applyReg s))))))) →
    exec (.keystoneTick env) s = .next (resume (engTo applyReg true (commitCycle u.rate) u))) ∧
  (∀ (s : State) (env : TickEnv), s.dom.powered = false → exec (.keystoneTick env) s = .next (s)) ∧
  (∀ (s : State), s.ks.running = true → s.ks.committed = false → s.img.active = none → exec .commitPoint s = .next
    (tail ((fun u : State => { u with ks := { u.ks with cycle := commitCycle s.rate, committed := true } }) (engTo applyReg false (commitCycle s.rate) s)))) ∧
  (∀ (s : State), s.ks.committed = true → exec .commitPoint s = .next (s)) ∧
  (∀ (s : State) (n : Fin 32), (s.stone n.val).gated = true → exec (.stoneWake n) s = .next
    ((s.modStone n.val (fun t => { t with gated := false })).modDom n.val (fun x => { x with waking := false }))) ∧
  (∀ (s : State) (n : Fin 32) (cyc : Nat), (s.stone n.val).stall = none → exec (.streamLineArrive n cyc) s = .next (s)) ∧
  (∀ (s : State) (n : Fin 32) (cyc id : Nat), (s.stone n.val).stall = some id →
    (engTo applyReg false (min (commitCycle s.rate) (max cyc s.ks.cycle)) s).eng.late.contains id = true →
    exec (.streamLineArrive n cyc) s = .next
      (engTo applyReg true (commitCycle s.rate) (resumeStone n.val (min (commitCycle s.rate) (max cyc s.ks.cycle))
      ((engTo applyReg false (min (commitCycle s.rate) (max cyc s.ks.cycle)) s).modEng (fun e => { e with late := e.late.filter (· ≠ id) }))))) ∧
  (∀ (s : State) (id : Nat), (List.range 32).find? (fun n => (s.stone n).stall = some id) = none →
    exec (.streamWritebackDone id) s = .next (s.modEng (fun e => { e with writing := dropWriting id e.writing }))) ∧
  (∀ (s u : State) (im : Image), s.ks.running = true → s.ks.committed = false →
    u = engTo applyReg false (commitCycle s.rate) s →
    u.img.active = some im → u.is Reg.ENG_STATUS_RUN = true →
    exec .commitPoint s = .next
      (tail ((fun t : State => { t with ks := { t.ks with cycle := commitCycle s.rate, committed := true } })
      (metersTail im (commitVerdict im u))))) ∧
  (∀ (s u : State) (id : Nat) (n : Nat), u = s.modEng (fun e => { e with writing := dropWriting id e.writing }) →
    (List.range 32).find? (fun n => (u.stone n).stall = some id) = some n → u.wbBlocked id = false →
      u.eng.late.contains id = false → u.ks.committed = false →
    exec (.streamWritebackDone id) s = .next
      ((fun c => engTo applyReg true (commitCycle u.rate) (resumeStone n c (engTo applyReg false c { u with free := u.free + 1 })))
      (min (commitCycle u.rate) (max u.ks.cycle (Config.asyncCycle u.free % rateCycles u.rate))))) ∧
  (∀ (s : State) (env : TickEnv), s.asleep = true → s.is Reg.DOM_STATUS_STORAGE = true → s.dom.entering = false →
    exec (.keystoneTick env) s = .next s) ∧
  (∀ (s u : State) (env : TickEnv), s.dom.powered = true →
    (s.asleep && s.is Reg.DOM_STATUS_STORAGE && !s.dom.entering) = false →
    u = tickFollow (cycleHead (edgeWork (tickEdge (commitPoint applyReg s)))) → u.ks.running = false →
      exec (.keystoneTick env) s = .next u)

/-- Power and reset of the logic side (R515, R545, R578, R582). VL5_POWER_ON leaves it powered with a good reference of the
kind given, no image active, the keystone and every memory as at reset. VL5_POWER_OFF leaves it unpowered in the same way,
the power-control die as it was. RST_N of a powered node leaves it powered with the link parked, no image active, the
keystone as at reset, the footing memory and CAPSTONE kept. Each keeps the queue. FIRMWARE_BOOT_DONE, powered, not yet
running, no automatic load: the firmware runs, and IDENT_FW, ENG_UCODE and the forty-eight PLL bands hold what the copy that
verified gives; where neither copy verified it changes nothing. Where a clause leaves the state as it is because a condition
of the row does not hold, that is the model's choice (log entry 1). Under each condition named exec answers a next state:
vl5PowerOn, rstN, vl5PowerOff, firmwareBootDone. -/
def Obligations.PowerAndResetTakeEffect : Prop :=
  (∀ (s : State) (xtal : Bool), s.canon = true → ∃ t, exec (.vl5PowerOn xtal) s = .next t ∧ t.dom.powered = true ∧
    t.is Reg.CLK_STATUS_REF_OK = true ∧
    t.is Reg.CLK_STATUS_REF_XTAL = xtal ∧ t.img.active = none ∧ t.ks = State.reset.ks ∧ t.mem = State.reset.mem ∧
      t.pending = s.pending) ∧
  (∀ s : State, ∃ t, exec .vl5PowerOff s = .next t ∧ t.dom.powered = false ∧ t.img.active = none ∧ t.ks = State.reset.ks ∧
    t.mem = State.reset.mem ∧ t.pwr.on = s.pwr.on ∧ t.pending = s.pending) ∧
  (∀ s : State, s.dom.powered = true → ∃ t, exec .rstN s = .next t ∧ t.dom.parked = true ∧ t.dom.powered = true ∧
    t.img.active = none ∧
    t.ks = State.reset.ks ∧ t.mem.foot = s.mem.foot ∧ t.flt.capstone = s.flt.capstone ∧ t.pending = s.pending) ∧
  (∀ (s : State) (b : Bool) (v : Word) (u : Fin 65536) (bands : List (List Word)), s.dom.powered = true → s.host.fwRun = false →
    s.canon = true → s.is Reg.IMG_BOOT_AUTO = false → exec (.firmwareBootDone true b v u bands) s = .next
    (((({ s with host := { s.host with fwRun := true } } : State).setWord Reg.IDENT_FW (BitVec.ofNat 32 (v.toNat % 2 ^ 24))).setWord
      Reg.ENG_UCODE (BitVec.ofNat 32 u.val)).forN 3 (fun s p => s.forN 16 (fun s b => s.setWord Reg.CLK_Pp_BANDb (nth (nth bands p []) b 0#32) p b)))) ∧
  (∀ (s : State) (v : Word) (u : Fin 65536) (bands : List (List Word)), exec (.firmwareBootDone false false v u bands) s = .next
    (s))

/-- Time (R44, R45, R53, R269, R272, R303). KS_ALARM_FIRE of a pending alarm whose target has come: it is no longer pending,
STATE reads FIRED, ALARM of that alarm is set; before the target it changes nothing. GPTP_SYNC from the grandmaster on a
linked slave port that is as-capable, at a node that is not the timing master: with no output active, KS_COUNT is set to the
count of that time where it differs (with the ring's work at a step) and the offset left over is measured; with outputs
active and the firmware not running it is measured; the servo steps either way (log entry 75). GPTP_SYNC of another node is
only counted. GPTP_PDELAY on a linked port is counted, stores the delay, at most 0xFFFE, and on a ring port brings the age
bound up to date. SYNC_TIMEOUT at a follower with a slave port clears what is known of the time, shows it and stops the ramp
of the media PLL. TIMING_SWITCH of a due change makes the named node timing master, TIMING_LAPSE ends the request with RESULT
8 (R274). The times of ring control leave named fields: LISTEN_TIMEOUT and CLAIM_REPEAT the claim, WAITING_TIMEOUT and
FOLLOWER_TIMEOUT the state and the coordinator, STANDBY_TAKEOVER the office, BEACON_SEND, REPORT_SEND and PLAN_RESEND what
was sent, PLAN_BUILD_TIMEOUT the plan, SEGMENT_REROLL_TIMEOUT the rolls (R252 to R286). Where a clause leaves the state as it
is because a condition of the row does not hold, that is the model's choice (log entry 1). Under each condition named exec
answers a next state: ksAlarmFire, gptpSync, gptpPdelay, syncTimeout, timingSwitch, timingLapse, listenTimeout, claimRepeat,
waitingTimeout, followerTimeout, standbyTakeover, beaconSend, reportSend, planBuildTimeout, planResend, segmentRerollTimeout. -/
def Obligations.TimeBaseEventsTakeEffect : Prop :=
  (∀ (s : State) (n : Fin 4), nth s.ks.alarmOn n.val false = true → nth s.ks.alarmTgt n.val 0 ≤ s.ks.count →
    exec (.ksAlarmFire n) s = .next
    (((s.setAlarm n.val false).set Reg.KS_ALARMn_CTRL_STATE 2 n.val).int Reg.KS_INT_STATUS_ALARM n.val)) ∧
  (∀ (s : State) (n : Fin 4), s.ks.count < nth s.ks.alarmTgt n.val 0 → exec (.ksAlarmFire n) s = .next (s)) ∧
  (∀ (s : State) (b : Bool) (gm : BitVec 48) (t : Nat), s.linkUp (b2n b) = true → nth s.rct.portState (b2n b) 0 = 1 →
    s.rct.gm = some gm.toNat → s.isTm = false → s.outputsActive = false → s.asCapable (b2n b) = true →
    countAt s.rate t = s.ks.count → exec (.gptpSync b gm t) s = .next
    (servoStep ((t : Int) - (s.timeNs s.ks.count : Nat)) (measured ((t : Int) - (s.timeNs s.ks.count : Nat)) (gptpIn (b2n b) [44,
    76] s.event)))) ∧
  (∀ (s : State) (b : Bool) (gm : BitVec 48) (t : Nat), s.linkUp (b2n b) = true → nth s.rct.portState (b2n b) 0 = 1 →
    s.rct.gm = some gm.toNat → s.isTm = false → s.outputsActive = false → s.asCapable (b2n b) = true →
    countAt s.rate t ≠ s.ks.count → exec (.gptpSync b gm t) s = .next
    ((fun u : State => servoStep ((t : Int) - (u.timeNs u.ks.count : Nat)) (measured ((t : Int) - (u.timeNs u.ks.count : Nat)) u)) (ringStep s.cycleNo (ksStep (countAt s.rate t) (gptpIn (b2n b) [44,
    76] s.event))))) ∧
  (∀ (s : State) (b : Bool) (gm : BitVec 48) (t : Nat), s.linkUp (b2n b) = true → s.rct.gm ≠ some gm.toNat →
    exec (.gptpSync b gm t) s = .next (gptpIn (b2n b) [44, 76] s.event)) ∧
  (∀ (s : State) (p : Fin 3) (d : Nat), s.linkUp p.val = true → exec (.gptpPdelay p d) s = .next
    ((if p.val < 2 then showBound else id) ((gptpIn p.val [54,
    54] s.event).set Reg.PORT_Pp_LINK_DELAY_NS (min 0xFFFE d) p.val))) ∧
  (∀ (s : State), s.isTm = false → s.rct.portState.contains 1 = true → s.isCoord = false → exec .syncTimeout s = .next
    (showPll ((showTime { s with time := TimeState.reset }).stopRamp 0))) ∧
  (∀ (s : State) (b : Bool) (gm : BitVec 48) (t : Nat), s.linkUp (b2n b) = true → nth s.rct.portState (b2n b) 0 = 1 →
    s.rct.gm = some gm.toNat →
    s.isTm = false → s.outputsActive = true → s.asCapable (b2n b) = true → s.host.fwRun = false →
    exec (.gptpSync b gm t) s = .next
      (servoStep ((t : Int) - (s.timeNs s.ks.count : Nat)) (measured ((t : Int) - (s.timeNs s.ks.count : Nat)) (gptpIn (b2n b) [44,
      76] s.event)))) ∧
  (∀ (s : State) (m c : Nat) (mine : Bool), s.rct.tmSwitch = some (m, c, mine) → cycDue c s.cycleNo = true →
    ∃ t, exec .timingSwitch s = .next t ∧ t.rct.tmSwitch = none ∧ t.rct.gm = some m ∧ t.mem = s.mem ∧ t.pending = s.pending) ∧
  (∀ (s : State) (m : Nat), s.rct.tmReq = some m → s.canon = true → ∃ t, exec .timingLapse s = .next t ∧
    t.rct.tmReq = none ∧ t.get Reg.RING_CTL_RESULT_RESULT = 8 ∧ t.mem = s.mem ∧ t.pending = s.pending) ∧
  (∀ s : State, s.ctl = 1 → s.ctlRuns = true → s.hushed = false → s.able = true → s.canon = true → ∃ t,
    exec .listenTimeout s = .next t ∧
    t.ctl = 2 ∧ t.rct.claimPorts = s.svc ∧ t.rct.claimBack = [] ∧ t.mem = s.mem ∧ t.pending = s.pending) ∧
  (∀ s : State, s.ctl = 2 → s.ctlRuns = true → s.hushed = false → s.able = true → ∃ t, exec .claimRepeat s = .next t ∧
    t.rct.claimPorts = s.svc ∧ t.rct.claimBack = [] ∧ t.mem = s.mem ∧ t.pending = s.pending) ∧
  (∀ s : State, s.ctl = 3 → s.ctlRuns = true → s.hushed = false → s.canon = true → ∃ t, exec .waitingTimeout s = .next t ∧
    t.ctl = 1 ∧ t.rct = s.rct ∧ t.mem = s.mem ∧ t.pending = s.pending) ∧
  (∀ s : State, s.ctl = 4 → s.ctlRuns = true → s.hushed = false → s.isStandby = false → ∃ t, exec .followerTimeout s = .next t ∧
    t.rct.coord = none ∧ t.rct.waiting = [] ∧ t.rct.segDown = [] ∧ t.pending = s.pending) ∧
  (∀ s : State, s.ctl = 4 → s.ctlRuns = true → s.hushed = false → s.isStandby = true → ∃ t, exec .standbyTakeover s = .next t ∧
    t.rct.takeover = true ∧ t.rct.prevCoord = s.rct.coord.map tupleMac ∧ t.rct.beaconAt = s.cycleNo ∧ t.pending = s.pending) ∧
  (∀ s : State, s.isCoord = true → s.ctlRuns = true → s.rct.beaconAt + 12 ≤ s.cycleNo → ∃ t, exec .beaconSend s = .next t ∧
    t.rct.beaconAt = s.cycleNo ∧ t.rct.seq = (s.rct.seq + 1) % 65536 ∧ t.rdp.launchOn = true ∧ t.mem = s.mem ∧
      t.pending = s.pending) ∧
  (∀ s : State, s.ctl = 4 → s.ctlRuns = true → s.svc ≠ [] → s.rct.reportDue = true → ∃ t, exec .reportSend s = .next t ∧
    t.rct.reportDue = false ∧ t.rct.seq = (s.rct.seq + 1) % 65536 ∧ t.mem = s.mem ∧ t.pending = s.pending) ∧
  (∀ s : State, s.isCoord = true → s.ctlRuns = true → s.rct.building = true → ∃ t, exec .planBuildTimeout s = .next t ∧
    t.rct.building = false ∧ t.rct.sendsLeft = 2 ∧ t.rct.waiting.length = s.rct.waiting.length + 1 ∧ t.mem = s.mem ∧
      t.pending = s.pending) ∧
  (∀ (s : State) (p : Plan) (n : Nat), s.isCoord = true → s.ctlRuns = true → s.rct.waiting = [p] → s.rct.sendsLeft = n + 1 →
    ∃ t, exec .planResend s = .next t ∧ t.rct.sendsLeft = n ∧ t.rct.waiting = [p] ∧ t.mem = s.mem ∧ t.pending = s.pending) ∧
  (∀ s : State, s.isCoord = true → s.ctlRuns = true →
    s.rct.segDown.any (fun x => !x.rolled && decide (x.since + 120000 ≤ s.cycleNo)) = true →
    s.rct.building = false → ∃ t, exec .segmentRerollTimeout s = .next t ∧ t.rct.building = true ∧ t.rct.head = 0 ∧
    t.rct.segDown = s.rct.segDown.map (fun x => { x with rolled := true }) ∧ t.mem = s.mem ∧ t.pending = s.pending)

/-- The image machine (R70, R106 to R120). SLOT_ERASE_DONE ends an erasure with SLOT_DONE. SLOT_VERIFY_DONE ends a check with
the result of stages F and S on the slot with the bad bytes named, and SLOT_DONE. IMG_LOAD_DONE of a load that was not
automatic, accepted by stages F, S and X, stages the image with its rebuild length and epoch, STAGED and its interrupt;
refused by stage F or S, it goes to REFUSED with that reason and the slot keeps it. DEACTIVATE_DONE between ticks, once no
output is active and no rebuild runs, leaves no image and returns to the rate of the registers (rateHome, log entry 71).
REBUILD_START of an armed image whose time has come runs stage A again: passed, it rebuilds; failed, it returns to STAGED
with that reason. ACTIVATION of a rebuilt image at its target activates it. Under each condition named exec answers a next
state: slotEraseDone, slotVerifyDone, imgLoadDone, deactivateDone, rebuildStart, activation. -/
def Obligations.ImageEventsTakeEffect : Prop :=
  (∀ (s : State) (b : Bool), (s.slot (b2n b)).erasing = true → exec (.slotEraseDone b) s = .next
    ((s.modSlot (b2n b) (fun x => { x with erasing := false })).int Reg.IMG_INT_STATUS_SLOT_DONE)) ∧
  (∀ (s : State) (b : Bool) (bad : List Nat), (s.slot (b2n b)).verifying = true → exec (.slotVerifyDone b bad) s = .next
    (((s.modSlot (b2n b) (fun x => { x with verifying := false, bad := bad })).slotResult (b2n b)
      (match stageFS ((s.modSlot (b2n b) (fun x => { x with verifying := false, bad := bad })).slot (b2n b)) s.sigCtx with
        | .ok _ => none
        | .error e => some e)).int Reg.IMG_INT_STATUS_SLOT_DONE)) ∧
  (∀ (s : State) (n : Nat) (bad : List Nat) (im : Image), s.img.loading = some n → s.img.auto = false →
    stageFS ((s.modSlot n (fun x => { x with bad := bad })).slot n) (s.modSlot n (fun x => { x with bad := bad })).sigCtx = .ok im →
    stageX im (s.xctx im) = .ok () →
    exec (.imgLoadDone bad) s = .next
      (((fun u : State => (({ u with img := { u.img with staged := some { im with slot := n } } } : State).set
      Reg.IMG_REBUILD_TICKS (rebuildTicks { im with slot := n })).set64 Reg.IMG_EPOCH_STG_LO Reg.IMG_EPOCH_STG_HI im.epoch)
      (((fun u : State => { u with img := { u.img with loading := none, auto := false } }) (s.modSlot n (fun x => { x with bad := bad }))).slotResult n
        none |>.set Reg.IMG_STATUS_STAGE 2)).int Reg.IMG_INT_STATUS_STAGED)) ∧
  (∀ (s : State) (n : Nat) (bad : List Nat) (e : Refuse), s.img.loading = some n →
    stageFS ((s.modSlot n (fun x => { x with bad := bad })).slot n) (s.modSlot n (fun x => { x with bad := bad })).sigCtx = .error e →
    exec (.imgLoadDone bad) s = .next (((((fun u : State => { u with img := { u.img with loading := none, auto := false } })
      (s.modSlot n (fun x => { x with bad := bad }))).slotResult n (some e)).set Reg.IMG_STATUS_STAGE 5).refuse e)) ∧
  (∀ (s : State), s.img.deact = true → s.outputsActive = false → s.stage ≠ 4 → s.ks.running = false ∨ s.ks.committed = true →
    exec .deactivateDone s = .next (rateHome (noImage s))) ∧
  (∀ (s : State) (im : Image), s.img.staged = some im → s.stage = 3 → s.img.rebuildAt ≤ s.ks.count → s.stageA im true 0 = none →
    exec .rebuildStart s = .next (rebuild im s)) ∧
  (∀ (s : State) (im : Image) (c : Nat), s.img.staged = some im → s.stage = 3 → s.img.rebuildAt ≤ s.ks.count →
    s.stageA im true 0 = some c → exec .rebuildStart s = .next ((s.set Reg.IMG_STATUS_STAGE 2).refuse ⟨c, 0xFFFF, 0⟩)) ∧
  (∀ (s : State) (im : Image), s.img.staged = some im → s.stage = 4 → s.img.target ≤ s.ks.count → exec .activation s = .next
    (activate im s))

/-- Scrubbers (R130, R532), with no error noted elsewhere. STONE_SCRUB of a stone at L0 and MEMORY_SCRUB of a word that
exists in a memory at L0: a word found clean stays as it is. Shown for STONE_SCRUB and the footing memory: a single-bit error
found is met as eccMeet says and then corrected. Shown for STONE_SCRUB and SRAM: an uncorrectable one is met and stays noted.
Under each condition named exec answers a next state: stoneScrub, memoryScrub. -/
def Obligations.ScrubbersFindAndCorrect : Prop :=
  (∀ (s : State) (n : Fin 32) (w : Fin 32768), s.domAt n.val = 0 → s.mem.ecc = [] → exec (.stoneScrub n w .clean) s = .next
    (s.event)) ∧
  (∀ (s : State) (n : Fin 32) (w : Fin 32768), s.domAt n.val = 0 → s.mem.ecc = [] → exec (.stoneScrub n w .single) s = .next
    (((fun u : State => { u with mem := { u.mem with ecc := [⟨0, 262144 * n.val + 8 * w.val, false, false⟩] } }) s.event).eccMeet
      ⟨0, 262144 * n.val + 8 * w.val, false, false⟩ none |>.eccDrop 0 (262144 * n.val + 8 * w.val))) ∧
  (∀ (s : State) (n : Fin 32) (w : Fin 32768), s.domAt n.val = 0 → s.mem.ecc = [] → exec (.stoneScrub n w .double) s = .next
    (((fun u : State => { u with mem := { u.mem with ecc := [⟨0, 262144 * n.val + 8 * w.val, true, false⟩] } }) s.event).eccMeet
      ⟨0, 262144 * n.val + 8 * w.val, true, false⟩ none)) ∧
  (∀ (s : State) (w : Nat), w < 8192 → s.mem.ecc = [] → exec (.memoryScrub .footing w .single) s = .next
    (((fun u : State => { u with mem := { u.mem with ecc := [⟨3, 8 * w, false, false⟩] } }) s.event).eccMeet
      ⟨3, 8 * w, false, false⟩ none |>.eccDrop 3 (8 * w))) ∧
  (∀ (s : State) (w : Nat), w < 4194304 → s.domAt (32 + 8 * w / 4194304) = 0 → s.mem.ecc = [] →
    exec (.memoryScrub .sram w .double) s = .next
    (((fun u : State => { u with mem := { u.mem with ecc := [⟨1, 8 * w, true, false⟩] } }) s.event).eccMeet
      ⟨1, 8 * w, true, false⟩ none)) ∧
  (∀ (s : State) (w : Nat), w < 2 ^ 33 → s.domAt 40 = 0 → s.mem.ecc = [] → exec (.memoryScrub .dram w .clean) s = .next
    (s.event))

/-- Mixer events (R178, R190, R195, R198, R199, R202, R205, R331). SWAP_STAGE before its guard changes nothing; from then on
it copies the shadow words of the space to a bank, gives them to the instances whose ties they keep, raises REJECT where one
does not, and is STAGING. SWAP_FIRE of a staged swap at its target changes those over, with SWAP_DONE. METER_LATCH of a due
latch copies the live half of every meter record to its latched half, with LATCH; with none pending it changes nothing.
PFIR_LOAD_DONE of a load faded out: its taps come from DRAM, the fade in starts, PFIR_DONE. SRC_ABSENT of a converter with
sixteen silent ticks resynchronises it; SRC_SETTLED and SRC_RAMP_END end its settling and its ramp when their time is over.
REC_FROZEN after POST: FROZEN, the last tick recorded, REC_FROZEN set. MSG_OP_DONE: an erasure ends; a deletion leaves the
message empty; a check gives state 3 or 4; each with MSG_DONE. SNAPSHOT_FIRE of a due snapshot does its work (snapFire,
latchFire). Where a clause leaves the state as it is because a condition of the row does not hold, that is the model's choice
(log entry 1). Under each condition named exec answers a next state: swapStage, swapFire, meterLatch, pfirLoadDone,
srcAbsent, srcSettled, srcRampEnd, recFrozen, msgOpDone, snapshotFire. -/
def Obligations.MixerEventsTakeEffect : Prop :=
  (∀ (s : State) (sp : Fin 8) (im : Image), s.img.active = some im → (s.swap sp.val).on = true →
    s.ks.count + im.swapG sp.val < (s.swap sp.val).target → exec (.swapStage sp) s = .next (s)) ∧
  (∀ (s : State) (sp : Fin 8) (im : Image) (a : Nat), s.img.active = some im → (s.swap sp.val).on = true →
    (s.swap sp.val).target ≤ s.ks.count + im.swapG sp.val → im.shadowAddr sp.val 0 = some a →
      (nth im.tens sp.val TenCfg.absent).paramWords = 0 →
    s.mem.ecc = [] → s.spaceInsts sp.val = [] →
    exec (.swapStage sp) s = .next
      (s.modSwap sp.val (fun x => { x with state := 2, on := false, bank := [], pend := false, held := false }))) ∧
  (∀ (s : State) (sp : Fin 8), (s.swap sp.val).state = 2 → (s.swap sp.val).target ≤ s.ks.count → exec (.swapFire sp) s = .next
    ((((s.spaceInsts sp.val).foldl (fun u i => if !i.tiesOk (i.bankOf (s.swap sp.val).bank) then u else
      u.putInst { u.instSt i.id with par := (u.instSt i.id).alt, alt := (u.instSt i.id).par }) s).modSwap sp.val
      (fun x => { x with state := 3, bank := [] })).int Reg.MIX_INT_STATUS_SWAP_DONE)) ∧
  (∀ (s : State), s.mix.latchOn = true → s.mix.latchTgt ≤ s.ks.count → exec .meterLatch s = .next
    ((((fun u : State => { u with mix := { u.mix with latchOn := false } })
    ((s.meterRecs.foldl (fun (u : State) a => (u.sramWrite (a + 16) (Mem.rdN u.mem.sram a 16)).sramWrite a [0#8, 0#8, 0#8,
      0#8]) s).int Reg.MIX_INT_STATUS_LATCH)).set
    Reg.MIX_LATCH_CTRL_STATE 2))) ∧
  (∀ (s : State), s.mix.latchOn = false → exec .meterLatch s = .next (s)) ∧
  (∀ (s : State) (l : PfirLoad) (im : Image) (x : Inst), s.mix.pfir = some l → s.img.active = some im → im.inst l.id = some x →
    ((s.instSt l.id).pfirFade l.ch).1 = 2 → s.mem.ecc = [] →
    exec .pfirLoadDone s = .next
      (((fun u : State => ({ u with mix := { u.mix with pfir := none } } : State).pfirResult l.ten 1) (s.putInst { (s.instSt l.id).setFade l.ch (3, 0, 0) with
      fs := ((s.instSt l.id).fs ++ List.replicate (4096 * x.kver * x.nIn - (s.instSt l.id).fs.length) 0#32).take (l.ch * (4096 * x.kver)) ++
        (List.range (4096 * x.kver)).map (fun k => Mem.word s.mem.dram (l.src + 4 * k)) ++
        ((s.instSt l.id).fs ++ List.replicate (4096 * x.kver * x.nIn - (s.instSt l.id).fs.length) 0#32).drop (l.ch * (4096 * x.kver) + 4096 * x.kver) })).int Reg.MIX_INT_STATUS_PFIR_DONE)) ∧
  (∀ (s : State) (id : Fin 4096), exec (.srcAbsent id) s = .next
    (s.modSrc (fun c => c.id = id.val && decide (16 ≤ c.silent) && !c.absent) (fun c => { c.resynced with absent := true, locked := c.locked && !s.imgHas (fun im => (im.srcUnit c.id).any (fun u => u.1 = 3)) }))) ∧
  (∀ (s : State) (id : Fin 4096), exec (.srcSettled id) s = .next
    (s.modSrc (fun c => c.id = id.val && c.phase = 1 && decide (srcZ s.rate ≤ c.pos)) (fun c => { c with phase := 2, pos := 0 }))) ∧
  (∀ (s : State) (id : Fin 4096), exec (.srcRampEnd id) s = .next
    (s.modSrc (fun c => c.id = id.val && c.phase = 2 && decide (64 ≤ c.pos)) (fun c => { c with phase := 0, pos := 0 }))) ∧
  (∀ (s : State), s.get Reg.MIX_REC_STATUS_STATE = 2 → s.mix.post = 0 → exec .recFrozen s = .next
    (((s.set Reg.MIX_REC_STATUS_STATE 3).set64 Reg.MIX_REC_LAST_LO Reg.MIX_REC_LAST_HI s.mix.recLast).int Reg.MIX_INT_STATUS_REC_FROZEN)) ∧
  (∀ (s : State) (n : Nat), s.mix.msgOp = some (2, n) → exec .msgOpDone s = .next
    ((({ s with mix := { s.mix with msgOp := none } } : State).putMsg ⟨n, 0, []⟩).int Reg.MIX_INT_STATUS_MSG_DONE)) ∧
  (∀ (s : State) (n : Nat), s.mix.msgOp = some (3, n) → exec .msgOpDone s = .next
    ((({ s with mix := { s.mix with msgOp := none } } : State).putMsg { s.msg n with state := if msgGood (s.msg n).bytes then 3 else 4 }).int Reg.MIX_INT_STATUS_MSG_DONE)) ∧
  (∀ (s : State), s.port.snapOn = true → s.port.snapTgt ≤ s.ks.count → exec .snapshotFire s = .next
    (latchFire true (snapFire s).1)) ∧
  (∀ (s : State) (sp : Fin 8) (im : Image) (a : Nat) (bank : List Word) (bad : List Inst), s.img.active = some im →
    (s.swap sp.val).on = true →
    (s.swap sp.val).target ≤ s.ks.count + im.swapG sp.val → im.shadowAddr sp.val 0 = some a → s.mem.ecc = [] →
    bank = (List.range (nth im.tens sp.val TenCfg.absent).paramWords).map (fun k => Mem.word s.mem.sram (a + 4 * k)) →
    bad = (s.spaceInsts sp.val).filter (fun i => !i.tiesOk (i.bankOf bank)) →
    exec (.swapStage sp) s = .next ((if bad = [] then id else fun t : State => t.int Reg.MIX_INT_STATUS_REJECT)
      (State.modSwap ((s.spaceInsts sp.val).foldl (fun (t : State) i => if bad.contains i then t else
        (t.putInst { t.instSt i.id with alt := i.bankOf bank }).localWrote i 2) s) sp.val
        (fun x => { x with state := 2, on := false, bank := bank, pend := false, held := bad ≠ [] })))) ∧
  (∀ (s : State) (n : Nat), s.mix.msgOp = some (1, n) → exec .msgOpDone s = .next
    (({ s with mix := { s.mix with msgOp := none } } : State).int Reg.MIX_INT_STATUS_MSG_DONE))

/-- The life-safety override (R207, R211, R212). OVR_INPUT_ACCEPT of the levels that stand, with both inputs inactive,
changes nothing; awake, from INACTIVE, with input A alone becoming active it notes the levels and the count and is PENDING.
OVR_DISC_EXPIRE: inputs that agree change nothing; inputs that differ while PENDING with the tick stopped make the override
begin, raise the discrepancy and wake (ovrWake). OVR_STAT_UPDATE shows what the override could play, CAN_PLAY where that is
anything, and OVR_CHG where CAN_PLAY changes. Where a clause leaves the state as it is because a condition of the row does
not hold, that is the model's choice (log entry 1). Under each condition named exec answers a next state: ovrInputAccept,
ovrDiscExpire, ovrStatUpdate. -/
def Obligations.OverrideEventsTakeEffect : Prop :=
  (∀ (s : State) (a b : Bool), s.ovr.pinA = a → s.ovr.pinB = b → s.ovrA = false → s.ovrB = false →
    exec (.ovrInputAccept a b) s = .next (s)) ∧
  (∀ (s : State) (a b : Bool), s.ovrSt = 0 → s.is Reg.MIX_OVR_STATUS_DISC = false → a = s.is Reg.MIX_OVR_CFG_POL_A →
    b ≠ s.is Reg.MIX_OVR_CFG_POL_B → s.ovr.pinA ≠ a ∨ s.ovr.pinB ≠ b → s.dom.entering = false → s.sleepCode ≠ 1 →
    s.sleepCode ≠ 2 → exec (.ovrInputAccept a b) s = .next
    ((((s.modOvr (fun o => { o with pinA := a, pinB := b })).setB Reg.MIX_OVR_STATUS_A true).setB Reg.MIX_OVR_STATUS_B false |>.set Reg.MIX_OVR_STATUS_STATE 1).modOvr (fun o => { o with t1 := s.ks.count }))) ∧
  (∀ (s : State), s.ovrA = s.ovrB → exec .ovrDiscExpire s = .next (s)) ∧
  (∀ (s : State), s.ovrA ≠ s.ovrB → s.ovrSt = 1 → s.ks.running = false → exec .ovrDiscExpire s = .next
    (ovrWake (discRaise (ovrBegin (s.set Reg.MIX_OVR_STATUS_STATE 2))))) ∧
  (∀ s : State, exec .ovrStatUpdate s = .next
    ((if s.is Reg.MIX_OVR_STATUS_CAN_PLAY = decide (s.playable ≠ 0) then id else fun u => u.int Reg.MIX_INT_STATUS_OVR_CHG)
    (((s.set Reg.MIX_OVR_STATUS_PLAYABLE s.playable).setB Reg.MIX_OVR_STATUS_CAN_PLAY (decide (s.playable ≠ 0))).modOvr (fun o => { o with stat := decide (s.playable ≠ 0) }))))

/-- Clock synthesis (R460 to R484). REF_LOSS of a good reference: REF_OK 0, REF set, 0x70 raised, running PLLs 0 and 1 stop
their ramps and hold. REF_RETURN: REF_OK 1, the source shown, the holds end. PLL_START of a stopped PLL in a domain at L0:
with a band for its window it starts there, PLL 1 with its K for the switching frequency; without one BAND_ERR, BAND and
0x74. PLL_LOCK shows lock and its interrupt. PLL_LOCK_LOSS without a reference only shows it; with one it also stops the
ramp, holds the PLL and raises 0x71 to 0x73. PLL_HOLD_END and PLL_BW_CHANGE end the hold and take BW. PHASE_STEP_UNIT of PLL
0 or 1 takes one unit off what is pending, in either direction. RAMP_LOAD of PLL 0 or 1 with a first duration that is not 0
writes the eight segments and starts the first; of PLL 2 it changes nothing. RAMP_SEGMENT_END: no ramp, nothing; a segment
below the eighth with a next one goes on from where it ended, which for the media PLL with an output active is held to RATE
(R471); the eighth of PLL 1 ends the profile. MCLK_CONFIG takes the register word of its output. Where a clause leaves the
state as it is because a condition of the row does not hold, that is the model's choice (log entry 1). Under each condition
named exec answers a next state: refLoss, refReturn, pllStart, pllLock, pllLockLoss, pllHoldEnd, pllBwChange, phaseStepUnit,
rampLoad, rampSegmentEnd, mclkConfig. -/
def Obligations.ClockEventsTakeEffect : Prop :=
  (∀ (s : State), s.refOk = true → exec .refLoss s = .next
    (showPll ((((s.setB Reg.CLK_STATUS_REF_OK false).int Reg.CLK_INT_STATUS_REF).event.raise 0x70 0).forN 2
      (fun u p => if (u.pll p).on then (u.stopRamp p).modPll p (fun q => { q with refHold := true }) else u)))) ∧
  (∀ (s : State) (x : Bool), s.refOk = false → exec (.refReturn x) s = .next
    (showPll ((((s.setB Reg.CLK_STATUS_REF_OK true).setB Reg.CLK_STATUS_REF_XTAL x).int Reg.CLK_INT_STATUS_REF).forN 3
      (fun u p => u.modPll p (fun q => { q with refHold := false }))))) ∧
  (∀ (s : State) (p : Fin 3) (b : Nat), (s.pll p.val).on = false → s.domAt (47 + p.val) = 0 → s.pllBand p.val = some b →
    p.val ≠ 1 → s.canon = true → exec (.pllStart p) s = .next
    (showPll (((s.set Reg.CLK_Pp_STATUS_BAND b p.val).setB Reg.CLK_Pp_STATUS_BAND_ERR false p.val).modPll p.val
      (fun q => { q with on := true, refHold := !s.refOk && decide (p.val < 2), bw := s.get Reg.CLK_Pp_CFG_BW p.val, ppt := 0 })))) ∧
  (∀ (s : State) (p : Fin 3), (s.pll p.val).on = false → s.domAt (47 + p.val) = 0 → s.pllBand p.val = none →
    exec (.pllStart p) s = .next
    (((s.setB Reg.CLK_Pp_STATUS_BAND_ERR true p.val).int Reg.CLK_INT_STATUS_BAND).event.raise 0x74 p.val)) ∧
  (∀ (s : State) (p : Fin 3), (s.pll p.val).on = true → s.is Reg.CLK_Pp_STATUS_LOCK p.val = false → exec (.pllLock p) s = .next
    (showPll ((s.setB Reg.CLK_Pp_STATUS_LOCK true p.val).int Reg.CLK_INT_STATUS (1 + p.val)))) ∧
  (∀ (s : State) (p : Fin 3), s.is Reg.CLK_Pp_STATUS_LOCK p.val = true → s.canon = true → s.refOk = false →
    exec (.pllLockLoss p) s = .next
    (showPll ((s.setB Reg.CLK_Pp_STATUS_LOCK false p.val).int Reg.CLK_INT_STATUS (1 + p.val)))) ∧
  (∀ (s : State) (p : Fin 3), s.is Reg.CLK_Pp_STATUS_LOCK p.val = true → exec (.pllHoldEnd p) s = .next
    (showPll (s.modPll p.val (fun q => { q with lockHold := false })))) ∧
  (∀ (s : State) (p : Fin 3), exec (.pllBwChange p) s = .next
    ((s.modPll p.val (fun q => { q with bw := s.get Reg.CLK_Pp_CFG_BW p.val })))) ∧
  (∀ (s : State) (p : Fin 3), p.val < 2 → 0 < sext 16 (s.get Reg.CLK_Pp_PHASE_PENDING p.val) → exec (.phaseStepUnit p) s = .next
    ((s.set Reg.CLK_Pp_PHASE_PENDING (toTwos 16 (sext 16 (s.get Reg.CLK_Pp_PHASE_PENDING p.val) - 1)) p.val).modPll p.val (fun q => { q with phase := q.phase + 1 }))) ∧
  (∀ (s : State) (p : Fin 3), p.val < 2 → sext 16 (s.get Reg.CLK_Pp_PHASE_PENDING p.val) < 0 → exec (.phaseStepUnit p) s = .next
    ((s.set Reg.CLK_Pp_PHASE_PENDING (toTwos 16 (sext 16 (s.get Reg.CLK_Pp_PHASE_PENDING p.val) + 1)) p.val).modPll p.val (fun q => { q with phase := q.phase - 1 }))) ∧
  (∀ (s : State) (p : Fin 3) (segs : List (Word × Word)), p.val < 2 → (nth segs 0 (0#32, 0#32)).2 ≠ 0#32 →
    exec (.rampLoad p segs) s = .next ((s.forN 8 (fun u k => (u.setWord Reg.CLK_Pp_RAMPs_SLOPE (nth segs k (0#32,
    0#32)).1 p.val k).setWord Reg.CLK_Pp_RAMPs_DUR
      (nth segs k (0#32, 0#32)).2 p.val k)).rampSeg p.val 1 (s.pptNow p.val))) ∧
  (∀ (s : State) (p : Fin 3), p.val < 2 → s.get Reg.CLK_Pp_STATUS_SEG p.val = 0 → exec (.rampSegmentEnd p) s = .next (s)) ∧
  (∀ (s : State) (p : Fin 3), p.val = 1 → s.get Reg.CLK_Pp_STATUS_SEG p.val = 8 → exec (.rampSegmentEnd p) s = .next
    (rampDone 1 (s.rampSeg 1 0 ((s.pll 1).ppt + sext 32 (s.word Reg.CLK_Pp_RAMPs_SLOPE 1 7).toNat * ((s.word Reg.CLK_Pp_RAMPs_DUR 1 7).toNat : Int))))) ∧
  (∀ (s : State) (n : Fin 2), exec (.mclkConfig n) s = .next
    ({ s with clk := { s.clk with mclk := setNth s.clk.mclk n.val (s.word Reg.CLK_MCLKn_CFG n.val) } })) ∧
  (∀ (s : State) (p : Fin 3) (g : Nat), p.val < 2 → s.get Reg.CLK_Pp_STATUS_SEG p.val = g + 1 → g < 7 →
    s.word Reg.CLK_Pp_RAMPs_DUR p.val (g + 1) ≠ 0#32 → p.val = 1 ∨ s.outputsActive = false → exec (.rampSegmentEnd p) s = .next
    (s.rampSeg p.val (g + 2) ((s.pll p.val).ppt + sext 32 (s.word Reg.CLK_Pp_RAMPs_SLOPE p.val g).toNat * ((s.word Reg.CLK_Pp_RAMPs_DUR p.val g).toNat : Int)))) ∧
  (∀ (s : State) (p : Fin 3) (segs : List (Word × Word)), 2 ≤ p.val → exec (.rampLoad p segs) s = .next (s)) ∧
  (∀ (s : State) (p : Fin 3), s.is Reg.CLK_Pp_STATUS_LOCK p.val = true → s.canon = true → s.refOk = true →
    exec (.pllLockLoss p) s = .next
      (showPll (((((s.setLock p.val false).stopRamp p.val).modPll p.val (fun q => { q with lockHold := true })).event.raise (0x71 + p.val) p.val)))) ∧
  (∀ (s : State) (b : Nat), (s.pll 1).on = false → s.domAt 48 = 0 → s.pllBand 1 = some b → s.canon = true →
    exec (.pllStart 1) s = .next (showPll
    ((((s.set Reg.CLK_Pp_STATUS_BAND b 1).setB Reg.CLK_Pp_STATUS_BAND_ERR false 1).set Reg.CLK_P1_DIV_K (switchK (s.get Reg.PWR_SW_FREQ_HZ) (s.pwr.swSsc = 1))).modPll 1
      (fun q => { q with on := true, refHold := !s.refOk, bw := s.get Reg.CLK_Pp_CFG_BW 1, ppt := 0 })))) ∧
  (∀ (s : State) (p : Fin 3) (g n : Nat) (d : Int), p.val = 0 → s.get Reg.CLK_Pp_STATUS_SEG 0 = g + 1 → g < 7 →
    s.word Reg.CLK_Pp_RAMPs_DUR 0 (g + 1) ≠ 0#32 →
    s.outputsActive = true → n = (s.word Reg.CLK_Pp_RAMPs_DUR 0 g).toNat →
      d = sext 32 (s.word Reg.CLK_Pp_RAMPs_SLOPE 0 g).toNat →
    exec (.rampSegmentEnd p) s = .next (s.rampSeg 0 (g + 2) ((s.pll 0).ppt +
      max (-((s.get Reg.CLK_MEDIA_SLEW_RATE * n / 10 : Nat) : Int)) (min ((s.get Reg.CLK_MEDIA_SLEW_RATE * n / 10 : Nat) : Int) (d * (n : Int))))))

/-- Analog converters and outputs (R404 to R418). ADC_GAIN_APPLY of a pending gain takes it. ADC_SETTLED after the settling
ticks starts the ramp; ADC_RAMP_END after 64 ticks ends both, with ADC_SETTLED. OUT_RAMP_END: a ramp up that is complete
ends; a ramp down at 0 ends HELD. OUT_POWER_UP_END of output 2 or 3 powering up: HELD, and starting at once where that was
asked; of outputs 0 and 1, powering up together without a start: both HELD; of one not powering up it changes nothing.
OUT_POWER_DOWN_END ends the power-down of every output of the amplifier and follows it up. CP_FAIL: CP_OK 0, 0x61, CP_FAIL,
every output OFF with its line emptied. CP_RECOVER: CP_OK 1 and the outputs are followed up. OUT_SHORT not shown yet: SHORT,
0x60, OUT_SHORT; OUT_SHORT_END: SHORT 0. JACK_ACCEPT of a level that differs is noted with JACK and shown with what it mutes.
Where a clause leaves the state as it is because a condition of the row does not hold, that is the model's choice (log entry
1). Under each condition named exec answers a next state: adcGainApply, adcSettled, adcRampEnd, outRampEnd, outPowerUpEnd,
outPowerDownEnd, cpFail, cpRecover, outShort, jackAccept, outShortEnd. -/
def Obligations.AnalogEventsTakeEffect : Prop :=
  (∀ (s : State) (n : Fin 4), s.is Reg.ANA_ADCn_STAT_GAIN_PEND n.val = true → exec (.adcGainApply n) s = .next
    ((s.modAdc n.val (fun c => { c with gain := s.get Reg.ANA_ADCn_CFG_GAIN n.val })).setB Reg.ANA_ADCn_STAT_GAIN_PEND false n.val)) ∧
  (∀ (s : State) (n : Fin 4), s.is Reg.ANA_ADCn_STAT_SETTLING n.val = true → s.is Reg.ANA_ADCn_STAT_RAMPING n.val = false →
    adcZ s.rate ≤ (s.adcCh n.val).ticks → exec (.adcSettled n) s = .next
    ((s.modAdc n.val (fun c => { c with ticks := 0 })).setB Reg.ANA_ADCn_STAT_RAMPING true n.val)) ∧
  (∀ (s : State) (n : Fin 4), s.is Reg.ANA_ADCn_STAT_RAMPING n.val = true → 64 ≤ (s.adcCh n.val).ticks →
    exec (.adcRampEnd n) s = .next
    (showSettling (((s.setB Reg.ANA_ADCn_STAT_SETTLING false n.val).setB Reg.ANA_ADCn_STAT_RAMPING false n.val).int Reg.ANA_INT_STATUS_ADC_SETTLED))) ∧
  (∀ (s : State) (n : Fin 4), s.get Reg.ANA_OUTn_STAT_RAMP n.val = 1 → (s.outCh n.val).len ≤ (s.outCh n.val).pos →
    exec (.outRampEnd n) s = .next (s.set Reg.ANA_OUTn_STAT_RAMP 0 n.val)) ∧
  (∀ (s : State) (n : Fin 4), s.get Reg.ANA_OUTn_STAT_RAMP n.val = 2 → (s.outCh n.val).pos = 0 → exec (.outRampEnd n) s = .next
    ((s.set Reg.ANA_OUTn_STAT_RAMP 0 n.val).setAna n.val 1)) ∧
  (∀ (s : State) (n : Fin 4), 2 ≤ n.val → (s.outCh n.val).up = true → (s.outCh n.val).start = false →
    exec (.outPowerUpEnd n) s = .next ((s.modOut n.val (fun c => { c with up := false, start := false })).setAna n.val 1)) ∧
  (∀ (s : State) (n : Fin 4), 2 ≤ n.val → (s.outCh n.val).up = true → (s.outCh n.val).start = true →
    exec (.outPowerUpEnd n) s = .next
    (((s.modOut n.val (fun c => { c with up := false, start := false })).setAna n.val 1).anaOwnStart n.val)) ∧
  (∀ (s : State) (n : Fin 4), (s.outCh n.val).down = true → exec (.outPowerDownEnd n) s = .next
    (anaFollow ((ampOuts n.val).foldl (fun u k => u.modOut k (fun c => { c with down := false })) s))) ∧
  (∀ s : State, exec .cpFail s = .next
    ((((s.setB Reg.ANA_STATUS_CP_OK false).event.raise 0x61 0).int Reg.ANA_INT_STATUS_CP_FAIL).forN 4 (fun u n =>
      ((u.modOut n (fun c => { c with up := false, down := false, start := false, line := [] })).set Reg.ANA_OUTn_STAT_RAMP 0 n).setAna n 0))) ∧
  (∀ s : State, exec .cpRecover s = .next (anaFollow (s.setB Reg.ANA_STATUS_CP_OK true))) ∧
  (∀ (s : State) (n : Fin 4), s.is Reg.ANA_OUTn_STAT_SHORT n.val = false → exec (.outShort n) s = .next
    (((s.setB Reg.ANA_OUTn_STAT_SHORT true n.val).event.raise 0x60 n.val).int Reg.ANA_INT_STATUS_OUT_SHORT)) ∧
  (∀ (s : State) (n : Fin 4), exec (.outShortEnd n) s = .next (s.setB Reg.ANA_OUTn_STAT_SHORT false n.val)) ∧
  (∀ (s : State) (b : Fin 7) (h : Bool), nth s.ana.jack b.val true ≠ h → exec (.jackAccept b h) s = .next
    (jackShow (({ s with ana := { s.ana with jack := setNth s.ana.jack b.val h } } : State).int Reg.ANA_INT_STATUS_JACK))) ∧
  (∀ (s : State) (n : Fin 4), n.val < 2 → (s.outCh 0).up = true → (s.outCh 1).up = true → (s.outCh 0).start = false →
    (s.outCh 1).start = false → exec (.outPowerUpEnd n) s = .next
    ((((s.modOut 0 (fun c => { c with up := false, start := false })).setAna 0 1).modOut 1 (fun c => { c with up := false, start := false })).setAna 1 1)) ∧
  (∀ (s : State) (n : Fin 4), 2 ≤ n.val → (s.outCh n.val).up = false → exec (.outPowerUpEnd n) s = .next (s))

/-- The AES3 receiver (R419 to R425, R435). AES_LOCK while enabled with its domain at L0, and AES_LOCK_LOSS, are what aesLock
does; disabled, AES_LOCK changes nothing. Where LOCK changes, aesLock leaves it as named, NONAUDIO and the queue as they
were. AES_SUBFRAME without lock changes nothing. With lock, no NONAUDIO or VMUTE muting and no error: a first subframe is
kept, with the burst preamble looked for and VALIDITY 0; a second one, VALIDITY 0 before, delivers both as a frame (aesFrame)
and has the preamble looked for likewise. AES_BLOCK_END with lock: the channel status starts anew, clean blocks count one
more where no channel of this one says non-audio and from 0 otherwise. NONAUDIO_END after two clean blocks and 8,192 quiet
frames ends NONAUDIO with its marks and starts the ramp. Where a clause leaves the state as it is because a condition of the
row does not hold, that is the model's choice (log entry 1). Under each condition named exec answers a next state: aesLock,
aesLockLoss, aesSubframe, aesBlockEnd, nonaudioEnd. -/
def Obligations.Aes3ReceiverEventsTakeEffect : Prop :=
  (∀ (s : State), s.is Reg.ANA_AES_CFG_EN = true → s.domAt 53 = 0 → exec .aesLock s = .next (s.aesLock true)) ∧
  (∀ (s : State), s.is Reg.ANA_AES_CFG_EN = false → exec .aesLock s = .next (s)) ∧
  (∀ s : State, exec .aesLockLoss s = .next (s.aesLock false)) ∧
  (∀ (s : State) (b : Bool), s.is Reg.ANA_AES_STAT_LOCK ≠ b → s.canon = true → (s.aesLock b).is Reg.ANA_AES_STAT_LOCK = b ∧
    (s.aesLock b).is Reg.ANA_AES_STAT_NONAUDIO = s.is Reg.ANA_AES_STAT_NONAUDIO ∧ (s.aesLock b).pending = s.pending) ∧
  (∀ (s : State) (b : Bool) (i : Fin 192) (x : BitVec 24) (cs v p c : Bool), s.is Reg.ANA_AES_STAT_LOCK = false →
    exec (.aesSubframe b i x cs v p c) s = .next (s)) ∧
  (∀ (s : State) (i : Fin 192) (x : BitVec 24), s.is Reg.ANA_AES_STAT_LOCK = true → s.is Reg.ANA_AES_CFG_NA_EN = false →
    s.is Reg.ANA_AES_CFG_VMUTE = false → s.canon = true → s.aes.cs.length = 2 →
    exec (.aesSubframe false i x false false false false) s = .next ((({ s.event with
      aes := { s.aes with bad := 0, first := some (sext 24 x.toNat), pa := decide (x.toNat / 256 % 65536 = 0xF872), quiet := if s.aes.pa && decide (x.toNat / 256 % 65536 = 0x4E1F) then 0 else s.aes.quiet } } : State)).setB
      Reg.ANA_AES_STAT_VALIDITY false)) ∧
  (∀ s : State, s.is Reg.ANA_AES_STAT_LOCK = true → ∃ t, exec .aesBlockEnd s = .next t ∧ t.aes.cs = [0, 0] ∧
    t.aes.held = s.aes.held ∧
    t.aes.clean = (if s.aes.cs.all (fun w => !bit w 1) then s.aes.clean + 1 else 0) ∧ t.pending = s.pending) ∧
  (∀ (s : State), s.is Reg.ANA_AES_STAT_NONAUDIO = true → 2 ≤ s.aes.clean → 8192 ≤ s.aes.quiet → exec .nonaudioEnd s = .next
    ((fun u : State => { u with aes := { u.aes with ramp := 0 } }) (((s.setB Reg.ANA_AES_STAT_NONAUDIO false).setB
      Reg.ANA_AES_STAT_NA_CS false).setB Reg.ANA_AES_STAT_NA_BURST false))) ∧
  (∀ (s : State) (i : Fin 192) (x : BitVec 24), s.is Reg.ANA_AES_STAT_LOCK = true → s.is Reg.ANA_AES_CFG_NA_EN = false →
    s.is Reg.ANA_AES_CFG_VMUTE = false →
    s.canon = true → s.aes.cs.length = 2 → s.is Reg.ANA_AES_STAT_VALIDITY = false →
    exec (.aesSubframe true i x false false false false) s = .next (aesFrame (s.aes.first,
      some (sext 24 x.toNat)) (State.setB ({ s.event with aes := { s.aes with
      bad := 0, first := none, pa := decide (x.toNat / 256 % 65536 = 0xF872),
        quiet := if s.aes.pa && decide (x.toNat / 256 % 65536 = 0x4E1F) then 0 else s.aes.quiet } })
      Reg.ANA_AES_STAT_VALIDITY false)))

/-- Serial audio ports (R429 to R435, R438). SAP_FRAME of a port that neither runs nor is enabled changes nothing; with its
clocks, of a locked leader without capture or playback, it takes the slots of the frame, cut to the data width, and leaves
the registers, the memories and the queue. SAP_LOCK of a running follower whose rate fits, its domain at L0, after 16 good
frames in a row, locks it; of a port that does not run it changes nothing. SAP_LOCK_LOSS of a locked follower ends the lock,
counts the loss, empties what was received and raises 0x64. RATE_MEASURE of port 0 to 2: not running and not enabled,
nothing; of a leader in lock whose references agree, the engine's rate and its class. RATE_MEASURE of the AES3 receiver shows
the rate, and its class while in lock, and leaves the queue. Where a clause leaves the state as it is because a condition of
the row does not hold, that is the model's choice (log entry 1). Under each condition named exec answers a next state:
sapFrame, sapLock, sapLockLoss, rateMeasure. -/
def Obligations.SerialAudioEventsTakeEffect : Prop :=
  (∀ (s : State) (n : Fin 3) (rx : List Nat) (c : Bool), s.is Reg.SAPn_STAT_RUN n.val = false →
    s.is Reg.SAPn_CFG_EN n.val = false → exec (.sapFrame n rx c) s = .next (s)) ∧
  (∀ (s : State) (n : Fin 3) (rx : List Nat), s.is Reg.SAPn_STAT_RUN n.val = true → s.is Reg.SAPn_STAT_LOCK n.val = true →
    s.is Reg.SAPn_CFG_LEADER n.val = true → s.is Reg.SAPn_CFG_EN n.val = true → s.is Reg.SAPn_CAP_CFG_EN n.val = false →
    s.is Reg.SAPn_PB_CFG_EN n.val = false → s.canon = true → ∃ t, exec (.sapFrame n rx true) s = .next t ∧ t.regs = s.regs ∧
      t.mem = s.mem ∧ t.pending = s.pending ∧
      (n.val < s.sap.length →
        (t.sp n.val).rx = (rx.take (s.sapSlots n.val)).map (· % 2 ^ widthBits (s.get Reg.SAPn_CFG_DATA_BITS n.val)))) ∧
  (∀ (s : State) (n : Fin 3), s.is Reg.SAPn_CFG_EN n.val = true → s.is Reg.SAPn_STAT_RUN n.val = true →
    s.is Reg.SAPn_CFG_LEADER n.val = false → s.is Reg.SAPn_STAT_RATE_BAD n.val = false → s.domAt 53 = 0 →
    16 ≤ (s.sp n.val).good → exec (.sapLock n) s = .next (s.sapLock n.val true)) ∧
  (∀ (s : State) (n : Fin 3), s.is Reg.SAPn_STAT_RUN n.val = false → exec (.sapLock n) s = .next (s)) ∧
  (∀ (s : State) (n : Fin 3), s.is Reg.SAPn_CFG_LEADER n.val = false → s.is Reg.SAPn_STAT_LOCK n.val = true →
    exec (.sapLockLoss n) s = .next
    ((((s.sapLock n.val false).inc Reg.SAPn_ERR_LOSS n.val).modSap n.val (fun p => { p with rx := [], good := 0 })).event.raise 0x64 n.val)) ∧
  (∀ (s : State) (n : Fin 4) (r : Fin 33554432), n.val < 3 → s.is Reg.SAPn_STAT_RUN n.val = false →
    s.is Reg.SAPn_CFG_EN n.val = false → exec (.rateMeasure n r) s = .next (s)) ∧
  (∀ (s : State) (r : Fin 33554432), s.canon = true → ∃ t, exec (.rateMeasure 3 r) s = .next t ∧
    t.get Reg.ANA_AES_RATE_RATE = r.val ∧
    t.get Reg.ANA_AES_STAT_CLASS = (if s.is Reg.ANA_AES_STAT_LOCK then rateClass r.val else 0) ∧ t.pending = s.pending) ∧
  (∀ (s : State) (n : Fin 4) (r : Fin 33554432), n.val < 3 → s.is Reg.SAPn_STAT_RUN n.val = true →
    s.is Reg.SAPn_CFG_LEADER n.val = true → s.canon = true →
    s.get Reg.SAPn_RATE_REF_RATE n.val = 100 * rateHz s.rate → s.is Reg.SAPn_STAT_LOCK n.val = true →
      s.get Reg.SAPn_STAT_CLASS n.val = rateClass (100 * rateHz s.rate) →
    exec (.rateMeasure n r) s = .next
      (((s.set Reg.SAPn_RATE_RATE (100 * rateHz s.rate) n.val).setB Reg.SAPn_STAT_RATE_BAD false n.val).set
      Reg.SAPn_STAT_CLASS (rateClass (100 * rateHz s.rate)) n.val))

/-- Auxiliary converters (R446 to R451, R458). AUX_UPDATE that is not due changes nothing. A due one in NORMAL mode from the
queue, nothing asked for and no profile in use: the next sample becomes the code, leaves the queue and the update is noted at
KS_COUNT (shown where that does not leave the queue at its low mark); an empty queue keeps the code and counts UNDER. Both
leave the command queue. AUX_START_END in START mode after START_TICKS does the update's work; in another mode it changes
nothing. AUX_SHORT not shown yet: SHORT, 0x65 and its interrupt; AUX_SHORT_END: SHORT 0. Where a clause leaves the state as
it is because a condition of the row does not hold, that is the model's choice (log entry 1). Under each condition named exec
answers a next state: auxUpdate, auxStartEnd, auxShort, auxShortEnd. -/
def Obligations.AuxConverterEventsTakeEffect : Prop :=
  (∀ (s : State) (n : Fin 4), s.auxDue n.val = false → exec (.auxUpdate n) s = .next (s)) ∧
  (∀ (s : State) (n : Fin 4) (v : Nat) (r : List Nat), s.auxDue n.val = true → s.auxNext n.val = none → s.auxMode n.val = 2 →
    (s.ax n.val).req = 0 → (s.ax n.val).sync = false → nth s.auxRec n.val false = false → s.get Reg.AUXn_CFG_SRC n.val = 0 →
    (s.ax n.val).queue = v :: r → r.length ≠ s.get Reg.AUXn_CFG_LOW_MARK n.val → n.val < s.aux.length → s.canon = true →
      v < 65536 →
    ∃ t, exec (.auxUpdate n) s = .next t ∧ t.get Reg.AUXn_STATE_CODE n.val = v ∧ (t.ax n.val).queue = r ∧
      (t.ax n.val).done = some s.ks.count ∧ t.pending = s.pending) ∧
  (∀ (s : State) (n : Fin 4), s.auxDue n.val = true → s.auxNext n.val = none → s.auxMode n.val = 2 → (s.ax n.val).sync = false →
    nth s.auxRec n.val false = false → s.get Reg.AUXn_CFG_SRC n.val = 0 → (s.ax n.val).queue = [] → n.val < s.aux.length →
      s.canon = true →
    ∃ t, exec (.auxUpdate n) s = .next t ∧ t.get Reg.AUXn_STATE_CODE n.val = s.get Reg.AUXn_STATE_CODE n.val ∧
      t.get Reg.AUXn_QSTAT_UNDER n.val = satInc (2 ^ (Reg.AUXn_QSTAT_UNDER.hi + 1 - Reg.AUXn_QSTAT_UNDER.lo) - 1) (s.get Reg.AUXn_QSTAT_UNDER n.val) ∧
      t.pending = s.pending) ∧
  (∀ (s : State) (n : Fin 4), s.auxMode n.val ≠ 1 → exec (.auxStartEnd n) s = .next (s)) ∧
  (∀ (s : State) (n : Fin 4), s.auxMode n.val = 1 → s.get Reg.AUXn_HOLD_START_TICKS n.val ≤ s.ks.count - (s.ax n.val).entered →
    exec (.auxStartEnd n) s = .next (auxUpdate n.val s)) ∧
  (∀ (s : State) (n : Fin 4), s.is Reg.AUXn_STATE_SHORT n.val = false → exec (.auxShort n) s = .next
    (((s.setB Reg.AUXn_STATE_SHORT true n.val).event.raise 0x65 n.val).auxInt n.val 3)) ∧
  (∀ (s : State) (n : Fin 4), exec (.auxShortEnd n) s = .next (s.setB Reg.AUXn_STATE_SHORT false n.val))

/-- Power domains and sleep (R555 to R574). DOMAIN_IDLE_DESCEND of a domain at L0, not waking or held and asked for by
nobody, goes to its target, or to L1 where it has a floor; at L1 a domain below 43, but 41, keeps memories and registers.
DOMAIN_DEMAND_WAKE of one not at L0 and not waking starts its wake and counts it; at L0 it changes nothing. DOMAIN_WAKE_DONE
of a waking domain brings it up (domUp) and lets waiting accesses go on. SLEEP_ENTRY_READY: no entry, or a tick under way,
nothing; with no output active and none under way, the entry ends in SLEEP 1, or 2 with storage. WAKE_N_PIN disabled changes
nothing; enabled, it ends a network sleep with cause 2 (networkWake), or starts the wake from storage. SBUS_ACTIVITY,
enabled, ends a network sleep with cause 4. LINK_ENERGY, enabled, starts the wake from storage with cause 6; without storage
it changes nothing. STORAGE_WAKE_READY in that wake leaves the ring quiet and waking; otherwise it changes nothing. Where a
clause names no whole state, the queue is kept. SLEEP_ENTER of a due sleep leaves the entry begun, SILENCE_RESUME the quiet
ended, RING_SLEEP at the coordinator the sleep planned and sent three times, RING_WAKE, enabled, in an entry, the node awake
with cause 5 (R290, R291, R294, R571). Where a clause leaves the state as it is because a condition of the row does not hold,
that is the model's choice (log entry 1). Under each condition named exec answers a next state: sleepEnter, silenceResume,
ringSleep, ringWake, domainIdleDescend, domainDemandWake, domainWakeDone, sleepEntryReady, wakeNPin, linkEnergy,
sbusActivity, storageWakeReady. -/
def Obligations.DomainEventsTakeEffect : Prop :=
  (∀ (s : State) (d : Fin 60), (s.domn d.val).waking = false → (s.domn d.val).sleepHold = false → s.domAt d.val = 0 →
    s.domKeep d.val = false → s.domTarget d.val ≠ 0 → s.floored d.val = false → exec (.domainIdleDescend d) s = .next
    (domDown d.val (s.domTarget d.val) s)) ∧
  (∀ (s : State) (d : Fin 60), (s.domn d.val).waking = false → (s.domn d.val).sleepHold = false → s.domAt d.val = 0 →
    s.domKeep d.val = false → s.domTarget d.val ≠ 0 → s.floored d.val = true → exec (.domainIdleDescend d) s = .next
    (domDown d.val 1 s)) ∧
  (∀ (s : State) (d : Fin 60), s.domAt d.val = 0 → d.val < 43 → d.val ≠ 41 → d.val < s.dom.doms.length →
    (domDown d.val 1 s).domAt d.val = 1 ∧ (domDown d.val 1 s).mem = s.mem ∧ (domDown d.val 1 s).regs = s.regs) ∧
  (∀ (s : State) (d : Fin 60), s.domAt d.val ≠ 0 → (s.domn d.val).waking = false → exec (.domainDemandWake d) s = .next
    ((s.modDom d.val (fun x => { x with waking := true })).inc Reg.DOM_Dnn_CNT_WAKES d.val)) ∧
  (∀ (s : State) (d : Fin 60), s.domAt d.val = 0 → exec (.domainDemandWake d) s = .next (s)) ∧
  (∀ (s : State) (d : Fin 60), (s.domn d.val).waking = true → exec (.domainWakeDone d) s = .next
    (resume (domUp applyReg d.val s))) ∧
  (∀ (s : State), s.dom.entering = false → exec .sleepEntryReady s = .next (s)) ∧
  (∀ s : State, s.dom.entering = true → s.outputsActive = false → (s.ks.running = true → s.ks.committed = true) →
    s.canon = true → ∃ t, exec .sleepEntryReady s = .next t ∧
    t.dom.entering = false ∧ t.get Reg.DOM_STATUS_SLEEP = (if s.is Reg.DOM_STATUS_STORAGE then 2 else 1) ∧
      t.pending = s.pending) ∧
  (∀ (s : State), bit (s.word Reg.DOM_WAKE_EN).toNat 5 = false → exec .wakeNPin s = .next (s)) ∧
  (∀ (s : State), bit (s.word Reg.DOM_WAKE_EN).toNat 5 = true → s.sleepCode = 1 → s.dom.entering = false →
    exec .wakeNPin s = .next (networkWake 2 false (s.set Reg.DOM_STATUS_CAUSE 2))) ∧
  (∀ (s : State), bit (s.word Reg.DOM_WAKE_EN).toNat 4 = true → s.sleepCode = 1 → s.dom.entering = false →
    exec .sbusActivity s = .next (networkWake 4 false (s.set Reg.DOM_STATUS_CAUSE 4))) ∧
  (∀ (s : State) (p : Fin 3), bit (s.word Reg.DOM_WAKE_EN).toNat p.val = true → s.sleepCode = 2 →
    s.is Reg.DOM_STATUS_STORAGE = true → s.dom.entering = false → exec (.linkEnergy p) s = .next
    (storageWake (s.set Reg.DOM_STATUS_CAUSE 6))) ∧
  (∀ (s : State) (p : Fin 3), s.is Reg.DOM_STATUS_STORAGE = false → exec (.linkEnergy p) s = .next (s)) ∧
  (∀ (s : State) (ns ms : Nat), s.sleepCode = 3 → s.dom.entering = false → s.is Reg.DOM_STATUS_STORAGE = true →
    ∃ t, exec (.storageWakeReady ns ms) s = .next t ∧ t.rct.quiet = true ∧ t.rct.wakeStart = true ∧ t.pending = s.pending) ∧
  (∀ (s : State) (ns ms : Nat), s.sleepCode ≠ 3 → exec (.storageWakeReady ns ms) s = .next (s)) ∧
  (∀ s : State, bit (s.word Reg.DOM_WAKE_EN).toNat 5 = true → s.sleepCode = 2 → s.is Reg.DOM_STATUS_STORAGE = true →
    s.dom.entering = false →
    exec .wakeNPin s = .next (storageWake (s.set Reg.DOM_STATUS_CAUSE 2))) ∧
  (∀ (s : State) (m : Nat), s.sleepDue = some m → s.asleep = false → s.canon = true → ∃ t, exec .sleepEnter s = .next t ∧
    t.dom.entering = true ∧ t.dom.sleepAt = none ∧ t.sleepCode = 3 ∧ t.pending = s.pending) ∧
  (∀ s : State, s.rct.quiet = true → ∃ t, exec .silenceResume s = .next t ∧ t.rct.quiet = false ∧ t.mem = s.mem ∧
    t.pending = s.pending) ∧
  (∀ (acc : Access) (s : State), s.owns acc 0x80818 = true → s.canon = true → s.isCoord = true → ∃ t,
    exec (.ringSleep acc) s = .next t ∧
    t.dom.sleepAt = some (1 + s.get Reg.RING_CTL_CTRL_SLEEP_MODE, (s.cycleNo + 256) % 2 ^ 32) ∧
      t.rct.seq = (s.rct.seq + 3) % 65536 ∧ t.pending = s.pending) ∧
  (∀ (acc : Access) (s : State), s.owns acc 0x80818 = true → s.canon = true → s.dom.entering = true →
    bit (s.word Reg.DOM_WAKE_EN).toNat 7 = true → ∃ t, exec (.ringWake acc) s = .next t ∧ t.dom.entering = false ∧
      t.sleepCode = 0 ∧
    t.get Reg.DOM_STATUS_CAUSE = 5 ∧ t.pending = s.pending) ∧
  (∀ s : State, s.ks.running = true → s.ks.committed = false → exec .sleepEntryReady s = .next s)

/-- The SPI host port (R490 to R493), the path open and no request under way. SPI_READ, SPI_WRITE, SPI_READ_FIX and
SPI_WRITE_FIX with a good CRC, a width that is not 3, a count of 1 to 256 and as many data as they say run their accesses in
order (runReq). SPI_READ while service core 1 is halted waits (R526). SPI_READ with a bad CRC is answered CRC_ERROR,
SPI_WRITE of width 3 BAD_REQUEST, and neither runs. SPI_STATUS answers the pending interrupts and is kept for REPEAT.
SPI_REPEAT sends the kept response again. SPI_CS_ABORT drops what is being sent. Without an injection a response goes out as
0xA5, its body and the CRC-32C of the body. Under each condition named exec answers a next state: spiRead, spiWrite,
spiReadFix, spiWriteFix, spiStatus, spiRepeat, spiCsAbort. -/
def Obligations.SpiRequestsTakeEffect : Prop :=
  (∀ (s : State) (c : Fin 512) (w : Fin 4) (a : Word), s.pathOpen .spi = true → s.spiBusy = false → w.val ≠ 3 → c.val ≠ 0 →
    c.val ≤ 256 → exec (.spiRead c w a true) s = .next (resume (runReq c.val 0#32 ⟨.spi, .spi, 0, false, 2 ^ w.val, 2 ^ w.val,
    c.val, a.toNat, [], 0, []⟩ s))) ∧
  (∀ (s : State) (c : Fin 512) (w : Fin 4) (a : Word) (d : List Byte), s.pathOpen .spi = true → s.spiBusy = false → w.val ≠ 3 →
    c.val ≠ 0 → c.val ≤ 256 → d.length = c.val * 2 ^ w.val → exec (.spiWrite c w a d true) s = .next
    (resume (runReq c.val 0#32 ⟨.spi, .spi, 0, true, 2 ^ w.val, 2 ^ w.val, c.val, a.toNat, d, 0, []⟩ s))) ∧
  (∀ (s : State) (c : Fin 512) (w : Fin 4) (a : Word), s.pathOpen .spi = true → s.spiBusy = false → w.val ≠ 3 → c.val ≠ 0 →
    c.val ≤ 256 → exec (.spiReadFix c w a true) s = .next (resume (runReq c.val 0#32 ⟨.spi, .spi, 0, false, 0, 2 ^ w.val, c.val,
    a.toNat, [], 0, []⟩ s))) ∧
  (∀ (s : State) (c : Fin 512) (w : Fin 4) (a : Word) (d : List Byte), s.pathOpen .spi = true → s.spiBusy = false → w.val ≠ 3 →
    c.val ≠ 0 → c.val ≤ 256 → d.length = c.val * 2 ^ w.val → exec (.spiWriteFix c w a d true) s = .next
    (resume (runReq c.val 0#32 ⟨.spi, .spi, 0, true, 0, 2 ^ w.val, c.val, a.toNat, d, 0, []⟩ s))) ∧
  (∀ (s : State) (c : Fin 512) (w : Fin 4) (a : Word), s.pathOpen .spi = true → s.spiBusy = false →
    exec (.spiRead c w a false) s = .next (spiSend (spiBody stCrc 0 []) s)) ∧
  (∀ (s : State) (c : Fin 512) (a : Word) (d : List Byte), s.pathOpen .spi = true → s.spiBusy = false →
    exec (.spiWrite c 3 a d true) s = .next (spiSend (spiBody stBad 0 []) s)) ∧
  (∀ (s : State), s.pathOpen .spi = true → s.spiBusy = false → exec (.spiStatus true) s = .next
    (spiSend (spiBody stOk 0 (leBytes 4 s.irqPend)) { s with host := { s.host with spiResp := spiBody stOk 0 (leBytes 4 s.irqPend) } })) ∧
  (∀ (s : State), s.pathOpen .spi = true → s.spiBusy = false → s.host.spiResp ≠ [] → exec (.spiRepeat true) s = .next
    (spiSend s.host.spiResp s)) ∧
  (∀ s : State, exec .spiCsAbort s = .next ({ s with host := { s.host with spiOut := [] } })) ∧
  (∀ (s : State) (b : List Byte), s.flt.inj = none →
    spiSend b s = { s with host := { s.host with spiOut := [0xA5#8] ++ b ++ leBytes 4 (crc32c b) } }) ∧
  (∀ (s : State) (count : Fin 512) (width : Fin 4) (addr : Word) (crcOk : Bool), s.spiBusy = false → s.pathOpen .spi = false →
    s.host.fwRun = true →
    exec (.spiRead count width addr crcOk) s = .next
      { s with host := { s.host with waiting := s.host.waiting ++ [.spi 1 count.val width.val addr.toNat [] crcOk] } })

/-- Flary messages (R495 to R504). What core 1 is to take while it is halted waits (R526). FLARY_DISCOVER that reaches this
node is answered with the eleven words of R499, with no authenticator; with a body it is BAD_REQUEST. For a request that
reaches it, is authentic and new (flaryOk), with its SEQ noted: FLARY_READ, FLARY_WRITE, FLARY_READ_FIX and FLARY_WRITE_FIX
of a good width, count and length run their accesses in order with its tenancy's rights. FLARY_EVENT_SUB with right 3: a time
of 0 ends the requester's subscription, a first one for another time is added; without the right, PERMISSION_ERROR.
FLARY_LOG_READ with right 1 of 1 to 20 records answers those the log has of that range; FLARY_TELEMETRY with right 2 reads
the eight channel states across the barrier, to answer them after the sense frame. FLARY_READ for a tenancy without a key
counts AUTH, raises 0x80 and is AUTH_ERROR. FLARY_EVENT_SEND of a subscription with something risen sends it, authenticated,
and clears it; of none it changes nothing; FLARY_SUB_LAPSE removes one. FLARY_RESPONSE for another node goes on round the
ring, or, relayed by this node, out of the branch port. Where a clause leaves the state as it is because a condition of the
row does not hold, that is the model's choice (log entry 1). Under each condition named exec answers a next state:
flaryDiscover, flaryRead, flaryWrite, flaryReadFix, flaryWriteFix, flaryEventSub, flaryEventSend, flarySubLapse,
flaryLogRead, flaryTelemetry, flaryResponse. -/
def Obligations.FlaryMessagesTakeEffect : Prop :=
  (∀ (s : State) (r : FlaryReq), r.op.val = 1 → s.flaryReach r = true → r.body = [] → exec (.flaryDiscover r) s = .next
    (flaryAnswer r.hdr false stOk 0 (wordsLe ([Reg.IDENT_ID, Reg.IDENT_FW, Reg.IDENT_SERIAL_LO, Reg.IDENT_SERIAL_HI,
    Reg.IDENT_MAC_LO, Reg.IDENT_MAC_HI,
      Reg.RING_DP_POS, Reg.IMG_STATUS, Reg.IMG_EPOCH_ACT_LO, Reg.IMG_EPOCH_ACT_HI,
        Reg.MIX_OVR_STATUS].map (fun f => (s.flaryIn r).word f))) (s.flaryIn r))) ∧
  (∀ (s : State) (r : FlaryReq), r.op.val = 2 → s.flaryOk r = true → 8 ≤ r.body.length → beAt r.body 0 1 ≤ 2 →
    beAt r.body 2 2 ≠ 0 → beAt r.body 2 2 ≤ 256 → r.body.length = 8 + 0 → exec (.flaryRead r) s = .next
    (resume (runReq (beAt r.body 2 2) 0#32 ⟨.flary r.hdr.pack r.branch, r.path, r.ten.val, false, 2 ^ beAt r.body 0 1,
    2 ^ beAt r.body 0 1, beAt r.body 2 2, beAt r.body 4 4, r.body.drop 8, 0, []⟩ (s.flaryAt r)))) ∧
  (∀ (s : State) (r : FlaryReq), r.op.val = 3 → s.flaryOk r = true → 8 ≤ r.body.length → beAt r.body 0 1 ≤ 2 →
    beAt r.body 2 2 ≠ 0 → beAt r.body 2 2 ≤ 256 → r.body.length = 8 + beAt r.body 2 2 * 2 ^ beAt r.body 0 1 →
    exec (.flaryWrite r) s = .next (resume (runReq (beAt r.body 2 2) 0#32 ⟨.flary r.hdr.pack r.branch, r.path, r.ten.val, true,
    2 ^ beAt r.body 0 1, 2 ^ beAt r.body 0 1, beAt r.body 2 2, beAt r.body 4 4, r.body.drop 8, 0, []⟩ (s.flaryAt r)))) ∧
  (∀ (s : State) (r : FlaryReq), r.op.val = 4 → s.flaryOk r = true → 8 ≤ r.body.length → beAt r.body 0 1 ≤ 2 →
    beAt r.body 2 2 ≠ 0 → beAt r.body 2 2 ≤ 256 → r.body.length = 8 + 0 → exec (.flaryReadFix r) s = .next
    (resume (runReq (beAt r.body 2 2) 0#32 ⟨.flary r.hdr.pack r.branch, r.path, r.ten.val, false, 0, 2 ^ beAt r.body 0 1,
    beAt r.body 2 2, beAt r.body 4 4, r.body.drop 8, 0, []⟩ (s.flaryAt r)))) ∧
  (∀ (s : State) (r : FlaryReq), r.op.val = 5 → s.flaryOk r = true → 8 ≤ r.body.length → beAt r.body 0 1 ≤ 2 →
    beAt r.body 2 2 ≠ 0 → beAt r.body 2 2 ≤ 256 → r.body.length = 8 + beAt r.body 2 2 * 2 ^ beAt r.body 0 1 →
    exec (.flaryWriteFix r) s = .next (resume (runReq (beAt r.body 2 2) 0#32 ⟨.flary r.hdr.pack r.branch, r.path, r.ten.val,
    true, 0, 2 ^ beAt r.body 0 1, beAt r.body 2 2, beAt r.body 4 4, r.body.drop 8, 0, []⟩ (s.flaryAt r)))) ∧
  (∀ (s : State) (r : FlaryReq), r.op.val = 6 → s.flaryOk r = true → (s.flaryAt r).hasRight r.ten.val 3 = true →
    r.body = leBytes 4 0 → exec (.flaryEventSub r) s = .next
    (flaryReply r stOk [] { (s.flaryAt r) with ten := { (s.flaryAt r).ten with subs := (s.flaryAt r).ten.subs.filter (fun u => !(u.ten = r.ten.val && u.mac = r.reqMac.toNat)) } })) ∧
  (∀ (s : State) (r : FlaryReq), r.op.val = 6 → s.flaryOk r = true → (s.flaryAt r).hasRight r.ten.val 3 = true →
    r.body.length = 4 → beAt r.body 0 4 ≠ 0 → (s.flaryAt r).ten.subs.all (fun u => u.ten ≠ r.ten.val) = true →
    exec (.flaryEventSub r) s = .next
    (flaryReply r stOk [] { (s.flaryAt r) with ten := { (s.flaryAt r).ten with subs := (s.flaryAt r).ten.subs ++ [⟨r.ten.val, r.reqMac.toNat, beAt r.body 0 4, 0, false, r.relay.toNat⟩] } })) ∧
  (∀ (s : State) (r : FlaryReq), r.op.val = 6 → s.flaryOk r = true → (s.flaryAt r).hasRight r.ten.val 3 = false →
    exec (.flaryEventSub r) s = .next (flaryReply r stPerm [] (s.flaryAt r))) ∧
  (∀ (s : State) (r : FlaryReq), r.op.val = 10 → s.flaryOk r = true → (s.flaryAt r).hasRight r.ten.val 1 = true →
    r.body.length = 6 → beAt r.body 4 2 ≠ 0 → beAt r.body 4 2 ≤ 20 → exec (.flaryLogRead r) s = .next
    (flaryReply r stOk (((s.flaryAt r).ten.log.filter (fun x => decide (beAt r.body 0 4 ≤ x.index) && decide (x.index < beAt r.body 0 4 + beAt r.body 4 2))).flatMap LogRec.bytes) (s.flaryAt r))) ∧
  (∀ (s : State) (r : FlaryReq), r.op.val = 11 → s.flaryOk r = true → (s.flaryAt r).hasRight r.ten.val 2 = true → r.body = [] →
    exec (.flaryTelemetry r) s = .next (resume (runReq 8 0#32 ⟨.telem r.hdr.pack r.branch, .core 3, 0, false, 0x40, 4, 8,
    0xF0114, [], 0, senseFrame (s.flaryAt r)⟩ (s.flaryAt r)))) ∧
  (∀ (s : State) (r : FlaryReq), r.op.val = 2 → s.flaryReach r = true → (s.flaryIn r).hasKey r.ten.val = false →
    exec (.flaryRead r) s = .next
    (flaryAnswer r.hdr false stAuth 0 [] ((((s.flaryIn r).inc Reg.TEN_CNT_AUTH).int Reg.TEN_INT_STATUS_AUTH).raise 0x80 r.ten.val))) ∧
  (∀ (s : State) (k : Nat), s.ten.subs[k]? = none → exec (.flaryEventSend k) s = .next (s)) ∧
  (∀ (s : State) (k : Nat) (u : Sub), s.ten.subs[k]? = some u → u.rose ≠ 0 → s.pathOpen .branch = true →
    ∃ (h : FlaryHdr) (auth body : List Byte), h.op = 7 ∧ h.ten = u.ten ∧ h.reqMac = u.mac ∧ h.relay = u.relay ∧
      body.take 4 = leBytes 4 u.rose ∧
      auth = s.flaryAuth u.ten (h.bytes body.length ++ body) ∧ exec (.flaryEventSend k) s = .next
        (flarySend u.branch h auth body
        { s with free := s.free + 1, ten := { s.ten with subs := setNth s.ten.subs k { u with rose := 0 } } })) ∧
  (∀ (s : State) (k : Nat), exec (.flarySubLapse k) s = .next
    ({ s with ten := { s.ten with subs := s.ten.subs.eraseIdx k } })) ∧
  (∀ (s : State) (r : FlaryReq), 128 ≤ r.op.val → s.linkUp r.port = true → r.branch = false →
    (s.flaryIn r).inService r.port = true → r.target.toNat ≠ (s.flaryIn r).baseMac → r.relay = 0#48 →
    exec (.flaryResponse r) s = .next (flaryPass r (s.flaryIn r))) ∧
  (∀ (s : State) (r : FlaryReq), 128 ≤ r.op.val → s.linkUp r.port = true → r.branch = false →
    (s.flaryIn r).inService r.port = true → r.target.toNat ≠ (s.flaryIn r).baseMac → r.relay.toNat = (s.flaryIn r).baseMac →
    r.relay ≠ 0#48 → (s.flaryIn r).pathOpen .branch = true → exec (.flaryResponse r) s = .next
    ((s.flaryIn r).sendOn 2 (flaryBytes r.reqMac.toNat ((s.flaryIn r).portMac 2) r.hdr r.auth r.body))) ∧
  (∀ (s : State) (r : FlaryReq), r.op.val = 1 → s.flaryReach r = true → r.body ≠ [] → exec (.flaryDiscover r) s = .next
    (flaryAnswer r.hdr false stBad 0 [] (s.flaryIn r))) ∧
  (∀ (s : State) (w : Waiting) (f : State → State), s.pathOpen .spi = false → s.host.fwRun = true →
    core1 w f s = { s with host := { s.host with waiting := s.host.waiting ++ [w] } })

/-- Slots and messages over Flary (R70, R205, R500, R501), for requests that reach this node, authentic and new.
SLOT_XFER_OPEN, SLOT_XFER_CLOSE and SLOT_XFER_VERIFY of tenancy 0, without data, do what the slot controls do, and
SLOT_XFER_DATA at the offset that comes next, up to 1,024 bytes, appends them; each answers that status with the slot's code
and state. SLOT_XFER_OPEN of another tenancy is PERMISSION_ERROR. With right 0, MSG_XFER_OPEN, MSG_XFER_CLOSE,
MSG_XFER_VERIFY and MSG_XFER_DELETE do what the message controls do, and MSG_XFER_DATA at the offset that comes next, up to
1,024 bytes, appends them; each answers that status with the message's. Under each condition named exec answers a next state:
slotXferOpen, slotXferData, slotXferClose, slotXferVerify, msgXferOpen, msgXferData, msgXferClose, msgXferVerify,
msgXferDelete. -/
def Obligations.FlaryTransfersTakeEffect : Prop :=
  (∀ (s : State) (r : FlaryReq), r.op.val = 8 → s.flaryOk r = true → beAt r.body 0 1 = 1 → r.ten.val = 0 → 8 ≤ r.body.length →
    r.body.drop 8 = [] → beAt r.body 1 1 < 2 → exec (.slotXferOpen r) s = .next
    (flaryReply r (slotOpen (beAt r.body 1 1) (s.flaryAt r)).2 (wordsLe [BitVec.ofNat 32 (((slotOpen (beAt r.body 1 1) (s.flaryAt r)).1.slot (beAt r.body 1 1)).code * 256 + ((slotOpen (beAt r.body 1 1) (s.flaryAt r)).1.slot (beAt r.body 1 1)).state)]) (slotOpen (beAt r.body 1 1) (s.flaryAt r)).1.fresh.2)) ∧
  (∀ (s : State) (r : FlaryReq), r.op.val = 8 → s.flaryOk r = true → beAt r.body 0 1 = 2 → r.ten.val = 0 → 8 ≤ r.body.length →
    r.body.length ≤ 1032 → beAt r.body 1 1 < 2 → beAt r.body 4 4 = ((s.flaryAt r).slot (beAt r.body 1 1)).bytes.length →
    exec (.slotXferData r) s = .next (flaryReply r ((slotAppend (beAt r.body 1 1) (r.body.drop 8) (s.flaryAt r),
    stOk)).2 (wordsLe [BitVec.ofNat 32 ((((slotAppend (beAt r.body 1 1) (r.body.drop 8) (s.flaryAt r),
    stOk)).1.slot (beAt r.body 1 1)).code * 256 + (((slotAppend (beAt r.body 1 1) (r.body.drop 8) (s.flaryAt r),
    stOk)).1.slot (beAt r.body 1 1)).state)]) ((slotAppend (beAt r.body 1 1) (r.body.drop 8) (s.flaryAt r), stOk)).1.fresh.2)) ∧
  (∀ (s : State) (r : FlaryReq), r.op.val = 8 → s.flaryOk r = true → beAt r.body 0 1 = 3 → r.ten.val = 0 → 8 ≤ r.body.length →
    r.body.drop 8 = [] → beAt r.body 1 1 < 2 → exec (.slotXferClose r) s = .next
    (flaryReply r (slotClose (beAt r.body 1 1) (s.flaryAt r)).2 (wordsLe [BitVec.ofNat 32 (((slotClose (beAt r.body 1 1) (s.flaryAt r)).1.slot (beAt r.body 1 1)).code * 256 + ((slotClose (beAt r.body 1 1) (s.flaryAt r)).1.slot (beAt r.body 1 1)).state)]) (slotClose (beAt r.body 1 1) (s.flaryAt r)).1.fresh.2)) ∧
  (∀ (s : State) (r : FlaryReq), r.op.val = 8 → s.flaryOk r = true → beAt r.body 0 1 = 4 → r.ten.val = 0 → 8 ≤ r.body.length →
    r.body.drop 8 = [] → beAt r.body 1 1 < 2 → exec (.slotXferVerify r) s = .next
    (flaryReply r (slotVerify (beAt r.body 1 1) (s.flaryAt r)).2 (wordsLe [BitVec.ofNat 32 (((slotVerify (beAt r.body 1 1) (s.flaryAt r)).1.slot (beAt r.body 1 1)).code * 256 + ((slotVerify (beAt r.body 1 1) (s.flaryAt r)).1.slot (beAt r.body 1 1)).state)]) (slotVerify (beAt r.body 1 1) (s.flaryAt r)).1.fresh.2)) ∧
  (∀ (s : State) (r : FlaryReq), r.op.val = 8 → s.flaryOk r = true → beAt r.body 0 1 = 1 → r.ten.val ≠ 0 →
    exec (.slotXferOpen r) s = .next (flaryReply r stPerm [] (s.flaryAt r))) ∧
  (∀ (s : State) (r : FlaryReq), r.op.val = 9 → s.flaryOk r = true → beAt r.body 0 1 = 1 →
    (s.flaryAt r).hasRight r.ten.val 0 = true → 7 ≤ r.body.length → r.body.drop 7 = [] → beAt r.body 1 2 ≤ 1023 →
    exec (.msgXferOpen r) s = .next
    (flaryReply r (msgOp 1 (beAt r.body 1 2) (s.flaryAt r)).2 (wordsLe [(msgOp 1 (beAt r.body 1 2) (s.flaryAt r)).1.msgStatus (beAt r.body 1 2)]) (msgOp 1 (beAt r.body 1 2) (s.flaryAt r)).1)) ∧
  (∀ (s : State) (r : FlaryReq), r.op.val = 9 → s.flaryOk r = true → beAt r.body 0 1 = 2 →
    (s.flaryAt r).hasRight r.ten.val 0 = true → 7 ≤ r.body.length → r.body.length ≤ 1031 → beAt r.body 1 2 ≤ 1023 →
    beAt r.body 1 2 ≠ 0 → beAt r.body 3 4 = ((s.flaryAt r).msg (beAt r.body 1 2)).bytes.length → exec (.msgXferData r) s = .next
    (flaryReply r ((msgAppend (beAt r.body 1 2) (r.body.drop 7) (s.flaryAt r),
    stOk)).2 (wordsLe [((msgAppend (beAt r.body 1 2) (r.body.drop 7) (s.flaryAt r),
    stOk)).1.msgStatus (beAt r.body 1 2)]) ((msgAppend (beAt r.body 1 2) (r.body.drop 7) (s.flaryAt r), stOk)).1)) ∧
  (∀ (s : State) (r : FlaryReq), r.op.val = 9 → s.flaryOk r = true → beAt r.body 0 1 = 3 →
    (s.flaryAt r).hasRight r.ten.val 0 = true → 7 ≤ r.body.length → r.body.drop 7 = [] → beAt r.body 1 2 ≤ 1023 →
    exec (.msgXferClose r) s = .next
    (flaryReply r (msgOp 0 (beAt r.body 1 2) (s.flaryAt r)).2 (wordsLe [(msgOp 0 (beAt r.body 1 2) (s.flaryAt r)).1.msgStatus (beAt r.body 1 2)]) (msgOp 0 (beAt r.body 1 2) (s.flaryAt r)).1)) ∧
  (∀ (s : State) (r : FlaryReq), r.op.val = 9 → s.flaryOk r = true → beAt r.body 0 1 = 4 →
    (s.flaryAt r).hasRight r.ten.val 0 = true → 7 ≤ r.body.length → r.body.drop 7 = [] → beAt r.body 1 2 ≤ 1023 →
    exec (.msgXferVerify r) s = .next
    (flaryReply r (msgOp 3 (beAt r.body 1 2) (s.flaryAt r)).2 (wordsLe [(msgOp 3 (beAt r.body 1 2) (s.flaryAt r)).1.msgStatus (beAt r.body 1 2)]) (msgOp 3 (beAt r.body 1 2) (s.flaryAt r)).1)) ∧
  (∀ (s : State) (r : FlaryReq), r.op.val = 9 → s.flaryOk r = true → beAt r.body 0 1 = 5 →
    (s.flaryAt r).hasRight r.ten.val 0 = true → 7 ≤ r.body.length → r.body.drop 7 = [] → beAt r.body 1 2 ≤ 1023 →
    exec (.msgXferDelete r) s = .next
    (flaryReply r (msgOp 2 (beAt r.body 1 2) (s.flaryAt r)).2 (wordsLe [(msgOp 2 (beAt r.body 1 2) (s.flaryAt r)).1.msgStatus (beAt r.body 1 2)]) (msgOp 2 (beAt r.body 1 2) (s.flaryAt r)).1))

/-- The debug port (R521 to R523). EXTEST, CLAMP and HIGHZ select their register, turn their own reaction on and raise 0x85,
which becomes ACTIVE. IDCODE, SAMPLE_PRELOAD, BYPASS and TAP_RESET select theirs and end that reaction and its source where
they stand. DAW_INSTRUCTION without them selects the DAW register, or the bypass while the port is locked. With the path
open, the DAW register selected and no command under way, DAW_READ and DAW_WRITE are one access of tenancy 0 to their
address, DAW_READ_NEXT and DAW_WRITE_NEXT to the word after the last; after a write that resumes core 1, what waited is
taken. DAW_READ while one is under way is discarded. Where a clause leaves the state as it is because a condition of the row
does not hold, that is the model's choice (log entry 1). Under each condition named exec answers a next state: dawRead,
dawWrite, dawReadNext, dawWriteNext, extest, clamp, highz, idcode, samplePreload, bypass, tapReset, dawInstruction. -/
def Obligations.TestPortCommandsTakeEffect : Prop :=
  (∀ s : State, exec .extest s = .next
    (((fun u : State => { u with flt := { u.flt with ownExt := true } }) { s with host := { s.host with tap := 0 } }).event.raiseActive 0x85 0)) ∧
  (∀ s : State, exec .clamp s = .next
    (((fun u : State => { u with flt := { u.flt with ownExt := true } }) { s with host := { s.host with tap := 4 } }).event.raiseActive 0x85 0)) ∧
  (∀ s : State, exec .highz s = .next
    (((fun u : State => { u with flt := { u.flt with ownExt := true } }) { s with host := { s.host with tap := 5 } }).event.raiseActive 0x85 0)) ∧
  (∀ (s : State), s.flt.ownExt = true → exec .idcode s = .next
    (((fun u : State => { u with flt := { u.flt with ownExt := false } }) { s with host := { s.host with tap := 1 } }).endActive 0x85 0)) ∧
  (∀ (s : State), s.flt.ownExt = true → exec .samplePreload s = .next
    (((fun u : State => { u with flt := { u.flt with ownExt := false } }) { s with host := { s.host with tap := 2 } }).endActive 0x85 0)) ∧
  (∀ (s : State), s.flt.ownExt = true → exec .bypass s = .next
    (((fun u : State => { u with flt := { u.flt with ownExt := false } }) { s with host := { s.host with tap := 255 } }).endActive 0x85 0)) ∧
  (∀ (s : State), s.flt.ownExt = true → exec .tapReset s = .next
    (((fun u : State => { u with flt := { u.flt with ownExt := false } }) { s with host := { s.host with tap := 1 } }).endActive 0x85 0)) ∧
  (∀ (s : State), s.flt.ownExt = false → exec .idcode s = .next ({ s with host := { s.host with tap := 1 } })) ∧
  (∀ (s : State), s.flt.ownExt = false → exec .samplePreload s = .next ({ s with host := { s.host with tap := 2 } })) ∧
  (∀ (s : State), s.flt.ownExt = false → exec .bypass s = .next ({ s with host := { s.host with tap := 255 } })) ∧
  (∀ (s : State), s.flt.ownExt = false → exec .tapReset s = .next ({ s with host := { s.host with tap := 1 } })) ∧
  (∀ (s : State), s.flt.ownExt = false → s.is Reg.DBG_CFG_LOCK = false → exec .dawInstruction s = .next
    ({ s with host := { s.host with tap := 0x20 } })) ∧
  (∀ (s : State), s.flt.ownExt = false → s.is Reg.DBG_CFG_LOCK = true → exec .dawInstruction s = .next
    ({ s with host := { s.host with tap := 0xFF } })) ∧
  (∀ (s : State) (a : Word), s.pathOpen .debug = true → s.host.tap = 0x20 → s.host.dawBusy = false → exec (.dawRead a) s = .next
    (resume (runReq 1 0#32 ⟨.daw, .debug, 0, false, 0, 4, 1, a.toNat, leBytes 4 0, 0,
    []⟩ ({ s with host := { s.host with dawAddr := a.toNat, dawBusy := true } } : State)))) ∧
  (∀ (s : State) (a d : Word), s.pathOpen .debug = true → s.host.tap = 0x20 → s.host.dawBusy = false →
    exec (.dawWrite a d) s = .next (served s (resume (runReq 1 0#32 ⟨.daw, .debug, 0, true, 0, 4, 1, a.toNat, leBytes 4 d.toNat,
    0, []⟩ ({ s with host := { s.host with dawAddr := a.toNat, dawBusy := true } } : State))))) ∧
  (∀ (s : State), s.pathOpen .debug = true → s.host.tap = 0x20 → s.host.dawBusy = false → exec .dawReadNext s = .next
    (resume (runReq 1 0#32 ⟨.daw, .debug, 0, false, 0, 4, 1, ((s.host.dawAddr + 4) % 2 ^ 32), leBytes 4 0, 0,
    []⟩ ({ s with host := { s.host with dawAddr := ((s.host.dawAddr + 4) % 2 ^ 32), dawBusy := true } } : State)))) ∧
  (∀ (s : State) (d : Word), s.pathOpen .debug = true → s.host.tap = 0x20 → s.host.dawBusy = false →
    exec (.dawWriteNext d) s = .next (served s (resume (runReq 1 0#32 ⟨.daw, .debug, 0, true, 0, 4, 1,
    ((s.host.dawAddr + 4) % 2 ^ 32), leBytes 4 d.toNat, 0,
    []⟩ ({ s with host := { s.host with dawAddr := ((s.host.dawAddr + 4) % 2 ^ 32), dawBusy := true } } : State))))) ∧
  (∀ (s : State) (a : Word), s.host.dawBusy = true → exec (.dawRead a) s = .next (s))

/-- Ring control frames (R249 to R263, R274, R275, R282 to R293, R329), in good form and, for flooded types, passed on first.
BEACON_RX: a node of no coordinator, or of this one, and a coordinator it beats, adopt it; a coordinator not beaten re-rolls;
a follower of a better one drops it. CLAIM_RX: an own CLAIM is a return; at TTL 1 it ends here; the best so far at a claiming
node is kept, passed on, and the node waits. ROLL_RX: an own ROLL is a return; off the ring it is dropped; of the
coordinator, new, from a segment in service, it is taken. REPORT_RX is stored under its sender. PLAN_RX of the coordinator,
new, waits for its cycle. SEGMENT_RX loss or return marks that segment; a return of segment 0xFFFF re-rolls. PROBE_RX is
noted, its segment checked. TIMING_REQ_RX for another changes nothing; for this node, where the change is good and none is
asked, it is acknowledged and planned. TIMING_ACK_RX, of its own request or of others, and TIMING_ASSERT_RX plan the change.
STEP_REQ_RX at the coordinator is denied with its reason or granted; with segment 0xFFFF it is not acted on. STEP_GO_RX plans
the step of its ports; STEP_DONE_RX of the last segment ends the step, of another of a step of all segments it is noted;
STEP_DENY_RX ends the request for its segment, and without one changes nothing; STEP_FAIL_RX marks the segment. SLEEP_RX
plans the sleep. WAKE_RX seen before does no more; a new one wakes and goes on through the other port. SNAPSHOT_RX for a
later tick arms. CONTROL_FRAME_BAD counts in CNT_BAD. Under each condition named exec answers a next state: beaconRx,
claimRx, rollRx, reportRx, planRx, segmentRx, probeRx, timingReqRx, timingAckRx, timingAssertRx, stepReqRx, stepGoRx,
stepDoneRx, stepDenyRx, stepFailRx, sleepRx, wakeRx, snapshotRx, controlFrameBad. -/
def Obligations.RingControlFramesTakeEffect : Prop :=
  (∀ (s : State) (b : Bool) (f : List Byte), s.flooded 2 b f = true → (s.ctlNoted b f (cOrigin f)).isCoord = false →
    (s.ctlNoted b f (cOrigin f)).ctl ≠ 4 → (s.ctlNoted b f (cOrigin f)).ctl ≠ 0 → exec (.beaconRx b f) s = .next
    (beaconAdopt f (s.ctlNoted b f (cOrigin f)))) ∧
  (∀ (s : State) (b : Bool) (f : List Byte), s.flooded 2 b f = true → (s.ctlNoted b f (cOrigin f)).isCoord = true →
    cBody f 20 6 ≠ (s.ctlNoted b f (cOrigin f)).baseMac → (s.ctlNoted b f (cOrigin f)).tuple ≤ cBody f 0 8 →
    exec (.beaconRx b f) s = .next (reroll (s.ctlNoted b f (cOrigin f)))) ∧
  (∀ (s : State) (b : Bool) (f : List Byte), s.flooded 2 b f = true → (s.ctlNoted b f (cOrigin f)).isCoord = true →
    cBody f 0 8 < (s.ctlNoted b f (cOrigin f)).tuple → exec (.beaconRx b f) s = .next
    (beaconAdopt f (s.ctlNoted b f (cOrigin f)))) ∧
  (∀ (s : State) (b : Bool) (f : List Byte), s.ctlGood 3 b f = true → (s.ctlSeen b f).inService (b2n b) = true →
    (s.ctlSeen b f).ctlRuns = true → cMac f = (s.ctlSeen b f).baseMac → cNonce f = (s.ctlSeen b f).rct.nonce →
    exec (.claimRx b f) s = .next (claimReturn f (s.ctlSeen b f))) ∧
  (∀ (s : State) (b : Bool) (f : List Byte), s.ctlGood 3 b f = true → (s.ctlSeen b f).inService (b2n b) = true →
    (s.ctlSeen b f).ctlRuns = true → cMac f ≠ (s.ctlSeen b f).baseMac → cTtl f ≤ 1 → exec (.claimRx b f) s = .next
    (s.ctlSeen b f)) ∧
  (∀ (s : State) (b : Bool) (f : List Byte), s.ctlGood 4 b f = true → (s.ctlSeen b f).inService (b2n b) = true →
    (s.ctlSeen b f).ctlRuns = true → cMac f = (s.ctlSeen b f).baseMac → cNonce f = (s.ctlSeen b f).rct.nonce →
    exec (.rollRx b f) s = .next (rollReturn (b2n b) f (s.ctlSeen b f))) ∧
  (∀ (s : State) (b : Bool) (f : List Byte), s.ctlGood 4 b f = true → (s.ctlSeen b f).inService (b2n b) = false →
    exec (.rollRx b f) s = .next (s.ctlSeen b f)) ∧
  (∀ (s : State) (b : Bool) (f : List Byte), s.flooded 5 b f = true → exec (.reportRx b f) s = .next
    (reportAct f (s.ctlActs b f))) ∧
  (∀ (s : State) (b : Bool) (f : List Byte), s.flooded 5 b f = true → (s.ctlNoted b f (cOrigin f)).isCoord = false →
    s.canon = true →
    ∃ t, exec (.reportRx b f) s = .next t ∧ t.pending = s.pending ∧ ∃ r, r ∈ t.rct.reports ∧ r.mac = cMac f ∧
      r.tuple = cBody f 0 8) ∧
  (∀ (s : State) (b : Bool) (f : List Byte) (c : Nat), s.flooded 6 b f = true → (s.ctlActs b f).isCoord = false →
    (s.ctlActs b f).ctl ≠ 0 → (s.ctlActs b f).ctl ≠ 6 → (s.ctlActs b f).rct.coord = some c → tupleMac c = cMac f →
    (readPlan f).id ≠ 0 → (s.ctlActs b f).rdp.plan.map planBody ≠ some (planBody (readPlan f)) →
    (s.ctlActs b f).rct.waiting = [] → exec (.planRx b f) s = .next
    ((follow' (s.ctlActs b f)).modRct (fun r => { r with waiting := [readPlan f], lastId := (readPlan f).id }))) ∧
  (∀ (s : State) (b : Bool) (f : List Byte), s.flooded 7 b f = true → cBody f 2 2 ≠ 0xFFFF → cBody f 0 1 = 2 →
    exec (.segmentRx b f) s = .next ((s.ctlActs b f).segBack (cBody f 2 2))) ∧
  (∀ (s : State) (b : Bool) (f : List Byte), s.flooded 7 b f = true → cBody f 0 1 = 1 → exec (.segmentRx b f) s = .next
    ((s.ctlActs b f).addDown (cBody f 2 2) (cBody f 1 1))) ∧
  (∀ (s : State) (b : Bool) (f : List Byte), s.ctlGood 8 b f = true → exec (.probeRx b f) s = .next
    (serviceCheck (b2n b) ((s.ctlSeen b f).modRct (fun r => { r with probes := setNth r.probes (b2n b) (some (cBody f 0 6, cBody f 6 2, bit (cBody f 18 2) 0)) })))) ∧
  (∀ (s : State) (b : Bool) (f : List Byte), s.flooded 9 b f = true → cBody f 0 1 = 1 → cBody f 2 6 ≠ (s.ctlActs b f).baseMac →
    exec (.timingReqRx b f) s = .next ((s.ctlActs b f))) ∧
  (∀ (s : State) (b : Bool) (f : List Byte), s.flooded 9 b f = true → cBody f 0 1 = 1 → cBody f 2 6 = (s.ctlActs b f).baseMac →
    (s.ctlActs b f).rct.tmReq = none →
    (if (s.ctlActs b f).otherTm (s.ctlActs b f).baseMac (cMac f) = (s.ctlActs b f).baseMac then (s.ctlActs b f).able else (s.ctlActs b f).mayBeTm (cMac f)) = true →
    exec (.timingReqRx b f) s = .next
    (((s.ctlActs b f).modRct (fun r => { r with tmSwitch := some ((s.ctlActs b f).otherTm (s.ctlActs b f).baseMac (cMac f), ((s.ctlActs b f).cycleNo + 256) % 2 ^ 32, false) })).ctlSend 9 (s.ctlActs b f).svc (timingBody 2 (cMac f) ((s.ctlActs b f).cycleNo + 256)))) ∧
  (∀ (s : State) (b : Bool) (f : List Byte), s.flooded 9 b f = true → cBody f 0 1 = 2 → (s.ctlActs b f).rct.tmReq = none →
    exec (.timingAckRx b f) s = .next
    ((s.ctlActs b f).modRct (fun r => { r with tmSwitch := some ((s.ctlActs b f).otherTm (cMac f) (cBody f 2 6), cBody f 8 4, false) }))) ∧
  (∀ (s : State) (b : Bool) (f : List Byte), s.flooded 9 b f = true → cBody f 0 1 = 3 → exec (.timingAssertRx b f) s = .next
    ((s.ctlActs b f).modRct (fun r => { r with tmSwitch := some (cMac f, cBody f 8 4, false) }))) ∧
  (∀ (s : State) (b : Bool) (f : List Byte) (r : Nat), s.flooded 10 b f = true → cBody f 0 1 = 1 →
    (s.ctlActs b f).isCoord = true → cBody f 2 2 ≠ 0xFFFF → (s.ctlActs b f).stepDeny (cBody f 1 1) = some r →
    exec (.stepReqRx b f) s = .next
    ((s.ctlActs b f).ctlSend 10 (s.ctlActs b f).svc (stepBody 4 (cBody f 1 1) (cBody f 2 2) 0 r))) ∧
  (∀ (s : State) (b : Bool) (f : List Byte), s.flooded 10 b f = true → cBody f 0 1 = 1 → (s.ctlActs b f).isCoord = true →
    cBody f 2 2 ≠ 0xFFFF → (s.ctlActs b f).stepDeny (cBody f 1 1) = none → exec (.stepReqRx b f) s = .next
    (stepGrant (cBody f 2 2) (cBody f 1 1) (s.ctlActs b f))) ∧
  (∀ (s : State) (b : Bool) (f : List Byte), s.flooded 10 b f = true → cBody f 0 1 = 2 → (s.ctlActs b f).isCoord = false →
    (s.ctlActs b f).stepMine (cBody f 2 2) ≠ [] → (s.ctlActs b f).rct.stepPorts = [] → exec (.stepGoRx b f) s = .next
    ((s.ctlActs b f).modRct (fun r => { r with stepLocal := some ⟨cBody f 2 2, cBody f 1 1, cBody f 4 4⟩, stepPorts := (s.ctlActs b f).stepMine (cBody f 2 2), stepReq := [nth r.stepReq 0 false && !((s.ctlActs b f).stepMine (cBody f 2 2)).contains 0, nth r.stepReq 1 false && !((s.ctlActs b f).stepMine (cBody f 2 2)).contains 1] }))) ∧
  (∀ (s : State) (b : Bool) (f : List Byte) (g : StepGo), s.flooded 10 b f = true → cBody f 0 1 = 3 →
    (s.ctlActs b f).isCoord = true → (s.ctlActs b f).rct.step = some g → g.segment = cBody f 2 2 → cBody f 2 2 ≠ 0xFFFF →
    (s.ctlActs b f).rct.commit = none → (s.ctlActs b f).rct.stepLeft.filter (· ≠ cBody f 2 2) = [] →
    exec (.stepDoneRx b f) s = .next
    (((s.ctlActs b f).modRct (fun r => { r with step := none, stepLeft := [], stepDoneAt := some (s.ctlActs b f).ks.count, commitSegs := r.commitSegs.filter (· ≠ cBody f 2 2) })).int Reg.RING_CTL_INT_STATUS_STEP)) ∧
  (∀ (s : State) (b : Bool) (f : List Byte), s.flooded 10 b f = true → cBody f 0 1 = 4 →
    nth (s.ctlActs b f).rct.stepReq 0 false = false → nth (s.ctlActs b f).rct.stepReq 1 false = false →
    exec (.stepDenyRx b f) s = .next ((s.ctlActs b f))) ∧
  (∀ (s : State) (b : Bool) (f : List Byte), s.flooded 10 b f = true → cBody f 0 1 = 5 → (s.ctlActs b f).isCoord = true →
    (s.ctlActs b f).rct.step = none → exec (.stepFailRx b f) s = .next ((s.ctlActs b f).addDown (cBody f 2 2) 4)) ∧
  (∀ (s : State) (b : Bool) (f : List Byte), s.flooded 11 b f = true → cBody f 0 1 = 1 ∨ cBody f 0 1 = 2 →
    exec (.sleepRx b f) s = .next
    ({ (s.ctlActs b f) with dom := { (s.ctlActs b f).dom with sleepAt := some (cBody f 0 1, cBody f 4 4) } })) ∧
  (∀ (s : State) (b : Bool) (f : List Byte), s.ctlGood 12 b f = true → (s.ctlSeen b f).ctlFirst f = false →
    exec (.wakeRx b f) s = .next (s.ctlSeen b f)) ∧
  (∀ (s : State) (b : Bool) (f : List Byte), s.ctlGood 12 b f = true → (s.ctlSeen b f).ctlFirst f = true →
    cMac f ≠ (s.ctlSeen b f).baseMac → (wakeBy 1 3 true false true ((s.ctlSeen b f).ctlMark f)).linkUp (1 - b2n b) = true →
    exec (.wakeRx b f) s = .next
    ((wakeBy 1 3 true false true ((s.ctlSeen b f).ctlMark f)).sendOn (1 - b2n b) (ctlPassed f false))) ∧
  (∀ (s : State) (b : Bool) (f : List Byte), s.flooded 13 b f = true → (s.ctlActs b f).get Reg.PORT_SNAP_STATUS_STATE ≠ 1 →
    (s.ctlActs b f).ks.count < cBody f 0 8 → exec (.snapshotRx b f) s = .next
    (((s.ctlActs b f).setWord Reg.PORT_SNAP_LAST_ID (BitVec.ofNat 32 (cBody f 8 4))).snapArm (cBody f 0 8) (cBody f 8 4))) ∧
  (∀ (s : State) (b : Bool) (f : List Byte), s.linkUp (b2n b) = true → beAt f 12 2 = 0x88B5 → ringType f ≠ 1 →
    frameGood f = true → ctlBad f = true → exec (.controlFrameBad b f) s = .next ((s.ctlSeen b f).inc Reg.RING_CTL_CNT_BAD)) ∧
  (∀ (s : State) (b : Bool) (f : List Byte) (c : Nat), s.flooded 2 b f = true → (s.ctlNoted b f (cOrigin f)).isCoord = false →
    (s.ctlNoted b f (cOrigin f)).ctl = 4 → (s.ctlNoted b f (cOrigin f)).rct.coord = some c →
    tupleMac c = tupleMac (cBody f 0 8) → exec (.beaconRx b f) s = .next (beaconAdopt f (s.ctlNoted b f (cOrigin f)))) ∧
  (∀ (s : State) (b : Bool) (f : List Byte) (c : Nat), s.flooded 2 b f = true → (s.ctlNoted b f (cOrigin f)).isCoord = false →
    (s.ctlNoted b f (cOrigin f)).ctl = 4 → (s.ctlNoted b f (cOrigin f)).rct.coord = some c → c < cBody f 0 8 →
    tupleMac c ≠ tupleMac (cBody f 0 8) → tupleMac c ≠ cBody f 20 6 → tupleMac c ≠ (s.ctlNoted b f (cOrigin f)).baseMac →
    exec (.beaconRx b f) s = .next ((s.ctlNoted b f (cOrigin f)))) ∧
  (∀ (s : State) (b : Bool) (f : List Byte) (v : State), s.ctlGood 3 b f = true → (s.ctlSeen b f).inService (b2n b) = true →
    (s.ctlSeen b f).ctlRuns = true → cMac f ≠ (s.ctlSeen b f).baseMac → 1 < cTtl f →
    v = dupMac f ((s.ctlSeen b f).note (cBody f 0 8) none) → v.rct.claims = [] → cBody f 0 8 < v.tuple → v.ctl = 2 →
    exec (.claimRx b f) s = .next
    (((v.modRct (fun r => { r with claims := [(cBody f 0 8, v.cycleNo)] })).ctlPass (b2n b) f id).setCtl 3)) ∧
  (∀ (s : State) (b : Bool) (f : List Byte) (v : State), s.ctlGood 4 b f = true → (s.ctlSeen b f).inService (b2n b) = true →
    (s.ctlSeen b f).inService (1 - b2n b) = true → cMac f ≠ (s.ctlSeen b f).baseMac → 1 < cTtl f →
    v = (s.ctlSeen b f).ctlPass (b2n b) f id → v.ctlRuns = true → cRefl f = false → v.ctlFirst f = true →
    v.rct.coord.map tupleMac = some (cMac f) → exec (.rollRx b f) s = .next (rollTake (b2n b) f (v.ctlMark f))) ∧
  (∀ (s : State) (b : Bool) (f : List Byte), s.flooded 7 b f = true → cBody f 2 2 = 0xFFFF → cBody f 0 1 = 2 →
    exec (.segmentRx b f) s = .next (reroll (s.ctlActs b f))) ∧
  (∀ (s : State) (b : Bool) (f : List Byte), s.flooded 9 b f = true → cBody f 0 1 = 2 →
    (s.ctlActs b f).rct.tmReq = some (cMac f) → cBody f 2 6 = (s.ctlActs b f).baseMac → exec (.timingAckRx b f) s = .next
    ((s.ctlActs b f).modRct (fun r => { r with tmReq := none, tmSwitch := some ((s.ctlActs b f).otherTm (cMac f) (cBody f 2 6), cBody f 8 4, true) }))) ∧
  (∀ (s : State) (b : Bool) (f : List Byte), s.flooded 10 b f = true → cBody f 0 1 = 1 → (s.ctlActs b f).isCoord = true →
    cBody f 2 2 = 0xFFFF → exec (.stepReqRx b f) s = .next ((s.ctlActs b f))) ∧
  (∀ (s : State) (b : Bool) (f : List Byte) (r : Bool), s.flooded 10 b f = true → cBody f 0 1 = 4 →
    (s.ctlActs b f).rct.stepReq = [true, r] → (s.ctlActs b f).segOf 0 = cBody f 2 2 → (s.ctlActs b f).segOf 1 ≠ cBody f 2 2 →
    exec (.stepDenyRx b f) s = .next
      (((s.ctlActs b f).modRct (fun x => { x with stepReq := [false, r] })).int Reg.RING_CTL_INT_STATUS_STEP)) ∧
  (∀ (s : State) (b : Bool) (f : List Byte) (g : StepGo), s.flooded 10 b f = true → cBody f 0 1 = 3 →
    (s.ctlActs b f).isCoord = true →
    (s.ctlActs b f).rct.step = some g → g.segment = 0xFFFF → (s.ctlActs b f).rct.stepLeft.filter (· ≠ cBody f 2 2) ≠ [] →
    exec (.stepDoneRx b f) s = .next
      ((s.ctlActs b f).modRct (fun r => { r with stepDoneAt := some (s.ctlActs b f).ks.count, stepLeft := r.stepLeft.filter (· ≠ cBody f 2 2) })))

/-- Times of ring control (R244, R252 to R294), of a node that runs it and is not hushed where that matters. LISTEN_TIMEOUT
with a class claims; CLAIM_REPEAT sends it again; WAITING_TIMEOUT, and FOLLOWER_TIMEOUT but for a standby, go back to LISTEN;
STANDBY_TAKEOVER of the standby takes over. BEACON_SEND twelve cycles after the last one. REPORT_SEND of a due report.
PLAN_BUILD_TIMEOUT builds the plan; PLAN_RESEND sends the waiting one while sends are left, or the one in effect.
PLAN_EFFECTIVE at the start of a cycle of a locked follower or coordinator puts a due plan into effect; with none waiting,
nothing. TIMING_SWITCH of its own due request changes the timing master, RESULT 1 where this node is it before or after.
TIMING_LAPSE ends a request with RESULT 8. HEAD_LAUNCH_EXPIRE 240 cycles after the last BEACON. SEGMENT_SILENCE takes a
segment in service out of it. HOLD_OFF_DONE sets READY and checks the segment. PROBE_SEND on a link out of service sends its
PROBE, of the plan or without one. SEGMENT_REROLL_TIMEOUT re-rolls for a segment down 120,000 cycles. SILENCE_RESUME after a
wake ends the quiet, and grants the plan's speed at a coordinator whose ports send nothing live. STEP_RETRAIN of a due step
of one port drops its link as STEPPING; STEP_LINK_UP at the granted speed returns it to service with READY; STEP_TIMEOUT ends
its step; without a step none of these does anything. SLEEP_ENTER of a due sleep mutes every output and begins the entry.
Where a clause leaves the state as it is because a condition of the row does not hold, that is the model's choice (log entry
1). Under each condition named exec answers a next state: planEffective, timingSwitch, timingLapse, stepRetrain, stepLinkUp,
stepTimeout, sleepEnter, listenTimeout, claimRepeat, waitingTimeout, followerTimeout, standbyTakeover, beaconSend,
reportSend, planBuildTimeout, planResend, headLaunchExpire, segmentSilence, holdOffDone, probeSend, segmentRerollTimeout,
silenceResume. -/
def Obligations.RingControlTimesTakeEffect : Prop :=
  (∀ (s : State), s.ctl = 1 → s.ctlRuns = true → s.hushed = false → s.able = true → exec .listenTimeout s = .next
    (sendClaim (s.setCtl 2))) ∧
  (∀ (s : State), s.ctl = 2 → s.ctlRuns = true → s.hushed = false → s.able = true → exec .claimRepeat s = .next
    ((fun u : State => (u.ctlSend 3 s.svc (beBytes 8 u.tuple ++ beBytes 8 0)).modRct (fun r => { r with claimSeq := r.seq, claimPorts := s.svc, claimBack := [] })) (s.modRct (fun r => { r with cfg := none })))) ∧
  (∀ (s : State), s.ctl = 3 → s.ctlRuns = true → s.hushed = false → exec .waitingTimeout s = .next (s.setCtl 1)) ∧
  (∀ (s : State), s.ctl = 4 → s.ctlRuns = true → s.hushed = false → s.isStandby = false → exec .followerTimeout s = .next
    (leaveTo 1 s)) ∧
  (∀ (s : State), s.ctl = 4 → s.ctlRuns = true → s.hushed = false → s.isStandby = true → exec .standbyTakeover s = .next
    (takeOver s)) ∧
  (∀ (s : State), s.isCoord = true → s.ctlRuns = true → s.rct.beaconAt + 12 ≤ s.cycleNo → exec .beaconSend s = .next
    (sendBeacon false s)) ∧
  (∀ (s : State), s.ctl = 4 → s.ctlRuns = true → s.svc ≠ [] → s.rct.reportDue = true → exec .reportSend s = .next
    (sendReport s)) ∧
  (∀ (s : State), s.isCoord = true → s.ctlRuns = true → s.rct.building = true → exec .planBuildTimeout s = .next
    (buildPlan s)) ∧
  (∀ (s : State) (p : Plan) (n : Nat), s.isCoord = true → s.ctlRuns = true → s.rct.waiting = [p] → s.rct.sendsLeft = n + 1 →
    exec .planResend s = .next ((s.ctlSend 6 s.svc (planBody p)).modRct (fun r => { r with sendsLeft := n }))) ∧
  (∀ (s : State) (p : Plan), s.isCoord = true → s.ctlRuns = true → s.rct.waiting = [] → s.rdp.plan = some p →
    exec .planResend s = .next (s.ctlSend 6 s.svc (planBody p))) ∧
  (∀ (s : State) (p : Plan), s.ks.count % s.nTicks = 0 → s.ctl = 4 ∨ s.ctl = 5 → s.is Reg.KS_STATUS_LOCK = true →
    s.rct.waiting = [p] → planDue p.effective s.cycleNo = true → exec .planEffective s = .next
    (putPlan p (p.effective % 2 ^ 32 ≠ s.cycleNo % 2 ^ 32) s)) ∧
  (∀ (s : State), s.rct.waiting = [] → exec .planEffective s = .next (s)) ∧
  (∀ (s : State) (m c : Nat) (u : State), s.rct.tmSwitch = some (m, c, true) → cycDue c s.cycleNo = true →
    u = (s.modRct (fun r => { r with tmSwitch := none })).setGm (some m) → s.isTm = true ∨ u.isTm = true →
    exec .timingSwitch s = .next ((u.modRct (fun r => { r with tmLock := some u.cycleNo })).setResult 1)) ∧
  (∀ (s : State) (m : Nat), s.rct.tmReq = some m → exec .timingLapse s = .next
    ((s.modRct (fun r => { r with tmReq := none })).setResult 8)) ∧
  (∀ (s : State), s.rdp.launchOn = true → s.rct.beaconAt + 240 ≤ s.cycleNo → exec .headLaunchExpire s = .next
    ({ s with rdp := { s.rdp with launchOn := false } })) ∧
  (∀ (s : State) (b : Bool), s.inService (b2n b) = true → exec (.segmentSilence b) s = .next (segLost (b2n b) 2 s)) ∧
  (∀ (s : State) (b : Bool), s.inService (b2n b) = false → exec (.segmentSilence b) s = .next (s)) ∧
  (∀ (s : State) (b : Bool), s.linkUp (b2n b) = true → s.inService (b2n b) = false →
    s.is Reg.RING_SEG_PORTp_STEPPING (b2n b) = false → s.heldOff (b2n b) = true → exec (.holdOffDone b) s = .next
    (serviceCheck (b2n b) ((s.setB Reg.RING_SEG_PORTp_READY true (b2n b)).set Reg.RING_SEG_PORTp_HOLD_LEFT 0 (b2n b)))) ∧
  (∀ (s : State) (b : Bool), s.linkUp (b2n b) = true → s.inService (b2n b) = false → s.ctlRuns = true → s.rdp.plan = none →
    exec (.probeSend b) s = .next
    (s.ctlSend 8 [b2n b] (beBytes 6 ((s.rct.coord.map tupleMac).getD 0) ++ beBytes 2 (s.rct.pos.getD 0xFFFF) ++ beBytes 8 0 ++ beBytes 2 0 ++
      beBytes 2 (b2n (s.is Reg.RING_SEG_PORTp_READY (b2n b))) ++ beBytes 4 (min (2 ^ 32 - 1) (s.upTicks (b2n b) * 1000 / rateHz s.rate)) ++ beBytes 8 0))) ∧
  (∀ (s : State), s.isCoord = true → s.rct.segDown.any (fun x => !x.rolled && decide (x.since + 120000 ≤ s.cycleNo)) = true →
    exec .segmentRerollTimeout s = .next
    (reroll (s.modRct (fun r => { r with segDown := r.segDown.map (fun x => { x with rolled := true }) })))) ∧
  (∀ (s : State), s.rct.quiet = true → s.rdp.plan = none → exec .silenceResume s = .next
    (s.modRct (fun r => { r with quiet := false, wakeStep := s.isCoord }))) ∧
  (∀ (s : State), s.rct.stepLocal = none → exec .stepRetrain s = .next (s)) ∧
  (∀ (s : State) (g : StepGo) (p : Nat), s.rct.stepLocal = some g → s.rct.stepPorts = [p] →
    s.is Reg.RING_SEG_PORTp_STEPPING p = false → cycDue g.cycle s.cycleNo = true → exec .stepRetrain s = .next
    (portsUpdate (((linkDown p ((s.setB Reg.RING_SEG_PORTp_STEPPING true p).setB Reg.RING_SEG_PORTp_IN_SERVICE false p)).inc
      Reg.RING_CTL_CNT_STEP).int Reg.RING_CTL_INT_STATUS_SEGMENT))) ∧
  (∀ (s : State) (b : Bool), s.rct.stepLocal = none → exec (.stepLinkUp b) s = .next (s)) ∧
  (∀ (s : State) (b : Bool) (g : StepGo), s.rct.stepLocal = some g → s.is Reg.RING_SEG_PORTp_STEPPING (b2n b) = true →
    s.linkUp (b2n b) = true →
    s.speed (b2n b) = g.speed → s.isCoord = false → s.rdp.plan = none → s.ctlRuns = false → s.rct.stepPorts = [b2n b,
      1 - b2n b] → s.canon = true → ∃ t, exec (.stepLinkUp b) s = .next t ∧
      t.inService (b2n b) = true ∧ t.is Reg.RING_SEG_PORTp_READY (b2n b) = true ∧
        t.is Reg.RING_SEG_PORTp_STEPPING (b2n b) = false ∧
      t.rct.stepPorts = [1 - b2n b] ∧ t.pending = s.pending) ∧
  (∀ (s : State) (b : Bool), s.rct.stepLocal = none → exec (.stepTimeout b) s = .next (s)) ∧
  (∀ (s : State) (b : Bool) (g : StepGo), s.rct.stepLocal = some g → s.is Reg.RING_SEG_PORTp_STEPPING (b2n b) = true →
    s.isCoord = false →
    s.ctlRuns = false → s.rct.stepPorts = [b2n b, 1 - b2n b] → s.canon = true → ∃ t, exec (.stepTimeout b) s = .next t ∧
      t.is Reg.RING_SEG_PORTp_STEPPING (b2n b) = false ∧ t.rct.stepPorts = [1 - b2n b] ∧ nth t.rct.probes (b2n b) none = none ∧
        t.pending = s.pending) ∧
  (∀ (s : State), s.sleepDue = none → exec .sleepEnter s = .next (s)) ∧
  (∀ (s : State) (m : Nat), s.sleepDue = some m → s.asleep = false → exec .sleepEnter s = .next
    (muteOutputs 4095 ((fun u : State => { u with dom := { u.dom with entering := true, resume := maskOf ((List.range 12).filter (fun n => if n < 8 then s.ch n = 3 && !bit s.bst.diag.started n else s.anaSt (n - 8) = 3)) 12 } }) ((({ s with dom := { s.dom with sleepAt := none } } : State).set
      Reg.DOM_STATUS_SLEEP 3).setB Reg.DOM_STATUS_STORAGE (m = 2))))) ∧
  (∀ (s : State) (b : Bool) (p : Plan), s.linkUp (b2n b) = true → s.inService (b2n b) = false → s.ctlRuns = true →
    s.rdp.plan = some p →
    exec (.probeSend b) s = .next
      (s.ctlSend 8 [b2n b] (beBytes 6 ((s.rct.coord.map tupleMac).getD 0) ++ beBytes 2 (s.rct.pos.getD 0xFFFF) ++
      beBytes 8 p.epoch ++ beBytes 2 p.id ++ beBytes 2 (b2n (s.is Reg.RING_SEG_PORTp_READY (b2n b))) ++
      beBytes 4 (min (2 ^ 32 - 1) (s.upTicks (b2n b) * 1000 / rateHz s.rate)) ++ beBytes 8 0))) ∧
  (∀ (s : State) (p : Plan), s.rct.quiet = true → s.rdp.plan = some p → s.isCoord = true → s.ctlRuns = true →
    s.rct.step = none → p.conf.speed ≠ 0 → s.noneLive = true →
    exec .silenceResume s = .next
      (stepGrant 0xFFFF p.conf.speed (s.modRct (fun r => { r with quiet := false, wakeStep := false }))))

/-- Links and speeds (R282, R298 to R310). LINK_DOWN of a link that is down changes nothing; else what a pause held is
dropped and counted, the link's fields and delay end, and on a ring port the ring takes the loss (ringLinkDown). LINK_UP of a
link that is up changes nothing; at the speed that linkSpeed gives, port 2 shows link and speed and keeps the queue, and a
ring port outside a network sleep shows link, speed and CORBEL, counts a changed speed and tells the ring (ringLinkUp).
SPEED_LOWER_REQ without AUTO_LOW, and SPEED_RAISE_REQ without link, change nothing; where load, mode and partner allow, port
2 drops its link to come back at the one other speed, and a ring port requests the step; off the coordinator, with a known
segment, that sends a STEP REQ. PAUSE_RX with HONOUR, not deaf, of a time that is not 0 pauses the port; without HONOUR it is
only counted. PAUSE_END of a paused port sends what was held. PAUSE_BREAK of one makes it deaf, counts 50 with 0x50 and ends
the pause; PAUSE_RECOVER ends the deafness. PORT_LOAD_UPDATE gives at most 1000, without link 0, and keeps the queue.
SEGMENT_SILENCE leaves the segment out of service, HOLD_OFF_DONE its port READY, PROBE_SEND one frame sent, STEP_RETRAIN the
link down as STEPPING, STEP_LINK_UP the segment in service again, STEP_TIMEOUT the step over for the port (R283, R288). Where
a clause leaves the state as it is because a condition of the row does not hold, that is the model's choice (log entry 1).
Under each condition named exec answers a next state: stepRetrain, stepLinkUp, stepTimeout, segmentSilence, linkDown, linkUp,
holdOffDone, probeSend, speedLowerReq, speedRaiseReq, pauseRx, pauseBreak, pauseRecover, pauseEnd, portLoadUpdate. -/
def Obligations.LinkEventsTakeEffect : Prop :=
  (∀ (s : State) (p : Fin 3), s.linkUp p.val = false → exec (.linkDown p) s = .next (s)) ∧
  (∀ s : State, s.linkUp 2 = true → ∃ t, exec (.linkDown 2) s = .next t ∧
    t = ((((((({ s with port := { s.port with held := s.port.held.filter (fun h => h.port ≠ 2) } } : State).setB
    Reg.PORT_Pp_LINK_LINK false 2).setB Reg.PORT_Pp_LINK_PAUSED false 2).set Reg.PORT_Pp_LINK_DELAY_NS 0xFFFF 2).setB Reg.PORT_Pp_LINK_LPI false 2).cnt 2 52).cntBy 2 41
    (s.port.held.filter (fun h => h.port = 2)).length).int Reg.PORT_INT_STATUS_LINK_CHG) ∧
  (∀ (s : State) (p : Fin 3), p.val < 2 → s.linkUp p.val = true → exec (.linkDown p) s = .next
    (ringLinkDown p.val ((((((((({ s with port := { s.port with held := s.port.held.filter (fun h => h.port ≠ p.val) } } : State).setB
    Reg.PORT_Pp_LINK_LINK false p.val).setB Reg.PORT_Pp_LINK_PAUSED false p.val).set Reg.PORT_Pp_LINK_DELAY_NS 0xFFFF p.val).setB Reg.PORT_Pp_LINK_LPI false p.val).cnt p.val 52).cntBy p.val 41
    (s.port.held.filter (fun h => h.port = p.val)).length).int Reg.PORT_INT_STATUS_LINK_CHG).modRct
    (fun r => { r with stepReq := setNth r.stepReq p.val false })))) ∧
  (∀ (s : State) (p : Fin 3) (v : Fin 3) (a : Fin 8), s.linkUp p.val = true → exec (.linkUp p v a) s = .next (s)) ∧
  (∀ (s : State) (v : Fin 3) (a : Fin 8), s.linkUp 2 = false → s.linkSpeed 2 a.val = some v.val → s.canon = true → ∃ t,
    exec (.linkUp 2 v a) s = .next t ∧
    t.linkUp 2 = true ∧ t.speed 2 = v.val ∧ t.port.advert = setNth s.port.advert 2 a.val ∧
      t.port.linked = setNth s.port.linked 2 true ∧ t.port.branchOnly = none ∧ t.pending = s.pending) ∧
  (∀ (s : State) (p : Fin 3), s.is Reg.PORT_Pp_CFG_AUTO_LOW p.val = false → exec (.speedLowerReq p) s = .next (s)) ∧
  (∀ s : State, s.linkUp 2 = true → s.is Reg.PORT_Pp_CFG_AUTO_LOW 2 = true → s.get Reg.PORT_Pp_CFG_MODE 2 = 0 → s.speed 2 = 1 →
    s.aafOn = false →
    s.get Reg.PORT_Pp_LINK_LOAD 2 ≤ s.get Reg.PORT_Pp_SPEED_LOW_PCT 2 → exec (.speedLowerReq 2) s = .next
      (linkDown 2 ((fun u : State => { u with port := { u.port with branchOnly := some 0 } }) (s.int Reg.PORT_INT_STATUS_SPEED_REQ)))) ∧
  (∀ s : State, s.linkUp 2 = true → s.get Reg.PORT_Pp_CFG_MODE 2 = 0 → s.speed 2 = 0 → bit (nth s.port.advert 2 0) 1 = true →
    10 * s.get Reg.PORT_Pp_SPEED_RAISE_PCT 2 ≤ s.get Reg.PORT_Pp_LINK_LOAD 2 → exec (.speedRaiseReq 2) s = .next
      (linkDown 2 ((fun u : State => { u with port := { u.port with branchOnly := some 1 } }) (s.int Reg.PORT_INT_STATUS_SPEED_REQ)))) ∧
  (∀ (s : State) (p : Fin 3), s.linkUp p.val = false → exec (.speedRaiseReq p) s = .next (s)) ∧
  (∀ (s : State) (p : Fin 3) (f : List Byte), s.linkUp p.val = true → isPause f = true → frameGood f = true →
    (s.rxCount p.val f).is Reg.PORT_Pp_CFG_PAUSE_HONOUR p.val = true → nth (s.rxCount p.val f).port.deaf p.val false = false →
    beAt f 16 2 ≠ 0 → exec (.pauseRx p f) s = .next ((s.rxCount p.val f).setB Reg.PORT_Pp_LINK_PAUSED true p.val)) ∧
  (∀ (s : State) (p : Fin 3) (f : List Byte), s.linkUp p.val = true → isPause f = true →
    (s.rxCount p.val f).is Reg.PORT_Pp_CFG_PAUSE_HONOUR p.val = false → exec (.pauseRx p f) s = .next (s.rxCount p.val f)) ∧
  (∀ (s : State) (p : Fin 3), s.is Reg.PORT_Pp_LINK_PAUSED p.val = true → exec (.pauseEnd p) s = .next
    ((s.setB Reg.PORT_Pp_LINK_PAUSED false p.val).flushHeld p.val)) ∧
  (∀ (s : State) (p : Fin 3), s.is Reg.PORT_Pp_LINK_PAUSED p.val = true → exec (.pauseBreak p) s = .next
    (pauseEnd p.val (((({ s with port := { s.port with deaf := setNth s.port.deaf p.val true } } : State).cnt p.val 50).int Reg.PORT_INT_STATUS_PAUSE_BREAK).event.raise 0x50 p.val))) ∧
  (∀ (s : State) (p : Fin 3), exec (.pauseRecover p) s = .next
    ({ s with port := { s.port with deaf := setNth s.port.deaf p.val false } })) ∧
  (∀ (s : State) (p : Fin 3), s.linkUp p.val = false → exec (.portLoadUpdate p) s = .next
    (({ s with port := { s.port with loads := setNth s.port.loads p.val ((nth s.port.wire p.val (0, 0) :: nth s.port.loads p.val []).take 10) } } : State).set Reg.PORT_Pp_LINK_LOAD 0 p.val)) ∧
  (∀ (s : State) (p : Fin 3), s.canon = true → ∃ t, exec (.portLoadUpdate p) s = .next t ∧
    t.get Reg.PORT_Pp_LINK_LOAD p.val ≤ 1000 ∧ t.pending = s.pending) ∧
  (∀ (s : State) (p : Fin 3) (v : Fin 3) (a : Fin 8), p.val < 2 → s.linkUp p.val = false →
    s.linkSpeed p.val a.val = some v.val → s.get Reg.DOM_STATUS_SLEEP ≠ 1 →
    exec (.linkUp p v a) s = .next (ringLinkUp p.val v.val (State.int (State.cntBy ((((({ s with port := { s.port with
      advert := setNth s.port.advert p.val a.val, linked := setNth s.port.linked p.val true,
        wasUp := setNth s.port.wasUp p.val true } } : State).setB Reg.PORT_Pp_LINK_LINK true p.val).set
      Reg.PORT_Pp_LINK_SPEED v.val p.val).setB Reg.PORT_Pp_LINK_CORBEL (s.get Reg.PORT_Pp_CFG_MODE p.val = 4) p.val)) p.val 51
      (b2n (s.speed p.val ≠ v.val && nth s.port.wasUp p.val false))) Reg.PORT_INT_STATUS_LINK_CHG))) ∧
  (∀ (s : State) (p : Fin 3), p.val < 2 → s.ctlRuns = true → s.linkUp p.val = true →
    s.is Reg.PORT_Pp_CFG_AUTO_LOW p.val = true → s.get Reg.PORT_Pp_CFG_MODE p.val = 0 →
    s.speed p.val ≠ 0 → s.stepFree p.val = true → s.rdp.plan.all (fun l => l.fits (s.speed p.val - 1)) = true →
    s.get Reg.PORT_Pp_LINK_LOAD p.val * speedBits (s.speed p.val) ≤ 10 * s.get Reg.PORT_Pp_SPEED_LOW_PCT p.val * speedBits (s.speed p.val - 1) →
    exec (.speedLowerReq p) s = .next (stepRequest p.val (s.speed p.val - 1) (s.int Reg.PORT_INT_STATUS_SPEED_REQ))) ∧
  (∀ (s : State) (p : Fin 3), p.val < 2 → s.ctlRuns = true → s.linkUp p.val = true → s.get Reg.PORT_Pp_CFG_MODE p.val = 0 →
    s.speed p.val < 2 → s.stepFree p.val = true →
    bit (nth s.port.advert p.val 0) (s.speed p.val + 1) = true →
      10 * s.get Reg.PORT_Pp_SPEED_RAISE_PCT p.val ≤ s.get Reg.PORT_Pp_LINK_LOAD p.val →
    exec (.speedRaiseReq p) s = .next (stepRequest p.val (s.speed p.val + 1) (s.int Reg.PORT_INT_STATUS_SPEED_REQ))) ∧
  (∀ (s : State) (p v : Nat), s.segOf p ≠ 0xFFFF → s.isCoord = false → stepRequest p v s =
    (s.modRct (fun r => { r with stepReq := setNth r.stepReq p true })).ctlSend 10 s.svc (stepBody 1 v (s.segOf p) 0 0)) ∧
  (∀ (s : State) (b : Bool), s.inService (b2n b) = true → s.canon = true → ∃ t, exec (.segmentSilence b) s = .next t ∧
    t.inService (b2n b) = false ∧ nth t.rct.probes (b2n b) none = none ∧ t.pending = s.pending) ∧
  (∀ (s : State) (b : Bool), s.linkUp (b2n b) = true → s.inService (b2n b) = false →
    s.is Reg.RING_SEG_PORTp_STEPPING (b2n b) = false →
    s.heldOff (b2n b) = true → nth s.rct.probes (b2n b) none = none → s.canon = true → ∃ t, exec (.holdOffDone b) s = .next t ∧
    t.is Reg.RING_SEG_PORTp_READY (b2n b) = true ∧ t.get Reg.RING_SEG_PORTp_HOLD_LEFT (b2n b) = 0 ∧ t.rct = s.rct ∧
      t.mem = s.mem ∧ t.pending = s.pending) ∧
  (∀ (s : State) (b : Bool), s.linkUp (b2n b) = true → s.inService (b2n b) = false → s.ctlRuns = true → ∃ t,
    exec (.probeSend b) s = .next t ∧
    t.rct.seq = (s.rct.seq + 1) % 65536 ∧ t.mem = s.mem ∧ t.pending = s.pending) ∧
  (∀ (s : State) (g : StepGo) (b : Bool), s.rct.stepLocal = some g → s.rct.stepPorts = [b2n b] →
    s.is Reg.RING_SEG_PORTp_STEPPING (b2n b) = false →
    cycDue g.cycle s.cycleNo = true → s.canon = true → ∃ t, exec .stepRetrain s = .next t ∧ t.linkUp (b2n b) = false ∧
    t.is Reg.RING_SEG_PORTp_STEPPING (b2n b) = true ∧ t.inService (b2n b) = false ∧ t.pending = s.pending) ∧
  (∀ (s : State) (b : Bool) (g : StepGo), s.rct.stepLocal = some g → s.is Reg.RING_SEG_PORTp_STEPPING (b2n b) = true →
    s.linkUp (b2n b) = true →
    s.speed (b2n b) = g.speed → s.rdp.plan = none → s.isCoord = false → s.rct.stepPorts = [b2n b, 1 - b2n b] → s.canon = true →
      ∃ t, exec (.stepLinkUp b) s = .next t ∧
    t.inService (b2n b) = true ∧ t.is Reg.RING_SEG_PORTp_STEPPING (b2n b) = false ∧ t.rct.stepPorts = [1 - b2n b] ∧
      t.pending = s.pending) ∧
  (∀ (s : State) (b : Bool) (g : StepGo), s.rct.stepLocal = some g → s.is Reg.RING_SEG_PORTp_STEPPING (b2n b) = true →
    s.isCoord = false → s.rct.stepPorts = [b2n b, 1 - b2n b] → s.canon = true → ∃ t, exec (.stepTimeout b) s = .next t ∧
    t.is Reg.RING_SEG_PORTp_STEPPING (b2n b) = false ∧ t.rct.stepPorts = [1 - b2n b] ∧ t.pending = s.pending)

/-- IEEE 1722 and 1722.1 on the branch port (R312 to R318). AAF_RX, AECP_COMMAND and ACMP_COMMAND on another port change
nothing. AAF_RX for an enabled stream, tagged or not: one that does not fit counts in BAD with its interrupt; the first good
one, tagged, is taken with its sequence number and its last tick for the stream. AAF_TX sends for each of the eight outgoing
streams in turn; a disabled one, or no link, sends nothing; one with enough staged ticks sends a frame of the header that
R315 gives, with the newest ticks of its interval, and counts its sequence up. AECP_COMMAND ENTITY_AVAILABLE is answered
SUCCESS. ACMP_COMMAND CONNECT_RX: of an unknown stream, answered with status 1; of a known one, allowed, unlocked and with
settings that R314 accepts, it sets the stream up and is answered with what the stream then has. ADP_DISCOVER of every entity
is advertised at once. ADP_AVAILABLE with discovery on advertises and counts; off, it changes nothing. Where a clause leaves
the state as it is because a condition of the row does not hold, that is the model's choice (log entry 1). Under each
condition named exec answers a next state: aafRx, aafTx, aecpCommand, acmpCommand, adpDiscover, adpAvailable. -/
def Obligations.AvbFramesTakeEffect : Prop :=
  (∀ (s : State) (p : Fin 3) (f : List Byte), p.val ≠ 2 → exec (.aafRx p f) s = .next (s)) ∧
  (∀ (s : State) (f : List Byte) (o i : Nat), s.linkUp 2 = true → etherType f = 0x22F0 → 18 < f.length → frameGood f = true →
    o = (if beAt f 12 2 = 0x8100 then 18 else 14) → bit (beAt f (o + 1) 1) 7 = true →
    (List.range 8).find? (fun i => (s.rxCount 2 f).is Reg.PORT_AAFs_CFG_EN i && (s.rxCount 2 f).aafSid i = beAt f (o + 4) 8) = some i →
    (s.rxCount 2 f).aafGood i f = false → exec (.aafRx 2 f) s = .next
    (((s.rxCount 2 f).inc Reg.PORT_AAFs_STAT_BAD i).int Reg.PORT_INT_STATUS_AAF)) ∧
  (∀ (s : State) (f : List Byte) (i : Nat), s.linkUp 2 = true → etherType f = 0x22F0 → 18 < f.length → frameGood f = true →
    bit (beAt f 19 1) 7 = true →
    (List.range 8).find? (fun i => (s.rxCount 2 f).is Reg.PORT_AAFs_CFG_EN i && (s.rxCount 2 f).aafSid i = beAt f 22 8) = some i →
    (s.rxCount 2 f).aafGood i f = true → ((s.rxCount 2 f).aaf i).seen = false → exec (.aafRx 2 f) s = .next
    (((s.rxCount 2 f).modAaf i (fun a => { a with seq := beAt f 20 1, seen := true, lastTick := some (s.rxCount 2 f).ks.count, staged := [((s.rxCount 2 f).ks.count, (s.rxCount 2 f).aafLast i f)] })).srcStream i)) ∧
  (∀ s : State, exec .aafTx s = .next (s.forN 8 (fun u k => aafSend (8 + k) u))) ∧
  (∀ (s : State) (i : Nat), (s.is Reg.PORT_AAFs_CFG_EN i = false ∨ s.linkUp 2 = false) → aafSend i s = s) ∧
  (∀ (s : State) (p : Fin 3) (f : List Byte), p.val ≠ 2 → exec (.aecpCommand p f) s = .next (s)) ∧
  (∀ (s : State) (f : List Byte), s.linkUp 2 = true → frameGood f = true → (s.rxCount 2 f).avdecc = true →
    etherType f = 0x22F0 → beAt f 14 1 = 0xFB → beAt f 15 1 = 0 → beAt f 18 8 = (s.rxCount 2 f).entityId →
    beAt f 36 2 % 32768 = 2 → exec (.aecpCommand 2 f) s = .next
    ((s.rxCount 2 f).fresh.2.avtpCtl (beAt f 6 6) 0xFB 1 0 (slice f 18 20))) ∧
  (∀ (s : State) (p : Fin 3) (f : List Byte), p.val ≠ 2 → exec (.acmpCommand p f) s = .next (s)) ∧
  (∀ (s : State) (f : List Byte), s.linkUp 2 = true → frameGood f = true → (s.rxCount 2 f).avdecc = true →
    etherType f = 0x22F0 → beAt f 14 1 = 0xFC → beAt f 15 1 % 16 = 6 → beAt f 42 8 = (s.rxCount 2 f).entityId →
    (s.rxCount 2 f).descStream 5 (beAt f 52 2) = none → exec (.acmpCommand 2 f) s = .next
    ((s.rxCount 2 f).avtpCtl 0x91E0F0010000 0xFC 7 1 (slice f 18 52))) ∧
  (∀ (s : State) (f : List Byte), s.linkUp 2 = true → frameGood f = true → (s.rxCount 2 f).avdecc = true →
    etherType f = 0x22F0 → beAt f 14 2 % 4096 = 0xA02 → beAt f 18 8 = 0 → exec (.adpDiscover 2 f) s = .next
    (adpAvailable (s.rxCount 2 f))) ∧
  (∀ (s : State), s.avdecc = true → exec .adpAvailable s = .next
    ((fun u : State => { u with port := { u.port with availIndex := (u.port.availIndex + 1) % 2 ^ 32 } }) (adpSend 0 s))) ∧
  (∀ (s : State), s.avdecc = false → exec .adpAvailable s = .next (s)) ∧
  (∀ (s : State) (i n : Nat), s.is Reg.PORT_AAFs_CFG_EN i = true → s.linkUp 2 = true →
    n = aafTicks (bitsOf (s.word Reg.PORT_AAFs_CFG i).toNat 29 29) →
    n ≤ (s.aaf i).staged.length → ∃ body, aafSend i s = (s.modAaf i (fun a => { a with
      seq := if a.seen then (a.seq + 1) % 256 else a.seq, seen := true, lastTick := some s.ks.count,
        staged := [] })).sendOn 2 (withFcs
      (beBytes 6 (s.get Reg.PORT_AAFs_DMAC_LO i + 2 ^ 32 * s.get Reg.PORT_AAFs_DMAC_HI_DMAC i) ++ beBytes 6 (s.portMac 2) ++ beBytes 2 0x8100 ++
      beBytes 2 (s.get Reg.PORT_AAFs_CFG_PCP i * 8192 + s.get Reg.PORT_AAFs_CFG_VID i) ++ beBytes 2 0x22F0 ++ beBytes 1 2 ++ beBytes 1 0x81 ++
      beBytes 1 (if (s.aaf i).seen then ((s.aaf i).seq + 1) % 256 else (s.aaf i).seq) ++ beBytes 1 0 ++ beBytes 8 (s.aafSid i) ++
      beBytes 4 ((s.timeNs ((((s.aaf i).staged.drop ((s.aaf i).staged.length - n)).map (·.1)).headD 0) + 1000 * s.get Reg.PORT_AAFs_TRANSIT_TRANSIT i) % 2 ^ 32) ++ body))) ∧
  (∀ (s u v : State) (f : List Byte) (i : Nat) (w : Word), s.linkUp 2 = true → frameGood f = true → u = s.rxCount 2 f →
    u.avdecc = true → etherType f = 0x22F0 →
    beAt f 14 1 = 0xFC → beAt f 15 1 % 16 = 6 → beAt f 42 8 = u.entityId → u.descStream 5 (beAt f 52 2) = some i →
      u.is Reg.PORT_BR_CFG_AVDECC_WR = true →
    u.port.acquired = none → u.port.locked = none → w = u.cfgWith i (beAt f 66 2) true → u.aafOk i w = true →
    v = (aafCfgWrite i w ((u.setStream i (beAt f 18 8) (beAt f 54 6) (beAt f 66 2 % 4096)).modAaf i (fun a => { a with peer := some (beAt f 34 8) }))).1 →
    exec (.acmpCommand 2 f) s = .next (v.avtpCtl 0x91E0F0010000 0xFC 7 0 (beBytes 8 (v.aafSid i) ++ slice f 26 28 ++
      beBytes 6 (v.get Reg.PORT_AAFs_DMAC_LO i + 2 ^ 32 * v.get Reg.PORT_AAFs_DMAC_HI_DMAC i) ++ beBytes 2 (b2n (v.is Reg.PORT_AAFs_CFG_EN i)) ++
      slice f 62 4 ++ beBytes 2 (v.get Reg.PORT_AAFs_CFG_VID i) ++ beBytes 2 0)))

/-- The service bus (R320 to R324). SBUS_RX while disabled changes nothing; a bad frame is counted, with 22 for a code error
and 18 for an odd nibble with a bad FCS; a good one for this node's address takes the next receive slot (length, time and
bytes), advances HEAD and sets RX, or counts 23 while the ring holds 32. SBUS_TX_DONE with nothing waiting changes nothing;
of a slot outside the pool, TAIL advances with TX_DONE and TX_ERR; sent well, with a length of 60 to 1518, TAIL advances, the
frame is emitted with its FCS, its status becomes 0 and the queue is kept. PLCA_LOSS of a node with PLCA, but node 0, ends
PLCA, counts 49 and raises 0x52; once lost it changes nothing. PLCA_BEACON with PLCA on restores it and counts 48. Where a
clause leaves the state as it is because a condition of the row does not hold, that is the model's choice (log entry 1).
Under each condition named exec answers a next state: sbusRx, sbusTxDone, plcaLoss, plcaBeacon. -/
def Obligations.ServiceBusEventsTakeEffect : Prop :=
  (∀ (s : State) (f : List Byte) (o c : Bool), s.is Reg.SBUS_CFG_EN = false → exec (.sbusRx ⟨f, o, c⟩) s = .next (s)) ∧
  (∀ (s : State) (f : List Byte) (o c : Bool), s.is Reg.SBUS_CFG_EN = true → s.domAt 46 = 0 → frameGood f = false →
    exec (.sbusRx ⟨f, o, c⟩) s = .next
    ((if c then fun u : State => u.cnt 3 22 else id) ((if o && !fcsOk f then fun u : State => u.cnt 3 18 else id) (({ s with port := { s.port with sbusAt := some s.ks.count } } : State).rxCount 3 f)))) ∧
  (∀ (s u : State) (f : List Byte) (a : Nat), s.is Reg.SBUS_CFG_EN = true → s.domAt 46 = 0 → frameGood f = true →
    u = ({ s with port := { s.port with sbusAt := some s.ks.count } } : State).rxCount 3 f → beAt f 0 6 = u.portMac 3 →
    (u.get Reg.SBUS_RX_HEAD_INDEX + 64 - u.get Reg.SBUS_RX_TAIL_INDEX) % 64 ≠ 32 →
      u.sbusSlot Reg.SBUS_RX_BASE (u.get Reg.SBUS_RX_HEAD_INDEX) = some a →
    exec (.sbusRx ⟨f, false, false⟩) s = .next
      (((u.dramWrite a (leBytes 2 (f.take (f.length - 4)).length ++ leBytes 2 0 ++ leBytes 8 u.ks.count ++ leBytes 4 0 ++
      f.take (f.length - 4))).set Reg.SBUS_RX_HEAD_INDEX ((u.get Reg.SBUS_RX_HEAD_INDEX + 1) % 64)).int Reg.SBUS_INT_STATUS_RX)) ∧
  (∀ (s u : State) (f : List Byte) (a : Nat), s.is Reg.SBUS_CFG_EN = true → s.domAt 46 = 0 → frameGood f = true →
    u = ({ s with port := { s.port with sbusAt := some s.ks.count } } : State).rxCount 3 f → beAt f 0 6 = u.portMac 3 →
    (u.get Reg.SBUS_RX_HEAD_INDEX + 64 - u.get Reg.SBUS_RX_TAIL_INDEX) % 64 = 32 →
      u.sbusSlot Reg.SBUS_RX_BASE (u.get Reg.SBUS_RX_HEAD_INDEX) = some a →
    exec (.sbusRx ⟨f, false, false⟩) s = .next (u.cnt 3 23)) ∧
  (∀ (s : State) (r : Fin 4) (c : Fin 17) (d : Bool), s.get Reg.SBUS_TX_HEAD_INDEX = s.get Reg.SBUS_TX_TAIL_INDEX →
    exec (.sbusTxDone ⟨r, c, d⟩) s = .next (s)) ∧
  (∀ (s : State) (r : Fin 4) (c : Fin 17) (d : Bool), s.get Reg.SBUS_TX_HEAD_INDEX ≠ s.get Reg.SBUS_TX_TAIL_INDEX →
    s.is Reg.SBUS_CFG_EN = true → s.domAt 46 = 0 → s.sbusSlot Reg.SBUS_TX_BASE (s.get Reg.SBUS_TX_TAIL_INDEX) = none →
    exec (.sbusTxDone ⟨r, c, d⟩) s = .next
    (((s.set Reg.SBUS_TX_TAIL_INDEX ((s.get Reg.SBUS_TX_TAIL_INDEX + 1) % 64)).int Reg.SBUS_INT_STATUS_TX_DONE).int Reg.SBUS_INT_STATUS_TX_ERR)) ∧
  (∀ (s : State) (a : Nat), s.get Reg.SBUS_TX_HEAD_INDEX ≠ s.get Reg.SBUS_TX_TAIL_INDEX → s.is Reg.SBUS_CFG_EN = true →
    s.domAt 46 = 0 →
    s.sbusSlot Reg.SBUS_TX_BASE (s.get Reg.SBUS_TX_TAIL_INDEX) = some a → s.mem.ecc = [] → 60 ≤ leVal (Mem.rdN s.mem.dram a 2) →
    leVal (Mem.rdN s.mem.dram a 2) ≤ 1518 → s.canon = true → ∃ t, exec (.sbusTxDone ⟨0, 0, false⟩) s = .next t ∧
      t.get Reg.SBUS_TX_TAIL_INDEX = (s.get Reg.SBUS_TX_TAIL_INDEX + 1) % 64 ∧
      t.emitted = s.emitted ++ [⟨3, withFcs (Mem.rdN s.mem.dram (a + 16) (leVal (Mem.rdN s.mem.dram a 2)))⟩] ∧
      leVal (Mem.rdN t.mem.dram (a + 2) 2) = 0 ∧ t.pending = s.pending) ∧
  (∀ (s : State), s.is Reg.SBUS_CFG_PLCA = true → s.is Reg.SBUS_CFG_EN = true → s.get Reg.SBUS_CFG_NODE_ID ≠ 0 →
    s.port.plcaLost = false → exec .plcaLoss s = .next
    (((({ s with port := { s.port with plcaLost := true } } : State).setPlca false).cnt 3 49).event.raise 0x52 0)) ∧
  (∀ (s : State), s.port.plcaLost = true → exec .plcaLoss s = .next (s)) ∧
  (∀ (s : State), s.is Reg.SBUS_CFG_EN = true → s.domAt 46 = 0 → s.is Reg.SBUS_CFG_PLCA = true → exec .plcaBeacon s = .next
    ((({ s with port := { s.port with plcaLost := false, sbusAt := some s.ks.count } } : State).setPlca true).cnt 3 48))

/-- The ring data path (R224 to R235). AUDIO_FRAME on a link up: without a plan, on a segment in service, or of another
version, it counts as foreign. In good order with the plan's slots: the head notes it, taps it and keeps its body in place of
an older one; another node that has not generated the frame of that cycle taps it and passes it on with HOPS one more, at
most 0xFFF, and its own sends. With a bad FCS the head only notes it, counts it for its direction, sets FCS and raises 0x40.
HEAD_LAUNCH: not head, or launched in this cycle already, nothing; else the body returned for this plan, aged, or an empty
one goes out with the head's sends under a new header, and the aged slots are counted. FRAME_GENERATE of a frame seen in this
cycle changes nothing; of an eastward one never seen, nothing generated yet, an empty body with the node's sends goes out
marked as generated, counted, with REGEN. DP_CNT_CLR of a host leaves the loss counters at 0 and the lane counts empty,
DP_AGE_CLR every lane without ages (R236, R237). PLAN_EFFECTIVE of a due plan leaves none waiting (R263). HEAD_LAUNCH_EXPIRE
turns launching off and nothing else (R279). RING_COMMIT, RING_TM_REQ, RING_LEAVE and RING_REROLL, where R265, R273, R281 and
R286 let them act, leave the configuration, the request, LEAVING and the rolls as named. Where a clause leaves the state as
it is because a condition of the row does not hold, that is the model's choice (log entry 1). Under each condition named exec
answers a next state: audioFrame, headLaunch, frameGenerate, dpAgeClr, dpCntClr, planEffective, headLaunchExpire, ringCommit,
ringTmReq, ringLeave, ringReroll. -/
def Obligations.RingAudioFramesTakeEffect : Prop :=
  (∀ (s : State) (b : Bool) (f : List Byte), s.linkUp (b2n b) = true → isAudio f = true → s.rdp.plan = none →
    (s.ctlSeen b f).inService (b2n b) = true → exec (.audioFrame b f) s = .next ((s.ctlSeen b f).inc Reg.RING_CNT_FOREIGN)) ∧
  (∀ (s : State) (b : Bool) (f : List Byte) (p : Plan), s.linkUp (b2n b) = true → isAudio f = true → s.rdp.plan = some p →
    (s.ctlSeen b f).carries (b2n b) = true → ringVer f ≠ 1 → exec (.audioFrame b f) s = .next
    ((s.ctlSeen b f).inc Reg.RING_CNT_FOREIGN)) ∧
  (∀ (s u : State) (b : Bool) (f : List Byte) (p : Plan) (k dir : Nat), s.linkUp (b2n b) = true → isAudio f = true →
    s.rdp.plan = some p →
    u = s.ctlSeen b f → u.carries (b2n b) = true → ringVer f = 1 → k = bitsOf (beAt f 15 1) 3 0 →
      dir = bitsOf (beAt f 15 1) 7 7 →
    u.rxPort dir = b2n b → k < p.frames → beAt f 16 1 = p.slots k → fcsOk f = true → beAt f 22 2 = p.id → u.isHead = true →
    exec (.audioFrame b f) s = .next
      ((fun v : State => { v with rdp := { v.rdp with returned := v.rdp.returned.filter (fun r => !(r.dir = dir && r.index = k)) ++
      [⟨dir, k, p.id, slice f 30 (4 * p.slots k + 3 * rateN p.rate * p.slots k)⟩] } })
      (({ u with rdp := { u.rdp with seen := setLast u.rdp.seen (dir * 16 + k) (if beAt f 18 4 = (u.cycleNo + 1) % 2 ^ 32 then u.cycleNo + 1 else u.cycleNo), good := modNth u.rdp.good dir (fun g => if g.contains u.cycleNo then g else g ++ [u.cycleNo]) } } : State).tapFrame p dir k f))) ∧
  (∀ (s : State) (w : Bool) (k : Fin 16), s.isHead = false → exec (.headLaunch w k) s = .next (s)) ∧
  (∀ (s : State) (w : Bool) (k : Fin 16) (p : Plan) (body : List Byte) (aged : Nat), s.rdp.plan = some p → s.isHead = true →
    s.rdp.launchOn = true → k.val < p.frames → s.rdp.since ≤ s.cycleNo →
      lastOf s.rdp.launched (b2n w * 16 + k.val) ≠ some s.cycleNo →
    (body, aged) = (match s.rdp.returned.find? (fun r => r.dir = b2n w && r.index = k.val) with
      | some r => if r.plan = p.id then ageBody p k.val s.cycleNo r.body else (emptyBody (p.slots k.val) (rateN p.rate), 0)
      | none => (emptyBody (p.slots k.val) (rateN p.rate), 0)) →
    exec (.headLaunch w k) s = .next ((fun x : State × List Byte => x.1.sendAudio (b2n w) x.2 false)
      (State.passSends ({ s.incBy Reg.RING_CNT_AGED aged with rdp := { s.rdp with
        launched := setLast s.rdp.launched (b2n w * 16 + k.val) s.cycleNo,
        returned := s.rdp.returned.filter (fun r => !(r.dir = b2n w && r.index = k.val)) } } : State) p (b2n w) k.val
      (audioHead (s.portMac (s.txPort (b2n w))) (b2n w) p.rate k.val (p.slots k.val) s.cycleNo p.id s.position false ++ body)))) ∧
  (∀ (s : State) (w : Bool) (k : Fin 16), lastOf s.rdp.launched (b2n w * 16 + k.val) = some s.cycleNo →
    exec (.headLaunch w k) s = .next (s)) ∧
  (∀ (s : State) (w : Bool) (k : Fin 16), lastOf s.rdp.seen (b2n w * 16 + k.val) = some s.cycleNo →
    exec (.frameGenerate w k) s = .next (s)) ∧
  (∀ (s : State) (k : Fin 16) (p : Plan), s.rdp.plan = some p → s.isHead = false → k.val < p.frames →
    lastOf s.rdp.seen k.val = none → s.rdp.gen = [] →
    exec (.frameGenerate false k) s = .next ((fun x : State × List Byte =>
      ((x.1.inc Reg.RING_CNT_REGEN_E).int Reg.RING_DP_INT_STATUS_REGEN).sendAudio 0 x.2 false)
      (State.passSends ({ s with rdp := { s.rdp with gen := [(k.val, s.cycleNo % 2 ^ 32)], regenAt := setNth s.rdp.regenAt 0 (some s.cycleNo) } } : State) p 0 k.val
      (audioHead (s.portMac (s.txPort 0)) 0 p.rate k.val (p.slots k.val) s.cycleNo p.id s.position true ++ emptyBody (p.slots k.val) (rateN p.rate))))) ∧
  (∀ (s u v : State) (b : Bool) (f : List Byte) (p : Plan) (k dir : Nat), s.linkUp (b2n b) = true → isAudio f = true →
    s.rdp.plan = some p →
    u = s.ctlSeen b f → u.carries (b2n b) = true → ringVer f = 1 → k = bitsOf (beAt f 15 1) 3 0 →
      dir = bitsOf (beAt f 15 1) 7 7 →
    u.rxPort dir = b2n b → k < p.frames → beAt f 16 1 = p.slots k → fcsOk f = true → beAt f 22 2 = p.id → u.isHead = false →
    u.rdp.gen.contains (dir * 16 + k, beAt f 18 4) = false →
    v = ({ u with rdp := { u.rdp with seen := setLast u.rdp.seen (dir * 16 + k) (if beAt f 18 4 = (u.cycleNo + 1) % 2 ^ 32 then u.cycleNo + 1 else u.cycleNo), good := modNth u.rdp.good dir (fun g => if g.contains u.cycleNo then g else g ++ [u.cycleNo]) } } : State).tapFrame p dir k f →
    exec (.audioFrame b f) s = .next ((fun x : State × List Byte => x.1.sendAudio dir x.2 false) (v.passSends p dir k
      (splice (f.take (f.length - 4)) 24 (beBytes 2 (bitsOf (beAt f 24 2) 15 12 * 4096 + min 0xFFF (bitsOf (beAt f 24 2) 11 0 + 1))))))) ∧
  (∀ (s u : State) (b : Bool) (f : List Byte) (p : Plan) (k dir : Nat), s.linkUp (b2n b) = true → isAudio f = true →
    s.rdp.plan = some p →
    u = s.ctlSeen b f → u.carries (b2n b) = true → ringVer f = 1 → k = bitsOf (beAt f 15 1) 3 0 →
      dir = bitsOf (beAt f 15 1) 7 7 →
    u.rxPort dir = b2n b → k < p.frames → beAt f 16 1 = p.slots k → fcsOk f = false → beAt f 22 2 = p.id → u.isHead = true →
    exec (.audioFrame b f) s = .next
      (((({ u with rdp := { u.rdp with seen := setLast u.rdp.seen (dir * 16 + k) (if beAt f 18 4 = (u.cycleNo + 1) % 2 ^ 32 then u.cycleNo + 1 else u.cycleNo) } } : State).inc
      (if dir = 0 then Reg.RING_CNT_FCS_E else Reg.RING_CNT_FCS_W)).int Reg.RING_DP_INT_STATUS_FCS).raise 0x40 (b2n b))) ∧
  (∀ (acc : Access) (s : State), s.owns acc 0x8000C = true → s.canon = true → ∃ t, exec (.dpCntClr acc) s = .next t ∧
    t.get Reg.RING_CNT_LONE = 0 ∧ t.get Reg.RING_CNT_LOST = 0 ∧ t.rdp.laneCnt = [] ∧ t.rdp.splits = [] ∧ t.mem = s.mem ∧
      t.pending = s.pending) ∧
  (∀ (acc : Access) (s : State), s.owns acc 0x8000C = true → s.canon = true → ∃ t, exec (.dpAgeClr acc) s = .next t ∧
    t.rdp.lanes = s.rdp.lanes.map (fun l => { l with ages := [[], []] }) ∧ t.mem = s.mem ∧ t.pending = s.pending) ∧
  (∀ (s : State) (p : Plan), s.ks.count % s.nTicks = 0 → s.ctl = 4 ∨ s.ctl = 5 → s.is Reg.KS_STATUS_LOCK = true →
    s.rct.waiting = [p] → planDue p.effective s.cycleNo = true → ∃ t, exec .planEffective s = .next t ∧
    t.rct.waiting = [] ∧ t.mem = s.mem ∧ t.pending = s.pending) ∧
  (∀ s : State, s.rdp.launchOn = true → s.rct.beaconAt + 240 ≤ s.cycleNo → ∃ t, exec .headLaunchExpire s = .next t ∧
    t.rdp.launchOn = false ∧ t.regs = s.regs ∧ t.rct = s.rct ∧ t.pending = s.pending) ∧
  (∀ (acc : Access) (s : State), s.owns acc 0x80818 = true → s.canon = true → s.isCoord = true → s.rct.conf = none →
    s.cfgConf.ok = true → s.lacking s.cfgConf.speed s.free = [] → ∃ t, exec (.ringCommit acc) s = .next t ∧
    t.rct.conf = some s.cfgConf ∧ t.rct.commit = none ∧ t.get Reg.RING_CTL_RESULT_RESULT = 1 ∧ t.pending = s.pending) ∧
  (∀ (acc : Access) (s : State), s.owns acc 0x80818 = true → s.canon = true → s.tmBarred = false → s.tmGood = true →
    ∃ t, exec (.ringTmReq acc) s = .next t ∧ t.rct.tmReq = some s.tmTarget ∧ t.rct.seq = (s.rct.seq + 1) % 65536 ∧
      t.pending = s.pending) ∧
  (∀ (acc : Access) (s : State), s.owns acc 0x80818 = true → s.canon = true → s.isCoord = false →
    ∃ t, exec (.ringLeave acc) s = .next t ∧ t.rct.left = decide (s.ctl ≠ 0) ∧ t.rct.reportDue = false ∧
      t.get Reg.RING_CTL_RESULT_RESULT = 1 ∧
    t.pending = s.pending) ∧
  (∀ (acc : Access) (s : State), s.owns acc 0x80818 = true → s.canon = true → s.isCoord = true → s.ctlRuns = true →
    s.rct.building = false →
    ∃ t, exec (.ringReroll acc) s = .next t ∧ t.rct.building = true ∧ t.rct.reports = [] ∧ t.rct.head = 0 ∧
      t.pending = s.pending)
end

