-- ==== Sys2Proof/Laws/Bits.lean ====
section
/-! SUPPORT. Bits of fields: what reading a field of a number shows after fields of it were replaced. -/
namespace Sys2Proof.Machine

theorem testBit_bitsOf (w hi lo i : Nat) : (bitsOf w hi lo).testBit i = (decide (i < hi + 1 - lo) && w.testBit (lo + i)) := by
  simp only [bitsOf, Nat.testBit_mod_two_pow, Nat.testBit_div_two_pow, Nat.add_comm]
theorem bit_eq_testBit (w b : Nat) : bit w b = w.testBit b := by
  simp only [bit, Nat.testBit_eq_decide_div_mod_eq]
  rfl
theorem add_eq_or (a b : Nat) (h : a &&& b = 0) : a + b = a ||| b := by
  have hs : a + b < 2 ^ (a + b) := Nat.lt_two_pow_self
  have e := BitVec.add_eq_or_of_and_eq_zero (BitVec.ofNat (a + b) a) (BitVec.ofNat (a + b) b) (by
    apply BitVec.eq_of_toNat_eq
    simp only [BitVec.toNat_and, BitVec.toNat_ofNat]
    rw [Nat.mod_eq_of_lt (by omega), Nat.mod_eq_of_lt (by omega), h]; simp)
  have := congrArg BitVec.toNat e
  simp only [BitVec.toNat_add, BitVec.toNat_or, BitVec.toNat_ofNat] at this
  rwa [Nat.mod_eq_of_lt (a := a) (by omega), Nat.mod_eq_of_lt (a := b) (by omega), Nat.mod_eq_of_lt hs] at this
theorem testBit_merge (old v k i : Nat) :
    (old - (old &&& k) + (v &&& k)).testBit i = if k.testBit i then v.testBit i else old.testBit i := by
  have h1 : old - (old &&& k) = old ^^^ (old &&& k) := by
    have : old = (old ^^^ (old &&& k)) + (old &&& k) := by
      have e : (old ^^^ (old &&& k)) &&& (old &&& k) = 0 := by
        apply Nat.eq_of_testBit_eq; intro j; simp; intro a b; simp [a, b]
      have := add_eq_or _ _ e
      rw [this]
      apply Nat.eq_of_testBit_eq; intro j; simp
      cases old.testBit j <;> cases k.testBit j <;> rfl
    omega
  have e : (old ^^^ (old &&& k)) &&& (v &&& k) = 0 := by
    apply Nat.eq_of_testBit_eq; intro j; simp
    cases old.testBit j <;> cases k.testBit j <;> simp
  rw [h1, add_eq_or _ _ e]
  simp
  cases old.testBit i <;> cases k.testBit i <;> simp
theorem testBit_putBits (w hi lo v i : Nat) (h : lo ≤ hi) :
    (putBits w hi lo v).testBit i = if lo ≤ i ∧ i ≤ hi then v.testBit (i - lo) else w.testBit i := by
  have e : putBits w hi lo v = 2 ^ (hi + 1) * (w / 2 ^ (hi + 1)) + (2 ^ lo * (v % 2 ^ (hi + 1 - lo)) + w % 2 ^ lo) := by
    simp only [putBits, Nat.mul_comm]; omega
  have hl : w % 2 ^ lo < 2 ^ lo := Nat.mod_lt _ (Nat.two_pow_pos _)
  have hv : v % 2 ^ (hi + 1 - lo) < 2 ^ (hi + 1 - lo) := Nat.mod_lt _ (Nat.two_pow_pos _)
  have hb : 2 ^ lo * (v % 2 ^ (hi + 1 - lo)) + w % 2 ^ lo < 2 ^ (hi + 1) := by
    have : 2 ^ (hi + 1) = 2 ^ lo * 2 ^ (hi + 1 - lo) := by rw [← Nat.pow_add]; congr 1; omega
    rw [this]
    calc _ < 2 ^ lo * (v % 2 ^ (hi + 1 - lo)) + 2 ^ lo := by omega
      _ = 2 ^ lo * (v % 2 ^ (hi + 1 - lo) + 1) := by rw [Nat.mul_add, Nat.mul_one]
      _ ≤ _ := Nat.mul_le_mul_left _ hv
  rw [e, Nat.testBit_two_pow_mul_add _ hb, Nat.testBit_two_pow_mul_add _ hl]
  simp only [Nat.testBit_mod_two_pow, Nat.testBit_div_two_pow]
  by_cases h1 : i < hi + 1
  · by_cases h2 : i < lo
    · have h3 : ¬(lo ≤ i ∧ i ≤ hi) := by omega
      simp [h1, h2, h3]
    · have h3 : lo ≤ i ∧ i ≤ hi := by omega
      have h4 : i - lo < hi + 1 - lo := by omega
      simp [h1, h2, h3, h4]
  · have h3 : ¬(lo ≤ i ∧ i ≤ hi) := by omega
    have h4 : i - (hi + 1) + (hi + 1) = i := by omega
    simp [h1, h3, h4]

theorem bitsOf_putBits_same (w hi lo v : Nat) (h : lo ≤ hi) : bitsOf (putBits w hi lo v) hi lo = v % 2 ^ (hi + 1 - lo) := by
  apply Nat.eq_of_testBit_eq
  intro i
  rw [testBit_bitsOf, testBit_putBits _ _ _ _ _ h, Nat.testBit_mod_two_pow]
  by_cases hi' : i < hi + 1 - lo
  · have : lo ≤ lo + i ∧ lo + i ≤ hi := by omega
    simp [hi', this]
  · simp [hi']
theorem bitsOf_putBits_ne (w hi lo v hi' lo' : Nat) (h : lo ≤ hi) (hd : hi < lo' ∨ hi' < lo) :
    bitsOf (putBits w hi lo v) hi' lo' = bitsOf w hi' lo' := by
  apply Nat.eq_of_testBit_eq
  intro i
  rw [testBit_bitsOf, testBit_bitsOf, testBit_putBits _ _ _ _ _ h]
  by_cases hi1 : i < hi' + 1 - lo'
  · have : ¬(lo ≤ lo' + i ∧ lo' + i ≤ hi) := by omega
    simp [hi1, this]
  · simp [hi1]
theorem bitsOf_lt (w hi lo : Nat) : bitsOf w hi lo < 2 ^ (hi + 1 - lo) := Nat.mod_lt _ (Nat.two_pow_pos _)
/-- A field that the mask of a merge covers reads as in the new word. -/
theorem bitsOf_merge (old v k hi lo : Nat) (hk : ∀ i, lo ≤ i → i ≤ hi → k.testBit i = true) (h32 : hi < 32) :
    bitsOf (BitVec.ofNat 32 (old - (old &&& k) + (v &&& k))).toNat hi lo = bitsOf v hi lo := by
  apply Nat.eq_of_testBit_eq
  intro i
  rw [testBit_bitsOf, testBit_bitsOf, BitVec.toNat_ofNat, Nat.testBit_mod_two_pow, testBit_merge]
  by_cases hi' : i < hi + 1 - lo
  · have h1 : lo + i < 32 := by omega
    rw [hk (lo + i) (by omega) (by omega)]
    simp [h1]
  · simp [hi']
theorem bitsOf_and (v k hi lo : Nat) (hk : ∀ i, lo ≤ i → i ≤ hi → k.testBit i = true) : bitsOf (v &&& k) hi lo = bitsOf v hi lo := by
  apply Nat.eq_of_testBit_eq
  intro i
  rw [testBit_bitsOf, testBit_bitsOf, Nat.testBit_and]
  by_cases hi' : i < hi + 1 - lo
  · rw [hk (lo + i) (by omega) (by omega)]; simp
  · simp [hi']
theorem bit_putBits_same (w b v : Nat) : bit (putBits w b b v) b = decide (v % 2 = 1) := by
  rw [bit_eq_testBit, testBit_putBits _ _ _ _ _ (Nat.le_refl b)]
  simp [Nat.testBit_zero]
theorem bit_putBits_ne (w hi lo v b : Nat) (h : lo ≤ hi) (hb : b < lo ∨ hi < b) : bit (putBits w hi lo v) b = bit w b := by
  rw [bit_eq_testBit, bit_eq_testBit, testBit_putBits _ _ _ _ _ h, if_neg (by omega)]
theorem bit_and (v k b : Nat) : bit (v &&& k) b = (bit v b && bit k b) := by
  simp only [bit_eq_testBit, Nat.testBit_and]
theorem bit_mod (v b : Nat) (h : b < 32) : bit (v % 2 ^ 32) b = bit v b := by
  simp only [bit_eq_testBit, Nat.testBit_mod_two_pow]; simp [h]

end Sys2Proof.Machine
end

