-- ==== Sys2Proof/Laws/State.lean ====
section
/-! SUPPORT. What each update of the state leaves alone: one lemma for each update and each field. -/
namespace Sys2Proof.Machine
open Sys2Proof

@[simp] theorem State.setWord_ks (s : State) (f : Fld) (v : Word) (i j t : Nat) : (s.setWord f v i j t).ks = s.ks := rfl
@[simp] theorem State.setWord_img (s : State) (f : Fld) (v : Word) (i j t : Nat) : (s.setWord f v i j t).img = s.img := rfl
@[simp] theorem State.setWord_eng (s : State) (f : Fld) (v : Word) (i j t : Nat) : (s.setWord f v i j t).eng = s.eng := rfl
@[simp] theorem State.setWord_mix (s : State) (f : Fld) (v : Word) (i j t : Nat) : (s.setWord f v i j t).mix = s.mix := rfl
@[simp] theorem State.setWord_ovr (s : State) (f : Fld) (v : Word) (i j t : Nat) : (s.setWord f v i j t).ovr = s.ovr := rfl
@[simp] theorem State.setWord_flt (s : State) (f : Fld) (v : Word) (i j t : Nat) : (s.setWord f v i j t).flt = s.flt := rfl
@[simp] theorem State.setWord_ten (s : State) (f : Fld) (v : Word) (i j t : Nat) : (s.setWord f v i j t).ten = s.ten := rfl
@[simp] theorem State.setWord_host (s : State) (f : Fld) (v : Word) (i j t : Nat) : (s.setWord f v i j t).host = s.host := rfl
@[simp] theorem State.setWord_dom (s : State) (f : Fld) (v : Word) (i j t : Nat) : (s.setWord f v i j t).dom = s.dom := rfl
@[simp] theorem State.setWord_rdp (s : State) (f : Fld) (v : Word) (i j t : Nat) : (s.setWord f v i j t).rdp = s.rdp := rfl
@[simp] theorem State.setWord_rct (s : State) (f : Fld) (v : Word) (i j t : Nat) : (s.setWord f v i j t).rct = s.rct := rfl
@[simp] theorem State.setWord_time (s : State) (f : Fld) (v : Word) (i j t : Nat) : (s.setWord f v i j t).time = s.time := rfl
@[simp] theorem State.setWord_port (s : State) (f : Fld) (v : Word) (i j t : Nat) : (s.setWord f v i j t).port = s.port := rfl
@[simp] theorem State.setWord_pwr (s : State) (f : Fld) (v : Word) (i j t : Nat) : (s.setWord f v i j t).pwr = s.pwr := rfl
@[simp] theorem State.setWord_bst (s : State) (f : Fld) (v : Word) (i j t : Nat) : (s.setWord f v i j t).bst = s.bst := rfl
@[simp] theorem State.setWord_ana (s : State) (f : Fld) (v : Word) (i j t : Nat) : (s.setWord f v i j t).ana = s.ana := rfl
@[simp] theorem State.setWord_aes (s : State) (f : Fld) (v : Word) (i j t : Nat) : (s.setWord f v i j t).aes = s.aes := rfl
@[simp] theorem State.setWord_sap (s : State) (f : Fld) (v : Word) (i j t : Nat) : (s.setWord f v i j t).sap = s.sap := rfl
@[simp] theorem State.setWord_aux (s : State) (f : Fld) (v : Word) (i j t : Nat) : (s.setWord f v i j t).aux = s.aux := rfl
@[simp] theorem State.setWord_clk (s : State) (f : Fld) (v : Word) (i j t : Nat) : (s.setWord f v i j t).clk = s.clk := rfl
@[simp] theorem State.setWord_mem (s : State) (f : Fld) (v : Word) (i j t : Nat) : (s.setWord f v i j t).mem = s.mem := rfl
@[simp] theorem State.setWord_auxRec (s : State) (f : Fld) (v : Word) (i j t : Nat) : (s.setWord f v i j t).auxRec = s.auxRec := rfl
@[simp] theorem State.setWord_emitted (s : State) (f : Fld) (v : Word) (i j t : Nat) : (s.setWord f v i j t).emitted = s.emitted := rfl
@[simp] theorem State.setWord_free (s : State) (f : Fld) (v : Word) (i j t : Nat) : (s.setWord f v i j t).free = s.free := rfl
@[simp] theorem State.setWord_pending (s : State) (f : Fld) (v : Word) (i j t : Nat) : (s.setWord f v i j t).pending = s.pending := rfl

@[simp] theorem State.set_ks (s : State) (f : Fld) (v i j t : Nat) : (s.set f v i j t).ks = s.ks := rfl
@[simp] theorem State.set_img (s : State) (f : Fld) (v i j t : Nat) : (s.set f v i j t).img = s.img := rfl
@[simp] theorem State.set_eng (s : State) (f : Fld) (v i j t : Nat) : (s.set f v i j t).eng = s.eng := rfl
@[simp] theorem State.set_mix (s : State) (f : Fld) (v i j t : Nat) : (s.set f v i j t).mix = s.mix := rfl
@[simp] theorem State.set_ovr (s : State) (f : Fld) (v i j t : Nat) : (s.set f v i j t).ovr = s.ovr := rfl
@[simp] theorem State.set_flt (s : State) (f : Fld) (v i j t : Nat) : (s.set f v i j t).flt = s.flt := rfl
@[simp] theorem State.set_ten (s : State) (f : Fld) (v i j t : Nat) : (s.set f v i j t).ten = s.ten := rfl
@[simp] theorem State.set_host (s : State) (f : Fld) (v i j t : Nat) : (s.set f v i j t).host = s.host := rfl
@[simp] theorem State.set_dom (s : State) (f : Fld) (v i j t : Nat) : (s.set f v i j t).dom = s.dom := rfl
@[simp] theorem State.set_rdp (s : State) (f : Fld) (v i j t : Nat) : (s.set f v i j t).rdp = s.rdp := rfl
@[simp] theorem State.set_rct (s : State) (f : Fld) (v i j t : Nat) : (s.set f v i j t).rct = s.rct := rfl
@[simp] theorem State.set_time (s : State) (f : Fld) (v i j t : Nat) : (s.set f v i j t).time = s.time := rfl
@[simp] theorem State.set_port (s : State) (f : Fld) (v i j t : Nat) : (s.set f v i j t).port = s.port := rfl
@[simp] theorem State.set_pwr (s : State) (f : Fld) (v i j t : Nat) : (s.set f v i j t).pwr = s.pwr := rfl
@[simp] theorem State.set_bst (s : State) (f : Fld) (v i j t : Nat) : (s.set f v i j t).bst = s.bst := rfl
@[simp] theorem State.set_ana (s : State) (f : Fld) (v i j t : Nat) : (s.set f v i j t).ana = s.ana := rfl
@[simp] theorem State.set_aes (s : State) (f : Fld) (v i j t : Nat) : (s.set f v i j t).aes = s.aes := rfl
@[simp] theorem State.set_sap (s : State) (f : Fld) (v i j t : Nat) : (s.set f v i j t).sap = s.sap := rfl
@[simp] theorem State.set_aux (s : State) (f : Fld) (v i j t : Nat) : (s.set f v i j t).aux = s.aux := rfl
@[simp] theorem State.set_clk (s : State) (f : Fld) (v i j t : Nat) : (s.set f v i j t).clk = s.clk := rfl
@[simp] theorem State.set_mem (s : State) (f : Fld) (v i j t : Nat) : (s.set f v i j t).mem = s.mem := rfl
@[simp] theorem State.set_auxRec (s : State) (f : Fld) (v i j t : Nat) : (s.set f v i j t).auxRec = s.auxRec := rfl
@[simp] theorem State.set_emitted (s : State) (f : Fld) (v i j t : Nat) : (s.set f v i j t).emitted = s.emitted := rfl
@[simp] theorem State.set_free (s : State) (f : Fld) (v i j t : Nat) : (s.set f v i j t).free = s.free := rfl
@[simp] theorem State.set_pending (s : State) (f : Fld) (v i j t : Nat) : (s.set f v i j t).pending = s.pending := rfl

@[simp] theorem State.setB_ks (s : State) (f : Fld) (b : Bool) (i j t : Nat) : (s.setB f b i j t).ks = s.ks := rfl
@[simp] theorem State.setB_img (s : State) (f : Fld) (b : Bool) (i j t : Nat) : (s.setB f b i j t).img = s.img := rfl
@[simp] theorem State.setB_eng (s : State) (f : Fld) (b : Bool) (i j t : Nat) : (s.setB f b i j t).eng = s.eng := rfl
@[simp] theorem State.setB_mix (s : State) (f : Fld) (b : Bool) (i j t : Nat) : (s.setB f b i j t).mix = s.mix := rfl
@[simp] theorem State.setB_ovr (s : State) (f : Fld) (b : Bool) (i j t : Nat) : (s.setB f b i j t).ovr = s.ovr := rfl
@[simp] theorem State.setB_flt (s : State) (f : Fld) (b : Bool) (i j t : Nat) : (s.setB f b i j t).flt = s.flt := rfl
@[simp] theorem State.setB_ten (s : State) (f : Fld) (b : Bool) (i j t : Nat) : (s.setB f b i j t).ten = s.ten := rfl
@[simp] theorem State.setB_host (s : State) (f : Fld) (b : Bool) (i j t : Nat) : (s.setB f b i j t).host = s.host := rfl
@[simp] theorem State.setB_dom (s : State) (f : Fld) (b : Bool) (i j t : Nat) : (s.setB f b i j t).dom = s.dom := rfl
@[simp] theorem State.setB_rdp (s : State) (f : Fld) (b : Bool) (i j t : Nat) : (s.setB f b i j t).rdp = s.rdp := rfl
@[simp] theorem State.setB_rct (s : State) (f : Fld) (b : Bool) (i j t : Nat) : (s.setB f b i j t).rct = s.rct := rfl
@[simp] theorem State.setB_time (s : State) (f : Fld) (b : Bool) (i j t : Nat) : (s.setB f b i j t).time = s.time := rfl
@[simp] theorem State.setB_port (s : State) (f : Fld) (b : Bool) (i j t : Nat) : (s.setB f b i j t).port = s.port := rfl
@[simp] theorem State.setB_pwr (s : State) (f : Fld) (b : Bool) (i j t : Nat) : (s.setB f b i j t).pwr = s.pwr := rfl
@[simp] theorem State.setB_bst (s : State) (f : Fld) (b : Bool) (i j t : Nat) : (s.setB f b i j t).bst = s.bst := rfl
@[simp] theorem State.setB_ana (s : State) (f : Fld) (b : Bool) (i j t : Nat) : (s.setB f b i j t).ana = s.ana := rfl
@[simp] theorem State.setB_aes (s : State) (f : Fld) (b : Bool) (i j t : Nat) : (s.setB f b i j t).aes = s.aes := rfl
@[simp] theorem State.setB_sap (s : State) (f : Fld) (b : Bool) (i j t : Nat) : (s.setB f b i j t).sap = s.sap := rfl
@[simp] theorem State.setB_aux (s : State) (f : Fld) (b : Bool) (i j t : Nat) : (s.setB f b i j t).aux = s.aux := rfl
@[simp] theorem State.setB_clk (s : State) (f : Fld) (b : Bool) (i j t : Nat) : (s.setB f b i j t).clk = s.clk := rfl
@[simp] theorem State.setB_mem (s : State) (f : Fld) (b : Bool) (i j t : Nat) : (s.setB f b i j t).mem = s.mem := rfl
@[simp] theorem State.setB_auxRec (s : State) (f : Fld) (b : Bool) (i j t : Nat) : (s.setB f b i j t).auxRec = s.auxRec := rfl
@[simp] theorem State.setB_emitted (s : State) (f : Fld) (b : Bool) (i j t : Nat) : (s.setB f b i j t).emitted = s.emitted := rfl
@[simp] theorem State.setB_free (s : State) (f : Fld) (b : Bool) (i j t : Nat) : (s.setB f b i j t).free = s.free := rfl
@[simp] theorem State.setB_pending (s : State) (f : Fld) (b : Bool) (i j t : Nat) : (s.setB f b i j t).pending = s.pending := rfl

@[simp] theorem State.inc_ks (s : State) (f : Fld) (i j t : Nat) : (s.inc f i j t).ks = s.ks := rfl
@[simp] theorem State.inc_img (s : State) (f : Fld) (i j t : Nat) : (s.inc f i j t).img = s.img := rfl
@[simp] theorem State.inc_eng (s : State) (f : Fld) (i j t : Nat) : (s.inc f i j t).eng = s.eng := rfl
@[simp] theorem State.inc_mix (s : State) (f : Fld) (i j t : Nat) : (s.inc f i j t).mix = s.mix := rfl
@[simp] theorem State.inc_ovr (s : State) (f : Fld) (i j t : Nat) : (s.inc f i j t).ovr = s.ovr := rfl
@[simp] theorem State.inc_flt (s : State) (f : Fld) (i j t : Nat) : (s.inc f i j t).flt = s.flt := rfl
@[simp] theorem State.inc_ten (s : State) (f : Fld) (i j t : Nat) : (s.inc f i j t).ten = s.ten := rfl
@[simp] theorem State.inc_host (s : State) (f : Fld) (i j t : Nat) : (s.inc f i j t).host = s.host := rfl
@[simp] theorem State.inc_dom (s : State) (f : Fld) (i j t : Nat) : (s.inc f i j t).dom = s.dom := rfl
@[simp] theorem State.inc_rdp (s : State) (f : Fld) (i j t : Nat) : (s.inc f i j t).rdp = s.rdp := rfl
@[simp] theorem State.inc_rct (s : State) (f : Fld) (i j t : Nat) : (s.inc f i j t).rct = s.rct := rfl
@[simp] theorem State.inc_time (s : State) (f : Fld) (i j t : Nat) : (s.inc f i j t).time = s.time := rfl
@[simp] theorem State.inc_port (s : State) (f : Fld) (i j t : Nat) : (s.inc f i j t).port = s.port := rfl
@[simp] theorem State.inc_pwr (s : State) (f : Fld) (i j t : Nat) : (s.inc f i j t).pwr = s.pwr := rfl
@[simp] theorem State.inc_bst (s : State) (f : Fld) (i j t : Nat) : (s.inc f i j t).bst = s.bst := rfl
@[simp] theorem State.inc_ana (s : State) (f : Fld) (i j t : Nat) : (s.inc f i j t).ana = s.ana := rfl
@[simp] theorem State.inc_aes (s : State) (f : Fld) (i j t : Nat) : (s.inc f i j t).aes = s.aes := rfl
@[simp] theorem State.inc_sap (s : State) (f : Fld) (i j t : Nat) : (s.inc f i j t).sap = s.sap := rfl
@[simp] theorem State.inc_aux (s : State) (f : Fld) (i j t : Nat) : (s.inc f i j t).aux = s.aux := rfl
@[simp] theorem State.inc_clk (s : State) (f : Fld) (i j t : Nat) : (s.inc f i j t).clk = s.clk := rfl
@[simp] theorem State.inc_mem (s : State) (f : Fld) (i j t : Nat) : (s.inc f i j t).mem = s.mem := rfl
@[simp] theorem State.inc_auxRec (s : State) (f : Fld) (i j t : Nat) : (s.inc f i j t).auxRec = s.auxRec := rfl
@[simp] theorem State.inc_emitted (s : State) (f : Fld) (i j t : Nat) : (s.inc f i j t).emitted = s.emitted := rfl
@[simp] theorem State.inc_free (s : State) (f : Fld) (i j t : Nat) : (s.inc f i j t).free = s.free := rfl
@[simp] theorem State.inc_pending (s : State) (f : Fld) (i j t : Nat) : (s.inc f i j t).pending = s.pending := rfl

@[simp] theorem State.incBy_ks (s : State) (f : Fld) (k i j t : Nat) : (s.incBy f k i j t).ks = s.ks := rfl
@[simp] theorem State.incBy_img (s : State) (f : Fld) (k i j t : Nat) : (s.incBy f k i j t).img = s.img := rfl
@[simp] theorem State.incBy_eng (s : State) (f : Fld) (k i j t : Nat) : (s.incBy f k i j t).eng = s.eng := rfl
@[simp] theorem State.incBy_mix (s : State) (f : Fld) (k i j t : Nat) : (s.incBy f k i j t).mix = s.mix := rfl
@[simp] theorem State.incBy_ovr (s : State) (f : Fld) (k i j t : Nat) : (s.incBy f k i j t).ovr = s.ovr := rfl
@[simp] theorem State.incBy_flt (s : State) (f : Fld) (k i j t : Nat) : (s.incBy f k i j t).flt = s.flt := rfl
@[simp] theorem State.incBy_ten (s : State) (f : Fld) (k i j t : Nat) : (s.incBy f k i j t).ten = s.ten := rfl
@[simp] theorem State.incBy_host (s : State) (f : Fld) (k i j t : Nat) : (s.incBy f k i j t).host = s.host := rfl
@[simp] theorem State.incBy_dom (s : State) (f : Fld) (k i j t : Nat) : (s.incBy f k i j t).dom = s.dom := rfl
@[simp] theorem State.incBy_rdp (s : State) (f : Fld) (k i j t : Nat) : (s.incBy f k i j t).rdp = s.rdp := rfl
@[simp] theorem State.incBy_rct (s : State) (f : Fld) (k i j t : Nat) : (s.incBy f k i j t).rct = s.rct := rfl
@[simp] theorem State.incBy_time (s : State) (f : Fld) (k i j t : Nat) : (s.incBy f k i j t).time = s.time := rfl
@[simp] theorem State.incBy_port (s : State) (f : Fld) (k i j t : Nat) : (s.incBy f k i j t).port = s.port := rfl
@[simp] theorem State.incBy_pwr (s : State) (f : Fld) (k i j t : Nat) : (s.incBy f k i j t).pwr = s.pwr := rfl
@[simp] theorem State.incBy_bst (s : State) (f : Fld) (k i j t : Nat) : (s.incBy f k i j t).bst = s.bst := rfl
@[simp] theorem State.incBy_ana (s : State) (f : Fld) (k i j t : Nat) : (s.incBy f k i j t).ana = s.ana := rfl
@[simp] theorem State.incBy_aes (s : State) (f : Fld) (k i j t : Nat) : (s.incBy f k i j t).aes = s.aes := rfl
@[simp] theorem State.incBy_sap (s : State) (f : Fld) (k i j t : Nat) : (s.incBy f k i j t).sap = s.sap := rfl
@[simp] theorem State.incBy_aux (s : State) (f : Fld) (k i j t : Nat) : (s.incBy f k i j t).aux = s.aux := rfl
@[simp] theorem State.incBy_clk (s : State) (f : Fld) (k i j t : Nat) : (s.incBy f k i j t).clk = s.clk := rfl
@[simp] theorem State.incBy_mem (s : State) (f : Fld) (k i j t : Nat) : (s.incBy f k i j t).mem = s.mem := rfl
@[simp] theorem State.incBy_auxRec (s : State) (f : Fld) (k i j t : Nat) : (s.incBy f k i j t).auxRec = s.auxRec := rfl
@[simp] theorem State.incBy_emitted (s : State) (f : Fld) (k i j t : Nat) : (s.incBy f k i j t).emitted = s.emitted := rfl
@[simp] theorem State.incBy_free (s : State) (f : Fld) (k i j t : Nat) : (s.incBy f k i j t).free = s.free := rfl
@[simp] theorem State.incBy_pending (s : State) (f : Fld) (k i j t : Nat) : (s.incBy f k i j t).pending = s.pending := rfl

@[simp] theorem State.set64_ks (s : State) (lo hi : Fld) (v i t : Nat) : (s.set64 lo hi v i t).ks = s.ks := rfl
@[simp] theorem State.set64_img (s : State) (lo hi : Fld) (v i t : Nat) : (s.set64 lo hi v i t).img = s.img := rfl
@[simp] theorem State.set64_eng (s : State) (lo hi : Fld) (v i t : Nat) : (s.set64 lo hi v i t).eng = s.eng := rfl
@[simp] theorem State.set64_mix (s : State) (lo hi : Fld) (v i t : Nat) : (s.set64 lo hi v i t).mix = s.mix := rfl
@[simp] theorem State.set64_ovr (s : State) (lo hi : Fld) (v i t : Nat) : (s.set64 lo hi v i t).ovr = s.ovr := rfl
@[simp] theorem State.set64_flt (s : State) (lo hi : Fld) (v i t : Nat) : (s.set64 lo hi v i t).flt = s.flt := rfl
@[simp] theorem State.set64_ten (s : State) (lo hi : Fld) (v i t : Nat) : (s.set64 lo hi v i t).ten = s.ten := rfl
@[simp] theorem State.set64_host (s : State) (lo hi : Fld) (v i t : Nat) : (s.set64 lo hi v i t).host = s.host := rfl
@[simp] theorem State.set64_dom (s : State) (lo hi : Fld) (v i t : Nat) : (s.set64 lo hi v i t).dom = s.dom := rfl
@[simp] theorem State.set64_rdp (s : State) (lo hi : Fld) (v i t : Nat) : (s.set64 lo hi v i t).rdp = s.rdp := rfl
@[simp] theorem State.set64_rct (s : State) (lo hi : Fld) (v i t : Nat) : (s.set64 lo hi v i t).rct = s.rct := rfl
@[simp] theorem State.set64_time (s : State) (lo hi : Fld) (v i t : Nat) : (s.set64 lo hi v i t).time = s.time := rfl
@[simp] theorem State.set64_port (s : State) (lo hi : Fld) (v i t : Nat) : (s.set64 lo hi v i t).port = s.port := rfl
@[simp] theorem State.set64_pwr (s : State) (lo hi : Fld) (v i t : Nat) : (s.set64 lo hi v i t).pwr = s.pwr := rfl
@[simp] theorem State.set64_bst (s : State) (lo hi : Fld) (v i t : Nat) : (s.set64 lo hi v i t).bst = s.bst := rfl
@[simp] theorem State.set64_ana (s : State) (lo hi : Fld) (v i t : Nat) : (s.set64 lo hi v i t).ana = s.ana := rfl
@[simp] theorem State.set64_aes (s : State) (lo hi : Fld) (v i t : Nat) : (s.set64 lo hi v i t).aes = s.aes := rfl
@[simp] theorem State.set64_sap (s : State) (lo hi : Fld) (v i t : Nat) : (s.set64 lo hi v i t).sap = s.sap := rfl
@[simp] theorem State.set64_aux (s : State) (lo hi : Fld) (v i t : Nat) : (s.set64 lo hi v i t).aux = s.aux := rfl
@[simp] theorem State.set64_clk (s : State) (lo hi : Fld) (v i t : Nat) : (s.set64 lo hi v i t).clk = s.clk := rfl
@[simp] theorem State.set64_mem (s : State) (lo hi : Fld) (v i t : Nat) : (s.set64 lo hi v i t).mem = s.mem := rfl
@[simp] theorem State.set64_auxRec (s : State) (lo hi : Fld) (v i t : Nat) : (s.set64 lo hi v i t).auxRec = s.auxRec := rfl
@[simp] theorem State.set64_emitted (s : State) (lo hi : Fld) (v i t : Nat) : (s.set64 lo hi v i t).emitted = s.emitted := rfl
@[simp] theorem State.set64_free (s : State) (lo hi : Fld) (v i t : Nat) : (s.set64 lo hi v i t).free = s.free := rfl
@[simp] theorem State.set64_pending (s : State) (lo hi : Fld) (v i t : Nat) : (s.set64 lo hi v i t).pending = s.pending := rfl

@[simp] theorem State.event_ks (s : State) : (s.event).ks = s.ks := rfl
@[simp] theorem State.event_img (s : State) : (s.event).img = s.img := rfl
@[simp] theorem State.event_eng (s : State) : (s.event).eng = s.eng := rfl
@[simp] theorem State.event_mix (s : State) : (s.event).mix = s.mix := rfl
@[simp] theorem State.event_ovr (s : State) : (s.event).ovr = s.ovr := rfl
@[simp] theorem State.event_ten (s : State) : (s.event).ten = s.ten := rfl
@[simp] theorem State.event_host (s : State) : (s.event).host = s.host := rfl
@[simp] theorem State.event_dom (s : State) : (s.event).dom = s.dom := rfl
@[simp] theorem State.event_rdp (s : State) : (s.event).rdp = s.rdp := rfl
@[simp] theorem State.event_rct (s : State) : (s.event).rct = s.rct := rfl
@[simp] theorem State.event_time (s : State) : (s.event).time = s.time := rfl
@[simp] theorem State.event_port (s : State) : (s.event).port = s.port := rfl
@[simp] theorem State.event_pwr (s : State) : (s.event).pwr = s.pwr := rfl
@[simp] theorem State.event_bst (s : State) : (s.event).bst = s.bst := rfl
@[simp] theorem State.event_ana (s : State) : (s.event).ana = s.ana := rfl
@[simp] theorem State.event_aes (s : State) : (s.event).aes = s.aes := rfl
@[simp] theorem State.event_sap (s : State) : (s.event).sap = s.sap := rfl
@[simp] theorem State.event_aux (s : State) : (s.event).aux = s.aux := rfl
@[simp] theorem State.event_clk (s : State) : (s.event).clk = s.clk := rfl
@[simp] theorem State.event_mem (s : State) : (s.event).mem = s.mem := rfl
@[simp] theorem State.event_auxRec (s : State) : (s.event).auxRec = s.auxRec := rfl
@[simp] theorem State.event_regs (s : State) : (s.event).regs = s.regs := rfl
@[simp] theorem State.event_emitted (s : State) : (s.event).emitted = s.emitted := rfl
@[simp] theorem State.event_free (s : State) : (s.event).free = s.free := rfl
@[simp] theorem State.event_pending (s : State) : (s.event).pending = s.pending := rfl
@[simp] theorem State.event_word (s : State) (g : Fld) (i' j' t' : Nat) : (s.event).word g i' j' t' = s.word g i' j' t' := rfl
@[simp] theorem State.event_get (s : State) (g : Fld) (i' j' t' : Nat) : (s.event).get g i' j' t' = s.get g i' j' t' := rfl
@[simp] theorem State.event_is (s : State) (g : Fld) (i' j' t' : Nat) : (s.event).is g i' j' t' = s.is g i' j' t' := rfl

@[simp] theorem State.endActive_ks (s : State) (src unit : Nat) : (s.endActive src unit).ks = s.ks := rfl
@[simp] theorem State.endActive_img (s : State) (src unit : Nat) : (s.endActive src unit).img = s.img := rfl
@[simp] theorem State.endActive_eng (s : State) (src unit : Nat) : (s.endActive src unit).eng = s.eng := rfl
@[simp] theorem State.endActive_mix (s : State) (src unit : Nat) : (s.endActive src unit).mix = s.mix := rfl
@[simp] theorem State.endActive_ovr (s : State) (src unit : Nat) : (s.endActive src unit).ovr = s.ovr := rfl
@[simp] theorem State.endActive_ten (s : State) (src unit : Nat) : (s.endActive src unit).ten = s.ten := rfl
@[simp] theorem State.endActive_host (s : State) (src unit : Nat) : (s.endActive src unit).host = s.host := rfl
@[simp] theorem State.endActive_dom (s : State) (src unit : Nat) : (s.endActive src unit).dom = s.dom := rfl
@[simp] theorem State.endActive_rdp (s : State) (src unit : Nat) : (s.endActive src unit).rdp = s.rdp := rfl
@[simp] theorem State.endActive_rct (s : State) (src unit : Nat) : (s.endActive src unit).rct = s.rct := rfl
@[simp] theorem State.endActive_time (s : State) (src unit : Nat) : (s.endActive src unit).time = s.time := rfl
@[simp] theorem State.endActive_port (s : State) (src unit : Nat) : (s.endActive src unit).port = s.port := rfl
@[simp] theorem State.endActive_pwr (s : State) (src unit : Nat) : (s.endActive src unit).pwr = s.pwr := rfl
@[simp] theorem State.endActive_bst (s : State) (src unit : Nat) : (s.endActive src unit).bst = s.bst := rfl
@[simp] theorem State.endActive_ana (s : State) (src unit : Nat) : (s.endActive src unit).ana = s.ana := rfl
@[simp] theorem State.endActive_aes (s : State) (src unit : Nat) : (s.endActive src unit).aes = s.aes := rfl
@[simp] theorem State.endActive_sap (s : State) (src unit : Nat) : (s.endActive src unit).sap = s.sap := rfl
@[simp] theorem State.endActive_aux (s : State) (src unit : Nat) : (s.endActive src unit).aux = s.aux := rfl
@[simp] theorem State.endActive_clk (s : State) (src unit : Nat) : (s.endActive src unit).clk = s.clk := rfl
@[simp] theorem State.endActive_mem (s : State) (src unit : Nat) : (s.endActive src unit).mem = s.mem := rfl
@[simp] theorem State.endActive_auxRec (s : State) (src unit : Nat) : (s.endActive src unit).auxRec = s.auxRec := rfl
@[simp] theorem State.endActive_regs (s : State) (src unit : Nat) : (s.endActive src unit).regs = s.regs := rfl
@[simp] theorem State.endActive_emitted (s : State) (src unit : Nat) : (s.endActive src unit).emitted = s.emitted := rfl
@[simp] theorem State.endActive_free (s : State) (src unit : Nat) : (s.endActive src unit).free = s.free := rfl
@[simp] theorem State.endActive_pending (s : State) (src unit : Nat) : (s.endActive src unit).pending = s.pending := rfl
@[simp] theorem State.endActive_word (s : State) (src unit : Nat) (g : Fld) (i' j' t' : Nat) : (s.endActive src unit).word g i' j' t' = s.word g i' j' t' := rfl
@[simp] theorem State.endActive_get (s : State) (src unit : Nat) (g : Fld) (i' j' t' : Nat) : (s.endActive src unit).get g i' j' t' = s.get g i' j' t' := rfl
@[simp] theorem State.endActive_is (s : State) (src unit : Nat) (g : Fld) (i' j' t' : Nat) : (s.endActive src unit).is g i' j' t' = s.is g i' j' t' := rfl

@[simp] theorem State.loadFault_ks (s : State) (src ch : Nat) : (s.loadFault src ch).ks = s.ks := rfl
@[simp] theorem State.loadFault_img (s : State) (src ch : Nat) : (s.loadFault src ch).img = s.img := rfl
@[simp] theorem State.loadFault_eng (s : State) (src ch : Nat) : (s.loadFault src ch).eng = s.eng := rfl
@[simp] theorem State.loadFault_mix (s : State) (src ch : Nat) : (s.loadFault src ch).mix = s.mix := rfl
@[simp] theorem State.loadFault_ovr (s : State) (src ch : Nat) : (s.loadFault src ch).ovr = s.ovr := rfl
@[simp] theorem State.loadFault_ten (s : State) (src ch : Nat) : (s.loadFault src ch).ten = s.ten := rfl
@[simp] theorem State.loadFault_host (s : State) (src ch : Nat) : (s.loadFault src ch).host = s.host := rfl
@[simp] theorem State.loadFault_dom (s : State) (src ch : Nat) : (s.loadFault src ch).dom = s.dom := rfl
@[simp] theorem State.loadFault_rdp (s : State) (src ch : Nat) : (s.loadFault src ch).rdp = s.rdp := rfl
@[simp] theorem State.loadFault_rct (s : State) (src ch : Nat) : (s.loadFault src ch).rct = s.rct := rfl
@[simp] theorem State.loadFault_time (s : State) (src ch : Nat) : (s.loadFault src ch).time = s.time := rfl
@[simp] theorem State.loadFault_port (s : State) (src ch : Nat) : (s.loadFault src ch).port = s.port := rfl
@[simp] theorem State.loadFault_pwr (s : State) (src ch : Nat) : (s.loadFault src ch).pwr = s.pwr := rfl
@[simp] theorem State.loadFault_bst (s : State) (src ch : Nat) : (s.loadFault src ch).bst = s.bst := rfl
@[simp] theorem State.loadFault_ana (s : State) (src ch : Nat) : (s.loadFault src ch).ana = s.ana := rfl
@[simp] theorem State.loadFault_aes (s : State) (src ch : Nat) : (s.loadFault src ch).aes = s.aes := rfl
@[simp] theorem State.loadFault_sap (s : State) (src ch : Nat) : (s.loadFault src ch).sap = s.sap := rfl
@[simp] theorem State.loadFault_aux (s : State) (src ch : Nat) : (s.loadFault src ch).aux = s.aux := rfl
@[simp] theorem State.loadFault_clk (s : State) (src ch : Nat) : (s.loadFault src ch).clk = s.clk := rfl
@[simp] theorem State.loadFault_mem (s : State) (src ch : Nat) : (s.loadFault src ch).mem = s.mem := rfl
@[simp] theorem State.loadFault_auxRec (s : State) (src ch : Nat) : (s.loadFault src ch).auxRec = s.auxRec := rfl
@[simp] theorem State.loadFault_regs (s : State) (src ch : Nat) : (s.loadFault src ch).regs = s.regs := rfl
@[simp] theorem State.loadFault_emitted (s : State) (src ch : Nat) : (s.loadFault src ch).emitted = s.emitted := rfl
@[simp] theorem State.loadFault_free (s : State) (src ch : Nat) : (s.loadFault src ch).free = s.free := rfl
@[simp] theorem State.loadFault_pending (s : State) (src ch : Nat) : (s.loadFault src ch).pending = s.pending := rfl
@[simp] theorem State.loadFault_word (s : State) (src ch : Nat) (g : Fld) (i' j' t' : Nat) : (s.loadFault src ch).word g i' j' t' = s.word g i' j' t' := rfl
@[simp] theorem State.loadFault_get (s : State) (src ch : Nat) (g : Fld) (i' j' t' : Nat) : (s.loadFault src ch).get g i' j' t' = s.get g i' j' t' := rfl
@[simp] theorem State.loadFault_is (s : State) (src ch : Nat) (g : Fld) (i' j' t' : Nat) : (s.loadFault src ch).is g i' j' t' = s.is g i' j' t' := rfl

@[simp] theorem State.emit_ks (s : State) (port : Nat) (bytes : List Byte) : (s.emit port bytes).ks = s.ks := rfl
@[simp] theorem State.emit_img (s : State) (port : Nat) (bytes : List Byte) : (s.emit port bytes).img = s.img := rfl
@[simp] theorem State.emit_eng (s : State) (port : Nat) (bytes : List Byte) : (s.emit port bytes).eng = s.eng := rfl
@[simp] theorem State.emit_mix (s : State) (port : Nat) (bytes : List Byte) : (s.emit port bytes).mix = s.mix := rfl
@[simp] theorem State.emit_ovr (s : State) (port : Nat) (bytes : List Byte) : (s.emit port bytes).ovr = s.ovr := rfl
@[simp] theorem State.emit_flt (s : State) (port : Nat) (bytes : List Byte) : (s.emit port bytes).flt = s.flt := rfl
@[simp] theorem State.emit_ten (s : State) (port : Nat) (bytes : List Byte) : (s.emit port bytes).ten = s.ten := rfl
@[simp] theorem State.emit_host (s : State) (port : Nat) (bytes : List Byte) : (s.emit port bytes).host = s.host := rfl
@[simp] theorem State.emit_dom (s : State) (port : Nat) (bytes : List Byte) : (s.emit port bytes).dom = s.dom := rfl
@[simp] theorem State.emit_rdp (s : State) (port : Nat) (bytes : List Byte) : (s.emit port bytes).rdp = s.rdp := rfl
@[simp] theorem State.emit_rct (s : State) (port : Nat) (bytes : List Byte) : (s.emit port bytes).rct = s.rct := rfl
@[simp] theorem State.emit_time (s : State) (port : Nat) (bytes : List Byte) : (s.emit port bytes).time = s.time := rfl
@[simp] theorem State.emit_port (s : State) (port : Nat) (bytes : List Byte) : (s.emit port bytes).port = s.port := rfl
@[simp] theorem State.emit_pwr (s : State) (port : Nat) (bytes : List Byte) : (s.emit port bytes).pwr = s.pwr := rfl
@[simp] theorem State.emit_bst (s : State) (port : Nat) (bytes : List Byte) : (s.emit port bytes).bst = s.bst := rfl
@[simp] theorem State.emit_ana (s : State) (port : Nat) (bytes : List Byte) : (s.emit port bytes).ana = s.ana := rfl
@[simp] theorem State.emit_aes (s : State) (port : Nat) (bytes : List Byte) : (s.emit port bytes).aes = s.aes := rfl
@[simp] theorem State.emit_sap (s : State) (port : Nat) (bytes : List Byte) : (s.emit port bytes).sap = s.sap := rfl
@[simp] theorem State.emit_aux (s : State) (port : Nat) (bytes : List Byte) : (s.emit port bytes).aux = s.aux := rfl
@[simp] theorem State.emit_clk (s : State) (port : Nat) (bytes : List Byte) : (s.emit port bytes).clk = s.clk := rfl
@[simp] theorem State.emit_mem (s : State) (port : Nat) (bytes : List Byte) : (s.emit port bytes).mem = s.mem := rfl
@[simp] theorem State.emit_auxRec (s : State) (port : Nat) (bytes : List Byte) : (s.emit port bytes).auxRec = s.auxRec := rfl
@[simp] theorem State.emit_regs (s : State) (port : Nat) (bytes : List Byte) : (s.emit port bytes).regs = s.regs := rfl
@[simp] theorem State.emit_free (s : State) (port : Nat) (bytes : List Byte) : (s.emit port bytes).free = s.free := rfl
@[simp] theorem State.emit_pending (s : State) (port : Nat) (bytes : List Byte) : (s.emit port bytes).pending = s.pending := rfl
@[simp] theorem State.emit_word (s : State) (port : Nat) (bytes : List Byte) (g : Fld) (i' j' t' : Nat) : (s.emit port bytes).word g i' j' t' = s.word g i' j' t' := rfl
@[simp] theorem State.emit_get (s : State) (port : Nat) (bytes : List Byte) (g : Fld) (i' j' t' : Nat) : (s.emit port bytes).get g i' j' t' = s.get g i' j' t' := rfl
@[simp] theorem State.emit_is (s : State) (port : Nat) (bytes : List Byte) (g : Fld) (i' j' t' : Nat) : (s.emit port bytes).is g i' j' t' = s.is g i' j' t' := rfl

@[simp] theorem State.answered_ks (s : State) (st : Nat) (v : Word) : (s.answered st v).ks = s.ks := rfl
@[simp] theorem State.answered_img (s : State) (st : Nat) (v : Word) : (s.answered st v).img = s.img := rfl
@[simp] theorem State.answered_eng (s : State) (st : Nat) (v : Word) : (s.answered st v).eng = s.eng := rfl
@[simp] theorem State.answered_mix (s : State) (st : Nat) (v : Word) : (s.answered st v).mix = s.mix := rfl
@[simp] theorem State.answered_ovr (s : State) (st : Nat) (v : Word) : (s.answered st v).ovr = s.ovr := rfl
@[simp] theorem State.answered_flt (s : State) (st : Nat) (v : Word) : (s.answered st v).flt = s.flt := rfl
@[simp] theorem State.answered_ten (s : State) (st : Nat) (v : Word) : (s.answered st v).ten = s.ten := rfl
@[simp] theorem State.answered_dom (s : State) (st : Nat) (v : Word) : (s.answered st v).dom = s.dom := rfl
@[simp] theorem State.answered_rdp (s : State) (st : Nat) (v : Word) : (s.answered st v).rdp = s.rdp := rfl
@[simp] theorem State.answered_rct (s : State) (st : Nat) (v : Word) : (s.answered st v).rct = s.rct := rfl
@[simp] theorem State.answered_time (s : State) (st : Nat) (v : Word) : (s.answered st v).time = s.time := rfl
@[simp] theorem State.answered_port (s : State) (st : Nat) (v : Word) : (s.answered st v).port = s.port := rfl
@[simp] theorem State.answered_pwr (s : State) (st : Nat) (v : Word) : (s.answered st v).pwr = s.pwr := rfl
@[simp] theorem State.answered_bst (s : State) (st : Nat) (v : Word) : (s.answered st v).bst = s.bst := rfl
@[simp] theorem State.answered_ana (s : State) (st : Nat) (v : Word) : (s.answered st v).ana = s.ana := rfl
@[simp] theorem State.answered_aes (s : State) (st : Nat) (v : Word) : (s.answered st v).aes = s.aes := rfl
@[simp] theorem State.answered_sap (s : State) (st : Nat) (v : Word) : (s.answered st v).sap = s.sap := rfl
@[simp] theorem State.answered_aux (s : State) (st : Nat) (v : Word) : (s.answered st v).aux = s.aux := rfl
@[simp] theorem State.answered_clk (s : State) (st : Nat) (v : Word) : (s.answered st v).clk = s.clk := rfl
@[simp] theorem State.answered_mem (s : State) (st : Nat) (v : Word) : (s.answered st v).mem = s.mem := rfl
@[simp] theorem State.answered_auxRec (s : State) (st : Nat) (v : Word) : (s.answered st v).auxRec = s.auxRec := rfl
@[simp] theorem State.answered_regs (s : State) (st : Nat) (v : Word) : (s.answered st v).regs = s.regs := rfl
@[simp] theorem State.answered_emitted (s : State) (st : Nat) (v : Word) : (s.answered st v).emitted = s.emitted := rfl
@[simp] theorem State.answered_free (s : State) (st : Nat) (v : Word) : (s.answered st v).free = s.free := rfl
@[simp] theorem State.answered_pending (s : State) (st : Nat) (v : Word) : (s.answered st v).pending = s.pending := rfl
@[simp] theorem State.answered_word (s : State) (st : Nat) (v : Word) (g : Fld) (i' j' t' : Nat) : (s.answered st v).word g i' j' t' = s.word g i' j' t' := rfl
@[simp] theorem State.answered_get (s : State) (st : Nat) (v : Word) (g : Fld) (i' j' t' : Nat) : (s.answered st v).get g i' j' t' = s.get g i' j' t' := rfl
@[simp] theorem State.answered_is (s : State) (st : Nat) (v : Word) (g : Fld) (i' j' t' : Nat) : (s.answered st v).is g i' j' t' = s.is g i' j' t' := rfl

@[simp] theorem State.withAlarm_img (s : State) (n t : Nat) : (s.withAlarm n t).img = s.img := rfl
@[simp] theorem State.withAlarm_eng (s : State) (n t : Nat) : (s.withAlarm n t).eng = s.eng := rfl
@[simp] theorem State.withAlarm_mix (s : State) (n t : Nat) : (s.withAlarm n t).mix = s.mix := rfl
@[simp] theorem State.withAlarm_ovr (s : State) (n t : Nat) : (s.withAlarm n t).ovr = s.ovr := rfl
@[simp] theorem State.withAlarm_flt (s : State) (n t : Nat) : (s.withAlarm n t).flt = s.flt := rfl
@[simp] theorem State.withAlarm_ten (s : State) (n t : Nat) : (s.withAlarm n t).ten = s.ten := rfl
@[simp] theorem State.withAlarm_host (s : State) (n t : Nat) : (s.withAlarm n t).host = s.host := rfl
@[simp] theorem State.withAlarm_dom (s : State) (n t : Nat) : (s.withAlarm n t).dom = s.dom := rfl
@[simp] theorem State.withAlarm_rdp (s : State) (n t : Nat) : (s.withAlarm n t).rdp = s.rdp := rfl
@[simp] theorem State.withAlarm_rct (s : State) (n t : Nat) : (s.withAlarm n t).rct = s.rct := rfl
@[simp] theorem State.withAlarm_time (s : State) (n t : Nat) : (s.withAlarm n t).time = s.time := rfl
@[simp] theorem State.withAlarm_port (s : State) (n t : Nat) : (s.withAlarm n t).port = s.port := rfl
@[simp] theorem State.withAlarm_pwr (s : State) (n t : Nat) : (s.withAlarm n t).pwr = s.pwr := rfl
@[simp] theorem State.withAlarm_bst (s : State) (n t : Nat) : (s.withAlarm n t).bst = s.bst := rfl
@[simp] theorem State.withAlarm_ana (s : State) (n t : Nat) : (s.withAlarm n t).ana = s.ana := rfl
@[simp] theorem State.withAlarm_aes (s : State) (n t : Nat) : (s.withAlarm n t).aes = s.aes := rfl
@[simp] theorem State.withAlarm_sap (s : State) (n t : Nat) : (s.withAlarm n t).sap = s.sap := rfl
@[simp] theorem State.withAlarm_aux (s : State) (n t : Nat) : (s.withAlarm n t).aux = s.aux := rfl
@[simp] theorem State.withAlarm_clk (s : State) (n t : Nat) : (s.withAlarm n t).clk = s.clk := rfl
@[simp] theorem State.withAlarm_mem (s : State) (n t : Nat) : (s.withAlarm n t).mem = s.mem := rfl
@[simp] theorem State.withAlarm_auxRec (s : State) (n t : Nat) : (s.withAlarm n t).auxRec = s.auxRec := rfl
@[simp] theorem State.withAlarm_regs (s : State) (n t : Nat) : (s.withAlarm n t).regs = s.regs := rfl
@[simp] theorem State.withAlarm_emitted (s : State) (n t : Nat) : (s.withAlarm n t).emitted = s.emitted := rfl
@[simp] theorem State.withAlarm_free (s : State) (n t : Nat) : (s.withAlarm n t).free = s.free := rfl
@[simp] theorem State.withAlarm_pending (s : State) (n t : Nat) : (s.withAlarm n t).pending = s.pending := rfl
@[simp] theorem State.withAlarm_word (s : State) (n t : Nat) (g : Fld) (i' j' t' : Nat) : (s.withAlarm n t).word g i' j' t' = s.word g i' j' t' := rfl
@[simp] theorem State.withAlarm_get (s : State) (n t : Nat) (g : Fld) (i' j' t' : Nat) : (s.withAlarm n t).get g i' j' t' = s.get g i' j' t' := rfl
@[simp] theorem State.withAlarm_is (s : State) (n t : Nat) (g : Fld) (i' j' t' : Nat) : (s.withAlarm n t).is g i' j' t' = s.is g i' j' t' := rfl

@[simp] theorem State.modSlot_ks (s : State) (n : Nat) (f : Slot → Slot) : (s.modSlot n f).ks = s.ks := rfl
@[simp] theorem State.modSlot_eng (s : State) (n : Nat) (f : Slot → Slot) : (s.modSlot n f).eng = s.eng := rfl
@[simp] theorem State.modSlot_mix (s : State) (n : Nat) (f : Slot → Slot) : (s.modSlot n f).mix = s.mix := rfl
@[simp] theorem State.modSlot_ovr (s : State) (n : Nat) (f : Slot → Slot) : (s.modSlot n f).ovr = s.ovr := rfl
@[simp] theorem State.modSlot_flt (s : State) (n : Nat) (f : Slot → Slot) : (s.modSlot n f).flt = s.flt := rfl
@[simp] theorem State.modSlot_ten (s : State) (n : Nat) (f : Slot → Slot) : (s.modSlot n f).ten = s.ten := rfl
@[simp] theorem State.modSlot_host (s : State) (n : Nat) (f : Slot → Slot) : (s.modSlot n f).host = s.host := rfl
@[simp] theorem State.modSlot_dom (s : State) (n : Nat) (f : Slot → Slot) : (s.modSlot n f).dom = s.dom := rfl
@[simp] theorem State.modSlot_rdp (s : State) (n : Nat) (f : Slot → Slot) : (s.modSlot n f).rdp = s.rdp := rfl
@[simp] theorem State.modSlot_rct (s : State) (n : Nat) (f : Slot → Slot) : (s.modSlot n f).rct = s.rct := rfl
@[simp] theorem State.modSlot_time (s : State) (n : Nat) (f : Slot → Slot) : (s.modSlot n f).time = s.time := rfl
@[simp] theorem State.modSlot_port (s : State) (n : Nat) (f : Slot → Slot) : (s.modSlot n f).port = s.port := rfl
@[simp] theorem State.modSlot_pwr (s : State) (n : Nat) (f : Slot → Slot) : (s.modSlot n f).pwr = s.pwr := rfl
@[simp] theorem State.modSlot_bst (s : State) (n : Nat) (f : Slot → Slot) : (s.modSlot n f).bst = s.bst := rfl
@[simp] theorem State.modSlot_ana (s : State) (n : Nat) (f : Slot → Slot) : (s.modSlot n f).ana = s.ana := rfl
@[simp] theorem State.modSlot_aes (s : State) (n : Nat) (f : Slot → Slot) : (s.modSlot n f).aes = s.aes := rfl
@[simp] theorem State.modSlot_sap (s : State) (n : Nat) (f : Slot → Slot) : (s.modSlot n f).sap = s.sap := rfl
@[simp] theorem State.modSlot_aux (s : State) (n : Nat) (f : Slot → Slot) : (s.modSlot n f).aux = s.aux := rfl
@[simp] theorem State.modSlot_clk (s : State) (n : Nat) (f : Slot → Slot) : (s.modSlot n f).clk = s.clk := rfl
@[simp] theorem State.modSlot_mem (s : State) (n : Nat) (f : Slot → Slot) : (s.modSlot n f).mem = s.mem := rfl
@[simp] theorem State.modSlot_auxRec (s : State) (n : Nat) (f : Slot → Slot) : (s.modSlot n f).auxRec = s.auxRec := rfl
@[simp] theorem State.modSlot_regs (s : State) (n : Nat) (f : Slot → Slot) : (s.modSlot n f).regs = s.regs := rfl
@[simp] theorem State.modSlot_emitted (s : State) (n : Nat) (f : Slot → Slot) : (s.modSlot n f).emitted = s.emitted := rfl
@[simp] theorem State.modSlot_free (s : State) (n : Nat) (f : Slot → Slot) : (s.modSlot n f).free = s.free := rfl
@[simp] theorem State.modSlot_pending (s : State) (n : Nat) (f : Slot → Slot) : (s.modSlot n f).pending = s.pending := rfl
@[simp] theorem State.modSlot_word (s : State) (n : Nat) (f : Slot → Slot) (g : Fld) (i' j' t' : Nat) : (s.modSlot n f).word g i' j' t' = s.word g i' j' t' := rfl
@[simp] theorem State.modSlot_get (s : State) (n : Nat) (f : Slot → Slot) (g : Fld) (i' j' t' : Nat) : (s.modSlot n f).get g i' j' t' = s.get g i' j' t' := rfl
@[simp] theorem State.modSlot_is (s : State) (n : Nat) (f : Slot → Slot) (g : Fld) (i' j' t' : Nat) : (s.modSlot n f).is g i' j' t' = s.is g i' j' t' := rfl

@[simp] theorem State.modEng_ks (s : State) (f : EngState → EngState) : (s.modEng f).ks = s.ks := rfl
@[simp] theorem State.modEng_img (s : State) (f : EngState → EngState) : (s.modEng f).img = s.img := rfl
@[simp] theorem State.modEng_mix (s : State) (f : EngState → EngState) : (s.modEng f).mix = s.mix := rfl
@[simp] theorem State.modEng_ovr (s : State) (f : EngState → EngState) : (s.modEng f).ovr = s.ovr := rfl
@[simp] theorem State.modEng_flt (s : State) (f : EngState → EngState) : (s.modEng f).flt = s.flt := rfl
@[simp] theorem State.modEng_ten (s : State) (f : EngState → EngState) : (s.modEng f).ten = s.ten := rfl
@[simp] theorem State.modEng_host (s : State) (f : EngState → EngState) : (s.modEng f).host = s.host := rfl
@[simp] theorem State.modEng_dom (s : State) (f : EngState → EngState) : (s.modEng f).dom = s.dom := rfl
@[simp] theorem State.modEng_rdp (s : State) (f : EngState → EngState) : (s.modEng f).rdp = s.rdp := rfl
@[simp] theorem State.modEng_rct (s : State) (f : EngState → EngState) : (s.modEng f).rct = s.rct := rfl
@[simp] theorem State.modEng_time (s : State) (f : EngState → EngState) : (s.modEng f).time = s.time := rfl
@[simp] theorem State.modEng_port (s : State) (f : EngState → EngState) : (s.modEng f).port = s.port := rfl
@[simp] theorem State.modEng_pwr (s : State) (f : EngState → EngState) : (s.modEng f).pwr = s.pwr := rfl
@[simp] theorem State.modEng_bst (s : State) (f : EngState → EngState) : (s.modEng f).bst = s.bst := rfl
@[simp] theorem State.modEng_ana (s : State) (f : EngState → EngState) : (s.modEng f).ana = s.ana := rfl
@[simp] theorem State.modEng_aes (s : State) (f : EngState → EngState) : (s.modEng f).aes = s.aes := rfl
@[simp] theorem State.modEng_sap (s : State) (f : EngState → EngState) : (s.modEng f).sap = s.sap := rfl
@[simp] theorem State.modEng_aux (s : State) (f : EngState → EngState) : (s.modEng f).aux = s.aux := rfl
@[simp] theorem State.modEng_clk (s : State) (f : EngState → EngState) : (s.modEng f).clk = s.clk := rfl
@[simp] theorem State.modEng_mem (s : State) (f : EngState → EngState) : (s.modEng f).mem = s.mem := rfl
@[simp] theorem State.modEng_auxRec (s : State) (f : EngState → EngState) : (s.modEng f).auxRec = s.auxRec := rfl
@[simp] theorem State.modEng_regs (s : State) (f : EngState → EngState) : (s.modEng f).regs = s.regs := rfl
@[simp] theorem State.modEng_emitted (s : State) (f : EngState → EngState) : (s.modEng f).emitted = s.emitted := rfl
@[simp] theorem State.modEng_free (s : State) (f : EngState → EngState) : (s.modEng f).free = s.free := rfl
@[simp] theorem State.modEng_pending (s : State) (f : EngState → EngState) : (s.modEng f).pending = s.pending := rfl
@[simp] theorem State.modEng_word (s : State) (f : EngState → EngState) (g : Fld) (i' j' t' : Nat) : (s.modEng f).word g i' j' t' = s.word g i' j' t' := rfl
@[simp] theorem State.modEng_get (s : State) (f : EngState → EngState) (g : Fld) (i' j' t' : Nat) : (s.modEng f).get g i' j' t' = s.get g i' j' t' := rfl
@[simp] theorem State.modEng_is (s : State) (f : EngState → EngState) (g : Fld) (i' j' t' : Nat) : (s.modEng f).is g i' j' t' = s.is g i' j' t' := rfl

@[simp] theorem State.modStone_ks (s : State) (n : Nat) (f : StoneRun → StoneRun) : (s.modStone n f).ks = s.ks := rfl
@[simp] theorem State.modStone_img (s : State) (n : Nat) (f : StoneRun → StoneRun) : (s.modStone n f).img = s.img := rfl
@[simp] theorem State.modStone_mix (s : State) (n : Nat) (f : StoneRun → StoneRun) : (s.modStone n f).mix = s.mix := rfl
@[simp] theorem State.modStone_ovr (s : State) (n : Nat) (f : StoneRun → StoneRun) : (s.modStone n f).ovr = s.ovr := rfl
@[simp] theorem State.modStone_flt (s : State) (n : Nat) (f : StoneRun → StoneRun) : (s.modStone n f).flt = s.flt := rfl
@[simp] theorem State.modStone_ten (s : State) (n : Nat) (f : StoneRun → StoneRun) : (s.modStone n f).ten = s.ten := rfl
@[simp] theorem State.modStone_host (s : State) (n : Nat) (f : StoneRun → StoneRun) : (s.modStone n f).host = s.host := rfl
@[simp] theorem State.modStone_dom (s : State) (n : Nat) (f : StoneRun → StoneRun) : (s.modStone n f).dom = s.dom := rfl
@[simp] theorem State.modStone_rdp (s : State) (n : Nat) (f : StoneRun → StoneRun) : (s.modStone n f).rdp = s.rdp := rfl
@[simp] theorem State.modStone_rct (s : State) (n : Nat) (f : StoneRun → StoneRun) : (s.modStone n f).rct = s.rct := rfl
@[simp] theorem State.modStone_time (s : State) (n : Nat) (f : StoneRun → StoneRun) : (s.modStone n f).time = s.time := rfl
@[simp] theorem State.modStone_port (s : State) (n : Nat) (f : StoneRun → StoneRun) : (s.modStone n f).port = s.port := rfl
@[simp] theorem State.modStone_pwr (s : State) (n : Nat) (f : StoneRun → StoneRun) : (s.modStone n f).pwr = s.pwr := rfl
@[simp] theorem State.modStone_bst (s : State) (n : Nat) (f : StoneRun → StoneRun) : (s.modStone n f).bst = s.bst := rfl
@[simp] theorem State.modStone_ana (s : State) (n : Nat) (f : StoneRun → StoneRun) : (s.modStone n f).ana = s.ana := rfl
@[simp] theorem State.modStone_aes (s : State) (n : Nat) (f : StoneRun → StoneRun) : (s.modStone n f).aes = s.aes := rfl
@[simp] theorem State.modStone_sap (s : State) (n : Nat) (f : StoneRun → StoneRun) : (s.modStone n f).sap = s.sap := rfl
@[simp] theorem State.modStone_aux (s : State) (n : Nat) (f : StoneRun → StoneRun) : (s.modStone n f).aux = s.aux := rfl
@[simp] theorem State.modStone_clk (s : State) (n : Nat) (f : StoneRun → StoneRun) : (s.modStone n f).clk = s.clk := rfl
@[simp] theorem State.modStone_mem (s : State) (n : Nat) (f : StoneRun → StoneRun) : (s.modStone n f).mem = s.mem := rfl
@[simp] theorem State.modStone_auxRec (s : State) (n : Nat) (f : StoneRun → StoneRun) : (s.modStone n f).auxRec = s.auxRec := rfl
@[simp] theorem State.modStone_regs (s : State) (n : Nat) (f : StoneRun → StoneRun) : (s.modStone n f).regs = s.regs := rfl
@[simp] theorem State.modStone_emitted (s : State) (n : Nat) (f : StoneRun → StoneRun) : (s.modStone n f).emitted = s.emitted := rfl
@[simp] theorem State.modStone_free (s : State) (n : Nat) (f : StoneRun → StoneRun) : (s.modStone n f).free = s.free := rfl
@[simp] theorem State.modStone_pending (s : State) (n : Nat) (f : StoneRun → StoneRun) : (s.modStone n f).pending = s.pending := rfl
@[simp] theorem State.modStone_word (s : State) (n : Nat) (f : StoneRun → StoneRun) (g : Fld) (i' j' t' : Nat) : (s.modStone n f).word g i' j' t' = s.word g i' j' t' := rfl
@[simp] theorem State.modStone_get (s : State) (n : Nat) (f : StoneRun → StoneRun) (g : Fld) (i' j' t' : Nat) : (s.modStone n f).get g i' j' t' = s.get g i' j' t' := rfl
@[simp] theorem State.modStone_is (s : State) (n : Nat) (f : StoneRun → StoneRun) (g : Fld) (i' j' t' : Nat) : (s.modStone n f).is g i' j' t' = s.is g i' j' t' := rfl

@[simp] theorem State.putInst_ks (s : State) (i : InstSt) : (s.putInst i).ks = s.ks := rfl
@[simp] theorem State.putInst_img (s : State) (i : InstSt) : (s.putInst i).img = s.img := rfl
@[simp] theorem State.putInst_mix (s : State) (i : InstSt) : (s.putInst i).mix = s.mix := rfl
@[simp] theorem State.putInst_ovr (s : State) (i : InstSt) : (s.putInst i).ovr = s.ovr := rfl
@[simp] theorem State.putInst_flt (s : State) (i : InstSt) : (s.putInst i).flt = s.flt := rfl
@[simp] theorem State.putInst_ten (s : State) (i : InstSt) : (s.putInst i).ten = s.ten := rfl
@[simp] theorem State.putInst_host (s : State) (i : InstSt) : (s.putInst i).host = s.host := rfl
@[simp] theorem State.putInst_dom (s : State) (i : InstSt) : (s.putInst i).dom = s.dom := rfl
@[simp] theorem State.putInst_rdp (s : State) (i : InstSt) : (s.putInst i).rdp = s.rdp := rfl
@[simp] theorem State.putInst_rct (s : State) (i : InstSt) : (s.putInst i).rct = s.rct := rfl
@[simp] theorem State.putInst_time (s : State) (i : InstSt) : (s.putInst i).time = s.time := rfl
@[simp] theorem State.putInst_port (s : State) (i : InstSt) : (s.putInst i).port = s.port := rfl
@[simp] theorem State.putInst_pwr (s : State) (i : InstSt) : (s.putInst i).pwr = s.pwr := rfl
@[simp] theorem State.putInst_bst (s : State) (i : InstSt) : (s.putInst i).bst = s.bst := rfl
@[simp] theorem State.putInst_ana (s : State) (i : InstSt) : (s.putInst i).ana = s.ana := rfl
@[simp] theorem State.putInst_aes (s : State) (i : InstSt) : (s.putInst i).aes = s.aes := rfl
@[simp] theorem State.putInst_sap (s : State) (i : InstSt) : (s.putInst i).sap = s.sap := rfl
@[simp] theorem State.putInst_aux (s : State) (i : InstSt) : (s.putInst i).aux = s.aux := rfl
@[simp] theorem State.putInst_clk (s : State) (i : InstSt) : (s.putInst i).clk = s.clk := rfl
@[simp] theorem State.putInst_mem (s : State) (i : InstSt) : (s.putInst i).mem = s.mem := rfl
@[simp] theorem State.putInst_auxRec (s : State) (i : InstSt) : (s.putInst i).auxRec = s.auxRec := rfl
@[simp] theorem State.putInst_regs (s : State) (i : InstSt) : (s.putInst i).regs = s.regs := rfl
@[simp] theorem State.putInst_emitted (s : State) (i : InstSt) : (s.putInst i).emitted = s.emitted := rfl
@[simp] theorem State.putInst_free (s : State) (i : InstSt) : (s.putInst i).free = s.free := rfl
@[simp] theorem State.putInst_pending (s : State) (i : InstSt) : (s.putInst i).pending = s.pending := rfl
@[simp] theorem State.putInst_word (s : State) (i : InstSt) (g : Fld) (i' j' t' : Nat) : (s.putInst i).word g i' j' t' = s.word g i' j' t' := rfl
@[simp] theorem State.putInst_get (s : State) (i : InstSt) (g : Fld) (i' j' t' : Nat) : (s.putInst i).get g i' j' t' = s.get g i' j' t' := rfl
@[simp] theorem State.putInst_is (s : State) (i : InstSt) (g : Fld) (i' j' t' : Nat) : (s.putInst i).is g i' j' t' = s.is g i' j' t' := rfl

@[simp] theorem State.modSwap_ks (s : State) (sp : Nat) (f : Swap → Swap) : (s.modSwap sp f).ks = s.ks := rfl
@[simp] theorem State.modSwap_img (s : State) (sp : Nat) (f : Swap → Swap) : (s.modSwap sp f).img = s.img := rfl
@[simp] theorem State.modSwap_eng (s : State) (sp : Nat) (f : Swap → Swap) : (s.modSwap sp f).eng = s.eng := rfl
@[simp] theorem State.modSwap_ovr (s : State) (sp : Nat) (f : Swap → Swap) : (s.modSwap sp f).ovr = s.ovr := rfl
@[simp] theorem State.modSwap_flt (s : State) (sp : Nat) (f : Swap → Swap) : (s.modSwap sp f).flt = s.flt := rfl
@[simp] theorem State.modSwap_ten (s : State) (sp : Nat) (f : Swap → Swap) : (s.modSwap sp f).ten = s.ten := rfl
@[simp] theorem State.modSwap_host (s : State) (sp : Nat) (f : Swap → Swap) : (s.modSwap sp f).host = s.host := rfl
@[simp] theorem State.modSwap_dom (s : State) (sp : Nat) (f : Swap → Swap) : (s.modSwap sp f).dom = s.dom := rfl
@[simp] theorem State.modSwap_rdp (s : State) (sp : Nat) (f : Swap → Swap) : (s.modSwap sp f).rdp = s.rdp := rfl
@[simp] theorem State.modSwap_rct (s : State) (sp : Nat) (f : Swap → Swap) : (s.modSwap sp f).rct = s.rct := rfl
@[simp] theorem State.modSwap_time (s : State) (sp : Nat) (f : Swap → Swap) : (s.modSwap sp f).time = s.time := rfl
@[simp] theorem State.modSwap_port (s : State) (sp : Nat) (f : Swap → Swap) : (s.modSwap sp f).port = s.port := rfl
@[simp] theorem State.modSwap_pwr (s : State) (sp : Nat) (f : Swap → Swap) : (s.modSwap sp f).pwr = s.pwr := rfl
@[simp] theorem State.modSwap_bst (s : State) (sp : Nat) (f : Swap → Swap) : (s.modSwap sp f).bst = s.bst := rfl
@[simp] theorem State.modSwap_ana (s : State) (sp : Nat) (f : Swap → Swap) : (s.modSwap sp f).ana = s.ana := rfl
@[simp] theorem State.modSwap_aes (s : State) (sp : Nat) (f : Swap → Swap) : (s.modSwap sp f).aes = s.aes := rfl
@[simp] theorem State.modSwap_sap (s : State) (sp : Nat) (f : Swap → Swap) : (s.modSwap sp f).sap = s.sap := rfl
@[simp] theorem State.modSwap_aux (s : State) (sp : Nat) (f : Swap → Swap) : (s.modSwap sp f).aux = s.aux := rfl
@[simp] theorem State.modSwap_clk (s : State) (sp : Nat) (f : Swap → Swap) : (s.modSwap sp f).clk = s.clk := rfl
@[simp] theorem State.modSwap_mem (s : State) (sp : Nat) (f : Swap → Swap) : (s.modSwap sp f).mem = s.mem := rfl
@[simp] theorem State.modSwap_auxRec (s : State) (sp : Nat) (f : Swap → Swap) : (s.modSwap sp f).auxRec = s.auxRec := rfl
@[simp] theorem State.modSwap_regs (s : State) (sp : Nat) (f : Swap → Swap) : (s.modSwap sp f).regs = s.regs := rfl
@[simp] theorem State.modSwap_emitted (s : State) (sp : Nat) (f : Swap → Swap) : (s.modSwap sp f).emitted = s.emitted := rfl
@[simp] theorem State.modSwap_free (s : State) (sp : Nat) (f : Swap → Swap) : (s.modSwap sp f).free = s.free := rfl
@[simp] theorem State.modSwap_pending (s : State) (sp : Nat) (f : Swap → Swap) : (s.modSwap sp f).pending = s.pending := rfl
@[simp] theorem State.modSwap_word (s : State) (sp : Nat) (f : Swap → Swap) (g : Fld) (i' j' t' : Nat) : (s.modSwap sp f).word g i' j' t' = s.word g i' j' t' := rfl
@[simp] theorem State.modSwap_get (s : State) (sp : Nat) (f : Swap → Swap) (g : Fld) (i' j' t' : Nat) : (s.modSwap sp f).get g i' j' t' = s.get g i' j' t' := rfl
@[simp] theorem State.modSwap_is (s : State) (sp : Nat) (f : Swap → Swap) (g : Fld) (i' j' t' : Nat) : (s.modSwap sp f).is g i' j' t' = s.is g i' j' t' := rfl

@[simp] theorem State.putMsg_ks (s : State) (m : Msg) : (s.putMsg m).ks = s.ks := rfl
@[simp] theorem State.putMsg_img (s : State) (m : Msg) : (s.putMsg m).img = s.img := rfl
@[simp] theorem State.putMsg_eng (s : State) (m : Msg) : (s.putMsg m).eng = s.eng := rfl
@[simp] theorem State.putMsg_ovr (s : State) (m : Msg) : (s.putMsg m).ovr = s.ovr := rfl
@[simp] theorem State.putMsg_flt (s : State) (m : Msg) : (s.putMsg m).flt = s.flt := rfl
@[simp] theorem State.putMsg_ten (s : State) (m : Msg) : (s.putMsg m).ten = s.ten := rfl
@[simp] theorem State.putMsg_host (s : State) (m : Msg) : (s.putMsg m).host = s.host := rfl
@[simp] theorem State.putMsg_dom (s : State) (m : Msg) : (s.putMsg m).dom = s.dom := rfl
@[simp] theorem State.putMsg_rdp (s : State) (m : Msg) : (s.putMsg m).rdp = s.rdp := rfl
@[simp] theorem State.putMsg_rct (s : State) (m : Msg) : (s.putMsg m).rct = s.rct := rfl
@[simp] theorem State.putMsg_time (s : State) (m : Msg) : (s.putMsg m).time = s.time := rfl
@[simp] theorem State.putMsg_port (s : State) (m : Msg) : (s.putMsg m).port = s.port := rfl
@[simp] theorem State.putMsg_pwr (s : State) (m : Msg) : (s.putMsg m).pwr = s.pwr := rfl
@[simp] theorem State.putMsg_bst (s : State) (m : Msg) : (s.putMsg m).bst = s.bst := rfl
@[simp] theorem State.putMsg_ana (s : State) (m : Msg) : (s.putMsg m).ana = s.ana := rfl
@[simp] theorem State.putMsg_aes (s : State) (m : Msg) : (s.putMsg m).aes = s.aes := rfl
@[simp] theorem State.putMsg_sap (s : State) (m : Msg) : (s.putMsg m).sap = s.sap := rfl
@[simp] theorem State.putMsg_aux (s : State) (m : Msg) : (s.putMsg m).aux = s.aux := rfl
@[simp] theorem State.putMsg_clk (s : State) (m : Msg) : (s.putMsg m).clk = s.clk := rfl
@[simp] theorem State.putMsg_mem (s : State) (m : Msg) : (s.putMsg m).mem = s.mem := rfl
@[simp] theorem State.putMsg_auxRec (s : State) (m : Msg) : (s.putMsg m).auxRec = s.auxRec := rfl
@[simp] theorem State.putMsg_regs (s : State) (m : Msg) : (s.putMsg m).regs = s.regs := rfl
@[simp] theorem State.putMsg_emitted (s : State) (m : Msg) : (s.putMsg m).emitted = s.emitted := rfl
@[simp] theorem State.putMsg_free (s : State) (m : Msg) : (s.putMsg m).free = s.free := rfl
@[simp] theorem State.putMsg_pending (s : State) (m : Msg) : (s.putMsg m).pending = s.pending := rfl
@[simp] theorem State.putMsg_word (s : State) (m : Msg) (g : Fld) (i' j' t' : Nat) : (s.putMsg m).word g i' j' t' = s.word g i' j' t' := rfl
@[simp] theorem State.putMsg_get (s : State) (m : Msg) (g : Fld) (i' j' t' : Nat) : (s.putMsg m).get g i' j' t' = s.get g i' j' t' := rfl
@[simp] theorem State.putMsg_is (s : State) (m : Msg) (g : Fld) (i' j' t' : Nat) : (s.putMsg m).is g i' j' t' = s.is g i' j' t' := rfl

@[simp] theorem State.msgStart_ks (s : State) (op n : Nat) : (s.msgStart op n).ks = s.ks := rfl
@[simp] theorem State.msgStart_img (s : State) (op n : Nat) : (s.msgStart op n).img = s.img := rfl
@[simp] theorem State.msgStart_eng (s : State) (op n : Nat) : (s.msgStart op n).eng = s.eng := rfl
@[simp] theorem State.msgStart_ovr (s : State) (op n : Nat) : (s.msgStart op n).ovr = s.ovr := rfl
@[simp] theorem State.msgStart_flt (s : State) (op n : Nat) : (s.msgStart op n).flt = s.flt := rfl
@[simp] theorem State.msgStart_ten (s : State) (op n : Nat) : (s.msgStart op n).ten = s.ten := rfl
@[simp] theorem State.msgStart_host (s : State) (op n : Nat) : (s.msgStart op n).host = s.host := rfl
@[simp] theorem State.msgStart_dom (s : State) (op n : Nat) : (s.msgStart op n).dom = s.dom := rfl
@[simp] theorem State.msgStart_rdp (s : State) (op n : Nat) : (s.msgStart op n).rdp = s.rdp := rfl
@[simp] theorem State.msgStart_rct (s : State) (op n : Nat) : (s.msgStart op n).rct = s.rct := rfl
@[simp] theorem State.msgStart_time (s : State) (op n : Nat) : (s.msgStart op n).time = s.time := rfl
@[simp] theorem State.msgStart_port (s : State) (op n : Nat) : (s.msgStart op n).port = s.port := rfl
@[simp] theorem State.msgStart_pwr (s : State) (op n : Nat) : (s.msgStart op n).pwr = s.pwr := rfl
@[simp] theorem State.msgStart_bst (s : State) (op n : Nat) : (s.msgStart op n).bst = s.bst := rfl
@[simp] theorem State.msgStart_ana (s : State) (op n : Nat) : (s.msgStart op n).ana = s.ana := rfl
@[simp] theorem State.msgStart_aes (s : State) (op n : Nat) : (s.msgStart op n).aes = s.aes := rfl
@[simp] theorem State.msgStart_sap (s : State) (op n : Nat) : (s.msgStart op n).sap = s.sap := rfl
@[simp] theorem State.msgStart_aux (s : State) (op n : Nat) : (s.msgStart op n).aux = s.aux := rfl
@[simp] theorem State.msgStart_clk (s : State) (op n : Nat) : (s.msgStart op n).clk = s.clk := rfl
@[simp] theorem State.msgStart_mem (s : State) (op n : Nat) : (s.msgStart op n).mem = s.mem := rfl
@[simp] theorem State.msgStart_auxRec (s : State) (op n : Nat) : (s.msgStart op n).auxRec = s.auxRec := rfl
@[simp] theorem State.msgStart_regs (s : State) (op n : Nat) : (s.msgStart op n).regs = s.regs := rfl
@[simp] theorem State.msgStart_emitted (s : State) (op n : Nat) : (s.msgStart op n).emitted = s.emitted := rfl
@[simp] theorem State.msgStart_free (s : State) (op n : Nat) : (s.msgStart op n).free = s.free := rfl
@[simp] theorem State.msgStart_pending (s : State) (op n : Nat) : (s.msgStart op n).pending = s.pending := rfl
@[simp] theorem State.msgStart_word (s : State) (op n : Nat) (g : Fld) (i' j' t' : Nat) : (s.msgStart op n).word g i' j' t' = s.word g i' j' t' := rfl
@[simp] theorem State.msgStart_get (s : State) (op n : Nat) (g : Fld) (i' j' t' : Nat) : (s.msgStart op n).get g i' j' t' = s.get g i' j' t' := rfl
@[simp] theorem State.msgStart_is (s : State) (op n : Nat) (g : Fld) (i' j' t' : Nat) : (s.msgStart op n).is g i' j' t' = s.is g i' j' t' := rfl

@[simp] theorem State.modOvr_ks (s : State) (f : OvrState → OvrState) : (s.modOvr f).ks = s.ks := rfl
@[simp] theorem State.modOvr_img (s : State) (f : OvrState → OvrState) : (s.modOvr f).img = s.img := rfl
@[simp] theorem State.modOvr_eng (s : State) (f : OvrState → OvrState) : (s.modOvr f).eng = s.eng := rfl
@[simp] theorem State.modOvr_mix (s : State) (f : OvrState → OvrState) : (s.modOvr f).mix = s.mix := rfl
@[simp] theorem State.modOvr_flt (s : State) (f : OvrState → OvrState) : (s.modOvr f).flt = s.flt := rfl
@[simp] theorem State.modOvr_ten (s : State) (f : OvrState → OvrState) : (s.modOvr f).ten = s.ten := rfl
@[simp] theorem State.modOvr_host (s : State) (f : OvrState → OvrState) : (s.modOvr f).host = s.host := rfl
@[simp] theorem State.modOvr_dom (s : State) (f : OvrState → OvrState) : (s.modOvr f).dom = s.dom := rfl
@[simp] theorem State.modOvr_rdp (s : State) (f : OvrState → OvrState) : (s.modOvr f).rdp = s.rdp := rfl
@[simp] theorem State.modOvr_rct (s : State) (f : OvrState → OvrState) : (s.modOvr f).rct = s.rct := rfl
@[simp] theorem State.modOvr_time (s : State) (f : OvrState → OvrState) : (s.modOvr f).time = s.time := rfl
@[simp] theorem State.modOvr_port (s : State) (f : OvrState → OvrState) : (s.modOvr f).port = s.port := rfl
@[simp] theorem State.modOvr_pwr (s : State) (f : OvrState → OvrState) : (s.modOvr f).pwr = s.pwr := rfl
@[simp] theorem State.modOvr_bst (s : State) (f : OvrState → OvrState) : (s.modOvr f).bst = s.bst := rfl
@[simp] theorem State.modOvr_ana (s : State) (f : OvrState → OvrState) : (s.modOvr f).ana = s.ana := rfl
@[simp] theorem State.modOvr_aes (s : State) (f : OvrState → OvrState) : (s.modOvr f).aes = s.aes := rfl
@[simp] theorem State.modOvr_sap (s : State) (f : OvrState → OvrState) : (s.modOvr f).sap = s.sap := rfl
@[simp] theorem State.modOvr_aux (s : State) (f : OvrState → OvrState) : (s.modOvr f).aux = s.aux := rfl
@[simp] theorem State.modOvr_clk (s : State) (f : OvrState → OvrState) : (s.modOvr f).clk = s.clk := rfl
@[simp] theorem State.modOvr_mem (s : State) (f : OvrState → OvrState) : (s.modOvr f).mem = s.mem := rfl
@[simp] theorem State.modOvr_auxRec (s : State) (f : OvrState → OvrState) : (s.modOvr f).auxRec = s.auxRec := rfl
@[simp] theorem State.modOvr_regs (s : State) (f : OvrState → OvrState) : (s.modOvr f).regs = s.regs := rfl
@[simp] theorem State.modOvr_emitted (s : State) (f : OvrState → OvrState) : (s.modOvr f).emitted = s.emitted := rfl
@[simp] theorem State.modOvr_free (s : State) (f : OvrState → OvrState) : (s.modOvr f).free = s.free := rfl
@[simp] theorem State.modOvr_pending (s : State) (f : OvrState → OvrState) : (s.modOvr f).pending = s.pending := rfl
@[simp] theorem State.modOvr_word (s : State) (f : OvrState → OvrState) (g : Fld) (i' j' t' : Nat) : (s.modOvr f).word g i' j' t' = s.word g i' j' t' := rfl
@[simp] theorem State.modOvr_get (s : State) (f : OvrState → OvrState) (g : Fld) (i' j' t' : Nat) : (s.modOvr f).get g i' j' t' = s.get g i' j' t' := rfl
@[simp] theorem State.modOvr_is (s : State) (f : OvrState → OvrState) (g : Fld) (i' j' t' : Nat) : (s.modOvr f).is g i' j' t' = s.is g i' j' t' := rfl

@[simp] theorem State.setSem_ks (s : State) (n : Nat) (x : Sem) : (s.setSem n x).ks = s.ks := rfl
@[simp] theorem State.setSem_img (s : State) (n : Nat) (x : Sem) : (s.setSem n x).img = s.img := rfl
@[simp] theorem State.setSem_eng (s : State) (n : Nat) (x : Sem) : (s.setSem n x).eng = s.eng := rfl
@[simp] theorem State.setSem_mix (s : State) (n : Nat) (x : Sem) : (s.setSem n x).mix = s.mix := rfl
@[simp] theorem State.setSem_ovr (s : State) (n : Nat) (x : Sem) : (s.setSem n x).ovr = s.ovr := rfl
@[simp] theorem State.setSem_flt (s : State) (n : Nat) (x : Sem) : (s.setSem n x).flt = s.flt := rfl
@[simp] theorem State.setSem_host (s : State) (n : Nat) (x : Sem) : (s.setSem n x).host = s.host := rfl
@[simp] theorem State.setSem_dom (s : State) (n : Nat) (x : Sem) : (s.setSem n x).dom = s.dom := rfl
@[simp] theorem State.setSem_rdp (s : State) (n : Nat) (x : Sem) : (s.setSem n x).rdp = s.rdp := rfl
@[simp] theorem State.setSem_rct (s : State) (n : Nat) (x : Sem) : (s.setSem n x).rct = s.rct := rfl
@[simp] theorem State.setSem_time (s : State) (n : Nat) (x : Sem) : (s.setSem n x).time = s.time := rfl
@[simp] theorem State.setSem_port (s : State) (n : Nat) (x : Sem) : (s.setSem n x).port = s.port := rfl
@[simp] theorem State.setSem_pwr (s : State) (n : Nat) (x : Sem) : (s.setSem n x).pwr = s.pwr := rfl
@[simp] theorem State.setSem_bst (s : State) (n : Nat) (x : Sem) : (s.setSem n x).bst = s.bst := rfl
@[simp] theorem State.setSem_ana (s : State) (n : Nat) (x : Sem) : (s.setSem n x).ana = s.ana := rfl
@[simp] theorem State.setSem_aes (s : State) (n : Nat) (x : Sem) : (s.setSem n x).aes = s.aes := rfl
@[simp] theorem State.setSem_sap (s : State) (n : Nat) (x : Sem) : (s.setSem n x).sap = s.sap := rfl
@[simp] theorem State.setSem_aux (s : State) (n : Nat) (x : Sem) : (s.setSem n x).aux = s.aux := rfl
@[simp] theorem State.setSem_clk (s : State) (n : Nat) (x : Sem) : (s.setSem n x).clk = s.clk := rfl
@[simp] theorem State.setSem_mem (s : State) (n : Nat) (x : Sem) : (s.setSem n x).mem = s.mem := rfl
@[simp] theorem State.setSem_auxRec (s : State) (n : Nat) (x : Sem) : (s.setSem n x).auxRec = s.auxRec := rfl
@[simp] theorem State.setSem_regs (s : State) (n : Nat) (x : Sem) : (s.setSem n x).regs = s.regs := rfl
@[simp] theorem State.setSem_emitted (s : State) (n : Nat) (x : Sem) : (s.setSem n x).emitted = s.emitted := rfl
@[simp] theorem State.setSem_free (s : State) (n : Nat) (x : Sem) : (s.setSem n x).free = s.free := rfl
@[simp] theorem State.setSem_pending (s : State) (n : Nat) (x : Sem) : (s.setSem n x).pending = s.pending := rfl
@[simp] theorem State.setSem_word (s : State) (n : Nat) (x : Sem) (g : Fld) (i' j' t' : Nat) : (s.setSem n x).word g i' j' t' = s.word g i' j' t' := rfl
@[simp] theorem State.setSem_get (s : State) (n : Nat) (x : Sem) (g : Fld) (i' j' t' : Nat) : (s.setSem n x).get g i' j' t' = s.get g i' j' t' := rfl
@[simp] theorem State.setSem_is (s : State) (n : Nat) (x : Sem) (g : Fld) (i' j' t' : Nat) : (s.setSem n x).is g i' j' t' = s.is g i' j' t' := rfl

@[simp] theorem State.modDom_ks (s : State) (d : Nat) (f : Domain → Domain) : (s.modDom d f).ks = s.ks := rfl
@[simp] theorem State.modDom_img (s : State) (d : Nat) (f : Domain → Domain) : (s.modDom d f).img = s.img := rfl
@[simp] theorem State.modDom_eng (s : State) (d : Nat) (f : Domain → Domain) : (s.modDom d f).eng = s.eng := rfl
@[simp] theorem State.modDom_mix (s : State) (d : Nat) (f : Domain → Domain) : (s.modDom d f).mix = s.mix := rfl
@[simp] theorem State.modDom_ovr (s : State) (d : Nat) (f : Domain → Domain) : (s.modDom d f).ovr = s.ovr := rfl
@[simp] theorem State.modDom_flt (s : State) (d : Nat) (f : Domain → Domain) : (s.modDom d f).flt = s.flt := rfl
@[simp] theorem State.modDom_ten (s : State) (d : Nat) (f : Domain → Domain) : (s.modDom d f).ten = s.ten := rfl
@[simp] theorem State.modDom_host (s : State) (d : Nat) (f : Domain → Domain) : (s.modDom d f).host = s.host := rfl
@[simp] theorem State.modDom_rdp (s : State) (d : Nat) (f : Domain → Domain) : (s.modDom d f).rdp = s.rdp := rfl
@[simp] theorem State.modDom_rct (s : State) (d : Nat) (f : Domain → Domain) : (s.modDom d f).rct = s.rct := rfl
@[simp] theorem State.modDom_time (s : State) (d : Nat) (f : Domain → Domain) : (s.modDom d f).time = s.time := rfl
@[simp] theorem State.modDom_port (s : State) (d : Nat) (f : Domain → Domain) : (s.modDom d f).port = s.port := rfl
@[simp] theorem State.modDom_pwr (s : State) (d : Nat) (f : Domain → Domain) : (s.modDom d f).pwr = s.pwr := rfl
@[simp] theorem State.modDom_bst (s : State) (d : Nat) (f : Domain → Domain) : (s.modDom d f).bst = s.bst := rfl
@[simp] theorem State.modDom_ana (s : State) (d : Nat) (f : Domain → Domain) : (s.modDom d f).ana = s.ana := rfl
@[simp] theorem State.modDom_aes (s : State) (d : Nat) (f : Domain → Domain) : (s.modDom d f).aes = s.aes := rfl
@[simp] theorem State.modDom_sap (s : State) (d : Nat) (f : Domain → Domain) : (s.modDom d f).sap = s.sap := rfl
@[simp] theorem State.modDom_aux (s : State) (d : Nat) (f : Domain → Domain) : (s.modDom d f).aux = s.aux := rfl
@[simp] theorem State.modDom_clk (s : State) (d : Nat) (f : Domain → Domain) : (s.modDom d f).clk = s.clk := rfl
@[simp] theorem State.modDom_mem (s : State) (d : Nat) (f : Domain → Domain) : (s.modDom d f).mem = s.mem := rfl
@[simp] theorem State.modDom_auxRec (s : State) (d : Nat) (f : Domain → Domain) : (s.modDom d f).auxRec = s.auxRec := rfl
@[simp] theorem State.modDom_regs (s : State) (d : Nat) (f : Domain → Domain) : (s.modDom d f).regs = s.regs := rfl
@[simp] theorem State.modDom_emitted (s : State) (d : Nat) (f : Domain → Domain) : (s.modDom d f).emitted = s.emitted := rfl
@[simp] theorem State.modDom_free (s : State) (d : Nat) (f : Domain → Domain) : (s.modDom d f).free = s.free := rfl
@[simp] theorem State.modDom_pending (s : State) (d : Nat) (f : Domain → Domain) : (s.modDom d f).pending = s.pending := rfl
@[simp] theorem State.modDom_word (s : State) (d : Nat) (f : Domain → Domain) (g : Fld) (i' j' t' : Nat) : (s.modDom d f).word g i' j' t' = s.word g i' j' t' := rfl
@[simp] theorem State.modDom_get (s : State) (d : Nat) (f : Domain → Domain) (g : Fld) (i' j' t' : Nat) : (s.modDom d f).get g i' j' t' = s.get g i' j' t' := rfl
@[simp] theorem State.modDom_is (s : State) (d : Nat) (f : Domain → Domain) (g : Fld) (i' j' t' : Nat) : (s.modDom d f).is g i' j' t' = s.is g i' j' t' := rfl

@[simp] theorem State.modLane_ks (s : State) (lane : Nat) (f : Lane → Lane) : (s.modLane lane f).ks = s.ks := rfl
@[simp] theorem State.modLane_img (s : State) (lane : Nat) (f : Lane → Lane) : (s.modLane lane f).img = s.img := rfl
@[simp] theorem State.modLane_eng (s : State) (lane : Nat) (f : Lane → Lane) : (s.modLane lane f).eng = s.eng := rfl
@[simp] theorem State.modLane_mix (s : State) (lane : Nat) (f : Lane → Lane) : (s.modLane lane f).mix = s.mix := rfl
@[simp] theorem State.modLane_ovr (s : State) (lane : Nat) (f : Lane → Lane) : (s.modLane lane f).ovr = s.ovr := rfl
@[simp] theorem State.modLane_flt (s : State) (lane : Nat) (f : Lane → Lane) : (s.modLane lane f).flt = s.flt := rfl
@[simp] theorem State.modLane_ten (s : State) (lane : Nat) (f : Lane → Lane) : (s.modLane lane f).ten = s.ten := rfl
@[simp] theorem State.modLane_host (s : State) (lane : Nat) (f : Lane → Lane) : (s.modLane lane f).host = s.host := rfl
@[simp] theorem State.modLane_dom (s : State) (lane : Nat) (f : Lane → Lane) : (s.modLane lane f).dom = s.dom := rfl
@[simp] theorem State.modLane_rct (s : State) (lane : Nat) (f : Lane → Lane) : (s.modLane lane f).rct = s.rct := rfl
@[simp] theorem State.modLane_time (s : State) (lane : Nat) (f : Lane → Lane) : (s.modLane lane f).time = s.time := rfl
@[simp] theorem State.modLane_port (s : State) (lane : Nat) (f : Lane → Lane) : (s.modLane lane f).port = s.port := rfl
@[simp] theorem State.modLane_pwr (s : State) (lane : Nat) (f : Lane → Lane) : (s.modLane lane f).pwr = s.pwr := rfl
@[simp] theorem State.modLane_bst (s : State) (lane : Nat) (f : Lane → Lane) : (s.modLane lane f).bst = s.bst := rfl
@[simp] theorem State.modLane_ana (s : State) (lane : Nat) (f : Lane → Lane) : (s.modLane lane f).ana = s.ana := rfl
@[simp] theorem State.modLane_aes (s : State) (lane : Nat) (f : Lane → Lane) : (s.modLane lane f).aes = s.aes := rfl
@[simp] theorem State.modLane_sap (s : State) (lane : Nat) (f : Lane → Lane) : (s.modLane lane f).sap = s.sap := rfl
@[simp] theorem State.modLane_aux (s : State) (lane : Nat) (f : Lane → Lane) : (s.modLane lane f).aux = s.aux := rfl
@[simp] theorem State.modLane_clk (s : State) (lane : Nat) (f : Lane → Lane) : (s.modLane lane f).clk = s.clk := rfl
@[simp] theorem State.modLane_mem (s : State) (lane : Nat) (f : Lane → Lane) : (s.modLane lane f).mem = s.mem := rfl
@[simp] theorem State.modLane_auxRec (s : State) (lane : Nat) (f : Lane → Lane) : (s.modLane lane f).auxRec = s.auxRec := rfl
@[simp] theorem State.modLane_regs (s : State) (lane : Nat) (f : Lane → Lane) : (s.modLane lane f).regs = s.regs := rfl
@[simp] theorem State.modLane_emitted (s : State) (lane : Nat) (f : Lane → Lane) : (s.modLane lane f).emitted = s.emitted := rfl
@[simp] theorem State.modLane_free (s : State) (lane : Nat) (f : Lane → Lane) : (s.modLane lane f).free = s.free := rfl
@[simp] theorem State.modLane_pending (s : State) (lane : Nat) (f : Lane → Lane) : (s.modLane lane f).pending = s.pending := rfl
@[simp] theorem State.modLane_word (s : State) (lane : Nat) (f : Lane → Lane) (g : Fld) (i' j' t' : Nat) : (s.modLane lane f).word g i' j' t' = s.word g i' j' t' := rfl
@[simp] theorem State.modLane_get (s : State) (lane : Nat) (f : Lane → Lane) (g : Fld) (i' j' t' : Nat) : (s.modLane lane f).get g i' j' t' = s.get g i' j' t' := rfl
@[simp] theorem State.modLane_is (s : State) (lane : Nat) (f : Lane → Lane) (g : Fld) (i' j' t' : Nat) : (s.modLane lane f).is g i' j' t' = s.is g i' j' t' := rfl

@[simp] theorem State.modRct_ks (s : State) (f : RctState → RctState) : (s.modRct f).ks = s.ks := rfl
@[simp] theorem State.modRct_img (s : State) (f : RctState → RctState) : (s.modRct f).img = s.img := rfl
@[simp] theorem State.modRct_eng (s : State) (f : RctState → RctState) : (s.modRct f).eng = s.eng := rfl
@[simp] theorem State.modRct_mix (s : State) (f : RctState → RctState) : (s.modRct f).mix = s.mix := rfl
@[simp] theorem State.modRct_ovr (s : State) (f : RctState → RctState) : (s.modRct f).ovr = s.ovr := rfl
@[simp] theorem State.modRct_flt (s : State) (f : RctState → RctState) : (s.modRct f).flt = s.flt := rfl
@[simp] theorem State.modRct_ten (s : State) (f : RctState → RctState) : (s.modRct f).ten = s.ten := rfl
@[simp] theorem State.modRct_host (s : State) (f : RctState → RctState) : (s.modRct f).host = s.host := rfl
@[simp] theorem State.modRct_dom (s : State) (f : RctState → RctState) : (s.modRct f).dom = s.dom := rfl
@[simp] theorem State.modRct_rdp (s : State) (f : RctState → RctState) : (s.modRct f).rdp = s.rdp := rfl
@[simp] theorem State.modRct_time (s : State) (f : RctState → RctState) : (s.modRct f).time = s.time := rfl
@[simp] theorem State.modRct_port (s : State) (f : RctState → RctState) : (s.modRct f).port = s.port := rfl
@[simp] theorem State.modRct_pwr (s : State) (f : RctState → RctState) : (s.modRct f).pwr = s.pwr := rfl
@[simp] theorem State.modRct_bst (s : State) (f : RctState → RctState) : (s.modRct f).bst = s.bst := rfl
@[simp] theorem State.modRct_ana (s : State) (f : RctState → RctState) : (s.modRct f).ana = s.ana := rfl
@[simp] theorem State.modRct_aes (s : State) (f : RctState → RctState) : (s.modRct f).aes = s.aes := rfl
@[simp] theorem State.modRct_sap (s : State) (f : RctState → RctState) : (s.modRct f).sap = s.sap := rfl
@[simp] theorem State.modRct_aux (s : State) (f : RctState → RctState) : (s.modRct f).aux = s.aux := rfl
@[simp] theorem State.modRct_clk (s : State) (f : RctState → RctState) : (s.modRct f).clk = s.clk := rfl
@[simp] theorem State.modRct_mem (s : State) (f : RctState → RctState) : (s.modRct f).mem = s.mem := rfl
@[simp] theorem State.modRct_auxRec (s : State) (f : RctState → RctState) : (s.modRct f).auxRec = s.auxRec := rfl
@[simp] theorem State.modRct_regs (s : State) (f : RctState → RctState) : (s.modRct f).regs = s.regs := rfl
@[simp] theorem State.modRct_emitted (s : State) (f : RctState → RctState) : (s.modRct f).emitted = s.emitted := rfl
@[simp] theorem State.modRct_free (s : State) (f : RctState → RctState) : (s.modRct f).free = s.free := rfl
@[simp] theorem State.modRct_pending (s : State) (f : RctState → RctState) : (s.modRct f).pending = s.pending := rfl
@[simp] theorem State.modRct_word (s : State) (f : RctState → RctState) (g : Fld) (i' j' t' : Nat) : (s.modRct f).word g i' j' t' = s.word g i' j' t' := rfl
@[simp] theorem State.modRct_get (s : State) (f : RctState → RctState) (g : Fld) (i' j' t' : Nat) : (s.modRct f).get g i' j' t' = s.get g i' j' t' := rfl
@[simp] theorem State.modRct_is (s : State) (f : RctState → RctState) (g : Fld) (i' j' t' : Nat) : (s.modRct f).is g i' j' t' = s.is g i' j' t' := rfl

@[simp] theorem State.modAaf_ks (s : State) (i : Nat) (f : Aaf → Aaf) : (s.modAaf i f).ks = s.ks := rfl
@[simp] theorem State.modAaf_img (s : State) (i : Nat) (f : Aaf → Aaf) : (s.modAaf i f).img = s.img := rfl
@[simp] theorem State.modAaf_eng (s : State) (i : Nat) (f : Aaf → Aaf) : (s.modAaf i f).eng = s.eng := rfl
@[simp] theorem State.modAaf_mix (s : State) (i : Nat) (f : Aaf → Aaf) : (s.modAaf i f).mix = s.mix := rfl
@[simp] theorem State.modAaf_ovr (s : State) (i : Nat) (f : Aaf → Aaf) : (s.modAaf i f).ovr = s.ovr := rfl
@[simp] theorem State.modAaf_flt (s : State) (i : Nat) (f : Aaf → Aaf) : (s.modAaf i f).flt = s.flt := rfl
@[simp] theorem State.modAaf_ten (s : State) (i : Nat) (f : Aaf → Aaf) : (s.modAaf i f).ten = s.ten := rfl
@[simp] theorem State.modAaf_host (s : State) (i : Nat) (f : Aaf → Aaf) : (s.modAaf i f).host = s.host := rfl
@[simp] theorem State.modAaf_dom (s : State) (i : Nat) (f : Aaf → Aaf) : (s.modAaf i f).dom = s.dom := rfl
@[simp] theorem State.modAaf_rdp (s : State) (i : Nat) (f : Aaf → Aaf) : (s.modAaf i f).rdp = s.rdp := rfl
@[simp] theorem State.modAaf_rct (s : State) (i : Nat) (f : Aaf → Aaf) : (s.modAaf i f).rct = s.rct := rfl
@[simp] theorem State.modAaf_time (s : State) (i : Nat) (f : Aaf → Aaf) : (s.modAaf i f).time = s.time := rfl
@[simp] theorem State.modAaf_pwr (s : State) (i : Nat) (f : Aaf → Aaf) : (s.modAaf i f).pwr = s.pwr := rfl
@[simp] theorem State.modAaf_bst (s : State) (i : Nat) (f : Aaf → Aaf) : (s.modAaf i f).bst = s.bst := rfl
@[simp] theorem State.modAaf_ana (s : State) (i : Nat) (f : Aaf → Aaf) : (s.modAaf i f).ana = s.ana := rfl
@[simp] theorem State.modAaf_aes (s : State) (i : Nat) (f : Aaf → Aaf) : (s.modAaf i f).aes = s.aes := rfl
@[simp] theorem State.modAaf_sap (s : State) (i : Nat) (f : Aaf → Aaf) : (s.modAaf i f).sap = s.sap := rfl
@[simp] theorem State.modAaf_aux (s : State) (i : Nat) (f : Aaf → Aaf) : (s.modAaf i f).aux = s.aux := rfl
@[simp] theorem State.modAaf_clk (s : State) (i : Nat) (f : Aaf → Aaf) : (s.modAaf i f).clk = s.clk := rfl
@[simp] theorem State.modAaf_mem (s : State) (i : Nat) (f : Aaf → Aaf) : (s.modAaf i f).mem = s.mem := rfl
@[simp] theorem State.modAaf_auxRec (s : State) (i : Nat) (f : Aaf → Aaf) : (s.modAaf i f).auxRec = s.auxRec := rfl
@[simp] theorem State.modAaf_regs (s : State) (i : Nat) (f : Aaf → Aaf) : (s.modAaf i f).regs = s.regs := rfl
@[simp] theorem State.modAaf_emitted (s : State) (i : Nat) (f : Aaf → Aaf) : (s.modAaf i f).emitted = s.emitted := rfl
@[simp] theorem State.modAaf_free (s : State) (i : Nat) (f : Aaf → Aaf) : (s.modAaf i f).free = s.free := rfl
@[simp] theorem State.modAaf_pending (s : State) (i : Nat) (f : Aaf → Aaf) : (s.modAaf i f).pending = s.pending := rfl
@[simp] theorem State.modAaf_word (s : State) (i : Nat) (f : Aaf → Aaf) (g : Fld) (i' j' t' : Nat) : (s.modAaf i f).word g i' j' t' = s.word g i' j' t' := rfl
@[simp] theorem State.modAaf_get (s : State) (i : Nat) (f : Aaf → Aaf) (g : Fld) (i' j' t' : Nat) : (s.modAaf i f).get g i' j' t' = s.get g i' j' t' := rfl
@[simp] theorem State.modAaf_is (s : State) (i : Nat) (f : Aaf → Aaf) (g : Fld) (i' j' t' : Nat) : (s.modAaf i f).is g i' j' t' = s.is g i' j' t' := rfl

@[simp] theorem State.modPc_ks (s : State) (n : Nat) (f : PwrCh → PwrCh) : (s.modPc n f).ks = s.ks := rfl
@[simp] theorem State.modPc_img (s : State) (n : Nat) (f : PwrCh → PwrCh) : (s.modPc n f).img = s.img := rfl
@[simp] theorem State.modPc_eng (s : State) (n : Nat) (f : PwrCh → PwrCh) : (s.modPc n f).eng = s.eng := rfl
@[simp] theorem State.modPc_mix (s : State) (n : Nat) (f : PwrCh → PwrCh) : (s.modPc n f).mix = s.mix := rfl
@[simp] theorem State.modPc_ovr (s : State) (n : Nat) (f : PwrCh → PwrCh) : (s.modPc n f).ovr = s.ovr := rfl
@[simp] theorem State.modPc_flt (s : State) (n : Nat) (f : PwrCh → PwrCh) : (s.modPc n f).flt = s.flt := rfl
@[simp] theorem State.modPc_ten (s : State) (n : Nat) (f : PwrCh → PwrCh) : (s.modPc n f).ten = s.ten := rfl
@[simp] theorem State.modPc_host (s : State) (n : Nat) (f : PwrCh → PwrCh) : (s.modPc n f).host = s.host := rfl
@[simp] theorem State.modPc_dom (s : State) (n : Nat) (f : PwrCh → PwrCh) : (s.modPc n f).dom = s.dom := rfl
@[simp] theorem State.modPc_rdp (s : State) (n : Nat) (f : PwrCh → PwrCh) : (s.modPc n f).rdp = s.rdp := rfl
@[simp] theorem State.modPc_rct (s : State) (n : Nat) (f : PwrCh → PwrCh) : (s.modPc n f).rct = s.rct := rfl
@[simp] theorem State.modPc_time (s : State) (n : Nat) (f : PwrCh → PwrCh) : (s.modPc n f).time = s.time := rfl
@[simp] theorem State.modPc_port (s : State) (n : Nat) (f : PwrCh → PwrCh) : (s.modPc n f).port = s.port := rfl
@[simp] theorem State.modPc_bst (s : State) (n : Nat) (f : PwrCh → PwrCh) : (s.modPc n f).bst = s.bst := rfl
@[simp] theorem State.modPc_ana (s : State) (n : Nat) (f : PwrCh → PwrCh) : (s.modPc n f).ana = s.ana := rfl
@[simp] theorem State.modPc_aes (s : State) (n : Nat) (f : PwrCh → PwrCh) : (s.modPc n f).aes = s.aes := rfl
@[simp] theorem State.modPc_sap (s : State) (n : Nat) (f : PwrCh → PwrCh) : (s.modPc n f).sap = s.sap := rfl
@[simp] theorem State.modPc_aux (s : State) (n : Nat) (f : PwrCh → PwrCh) : (s.modPc n f).aux = s.aux := rfl
@[simp] theorem State.modPc_clk (s : State) (n : Nat) (f : PwrCh → PwrCh) : (s.modPc n f).clk = s.clk := rfl
@[simp] theorem State.modPc_mem (s : State) (n : Nat) (f : PwrCh → PwrCh) : (s.modPc n f).mem = s.mem := rfl
@[simp] theorem State.modPc_auxRec (s : State) (n : Nat) (f : PwrCh → PwrCh) : (s.modPc n f).auxRec = s.auxRec := rfl
@[simp] theorem State.modPc_regs (s : State) (n : Nat) (f : PwrCh → PwrCh) : (s.modPc n f).regs = s.regs := rfl
@[simp] theorem State.modPc_emitted (s : State) (n : Nat) (f : PwrCh → PwrCh) : (s.modPc n f).emitted = s.emitted := rfl
@[simp] theorem State.modPc_free (s : State) (n : Nat) (f : PwrCh → PwrCh) : (s.modPc n f).free = s.free := rfl
@[simp] theorem State.modPc_pending (s : State) (n : Nat) (f : PwrCh → PwrCh) : (s.modPc n f).pending = s.pending := rfl
@[simp] theorem State.modPc_word (s : State) (n : Nat) (f : PwrCh → PwrCh) (g : Fld) (i' j' t' : Nat) : (s.modPc n f).word g i' j' t' = s.word g i' j' t' := rfl
@[simp] theorem State.modPc_get (s : State) (n : Nat) (f : PwrCh → PwrCh) (g : Fld) (i' j' t' : Nat) : (s.modPc n f).get g i' j' t' = s.get g i' j' t' := rfl
@[simp] theorem State.modPc_is (s : State) (n : Nat) (f : PwrCh → PwrCh) (g : Fld) (i' j' t' : Nat) : (s.modPc n f).is g i' j' t' = s.is g i' j' t' := rfl

@[simp] theorem State.modBc_ks (s : State) (n : Nat) (f : BstCh → BstCh) : (s.modBc n f).ks = s.ks := rfl
@[simp] theorem State.modBc_img (s : State) (n : Nat) (f : BstCh → BstCh) : (s.modBc n f).img = s.img := rfl
@[simp] theorem State.modBc_eng (s : State) (n : Nat) (f : BstCh → BstCh) : (s.modBc n f).eng = s.eng := rfl
@[simp] theorem State.modBc_mix (s : State) (n : Nat) (f : BstCh → BstCh) : (s.modBc n f).mix = s.mix := rfl
@[simp] theorem State.modBc_ovr (s : State) (n : Nat) (f : BstCh → BstCh) : (s.modBc n f).ovr = s.ovr := rfl
@[simp] theorem State.modBc_flt (s : State) (n : Nat) (f : BstCh → BstCh) : (s.modBc n f).flt = s.flt := rfl
@[simp] theorem State.modBc_ten (s : State) (n : Nat) (f : BstCh → BstCh) : (s.modBc n f).ten = s.ten := rfl
@[simp] theorem State.modBc_host (s : State) (n : Nat) (f : BstCh → BstCh) : (s.modBc n f).host = s.host := rfl
@[simp] theorem State.modBc_dom (s : State) (n : Nat) (f : BstCh → BstCh) : (s.modBc n f).dom = s.dom := rfl
@[simp] theorem State.modBc_rdp (s : State) (n : Nat) (f : BstCh → BstCh) : (s.modBc n f).rdp = s.rdp := rfl
@[simp] theorem State.modBc_rct (s : State) (n : Nat) (f : BstCh → BstCh) : (s.modBc n f).rct = s.rct := rfl
@[simp] theorem State.modBc_time (s : State) (n : Nat) (f : BstCh → BstCh) : (s.modBc n f).time = s.time := rfl
@[simp] theorem State.modBc_port (s : State) (n : Nat) (f : BstCh → BstCh) : (s.modBc n f).port = s.port := rfl
@[simp] theorem State.modBc_pwr (s : State) (n : Nat) (f : BstCh → BstCh) : (s.modBc n f).pwr = s.pwr := rfl
@[simp] theorem State.modBc_ana (s : State) (n : Nat) (f : BstCh → BstCh) : (s.modBc n f).ana = s.ana := rfl
@[simp] theorem State.modBc_aes (s : State) (n : Nat) (f : BstCh → BstCh) : (s.modBc n f).aes = s.aes := rfl
@[simp] theorem State.modBc_sap (s : State) (n : Nat) (f : BstCh → BstCh) : (s.modBc n f).sap = s.sap := rfl
@[simp] theorem State.modBc_aux (s : State) (n : Nat) (f : BstCh → BstCh) : (s.modBc n f).aux = s.aux := rfl
@[simp] theorem State.modBc_clk (s : State) (n : Nat) (f : BstCh → BstCh) : (s.modBc n f).clk = s.clk := rfl
@[simp] theorem State.modBc_mem (s : State) (n : Nat) (f : BstCh → BstCh) : (s.modBc n f).mem = s.mem := rfl
@[simp] theorem State.modBc_auxRec (s : State) (n : Nat) (f : BstCh → BstCh) : (s.modBc n f).auxRec = s.auxRec := rfl
@[simp] theorem State.modBc_regs (s : State) (n : Nat) (f : BstCh → BstCh) : (s.modBc n f).regs = s.regs := rfl
@[simp] theorem State.modBc_emitted (s : State) (n : Nat) (f : BstCh → BstCh) : (s.modBc n f).emitted = s.emitted := rfl
@[simp] theorem State.modBc_free (s : State) (n : Nat) (f : BstCh → BstCh) : (s.modBc n f).free = s.free := rfl
@[simp] theorem State.modBc_pending (s : State) (n : Nat) (f : BstCh → BstCh) : (s.modBc n f).pending = s.pending := rfl
@[simp] theorem State.modBc_word (s : State) (n : Nat) (f : BstCh → BstCh) (g : Fld) (i' j' t' : Nat) : (s.modBc n f).word g i' j' t' = s.word g i' j' t' := rfl
@[simp] theorem State.modBc_get (s : State) (n : Nat) (f : BstCh → BstCh) (g : Fld) (i' j' t' : Nat) : (s.modBc n f).get g i' j' t' = s.get g i' j' t' := rfl
@[simp] theorem State.modBc_is (s : State) (n : Nat) (f : BstCh → BstCh) (g : Fld) (i' j' t' : Nat) : (s.modBc n f).is g i' j' t' = s.is g i' j' t' := rfl

@[simp] theorem State.modDiag_ks (s : State) (f : DiagState → DiagState) : (s.modDiag f).ks = s.ks := rfl
@[simp] theorem State.modDiag_img (s : State) (f : DiagState → DiagState) : (s.modDiag f).img = s.img := rfl
@[simp] theorem State.modDiag_eng (s : State) (f : DiagState → DiagState) : (s.modDiag f).eng = s.eng := rfl
@[simp] theorem State.modDiag_mix (s : State) (f : DiagState → DiagState) : (s.modDiag f).mix = s.mix := rfl
@[simp] theorem State.modDiag_ovr (s : State) (f : DiagState → DiagState) : (s.modDiag f).ovr = s.ovr := rfl
@[simp] theorem State.modDiag_flt (s : State) (f : DiagState → DiagState) : (s.modDiag f).flt = s.flt := rfl
@[simp] theorem State.modDiag_ten (s : State) (f : DiagState → DiagState) : (s.modDiag f).ten = s.ten := rfl
@[simp] theorem State.modDiag_host (s : State) (f : DiagState → DiagState) : (s.modDiag f).host = s.host := rfl
@[simp] theorem State.modDiag_dom (s : State) (f : DiagState → DiagState) : (s.modDiag f).dom = s.dom := rfl
@[simp] theorem State.modDiag_rdp (s : State) (f : DiagState → DiagState) : (s.modDiag f).rdp = s.rdp := rfl
@[simp] theorem State.modDiag_rct (s : State) (f : DiagState → DiagState) : (s.modDiag f).rct = s.rct := rfl
@[simp] theorem State.modDiag_time (s : State) (f : DiagState → DiagState) : (s.modDiag f).time = s.time := rfl
@[simp] theorem State.modDiag_port (s : State) (f : DiagState → DiagState) : (s.modDiag f).port = s.port := rfl
@[simp] theorem State.modDiag_pwr (s : State) (f : DiagState → DiagState) : (s.modDiag f).pwr = s.pwr := rfl
@[simp] theorem State.modDiag_ana (s : State) (f : DiagState → DiagState) : (s.modDiag f).ana = s.ana := rfl
@[simp] theorem State.modDiag_aes (s : State) (f : DiagState → DiagState) : (s.modDiag f).aes = s.aes := rfl
@[simp] theorem State.modDiag_sap (s : State) (f : DiagState → DiagState) : (s.modDiag f).sap = s.sap := rfl
@[simp] theorem State.modDiag_aux (s : State) (f : DiagState → DiagState) : (s.modDiag f).aux = s.aux := rfl
@[simp] theorem State.modDiag_clk (s : State) (f : DiagState → DiagState) : (s.modDiag f).clk = s.clk := rfl
@[simp] theorem State.modDiag_mem (s : State) (f : DiagState → DiagState) : (s.modDiag f).mem = s.mem := rfl
@[simp] theorem State.modDiag_auxRec (s : State) (f : DiagState → DiagState) : (s.modDiag f).auxRec = s.auxRec := rfl
@[simp] theorem State.modDiag_regs (s : State) (f : DiagState → DiagState) : (s.modDiag f).regs = s.regs := rfl
@[simp] theorem State.modDiag_emitted (s : State) (f : DiagState → DiagState) : (s.modDiag f).emitted = s.emitted := rfl
@[simp] theorem State.modDiag_free (s : State) (f : DiagState → DiagState) : (s.modDiag f).free = s.free := rfl
@[simp] theorem State.modDiag_pending (s : State) (f : DiagState → DiagState) : (s.modDiag f).pending = s.pending := rfl
@[simp] theorem State.modDiag_word (s : State) (f : DiagState → DiagState) (g : Fld) (i' j' t' : Nat) : (s.modDiag f).word g i' j' t' = s.word g i' j' t' := rfl
@[simp] theorem State.modDiag_get (s : State) (f : DiagState → DiagState) (g : Fld) (i' j' t' : Nat) : (s.modDiag f).get g i' j' t' = s.get g i' j' t' := rfl
@[simp] theorem State.modDiag_is (s : State) (f : DiagState → DiagState) (g : Fld) (i' j' t' : Nat) : (s.modDiag f).is g i' j' t' = s.is g i' j' t' := rfl

@[simp] theorem State.modAdc_ks (s : State) (n : Nat) (f : AdcCh → AdcCh) : (s.modAdc n f).ks = s.ks := rfl
@[simp] theorem State.modAdc_img (s : State) (n : Nat) (f : AdcCh → AdcCh) : (s.modAdc n f).img = s.img := rfl
@[simp] theorem State.modAdc_eng (s : State) (n : Nat) (f : AdcCh → AdcCh) : (s.modAdc n f).eng = s.eng := rfl
@[simp] theorem State.modAdc_mix (s : State) (n : Nat) (f : AdcCh → AdcCh) : (s.modAdc n f).mix = s.mix := rfl
@[simp] theorem State.modAdc_ovr (s : State) (n : Nat) (f : AdcCh → AdcCh) : (s.modAdc n f).ovr = s.ovr := rfl
@[simp] theorem State.modAdc_flt (s : State) (n : Nat) (f : AdcCh → AdcCh) : (s.modAdc n f).flt = s.flt := rfl
@[simp] theorem State.modAdc_ten (s : State) (n : Nat) (f : AdcCh → AdcCh) : (s.modAdc n f).ten = s.ten := rfl
@[simp] theorem State.modAdc_host (s : State) (n : Nat) (f : AdcCh → AdcCh) : (s.modAdc n f).host = s.host := rfl
@[simp] theorem State.modAdc_dom (s : State) (n : Nat) (f : AdcCh → AdcCh) : (s.modAdc n f).dom = s.dom := rfl
@[simp] theorem State.modAdc_rdp (s : State) (n : Nat) (f : AdcCh → AdcCh) : (s.modAdc n f).rdp = s.rdp := rfl
@[simp] theorem State.modAdc_rct (s : State) (n : Nat) (f : AdcCh → AdcCh) : (s.modAdc n f).rct = s.rct := rfl
@[simp] theorem State.modAdc_time (s : State) (n : Nat) (f : AdcCh → AdcCh) : (s.modAdc n f).time = s.time := rfl
@[simp] theorem State.modAdc_port (s : State) (n : Nat) (f : AdcCh → AdcCh) : (s.modAdc n f).port = s.port := rfl
@[simp] theorem State.modAdc_pwr (s : State) (n : Nat) (f : AdcCh → AdcCh) : (s.modAdc n f).pwr = s.pwr := rfl
@[simp] theorem State.modAdc_bst (s : State) (n : Nat) (f : AdcCh → AdcCh) : (s.modAdc n f).bst = s.bst := rfl
@[simp] theorem State.modAdc_aes (s : State) (n : Nat) (f : AdcCh → AdcCh) : (s.modAdc n f).aes = s.aes := rfl
@[simp] theorem State.modAdc_sap (s : State) (n : Nat) (f : AdcCh → AdcCh) : (s.modAdc n f).sap = s.sap := rfl
@[simp] theorem State.modAdc_aux (s : State) (n : Nat) (f : AdcCh → AdcCh) : (s.modAdc n f).aux = s.aux := rfl
@[simp] theorem State.modAdc_clk (s : State) (n : Nat) (f : AdcCh → AdcCh) : (s.modAdc n f).clk = s.clk := rfl
@[simp] theorem State.modAdc_mem (s : State) (n : Nat) (f : AdcCh → AdcCh) : (s.modAdc n f).mem = s.mem := rfl
@[simp] theorem State.modAdc_auxRec (s : State) (n : Nat) (f : AdcCh → AdcCh) : (s.modAdc n f).auxRec = s.auxRec := rfl
@[simp] theorem State.modAdc_regs (s : State) (n : Nat) (f : AdcCh → AdcCh) : (s.modAdc n f).regs = s.regs := rfl
@[simp] theorem State.modAdc_emitted (s : State) (n : Nat) (f : AdcCh → AdcCh) : (s.modAdc n f).emitted = s.emitted := rfl
@[simp] theorem State.modAdc_free (s : State) (n : Nat) (f : AdcCh → AdcCh) : (s.modAdc n f).free = s.free := rfl
@[simp] theorem State.modAdc_pending (s : State) (n : Nat) (f : AdcCh → AdcCh) : (s.modAdc n f).pending = s.pending := rfl
@[simp] theorem State.modAdc_word (s : State) (n : Nat) (f : AdcCh → AdcCh) (g : Fld) (i' j' t' : Nat) : (s.modAdc n f).word g i' j' t' = s.word g i' j' t' := rfl
@[simp] theorem State.modAdc_get (s : State) (n : Nat) (f : AdcCh → AdcCh) (g : Fld) (i' j' t' : Nat) : (s.modAdc n f).get g i' j' t' = s.get g i' j' t' := rfl
@[simp] theorem State.modAdc_is (s : State) (n : Nat) (f : AdcCh → AdcCh) (g : Fld) (i' j' t' : Nat) : (s.modAdc n f).is g i' j' t' = s.is g i' j' t' := rfl

@[simp] theorem State.modOut_ks (s : State) (n : Nat) (f : OutCh → OutCh) : (s.modOut n f).ks = s.ks := rfl
@[simp] theorem State.modOut_img (s : State) (n : Nat) (f : OutCh → OutCh) : (s.modOut n f).img = s.img := rfl
@[simp] theorem State.modOut_eng (s : State) (n : Nat) (f : OutCh → OutCh) : (s.modOut n f).eng = s.eng := rfl
@[simp] theorem State.modOut_mix (s : State) (n : Nat) (f : OutCh → OutCh) : (s.modOut n f).mix = s.mix := rfl
@[simp] theorem State.modOut_ovr (s : State) (n : Nat) (f : OutCh → OutCh) : (s.modOut n f).ovr = s.ovr := rfl
@[simp] theorem State.modOut_flt (s : State) (n : Nat) (f : OutCh → OutCh) : (s.modOut n f).flt = s.flt := rfl
@[simp] theorem State.modOut_ten (s : State) (n : Nat) (f : OutCh → OutCh) : (s.modOut n f).ten = s.ten := rfl
@[simp] theorem State.modOut_host (s : State) (n : Nat) (f : OutCh → OutCh) : (s.modOut n f).host = s.host := rfl
@[simp] theorem State.modOut_dom (s : State) (n : Nat) (f : OutCh → OutCh) : (s.modOut n f).dom = s.dom := rfl
@[simp] theorem State.modOut_rdp (s : State) (n : Nat) (f : OutCh → OutCh) : (s.modOut n f).rdp = s.rdp := rfl
@[simp] theorem State.modOut_rct (s : State) (n : Nat) (f : OutCh → OutCh) : (s.modOut n f).rct = s.rct := rfl
@[simp] theorem State.modOut_time (s : State) (n : Nat) (f : OutCh → OutCh) : (s.modOut n f).time = s.time := rfl
@[simp] theorem State.modOut_port (s : State) (n : Nat) (f : OutCh → OutCh) : (s.modOut n f).port = s.port := rfl
@[simp] theorem State.modOut_pwr (s : State) (n : Nat) (f : OutCh → OutCh) : (s.modOut n f).pwr = s.pwr := rfl
@[simp] theorem State.modOut_bst (s : State) (n : Nat) (f : OutCh → OutCh) : (s.modOut n f).bst = s.bst := rfl
@[simp] theorem State.modOut_aes (s : State) (n : Nat) (f : OutCh → OutCh) : (s.modOut n f).aes = s.aes := rfl
@[simp] theorem State.modOut_sap (s : State) (n : Nat) (f : OutCh → OutCh) : (s.modOut n f).sap = s.sap := rfl
@[simp] theorem State.modOut_aux (s : State) (n : Nat) (f : OutCh → OutCh) : (s.modOut n f).aux = s.aux := rfl
@[simp] theorem State.modOut_clk (s : State) (n : Nat) (f : OutCh → OutCh) : (s.modOut n f).clk = s.clk := rfl
@[simp] theorem State.modOut_mem (s : State) (n : Nat) (f : OutCh → OutCh) : (s.modOut n f).mem = s.mem := rfl
@[simp] theorem State.modOut_auxRec (s : State) (n : Nat) (f : OutCh → OutCh) : (s.modOut n f).auxRec = s.auxRec := rfl
@[simp] theorem State.modOut_regs (s : State) (n : Nat) (f : OutCh → OutCh) : (s.modOut n f).regs = s.regs := rfl
@[simp] theorem State.modOut_emitted (s : State) (n : Nat) (f : OutCh → OutCh) : (s.modOut n f).emitted = s.emitted := rfl
@[simp] theorem State.modOut_free (s : State) (n : Nat) (f : OutCh → OutCh) : (s.modOut n f).free = s.free := rfl
@[simp] theorem State.modOut_pending (s : State) (n : Nat) (f : OutCh → OutCh) : (s.modOut n f).pending = s.pending := rfl
@[simp] theorem State.modOut_word (s : State) (n : Nat) (f : OutCh → OutCh) (g : Fld) (i' j' t' : Nat) : (s.modOut n f).word g i' j' t' = s.word g i' j' t' := rfl
@[simp] theorem State.modOut_get (s : State) (n : Nat) (f : OutCh → OutCh) (g : Fld) (i' j' t' : Nat) : (s.modOut n f).get g i' j' t' = s.get g i' j' t' := rfl
@[simp] theorem State.modOut_is (s : State) (n : Nat) (f : OutCh → OutCh) (g : Fld) (i' j' t' : Nat) : (s.modOut n f).is g i' j' t' = s.is g i' j' t' := rfl

@[simp] theorem State.modSap_ks (s : State) (n : Nat) (f : SapPort → SapPort) : (s.modSap n f).ks = s.ks := rfl
@[simp] theorem State.modSap_img (s : State) (n : Nat) (f : SapPort → SapPort) : (s.modSap n f).img = s.img := rfl
@[simp] theorem State.modSap_eng (s : State) (n : Nat) (f : SapPort → SapPort) : (s.modSap n f).eng = s.eng := rfl
@[simp] theorem State.modSap_mix (s : State) (n : Nat) (f : SapPort → SapPort) : (s.modSap n f).mix = s.mix := rfl
@[simp] theorem State.modSap_ovr (s : State) (n : Nat) (f : SapPort → SapPort) : (s.modSap n f).ovr = s.ovr := rfl
@[simp] theorem State.modSap_flt (s : State) (n : Nat) (f : SapPort → SapPort) : (s.modSap n f).flt = s.flt := rfl
@[simp] theorem State.modSap_ten (s : State) (n : Nat) (f : SapPort → SapPort) : (s.modSap n f).ten = s.ten := rfl
@[simp] theorem State.modSap_host (s : State) (n : Nat) (f : SapPort → SapPort) : (s.modSap n f).host = s.host := rfl
@[simp] theorem State.modSap_dom (s : State) (n : Nat) (f : SapPort → SapPort) : (s.modSap n f).dom = s.dom := rfl
@[simp] theorem State.modSap_rdp (s : State) (n : Nat) (f : SapPort → SapPort) : (s.modSap n f).rdp = s.rdp := rfl
@[simp] theorem State.modSap_rct (s : State) (n : Nat) (f : SapPort → SapPort) : (s.modSap n f).rct = s.rct := rfl
@[simp] theorem State.modSap_time (s : State) (n : Nat) (f : SapPort → SapPort) : (s.modSap n f).time = s.time := rfl
@[simp] theorem State.modSap_port (s : State) (n : Nat) (f : SapPort → SapPort) : (s.modSap n f).port = s.port := rfl
@[simp] theorem State.modSap_pwr (s : State) (n : Nat) (f : SapPort → SapPort) : (s.modSap n f).pwr = s.pwr := rfl
@[simp] theorem State.modSap_bst (s : State) (n : Nat) (f : SapPort → SapPort) : (s.modSap n f).bst = s.bst := rfl
@[simp] theorem State.modSap_ana (s : State) (n : Nat) (f : SapPort → SapPort) : (s.modSap n f).ana = s.ana := rfl
@[simp] theorem State.modSap_aes (s : State) (n : Nat) (f : SapPort → SapPort) : (s.modSap n f).aes = s.aes := rfl
@[simp] theorem State.modSap_aux (s : State) (n : Nat) (f : SapPort → SapPort) : (s.modSap n f).aux = s.aux := rfl
@[simp] theorem State.modSap_clk (s : State) (n : Nat) (f : SapPort → SapPort) : (s.modSap n f).clk = s.clk := rfl
@[simp] theorem State.modSap_mem (s : State) (n : Nat) (f : SapPort → SapPort) : (s.modSap n f).mem = s.mem := rfl
@[simp] theorem State.modSap_auxRec (s : State) (n : Nat) (f : SapPort → SapPort) : (s.modSap n f).auxRec = s.auxRec := rfl
@[simp] theorem State.modSap_regs (s : State) (n : Nat) (f : SapPort → SapPort) : (s.modSap n f).regs = s.regs := rfl
@[simp] theorem State.modSap_emitted (s : State) (n : Nat) (f : SapPort → SapPort) : (s.modSap n f).emitted = s.emitted := rfl
@[simp] theorem State.modSap_free (s : State) (n : Nat) (f : SapPort → SapPort) : (s.modSap n f).free = s.free := rfl
@[simp] theorem State.modSap_pending (s : State) (n : Nat) (f : SapPort → SapPort) : (s.modSap n f).pending = s.pending := rfl
@[simp] theorem State.modSap_word (s : State) (n : Nat) (f : SapPort → SapPort) (g : Fld) (i' j' t' : Nat) : (s.modSap n f).word g i' j' t' = s.word g i' j' t' := rfl
@[simp] theorem State.modSap_get (s : State) (n : Nat) (f : SapPort → SapPort) (g : Fld) (i' j' t' : Nat) : (s.modSap n f).get g i' j' t' = s.get g i' j' t' := rfl
@[simp] theorem State.modSap_is (s : State) (n : Nat) (f : SapPort → SapPort) (g : Fld) (i' j' t' : Nat) : (s.modSap n f).is g i' j' t' = s.is g i' j' t' := rfl

@[simp] theorem State.modAux_ks (s : State) (n : Nat) (f : AuxCh → AuxCh) : (s.modAux n f).ks = s.ks := rfl
@[simp] theorem State.modAux_img (s : State) (n : Nat) (f : AuxCh → AuxCh) : (s.modAux n f).img = s.img := rfl
@[simp] theorem State.modAux_eng (s : State) (n : Nat) (f : AuxCh → AuxCh) : (s.modAux n f).eng = s.eng := rfl
@[simp] theorem State.modAux_mix (s : State) (n : Nat) (f : AuxCh → AuxCh) : (s.modAux n f).mix = s.mix := rfl
@[simp] theorem State.modAux_ovr (s : State) (n : Nat) (f : AuxCh → AuxCh) : (s.modAux n f).ovr = s.ovr := rfl
@[simp] theorem State.modAux_flt (s : State) (n : Nat) (f : AuxCh → AuxCh) : (s.modAux n f).flt = s.flt := rfl
@[simp] theorem State.modAux_ten (s : State) (n : Nat) (f : AuxCh → AuxCh) : (s.modAux n f).ten = s.ten := rfl
@[simp] theorem State.modAux_host (s : State) (n : Nat) (f : AuxCh → AuxCh) : (s.modAux n f).host = s.host := rfl
@[simp] theorem State.modAux_dom (s : State) (n : Nat) (f : AuxCh → AuxCh) : (s.modAux n f).dom = s.dom := rfl
@[simp] theorem State.modAux_rdp (s : State) (n : Nat) (f : AuxCh → AuxCh) : (s.modAux n f).rdp = s.rdp := rfl
@[simp] theorem State.modAux_rct (s : State) (n : Nat) (f : AuxCh → AuxCh) : (s.modAux n f).rct = s.rct := rfl
@[simp] theorem State.modAux_time (s : State) (n : Nat) (f : AuxCh → AuxCh) : (s.modAux n f).time = s.time := rfl
@[simp] theorem State.modAux_port (s : State) (n : Nat) (f : AuxCh → AuxCh) : (s.modAux n f).port = s.port := rfl
@[simp] theorem State.modAux_pwr (s : State) (n : Nat) (f : AuxCh → AuxCh) : (s.modAux n f).pwr = s.pwr := rfl
@[simp] theorem State.modAux_bst (s : State) (n : Nat) (f : AuxCh → AuxCh) : (s.modAux n f).bst = s.bst := rfl
@[simp] theorem State.modAux_ana (s : State) (n : Nat) (f : AuxCh → AuxCh) : (s.modAux n f).ana = s.ana := rfl
@[simp] theorem State.modAux_aes (s : State) (n : Nat) (f : AuxCh → AuxCh) : (s.modAux n f).aes = s.aes := rfl
@[simp] theorem State.modAux_sap (s : State) (n : Nat) (f : AuxCh → AuxCh) : (s.modAux n f).sap = s.sap := rfl
@[simp] theorem State.modAux_clk (s : State) (n : Nat) (f : AuxCh → AuxCh) : (s.modAux n f).clk = s.clk := rfl
@[simp] theorem State.modAux_mem (s : State) (n : Nat) (f : AuxCh → AuxCh) : (s.modAux n f).mem = s.mem := rfl
@[simp] theorem State.modAux_auxRec (s : State) (n : Nat) (f : AuxCh → AuxCh) : (s.modAux n f).auxRec = s.auxRec := rfl
@[simp] theorem State.modAux_regs (s : State) (n : Nat) (f : AuxCh → AuxCh) : (s.modAux n f).regs = s.regs := rfl
@[simp] theorem State.modAux_emitted (s : State) (n : Nat) (f : AuxCh → AuxCh) : (s.modAux n f).emitted = s.emitted := rfl
@[simp] theorem State.modAux_free (s : State) (n : Nat) (f : AuxCh → AuxCh) : (s.modAux n f).free = s.free := rfl
@[simp] theorem State.modAux_pending (s : State) (n : Nat) (f : AuxCh → AuxCh) : (s.modAux n f).pending = s.pending := rfl
@[simp] theorem State.modAux_word (s : State) (n : Nat) (f : AuxCh → AuxCh) (g : Fld) (i' j' t' : Nat) : (s.modAux n f).word g i' j' t' = s.word g i' j' t' := rfl
@[simp] theorem State.modAux_get (s : State) (n : Nat) (f : AuxCh → AuxCh) (g : Fld) (i' j' t' : Nat) : (s.modAux n f).get g i' j' t' = s.get g i' j' t' := rfl
@[simp] theorem State.modAux_is (s : State) (n : Nat) (f : AuxCh → AuxCh) (g : Fld) (i' j' t' : Nat) : (s.modAux n f).is g i' j' t' = s.is g i' j' t' := rfl

@[simp] theorem State.modPll_ks (s : State) (p : Nat) (f : Pll → Pll) : (s.modPll p f).ks = s.ks := rfl
@[simp] theorem State.modPll_img (s : State) (p : Nat) (f : Pll → Pll) : (s.modPll p f).img = s.img := rfl
@[simp] theorem State.modPll_eng (s : State) (p : Nat) (f : Pll → Pll) : (s.modPll p f).eng = s.eng := rfl
@[simp] theorem State.modPll_mix (s : State) (p : Nat) (f : Pll → Pll) : (s.modPll p f).mix = s.mix := rfl
@[simp] theorem State.modPll_ovr (s : State) (p : Nat) (f : Pll → Pll) : (s.modPll p f).ovr = s.ovr := rfl
@[simp] theorem State.modPll_flt (s : State) (p : Nat) (f : Pll → Pll) : (s.modPll p f).flt = s.flt := rfl
@[simp] theorem State.modPll_ten (s : State) (p : Nat) (f : Pll → Pll) : (s.modPll p f).ten = s.ten := rfl
@[simp] theorem State.modPll_host (s : State) (p : Nat) (f : Pll → Pll) : (s.modPll p f).host = s.host := rfl
@[simp] theorem State.modPll_dom (s : State) (p : Nat) (f : Pll → Pll) : (s.modPll p f).dom = s.dom := rfl
@[simp] theorem State.modPll_rdp (s : State) (p : Nat) (f : Pll → Pll) : (s.modPll p f).rdp = s.rdp := rfl
@[simp] theorem State.modPll_rct (s : State) (p : Nat) (f : Pll → Pll) : (s.modPll p f).rct = s.rct := rfl
@[simp] theorem State.modPll_time (s : State) (p : Nat) (f : Pll → Pll) : (s.modPll p f).time = s.time := rfl
@[simp] theorem State.modPll_port (s : State) (p : Nat) (f : Pll → Pll) : (s.modPll p f).port = s.port := rfl
@[simp] theorem State.modPll_pwr (s : State) (p : Nat) (f : Pll → Pll) : (s.modPll p f).pwr = s.pwr := rfl
@[simp] theorem State.modPll_bst (s : State) (p : Nat) (f : Pll → Pll) : (s.modPll p f).bst = s.bst := rfl
@[simp] theorem State.modPll_ana (s : State) (p : Nat) (f : Pll → Pll) : (s.modPll p f).ana = s.ana := rfl
@[simp] theorem State.modPll_aes (s : State) (p : Nat) (f : Pll → Pll) : (s.modPll p f).aes = s.aes := rfl
@[simp] theorem State.modPll_sap (s : State) (p : Nat) (f : Pll → Pll) : (s.modPll p f).sap = s.sap := rfl
@[simp] theorem State.modPll_aux (s : State) (p : Nat) (f : Pll → Pll) : (s.modPll p f).aux = s.aux := rfl
@[simp] theorem State.modPll_mem (s : State) (p : Nat) (f : Pll → Pll) : (s.modPll p f).mem = s.mem := rfl
@[simp] theorem State.modPll_auxRec (s : State) (p : Nat) (f : Pll → Pll) : (s.modPll p f).auxRec = s.auxRec := rfl
@[simp] theorem State.modPll_regs (s : State) (p : Nat) (f : Pll → Pll) : (s.modPll p f).regs = s.regs := rfl
@[simp] theorem State.modPll_emitted (s : State) (p : Nat) (f : Pll → Pll) : (s.modPll p f).emitted = s.emitted := rfl
@[simp] theorem State.modPll_free (s : State) (p : Nat) (f : Pll → Pll) : (s.modPll p f).free = s.free := rfl
@[simp] theorem State.modPll_pending (s : State) (p : Nat) (f : Pll → Pll) : (s.modPll p f).pending = s.pending := rfl
@[simp] theorem State.modPll_word (s : State) (p : Nat) (f : Pll → Pll) (g : Fld) (i' j' t' : Nat) : (s.modPll p f).word g i' j' t' = s.word g i' j' t' := rfl
@[simp] theorem State.modPll_get (s : State) (p : Nat) (f : Pll → Pll) (g : Fld) (i' j' t' : Nat) : (s.modPll p f).get g i' j' t' = s.get g i' j' t' := rfl
@[simp] theorem State.modPll_is (s : State) (p : Nat) (f : Pll → Pll) (g : Fld) (i' j' t' : Nat) : (s.modPll p f).is g i' j' t' = s.is g i' j' t' := rfl

@[simp] theorem State.int_ks (s : State) (f : Fld) (b : Nat) : (s.int f b).ks = s.ks := by
  simp only [State.int]; split <;> rfl
@[simp] theorem State.int_img (s : State) (f : Fld) (b : Nat) : (s.int f b).img = s.img := by
  simp only [State.int]; split <;> rfl
@[simp] theorem State.int_eng (s : State) (f : Fld) (b : Nat) : (s.int f b).eng = s.eng := by
  simp only [State.int]; split <;> rfl
@[simp] theorem State.int_mix (s : State) (f : Fld) (b : Nat) : (s.int f b).mix = s.mix := by
  simp only [State.int]; split <;> rfl
@[simp] theorem State.int_ovr (s : State) (f : Fld) (b : Nat) : (s.int f b).ovr = s.ovr := by
  simp only [State.int]; split <;> rfl
@[simp] theorem State.int_flt (s : State) (f : Fld) (b : Nat) : (s.int f b).flt = s.flt := by
  simp only [State.int]; split <;> rfl
@[simp] theorem State.int_host (s : State) (f : Fld) (b : Nat) : (s.int f b).host = s.host := by
  simp only [State.int]; split <;> rfl
@[simp] theorem State.int_dom (s : State) (f : Fld) (b : Nat) : (s.int f b).dom = s.dom := by
  simp only [State.int]; split <;> rfl
@[simp] theorem State.int_rdp (s : State) (f : Fld) (b : Nat) : (s.int f b).rdp = s.rdp := by
  simp only [State.int]; split <;> rfl
@[simp] theorem State.int_rct (s : State) (f : Fld) (b : Nat) : (s.int f b).rct = s.rct := by
  simp only [State.int]; split <;> rfl
@[simp] theorem State.int_time (s : State) (f : Fld) (b : Nat) : (s.int f b).time = s.time := by
  simp only [State.int]; split <;> rfl
@[simp] theorem State.int_port (s : State) (f : Fld) (b : Nat) : (s.int f b).port = s.port := by
  simp only [State.int]; split <;> rfl
@[simp] theorem State.int_pwr (s : State) (f : Fld) (b : Nat) : (s.int f b).pwr = s.pwr := by
  simp only [State.int]; split <;> rfl
@[simp] theorem State.int_bst (s : State) (f : Fld) (b : Nat) : (s.int f b).bst = s.bst := by
  simp only [State.int]; split <;> rfl
@[simp] theorem State.int_ana (s : State) (f : Fld) (b : Nat) : (s.int f b).ana = s.ana := by
  simp only [State.int]; split <;> rfl
@[simp] theorem State.int_aes (s : State) (f : Fld) (b : Nat) : (s.int f b).aes = s.aes := by
  simp only [State.int]; split <;> rfl
@[simp] theorem State.int_sap (s : State) (f : Fld) (b : Nat) : (s.int f b).sap = s.sap := by
  simp only [State.int]; split <;> rfl
@[simp] theorem State.int_aux (s : State) (f : Fld) (b : Nat) : (s.int f b).aux = s.aux := by
  simp only [State.int]; split <;> rfl
@[simp] theorem State.int_clk (s : State) (f : Fld) (b : Nat) : (s.int f b).clk = s.clk := by
  simp only [State.int]; split <;> rfl
@[simp] theorem State.int_mem (s : State) (f : Fld) (b : Nat) : (s.int f b).mem = s.mem := by
  simp only [State.int]; split <;> rfl
@[simp] theorem State.int_auxRec (s : State) (f : Fld) (b : Nat) : (s.int f b).auxRec = s.auxRec := by
  simp only [State.int]; split <;> rfl
@[simp] theorem State.int_emitted (s : State) (f : Fld) (b : Nat) : (s.int f b).emitted = s.emitted := by
  simp only [State.int]; split <;> rfl
@[simp] theorem State.int_free (s : State) (f : Fld) (b : Nat) : (s.int f b).free = s.free := by
  simp only [State.int]; split <;> rfl
@[simp] theorem State.int_pending (s : State) (f : Fld) (b : Nat) : (s.int f b).pending = s.pending := by
  simp only [State.int]; split <;> rfl
@[simp] theorem State.int_sems (s : State) (f : Fld) (b : Nat) : (s.int f b).ten.sems = s.ten.sems := by
  simp only [State.int]; split <;> rfl

end Sys2Proof.Machine
end

