-- ==== Sys2Proof/Laws/Access.lean ====
section
/-! SUPPORT. A host's register write that nothing holds up is the register's own write, answered at once. -/
namespace Sys2Proof.Machine
open Sys2Proof

theorem find_none_of_all {α : Type} (p : α → Bool) (l : List α) (h : l.all p = true) : l.find? (fun d => !p d) = none := by
  simp only [List.find?_eq_none, List.all_eq_true] at *
  intro x hx; simp [h x hx]
/-- Addresses of a register block or of the MIX registers. -/
def inRegs (a : Nat) : Bool := decide (a < 0x40000) || (decide (0x70000 ≤ a) && decide (a < 0x150000))
theorem opens_parts {s : State} {x : Access} {a : Nat} (h : s.opens x a = true) : s.pathOpen x.path = true ∧
    s.tenPresent (accTen x) = true ∧ (s.accDomains (accTen x) true a).all (fun d => s.domReady a d) = true ∧ s.host.stalled = [] := by
  simp only [State.opens, Bool.and_eq_true, List.isEmpty_iff] at h
  exact ⟨h.1.1.1, h.1.1.2, h.1.2, h.2⟩
theorem owns_opens {s : State} {x : Access} {a : Nat} (h : s.owns x a = true) : s.opens x a = true := by
  simp only [State.owns, Bool.and_eq_true] at h; exact h.1
theorem owns_zero {s : State} {x : Access} {a : Nat} (h : s.owns x a = true) : accTen x = 0 := by
  simp only [State.owns, Bool.and_eq_true, beq_iff_eq] at h; exact h.2
theorem opens_quiet {s : State} {x : Access} {a : Nat} (h : s.opens x a = true) : s.host.stalled = [] := (opens_parts h).2.2.2
theorem access_regs (p : Path) (t : Nat) (wr : Bool) (a v : Nat) (s : State)
    (h2 : s.tenPresent t = true) (h3 : (s.accDomains t wr a).all (fun d => s.domReady a d) = true)
    (hb : inRegs a = true) (h4 : a % 4 = 0) : access p t wr a 4 v s = regAccess p t wr a 4 v s := by
  have hb' : inStones a = false ∧ inDram a = false ∧ (inMix a && decide (a < 0x70000)) = false ∧ mapped a = true ∧ widthOk a 4 = true := by
    simp [inRegs, inBlocks, inStones, inDram, inMix, mapped, widthOk, h4] at *; omega
  unfold access
  rw [find_none_of_all _ _ h3]
  obtain ⟨c1, c2, c3, c4, c5⟩ := hb'
  simp only [c1, c2, c3, c4, c5, h2]
  rfl
/-- A write that goes straight through is the register's write of the word's 32 bits, and its status is the answer. -/
theorem hostWrite_open {x : Access} {a v : Nat} {s : State} {r : RegRow} {i j : Nat} {u : State} {st : Nat} (ha : s.opens x a = true)
    (hf : regFind a = some (r, i, j)) (hw : s.mayWriteReg r i (accTen x) x.path = true)
    (hb : inRegs a = true) (h4 : a % 4 = 0) (hp : a / 65536 ≠ 15)
    (hu : regWrite r i j (accTen x) x.path (v % 2^32) (2^32-1) s = (u, st)) (hq : u.host.stalled = []) :
    hostWrite x a v s = u.answered st := by
  have hle : leVal (List.take 4 (leBytes 4 v)) = v % 2^32 := by
    simp [leBytes, leVal]; omega
  have h44 : a / 4 * 4 = a := by omega
  have hacc : access x.path (accTen x) true a 4 (v % 2^32) s = (u, .done st 0#32) := by
    rw [access_regs _ _ _ _ _ _ (opens_parts ha).2.1 (opens_parts ha).2.2.1 hb h4]
    unfold regAccess
    simp only [h44, hf, hw, hp, h4]
    simp only [Nat.mul_zero, Nat.pow_zero, Nat.mul_one]
    rw [Nat.mod_mod]
    simp only [hu]
    rfl
  simp only [hostWrite, single, (opens_parts ha).1, runReq, hle, hacc]
  split
  · contradiction
  · split
    · rename_i h
      simp [finish, resume, State.answered, resumeN, hq, h, Request.next]
    · simp [finish, resume, State.answered, resumeN, hq]
/-- A write of fields that goes straight through: the word written keeps the register's other RW fields. -/
theorem hostSet_open {x : Access} {f : Fld} {i : Nat} {fs : List (Nat × Nat × Nat)} {s : State} {r : RegRow} {i' j : Nat} {u : State}
    {st : Nat} (ha : s.opens x (f.addr + f.s1 * i) = true) (hf : regFind (f.addr + f.s1 * i) = some (r, i', j))
    (hw : s.mayWriteReg r i' (accTen x) x.path = true) (hb : inRegs (f.addr + f.s1 * i) = true)
    (h4 : (f.addr + f.s1 * i) % 4 = 0) (hp : (f.addr + f.s1 * i) / 65536 ≠ 15)
    (hu : regWrite r i' j (accTen x) x.path
      ((fs.foldl (fun w g => putBits w g.1 g.2.1 g.2.2) ((s.word f i 0 (accTen x)).toNat &&& r.mask .rw)) % 2^32) (2^32-1) s = (u, st))
    (hq : u.host.stalled = []) : hostSet x f i fs s = u.answered st := by
  unfold hostSet
  simp only [hf]
  exact hostWrite_open ha hf hw hb h4 hp hu hq
/-- The same with the facts of the register's row and address together. -/
theorem hostSet_row {x : Access} {f : Fld} {i : Nat} {fs : List (Nat × Nat × Nat)} {s : State} {r : RegRow} {k : Nat} {u : State}
    {st : Nat} (ha : s.opens x (f.addr + f.s1 * i) = true) (hf : regFind (f.addr + f.s1 * i) = some (r, i, 0))
    (hb : (f.addr + f.s1 * i) % 4 = 0 ∧ inRegs (f.addr + f.s1 * i) = true ∧ (f.addr + f.s1 * i) / 65536 = k) (hk : k ≠ 15)
    (hw : s.mayWriteReg r i (accTen x) x.path = true)
    (hu : regWrite r i 0 (accTen x) x.path
      ((fs.foldl (fun w g => putBits w g.1 g.2.1 g.2.2) ((s.word f i 0 (accTen x)).toNat &&& r.mask .rw)) % 2^32) (2^32-1) s = (u, st))
    (hq : u.host.stalled = []) : hostSet x f i fs s = u.answered st :=
  hostSet_open ha hf hw hb.2.1 hb.1 (by omega) hu hq
/-- A whole word written to a register. -/
theorem hostWrite_row {x : Access} {f : Fld} {i v : Nat} {s : State} {r : RegRow} {k : Nat} {u : State}
    {st : Nat} (ha : s.opens x (f.addr + f.s1 * i) = true) (hf : regFind (f.addr + f.s1 * i) = some (r, i, 0))
    (hb : (f.addr + f.s1 * i) % 4 = 0 ∧ inRegs (f.addr + f.s1 * i) = true ∧ (f.addr + f.s1 * i) / 65536 = k) (hk : k ≠ 15)
    (hw : s.mayWriteReg r i (accTen x) x.path = true)
    (hu : regWrite r i 0 (accTen x) x.path (v % 2^32) (2^32-1) s = (u, st))
    (hq : u.host.stalled = []) : hostWrite x (f.addr + f.s1 * i) v s = u.answered st :=
  hostWrite_open ha hf hw hb.2.1 hb.1 (by omega) hu hq
/-- A write to a register with no W1C field whose unit takes any word: its RW fields, then its actions. -/
theorem regWrite_plain {r : RegRow} {i j t k v : Nat} {p : Path} {s : State} (h1 : r.mask .w1c = 0) (h2 : r.mask .rw &&& (2^32-1) = k)
    (h3 : r.addr ≠ 0x140000) (h4 : r.addr ≠ 0x110400) (hp : ∀ w, regRw r i j t w s = (s.setWord r.fld w i j t, stOk)) (hk : k ≠ 0) :
    regWrite r i j t p v (2^32-1) s = runActs stOk (waActs r i t p (v &&& (2^32-1)))
      (s.setWord r.fld (BitVec.ofNat 32 ((s.word r.fld i j t).toNat - ((s.word r.fld i j t).toNat &&& k) + (v &&& k))) i j t) := by
  simp only [regWrite, h1, h3, h4, if_false, Nat.and_zero, Nat.zero_and, if_true, Nat.sub_zero, h2, hk, hp]
/-- A write to a register with no field but actions. -/
theorem regWrite_acts {r : RegRow} {i j t v : Nat} {p : Path} {s : State} (h1 : r.mask .w1c = 0) (h2 : r.mask .rw = 0)
    (h3 : r.addr ≠ 0x140000) (h4 : r.addr ≠ 0x110400) :
    regWrite r i j t p v (2^32-1) s = runActs stOk (waActs r i t p (v &&& (2^32-1))) s := by
  simp only [regWrite, h1, h2, h3, h4, if_false, Nat.and_zero, Nat.zero_and, if_true]
/-- The word that a composed write hands over: the register's RW fields with some replaced. -/
def composed (s : State) (f : Fld) (i t k : Nat) (fs : List (Nat × Nat × Nat)) : Nat :=
  fs.foldl (fun w g => putBits w g.1 g.2.1 g.2.2) ((s.word f i 0 t).toNat &&& k)
/-- A composed write to a register whose unit takes any word: some word whose RW fields read as composed, then the actions of
the composed word. -/
theorem hostSet_word {x : Access} {f : Fld} {i : Nat} {fs : List (Nat × Nat × Nat)} {s : State} {r : RegRow} {b k : Nat}
    (ha : s.opens x (f.addr + f.s1 * i) = true) (hf : regFind (f.addr + f.s1 * i) = some (r, i, 0))
    (hb : (f.addr + f.s1 * i) % 4 = 0 ∧ inRegs (f.addr + f.s1 * i) = true ∧ (f.addr + f.s1 * i) / 65536 = b) (hk : b ≠ 15)
    (hw : s.mayWriteReg r i (accTen x) x.path = true) (h1 : r.mask .w1c = 0) (h2 : r.mask .rw = k) (h20 : k < 2^32 ∧ k ≠ 0)
    (h3 : r.addr ≠ 0x140000 ∧ r.addr ≠ 0x110400)
    (hp : ∀ w, regRw r i 0 (accTen x) w s = (s.setWord r.fld w i 0 (accTen x), stOk)) (hr : r.fld = f) :
    ∃ w, (∀ hi lo, (∀ j, lo ≤ j → j ≤ hi → k.testBit j = true) → hi < 32 →
        bitsOf w.toNat hi lo = bitsOf (composed s f i (accTen x) k fs % 2^32) hi lo) ∧
      ∀ u st, runActs stOk (waActs r i (accTen x) x.path (composed s f i (accTen x) k fs % 2^32)) (s.setWord f w i 0 (accTen x)) = (u, st) →
        u.host.stalled = [] → hostSet x f i fs s = u.answered st := by
  have hm : ∀ n : Nat, n < 2^32 → n &&& (2^32-1) = n := by
    intro n h; rw [Nat.and_two_pow_sub_one_eq_mod, Nat.mod_eq_of_lt h]
  refine ⟨BitVec.ofNat 32 ((s.word f i 0 (accTen x)).toNat - ((s.word f i 0 (accTen x)).toNat &&& k) +
    ((composed s f i (accTen x) k fs % 2^32) &&& k)), fun hi lo hc h => bitsOf_merge _ _ _ _ _ hc h, fun u st hu hq => ?_⟩
  refine hostSet_row ha hf hb hk hw ?_ hq
  rw [h2, regWrite_plain h1 (by rw [h2]; exact hm k h20.1) h3.1 h3.2 hp h20.2, hr, hm _ (Nat.mod_lt _ (by decide))]
  exact hu

/-- A composed write to a register with RW fields and no action, W1C or debug rule: some word whose RW fields read as composed
goes to the register's unit, whose status is the answer. -/
theorem hostSet_unit {x : Access} {f : Fld} {i : Nat} {fs : List (Nat × Nat × Nat)} {s : State} {r : RegRow} {b k : Nat}
    (ha : s.opens x (f.addr + f.s1 * i) = true) (hf : regFind (f.addr + f.s1 * i) = some (r, i, 0))
    (hb : (f.addr + f.s1 * i) % 4 = 0 ∧ inRegs (f.addr + f.s1 * i) = true ∧ (f.addr + f.s1 * i) / 65536 = b) (hk : b ≠ 15)
    (hw : s.mayWriteReg r i (accTen x) x.path = true) (h1 : r.mask .w1c = 0) (h2 : r.mask .rw = k) (h20 : k < 2^32 ∧ k ≠ 0)
    (h3 : r.addr ≠ 0x140000 ∧ r.addr ≠ 0x110400) (hn : ∀ v, waActs r i (accTen x) x.path v = []) :
    ∃ w, (∀ hi lo, (∀ j, lo ≤ j → j ≤ hi → k.testBit j = true) → hi < 32 →
        bitsOf w.toNat hi lo = bitsOf (composed s f i (accTen x) k fs % 2^32) hi lo) ∧
      ∀ u st, regRw r i 0 (accTen x) w s = (u, st) → u.host.stalled = [] → hostSet x f i fs s = u.answered st := by
  have hm : ∀ n : Nat, n < 2^32 → n &&& (2^32-1) = n := by
    intro n h; rw [Nat.and_two_pow_sub_one_eq_mod, Nat.mod_eq_of_lt h]
  refine ⟨BitVec.ofNat 32 ((s.word r.fld i 0 (accTen x)).toNat - ((s.word r.fld i 0 (accTen x)).toNat &&& k) +
    ((composed s f i (accTen x) k fs % 2^32) &&& k)), fun hi lo hc h => bitsOf_merge _ _ _ _ _ hc h, fun u st hu hq => ?_⟩
  refine hostSet_row ha hf hb hk hw ?_ hq
  simp only [regWrite, h1, h2, h3.1, h3.2, if_false, Nat.and_zero, Nat.zero_and, if_true, Nat.sub_zero, hm k h20.1, h20.2, hn, runActs, List.foldl_nil]
  have e : List.foldl (fun w g => putBits w g.1 g.2.1 g.2.2) ((s.word f i 0 (accTen x)).toNat &&& k) fs = composed s f i (accTen x) k fs := rfl
  rw [e, hu]
/-- The same for a whole word written. -/
theorem hostWrite_unit {x : Access} {f : Fld} {i v : Nat} {s : State} {r : RegRow} {b k : Nat}
    (ha : s.opens x (f.addr + f.s1 * i) = true) (hf : regFind (f.addr + f.s1 * i) = some (r, i, 0))
    (hb : (f.addr + f.s1 * i) % 4 = 0 ∧ inRegs (f.addr + f.s1 * i) = true ∧ (f.addr + f.s1 * i) / 65536 = b) (hk : b ≠ 15)
    (hw : s.mayWriteReg r i (accTen x) x.path = true) (h1 : r.mask .w1c = 0) (h2 : r.mask .rw = k) (h20 : k < 2^32 ∧ k ≠ 0)
    (h3 : r.addr ≠ 0x140000 ∧ r.addr ≠ 0x110400) (hn : ∀ v, waActs r i (accTen x) x.path v = []) :
    ∃ w, (∀ hi lo, (∀ j, lo ≤ j → j ≤ hi → k.testBit j = true) → hi < 32 → bitsOf w.toNat hi lo = bitsOf (v % 2^32) hi lo) ∧
      ∀ u st, regRw r i 0 (accTen x) w s = (u, st) → u.host.stalled = [] → hostWrite x (f.addr + f.s1 * i) v s = u.answered st := by
  have hm : ∀ n : Nat, n < 2^32 → n &&& (2^32-1) = n := by
    intro n h; rw [Nat.and_two_pow_sub_one_eq_mod, Nat.mod_eq_of_lt h]
  refine ⟨BitVec.ofNat 32 ((s.word r.fld i 0 (accTen x)).toNat - ((s.word r.fld i 0 (accTen x)).toNat &&& k) +
    ((v % 2^32) &&& k)), fun hi lo hc h => bitsOf_merge _ _ _ _ _ hc h, fun u st hu hq => ?_⟩
  refine hostWrite_row ha hf hb hk hw ?_ hq
  simp only [regWrite, h1, h2, h3.1, h3.2, if_false, Nat.and_zero, Nat.zero_and, if_true, Nat.sub_zero, hm k h20.1, h20.2, hn, runActs, List.foldl_nil, hu]

end Sys2Proof.Machine
end

