-- ==== Sys2Proof/Laws/KMap.lean ====
section
/-! SUPPORT. Canonical key-value lists: what a read shows after a write, and that every operation keeps the form. -/
namespace Sys2Proof.Machine

theorem get_below {α : Type} (d : Nat → α) (m : KMap α) (k : Nat) (h : m.all (fun e => decide (k < e.1)) = true) : KMap.get d m k = d k := by
  cases m with
  | nil => rfl
  | cons e m =>
    obtain ⟨k', v⟩ := e
    simp only [List.all_cons, Bool.and_eq_true, decide_eq_true_eq] at h
    simp only [KMap.get, if_neg (show ¬ k' = k by omega), if_pos h.1]
theorem all_put {α : Type} [DecidableEq α] (d : Nat → α) (m : KMap α) (k : Nat) (v : α) (p : Nat → Bool)
    (h : m.all (fun e => p e.1) = true) (hk : p k = true) : (KMap.put d m k v).all (fun e => p e.1) = true := by
  induction m with
  | nil => simp only [KMap.put]; split <;> simp [hk]
  | cons e m ih =>
    obtain ⟨k', v'⟩ := e
    simp only [List.all_cons, Bool.and_eq_true] at h
    simp only [KMap.put]
    split
    · split <;> simp [h.2, hk]
    · split
      · split <;> simp [h.1, h.2, hk]
      · simp [h.1, ih h.2]
theorem rising_put {α : Type} [DecidableEq α] (d : Nat → α) (m : KMap α) (k : Nat) (v : α) (h : rising m = true) :
    rising (KMap.put d m k v) = true := by
  induction m with
  | nil => simp only [KMap.put]; split <;> simp [rising]
  | cons e m ih =>
    obtain ⟨k', v'⟩ := e
    simp only [rising, Bool.and_eq_true] at h
    simp only [KMap.put]
    split
    · rename_i hk
      subst hk
      split
      · exact h.2
      · simp only [rising, Bool.and_eq_true]; exact h
    · split
      · rename_i hk
        split
        · simp only [rising, Bool.and_eq_true]; exact h
        · simp only [rising, Bool.and_eq_true, List.all_cons, decide_eq_true_eq]
          refine ⟨⟨hk, ?_⟩, h⟩
          rw [List.all_eq_true]
          intro e he
          have := (List.all_eq_true.mp h.1) e he
          simp only [decide_eq_true_eq] at *; omega
      · rename_i h1 h2
        simp only [rising, Bool.and_eq_true]
        exact ⟨all_put d m k v (fun j => decide (k' < j)) h.1 (by simp only [decide_eq_true_eq]; omega), ih h.2⟩
/-- A read of the key just written shows the value. -/
theorem get_put_same {α : Type} [DecidableEq α] (d : Nat → α) (m : KMap α) (k : Nat) (v : α) (h : rising m = true) :
    KMap.get d (KMap.put d m k v) k = v := by
  induction m with
  | nil =>
    simp only [KMap.put]; split
    · rename_i hv; simp [KMap.get, hv]
    · simp [KMap.get]
  | cons e m ih =>
    obtain ⟨k', v'⟩ := e
    simp only [rising, Bool.and_eq_true] at h
    simp only [KMap.put]
    split
    · rename_i hk
      subst hk
      split
      · rename_i hv; rw [get_below d m k' h.1, hv]
      · simp [KMap.get]
    · rename_i hk
      split
      · rename_i hlt
        split
        · rename_i hv; simp [KMap.get, hk, hlt, hv]
        · simp [KMap.get]
      · rename_i hlt
        simp only [KMap.get, hk, hlt, if_false]; exact ih h.2
/-- A read of another key shows what it showed. -/
theorem get_put_ne {α : Type} [DecidableEq α] (d d' : Nat → α) (m : KMap α) (k j : Nat) (v : α) (h : rising m = true) (hj : j ≠ k) :
    KMap.get d' (KMap.put d m k v) j = KMap.get d' m j := by
  induction m with
  | nil =>
    simp only [KMap.put]; split
    · rfl
    · simp only [KMap.get, if_neg (Ne.symm hj)]; split <;> rfl
  | cons e m ih =>
    obtain ⟨k', v'⟩ := e
    simp only [rising, Bool.and_eq_true] at h
    simp only [KMap.put]
    split
    · rename_i hk
      subst hk
      split
      · simp only [KMap.get, if_neg (Ne.symm hj)]
        split
        · rename_i hlt
          refine get_below d' m j ?_
          rw [List.all_eq_true]; intro e he
          have := (List.all_eq_true.mp h.1) e he
          simp only [decide_eq_true_eq] at *; omega
        · rfl
      · simp only [KMap.get, if_neg (Ne.symm hj)]
    · rename_i hk
      split
      · rename_i hlt
        split
        · rfl
        · simp only [KMap.get, if_neg (Ne.symm hj)]
          by_cases h1 : j < k
          · simp only [if_pos h1]
            rw [if_neg (by omega), if_pos (by omega)]
          · simp only [if_neg h1]
      · rename_i hlt
        simp only [KMap.get]
        by_cases h1 : k' = j
        · simp only [if_pos h1]
        · simp only [if_neg h1]
          split
          · rfl
          · exact ih h.2
theorem rising_filter {α : Type} (m : KMap α) (p : Nat × α → Bool) (h : rising m = true) : rising (m.filter p) = true := by
  induction m with
  | nil => rfl
  | cons e m ih =>
    obtain ⟨k', v'⟩ := e
    simp only [rising, Bool.and_eq_true] at h
    rw [List.filter_cons]
    split
    · simp only [rising, Bool.and_eq_true]
      refine ⟨?_, ih h.2⟩
      rw [List.all_eq_true]; intro e he
      exact (List.all_eq_true.mp h.1) e (List.mem_filter.mp he).1
    · exact ih h.2

/-! ## Lists that hold no entry at its default -/

theorem wfFrom_all {α : Type} [DecidableEq α] (d : Nat → α) (m : KMap α) (lo : Nat) (h : KMap.wfFrom d lo m = true) :
    m.all (fun e => decide (lo ≤ e.1)) = true := by
  induction m generalizing lo with
  | nil => rfl
  | cons e m ih =>
    obtain ⟨k, v⟩ := e
    simp only [KMap.wfFrom, Bool.and_eq_true, decide_eq_true_eq] at h
    simp only [List.all_cons, Bool.and_eq_true, decide_eq_true_eq]
    refine ⟨h.1.1, ?_⟩
    rw [List.all_eq_true]; intro e he
    have := (List.all_eq_true.mp (ih (k + 1) h.2)) e he
    simp only [decide_eq_true_eq] at *; omega
theorem wfFrom_mono {α : Type} [DecidableEq α] (d : Nat → α) (m : KMap α) (lo lo' : Nat) (hl : lo' ≤ lo) (h : KMap.wfFrom d lo m = true) :
    KMap.wfFrom d lo' m = true := by
  cases m with
  | nil => rfl
  | cons e m =>
    obtain ⟨k, v⟩ := e
    simp only [KMap.wfFrom, Bool.and_eq_true, decide_eq_true_eq] at *
    exact ⟨⟨by omega, h.1.2⟩, h.2⟩
theorem wfFrom_rising {α : Type} [DecidableEq α] (d : Nat → α) (m : KMap α) (lo : Nat) (h : KMap.wfFrom d lo m = true) : rising m = true := by
  induction m generalizing lo with
  | nil => rfl
  | cons e m ih =>
    obtain ⟨k, v⟩ := e
    simp only [KMap.wfFrom, Bool.and_eq_true, decide_eq_true_eq] at h
    simp only [rising, Bool.and_eq_true]
    refine ⟨?_, ih (k + 1) h.2⟩
    exact (wfFrom_all d m (k + 1) h.2)
theorem wfFrom_put {α : Type} [DecidableEq α] (d : Nat → α) (m : KMap α) (lo k : Nat) (v : α) (hk : lo ≤ k) (h : KMap.wfFrom d lo m = true) :
    KMap.wfFrom d lo (KMap.put d m k v) = true := by
  induction m generalizing lo with
  | nil =>
    simp only [KMap.put]
    split
    · rfl
    · rename_i hv; simp [KMap.wfFrom, hk, hv]
  | cons e m ih =>
    obtain ⟨k', v'⟩ := e
    have h0 := h
    simp only [KMap.wfFrom, Bool.and_eq_true, decide_eq_true_eq] at h
    simp only [KMap.put]
    split
    · rename_i he
      subst he
      split
      · exact wfFrom_mono d m _ _ (by omega) h.2
      · rename_i hv; simp [KMap.wfFrom, hk, hv, h.2]
    · split
      · split
        · exact h0
        · rename_i hlt hv
          simp only [KMap.wfFrom, Bool.and_eq_true, decide_eq_true_eq]
          exact ⟨⟨hk, hv⟩, ⟨by omega, h.1.2⟩, h.2⟩
      · rename_i h1 h2
        simp only [KMap.wfFrom, Bool.and_eq_true, decide_eq_true_eq]
        exact ⟨⟨h.1.1, h.1.2⟩, ih (k' + 1) (by omega) h.2⟩
theorem wfFrom_filter {α : Type} [DecidableEq α] (d : Nat → α) (m : KMap α) (lo : Nat) (p : Nat × α → Bool) (h : KMap.wfFrom d lo m = true) :
    KMap.wfFrom d lo (m.filter p) = true := by
  induction m generalizing lo with
  | nil => rfl
  | cons e m ih =>
    obtain ⟨k, v⟩ := e
    simp only [KMap.wfFrom, Bool.and_eq_true, decide_eq_true_eq] at h
    rw [List.filter_cons]
    split
    · simp only [KMap.wfFrom, Bool.and_eq_true, decide_eq_true_eq]
      exact ⟨h.1, ih (k + 1) h.2⟩
    · exact wfFrom_mono d _ _ _ (by omega) (ih (k + 1) h.2)

/-! ## Memories -/

theorem Mem.wf_wr (m : List Host.Cell) (a : Nat) (v : Byte) (h : Mem.wf m = true) : Mem.wf (Mem.wr m a v) = true :=
  wfFrom_put memDflt m 0 a v (Nat.zero_le a) h
theorem Mem.wf_wrN (bs : List Byte) (m : List Host.Cell) (a : Nat) (h : Mem.wf m = true) : Mem.wf (Mem.wrN m a bs) = true := by
  induction bs generalizing m a with
  | nil => exact h
  | cons b bs ih => exact ih _ _ (Mem.wf_wr m a b h)
theorem Mem.wf_setWord (m : List Host.Cell) (a : Nat) (v : Word) (h : Mem.wf m = true) : Mem.wf (Mem.setWord m a v) = true :=
  Mem.wf_wrN _ _ _ h
theorem Mem.wf_clear (m : List Host.Cell) (a n : Nat) (h : Mem.wf m = true) : Mem.wf (Mem.clear m a n) = true :=
  wfFrom_filter memDflt m 0 _ h
/-- A byte just written reads back. -/
theorem Mem.rd_wr_same (m : List Host.Cell) (a : Nat) (v : Byte) (h : Mem.wf m = true) : Mem.rd (Mem.wr m a v) a = v :=
  get_put_same memDflt m a v (wfFrom_rising memDflt m 0 h)
/-- A write of one byte leaves every other byte as it was. -/
theorem Mem.rd_wr_ne (m : List Host.Cell) (a b : Nat) (v : Byte) (h : Mem.wf m = true) (hb : b ≠ a) :
    Mem.rd (Mem.wr m a v) b = Mem.rd m b :=
  get_put_ne memDflt memDflt m a b v (wfFrom_rising memDflt m 0 h) hb
/-- A write of several bytes leaves every byte outside them as it was. -/
theorem Mem.rd_wrN_out (bs : List Byte) (m : List Host.Cell) (a b : Nat) (h : Mem.wf m = true) (hb : b < a ∨ a + bs.length ≤ b) :
    Mem.rd (Mem.wrN m a bs) b = Mem.rd m b := by
  induction bs generalizing m a with
  | nil => rfl
  | cons x bs ih =>
    simp only [List.length_cons] at hb
    rw [Mem.wrN, ih _ _ (Mem.wf_wr m a x h) (by omega), Mem.rd_wr_ne _ _ _ _ h (by omega)]
/-- Each byte of a write of several reads back. -/
theorem Mem.rd_wrN_in (bs : List Byte) (m : List Host.Cell) (a i : Nat) (h : Mem.wf m = true) (hi : i < bs.length) :
    Mem.rd (Mem.wrN m a bs) (a + i) = bs[i] := by
  induction bs generalizing m a i with
  | nil => simp at hi
  | cons x bs ih =>
    cases i with
    | zero => rw [Mem.wrN, Mem.rd_wrN_out _ _ _ _ (Mem.wf_wr m a x h) (by omega), Nat.add_zero, Mem.rd_wr_same _ _ _ h]; rfl
    | succ i =>
      have := ih (Mem.wr m a x) (a + 1) i (Mem.wf_wr m a x h) (by simpa using hi)
      rw [Mem.wrN, show a + (i + 1) = a + 1 + i by omega, this]; rfl

/-! ## Registers -/

/-- The word just written to a register reads back. -/
theorem word_setWord_same (s : State) (f : Fld) (v : Word) (i j t : Nat) (h : rising s.regs = true) :
    (s.setWord f v i j t).word f i j t = v := get_put_same _ _ _ _ h
/-- A write to a register leaves every register of another key as it was. -/
theorem word_setWord_ne (s : State) (f g : Fld) (v : Word) (i j t i' j' t' : Nat) (h : rising s.regs = true)
    (hk : g.key i' j' t' ≠ f.key i j t) : (s.setWord f v i j t).word g i' j' t' = s.word g i' j' t' := get_put_ne _ _ _ _ _ _ h hk
theorem rising_setWord (s : State) (f : Fld) (v : Word) (i j t : Nat) (h : rising s.regs = true) :
    rising (s.setWord f v i j t).regs = true := rising_put _ _ _ _ h
theorem rising_set (s : State) (f : Fld) (v i j t : Nat) (h : rising s.regs = true) : rising (s.set f v i j t).regs = true :=
  rising_put _ _ _ _ h
/-- A field of the register just written reads as the word's. -/
theorem get_setWord_same (s : State) (f g : Fld) (v : Word) (i j t : Nat) (h : rising s.regs = true)
    (hk : g.addr = f.addr ∧ g.s1 = f.s1 ∧ g.s2 = f.s2 ∧ g.reset = f.reset ∧ g.own = f.own) :
    (s.setWord f v i j t).get g i j t = bitsOf v.toNat g.hi g.lo := by
  have e : (s.setWord f v i j t).word g i j t = (s.setWord f v i j t).word f i j t := by
    simp only [State.word, Fld.resetWord, Fld.key, hk]
  simp only [State.get, e, word_setWord_same _ _ _ _ _ _ h]
theorem get_setWord_ne (s : State) (f g : Fld) (v : Word) (i j t i' j' t' : Nat) (h : rising s.regs = true)
    (hk : g.key i' j' t' ≠ f.key i j t) : (s.setWord f v i j t).get g i' j' t' = s.get g i' j' t' := by
  simp only [State.get, word_setWord_ne _ _ _ _ _ _ _ _ _ _ h hk]

end Sys2Proof.Machine
end

