-- ==== Sys2Proof/Laws/Keeps.lean ====
section
/-! SUPPORT. What it is for an operation to keep the queue and the canonical form, and how it follows for an operation
from the operations it is made of. -/
namespace Sys2Proof.Machine
/-- A change of state keeps the queue, and the canonical form of what the state holds. -/
def Keeps (s t : State) : Prop := t.pending = s.pending ∧ (s.canon = true → t.canon = true)
theorem keeps_refl (s : State) : Keeps s s := ⟨rfl, id⟩
theorem keeps_trans {a b c : State} (h : Keeps a b) (k : Keeps b c) : Keeps a c := ⟨k.1.trans h.1, fun x => k.2 (h.2 x)⟩
theorem keeps_of_eq {α : Type} {s₀ t : State} {p : State × α} {b : α} (h : Keeps s₀ p.1) (e : p = (t, b)) : Keeps s₀ t := by subst e; exact h
theorem keeps_of_eq2 {α : Type} {s₀ t : State} {p : α × State} {b : α} (h : Keeps s₀ p.2) (e : p = (b, t)) : Keeps s₀ t := by subst e; exact h
theorem keeps_ite {s₀ a b : State} {c : Prop} [Decidable c] (ha : Keeps s₀ a) (hb : Keeps s₀ b) : Keeps s₀ (if c then a else b) := by split <;> assumption
theorem keeps_ite1 {α : Type} {s₀ : State} {a b : State × α} {c : Prop} [Decidable c] (ha : Keeps s₀ a.1) (hb : Keeps s₀ b.1) : Keeps s₀ (if c then a else b).1 := by split <;> assumption
theorem keeps_foldl {α : Type} {s₀ : State} (f : State → α → State) (l : List α) : ∀ {s : State}, Keeps s₀ s → (∀ u x, Keeps s₀ u → Keeps s₀ (f u x)) → Keeps s₀ (l.foldl f s) := by
  induction l with
  | nil => intro s h _; exact h
  | cons x l ih => intro s h hf; exact ih (hf _ _ h) hf
theorem keeps_foldl1 {α β : Type} {s₀ : State} (f : State × β → α → State × β) (l : List α) : ∀ {p : State × β}, Keeps s₀ p.1 → (∀ u x, Keeps s₀ u.1 → Keeps s₀ (f u x).1) → Keeps s₀ (l.foldl f p).1 := by
  induction l with
  | nil => intro s h _; exact h
  | cons x l ih => intro s h hf; exact ih (hf _ _ h) hf
theorem keeps_mk {s₀ t : State} {ks img eng mix ovr flt ten host dom rdp rct time port pwr bst ana aes sap aux clk auxRec emitted free} (h : Keeps s₀ t) :
    Keeps s₀ ⟨ks, img, eng, mix, ovr, flt, ten, host, dom, rdp, rct, time, port, pwr, bst, ana, aes, sap, aux, clk, t.mem, auxRec, t.regs, emitted, free, t.pending⟩ := h
theorem canon_parts {s : State} : s.canon = true ↔ rising s.regs = true ∧ Mem.wf s.mem.stone = true ∧ Mem.wf s.mem.sram = true ∧ Mem.wf s.mem.dram = true ∧ Mem.wf s.mem.foot = true := by
  simp [State.canon, and_assoc]
theorem keeps_regs {s₀ t : State} {ks img eng mix ovr flt ten host dom rdp rct time port pwr bst ana aes sap aux clk auxRec regs emitted free} (h : Keeps s₀ t) (hr : rising t.regs = true → rising regs = true) :
    Keeps s₀ ⟨ks, img, eng, mix, ovr, flt, ten, host, dom, rdp, rct, time, port, pwr, bst, ana, aes, sap, aux, clk, t.mem, auxRec, regs, emitted, free, t.pending⟩ :=
  ⟨h.1, fun c => by have := canon_parts.mp (h.2 c); exact canon_parts.mpr ⟨hr this.1, this.2⟩⟩
theorem keeps_mem {s₀ t : State} {m : MemState} {ks img eng mix ovr flt ten host dom rdp rct time port pwr bst ana aes sap aux clk auxRec emitted free} (h : Keeps s₀ t)
    (h0 : Mem.wf t.mem.stone = true → Mem.wf m.stone = true) (h1 : Mem.wf t.mem.sram = true → Mem.wf m.sram = true)
    (h2 : Mem.wf t.mem.dram = true → Mem.wf m.dram = true) (h3 : Mem.wf t.mem.foot = true → Mem.wf m.foot = true) :
    Keeps s₀ ⟨ks, img, eng, mix, ovr, flt, ten, host, dom, rdp, rct, time, port, pwr, bst, ana, aes, sap, aux, clk, m, auxRec, t.regs, emitted, free, t.pending⟩ :=
  ⟨h.1, fun c => by have := canon_parts.mp (h.2 c); exact canon_parts.mpr ⟨this.1, h0 this.2.1, h1 this.2.2.1, h2 this.2.2.2.1, h3 this.2.2.2.2⟩⟩

theorem keeps_dite {s₀ : State} {c : Prop} [Decidable c] {a : c → State} {b : ¬c → State} (ha : ∀ h, Keeps s₀ (a h)) (hb : ∀ h, Keeps s₀ (b h)) : Keeps s₀ (if h : c then a h else b h) := by
  split
  · exact ha _
  · exact hb _
theorem keeps_pair {α : Type} {s₀ a : State} {b : α} (h : Keeps s₀ a) : Keeps s₀ (a, b).1 := h
theorem keeps_pair2 {α : Type} {s₀ a : State} {b : α} (h : Keeps s₀ a) : Keeps s₀ (b, a).2 := h
theorem keeps_id {s₀ s : State} (h : Keeps s₀ s) : Keeps s₀ (id s) := h
theorem keeps_app {s₀ v : State} {f : State → State} (hv : Keeps s₀ v) (hf : ∀ u, Keeps s₀ u → Keeps s₀ (f u)) : Keeps s₀ (f v) := hf v hv
end Sys2Proof.Machine
end

