-- ==== Sys2Proof/Laws/KeepsPower.lean ====
section
/-! SUPPORT. One lemma for each operation that changes the state: it keeps the queue and the canonical form. The shared operations, the fault collector and the power-control die. -/
namespace Sys2Proof.Machine
open Sys2Proof

theorem keeps_State_setWord {s₀ : State} {s : State} (f : Fld) (v : Word) (i : Nat) (j : Nat) (t : Nat) (hk : Keeps s₀ s) :
    Keeps s₀ (State.setWord s f v i j t) :=
  keeps_regs hk (fun r => rising_put _ _ _ _ r)
theorem keeps_State_set {s₀ : State} {s : State} (f : Fld) (v : Nat) (i : Nat) (j : Nat) (t : Nat) (hk : Keeps s₀ s) :
    Keeps s₀ (State.set s f v i j t) := by
  unfold State.set
  with_reducible apply keeps_State_setWord
  assumption
theorem keeps_State_setB {s₀ : State} {s : State} (f : Fld) (b : Bool) (i : Nat) (j : Nat) (t : Nat) (hk : Keeps s₀ s) :
    Keeps s₀ (State.setB s f b i j t) := by
  unfold State.setB
  with_reducible apply keeps_State_set
  assumption
theorem keeps_State_inc {s₀ : State} {s : State} (f : Fld) (i : Nat) (j : Nat) (t : Nat) (hk : Keeps s₀ s) :
    Keeps s₀ (State.inc s f i j t) := by
  unfold State.inc
  with_reducible apply keeps_State_set
  assumption
theorem keeps_State_incBy {s₀ : State} {s : State} (f : Fld) (k : Nat) (i : Nat) (j : Nat) (t : Nat) (hk : Keeps s₀ s) :
    Keeps s₀ (State.incBy s f k i j t) := by
  unfold State.incBy
  with_reducible apply keeps_State_set
  assumption
theorem keeps_State_set64 {s₀ : State} {s : State} (lo : Fld) (hi : Fld) (v : Nat) (i : Nat) (t : Nat) (hk : Keeps s₀ s) :
    Keeps s₀ (State.set64 s lo hi v i t) := by
  unfold State.set64
  with_reducible apply keeps_State_set
  with_reducible apply keeps_State_set
  assumption
theorem keeps_State_forN {s₀ : State} {s : State} (n : Nat) (f : State → Nat → State) (hk : Keeps s₀ s) (h_f : ∀ a0 a1, Keeps s₀ a0 → Keeps s₀ (f a0 a1)) :
    Keeps s₀ (State.forN s n f) := by
  unfold State.forN
  exact keeps_foldl _ _ hk (fun u x hu => h_f u x hu)
theorem keeps_State_int {s₀ : State} {s : State} (f : Fld) (b : Nat) (hk : Keeps s₀ s) :
    Keeps s₀ (State.int s f b) := by
  unfold State.int
  extract_lets +onlyGivenNames v1
  clear_value v1
  extract_lets +onlyGivenNames v2
  clear_value v2
  extract_lets +onlyGivenNames v3
  have hv3 : Keeps s₀ v3 := by
    unfold v3
    with_reducible apply keeps_State_setWord
    assumption
  clear_value v3
  extract_lets +onlyGivenNames v4
  clear_value v4
  refine keeps_ite ?_ ?_
  · assumption
  · with_reducible refine keeps_mk ?_
    assumption
theorem keeps_State_fresh {s₀ : State} {s : State} (hk : Keeps s₀ s) :
    Keeps s₀ (State.fresh s).2 := by
  unfold State.fresh
  refine keeps_pair2 ?_
  with_reducible refine keeps_mk ?_
  assumption
theorem keeps_State_emit {s₀ : State} {s : State} (port : Nat) (bytes : List Byte) (hk : Keeps s₀ s) :
    Keeps s₀ (State.emit s port bytes) := by
  unfold State.emit
  with_reducible refine keeps_mk ?_
  assumption
theorem keeps_State_eccDrop {s₀ : State} {s : State} (k : Nat) (a : Nat) (hk : Keeps s₀ s) :
    Keeps s₀ (State.eccDrop s k a) := by
  unfold State.eccDrop
  with_reducible refine keeps_mem ?_ ?_ ?_ ?_ ?_
  · assumption
  · intro u1
    assumption
  · intro u2
    assumption
  · intro u3
    assumption
  · intro u4
    assumption
theorem keeps_State_eccWrite {s₀ : State} {s : State} (k : Nat) (a : Nat) (n : Nat) (hk : Keeps s₀ s) :
    Keeps s₀ (State.eccWrite s k a n) := by
  unfold State.eccWrite
  extract_lets +onlyGivenNames v1
  clear_value v1
  extract_lets +onlyGivenNames v2
  have hv2 : Keeps s₀ v2 := by
    unfold v2
    refine keeps_foldl _ _ ?_ ?_
    · assumption
    · intro u3 u4 h5
      with_reducible apply keeps_State_eccDrop
      assumption
  clear_value v2
  split
  · rename_i x6 x7 e8
    refine keeps_ite ?_ ?_
    · with_reducible apply keeps_State_set
      with_reducible refine keeps_mem ?_ ?_ ?_ ?_ ?_
      · assumption
      · intro u9
        assumption
      · intro u10
        assumption
      · intro u11
        assumption
      · intro u12
        assumption
    · assumption
  · rename_i x13 e14
    assumption
theorem keeps_State_injFrame {s₀ : State} {s : State} (tgt : Nat) (unit : Nat) (hk : Keeps s₀ s) :
    Keeps s₀ (State.injFrame s tgt unit).1 := by
  unfold State.injFrame
  split
  · rename_i x1 x2 e3
    refine keeps_ite1 ?_ ?_
    · refine keeps_pair ?_
      with_reducible apply keeps_State_set
      with_reducible refine keeps_mk ?_
      assumption
    · refine keeps_pair ?_
      assumption
  · rename_i x4 e5
    refine keeps_pair ?_
    assumption
theorem keeps_State_holdAnalog {s₀ : State} {s : State} (mask : Nat) (hk : Keeps s₀ s) :
    Keeps s₀ (State.holdAnalog s mask) := by
  unfold State.holdAnalog
  with_reducible apply keeps_State_forN
  · assumption
  · intro u1 u2 h3
    refine keeps_ite ?_ ?_
    · with_reducible apply keeps_State_int
      with_reducible apply keeps_State_set
      with_reducible apply keeps_State_set
      assumption
    · assumption
theorem keeps_State_recFreeze {s₀ : State} {s : State} (hk : Keeps s₀ s) :
    Keeps s₀ (State.recFreeze s) := by
  unfold State.recFreeze
  refine keeps_ite ?_ ?_
  · with_reducible apply keeps_State_set
    with_reducible refine keeps_mk ?_
    assumption
  · assumption
theorem keeps_State_log {s₀ : State} {s : State} (kind : Nat) (source : Nat) (data : List Byte) (hk : Keeps s₀ s) :
    Keeps s₀ (State.log s kind source data) := by
  unfold State.log
  refine keeps_ite ?_ ?_
  · extract_lets +onlyGivenNames v1
    clear_value v1
    extract_lets +onlyGivenNames v2
    clear_value v2
    extract_lets +onlyGivenNames v3
    clear_value v3
    extract_lets +onlyGivenNames v4
    clear_value v4
    extract_lets +onlyGivenNames v5
    clear_value v5
    with_reducible refine keeps_mk ?_
    assumption
  · assumption
theorem keeps_State_histPush {s₀ : State} {s : State} (e : HistEntry) (hk : Keeps s₀ s) :
    Keeps s₀ (State.histPush s e) := by
  unfold State.histPush
  extract_lets +onlyGivenNames v1
  have hv1 : ∀ a1, Keeps s₀ a1 → Keeps s₀ (v1 a1) := by
    unfold v1
    intro u2 h3
    with_reducible apply keeps_State_int
    with_reducible apply keeps_State_inc
    assumption
  clear_value v1
  extract_lets +onlyGivenNames v4
  have hv4 : Keeps s₀ v4 := by
    unfold v4
    with_reducible apply keeps_State_log
    assumption
  clear_value v4
  refine keeps_ite ?_ ?_
  · with_reducible apply hv1
    assumption
  · extract_lets +onlyGivenNames v5
    clear_value v5
    refine keeps_ite ?_ ?_
    · with_reducible apply hv1
      with_reducible refine keeps_mk ?_
      assumption
    · with_reducible refine keeps_mk ?_
      assumption
theorem keeps_State_freezeHist {s₀ : State} {s : State} (hk : Keeps s₀ s) :
    Keeps s₀ (State.freezeHist s) := by
  unfold State.freezeHist
  extract_lets +onlyGivenNames v1
  clear_value v1
  with_reducible apply keeps_State_eccWrite
  with_reducible refine keeps_mem ?_ ?_ ?_ ?_ ?_
  · assumption
  · exact fun w => w
  · exact fun w => w
  · exact fun w => w
  · exact fun w => Mem.wf_wrN _ _ _ w
theorem keeps_State_raise {s₀ : State} {s : State} (src : Nat) (unit : Nat) (detail : Nat) (cyc : Option Nat) (hv : Bool) (inj : Bool) (hk : Keeps s₀ s) :
    Keeps s₀ (State.raise s src unit detail cyc hv inj) := by
  unfold State.raise
  split
  · rename_i x1 e2
    assumption
  · rename_i x3 x4 e5
    extract_lets +onlyGivenNames v6
    clear_value v6
    extract_lets +onlyGivenNames v7
    clear_value v7
    extract_lets +onlyGivenNames v8
    clear_value v8
    extract_lets +onlyGivenNames v9
    have hv9 : Keeps s₀ v9 := by
      unfold v9
      with_reducible refine keeps_mk ?_
      assumption
    clear_value v9
    extract_lets +onlyGivenNames v10
    clear_value v10
    extract_lets +onlyGivenNames v11
    have hv11 : Keeps s₀ v11 := by
      unfold v11
      refine keeps_ite ?_ ?_
      · assumption
      · with_reducible apply keeps_State_inc
        with_reducible refine keeps_mk ?_
        assumption
    clear_value v11
    extract_lets +onlyGivenNames v12
    clear_value v12
    extract_lets +onlyGivenNames v13
    clear_value v13
    extract_lets +onlyGivenNames v14
    have hv14 : Keeps s₀ v14 := by
      unfold v14
      refine keeps_ite ?_ ?_
      · assumption
      · with_reducible apply keeps_State_histPush
        with_reducible refine keeps_mk ?_
        assumption
    clear_value v14
    extract_lets +onlyGivenNames v15
    have hv15 : Keeps s₀ v15 := by
      unfold v15
      with_reducible apply keeps_State_int
      assumption
    clear_value v15
    refine keeps_ite ?_ ?_
    · assumption
    · extract_lets +onlyGivenNames v16
      clear_value v16
      extract_lets +onlyGivenNames v17
      clear_value v17
      extract_lets +onlyGivenNames v18
      clear_value v18
      extract_lets +onlyGivenNames v19
      have hv19 : Keeps s₀ v19 := by
        unfold v19
        with_reducible refine keeps_mk ?_
        assumption
      clear_value v19
      extract_lets +onlyGivenNames v20
      have hv20 : Keeps s₀ v20 := by
        unfold v20
        with_reducible apply keeps_State_holdAnalog
        assumption
      clear_value v20
      extract_lets +onlyGivenNames v21
      have hv21 : Keeps s₀ v21 := by
        unfold v21
        refine keeps_ite ?_ ?_
        · with_reducible apply keeps_State_recFreeze
          assumption
        · assumption
      clear_value v21
      extract_lets +onlyGivenNames v22
      have hv22 : Keeps s₀ v22 := by
        unfold v22
        with_reducible refine keeps_mk ?_
        assumption
      clear_value v22
      refine keeps_ite ?_ ?_
      · with_reducible apply keeps_State_freezeHist
        assumption
      · assumption
theorem keeps_State_event {s₀ : State} {s : State} (hk : Keeps s₀ s) :
    Keeps s₀ (State.event s) := by
  unfold State.event
  with_reducible refine keeps_mk ?_
  assumption
theorem keeps_State_raiseActive {s₀ : State} {s : State} (src : Nat) (unit : Nat) (detail : Nat) (cyc : Option Nat) (hv : Bool) (hk : Keeps s₀ s) :
    Keeps s₀ (State.raiseActive s src unit detail cyc hv) := by
  unfold State.raiseActive
  extract_lets +onlyGivenNames v1
  have hv1 : Keeps s₀ v1 := by
    unfold v1
    with_reducible apply keeps_State_raise
    assumption
  clear_value v1
  with_reducible refine keeps_mk ?_
  assumption
theorem keeps_State_endActive {s₀ : State} {s : State} (src : Nat) (unit : Nat) (hk : Keeps s₀ s) :
    Keeps s₀ (State.endActive s src unit) := by
  unfold State.endActive
  with_reducible refine keeps_mk ?_
  assumption
theorem keeps_State_loadFault {s₀ : State} {s : State} (src : Nat) (ch : Nat) (hk : Keeps s₀ s) :
    Keeps s₀ (State.loadFault s src ch) := by
  unfold State.loadFault
  with_reducible refine keeps_mk ?_
  assumption
theorem keeps_State_injReport {s₀ : State} {s : State} (hk : Keeps s₀ s) :
    Keeps s₀ (State.injReport s) := by
  unfold State.injReport
  with_reducible apply keeps_State_int
  with_reducible apply keeps_State_set
  assumption
theorem keeps_State_stoneEcc {s₀ : State} {s : State} (addr : Nat) (dbl : Bool) (hk : Keeps s₀ s) :
    Keeps s₀ (State.stoneEcc s addr dbl) := by
  unfold State.stoneEcc
  extract_lets +onlyGivenNames v1
  have hv1 : Keeps s₀ v1 := by
    unfold v1
    with_reducible apply keeps_State_setWord
    assumption
  clear_value v1
  refine keeps_ite ?_ ?_
  · with_reducible apply keeps_State_int
    assumption
  · with_reducible apply keeps_State_int
    with_reducible apply keeps_State_inc
    assumption
theorem keeps_State_eccMeet {s₀ : State} {s : State} (e : EccMark) (cyc : Option Nat) (hk : Keeps s₀ s) :
    Keeps s₀ (State.eccMeet s e cyc) := by
  unfold State.eccMeet
  extract_lets +onlyGivenNames v1
  have hv1 : Keeps s₀ v1 := by
    unfold v1
    with_reducible apply keeps_State_raise
    assumption
  clear_value v1
  extract_lets +onlyGivenNames v2
  have hv2 : Keeps s₀ v2 := by
    unfold v2
    refine keeps_ite ?_ ?_
    · with_reducible apply keeps_State_stoneEcc
      assumption
    · assumption
  clear_value v2
  refine keeps_ite ?_ ?_
  · with_reducible apply keeps_State_injReport
    with_reducible refine keeps_mem ?_ ?_ ?_ ?_ ?_
    · assumption
    · intro u3
      assumption
    · intro u4
      assumption
    · intro u5
      assumption
    · intro u6
      assumption
  · assumption
theorem keeps_State_eccRead {s₀ : State} {s : State} (k : Nat) (a : Nat) (n : Nat) (cyc : Option Nat) (hk : Keeps s₀ s) :
    Keeps s₀ (State.eccRead s k a n cyc).1 := by
  unfold State.eccRead
  extract_lets +onlyGivenNames v1
  clear_value v1
  refine keeps_pair ?_
  refine keeps_foldl _ _ ?_ ?_
  · assumption
  · intro u2 u3 h4
    with_reducible apply keeps_State_eccMeet
    assumption
theorem keeps_State_sramWrite {s₀ : State} {s : State} (a : Nat) (bs : List Byte) (hk : Keeps s₀ s) :
    Keeps s₀ (State.sramWrite s a bs) := by
  unfold State.sramWrite
  with_reducible apply keeps_State_eccWrite
  with_reducible refine keeps_mem ?_ ?_ ?_ ?_ ?_
  · assumption
  · exact fun w => w
  · exact fun w => Mem.wf_wrN _ _ _ w
  · exact fun w => w
  · exact fun w => w
theorem keeps_State_dramWrite {s₀ : State} {s : State} (a : Nat) (bs : List Byte) (hk : Keeps s₀ s) :
    Keeps s₀ (State.dramWrite s a bs) := by
  unfold State.dramWrite
  with_reducible apply keeps_State_eccWrite
  with_reducible refine keeps_mem ?_ ?_ ?_ ?_ ?_
  · assumption
  · exact fun w => w
  · exact fun w => w
  · exact fun w => Mem.wf_wrN _ _ _ w
  · exact fun w => w
theorem keeps_State_footWrite {s₀ : State} {s : State} (a : Nat) (bs : List Byte) (hk : Keeps s₀ s) :
    Keeps s₀ (State.footWrite s a bs) := by
  unfold State.footWrite
  with_reducible apply keeps_State_eccWrite
  with_reducible refine keeps_mem ?_ ?_ ?_ ?_ ?_
  · assumption
  · exact fun w => w
  · exact fun w => w
  · exact fun w => w
  · exact fun w => Mem.wf_wrN _ _ _ w
theorem keeps_State_stoneWrite {s₀ : State} {s : State} (a : Nat) (bs : List Byte) (hk : Keeps s₀ s) :
    Keeps s₀ (State.stoneWrite s a bs) := by
  unfold State.stoneWrite
  with_reducible apply keeps_State_eccWrite
  with_reducible refine keeps_mem ?_ ?_ ?_ ?_ ?_
  · assumption
  · exact fun w => Mem.wf_wrN _ _ _ w
  · exact fun w => w
  · exact fun w => w
  · exact fun w => w
theorem keeps_actFltClear {s₀ : State} {s : State} (halt : Bool) (load : Bool) (restart : Bool) (cnt : Bool) (mask : Nat) (hk : Keeps s₀ s) :
    Keeps s₀ (actFltClear halt load restart cnt mask s) := by
  unfold actFltClear
  refine keeps_ite ?_ ?_
  · assumption
  · extract_lets +onlyGivenNames v1
    clear_value v1
    with_reducible refine keeps_mk ?_
    assumption
theorem keeps_fltCntClr {s₀ : State} {s : State} (hk : Keeps s₀ s) :
    Keeps s₀ (fltCntClr s) := by
  unfold fltCntClr
  with_reducible apply keeps_State_set
  with_reducible apply keeps_State_forN
  · assumption
  · intro u1 u2 h3
    with_reducible apply keeps_State_set
    assumption
theorem keeps_clearAct {s₀ : State} {s : State} (hk : Keeps s₀ s) :
    Keeps s₀ (clearAct s).1 := by
  unfold clearAct
  split
  · rename_i x1 e2
    refine keeps_pair ?_
    assumption
  · rename_i x3 x4 e5
    refine keeps_ite1 ?_ ?_
    · refine keeps_pair ?_
      assumption
    · extract_lets +onlyGivenNames v6
      clear_value v6
      extract_lets +onlyGivenNames v7
      have hv7 : Keeps s₀ v7 := by
        unfold v7
        with_reducible refine keeps_mk ?_
        assumption
      clear_value v7
      extract_lets +onlyGivenNames v8
      have hv8 : Keeps s₀ v8 := by
        unfold v8
        refine keeps_ite ?_ ?_
        · with_reducible apply keeps_fltCntClr
          assumption
        · assumption
      clear_value v8
      refine keeps_ite1 ?_ ?_
      · refine keeps_pair ?_
        with_reducible apply keeps_State_set
        assumption
      · refine keeps_ite1 ?_ ?_
        · refine keeps_pair ?_
          assumption
        · extract_lets +onlyGivenNames v9
          clear_value v9
          extract_lets +onlyGivenNames v10
          clear_value v10
          extract_lets +onlyGivenNames v11
          clear_value v11
          extract_lets +onlyGivenNames v12
          clear_value v12
          extract_lets +onlyGivenNames v13
          have hv13 : Keeps s₀ v13 := by
            unfold v13
            with_reducible refine keeps_mk ?_
            assumption
          clear_value v13
          extract_lets +onlyGivenNames v14
          have hv14 : Keeps s₀ v14 := by
            unfold v14
            refine keeps_foldl _ _ ?_ ?_
            · assumption
            · intro u15 u16 h17
              with_reducible apply keeps_State_setB
              assumption
          clear_value v14
          extract_lets +onlyGivenNames v18
          clear_value v18
          extract_lets +onlyGivenNames v19
          clear_value v19
          extract_lets +onlyGivenNames v20
          clear_value v20
          extract_lets +onlyGivenNames v21
          clear_value v21
          extract_lets +onlyGivenNames v22
          clear_value v22
          extract_lets +onlyGivenNames v23
          have hv23 : Keeps s₀ v23 := by
            unfold v23
            with_reducible refine keeps_mk ?_
            assumption
          clear_value v23
          extract_lets +onlyGivenNames v24
          clear_value v24
          extract_lets +onlyGivenNames v25
          clear_value v25
          extract_lets +onlyGivenNames v26
          clear_value v26
          extract_lets +onlyGivenNames v27
          have hv27 : Keeps s₀ v27 := by
            unfold v27
            with_reducible apply keeps_State_set
            with_reducible apply keeps_State_set
            with_reducible apply keeps_State_set
            assumption
          clear_value v27
          extract_lets +onlyGivenNames v28
          have hv28 : Keeps s₀ v28 := by
            unfold v28
            with_reducible apply keeps_State_histPush
            assumption
          clear_value v28
          extract_lets +onlyGivenNames v29
          clear_value v29
          refine keeps_pair ?_
          assumption
theorem keeps_fltTickStart {s₀ : State} {s : State} (hk : Keeps s₀ s) :
    Keeps s₀ (fltTickStart s) := by
  unfold fltTickStart
  extract_lets +onlyGivenNames v1
  clear_value v1
  with_reducible refine keeps_mk ?_
  assumption
theorem keeps_plumbEdge {s₀ : State} {s : State} (hk : Keeps s₀ s) :
    Keeps s₀ (plumbEdge s) := by
  unfold plumbEdge
  extract_lets +onlyGivenNames v1
  clear_value v1
  extract_lets +onlyGivenNames v2
  clear_value v2
  refine keeps_ite ?_ ?_
  · refine keeps_ite ?_ ?_
    · assumption
    · refine keeps_ite ?_ ?_
      · with_reducible refine keeps_mk ?_
        assumption
      · assumption
  · refine keeps_ite ?_ ?_
    · refine keeps_ite ?_ ?_
      · with_reducible refine keeps_mk ?_
        assumption
      · assumption
    · with_reducible refine keeps_mk ?_
      assumption
theorem keeps_fnWatch {s₀ : State} {s : State} (hk : Keeps s₀ s) :
    Keeps s₀ (fnWatch s) := by
  unfold fnWatch
  extract_lets +onlyGivenNames v1
  clear_value v1
  extract_lets +onlyGivenNames v2
  have hv2 : Keeps s₀ v2 := by
    unfold v2
    refine keeps_ite ?_ ?_
    · with_reducible apply keeps_State_int
      with_reducible refine keeps_mk ?_
      assumption
    · assumption
  clear_value v2
  extract_lets +onlyGivenNames v3
  clear_value v3
  refine keeps_ite ?_ ?_
  · with_reducible apply keeps_State_raiseActive
    assumption
  · refine keeps_ite ?_ ?_
    · with_reducible apply keeps_State_endActive
      assumption
    · assumption
theorem keeps_actInjArm {s₀ : State} {s : State} (hk : Keeps s₀ s) :
    Keeps s₀ (actInjArm s).1 := by
  unfold actInjArm
  extract_lets +onlyGivenNames v1
  clear_value v1
  refine keeps_ite1 ?_ ?_
  · refine keeps_pair ?_
    assumption
  · refine keeps_ite1 ?_ ?_
    · refine keeps_pair ?_
      assumption
    · refine keeps_ite1 ?_ ?_
      · refine keeps_pair ?_
        with_reducible apply keeps_State_set
        assumption
      · refine keeps_ite1 ?_ ?_
        · refine keeps_pair ?_
          with_reducible apply keeps_State_set
          assumption
        · extract_lets +onlyGivenNames v2
          clear_value v2
          refine keeps_pair ?_
          with_reducible apply keeps_State_set
          with_reducible refine keeps_mk ?_
          assumption
theorem keeps_lowHotOn {s₀ : State} {s : State} (src : Nat) (hk : Keeps s₀ s) :
    Keeps s₀ (lowHotOn src s) := by
  unfold lowHotOn
  extract_lets +onlyGivenNames v1
  have hv1 : Keeps s₀ v1 := by
    unfold v1
    with_reducible apply keeps_State_raiseActive
    with_reducible apply keeps_State_event
    assumption
  clear_value v1
  extract_lets +onlyGivenNames v2
  clear_value v2
  extract_lets +onlyGivenNames v3
  have hv3 : Keeps s₀ v3 := by
    unfold v3
    refine keeps_ite ?_ ?_
    · with_reducible refine keeps_mk ?_
      assumption
    · with_reducible refine keeps_mk ?_
      assumption
  clear_value v3
  with_reducible apply keeps_State_holdAnalog
  assumption
theorem keeps_State_modPc {s₀ : State} {s : State} (n : Nat) (f : PwrCh → PwrCh) (hk : Keeps s₀ s) :
    Keeps s₀ (State.modPc s n f) := by
  unfold State.modPc
  with_reducible refine keeps_mk ?_
  assumption
theorem keeps_State_hvFault {s₀ : State} {s : State} (src : Nat) (unit : Nat) (what : Nat) (hk : Keeps s₀ s) :
    Keeps s₀ (State.hvFault s src unit what) := by
  unfold State.hvFault
  refine keeps_ite ?_ ?_
  · with_reducible refine keeps_mk ?_
    assumption
  · assumption
theorem keeps_State_setCh {s₀ : State} {s : State} (n : Nat) (v : Nat) (hk : Keeps s₀ s) :
    Keeps s₀ (State.setCh s n v) := by
  unfold State.setCh
  refine keeps_ite ?_ ?_
  · assumption
  · with_reducible apply keeps_State_int
    with_reducible apply keeps_State_set
    assumption
theorem keeps_State_setAction {s₀ : State} {s : State} (n : Nat) (v : Nat) (hk : Keeps s₀ s) :
    Keeps s₀ (State.setAction s n v) := by
  unfold State.setAction
  extract_lets +onlyGivenNames v1
  have hv1 : Keeps s₀ v1 := by
    unfold v1
    with_reducible apply keeps_State_set
    assumption
  clear_value v1
  refine keeps_ite ?_ ?_
  · with_reducible apply keeps_State_int
    assumption
  · assumption
theorem keeps_State_cancelAction {s₀ : State} {s : State} (n : Nat) (hk : Keeps s₀ s) :
    Keeps s₀ (State.cancelAction s n) := by
  unfold State.cancelAction
  extract_lets +onlyGivenNames v1
  clear_value v1
  refine keeps_ite ?_ ?_
  · assumption
  · with_reducible apply keeps_State_setAction
    with_reducible apply keeps_State_modPc
    assumption
theorem keeps_State_showPhases {s₀ : State} {s : State} (n : Nat) (hk : Keeps s₀ s) :
    Keeps s₀ (State.showPhases s n) := by
  unfold State.showPhases
  extract_lets +onlyGivenNames v1
  clear_value v1
  extract_lets +onlyGivenNames v2
  have hv2 : Keeps s₀ v2 := by
    unfold v2
    with_reducible apply keeps_State_setB
    with_reducible apply keeps_State_set
    assumption
  clear_value v2
  extract_lets +onlyGivenNames v3
  have hv3 : Keeps s₀ v3 := by
    unfold v3
    with_reducible apply keeps_State_setB
    assumption
  clear_value v3
  with_reducible apply keeps_State_set
  assumption
theorem keeps_State_showSafe {s₀ : State} {s : State} (hk : Keeps s₀ s) :
    Keeps s₀ (State.showSafe s) := by
  unfold State.showSafe
  extract_lets +onlyGivenNames v1
  clear_value v1
  extract_lets +onlyGivenNames v2
  clear_value v2
  extract_lets +onlyGivenNames v3
  clear_value v3
  extract_lets +onlyGivenNames v4
  clear_value v4
  with_reducible apply keeps_State_setB
  with_reducible apply keeps_State_set
  assumption
theorem keeps_State_safeOne {s₀ : State} {s : State} (cause : Nat) (n : Nat) (hk : Keeps s₀ s) :
    Keeps s₀ (State.safeOne s cause n) := by
  unfold State.safeOne
  refine keeps_ite ?_ ?_
  · assumption
  · extract_lets +onlyGivenNames v1
    have hv1 : Keeps s₀ v1 := by
      unfold v1
      with_reducible apply keeps_State_cancelAction
      assumption
    clear_value v1
    extract_lets +onlyGivenNames v2
    have hv2 : Keeps s₀ v2 := by
      unfold v2
      refine keeps_ite ?_ ?_
      · with_reducible apply keeps_State_setAction
        assumption
      · assumption
    clear_value v2
    extract_lets +onlyGivenNames v3
    have hv3 : Keeps s₀ v3 := by
      unfold v3
      with_reducible apply keeps_State_setB
      with_reducible apply keeps_State_set
      assumption
    clear_value v3
    extract_lets +onlyGivenNames v4
    have hv4 : Keeps s₀ v4 := by
      unfold v4
      with_reducible apply keeps_State_int
      with_reducible apply keeps_State_modPc
      assumption
    clear_value v4
    extract_lets +onlyGivenNames v5
    clear_value v5
    extract_lets +onlyGivenNames v6
    clear_value v6
    extract_lets +onlyGivenNames v7
    have hv7 : Keeps s₀ v7 := by
      unfold v7
      refine keeps_ite ?_ ?_
      · with_reducible refine keeps_mk ?_
        assumption
      · assumption
    clear_value v7
    with_reducible apply keeps_State_setCh
    assumption
theorem keeps_State_safeNew {s₀ : State} {s : State} (already : Nat) (mask : Nat) (cause : Nat) (hk : Keeps s₀ s) :
    Keeps s₀ (State.safeNew s already mask cause) := by
  unfold State.safeNew
  with_reducible apply keeps_State_showSafe
  with_reducible apply keeps_State_forN
  · assumption
  · intro u1 u2 h3
    refine keeps_ite ?_ ?_
    · with_reducible apply keeps_State_safeOne
      assumption
    · assumption
theorem keeps_State_hvSafe {s₀ : State} {s : State} (mask : Nat) (cause : Nat) (hk : Keeps s₀ s) :
    Keeps s₀ (State.hvSafe s mask cause) := by
  unfold State.hvSafe
  with_reducible apply keeps_State_safeNew
  assumption
theorem keeps_chFollow {s₀ : State} {s : State} (hk : Keeps s₀ s) :
    Keeps s₀ (chFollow s) := by
  unfold chFollow
  with_reducible apply keeps_State_showSafe
  with_reducible apply keeps_State_forN
  · assumption
  · intro u1 u2 h3
    extract_lets +onlyGivenNames v4
    clear_value v4
    refine keeps_ite ?_ ?_
    · with_reducible apply keeps_State_showPhases
      with_reducible apply keeps_State_setCh
      assumption
    · refine keeps_ite ?_ ?_
      · with_reducible apply keeps_State_showPhases
        with_reducible apply keeps_State_setCh
        with_reducible apply keeps_State_modPc
        assumption
      · assumption
theorem keeps_allOff {s₀ : State} {s : State} (hk : Keeps s₀ s) :
    Keeps s₀ (allOff s) := by
  unfold allOff
  with_reducible apply keeps_State_showSafe
  with_reducible apply keeps_State_forN
  · assumption
  · intro u1 u2 h3
    extract_lets +onlyGivenNames v4
    have hv4 : Keeps s₀ v4 := by
      unfold v4
      with_reducible apply keeps_State_cancelAction
      assumption
    clear_value v4
    extract_lets +onlyGivenNames v5
    have hv5 : Keeps s₀ v5 := by
      unfold v5
      with_reducible apply keeps_State_modPc
      with_reducible apply keeps_State_setB
      assumption
    clear_value v5
    with_reducible apply keeps_State_showPhases
    with_reducible apply keeps_State_setCh
    assumption
theorem keeps_State_arm {s₀ : State} {s : State} (n : Nat) (hk : Keeps s₀ s) :
    Keeps s₀ (State.arm s n) := by
  unfold State.arm
  extract_lets +onlyGivenNames v1
  clear_value v1
  extract_lets +onlyGivenNames v2
  have hv2 : Keeps s₀ v2 := by
    unfold v2
    with_reducible refine keeps_mk ?_
    assumption
  clear_value v2
  extract_lets +onlyGivenNames v3
  have hv3 : Keeps s₀ v3 := by
    unfold v3
    with_reducible apply keeps_State_modPc
    assumption
  clear_value v3
  extract_lets +onlyGivenNames v4
  have hv4 : Keeps s₀ v4 := by
    unfold v4
    refine keeps_ite ?_ ?_
    · assumption
    · with_reducible apply keeps_State_forN
      · assumption
      · intro u5 u6 h7
        with_reducible apply keeps_State_setWord
        assumption
  clear_value v4
  with_reducible apply keeps_State_setCh
  with_reducible apply keeps_State_setB
  assumption
theorem keeps_actChArm {s₀ : State} {s : State} (n : Nat) (hk : Keeps s₀ s) :
    Keeps s₀ (actChArm n s).1 := by
  unfold actChArm
  refine keeps_ite1 ?_ ?_
  · refine keeps_pair ?_
    with_reducible apply keeps_State_arm
    assumption
  · refine keeps_pair ?_
    assumption
theorem keeps_State_schedule {s₀ : State} {s : State} (n : Nat) (act : Nat) (timed : Bool) (hk : Keeps s₀ s) :
    Keeps s₀ (State.schedule s n act timed) := by
  unfold State.schedule
  extract_lets +onlyGivenNames v1
  clear_value v1
  refine keeps_ite ?_ ?_
  · with_reducible apply keeps_State_setAction
    assumption
  · with_reducible apply keeps_State_setAction
    with_reducible apply keeps_State_modPc
    with_reducible apply keeps_State_cancelAction
    assumption
theorem keeps_actChRelease {s₀ : State} {s : State} (n : Nat) (hk : Keeps s₀ s) :
    Keeps s₀ (actChRelease n s).1 := by
  unfold actChRelease
  refine keeps_ite1 ?_ ?_
  · refine keeps_pair ?_
    with_reducible apply keeps_State_schedule
    assumption
  · refine keeps_pair ?_
    assumption
theorem keeps_State_disarmed {s₀ : State} {s : State} (n : Nat) (hk : Keeps s₀ s) :
    Keeps s₀ (State.disarmed s n) := by
  unfold State.disarmed
  with_reducible apply keeps_State_setCh
  with_reducible apply keeps_State_setB
  with_reducible apply keeps_State_cancelAction
  assumption
theorem keeps_actChMute {s₀ : State} {s : State} (n : Nat) (hk : Keeps s₀ s) :
    Keeps s₀ (actChMute n s).1 := by
  unfold actChMute
  refine keeps_ite1 ?_ ?_
  · refine keeps_pair ?_
    with_reducible apply keeps_State_disarmed
    assumption
  · refine keeps_ite1 ?_ ?_
    · refine keeps_pair ?_
      with_reducible apply keeps_State_schedule
      assumption
    · refine keeps_pair ?_
      assumption
theorem keeps_actChDisarm {s₀ : State} {s : State} (n : Nat) (hk : Keeps s₀ s) :
    Keeps s₀ (actChDisarm n s).1 := by
  unfold actChDisarm
  refine keeps_ite1 ?_ ?_
  · refine keeps_pair ?_
    assumption
  · refine keeps_pair ?_
    with_reducible apply keeps_State_cancelAction
    assumption
theorem keeps_State_startMute {s₀ : State} {s : State} (n : Nat) (t : Nat) (hk : Keeps s₀ s) :
    Keeps s₀ (State.startMute s n t) := by
  unfold State.startMute
  extract_lets +onlyGivenNames v1
  have hv1 : Keeps s₀ v1 := by
    unfold v1
    with_reducible apply keeps_State_modPc
    assumption
  clear_value v1
  with_reducible apply keeps_State_setCh
  with_reducible apply keeps_State_setAction
  assumption
theorem keeps_muteDue {s₀ : State} {s : State} (n : Nat) (hk : Keeps s₀ s) :
    Keeps s₀ (muteDue n s) := by
  unfold muteDue
  extract_lets +onlyGivenNames v1
  clear_value v1
  refine keeps_ite ?_ ?_
  · with_reducible apply keeps_State_startMute
    assumption
  · assumption
theorem keeps_releaseDue {s₀ : State} {s : State} (n : Nat) (hk : Keeps s₀ s) :
    Keeps s₀ (releaseDue n s) := by
  unfold releaseDue
  extract_lets +onlyGivenNames v1
  clear_value v1
  extract_lets +onlyGivenNames v2
  clear_value v2
  refine keeps_ite ?_ ?_
  · refine keeps_ite ?_ ?_
    · with_reducible apply keeps_State_modPc
      assumption
    · refine keeps_ite ?_ ?_
      · with_reducible apply keeps_State_setAction
        with_reducible apply keeps_State_modPc
        assumption
      · assumption
  · assumption
theorem keeps_releaseEdge {s₀ : State} {s : State} (n : Nat) (hk : Keeps s₀ s) :
    Keeps s₀ (releaseEdge n s) := by
  unfold releaseEdge
  split
  · rename_i x1 x2 e3
    refine keeps_ite ?_ ?_
    · with_reducible apply keeps_State_setCh
      with_reducible apply keeps_State_setAction
      with_reducible apply keeps_State_setB
      with_reducible apply keeps_State_modPc
      assumption
    · assumption
  · rename_i x4 e5
    assumption
theorem keeps_muteEnd {s₀ : State} {s : State} (n : Nat) (hk : Keeps s₀ s) :
    Keeps s₀ (muteEnd n s) := by
  unfold muteEnd
  extract_lets +onlyGivenNames v1
  clear_value v1
  refine keeps_ite ?_ ?_
  · with_reducible apply keeps_State_setCh
    with_reducible apply keeps_State_setAction
    with_reducible apply keeps_State_modPc
    assumption
  · assumption
theorem keeps_State_ownStart {s₀ : State} {s : State} (n : Nat) (hk : Keeps s₀ s) :
    Keeps s₀ (State.ownStart s n) := by
  unfold State.ownStart
  extract_lets +onlyGivenNames v1
  have hv1 : Keeps s₀ v1 := by
    unfold v1
    refine keeps_ite ?_ ?_
    · with_reducible apply keeps_State_arm
      assumption
    · assumption
  clear_value v1
  refine keeps_ite ?_ ?_
  · with_reducible apply keeps_State_schedule
    assumption
  · assumption
theorem keeps_State_ownStop {s₀ : State} {s : State} (n : Nat) (hk : Keeps s₀ s) :
    Keeps s₀ (State.ownStop s n) := by
  unfold State.ownStop
  refine keeps_ite ?_ ?_
  · with_reducible apply keeps_State_startMute
    with_reducible apply keeps_State_cancelAction
    assumption
  · refine keeps_ite ?_ ?_
    · with_reducible apply keeps_State_disarmed
      assumption
    · assumption
theorem keeps_State_askStart {s₀ : State} {s : State} (mask : Nat) (hk : Keeps s₀ s) :
    Keeps s₀ (State.askStart s mask) := by
  unfold State.askStart
  with_reducible refine keeps_mk ?_
  assumption
theorem keeps_State_askStop {s₀ : State} {s : State} (mask : Nat) (hk : Keeps s₀ s) :
    Keeps s₀ (State.askStop s mask) := by
  unfold State.askStop
  with_reducible refine keeps_mk ?_
  assumption
theorem keeps_modSample {s₀ : State} {s : State} (n : Nat) (vA : Int) (vB : Int) (i : Int) (x : DriveSense) (hk : Keeps s₀ s) :
    Keeps s₀ (modSample n vA vB i x s) := by
  unfold modSample
  extract_lets +onlyGivenNames v1
  clear_value v1
  refine keeps_ite ?_ ?_
  · assumption
  · extract_lets +onlyGivenNames v2
    clear_value v2
    extract_lets +onlyGivenNames v3
    clear_value v3
    extract_lets +onlyGivenNames v4
    clear_value v4
    extract_lets +onlyGivenNames v5
    clear_value v5
    extract_lets +onlyGivenNames v6
    clear_value v6
    extract_lets +onlyGivenNames v7
    clear_value v7
    extract_lets +onlyGivenNames v8
    clear_value v8
    extract_lets +onlyGivenNames v9
    clear_value v9
    extract_lets +onlyGivenNames v10
    clear_value v10
    extract_lets +onlyGivenNames v11
    clear_value v11
    extract_lets +onlyGivenNames v12
    clear_value v12
    extract_lets +onlyGivenNames v13
    clear_value v13
    extract_lets +onlyGivenNames v14
    clear_value v14
    extract_lets +onlyGivenNames v15
    clear_value v15
    extract_lets +onlyGivenNames v16
    clear_value v16
    extract_lets +onlyGivenNames v17
    clear_value v17
    extract_lets +onlyGivenNames v18
    clear_value v18
    extract_lets +onlyGivenNames v19
    clear_value v19
    extract_lets +onlyGivenNames v20
    clear_value v20
    extract_lets +onlyGivenNames v21
    have hv21 : Keeps s₀ v21 := by
      unfold v21
      refine keeps_ite ?_ ?_
      · with_reducible apply keeps_State_setB
        assumption
      · assumption
    clear_value v21
    extract_lets +onlyGivenNames v22
    have hv22 : Keeps s₀ v22 := by
      unfold v22
      refine keeps_ite ?_ ?_
      · with_reducible refine keeps_mk ?_
        assumption
      · assumption
    clear_value v22
    refine keeps_ite ?_ ?_
    · with_reducible apply keeps_State_modPc
      assumption
    · extract_lets +onlyGivenNames v23
      have hv23 : Keeps s₀ v23 := by
        unfold v23
        with_reducible apply keeps_State_modPc
        assumption
      clear_value v23
      extract_lets +onlyGivenNames v24
      have hv24 : Keeps s₀ v24 := by
        unfold v24
        refine keeps_ite ?_ ?_
        · with_reducible apply keeps_State_hvFault
          with_reducible apply keeps_State_inc
          assumption
        · assumption
      clear_value v24
      refine keeps_ite ?_ ?_
      · with_reducible apply keeps_State_hvFault
        with_reducible apply keeps_State_inc
        assumption
      · assumption
theorem keeps_State_showSsc {s₀ : State} {s : State} (hk : Keeps s₀ s) :
    Keeps s₀ (State.showSsc s) := by
  unfold State.showSsc
  with_reducible apply keeps_State_setB
  assumption
theorem keeps_State_swMove {s₀ : State} {s : State} (hz : Nat) (hk : Keeps s₀ s) :
    Keeps s₀ (State.swMove s hz) := by
  unfold State.swMove
  extract_lets +onlyGivenNames v1
  clear_value v1
  refine keeps_ite ?_ ?_
  · with_reducible apply keeps_State_setB
    with_reducible refine keeps_mk ?_
    assumption
  · with_reducible apply keeps_State_setB
    with_reducible apply keeps_State_set
    with_reducible refine keeps_mk ?_
    assumption
theorem keeps_actSwApply {s₀ : State} {s : State} (hk : Keeps s₀ s) :
    Keeps s₀ (actSwApply s).1 := by
  unfold actSwApply
  extract_lets +onlyGivenNames v1
  clear_value v1
  extract_lets +onlyGivenNames v2
  clear_value v2
  extract_lets +onlyGivenNames v3
  have hv3 : ∀ a1 a2, Keeps s₀ a1 → Keeps s₀ (v3 a1 a2).1 := by
    unfold v3
    intro u4 u5 h6
    refine keeps_pair ?_
    with_reducible apply keeps_State_int
    with_reducible apply keeps_State_set
    assumption
  clear_value v3
  refine keeps_ite1 ?_ ?_
  · with_reducible apply hv3
    assumption
  · refine keeps_ite1 ?_ ?_
    · with_reducible apply hv3
      assumption
    · extract_lets +onlyGivenNames v7
      clear_value v7
      extract_lets +onlyGivenNames v8
      have hv8 : Keeps s₀ v8 := by
        unfold v8
        with_reducible refine keeps_mk ?_
        assumption
      clear_value v8
      extract_lets +onlyGivenNames v9
      have hv9 : Keeps s₀ v9 := by
        unfold v9
        with_reducible apply keeps_State_showSsc
        assumption
      clear_value v9
      refine keeps_ite1 ?_ ?_
      · with_reducible apply hv3
        with_reducible apply keeps_State_swMove
        with_reducible apply keeps_State_set
        assumption
      · extract_lets +onlyGivenNames v10
        clear_value v10
        extract_lets +onlyGivenNames v11
        clear_value v11
        split
        · rename_i x12 x13 e14
          with_reducible apply hv3
          with_reducible apply keeps_State_swMove
          with_reducible apply keeps_State_set
          assumption
        · rename_i x15 e16
          extract_lets +onlyGivenNames v17
          clear_value v17
          extract_lets +onlyGivenNames v18
          clear_value v18
          with_reducible apply hv3
          with_reducible apply keeps_State_hvFault
          with_reducible apply keeps_State_swMove
          with_reducible apply keeps_State_set
          assumption
theorem keeps_swRampTick {s₀ : State} {s : State} (hk : Keeps s₀ s) :
    Keeps s₀ (swRampTick s) := by
  unfold swRampTick
  split
  · rename_i x1 x2 x3 x4 e5
    refine keeps_ite ?_ ?_
    · assumption
    · with_reducible apply keeps_State_set
      assumption
  · rename_i x6 e7
    assumption
theorem keeps_swRampEnd {s₀ : State} {s : State} (hk : Keeps s₀ s) :
    Keeps s₀ (swRampEnd s) := by
  unfold swRampEnd
  split
  · rename_i x1 x2 x3 x4 e5
    with_reducible apply keeps_State_int
    with_reducible apply keeps_State_setB
    with_reducible apply keeps_State_set
    with_reducible refine keeps_mk ?_
    assumption
  · rename_i x6 e7
    assumption
theorem keeps_State_swSource {s₀ : State} {s : State} (v : Nat) (hk : Keeps s₀ s) :
    Keeps s₀ (State.swSource s v) := by
  unfold State.swSource
  refine keeps_ite ?_ ?_
  · assumption
  · with_reducible apply keeps_State_showSsc
    with_reducible apply keeps_State_int
    with_reducible apply keeps_State_set
    assumption
theorem keeps_clkFailover {s₀ : State} {s : State} (hk : Keeps s₀ s) :
    Keeps s₀ (clkFailover s) := by
  unfold clkFailover
  extract_lets +onlyGivenNames v1
  clear_value v1
  refine keeps_ite ?_ ?_
  · assumption
  · refine keeps_ite ?_ ?_
    · with_reducible apply keeps_State_hvFault
      with_reducible apply keeps_State_inc
      with_reducible apply keeps_State_swSource
      with_reducible apply keeps_State_setB
      assumption
    · refine keeps_ite ?_ ?_
      · with_reducible apply keeps_State_hvFault
        with_reducible apply keeps_State_inc
        with_reducible apply keeps_State_swSource
        with_reducible apply keeps_State_setB
        assumption
      · assumption
theorem keeps_clkReturn {s₀ : State} {s : State} (ramp : Bool) (hk : Keeps s₀ s) :
    Keeps s₀ (clkReturn ramp s) := by
  unfold clkReturn
  refine keeps_ite ?_ ?_
  · assumption
  · extract_lets +onlyGivenNames v1
    have hv1 : Keeps s₀ v1 := by
      unfold v1
      with_reducible apply keeps_State_setB
      with_reducible apply keeps_State_setB
      assumption
    clear_value v1
    refine keeps_ite ?_ ?_
    · assumption
    · extract_lets +onlyGivenNames v2
      have hv2 : Keeps s₀ v2 := by
        unfold v2
        with_reducible apply keeps_State_swSource
        assumption
      clear_value v2
      extract_lets +onlyGivenNames v3
      clear_value v3
      extract_lets +onlyGivenNames v4
      have hv4 : Keeps s₀ v4 := by
        unfold v4
        refine keeps_ite ?_ ?_
        · with_reducible apply keeps_State_setB
          with_reducible refine keeps_mk ?_
          assumption
        · refine keeps_ite ?_ ?_
          · with_reducible apply keeps_State_set
            assumption
          · with_reducible apply keeps_swRampTick
            assumption
      clear_value v4
      with_reducible apply keeps_State_showSafe
      assumption
theorem keeps_clkLost {s₀ : State} {s : State} (hk : Keeps s₀ s) :
    Keeps s₀ (clkLost s) := by
  unfold clkLost
  refine keeps_ite ?_ ?_
  · assumption
  · with_reducible apply keeps_State_hvSafe
    with_reducible apply keeps_State_hvFault
    with_reducible apply keeps_State_swSource
    with_reducible apply keeps_State_setB
    with_reducible apply keeps_State_setB
    assumption
theorem keeps_recLost {s₀ : State} {s : State} (hk : Keeps s₀ s) :
    Keeps s₀ (recLost s) := by
  unfold recLost
  extract_lets +onlyGivenNames v1
  clear_value v1
  refine keeps_ite ?_ ?_
  · with_reducible apply keeps_State_setB
    assumption
  · refine keeps_ite ?_ ?_
    · with_reducible apply keeps_clkFailover
      assumption
    · with_reducible apply keeps_clkLost
      assumption
theorem keeps_phaseLoss {s₀ : State} {s : State} (n : Nat) (ph : Nat) (hk : Keeps s₀ s) :
    Keeps s₀ (phaseLoss n ph s) := by
  unfold phaseLoss
  extract_lets +onlyGivenNames v1
  clear_value v1
  refine keeps_ite ?_ ?_
  · assumption
  · extract_lets +onlyGivenNames v2
    have hv2 : Keeps s₀ v2 := by
      unfold v2
      with_reducible apply keeps_State_showPhases
      with_reducible apply keeps_State_modPc
      assumption
    clear_value v2
    extract_lets +onlyGivenNames v3
    have hv3 : Keeps s₀ v3 := by
      unfold v3
      with_reducible apply keeps_State_hvFault
      with_reducible apply keeps_State_int
      assumption
    clear_value v3
    refine keeps_ite ?_ ?_
    · assumption
    · with_reducible apply keeps_State_hvSafe
      with_reducible apply keeps_State_hvFault
      assumption
theorem keeps_loadShort {s₀ : State} {s : State} (n : Nat) (hk : Keeps s₀ s) :
    Keeps s₀ (loadShort n s) := by
  unfold loadShort
  refine keeps_ite ?_ ?_
  · assumption
  · with_reducible apply keeps_State_hvSafe
    with_reducible apply keeps_State_hvFault
    assumption
theorem keeps_vdrvLow {s₀ : State} {s : State} (hk : Keeps s₀ s) :
    Keeps s₀ (vdrvLow s) := by
  unfold vdrvLow
  refine keeps_ite ?_ ?_
  · assumption
  · with_reducible apply keeps_State_hvSafe
    with_reducible apply keeps_State_hvFault
    with_reducible refine keeps_mk ?_
    assumption
theorem keeps_vdrvRecover {s₀ : State} {s : State} (hk : Keeps s₀ s) :
    Keeps s₀ (vdrvRecover s) := by
  unfold vdrvRecover
  refine keeps_ite ?_ ?_
  · assumption
  · with_reducible apply keeps_State_showSafe
    with_reducible apply keeps_State_hvFault
    with_reducible refine keeps_mk ?_
    assumption
theorem keeps_dieHot {s₀ : State} {s : State} (k : Nat) (hk : Keeps s₀ s) :
    Keeps s₀ (dieHot k s) := by
  unfold dieHot
  refine keeps_ite ?_ ?_
  · assumption
  · with_reducible apply keeps_State_hvSafe
    with_reducible apply keeps_State_hvFault
    with_reducible refine keeps_mk ?_
    assumption
theorem keeps_dieCool {s₀ : State} {s : State} (k : Nat) (hk : Keeps s₀ s) :
    Keeps s₀ (dieCool k s) := by
  unfold dieCool
  refine keeps_ite ?_ ?_
  · assumption
  · with_reducible apply keeps_State_showSafe
    with_reducible apply keeps_State_hvFault
    with_reducible refine keeps_mk ?_
    assumption
theorem keeps_hvCapstone {s₀ : State} {s : State} (src : Nat) (cause : Nat) (hk : Keeps s₀ s) :
    Keeps s₀ (hvCapstone src cause s) := by
  unfold hvCapstone
  refine keeps_ite ?_ ?_
  · assumption
  · with_reducible apply keeps_State_hvSafe
    with_reducible apply keeps_State_hvFault
    with_reducible refine keeps_mk ?_
    assumption
theorem keeps_vbusAbs {s₀ : State} {s : State} (hk : Keeps s₀ s) :
    Keeps s₀ (vbusAbs s) := by
  unfold vbusAbs
  with_reducible apply keeps_hvCapstone
  assumption
theorem keeps_logicCollapse {s₀ : State} {s : State} (hk : Keeps s₀ s) :
    Keeps s₀ (logicCollapse s) := by
  unfold logicCollapse
  refine keeps_ite ?_ ?_
  · with_reducible apply keeps_hvCapstone
    assumption
  · assumption
theorem keeps_State_showBst {s₀ : State} {s : State} (k : Nat) (hk : Keeps s₀ s) :
    Keeps s₀ (State.showBst s k) := by
  unfold State.showBst
  extract_lets +onlyGivenNames v1
  clear_value v1
  extract_lets +onlyGivenNames v2
  clear_value v2
  extract_lets +onlyGivenNames v3
  clear_value v3
  extract_lets +onlyGivenNames v4
  clear_value v4
  extract_lets +onlyGivenNames v5
  clear_value v5
  extract_lets +onlyGivenNames v6
  have hv6 : Keeps s₀ v6 := by
    unfold v6
    with_reducible apply keeps_State_setB
    with_reducible apply keeps_State_setB
    with_reducible apply keeps_State_setB
    with_reducible apply keeps_State_set
    assumption
  clear_value v6
  with_reducible apply keeps_State_set
  with_reducible apply keeps_State_setB
  with_reducible apply keeps_State_setB
  with_reducible apply keeps_State_set
  assumption
theorem keeps_bstStop {s₀ : State} {s : State} (src : Nat) (k : Nat) (hk : Keeps s₀ s) :
    Keeps s₀ (bstStop src k s) := by
  unfold bstStop
  refine keeps_ite ?_ ?_
  · assumption
  · extract_lets +onlyGivenNames v1
    clear_value v1
    extract_lets +onlyGivenNames v2
    have hv2 : Keeps s₀ v2 := by
      unfold v2
      with_reducible refine keeps_mk ?_
      assumption
    clear_value v2
    with_reducible apply keeps_State_hvSafe
    with_reducible apply keeps_State_hvFault
    with_reducible apply keeps_State_showBst
    assumption
theorem keeps_bstPhaseLoss {s₀ : State} {s : State} (k : Nat) (ph : Nat) (hk : Keeps s₀ s) :
    Keeps s₀ (bstPhaseLoss k ph s) := by
  unfold bstPhaseLoss
  extract_lets +onlyGivenNames v1
  clear_value v1
  refine keeps_ite ?_ ?_
  · assumption
  · extract_lets +onlyGivenNames v2
    extract_lets +onlyGivenNames v3
    clear_value v3
    extract_lets +onlyGivenNames v4
    have hv4 : Keeps s₀ v4 := by
      unfold v4
      with_reducible refine keeps_mk ?_
      assumption
    clear_value v4
    extract_lets +onlyGivenNames v5
    have hv5 : Keeps s₀ v5 := by
      unfold v5
      with_reducible apply keeps_State_showBst
      assumption
    clear_value v5
    refine keeps_ite ?_ ?_
    · with_reducible apply keeps_State_hvFault
      assumption
    · with_reducible apply keeps_bstStop
      assumption
theorem keeps_railLow {s₀ : State} {s : State} (k : Nat) (hk : Keeps s₀ s) :
    Keeps s₀ (railLow k s) := by
  unfold railLow
  refine keeps_ite ?_ ?_
  · assumption
  · with_reducible apply keeps_State_hvFault
    with_reducible apply keeps_State_inc
    assumption
theorem keeps_deratingUpdate {s₀ : State} {s : State} (tc : Int) (hk : Keeps s₀ s) :
    Keeps s₀ (deratingUpdate tc s) := by
  unfold deratingUpdate
  extract_lets +onlyGivenNames v1
  clear_value v1
  refine keeps_ite ?_ ?_
  · assumption
  · refine keeps_ite ?_ ?_
    · with_reducible refine keeps_mk ?_
      assumption
    · assumption
theorem keeps_State_limitCount {s₀ : State} {s : State} (k : Nat) (hk : Keeps s₀ s) :
    Keeps s₀ (State.limitCount s k) := by
  unfold State.limitCount
  with_reducible apply keeps_State_hvFault
  with_reducible apply keeps_State_inc
  assumption
theorem keeps_limitSense {s₀ : State} {s : State} (iin : List Nat) (hk : Keeps s₀ s) :
    Keeps s₀ (limitSense iin s) := by
  unfold limitSense
  with_reducible apply keeps_State_forN
  · assumption
  · intro u1 u2 h3
    refine keeps_ite ?_ ?_
    · with_reducible apply keeps_State_limitCount
      assumption
    · assumption
theorem keeps_limitUnseen {s₀ : State} {s : State} (hk : Keeps s₀ s) :
    Keeps s₀ (limitUnseen s) := by
  unfold limitUnseen
  with_reducible apply keeps_State_forN
  · assumption
  · intro u1 u2 h3
    refine keeps_ite ?_ ?_
    · split
      · rename_i x4 x5 x6 e7
        have hx8 := keeps_of_eq2 (s₀ := s₀) (by
          with_reducible apply keeps_State_fresh
          assumption
          ) e7
        refine keeps_ite ?_ ?_
        · with_reducible apply keeps_State_limitCount
          assumption
        · assumption
    · assumption
theorem keeps_clearHeld {s₀ : State} {s : State} (hk : Keeps s₀ s) :
    Keeps s₀ (clearHeld s) := by
  unfold clearHeld
  extract_lets +onlyGivenNames v1
  clear_value v1
  extract_lets +onlyGivenNames v2
  have hv2 : Keeps s₀ v2 := by
    unfold v2
    with_reducible refine keeps_mk ?_
    assumption
  clear_value v2
  with_reducible apply keeps_State_showSafe
  with_reducible apply keeps_State_forN
  · with_reducible apply keeps_State_forN
    · assumption
    · intro u3 u4 h5
      with_reducible apply keeps_State_showPhases
      assumption
  · intro u6 u7 h8
    with_reducible apply keeps_State_showBst
    assumption
theorem keeps_vdrvRemoved {s₀ : State} {s : State} (hk : Keeps s₀ s) :
    Keeps s₀ (vdrvRemoved s) := by
  unfold vdrvRemoved
  extract_lets +onlyGivenNames v1
  have hv1 : Keeps s₀ v1 := by
    unfold v1
    with_reducible apply keeps_clearHeld
    with_reducible apply keeps_allOff
    assumption
  clear_value v1
  extract_lets +onlyGivenNames v2
  clear_value v2
  extract_lets +onlyGivenNames v3
  have hv3 : Keeps s₀ v3 := by
    unfold v3
    with_reducible refine keeps_regs ?_ ?_
    · assumption
    · exact fun r => rising_filter _ _ r
  clear_value v3
  with_reducible apply keeps_State_showSafe
  assumption
theorem keeps_vdrvRelease {s₀ : State} {s : State} (hk : Keeps s₀ s) :
    Keeps s₀ (vdrvRelease s) := by
  unfold vdrvRelease
  refine keeps_ite ?_ ?_
  · assumption
  · with_reducible refine keeps_mk ?_
    assumption
theorem keeps_vbusRemoved {s₀ : State} {s : State} (hk : Keeps s₀ s) :
    Keeps s₀ (vbusRemoved s) := by
  unfold vbusRemoved
  extract_lets +onlyGivenNames v1
  clear_value v1
  extract_lets +onlyGivenNames v2
  have hv2 : Keeps s₀ v2 := by
    unfold v2
    with_reducible refine keeps_mk ?_
    assumption
  clear_value v2
  extract_lets +onlyGivenNames v3
  have hv3 : Keeps s₀ v3 := by
    unfold v3
    refine keeps_ite ?_ ?_
    · with_reducible apply keeps_clearHeld
      assumption
    · assumption
  clear_value v3
  with_reducible apply keeps_State_forN
  · assumption
  · intro u4 u5 h6
    with_reducible apply keeps_State_showBst
    assumption
theorem keeps_vbusStart {s₀ : State} {s : State} (hk : Keeps s₀ s) :
    Keeps s₀ (vbusStart s) := by
  unfold vbusStart
  with_reducible apply keeps_State_forN
  · with_reducible refine keeps_mk ?_
    assumption
  · intro u1 u2 h3
    with_reducible apply keeps_State_showBst
    assumption
theorem keeps_dnLinkLost {s₀ : State} {s : State} (hk : Keeps s₀ s) :
    Keeps s₀ (dnLinkLost s) := by
  unfold dnLinkLost
  refine keeps_ite ?_ ?_
  · assumption
  · extract_lets +onlyGivenNames v1
    clear_value v1
    extract_lets +onlyGivenNames v2
    clear_value v2
    extract_lets +onlyGivenNames v3
    have hv3 : Keeps s₀ v3 := by
      unfold v3
      with_reducible refine keeps_mk ?_
      assumption
    clear_value v3
    with_reducible apply keeps_recLost
    refine keeps_ite ?_ ?_
    · with_reducible apply keeps_State_hvSafe
      assumption
    · with_reducible apply keeps_State_hvSafe
      with_reducible apply keeps_State_hvFault
      assumption
theorem keeps_dnSilent {s₀ : State} {s : State} (hk : Keeps s₀ s) :
    Keeps s₀ (dnSilent s) := by
  unfold dnSilent
  extract_lets +onlyGivenNames v1
  have hv1 : Keeps s₀ v1 := by
    unfold v1
    refine keeps_ite ?_ ?_
    · with_reducible apply keeps_State_hvSafe
      assumption
    · assumption
  clear_value v1
  extract_lets +onlyGivenNames v2
  have hv2 : Keeps s₀ v2 := by
    unfold v2
    refine keeps_ite ?_ ?_
    · with_reducible apply keeps_logicCollapse
      assumption
    · assumption
  clear_value v2
  refine keeps_ite ?_ ?_
  · with_reducible apply keeps_dnLinkLost
    assumption
  · assumption
theorem keeps_dnBad {s₀ : State} {s : State} (inj : Bool) (hk : Keeps s₀ s) :
    Keeps s₀ (dnBad inj s) := by
  unfold dnBad
  extract_lets +onlyGivenNames v1
  have hv1 : Keeps s₀ v1 := by
    unfold v1
    with_reducible apply keeps_State_hvFault
    with_reducible apply keeps_State_inc
    assumption
  clear_value v1
  extract_lets +onlyGivenNames v2
  clear_value v2
  extract_lets +onlyGivenNames v3
  clear_value v3
  extract_lets +onlyGivenNames v4
  have hv4 : Keeps s₀ v4 := by
    unfold v4
    with_reducible refine keeps_mk ?_
    assumption
  clear_value v4
  with_reducible apply keeps_dnSilent
  assumption
theorem keeps_dnMissing {s₀ : State} {s : State} (hk : Keeps s₀ s) :
    Keeps s₀ (dnMissing s) := by
  unfold dnMissing
  with_reducible apply keeps_dnSilent
  with_reducible refine keeps_mk ?_
  assumption
theorem keeps_dnAccept {s₀ : State} {s : State} (hk : Keeps s₀ s) :
    Keeps s₀ (dnAccept s) := by
  unfold dnAccept
  extract_lets +onlyGivenNames v1
  clear_value v1
  extract_lets +onlyGivenNames v2
  extract_lets +onlyGivenNames v3
  clear_value v3
  extract_lets +onlyGivenNames v4
  clear_value v4
  extract_lets +onlyGivenNames v5
  clear_value v5
  extract_lets +onlyGivenNames v6
  have hv6 : Keeps s₀ v6 := by
    unfold v6
    with_reducible refine keeps_mk ?_
    assumption
  clear_value v6
  extract_lets +onlyGivenNames v7
  have hv7 : Keeps s₀ v7 := by
    unfold v7
    with_reducible apply keeps_State_setB
    assumption
  clear_value v7
  extract_lets +onlyGivenNames v8
  clear_value v8
  extract_lets +onlyGivenNames v9
  have hv9 : Keeps s₀ v9 := by
    unfold v9
    refine keeps_ite ?_ ?_
    · with_reducible apply keeps_State_hvFault
      with_reducible apply keeps_State_setB
      with_reducible refine keeps_mk ?_
      assumption
    · assumption
  clear_value v9
  with_reducible apply keeps_State_safeNew
  with_reducible apply keeps_chFollow
  assumption
theorem keeps_dnFrame {s₀ : State} {s : State} (crcOk : Bool) (hk : Keeps s₀ s) :
    Keeps s₀ (dnFrame crcOk s) := by
  unfold dnFrame
  refine keeps_ite ?_ ?_
  · assumption
  · extract_lets +onlyGivenNames v1
    clear_value v1
    extract_lets +onlyGivenNames v2
    have hv2 : Keeps s₀ v2 := by
      unfold v2
      with_reducible refine keeps_mk ?_
      assumption
    clear_value v2
    split
    · rename_i x3 x4 x5 e6
      have hx7 := keeps_of_eq (s₀ := s₀) (by
        with_reducible apply keeps_State_injFrame
        assumption
        ) e6
      refine keeps_ite ?_ ?_
      · assumption
      · refine keeps_ite ?_ ?_
        · with_reducible apply keeps_dnAccept
          with_reducible apply keeps_State_event
          assumption
        · refine keeps_ite ?_ ?_
          · with_reducible apply keeps_dnBad
            with_reducible apply keeps_State_event
            assumption
          · assumption
theorem keeps_applySample {s₀ : State} {s : State} (box : Option DnBox) (n : Nat) (hk : Keeps s₀ s) :
    Keeps s₀ (applySample box n s) := by
  unfold applySample
  extract_lets +onlyGivenNames v1
  clear_value v1
  extract_lets +onlyGivenNames v2
  clear_value v2
  split
  · rename_i x3 x4 x5 e6
    extract_lets +onlyGivenNames v7
    clear_value v7
    extract_lets +onlyGivenNames v8
    clear_value v8
    extract_lets +onlyGivenNames v9
    clear_value v9
    with_reducible apply keeps_State_modPc
    assumption
theorem keeps_hvTick {s₀ : State} {s : State} (run : PwrReq → State → State × Nat × Word) (hk : Keeps s₀ s) (h_run : ∀ a0 a1, Keeps s₀ a1 → Keeps s₀ (run a0 a1).1) :
    Keeps s₀ (hvTick run s) := by
  unfold hvTick
  extract_lets +onlyGivenNames v1
  clear_value v1
  extract_lets +onlyGivenNames v2
  clear_value v2
  extract_lets +onlyGivenNames v3
  clear_value v3
  extract_lets +onlyGivenNames v4
  have hv4 : Keeps s₀ v4 := by
    unfold v4
    with_reducible refine keeps_mk ?_
    assumption
  clear_value v4
  extract_lets +onlyGivenNames v5
  have hv5 : Keeps s₀ v5 := by
    unfold v5
    refine keeps_ite ?_ ?_
    · with_reducible apply keeps_dnMissing
      assumption
    · assumption
  clear_value v5
  refine keeps_ite ?_ ?_
  · assumption
  · extract_lets +onlyGivenNames v6
    clear_value v6
    extract_lets +onlyGivenNames v7
    have hv7 : Keeps s₀ v7 := by
      unfold v7
      split
      · rename_i x8 x9
        extract_lets +onlyGivenNames v10
        have hv10 : Keeps s₀ v10 := by
          unfold v10
          with_reducible refine keeps_mk ?_
          assumption
        clear_value v10
        extract_lets +onlyGivenNames v11
        have hv11 : Keeps s₀ v11 := by
          unfold v11
          refine keeps_foldl _ _ ?_ ?_
          · assumption
          · intro u12 u13 h14
            split
            · rename_i x15 x16 x17 x18 e19
              have hx20 := keeps_of_eq (s₀ := s₀) (by
                with_reducible apply h_run
                assumption
                ) e19
              refine keeps_ite ?_ ?_
              · with_reducible refine keeps_mk ?_
                assumption
              · assumption
        clear_value v11
        extract_lets +onlyGivenNames v21
        have hv21 : Keeps s₀ v21 := by
          unfold v21
          with_reducible apply keeps_State_forN
          · with_reducible apply keeps_State_forN
            · assumption
            · intro u22 u23 h24
              refine keeps_ite ?_ ?_
              · with_reducible apply keeps_State_ownStop
                assumption
              · assumption
          · intro u25 u26 h27
            refine keeps_ite ?_ ?_
            · with_reducible apply keeps_State_ownStart
              assumption
            · assumption
        clear_value v21
        with_reducible apply keeps_State_forN
        · assumption
        · intro u28 u29 h30
          with_reducible apply keeps_State_showBst
          assumption
      · rename_i x31
        assumption
    clear_value v7
    extract_lets +onlyGivenNames v32
    have hv32 : Keeps s₀ v32 := by
      unfold v32
      with_reducible apply keeps_State_forN
      · assumption
      · intro u33 u34 h35
        with_reducible apply keeps_applySample
        assumption
    clear_value v32
    extract_lets +onlyGivenNames v36
    have hv36 : Keeps s₀ v36 := by
      unfold v36
      with_reducible apply keeps_State_forN
      · assumption
      · intro u37 u38 h39
        with_reducible apply keeps_muteDue
        with_reducible apply keeps_releaseDue
        assumption
    clear_value v36
    with_reducible apply keeps_swRampTick
    assumption
theorem keeps_upFault {s₀ : State} {s : State} (f : Nat × Nat × Nat) (hk : Keeps s₀ s) :
    Keeps s₀ (upFault s f) := by
  unfold upFault
  extract_lets +onlyGivenNames v1
  extract_lets +onlyGivenNames v2
  have hv2 : Keeps s₀ v2 := by
    unfold v2
    split
    · rename_i x3 e4
      with_reducible apply keeps_State_raise
      assumption
    · rename_i x5 e6
      with_reducible apply keeps_State_raiseActive
      assumption
    · rename_i x7 e8
      with_reducible apply keeps_State_injReport
      with_reducible apply keeps_State_raise
      assumption
    · rename_i x9 x10 x11 x12
      with_reducible apply keeps_State_endActive
      assumption
  clear_value v2
  refine keeps_ite ?_ ?_
  · with_reducible apply keeps_State_loadFault
    assumption
  · assumption
theorem keeps_upLinkLost {s₀ : State} {s : State} (hk : Keeps s₀ s) :
    Keeps s₀ (upLinkLost s) := by
  unfold upLinkLost
  refine keeps_ite ?_ ?_
  · assumption
  · extract_lets +onlyGivenNames v1
    have hv1 : Keeps s₀ v1 := by
      unfold v1
      with_reducible apply keeps_State_raiseActive
      with_reducible apply keeps_State_event
      assumption
    clear_value v1
    with_reducible refine keeps_mk ?_
    assumption
theorem keeps_showSense {s₀ : State} {s : State} (hk : Keeps s₀ s) :
    Keeps s₀ (showSense s) := by
  unfold showSense
  extract_lets +onlyGivenNames v1
  clear_value v1
  with_reducible apply keeps_State_forN
  · assumption
  · intro u2 u3 h4
    extract_lets +onlyGivenNames v5
    have hv5 : Keeps s₀ v5 := by
      unfold v5
      with_reducible apply keeps_State_set
      with_reducible apply keeps_State_set
      with_reducible apply keeps_State_set
      assumption
    clear_value v5
    with_reducible apply keeps_State_showBst
    with_reducible apply keeps_State_set
    assumption
theorem keeps_bstSense {s₀ : State} {s : State} (hk : Keeps s₀ s) :
    Keeps s₀ (bstSense s) := by
  unfold bstSense
  extract_lets +onlyGivenNames v1
  clear_value v1
  extract_lets +onlyGivenNames v2
  clear_value v2
  with_reducible refine keeps_mk ?_
  assumption
theorem keeps_upSense {s₀ : State} {s : State} (x : Option Sense) (hk : Keeps s₀ s) :
    Keeps s₀ (upSense x s) := by
  unfold upSense
  extract_lets +onlyGivenNames v1
  clear_value v1
  extract_lets +onlyGivenNames v2
  have hv2 : Keeps s₀ v2 := by
    unfold v2
    split
    · rename_i x3 x4
      with_reducible refine keeps_mk ?_
      assumption
    · rename_i x5
      assumption
  clear_value v2
  extract_lets +onlyGivenNames v6
  have hv6 : Keeps s₀ v6 := by
    unfold v6
    with_reducible apply keeps_bstSense
    with_reducible apply keeps_showSense
    assumption
  clear_value v6
  split
  · rename_i x7 x8 x9 x10 e11
    split
    · rename_i x12 x13 e14
      with_reducible refine keeps_mk ?_
      assumption
    · rename_i x15 e16
      assumption
  · rename_i x17 x18 x19 e20
    split
    · rename_i x21 x22 e23
      with_reducible refine keeps_mk ?_
      assumption
    · rename_i x24 e25
      assumption
  · rename_i x26 x27 x28 x29 x30
    assumption
theorem keeps_upAccept {s₀ : State} {s : State} (deliver : List (Nat × Word) → State → State) (x : Sense) (hk : Keeps s₀ s) (h_deliver : ∀ a0 a1, Keeps s₀ a1 → Keeps s₀ (deliver a0 a1)) :
    Keeps s₀ (upAccept deliver x s) := by
  unfold upAccept
  extract_lets +onlyGivenNames v1
  clear_value v1
  extract_lets +onlyGivenNames v2
  clear_value v2
  extract_lets +onlyGivenNames v3
  clear_value v3
  extract_lets +onlyGivenNames v4
  have hv4 : Keeps s₀ v4 := by
    unfold v4
    with_reducible refine keeps_mk ?_
    assumption
  clear_value v4
  extract_lets +onlyGivenNames v5
  have hv5 : Keeps s₀ v5 := by
    unfold v5
    with_reducible apply keeps_State_endActive
    assumption
  clear_value v5
  extract_lets +onlyGivenNames v6
  clear_value v6
  extract_lets +onlyGivenNames v7
  have hv7 : Keeps s₀ v7 := by
    unfold v7
    refine keeps_ite ?_ ?_
    · with_reducible refine keeps_mk ?_
      assumption
    · assumption
  clear_value v7
  extract_lets +onlyGivenNames v8
  have hv8 : Keeps s₀ v8 := by
    unfold v8
    with_reducible apply keeps_upSense
    with_reducible apply keeps_State_setWord
    assumption
  clear_value v8
  extract_lets +onlyGivenNames v9
  clear_value v9
  extract_lets +onlyGivenNames v10
  clear_value v10
  extract_lets +onlyGivenNames v11
  clear_value v11
  extract_lets +onlyGivenNames v12
  have hv12 : Keeps s₀ v12 := by
    unfold v12
    with_reducible refine keeps_mk ?_
    assumption
  clear_value v12
  extract_lets +onlyGivenNames v13
  have hv13 : Keeps s₀ v13 := by
    unfold v13
    refine keeps_foldl _ _ ?_ ?_
    · assumption
    · intro u14 u15 h16
      with_reducible apply keeps_upFault
      assumption
  clear_value v13
  with_reducible apply h_deliver
  assumption
theorem keeps_upFrame {s₀ : State} {s : State} (deliver : List (Nat × Word) → State → State) (crcOk : Bool) (x : Sense) (hk : Keeps s₀ s) (h_deliver : ∀ a0 a1, Keeps s₀ a1 → Keeps s₀ (deliver a0 a1)) :
    Keeps s₀ (upFrame deliver crcOk x s) := by
  unfold upFrame
  refine keeps_ite ?_ ?_
  · assumption
  · extract_lets +onlyGivenNames v1
    clear_value v1
    extract_lets +onlyGivenNames v2
    have hv2 : Keeps s₀ v2 := by
      unfold v2
      with_reducible apply keeps_limitSense
      with_reducible apply keeps_State_event
      with_reducible refine keeps_mk ?_
      assumption
    clear_value v2
    split
    · rename_i x3 x4 x5 e6
      have hx7 := keeps_of_eq (s₀ := s₀) (by
        with_reducible apply keeps_State_injFrame
        assumption
        ) e6
      refine keeps_ite ?_ ?_
      · with_reducible apply keeps_upAccept
        · assumption
        · intro u8 u9 h10
          with_reducible apply h_deliver
          assumption
      · extract_lets +onlyGivenNames v11
        have hv11 : Keeps s₀ v11 := by
          unfold v11
          with_reducible apply keeps_State_raise
          with_reducible apply keeps_State_inc
          assumption
        clear_value v11
        extract_lets +onlyGivenNames v12
        have hv12 : Keeps s₀ v12 := by
          unfold v12
          refine keeps_ite ?_ ?_
          · with_reducible apply keeps_State_injReport
            assumption
          · assumption
        clear_value v12
        extract_lets +onlyGivenNames v13
        have hv13 : Keeps s₀ v13 := by
          unfold v13
          with_reducible apply keeps_upSense
          assumption
        clear_value v13
        extract_lets +onlyGivenNames v14
        clear_value v14
        extract_lets +onlyGivenNames v15
        clear_value v15
        extract_lets +onlyGivenNames v16
        have hv16 : Keeps s₀ v16 := by
          unfold v16
          with_reducible refine keeps_mk ?_
          assumption
        clear_value v16
        extract_lets +onlyGivenNames v17
        have hv17 : Keeps s₀ v17 := by
          unfold v17
          refine keeps_ite ?_ ?_
          · with_reducible apply keeps_upLinkLost
            assumption
          · assumption
        clear_value v17
        refine keeps_ite ?_ ?_
        · assumption
        · with_reducible apply h_deliver
          assumption
theorem keeps_upTickEnd {s₀ : State} {s : State} (hk : Keeps s₀ s) :
    Keeps s₀ (upTickEnd s) := by
  unfold upTickEnd
  extract_lets +onlyGivenNames v1
  clear_value v1
  extract_lets +onlyGivenNames v2
  clear_value v2
  extract_lets +onlyGivenNames v3
  have hv3 : Keeps s₀ v3 := by
    unfold v3
    with_reducible refine keeps_mk ?_
    assumption
  clear_value v3
  extract_lets +onlyGivenNames v4
  have hv4 : Keeps s₀ v4 := by
    unfold v4
    refine keeps_ite ?_ ?_
    · assumption
    · with_reducible apply keeps_limitUnseen
      assumption
  clear_value v4
  refine keeps_ite ?_ ?_
  · assumption
  · extract_lets +onlyGivenNames v5
    have hv5 : Keeps s₀ v5 := by
      unfold v5
      with_reducible apply keeps_upSense
      assumption
    clear_value v5
    extract_lets +onlyGivenNames v6
    clear_value v6
    extract_lets +onlyGivenNames v7
    have hv7 : Keeps s₀ v7 := by
      unfold v7
      with_reducible refine keeps_mk ?_
      assumption
    clear_value v7
    refine keeps_ite ?_ ?_
    · with_reducible apply keeps_upLinkLost
      assumption
    · assumption
theorem keeps_safeReqAssert {s₀ : State} {s : State} (hk : Keeps s₀ s) :
    Keeps s₀ (safeReqAssert s) := by
  unfold safeReqAssert
  refine keeps_ite ?_ ?_
  · assumption
  · extract_lets +onlyGivenNames v1
    clear_value v1
    extract_lets +onlyGivenNames v2
    have hv2 : Keeps s₀ v2 := by
      unfold v2
      with_reducible apply keeps_State_setB
      with_reducible refine keeps_mk ?_
      assumption
    clear_value v2
    with_reducible apply keeps_State_hvSafe
    assumption
theorem keeps_safeOff {s₀ : State} {s : State} (n : Nat) (hk : Keeps s₀ s) :
    Keeps s₀ (safeOff n s) := by
  unfold safeOff
  refine keeps_ite ?_ ?_
  · with_reducible apply keeps_State_showSafe
    with_reducible apply keeps_State_modPc
    assumption
  · assumption
theorem keeps_safeSlow {s₀ : State} {s : State} (n : Nat) (hk : Keeps s₀ s) :
    Keeps s₀ (safeSlow n s) := by
  unfold safeSlow
  refine keeps_ite ?_ ?_
  · with_reducible apply keeps_State_hvFault
    with_reducible apply keeps_State_showSafe
    with_reducible apply keeps_State_modPc
    assumption
  · assumption
theorem keeps_linkResync {s₀ : State} {s : State} (hk : Keeps s₀ s) :
    Keeps s₀ (linkResync s) := by
  unfold linkResync
  refine keeps_ite ?_ ?_
  · with_reducible refine keeps_mk ?_
    assumption
  · assumption
theorem keeps_linkPark {s₀ : State} {s : State} (hk : Keeps s₀ s) :
    Keeps s₀ (linkPark s) := by
  unfold linkPark
  refine keeps_ite ?_ ?_
  · assumption
  · extract_lets +onlyGivenNames v1
    clear_value v1
    extract_lets +onlyGivenNames v2
    clear_value v2
    extract_lets +onlyGivenNames v3
    have hv3 : Keeps s₀ v3 := by
      unfold v3
      with_reducible refine keeps_mk ?_
      assumption
    clear_value v3
    extract_lets +onlyGivenNames v4
    clear_value v4
    extract_lets +onlyGivenNames v5
    have hv5 : Keeps s₀ v5 := by
      unfold v5
      refine keeps_ite ?_ ?_
      · with_reducible refine keeps_mk ?_
        assumption
      · assumption
    clear_value v5
    with_reducible apply keeps_State_forN
    · with_reducible apply keeps_allOff
      assumption
    · intro u6 u7 h8
      with_reducible apply keeps_State_showBst
      assumption
theorem keeps_actPwrCntClr {s₀ : State} {s : State} (hk : Keeps s₀ s) :
    Keeps s₀ (actPwrCntClr s) := by
  unfold actPwrCntClr
  extract_lets +onlyGivenNames v1
  have hv1 : Keeps s₀ v1 := by
    unfold v1
    with_reducible apply keeps_State_setWord
    with_reducible apply keeps_State_setWord
    with_reducible apply keeps_State_setWord
    assumption
  clear_value v1
  with_reducible apply keeps_State_forN
  · with_reducible apply keeps_State_forN
    · assumption
    · intro u2 u3 h4
      with_reducible apply keeps_State_setWord
      assumption
  · intro u5 u6 h7
    with_reducible apply keeps_State_setWord
    assumption

end Sys2Proof.Machine
end

