-- ==== Sys2Proof/Laws/KeepsAudio.lean ====
section
/-! SUPPORT. One lemma for each operation that changes the state: it keeps the queue and the canonical form. The converters, outputs, ring data path, protection models and diagnostics. -/
namespace Sys2Proof.Machine
open Sys2Proof

theorem keeps_State_cntBy {s₀ : State} {s : State} (m : Nat) (i : Nat) (k : Nat) (hk : Keeps s₀ s) :
    Keeps s₀ (State.cntBy s m i k) := by
  unfold State.cntBy
  extract_lets +onlyGivenNames v1
  clear_value v1
  extract_lets +onlyGivenNames v2
  clear_value v2
  extract_lets +onlyGivenNames v3
  have hv3 : Keeps s₀ v3 := by
    unfold v3
    with_reducible apply keeps_State_set
    assumption
  clear_value v3
  refine keeps_ite ?_ ?_
  · extract_lets +onlyGivenNames v4
    have hv4 : Keeps s₀ v4 := by
      unfold v4
      refine keeps_ite ?_ ?_
      · with_reducible apply keeps_State_setWord
        assumption
      · with_reducible apply keeps_State_setWord
        assumption
    clear_value v4
    refine keeps_ite ?_ ?_
    · with_reducible apply keeps_State_int
      assumption
    · assumption
  · assumption
theorem keeps_State_cnt {s₀ : State} {s : State} (m : Nat) (i : Nat) (hk : Keeps s₀ s) :
    Keeps s₀ (State.cnt s m i) := by
  unfold State.cnt
  with_reducible apply keeps_State_cntBy
  assumption
theorem keeps_State_addWire {s₀ : State} {s : State} (m : Nat) (rx : Nat) (tx : Nat) (hk : Keeps s₀ s) :
    Keeps s₀ (State.addWire s m rx tx) := by
  unfold State.addWire
  with_reducible refine keeps_mk ?_
  assumption
theorem keeps_State_lineErrors {s₀ : State} {s : State} (m : Nat) (hk : Keeps s₀ s) :
    Keeps s₀ (State.lineErrors s m) := by
  unfold State.lineErrors
  split
  · rename_i x1 x2 x3 e4
    have hx5 := keeps_of_eq2 (s₀ := s₀) (by
      with_reducible apply keeps_State_fresh
      assumption
      ) e4
    extract_lets +onlyGivenNames v6
    clear_value v6
    extract_lets +onlyGivenNames v7
    have hv7 : Keeps s₀ v7 := by
      unfold v7
      refine keeps_ite ?_ ?_
      · with_reducible apply keeps_State_cnt
        assumption
      · assumption
    clear_value v7
    refine keeps_ite ?_ ?_
    · with_reducible apply keeps_State_cnt
      assumption
    · assumption
theorem keeps_State_rxCount {s₀ : State} {s : State} (m : Nat) (f : List Byte) (hk : Keeps s₀ s) :
    Keeps s₀ (State.rxCount s m f) := by
  unfold State.rxCount
  extract_lets +onlyGivenNames v1
  clear_value v1
  extract_lets +onlyGivenNames v2
  clear_value v2
  extract_lets +onlyGivenNames v3
  have hv3 : Keeps s₀ v3 := by
    unfold v3
    with_reducible apply keeps_State_addWire
    assumption
  clear_value v3
  extract_lets +onlyGivenNames v4
  have hv4 : Keeps s₀ v4 := by
    unfold v4
    with_reducible apply keeps_State_cntBy
    assumption
  clear_value v4
  extract_lets +onlyGivenNames v5
  have hv5 : Keeps s₀ v5 := by
    unfold v5
    refine keeps_ite ?_ ?_
    · with_reducible apply keeps_State_cnt
      assumption
    · refine keeps_ite ?_ ?_
      · with_reducible apply keeps_State_lineErrors
        assumption
      · assumption
  clear_value v5
  refine keeps_ite ?_ ?_
  · with_reducible apply keeps_State_cnt
    assumption
  · refine keeps_ite ?_ ?_
    · with_reducible apply keeps_State_cnt
      assumption
    · refine keeps_ite ?_ ?_
      · with_reducible apply keeps_State_cnt
        assumption
      · extract_lets +onlyGivenNames v6
        have hv6 : Keeps s₀ v6 := by
          unfold v6
          with_reducible apply keeps_State_cnt
          with_reducible apply keeps_State_cnt
          assumption
        clear_value v6
        extract_lets +onlyGivenNames v7
        have hv7 : Keeps s₀ v7 := by
          unfold v7
          split
          · rename_i x8 x9 e10
            with_reducible apply keeps_State_cnt
            assumption
          · rename_i x11 e12
            assumption
        clear_value v7
        refine keeps_ite ?_ ?_
        · with_reducible apply keeps_State_cnt
          assumption
        · assumption
theorem keeps_State_txCount {s₀ : State} {s : State} (m : Nat) (f : List Byte) (hk : Keeps s₀ s) :
    Keeps s₀ (State.txCount s m f) := by
  unfold State.txCount
  extract_lets +onlyGivenNames v1
  have hv1 : Keeps s₀ v1 := by
    unfold v1
    with_reducible apply keeps_State_cntBy
    with_reducible apply keeps_State_addWire
    assumption
  clear_value v1
  extract_lets +onlyGivenNames v2
  have hv2 : Keeps s₀ v2 := by
    unfold v2
    with_reducible apply keeps_State_cnt
    with_reducible apply keeps_State_cnt
    with_reducible apply keeps_State_cnt
    assumption
  clear_value v2
  split
  · rename_i x3 x4 e5
    with_reducible apply keeps_State_cnt
    assumption
  · rename_i x6 e7
    assumption
theorem keeps_State_sendOn {s₀ : State} {s : State} (p : Nat) (f : List Byte) (hk : Keeps s₀ s) :
    Keeps s₀ (State.sendOn s p f) := by
  unfold State.sendOn
  refine keeps_ite ?_ ?_
  · refine keeps_ite ?_ ?_
    · assumption
    · with_reducible apply keeps_State_cnt
      assumption
  · refine keeps_ite ?_ ?_
    · with_reducible refine keeps_mk ?_
      assumption
    · extract_lets +onlyGivenNames v1
      have hv1 : Keeps s₀ v1 := by
        unfold v1
        refine keeps_ite ?_ ?_
        · with_reducible apply keeps_State_setB
          assumption
        · assumption
      clear_value v1
      with_reducible apply keeps_State_txCount
      with_reducible apply keeps_State_emit
      assumption
theorem keeps_State_flushHeld {s₀ : State} {s : State} (p : Nat) (hk : Keeps s₀ s) :
    Keeps s₀ (State.flushHeld s p) := by
  unfold State.flushHeld
  extract_lets +onlyGivenNames v1
  clear_value v1
  extract_lets +onlyGivenNames v2
  clear_value v2
  extract_lets +onlyGivenNames v3
  have hv3 : Keeps s₀ v3 := by
    unfold v3
    with_reducible refine keeps_mk ?_
    assumption
  clear_value v3
  refine keeps_foldl _ _ ?_ ?_
  · assumption
  · intro u4 u5 h6
    with_reducible apply keeps_State_sendOn
    assumption
theorem keeps_State_sendAudio {s₀ : State} {s : State} (dir : Nat) (f : List Byte) (bad : Bool) (hk : Keeps s₀ s) :
    Keeps s₀ (State.sendAudio s dir f bad) := by
  unfold State.sendAudio
  extract_lets +onlyGivenNames v1
  clear_value v1
  refine keeps_ite ?_ ?_
  · assumption
  · split
    · rename_i x2 x3 x4 e5
      have hx6 := keeps_of_eq (s₀ := s₀) (by
        with_reducible apply keeps_State_injFrame
        assumption
        ) e5
      with_reducible apply keeps_State_sendOn
      assumption
theorem keeps_State_passSends {s₀ : State} {s : State} (p : Plan) (dir : Nat) (k : Nat) (f : List Byte) (hk : Keeps s₀ s) :
    Keeps s₀ (State.passSends s p dir k f).1 := by
  unfold State.passSends
  extract_lets +onlyGivenNames v1
  clear_value v1
  split
  · rename_i x2 x3
    refine keeps_pair ?_
    assumption
  · rename_i x4 x5 x6 x7 e8
    refine keeps_pair ?_
    assumption
  · rename_i x9 x10 x11 x12 x13 e14
    extract_lets +onlyGivenNames v15
    clear_value v15
    extract_lets +onlyGivenNames v16
    clear_value v16
    extract_lets +onlyGivenNames v17
    clear_value v17
    extract_lets +onlyGivenNames v18
    clear_value v18
    extract_lets +onlyGivenNames v19
    have hv19 : Keeps s₀ v19 := by
      unfold v19
      refine keeps_ite ?_ ?_
      · assumption
      · with_reducible apply keeps_State_int
        with_reducible apply keeps_State_incBy
        assumption
    clear_value v19
    extract_lets +onlyGivenNames v20
    clear_value v20
    extract_lets +onlyGivenNames v21
    have hv21 : ∀ a1 a2, Keeps s₀ a1 → Keeps s₀ (v21 a1 a2) := by
      unfold v21
      intro u22 u23 h24
      with_reducible refine keeps_mk ?_
      assumption
    clear_value v21
    refine keeps_ite1 ?_ ?_
    · extract_lets +onlyGivenNames v25
      have hv25 : Keeps s₀ v25 := by
        unfold v25
        with_reducible apply hv21
        assumption
      clear_value v25
      extract_lets +onlyGivenNames v26
      clear_value v26
      extract_lets +onlyGivenNames v27
      clear_value v27
      extract_lets +onlyGivenNames v28
      have hv28 : Keeps s₀ v28 := by
        unfold v28
        with_reducible refine keeps_mk ?_
        assumption
      clear_value v28
      refine keeps_pair ?_
      assumption
    · refine keeps_ite1 ?_ ?_
      · refine keeps_pair ?_
        assumption
      · refine keeps_pair ?_
        with_reducible apply hv21
        assumption
theorem keeps_State_laneInc {s₀ : State} {s : State} (lane : Nat) (which : Nat) (hk : Keeps s₀ s) :
    Keeps s₀ (State.laneInc s lane which) := by
  unfold State.laneInc
  extract_lets +onlyGivenNames v1
  clear_value v1
  extract_lets +onlyGivenNames v2
  clear_value v2
  with_reducible refine keeps_mk ?_
  assumption
theorem keeps_State_lateSample {s₀ : State} {s : State} (lane : Nat) (hk : Keeps s₀ s) :
    Keeps s₀ (State.lateSample s lane) := by
  unfold State.lateSample
  with_reducible apply keeps_State_laneInc
  with_reducible apply keeps_State_int
  with_reducible apply keeps_State_inc
  assumption
theorem keeps_State_storeEntry {s₀ : State} {s : State} (lane : Nat) (p : Nat) (sample : Nat) (hk : Keeps s₀ s) :
    Keeps s₀ (State.storeEntry s lane p sample) := by
  unfold State.storeEntry
  extract_lets +onlyGivenNames v1
  clear_value v1
  extract_lets +onlyGivenNames v2
  clear_value v2
  refine keeps_ite ?_ ?_
  · with_reducible apply keeps_State_lateSample
    assumption
  · with_reducible apply keeps_State_sramWrite
    assumption
theorem keeps_State_modLane {s₀ : State} {s : State} (lane : Nat) (f : Lane → Lane) (hk : Keeps s₀ s) :
    Keeps s₀ (State.modLane s lane f) := by
  unfold State.modLane
  with_reducible refine keeps_mk ?_
  assumption
theorem keeps_State_takeSlot {s₀ : State} {s : State} (p : Plan) (l : Lane) (dir : Nat) (sseq : Nat) (pres : Nat) (sample : Nat → Nat) (hk : Keeps s₀ s) :
    Keeps s₀ (State.takeSlot s p l dir sseq pres sample) := by
  unfold State.takeSlot
  extract_lets +onlyGivenNames v1
  clear_value v1
  extract_lets +onlyGivenNames v2
  clear_value v2
  refine keeps_ite ?_ ?_
  · assumption
  · extract_lets +onlyGivenNames v3
    clear_value v3
    extract_lets +onlyGivenNames v4
    clear_value v4
    refine keeps_ite ?_ ?_
    · assumption
    · extract_lets +onlyGivenNames v5
      clear_value v5
      extract_lets +onlyGivenNames v6
      clear_value v6
      extract_lets +onlyGivenNames v7
      clear_value v7
      extract_lets +onlyGivenNames v8
      have hv8 : Keeps s₀ v8 := by
        unfold v8
        with_reducible apply keeps_State_modLane
        assumption
      clear_value v8
      refine keeps_ite ?_ ?_
      · assumption
      · with_reducible apply keeps_State_forN
        · assumption
        · intro u9 u10 h11
          refine keeps_ite ?_ ?_
          · with_reducible apply keeps_State_inc
            assumption
          · refine keeps_ite ?_ ?_
            · with_reducible apply keeps_State_lateSample
              assumption
            · with_reducible apply keeps_State_storeEntry
              assumption
theorem keeps_State_tapFrame {s₀ : State} {s : State} (p : Plan) (dir : Nat) (k : Nat) (f : List Byte) (hk : Keeps s₀ s) :
    Keeps s₀ (State.tapFrame s p dir k f) := by
  unfold State.tapFrame
  refine keeps_ite ?_ ?_
  · assumption
  · extract_lets +onlyGivenNames v1
    clear_value v1
    refine keeps_foldl _ _ ?_ ?_
    · assumption
    · intro u2 u3 h4
      split
      · rename_i x5 x6 e7
        refine keeps_ite ?_ ?_
        · with_reducible apply keeps_State_takeSlot
          assumption
        · assumption
      · rename_i x8 e9
        assumption
theorem keeps_audioFrame {s₀ : State} {s : State} (portB : Bool) (f : List Byte) (hk : Keeps s₀ s) :
    Keeps s₀ (audioFrame portB f s) := by
  unfold audioFrame
  extract_lets +onlyGivenNames v1
  clear_value v1
  refine keeps_ite ?_ ?_
  · assumption
  · extract_lets +onlyGivenNames v2
    have hv2 : Keeps s₀ v2 := by
      unfold v2
      with_reducible apply keeps_State_rxCount
      with_reducible apply keeps_State_event
      assumption
    clear_value v2
    split
    · rename_i x3 e4
      refine keeps_ite ?_ ?_
      · with_reducible apply keeps_State_inc
        assumption
      · assumption
    · rename_i x5 x6 e7
      refine keeps_ite ?_ ?_
      · assumption
      · extract_lets +onlyGivenNames v8
        clear_value v8
        extract_lets +onlyGivenNames v9
        clear_value v9
        refine keeps_ite ?_ ?_
        · with_reducible apply keeps_State_inc
          assumption
        · extract_lets +onlyGivenNames v10
          clear_value v10
          extract_lets +onlyGivenNames v11
          clear_value v11
          extract_lets +onlyGivenNames v12
          clear_value v12
          extract_lets +onlyGivenNames v13
          extract_lets +onlyGivenNames v14
          clear_value v14
          extract_lets +onlyGivenNames v15
          clear_value v15
          extract_lets +onlyGivenNames v16
          extract_lets +onlyGivenNames v17
          clear_value v17
          extract_lets +onlyGivenNames v18
          have hv18 : Keeps s₀ v18 := by
            unfold v18
            with_reducible refine keeps_mk ?_
            assumption
          clear_value v18
          extract_lets +onlyGivenNames v19
          have hv19 : Keeps s₀ v19 := by
            unfold v19
            refine keeps_ite ?_ ?_
            · assumption
            · with_reducible apply keeps_State_raise
              with_reducible apply keeps_State_int
              with_reducible apply keeps_State_inc
              assumption
          clear_value v19
          extract_lets +onlyGivenNames v20
          clear_value v20
          extract_lets +onlyGivenNames v21
          have hv21 : Keeps s₀ v21 := by
            unfold v21
            refine keeps_ite ?_ ?_
            · with_reducible refine keeps_mk ?_
              assumption
            · assumption
          clear_value v21
          extract_lets +onlyGivenNames v22
          have hv22 : Keeps s₀ v22 := by
            unfold v22
            refine keeps_ite ?_ ?_
            · refine keeps_ite ?_ ?_
              · with_reducible apply keeps_State_tapFrame
                assumption
              · assumption
            · with_reducible apply keeps_State_inc
              assumption
          clear_value v22
          refine keeps_ite ?_ ?_
          · extract_lets +onlyGivenNames v23
            clear_value v23
            extract_lets +onlyGivenNames v24
            clear_value v24
            refine keeps_ite ?_ ?_
            · with_reducible refine keeps_mk ?_
              assumption
            · assumption
          · refine keeps_ite ?_ ?_
            · assumption
            · extract_lets +onlyGivenNames v25
              clear_value v25
              extract_lets +onlyGivenNames v26
              clear_value v26
              split
              · rename_i x27 x28 x29 e30
                have hx31 := keeps_of_eq (s₀ := s₀) (by
                  refine keeps_ite1 ?_ ?_
                  · with_reducible apply keeps_State_passSends
                    assumption
                  · refine keeps_pair ?_
                    assumption
                  ) e30
                with_reducible apply keeps_State_sendAudio
                assumption
theorem keeps_headLaunch {s₀ : State} {s : State} (dir : Nat) (k : Nat) (hk : Keeps s₀ s) :
    Keeps s₀ (headLaunch dir k s) := by
  unfold headLaunch
  split
  · rename_i x1 e2
    assumption
  · rename_i x3 x4 e5
    extract_lets +onlyGivenNames v6
    clear_value v6
    extract_lets +onlyGivenNames v7
    clear_value v7
    refine keeps_ite ?_ ?_
    · assumption
    · extract_lets +onlyGivenNames v8
      clear_value v8
      extract_lets +onlyGivenNames v9
      clear_value v9
      split
      · rename_i x10 x11 x12 e13
        extract_lets +onlyGivenNames v14
        have hv14 : Keeps s₀ v14 := by
          unfold v14
          with_reducible apply keeps_State_incBy
          assumption
        clear_value v14
        extract_lets +onlyGivenNames v15
        clear_value v15
        extract_lets +onlyGivenNames v16
        clear_value v16
        extract_lets +onlyGivenNames v17
        have hv17 : Keeps s₀ v17 := by
          unfold v17
          with_reducible refine keeps_mk ?_
          assumption
        clear_value v17
        extract_lets +onlyGivenNames v18
        clear_value v18
        split
        · rename_i x19 x20 x21 e22
          have hx23 := keeps_of_eq (s₀ := s₀) (by
            with_reducible apply keeps_State_passSends
            assumption
            ) e22
          with_reducible apply keeps_State_sendAudio
          assumption
theorem keeps_frameGenerate {s₀ : State} {s : State} (dir : Nat) (k : Nat) (hk : Keeps s₀ s) :
    Keeps s₀ (frameGenerate dir k s) := by
  unfold frameGenerate
  split
  · rename_i x1 e2
    assumption
  · rename_i x3 x4 e5
    extract_lets +onlyGivenNames v6
    clear_value v6
    extract_lets +onlyGivenNames v7
    clear_value v7
    extract_lets +onlyGivenNames v8
    clear_value v8
    refine keeps_ite ?_ ?_
    · assumption
    · extract_lets +onlyGivenNames v9
      clear_value v9
      extract_lets +onlyGivenNames v10
      clear_value v10
      extract_lets +onlyGivenNames v11
      have hv11 : Keeps s₀ v11 := by
        unfold v11
        with_reducible refine keeps_mk ?_
        assumption
      clear_value v11
      extract_lets +onlyGivenNames v12
      clear_value v12
      split
      · rename_i x13 x14 x15 e16
        have hx17 := keeps_of_eq (s₀ := s₀) (by
          with_reducible apply keeps_State_passSends
          assumption
          ) e16
        extract_lets +onlyGivenNames v18
        have hv18 : Keeps s₀ v18 := by
          unfold v18
          with_reducible apply keeps_State_int
          with_reducible apply keeps_State_inc
          assumption
        clear_value v18
        with_reducible apply keeps_State_sendAudio
        assumption
theorem keeps_showBound {s₀ : State} {s : State} (hk : Keeps s₀ s) :
    Keeps s₀ (showBound s) := by
  unfold showBound
  split
  · rename_i x1 e2
    assumption
  · rename_i x3 x4 e5
    extract_lets +onlyGivenNames v6
    clear_value v6
    extract_lets +onlyGivenNames v7
    clear_value v7
    extract_lets +onlyGivenNames v8
    clear_value v8
    extract_lets +onlyGivenNames v9
    clear_value v9
    split
    · rename_i x10 x11 x12 e13
      have hx14 := keeps_of_eq2 (s₀ := s₀) (by
        with_reducible apply keeps_State_fresh
        assumption
        ) e13
      extract_lets +onlyGivenNames v15
      clear_value v15
      extract_lets +onlyGivenNames v16
      clear_value v16
      extract_lets +onlyGivenNames v17
      clear_value v17
      extract_lets +onlyGivenNames v18
      clear_value v18
      with_reducible apply keeps_State_setWord
      assumption
theorem keeps_sendConflicts {s₀ : State} {s : State} (hk : Keeps s₀ s) :
    Keeps s₀ (sendConflicts s) := by
  unfold sendConflicts
  extract_lets +onlyGivenNames v1
  clear_value v1
  extract_lets +onlyGivenNames v2
  clear_value v2
  extract_lets +onlyGivenNames v3
  clear_value v3
  extract_lets +onlyGivenNames v4
  have hv4 : Keeps s₀ v4 := by
    unfold v4
    with_reducible refine keeps_mk ?_
    assumption
  clear_value v4
  split
  · rename_i x5
    assumption
  · rename_i x6 x7 x8
    with_reducible apply keeps_State_raise
    with_reducible apply keeps_State_int
    assumption
theorem keeps_rdpShow {s₀ : State} {s : State} (hk : Keeps s₀ s) :
    Keeps s₀ (rdpShow s) := by
  unfold rdpShow
  extract_lets +onlyGivenNames v1
  have hv1 : Keeps s₀ v1 := by
    unfold v1
    split
    · rename_i x2 x3 e4
      extract_lets +onlyGivenNames v5
      have hv5 : Keeps s₀ v5 := by
        unfold v5
        with_reducible apply keeps_State_set
        with_reducible apply keeps_State_setB
        with_reducible apply keeps_State_setB
        assumption
      clear_value v5
      extract_lets +onlyGivenNames v6
      have hv6 : Keeps s₀ v6 := by
        unfold v6
        with_reducible apply keeps_State_set
        with_reducible apply keeps_State_set
        with_reducible apply keeps_State_set
        assumption
      clear_value v6
      with_reducible apply keeps_showBound
      with_reducible apply keeps_State_set
      assumption
    · rename_i x7 e8
      assumption
  clear_value v1
  extract_lets +onlyGivenNames v9
  have hv9 : Keeps s₀ v9 := by
    unfold v9
    refine keeps_foldl _ _ ?_ ?_
    · assumption
    · intro u10 u11 h12
      with_reducible apply keeps_State_setWord
      assumption
  clear_value v9
  refine keeps_foldl _ _ ?_ ?_
  · assumption
  · intro u13 u14 h15
    with_reducible apply keeps_State_setWord
    assumption
theorem keeps_rdpCycleShow {s₀ : State} {s : State} (hk : Keeps s₀ s) :
    Keeps s₀ (rdpCycleShow s) := by
  unfold rdpCycleShow
  extract_lets +onlyGivenNames v1
  clear_value v1
  extract_lets +onlyGivenNames v2
  clear_value v2
  extract_lets +onlyGivenNames v3
  clear_value v3
  extract_lets +onlyGivenNames v4
  have hv4 : Keeps s₀ v4 := by
    unfold v4
    with_reducible apply keeps_State_setB
    with_reducible apply keeps_State_setB
    with_reducible apply keeps_State_setB
    with_reducible apply keeps_State_setB
    assumption
  clear_value v4
  extract_lets +onlyGivenNames v5
  clear_value v5
  extract_lets +onlyGivenNames v6
  have hv6 : Keeps s₀ v6 := by
    unfold v6
    with_reducible refine keeps_mk ?_
    assumption
  clear_value v6
  extract_lets +onlyGivenNames v7
  have hv7 : Keeps s₀ v7 := by
    unfold v7
    refine keeps_foldl _ _ ?_ ?_
    · assumption
    · intro u8 u9 h10
      with_reducible apply keeps_State_setB
      assumption
  clear_value v7
  extract_lets +onlyGivenNames v11
  have hv11 : Keeps s₀ v11 := by
    unfold v11
    refine keeps_foldl _ _ ?_ ?_
    · assumption
    · intro u12 u13 h14
      refine keeps_ite ?_ ?_
      · assumption
      · with_reducible apply keeps_State_setWord
        with_reducible apply keeps_State_setB
        with_reducible apply keeps_State_setB
        assumption
  clear_value v11
  extract_lets +onlyGivenNames v15
  clear_value v15
  split
  · rename_i x16
    with_reducible apply keeps_State_setWord
    assumption
  · rename_i x17 x18 x19
    extract_lets +onlyGivenNames v20
    clear_value v20
    with_reducible apply keeps_State_setWord
    assumption
theorem keeps_rdpPlace {s₀ : State} {s : State} (im : Image) (hk : Keeps s₀ s) :
    Keeps s₀ (rdpPlace im s) := by
  unfold rdpPlace
  extract_lets +onlyGivenNames v1
  clear_value v1
  extract_lets +onlyGivenNames v2
  clear_value v2
  extract_lets +onlyGivenNames v3
  have hv3 : Keeps s₀ v3 := by
    unfold v3
    with_reducible apply keeps_State_forN
    · with_reducible apply keeps_State_forN
      · assumption
      · intro u4 u5 h6
        with_reducible apply keeps_State_setWord
        with_reducible apply keeps_State_setWord
        assumption
    · intro u7 u8 h9
      with_reducible apply keeps_State_setWord
      assumption
  clear_value v3
  with_reducible apply keeps_rdpShow
  with_reducible refine keeps_mk ?_
  assumption
theorem keeps_rdpUnplace {s₀ : State} {s : State} (hk : Keeps s₀ s) :
    Keeps s₀ (rdpUnplace s) := by
  unfold rdpUnplace
  extract_lets +onlyGivenNames v1
  have hv1 : Keeps s₀ v1 := by
    unfold v1
    with_reducible apply keeps_State_forN
    · with_reducible apply keeps_State_forN
      · assumption
      · intro u2 u3 h4
        with_reducible apply keeps_State_setWord
        with_reducible apply keeps_State_setWord
        assumption
    · intro u5 u6 h7
      with_reducible apply keeps_State_setWord
      assumption
  clear_value v1
  with_reducible apply keeps_rdpShow
  with_reducible refine keeps_mk ?_
  assumption
theorem keeps_rdpActivate {s₀ : State} {s : State} (hk : Keeps s₀ s) :
    Keeps s₀ (rdpActivate s) := by
  unfold rdpActivate
  with_reducible apply keeps_rdpShow
  with_reducible apply keeps_sendConflicts
  with_reducible refine keeps_mk ?_
  assumption
theorem keeps_actAgeClr {s₀ : State} {s : State} (hk : Keeps s₀ s) :
    Keeps s₀ (actAgeClr s) := by
  unfold actAgeClr
  extract_lets +onlyGivenNames v1
  clear_value v1
  extract_lets +onlyGivenNames v2
  have hv2 : Keeps s₀ v2 := by
    unfold v2
    with_reducible refine keeps_mk ?_
    assumption
  clear_value v2
  refine keeps_foldl _ _ ?_ ?_
  · assumption
  · intro u3 u4 h5
    with_reducible apply keeps_State_setWord
    assumption
theorem keeps_actRingCntClr {s₀ : State} {s : State} (hk : Keeps s₀ s) :
    Keeps s₀ (actRingCntClr s) := by
  unfold actRingCntClr
  extract_lets +onlyGivenNames v1
  have hv1 : Keeps s₀ v1 := by
    unfold v1
    refine keeps_foldl _ _ ?_ ?_
    · assumption
    · intro u2 u3 h4
      with_reducible apply keeps_State_setWord
      assumption
  clear_value v1
  with_reducible refine keeps_mk ?_
  assumption
theorem keeps_State_gatherLane {s₀ : State} {s : State} (l : Lane) (hk : Keeps s₀ s) :
    Keeps s₀ (State.gatherLane s l).1 := by
  unfold State.gatherLane
  extract_lets +onlyGivenNames v1
  clear_value v1
  extract_lets +onlyGivenNames v2
  clear_value v2
  extract_lets +onlyGivenNames v3
  clear_value v3
  extract_lets +onlyGivenNames v4
  clear_value v4
  split
  · rename_i x5 x6 x7 e8
    have hx9 := keeps_of_eq (s₀ := s₀) (by
      with_reducible apply keeps_State_eccRead
      assumption
      ) e8
    extract_lets +onlyGivenNames v10
    have hv10 : Keeps s₀ v10 := by
      unfold v10
      refine keeps_ite ?_ ?_
      · assumption
      · with_reducible apply keeps_State_sramWrite
        assumption
    clear_value v10
    extract_lets +onlyGivenNames v11
    have hv11 : Keeps s₀ v11 := by
      unfold v11
      refine keeps_ite ?_ ?_
      · with_reducible apply keeps_State_lateSample
        assumption
      · assumption
    clear_value v11
    extract_lets +onlyGivenNames v12
    clear_value v12
    extract_lets +onlyGivenNames v13
    have hv13 : Keeps s₀ v13 := by
      unfold v13
      refine keeps_ite ?_ ?_
      · with_reducible apply keeps_State_laneInc
        assumption
      · assumption
    clear_value v13
    extract_lets +onlyGivenNames v14
    have hv14 : Keeps s₀ v14 := by
      unfold v14
      with_reducible apply keeps_State_modLane
      assumption
    clear_value v14
    refine keeps_pair ?_
    with_reducible apply keeps_State_setB
    assumption
theorem keeps_rdpClassify {s₀ : State} {s : State} (hk : Keeps s₀ s) :
    Keeps s₀ (rdpClassify s) := by
  unfold rdpClassify
  extract_lets +onlyGivenNames v1
  clear_value v1
  extract_lets +onlyGivenNames v2
  have hv2 : Keeps s₀ v2 := by
    unfold v2
    refine keeps_foldl _ _ ?_ ?_
    · assumption
    · intro u3 u4 h5
      extract_lets +onlyGivenNames v6
      clear_value v6
      refine keeps_ite ?_ ?_
      · with_reducible refine keeps_mk ?_
        assumption
      · assumption
  clear_value v2
  split
  · rename_i x7 x8 x9 x10 e11 e12
    extract_lets +onlyGivenNames v13
    clear_value v13
    extract_lets +onlyGivenNames v14
    clear_value v14
    refine keeps_ite ?_ ?_
    · assumption
    · extract_lets +onlyGivenNames v15
      clear_value v15
      refine keeps_ite ?_ ?_
      · assumption
      · extract_lets +onlyGivenNames v16
        clear_value v16
        extract_lets +onlyGivenNames v17
        have hv17 : Keeps s₀ v17 := by
          unfold v17
          refine keeps_foldl _ _ ?_ ?_
          · assumption
          · intro u18 u19 h20
            refine keeps_ite ?_ ?_
            · assumption
            · refine keeps_ite ?_ ?_
              · with_reducible apply keeps_State_laneInc
                with_reducible apply keeps_State_int
                with_reducible apply keeps_State_inc
                assumption
              · with_reducible apply keeps_State_raise
                with_reducible apply keeps_State_laneInc
                with_reducible apply keeps_State_int
                with_reducible apply keeps_State_inc
                assumption
        clear_value v17
        split
        · rename_i x21 e22
          assumption
        · rename_i x23 x24 x25 e26
          with_reducible apply keeps_State_raise
          assumption
  · rename_i x27 x28 x29
    assumption
theorem keeps_rdpTail {s₀ : State} {s : State} (v : Nat → Option Nat) (hk : Keeps s₀ s) :
    Keeps s₀ (rdpTail v s) := by
  unfold rdpTail
  extract_lets +onlyGivenNames v1
  clear_value v1
  extract_lets +onlyGivenNames v2
  clear_value v2
  refine keeps_foldl _ _ ?_ ?_
  · assumption
  · intro u3 u4 h5
    extract_lets +onlyGivenNames v6
    clear_value v6
    extract_lets +onlyGivenNames v7
    have hv7 : Keeps s₀ v7 := by
      unfold v7
      with_reducible apply keeps_State_sramWrite
      assumption
    clear_value v7
    split
    · rename_i x8 x9 x10 x11 x12 x13 e14 e15
      refine keeps_ite ?_ ?_
      · assumption
      · with_reducible apply keeps_State_storeEntry
        assumption
    · rename_i x16 x17 x18 x19 x20
      assumption
theorem keeps_State_modBc {s₀ : State} {s : State} (n : Nat) (f : BstCh → BstCh) (hk : Keeps s₀ s) :
    Keeps s₀ (State.modBc s n f) := by
  unfold State.modBc
  with_reducible refine keeps_mk ?_
  assumption
theorem keeps_fallbackStep {s₀ : State} {s : State} (n : Nat) (hk : Keeps s₀ s) :
    Keeps s₀ (fallbackStep s n) := by
  unfold fallbackStep
  extract_lets +onlyGivenNames v1
  clear_value v1
  extract_lets +onlyGivenNames v2
  clear_value v2
  extract_lets +onlyGivenNames v3
  clear_value v3
  extract_lets +onlyGivenNames v4
  clear_value v4
  refine keeps_ite ?_ ?_
  · with_reducible apply keeps_State_modBc
    assumption
  · refine keeps_ite ?_ ?_
    · with_reducible apply keeps_State_modBc
      assumption
    · refine keeps_ite ?_ ?_
      · extract_lets +onlyGivenNames v5
        have hv5 : Keeps s₀ v5 := by
          unfold v5
          with_reducible apply keeps_State_inc
          with_reducible apply keeps_State_modBc
          assumption
        clear_value v5
        extract_lets +onlyGivenNames v6
        have hv6 : Keeps s₀ v6 := by
          unfold v6
          refine keeps_ite ?_ ?_
          · assumption
          · with_reducible apply keeps_State_int
            assumption
        clear_value v6
        with_reducible apply keeps_State_raise
        with_reducible apply keeps_State_setB
        assumption
      · assumption
theorem keeps_showFallback {s₀ : State} {s : State} (hk : Keeps s₀ s) :
    Keeps s₀ (showFallback s) := by
  unfold showFallback
  with_reducible apply keeps_State_forN
  · assumption
  · intro u1 u2 h3
    with_reducible apply keeps_State_setB
    assumption
theorem keeps_bstHead {s₀ : State} {s : State} (gathered : Nat → Option F32) (hk : Keeps s₀ s) :
    Keeps s₀ (bstHead gathered s) := by
  unfold bstHead
  extract_lets +onlyGivenNames v1
  have hv1 : Keeps s₀ v1 := by
    unfold v1
    with_reducible apply keeps_State_forN
    · assumption
    · intro u2 u3 h4
      refine keeps_ite ?_ ?_
      · with_reducible apply keeps_State_modBc
        assumption
      · split
        · rename_i x5 x6 e7
          extract_lets +onlyGivenNames v8
          clear_value v8
          with_reducible apply keeps_State_modBc
          assumption
        · rename_i x9 e10
          assumption
  clear_value v1
  extract_lets +onlyGivenNames v11
  have hv11 : Keeps s₀ v11 := by
    unfold v11
    with_reducible apply keeps_showFallback
    with_reducible apply keeps_State_forN
    · assumption
    · intro u12 u13 h14
      with_reducible apply keeps_fallbackStep
      assumption
  clear_value v11
  extract_lets +onlyGivenNames v15
  have hv15 : Keeps s₀ v15 := by
    unfold v15
    with_reducible apply keeps_State_forN
    · assumption
    · intro u16 u17 h18
      refine keeps_ite ?_ ?_
      · with_reducible apply keeps_State_inc
        assumption
      · assumption
  clear_value v15
  with_reducible refine keeps_mk ?_
  assumption
theorem keeps_fallbackEnd {s₀ : State} {s : State} (n : Nat) (hk : Keeps s₀ s) :
    Keeps s₀ (fallbackEnd n s) := by
  unfold fallbackEnd
  extract_lets +onlyGivenNames v1
  clear_value v1
  refine keeps_ite ?_ ?_
  · with_reducible apply keeps_showFallback
    with_reducible apply keeps_State_modBc
    assumption
  · assumption
theorem keeps_bstTail {s₀ : State} {s : State} (hk : Keeps s₀ s) :
    Keeps s₀ (bstTail s) := by
  unfold bstTail
  extract_lets +onlyGivenNames v1
  clear_value v1
  extract_lets +onlyGivenNames v2
  clear_value v2
  extract_lets +onlyGivenNames v3
  clear_value v3
  extract_lets +onlyGivenNames v4
  have hv4 : Keeps s₀ v4 := by
    unfold v4
    with_reducible refine keeps_mk ?_
    assumption
  clear_value v4
  with_reducible apply keeps_State_forN
  · assumption
  · intro u5 u6 h7
    with_reducible apply keeps_State_set
    assumption
theorem keeps_actBstCntClr {s₀ : State} {s : State} (hk : Keeps s₀ s) :
    Keeps s₀ (actBstCntClr s) := by
  unfold actBstCntClr
  with_reducible apply keeps_State_forN
  · assumption
  · intro u1 u2 h3
    with_reducible apply keeps_State_setWord
    assumption
theorem keeps_showModel {s₀ : State} {s : State} (n : Nat) (hk : Keeps s₀ s) :
    Keeps s₀ (showModel s n) := by
  unfold showModel
  extract_lets +onlyGivenNames v1
  clear_value v1
  extract_lets +onlyGivenNames v2
  clear_value v2
  extract_lets +onlyGivenNames v3
  have hv3 : Keeps s₀ v3 := by
    unfold v3
    with_reducible apply keeps_State_setB
    with_reducible apply keeps_State_set
    with_reducible apply keeps_State_set
    assumption
  clear_value v3
  extract_lets +onlyGivenNames v4
  have hv4 : Keeps s₀ v4 := by
    unfold v4
    with_reducible apply keeps_State_set
    with_reducible apply keeps_State_set
    assumption
  clear_value v4
  with_reducible apply keeps_State_set
  assumption
theorem keeps_declareTrip {s₀ : State} {s : State} (src : Nat) (n : Nat) (hk : Keeps s₀ s) :
    Keeps s₀ (declareTrip src n s) := by
  unfold declareTrip
  refine keeps_ite ?_ ?_
  · assumption
  · with_reducible apply keeps_State_int
    with_reducible apply keeps_State_setB
    with_reducible apply keeps_State_loadFault
    with_reducible apply keeps_State_raise
    assumption
theorem keeps_thermalStep {s₀ : State} {s : State} (n : Nat) (hk : Keeps s₀ s) :
    Keeps s₀ (thermalStep s n) := by
  unfold thermalStep
  refine keeps_ite ?_ ?_
  · with_reducible apply keeps_showModel
    with_reducible apply keeps_State_modBc
    assumption
  · extract_lets +onlyGivenNames v1
    clear_value v1
    extract_lets +onlyGivenNames v2
    clear_value v2
    extract_lets +onlyGivenNames v3
    clear_value v3
    extract_lets +onlyGivenNames v4
    clear_value v4
    extract_lets +onlyGivenNames v5
    clear_value v5
    extract_lets +onlyGivenNames v6
    clear_value v6
    extract_lets +onlyGivenNames v7
    clear_value v7
    extract_lets +onlyGivenNames v8
    clear_value v8
    extract_lets +onlyGivenNames v9
    have hv9 : Keeps s₀ v9 := by
      unfold v9
      with_reducible apply keeps_showModel
      with_reducible apply keeps_State_modBc
      assumption
    clear_value v9
    extract_lets +onlyGivenNames v10
    have hv10 : Keeps s₀ v10 := by
      unfold v10
      refine keeps_ite ?_ ?_
      · with_reducible apply keeps_State_int
        with_reducible apply keeps_State_raise
        assumption
      · assumption
    clear_value v10
    refine keeps_ite ?_ ?_
    · with_reducible apply keeps_declareTrip
      assumption
    · assumption
theorem keeps_thermalUpdate {s₀ : State} {s : State} (hk : Keeps s₀ s) :
    Keeps s₀ (thermalUpdate s) := by
  unfold thermalUpdate
  refine keeps_ite ?_ ?_
  · assumption
  · with_reducible apply keeps_State_forN
    · with_reducible apply keeps_State_event
      assumption
    · intro u1 u2 h3
      with_reducible apply keeps_thermalStep
      assumption
theorem keeps_rmeasStep {s₀ : State} {s : State} (n : Nat) (hk : Keeps s₀ s) :
    Keeps s₀ (rmeasStep s n) := by
  unfold rmeasStep
  extract_lets +onlyGivenNames v1
  clear_value v1
  extract_lets +onlyGivenNames v2
  have hv2 : Keeps s₀ v2 := by
    unfold v2
    with_reducible apply keeps_State_modBc
    assumption
  clear_value v2
  refine keeps_ite ?_ ?_
  · with_reducible apply keeps_State_setB
    assumption
  · extract_lets +onlyGivenNames v3
    clear_value v3
    extract_lets +onlyGivenNames v4
    have hv4 : Keeps s₀ v4 := by
      unfold v4
      with_reducible apply keeps_State_setB
      assumption
    clear_value v4
    refine keeps_ite ?_ ?_
    · assumption
    · extract_lets +onlyGivenNames v5
      clear_value v5
      extract_lets +onlyGivenNames v6
      clear_value v6
      extract_lets +onlyGivenNames v7
      have hv7 : Keeps s₀ v7 := by
        unfold v7
        with_reducible apply keeps_State_set
        assumption
      clear_value v7
      refine keeps_ite ?_ ?_
      · with_reducible apply keeps_State_int
        with_reducible apply keeps_State_raise
        assumption
      · with_reducible apply keeps_showModel
        with_reducible apply keeps_State_modBc
        assumption
theorem keeps_rmeasUpdate {s₀ : State} {s : State} (hk : Keeps s₀ s) :
    Keeps s₀ (rmeasUpdate s) := by
  unfold rmeasUpdate
  refine keeps_ite ?_ ?_
  · assumption
  · with_reducible apply keeps_State_forN
    · with_reducible apply keeps_State_event
      assumption
    · intro u1 u2 h3
      with_reducible apply keeps_rmeasStep
      assumption
theorem keeps_bstCold {s₀ : State} {s : State} (hk : Keeps s₀ s) :
    Keeps s₀ (bstCold s) := by
  unfold bstCold
  extract_lets +onlyGivenNames v1
  clear_value v1
  with_reducible apply keeps_State_forN
  · with_reducible apply keeps_State_forN
    · assumption
    · intro u2 u3 h4
      with_reducible apply keeps_State_modBc
      assumption
  · intro u5 u6 h7
    with_reducible apply keeps_showModel
    assumption
theorem keeps_dcDeclare {s₀ : State} {s : State} (n : Nat) (hk : Keeps s₀ s) :
    Keeps s₀ (dcDeclare n s) := by
  unfold dcDeclare
  refine keeps_ite ?_ ?_
  · with_reducible apply keeps_declareTrip
    assumption
  · assumption
theorem keeps_dcStep {s₀ : State} {s : State} (n : Nat) (hk : Keeps s₀ s) :
    Keeps s₀ (dcStep s n) := by
  unfold dcStep
  extract_lets +onlyGivenNames v1
  clear_value v1
  extract_lets +onlyGivenNames v2
  clear_value v2
  extract_lets +onlyGivenNames v3
  clear_value v3
  refine keeps_ite ?_ ?_
  · with_reducible apply keeps_State_setB
    with_reducible apply keeps_State_modBc
    assumption
  · extract_lets +onlyGivenNames v4
    clear_value v4
    extract_lets +onlyGivenNames v5
    clear_value v5
    extract_lets +onlyGivenNames v6
    have hv6 : Keeps s₀ v6 := by
      unfold v6
      with_reducible apply keeps_State_setB
      with_reducible apply keeps_State_modBc
      assumption
    clear_value v6
    with_reducible apply keeps_dcDeclare
    assumption
theorem keeps_dcTail {s₀ : State} {s : State} (hk : Keeps s₀ s) :
    Keeps s₀ (dcTail s) := by
  unfold dcTail
  with_reducible apply keeps_State_forN
  · assumption
  · intro u1 u2 h3
    with_reducible apply keeps_dcStep
    assumption
theorem keeps_State_modDiag {s₀ : State} {s : State} (f : DiagState → DiagState) (hk : Keeps s₀ s) :
    Keeps s₀ (State.modDiag s f) := by
  unfold State.modDiag
  with_reducible refine keeps_mk ?_
  assumption
theorem keeps_diagFadeTick {s₀ : State} {s : State} (hk : Keeps s₀ s) :
    Keeps s₀ (diagFadeTick s) := by
  unfold diagFadeTick
  with_reducible apply keeps_State_modDiag
  assumption
theorem keeps_State_runCtrl {s₀ : State} {s : State} (n : Nat) (bits : List Nat) (hk : Keeps s₀ s) :
    Keeps s₀ (State.runCtrl s n bits) := by
  unfold State.runCtrl
  refine keeps_ite ?_ ?_
  · assumption
  · with_reducible refine keeps_mk ?_
    assumption
theorem keeps_diagBegin {s₀ : State} {s : State} (hk : Keeps s₀ s) :
    Keeps s₀ (diagBegin s) := by
  unfold diagBegin
  split
  · rename_i x1 e2
    with_reducible apply keeps_State_modDiag
    assumption
  · rename_i x3 x4 x5 e6
    extract_lets +onlyGivenNames v7
    have hv7 : Keeps s₀ v7 := by
      unfold v7
      with_reducible apply keeps_State_set
      assumption
    clear_value v7
    extract_lets +onlyGivenNames v8
    have hv8 : Keeps s₀ v8 := by
      unfold v8
      with_reducible apply keeps_State_modDiag
      assumption
    clear_value v8
    refine keeps_ite ?_ ?_
    · with_reducible apply keeps_State_modDiag
      with_reducible apply keeps_State_runCtrl
      assumption
    · assumption
theorem keeps_diagTail {s₀ : State} {s : State} (hk : Keeps s₀ s) :
    Keeps s₀ (diagTail s) := by
  unfold diagTail
  split
  · rename_i x1 x2 x3 e4 e5
    refine keeps_ite ?_ ?_
    · with_reducible apply keeps_State_modDiag
      assumption
    · assumption
  · rename_i x6 x7 x8
    assumption
theorem keeps_actDiagStart {s₀ : State} {s : State} (hk : Keeps s₀ s) :
    Keeps s₀ (actDiagStart s).1 := by
  unfold actDiagStart
  extract_lets +onlyGivenNames v1
  clear_value v1
  extract_lets +onlyGivenNames v2
  clear_value v2
  extract_lets +onlyGivenNames v3
  clear_value v3
  extract_lets +onlyGivenNames v4
  have hv4 : ∀ a1, Keeps s₀ (v4 a1).1 := by
    unfold v4
    intro u5
    refine keeps_pair ?_
    with_reducible apply keeps_State_int
    with_reducible apply keeps_State_set
    assumption
  clear_value v4
  refine keeps_ite1 ?_ ?_
  · with_reducible apply hv4
  · refine keeps_ite1 ?_ ?_
    · with_reducible apply hv4
    · refine keeps_ite1 ?_ ?_
      · with_reducible apply hv4
      · extract_lets +onlyGivenNames v6
        have hv6 : Keeps s₀ v6 := by
          unfold v6
          with_reducible apply keeps_State_setWord
          assumption
        clear_value v6
        extract_lets +onlyGivenNames v7
        have hv7 : Keeps s₀ v7 := by
          unfold v7
          refine keeps_foldl _ _ ?_ ?_
          · assumption
          · intro u8 u9 h10
            with_reducible apply keeps_State_forN
            · with_reducible apply keeps_State_setWord
              assumption
            · intro u11 u12 h13
              with_reducible apply keeps_State_setWord
              assumption
        clear_value v7
        extract_lets +onlyGivenNames v14
        clear_value v14
        extract_lets +onlyGivenNames v15
        clear_value v15
        extract_lets +onlyGivenNames v16
        have hv16 : Keeps s₀ v16 := by
          unfold v16
          with_reducible refine keeps_mk ?_
          assumption
        clear_value v16
        refine keeps_pair ?_
        refine keeps_ite ?_ ?_
        · with_reducible apply keeps_diagBegin
          assumption
        · assumption
theorem keeps_diagFinish {s₀ : State} {s : State} (result : Nat) (hk : Keeps s₀ s) :
    Keeps s₀ (diagFinish result s) := by
  unfold diagFinish
  extract_lets +onlyGivenNames v1
  clear_value v1
  extract_lets +onlyGivenNames v2
  have hv2 : Keeps s₀ v2 := by
    unfold v2
    with_reducible apply keeps_State_modDiag
    assumption
  clear_value v2
  with_reducible apply keeps_State_int
  with_reducible apply keeps_State_setB
  with_reducible apply keeps_State_set
  assumption
theorem keeps_diagAbort {s₀ : State} {s : State} (keep : Nat) (hk : Keeps s₀ s) :
    Keeps s₀ (diagAbort keep s) := by
  unfold diagAbort
  refine keeps_ite ?_ ?_
  · assumption
  · extract_lets +onlyGivenNames v1
    clear_value v1
    with_reducible apply keeps_diagFinish
    refine keeps_foldl _ _ ?_ ?_
    · assumption
    · intro u2 u3 h4
      with_reducible apply keeps_State_runCtrl
      assumption
theorem keeps_actDiagAbort {s₀ : State} {s : State} (hk : Keeps s₀ s) :
    Keeps s₀ (actDiagAbort s) := by
  unfold actDiagAbort
  with_reducible apply keeps_diagAbort
  assumption
theorem keeps_diagDwellEnd {s₀ : State} {s : State} (hk : Keeps s₀ s) :
    Keeps s₀ (diagDwellEnd s) := by
  unfold diagDwellEnd
  split
  · rename_i x1 x2 x3 x4 x5 x6 e7 e8 e9
    extract_lets +onlyGivenNames v10
    clear_value v10
    extract_lets +onlyGivenNames v11
    clear_value v11
    refine keeps_ite ?_ ?_
    · assumption
    · extract_lets +onlyGivenNames v12
      clear_value v12
      with_reducible apply keeps_State_modDiag
      assumption
  · rename_i x13 x14 x15 x16
    assumption
theorem keeps_showZ {s₀ : State} {s : State} (n : Nat) (k : Nat) (z : ZMeas) (hk : Keeps s₀ s) :
    Keeps s₀ (showZ n k z s).1 := by
  unfold showZ
  refine keeps_ite1 ?_ ?_
  · refine keeps_pair ?_
    with_reducible apply keeps_State_setWord
    assumption
  · extract_lets +onlyGivenNames v1
    clear_value v1
    extract_lets +onlyGivenNames v2
    clear_value v2
    extract_lets +onlyGivenNames v3
    clear_value v3
    split
    · rename_i x4 x5 x6 e7
      have hx8 := keeps_of_eq2 (s₀ := s₀) (by
        split
        · split
          · rename_i e9 x10 x11 x12 e13
            have hx14 := keeps_of_eq2 (s₀ := s₀) (by
              with_reducible apply keeps_State_fresh
              assumption
              ) e13
            refine keeps_pair2 ?_
            assumption
        · refine keeps_pair2 ?_
          assumption
        ) e7
      refine keeps_pair ?_
      with_reducible apply keeps_State_setWord
      assumption
theorem keeps_capCheck {s₀ : State} {s : State} (n : Nat) (lo : ZMeas) (hk : Keeps s₀ s) :
    Keeps s₀ (capCheck n lo s).1 := by
  unfold capCheck
  extract_lets +onlyGivenNames v1
  clear_value v1
  refine keeps_ite1 ?_ ?_
  · refine keeps_pair ?_
    assumption
  · extract_lets +onlyGivenNames v2
    clear_value v2
    extract_lets +onlyGivenNames v3
    clear_value v3
    extract_lets +onlyGivenNames v4
    clear_value v4
    extract_lets +onlyGivenNames v5
    clear_value v5
    extract_lets +onlyGivenNames v6
    clear_value v6
    refine keeps_pair ?_
    with_reducible apply keeps_State_set
    assumption
theorem keeps_loadVerdict {s₀ : State} {s : State} (n : Nat) (hk : Keeps s₀ s) :
    Keeps s₀ (loadVerdict n s).1 := by
  unfold loadVerdict
  extract_lets +onlyGivenNames v1
  clear_value v1
  split
  · rename_i x2 x3 x4 e5
    have hx6 := keeps_of_eq (s₀ := s₀) (by
      refine keeps_foldl1 _ _ ?_ ?_
      · refine keeps_pair ?_
        assumption
      · intro u7 u8 h9
        extract_lets +onlyGivenNames v10
        have hv10 : Keeps s₀ v10.1 := by
          unfold v10
          with_reducible apply keeps_showZ
          assumption
        clear_value v10
        refine keeps_pair ?_
        assumption
      ) e5
    extract_lets +onlyGivenNames v11
    clear_value v11
    extract_lets +onlyGivenNames v12
    clear_value v12
    split
    · rename_i x13 x14 x15 e16
      have hx17 := keeps_of_eq (s₀ := s₀) (by
        split
        · rename_i x18 x19
          with_reducible apply keeps_capCheck
          assumption
        · rename_i x20
          refine keeps_pair ?_
          assumption
        ) e16
      extract_lets +onlyGivenNames v21
      clear_value v21
      refine keeps_pair ?_
      assumption
theorem keeps_diagListen {s₀ : State} {s : State} (x : Int) (hk : Keeps s₀ s) :
    Keeps s₀ (diagListen x s) := by
  unfold diagListen
  extract_lets +onlyGivenNames v1
  clear_value v1
  refine keeps_ite ?_ ?_
  · with_reducible apply keeps_State_modDiag
    assumption
  · assumption
theorem keeps_acouMeasEnd {s₀ : State} {s : State} (hk : Keeps s₀ s) :
    Keeps s₀ (acouMeasEnd s) := by
  unfold acouMeasEnd
  extract_lets +onlyGivenNames v1
  clear_value v1
  extract_lets +onlyGivenNames v2
  have hv2 : Keeps s₀ v2 := by
    unfold v2
    with_reducible apply keeps_State_fresh
    assumption
  clear_value v2
  extract_lets +onlyGivenNames v3
  clear_value v3
  extract_lets +onlyGivenNames v4
  clear_value v4
  split
  · rename_i x5 x6 x7 e8 e9
    with_reducible apply keeps_diagBegin
    refine keeps_foldl _ _ ?_ ?_
    · assumption
    · intro u10 u11 h12
      with_reducible apply keeps_State_forN
      · assumption
      · intro u13 u14 h15
        with_reducible apply keeps_State_set
        assumption
  · rename_i x16 x17 x18 e19 e20
    extract_lets +onlyGivenNames v21
    have hv21 : Keeps s₀ v21 := by
      unfold v21
      with_reducible apply keeps_State_forN
      · assumption
      · intro u22 u23 h24
        with_reducible apply keeps_State_set
        assumption
    clear_value v21
    extract_lets +onlyGivenNames v25
    have hv25 : Keeps s₀ v25 := by
      unfold v25
      refine keeps_ite ?_ ?_
      · with_reducible apply keeps_State_forN
        · assumption
        · intro u26 u27 h28
          with_reducible apply keeps_State_set
          assumption
      · assumption
    clear_value v25
    with_reducible apply keeps_State_modDiag
    assumption
  · rename_i x29 x30 x31 x32
    assumption
theorem keeps_diagNext {s₀ : State} {s : State} (n : Nat) (v : Nat) (hk : Keeps s₀ s) :
    Keeps s₀ (diagNext n v s) := by
  unfold diagNext
  extract_lets +onlyGivenNames v1
  have hv1 : Keeps s₀ v1 := by
    unfold v1
    with_reducible apply keeps_State_log
    with_reducible apply keeps_State_set
    assumption
  clear_value v1
  extract_lets +onlyGivenNames v2
  have hv2 : Keeps s₀ v2 := by
    unfold v2
    with_reducible apply keeps_State_set
    assumption
  clear_value v2
  extract_lets +onlyGivenNames v3
  have hv3 : Keeps s₀ v3 := by
    unfold v3
    refine keeps_ite ?_ ?_
    · with_reducible apply keeps_State_set
      assumption
    · with_reducible apply keeps_State_set
      assumption
  clear_value v3
  extract_lets +onlyGivenNames v4
  have hv4 : Keeps s₀ v4 := by
    unfold v4
    refine keeps_ite ?_ ?_
    · with_reducible apply keeps_State_runCtrl
      assumption
    · assumption
  clear_value v4
  extract_lets +onlyGivenNames v5
  have hv5 : Keeps s₀ v5 := by
    unfold v5
    refine keeps_ite ?_ ?_
    · with_reducible apply keeps_State_raise
      assumption
    · assumption
  clear_value v5
  with_reducible apply keeps_diagBegin
  with_reducible apply keeps_State_modDiag
  assumption
theorem keeps_diagReadyTimeout {s₀ : State} {s : State} (hk : Keeps s₀ s) :
    Keeps s₀ (diagReadyTimeout s) := by
  unfold diagReadyTimeout
  split
  · rename_i x1 x2 x3 e4 e5
    refine keeps_ite ?_ ?_
    · assumption
    · with_reducible apply keeps_diagNext
      assumption
  · rename_i x6 x7 x8
    assumption
theorem keeps_diagChannelEnd {s₀ : State} {s : State} (hk : Keeps s₀ s) :
    Keeps s₀ (diagChannelEnd s) := by
  unfold diagChannelEnd
  split
  · rename_i x1 x2 e3
    refine keeps_ite ?_ ?_
    · split
      · rename_i x4 x5 x6 e7
        have hx8 := keeps_of_eq (s₀ := s₀) (by
          refine keeps_ite1 ?_ ?_
          · with_reducible apply keeps_loadVerdict
            assumption
          · refine keeps_pair ?_
            assumption
          ) e7
        with_reducible apply keeps_diagNext
        assumption
    · assumption
  · rename_i x9 e10
    assumption
theorem keeps_diagRunEnd {s₀ : State} {s : State} (hk : Keeps s₀ s) :
    Keeps s₀ (diagRunEnd s) := by
  unfold diagRunEnd
  refine keeps_ite ?_ ?_
  · with_reducible apply keeps_diagFinish
    assumption
  · assumption
theorem keeps_State_modSrc {s₀ : State} {s : State} (p : Src → Bool) (f : Src → Src) (hk : Keeps s₀ s) :
    Keeps s₀ (State.modSrc s p f) := by
  unfold State.modSrc
  extract_lets +onlyGivenNames v1
  clear_value v1
  extract_lets +onlyGivenNames v2
  clear_value v2
  extract_lets +onlyGivenNames v3
  clear_value v3
  extract_lets +onlyGivenNames v4
  have hv4 : Keeps s₀ v4 := by
    unfold v4
    with_reducible refine keeps_mk ?_
    assumption
  clear_value v4
  refine keeps_ite ?_ ?_
  · with_reducible apply keeps_State_int
    assumption
  · assumption
theorem keeps_State_srcLock {s₀ : State} {s : State} (port : Nat) (unit : Nat) (locked : Bool) (hk : Keeps s₀ s) :
    Keeps s₀ (State.srcLock s port unit locked) := by
  unfold State.srcLock
  with_reducible apply keeps_State_modSrc
  assumption
theorem keeps_State_srcRate {s₀ : State} {s : State} (port : Nat) (unit : Nat) (ratio : Nat) (changed : Bool) (hk : Keeps s₀ s) :
    Keeps s₀ (State.srcRate s port unit ratio changed) := by
  unfold State.srcRate
  with_reducible apply keeps_State_modSrc
  assumption
theorem keeps_State_srcSample {s₀ : State} {s : State} (port : Nat) (unit : Nat) (hk : Keeps s₀ s) :
    Keeps s₀ (State.srcSample s port unit) := by
  unfold State.srcSample
  with_reducible apply keeps_State_modSrc
  assumption
theorem keeps_State_srcStream {s₀ : State} {s : State} (i : Nat) (hk : Keeps s₀ s) :
    Keeps s₀ (State.srcStream s i) := by
  unfold State.srcStream
  with_reducible apply keeps_State_modSrc
  with_reducible apply keeps_State_srcSample
  assumption
theorem keeps_State_srcAll {s₀ : State} {s : State} (hk : Keeps s₀ s) :
    Keeps s₀ (State.srcAll s) := by
  unfold State.srcAll
  with_reducible apply keeps_State_modSrc
  assumption
theorem keeps_srcTick {s₀ : State} {s : State} (hk : Keeps s₀ s) :
    Keeps s₀ (srcTick s) := by
  unfold srcTick
  with_reducible apply keeps_State_modSrc
  assumption
theorem keeps_State_modAdc {s₀ : State} {s : State} (n : Nat) (f : AdcCh → AdcCh) (hk : Keeps s₀ s) :
    Keeps s₀ (State.modAdc s n f) := by
  unfold State.modAdc
  with_reducible refine keeps_mk ?_
  assumption
theorem keeps_showSettling {s₀ : State} {s : State} (hk : Keeps s₀ s) :
    Keeps s₀ (showSettling s) := by
  unfold showSettling
  with_reducible apply keeps_State_set
  assumption
theorem keeps_adcReset {s₀ : State} {s : State} (hk : Keeps s₀ s) :
    Keeps s₀ (adcReset s) := by
  unfold adcReset
  with_reducible apply keeps_showSettling
  with_reducible apply keeps_State_forN
  · assumption
  · intro u1 u2 h3
    with_reducible apply keeps_State_setB
    with_reducible apply keeps_State_setB
    with_reducible apply keeps_State_modAdc
    assumption
theorem keeps_adcSettled {s₀ : State} {s : State} (n : Nat) (hk : Keeps s₀ s) :
    Keeps s₀ (adcSettled n s) := by
  unfold adcSettled
  refine keeps_ite ?_ ?_
  · with_reducible apply keeps_State_setB
    with_reducible apply keeps_State_modAdc
    assumption
  · assumption
theorem keeps_adcRampEnd {s₀ : State} {s : State} (n : Nat) (hk : Keeps s₀ s) :
    Keeps s₀ (adcRampEnd n s) := by
  unfold adcRampEnd
  refine keeps_ite ?_ ?_
  · with_reducible apply keeps_showSettling
    with_reducible apply keeps_State_int
    with_reducible apply keeps_State_setB
    with_reducible apply keeps_State_setB
    assumption
  · assumption
theorem keeps_adcTick {s₀ : State} {s : State} (env : List Int) (n : Nat) (hk : Keeps s₀ s) :
    Keeps s₀ (adcTick env s n) := by
  unfold adcTick
  extract_lets +onlyGivenNames v1
  clear_value v1
  extract_lets +onlyGivenNames v2
  have hv2 : Keeps s₀ v2 := by
    unfold v2
    refine keeps_ite ?_ ?_
    · with_reducible apply keeps_State_inc
      assumption
    · assumption
  clear_value v2
  extract_lets +onlyGivenNames v3
  clear_value v3
  extract_lets +onlyGivenNames v4
  clear_value v4
  extract_lets +onlyGivenNames v5
  have hv5 : Keeps s₀ v5 := by
    unfold v5
    with_reducible apply keeps_State_setB
    assumption
  clear_value v5
  with_reducible apply keeps_State_modAdc
  assumption
theorem keeps_adcCfgWrite {s₀ : State} {s : State} (n : Nat) (v : Word) (hk : Keeps s₀ s) :
    Keeps s₀ (adcCfgWrite n v s).1 := by
  unfold adcCfgWrite
  extract_lets +onlyGivenNames v1
  clear_value v1
  refine keeps_ite1 ?_ ?_
  · refine keeps_ite1 ?_ ?_
    · refine keeps_pair ?_
      assumption
    · extract_lets +onlyGivenNames v2
      have hv2 : Keeps s₀ v2 := by
        unfold v2
        with_reducible apply keeps_State_setWord
        assumption
      clear_value v2
      refine keeps_pair ?_
      with_reducible apply keeps_State_setB
      assumption
  · refine keeps_pair ?_
    with_reducible apply keeps_State_setWord
    assumption
theorem keeps_adcGainApply {s₀ : State} {s : State} (n : Nat) (hk : Keeps s₀ s) :
    Keeps s₀ (adcGainApply n s) := by
  unfold adcGainApply
  refine keeps_ite ?_ ?_
  · with_reducible apply keeps_State_setB
    with_reducible apply keeps_State_modAdc
    assumption
  · assumption
theorem keeps_State_modOut {s₀ : State} {s : State} (n : Nat) (f : OutCh → OutCh) (hk : Keeps s₀ s) :
    Keeps s₀ (State.modOut s n f) := by
  unfold State.modOut
  with_reducible refine keeps_mk ?_
  assumption
theorem keeps_State_setAna {s₀ : State} {s : State} (n : Nat) (v : Nat) (hk : Keeps s₀ s) :
    Keeps s₀ (State.setAna s n v) := by
  unfold State.setAna
  refine keeps_ite ?_ ?_
  · assumption
  · with_reducible apply keeps_State_int
    with_reducible apply keeps_State_set
    assumption
theorem keeps_State_anaUp {s₀ : State} {s : State} (n : Nat) (hk : Keeps s₀ s) :
    Keeps s₀ (State.anaUp s n) := by
  unfold State.anaUp
  with_reducible apply keeps_State_setAna
  with_reducible apply keeps_State_set
  with_reducible apply keeps_State_modOut
  assumption
theorem keeps_State_anaDown {s₀ : State} {s : State} (n : Nat) (hk : Keeps s₀ s) :
    Keeps s₀ (State.anaDown s n) := by
  unfold State.anaDown
  extract_lets +onlyGivenNames v1
  clear_value v1
  refine keeps_ite ?_ ?_
  · assumption
  · extract_lets +onlyGivenNames v2
    clear_value v2
    with_reducible apply keeps_State_set
    refine keeps_ite ?_ ?_
    · assumption
    · with_reducible apply keeps_State_modOut
      assumption
theorem keeps_actOutStart {s₀ : State} {s : State} (n : Nat) (hk : Keeps s₀ s) :
    Keeps s₀ (actOutStart n s).1 := by
  unfold actOutStart
  refine keeps_ite1 ?_ ?_
  · refine keeps_pair ?_
    assumption
  · refine keeps_ite1 ?_ ?_
    · refine keeps_pair ?_
      with_reducible apply keeps_State_anaUp
      assumption
    · refine keeps_pair ?_
      assumption
theorem keeps_actOutStop {s₀ : State} {s : State} (n : Nat) (hk : Keeps s₀ s) :
    Keeps s₀ (actOutStop n s).1 := by
  unfold actOutStop
  refine keeps_pair ?_
  with_reducible apply keeps_State_anaDown
  assumption
theorem keeps_State_anaOwnStart {s₀ : State} {s : State} (n : Nat) (hk : Keeps s₀ s) :
    Keeps s₀ (State.anaOwnStart s n) := by
  unfold State.anaOwnStart
  refine keeps_ite ?_ ?_
  · assumption
  · refine keeps_ite ?_ ?_
    · with_reducible apply keeps_State_anaUp
      assumption
    · refine keeps_ite ?_ ?_
      · with_reducible apply keeps_State_modOut
        assumption
      · assumption
theorem keeps_State_anaStop {s₀ : State} {s : State} (mask : Nat) (hk : Keeps s₀ s) :
    Keeps s₀ (State.anaStop s mask) := by
  unfold State.anaStop
  with_reducible apply keeps_State_forN
  · assumption
  · intro u1 u2 h3
    refine keeps_ite ?_ ?_
    · with_reducible apply keeps_State_modOut
      with_reducible apply keeps_State_anaDown
      assumption
    · assumption
theorem keeps_State_anaStart {s₀ : State} {s : State} (mask : Nat) (hk : Keeps s₀ s) :
    Keeps s₀ (State.anaStart s mask) := by
  unfold State.anaStart
  with_reducible apply keeps_State_forN
  · assumption
  · intro u1 u2 h3
    refine keeps_ite ?_ ?_
    · with_reducible apply keeps_State_anaOwnStart
      assumption
    · assumption
theorem keeps_anaFollow {s₀ : State} {s : State} (hk : Keeps s₀ s) :
    Keeps s₀ (anaFollow s) := by
  unfold anaFollow
  with_reducible apply keeps_State_forN
  · assumption
  · intro u1 u2 h3
    extract_lets +onlyGivenNames v4
    clear_value v4
    extract_lets +onlyGivenNames v5
    clear_value v5
    refine keeps_ite ?_ ?_
    · refine keeps_ite ?_ ?_
      · with_reducible apply keeps_State_modOut
        assumption
      · refine keeps_ite ?_ ?_
        · with_reducible apply keeps_State_modOut
          assumption
        · assumption
    · refine keeps_ite ?_ ?_
      · with_reducible apply keeps_State_setAna
        with_reducible apply keeps_State_set
        with_reducible apply keeps_State_modOut
        assumption
      · assumption
theorem keeps_outPowerUpEnd {s₀ : State} {s : State} (n : Nat) (hk : Keeps s₀ s) :
    Keeps s₀ (outPowerUpEnd n s) := by
  unfold outPowerUpEnd
  refine keeps_foldl _ _ ?_ ?_
  · assumption
  · intro u1 u2 h3
    extract_lets +onlyGivenNames v4
    clear_value v4
    refine keeps_ite ?_ ?_
    · assumption
    · extract_lets +onlyGivenNames v5
      have hv5 : Keeps s₀ v5 := by
        unfold v5
        with_reducible apply keeps_State_setAna
        with_reducible apply keeps_State_modOut
        assumption
      clear_value v5
      refine keeps_ite ?_ ?_
      · with_reducible apply keeps_State_anaOwnStart
        assumption
      · assumption
theorem keeps_outPowerDownEnd {s₀ : State} {s : State} (n : Nat) (hk : Keeps s₀ s) :
    Keeps s₀ (outPowerDownEnd n s) := by
  unfold outPowerDownEnd
  refine keeps_ite ?_ ?_
  · with_reducible apply keeps_anaFollow
    refine keeps_foldl _ _ ?_ ?_
    · assumption
    · intro u1 u2 h3
      with_reducible apply keeps_State_modOut
      assumption
  · assumption
theorem keeps_outRampTick {s₀ : State} {s : State} (n : Nat) (hk : Keeps s₀ s) :
    Keeps s₀ (outRampTick s n) := by
  unfold outRampTick
  split
  · rename_i x1 e2
    with_reducible apply keeps_State_modOut
    assumption
  · rename_i x3 e4
    with_reducible apply keeps_State_modOut
    assumption
  · rename_i x5 x6 x7
    assumption
theorem keeps_outRampEnd {s₀ : State} {s : State} (n : Nat) (hk : Keeps s₀ s) :
    Keeps s₀ (outRampEnd n s) := by
  unfold outRampEnd
  extract_lets +onlyGivenNames v1
  clear_value v1
  split
  · rename_i x2 e3
    refine keeps_ite ?_ ?_
    · with_reducible apply keeps_State_set
      assumption
    · assumption
  · rename_i x4 e5
    refine keeps_ite ?_ ?_
    · with_reducible apply keeps_State_setAna
      with_reducible apply keeps_State_set
      assumption
    · assumption
  · rename_i x6 x7 x8
    assumption
theorem keeps_outTail {s₀ : State} {s : State} (code : Nat → Int) (hk : Keeps s₀ s) :
    Keeps s₀ (outTail code s) := by
  unfold outTail
  with_reducible apply keeps_State_forN
  · assumption
  · intro u1 u2 h3
    extract_lets +onlyGivenNames v4
    have hv4 : Keeps s₀ v4 := by
      unfold v4
      with_reducible apply keeps_outRampTick
      assumption
    clear_value v4
    extract_lets +onlyGivenNames v5
    clear_value v5
    with_reducible apply keeps_State_modOut
    assumption
theorem keeps_cpFail {s₀ : State} {s : State} (hk : Keeps s₀ s) :
    Keeps s₀ (cpFail s) := by
  unfold cpFail
  extract_lets +onlyGivenNames v1
  have hv1 : Keeps s₀ v1 := by
    unfold v1
    with_reducible apply keeps_State_int
    with_reducible apply keeps_State_raise
    with_reducible apply keeps_State_event
    with_reducible apply keeps_State_setB
    assumption
  clear_value v1
  with_reducible apply keeps_State_forN
  · assumption
  · intro u2 u3 h4
    with_reducible apply keeps_State_setAna
    with_reducible apply keeps_State_set
    with_reducible apply keeps_State_modOut
    assumption
theorem keeps_cpRecover {s₀ : State} {s : State} (hk : Keeps s₀ s) :
    Keeps s₀ (cpRecover s) := by
  unfold cpRecover
  with_reducible apply keeps_anaFollow
  with_reducible apply keeps_State_setB
  assumption
theorem keeps_outShort {s₀ : State} {s : State} (n : Nat) (hk : Keeps s₀ s) :
    Keeps s₀ (outShort n s) := by
  unfold outShort
  refine keeps_ite ?_ ?_
  · assumption
  · with_reducible apply keeps_State_int
    with_reducible apply keeps_State_raise
    with_reducible apply keeps_State_event
    with_reducible apply keeps_State_setB
    assumption
theorem keeps_jackShow {s₀ : State} {s : State} (hk : Keeps s₀ s) :
    Keeps s₀ (jackShow s) := by
  unfold jackShow
  extract_lets +onlyGivenNames v1
  have hv1 : Keeps s₀ v1 := by
    unfold v1
    with_reducible apply keeps_State_set
    assumption
  clear_value v1
  with_reducible apply keeps_State_forN
  · assumption
  · intro u2 u3 h4
    extract_lets +onlyGivenNames v5
    have hv5 : Keeps s₀ v5 := by
      unfold v5
      with_reducible apply keeps_State_setB
      assumption
    clear_value v5
    refine keeps_ite ?_ ?_
    · with_reducible apply keeps_State_anaDown
      assumption
    · assumption
theorem keeps_jackTick {s₀ : State} {s : State} (hk : Keeps s₀ s) :
    Keeps s₀ (jackTick s) := by
  unfold jackTick
  with_reducible apply keeps_State_forN
  · assumption
  · intro u1 u2 h3
    refine keeps_ite ?_ ?_
    · with_reducible apply keeps_State_anaDown
      assumption
    · assumption
theorem keeps_jackAccept {s₀ : State} {s : State} (b : Nat) (high : Bool) (hk : Keeps s₀ s) :
    Keeps s₀ (jackAccept b high s) := by
  unfold jackAccept
  refine keeps_ite ?_ ?_
  · assumption
  · with_reducible apply keeps_jackShow
    with_reducible apply keeps_State_int
    with_reducible refine keeps_mk ?_
    assumption
theorem keeps_State_aesLock {s₀ : State} {s : State} (on : Bool) (hk : Keeps s₀ s) :
    Keeps s₀ (State.aesLock s on) := by
  unfold State.aesLock
  refine keeps_ite ?_ ?_
  · assumption
  · extract_lets +onlyGivenNames v1
    have hv1 : Keeps s₀ v1 := by
      unfold v1
      with_reducible apply keeps_State_int
      with_reducible apply keeps_State_setB
      assumption
    clear_value v1
    extract_lets +onlyGivenNames v2
    have hv2 : Keeps s₀ v2 := by
      unfold v2
      with_reducible apply keeps_State_set
      assumption
    clear_value v2
    extract_lets +onlyGivenNames v3
    have hv3 : Keeps s₀ v3 := by
      unfold v3
      with_reducible apply keeps_State_int
      with_reducible apply keeps_State_set
      assumption
    clear_value v3
    extract_lets +onlyGivenNames v4
    have hv4 : Keeps s₀ v4 := by
      unfold v4
      with_reducible apply keeps_State_srcLock
      assumption
    clear_value v4
    extract_lets +onlyGivenNames v5
    clear_value v5
    extract_lets +onlyGivenNames v6
    have hv6 : Keeps s₀ v6 := by
      unfold v6
      with_reducible refine keeps_mk ?_
      assumption
    clear_value v6
    refine keeps_ite ?_ ?_
    · assumption
    · with_reducible apply keeps_State_raise
      with_reducible apply keeps_State_event
      assumption
theorem keeps_aesLockOn {s₀ : State} {s : State} (hk : Keeps s₀ s) :
    Keeps s₀ (aesLockOn s) := by
  unfold aesLockOn
  refine keeps_ite ?_ ?_
  · with_reducible apply keeps_State_aesLock
    assumption
  · assumption
theorem keeps_aesCfgWrite {s₀ : State} {s : State} (v : Word) (hk : Keeps s₀ s) :
    Keeps s₀ (aesCfgWrite v s).1 := by
  unfold aesCfgWrite
  extract_lets +onlyGivenNames v1
  have hv1 : Keeps s₀ v1 := by
    unfold v1
    with_reducible apply keeps_State_setWord
    assumption
  clear_value v1
  refine keeps_pair ?_
  refine keeps_ite ?_ ?_
  · assumption
  · with_reducible apply keeps_State_aesLock
    assumption
theorem keeps_aesNonaudio {s₀ : State} {s : State} (burst : Bool) (hk : Keeps s₀ s) :
    Keeps s₀ (aesNonaudio burst s) := by
  unfold aesNonaudio
  extract_lets +onlyGivenNames v1
  have hv1 : Keeps s₀ v1 := by
    unfold v1
    refine keeps_ite ?_ ?_
    · with_reducible apply keeps_State_setB
      assumption
    · with_reducible apply keeps_State_setB
      assumption
  clear_value v1
  refine keeps_ite ?_ ?_
  · assumption
  · extract_lets +onlyGivenNames v2
    have hv2 : Keeps s₀ v2 := by
      unfold v2
      with_reducible apply keeps_State_raise
      with_reducible apply keeps_State_event
      with_reducible apply keeps_State_int
      with_reducible apply keeps_State_setB
      assumption
    clear_value v2
    with_reducible refine keeps_mk ?_
    assumption
theorem keeps_aesDeliver {s₀ : State} {s : State} (f : Option Int × Option Int) (hk : Keeps s₀ s) :
    Keeps s₀ (aesDeliver f s) := by
  unfold aesDeliver
  extract_lets +onlyGivenNames v1
  clear_value v1
  extract_lets +onlyGivenNames v2
  clear_value v2
  extract_lets +onlyGivenNames v3
  clear_value v3
  extract_lets +onlyGivenNames v4
  have hv4 : ∀ a1 a2 a3, Keeps s₀ a1 → Keeps s₀ (v4 a1 a2 a3) := by
    unfold v4
    intro u5 u6 u7 h8
    split
    · rename_i x9 x10
      with_reducible refine keeps_mk ?_
      assumption
    · rename_i x11
      with_reducible refine keeps_mk ?_
      assumption
  clear_value v4
  extract_lets +onlyGivenNames v12
  have hv12 : Keeps s₀ v12 := by
    unfold v12
    with_reducible apply hv4
    with_reducible apply hv4
    assumption
  clear_value v12
  extract_lets +onlyGivenNames v13
  clear_value v13
  extract_lets +onlyGivenNames v14
  have hv14 : Keeps s₀ v14 := by
    unfold v14
    refine keeps_ite ?_ ?_
    · assumption
    · with_reducible refine keeps_mk ?_
      assumption
  clear_value v14
  refine keeps_ite ?_ ?_
  · with_reducible apply keeps_State_srcSample
    assumption
  · assumption
theorem keeps_aesFrame {s₀ : State} {s : State} (f : Option Int × Option Int) (hk : Keeps s₀ s) :
    Keeps s₀ (aesFrame f s) := by
  unfold aesFrame
  extract_lets +onlyGivenNames v1
  clear_value v1
  extract_lets +onlyGivenNames v2
  have hv2 : Keeps s₀ v2 := by
    unfold v2
    with_reducible refine keeps_mk ?_
    assumption
  clear_value v2
  refine keeps_ite ?_ ?_
  · with_reducible apply keeps_aesDeliver
    assumption
  · extract_lets +onlyGivenNames v3
    clear_value v3
    split
    · rename_i x4 x5 x6
      refine keeps_ite ?_ ?_
      · with_reducible apply keeps_aesDeliver
        with_reducible refine keeps_mk ?_
        assumption
      · with_reducible refine keeps_mk ?_
        assumption
    · rename_i x7
      assumption
theorem keeps_aesSubframe {s₀ : State} {s : State} (b : Bool) (index : Nat) (sample : Nat) (cs : Bool) (validity : Bool) (parity : Bool) (code : Bool) (hk : Keeps s₀ s) :
    Keeps s₀ (aesSubframe b index sample cs validity parity code s) := by
  unfold aesSubframe
  refine keeps_ite ?_ ?_
  · assumption
  · extract_lets +onlyGivenNames v1
    clear_value v1
    extract_lets +onlyGivenNames v2
    have hv2 : Keeps s₀ v2 := by
      unfold v2
      with_reducible apply keeps_State_event
      assumption
    clear_value v2
    extract_lets +onlyGivenNames v3
    clear_value v3
    extract_lets +onlyGivenNames v4
    have hv4 : Keeps s₀ v4 := by
      unfold v4
      refine keeps_ite ?_ ?_
      · with_reducible apply keeps_State_inc
        assumption
      · assumption
    clear_value v4
    extract_lets +onlyGivenNames v5
    have hv5 : Keeps s₀ v5 := by
      unfold v5
      refine keeps_ite ?_ ?_
      · with_reducible apply keeps_State_inc
        assumption
      · assumption
    clear_value v5
    extract_lets +onlyGivenNames v6
    clear_value v6
    extract_lets +onlyGivenNames v7
    have hv7 : Keeps s₀ v7 := by
      unfold v7
      with_reducible refine keeps_mk ?_
      assumption
    clear_value v7
    refine keeps_ite ?_ ?_
    · with_reducible apply keeps_State_aesLock
      assumption
    · extract_lets +onlyGivenNames v8
      clear_value v8
      extract_lets +onlyGivenNames v9
      clear_value v9
      extract_lets +onlyGivenNames v10
      have hv10 : Keeps s₀ v10 := by
        unfold v10
        with_reducible apply keeps_State_setB
        assumption
      clear_value v10
      extract_lets +onlyGivenNames v11
      clear_value v11
      extract_lets +onlyGivenNames v12
      have hv12 : Keeps s₀ v12 := by
        unfold v12
        with_reducible refine keeps_mk ?_
        assumption
      clear_value v12
      extract_lets +onlyGivenNames v13
      clear_value v13
      extract_lets +onlyGivenNames v14
      clear_value v14
      extract_lets +onlyGivenNames v15
      clear_value v15
      extract_lets +onlyGivenNames v16
      have hv16 : Keeps s₀ v16 := by
        unfold v16
        with_reducible refine keeps_mk ?_
        assumption
      clear_value v16
      extract_lets +onlyGivenNames v17
      clear_value v17
      extract_lets +onlyGivenNames v18
      clear_value v18
      extract_lets +onlyGivenNames v19
      have hv19 : Keeps s₀ v19 := by
        unfold v19
        refine keeps_ite ?_ ?_
        · with_reducible apply keeps_aesNonaudio
          with_reducible refine keeps_mk ?_
          assumption
        · assumption
      clear_value v19
      extract_lets +onlyGivenNames v20
      have hv20 : Keeps s₀ v20 := by
        unfold v20
        refine keeps_ite ?_ ?_
        · with_reducible apply keeps_aesNonaudio
          assumption
        · assumption
      clear_value v20
      refine keeps_ite ?_ ?_
      · with_reducible refine keeps_mk ?_
        assumption
      · with_reducible apply keeps_aesFrame
        with_reducible refine keeps_mk ?_
        assumption
theorem keeps_aesBlockEnd {s₀ : State} {s : State} (hk : Keeps s₀ s) :
    Keeps s₀ (aesBlockEnd s) := by
  unfold aesBlockEnd
  refine keeps_ite ?_ ?_
  · assumption
  · extract_lets +onlyGivenNames v1
    clear_value v1
    extract_lets +onlyGivenNames v2
    have hv2 : Keeps s₀ v2 := by
      unfold v2
      with_reducible apply keeps_State_forN
      · assumption
      · intro u3 u4 h5
        extract_lets +onlyGivenNames v6
        clear_value v6
        extract_lets +onlyGivenNames v7
        clear_value v7
        extract_lets +onlyGivenNames v8
        clear_value v8
        extract_lets +onlyGivenNames v9
        clear_value v9
        extract_lets +onlyGivenNames v10
        have hv10 : Keeps s₀ v10 := by
          unfold v10
          with_reducible apply keeps_State_setB
          assumption
        clear_value v10
        refine keeps_ite ?_ ?_
        · with_reducible apply keeps_State_inc
          assumption
        · with_reducible apply keeps_State_forN
          · assumption
          · intro u11 u12 h13
            with_reducible apply keeps_State_setWord
            assumption
    clear_value v2
    extract_lets +onlyGivenNames v14
    clear_value v14
    with_reducible refine keeps_mk ?_
    assumption
theorem keeps_nonaudioEnd {s₀ : State} {s : State} (hk : Keeps s₀ s) :
    Keeps s₀ (nonaudioEnd s) := by
  unfold nonaudioEnd
  refine keeps_ite ?_ ?_
  · extract_lets +onlyGivenNames v1
    have hv1 : Keeps s₀ v1 := by
      unfold v1
      with_reducible apply keeps_State_setB
      with_reducible apply keeps_State_setB
      with_reducible apply keeps_State_setB
      assumption
    clear_value v1
    with_reducible refine keeps_mk ?_
    assumption
  · assumption
theorem keeps_aesRate {s₀ : State} {s : State} (r : Nat) (hk : Keeps s₀ s) :
    Keeps s₀ (aesRate r s) := by
  unfold aesRate
  extract_lets +onlyGivenNames v1
  clear_value v1
  extract_lets +onlyGivenNames v2
  clear_value v2
  extract_lets +onlyGivenNames v3
  clear_value v3
  extract_lets +onlyGivenNames v4
  clear_value v4
  extract_lets +onlyGivenNames v5
  have hv5 : Keeps s₀ v5 := by
    unfold v5
    with_reducible apply keeps_State_set
    with_reducible apply keeps_State_set
    assumption
  clear_value v5
  extract_lets +onlyGivenNames v6
  have hv6 : Keeps s₀ v6 := by
    unfold v6
    with_reducible apply keeps_State_srcRate
    assumption
  clear_value v6
  refine keeps_ite ?_ ?_
  · with_reducible apply keeps_State_int
    with_reducible apply keeps_State_set
    assumption
  · assumption
theorem keeps_actAnaCntClr {s₀ : State} {s : State} (hk : Keeps s₀ s) :
    Keeps s₀ (actAnaCntClr s) := by
  unfold actAnaCntClr
  with_reducible apply keeps_State_setWord
  with_reducible apply keeps_State_forN
  · assumption
  · intro u1 u2 h3
    with_reducible apply keeps_State_set
    assumption
theorem keeps_diagStopped {s₀ : State} {s : State} (mask : Nat) (hk : Keeps s₀ s) :
    Keeps s₀ (diagStopped mask s) := by
  unfold diagStopped
  refine keeps_ite ?_ ?_
  · with_reducible apply keeps_diagAbort
    assumption
  · assumption
theorem keeps_muteOutputs {s₀ : State} {s : State} (mask : Nat) (hk : Keeps s₀ s) :
    Keeps s₀ (muteOutputs mask s) := by
  unfold muteOutputs
  extract_lets +onlyGivenNames v1
  have hv1 : Keeps s₀ v1 := by
    unfold v1
    with_reducible apply keeps_diagStopped
    assumption
  clear_value v1
  with_reducible apply keeps_State_anaStop
  with_reducible apply keeps_State_askStop
  assumption
theorem keeps_startOutputs {s₀ : State} {s : State} (hk : Keeps s₀ s) :
    Keeps s₀ (startOutputs s) := by
  unfold startOutputs
  split
  · rename_i x1 x2 e3
    with_reducible apply keeps_State_anaStart
    with_reducible apply keeps_State_askStart
    assumption
  · rename_i x4 e5
    assumption
theorem keeps_State_follow {s₀ : State} {s : State} (src : Nat) (on : Bool) (hk : Keeps s₀ s) :
    Keeps s₀ (State.follow s src on) := by
  unfold State.follow
  refine keeps_ite ?_ ?_
  · with_reducible apply keeps_State_raiseActive
    with_reducible apply keeps_State_event
    assumption
  · refine keeps_ite ?_ ?_
    · with_reducible apply keeps_State_endActive
      assumption
    · assumption
theorem keeps_holdUpdate {s₀ : State} {s : State} (hk : Keeps s₀ s) :
    Keeps s₀ (holdUpdate s) := by
  unfold holdUpdate
  extract_lets +onlyGivenNames v1
  clear_value v1
  extract_lets +onlyGivenNames v2
  clear_value v2
  extract_lets +onlyGivenNames v3
  have hv3 : Keeps s₀ v3 := by
    unfold v3
    refine keeps_ite ?_ ?_
    · with_reducible apply keeps_State_int
      with_reducible apply keeps_State_setB
      assumption
    · assumption
  clear_value v3
  extract_lets +onlyGivenNames v4
  have hv4 : Keeps s₀ v4 := by
    unfold v4
    with_reducible apply keeps_State_setB
    with_reducible apply keeps_State_setB
    assumption
  clear_value v4
  extract_lets +onlyGivenNames v5
  have hv5 : Keeps s₀ v5 := by
    unfold v5
    with_reducible apply keeps_State_follow
    with_reducible apply keeps_State_follow
    assumption
  clear_value v5
  refine keeps_ite ?_ ?_
  · with_reducible apply keeps_muteOutputs
    assumption
  · refine keeps_ite ?_ ?_
    · with_reducible apply keeps_startOutputs
      assumption
    · assumption
theorem keeps_holdTick {s₀ : State} {s : State} (hk : Keeps s₀ s) :
    Keeps s₀ (holdTick s) := by
  unfold holdTick
  refine keeps_ite ?_ ?_
  · with_reducible apply keeps_muteOutputs
    assumption
  · assumption
theorem keeps_announce {s₀ : State} {s : State} (e : Nat) (hk : Keeps s₀ s) :
    Keeps s₀ (announce e s) := by
  unfold announce
  refine keeps_ite ?_ ?_
  · assumption
  · with_reducible apply keeps_State_log
    with_reducible apply keeps_State_setB
    with_reducible apply keeps_State_set64
    with_reducible apply keeps_State_setB
    with_reducible refine keeps_mk ?_
    assumption
theorem keeps_actAccept {s₀ : State} {s : State} (hk : Keeps s₀ s) :
    Keeps s₀ (actAccept s).1 := by
  unfold actAccept
  split
  · rename_i x1 e2
    refine keeps_pair ?_
    assumption
  · rename_i x3 x4 e5
    refine keeps_ite1 ?_ ?_
    · refine keeps_pair ?_
      assumption
    · refine keeps_pair ?_
      with_reducible apply keeps_holdUpdate
      with_reducible apply keeps_State_setB
      assumption

end Sys2Proof.Machine
end

