-- ==== Sys2Proof/Laws/KeepsRing.lean ====
section
/-! SUPPORT. One lemma for each operation that changes the state: it keeps the queue and the canonical form. Ring control. -/
namespace Sys2Proof.Machine
open Sys2Proof

theorem keeps_State_setCtl {s₀ : State} {s : State} (v : Nat) (hk : Keeps s₀ s) :
    Keeps s₀ (State.setCtl s v) := by
  unfold State.setCtl
  refine keeps_ite ?_ ?_
  · assumption
  · with_reducible apply keeps_State_int
    with_reducible apply keeps_State_set
    assumption
theorem keeps_State_modRct {s₀ : State} {s : State} (f : RctState → RctState) (hk : Keeps s₀ s) :
    Keeps s₀ (State.modRct s f) := by
  unfold State.modRct
  with_reducible refine keeps_mk ?_
  assumption
theorem keeps_ctlCfgWrite {s₀ : State} {s : State} (v : Word) (hk : Keeps s₀ s) :
    Keeps s₀ (ctlCfgWrite v s).1 := by
  unfold ctlCfgWrite
  refine keeps_pair ?_
  with_reducible apply keeps_State_setWord
  with_reducible apply keeps_State_modRct
  assumption
theorem keeps_State_setResult {s₀ : State} {s : State} (r : Nat) (hk : Keeps s₀ s) :
    Keeps s₀ (State.setResult s r) := by
  unfold State.setResult
  with_reducible apply keeps_State_int
  with_reducible apply keeps_State_set
  assumption
theorem keeps_State_ctlSend {s₀ : State} {s : State} (typ : Nat) (ports : List Nat) (body : List Byte) (hk : Keeps s₀ s) :
    Keeps s₀ (State.ctlSend s typ ports body) := by
  unfold State.ctlSend
  extract_lets +onlyGivenNames v1
  clear_value v1
  extract_lets +onlyGivenNames v2
  have hv2 : Keeps s₀ v2 := by
    unfold v2
    with_reducible apply keeps_State_modRct
    assumption
  clear_value v2
  refine keeps_foldl _ _ ?_ ?_
  · assumption
  · intro u3 u4 h5
    with_reducible apply keeps_State_sendOn
    assumption
theorem keeps_State_ctlPass {s₀ : State} {s : State} (p : Nat) (f : List Byte) (turn : List Byte → List Byte) (hk : Keeps s₀ s) :
    Keeps s₀ (State.ctlPass s p f turn) := by
  unfold State.ctlPass
  refine keeps_ite ?_ ?_
  · with_reducible apply keeps_State_sendOn
    assumption
  · with_reducible apply keeps_State_sendOn
    assumption
theorem keeps_State_ctlMark {s₀ : State} {s : State} (f : List Byte) (hk : Keeps s₀ s) :
    Keeps s₀ (State.ctlMark s f) := by
  unfold State.ctlMark
  with_reducible apply keeps_State_modRct
  assumption
theorem keeps_portsUpdate {s₀ : State} {s : State} (hk : Keeps s₀ s) :
    Keeps s₀ (portsUpdate s) := by
  unfold portsUpdate
  with_reducible apply keeps_State_modRct
  assumption
theorem keeps_showTime {s₀ : State} {s : State} (hk : Keeps s₀ s) :
    Keeps s₀ (showTime s) := by
  unfold showTime
  extract_lets +onlyGivenNames v1
  clear_value v1
  extract_lets +onlyGivenNames v2
  clear_value v2
  extract_lets +onlyGivenNames v3
  clear_value v3
  extract_lets +onlyGivenNames v4
  clear_value v4
  extract_lets +onlyGivenNames v5
  clear_value v5
  extract_lets +onlyGivenNames v6
  have hv6 : Keeps s₀ v6 := by
    unfold v6
    with_reducible apply keeps_State_setB
    assumption
  clear_value v6
  extract_lets +onlyGivenNames v7
  have hv7 : Keeps s₀ v7 := by
    unfold v7
    refine keeps_ite ?_ ?_
    · with_reducible apply keeps_State_int
      with_reducible apply keeps_State_setB
      assumption
    · assumption
  clear_value v7
  extract_lets +onlyGivenNames v8
  have hv8 : Keeps s₀ v8 := by
    unfold v8
    with_reducible apply keeps_State_setB
    with_reducible apply keeps_State_setB
    assumption
  clear_value v8
  extract_lets +onlyGivenNames v9
  have hv9 : Keeps s₀ v9 := by
    unfold v9
    with_reducible apply keeps_State_setWord
    assumption
  clear_value v9
  with_reducible apply keeps_State_follow
  assumption
theorem keeps_showRoles {s₀ : State} {s : State} (hk : Keeps s₀ s) :
    Keeps s₀ (showRoles s) := by
  unfold showRoles
  extract_lets +onlyGivenNames v1
  clear_value v1
  extract_lets +onlyGivenNames v2
  clear_value v2
  extract_lets +onlyGivenNames v3
  clear_value v3
  extract_lets +onlyGivenNames v4
  have hv4 : Keeps s₀ v4 := by
    unfold v4
    with_reducible apply keeps_State_set64
    with_reducible apply keeps_State_set64
    assumption
  clear_value v4
  extract_lets +onlyGivenNames v5
  have hv5 : Keeps s₀ v5 := by
    unfold v5
    with_reducible apply keeps_State_set64
    assumption
  clear_value v5
  with_reducible apply keeps_showTime
  with_reducible apply keeps_State_setB
  with_reducible apply keeps_State_setB
  assumption
theorem keeps_State_setCoord {s₀ : State} {s : State} (t : Option Nat) (hk : Keeps s₀ s) :
    Keeps s₀ (State.setCoord s t) := by
  unfold State.setCoord
  refine keeps_ite ?_ ?_
  · assumption
  · with_reducible apply keeps_showRoles
    with_reducible apply keeps_State_int
    with_reducible apply keeps_State_modRct
    assumption
theorem keeps_State_setGm {s₀ : State} {s : State} (g : Option Nat) (hk : Keeps s₀ s) :
    Keeps s₀ (State.setGm s g) := by
  unfold State.setGm
  refine keeps_ite ?_ ?_
  · assumption
  · extract_lets +onlyGivenNames v1
    have hv1 : Keeps s₀ v1 := by
      unfold v1
      with_reducible apply keeps_State_int
      with_reducible apply keeps_State_modRct
      assumption
    clear_value v1
    extract_lets +onlyGivenNames v2
    have hv2 : Keeps s₀ v2 := by
      unfold v2
      refine keeps_ite ?_ ?_
      · with_reducible refine keeps_mk ?_
        assumption
      · assumption
    clear_value v2
    with_reducible apply keeps_showRoles
    with_reducible apply keeps_portsUpdate
    assumption
theorem keeps_State_setStandby {s₀ : State} {s : State} (b : Option Nat) (hk : Keeps s₀ s) :
    Keeps s₀ (State.setStandby s b) := by
  unfold State.setStandby
  with_reducible apply keeps_showRoles
  with_reducible apply keeps_State_modRct
  assumption
theorem keeps_State_note {s₀ : State} {s : State} (tuple : Nat) (pos : Option Nat) (hk : Keeps s₀ s) :
    Keeps s₀ (State.note s tuple pos) := by
  unfold State.note
  with_reducible apply keeps_State_modRct
  assumption
theorem keeps_dropPlan {s₀ : State} {s : State} (hk : Keeps s₀ s) :
    Keeps s₀ (dropPlan s) := by
  unfold dropPlan
  split
  · rename_i x1 e2
    assumption
  · rename_i x3 x4 e5
    extract_lets +onlyGivenNames v6
    clear_value v6
    extract_lets +onlyGivenNames v7
    clear_value v7
    extract_lets +onlyGivenNames v8
    have hv8 : Keeps s₀ v8 := by
      unfold v8
      with_reducible refine keeps_mk ?_
      assumption
    clear_value v8
    extract_lets +onlyGivenNames v9
    have hv9 : Keeps s₀ v9 := by
      unfold v9
      with_reducible apply keeps_State_setWord
      with_reducible apply keeps_State_set
      with_reducible apply keeps_State_set
      with_reducible apply keeps_State_setB
      with_reducible apply keeps_State_setB
      assumption
    clear_value v9
    extract_lets +onlyGivenNames v10
    have hv10 : Keeps s₀ v10 := by
      unfold v10
      with_reducible apply keeps_State_set
      with_reducible apply keeps_State_setWord
      with_reducible apply keeps_State_setWord
      assumption
    clear_value v10
    with_reducible apply keeps_holdUpdate
    with_reducible apply keeps_showTime
    with_reducible apply keeps_portsUpdate
    with_reducible apply keeps_rdpShow
    with_reducible apply keeps_sendConflicts
    with_reducible apply keeps_State_int
    assumption
theorem keeps_leaveTo {s₀ : State} {s : State} (st : Nat) (hk : Keeps s₀ s) :
    Keeps s₀ (leaveTo st s) := by
  unfold leaveTo
  extract_lets +onlyGivenNames v1
  have hv1 : Keeps s₀ v1 := by
    unfold v1
    with_reducible apply keeps_dropPlan
    with_reducible apply keeps_State_setCtl
    assumption
  clear_value v1
  extract_lets +onlyGivenNames v2
  have hv2 : Keeps s₀ v2 := by
    unfold v2
    with_reducible apply keeps_State_modRct
    assumption
  clear_value v2
  extract_lets +onlyGivenNames v3
  have hv3 : Keeps s₀ v3 := by
    unfold v3
    with_reducible apply keeps_State_setStandby
    with_reducible apply keeps_State_setCoord
    assumption
  clear_value v3
  refine keeps_ite ?_ ?_
  · with_reducible apply keeps_State_setGm
    assumption
  · assumption
theorem keeps_State_addDown {s₀ : State} {s : State} (seg : Nat) (reason : Nat) (hk : Keeps s₀ s) :
    Keeps s₀ (State.addDown s seg reason) := by
  unfold State.addDown
  refine keeps_ite ?_ ?_
  · assumption
  · extract_lets +onlyGivenNames v1
    clear_value v1
    extract_lets +onlyGivenNames v2
    clear_value v2
    with_reducible apply keeps_portsUpdate
    with_reducible apply keeps_State_modRct
    assumption
theorem keeps_State_segBack {s₀ : State} {s : State} (seg : Nat) (hk : Keeps s₀ s) :
    Keeps s₀ (State.segBack s seg) := by
  unfold State.segBack
  with_reducible apply keeps_portsUpdate
  with_reducible apply keeps_State_modRct
  assumption
theorem keeps_segLost {s₀ : State} {s : State} (p : Nat) (reason : Nat) (hk : Keeps s₀ s) :
    Keeps s₀ (segLost p reason s) := by
  unfold segLost
  refine keeps_ite ?_ ?_
  · assumption
  · extract_lets +onlyGivenNames v1
    clear_value v1
    extract_lets +onlyGivenNames v2
    have hv2 : Keeps s₀ v2 := by
      unfold v2
      with_reducible apply keeps_State_int
      with_reducible apply keeps_State_setB
      assumption
    clear_value v2
    extract_lets +onlyGivenNames v3
    have hv3 : Keeps s₀ v3 := by
      unfold v3
      with_reducible apply keeps_State_setB
      assumption
    clear_value v3
    extract_lets +onlyGivenNames v4
    have hv4 : Keeps s₀ v4 := by
      unfold v4
      with_reducible apply keeps_State_addDown
      assumption
    clear_value v4
    extract_lets +onlyGivenNames v5
    have hv5 : Keeps s₀ v5 := by
      unfold v5
      with_reducible apply keeps_State_raise
      with_reducible apply keeps_State_modRct
      assumption
    clear_value v5
    extract_lets +onlyGivenNames v6
    have hv6 : Keeps s₀ v6 := by
      unfold v6
      refine keeps_ite ?_ ?_
      · with_reducible apply keeps_State_ctlSend
        assumption
      · assumption
    clear_value v6
    with_reducible apply keeps_portsUpdate
    refine keeps_ite ?_ ?_
    · with_reducible apply keeps_leaveTo
      assumption
    · assumption
theorem keeps_capacityCheck {s₀ : State} {s : State} (hk : Keeps s₀ s) :
    Keeps s₀ (capacityCheck s) := by
  unfold capacityCheck
  split
  · rename_i x1 e2
    assumption
  · rename_i x3 x4 e5
    refine keeps_foldl _ _ ?_ ?_
    · assumption
    · intro u6 u7 h8
      refine keeps_ite ?_ ?_
      · with_reducible apply keeps_segLost
        assumption
      · assumption
theorem keeps_State_showDown {s₀ : State} {s : State} (segs : List Nat) (hk : Keeps s₀ s) :
    Keeps s₀ (State.showDown s segs) := by
  unfold State.showDown
  with_reducible apply keeps_State_setWord
  with_reducible apply keeps_State_setWord
  assumption
theorem keeps_sendBeacon {s₀ : State} {s : State} (handoff : Bool) (hk : Keeps s₀ s) :
    Keeps s₀ (sendBeacon handoff s) := by
  unfold sendBeacon
  extract_lets +onlyGivenNames v1
  clear_value v1
  extract_lets +onlyGivenNames v2
  have hv2 : Keeps s₀ v2 := by
    unfold v2
    with_reducible apply keeps_State_ctlSend
    assumption
  clear_value v2
  extract_lets +onlyGivenNames v3
  clear_value v3
  extract_lets +onlyGivenNames v4
  clear_value v4
  extract_lets +onlyGivenNames v5
  have hv5 : Keeps s₀ v5 := by
    unfold v5
    with_reducible refine keeps_mk ?_
    assumption
  clear_value v5
  extract_lets +onlyGivenNames v6
  have hv6 : Keeps s₀ v6 := by
    unfold v6
    with_reducible apply keeps_State_setB
    assumption
  clear_value v6
  with_reducible apply keeps_portsUpdate
  with_reducible apply keeps_State_showDown
  with_reducible apply keeps_State_set
  assumption
theorem keeps_sendRolls {s₀ : State} {s : State} (hk : Keeps s₀ s) :
    Keeps s₀ (sendRolls s) := by
  unfold sendRolls
  extract_lets +onlyGivenNames v1
  have hv1 : Keeps s₀ v1 := by
    unfold v1
    with_reducible apply keeps_State_modRct
    assumption
  clear_value v1
  extract_lets +onlyGivenNames v2
  have hv2 : Keeps s₀ v2 := by
    unfold v2
    with_reducible apply keeps_State_setB
    assumption
  clear_value v2
  extract_lets +onlyGivenNames v3
  clear_value v3
  extract_lets +onlyGivenNames v4
  have hv4 : Keeps s₀ v4 := by
    unfold v4
    refine keeps_ite ?_ ?_
    · with_reducible apply keeps_State_ctlSend
      assumption
    · assumption
  clear_value v4
  refine keeps_ite ?_ ?_
  · with_reducible apply keeps_State_ctlSend
    assumption
  · assumption
theorem keeps_buildPlan {s₀ : State} {s : State} (hk : Keeps s₀ s) :
    Keeps s₀ (buildPlan s) := by
  unfold buildPlan
  extract_lets +onlyGivenNames v1
  clear_value v1
  extract_lets +onlyGivenNames v2
  clear_value v2
  extract_lets +onlyGivenNames v3
  have hv3 : Keeps s₀ v3 := by
    unfold v3
    with_reducible apply keeps_State_setStandby
    assumption
  clear_value v3
  extract_lets +onlyGivenNames v4
  clear_value v4
  extract_lets +onlyGivenNames v5
  clear_value v5
  extract_lets +onlyGivenNames v6
  have hv6 : Keeps s₀ v6 := by
    unfold v6
    with_reducible apply keeps_State_modRct
    assumption
  clear_value v6
  with_reducible apply keeps_State_ctlSend
  assumption
theorem keeps_planFix {s₀ : State} {s : State} (hk : Keeps s₀ s) :
    Keeps s₀ (planFix s) := by
  unfold planFix
  split
  · rename_i x1 e2
    assumption
  · rename_i x3 x4 e5
    refine keeps_ite ?_ ?_
    · with_reducible apply keeps_buildPlan
      assumption
    · assumption
theorem keeps_sendsCheck {s₀ : State} {s : State} (hk : Keeps s₀ s) :
    Keeps s₀ (sendsCheck s) := by
  unfold sendsCheck
  refine keeps_ite ?_ ?_
  · with_reducible apply keeps_planFix
    assumption
  · refine keeps_ite ?_ ?_
    · with_reducible apply keeps_State_modRct
      assumption
    · assumption
theorem keeps_renumber {s₀ : State} {s : State} (move : Nat → Option Nat) (hk : Keeps s₀ s) :
    Keeps s₀ (renumber move s) := by
  unfold renumber
  refine keeps_ite ?_ ?_
  · assumption
  · extract_lets +onlyGivenNames v1
    clear_value v1
    extract_lets +onlyGivenNames v2
    clear_value v2
    with_reducible apply keeps_State_modRct
    assumption
theorem keeps_putPlan {s₀ : State} {s : State} (p : Plan) (late : Bool) (hk : Keeps s₀ s) :
    Keeps s₀ (putPlan p late s) := by
  unfold putPlan
  extract_lets +onlyGivenNames v1
  clear_value v1
  extract_lets +onlyGivenNames v2
  clear_value v2
  extract_lets +onlyGivenNames v3
  clear_value v3
  extract_lets +onlyGivenNames v4
  clear_value v4
  extract_lets +onlyGivenNames v5
  clear_value v5
  extract_lets +onlyGivenNames v6
  have hv6 : Keeps s₀ v6 := by
    unfold v6
    with_reducible refine keeps_mk ?_
    assumption
  clear_value v6
  extract_lets +onlyGivenNames v7
  have hv7 : Keeps s₀ v7 := by
    unfold v7
    with_reducible apply keeps_renumber
    assumption
  clear_value v7
  extract_lets +onlyGivenNames v8
  have hv8 : Keeps s₀ v8 := by
    unfold v8
    refine keeps_ite ?_ ?_
    · with_reducible apply keeps_State_inc
      assumption
    · assumption
  clear_value v8
  extract_lets +onlyGivenNames v9
  have hv9 : Keeps s₀ v9 := by
    unfold v9
    with_reducible apply keeps_State_set
    with_reducible apply keeps_State_set
    assumption
  clear_value v9
  extract_lets +onlyGivenNames v10
  have hv10 : Keeps s₀ v10 := by
    unfold v10
    with_reducible apply keeps_rdpShow
    with_reducible apply keeps_sendConflicts
    with_reducible apply keeps_State_int
    assumption
  clear_value v10
  extract_lets +onlyGivenNames v11
  have hv11 : Keeps s₀ v11 := by
    unfold v11
    with_reducible apply keeps_showTime
    with_reducible apply keeps_portsUpdate
    assumption
  clear_value v11
  extract_lets +onlyGivenNames v12
  have hv12 : Keeps s₀ v12 := by
    unfold v12
    with_reducible apply keeps_holdUpdate
    with_reducible apply keeps_announce
    assumption
  clear_value v12
  with_reducible apply keeps_capacityCheck
  with_reducible apply keeps_sendsCheck
  assumption
theorem keeps_planCheck {s₀ : State} {s : State} (hk : Keeps s₀ s) :
    Keeps s₀ (planCheck s) := by
  unfold planCheck
  extract_lets +onlyGivenNames v1
  clear_value v1
  extract_lets +onlyGivenNames v2
  clear_value v2
  refine keeps_ite ?_ ?_
  · assumption
  · split
    · rename_i x3 e4
      assumption
    · rename_i x5 x6 e7
      with_reducible apply keeps_putPlan
      assumption
theorem keeps_buildIfHeld {s₀ : State} {s : State} (hk : Keeps s₀ s) :
    Keeps s₀ (buildIfHeld s) := by
  unfold buildIfHeld
  split
  · rename_i x1 x2 x3 e4 e5
    refine keeps_ite ?_ ?_
    · with_reducible apply keeps_buildPlan
      assumption
    · assumption
  · rename_i x6 x7 x8
    assumption
theorem keeps_reroll {s₀ : State} {s : State} (hk : Keeps s₀ s) :
    Keeps s₀ (reroll s) := by
  unfold reroll
  refine keeps_ite ?_ ?_
  · assumption
  · refine keeps_ite ?_ ?_
    · with_reducible apply keeps_State_modRct
      assumption
    · with_reducible apply keeps_sendRolls
      assumption
theorem keeps_rerollCheck {s₀ : State} {s : State} (hk : Keeps s₀ s) :
    Keeps s₀ (rerollCheck s) := by
  unfold rerollCheck
  refine keeps_ite ?_ ?_
  · with_reducible apply keeps_reroll
    assumption
  · assumption
theorem keeps_electCoord {s₀ : State} {s : State} (hk : Keeps s₀ s) :
    Keeps s₀ (electCoord s) := by
  unfold electCoord
  extract_lets +onlyGivenNames v1
  have hv1 : Keeps s₀ v1 := by
    unfold v1
    with_reducible apply keeps_State_inc
    with_reducible apply keeps_State_setCtl
    assumption
  clear_value v1
  extract_lets +onlyGivenNames v2
  have hv2 : Keeps s₀ v2 := by
    unfold v2
    with_reducible apply keeps_State_modRct
    assumption
  clear_value v2
  extract_lets +onlyGivenNames v3
  have hv3 : Keeps s₀ v3 := by
    unfold v3
    with_reducible apply keeps_State_setStandby
    with_reducible apply keeps_State_setGm
    with_reducible apply keeps_State_setCoord
    assumption
  clear_value v3
  with_reducible apply keeps_sendRolls
  with_reducible apply keeps_sendBeacon
  assumption
theorem keeps_takeOver {s₀ : State} {s : State} (hk : Keeps s₀ s) :
    Keeps s₀ (takeOver s) := by
  unfold takeOver
  extract_lets +onlyGivenNames v1
  clear_value v1
  extract_lets +onlyGivenNames v2
  have hv2 : Keeps s₀ v2 := by
    unfold v2
    with_reducible apply keeps_State_inc
    with_reducible apply keeps_State_setCtl
    assumption
  clear_value v2
  extract_lets +onlyGivenNames v3
  have hv3 : Keeps s₀ v3 := by
    unfold v3
    with_reducible apply keeps_State_modRct
    assumption
  clear_value v3
  extract_lets +onlyGivenNames v4
  have hv4 : Keeps s₀ v4 := by
    unfold v4
    with_reducible apply keeps_State_setCoord
    assumption
  clear_value v4
  extract_lets +onlyGivenNames v5
  have hv5 : Keeps s₀ v5 := by
    unfold v5
    refine keeps_ite ?_ ?_
    · with_reducible apply keeps_State_setGm
      assumption
    · assumption
  clear_value v5
  with_reducible apply keeps_buildPlan
  with_reducible apply keeps_sendBeacon
  with_reducible apply keeps_State_setStandby
  assumption
theorem keeps_followP {s₀ : State} {s : State} (hk : Keeps s₀ s) :
    Keeps s₀ (follow' s) := by
  unfold follow'
  extract_lets +onlyGivenNames v1
  have hv1 : Keeps s₀ v1 := by
    unfold v1
    with_reducible apply keeps_State_modRct
    with_reducible apply keeps_State_setCtl
    assumption
  clear_value v1
  extract_lets +onlyGivenNames v2
  clear_value v2
  extract_lets +onlyGivenNames v3
  have hv3 : Keeps s₀ v3 := by
    unfold v3
    with_reducible refine keeps_mk ?_
    assumption
  clear_value v3
  refine keeps_ite ?_ ?_
  · with_reducible apply keeps_State_modRct
    assumption
  · assumption
theorem keeps_dupMac {s₀ : State} {s : State} (f : List Byte) (hk : Keeps s₀ s) :
    Keeps s₀ (dupMac f s) := by
  unfold dupMac
  refine keeps_ite ?_ ?_
  · assumption
  · extract_lets +onlyGivenNames v1
    clear_value v1
    extract_lets +onlyGivenNames v2
    have hv2 : Keeps s₀ v2 := by
      unfold v2
      with_reducible apply keeps_State_raise
      with_reducible apply keeps_State_int
      with_reducible apply keeps_State_setB
      assumption
    clear_value v2
    extract_lets +onlyGivenNames v3
    have hv3 : Keeps s₀ v3 := by
      unfold v3
      refine keeps_ite ?_ ?_
      · with_reducible apply keeps_State_setCoord
        with_reducible apply keeps_followP
        assumption
      · assumption
    clear_value v3
    extract_lets +onlyGivenNames v4
    have hv4 : Keeps s₀ v4 := by
      unfold v4
      refine keeps_ite ?_ ?_
      · with_reducible apply keeps_State_setGm
        assumption
      · assumption
    clear_value v4
    refine keeps_ite ?_ ?_
    · with_reducible apply keeps_State_setStandby
      assumption
    · assumption
theorem keeps_ctlIn {s₀ : State} {s : State} (typ : Nat) (portB : Bool) (f : List Byte) (act : State → State) (hk : Keeps s₀ s) (h_act : ∀ a0, Keeps s₀ a0 → Keeps s₀ (act a0)) :
    Keeps s₀ (ctlIn typ portB f act s) := by
  unfold ctlIn
  extract_lets +onlyGivenNames v1
  clear_value v1
  refine keeps_ite ?_ ?_
  · assumption
  · extract_lets +onlyGivenNames v2
    have hv2 : Keeps s₀ v2 := by
      unfold v2
      with_reducible apply keeps_State_rxCount
      with_reducible apply keeps_State_event
      assumption
    clear_value v2
    refine keeps_ite ?_ ?_
    · assumption
    · refine keeps_ite ?_ ?_
      · with_reducible apply keeps_State_inc
        assumption
      · with_reducible apply h_act
        assumption
theorem keeps_ctlFlood {s₀ : State} {s : State} (typ : Nat) (portB : Bool) (f : List Byte) (ret : State → State) (act : State → State) (hk : Keeps s₀ s) (h_ret : ∀ a0, Keeps s₀ a0 → Keeps s₀ (ret a0)) (h_act : ∀ a0, Keeps s₀ a0 → Keeps s₀ (act a0)) :
    Keeps s₀ (ctlFlood typ portB f ret act s) := by
  unfold ctlFlood
  with_reducible apply keeps_ctlIn
  · assumption
  · intro u1 h2
    extract_lets +onlyGivenNames v3
    clear_value v3
    refine keeps_ite ?_ ?_
    · assumption
    · refine keeps_ite ?_ ?_
      · refine keeps_ite ?_ ?_
        · with_reducible apply h_ret
          assumption
        · assumption
      · refine keeps_ite ?_ ?_
        · assumption
        · extract_lets +onlyGivenNames v4
          have hv4 : Keeps s₀ v4 := by
            unfold v4
            with_reducible apply keeps_State_ctlPass
            assumption
          clear_value v4
          refine keeps_ite ?_ ?_
          · with_reducible apply h_act
            with_reducible apply keeps_State_ctlMark
            assumption
          · assumption
theorem keeps_State_heardDown {s₀ : State} {s : State} (segs : List Nat) (hk : Keeps s₀ s) :
    Keeps s₀ (State.heardDown s segs) := by
  unfold State.heardDown
  extract_lets +onlyGivenNames v1
  clear_value v1
  with_reducible apply keeps_State_modRct
  assumption
theorem keeps_beaconAdopt {s₀ : State} {s : State} (f : List Byte) (hk : Keeps s₀ s) :
    Keeps s₀ (beaconAdopt f s) := by
  unfold beaconAdopt
  extract_lets +onlyGivenNames v1
  clear_value v1
  extract_lets +onlyGivenNames v2
  have hv2 : Keeps s₀ v2 := by
    unfold v2
    refine keeps_ite ?_ ?_
    · assumption
    · with_reducible apply keeps_followP
      assumption
  clear_value v2
  extract_lets +onlyGivenNames v3
  have hv3 : Keeps s₀ v3 := by
    unfold v3
    with_reducible apply keeps_State_modRct
    assumption
  clear_value v3
  extract_lets +onlyGivenNames v4
  have hv4 : Keeps s₀ v4 := by
    unfold v4
    with_reducible apply keeps_State_setGm
    with_reducible apply keeps_State_setStandby
    with_reducible apply keeps_State_setCoord
    assumption
  clear_value v4
  extract_lets +onlyGivenNames v5
  have hv5 : Keeps s₀ v5 := by
    unfold v5
    with_reducible apply keeps_State_set
    with_reducible apply keeps_State_setB
    assumption
  clear_value v5
  extract_lets +onlyGivenNames v6
  clear_value v6
  extract_lets +onlyGivenNames v7
  have hv7 : Keeps s₀ v7 := by
    unfold v7
    with_reducible apply keeps_portsUpdate
    with_reducible apply keeps_State_heardDown
    with_reducible apply keeps_State_showDown
    assumption
  clear_value v7
  refine keeps_ite ?_ ?_
  · with_reducible apply keeps_takeOver
    assumption
  · assumption
theorem keeps_beaconAct {s₀ : State} {s : State} (f : List Byte) (hk : Keeps s₀ s) :
    Keeps s₀ (beaconAct f s) := by
  unfold beaconAct
  extract_lets +onlyGivenNames v1
  clear_value v1
  extract_lets +onlyGivenNames v2
  have hv2 : Keeps s₀ v2 := by
    unfold v2
    with_reducible apply keeps_dupMac
    with_reducible apply keeps_State_note
    assumption
  clear_value v2
  refine keeps_ite ?_ ?_
  · refine keeps_ite ?_ ?_
    · with_reducible apply keeps_beaconAdopt
      assumption
    · with_reducible apply keeps_reroll
      assumption
  · refine keeps_ite ?_ ?_
    · split
      · rename_i x3 e4
        with_reducible apply keeps_beaconAdopt
        assumption
      · rename_i x5 x6 e7
        refine keeps_ite ?_ ?_
        · with_reducible apply keeps_beaconAdopt
          assumption
        · assumption
    · refine keeps_ite ?_ ?_
      · assumption
      · with_reducible apply keeps_beaconAdopt
        assumption
theorem keeps_beaconReturn {s₀ : State} {s : State} (p : Nat) (f : List Byte) (hk : Keeps s₀ s) :
    Keeps s₀ (beaconReturn p f s) := by
  unfold beaconReturn
  split
  · rename_i x1 e2
    assumption
  · rename_i x3 x4 e5
    extract_lets +onlyGivenNames v6
    clear_value v6
    refine keeps_ite ?_ ?_
    · assumption
    · refine keeps_ite ?_ ?_
      · split
        · rename_i x7 x8 x9 x10 e11 e12
          with_reducible apply keeps_State_modRct
          assumption
        · rename_i x13 x14 x15
          with_reducible apply keeps_State_modRct
          assumption
      · refine keeps_ite ?_ ?_
        · with_reducible apply keeps_State_modRct
          assumption
        · assumption
theorem keeps_beaconRx {s₀ : State} {s : State} (portB : Bool) (f : List Byte) (hk : Keeps s₀ s) :
    Keeps s₀ (beaconRx portB f s) := by
  unfold beaconRx
  with_reducible apply keeps_ctlFlood
  · assumption
  · intro u1 h2
    with_reducible apply keeps_beaconReturn
    assumption
  · intro u3 h4
    with_reducible apply keeps_beaconAct
    assumption
theorem keeps_claimReturn {s₀ : State} {s : State} (f : List Byte) (hk : Keeps s₀ s) :
    Keeps s₀ (claimReturn f s) := by
  unfold claimReturn
  refine keeps_ite ?_ ?_
  · assumption
  · extract_lets +onlyGivenNames v1
    have hv1 : Keeps s₀ v1 := by
      unfold v1
      with_reducible apply keeps_State_modRct
      assumption
    clear_value v1
    refine keeps_ite ?_ ?_
    · with_reducible apply keeps_electCoord
      assumption
    · assumption
theorem keeps_claimRx {s₀ : State} {s : State} (portB : Bool) (f : List Byte) (hk : Keeps s₀ s) :
    Keeps s₀ (claimRx portB f s) := by
  unfold claimRx
  with_reducible apply keeps_ctlIn
  · assumption
  · intro u1 h2
    extract_lets +onlyGivenNames v3
    clear_value v3
    refine keeps_ite ?_ ?_
    · assumption
    · refine keeps_ite ?_ ?_
      · with_reducible apply keeps_claimReturn
        assumption
      · refine keeps_ite ?_ ?_
        · assumption
        · extract_lets +onlyGivenNames v4
          clear_value v4
          extract_lets +onlyGivenNames v5
          have hv5 : Keeps s₀ v5 := by
            unfold v5
            with_reducible apply keeps_dupMac
            with_reducible apply keeps_State_note
            assumption
          clear_value v5
          extract_lets +onlyGivenNames v6
          clear_value v6
          extract_lets +onlyGivenNames v7
          clear_value v7
          extract_lets +onlyGivenNames v8
          clear_value v8
          extract_lets +onlyGivenNames v9
          have hv9 : Keeps s₀ v9 := by
            unfold v9
            with_reducible apply keeps_State_modRct
            assumption
          clear_value v9
          refine keeps_ite ?_ ?_
          · assumption
          · extract_lets +onlyGivenNames v10
            have hv10 : Keeps s₀ v10 := by
              unfold v10
              with_reducible apply keeps_State_ctlPass
              assumption
            clear_value v10
            refine keeps_ite ?_ ?_
            · with_reducible apply keeps_State_setCtl
              assumption
            · assumption
theorem keeps_rollTake {s₀ : State} {s : State} (p : Nat) (f : List Byte) (hk : Keeps s₀ s) :
    Keeps s₀ (rollTake p f s) := by
  unfold rollTake
  extract_lets +onlyGivenNames v1
  clear_value v1
  extract_lets +onlyGivenNames v2
  clear_value v2
  extract_lets +onlyGivenNames v3
  have hv3 : Keeps s₀ v3 := by
    unfold v3
    with_reducible apply keeps_State_modRct
    assumption
  clear_value v3
  extract_lets +onlyGivenNames v4
  have hv4 : Keeps s₀ v4 := by
    unfold v4
    with_reducible apply keeps_State_modRct
    assumption
  clear_value v4
  extract_lets +onlyGivenNames v5
  have hv5 : Keeps s₀ v5 := by
    unfold v5
    refine keeps_ite ?_ ?_
    · with_reducible apply keeps_State_setB
      assumption
    · refine keeps_ite ?_ ?_
      · with_reducible apply keeps_State_setB
        assumption
      · assumption
  clear_value v5
  with_reducible apply keeps_portsUpdate
  assumption
theorem keeps_rollReturn {s₀ : State} {s : State} (p : Nat) (f : List Byte) (hk : Keeps s₀ s) :
    Keeps s₀ (rollReturn p f s) := by
  unfold rollReturn
  refine keeps_ite ?_ ?_
  · assumption
  · with_reducible apply keeps_buildIfHeld
    with_reducible apply keeps_State_modRct
    assumption
theorem keeps_rollRx {s₀ : State} {s : State} (portB : Bool) (f : List Byte) (hk : Keeps s₀ s) :
    Keeps s₀ (rollRx portB f s) := by
  unfold rollRx
  with_reducible apply keeps_ctlIn
  · assumption
  · intro u1 h2
    extract_lets +onlyGivenNames v3
    clear_value v3
    refine keeps_ite ?_ ?_
    · assumption
    · refine keeps_ite ?_ ?_
      · refine keeps_ite ?_ ?_
        · with_reducible apply keeps_rollReturn
          assumption
        · assumption
      · refine keeps_ite ?_ ?_
        · assumption
        · extract_lets +onlyGivenNames v4
          have hv4 : Keeps s₀ v4 := by
            unfold v4
            with_reducible apply keeps_State_ctlPass
            assumption
          clear_value v4
          refine keeps_ite ?_ ?_
          · with_reducible apply keeps_rollTake
            with_reducible apply keeps_State_ctlMark
            assumption
          · assumption
theorem keeps_reportAct {s₀ : State} {s : State} (f : List Byte) (hk : Keeps s₀ s) :
    Keeps s₀ (reportAct f s) := by
  unfold reportAct
  extract_lets +onlyGivenNames v1
  clear_value v1
  extract_lets +onlyGivenNames v2
  clear_value v2
  extract_lets +onlyGivenNames v3
  clear_value v3
  extract_lets +onlyGivenNames v4
  clear_value v4
  extract_lets +onlyGivenNames v5
  clear_value v5
  extract_lets +onlyGivenNames v6
  have hv6 : Keeps s₀ v6 := by
    unfold v6
    with_reducible apply keeps_dupMac
    with_reducible apply keeps_State_note
    assumption
  clear_value v6
  extract_lets +onlyGivenNames v7
  clear_value v7
  extract_lets +onlyGivenNames v8
  have hv8 : Keeps s₀ v8 := by
    unfold v8
    with_reducible apply keeps_State_modRct
    assumption
  clear_value v8
  refine keeps_ite ?_ ?_
  · assumption
  · extract_lets +onlyGivenNames v9
    have hv9 : Keeps s₀ v9 := by
      unfold v9
      refine keeps_ite ?_ ?_
      · with_reducible apply keeps_State_setGm
        assumption
      · assumption
    clear_value v9
    refine keeps_ite ?_ ?_
    · with_reducible apply keeps_buildIfHeld
      assumption
    · refine keeps_ite ?_ ?_
      · with_reducible apply keeps_buildPlan
        assumption
      · refine keeps_ite ?_ ?_
        · with_reducible apply keeps_reroll
          assumption
        · with_reducible apply keeps_planFix
          assumption
theorem keeps_reportRx {s₀ : State} {s : State} (portB : Bool) (f : List Byte) (hk : Keeps s₀ s) :
    Keeps s₀ (reportRx portB f s) := by
  unfold reportRx
  with_reducible apply keeps_ctlFlood
  · assumption
  · intro u1 h2
    refine keeps_id ?_
    assumption
  · intro u3 h4
    with_reducible apply keeps_reportAct
    assumption
theorem keeps_planAct {s₀ : State} {s : State} (f : List Byte) (hk : Keeps s₀ s) :
    Keeps s₀ (planAct f s) := by
  unfold planAct
  extract_lets +onlyGivenNames v1
  clear_value v1
  refine keeps_ite ?_ ?_
  · assumption
  · extract_lets +onlyGivenNames v2
    have hv2 : Keeps s₀ v2 := by
      unfold v2
      refine keeps_ite ?_ ?_
      · assumption
      · with_reducible apply keeps_followP
        assumption
    clear_value v2
    refine keeps_ite ?_ ?_
    · assumption
    · with_reducible apply keeps_State_modRct
      assumption
theorem keeps_planRx {s₀ : State} {s : State} (portB : Bool) (f : List Byte) (hk : Keeps s₀ s) :
    Keeps s₀ (planRx portB f s) := by
  unfold planRx
  with_reducible apply keeps_ctlFlood
  · assumption
  · intro u1 h2
    refine keeps_id ?_
    assumption
  · intro u3 h4
    with_reducible apply keeps_planAct
    assumption
theorem keeps_segmentAct {s₀ : State} {s : State} (f : List Byte) (hk : Keeps s₀ s) :
    Keeps s₀ (segmentAct f s) := by
  unfold segmentAct
  extract_lets +onlyGivenNames v1
  clear_value v1
  refine keeps_ite ?_ ?_
  · with_reducible apply keeps_State_addDown
    assumption
  · refine keeps_ite ?_ ?_
    · assumption
    · refine keeps_ite ?_ ?_
      · with_reducible apply keeps_reroll
        assumption
      · with_reducible apply keeps_State_segBack
        assumption
theorem keeps_segmentRx {s₀ : State} {s : State} (portB : Bool) (f : List Byte) (hk : Keeps s₀ s) :
    Keeps s₀ (segmentRx portB f s) := by
  unfold segmentRx
  with_reducible apply keeps_ctlFlood
  · assumption
  · intro u1 h2
    refine keeps_id ?_
    assumption
  · intro u3 h4
    with_reducible apply keeps_segmentAct
    assumption
theorem keeps_enterService {s₀ : State} {s : State} (p : Nat) (hk : Keeps s₀ s) :
    Keeps s₀ (enterService p s) := by
  unfold enterService
  extract_lets +onlyGivenNames v1
  have hv1 : Keeps s₀ v1 := by
    unfold v1
    with_reducible apply keeps_State_int
    with_reducible apply keeps_State_setB
    assumption
  clear_value v1
  extract_lets +onlyGivenNames v2
  have hv2 : Keeps s₀ v2 := by
    unfold v2
    with_reducible apply keeps_portsUpdate
    refine keeps_ite ?_ ?_
    · with_reducible apply keeps_State_setCtl
      assumption
    · assumption
  clear_value v2
  split
  · rename_i x3 e4
    assumption
  · rename_i x5 x6 x7 x8 e9
    extract_lets +onlyGivenNames v10
    extract_lets +onlyGivenNames v11
    clear_value v11
    extract_lets +onlyGivenNames v12
    have hv12 : ∀ a1 a2, Keeps s₀ a2 → Keeps s₀ (v12 a1 a2) := by
      unfold v12
      intro u13 u14 h15
      refine keeps_ite ?_ ?_
      · with_reducible apply keeps_State_ctlSend
        assumption
      · assumption
    clear_value v12
    refine keeps_ite ?_ ?_
    · with_reducible apply keeps_State_segBack
      with_reducible apply hv12
      assumption
    · refine keeps_ite ?_ ?_
      · with_reducible apply keeps_reroll
        assumption
      · refine keeps_ite ?_ ?_
        · assumption
        · refine keeps_ite ?_ ?_
          · with_reducible apply keeps_reroll
            assumption
          · with_reducible apply hv12
            assumption
theorem keeps_serviceCheck {s₀ : State} {s : State} (p : Nat) (hk : Keeps s₀ s) :
    Keeps s₀ (serviceCheck p s) := by
  unfold serviceCheck
  refine keeps_ite ?_ ?_
  · with_reducible apply keeps_enterService
    assumption
  · assumption
theorem keeps_probeRx {s₀ : State} {s : State} (portB : Bool) (f : List Byte) (hk : Keeps s₀ s) :
    Keeps s₀ (probeRx portB f s) := by
  unfold probeRx
  with_reducible apply keeps_ctlIn
  · assumption
  · intro u1 h2
    extract_lets +onlyGivenNames v3
    clear_value v3
    extract_lets +onlyGivenNames v4
    have hv4 : Keeps s₀ v4 := by
      unfold v4
      with_reducible apply keeps_State_modRct
      assumption
    clear_value v4
    with_reducible apply keeps_serviceCheck
    assumption
theorem keeps_probeSend {s₀ : State} {s : State} (p : Nat) (hk : Keeps s₀ s) :
    Keeps s₀ (probeSend p s) := by
  unfold probeSend
  refine keeps_ite ?_ ?_
  · assumption
  · extract_lets +onlyGivenNames v1
    clear_value v1
    extract_lets +onlyGivenNames v2
    clear_value v2
    extract_lets +onlyGivenNames v3
    clear_value v3
    with_reducible apply keeps_State_ctlSend
    assumption
theorem keeps_holdOffDone {s₀ : State} {s : State} (p : Nat) (hk : Keeps s₀ s) :
    Keeps s₀ (holdOffDone p s) := by
  unfold holdOffDone
  refine keeps_ite ?_ ?_
  · with_reducible apply keeps_serviceCheck
    with_reducible apply keeps_State_set
    with_reducible apply keeps_State_setB
    assumption
  · assumption
theorem keeps_dropCount {s₀ : State} {s : State} (p : Nat) (hk : Keeps s₀ s) :
    Keeps s₀ (dropCount p s) := by
  unfold dropCount
  extract_lets +onlyGivenNames v1
  clear_value v1
  extract_lets +onlyGivenNames v2
  clear_value v2
  extract_lets +onlyGivenNames v3
  clear_value v3
  extract_lets +onlyGivenNames v4
  have hv4 : Keeps s₀ v4 := by
    unfold v4
    with_reducible apply keeps_State_modRct
    assumption
  clear_value v4
  extract_lets +onlyGivenNames v5
  clear_value v5
  refine keeps_ite ?_ ?_
  · with_reducible apply keeps_State_raise
    with_reducible apply keeps_State_modRct
    assumption
  · assumption
theorem keeps_ringLinkDown {s₀ : State} {s : State} (p : Nat) (hk : Keeps s₀ s) :
    Keeps s₀ (ringLinkDown p s) := by
  unfold ringLinkDown
  extract_lets +onlyGivenNames v1
  have hv1 : Keeps s₀ v1 := by
    unfold v1
    with_reducible apply keeps_State_set
    with_reducible apply keeps_State_setB
    with_reducible apply keeps_State_setB
    assumption
  clear_value v1
  extract_lets +onlyGivenNames v2
  have hv2 : Keeps s₀ v2 := by
    unfold v2
    refine keeps_ite ?_ ?_
    · assumption
    · with_reducible apply keeps_segLost
      with_reducible apply keeps_State_modRct
      with_reducible apply keeps_dropCount
      assumption
  clear_value v2
  with_reducible apply keeps_showBound
  assumption
theorem keeps_ringLinkUp {s₀ : State} {s : State} (p : Nat) (speed : Nat) (hk : Keeps s₀ s) :
    Keeps s₀ (ringLinkUp p speed s) := by
  unfold ringLinkUp
  extract_lets +onlyGivenNames v1
  have hv1 : Keeps s₀ v1 := by
    unfold v1
    with_reducible apply keeps_State_set
    with_reducible apply keeps_State_setB
    with_reducible apply keeps_State_setB
    assumption
  clear_value v1
  extract_lets +onlyGivenNames v2
  have hv2 : Keeps s₀ v2 := by
    unfold v2
    with_reducible apply keeps_showBound
    with_reducible apply keeps_State_modRct
    assumption
  clear_value v2
  refine keeps_ite ?_ ?_
  · assumption
  · with_reducible apply keeps_State_set
    assumption
theorem keeps_linkDown {s₀ : State} {s : State} (p : Nat) (hk : Keeps s₀ s) :
    Keeps s₀ (linkDown p s) := by
  unfold linkDown
  refine keeps_ite ?_ ?_
  · assumption
  · extract_lets +onlyGivenNames v1
    clear_value v1
    extract_lets +onlyGivenNames v2
    clear_value v2
    extract_lets +onlyGivenNames v3
    have hv3 : Keeps s₀ v3 := by
      unfold v3
      with_reducible refine keeps_mk ?_
      assumption
    clear_value v3
    extract_lets +onlyGivenNames v4
    have hv4 : Keeps s₀ v4 := by
      unfold v4
      with_reducible apply keeps_State_set
      with_reducible apply keeps_State_setB
      with_reducible apply keeps_State_setB
      assumption
    clear_value v4
    extract_lets +onlyGivenNames v5
    have hv5 : Keeps s₀ v5 := by
      unfold v5
      with_reducible apply keeps_State_int
      with_reducible apply keeps_State_cntBy
      with_reducible apply keeps_State_cnt
      with_reducible apply keeps_State_setB
      assumption
    clear_value v5
    refine keeps_ite ?_ ?_
    · with_reducible apply keeps_ringLinkDown
      with_reducible apply keeps_State_modRct
      assumption
    · assumption
theorem keeps_actTmReq {s₀ : State} {s : State} (hk : Keeps s₀ s) :
    Keeps s₀ (actTmReq s).1 := by
  unfold actTmReq
  extract_lets +onlyGivenNames v1
  clear_value v1
  extract_lets +onlyGivenNames v2
  clear_value v2
  extract_lets +onlyGivenNames v3
  clear_value v3
  refine keeps_ite1 ?_ ?_
  · refine keeps_pair ?_
    with_reducible apply keeps_State_setResult
    assumption
  · refine keeps_ite1 ?_ ?_
    · refine keeps_pair ?_
      with_reducible apply keeps_State_setResult
      assumption
    · extract_lets +onlyGivenNames v4
      have hv4 : Keeps s₀ v4 := by
        unfold v4
        with_reducible apply keeps_State_modRct
        assumption
      clear_value v4
      refine keeps_pair ?_
      with_reducible apply keeps_State_ctlSend
      assumption
theorem keeps_timingReqAct {s₀ : State} {s : State} (f : List Byte) (hk : Keeps s₀ s) :
    Keeps s₀ (timingReqAct f s) := by
  unfold timingReqAct
  extract_lets +onlyGivenNames v1
  clear_value v1
  extract_lets +onlyGivenNames v2
  clear_value v2
  refine keeps_ite ?_ ?_
  · assumption
  · split
    · rename_i x3 e4
      extract_lets +onlyGivenNames v5
      clear_value v5
      extract_lets +onlyGivenNames v6
      clear_value v6
      refine keeps_ite ?_ ?_
      · assumption
      · with_reducible apply keeps_State_ctlSend
        with_reducible apply keeps_State_modRct
        assumption
    · rename_i x7 x8 e9
      refine keeps_ite ?_ ?_
      · assumption
      · extract_lets +onlyGivenNames v10
        have hv10 : Keeps s₀ v10 := by
          unfold v10
          with_reducible apply keeps_State_setResult
          with_reducible apply keeps_State_modRct
          assumption
        clear_value v10
        extract_lets +onlyGivenNames v11
        clear_value v11
        refine keeps_ite ?_ ?_
        · extract_lets +onlyGivenNames v12
          clear_value v12
          extract_lets +onlyGivenNames v13
          have hv13 : Keeps s₀ v13 := by
            unfold v13
            with_reducible apply keeps_State_modRct
            assumption
          clear_value v13
          with_reducible apply keeps_State_ctlSend
          assumption
        · assumption
theorem keeps_timingAckAct {s₀ : State} {s : State} (f : List Byte) (hk : Keeps s₀ s) :
    Keeps s₀ (timingAckAct f s) := by
  unfold timingAckAct
  extract_lets +onlyGivenNames v1
  clear_value v1
  with_reducible apply keeps_State_modRct
  assumption
theorem keeps_timingAssertAct {s₀ : State} {s : State} (f : List Byte) (hk : Keeps s₀ s) :
    Keeps s₀ (timingAssertAct f s) := by
  unfold timingAssertAct
  with_reducible apply keeps_State_modRct
  assumption
theorem keeps_timingRx {s₀ : State} {s : State} (op : Nat) (portB : Bool) (f : List Byte) (act : State → State) (hk : Keeps s₀ s) (h_act : ∀ a0, Keeps s₀ a0 → Keeps s₀ (act a0)) :
    Keeps s₀ (timingRx op portB f act s) := by
  unfold timingRx
  refine keeps_ite ?_ ?_
  · assumption
  · with_reducible apply keeps_ctlFlood
    · assumption
    · intro u1 h2
      refine keeps_id ?_
      assumption
    · intro u3 h4
      with_reducible apply h_act
      assumption
theorem keeps_timingSwitch {s₀ : State} {s : State} (hk : Keeps s₀ s) :
    Keeps s₀ (timingSwitch s) := by
  unfold timingSwitch
  split
  · rename_i x1 e2
    assumption
  · rename_i x3 x4 x5 x6 e7
    refine keeps_ite ?_ ?_
    · assumption
    · extract_lets +onlyGivenNames v8
      clear_value v8
      extract_lets +onlyGivenNames v9
      have hv9 : Keeps s₀ v9 := by
        unfold v9
        with_reducible apply keeps_State_setGm
        with_reducible apply keeps_State_modRct
        assumption
      clear_value v9
      extract_lets +onlyGivenNames v10
      have hv10 : Keeps s₀ v10 := by
        unfold v10
        refine keeps_ite ?_ ?_
        · with_reducible apply keeps_State_modRct
          assumption
        · assumption
      clear_value v10
      refine keeps_ite ?_ ?_
      · with_reducible apply keeps_State_setResult
        assumption
      · assumption
theorem keeps_timingLapse {s₀ : State} {s : State} (hk : Keeps s₀ s) :
    Keeps s₀ (timingLapse s) := by
  unfold timingLapse
  split
  · rename_i x1 e2
    assumption
  · rename_i x3 x4 e5
    with_reducible apply keeps_State_setResult
    with_reducible apply keeps_State_modRct
    assumption
theorem keeps_stepJoin {s₀ : State} {s : State} (g : StepGo) (hk : Keeps s₀ s) :
    Keeps s₀ (stepJoin g s) := by
  unfold stepJoin
  extract_lets +onlyGivenNames v1
  clear_value v1
  extract_lets +onlyGivenNames v2
  clear_value v2
  refine keeps_ite ?_ ?_
  · assumption
  · with_reducible apply keeps_State_modRct
    assumption
theorem keeps_stepGrant {s₀ : State} {s : State} (seg : Nat) (speed : Nat) (hk : Keeps s₀ s) :
    Keeps s₀ (stepGrant seg speed s) := by
  unfold stepGrant
  extract_lets +onlyGivenNames v1
  clear_value v1
  extract_lets +onlyGivenNames v2
  clear_value v2
  extract_lets +onlyGivenNames v3
  have hv3 : Keeps s₀ v3 := by
    unfold v3
    with_reducible apply keeps_stepJoin
    with_reducible apply keeps_State_modRct
    assumption
  clear_value v3
  with_reducible apply keeps_State_ctlSend
  assumption
theorem keeps_stepAsked {s₀ : State} {s : State} (seg : Nat) (speed : Nat) (hk : Keeps s₀ s) :
    Keeps s₀ (stepAsked seg speed s) := by
  unfold stepAsked
  refine keeps_ite ?_ ?_
  · assumption
  · split
    · rename_i x1 x2 e3
      with_reducible apply keeps_State_ctlSend
      assumption
    · rename_i x4 e5
      with_reducible apply keeps_stepGrant
      assumption
theorem keeps_stepRequest {s₀ : State} {s : State} (p : Nat) (speed : Nat) (hk : Keeps s₀ s) :
    Keeps s₀ (stepRequest p speed s) := by
  unfold stepRequest
  extract_lets +onlyGivenNames v1
  clear_value v1
  refine keeps_ite ?_ ?_
  · assumption
  · refine keeps_ite ?_ ?_
    · split
      · rename_i x2 x3 e4
        with_reducible apply keeps_State_int
        assumption
      · rename_i x5 e6
        with_reducible apply keeps_stepGrant
        assumption
    · with_reducible apply keeps_State_ctlSend
      with_reducible apply keeps_State_modRct
      assumption
theorem keeps_commitIssue {s₀ : State} {s : State} (c : RingConf) (hk : Keeps s₀ s) :
    Keeps s₀ (commitIssue c s) := by
  unfold commitIssue
  extract_lets +onlyGivenNames v1
  have hv1 : Keeps s₀ v1 := by
    unfold v1
    with_reducible apply keeps_State_setResult
    with_reducible apply keeps_State_modRct
    assumption
  clear_value v1
  refine keeps_ite ?_ ?_
  · assumption
  · with_reducible apply keeps_buildPlan
    assumption
theorem keeps_stepClose {s₀ : State} {s : State} (segs : List Nat) (hk : Keeps s₀ s) :
    Keeps s₀ (stepClose segs s) := by
  unfold stepClose
  with_reducible apply keeps_State_int
  with_reducible apply keeps_State_modRct
  assumption
theorem keeps_stepLapse {s₀ : State} {s : State} (hk : Keeps s₀ s) :
    Keeps s₀ (stepLapse s) := by
  unfold stepLapse
  split
  · rename_i x1 x2 e3
    refine keeps_ite ?_ ?_
    · with_reducible apply keeps_stepClose
      assumption
    · assumption
  · rename_i x4 e5
    assumption
theorem keeps_commitStep {s₀ : State} {s : State} (hk : Keeps s₀ s) :
    Keeps s₀ (commitStep s) := by
  unfold commitStep
  split
  · rename_i x1 x2 e3
    assumption
  · rename_i x4 x5 x6 e7 e8
    with_reducible apply keeps_commitIssue
    assumption
  · rename_i x9 x10 x11 x12 x13 e14 e15
    refine keeps_ite ?_ ?_
    · assumption
    · refine keeps_ite ?_ ?_
      · with_reducible apply keeps_stepGrant
        assumption
      · refine keeps_ite ?_ ?_
        · with_reducible apply keeps_stepGrant
          assumption
        · assumption
theorem keeps_actCommit {s₀ : State} {s : State} (hk : Keeps s₀ s) :
    Keeps s₀ (actCommit s).1 := by
  unfold actCommit
  extract_lets +onlyGivenNames v1
  clear_value v1
  refine keeps_ite1 ?_ ?_
  · refine keeps_pair ?_
    with_reducible apply keeps_State_setResult
    assumption
  · refine keeps_ite1 ?_ ?_
    · refine keeps_pair ?_
      with_reducible apply keeps_State_setResult
      assumption
    · refine keeps_ite1 ?_ ?_
      · refine keeps_pair ?_
        with_reducible apply keeps_State_setResult
        assumption
      · split
        · rename_i x2 x3 x4 e5
          have hx6 := keeps_of_eq2 (s₀ := s₀) (by
            with_reducible apply keeps_State_fresh
            assumption
            ) e5
          split
          · rename_i x7 e8
            refine keeps_pair ?_
            with_reducible apply keeps_commitIssue
            assumption
          · rename_i x9 x10
            refine keeps_pair ?_
            with_reducible apply keeps_commitStep
            with_reducible apply keeps_State_setResult
            with_reducible apply keeps_State_modRct
            assumption
theorem keeps_stepOver {s₀ : State} {s : State} (seg : Nat) (done : Bool) (hk : Keeps s₀ s) :
    Keeps s₀ (stepOver seg done s) := by
  unfold stepOver
  refine keeps_ite ?_ ?_
  · assumption
  · extract_lets +onlyGivenNames v1
    have hv1 : Keeps s₀ v1 := by
      unfold v1
      refine keeps_ite ?_ ?_
      · with_reducible apply keeps_State_modRct
        assumption
      · assumption
    clear_value v1
    split
    · rename_i x2 e3
      assumption
    · rename_i x4 x5 e6
      extract_lets +onlyGivenNames v7
      clear_value v7
      refine keeps_ite ?_ ?_
      · assumption
      · refine keeps_ite ?_ ?_
        · with_reducible apply keeps_State_modRct
          assumption
        · with_reducible apply keeps_commitStep
          with_reducible apply keeps_stepClose
          assumption
theorem keeps_stepRx {s₀ : State} {s : State} (op : Nat) (portB : Bool) (f : List Byte) (act : State → State) (hk : Keeps s₀ s) (h_act : ∀ a0, Keeps s₀ a0 → Keeps s₀ (act a0)) :
    Keeps s₀ (stepRx op portB f act s) := by
  unfold stepRx
  refine keeps_ite ?_ ?_
  · assumption
  · with_reducible apply keeps_ctlFlood
    · assumption
    · intro u1 h2
      refine keeps_id ?_
      assumption
    · intro u3 h4
      with_reducible apply h_act
      assumption
theorem keeps_stepReqAct {s₀ : State} {s : State} (f : List Byte) (hk : Keeps s₀ s) :
    Keeps s₀ (stepReqAct f s) := by
  unfold stepReqAct
  refine keeps_ite ?_ ?_
  · with_reducible apply keeps_stepAsked
    assumption
  · assumption
theorem keeps_stepGoAct {s₀ : State} {s : State} (f : List Byte) (hk : Keeps s₀ s) :
    Keeps s₀ (stepGoAct f s) := by
  unfold stepGoAct
  refine keeps_ite ?_ ?_
  · assumption
  · with_reducible apply keeps_stepJoin
    assumption
theorem keeps_stepDenyAct {s₀ : State} {s : State} (f : List Byte) (hk : Keeps s₀ s) :
    Keeps s₀ (stepDenyAct f s) := by
  unfold stepDenyAct
  extract_lets +onlyGivenNames v1
  clear_value v1
  refine keeps_ite ?_ ?_
  · assumption
  · with_reducible apply keeps_State_int
    with_reducible apply keeps_State_modRct
    assumption
theorem keeps_stepFailAct {s₀ : State} {s : State} (f : List Byte) (hk : Keeps s₀ s) :
    Keeps s₀ (stepFailAct f s) := by
  unfold stepFailAct
  with_reducible apply keeps_stepOver
  with_reducible apply keeps_State_addDown
  assumption
theorem keeps_stepRetrain {s₀ : State} {s : State} (hk : Keeps s₀ s) :
    Keeps s₀ (stepRetrain s) := by
  unfold stepRetrain
  split
  · rename_i x1 e2
    assumption
  · rename_i x3 x4 e5
    extract_lets +onlyGivenNames v6
    clear_value v6
    refine keeps_ite ?_ ?_
    · assumption
    · extract_lets +onlyGivenNames v7
      have hv7 : Keeps s₀ v7 := by
        unfold v7
        refine keeps_foldl _ _ ?_ ?_
        · assumption
        · intro u8 u9 h10
          with_reducible apply keeps_linkDown
          with_reducible apply keeps_State_setB
          with_reducible apply keeps_State_setB
          assumption
      clear_value v7
      with_reducible apply keeps_portsUpdate
      with_reducible apply keeps_State_int
      with_reducible apply keeps_State_inc
      assumption
theorem keeps_State_stepPortEnd {s₀ : State} {s : State} (p : Nat) (hk : Keeps s₀ s) :
    Keeps s₀ (State.stepPortEnd s p) := by
  unfold State.stepPortEnd
  extract_lets +onlyGivenNames v1
  have hv1 : Keeps s₀ v1 := by
    unfold v1
    with_reducible apply keeps_State_int
    with_reducible apply keeps_State_setB
    assumption
  clear_value v1
  extract_lets +onlyGivenNames v2
  clear_value v2
  with_reducible apply keeps_State_modRct
  assumption
theorem keeps_stepLinkUp {s₀ : State} {s : State} (p : Nat) (hk : Keeps s₀ s) :
    Keeps s₀ (stepLinkUp p s) := by
  unfold stepLinkUp
  split
  · rename_i x1 e2
    assumption
  · rename_i x3 x4 e5
    refine keeps_ite ?_ ?_
    · assumption
    · extract_lets +onlyGivenNames v6
      have hv6 : Keeps s₀ v6 := by
        unfold v6
        with_reducible apply keeps_State_setB
        with_reducible apply keeps_State_stepPortEnd
        assumption
      clear_value v6
      extract_lets +onlyGivenNames v7
      have hv7 : Keeps s₀ v7 := by
        unfold v7
        with_reducible apply keeps_portsUpdate
        with_reducible apply keeps_State_int
        with_reducible apply keeps_State_setB
        assumption
      clear_value v7
      extract_lets +onlyGivenNames v8
      clear_value v8
      extract_lets +onlyGivenNames v9
      have hv9 : Keeps s₀ v9 := by
        unfold v9
        refine keeps_ite ?_ ?_
        · with_reducible apply keeps_State_ctlSend
          assumption
        · assumption
      clear_value v9
      with_reducible apply keeps_capacityCheck
      with_reducible apply keeps_stepOver
      assumption
theorem keeps_stepTimeout {s₀ : State} {s : State} (p : Nat) (hk : Keeps s₀ s) :
    Keeps s₀ (stepTimeout p s) := by
  unfold stepTimeout
  split
  · rename_i x1 e2
    assumption
  · rename_i x3 x4 e5
    refine keeps_ite ?_ ?_
    · assumption
    · extract_lets +onlyGivenNames v6
      clear_value v6
      extract_lets +onlyGivenNames v7
      clear_value v7
      extract_lets +onlyGivenNames v8
      have hv8 : Keeps s₀ v8 := by
        unfold v8
        with_reducible apply keeps_State_addDown
        with_reducible apply keeps_State_stepPortEnd
        assumption
      clear_value v8
      extract_lets +onlyGivenNames v9
      have hv9 : Keeps s₀ v9 := by
        unfold v9
        with_reducible apply keeps_State_modRct
        with_reducible apply keeps_State_raise
        with_reducible apply keeps_State_setB
        assumption
      clear_value v9
      extract_lets +onlyGivenNames v10
      have hv10 : Keeps s₀ v10 := by
        unfold v10
        refine keeps_ite ?_ ?_
        · with_reducible apply keeps_State_ctlSend
          with_reducible apply keeps_State_ctlSend
          assumption
        · assumption
      clear_value v10
      extract_lets +onlyGivenNames v11
      have hv11 : Keeps s₀ v11 := by
        unfold v11
        with_reducible apply keeps_stepOver
        assumption
      clear_value v11
      refine keeps_ite ?_ ?_
      · with_reducible apply keeps_leaveTo
        assumption
      · with_reducible apply keeps_portsUpdate
        assumption
theorem keeps_sendClaim {s₀ : State} {s : State} (hk : Keeps s₀ s) :
    Keeps s₀ (sendClaim s) := by
  unfold sendClaim
  extract_lets +onlyGivenNames v1
  clear_value v1
  extract_lets +onlyGivenNames v2
  have hv2 : Keeps s₀ v2 := by
    unfold v2
    with_reducible apply keeps_State_modRct
    assumption
  clear_value v2
  extract_lets +onlyGivenNames v3
  have hv3 : Keeps s₀ v3 := by
    unfold v3
    with_reducible apply keeps_State_ctlSend
    assumption
  clear_value v3
  with_reducible apply keeps_State_modRct
  assumption
theorem keeps_listenTimeout {s₀ : State} {s : State} (hk : Keeps s₀ s) :
    Keeps s₀ (listenTimeout s) := by
  unfold listenTimeout
  refine keeps_ite ?_ ?_
  · with_reducible apply keeps_sendClaim
    with_reducible apply keeps_State_setCtl
    assumption
  · assumption
theorem keeps_claimRepeat {s₀ : State} {s : State} (hk : Keeps s₀ s) :
    Keeps s₀ (claimRepeat s) := by
  unfold claimRepeat
  refine keeps_ite ?_ ?_
  · with_reducible apply keeps_sendClaim
    assumption
  · assumption
theorem keeps_waitingTimeout {s₀ : State} {s : State} (hk : Keeps s₀ s) :
    Keeps s₀ (waitingTimeout s) := by
  unfold waitingTimeout
  refine keeps_ite ?_ ?_
  · with_reducible apply keeps_State_setCtl
    assumption
  · assumption
theorem keeps_followerTimeout {s₀ : State} {s : State} (hk : Keeps s₀ s) :
    Keeps s₀ (followerTimeout s) := by
  unfold followerTimeout
  refine keeps_ite ?_ ?_
  · with_reducible apply keeps_leaveTo
    assumption
  · assumption
theorem keeps_standbyTakeover {s₀ : State} {s : State} (hk : Keeps s₀ s) :
    Keeps s₀ (standbyTakeover s) := by
  unfold standbyTakeover
  refine keeps_ite ?_ ?_
  · with_reducible apply keeps_takeOver
    assumption
  · assumption
theorem keeps_beaconSend {s₀ : State} {s : State} (hk : Keeps s₀ s) :
    Keeps s₀ (beaconSend s) := by
  unfold beaconSend
  refine keeps_ite ?_ ?_
  · with_reducible apply keeps_sendBeacon
    assumption
  · assumption
theorem keeps_sendReport {s₀ : State} {s : State} (hk : Keeps s₀ s) :
    Keeps s₀ (sendReport s) := by
  unfold sendReport
  extract_lets +onlyGivenNames v1
  have hv1 : Keeps s₀ v1 := by
    unfold v1
    with_reducible apply keeps_State_modRct
    assumption
  clear_value v1
  with_reducible apply keeps_State_modRct
  with_reducible apply keeps_State_ctlSend
  assumption
theorem keeps_reportSend {s₀ : State} {s : State} (hk : Keeps s₀ s) :
    Keeps s₀ (reportSend s) := by
  unfold reportSend
  refine keeps_ite ?_ ?_
  · with_reducible apply keeps_sendReport
    assumption
  · assumption
theorem keeps_planBuildTimeout {s₀ : State} {s : State} (hk : Keeps s₀ s) :
    Keeps s₀ (planBuildTimeout s) := by
  unfold planBuildTimeout
  refine keeps_ite ?_ ?_
  · with_reducible apply keeps_buildPlan
    assumption
  · assumption
theorem keeps_planResend {s₀ : State} {s : State} (hk : Keeps s₀ s) :
    Keeps s₀ (planResend s) := by
  unfold planResend
  refine keeps_ite ?_ ?_
  · assumption
  · split
    · rename_i x1 x2 x3 x4 x5 e6 e7
      with_reducible apply keeps_State_modRct
      with_reducible apply keeps_State_ctlSend
      assumption
    · rename_i x8 x9 x10 x11 e12 x13
      with_reducible apply keeps_State_ctlSend
      assumption
    · rename_i x14 x15 x16 e17 x18
      assumption
theorem keeps_headLaunchExpire {s₀ : State} {s : State} (hk : Keeps s₀ s) :
    Keeps s₀ (headLaunchExpire s) := by
  unfold headLaunchExpire
  refine keeps_ite ?_ ?_
  · with_reducible refine keeps_mk ?_
    assumption
  · assumption
theorem keeps_segmentRerollTimeout {s₀ : State} {s : State} (hk : Keeps s₀ s) :
    Keeps s₀ (segmentRerollTimeout s) := by
  unfold segmentRerollTimeout
  refine keeps_ite ?_ ?_
  · with_reducible apply keeps_reroll
    assumption
  · assumption
theorem keeps_wakeStep {s₀ : State} {s : State} (hk : Keeps s₀ s) :
    Keeps s₀ (wakeStep s) := by
  unfold wakeStep
  split
  · rename_i x1 e2
    assumption
  · rename_i x3 x4 e5
    refine keeps_ite ?_ ?_
    · assumption
    · extract_lets +onlyGivenNames v6
      have hv6 : Keeps s₀ v6 := by
        unfold v6
        with_reducible apply keeps_State_modRct
        assumption
      clear_value v6
      refine keeps_ite ?_ ?_
      · assumption
      · with_reducible apply keeps_stepGrant
        assumption
theorem keeps_silenceResume {s₀ : State} {s : State} (hk : Keeps s₀ s) :
    Keeps s₀ (silenceResume s) := by
  unfold silenceResume
  refine keeps_ite ?_ ?_
  · assumption
  · with_reducible apply keeps_wakeStep
    with_reducible apply keeps_State_modRct
    assumption
theorem keeps_wakeCheck {s₀ : State} {s : State} (hk : Keeps s₀ s) :
    Keeps s₀ (wakeCheck s) := by
  unfold wakeCheck
  refine keeps_ite ?_ ?_
  · extract_lets +onlyGivenNames v1
    have hv1 : Keeps s₀ v1 := by
      unfold v1
      with_reducible apply keeps_State_modRct
      assumption
    clear_value v1
    refine keeps_ite ?_ ?_
    · assumption
    · with_reducible apply keeps_startOutputs
      assumption
  · assumption
theorem keeps_actRingLeave {s₀ : State} {s : State} (hk : Keeps s₀ s) :
    Keeps s₀ (actRingLeave s).1 := by
  unfold actRingLeave
  refine keeps_ite1 ?_ ?_
  · refine keeps_pair ?_
    with_reducible apply keeps_State_setResult
    assumption
  · extract_lets +onlyGivenNames v1
    have hv1 : Keeps s₀ v1 := by
      unfold v1
      with_reducible apply keeps_State_modRct
      assumption
    clear_value v1
    refine keeps_pair ?_
    with_reducible apply keeps_State_setResult
    with_reducible apply keeps_sendReport
    refine keeps_ite ?_ ?_
    · with_reducible apply keeps_sendBeacon
      assumption
    · assumption
theorem keeps_actReroll {s₀ : State} {s : State} (hk : Keeps s₀ s) :
    Keeps s₀ (actReroll s).1 := by
  unfold actReroll
  refine keeps_ite1 ?_ ?_
  · refine keeps_pair ?_
    with_reducible apply keeps_reroll
    assumption
  · refine keeps_pair ?_
    assumption
theorem keeps_actRingSleep {s₀ : State} {s : State} (hk : Keeps s₀ s) :
    Keeps s₀ (actRingSleep s).1 := by
  unfold actRingSleep
  refine keeps_ite1 ?_ ?_
  · refine keeps_pair ?_
    assumption
  · extract_lets +onlyGivenNames v1
    clear_value v1
    extract_lets +onlyGivenNames v2
    clear_value v2
    extract_lets +onlyGivenNames v3
    clear_value v3
    extract_lets +onlyGivenNames v4
    clear_value v4
    extract_lets +onlyGivenNames v5
    have hv5 : Keeps s₀ v5 := by
      unfold v5
      with_reducible refine keeps_mk ?_
      assumption
    clear_value v5
    refine keeps_pair ?_
    with_reducible apply keeps_State_forN
    · assumption
    · intro u6 u7 h8
      with_reducible apply keeps_State_ctlSend
      assumption
theorem keeps_sleepAct {s₀ : State} {s : State} (f : List Byte) (hk : Keeps s₀ s) :
    Keeps s₀ (sleepAct f s) := by
  unfold sleepAct
  extract_lets +onlyGivenNames v1
  clear_value v1
  refine keeps_ite ?_ ?_
  · with_reducible refine keeps_mk ?_
    assumption
  · assumption
theorem keeps_controlFrameBad {s₀ : State} {s : State} (portB : Bool) (f : List Byte) (hk : Keeps s₀ s) :
    Keeps s₀ (controlFrameBad portB f s) := by
  unfold controlFrameBad
  extract_lets +onlyGivenNames v1
  clear_value v1
  refine keeps_ite ?_ ?_
  · assumption
  · with_reducible apply keeps_State_inc
    with_reducible apply keeps_State_rxCount
    with_reducible apply keeps_State_event
    assumption

end Sys2Proof.Machine
end

