-- ==== Sys2Proof/Laws/KeepsPorts.lean ====
section
/-! SUPPORT. One lemma for each operation that changes the state: it keeps the queue and the canonical form. The ports, the override, the auxiliary converters, the serial ports, the clocks and the domains. -/
namespace Sys2Proof.Machine
open Sys2Proof

theorem keeps_linkUpEv {s₀ : State} {s : State} (p : Nat) (speed : Nat) (advert : Nat) (hk : Keeps s₀ s) :
    Keeps s₀ (linkUpEv p speed advert s) := by
  unfold linkUpEv
  refine keeps_ite ?_ ?_
  · assumption
  · extract_lets +onlyGivenNames v1
    clear_value v1
    extract_lets +onlyGivenNames v2
    clear_value v2
    extract_lets +onlyGivenNames v3
    have hv3 : Keeps s₀ v3 := by
      unfold v3
      with_reducible refine keeps_mk ?_
      assumption
    clear_value v3
    extract_lets +onlyGivenNames v4
    have hv4 : Keeps s₀ v4 := by
      unfold v4
      with_reducible apply keeps_State_setB
      with_reducible apply keeps_State_set
      with_reducible apply keeps_State_setB
      assumption
    clear_value v4
    extract_lets +onlyGivenNames v5
    have hv5 : Keeps s₀ v5 := by
      unfold v5
      with_reducible apply keeps_State_int
      refine keeps_ite ?_ ?_
      · with_reducible apply keeps_State_cnt
        assumption
      · assumption
    clear_value v5
    extract_lets +onlyGivenNames v6
    have hv6 : Keeps s₀ v6 := by
      unfold v6
      refine keeps_ite ?_ ?_
      · with_reducible apply keeps_State_cnt
        with_reducible apply keeps_State_cnt
        with_reducible apply keeps_State_setB
        assumption
      · assumption
    clear_value v6
    refine keeps_ite ?_ ?_
    · with_reducible apply keeps_ringLinkUp
      assumption
    · assumption
theorem keeps_portCfgWrite {s₀ : State} {s : State} (p : Nat) (v : Word) (hk : Keeps s₀ s) :
    Keeps s₀ (portCfgWrite p v s).1 := by
  unfold portCfgWrite
  extract_lets +onlyGivenNames v1
  clear_value v1
  extract_lets +onlyGivenNames v2
  clear_value v2
  extract_lets +onlyGivenNames v3
  clear_value v3
  extract_lets +onlyGivenNames v4
  clear_value v4
  extract_lets +onlyGivenNames v5
  have hv5 : Keeps s₀ v5 := by
    unfold v5
    with_reducible apply keeps_State_setWord
    assumption
  clear_value v5
  extract_lets +onlyGivenNames v6
  have hv6 : Keeps s₀ v6 := by
    unfold v6
    refine keeps_ite ?_ ?_
    · with_reducible apply keeps_linkDown
      assumption
    · assumption
  clear_value v6
  extract_lets +onlyGivenNames v7
  clear_value v7
  extract_lets +onlyGivenNames v8
  have hv8 : Keeps s₀ v8 := by
    unfold v8
    refine keeps_ite ?_ ?_
    · with_reducible refine keeps_mk ?_
      assumption
    · assumption
  clear_value v8
  refine keeps_pair ?_
  refine keeps_ite ?_ ?_
  · with_reducible apply keeps_State_setB
    assumption
  · assumption
theorem keeps_branchLpi {s₀ : State} {s : State} (hk : Keeps s₀ s) :
    Keeps s₀ (branchLpi s) := by
  unfold branchLpi
  extract_lets +onlyGivenNames v1
  clear_value v1
  extract_lets +onlyGivenNames v2
  clear_value v2
  extract_lets +onlyGivenNames v3
  clear_value v3
  extract_lets +onlyGivenNames v4
  clear_value v4
  extract_lets +onlyGivenNames v5
  have hv5 : Keeps s₀ v5 := by
    unfold v5
    with_reducible refine keeps_mk ?_
    assumption
  clear_value v5
  refine keeps_ite ?_ ?_
  · with_reducible apply keeps_State_cnt
    with_reducible apply keeps_State_setB
    assumption
  · refine keeps_ite ?_ ?_
    · with_reducible apply keeps_State_setB
      assumption
    · assumption
theorem keeps_gptpIn {s₀ : State} {s : State} (p : Nat) (lens : List Nat) (hk : Keeps s₀ s) :
    Keeps s₀ (gptpIn p lens s) := by
  unfold gptpIn
  refine keeps_foldl _ _ ?_ ?_
  · assumption
  · intro u1 u2 h3
    with_reducible apply keeps_State_rxCount
    assumption
theorem keeps_gptpPdelay {s₀ : State} {s : State} (p : Nat) (ns : Nat) (hk : Keeps s₀ s) :
    Keeps s₀ (gptpPdelay p ns s) := by
  unfold gptpPdelay
  refine keeps_ite ?_ ?_
  · assumption
  · extract_lets +onlyGivenNames v1
    have hv1 : Keeps s₀ v1 := by
      unfold v1
      with_reducible apply keeps_State_set
      with_reducible apply keeps_gptpIn
      with_reducible apply keeps_State_event
      assumption
    clear_value v1
    refine keeps_ite ?_ ?_
    · with_reducible apply keeps_showBound
      assumption
    · assumption
theorem keeps_portLoadUpdate {s₀ : State} {s : State} (p : Nat) (hk : Keeps s₀ s) :
    Keeps s₀ (portLoadUpdate p s) := by
  unfold portLoadUpdate
  extract_lets +onlyGivenNames v1
  clear_value v1
  extract_lets +onlyGivenNames v2
  clear_value v2
  extract_lets +onlyGivenNames v3
  clear_value v3
  extract_lets +onlyGivenNames v4
  clear_value v4
  extract_lets +onlyGivenNames v5
  clear_value v5
  extract_lets +onlyGivenNames v6
  clear_value v6
  extract_lets +onlyGivenNames v7
  have hv7 : Keeps s₀ v7 := by
    unfold v7
    with_reducible refine keeps_mk ?_
    assumption
  clear_value v7
  with_reducible apply keeps_State_set
  assumption
theorem keeps_speedAsk {s₀ : State} {s : State} (p : Nat) (speed : Nat) (hk : Keeps s₀ s) :
    Keeps s₀ (speedAsk p speed s) := by
  unfold speedAsk
  extract_lets +onlyGivenNames v1
  have hv1 : Keeps s₀ v1 := by
    unfold v1
    with_reducible apply keeps_State_int
    assumption
  clear_value v1
  refine keeps_ite ?_ ?_
  · with_reducible apply keeps_linkDown
    assumption
  · refine keeps_ite ?_ ?_
    · with_reducible apply keeps_stepRequest
      assumption
    · assumption
theorem keeps_speedLower {s₀ : State} {s : State} (p : Nat) (hk : Keeps s₀ s) :
    Keeps s₀ (speedLower p s) := by
  unfold speedLower
  extract_lets +onlyGivenNames v1
  clear_value v1
  extract_lets +onlyGivenNames v2
  clear_value v2
  extract_lets +onlyGivenNames v3
  clear_value v3
  refine keeps_ite ?_ ?_
  · with_reducible apply keeps_speedAsk
    assumption
  · assumption
theorem keeps_speedRaise {s₀ : State} {s : State} (p : Nat) (hk : Keeps s₀ s) :
    Keeps s₀ (speedRaise p s) := by
  unfold speedRaise
  extract_lets +onlyGivenNames v1
  clear_value v1
  split
  · rename_i x2 e3
    assumption
  · rename_i x4 x5 e6
    refine keeps_ite ?_ ?_
    · with_reducible apply keeps_speedAsk
      assumption
    · assumption
theorem keeps_pauseEnd {s₀ : State} {s : State} (p : Nat) (hk : Keeps s₀ s) :
    Keeps s₀ (pauseEnd p s) := by
  unfold pauseEnd
  refine keeps_ite ?_ ?_
  · with_reducible apply keeps_State_flushHeld
    with_reducible apply keeps_State_setB
    assumption
  · assumption
theorem keeps_pauseRx {s₀ : State} {s : State} (p : Nat) (f : List Byte) (hk : Keeps s₀ s) :
    Keeps s₀ (pauseRx p f s) := by
  unfold pauseRx
  refine keeps_ite ?_ ?_
  · assumption
  · extract_lets +onlyGivenNames v1
    have hv1 : Keeps s₀ v1 := by
      unfold v1
      with_reducible apply keeps_State_rxCount
      assumption
    clear_value v1
    refine keeps_ite ?_ ?_
    · assumption
    · refine keeps_ite ?_ ?_
      · with_reducible apply keeps_pauseEnd
        assumption
      · with_reducible apply keeps_State_setB
        assumption
theorem keeps_pauseBreak {s₀ : State} {s : State} (p : Nat) (hk : Keeps s₀ s) :
    Keeps s₀ (pauseBreak p s) := by
  unfold pauseBreak
  refine keeps_ite ?_ ?_
  · assumption
  · extract_lets +onlyGivenNames v1
    clear_value v1
    extract_lets +onlyGivenNames v2
    have hv2 : Keeps s₀ v2 := by
      unfold v2
      with_reducible refine keeps_mk ?_
      assumption
    clear_value v2
    with_reducible apply keeps_pauseEnd
    with_reducible apply keeps_State_raise
    with_reducible apply keeps_State_event
    with_reducible apply keeps_State_int
    with_reducible apply keeps_State_cnt
    assumption
theorem keeps_pauseRecover {s₀ : State} {s : State} (p : Nat) (hk : Keeps s₀ s) :
    Keeps s₀ (pauseRecover p s) := by
  unfold pauseRecover
  with_reducible refine keeps_mk ?_
  assumption
theorem keeps_State_setPlca {s₀ : State} {s : State} (ok : Bool) (hk : Keeps s₀ s) :
    Keeps s₀ (State.setPlca s ok) := by
  unfold State.setPlca
  extract_lets +onlyGivenNames v1
  have hv1 : Keeps s₀ v1 := by
    unfold v1
    refine keeps_ite ?_ ?_
    · with_reducible apply keeps_State_int
      with_reducible apply keeps_State_setB
      assumption
    · assumption
  clear_value v1
  with_reducible apply keeps_State_setB
  assumption
theorem keeps_sbusCfgWrite {s₀ : State} {s : State} (v : Word) (hk : Keeps s₀ s) :
    Keeps s₀ (sbusCfgWrite v s).1 := by
  unfold sbusCfgWrite
  extract_lets +onlyGivenNames v1
  have hv1 : Keeps s₀ v1 := by
    unfold v1
    with_reducible apply keeps_State_setWord
    assumption
  clear_value v1
  refine keeps_pair ?_
  refine keeps_ite ?_ ?_
  · assumption
  · with_reducible apply keeps_State_setPlca
    assumption
theorem keeps_plcaLoss {s₀ : State} {s : State} (hk : Keeps s₀ s) :
    Keeps s₀ (plcaLoss s) := by
  unfold plcaLoss
  refine keeps_ite ?_ ?_
  · assumption
  · extract_lets +onlyGivenNames v1
    clear_value v1
    extract_lets +onlyGivenNames v2
    have hv2 : Keeps s₀ v2 := by
      unfold v2
      with_reducible refine keeps_mk ?_
      assumption
    clear_value v2
    with_reducible apply keeps_State_raise
    with_reducible apply keeps_State_event
    with_reducible apply keeps_State_cnt
    with_reducible apply keeps_State_setPlca
    assumption
theorem keeps_plcaBeacon {s₀ : State} {s : State} (hk : Keeps s₀ s) :
    Keeps s₀ (plcaBeacon s) := by
  unfold plcaBeacon
  refine keeps_ite ?_ ?_
  · assumption
  · extract_lets +onlyGivenNames v1
    clear_value v1
    extract_lets +onlyGivenNames v2
    have hv2 : Keeps s₀ v2 := by
      unfold v2
      with_reducible refine keeps_mk ?_
      assumption
    clear_value v2
    with_reducible apply keeps_State_cnt
    refine keeps_ite ?_ ?_
    · with_reducible apply keeps_State_setPlca
      assumption
    · assumption
theorem keeps_sbusRx {s₀ : State} {s : State} (f : List Byte) (odd : Bool) (code : Bool) (hk : Keeps s₀ s) :
    Keeps s₀ (sbusRx f odd code s) := by
  unfold sbusRx
  refine keeps_ite ?_ ?_
  · assumption
  · extract_lets +onlyGivenNames v1
    clear_value v1
    extract_lets +onlyGivenNames v2
    have hv2 : Keeps s₀ v2 := by
      unfold v2
      with_reducible refine keeps_mk ?_
      assumption
    clear_value v2
    extract_lets +onlyGivenNames v3
    have hv3 : Keeps s₀ v3 := by
      unfold v3
      with_reducible apply keeps_State_rxCount
      assumption
    clear_value v3
    extract_lets +onlyGivenNames v4
    have hv4 : Keeps s₀ v4 := by
      unfold v4
      refine keeps_ite ?_ ?_
      · with_reducible apply keeps_State_cnt
        assumption
      · assumption
    clear_value v4
    extract_lets +onlyGivenNames v5
    have hv5 : Keeps s₀ v5 := by
      unfold v5
      refine keeps_ite ?_ ?_
      · with_reducible apply keeps_State_cnt
        assumption
      · assumption
    clear_value v5
    extract_lets +onlyGivenNames v6
    clear_value v6
    extract_lets +onlyGivenNames v7
    clear_value v7
    refine keeps_ite ?_ ?_
    · assumption
    · extract_lets +onlyGivenNames v8
      clear_value v8
      extract_lets +onlyGivenNames v9
      split
      · rename_i x10 x11 e12
        refine keeps_ite ?_ ?_
        · with_reducible apply keeps_State_cnt
          assumption
        · extract_lets +onlyGivenNames v13
          clear_value v13
          extract_lets +onlyGivenNames v14
          have hv14 : Keeps s₀ v14 := by
            unfold v14
            with_reducible apply keeps_State_dramWrite
            assumption
          clear_value v14
          with_reducible apply keeps_State_int
          with_reducible apply keeps_State_set
          assumption
      · rename_i x15 e16
        with_reducible apply keeps_State_cnt
        assumption
theorem keeps_sbusTxHead {s₀ : State} {s : State} (v : Word) (hk : Keeps s₀ s) :
    Keeps s₀ (sbusTxHead v s).1 := by
  unfold sbusTxHead
  extract_lets +onlyGivenNames v1
  clear_value v1
  extract_lets +onlyGivenNames v2
  clear_value v2
  extract_lets +onlyGivenNames v3
  clear_value v3
  refine keeps_ite1 ?_ ?_
  · refine keeps_pair ?_
    with_reducible apply keeps_State_set
    assumption
  · refine keeps_pair ?_
    assumption
theorem keeps_sbusRxTail {s₀ : State} {s : State} (v : Word) (hk : Keeps s₀ s) :
    Keeps s₀ (sbusRxTail v s).1 := by
  unfold sbusRxTail
  extract_lets +onlyGivenNames v1
  clear_value v1
  extract_lets +onlyGivenNames v2
  clear_value v2
  extract_lets +onlyGivenNames v3
  clear_value v3
  refine keeps_ite1 ?_ ?_
  · refine keeps_pair ?_
    with_reducible apply keeps_State_set
    assumption
  · refine keeps_pair ?_
    assumption
theorem keeps_sbusTxDone {s₀ : State} {s : State} (result : Nat) (col : Nat) (deferred : Bool) (hk : Keeps s₀ s) :
    Keeps s₀ (sbusTxDone result col deferred s) := by
  unfold sbusTxDone
  extract_lets +onlyGivenNames v1
  clear_value v1
  extract_lets +onlyGivenNames v2
  clear_value v2
  refine keeps_ite ?_ ?_
  · assumption
  · extract_lets +onlyGivenNames v3
    have hv3 : ∀ a1, Keeps s₀ a1 → Keeps s₀ (v3 a1) := by
      unfold v3
      intro u4 h5
      with_reducible apply keeps_State_int
      with_reducible apply keeps_State_set
      assumption
    clear_value v3
    split
    · rename_i x6 e7
      with_reducible apply keeps_State_int
      with_reducible apply hv3
      assumption
    · rename_i x8 x9 e10
      split
      · rename_i x11 x12 x13 e14
        have hx15 := keeps_of_eq (s₀ := s₀) (by
          with_reducible apply keeps_State_eccRead
          assumption
          ) e14
        extract_lets +onlyGivenNames v16
        clear_value v16
        extract_lets +onlyGivenNames v17
        clear_value v17
        refine keeps_ite ?_ ?_
        · assumption
        · extract_lets +onlyGivenNames v18
          clear_value v18
          extract_lets +onlyGivenNames v19
          clear_value v19
          extract_lets +onlyGivenNames v20
          clear_value v20
          extract_lets +onlyGivenNames v21
          have hv21 : Keeps s₀ v21 := by
            unfold v21
            refine keeps_ite ?_ ?_
            · assumption
            · with_reducible apply keeps_State_txCount
              with_reducible apply keeps_State_emit
              with_reducible refine keeps_mk ?_
              assumption
          clear_value v21
          extract_lets +onlyGivenNames v22
          have hv22 : Keeps s₀ v22 := by
            unfold v22
            refine keeps_ite ?_ ?_
            · with_reducible apply keeps_State_cnt
              assumption
            · refine keeps_ite ?_ ?_
              · with_reducible apply keeps_State_cnt
                assumption
              · assumption
          clear_value v22
          extract_lets +onlyGivenNames v23
          have hv23 : Keeps s₀ v23 := by
            unfold v23
            refine keeps_ite ?_ ?_
            · with_reducible apply keeps_State_cnt
              assumption
            · refine keeps_ite ?_ ?_
              · with_reducible apply keeps_State_cnt
                assumption
              · assumption
          clear_value v23
          extract_lets +onlyGivenNames v24
          have hv24 : Keeps s₀ v24 := by
            unfold v24
            refine keeps_ite ?_ ?_
            · with_reducible apply keeps_State_cnt
              assumption
            · assumption
          clear_value v24
          extract_lets +onlyGivenNames v25
          have hv25 : Keeps s₀ v25 := by
            unfold v25
            with_reducible apply keeps_State_dramWrite
            with_reducible apply keeps_State_dramWrite
            assumption
          clear_value v25
          extract_lets +onlyGivenNames v26
          have hv26 : Keeps s₀ v26 := by
            unfold v26
            with_reducible apply hv3
            assumption
          clear_value v26
          refine keeps_ite ?_ ?_
          · assumption
          · with_reducible apply keeps_State_int
            assumption
theorem keeps_State_snapArm {s₀ : State} {s : State} (tgt : Nat) (id : Nat) (hk : Keeps s₀ s) :
    Keeps s₀ (State.snapArm s tgt id) := by
  unfold State.snapArm
  with_reducible apply keeps_State_set
  with_reducible refine keeps_mk ?_
  assumption
theorem keeps_actSnap {s₀ : State} {s : State} (send : Bool) (hk : Keeps s₀ s) :
    Keeps s₀ (actSnap send s).1 := by
  unfold actSnap
  extract_lets +onlyGivenNames v1
  clear_value v1
  extract_lets +onlyGivenNames v2
  clear_value v2
  refine keeps_ite1 ?_ ?_
  · refine keeps_pair ?_
    assumption
  · extract_lets +onlyGivenNames v3
    have hv3 : Keeps s₀ v3 := by
      unfold v3
      with_reducible apply keeps_State_setWord
      assumption
    clear_value v3
    refine keeps_ite1 ?_ ?_
    · refine keeps_pair ?_
      with_reducible apply keeps_State_int
      with_reducible apply keeps_State_set
      assumption
    · extract_lets +onlyGivenNames v4
      have hv4 : Keeps s₀ v4 := by
        unfold v4
        with_reducible apply keeps_State_snapArm
        assumption
      clear_value v4
      refine keeps_pair ?_
      refine keeps_ite ?_ ?_
      · with_reducible apply keeps_State_ctlSend
        assumption
      · assumption
theorem keeps_snapAct {s₀ : State} {s : State} (f : List Byte) (hk : Keeps s₀ s) :
    Keeps s₀ (snapAct f s) := by
  unfold snapAct
  extract_lets +onlyGivenNames v1
  clear_value v1
  extract_lets +onlyGivenNames v2
  clear_value v2
  extract_lets +onlyGivenNames v3
  refine keeps_ite ?_ ?_
  · assumption
  · extract_lets +onlyGivenNames v4
    have hv4 : Keeps s₀ v4 := by
      unfold v4
      with_reducible apply keeps_State_setWord
      assumption
    clear_value v4
    refine keeps_ite ?_ ?_
    · extract_lets +onlyGivenNames v5
      have hv5 : Keeps s₀ v5 := by
        unfold v5
        refine keeps_ite ?_ ?_
        · with_reducible apply keeps_State_int
          assumption
        · assumption
      clear_value v5
      with_reducible apply keeps_State_snapArm
      assumption
    · with_reducible apply keeps_State_raise
      with_reducible apply keeps_State_int
      with_reducible apply keeps_State_set
      assumption
theorem keeps_snapFire {s₀ : State} {s : State} (hk : Keeps s₀ s) :
    Keeps s₀ (snapFire s).1 := by
  unfold snapFire
  refine keeps_ite1 ?_ ?_
  · refine keeps_pair ?_
    assumption
  · extract_lets +onlyGivenNames v1
    have hv1 : Keeps s₀ v1 := by
      unfold v1
      refine keeps_foldl _ _ ?_ ?_
      · assumption
      · intro u2 u3 h4
        refine keeps_foldl _ _ ?_ ?_
        · assumption
        · intro u5 u6 h7
          with_reducible apply keeps_State_setWord
          assumption
    clear_value v1
    extract_lets +onlyGivenNames v8
    have hv8 : Keeps s₀ v8 := by
      unfold v8
      refine keeps_foldl _ _ ?_ ?_
      · assumption
      · intro u9 u10 h11
        with_reducible apply keeps_State_setWord
        assumption
    clear_value v8
    extract_lets +onlyGivenNames v12
    have hv12 : Keeps s₀ v12 := by
      unfold v12
      with_reducible apply keeps_State_setWord
      assumption
    clear_value v12
    extract_lets +onlyGivenNames v13
    have hv13 : Keeps s₀ v13 := by
      unfold v13
      with_reducible apply keeps_State_set64
      assumption
    clear_value v13
    extract_lets +onlyGivenNames v14
    clear_value v14
    extract_lets +onlyGivenNames v15
    have hv15 : Keeps s₀ v15 := by
      unfold v15
      with_reducible refine keeps_mk ?_
      assumption
    clear_value v15
    refine keeps_pair ?_
    with_reducible apply keeps_State_int
    with_reducible apply keeps_State_set
    assumption
theorem keeps_snapCancel {s₀ : State} {s : State} (hk : Keeps s₀ s) :
    Keeps s₀ (snapCancel s).1 := by
  unfold snapCancel
  refine keeps_ite1 ?_ ?_
  · refine keeps_pair ?_
    assumption
  · refine keeps_pair ?_
    with_reducible apply keeps_State_int
    with_reducible apply keeps_State_set
    assumption
theorem keeps_State_modAaf {s₀ : State} {s : State} (i : Nat) (f : Aaf → Aaf) (hk : Keeps s₀ s) :
    Keeps s₀ (State.modAaf s i f) := by
  unfold State.modAaf
  with_reducible refine keeps_mk ?_
  assumption
theorem keeps_aafSet {s₀ : State} {s : State} (i : Nat) (v : Word) (hk : Keeps s₀ s) :
    Keeps s₀ (aafSet i v s) := by
  unfold aafSet
  extract_lets +onlyGivenNames v1
  clear_value v1
  extract_lets +onlyGivenNames v2
  have hv2 : Keeps s₀ v2 := by
    unfold v2
    with_reducible apply keeps_State_setWord
    assumption
  clear_value v2
  refine keeps_ite ?_ ?_
  · with_reducible apply keeps_State_modAaf
    assumption
  · refine keeps_ite ?_ ?_
    · assumption
    · with_reducible apply keeps_State_modAaf
      assumption
theorem keeps_aafCfgWrite {s₀ : State} {s : State} (i : Nat) (v : Word) (hk : Keeps s₀ s) :
    Keeps s₀ (aafCfgWrite i v s).1 := by
  unfold aafCfgWrite
  extract_lets +onlyGivenNames v1
  clear_value v1
  refine keeps_ite1 ?_ ?_
  · refine keeps_pair ?_
    with_reducible apply keeps_aafSet
    assumption
  · refine keeps_ite1 ?_ ?_
    · refine keeps_pair ?_
      assumption
    · refine keeps_pair ?_
      with_reducible apply keeps_State_setWord
      assumption
theorem keeps_aafActivate {s₀ : State} {s : State} (hk : Keeps s₀ s) :
    Keeps s₀ (aafActivate s) := by
  unfold aafActivate
  with_reducible apply keeps_State_forN
  · assumption
  · intro u1 u2 h3
    refine keeps_ite ?_ ?_
    · with_reducible apply keeps_State_setB
      assumption
    · assumption
theorem keeps_aafBad {s₀ : State} {s : State} (i : Nat) (hk : Keeps s₀ s) :
    Keeps s₀ (aafBad i s) := by
  unfold aafBad
  with_reducible apply keeps_State_int
  with_reducible apply keeps_State_inc
  assumption
theorem keeps_aafRx {s₀ : State} {s : State} (port : Nat) (f : List Byte) (hk : Keeps s₀ s) :
    Keeps s₀ (aafRx port f s) := by
  unfold aafRx
  refine keeps_ite ?_ ?_
  · assumption
  · extract_lets +onlyGivenNames v1
    have hv1 : Keeps s₀ v1 := by
      unfold v1
      with_reducible apply keeps_State_rxCount
      assumption
    clear_value v1
    extract_lets +onlyGivenNames v2
    clear_value v2
    refine keeps_ite ?_ ?_
    · assumption
    · split
      · rename_i x3 e4
        assumption
      · rename_i x5 x6 e7
        refine keeps_ite ?_ ?_
        · with_reducible apply keeps_aafBad
          assumption
        · extract_lets +onlyGivenNames v8
          clear_value v8
          extract_lets +onlyGivenNames v9
          clear_value v9
          extract_lets +onlyGivenNames v10
          have hv10 : Keeps s₀ v10 := by
            unfold v10
            refine keeps_ite ?_ ?_
            · with_reducible apply keeps_State_int
              with_reducible apply keeps_State_inc
              assumption
            · assumption
          clear_value v10
          extract_lets +onlyGivenNames v11
          have hv11 : Keeps s₀ v11 := by
            unfold v11
            with_reducible apply keeps_State_modAaf
            assumption
          clear_value v11
          with_reducible apply keeps_State_srcStream
          assumption
theorem keeps_aafStage {s₀ : State} {s : State} (l : List (Nat × Nat × Int)) (hk : Keeps s₀ s) :
    Keeps s₀ (aafStage l s) := by
  unfold aafStage
  with_reducible apply keeps_State_forN
  · assumption
  · intro u1 u2 h3
    refine keeps_ite ?_ ?_
    · extract_lets +onlyGivenNames v4
      clear_value v4
      with_reducible apply keeps_State_modAaf
      assumption
    · assumption
theorem keeps_aafSend {s₀ : State} {s : State} (i : Nat) (hk : Keeps s₀ s) :
    Keeps s₀ (aafSend i s) := by
  unfold aafSend
  extract_lets +onlyGivenNames v1
  clear_value v1
  extract_lets +onlyGivenNames v2
  clear_value v2
  extract_lets +onlyGivenNames v3
  clear_value v3
  extract_lets +onlyGivenNames v4
  clear_value v4
  extract_lets +onlyGivenNames v5
  clear_value v5
  extract_lets +onlyGivenNames v6
  clear_value v6
  refine keeps_ite ?_ ?_
  · assumption
  · extract_lets +onlyGivenNames v7
    clear_value v7
    extract_lets +onlyGivenNames v8
    clear_value v8
    extract_lets +onlyGivenNames v9
    clear_value v9
    extract_lets +onlyGivenNames v10
    clear_value v10
    extract_lets +onlyGivenNames v11
    clear_value v11
    extract_lets +onlyGivenNames v12
    clear_value v12
    extract_lets +onlyGivenNames v13
    clear_value v13
    extract_lets +onlyGivenNames v14
    have hv14 : Keeps s₀ v14 := by
      unfold v14
      with_reducible apply keeps_State_modAaf
      assumption
    clear_value v14
    with_reducible apply keeps_State_sendOn
    assumption
theorem keeps_aafTx {s₀ : State} {s : State} (hk : Keeps s₀ s) :
    Keeps s₀ (aafTx s) := by
  unfold aafTx
  with_reducible apply keeps_State_forN
  · assumption
  · intro u1 u2 h3
    with_reducible apply keeps_aafSend
    assumption
theorem keeps_State_avtpCtl {s₀ : State} {s : State} (dst : Nat) (sub : Nat) (typ : Nat) (status : Nat) (data : List Byte) (hk : Keeps s₀ s) :
    Keeps s₀ (State.avtpCtl s dst sub typ status data) := by
  unfold State.avtpCtl
  with_reducible apply keeps_State_sendOn
  assumption
theorem keeps_adpSend {s₀ : State} {s : State} (typ : Nat) (hk : Keeps s₀ s) :
    Keeps s₀ (adpSend typ s) := by
  unfold adpSend
  extract_lets +onlyGivenNames v1
  clear_value v1
  extract_lets +onlyGivenNames v2
  clear_value v2
  extract_lets +onlyGivenNames v3
  have hv3 : Keeps s₀ v3 := by
    unfold v3
    with_reducible apply keeps_State_fresh
    assumption
  clear_value v3
  extract_lets +onlyGivenNames v4
  clear_value v4
  extract_lets +onlyGivenNames v5
  clear_value v5
  extract_lets +onlyGivenNames v6
  clear_value v6
  with_reducible apply keeps_State_avtpCtl
  assumption
theorem keeps_adpAvailable {s₀ : State} {s : State} (hk : Keeps s₀ s) :
    Keeps s₀ (adpAvailable s) := by
  unfold adpAvailable
  refine keeps_ite ?_ ?_
  · assumption
  · extract_lets +onlyGivenNames v1
    have hv1 : Keeps s₀ v1 := by
      unfold v1
      with_reducible apply keeps_adpSend
      assumption
    clear_value v1
    with_reducible refine keeps_mk ?_
    assumption
theorem keeps_adpDiscover {s₀ : State} {s : State} (port : Nat) (f : List Byte) (hk : Keeps s₀ s) :
    Keeps s₀ (adpDiscover port f s) := by
  unfold adpDiscover
  refine keeps_ite ?_ ?_
  · assumption
  · extract_lets +onlyGivenNames v1
    have hv1 : Keeps s₀ v1 := by
      unfold v1
      with_reducible apply keeps_State_rxCount
      assumption
    clear_value v1
    refine keeps_ite ?_ ?_
    · with_reducible apply keeps_adpAvailable
      assumption
    · assumption
theorem keeps_brCfgWrite {s₀ : State} {s : State} (v : Word) (hk : Keeps s₀ s) :
    Keeps s₀ (brCfgWrite v s).1 := by
  unfold brCfgWrite
  extract_lets +onlyGivenNames v1
  have hv1 : Keeps s₀ v1 := by
    unfold v1
    refine keeps_ite ?_ ?_
    · with_reducible apply keeps_adpSend
      assumption
    · assumption
  clear_value v1
  refine keeps_pair ?_
  with_reducible apply keeps_State_setWord
  assumption
theorem keeps_State_setStream {s₀ : State} {s : State} (i : Nat) (sid : Nat) (dmac : Nat) (vid : Nat) (hk : Keeps s₀ s) :
    Keeps s₀ (State.setStream s i sid dmac vid) := by
  unfold State.setStream
  extract_lets +onlyGivenNames v1
  have hv1 : Keeps s₀ v1 := by
    unfold v1
    with_reducible apply keeps_State_set
    with_reducible apply keeps_State_set64
    assumption
  clear_value v1
  with_reducible apply keeps_State_set
  with_reducible apply keeps_State_set
  assumption
theorem keeps_setInfo {s₀ s t : State} (i : Nat) (d : List Byte) (hk : Keeps s₀ s) (h : setInfo i d s = some t) : Keeps s₀ t := by
  unfold setInfo at h
  extract_lets fl sid dmac vid us lat at h
  clear_value fl sid dmac vid us lat
  split at h
  · cases h
  · cases h
    exact keeps_ite (keeps_State_set _ _ _ _ _ (keeps_State_setStream _ _ _ _ hk)) (keeps_State_setStream _ _ _ _ hk)
theorem keeps_aemAnswer {s₀ : State} {s : State} (cmd : Nat) (who : Nat) (mac : Nat) (d : List Byte) (hk : Keeps s₀ s) :
    Keeps s₀ (aemAnswer cmd who mac d s).1 := by
  unfold aemAnswer
  extract_lets +onlyGivenNames v1
  clear_value v1
  extract_lets +onlyGivenNames v2
  clear_value v2
  extract_lets +onlyGivenNames v3
  clear_value v3
  extract_lets +onlyGivenNames v4
  clear_value v4
  extract_lets +onlyGivenNames v5
  have hv5 : Keeps s₀ v5 := by
    unfold v5
    with_reducible apply keeps_State_fresh
    assumption
  clear_value v5
  extract_lets +onlyGivenNames v6
  clear_value v6
  extract_lets +onlyGivenNames v7
  clear_value v7
  extract_lets +onlyGivenNames v8
  clear_value v8
  split
  · rename_i x9
    extract_lets +onlyGivenNames v10
    clear_value v10
    extract_lets +onlyGivenNames v11
    clear_value v11
    refine keeps_ite1 ?_ ?_
    · refine keeps_pair ?_
      assumption
    · refine keeps_pair ?_
      with_reducible refine keeps_mk ?_
      assumption
  · rename_i x12
    extract_lets +onlyGivenNames v13
    clear_value v13
    extract_lets +onlyGivenNames v14
    clear_value v14
    refine keeps_ite1 ?_ ?_
    · refine keeps_pair ?_
      assumption
    · refine keeps_pair ?_
      with_reducible refine keeps_mk ?_
      assumption
  · rename_i x15
    refine keeps_pair ?_
    assumption
  · rename_i x16
    extract_lets +onlyGivenNames v17
    clear_value v17
    extract_lets +onlyGivenNames v18
    clear_value v18
    refine keeps_ite1 ?_ ?_
    · refine keeps_pair ?_
      assumption
    · refine keeps_pair ?_
      assumption
  · rename_i x19
    split
    · rename_i x20 e21
      refine keeps_pair ?_
      assumption
    · rename_i x22 x23 e24
      extract_lets +onlyGivenNames v25
      clear_value v25
      refine keeps_ite1 ?_ ?_
      · refine keeps_pair ?_
        assumption
      · refine keeps_ite1 ?_ ?_
        · refine keeps_pair ?_
          assumption
        · split
          · rename_i x26 e27
            refine keeps_pair ?_
            assumption
          · rename_i x28 x29 x30 x31 e32
            extract_lets +onlyGivenNames v33
            clear_value v33
            refine keeps_ite1 ?_ ?_
            · refine keeps_pair ?_
              with_reducible apply keeps_State_setWord
              assumption
            · refine keeps_pair ?_
              assumption
  · rename_i x34
    split
    · rename_i x35 e36
      refine keeps_pair ?_
      assumption
    · rename_i x37 x38 e39
      refine keeps_pair ?_
      assumption
  · rename_i x40
    split
    · rename_i x41 e42
      refine keeps_pair ?_
      assumption
    · rename_i x43 x44 e45
      refine keeps_ite1 ?_ ?_
      · refine keeps_pair ?_
        assumption
      · split
        · rename_i x46 x47 e48
          refine keeps_pair ?_
          exact keeps_setInfo _ _ hv5 (by assumption)
        · rename_i x49 e50
          refine keeps_pair ?_
          assumption
  · rename_i x51
    split
    · rename_i x52 e53
      refine keeps_pair ?_
      assumption
    · rename_i x54 x55 e56
      extract_lets +onlyGivenNames v57
      clear_value v57
      refine keeps_pair ?_
      assumption
  · rename_i x58
    refine keeps_pair ?_
    with_reducible refine keeps_mk ?_
    assumption
  · rename_i x59
    refine keeps_pair ?_
    with_reducible refine keeps_mk ?_
    assumption
  · rename_i x60
    extract_lets +onlyGivenNames v61
    clear_value v61
    refine keeps_pair ?_
    assumption
  · rename_i x62
    refine keeps_pair ?_
    assumption
  · rename_i x63 x64 x65 x66 x67 x68 x69 x70 x71 x72 x73 x74 x75
    refine keeps_pair ?_
    assumption
theorem keeps_notifyAll {s₀ : State} {s : State} (who : Nat) (cmd : Nat) (data : List Byte) (hk : Keeps s₀ s) :
    Keeps s₀ (notifyAll who cmd data s) := by
  unfold notifyAll
  extract_lets +onlyGivenNames v1
  have hv1 : Keeps s₀ v1 := by
    unfold v1
    refine keeps_foldl _ _ ?_ ?_
    · assumption
    · intro u2 u3 h4
      refine keeps_ite ?_ ?_
      · assumption
      · with_reducible apply keeps_State_avtpCtl
        assumption
  clear_value v1
  with_reducible refine keeps_mk ?_
  assumption
theorem keeps_aecpCommand {s₀ : State} {s : State} (port : Nat) (f : List Byte) (hk : Keeps s₀ s) :
    Keeps s₀ (aecpCommand port f s) := by
  unfold aecpCommand
  refine keeps_ite ?_ ?_
  · assumption
  · extract_lets +onlyGivenNames v1
    have hv1 : Keeps s₀ v1 := by
      unfold v1
      with_reducible apply keeps_State_rxCount
      assumption
    clear_value v1
    refine keeps_ite ?_ ?_
    · assumption
    · extract_lets +onlyGivenNames v2
      clear_value v2
      extract_lets +onlyGivenNames v3
      clear_value v3
      extract_lets +onlyGivenNames v4
      clear_value v4
      extract_lets +onlyGivenNames v5
      clear_value v5
      extract_lets +onlyGivenNames v6
      have hv6 : Keeps s₀ v6.1 := by
        unfold v6
        refine keeps_ite1 ?_ ?_
        · with_reducible apply keeps_aemAnswer
          assumption
        · refine keeps_pair ?_
          assumption
      clear_value v6
      extract_lets +onlyGivenNames v7
      have hv7 : Keeps s₀ v7 := by
        unfold v7
        with_reducible apply keeps_State_avtpCtl
        assumption
      clear_value v7
      refine keeps_ite ?_ ?_
      · with_reducible apply keeps_notifyAll
        assumption
      · assumption
theorem keeps_acmpCommand {s₀ : State} {s : State} (port : Nat) (f : List Byte) (hk : Keeps s₀ s) :
    Keeps s₀ (acmpCommand port f s) := by
  unfold acmpCommand
  refine keeps_ite ?_ ?_
  · assumption
  · extract_lets +onlyGivenNames v1
    have hv1 : Keeps s₀ v1 := by
      unfold v1
      with_reducible apply keeps_State_rxCount
      assumption
    clear_value v1
    extract_lets +onlyGivenNames v2
    clear_value v2
    extract_lets +onlyGivenNames v3
    clear_value v3
    extract_lets +onlyGivenNames v4
    clear_value v4
    extract_lets +onlyGivenNames v5
    clear_value v5
    extract_lets +onlyGivenNames v6
    refine keeps_ite ?_ ?_
    · assumption
    · refine keeps_ite ?_ ?_
      · with_reducible apply keeps_State_avtpCtl
        assumption
      · extract_lets +onlyGivenNames v7
        clear_value v7
        extract_lets +onlyGivenNames v8
        have hv8 : ∀ a1 a2 a3, Keeps s₀ a1 → Keeps s₀ (v8 a1 a2 a3) := by
          unfold v8
          intro u9 u10 u11 h12
          extract_lets +onlyGivenNames v13
          clear_value v13
          with_reducible apply keeps_State_avtpCtl
          assumption
        clear_value v8
        split
        · rename_i x14 e15
          with_reducible apply keeps_State_avtpCtl
          assumption
        · rename_i x16 x17 e18
          extract_lets +onlyGivenNames v19
          clear_value v19
          refine keeps_ite ?_ ?_
          · with_reducible apply hv8
            assumption
          · refine keeps_ite ?_ ?_
            · with_reducible apply hv8
              assumption
            · refine keeps_ite ?_ ?_
              · with_reducible apply hv8
                assumption
              · extract_lets +onlyGivenNames v20
                clear_value v20
                extract_lets +onlyGivenNames v21
                clear_value v21
                extract_lets +onlyGivenNames v22
                clear_value v22
                refine keeps_ite ?_ ?_
                · with_reducible apply hv8
                  assumption
                · extract_lets +onlyGivenNames v23
                  have hv23 : Keeps s₀ v23 := by
                    unfold v23
                    refine keeps_ite ?_ ?_
                    · with_reducible apply keeps_State_modAaf
                      with_reducible apply keeps_State_setStream
                      assumption
                    · refine keeps_ite ?_ ?_
                      · with_reducible apply keeps_State_modAaf
                        assumption
                      · assumption
                  clear_value v23
                  with_reducible apply hv8
                  with_reducible apply keeps_aafCfgWrite
                  assumption
theorem keeps_State_modOvr {s₀ : State} {s : State} (f : OvrState → OvrState) (hk : Keeps s₀ s) :
    Keeps s₀ (State.modOvr s f) := by
  unfold State.modOvr
  with_reducible refine keeps_mk ?_
  assumption
theorem keeps_State_setEffective {s₀ : State} {s : State} (on : Bool) (hk : Keeps s₀ s) :
    Keeps s₀ (State.setEffective s on) := by
  unfold State.setEffective
  with_reducible apply keeps_State_log
  with_reducible apply keeps_State_int
  with_reducible apply keeps_State_setB
  assumption
theorem keeps_ovrBegin {s₀ : State} {s : State} (hk : Keeps s₀ s) :
    Keeps s₀ (ovrBegin s) := by
  unfold ovrBegin
  extract_lets +onlyGivenNames v1
  have hv1 : Keeps s₀ v1 := by
    unfold v1
    with_reducible apply keeps_State_modOvr
    assumption
  clear_value v1
  refine keeps_ite ?_ ?_
  · assumption
  · with_reducible apply keeps_diagAbort
    with_reducible apply keeps_State_setEffective
    assumption
theorem keeps_playersStop {s₀ : State} {s : State} (hk : Keeps s₀ s) :
    Keeps s₀ (playersStop s) := by
  unfold playersStop
  split
  · rename_i x1 e2
    assumption
  · rename_i x3 x4 e5
    extract_lets +onlyGivenNames v6
    clear_value v6
    with_reducible refine keeps_mk ?_
    assumption
theorem keeps_ovrEnd {s₀ : State} {s : State} (hk : Keeps s₀ s) :
    Keeps s₀ (ovrEnd s) := by
  unfold ovrEnd
  extract_lets +onlyGivenNames v1
  clear_value v1
  extract_lets +onlyGivenNames v2
  have hv2 : Keeps s₀ v2 := by
    unfold v2
    with_reducible apply keeps_State_modOvr
    assumption
  clear_value v2
  refine keeps_ite ?_ ?_
  · with_reducible apply keeps_muteOutputs
    with_reducible apply keeps_playersStop
    with_reducible apply keeps_State_setEffective
    assumption
  · assumption
theorem keeps_discRaise {s₀ : State} {s : State} (hk : Keeps s₀ s) :
    Keeps s₀ (discRaise s) := by
  unfold discRaise
  extract_lets +onlyGivenNames v1
  have hv1 : Keeps s₀ v1 := by
    unfold v1
    with_reducible apply keeps_State_modOvr
    assumption
  clear_value v1
  refine keeps_ite ?_ ?_
  · assumption
  · with_reducible apply keeps_State_raiseActive
    with_reducible apply keeps_State_event
    with_reducible apply keeps_State_setB
    assumption
theorem keeps_ovrMove {s₀ : State} {s : State} (hk : Keeps s₀ s) :
    Keeps s₀ (ovrMove s) := by
  unfold ovrMove
  extract_lets +onlyGivenNames v1
  clear_value v1
  extract_lets +onlyGivenNames v2
  clear_value v2
  extract_lets +onlyGivenNames v3
  clear_value v3
  extract_lets +onlyGivenNames v4
  clear_value v4
  extract_lets +onlyGivenNames v5
  clear_value v5
  extract_lets +onlyGivenNames v6
  have hv6 : Keeps s₀ v6 := by
    unfold v6
    with_reducible apply keeps_State_setB
    with_reducible apply keeps_State_setB
    assumption
  clear_value v6
  extract_lets +onlyGivenNames v7
  have hv7 : ∀ a1, Keeps s₀ a1 → Keeps s₀ (v7 a1) := by
    unfold v7
    intro u8 h9
    extract_lets +onlyGivenNames v10
    have hv10 : Keeps s₀ v10 := by
      unfold v10
      with_reducible apply keeps_State_modOvr
      with_reducible apply keeps_State_set
      assumption
    clear_value v10
    refine keeps_ite ?_ ?_
    · with_reducible apply keeps_State_modOvr
      assumption
    · with_reducible apply keeps_ovrBegin
      assumption
  clear_value v7
  extract_lets +onlyGivenNames v11
  have hv11 : Keeps s₀ v11 := by
    unfold v11
    refine keeps_ite ?_ ?_
    · with_reducible apply keeps_State_endActive
      with_reducible apply keeps_State_setB
      assumption
    · assumption
  clear_value v11
  split
  · rename_i x12 e13
    refine keeps_ite ?_ ?_
    · with_reducible apply hv7
      assumption
    · refine keeps_ite ?_ ?_
      · with_reducible apply keeps_State_modOvr
        with_reducible apply keeps_State_set
        assumption
      · assumption
  · rename_i x14 e15
    refine keeps_ite ?_ ?_
    · with_reducible apply hv7
      assumption
    · refine keeps_ite ?_ ?_
      · assumption
      · with_reducible apply keeps_State_modOvr
        with_reducible apply keeps_State_inc
        with_reducible apply keeps_State_set
        assumption
  · rename_i x16 x17 x18
    refine keeps_ite ?_ ?_
    · with_reducible apply keeps_State_modOvr
      assumption
    · refine keeps_ite ?_ ?_
      · with_reducible apply keeps_State_modOvr
        assumption
      · extract_lets +onlyGivenNames v19
        have hv19 : Keeps s₀ v19 := by
          unfold v19
          with_reducible apply keeps_State_modOvr
          with_reducible apply keeps_State_set
          assumption
        clear_value v19
        refine keeps_ite ?_ ?_
        · with_reducible apply keeps_State_modOvr
          assumption
        · with_reducible apply keeps_ovrEnd
          assumption
theorem keeps_ovrAccept {s₀ : State} {s : State} (a : Bool) (b : Bool) (hk : Keeps s₀ s) :
    Keeps s₀ (ovrAccept a b s) := by
  unfold ovrAccept
  refine keeps_ite ?_ ?_
  · assumption
  · with_reducible apply keeps_ovrMove
    with_reducible apply keeps_State_modOvr
    assumption
theorem keeps_ovrDiscExpire {s₀ : State} {s : State} (hk : Keeps s₀ s) :
    Keeps s₀ (ovrDiscExpire s) := by
  unfold ovrDiscExpire
  extract_lets +onlyGivenNames v1
  clear_value v1
  refine keeps_ite ?_ ?_
  · assumption
  · refine keeps_ite ?_ ?_
    · with_reducible apply keeps_discRaise
      with_reducible apply keeps_ovrBegin
      with_reducible apply keeps_State_set
      assumption
    · refine keeps_ite ?_ ?_
      · with_reducible apply keeps_discRaise
        assumption
      · assumption
theorem keeps_ovrCarry {s₀ : State} {s : State} (old : Nat) (gone : Nat) (hk : Keeps s₀ s) :
    Keeps s₀ (ovrCarry old gone s) := by
  unfold ovrCarry
  extract_lets +onlyGivenNames v1
  clear_value v1
  refine keeps_ite ?_ ?_
  · split
    · rename_i x2 x3 x4 e5
      have hx6 := keeps_of_eq2 (s₀ := s₀) (by
        with_reducible apply keeps_State_fresh
        assumption
        ) e5
      extract_lets +onlyGivenNames v7
      clear_value v7
      with_reducible apply keeps_State_modOvr
      assumption
  · with_reducible apply keeps_State_modOvr
    assumption
theorem keeps_ovrCfgWrite {s₀ : State} {s : State} (v : Word) (hk : Keeps s₀ s) :
    Keeps s₀ (ovrCfgWrite v s).1 := by
  unfold ovrCfgWrite
  refine keeps_pair ?_
  with_reducible apply keeps_ovrMove
  with_reducible apply keeps_State_setWord
  assumption
theorem keeps_ovrHead {s₀ : State} {s : State} (hk : Keeps s₀ s) :
    Keeps s₀ (ovrHead s) := by
  unfold ovrHead
  extract_lets +onlyGivenNames v1
  clear_value v1
  extract_lets +onlyGivenNames v2
  clear_value v2
  extract_lets +onlyGivenNames v3
  have hv3 : Keeps s₀ v3 := by
    unfold v3
    refine keeps_ite ?_ ?_
    · with_reducible apply keeps_ovrDiscExpire
      assumption
    · assumption
  clear_value v3
  extract_lets +onlyGivenNames v4
  have hv4 : Keeps s₀ v4 := by
    unfold v4
    refine keeps_ite ?_ ?_
    · with_reducible apply keeps_ovrBegin
      assumption
    · assumption
  clear_value v4
  extract_lets +onlyGivenNames v5
  have hv5 : Keeps s₀ v5 := by
    unfold v5
    refine keeps_ite ?_ ?_
    · with_reducible apply keeps_ovrEnd
      assumption
    · assumption
  clear_value v5
  extract_lets +onlyGivenNames v6
  clear_value v6
  extract_lets +onlyGivenNames v7
  have hv7 : Keeps s₀ v7 := by
    unfold v7
    with_reducible apply keeps_State_modOvr
    assumption
  clear_value v7
  extract_lets +onlyGivenNames v8
  clear_value v8
  refine keeps_ite ?_ ?_
  · assumption
  · with_reducible apply keeps_State_modOvr
    with_reducible apply keeps_State_anaStart
    with_reducible apply keeps_State_askStart
    assumption
theorem keeps_ovrStat {s₀ : State} {s : State} (hk : Keeps s₀ s) :
    Keeps s₀ (ovrStat s) := by
  unfold ovrStat
  extract_lets +onlyGivenNames v1
  clear_value v1
  extract_lets +onlyGivenNames v2
  extract_lets +onlyGivenNames v3
  extract_lets +onlyGivenNames v4
  have hv4 : Keeps s₀ v4 := by
    unfold v4
    with_reducible apply keeps_State_modOvr
    with_reducible apply keeps_State_setB
    with_reducible apply keeps_State_set
    assumption
  clear_value v4
  refine keeps_ite ?_ ?_
  · with_reducible apply keeps_State_int
    assumption
  · assumption
theorem keeps_State_modAux {s₀ : State} {s : State} (n : Nat) (f : AuxCh → AuxCh) (hk : Keeps s₀ s) :
    Keeps s₀ (State.modAux s n f) := by
  unfold State.modAux
  with_reducible refine keeps_mk ?_
  assumption
theorem keeps_State_auxInt {s₀ : State} {s : State} (n : Nat) (k : Nat) (hk : Keeps s₀ s) :
    Keeps s₀ (State.auxInt s n k) := by
  unfold State.auxInt
  with_reducible apply keeps_State_int
  assumption
theorem keeps_showQueue {s₀ : State} {s : State} (n : Nat) (hk : Keeps s₀ s) :
    Keeps s₀ (showQueue s n) := by
  unfold showQueue
  with_reducible apply keeps_State_set
  assumption
theorem keeps_auxEmpty {s₀ : State} {s : State} (n : Nat) (hk : Keeps s₀ s) :
    Keeps s₀ (auxEmpty n s) := by
  unfold auxEmpty
  with_reducible apply keeps_showQueue
  with_reducible apply keeps_State_modAux
  assumption
theorem keeps_auxOff {s₀ : State} {s : State} (n : Nat) (hk : Keeps s₀ s) :
    Keeps s₀ (auxOff n s) := by
  unfold auxOff
  extract_lets +onlyGivenNames v1
  clear_value v1
  extract_lets +onlyGivenNames v2
  have hv2 : Keeps s₀ v2 := by
    unfold v2
    with_reducible apply keeps_State_modAux
    assumption
  clear_value v2
  refine keeps_ite ?_ ?_
  · assumption
  · with_reducible apply keeps_State_auxInt
    with_reducible apply keeps_State_set
    with_reducible apply keeps_State_set
    assumption
theorem keeps_auxEnter {s₀ : State} {s : State} (n : Nat) (m : Nat) (hk : Keeps s₀ s) :
    Keeps s₀ (auxEnter n m s) := by
  unfold auxEnter
  extract_lets +onlyGivenNames v1
  have hv1 : Keeps s₀ v1 := by
    unfold v1
    with_reducible apply keeps_State_modAux
    assumption
  clear_value v1
  refine keeps_ite ?_ ?_
  · assumption
  · with_reducible apply keeps_State_auxInt
    with_reducible apply keeps_State_set
    assumption
theorem keeps_auxPop {s₀ : State} {s : State} (n : Nat) (hk : Keeps s₀ s) :
    Keeps s₀ (auxPop n s) := by
  unfold auxPop
  split
  · rename_i x1 x2 x3 e4
    extract_lets +onlyGivenNames v5
    have hv5 : Keeps s₀ v5 := by
      unfold v5
      with_reducible apply keeps_showQueue
      with_reducible apply keeps_State_set
      with_reducible apply keeps_State_modAux
      assumption
    clear_value v5
    refine keeps_ite ?_ ?_
    · with_reducible apply keeps_State_auxInt
      assumption
    · assumption
  · rename_i x6 e7
    with_reducible apply keeps_State_auxInt
    with_reducible apply keeps_State_inc
    assumption
theorem keeps_auxStep {s₀ : State} {s : State} (n : Nat) (use : Bool) (hk : Keeps s₀ s) :
    Keeps s₀ (auxStep n use s) := by
  unfold auxStep
  split
  · rename_i x1 x2 x3 e4
    extract_lets +onlyGivenNames v5
    have hv5 : Keeps s₀ v5 := by
      unfold v5
      with_reducible apply keeps_State_modAux
      assumption
    clear_value v5
    refine keeps_ite ?_ ?_
    · with_reducible apply keeps_State_set
      assumption
    · assumption
theorem keeps_auxUpdate {s₀ : State} {s : State} (n : Nat) (hk : Keeps s₀ s) :
    Keeps s₀ (auxUpdate n s) := by
  unfold auxUpdate
  refine keeps_ite ?_ ?_
  · assumption
  · extract_lets +onlyGivenNames v1
    clear_value v1
    extract_lets +onlyGivenNames v2
    clear_value v2
    extract_lets +onlyGivenNames v3
    clear_value v3
    extract_lets +onlyGivenNames v4
    have hv4 : Keeps s₀ v4 := by
      unfold v4
      with_reducible apply keeps_State_modAux
      assumption
    clear_value v4
    extract_lets +onlyGivenNames v5
    have hv5 : Keeps s₀ v5 := by
      unfold v5
      with_reducible refine keeps_mk ?_
      assumption
    clear_value v5
    extract_lets +onlyGivenNames v6
    have hv6 : Keeps s₀ v6 := by
      unfold v6
      split
      · rename_i x7
        with_reducible apply keeps_State_modAux
        with_reducible apply keeps_auxEnter
        assumption
      · rename_i x8 x9 x10
        with_reducible apply keeps_auxEnter
        assumption
      · rename_i x11
        refine keeps_ite ?_ ?_
        · with_reducible apply keeps_auxEnter
          assumption
        · assumption
    clear_value v6
    extract_lets +onlyGivenNames v12
    clear_value v12
    refine keeps_ite ?_ ?_
    · assumption
    · extract_lets +onlyGivenNames v13
      have hv13 : Keeps s₀ v13 := by
        unfold v13
        with_reducible apply keeps_State_set
        assumption
      clear_value v13
      refine keeps_ite ?_ ?_
      · split
        · rename_i x14 e15
          with_reducible apply keeps_auxPop
          assumption
        · rename_i x16 e17
          with_reducible apply keeps_State_set
          assumption
        · rename_i x18 x19 x20
          with_reducible apply keeps_auxStep
          assumption
      · refine keeps_ite ?_ ?_
        · with_reducible apply keeps_auxStep
          assumption
        · with_reducible apply keeps_State_set
          assumption
theorem keeps_auxHead {s₀ : State} {s : State} (hk : Keeps s₀ s) :
    Keeps s₀ (auxHead s) := by
  unfold auxHead
  with_reducible apply keeps_State_forN
  · assumption
  · intro u1 u2 h3
    with_reducible apply keeps_State_modAux
    assumption
theorem keeps_auxCfgWrite {s₀ : State} {s : State} (n : Nat) (v : Word) (hk : Keeps s₀ s) :
    Keeps s₀ (auxCfgWrite n v s).1 := by
  unfold auxCfgWrite
  extract_lets +onlyGivenNames v1
  clear_value v1
  extract_lets +onlyGivenNames v2
  clear_value v2
  refine keeps_ite1 ?_ ?_
  · refine keeps_pair ?_
    assumption
  · refine keeps_ite1 ?_ ?_
    · refine keeps_pair ?_
      assumption
    · extract_lets +onlyGivenNames v3
      have hv3 : Keeps s₀ v3 := by
        unfold v3
        with_reducible apply keeps_State_setWord
        assumption
      clear_value v3
      refine keeps_ite1 ?_ ?_
      · refine keeps_pair ?_
        refine keeps_ite ?_ ?_
        · assumption
        · with_reducible apply keeps_State_modAux
          assumption
      · refine keeps_pair ?_
        refine keeps_ite ?_ ?_
        · with_reducible apply keeps_auxEmpty
          with_reducible apply keeps_auxOff
          assumption
        · assumption
theorem keeps_actAuxMode {s₀ : State} {s : State} (n : Nat) (r : Nat) (hk : Keeps s₀ s) :
    Keeps s₀ (actAuxMode n r s).1 := by
  unfold actAuxMode
  extract_lets +onlyGivenNames v1
  clear_value v1
  refine keeps_ite1 ?_ ?_
  · refine keeps_pair ?_
    assumption
  · refine keeps_ite1 ?_ ?_
    · refine keeps_pair ?_
      assumption
    · refine keeps_ite1 ?_ ?_
      · refine keeps_pair ?_
        assumption
      · refine keeps_ite1 ?_ ?_
        · refine keeps_pair ?_
          with_reducible apply keeps_State_modAux
          assumption
        · refine keeps_pair ?_
          assumption
theorem keeps_actAuxFlush {s₀ : State} {s : State} (n : Nat) (hk : Keeps s₀ s) :
    Keeps s₀ (actAuxFlush n s).1 := by
  unfold actAuxFlush
  refine keeps_pair ?_
  with_reducible apply keeps_auxEmpty
  assumption
theorem keeps_actAuxSync {s₀ : State} {s : State} (n : Nat) (hk : Keeps s₀ s) :
    Keeps s₀ (actAuxSync n s).1 := by
  unfold actAuxSync
  refine keeps_pair ?_
  with_reducible apply keeps_State_modAux
  assumption
theorem keeps_auxQueueWrite {s₀ : State} {s : State} (n : Nat) (v : Word) (hk : Keeps s₀ s) :
    Keeps s₀ (auxQueueWrite n v s).1 := by
  unfold auxQueueWrite
  refine keeps_ite1 ?_ ?_
  · refine keeps_pair ?_
    with_reducible apply keeps_State_inc
    assumption
  · refine keeps_pair ?_
    with_reducible apply keeps_showQueue
    with_reducible apply keeps_State_modAux
    assumption
theorem keeps_auxGenWrite {s₀ : State} {s : State} (n : Nat) (v : Word) (hk : Keeps s₀ s) :
    Keeps s₀ (auxGenWrite n v s).1 := by
  unfold auxGenWrite
  refine keeps_ite1 ?_ ?_
  · refine keeps_pair ?_
    assumption
  · refine keeps_pair ?_
    with_reducible apply keeps_State_setWord
    assumption
theorem keeps_actAuxCntClr {s₀ : State} {s : State} (hk : Keeps s₀ s) :
    Keeps s₀ (actAuxCntClr s) := by
  unfold actAuxCntClr
  with_reducible apply keeps_State_forN
  · assumption
  · intro u1 u2 h3
    with_reducible apply keeps_State_set
    with_reducible apply keeps_State_set
    assumption
theorem keeps_auxShort {s₀ : State} {s : State} (n : Nat) (hk : Keeps s₀ s) :
    Keeps s₀ (auxShort n s) := by
  unfold auxShort
  refine keeps_ite ?_ ?_
  · assumption
  · with_reducible apply keeps_State_auxInt
    with_reducible apply keeps_State_raise
    with_reducible apply keeps_State_event
    with_reducible apply keeps_State_setB
    assumption
theorem keeps_State_modSap {s₀ : State} {s : State} (n : Nat) (f : SapPort → SapPort) (hk : Keeps s₀ s) :
    Keeps s₀ (State.modSap s n f) := by
  unfold State.modSap
  with_reducible refine keeps_mk ?_
  assumption
theorem keeps_State_sapInt {s₀ : State} {s : State} (n : Nat) (k : Nat) (hk : Keeps s₀ s) :
    Keeps s₀ (State.sapInt s n k) := by
  unfold State.sapInt
  with_reducible apply keeps_State_int
  assumption
theorem keeps_State_sapLock {s₀ : State} {s : State} (n : Nat) (on : Bool) (hk : Keeps s₀ s) :
    Keeps s₀ (State.sapLock s n on) := by
  unfold State.sapLock
  refine keeps_ite ?_ ?_
  · assumption
  · extract_lets +onlyGivenNames v1
    have hv1 : Keeps s₀ v1 := by
      unfold v1
      with_reducible apply keeps_State_sapInt
      with_reducible apply keeps_State_setB
      assumption
    clear_value v1
    extract_lets +onlyGivenNames v2
    clear_value v2
    extract_lets +onlyGivenNames v3
    have hv3 : Keeps s₀ v3 := by
      unfold v3
      with_reducible apply keeps_State_set
      assumption
    clear_value v3
    extract_lets +onlyGivenNames v4
    have hv4 : Keeps s₀ v4 := by
      unfold v4
      with_reducible apply keeps_State_sapInt
      with_reducible apply keeps_State_set
      assumption
    clear_value v4
    refine keeps_ite ?_ ?_
    · assumption
    · with_reducible apply keeps_State_srcLock
      assumption
theorem keeps_sapLockLoss {s₀ : State} {s : State} (n : Nat) (hk : Keeps s₀ s) :
    Keeps s₀ (sapLockLoss n s) := by
  unfold sapLockLoss
  refine keeps_ite ?_ ?_
  · assumption
  · with_reducible apply keeps_State_raise
    with_reducible apply keeps_State_event
    with_reducible apply keeps_State_modSap
    with_reducible apply keeps_State_inc
    with_reducible apply keeps_State_sapLock
    assumption
theorem keeps_sapLockOn {s₀ : State} {s : State} (n : Nat) (hk : Keeps s₀ s) :
    Keeps s₀ (sapLockOn n s) := by
  unfold sapLockOn
  refine keeps_ite ?_ ?_
  · with_reducible apply keeps_State_sapLock
    assumption
  · assumption
theorem keeps_sapStart {s₀ : State} {s : State} (n : Nat) (hk : Keeps s₀ s) :
    Keeps s₀ (sapStart n s).1 := by
  unfold sapStart
  refine keeps_ite1 ?_ ?_
  · refine keeps_pair ?_
    with_reducible apply keeps_State_setB
    with_reducible apply keeps_State_setB
    assumption
  · extract_lets +onlyGivenNames v1
    have hv1 : Keeps s₀ v1 := by
      unfold v1
      with_reducible apply keeps_State_setB
      with_reducible apply keeps_State_setB
      assumption
    clear_value v1
    refine keeps_ite1 ?_ ?_
    · refine keeps_pair ?_
      with_reducible apply keeps_State_sapLock
      with_reducible apply keeps_State_set
      with_reducible apply keeps_State_setB
      with_reducible apply keeps_State_setB
      assumption
    · refine keeps_pair ?_
      assumption
theorem keeps_sapCfgWrite {s₀ : State} {s : State} (n : Nat) (v : Word) (hk : Keeps s₀ s) :
    Keeps s₀ (sapCfgWrite n v s).1 := by
  unfold sapCfgWrite
  extract_lets +onlyGivenNames v1
  refine keeps_ite1 ?_ ?_
  · refine keeps_ite1 ?_ ?_
    · refine keeps_pair ?_
      assumption
    · refine keeps_pair ?_
      with_reducible apply keeps_State_setWord
      assumption
  · extract_lets +onlyGivenNames v2
    have hv2 : Keeps s₀ v2 := by
      unfold v2
      with_reducible apply keeps_State_setWord
      assumption
    clear_value v2
    refine keeps_ite1 ?_ ?_
    · with_reducible apply keeps_sapStart
      assumption
    · refine keeps_pair ?_
      assumption
theorem keeps_dmaCfgWrite {s₀ : State} {s : State} (pb : Bool) (n : Nat) (v : Word) (hk : Keeps s₀ s) :
    Keeps s₀ (dmaCfgWrite pb n v s).1 := by
  unfold dmaCfgWrite
  extract_lets +onlyGivenNames v1
  extract_lets +onlyGivenNames v2
  clear_value v2
  extract_lets +onlyGivenNames v3
  refine keeps_ite1 ?_ ?_
  · refine keeps_ite1 ?_ ?_
    · refine keeps_pair ?_
      assumption
    · refine keeps_pair ?_
      with_reducible apply keeps_State_setWord
      assumption
  · extract_lets +onlyGivenNames v4
    have hv4 : Keeps s₀ v4 := by
      unfold v4
      with_reducible apply keeps_State_setWord
      assumption
    clear_value v4
    refine keeps_ite1 ?_ ?_
    · refine keeps_pair ?_
      assumption
    · extract_lets +onlyGivenNames v5
      clear_value v5
      refine keeps_ite1 ?_ ?_
      · refine keeps_pair ?_
        assumption
      · extract_lets +onlyGivenNames v6
        have hv6 : Keeps s₀ v6 := by
          unfold v6
          with_reducible apply keeps_State_setWord
          with_reducible apply keeps_State_setWord
          assumption
        clear_value v6
        extract_lets +onlyGivenNames v7
        have hv7 : Keeps s₀ v7 := by
          unfold v7
          refine keeps_ite ?_ ?_
          · with_reducible apply keeps_State_setWord
            with_reducible apply keeps_State_setWord
            assumption
          · with_reducible apply keeps_State_setWord
            with_reducible apply keeps_State_setWord
            assumption
        clear_value v7
        refine keeps_pair ?_
        refine keeps_ite ?_ ?_
        · with_reducible apply keeps_State_setB
          with_reducible apply keeps_State_modSap
          assumption
        · assumption
theorem keeps_capRdWrite {s₀ : State} {s : State} (n : Nat) (v : Word) (hk : Keeps s₀ s) :
    Keeps s₀ (capRdWrite n v s).1 := by
  unfold capRdWrite
  extract_lets +onlyGivenNames v1
  clear_value v1
  extract_lets +onlyGivenNames v2
  clear_value v2
  refine keeps_ite1 ?_ ?_
  · refine keeps_pair ?_
    with_reducible apply keeps_State_setWord
    assumption
  · refine keeps_pair ?_
    assumption
theorem keeps_pbWrWrite {s₀ : State} {s : State} (n : Nat) (v : Word) (hk : Keeps s₀ s) :
    Keeps s₀ (pbWrWrite n v s).1 := by
  unfold pbWrWrite
  extract_lets +onlyGivenNames v1
  clear_value v1
  extract_lets +onlyGivenNames v2
  clear_value v2
  refine keeps_ite1 ?_ ?_
  · refine keeps_pair ?_
    with_reducible apply keeps_State_setWord
    assumption
  · refine keeps_pair ?_
    assumption
theorem keeps_State_sapMark {s₀ : State} {s : State} (pb : Bool) (n : Nat) (c : Nat) (hk : Keeps s₀ s) :
    Keeps s₀ (State.sapMark s pb n c) := by
  unfold State.sapMark
  extract_lets +onlyGivenNames v1
  clear_value v1
  refine keeps_ite ?_ ?_
  · assumption
  · extract_lets +onlyGivenNames v2
    clear_value v2
    refine keeps_ite ?_ ?_
    · with_reducible apply keeps_State_sapInt
      with_reducible apply keeps_State_set64
      with_reducible apply keeps_State_setWord
      assumption
    · with_reducible apply keeps_State_sapInt
      with_reducible apply keeps_State_set64
      with_reducible apply keeps_State_setWord
      assumption
theorem keeps_capFrame {s₀ : State} {s : State} (n : Nat) (hk : Keeps s₀ s) :
    Keeps s₀ (capFrame n s) := by
  unfold capFrame
  refine keeps_ite ?_ ?_
  · assumption
  · extract_lets +onlyGivenNames v1
    clear_value v1
    extract_lets +onlyGivenNames v2
    clear_value v2
    extract_lets +onlyGivenNames v3
    clear_value v3
    refine keeps_ite ?_ ?_
    · with_reducible apply keeps_State_sapInt
      with_reducible apply keeps_State_inc
      assumption
    · extract_lets +onlyGivenNames v4
      clear_value v4
      extract_lets +onlyGivenNames v5
      clear_value v5
      extract_lets +onlyGivenNames v6
      clear_value v6
      extract_lets +onlyGivenNames v7
      clear_value v7
      extract_lets +onlyGivenNames v8
      clear_value v8
      extract_lets +onlyGivenNames v9
      have hv9 : Keeps s₀ v9 := by
        unfold v9
        with_reducible apply keeps_State_setWord
        with_reducible apply keeps_State_dramWrite
        assumption
      clear_value v9
      with_reducible apply keeps_State_sapMark
      assumption
theorem keeps_pbFrame {s₀ : State} {s : State} (n : Nat) (hk : Keeps s₀ s) :
    Keeps s₀ (pbFrame n s) := by
  unfold pbFrame
  refine keeps_ite ?_ ?_
  · assumption
  · extract_lets +onlyGivenNames v1
    clear_value v1
    extract_lets +onlyGivenNames v2
    clear_value v2
    extract_lets +onlyGivenNames v3
    clear_value v3
    extract_lets +onlyGivenNames v4
    have hv4 : Keeps s₀ v4 := by
      unfold v4
      with_reducible apply keeps_State_setB
      assumption
    clear_value v4
    refine keeps_ite ?_ ?_
    · with_reducible apply keeps_State_modSap
      with_reducible apply keeps_State_sapInt
      with_reducible apply keeps_State_inc
      assumption
    · extract_lets +onlyGivenNames v5
      clear_value v5
      extract_lets +onlyGivenNames v6
      clear_value v6
      extract_lets +onlyGivenNames v7
      clear_value v7
      extract_lets +onlyGivenNames v8
      clear_value v8
      split
      · rename_i x9 x10 x11 e12
        have hx13 := keeps_of_eq (s₀ := s₀) (by
          with_reducible apply keeps_State_eccRead
          assumption
          ) e12
        extract_lets +onlyGivenNames v14
        clear_value v14
        extract_lets +onlyGivenNames v15
        clear_value v15
        extract_lets +onlyGivenNames v16
        have hv16 : Keeps s₀ v16 := by
          unfold v16
          with_reducible apply keeps_State_modSap
          assumption
        clear_value v16
        extract_lets +onlyGivenNames v17
        have hv17 : Keeps s₀ v17 := by
          unfold v17
          with_reducible apply keeps_State_setWord
          assumption
        clear_value v17
        with_reducible apply keeps_State_sapMark
        assumption
theorem keeps_sapFrame {s₀ : State} {s : State} (n : Nat) (rx : List Nat) (clocks : Bool) (hk : Keeps s₀ s) :
    Keeps s₀ (sapFrame n rx clocks s) := by
  unfold sapFrame
  refine keeps_ite ?_ ?_
  · assumption
  · extract_lets +onlyGivenNames v1
    have hv1 : Keeps s₀ v1 := by
      unfold v1
      with_reducible apply keeps_State_setB
      assumption
    clear_value v1
    extract_lets +onlyGivenNames v2
    clear_value v2
    extract_lets +onlyGivenNames v3
    clear_value v3
    extract_lets +onlyGivenNames v4
    have hv4 : Keeps s₀ v4 := by
      unfold v4
      refine keeps_ite ?_ ?_
      · assumption
      · with_reducible apply keeps_State_inc
        assumption
    clear_value v4
    extract_lets +onlyGivenNames v5
    have hv5 : Keeps s₀ v5 := by
      unfold v5
      with_reducible apply keeps_State_modSap
      assumption
    clear_value v5
    extract_lets +onlyGivenNames v6
    have hv6 : Keeps s₀ v6 := by
      unfold v6
      refine keeps_ite ?_ ?_
      · with_reducible apply keeps_sapLockLoss
        assumption
      · assumption
    clear_value v6
    extract_lets +onlyGivenNames v7
    clear_value v7
    extract_lets +onlyGivenNames v8
    have hv8 : Keeps s₀ v8 := by
      unfold v8
      with_reducible apply keeps_State_modSap
      assumption
    clear_value v8
    extract_lets +onlyGivenNames v9
    have hv9 : Keeps s₀ v9 := by
      unfold v9
      refine keeps_ite ?_ ?_
      · assumption
      · with_reducible apply keeps_State_srcSample
        assumption
    clear_value v9
    extract_lets +onlyGivenNames v10
    have hv10 : Keeps s₀ v10 := by
      unfold v10
      refine keeps_ite ?_ ?_
      · with_reducible apply keeps_pbFrame
        with_reducible apply keeps_capFrame
        assumption
      · assumption
    clear_value v10
    extract_lets +onlyGivenNames v11
    have hv11 : Keeps s₀ v11 := by
      unfold v11
      with_reducible apply keeps_State_modSap
      assumption
    clear_value v11
    refine keeps_ite ?_ ?_
    · assumption
    · with_reducible apply keeps_State_modSap
      with_reducible apply keeps_State_sapLock
      with_reducible apply keeps_State_setB
      with_reducible apply keeps_State_setB
      assumption
theorem keeps_sapRate {s₀ : State} {s : State} (n : Nat) (r : Nat) (hk : Keeps s₀ s) :
    Keeps s₀ (sapRate n r s) := by
  unfold sapRate
  refine keeps_ite ?_ ?_
  · assumption
  · extract_lets +onlyGivenNames v1
    clear_value v1
    extract_lets +onlyGivenNames v2
    clear_value v2
    extract_lets +onlyGivenNames v3
    clear_value v3
    extract_lets +onlyGivenNames v4
    clear_value v4
    extract_lets +onlyGivenNames v5
    have hv5 : Keeps s₀ v5 := by
      unfold v5
      with_reducible apply keeps_State_setB
      with_reducible apply keeps_State_set
      assumption
    clear_value v5
    extract_lets +onlyGivenNames v6
    have hv6 : Keeps s₀ v6 := by
      unfold v6
      refine keeps_ite ?_ ?_
      · with_reducible apply keeps_sapLockLoss
        assumption
      · assumption
    clear_value v6
    extract_lets +onlyGivenNames v7
    clear_value v7
    extract_lets +onlyGivenNames v8
    clear_value v8
    extract_lets +onlyGivenNames v9
    clear_value v9
    extract_lets +onlyGivenNames v10
    have hv10 : Keeps s₀ v10 := by
      unfold v10
      with_reducible apply keeps_State_set
      assumption
    clear_value v10
    extract_lets +onlyGivenNames v11
    have hv11 : Keeps s₀ v11 := by
      unfold v11
      refine keeps_ite ?_ ?_
      · assumption
      · with_reducible apply keeps_State_srcRate
        assumption
    clear_value v11
    refine keeps_ite ?_ ?_
    · with_reducible apply keeps_State_sapInt
      with_reducible apply keeps_State_set
      assumption
    · assumption
theorem keeps_sapOwn {s₀ : State} {s : State} (hk : Keeps s₀ s) :
    Keeps s₀ (sapOwn s) := by
  unfold sapOwn
  with_reducible apply keeps_State_forN
  · assumption
  · intro u1 u2 h3
    extract_lets +onlyGivenNames v4
    clear_value v4
    with_reducible apply keeps_State_setWord
    with_reducible apply keeps_State_setWord
    assumption
theorem keeps_sapActivate {s₀ : State} {s : State} (hk : Keeps s₀ s) :
    Keeps s₀ (sapActivate s) := by
  unfold sapActivate
  with_reducible apply keeps_sapOwn
  with_reducible apply keeps_State_forN
  · assumption
  · intro u1 u2 h3
    extract_lets +onlyGivenNames v4
    have hv4 : Keeps s₀ v4 := by
      unfold v4
      refine keeps_ite ?_ ?_
      · refine keeps_ite ?_ ?_
        · with_reducible apply keeps_sapRate
          assumption
        · with_reducible apply keeps_State_modSap
          with_reducible apply keeps_State_sapLock
          with_reducible apply keeps_State_setB
          with_reducible apply keeps_State_setB
          with_reducible apply keeps_State_setB
          assumption
      · assumption
    clear_value v4
    extract_lets +onlyGivenNames v5
    have hv5 : Keeps s₀ v5 := by
      unfold v5
      refine keeps_ite ?_ ?_
      · with_reducible apply keeps_State_setB
        with_reducible apply keeps_State_setB
        assumption
      · assumption
    clear_value v5
    refine keeps_ite ?_ ?_
    · with_reducible apply keeps_State_setB
      with_reducible apply keeps_State_setB
      assumption
    · assumption
theorem keeps_State_sapStage {s₀ : State} {s : State} (n : Nat) (slot : Nat) (x : Int) (hk : Keeps s₀ s) :
    Keeps s₀ (State.sapStage s n slot x) := by
  unfold State.sapStage
  with_reducible apply keeps_State_modSap
  assumption
theorem keeps_State_modPll {s₀ : State} {s : State} (p : Nat) (f : Pll → Pll) (hk : Keeps s₀ s) :
    Keeps s₀ (State.modPll s p f) := by
  unfold State.modPll
  with_reducible refine keeps_mk ?_
  assumption
theorem keeps_showPll {s₀ : State} {s : State} (hk : Keeps s₀ s) :
    Keeps s₀ (showPll s) := by
  unfold showPll
  extract_lets +onlyGivenNames v1
  have hv1 : Keeps s₀ v1 := by
    unfold v1
    with_reducible apply keeps_State_forN
    · assumption
    · intro u2 u3 h4
      with_reducible apply keeps_State_setB
      assumption
  clear_value v1
  extract_lets +onlyGivenNames v5
  have hv5 : Keeps s₀ v5 := by
    unfold v5
    with_reducible apply keeps_State_set
    assumption
  clear_value v5
  extract_lets +onlyGivenNames v6
  have hv6 : Keeps s₀ v6 := by
    unfold v6
    with_reducible apply keeps_State_set
    assumption
  clear_value v6
  with_reducible apply keeps_State_setB
  assumption
theorem keeps_State_setLock {s₀ : State} {s : State} (p : Nat) (on : Bool) (hk : Keeps s₀ s) :
    Keeps s₀ (State.setLock s p on) := by
  unfold State.setLock
  refine keeps_ite ?_ ?_
  · assumption
  · with_reducible apply keeps_showPll
    with_reducible apply keeps_State_int
    with_reducible apply keeps_State_setB
    assumption
theorem keeps_State_rampSeg {s₀ : State} {s : State} (p : Nat) (g : Nat) (ppt : Int) (hk : Keeps s₀ s) :
    Keeps s₀ (State.rampSeg s p g ppt) := by
  unfold State.rampSeg
  with_reducible apply keeps_State_modPll
  with_reducible apply keeps_State_set
  assumption
theorem keeps_State_stopRamp {s₀ : State} {s : State} (p : Nat) (hk : Keeps s₀ s) :
    Keeps s₀ (State.stopRamp s p) := by
  unfold State.stopRamp
  extract_lets +onlyGivenNames v1
  have hv1 : Keeps s₀ v1 := by
    unfold v1
    with_reducible apply keeps_State_rampSeg
    assumption
  clear_value v1
  refine keeps_ite ?_ ?_
  · with_reducible apply keeps_State_setB
    with_reducible refine keeps_mk ?_
    assumption
  · assumption
theorem keeps_refLoss {s₀ : State} {s : State} (hk : Keeps s₀ s) :
    Keeps s₀ (refLoss s) := by
  unfold refLoss
  refine keeps_ite ?_ ?_
  · assumption
  · extract_lets +onlyGivenNames v1
    have hv1 : Keeps s₀ v1 := by
      unfold v1
      with_reducible apply keeps_State_raise
      with_reducible apply keeps_State_event
      with_reducible apply keeps_State_int
      with_reducible apply keeps_State_setB
      assumption
    clear_value v1
    with_reducible apply keeps_showPll
    with_reducible apply keeps_State_forN
    · assumption
    · intro u2 u3 h4
      refine keeps_ite ?_ ?_
      · with_reducible apply keeps_State_modPll
        with_reducible apply keeps_State_stopRamp
        assumption
      · assumption
theorem keeps_refReturn {s₀ : State} {s : State} (xtal : Bool) (hk : Keeps s₀ s) :
    Keeps s₀ (refReturn xtal s) := by
  unfold refReturn
  refine keeps_ite ?_ ?_
  · assumption
  · extract_lets +onlyGivenNames v1
    have hv1 : Keeps s₀ v1 := by
      unfold v1
      with_reducible apply keeps_State_int
      with_reducible apply keeps_State_setB
      with_reducible apply keeps_State_setB
      assumption
    clear_value v1
    with_reducible apply keeps_showPll
    with_reducible apply keeps_State_forN
    · assumption
    · intro u2 u3 h4
      with_reducible apply keeps_State_modPll
      assumption
theorem keeps_pllStart {s₀ : State} {s : State} (p : Nat) (hk : Keeps s₀ s) :
    Keeps s₀ (pllStart p s) := by
  unfold pllStart
  refine keeps_ite ?_ ?_
  · assumption
  · split
    · rename_i x1 x2 e3
      extract_lets +onlyGivenNames v4
      have hv4 : Keeps s₀ v4 := by
        unfold v4
        with_reducible apply keeps_State_setB
        with_reducible apply keeps_State_set
        assumption
      clear_value v4
      extract_lets +onlyGivenNames v5
      have hv5 : Keeps s₀ v5 := by
        unfold v5
        refine keeps_ite ?_ ?_
        · with_reducible apply keeps_State_set
          assumption
        · assumption
      clear_value v5
      with_reducible apply keeps_showPll
      with_reducible apply keeps_State_modPll
      assumption
    · rename_i x6 e7
      with_reducible apply keeps_State_raise
      with_reducible apply keeps_State_event
      with_reducible apply keeps_State_int
      with_reducible apply keeps_State_setB
      assumption
theorem keeps_pllStop {s₀ : State} {s : State} (p : Nat) (hk : Keeps s₀ s) :
    Keeps s₀ (pllStop p s) := by
  unfold pllStop
  refine keeps_ite ?_ ?_
  · assumption
  · with_reducible apply keeps_showPll
    with_reducible apply keeps_State_setLock
    with_reducible apply keeps_State_modPll
    with_reducible apply keeps_State_stopRamp
    assumption
theorem keeps_pllLock {s₀ : State} {s : State} (p : Nat) (hk : Keeps s₀ s) :
    Keeps s₀ (pllLock p s) := by
  unfold pllLock
  refine keeps_ite ?_ ?_
  · with_reducible apply keeps_State_setLock
    assumption
  · assumption
theorem keeps_pllLockLoss {s₀ : State} {s : State} (p : Nat) (hk : Keeps s₀ s) :
    Keeps s₀ (pllLockLoss p s) := by
  unfold pllLockLoss
  refine keeps_ite ?_ ?_
  · assumption
  · extract_lets +onlyGivenNames v1
    have hv1 : Keeps s₀ v1 := by
      unfold v1
      with_reducible apply keeps_State_setLock
      assumption
    clear_value v1
    refine keeps_ite ?_ ?_
    · assumption
    · with_reducible apply keeps_showPll
      with_reducible apply keeps_State_raise
      with_reducible apply keeps_State_event
      with_reducible apply keeps_State_modPll
      with_reducible apply keeps_State_stopRamp
      assumption
theorem keeps_pllHoldEnd {s₀ : State} {s : State} (p : Nat) (hk : Keeps s₀ s) :
    Keeps s₀ (pllHoldEnd p s) := by
  unfold pllHoldEnd
  refine keeps_ite ?_ ?_
  · with_reducible apply keeps_showPll
    with_reducible apply keeps_State_modPll
    assumption
  · assumption
theorem keeps_pllBwChange {s₀ : State} {s : State} (p : Nat) (hk : Keeps s₀ s) :
    Keeps s₀ (pllBwChange p s) := by
  unfold pllBwChange
  with_reducible apply keeps_State_modPll
  assumption
theorem keeps_rampDone {s₀ : State} {s : State} (p : Nat) (hk : Keeps s₀ s) :
    Keeps s₀ (rampDone p s) := by
  unfold rampDone
  extract_lets +onlyGivenNames v1
  have hv1 : Keeps s₀ v1 := by
    unfold v1
    with_reducible apply keeps_State_int
    with_reducible apply keeps_State_rampSeg
    assumption
  clear_value v1
  refine keeps_ite ?_ ?_
  · with_reducible apply keeps_swRampEnd
    assumption
  · assumption
theorem keeps_rampLoad {s₀ : State} {s : State} (p : Nat) (segs : List (Word × Word)) (hk : Keeps s₀ s) :
    Keeps s₀ (rampLoad p segs s) := by
  unfold rampLoad
  refine keeps_ite ?_ ?_
  · assumption
  · extract_lets +onlyGivenNames v1
    clear_value v1
    extract_lets +onlyGivenNames v2
    clear_value v2
    extract_lets +onlyGivenNames v3
    have hv3 : Keeps s₀ v3 := by
      unfold v3
      with_reducible apply keeps_State_forN
      · assumption
      · intro u4 u5 h6
        with_reducible apply keeps_State_setWord
        with_reducible apply keeps_State_setWord
        assumption
    clear_value v3
    refine keeps_ite ?_ ?_
    · with_reducible apply keeps_rampDone
      with_reducible apply keeps_State_rampSeg
      assumption
    · with_reducible apply keeps_State_rampSeg
      assumption
theorem keeps_servoStep {s₀ : State} {s : State} (ns : Int) (hk : Keeps s₀ s) :
    Keeps s₀ (servoStep ns s) := by
  unfold servoStep
  extract_lets +onlyGivenNames v1
  clear_value v1
  extract_lets +onlyGivenNames v2
  clear_value v2
  extract_lets +onlyGivenNames v3
  clear_value v3
  extract_lets +onlyGivenNames v4
  clear_value v4
  extract_lets +onlyGivenNames v5
  clear_value v5
  extract_lets +onlyGivenNames v6
  clear_value v6
  refine keeps_ite ?_ ?_
  · with_reducible refine keeps_mk ?_
    assumption
  · assumption
theorem keeps_rampSegmentEnd {s₀ : State} {s : State} (p : Nat) (hk : Keeps s₀ s) :
    Keeps s₀ (rampSegmentEnd p s) := by
  unfold rampSegmentEnd
  extract_lets +onlyGivenNames v1
  clear_value v1
  refine keeps_ite ?_ ?_
  · assumption
  · extract_lets +onlyGivenNames v2
    clear_value v2
    extract_lets +onlyGivenNames v3
    clear_value v3
    refine keeps_ite ?_ ?_
    · with_reducible apply keeps_State_rampSeg
      assumption
    · with_reducible apply keeps_rampDone
      with_reducible apply keeps_State_rampSeg
      assumption
theorem keeps_phaseStepWrite {s₀ : State} {s : State} (p : Nat) (v : Word) (hk : Keeps s₀ s) :
    Keeps s₀ (phaseStepWrite p v s).1 := by
  unfold phaseStepWrite
  refine keeps_ite1 ?_ ?_
  · refine keeps_pair ?_
    assumption
  · refine keeps_ite1 ?_ ?_
    · refine keeps_pair ?_
      assumption
    · refine keeps_pair ?_
      with_reducible apply keeps_State_set
      assumption
theorem keeps_phaseStepUnit {s₀ : State} {s : State} (p : Nat) (hk : Keeps s₀ s) :
    Keeps s₀ (phaseStepUnit p s) := by
  unfold phaseStepUnit
  extract_lets +onlyGivenNames v1
  clear_value v1
  refine keeps_ite ?_ ?_
  · assumption
  · extract_lets +onlyGivenNames v2
    clear_value v2
    with_reducible apply keeps_State_modPll
    with_reducible apply keeps_State_set
    assumption
theorem keeps_mclkWrite {s₀ : State} {s : State} (n : Nat) (v : Word) (hk : Keeps s₀ s) :
    Keeps s₀ (mclkWrite n v s).1 := by
  unfold mclkWrite
  refine keeps_ite1 ?_ ?_
  · refine keeps_pair ?_
    with_reducible apply keeps_State_setWord
    assumption
  · refine keeps_pair ?_
    assumption
theorem keeps_mclkConfig {s₀ : State} {s : State} (n : Nat) (hk : Keeps s₀ s) :
    Keeps s₀ (mclkConfig n s) := by
  unfold mclkConfig
  with_reducible refine keeps_mk ?_
  assumption
theorem keeps_swKeep {s₀ : State} {s : State} (hk : Keeps s₀ s) :
    Keeps s₀ (swKeep s) := by
  unfold swKeep
  extract_lets +onlyGivenNames v1
  clear_value v1
  extract_lets +onlyGivenNames v2
  clear_value v2
  refine keeps_ite ?_ ?_
  · with_reducible apply keeps_State_set
    assumption
  · assumption
theorem keeps_swApply {s₀ : State} {s : State} (hk : Keeps s₀ s) :
    Keeps s₀ (swApply s).1 := by
  unfold swApply
  split
  · rename_i x1 x2 x3 e4
    have hx5 := keeps_of_eq (s₀ := s₀) (by
      with_reducible apply keeps_actSwApply
      assumption
      ) e4
    refine keeps_ite1 ?_ ?_
    · refine keeps_pair ?_
      assumption
    · extract_lets +onlyGivenNames v6
      clear_value v6
      extract_lets +onlyGivenNames v7
      have hv7 : Keeps s₀ v7 := by
        unfold v7
        with_reducible apply keeps_State_set
        assumption
      clear_value v7
      split
      · rename_i x8 x9 x10 x11 e12
        extract_lets +onlyGivenNames v13
        clear_value v13
        extract_lets +onlyGivenNames v14
        clear_value v14
        extract_lets +onlyGivenNames v15
        clear_value v15
        extract_lets +onlyGivenNames v16
        clear_value v16
        refine keeps_pair ?_
        with_reducible apply keeps_rampLoad
        assumption
      · rename_i x17 e18
        refine keeps_pair ?_
        assumption
theorem keeps_State_modDom {s₀ : State} {s : State} (d : Nat) (f : Domain → Domain) (hk : Keeps s₀ s) :
    Keeps s₀ (State.modDom s d f) := by
  unfold State.modDom
  with_reducible refine keeps_mk ?_
  assumption
theorem keeps_State_saveDrop {s₀ : State} {s : State} (d : Nat) (hk : Keeps s₀ s) :
    Keeps s₀ (State.saveDrop s d) := by
  unfold State.saveDrop
  with_reducible apply keeps_State_footWrite
  assumption
theorem keeps_domSave {s₀ : State} {s : State} (d : Nat) (hk : Keeps s₀ s) :
    Keeps s₀ (domSave d s) := by
  unfold domSave
  extract_lets +onlyGivenNames v1
  clear_value v1
  refine keeps_ite ?_ ?_
  · assumption
  · extract_lets +onlyGivenNames v2
    clear_value v2
    extract_lets +onlyGivenNames v3
    have hv3 : Keeps s₀ v3 := by
      unfold v3
      refine keeps_ite ?_ ?_
      · assumption
      · with_reducible apply keeps_State_fresh
        assumption
    clear_value v3
    extract_lets +onlyGivenNames v4
    have hv4 : Keeps s₀ v4 := by
      unfold v4
      with_reducible apply keeps_State_footWrite
      assumption
    clear_value v4
    with_reducible apply keeps_State_footWrite
    assumption
theorem keeps_domRegsReset {s₀ : State} {s : State} (d : Nat) (hk : Keeps s₀ s) :
    Keeps s₀ (domRegsReset d s) := by
  unfold domRegsReset
  extract_lets +onlyGivenNames v1
  clear_value v1
  extract_lets +onlyGivenNames v2
  have hv2 : Keeps s₀ v2 := by
    unfold v2
    refine keeps_foldl _ _ ?_ ?_
    · assumption
    · intro u3 u4 h5
      refine keeps_foldl _ _ ?_ ?_
      · assumption
      · intro u6 u7 h8
        with_reducible apply keeps_State_setWord
        assumption
  clear_value v2
  refine keeps_foldl _ _ ?_ ?_
  · assumption
  · intro u9 u10 h11
    with_reducible apply keeps_State_set
    assumption
theorem keeps_bstSaved {s₀ : State} {s : State} (hk : Keeps s₀ s) :
    Keeps s₀ (bstSaved s) := by
  unfold bstSaved
  extract_lets +onlyGivenNames v1
  clear_value v1
  extract_lets +onlyGivenNames v2
  clear_value v2
  with_reducible refine keeps_mk ?_
  assumption
theorem keeps_domUnitLost {s₀ : State} {s : State} (d : Nat) (hk : Keeps s₀ s) :
    Keeps s₀ (domUnitLost d s) := by
  unfold domUnitLost
  split
  · rename_i x1
    with_reducible apply keeps_State_forN
    · assumption
    · intro u2 u3 h4
      with_reducible apply keeps_State_modAux
      assumption
  · rename_i x5
    with_reducible refine keeps_mk ?_
    assumption
  · rename_i x6
    with_reducible apply keeps_bstSaved
    assumption
  · rename_i x7 x8 x9 x10
    assumption
theorem keeps_domRegsRestore {s₀ : State} {s : State} (d : Nat) (hk : Keeps s₀ s) :
    Keeps s₀ (domRegsRestore d s) := by
  unfold domRegsRestore
  refine keeps_foldl _ _ ?_ ?_
  · assumption
  · intro u1 u2 h3
    extract_lets +onlyGivenNames v4
    clear_value v4
    extract_lets +onlyGivenNames v5
    clear_value v5
    extract_lets +onlyGivenNames v6
    clear_value v6
    with_reducible apply keeps_State_setWord
    assumption
theorem keeps_dmaCounts {s₀ : State} {s : State} (hk : Keeps s₀ s) :
    Keeps s₀ (dmaCounts s) := by
  unfold dmaCounts
  with_reducible apply keeps_State_forN
  · assumption
  · intro u1 u2 h3
    extract_lets +onlyGivenNames v4
    have hv4 : Keeps s₀ v4 := by
      unfold v4
      refine keeps_ite ?_ ?_
      · with_reducible apply keeps_State_setWord
        with_reducible apply keeps_State_setWord
        assumption
      · assumption
    clear_value v4
    refine keeps_ite ?_ ?_
    · with_reducible apply keeps_State_setWord
      with_reducible apply keeps_State_setWord
      assumption
    · assumption
theorem keeps_domShow {s₀ : State} {s : State} (d : Nat) (hk : Keeps s₀ s) :
    Keeps s₀ (domShow d s) := by
  unfold domShow
  split
  · rename_i x1
    with_reducible apply keeps_State_setPlca
    assumption
  · rename_i x2
    with_reducible apply keeps_showPll
    assumption
  · rename_i x3
    with_reducible apply keeps_State_forN
    · assumption
    · intro u4 u5 h6
      with_reducible apply keeps_showQueue
      assumption
  · rename_i x7
    with_reducible apply keeps_dmaCounts
    with_reducible apply keeps_sapOwn
    with_reducible apply keeps_jackShow
    with_reducible apply keeps_showSettling
    assumption
  · rename_i x8
    with_reducible apply keeps_showFallback
    with_reducible apply keeps_State_forN
    · assumption
    · intro u9 u10 h11
      with_reducible apply keeps_showModel
      assumption
  · rename_i x12 x13 x14 x15 x16 x17
    assumption
theorem keeps_domFromL3 {s₀ : State} {s : State} (ap : Nat → Nat → State → State) (d : Nat) (hk : Keeps s₀ s) (h_ap : ∀ a0 a1 a2, Keeps s₀ a2 → Keeps s₀ (ap a0 a1 a2)) :
    Keeps s₀ (domFromL3 ap d s) := by
  unfold domFromL3
  extract_lets +onlyGivenNames v1
  extract_lets +onlyGivenNames v2
  clear_value v2
  extract_lets +onlyGivenNames v3
  extract_lets +onlyGivenNames v4
  have hv4 : Keeps s₀ v4 := by
    unfold v4
    with_reducible refine keeps_mem ?_ ?_ ?_ ?_ ?_
    · assumption
    · (intro w; unfold v3; (repeat' split) <;> first | exact w | exact Mem.wf_clear _ _ _ w | rfl)
    · (intro w; unfold v3; (repeat' split) <;> first | exact w | exact Mem.wf_clear _ _ _ w | rfl)
    · (intro w; unfold v3; (repeat' split) <;> first | exact w | exact Mem.wf_clear _ _ _ w | rfl)
    · (intro w; unfold v3; (repeat' split) <;> first | exact w | exact Mem.wf_clear _ _ _ w | rfl)
  clear_value v4
  extract_lets +onlyGivenNames v5
  clear_value v5
  refine keeps_ite ?_ ?_
  · assumption
  · split
    · rename_i x6 x7 x8 e9
      have hx10 := keeps_of_eq (s₀ := s₀) (by
        with_reducible apply keeps_State_eccRead
        assumption
        ) e9
      split
      · rename_i x11 x12 x13 e14
        have hx15 := keeps_of_eq (s₀ := s₀) (by
          with_reducible apply keeps_State_eccRead
          assumption
          ) e14
        extract_lets +onlyGivenNames v16
        clear_value v16
        extract_lets +onlyGivenNames v17
        clear_value v17
        extract_lets +onlyGivenNames v18
        clear_value v18
        extract_lets +onlyGivenNames v19
        have hv19 : Keeps s₀ v19 := by
          unfold v19
          with_reducible apply keeps_domRegsReset
          with_reducible apply keeps_domUnitLost
          assumption
        clear_value v19
        extract_lets +onlyGivenNames v20
        have hv20 : Keeps s₀ v20 := by
          unfold v20
          with_reducible apply keeps_domShow
          refine keeps_foldl _ _ ?_ ?_
          · assumption
          · intro u21 u22 h23
            with_reducible apply h_ap
            assumption
        clear_value v20
        extract_lets +onlyGivenNames v24
        have hv24 : Keeps s₀ v24 := by
          unfold v24
          refine keeps_ite ?_ ?_
          · with_reducible apply keeps_bstCold
            assumption
          · assumption
        clear_value v24
        extract_lets +onlyGivenNames v25
        have hv25 : Keeps s₀ v25 := by
          unfold v25
          refine keeps_ite ?_ ?_
          · with_reducible apply keeps_domShow
            with_reducible apply keeps_domRegsRestore
            assumption
          · with_reducible apply keeps_State_raise
            with_reducible apply keeps_State_event
            with_reducible apply keeps_State_int
            with_reducible apply keeps_State_inc
            assumption
        clear_value v25
        with_reducible apply keeps_State_saveDrop
        assumption
theorem keeps_portLeft {s₀ : State} {s : State} (p : Nat) (hk : Keeps s₀ s) :
    Keeps s₀ (portLeft p s) := by
  unfold portLeft
  extract_lets +onlyGivenNames v1
  have hv1 : Keeps s₀ v1 := by
    unfold v1
    with_reducible apply keeps_linkDown
    assumption
  clear_value v1
  extract_lets +onlyGivenNames v2
  have hv2 : Keeps s₀ v2 := by
    unfold v2
    with_reducible apply keeps_State_stepPortEnd
    assumption
  clear_value v2
  extract_lets +onlyGivenNames v3
  have hv3 : Keeps s₀ v3 := by
    unfold v3
    refine keeps_ite ?_ ?_
    · refine keeps_ite ?_ ?_
      · with_reducible apply keeps_leaveTo
        assumption
      · assumption
    · assumption
  clear_value v3
  with_reducible refine keeps_mk ?_
  assumption
theorem keeps_sapLeft {s₀ : State} {s : State} (n : Nat) (hk : Keeps s₀ s) :
    Keeps s₀ (sapLeft s n) := by
  unfold sapLeft
  extract_lets +onlyGivenNames v1
  have hv1 : Keeps s₀ v1 := by
    unfold v1
    refine keeps_ite ?_ ?_
    · with_reducible apply keeps_State_sapLock
      assumption
    · with_reducible apply keeps_sapLockLoss
      assumption
  clear_value v1
  with_reducible apply keeps_State_modSap
  with_reducible apply keeps_State_setB
  assumption
theorem keeps_domLeft {s₀ : State} {s : State} (d : Nat) (hk : Keeps s₀ s) :
    Keeps s₀ (domLeft d s) := by
  unfold domLeft
  split
  · rename_i x1
    with_reducible apply keeps_portLeft
    assumption
  · rename_i x2
    with_reducible apply keeps_portLeft
    assumption
  · rename_i x3
    with_reducible apply keeps_portLeft
    assumption
  · rename_i x4
    with_reducible apply keeps_pllStop
    assumption
  · rename_i x5
    with_reducible apply keeps_pllStop
    assumption
  · rename_i x6
    with_reducible apply keeps_pllStop
    assumption
  · rename_i x7
    with_reducible apply keeps_anaFollow
    assumption
  · rename_i x8
    with_reducible apply keeps_State_forN
    · assumption
    · intro u9 u10 h11
      with_reducible apply keeps_auxOff
      assumption
  · rename_i x12
    with_reducible apply keeps_State_forN
    · with_reducible apply keeps_State_aesLock
      assumption
    · intro u13 u14 h15
      with_reducible apply keeps_sapLeft
      assumption
  · rename_i x16
    with_reducible apply keeps_linkPark
    assumption
  · rename_i x17
    with_reducible apply keeps_chFollow
    assumption
  · rename_i x18
    with_reducible apply keeps_chFollow
    assumption
  · rename_i x19
    with_reducible apply keeps_chFollow
    assumption
  · rename_i x20
    with_reducible apply keeps_chFollow
    assumption
  · rename_i x21 x22 x23 x24 x25 x26 x27 x28 x29 x30 x31 x32 x33 x34 x35
    assumption
theorem keeps_domDown {s₀ : State} {s : State} (d : Nat) (st : Nat) (hk : Keeps s₀ s) :
    Keeps s₀ (domDown d st s) := by
  unfold domDown
  extract_lets +onlyGivenNames v1
  clear_value v1
  refine keeps_ite ?_ ?_
  · assumption
  · extract_lets +onlyGivenNames v2
    have hv2 : Keeps s₀ v2 := by
      unfold v2
      refine keeps_ite ?_ ?_
      · with_reducible apply keeps_domSave
        assumption
      · assumption
    clear_value v2
    extract_lets +onlyGivenNames v3
    have hv3 : Keeps s₀ v3 := by
      unfold v3
      with_reducible apply keeps_State_modDom
      assumption
    clear_value v3
    refine keeps_ite ?_ ?_
    · with_reducible apply keeps_domLeft
      assumption
    · assumption
theorem keeps_domReached {s₀ : State} {s : State} (d : Nat) (old : Nat) (hk : Keeps s₀ s) :
    Keeps s₀ (domReached d old s) := by
  unfold domReached
  split
  · rename_i x1
    refine keeps_ite ?_ ?_
    · with_reducible apply keeps_adcReset
      assumption
    · assumption
  · rename_i x2
    with_reducible apply keeps_anaFollow
    assumption
  · rename_i x3
    with_reducible apply keeps_State_forN
    · assumption
    · intro u4 u5 h6
      refine keeps_ite ?_ ?_
      · with_reducible apply keeps_State_modAux
        assumption
      · assumption
  · rename_i x7
    with_reducible apply keeps_State_forN
    · assumption
    · intro u8 u9 h10
      refine keeps_ite ?_ ?_
      · with_reducible apply keeps_sapStart
        assumption
      · assumption
  · rename_i x11
    with_reducible apply keeps_chFollow
    assumption
  · rename_i x12
    with_reducible apply keeps_chFollow
    assumption
  · rename_i x13
    with_reducible apply keeps_chFollow
    assumption
  · rename_i x14
    with_reducible apply keeps_chFollow
    assumption
  · rename_i x15 x16 x17 x18 x19 x20 x21 x22 x23
    assumption
theorem keeps_domUp {s₀ : State} {s : State} (ap : Nat → Nat → State → State) (d : Nat) (hk : Keeps s₀ s) (h_ap : ∀ a0 a1 a2, Keeps s₀ a2 → Keeps s₀ (ap a0 a1 a2)) :
    Keeps s₀ (domUp ap d s) := by
  unfold domUp
  extract_lets +onlyGivenNames v1
  clear_value v1
  extract_lets +onlyGivenNames v2
  have hv2 : Keeps s₀ v2 := by
    unfold v2
    with_reducible apply keeps_State_modDom
    assumption
  clear_value v2
  refine keeps_ite ?_ ?_
  · assumption
  · with_reducible apply keeps_domReached
    refine keeps_ite ?_ ?_
    · with_reducible apply keeps_domFromL3
      · assumption
      · intro u3 u4 u5 h6
        with_reducible apply h_ap
        assumption
    · assumption
theorem keeps_domFollow {s₀ : State} {s : State} (ap : Nat → Nat → State → State) (hk : Keeps s₀ s) (h_ap : ∀ a0 a1 a2, Keeps s₀ a2 → Keeps s₀ (ap a0 a1 a2)) :
    Keeps s₀ (domFollow ap s) := by
  unfold domFollow
  refine keeps_ite ?_ ?_
  · assumption
  · with_reducible apply keeps_State_forN
    · assumption
    · intro u1 u2 h3
      refine keeps_ite ?_ ?_
      · with_reducible apply keeps_domUp
        · assumption
        · intro u4 u5 u6 h7
          with_reducible apply h_ap
          assumption
      · assumption
theorem keeps_domDemand {s₀ : State} {s : State} (d : Nat) (hk : Keeps s₀ s) :
    Keeps s₀ (domDemand d s) := by
  unfold domDemand
  refine keeps_ite ?_ ?_
  · assumption
  · with_reducible apply keeps_State_inc
    with_reducible apply keeps_State_modDom
    assumption
theorem keeps_domIdle {s₀ : State} {s : State} (d : Nat) (hk : Keeps s₀ s) :
    Keeps s₀ (domIdle d s) := by
  unfold domIdle
  refine keeps_ite ?_ ?_
  · assumption
  · refine keeps_ite ?_ ?_
    · with_reducible apply keeps_domDown
      assumption
    · refine keeps_ite ?_ ?_
      · assumption
      · with_reducible apply keeps_domDown
        assumption
theorem keeps_domCfgWrite {s₀ : State} {s : State} (d : Nat) (v : Word) (hk : Keeps s₀ s) :
    Keeps s₀ (domCfgWrite d v s).1 := by
  unfold domCfgWrite
  refine keeps_ite1 ?_ ?_
  · refine keeps_pair ?_
    with_reducible apply keeps_State_int
    assumption
  · refine keeps_pair ?_
    with_reducible apply keeps_State_setWord
    assumption

end Sys2Proof.Machine
end

