-- ==== Sys2Proof/Laws/KeepsEngine.lean ====
section
/-! SUPPORT. One lemma for each operation that changes the state: it keeps the queue and the canonical form. The engine, the tenancies, register writes, the mix and the image. -/
namespace Sys2Proof.Machine
open Sys2Proof

theorem keeps_State_setGrout {s₀ : State} {s : State} (w : Nat) (g : Grout) (hk : Keeps s₀ s) :
    Keeps s₀ (State.setGrout s w g) := by
  unfold State.setGrout
  with_reducible refine keeps_mk ?_
  assumption
theorem keeps_State_putWord {s₀ : State} {s : State} (w : Nat) (v : F32) (hk : Keeps s₀ s) :
    Keeps s₀ (State.putWord s w v) := by
  unfold State.putWord
  with_reducible apply keeps_State_setGrout
  with_reducible apply keeps_State_sramWrite
  assumption
theorem keeps_State_groutWord {s₀ : State} {s : State} (w : Nat) (hk : Keeps s₀ s) :
    Keeps s₀ (State.groutWord s w) := by
  unfold State.groutWord
  extract_lets +onlyGivenNames v1
  clear_value v1
  with_reducible apply keeps_State_setGrout
  with_reducible apply keeps_State_sramWrite
  assumption
theorem keeps_State_readWord {s₀ : State} {s : State} (w : Nat) (cyc : Option Nat) (hk : Keeps s₀ s) :
    Keeps s₀ (State.readWord s w cyc).1 := by
  unfold State.readWord
  split
  · rename_i x1 x2 x3 e4
    have hx5 := keeps_of_eq (s₀ := s₀) (by
      with_reducible apply keeps_State_eccRead
      assumption
      ) e4
    refine keeps_pair ?_
    assumption
theorem keeps_gatherLanes {s₀ : State} {s : State} (hk : Keeps s₀ s) :
    Keeps s₀ (gatherLanes s).1 := by
  unfold gatherLanes
  refine keeps_foldl1 _ _ ?_ ?_
  · refine keeps_pair ?_
    assumption
  · intro u1 u2 h3
    split
    · rename_i x4 x5 x6 e7
      have hx8 := keeps_of_eq (s₀ := s₀) (by
        with_reducible apply keeps_State_gatherLane
        assumption
        ) e7
      extract_lets +onlyGivenNames v9
      clear_value v9
      split
      · rename_i x10 x11
        extract_lets +onlyGivenNames v12
        clear_value v12
        refine keeps_pair ?_
        with_reducible apply keeps_State_setGrout
        assumption
      · rename_i x13
        extract_lets +onlyGivenNames v14
        clear_value v14
        refine keeps_pair ?_
        with_reducible apply keeps_State_setGrout
        assumption
theorem keeps_gather {s₀ : State} {s : State} (hk : Keeps s₀ s) :
    Keeps s₀ (gather s).1 := by
  unfold gather
  split
  · rename_i x1 x2 x3 e4
    have hx5 := keeps_of_eq (s₀ := s₀) (by
      with_reducible apply keeps_gatherLanes
      assumption
      ) e4
    split
    · rename_i x6 e7
      refine keeps_pair ?_
      assumption
    · rename_i x8 x9 e10
      refine keeps_ite1 ?_ ?_
      · refine keeps_pair ?_
        assumption
      · refine keeps_pair ?_
        refine keeps_foldl _ _ ?_ ?_
        · assumption
        · intro u11 u12 h13
          with_reducible apply keeps_State_forN
          · assumption
          · intro u14 u15 h16
            with_reducible apply keeps_State_putWord
            assumption
theorem keeps_State_msgFail {s₀ : State} {s : State} (hk : Keeps s₀ s) :
    Keeps s₀ (State.msgFail s) := by
  unfold State.msgFail
  with_reducible apply keeps_State_inc
  assumption
theorem keeps_State_nans {s₀ : State} {s : State} (n : Nat) (hk : Keeps s₀ s) :
    Keeps s₀ (State.nans s n) := by
  unfold State.nans
  refine keeps_ite ?_ ?_
  · assumption
  · with_reducible apply keeps_State_int
    with_reducible apply keeps_State_incBy
    assumption
theorem keeps_State_playPorts {s₀ : State} {s : State} (vs : List FVal) (hk : Keeps s₀ s) :
    Keeps s₀ (State.playPorts s vs).1 := by
  unfold State.playPorts
  extract_lets +onlyGivenNames v1
  clear_value v1
  refine keeps_pair ?_
  with_reducible apply keeps_State_nans
  assumption
theorem keeps_announceTick {s₀ : State} {s : State} (x : Inst) (m : Nat) (hk : Keeps s₀ s) :
    Keeps s₀ (announceTick x m s).1 := by
  unfold announceTick
  extract_lets +onlyGivenNames v1
  clear_value v1
  extract_lets +onlyGivenNames v2
  clear_value v2
  split
  · rename_i x3 e4
    refine keeps_pair ?_
    with_reducible apply keeps_State_modOvr
    refine keeps_ite ?_ ?_
    · with_reducible apply keeps_State_msgFail
      assumption
    · assumption
  · rename_i x5 x6 e7
    extract_lets +onlyGivenNames v8
    clear_value v8
    extract_lets +onlyGivenNames v9
    clear_value v9
    refine keeps_ite1 ?_ ?_
    · refine keeps_pair ?_
      with_reducible apply keeps_State_modOvr
      with_reducible apply keeps_State_msgFail
      assumption
    · split
      · rename_i x10 x11 x12 e13
        have hx14 := keeps_of_eq (s₀ := s₀) (by
          refine keeps_ite1 ?_ ?_
          · with_reducible apply keeps_State_playPorts
            assumption
          · refine keeps_pair ?_
            assumption
          ) e13
        refine keeps_pair ?_
        with_reducible apply keeps_State_modOvr
        assumption
theorem keeps_playerTick {s₀ : State} {s : State} (x : Inst) (i : InstSt) (hk : Keeps s₀ s) :
    Keeps s₀ (playerTick x i s).1 := by
  unfold playerTick
  extract_lets +onlyGivenNames v1
  clear_value v1
  extract_lets +onlyGivenNames v2
  clear_value v2
  extract_lets +onlyGivenNames v3
  clear_value v3
  extract_lets +onlyGivenNames v4
  clear_value v4
  extract_lets +onlyGivenNames v5
  clear_value v5
  split
  · rename_i x6 x7 e8
    extract_lets +onlyGivenNames v9
    have hv9 : Keeps s₀ v9.1 := by
      unfold v9
      with_reducible apply keeps_announceTick
      assumption
    clear_value v9
    refine keeps_pair ?_
    assumption
  · rename_i x10 e11
    extract_lets +onlyGivenNames v12
    clear_value v12
    extract_lets +onlyGivenNames v13
    clear_value v13
    extract_lets +onlyGivenNames v14
    clear_value v14
    extract_lets +onlyGivenNames v15
    clear_value v15
    refine keeps_ite1 ?_ ?_
    · refine keeps_pair ?_
      assumption
    · refine keeps_ite1 ?_ ?_
      · refine keeps_pair ?_
        assumption
      · split
        · rename_i x16 e17
          refine keeps_pair ?_
          with_reducible apply keeps_State_msgFail
          assumption
        · rename_i x18 x19 e20
          extract_lets +onlyGivenNames v21
          clear_value v21
          refine keeps_ite1 ?_ ?_
          · refine keeps_pair ?_
            assumption
          · refine keeps_ite1 ?_ ?_
            · refine keeps_pair ?_
              with_reducible apply keeps_State_msgFail
              assumption
            · split
              · rename_i x22 x23 x24 e25
                have hx26 := keeps_of_eq (s₀ := s₀) (by
                  with_reducible apply keeps_State_playPorts
                  assumption
                  ) e25
                extract_lets +onlyGivenNames v27
                clear_value v27
                refine keeps_pair ?_
                assumption
theorem keeps_State_putInst {s₀ : State} {s : State} (i : InstSt) (hk : Keeps s₀ s) :
    Keeps s₀ (State.putInst s i) := by
  unfold State.putInst
  with_reducible refine keeps_mk ?_
  assumption
theorem keeps_State_modEng {s₀ : State} {s : State} (f : EngState → EngState) (hk : Keeps s₀ s) :
    Keeps s₀ (State.modEng s f) := by
  unfold State.modEng
  with_reducible refine keeps_mk ?_
  assumption
theorem keeps_State_localWrote {s₀ : State} {s : State} (x : Inst) (use : Nat) (hk : Keeps s₀ s) :
    Keeps s₀ (State.localWrote s x use) := by
  unfold State.localWrote
  extract_lets +onlyGivenNames v1
  clear_value v1
  refine keeps_ite ?_ ?_
  · assumption
  · split
    · rename_i x2 x3 x4 e5
      have hx6 := keeps_of_eq2 (s₀ := s₀) (by
        with_reducible apply keeps_State_fresh
        assumption
        ) e5
      extract_lets +onlyGivenNames v7
      clear_value v7
      with_reducible refine keeps_mem ?_ ?_ ?_ ?_ ?_
      · assumption
      · exact fun w => w
      · exact fun w => w
      · exact fun w => w
      · exact fun w => w
theorem keeps_recWrite {s₀ : State} {s : State} (im : Image) (x : Inst) (ins : List F32) (hk : Keeps s₀ s) :
    Keeps s₀ (recWrite im x ins s) := by
  unfold recWrite
  extract_lets +onlyGivenNames v1
  clear_value v1
  extract_lets +onlyGivenNames v2
  clear_value v2
  extract_lets +onlyGivenNames v3
  clear_value v3
  extract_lets +onlyGivenNames v4
  clear_value v4
  extract_lets +onlyGivenNames v5
  have hv5 : Keeps s₀ v5 := by
    unfold v5
    with_reducible apply keeps_State_dramWrite
    with_reducible refine keeps_mk ?_
    assumption
  clear_value v5
  with_reducible apply keeps_State_dramWrite
  assumption
theorem keeps_State_abandon {s₀ : State} {s : State} (id : Nat) (hk : Keeps s₀ s) :
    Keeps s₀ (State.abandon s id) := by
  unfold State.abandon
  with_reducible apply keeps_State_modEng
  assumption
theorem keeps_readIns {s₀ : State} {s : State} (im : Image) (x : Inst) (cyc : Nat) (hk : Keeps s₀ s) :
    Keeps s₀ (readIns im x cyc s).1 := by
  unfold readIns
  refine keeps_foldl1 _ _ ?_ ?_
  · refine keeps_pair ?_
    assumption
  · intro u1 u2 h3
    split
    · rename_i x4 e5
      refine keeps_pair ?_
      assumption
    · rename_i x6 x7 e8
      extract_lets +onlyGivenNames v9
      clear_value v9
      refine keeps_ite1 ?_ ?_
      · refine keeps_pair ?_
        assumption
      · split
        · rename_i x10 x11 x12 e13
          have hx14 := keeps_of_eq (s₀ := s₀) (by
            with_reducible apply keeps_State_readWord
            assumption
            ) e13
          refine keeps_pair ?_
          assumption
theorem keeps_runInst {s₀ : State} {s : State} (im : Image) (x : Inst) (cyc : Nat) (hk : Keeps s₀ s) :
    Keeps s₀ (runInst im x cyc s) := by
  unfold runInst
  extract_lets +onlyGivenNames v1
  have hv1 : Keeps s₀ v1 := by
    unfold v1
    with_reducible apply keeps_State_event
    assumption
  clear_value v1
  split
  · rename_i x2 x3 x4 e5
    have hx6 := keeps_of_eq (s₀ := s₀) (by
      with_reducible apply keeps_State_eccRead
      assumption
      ) e5
    refine keeps_ite ?_ ?_
    · with_reducible apply keeps_State_abandon
      assumption
    · split
      · rename_i x7 x8 x9 e10
        have hx11 := keeps_of_eq (s₀ := s₀) (by
          with_reducible apply keeps_readIns
          assumption
          ) e10
        extract_lets +onlyGivenNames v12
        clear_value v12
        split
        · rename_i x13 x14 x15 x16 e17
          have hx18 := keeps_of_eq (s₀ := s₀) (by
            refine keeps_ite1 ?_ ?_
            · with_reducible apply keeps_playerTick
              assumption
            · refine keeps_pair ?_
              assumption
            ) e17
          split
          · rename_i x19 x20 x21 x22 e23
            extract_lets +onlyGivenNames v24
            clear_value v24
            extract_lets +onlyGivenNames v25
            have hv25 : Keeps s₀ v25 := by
              unfold v25
              with_reducible apply keeps_State_localWrote
              with_reducible apply keeps_State_nans
              with_reducible apply keeps_State_putInst
              assumption
            clear_value v25
            extract_lets +onlyGivenNames v26
            have hv26 : Keeps s₀ v26 := by
              unfold v26
              refine keeps_ite ?_ ?_
              · with_reducible apply keeps_recWrite
                assumption
              · assumption
            clear_value v26
            extract_lets +onlyGivenNames v27
            have hv27 : Keeps s₀ v27 := by
              unfold v27
              refine keeps_ite ?_ ?_
              · with_reducible apply keeps_State_modEng
                assumption
              · assumption
            clear_value v27
            with_reducible apply keeps_State_modEng
            assumption
theorem keeps_doOuts {s₀ : State} {s : State} (im : Image) (id : Nat) (hk : Keeps s₀ s) :
    Keeps s₀ (doOuts im id s) := by
  unfold doOuts
  extract_lets +onlyGivenNames v1
  clear_value v1
  extract_lets +onlyGivenNames v2
  have hv2 : Keeps s₀ v2 := by
    unfold v2
    with_reducible apply keeps_State_modEng
    assumption
  clear_value v2
  refine keeps_foldl _ _ ?_ ?_
  · assumption
  · intro u3 u4 h5
    refine keeps_foldl _ _ ?_ ?_
    · assumption
    · intro u6 u7 h8
      with_reducible apply keeps_State_putWord
      assumption
theorem keeps_State_modStone {s₀ : State} {s : State} (n : Nat) (f : StoneRun → StoneRun) (hk : Keeps s₀ s) :
    Keeps s₀ (State.modStone s n f) := by
  unfold State.modStone
  with_reducible apply keeps_State_modEng
  assumption
theorem keeps_State_stallBy {s₀ : State} {s : State} (n : Nat) (c : Nat) (hk : Keeps s₀ s) :
    Keeps s₀ (State.stallBy s n c) := by
  unfold State.stallBy
  with_reducible apply keeps_State_incBy
  with_reducible apply keeps_State_modStone
  assumption
theorem keeps_domainsReady {s₀ : State} {s : State} (ap : Nat → Nat → State → State) (l : List Nat) (cyc : Nat) (hk : Keeps s₀ s) (h_ap : ∀ a0 a1 a2, Keeps s₀ a2 → Keeps s₀ (ap a0 a1 a2)) :
    Keeps s₀ (domainsReady ap l cyc s) := by
  unfold domainsReady
  refine keeps_foldl _ _ ?_ ?_
  · assumption
  · intro u1 u2 h3
    split
    · rename_i x4 x5 e6
      refine keeps_ite ?_ ?_
      · with_reducible apply keeps_domUp
        · assumption
        · intro u7 u8 u9 h10
          with_reducible apply h_ap
          assumption
      · assumption
    · rename_i x11 e12
      assumption
theorem keeps_domainStall {s₀ : State} {s : State} (l : List Nat) (n : Nat) (cyc : Nat) (hk : Keeps s₀ s) :
    Keeps s₀ (domainStall l n cyc s) := by
  unfold domainStall
  extract_lets +onlyGivenNames v1
  have hv1 : Keeps s₀ v1 := by
    unfold v1
    refine keeps_foldl _ _ ?_ ?_
    · assumption
    · intro u2 u3 h4
      refine keeps_ite ?_ ?_
      · assumption
      · split
        · rename_i x5 x6 x7 e8
          have hx9 := keeps_of_eq2 (s₀ := s₀) (by
            with_reducible apply keeps_State_fresh
            assumption
            ) e8
          with_reducible apply keeps_State_modEng
          with_reducible apply keeps_domDemand
          assumption
  clear_value v1
  extract_lets +onlyGivenNames v10
  clear_value v10
  extract_lets +onlyGivenNames v11
  have hv11 : Keeps s₀ v11 := by
    unfold v11
    with_reducible apply keeps_State_modStone
    assumption
  clear_value v11
  with_reducible apply keeps_State_int
  with_reducible apply keeps_State_incBy
  assumption
theorem keeps_streamStall {s₀ : State} {s : State} (x : Inst) (cyc : Nat) (hk : Keeps s₀ s) :
    Keeps s₀ (streamStall x cyc s) := by
  unfold streamStall
  extract_lets +onlyGivenNames v1
  have hv1 : Keeps s₀ v1 := by
    unfold v1
    with_reducible apply keeps_State_setB
    with_reducible apply keeps_State_inc
    assumption
  clear_value v1
  extract_lets +onlyGivenNames v2
  have hv2 : Keeps s₀ v2 := by
    unfold v2
    with_reducible apply keeps_State_int
    with_reducible apply keeps_State_int
    with_reducible apply keeps_State_set
    assumption
  clear_value v2
  with_reducible apply keeps_State_modStone
  assumption
theorem keeps_tryEntry {s₀ : State} {s : State} (ap : Nat → Nat → State → State) (im : Image) (n : Nat) (cyc : Nat) (hk : Keeps s₀ s) (h_ap : ∀ a0 a1 a2, Keeps s₀ a2 → Keeps s₀ (ap a0 a1 a2)) :
    Keeps s₀ (tryEntry ap im n cyc s) := by
  unfold tryEntry
  extract_lets +onlyGivenNames v1
  clear_value v1
  split
  · rename_i x2 e3
    assumption
  · rename_i x4 x5 e6
    split
    · rename_i x7 e8
      with_reducible apply keeps_State_modStone
      assumption
    · rename_i x9 x10 e11
      extract_lets +onlyGivenNames v12
      have hv12 : Keeps s₀ v12 := by
        unfold v12
        with_reducible apply keeps_domainsReady
        · assumption
        · intro u13 u14 u15 h16
          with_reducible apply h_ap
          assumption
      clear_value v12
      extract_lets +onlyGivenNames v17
      clear_value v17
      refine keeps_ite ?_ ?_
      · with_reducible apply keeps_domainStall
        assumption
      · refine keeps_ite ?_ ?_
        · with_reducible apply keeps_streamStall
          assumption
        · refine keeps_ite ?_ ?_
          · with_reducible apply keeps_streamStall
            assumption
          · refine keeps_ite ?_ ?_
            · with_reducible apply keeps_State_modStone
              assumption
            · extract_lets +onlyGivenNames v18
              have hv18 : Keeps s₀ v18 := by
                unfold v18
                with_reducible apply keeps_State_modEng
                with_reducible apply keeps_runInst
                assumption
              clear_value v18
              with_reducible apply keeps_State_modStone
              assumption
theorem keeps_doXfer {s₀ : State} {s : State} (im : Image) (hk : Keeps s₀ s) :
    Keeps s₀ (doXfer im s) := by
  unfold doXfer
  split
  · rename_i x1 e2
    assumption
  · rename_i x3 x4 e5
    extract_lets +onlyGivenNames v6
    clear_value v6
    extract_lets +onlyGivenNames v7
    clear_value v7
    extract_lets +onlyGivenNames v8
    have hv8 : Keeps s₀ v8 := by
      unfold v8
      with_reducible apply keeps_State_modEng
      assumption
    clear_value v8
    extract_lets +onlyGivenNames v9
    clear_value v9
    extract_lets +onlyGivenNames v10
    have hv10 : ∀ a1 a2, Keeps s₀ a1 → Keeps s₀ (v10 a1 a2) := by
      unfold v10
      intro u11 u12 h13
      with_reducible apply keeps_State_modEng
      assumption
    clear_value v10
    refine keeps_ite ?_ ?_
    · with_reducible apply hv10
      assumption
    · refine keeps_ite ?_ ?_
      · split
        · rename_i x14 x15 x16 e17
          have hx18 := keeps_of_eq (s₀ := s₀) (by
            with_reducible apply keeps_State_readWord
            assumption
            ) e17
          with_reducible apply hv10
          assumption
      · with_reducible apply hv10
        with_reducible apply keeps_State_int
        with_reducible apply keeps_State_inc
        assumption
theorem keeps_doLand {s₀ : State} {s : State} (im : Image) (hk : Keeps s₀ s) :
    Keeps s₀ (doLand im s) := by
  unfold doLand
  split
  · rename_i x1 e2
    assumption
  · rename_i x3 x4 x5 x6 x7 e8
    with_reducible apply keeps_State_putWord
    with_reducible apply keeps_State_modEng
    assumption
theorem keeps_engRun {s₀ : State} {s : State} (ap : Nat → Nat → State → State) (im : Image) (pause : Bool) (limit : Nat) (x0_ : Nat) (hk : Keeps s₀ s) (h_ap : ∀ a0 a1 a2, Keeps s₀ a2 → Keeps s₀ (ap a0 a1 a2)) :
    Keeps s₀ (engRun ap im pause limit x0_ s) := by
  induction x0_ generalizing s with
  | zero => exact hk
  | succ n ih =>
    unfold engRun
    refine keeps_ite ?_ ?_
    · assumption
    · split
      · rename_i x1 e2
        assumption
      · rename_i x3 x4 x5 e6
        refine keeps_ite ?_ ?_
        · assumption
        · extract_lets +onlyGivenNames v7
          clear_value v7
          extract_lets +onlyGivenNames v8
          have hv8 : Keeps s₀ v8 := by
            unfold v8
            with_reducible refine keeps_mk ?_
            assumption
          clear_value v8
          with_reducible apply ih
          split
          · rename_i x9 x10
            with_reducible apply keeps_doOuts
            assumption
          · rename_i x11
            with_reducible apply keeps_doLand
            assumption
          · rename_i x12
            with_reducible apply keeps_doXfer
            assumption
          · rename_i x13 x14
            with_reducible apply keeps_tryEntry
            · assumption
            · intro u15 u16 u17 h18
              with_reducible apply h_ap
              assumption
theorem keeps_engTo {s₀ : State} {s : State} (ap : Nat → Nat → State → State) (pause : Bool) (limit : Nat) (hk : Keeps s₀ s) (h_ap : ∀ a0 a1 a2, Keeps s₀ a2 → Keeps s₀ (ap a0 a1 a2)) :
    Keeps s₀ (engTo ap pause limit s) := by
  unfold engTo
  split
  · rename_i x1 x2 e3
    refine keeps_ite ?_ ?_
    · with_reducible apply keeps_engRun
      · assumption
      · intro u4 u5 u6 h7
        with_reducible apply h_ap
        assumption
    · assumption
  · rename_i x8 e9
    assumption
theorem keeps_resumeStone {s₀ : State} {s : State} (n : Nat) (cyc : Nat) (hk : Keeps s₀ s) :
    Keeps s₀ (resumeStone n cyc s) := by
  unfold resumeStone
  extract_lets +onlyGivenNames v1
  clear_value v1
  extract_lets +onlyGivenNames v2
  clear_value v2
  with_reducible apply keeps_State_modStone
  with_reducible apply keeps_State_stallBy
  assumption
theorem keeps_lineArrive {s₀ : State} {s : State} (ap : Nat → Nat → State → State) (n : Nat) (cyc : Nat) (hk : Keeps s₀ s) (h_ap : ∀ a0 a1 a2, Keeps s₀ a2 → Keeps s₀ (ap a0 a1 a2)) :
    Keeps s₀ (lineArrive ap n cyc s) := by
  unfold lineArrive
  split
  · rename_i x1 e2
    assumption
  · rename_i x3 x4 e5
    extract_lets +onlyGivenNames v6
    clear_value v6
    extract_lets +onlyGivenNames v7
    have hv7 : Keeps s₀ v7 := by
      unfold v7
      with_reducible apply keeps_engTo
      · assumption
      · intro u8 u9 u10 h11
        with_reducible apply h_ap
        assumption
    clear_value v7
    extract_lets +onlyGivenNames v12
    have hv12 : Keeps s₀ v12 := by
      unfold v12
      split
      · rename_i x13 x14 e15
        with_reducible apply keeps_State_localWrote
        assumption
      · rename_i x16 e17
        assumption
    clear_value v12
    refine keeps_ite ?_ ?_
    · assumption
    · with_reducible apply keeps_engTo
      · with_reducible apply keeps_resumeStone
        with_reducible apply keeps_State_modEng
        assumption
      · intro u18 u19 u20 h21
        with_reducible apply h_ap
        assumption
theorem keeps_writebackDone {s₀ : State} {s : State} (ap : Nat → Nat → State → State) (id : Nat) (hk : Keeps s₀ s) (h_ap : ∀ a0 a1 a2, Keeps s₀ a2 → Keeps s₀ (ap a0 a1 a2)) :
    Keeps s₀ (writebackDone ap id s) := by
  unfold writebackDone
  extract_lets +onlyGivenNames v1
  have hv1 : Keeps s₀ v1 := by
    unfold v1
    with_reducible apply keeps_State_modEng
    assumption
  clear_value v1
  split
  · rename_i x2 x3 e4
    refine keeps_ite ?_ ?_
    · assumption
    · split
      · rename_i x5 x6 x7 e8
        have hx9 := keeps_of_eq2 (s₀ := s₀) (by
          with_reducible apply keeps_State_fresh
          assumption
          ) e8
        extract_lets +onlyGivenNames v10
        clear_value v10
        with_reducible apply keeps_engTo
        · with_reducible apply keeps_resumeStone
          with_reducible apply keeps_engTo
          · assumption
          · intro u11 u12 u13 h14
            with_reducible apply h_ap
            assumption
        · intro u15 u16 u17 h18
          with_reducible apply h_ap
          assumption
  · rename_i x19 e20
    assumption
theorem keeps_stoneWake {s₀ : State} {s : State} (n : Nat) (hk : Keeps s₀ s) :
    Keeps s₀ (stoneWake n s) := by
  unfold stoneWake
  refine keeps_ite ?_ ?_
  · with_reducible apply keeps_State_modDom
    with_reducible apply keeps_State_modStone
    assumption
  · assumption
theorem keeps_linesIn {s₀ : State} {s : State} (im : Image) (late : List Nat) (hk : Keeps s₀ s) :
    Keeps s₀ (linesIn im late s) := by
  unfold linesIn
  refine keeps_foldl _ _ ?_ ?_
  · assumption
  · intro u1 u2 h3
    with_reducible apply keeps_State_localWrote
    assumption
theorem keeps_headViews {s₀ : State} {s : State} (im : Image) (hk : Keeps s₀ s) :
    Keeps s₀ (headViews im s) := by
  unfold headViews
  extract_lets +onlyGivenNames v1
  clear_value v1
  extract_lets +onlyGivenNames v2
  clear_value v2
  with_reducible apply keeps_State_modEng
  assumption
theorem keeps_engHead {s₀ : State} {s : State} (late : List Nat) (underrun : List Nat) (hk : Keeps s₀ s) :
    Keeps s₀ (engHead late underrun s) := by
  unfold engHead
  extract_lets +onlyGivenNames v1
  clear_value v1
  extract_lets +onlyGivenNames v2
  have hv2 : Keeps s₀ v2 := by
    unfold v2
    with_reducible apply keeps_State_forN
    · assumption
    · intro u3 u4 h5
      with_reducible apply keeps_stoneWake
      assumption
  clear_value v2
  extract_lets +onlyGivenNames v6
  have hv6 : Keeps s₀ v6 := by
    unfold v6
    split
    · rename_i x7 x8 e9
      refine keeps_ite ?_ ?_
      · with_reducible apply keeps_headViews
        with_reducible apply keeps_linesIn
        assumption
      · assumption
    · rename_i x10 e11
      assumption
  clear_value v6
  extract_lets +onlyGivenNames v12
  clear_value v12
  extract_lets +onlyGivenNames v13
  clear_value v13
  with_reducible apply keeps_State_modEng
  assumption
theorem keeps_commitVerdict {s₀ : State} {s : State} (im : Image) (hk : Keeps s₀ s) :
    Keeps s₀ (commitVerdict im s) := by
  unfold commitVerdict
  extract_lets +onlyGivenNames v1
  clear_value v1
  extract_lets +onlyGivenNames v2
  clear_value v2
  extract_lets +onlyGivenNames v3
  have hv3 : Keeps s₀ v3 := by
    unfold v3
    refine keeps_foldl _ _ ?_ ?_
    · assumption
    · intro u4 u5 h6
      extract_lets +onlyGivenNames v7
      have hv7 : Keeps s₀ v7 := by
        unfold v7
        refine keeps_ite ?_ ?_
        · with_reducible apply keeps_resumeStone
          assumption
        · assumption
      clear_value v7
      extract_lets +onlyGivenNames v8
      clear_value v8
      extract_lets +onlyGivenNames v9
      have hv9 : Keeps s₀ v9 := by
        unfold v9
        with_reducible apply keeps_State_set
        with_reducible apply keeps_State_modStone
        assumption
      clear_value v9
      with_reducible apply keeps_State_modEng
      assumption
  clear_value v3
  extract_lets +onlyGivenNames v10
  have hv10 : Keeps s₀ v10 := by
    unfold v10
    with_reducible apply keeps_State_forN
    · assumption
    · intro u11 u12 h13
      split
      · rename_i x14 x15 e16
        refine keeps_ite ?_ ?_
        · assumption
        · split
          · rename_i x17 x18 e19
            with_reducible apply keeps_State_set
            assumption
          · rename_i x20 e21
            assumption
      · rename_i x22 e23
        assumption
  clear_value v10
  extract_lets +onlyGivenNames v24
  have hv24 : Keeps s₀ v24 := by
    unfold v24
    refine keeps_foldl _ _ ?_ ?_
    · assumption
    · intro u25 u26 h27
      split
      · rename_i x28 x29 e30
        with_reducible apply keeps_State_forN
        · assumption
        · intro u31 u32 h33
          with_reducible apply keeps_State_groutWord
          assumption
      · rename_i x34 e35
        assumption
  clear_value v24
  refine keeps_ite ?_ ?_
  · assumption
  · extract_lets +onlyGivenNames v36
    have hv36 : Keeps s₀ v36 := by
      unfold v36
      with_reducible apply keeps_State_setWord
      with_reducible apply keeps_State_set64
      with_reducible apply keeps_State_inc
      assumption
    clear_value v36
    with_reducible apply keeps_State_raise
    with_reducible apply keeps_State_event
    with_reducible apply keeps_State_int
    assumption
theorem keeps_meterTail {s₀ : State} {s : State} (im : Image) (x : Inst) (hk : Keeps s₀ s) :
    Keeps s₀ (meterTail im x s) := by
  unfold meterTail
  refine keeps_ite ?_ ?_
  · assumption
  · extract_lets +onlyGivenNames v1
    clear_value v1
    extract_lets +onlyGivenNames v2
    clear_value v2
    refine keeps_foldl _ _ ?_ ?_
    · with_reducible apply keeps_State_putInst
      assumption
    · intro u3 u4 h5
      extract_lets +onlyGivenNames v6
      clear_value v6
      extract_lets +onlyGivenNames v7
      clear_value v7
      split
      · rename_i x8 x9 x10 x11 e12
        extract_lets +onlyGivenNames v13
        have hv13 : Keeps s₀ v13 := by
          unfold v13
          with_reducible apply keeps_State_sramWrite
          assumption
        clear_value v13
        with_reducible apply keeps_State_putInst
        assumption
theorem keeps_metersTail {s₀ : State} {s : State} (im : Image) (hk : Keeps s₀ s) :
    Keeps s₀ (metersTail im s) := by
  unfold metersTail
  refine keeps_foldl _ _ ?_ ?_
  · assumption
  · intro u1 u2 h3
    with_reducible apply keeps_meterTail
    assumption
theorem keeps_meterLatch {s₀ : State} {s : State} (hk : Keeps s₀ s) :
    Keeps s₀ (meterLatch s) := by
  unfold meterLatch
  with_reducible apply keeps_State_int
  refine keeps_foldl _ _ ?_ ?_
  · assumption
  · intro u1 u2 h3
    with_reducible apply keeps_State_sramWrite
    with_reducible apply keeps_State_sramWrite
    assumption
theorem keeps_holdClear {s₀ : State} {s : State} (hk : Keeps s₀ s) :
    Keeps s₀ (holdClear s) := by
  unfold holdClear
  refine keeps_ite ?_ ?_
  · extract_lets +onlyGivenNames v1
    have hv1 : Keeps s₀ v1 := by
      unfold v1
      refine keeps_foldl _ _ ?_ ?_
      · assumption
      · intro u2 u3 h4
        with_reducible apply keeps_State_sramWrite
        assumption
    clear_value v1
    with_reducible refine keeps_mk ?_
    assumption
  · assumption
theorem keeps_State_outValue {s₀ : State} {s : State} (im : Image) (x : Inst) (c : Nat) (hk : Keeps s₀ s) :
    Keeps s₀ (State.outValue s im x c).1 := by
  unfold State.outValue
  split
  · rename_i x1 x2 e3
    with_reducible apply keeps_State_readWord
    assumption
  · rename_i x4 e5
    refine keeps_pair ?_
    assumption
theorem keeps_outSamples {s₀ : State} {s : State} (hk : Keeps s₀ s) :
    Keeps s₀ (outSamples s).1 := by
  unfold outSamples
  split
  · rename_i x1 e2
    refine keeps_pair ?_
    assumption
  · rename_i x3 x4 e5
    extract_lets +onlyGivenNames v6
    clear_value v6
    refine keeps_foldl1 _ _ ?_ ?_
    · refine keeps_pair ?_
      assumption
    · intro u7 u8 h9
      refine keeps_foldl1 _ _ ?_ ?_
      · assumption
      · intro u10 u11 h12
        split
        · rename_i x13 x14 x15 e16
          have hx17 := keeps_of_eq (s₀ := s₀) (by
            refine keeps_ite1 ?_ ?_
            · refine keeps_pair ?_
              assumption
            · with_reducible apply keeps_State_outValue
              assumption
            ) e16
          refine keeps_pair ?_
          assumption
theorem keeps_senseRec {s₀ : State} {s : State} (hk : Keeps s₀ s) :
    Keeps s₀ (senseRec s) := by
  unfold senseRec
  extract_lets +onlyGivenNames v1
  clear_value v1
  extract_lets +onlyGivenNames v2
  clear_value v2
  extract_lets +onlyGivenNames v3
  have hv3 : Keeps s₀ v3 := by
    unfold v3
    with_reducible apply keeps_State_setB
    assumption
  clear_value v3
  refine keeps_ite ?_ ?_
  · assumption
  · extract_lets +onlyGivenNames v4
    clear_value v4
    refine keeps_ite ?_ ?_
    · with_reducible apply keeps_State_dramWrite
      assumption
    · assumption
theorem keeps_recTail {s₀ : State} {s : State} (hk : Keeps s₀ s) :
    Keeps s₀ (recTail s) := by
  unfold recTail
  refine keeps_ite ?_ ?_
  · assumption
  · extract_lets +onlyGivenNames v1
    clear_value v1
    with_reducible refine keeps_mk ?_
    assumption
theorem keeps_recFrozen {s₀ : State} {s : State} (hk : Keeps s₀ s) :
    Keeps s₀ (recFrozen s) := by
  unfold recFrozen
  refine keeps_ite ?_ ?_
  · with_reducible apply keeps_State_int
    with_reducible apply keeps_State_set64
    with_reducible apply keeps_State_set
    assumption
  · assumption
theorem keeps_tail {s₀ : State} {s : State} (hk : Keeps s₀ s) :
    Keeps s₀ (tail s) := by
  unfold tail
  split
  · rename_i x1 x2 x3 e4
    have hx5 := keeps_of_eq (s₀ := s₀) (by
      with_reducible apply keeps_outSamples
      assumption
      ) e4
    extract_lets +onlyGivenNames v6
    clear_value v6
    extract_lets +onlyGivenNames v7
    clear_value v7
    extract_lets +onlyGivenNames v8
    have hv8 : Keeps s₀ v8 := by
      unfold v8
      with_reducible refine keeps_mk ?_
      assumption
    clear_value v8
    extract_lets +onlyGivenNames v9
    have hv9 : Keeps s₀ v9 := by
      unfold v9
      with_reducible apply keeps_rdpTail
      assumption
    clear_value v9
    extract_lets +onlyGivenNames v10
    have hv10 : Keeps s₀ v10 := by
      unfold v10
      with_reducible apply keeps_outTail
      assumption
    clear_value v10
    extract_lets +onlyGivenNames v11
    have hv11 : Keeps s₀ v11 := by
      unfold v11
      with_reducible apply keeps_State_forN
      · assumption
      · intro u12 u13 h14
        with_reducible apply keeps_State_forN
        · assumption
        · intro u15 u16 h17
          with_reducible apply keeps_State_sapStage
          assumption
    clear_value v11
    extract_lets +onlyGivenNames v18
    have hv18 : Keeps s₀ v18 := by
      unfold v18
      with_reducible apply keeps_aafStage
      assumption
    clear_value v18
    extract_lets +onlyGivenNames v19
    have hv19 : Keeps s₀ v19 := by
      unfold v19
      with_reducible apply keeps_State_forN
      · assumption
      · intro u20 u21 h22
        with_reducible apply keeps_State_modAux
        assumption
    clear_value v19
    extract_lets +onlyGivenNames v23
    have hv23 : Keeps s₀ v23 := by
      unfold v23
      with_reducible apply keeps_diagTail
      with_reducible apply keeps_dcTail
      with_reducible apply keeps_bstTail
      assumption
    clear_value v23
    with_reducible apply keeps_fnWatch
    with_reducible apply keeps_recTail
    with_reducible apply keeps_senseRec
    assumption
theorem keeps_commitPoint {s₀ : State} {s : State} (ap : Nat → Nat → State → State) (hk : Keeps s₀ s) (h_ap : ∀ a0 a1 a2, Keeps s₀ a2 → Keeps s₀ (ap a0 a1 a2)) :
    Keeps s₀ (commitPoint ap s) := by
  unfold commitPoint
  refine keeps_ite ?_ ?_
  · assumption
  · extract_lets +onlyGivenNames v1
    clear_value v1
    extract_lets +onlyGivenNames v2
    have hv2 : Keeps s₀ v2 := by
      unfold v2
      with_reducible apply keeps_engTo
      · assumption
      · intro u3 u4 u5 h6
        with_reducible apply h_ap
        assumption
    clear_value v2
    extract_lets +onlyGivenNames v7
    have hv7 : Keeps s₀ v7 := by
      unfold v7
      split
      · rename_i x8 x9 e10
        refine keeps_ite ?_ ?_
        · with_reducible apply keeps_metersTail
          with_reducible apply keeps_commitVerdict
          assumption
        · assumption
      · rename_i x11 e12
        assumption
    clear_value v7
    extract_lets +onlyGivenNames v13
    clear_value v13
    extract_lets +onlyGivenNames v14
    have hv14 : Keeps s₀ v14 := by
      unfold v14
      with_reducible refine keeps_mk ?_
      assumption
    clear_value v14
    with_reducible apply keeps_tail
    assumption
theorem keeps_overUpdate {s₀ : State} {s : State} (hk : Keeps s₀ s) :
    Keeps s₀ (overUpdate s) := by
  unfold overUpdate
  with_reducible apply keeps_State_forN
  · assumption
  · intro u1 u2 h3
    extract_lets +onlyGivenNames v4
    clear_value v4
    extract_lets +onlyGivenNames v5
    clear_value v5
    extract_lets +onlyGivenNames v6
    clear_value v6
    extract_lets +onlyGivenNames v7
    have hv7 : Keeps s₀ v7 := by
      unfold v7
      with_reducible refine keeps_mk ?_
      assumption
    clear_value v7
    refine keeps_ite ?_ ?_
    · with_reducible apply keeps_State_raise
      with_reducible apply keeps_State_event
      with_reducible apply keeps_State_int
      assumption
    · assumption
theorem keeps_capWrite {s₀ : State} {s : State} (f : Fld) (t : Nat) (v : Word) (hk : Keeps s₀ s) :
    Keeps s₀ (capWrite f t v s).1 := by
  unfold capWrite
  refine keeps_pair ?_
  with_reducible apply keeps_overUpdate
  with_reducible apply keeps_State_log
  with_reducible apply keeps_State_setWord
  assumption
theorem keeps_actEvict {s₀ : State} {s : State} (hk : Keeps s₀ s) :
    Keeps s₀ (actEvict s).1 := by
  unfold actEvict
  extract_lets +onlyGivenNames v1
  clear_value v1
  refine keeps_ite1 ?_ ?_
  · refine keeps_pair ?_
    assumption
  · refine keeps_pair ?_
    with_reducible refine keeps_mk ?_
    assumption
theorem keeps_State_poolClear {s₀ : State} {s : State} (t : Nat) (off : Nat) (n : Nat) (hk : Keeps s₀ s) :
    Keeps s₀ (State.poolClear s t off n) := by
  unfold State.poolClear
  extract_lets +onlyGivenNames v1
  clear_value v1
  with_reducible refine keeps_mem ?_ ?_ ?_ ?_ ?_
  · assumption
  · exact fun w => w
  · exact fun w => w
  · exact fun w => Mem.wf_clear _ _ _ w
  · exact fun w => w
theorem keeps_State_allocResult {s₀ : State} {s : State} (t : Nat) (r : Nat) (hk : Keeps s₀ s) :
    Keeps s₀ (State.allocResult s t r).1 := by
  unfold State.allocResult
  refine keeps_pair ?_
  with_reducible apply keeps_State_set
  assumption
theorem keeps_actAlloc {s₀ : State} {s : State} (t : Nat) (hk : Keeps s₀ s) :
    Keeps s₀ (actAlloc t s).1 := by
  unfold actAlloc
  extract_lets +onlyGivenNames v1
  clear_value v1
  extract_lets +onlyGivenNames v2
  clear_value v2
  refine keeps_ite1 ?_ ?_
  · refine keeps_pair ?_
    assumption
  · refine keeps_ite1 ?_ ?_
    · with_reducible apply keeps_State_allocResult
      assumption
    · split
      · rename_i x3
        with_reducible apply keeps_State_allocResult
        assumption
      · rename_i x4 x5 x6
        refine keeps_ite1 ?_ ?_
        · with_reducible apply keeps_State_allocResult
          assumption
        · split
          · rename_i x7 e8
            with_reducible apply keeps_State_allocResult
            assumption
          · rename_i x9 x10 e11
            extract_lets +onlyGivenNames v12
            have hv12 : Keeps s₀ v12 := by
              unfold v12
              with_reducible apply keeps_State_poolClear
              assumption
            clear_value v12
            extract_lets +onlyGivenNames v13
            clear_value v13
            extract_lets +onlyGivenNames v14
            have hv14 : Keeps s₀ v14 := by
              unfold v14
              with_reducible refine keeps_mk ?_
              assumption
            clear_value v14
            with_reducible apply keeps_State_allocResult
            with_reducible apply keeps_State_set
            with_reducible apply keeps_State_set
            with_reducible apply keeps_overUpdate
            assumption
theorem keeps_actFree {s₀ : State} {s : State} (t : Nat) (hk : Keeps s₀ s) :
    Keeps s₀ (actFree t s).1 := by
  unfold actFree
  extract_lets +onlyGivenNames v1
  clear_value v1
  refine keeps_ite1 ?_ ?_
  · refine keeps_pair ?_
    assumption
  · refine keeps_ite1 ?_ ?_
    · with_reducible apply keeps_State_allocResult
      with_reducible apply keeps_overUpdate
      with_reducible refine keeps_mk ?_
      assumption
    · with_reducible apply keeps_State_allocResult
      assumption
theorem keeps_State_evictOne {s₀ : State} (t : Nat) (x0_ : Nat) (hk : Keeps s₀ s) :
    Keeps s₀ (State.evictOne s t x0_) := by
  induction x0_ generalizing s with
  | zero => exact hk
  | succ n ih =>
    unfold State.evictOne
    refine keeps_ite ?_ ?_
    · assumption
    · split
      · rename_i x1 e2
        assumption
      · rename_i x3 x4 e5
        with_reducible apply ih
        with_reducible apply keeps_State_int
        with_reducible refine keeps_mk ?_
        assumption
theorem keeps_tenPlace {s₀ : State} {s : State} (im : Image) (hk : Keeps s₀ s) :
    Keeps s₀ (tenPlace im s) := by
  unfold tenPlace
  extract_lets +onlyGivenNames v1
  clear_value v1
  extract_lets +onlyGivenNames v2
  have hv2 : Keeps s₀ v2 := by
    unfold v2
    refine keeps_foldl _ _ ?_ ?_
    · assumption
    · intro u3 u4 h5
      with_reducible apply keeps_State_poolClear
      assumption
  clear_value v2
  extract_lets +onlyGivenNames v6
  clear_value v6
  with_reducible apply keeps_overUpdate
  with_reducible refine keeps_mk ?_
  assumption
theorem keeps_tenActivate {s₀ : State} {s : State} (im : Image) (oldEpoch : Option Nat) (hk : Keeps s₀ s) :
    Keeps s₀ (tenActivate im oldEpoch s) := by
  unfold tenActivate
  extract_lets +onlyGivenNames v1
  clear_value v1
  extract_lets +onlyGivenNames v2
  have hv2 : Keeps s₀ v2 := by
    unfold v2
    with_reducible refine keeps_mk ?_
    assumption
  clear_value v2
  extract_lets +onlyGivenNames v3
  have hv3 : Keeps s₀ v3 := by
    unfold v3
    refine keeps_foldl _ _ ?_ ?_
    · assumption
    · intro u4 u5 h6
      with_reducible apply keeps_State_evictOne
      assumption
  clear_value v3
  extract_lets +onlyGivenNames v7
  clear_value v7
  extract_lets +onlyGivenNames v8
  have hv8 : Keeps s₀ v8 := by
    unfold v8
    refine keeps_ite ?_ ?_
    · assumption
    · with_reducible refine keeps_mk ?_
      assumption
  clear_value v8
  with_reducible apply keeps_overUpdate
  with_reducible apply keeps_State_log
  assumption
theorem keeps_tenDeactivate {s₀ : State} {s : State} (hk : Keeps s₀ s) :
    Keeps s₀ (tenDeactivate s) := by
  unfold tenDeactivate
  with_reducible apply keeps_overUpdate
  with_reducible refine keeps_mk ?_
  assumption
theorem keeps_dramWinWrite {s₀ : State} {s : State} (t : Nat) (v : Word) (hk : Keeps s₀ s) :
    Keeps s₀ (dramWinWrite t v s).1 := by
  unfold dramWinWrite
  refine keeps_ite1 ?_ ?_
  · refine keeps_pair ?_
    assumption
  · refine keeps_pair ?_
    with_reducible apply keeps_State_setWord
    assumption
theorem keeps_dmaAddrWrite {s₀ : State} {s : State} (f : Fld) (i : Nat) (t : Nat) (v : Word) (hk : Keeps s₀ s) :
    Keeps s₀ (dmaAddrWrite f i t v s).1 := by
  unfold dmaAddrWrite
  extract_lets +onlyGivenNames v1
  have hv1 : Keeps s₀ v1 := by
    unfold v1
    with_reducible apply keeps_State_setWord
    assumption
  clear_value v1
  refine keeps_pair ?_
  with_reducible refine keeps_mk ?_
  assumption
theorem keeps_State_holdResult {s₀ : State} {s : State} (t : Nat) (r : Nat) (hk : Keeps s₀ s) :
    Keeps s₀ (State.holdResult s t r) := by
  unfold State.holdResult
  with_reducible apply keeps_State_set
  assumption
theorem keeps_actHold {s₀ : State} {s : State} (t : Nat) (hk : Keeps s₀ s) :
    Keeps s₀ (actHold t s).1 := by
  unfold actHold
  extract_lets +onlyGivenNames v1
  clear_value v1
  refine keeps_ite1 ?_ ?_
  · refine keeps_pair ?_
    with_reducible apply keeps_State_holdResult
    assumption
  · extract_lets +onlyGivenNames v2
    have hv2 : ∀ a1, Keeps s₀ a1 → Keeps s₀ (v2 a1).1 := by
      unfold v2
      intro u3 h4
      refine keeps_pair ?_
      with_reducible apply keeps_State_holdResult
      with_reducible refine keeps_mk ?_
      assumption
    clear_value v2
    split
    · rename_i x5 x6 e7
      refine keeps_ite1 ?_ ?_
      · refine keeps_pair ?_
        with_reducible apply keeps_State_holdResult
        assumption
      · refine keeps_ite1 ?_ ?_
        · refine keeps_pair ?_
          with_reducible apply keeps_State_holdResult
          assumption
        · with_reducible apply hv2
          assumption
    · rename_i x8 e9
      refine keeps_ite1 ?_ ?_
      · refine keeps_pair ?_
        with_reducible apply keeps_State_holdResult
        assumption
      · with_reducible apply hv2
        assumption
theorem keeps_actHoldRelease {s₀ : State} {s : State} (t : Nat) (hk : Keeps s₀ s) :
    Keeps s₀ (actHoldRelease t s).1 := by
  unfold actHoldRelease
  extract_lets +onlyGivenNames v1
  clear_value v1
  refine keeps_ite1 ?_ ?_
  · refine keeps_pair ?_
    with_reducible apply keeps_State_holdResult
    with_reducible refine keeps_mk ?_
    assumption
  · refine keeps_pair ?_
    with_reducible apply keeps_State_holdResult
    assumption
theorem keeps_State_setSem {s₀ : State} {s : State} (n : Nat) (x : Sem) (hk : Keeps s₀ s) :
    Keeps s₀ (State.setSem s n x) := by
  unfold State.setSem
  with_reducible refine keeps_mk ?_
  assumption
theorem keeps_semTake {s₀ : State} {s : State} (n : Nat) (code : Nat) (hk : Keeps s₀ s) :
    Keeps s₀ (semTake n code s).1 := by
  unfold semTake
  extract_lets +onlyGivenNames v1
  clear_value v1
  refine keeps_ite1 ?_ ?_
  · refine keeps_pair ?_
    with_reducible apply keeps_State_setSem
    assumption
  · refine keeps_ite1 ?_ ?_
    · refine keeps_pair ?_
      assumption
    · refine keeps_pair ?_
      assumption
theorem keeps_semBreak {s₀ : State} {s : State} (n : Nat) (hk : Keeps s₀ s) :
    Keeps s₀ (semBreak n s) := by
  unfold semBreak
  refine keeps_ite ?_ ?_
  · assumption
  · with_reducible apply keeps_State_raise
    with_reducible apply keeps_State_event
    with_reducible apply keeps_State_int
    with_reducible apply keeps_State_setSem
    assumption
theorem keeps_actSemRel {s₀ : State} {s : State} (n : Nat) (code : Nat) (hk : Keeps s₀ s) :
    Keeps s₀ (actSemRel n code s).1 := by
  unfold actSemRel
  refine keeps_ite1 ?_ ?_
  · refine keeps_pair ?_
    with_reducible apply keeps_State_setSem
    assumption
  · refine keeps_pair ?_
    assumption
theorem keeps_regRw {s₀ : State} {s : State} (r : RegRow) (i : Nat) (j : Nat) (t : Nat) (v : Word) (hk : Keeps s₀ s) :
    Keeps s₀ (regRw r i j t v s).1 := by
  unfold regRw
  extract_lets +onlyGivenNames v1
  clear_value v1
  extract_lets +onlyGivenNames v2
  clear_value v2
  extract_lets +onlyGivenNames v3
  have hv3 : Keeps s₀ v3.1 := by
    unfold v3
    refine keeps_pair ?_
    with_reducible apply keeps_State_setWord
    assumption
  clear_value v3
  split
  · rename_i x4 e5
    refine keeps_pair ?_
    with_reducible apply keeps_State_setWord
    assumption
  · rename_i x6 e7
    refine keeps_pair ?_
    refine keeps_ite ?_ ?_
    · assumption
    · with_reducible apply keeps_State_setWord
      assumption
  · rename_i x8 e9
    with_reducible apply keeps_dmaAddrWrite
    assumption
  · rename_i x10 e11
    with_reducible apply keeps_dmaAddrWrite
    assumption
  · rename_i x12 e13
    with_reducible apply keeps_ovrCfgWrite
    assumption
  · rename_i x14 e15
    with_reducible apply keeps_ctlCfgWrite
    assumption
  · rename_i x16 e17
    with_reducible apply keeps_portCfgWrite
    assumption
  · rename_i x18 e19
    with_reducible apply keeps_brCfgWrite
    assumption
  · rename_i x20 e21
    with_reducible apply keeps_aafCfgWrite
    assumption
  · rename_i x22 e23
    with_reducible apply keeps_sbusCfgWrite
    assumption
  · rename_i x24 e25
    with_reducible apply keeps_dmaAddrWrite
    assumption
  · rename_i x26 e27
    with_reducible apply keeps_sbusTxHead
    assumption
  · rename_i x28 e29
    with_reducible apply keeps_dmaAddrWrite
    assumption
  · rename_i x30 e31
    with_reducible apply keeps_sbusRxTail
    assumption
  · rename_i x32 e33
    with_reducible apply keeps_sapCfgWrite
    assumption
  · rename_i x34 e35
    with_reducible apply keeps_dmaCfgWrite
    assumption
  · rename_i x36 e37
    refine keeps_ite1 ?_ ?_
    · refine keeps_pair ?_
      assumption
    · assumption
  · rename_i x38 e39
    refine keeps_ite1 ?_ ?_
    · refine keeps_pair ?_
      assumption
    · with_reducible apply keeps_dmaAddrWrite
      assumption
  · rename_i x40 e41
    refine keeps_ite1 ?_ ?_
    · refine keeps_pair ?_
      assumption
    · assumption
  · rename_i x42 e43
    with_reducible apply keeps_capRdWrite
    assumption
  · rename_i x44 e45
    with_reducible apply keeps_dmaCfgWrite
    assumption
  · rename_i x46 e47
    refine keeps_ite1 ?_ ?_
    · refine keeps_pair ?_
      assumption
    · assumption
  · rename_i x48 e49
    refine keeps_ite1 ?_ ?_
    · refine keeps_pair ?_
      assumption
    · with_reducible apply keeps_dmaAddrWrite
      assumption
  · rename_i x50 e51
    refine keeps_ite1 ?_ ?_
    · refine keeps_pair ?_
      assumption
    · assumption
  · rename_i x52 e53
    with_reducible apply keeps_pbWrWrite
    assumption
  · rename_i x54 e55
    with_reducible apply keeps_adcCfgWrite
    assumption
  · rename_i x56 e57
    refine keeps_ite1 ?_ ?_
    · refine keeps_pair ?_
      assumption
    · assumption
  · rename_i x58 e59
    refine keeps_pair ?_
    with_reducible apply keeps_jackShow
    with_reducible apply keeps_State_setWord
    assumption
  · rename_i x60 e61
    with_reducible apply keeps_aesCfgWrite
    assumption
  · rename_i x62 e63
    with_reducible apply keeps_auxCfgWrite
    assumption
  · rename_i x64 e65
    with_reducible apply keeps_auxGenWrite
    assumption
  · rename_i x66 e67
    with_reducible apply keeps_mclkWrite
    assumption
  · rename_i x68 e69
    refine keeps_ite1 ?_ ?_
    · assumption
    · refine keeps_pair ?_
      assumption
  · rename_i x70 e71
    refine keeps_ite1 ?_ ?_
    · assumption
    · refine keeps_pair ?_
      assumption
  · rename_i x72 e73
    refine keeps_ite1 ?_ ?_
    · assumption
    · refine keeps_pair ?_
      assumption
  · rename_i x74 e75
    refine keeps_ite1 ?_ ?_
    · assumption
    · refine keeps_pair ?_
      assumption
  · rename_i x76 e77
    refine keeps_ite1 ?_ ?_
    · refine keeps_pair ?_
      assumption
    · assumption
  · rename_i x78 e79
    with_reducible apply keeps_dramWinWrite
    assumption
  · rename_i x80 e81
    refine keeps_pair ?_
    refine keeps_ite ?_ ?_
    · assumption
    · with_reducible apply keeps_State_setWord
      assumption
  · rename_i x82 e83
    with_reducible apply keeps_capWrite
    assumption
  · rename_i x84 e85
    with_reducible apply keeps_capWrite
    assumption
  · rename_i x86 e87
    with_reducible apply keeps_capWrite
    assumption
  · rename_i x88 e89
    with_reducible apply keeps_capWrite
    assumption
  · rename_i x90 e91
    with_reducible apply keeps_dmaAddrWrite
    assumption
  · rename_i x92 e93
    refine keeps_ite1 ?_ ?_
    · refine keeps_pair ?_
      assumption
    · refine keeps_pair ?_
      with_reducible refine keeps_mk ?_
      assumption
  · rename_i x94 e95
    with_reducible apply keeps_domCfgWrite
    assumption
  · rename_i x96 e97
    refine keeps_pair ?_
    with_reducible apply keeps_State_setWord
    assumption
  · rename_i x98 x99 x100 x101 x102 x103 x104 x105 x106 x107 x108 x109 x110 x111 x112 x113 x114 x115 x116 x117 x118 x119 x120 x121 x122 x123 x124 x125 x126 x127 x128 x129 x130 x131 x132 x133 x134 x135 x136 x137 x138 x139 x140 x141 x142 x143 x144 x145
    assumption
theorem keeps_applyReg {s₀ : State} {s : State} (a : Nat) (v : Nat) (hk : Keeps s₀ s) :
    Keeps s₀ (applyReg a v s) := by
  unfold applyReg
  split
  · rename_i x1 e2
    assumption
  · rename_i x3 x4 x5 x6 e7
    extract_lets +onlyGivenNames v8
    have hv8 : Keeps s₀ v8 := by
      unfold v8
      split
      · rename_i x9 e10
        with_reducible apply keeps_State_setB
        assumption
      · rename_i x11 e12
        with_reducible apply keeps_State_setB
        assumption
      · rename_i x13 e14
        with_reducible apply keeps_State_setB
        assumption
      · rename_i x15 e16
        with_reducible apply keeps_State_setB
        assumption
      · rename_i x17 e18
        with_reducible apply keeps_State_setB
        assumption
      · rename_i x19 e20
        with_reducible apply keeps_State_setB
        assumption
      · rename_i x21 e22
        with_reducible apply keeps_State_setB
        assumption
      · rename_i x23 e24
        with_reducible apply keeps_State_setB
        assumption
      · rename_i x25 e26
        with_reducible apply keeps_State_setB
        assumption
      · rename_i x27 e28
        refine keeps_ite ?_ ?_
        · assumption
        · with_reducible apply keeps_State_setB
          with_reducible apply keeps_auxEmpty
          with_reducible apply keeps_auxOff
          assumption
      · rename_i x29 x30 x31 x32 x33 x34 x35 x36 x37 x38 x39
        assumption
    clear_value v8
    refine keeps_ite ?_ ?_
    · with_reducible refine keeps_mk ?_
      assumption
    · refine keeps_ite ?_ ?_
      · with_reducible apply keeps_aafSet
        assumption
      · refine keeps_ite ?_ ?_
        · with_reducible apply keeps_State_setWord
          assumption
        · with_reducible apply keeps_regRw
          assumption
theorem keeps_paramRead {s₀ : State} {s : State} (t : Nat) (w : Nat) (shadow : Bool) (hk : Keeps s₀ s) :
    Keeps s₀ (paramRead t w shadow s).1 := by
  unfold paramRead
  extract_lets +onlyGivenNames v1
  clear_value v1
  split
  · rename_i x2 e3
    refine keeps_pair ?_
    assumption
  · rename_i x4 x5 e6
    split
    · rename_i x7 e8
      refine keeps_pair ?_
      assumption
    · rename_i x9 x10 e11
      refine keeps_ite1 ?_ ?_
      · refine keeps_pair ?_
        assumption
      · split
        · rename_i x12 e13
          refine keeps_pair ?_
          assumption
        · rename_i x14 x15 e16
          split
          · rename_i x17 x18 x19 e20
            have hx21 := keeps_of_eq (s₀ := s₀) (by
              with_reducible apply keeps_State_eccRead
              assumption
              ) e20
            refine keeps_pair ?_
            with_reducible apply keeps_State_fresh
            assumption
theorem keeps_mixReject {s₀ : State} {s : State} (t : Nat) (hk : Keeps s₀ s) :
    Keeps s₀ (mixReject t s).1 := by
  unfold mixReject
  refine keeps_pair ?_
  with_reducible apply keeps_State_int
  with_reducible apply keeps_State_inc
  assumption
theorem keeps_paramWrite {s₀ : State} {s : State} (t : Nat) (w : Nat) (o : Nat) (n : Nat) (v : Nat) (hk : Keeps s₀ s) :
    Keeps s₀ (paramWrite t w o n v s).1 := by
  unfold paramWrite
  extract_lets +onlyGivenNames v1
  clear_value v1
  split
  · rename_i x2 e3
    refine keeps_pair ?_
    assumption
  · rename_i x4 x5 e6
    split
    · rename_i x7 e8
      refine keeps_pair ?_
      assumption
    · rename_i x9 x10 e11
      refine keeps_ite1 ?_ ?_
      · refine keeps_pair ?_
        assumption
      · refine keeps_ite1 ?_ ?_
        · refine keeps_pair ?_
          assumption
        · extract_lets +onlyGivenNames v12
          clear_value v12
          extract_lets +onlyGivenNames v13
          clear_value v13
          extract_lets +onlyGivenNames v14
          clear_value v14
          split
          · rename_i x15 e16
            extract_lets +onlyGivenNames v17
            clear_value v17
            extract_lets +onlyGivenNames v18
            clear_value v18
            refine keeps_ite1 ?_ ?_
            · with_reducible apply keeps_mixReject
              assumption
            · refine keeps_pair ?_
              with_reducible refine keeps_mk ?_
              assumption
          · rename_i x19 x20 e21
            extract_lets +onlyGivenNames v22
            clear_value v22
            refine keeps_ite1 ?_ ?_
            · with_reducible apply keeps_mixReject
              assumption
            · extract_lets +onlyGivenNames v23
              have hv23 : Keeps s₀ v23 := by
                unfold v23
                with_reducible apply keeps_State_sramWrite
                assumption
              clear_value v23
              refine keeps_pair ?_
              with_reducible refine keeps_mk ?_
              assumption
theorem keeps_paramTick {s₀ : State} {s : State} (hk : Keeps s₀ s) :
    Keeps s₀ (paramTick s) := by
  unfold paramTick
  extract_lets +onlyGivenNames v1
  have hv1 : Keeps s₀ v1 := by
    unfold v1
    refine keeps_foldl _ _ ?_ ?_
    · assumption
    · intro u2 u3 h4
      extract_lets +onlyGivenNames v5
      clear_value v5
      extract_lets +onlyGivenNames v6
      have hv6 : Keeps s₀ v6 := by
        unfold v6
        with_reducible apply keeps_State_putInst
        assumption
      clear_value v6
      split
      · rename_i x7 x8 e9
        with_reducible apply keeps_State_localWrote
        assumption
      · rename_i x10 e11
        assumption
  clear_value v1
  with_reducible refine keeps_mk ?_
  assumption
theorem keeps_State_modSwap {s₀ : State} {s : State} (sp : Nat) (f : Swap → Swap) (hk : Keeps s₀ s) :
    Keeps s₀ (State.modSwap s sp f) := by
  unfold State.modSwap
  with_reducible refine keeps_mk ?_
  assumption
theorem keeps_State_swapDrop {s₀ : State} {s : State} (sp : Nat) (hk : Keeps s₀ s) :
    Keeps s₀ (State.swapDrop s sp) := by
  unfold State.swapDrop
  with_reducible apply keeps_State_int
  with_reducible apply keeps_State_modSwap
  assumption
theorem keeps_actSwapArm {s₀ : State} {s : State} (t : Nat) (hk : Keeps s₀ s) :
    Keeps s₀ (actSwapArm t s).1 := by
  unfold actSwapArm
  extract_lets +onlyGivenNames v1
  clear_value v1
  split
  · rename_i x2 e3
    refine keeps_pair ?_
    assumption
  · rename_i x4 x5 e6
    extract_lets +onlyGivenNames v7
    clear_value v7
    refine keeps_ite1 ?_ ?_
    · refine keeps_pair ?_
      assumption
    · refine keeps_ite1 ?_ ?_
      · refine keeps_pair ?_
        assumption
      · refine keeps_ite1 ?_ ?_
        · refine keeps_pair ?_
          assumption
        · extract_lets +onlyGivenNames v8
          clear_value v8
          refine keeps_ite1 ?_ ?_
          · refine keeps_pair ?_
            with_reducible apply keeps_State_int
            with_reducible apply keeps_State_modSwap
            assumption
          · refine keeps_pair ?_
            with_reducible apply keeps_State_modSwap
            assumption
theorem keeps_actSwapDisarm {s₀ : State} {s : State} (t : Nat) (hk : Keeps s₀ s) :
    Keeps s₀ (actSwapDisarm t s).1 := by
  unfold actSwapDisarm
  extract_lets +onlyGivenNames v1
  clear_value v1
  refine keeps_pair ?_
  refine keeps_ite ?_ ?_
  · with_reducible apply keeps_State_swapDrop
    assumption
  · assumption
theorem keeps_actSwapRevert {s₀ : State} {s : State} (t : Nat) (hk : Keeps s₀ s) :
    Keeps s₀ (actSwapRevert t s).1 := by
  unfold actSwapRevert
  extract_lets +onlyGivenNames v1
  clear_value v1
  split
  · rename_i x2 e3
    refine keeps_pair ?_
    assumption
  · rename_i x4 x5 e6
    refine keeps_ite1 ?_ ?_
    · refine keeps_pair ?_
      assumption
    · refine keeps_ite1 ?_ ?_
      · refine keeps_pair ?_
        assumption
      · extract_lets +onlyGivenNames v7
        have hv7 : Keeps s₀ v7 := by
          unfold v7
          refine keeps_foldl _ _ ?_ ?_
          · assumption
          · intro u8 u9 h10
            split
            · rename_i x11 x12 e13
              with_reducible apply keeps_State_sramWrite
              assumption
            · rename_i x14 e15
              assumption
        clear_value v7
        refine keeps_pair ?_
        with_reducible apply keeps_State_modSwap
        assumption
theorem keeps_swapStage {s₀ : State} {s : State} (sp : Nat) (hk : Keeps s₀ s) :
    Keeps s₀ (swapStage sp s) := by
  unfold swapStage
  split
  · rename_i x1 e2
    assumption
  · rename_i x3 x4 e5
    extract_lets +onlyGivenNames v6
    clear_value v6
    refine keeps_ite ?_ ?_
    · assumption
    · split
      · rename_i x7 e8
        assumption
      · rename_i x9 x10 e11
        extract_lets +onlyGivenNames v12
        clear_value v12
        split
        · rename_i x13 x14 x15 e16
          have hx17 := keeps_of_eq (s₀ := s₀) (by
            with_reducible apply keeps_State_eccRead
            assumption
            ) e16
          extract_lets +onlyGivenNames v18
          clear_value v18
          extract_lets +onlyGivenNames v19
          clear_value v19
          extract_lets +onlyGivenNames v20
          have hv20 : Keeps s₀ v20 := by
            unfold v20
            refine keeps_foldl _ _ ?_ ?_
            · assumption
            · intro u21 u22 h23
              refine keeps_ite ?_ ?_
              · assumption
              · extract_lets +onlyGivenNames v24
                clear_value v24
                with_reducible apply keeps_State_localWrote
                with_reducible apply keeps_State_putInst
                assumption
          clear_value v20
          extract_lets +onlyGivenNames v25
          have hv25 : Keeps s₀ v25 := by
            unfold v25
            with_reducible apply keeps_State_modSwap
            assumption
          clear_value v25
          refine keeps_ite ?_ ?_
          · assumption
          · with_reducible apply keeps_State_int
            assumption
theorem keeps_swapFire {s₀ : State} {s : State} (sp : Nat) (hk : Keeps s₀ s) :
    Keeps s₀ (swapFire sp s) := by
  unfold swapFire
  extract_lets +onlyGivenNames v1
  clear_value v1
  refine keeps_ite ?_ ?_
  · assumption
  · extract_lets +onlyGivenNames v2
    have hv2 : Keeps s₀ v2 := by
      unfold v2
      refine keeps_foldl _ _ ?_ ?_
      · assumption
      · intro u3 u4 h5
        refine keeps_ite ?_ ?_
        · assumption
        · extract_lets +onlyGivenNames v6
          clear_value v6
          with_reducible apply keeps_State_putInst
          assumption
    clear_value v2
    with_reducible apply keeps_State_int
    with_reducible apply keeps_State_modSwap
    assumption
theorem keeps_swapCancel {s₀ : State} {s : State} (hk : Keeps s₀ s) :
    Keeps s₀ (swapCancel s).1 := by
  unfold swapCancel
  refine keeps_pair ?_
  with_reducible apply keeps_State_forN
  · assumption
  · intro u1 u2 h3
    refine keeps_ite ?_ ?_
    · with_reducible apply keeps_State_swapDrop
      assumption
    · assumption
theorem keeps_actLatchArm {s₀ : State} {s : State} (hk : Keeps s₀ s) :
    Keeps s₀ (actLatchArm s).1 := by
  unfold actLatchArm
  extract_lets +onlyGivenNames v1
  clear_value v1
  refine keeps_ite1 ?_ ?_
  · refine keeps_pair ?_
    with_reducible apply keeps_State_set
    assumption
  · refine keeps_pair ?_
    with_reducible apply keeps_State_set
    with_reducible refine keeps_mk ?_
    assumption
theorem keeps_latchCancel {s₀ : State} {s : State} (hk : Keeps s₀ s) :
    Keeps s₀ (latchCancel s).1 := by
  unfold latchCancel
  refine keeps_ite1 ?_ ?_
  · refine keeps_pair ?_
    with_reducible apply keeps_State_set
    assumption
  · refine keeps_pair ?_
    assumption
theorem keeps_latchFire {s₀ : State} {s : State} (snap : Bool) (hk : Keeps s₀ s) :
    Keeps s₀ (latchFire snap s) := by
  unfold latchFire
  extract_lets +onlyGivenNames v1
  clear_value v1
  extract_lets +onlyGivenNames v2
  have hv2 : Keeps s₀ v2 := by
    unfold v2
    refine keeps_ite ?_ ?_
    · with_reducible apply keeps_meterLatch
      assumption
    · assumption
  clear_value v2
  refine keeps_ite ?_ ?_
  · with_reducible apply keeps_State_set
    assumption
  · assumption
theorem keeps_actHoldClr {s₀ : State} {s : State} (hk : Keeps s₀ s) :
    Keeps s₀ (actHoldClr s).1 := by
  unfold actHoldClr
  refine keeps_pair ?_
  with_reducible refine keeps_mk ?_
  assumption
theorem keeps_meterRead {s₀ : State} {s : State} (t : Nat) (o : Nat) (hk : Keeps s₀ s) :
    Keeps s₀ (meterRead t o s).1 := by
  unfold meterRead
  split
  · rename_i x1 e2
    refine keeps_pair ?_
    assumption
  · rename_i x3 x4 e5
    extract_lets +onlyGivenNames v6
    clear_value v6
    split
    · rename_i x7 e8
      refine keeps_pair ?_
      assumption
    · rename_i x9 x10 e11
      refine keeps_ite1 ?_ ?_
      · refine keeps_pair ?_
        assumption
      · extract_lets +onlyGivenNames v12
        clear_value v12
        split
        · rename_i x13 x14 x15 e16
          have hx17 := keeps_of_eq (s₀ := s₀) (by
            with_reducible apply keeps_State_eccRead
            assumption
            ) e16
          refine keeps_pair ?_
          with_reducible apply keeps_State_fresh
          assumption
theorem keeps_State_pfirResult {s₀ : State} {s : State} (t : Nat) (r : Nat) (hk : Keeps s₀ s) :
    Keeps s₀ (State.pfirResult s t r) := by
  unfold State.pfirResult
  with_reducible apply keeps_State_set
  assumption
theorem keeps_actPfirLoad {s₀ : State} {s : State} (t : Nat) (hk : Keeps s₀ s) :
    Keeps s₀ (actPfirLoad t s).1 := by
  unfold actPfirLoad
  extract_lets +onlyGivenNames v1
  clear_value v1
  extract_lets +onlyGivenNames v2
  clear_value v2
  extract_lets +onlyGivenNames v3
  clear_value v3
  extract_lets +onlyGivenNames v4
  clear_value v4
  split
  · rename_i x5 e6
    refine keeps_pair ?_
    with_reducible apply keeps_State_pfirResult
    assumption
  · rename_i x7 x8 e9
    extract_lets +onlyGivenNames v10
    clear_value v10
    refine keeps_ite1 ?_ ?_
    · extract_lets +onlyGivenNames v11
      clear_value v11
      extract_lets +onlyGivenNames v12
      have hv12 : Keeps s₀ v12 := by
        unfold v12
        with_reducible apply keeps_State_putInst
        assumption
      clear_value v12
      refine keeps_pair ?_
      with_reducible refine keeps_mk ?_
      assumption
    · refine keeps_pair ?_
      with_reducible apply keeps_State_pfirResult
      assumption
theorem keeps_pfirDone {s₀ : State} {s : State} (hk : Keeps s₀ s) :
    Keeps s₀ (pfirDone s) := by
  unfold pfirDone
  split
  · rename_i x1 e2
    assumption
  · rename_i x3 x4 e5
    extract_lets +onlyGivenNames v6
    clear_value v6
    split
    · rename_i x7 e8
      assumption
    · rename_i x9 x10 e11
      refine keeps_ite ?_ ?_
      · assumption
      · extract_lets +onlyGivenNames v12
        clear_value v12
        split
        · rename_i x13 x14 x15 e16
          have hx17 := keeps_of_eq (s₀ := s₀) (by
            with_reducible apply keeps_State_eccRead
            assumption
            ) e16
          extract_lets +onlyGivenNames v18
          clear_value v18
          extract_lets +onlyGivenNames v19
          clear_value v19
          extract_lets +onlyGivenNames v20
          clear_value v20
          extract_lets +onlyGivenNames v21
          have hv21 : Keeps s₀ v21 := by
            unfold v21
            with_reducible apply keeps_State_localWrote
            with_reducible apply keeps_State_putInst
            assumption
          clear_value v21
          with_reducible apply keeps_State_int
          with_reducible apply keeps_State_pfirResult
          with_reducible refine keeps_mk ?_
          assumption
theorem keeps_pfirCancel {s₀ : State} {s : State} (hk : Keeps s₀ s) :
    Keeps s₀ (pfirCancel s) := by
  unfold pfirCancel
  split
  · rename_i x1 x2 e3
    with_reducible apply keeps_State_int
    with_reducible apply keeps_State_pfirResult
    with_reducible refine keeps_mk ?_
    assumption
  · rename_i x4 e5
    assumption
theorem keeps_actRecRun {s₀ : State} {s : State} (hk : Keeps s₀ s) :
    Keeps s₀ (actRecRun s).1 := by
  unfold actRecRun
  refine keeps_ite1 ?_ ?_
  · refine keeps_pair ?_
    assumption
  · refine keeps_pair ?_
    with_reducible apply keeps_State_set
    assumption
theorem keeps_State_putMsg {s₀ : State} {s : State} (m : Msg) (hk : Keeps s₀ s) :
    Keeps s₀ (State.putMsg s m) := by
  unfold State.putMsg
  extract_lets +onlyGivenNames v1
  clear_value v1
  with_reducible refine keeps_mk ?_
  assumption
theorem keeps_State_msgStart {s₀ : State} {s : State} (op : Nat) (n : Nat) (hk : Keeps s₀ s) :
    Keeps s₀ (State.msgStart s op n) := by
  unfold State.msgStart
  with_reducible refine keeps_mk ?_
  assumption
theorem keeps_msgOp {s₀ : State} {s : State} (op : Nat) (n : Nat) (hk : Keeps s₀ s) :
    Keeps s₀ (msgOp op n s).1 := by
  unfold msgOp
  extract_lets +onlyGivenNames v1
  clear_value v1
  refine keeps_ite1 ?_ ?_
  · refine keeps_pair ?_
    assumption
  · refine keeps_ite1 ?_ ?_
    · refine keeps_pair ?_
      assumption
    · split
      · rename_i x2
        refine keeps_ite1 ?_ ?_
        · refine keeps_pair ?_
          with_reducible apply keeps_State_int
          with_reducible apply keeps_State_putMsg
          assumption
        · refine keeps_pair ?_
          assumption
      · rename_i x3
        refine keeps_ite1 ?_ ?_
        · refine keeps_pair ?_
          assumption
        · refine keeps_pair ?_
          with_reducible apply keeps_State_msgStart
          with_reducible apply keeps_State_putMsg
          assumption
      · rename_i x4
        refine keeps_ite1 ?_ ?_
        · refine keeps_pair ?_
          assumption
        · refine keeps_pair ?_
          with_reducible apply keeps_State_msgStart
          assumption
      · rename_i x5 x6 x7 x8
        refine keeps_ite1 ?_ ?_
        · refine keeps_pair ?_
          with_reducible apply keeps_State_msgStart
          assumption
        · refine keeps_pair ?_
          assumption
theorem keeps_msgAppend {s₀ : State} {s : State} (n : Nat) (bs : List Byte) (hk : Keeps s₀ s) :
    Keeps s₀ (msgAppend n bs s) := by
  unfold msgAppend
  extract_lets +onlyGivenNames v1
  clear_value v1
  refine keeps_ite ?_ ?_
  · with_reducible apply keeps_State_putMsg
    assumption
  · assumption
theorem keeps_msgDone {s₀ : State} {s : State} (hk : Keeps s₀ s) :
    Keeps s₀ (msgDone s) := by
  unfold msgDone
  split
  · rename_i x1 e2
    assumption
  · rename_i x3 x4 x5 e6
    extract_lets +onlyGivenNames v7
    clear_value v7
    extract_lets +onlyGivenNames v8
    clear_value v8
    extract_lets +onlyGivenNames v9
    have hv9 : Keeps s₀ v9 := by
      unfold v9
      with_reducible refine keeps_mk ?_
      assumption
    clear_value v9
    extract_lets +onlyGivenNames v10
    have hv10 : Keeps s₀ v10 := by
      unfold v10
      refine keeps_ite ?_ ?_
      · with_reducible apply keeps_State_putMsg
        assumption
      · refine keeps_ite ?_ ?_
        · with_reducible apply keeps_State_putMsg
          assumption
        · assumption
    clear_value v10
    with_reducible apply keeps_State_int
    assumption
theorem keeps_State_setRate {s₀ : State} {s : State} (r : Nat) (hk : Keeps s₀ s) :
    Keeps s₀ (State.setRate s r) := by
  unfold State.setRate
  with_reducible apply keeps_State_set
  with_reducible apply keeps_State_set
  with_reducible apply keeps_State_set
  with_reducible apply keeps_State_set
  assumption
theorem keeps_State_setAlarm {s₀ : State} {s : State} (n : Nat) (on : Bool) (hk : Keeps s₀ s) :
    Keeps s₀ (State.setAlarm s n on) := by
  unfold State.setAlarm
  with_reducible refine keeps_mk ?_
  assumption
theorem keeps_stepCountAt {s₀ : State} {s : State} (hz : Nat) (was : Nat) (new : Nat) (hk : Keeps s₀ s) :
    Keeps s₀ (stepCountAt hz was new s) := by
  unfold stepCountAt
  extract_lets +onlyGivenNames v1
  clear_value v1
  extract_lets +onlyGivenNames v2
  clear_value v2
  extract_lets +onlyGivenNames v3
  clear_value v3
  extract_lets +onlyGivenNames v4
  clear_value v4
  extract_lets +onlyGivenNames v5
  clear_value v5
  extract_lets +onlyGivenNames v6
  clear_value v6
  extract_lets +onlyGivenNames v7
  clear_value v7
  extract_lets +onlyGivenNames v8
  clear_value v8
  extract_lets +onlyGivenNames v9
  clear_value v9
  extract_lets +onlyGivenNames v10
  clear_value v10
  extract_lets +onlyGivenNames v11
  clear_value v11
  extract_lets +onlyGivenNames v12
  clear_value v12
  extract_lets +onlyGivenNames v13
  clear_value v13
  extract_lets +onlyGivenNames v14
  clear_value v14
  extract_lets +onlyGivenNames v15
  clear_value v15
  extract_lets +onlyGivenNames v16
  clear_value v16
  extract_lets +onlyGivenNames v17
  have hv17 : Keeps s₀ v17 := by
    unfold v17
    with_reducible refine keeps_mk ?_
    assumption
  clear_value v17
  with_reducible apply keeps_State_int
  assumption
theorem keeps_stepCount {s₀ : State} {s : State} (new : Nat) (hk : Keeps s₀ s) :
    Keeps s₀ (stepCount new s) := by
  unfold stepCount
  with_reducible apply keeps_stepCountAt
  assumption
theorem keeps_imgCancel {s₀ : State} {s : State} (hk : Keeps s₀ s) :
    Keeps s₀ (imgCancel s) := by
  unfold imgCancel
  extract_lets +onlyGivenNames v1
  have hv1 : Keeps s₀ v1 := by
    unfold v1
    with_reducible apply keeps_State_set
    with_reducible apply keeps_State_set
    with_reducible apply keeps_State_setB
    with_reducible apply keeps_State_set
    assumption
  clear_value v1
  with_reducible apply keeps_State_int
  with_reducible apply keeps_State_setWord
  assumption
theorem keeps_cancelActions {s₀ : State} {s : State} (keep : Bool) (hk : Keeps s₀ s) :
    Keeps s₀ (cancelActions keep s) := by
  unfold cancelActions
  extract_lets +onlyGivenNames v1
  clear_value v1
  extract_lets +onlyGivenNames v2
  clear_value v2
  extract_lets +onlyGivenNames v3
  clear_value v3
  extract_lets +onlyGivenNames v4
  have hv4 : Keeps s₀ v4 := by
    unfold v4
    with_reducible apply keeps_diagAbort
    assumption
  clear_value v4
  split
  · rename_i x5 x6 x7 e8
    have hx9 := keeps_of_eq (s₀ := s₀) (by
      with_reducible apply keeps_swapCancel
      assumption
      ) e8
    split
    · rename_i x10 x11 x12 e13
      have hx14 := keeps_of_eq (s₀ := s₀) (by
        with_reducible apply keeps_latchCancel
        assumption
        ) e13
      split
      · rename_i x15 x16 x17 e18
        have hx19 := keeps_of_eq (s₀ := s₀) (by
          with_reducible apply keeps_snapCancel
          assumption
          ) e18
        extract_lets +onlyGivenNames v20
        have hv20 : Keeps s₀ v20 := by
          unfold v20
          refine keeps_foldl _ _ ?_ ?_
          · assumption
          · intro u21 u22 h23
            with_reducible apply keeps_State_set
            with_reducible apply keeps_State_setAlarm
            assumption
        clear_value v20
        extract_lets +onlyGivenNames v24
        have hv24 : Keeps s₀ v24 := by
          unfold v24
          refine keeps_foldl _ _ ?_ ?_
          · assumption
          · intro u25 u26 h27
            with_reducible apply keeps_State_cancelAction
            assumption
        clear_value v24
        extract_lets +onlyGivenNames v28
        have hv28 : Keeps s₀ v28 := by
          unfold v28
          refine keeps_ite ?_ ?_
          · with_reducible apply keeps_imgCancel
            assumption
          · assumption
        clear_value v28
        refine keeps_ite ?_ ?_
        · with_reducible apply keeps_State_int
          assumption
        · assumption
theorem keeps_actAlarmArm {s₀ : State} {s : State} (n : Nat) (hk : Keeps s₀ s) :
    Keeps s₀ (actAlarmArm n s).1 := by
  unfold actAlarmArm
  extract_lets +onlyGivenNames v1
  clear_value v1
  refine keeps_ite1 ?_ ?_
  · refine keeps_pair ?_
    with_reducible apply keeps_State_set
    assumption
  · refine keeps_pair ?_
    with_reducible apply keeps_State_set
    with_reducible refine keeps_mk ?_
    assumption
theorem keeps_actAlarmDisarm {s₀ : State} {s : State} (n : Nat) (hk : Keeps s₀ s) :
    Keeps s₀ (actAlarmDisarm n s).1 := by
  unfold actAlarmDisarm
  refine keeps_pair ?_
  refine keeps_ite ?_ ?_
  · with_reducible apply keeps_State_set
    assumption
  · assumption
theorem keeps_alarmFire {s₀ : State} {s : State} (n : Nat) (hk : Keeps s₀ s) :
    Keeps s₀ (alarmFire n s) := by
  unfold alarmFire
  refine keeps_ite ?_ ?_
  · with_reducible apply keeps_State_int
    with_reducible apply keeps_State_set
    assumption
  · assumption
theorem keeps_actCapture {s₀ : State} {s : State} (hk : Keeps s₀ s) :
    Keeps s₀ (actCapture s).1 := by
  unfold actCapture
  split
  · rename_i x1 x2 x3 e4
    have hx5 := keeps_of_eq2 (s₀ := s₀) (by
      with_reducible apply keeps_State_fresh
      assumption
      ) e4
    extract_lets +onlyGivenNames v6
    clear_value v6
    refine keeps_pair ?_
    with_reducible apply keeps_State_set
    with_reducible apply keeps_State_set64
    assumption
theorem keeps_actOvrClr {s₀ : State} {s : State} (hk : Keeps s₀ s) :
    Keeps s₀ (actOvrClr s).1 := by
  unfold actOvrClr
  refine keeps_pair ?_
  with_reducible apply keeps_State_setWord
  with_reducible apply keeps_State_set64
  with_reducible apply keeps_State_setWord
  assumption
theorem keeps_actEngCntClr {s₀ : State} {s : State} (hk : Keeps s₀ s) :
    Keeps s₀ (actEngCntClr s).1 := by
  unfold actEngCntClr
  refine keeps_pair ?_
  with_reducible apply keeps_State_setB
  with_reducible apply keeps_State_setWord
  with_reducible apply keeps_State_setWord
  with_reducible apply keeps_State_setWord
  with_reducible apply keeps_State_setWord
  assumption
theorem keeps_actPeakClr {s₀ : State} {s : State} (hk : Keeps s₀ s) :
    Keeps s₀ (actPeakClr s).1 := by
  unfold actPeakClr
  refine keeps_pair ?_
  with_reducible apply keeps_State_forN
  · assumption
  · intro u1 u2 h3
    with_reducible apply keeps_State_setWord
    with_reducible apply keeps_State_set
    assumption
theorem keeps_State_modSlot {s₀ : State} {s : State} (n : Nat) (f : Slot → Slot) (hk : Keeps s₀ s) :
    Keeps s₀ (State.modSlot s n f) := by
  unfold State.modSlot
  with_reducible refine keeps_mk ?_
  assumption
theorem keeps_State_slotWritten {s₀ : State} {s : State} (n : Nat) (hk : Keeps s₀ s) :
    Keeps s₀ (State.slotWritten s n) := by
  unfold State.slotWritten
  refine keeps_ite ?_ ?_
  · with_reducible apply keeps_State_setB
    assumption
  · assumption
theorem keeps_slotOpen {s₀ : State} {s : State} (n : Nat) (hk : Keeps s₀ s) :
    Keeps s₀ (slotOpen n s).1 := by
  unfold slotOpen
  refine keeps_ite1 ?_ ?_
  · refine keeps_pair ?_
    assumption
  · refine keeps_pair ?_
    with_reducible apply keeps_State_slotWritten
    with_reducible apply keeps_State_modSlot
    assumption
theorem keeps_slotErased {s₀ : State} {s : State} (n : Nat) (hk : Keeps s₀ s) :
    Keeps s₀ (slotErased n s) := by
  unfold slotErased
  refine keeps_ite ?_ ?_
  · with_reducible apply keeps_State_int
    with_reducible apply keeps_State_modSlot
    assumption
  · assumption
theorem keeps_slotAppend {s₀ : State} {s : State} (n : Nat) (bs : List Byte) (hk : Keeps s₀ s) :
    Keeps s₀ (slotAppend n bs s) := by
  unfold slotAppend
  extract_lets +onlyGivenNames v1
  clear_value v1
  refine keeps_ite ?_ ?_
  · with_reducible apply keeps_State_slotWritten
    with_reducible apply keeps_State_modSlot
    assumption
  · assumption
theorem keeps_slotClose {s₀ : State} {s : State} (n : Nat) (hk : Keeps s₀ s) :
    Keeps s₀ (slotClose n s).1 := by
  unfold slotClose
  refine keeps_ite1 ?_ ?_
  · refine keeps_pair ?_
    assumption
  · refine keeps_pair ?_
    with_reducible apply keeps_State_int
    with_reducible apply keeps_State_modSlot
    assumption
theorem keeps_slotVerify {s₀ : State} {s : State} (n : Nat) (hk : Keeps s₀ s) :
    Keeps s₀ (slotVerify n s).1 := by
  unfold slotVerify
  refine keeps_ite1 ?_ ?_
  · refine keeps_pair ?_
    assumption
  · refine keeps_pair ?_
    with_reducible apply keeps_State_modSlot
    assumption
theorem keeps_State_slotResult {s₀ : State} {s : State} (n : Nat) (r : Option Refuse) (hk : Keeps s₀ s) :
    Keeps s₀ (State.slotResult s n r) := by
  unfold State.slotResult
  with_reducible apply keeps_State_modSlot
  assumption
theorem keeps_slotVerified {s₀ : State} {s : State} (n : Nat) (bad : List Nat) (hk : Keeps s₀ s) :
    Keeps s₀ (slotVerified n bad s) := by
  unfold slotVerified
  refine keeps_ite ?_ ?_
  · assumption
  · extract_lets +onlyGivenNames v1
    have hv1 : Keeps s₀ v1 := by
      unfold v1
      with_reducible apply keeps_State_modSlot
      assumption
    clear_value v1
    with_reducible apply keeps_State_int
    with_reducible apply keeps_State_slotResult
    assumption
theorem keeps_State_unstage {s₀ : State} {s : State} (hk : Keeps s₀ s) :
    Keeps s₀ (State.unstage s) := by
  unfold State.unstage
  with_reducible apply keeps_State_set64
  with_reducible apply keeps_State_set
  with_reducible refine keeps_mk ?_
  assumption
theorem keeps_imgLoad {s₀ : State} {s : State} (n : Nat) (auto : Bool) (hk : Keeps s₀ s) :
    Keeps s₀ (imgLoad n auto s).1 := by
  unfold imgLoad
  refine keeps_ite1 ?_ ?_
  · refine keeps_pair ?_
    assumption
  · extract_lets +onlyGivenNames v1
    have hv1 : Keeps s₀ v1 := by
      unfold v1
      with_reducible apply keeps_State_set
      with_reducible apply keeps_State_unstage
      assumption
    clear_value v1
    refine keeps_pair ?_
    with_reducible refine keeps_mk ?_
    assumption
theorem keeps_State_refuse {s₀ : State} {s : State} (e : Refuse) (hk : Keeps s₀ s) :
    Keeps s₀ (State.refuse s e) := by
  unfold State.refuse
  with_reducible apply keeps_State_raise
  with_reducible apply keeps_State_event
  with_reducible apply keeps_State_int
  with_reducible apply keeps_State_setWord
  with_reducible apply keeps_State_set
  with_reducible apply keeps_State_set
  assumption
theorem keeps_State_refuseA {s₀ : State} {s : State} (code : Nat) (hk : Keeps s₀ s) :
    Keeps s₀ (State.refuseA s code) := by
  unfold State.refuseA
  with_reducible apply keeps_State_refuse
  with_reducible apply keeps_State_set
  assumption
theorem keeps_armAt {s₀ : State} {s : State} (t : Nat) (im : Image) (hk : Keeps s₀ s) :
    Keeps s₀ (armAt t im s) := by
  unfold armAt
  extract_lets +onlyGivenNames v1
  clear_value v1
  extract_lets +onlyGivenNames v2
  clear_value v2
  extract_lets +onlyGivenNames v3
  clear_value v3
  split
  · rename_i x4 x5 e6
    with_reducible apply keeps_State_refuseA
    assumption
  · rename_i x7 e8
    with_reducible apply keeps_State_set
    with_reducible refine keeps_mk ?_
    assumption
theorem keeps_actImgArm {s₀ : State} {s : State} (hk : Keeps s₀ s) :
    Keeps s₀ (actImgArm s).1 := by
  unfold actImgArm
  split
  · rename_i x1 x2 e3
    refine keeps_ite1 ?_ ?_
    · refine keeps_pair ?_
      with_reducible apply keeps_armAt
      assumption
    · refine keeps_pair ?_
      assumption
  · rename_i x4 e5
    refine keeps_pair ?_
    assumption
theorem keeps_actImgDisarm {s₀ : State} {s : State} (hk : Keeps s₀ s) :
    Keeps s₀ (actImgDisarm s).1 := by
  unfold actImgDisarm
  refine keeps_ite1 ?_ ?_
  · refine keeps_pair ?_
    assumption
  · refine keeps_ite1 ?_ ?_
    · refine keeps_pair ?_
      with_reducible apply keeps_State_set
      assumption
    · refine keeps_pair ?_
      assumption
theorem keeps_actImgDiscard {s₀ : State} {s : State} (hk : Keeps s₀ s) :
    Keeps s₀ (actImgDiscard s).1 := by
  unfold actImgDiscard
  refine keeps_ite1 ?_ ?_
  · refine keeps_pair ?_
    assumption
  · extract_lets +onlyGivenNames v1
    have hv1 : Keeps s₀ v1 := by
      unfold v1
      with_reducible apply keeps_State_set
      with_reducible apply keeps_State_unstage
      assumption
    clear_value v1
    refine keeps_pair ?_
    with_reducible refine keeps_mk ?_
    assumption
theorem keeps_imgLoadDone {s₀ : State} {s : State} (bad : List Nat) (hk : Keeps s₀ s) :
    Keeps s₀ (imgLoadDone bad s) := by
  unfold imgLoadDone
  split
  · rename_i x1 e2
    assumption
  · rename_i x3 x4 e5
    extract_lets +onlyGivenNames v6
    have hv6 : Keeps s₀ v6 := by
      unfold v6
      with_reducible apply keeps_State_modSlot
      assumption
    clear_value v6
    extract_lets +onlyGivenNames v7
    clear_value v7
    extract_lets +onlyGivenNames v8
    clear_value v8
    extract_lets +onlyGivenNames v9
    have hv9 : Keeps s₀ v9 := by
      unfold v9
      with_reducible refine keeps_mk ?_
      assumption
    clear_value v9
    extract_lets +onlyGivenNames v10
    clear_value v10
    split
    · rename_i x11 x12
      with_reducible apply keeps_State_refuse
      with_reducible apply keeps_State_set
      with_reducible apply keeps_State_slotResult
      assumption
    · rename_i x13 x14
      extract_lets +onlyGivenNames v15
      clear_value v15
      extract_lets +onlyGivenNames v16
      have hv16 : Keeps s₀ v16 := by
        unfold v16
        with_reducible apply keeps_State_set
        with_reducible apply keeps_State_slotResult
        assumption
      clear_value v16
      extract_lets +onlyGivenNames v17
      clear_value v17
      extract_lets +onlyGivenNames v18
      have hv18 : Keeps s₀ v18 := by
        unfold v18
        with_reducible apply keeps_State_set
        with_reducible refine keeps_mk ?_
        assumption
      clear_value v18
      extract_lets +onlyGivenNames v19
      have hv19 : Keeps s₀ v19 := by
        unfold v19
        with_reducible apply keeps_State_int
        with_reducible apply keeps_State_set64
        assumption
      clear_value v19
      refine keeps_ite ?_ ?_
      · with_reducible apply keeps_armAt
        assumption
      · assumption
theorem keeps_State_memZero {s₀ : State} {s : State} (k : Nat) (a : Nat) (n : Nat) (hk : Keeps s₀ s) :
    Keeps s₀ (State.memZero s k a n) := by
  unfold State.memZero
  extract_lets +onlyGivenNames v1
  extract_lets +onlyGivenNames v2
  clear_value v2
  with_reducible refine keeps_mem ?_ ?_ ?_ ?_ ?_
  · assumption
  · (intro w; dsimp only; (repeat' split) <;> first | exact w | exact Mem.wf_clear _ _ _ w | rfl)
  · (intro w; dsimp only; (repeat' split) <;> first | exact w | exact Mem.wf_clear _ _ _ w | rfl)
  · exact fun w => w
  · exact fun w => w
theorem keeps_placeMemory {s₀ : State} {s : State} (im : Image) (hk : Keeps s₀ s) :
    Keeps s₀ (placeMemory im s) := by
  unfold placeMemory
  extract_lets +onlyGivenNames v1
  have hv1 : Keeps s₀ v1 := by
    unfold v1
    refine keeps_foldl _ _ ?_ ?_
    · assumption
    · intro u2 u3 h4
      refine keeps_ite ?_ ?_
      · assumption
      · with_reducible apply keeps_domUp
        · with_reducible apply keeps_domDemand
          assumption
        · intro u5 u6 u7 h8
          with_reducible apply keeps_applyReg
          assumption
  clear_value v1
  extract_lets +onlyGivenNames v9
  have hv9 : Keeps s₀ v9 := by
    unfold v9
    refine keeps_foldl _ _ ?_ ?_
    · assumption
    · intro u10 u11 h12
      with_reducible apply keeps_State_memZero
      assumption
  clear_value v9
  extract_lets +onlyGivenNames v13
  have hv13 : Keeps s₀ v13 := by
    unfold v13
    refine keeps_foldl _ _ ?_ ?_
    · assumption
    · intro u14 u15 h16
      with_reducible apply keeps_State_memZero
      assumption
  clear_value v13
  refine keeps_foldl _ _ ?_ ?_
  · assumption
  · intro u17 u18 h19
    refine keeps_foldl _ _ ?_ ?_
    · assumption
    · intro u20 u21 h22
      with_reducible apply keeps_State_sramWrite
      assumption
theorem keeps_dropSaves {s₀ : State} {s : State} (im : Image) (hk : Keeps s₀ s) :
    Keeps s₀ (dropSaves im s) := by
  unfold dropSaves
  with_reducible apply keeps_State_forN
  · assumption
  · intro u1 u2 h3
    extract_lets +onlyGivenNames v4
    clear_value v4
    refine keeps_ite ?_ ?_
    · with_reducible apply keeps_State_saveDrop
      assumption
    · assumption
theorem keeps_applyRegs {s₀ : State} {s : State} (im : Image) (hk : Keeps s₀ s) :
    Keeps s₀ (applyRegs im s) := by
  unfold applyRegs
  refine keeps_foldl _ _ ?_ ?_
  · assumption
  · intro u1 u2 h3
    extract_lets +onlyGivenNames v4
    have hv4 : Keeps s₀ v4 := by
      unfold v4
      split
      · rename_i x5 x6 e7
        refine keeps_ite ?_ ?_
        · assumption
        · with_reducible apply keeps_domUp
          · with_reducible apply keeps_domDemand
            assumption
          · intro u8 u9 u10 h11
            with_reducible apply keeps_applyReg
            assumption
      · rename_i x12 e13
        assumption
    clear_value v4
    with_reducible apply keeps_applyReg
    assumption
theorem keeps_applyFaults {s₀ : State} {s : State} (im : Image) (hk : Keeps s₀ s) :
    Keeps s₀ (applyFaults im s) := by
  unfold applyFaults
  extract_lets +onlyGivenNames v1
  clear_value v1
  with_reducible refine keeps_mk ?_
  assumption
theorem keeps_localLeft {s₀ : State} {s : State} (hk : Keeps s₀ s) :
    Keeps s₀ (localLeft s) := by
  unfold localLeft
  split
  · exact hk
  · refine keeps_foldl _ _ hk ?_
    intro u x hu
    exact keeps_mem (t := u) hu (fun w => Mem.wf_wrN _ _ _ w) (fun w => w) (fun w => w) (fun w => w)
theorem keeps_rebuild {s₀ : State} {s : State} (im : Image) (hk : Keeps s₀ s) :
    Keeps s₀ (rebuild im s) := by
  unfold rebuild
  extract_lets +onlyGivenNames v1
  have hv1 : Keeps s₀ v1 := by
    unfold v1
    with_reducible apply keeps_State_setB
    with_reducible apply keeps_State_setB
    with_reducible apply keeps_State_set
    assumption
  clear_value v1
  extract_lets +onlyGivenNames v2
  have hv2 : Keeps s₀ v2 := by
    unfold v2
    with_reducible apply keeps_pfirCancel
    with_reducible apply keeps_latchCancel
    with_reducible apply keeps_swapCancel
    assumption
  clear_value v2
  extract_lets +onlyGivenNames v3
  clear_value v3
  extract_lets +onlyGivenNames v4
  have hv4 : Keeps s₀ v4 := by
    unfold v4
    with_reducible apply keeps_State_modEng
    assumption
  clear_value v4
  extract_lets +onlyGivenNames v5
  have hv5 : Keeps s₀ v5 := by
    unfold v5
    with_reducible apply keeps_rdpPlace
    with_reducible apply keeps_placeMemory
    with_reducible apply keeps_localLeft
    assumption
  clear_value v5
  extract_lets +onlyGivenNames v6
  have hv6 : Keeps s₀ v6 := by
    unfold v6
    with_reducible apply keeps_tenPlace
    with_reducible apply keeps_applyFaults
    with_reducible apply keeps_applyRegs
    with_reducible apply keeps_dropSaves
    assumption
  clear_value v6
  with_reducible apply keeps_State_modEng
  assumption
theorem keeps_rebuildStart {s₀ : State} {s : State} (hk : Keeps s₀ s) :
    Keeps s₀ (rebuildStart s) := by
  unfold rebuildStart
  split
  · rename_i x1 x2 e3
    refine keeps_ite ?_ ?_
    · assumption
    · split
      · rename_i x4 x5 e6
        with_reducible apply keeps_State_refuseA
        assumption
      · rename_i x7 e8
        with_reducible apply keeps_rebuild
        assumption
  · rename_i x9 e10
    assumption
theorem keeps_engFigures {s₀ : State} {s : State} (hk : Keeps s₀ s) :
    Keeps s₀ (engFigures s) := by
  unfold engFigures
  extract_lets +onlyGivenNames v1
  clear_value v1
  extract_lets +onlyGivenNames v2
  clear_value v2
  split
  · rename_i x3 x4 e5
    extract_lets +onlyGivenNames v6
    clear_value v6
    extract_lets +onlyGivenNames v7
    have hv7 : Keeps s₀ v7 := by
      unfold v7
      with_reducible apply keeps_State_forN
      · assumption
      · intro u8 u9 h10
        with_reducible apply keeps_State_set
        with_reducible apply keeps_State_set
        with_reducible apply keeps_State_set
        assumption
    clear_value v7
    extract_lets +onlyGivenNames v11
    have hv11 : Keeps s₀ v11 := by
      unfold v11
      with_reducible apply keeps_State_set
      with_reducible apply keeps_State_set
      with_reducible apply keeps_State_setWord
      assumption
    clear_value v11
    with_reducible apply keeps_State_setB
    with_reducible apply keeps_State_set
    with_reducible apply keeps_State_set
    assumption
  · rename_i x12 e13
    extract_lets +onlyGivenNames v14
    have hv14 : Keeps s₀ v14 := by
      unfold v14
      with_reducible apply keeps_State_forN
      · assumption
      · intro u15 u16 h17
        with_reducible apply keeps_State_set
        with_reducible apply keeps_State_setWord
        assumption
    clear_value v14
    extract_lets +onlyGivenNames v18
    have hv18 : Keeps s₀ v18 := by
      unfold v18
      with_reducible apply keeps_State_set
      with_reducible apply keeps_State_set
      with_reducible apply keeps_State_setWord
      assumption
    clear_value v18
    with_reducible apply keeps_State_setB
    with_reducible apply keeps_State_set
    with_reducible apply keeps_State_set
    assumption
theorem keeps_imgShow {s₀ : State} {s : State} (hk : Keeps s₀ s) :
    Keeps s₀ (imgShow s) := by
  unfold imgShow
  split
  · rename_i x1 x2 e3
    extract_lets +onlyGivenNames v4
    have hv4 : Keeps s₀ v4 := by
      unfold v4
      with_reducible apply keeps_State_setB
      with_reducible apply keeps_State_set
      with_reducible apply keeps_State_set
      with_reducible apply keeps_State_setB
      assumption
    clear_value v4
    with_reducible apply keeps_State_set64
    with_reducible apply keeps_State_setB
    assumption
  · rename_i x5 e6
    extract_lets +onlyGivenNames v7
    have hv7 : Keeps s₀ v7 := by
      unfold v7
      with_reducible apply keeps_State_setB
      with_reducible apply keeps_State_set
      with_reducible apply keeps_State_set
      with_reducible apply keeps_State_setB
      assumption
    clear_value v7
    with_reducible apply keeps_State_set64
    with_reducible apply keeps_State_setB
    assumption
theorem keeps_rateChange {s₀ : State} {s : State} (keep : Bool) (r : Nat) (hk : Keeps s₀ s) :
    Keeps s₀ (rateChange keep r s) := by
  unfold rateChange
  refine keeps_ite ?_ ?_
  · assumption
  · extract_lets +onlyGivenNames v1
    clear_value v1
    with_reducible apply keeps_adcReset
    with_reducible apply keeps_cancelActions
    with_reducible apply keeps_stepCountAt
    with_reducible apply keeps_State_setRate
    assumption
theorem keeps_srcsActivate {s₀ : State} {s : State} (im : Image) (hk : Keeps s₀ s) :
    Keeps s₀ (srcsActivate im s) := by
  unfold srcsActivate
  extract_lets +onlyGivenNames v1
  clear_value v1
  with_reducible apply keeps_State_srcAll
  with_reducible refine keeps_mk ?_
  assumption
theorem keeps_activate {s₀ : State} {s : State} (im : Image) (hk : Keeps s₀ s) :
    Keeps s₀ (activate im s) := by
  unfold activate
  extract_lets +onlyGivenNames v1
  clear_value v1
  extract_lets +onlyGivenNames v2
  clear_value v2
  extract_lets +onlyGivenNames v3
  have hv3 : Keeps s₀ v3 := by
    unfold v3
    with_reducible apply keeps_rateChange
    assumption
  clear_value v3
  extract_lets +onlyGivenNames v4
  clear_value v4
  extract_lets +onlyGivenNames v5
  clear_value v5
  extract_lets +onlyGivenNames v6
  have hv6 : Keeps s₀ v6 := by
    unfold v6
    with_reducible refine keeps_mk ?_
    assumption
  clear_value v6
  extract_lets +onlyGivenNames v7
  have hv7 : Keeps s₀ v7 := by
    unfold v7
    with_reducible apply keeps_State_setB
    with_reducible apply keeps_State_setB
    with_reducible apply keeps_imgShow
    with_reducible apply keeps_State_set
    with_reducible apply keeps_State_unstage
    assumption
  clear_value v7
  extract_lets +onlyGivenNames v8
  have hv8 : Keeps s₀ v8 := by
    unfold v8
    with_reducible apply keeps_State_modEng
    with_reducible apply keeps_engFigures
    assumption
  clear_value v8
  extract_lets +onlyGivenNames v9
  have hv9 : Keeps s₀ v9 := by
    unfold v9
    with_reducible apply keeps_swapCancel
    assumption
  clear_value v9
  extract_lets +onlyGivenNames v10
  clear_value v10
  extract_lets +onlyGivenNames v11
  have hv11 : Keeps s₀ v11 := by
    unfold v11
    with_reducible apply keeps_srcsActivate
    with_reducible refine keeps_mk ?_
    assumption
  clear_value v11
  extract_lets +onlyGivenNames v12
  have hv12 : Keeps s₀ v12 := by
    unfold v12
    with_reducible apply keeps_State_set
    assumption
  clear_value v12
  extract_lets +onlyGivenNames v13
  have hv13 : Keeps s₀ v13 := by
    unfold v13
    with_reducible apply keeps_tenActivate
    assumption
  clear_value v13
  extract_lets +onlyGivenNames v14
  have hv14 : Keeps s₀ v14 := by
    unfold v14
    refine keeps_foldl _ _ ?_ ?_
    · assumption
    · intro u15 u16 h17
      with_reducible refine keeps_mem ?_ ?_ ?_ ?_ ?_
      · assumption
      · exact fun w => w
      · exact fun w => w
      · exact fun w => Mem.wf_clear _ _ _ w
      · exact fun w => w
  clear_value v14
  extract_lets +onlyGivenNames v18
  have hv18 : Keeps s₀ v18 := by
    unfold v18
    with_reducible apply keeps_sendsCheck
    with_reducible apply keeps_aafActivate
    with_reducible apply keeps_sapActivate
    with_reducible apply keeps_rdpActivate
    refine keeps_ite ?_ ?_
    · with_reducible apply keeps_swApply
      assumption
    · assumption
  clear_value v18
  extract_lets +onlyGivenNames v19
  have hv19 : Keeps s₀ v19 := by
    unfold v19
    with_reducible apply keeps_anaFollow
    with_reducible apply keeps_chFollow
    with_reducible apply keeps_domFollow
    · with_reducible apply keeps_State_int
      assumption
    · intro u20 u21 u22 h23
      with_reducible apply keeps_applyReg
      assumption
  clear_value v19
  extract_lets +onlyGivenNames v24
  have hv24 : Keeps s₀ v24 := by
    unfold v24
    with_reducible apply keeps_State_log
    assumption
  clear_value v24
  extract_lets +onlyGivenNames v25
  have hv25 : Keeps s₀ v25 := by
    unfold v25
    refine keeps_ite ?_ ?_
    · assumption
    · with_reducible apply keeps_State_log
      assumption
  clear_value v25
  extract_lets +onlyGivenNames v26
  clear_value v26
  extract_lets +onlyGivenNames v27
  have hv27 : Keeps s₀ v27 := by
    unfold v27
    with_reducible apply keeps_holdUpdate
    assumption
  clear_value v27
  refine keeps_ite ?_ ?_
  · assumption
  · with_reducible apply keeps_startOutputs
    assumption
theorem keeps_activation {s₀ : State} {s : State} (hk : Keeps s₀ s) :
    Keeps s₀ (activation s) := by
  unfold activation
  split
  · rename_i x1 x2 e3
    refine keeps_ite ?_ ?_
    · with_reducible apply keeps_activate
      assumption
    · assumption
  · rename_i x4 e5
    assumption
theorem keeps_actDeactivate {s₀ : State} {s : State} (hk : Keeps s₀ s) :
    Keeps s₀ (actDeactivate s).1 := by
  unfold actDeactivate
  refine keeps_ite1 ?_ ?_
  · refine keeps_pair ?_
    assumption
  · refine keeps_pair ?_
    with_reducible apply keeps_muteOutputs
    with_reducible refine keeps_mk ?_
    assumption
theorem keeps_noImage {s₀ : State} {s : State} (hk : Keeps s₀ s) :
    Keeps s₀ (noImage s) := by
  unfold noImage
  extract_lets +onlyGivenNames v1
  have hv1 : Keeps s₀ v1 := by
    unfold v1
    with_reducible apply keeps_localLeft
    with_reducible apply keeps_pfirCancel
    with_reducible apply keeps_latchCancel
    with_reducible apply keeps_swapCancel
    assumption
  clear_value v1
  extract_lets +onlyGivenNames v2
  clear_value v2
  extract_lets +onlyGivenNames v3
  have hv3 : Keeps s₀ v3 := by
    unfold v3
    with_reducible refine keeps_mk ?_
    assumption
  clear_value v3
  extract_lets +onlyGivenNames v4
  have hv4 : Keeps s₀ v4 := by
    unfold v4
    with_reducible apply keeps_State_modEng
    with_reducible apply keeps_engFigures
    with_reducible apply keeps_imgShow
    assumption
  clear_value v4
  extract_lets +onlyGivenNames v5
  clear_value v5
  extract_lets +onlyGivenNames v6
  have hv6 : Keeps s₀ v6 := by
    unfold v6
    with_reducible refine keeps_mk ?_
    assumption
  clear_value v6
  extract_lets +onlyGivenNames v7
  have hv7 : Keeps s₀ v7 := by
    unfold v7
    with_reducible apply keeps_State_setB
    with_reducible apply keeps_State_set
    assumption
  clear_value v7
  extract_lets +onlyGivenNames v8
  have hv8 : Keeps s₀ v8 := by
    unfold v8
    with_reducible apply keeps_sapOwn
    with_reducible apply keeps_tenDeactivate
    with_reducible apply keeps_rdpUnplace
    assumption
  clear_value v8
  with_reducible apply keeps_anaFollow
  with_reducible apply keeps_chFollow
  with_reducible apply keeps_holdUpdate
  assumption
theorem keeps_rateHome {s₀ : State} {s : State} (hk : Keeps s₀ s) :
    Keeps s₀ (rateHome s) := by
  unfold rateHome
  refine keeps_ite ?_ ?_
  · with_reducible apply keeps_holdUpdate
    with_reducible apply keeps_rateChange
    assumption
  · assumption
theorem keeps_ksStep {s₀ : State} {s : State} (new : Nat) (hk : Keeps s₀ s) :
    Keeps s₀ (ksStep new s) := by
  unfold ksStep
  extract_lets +onlyGivenNames v1
  extract_lets +onlyGivenNames v2
  have hv2 : Keeps s₀ v2 := by
    unfold v2
    with_reducible apply keeps_State_srcAll
    with_reducible apply keeps_cancelActions
    with_reducible apply keeps_stepCount
    assumption
  clear_value v2
  refine keeps_ite ?_ ?_
  · with_reducible apply keeps_noImage
    assumption
  · assumption
theorem keeps_deactivateDone {s₀ : State} {s : State} (hk : Keeps s₀ s) :
    Keeps s₀ (deactivateDone s) := by
  unfold deactivateDone
  with_reducible apply keeps_rateHome
  refine keeps_ite ?_ ?_
  · with_reducible apply keeps_noImage
    assumption
  · assumption

end Sys2Proof.Machine
end

