-- ==== Sys2Proof/Laws/KeepsHosts.lean ====
section
/-! SUPPORT. One lemma for each operation that changes the state: it keeps the queue and the canonical form. The time base, sleep, register actions, accesses, the hosts and the tick. -/
namespace Sys2Proof.Machine
open Sys2Proof

theorem keeps_ringStep {s₀ : State} {s : State} (old : Nat) (hk : Keeps s₀ s) :
    Keeps s₀ (ringStep old s) := by
  unfold ringStep
  extract_lets +onlyGivenNames v1
  clear_value v1
  refine keeps_ite ?_ ?_
  · assumption
  · extract_lets +onlyGivenNames v2
    clear_value v2
    extract_lets +onlyGivenNames v3
    clear_value v3
    extract_lets +onlyGivenNames v4
    have hv4 : Keeps s₀ v4 := by
      unfold v4
      with_reducible refine keeps_mk ?_
      assumption
    clear_value v4
    with_reducible apply keeps_State_modRct
    assumption
theorem keeps_measured {s₀ : State} {s : State} (ns : Int) (hk : Keeps s₀ s) :
    Keeps s₀ (measured ns s) := by
  unfold measured
  with_reducible apply keeps_showTime
  with_reducible refine keeps_mk ?_
  assumption
theorem keeps_gptpFollow {s₀ : State} {s : State} (t : Nat) (hk : Keeps s₀ s) :
    Keeps s₀ (gptpFollow t s) := by
  unfold gptpFollow
  extract_lets +onlyGivenNames v1
  clear_value v1
  refine keeps_ite ?_ ?_
  · extract_lets +onlyGivenNames v2
    have hv2 : Keeps s₀ v2 := by
      unfold v2
      with_reducible apply keeps_servoStep
      with_reducible apply keeps_measured
      assumption
    clear_value v2
    refine keeps_ite ?_ ?_
    · with_reducible apply keeps_rampLoad
      assumption
    · assumption
  · extract_lets +onlyGivenNames v3
    clear_value v3
    extract_lets +onlyGivenNames v4
    clear_value v4
    extract_lets +onlyGivenNames v5
    have hv5 : Keeps s₀ v5 := by
      unfold v5
      refine keeps_ite ?_ ?_
      · assumption
      · with_reducible apply keeps_ringStep
        with_reducible apply keeps_ksStep
        assumption
    clear_value v5
    with_reducible apply keeps_servoStep
    with_reducible apply keeps_measured
    assumption
theorem keeps_gptpSync {s₀ : State} {s : State} (p : Nat) (gm : Nat) (t : Nat) (hk : Keeps s₀ s) :
    Keeps s₀ (gptpSync p gm t s) := by
  unfold gptpSync
  refine keeps_ite ?_ ?_
  · assumption
  · extract_lets +onlyGivenNames v1
    have hv1 : Keeps s₀ v1 := by
      unfold v1
      with_reducible apply keeps_gptpIn
      with_reducible apply keeps_State_event
      assumption
    clear_value v1
    refine keeps_ite ?_ ?_
    · assumption
    · with_reducible apply keeps_gptpFollow
      assumption
theorem keeps_syncTimeout {s₀ : State} {s : State} (hk : Keeps s₀ s) :
    Keeps s₀ (syncTimeout s) := by
  unfold syncTimeout
  refine keeps_ite ?_ ?_
  · assumption
  · extract_lets +onlyGivenNames v1
    have hv1 : Keeps s₀ v1 := by
      unfold v1
      with_reducible apply keeps_showPll
      with_reducible apply keeps_State_stopRamp
      with_reducible apply keeps_showTime
      with_reducible refine keeps_mk ?_
      assumption
    clear_value v1
    refine keeps_ite ?_ ?_
    · with_reducible apply keeps_State_setGm
      assumption
    · assumption
theorem keeps_State_gptpSend {s₀ : State} {s : State} (typ : Nat) (len : Nat) (interval : Nat) (port : Nat) (hk : Keeps s₀ s) :
    Keeps s₀ (State.gptpSend s typ len interval port) := by
  unfold State.gptpSend
  with_reducible apply keeps_State_sendOn
  with_reducible refine keeps_mk ?_
  assumption
theorem keeps_State_gptpAnnounce {s₀ : State} {s : State} (port : Nat) (hk : Keeps s₀ s) :
    Keeps s₀ (State.gptpAnnounce s port) := by
  unfold State.gptpAnnounce
  split
  · rename_i x1 e2
    assumption
  · rename_i x3 x4 e5
    extract_lets +onlyGivenNames v6
    clear_value v6
    with_reducible apply keeps_State_sendOn
    with_reducible refine keeps_mk ?_
    assumption
theorem keeps_gptpTick {s₀ : State} {s : State} (hk : Keeps s₀ s) :
    Keeps s₀ (gptpTick s) := by
  unfold gptpTick
  extract_lets +onlyGivenNames v1
  clear_value v1
  extract_lets +onlyGivenNames v2
  clear_value v2
  extract_lets +onlyGivenNames v3
  have hv3 : Keeps s₀ v3 := by
    unfold v3
    refine keeps_ite ?_ ?_
    · assumption
    · refine keeps_foldl _ _ ?_ ?_
      · assumption
      · intro u4 u5 h6
        with_reducible apply keeps_State_gptpSend
        with_reducible apply keeps_State_gptpSend
        assumption
  clear_value v3
  refine keeps_ite ?_ ?_
  · assumption
  · refine keeps_foldl _ _ ?_ ?_
    · refine keeps_foldl _ _ ?_ ?_
      · assumption
      · intro u7 u8 h9
        with_reducible apply keeps_State_gptpAnnounce
        assumption
    · intro u10 u11 h12
      with_reducible apply keeps_State_gptpSend
      assumption
theorem keeps_eccFind {s₀ : State} {s : State} (k : Nat) (a : Nat) (f : ScrubFind) (hk : Keeps s₀ s) :
    Keeps s₀ (eccFind k a f s) := by
  unfold eccFind
  extract_lets +onlyGivenNames v1
  extract_lets +onlyGivenNames v2
  have hv2 : ∀ a1, Keeps s₀ (v2 a1) := by
    unfold v2
    intro u3
    with_reducible refine keeps_mem ?_ ?_ ?_ ?_ ?_
    · assumption
    · exact fun w => w
    · exact fun w => w
    · exact fun w => w
    · exact fun w => w
  clear_value v2
  split
  · rename_i x4
    assumption
  · rename_i x5
    refine keeps_ite ?_ ?_
    · assumption
    · with_reducible apply hv2
  · rename_i x6
    refine keeps_ite ?_ ?_
    · assumption
    · with_reducible apply hv2
theorem keeps_scrub {s₀ : State} {s : State} (k : Nat) (a : Nat) (f : ScrubFind) (hk : Keeps s₀ s) :
    Keeps s₀ (scrub k a f s) := by
  unfold scrub
  split
  · rename_i x1 x2 x3 e4
    have hx5 := keeps_of_eq (s₀ := s₀) (by
      with_reducible apply keeps_State_eccRead
      with_reducible apply keeps_eccFind
      with_reducible apply keeps_State_event
      assumption
      ) e4
    refine keeps_ite ?_ ?_
    · with_reducible apply keeps_State_eccDrop
      assumption
    · assumption
theorem keeps_stoneScrub {s₀ : State} {s : State} (n : Nat) (w : Nat) (f : ScrubFind) (hk : Keeps s₀ s) :
    Keeps s₀ (stoneScrub n w f s) := by
  unfold stoneScrub
  refine keeps_ite ?_ ?_
  · with_reducible apply keeps_scrub
    assumption
  · assumption
theorem keeps_memoryScrub {s₀ : State} {s : State} (m : ScrubMem) (w : Nat) (f : ScrubFind) (hk : Keeps s₀ s) :
    Keeps s₀ (memoryScrub m w f s) := by
  unfold memoryScrub
  split
  · rename_i x1
    refine keeps_ite ?_ ?_
    · with_reducible apply keeps_scrub
      assumption
    · assumption
  · rename_i x2
    refine keeps_ite ?_ ?_
    · with_reducible apply keeps_scrub
      assumption
    · assumption
  · rename_i x3
    refine keeps_ite ?_ ?_
    · with_reducible apply keeps_scrub
      assumption
    · assumption
theorem keeps_fltClearDue {s₀ : State} {s : State} (hk : Keeps s₀ s) :
    Keeps s₀ (fltClearDue s) := by
  unfold fltClearDue
  split
  · rename_i x1 x2 x3 x4 e5
    have hx6 := keeps_of_eq (s₀ := s₀) (by
      with_reducible apply keeps_clearAct
      assumption
      ) e5
    extract_lets +onlyGivenNames v7
    clear_value v7
    refine keeps_ite ?_ ?_
    · assumption
    · with_reducible apply keeps_State_anaStart
      with_reducible apply keeps_State_askStart
      assumption
theorem keeps_latchesDue {s₀ : State} {s : State} (hk : Keeps s₀ s) :
    Keeps s₀ (latchesDue s) := by
  unfold latchesDue
  split
  · rename_i x1 x2 x3 e4
    have hx5 := keeps_of_eq (s₀ := s₀) (by
      with_reducible apply keeps_snapFire
      assumption
      ) e4
    with_reducible apply keeps_latchFire
    assumption
theorem keeps_actDomSleep {s₀ : State} {s : State} (hk : Keeps s₀ s) :
    Keeps s₀ (actDomSleep s).1 := by
  unfold actDomSleep
  refine keeps_ite1 ?_ ?_
  · refine keeps_pair ?_
    assumption
  · refine keeps_pair ?_
    with_reducible refine keeps_mk ?_
    assumption
theorem keeps_sleepEnter {s₀ : State} {s : State} (hk : Keeps s₀ s) :
    Keeps s₀ (sleepEnter s) := by
  unfold sleepEnter
  split
  · rename_i x1 e2
    assumption
  · rename_i x3 x4 e5
    extract_lets +onlyGivenNames v6
    clear_value v6
    extract_lets +onlyGivenNames v7
    have hv7 : Keeps s₀ v7 := by
      unfold v7
      with_reducible refine keeps_mk ?_
      assumption
    clear_value v7
    refine keeps_ite ?_ ?_
    · assumption
    · extract_lets +onlyGivenNames v8
      clear_value v8
      extract_lets +onlyGivenNames v9
      have hv9 : Keeps s₀ v9 := by
        unfold v9
        with_reducible apply keeps_State_setB
        with_reducible apply keeps_State_set
        assumption
      clear_value v9
      with_reducible apply keeps_muteOutputs
      with_reducible refine keeps_mk ?_
      assumption
theorem keeps_sleepRecord {s₀ : State} {s : State} (hk : Keeps s₀ s) :
    Keeps s₀ (sleepRecord s) := by
  unfold sleepRecord
  with_reducible apply keeps_State_footWrite
  assumption
theorem keeps_domSleep {s₀ : State} {s : State} (storage : Bool) (d : Nat) (hk : Keeps s₀ s) :
    Keeps s₀ (domSleep storage d s) := by
  unfold domSleep
  extract_lets +onlyGivenNames v1
  clear_value v1
  extract_lets +onlyGivenNames v2
  have hv2 : Keeps s₀ v2 := by
    unfold v2
    with_reducible apply keeps_State_modDom
    assumption
  clear_value v2
  refine keeps_ite ?_ ?_
  · refine keeps_ite ?_ ?_
    · with_reducible apply keeps_domUp
      · assumption
      · intro u3 u4 u5 h6
        with_reducible apply keeps_applyReg
        assumption
    · assumption
  · with_reducible apply keeps_domDown
    assumption
theorem keeps_ringDoze {s₀ : State} {s : State} (hk : Keeps s₀ s) :
    Keeps s₀ (ringDoze s) := by
  unfold ringDoze
  extract_lets +onlyGivenNames v1
  clear_value v1
  extract_lets +onlyGivenNames v2
  have hv2 : Keeps s₀ v2 := by
    unfold v2
    with_reducible apply keeps_State_forN
    · assumption
    · intro u3 u4 h5
      refine keeps_ite ?_ ?_
      · assumption
      · with_reducible apply keeps_linkDown
        assumption
  clear_value v2
  extract_lets +onlyGivenNames v6
  have hv6 : Keeps s₀ v6 := by
    unfold v6
    with_reducible apply keeps_State_modRct
    assumption
  clear_value v6
  with_reducible apply keeps_stepRetrain
  with_reducible apply keeps_stepJoin
  assumption
theorem keeps_ringStir {s₀ : State} {s : State} (hk : Keeps s₀ s) :
    Keeps s₀ (ringStir s) := by
  unfold ringStir
  with_reducible apply keeps_State_forN
  · assumption
  · intro u1 u2 h3
    extract_lets +onlyGivenNames v4
    have hv4 : Keeps s₀ v4 := by
      unfold v4
      with_reducible apply keeps_State_setB
      assumption
    clear_value v4
    refine keeps_ite ?_ ?_
    · assumption
    · extract_lets +onlyGivenNames v5
      have hv5 : Keeps s₀ v5 := by
        unfold v5
        with_reducible apply keeps_linkDown
        assumption
      clear_value v5
      with_reducible refine keeps_mk ?_
      assumption
theorem keeps_sleepReady {s₀ : State} {s : State} (hk : Keeps s₀ s) :
    Keeps s₀ (sleepReady s) := by
  unfold sleepReady
  refine keeps_ite ?_ ?_
  · assumption
  · extract_lets +onlyGivenNames v1
    clear_value v1
    extract_lets +onlyGivenNames v2
    clear_value v2
    extract_lets +onlyGivenNames v3
    have hv3 : Keeps s₀ v3 := by
      unfold v3
      refine keeps_ite ?_ ?_
      · with_reducible apply keeps_cancelActions
        assumption
      · assumption
    clear_value v3
    extract_lets +onlyGivenNames v4
    have hv4 : Keeps s₀ v4 := by
      unfold v4
      refine keeps_ite ?_ ?_
      · with_reducible apply keeps_noImage
        assumption
      · assumption
    clear_value v4
    extract_lets +onlyGivenNames v5
    have hv5 : Keeps s₀ v5 := by
      unfold v5
      with_reducible apply keeps_sleepRecord
      with_reducible apply keeps_State_setB
      assumption
    clear_value v5
    extract_lets +onlyGivenNames v6
    have hv6 : Keeps s₀ v6 := by
      unfold v6
      refine keeps_ite ?_ ?_
      · with_reducible apply keeps_State_setCtl
        with_reducible apply keeps_State_modRct
        assumption
      · assumption
    clear_value v6
    extract_lets +onlyGivenNames v7
    have hv7 : Keeps s₀ v7 := by
      unfold v7
      refine keeps_foldl _ _ ?_ ?_
      · assumption
      · intro u8 u9 h10
        with_reducible apply keeps_domSleep
        assumption
    clear_value v7
    extract_lets +onlyGivenNames v11
    have hv11 : Keeps s₀ v11 := by
      unfold v11
      with_reducible apply keeps_State_set
      assumption
    clear_value v11
    extract_lets +onlyGivenNames v12
    have hv12 : Keeps s₀ v12 := by
      unfold v12
      refine keeps_ite ?_ ?_
      · assumption
      · with_reducible apply keeps_ringDoze
        assumption
    clear_value v12
    extract_lets +onlyGivenNames v13
    clear_value v13
    extract_lets +onlyGivenNames v14
    have hv14 : Keeps s₀ v14 := by
      unfold v14
      refine keeps_ite ?_ ?_
      · with_reducible refine keeps_mk ?_
        assumption
      · assumption
    clear_value v14
    extract_lets +onlyGivenNames v15
    clear_value v15
    extract_lets +onlyGivenNames v16
    clear_value v16
    extract_lets +onlyGivenNames v17
    have hv17 : Keeps s₀ v17 := by
      unfold v17
      with_reducible refine keeps_mk ?_
      assumption
    clear_value v17
    with_reducible apply keeps_State_int
    assumption
theorem keeps_domsWake {s₀ : State} {s : State} (hk : Keeps s₀ s) :
    Keeps s₀ (domsWake s) := by
  unfold domsWake
  extract_lets +onlyGivenNames v1
  have hv1 : Keeps s₀ v1 := by
    unfold v1
    with_reducible apply keeps_State_forN
    · assumption
    · intro u2 u3 h4
      with_reducible apply keeps_State_modDom
      assumption
  clear_value v1
  extract_lets +onlyGivenNames v5
  have hv5 : Keeps s₀ v5 := by
    unfold v5
    with_reducible apply keeps_State_forN
    · assumption
    · intro u6 u7 h8
      refine keeps_ite ?_ ?_
      · with_reducible apply keeps_domUp
        · assumption
        · intro u9 u10 u11 h12
          with_reducible apply keeps_applyReg
          assumption
      · assumption
  clear_value v5
  with_reducible apply keeps_domFollow
  · assumption
  · intro u13 u14 u15 h16
    with_reducible apply keeps_applyReg
    assumption
theorem keeps_engResume {s₀ : State} {s : State} (hk : Keeps s₀ s) :
    Keeps s₀ (engResume s) := by
  unfold engResume
  refine keeps_ite ?_ ?_
  · with_reducible apply keeps_State_setB
    assumption
  · assumption
theorem keeps_imgReshow {s₀ : State} {s : State} (hk : Keeps s₀ s) :
    Keeps s₀ (imgReshow s) := by
  unfold imgReshow
  refine keeps_ite ?_ ?_
  · with_reducible apply keeps_State_set
    with_reducible apply keeps_engFigures
    assumption
  · assumption
theorem keeps_ringWaking {s₀ : State} {s : State} (hk : Keeps s₀ s) :
    Keeps s₀ (ringWaking s) := by
  unfold ringWaking
  with_reducible apply keeps_State_modRct
  assumption
theorem keeps_networkWake {s₀ : State} {s : State} (cause : Nat) (frame : Bool) (hk : Keeps s₀ s) :
    Keeps s₀ (networkWake cause frame s) := by
  unfold networkWake
  extract_lets +onlyGivenNames v1
  clear_value v1
  extract_lets +onlyGivenNames v2
  have hv2 : Keeps s₀ v2 := by
    unfold v2
    with_reducible apply keeps_State_set
    with_reducible apply keeps_State_setWord
    assumption
  clear_value v2
  extract_lets +onlyGivenNames v3
  have hv3 : Keeps s₀ v3 := by
    unfold v3
    with_reducible apply keeps_engResume
    with_reducible apply keeps_domsWake
    with_reducible apply keeps_ringStir
    assumption
  clear_value v3
  extract_lets +onlyGivenNames v4
  have hv4 : Keeps s₀ v4 := by
    unfold v4
    with_reducible apply keeps_ringWaking
    refine keeps_ite ?_ ?_
    · with_reducible apply keeps_State_setCtl
      assumption
    · assumption
  clear_value v4
  extract_lets +onlyGivenNames v5
  have hv5 : Keeps s₀ v5 := by
    unfold v5
    refine keeps_ite ?_ ?_
    · assumption
    · with_reducible apply keeps_State_ctlSend
      assumption
  clear_value v5
  with_reducible apply keeps_State_int
  with_reducible apply keeps_State_int
  assumption
theorem keeps_storageWake {s₀ : State} {s : State} (hk : Keeps s₀ s) :
    Keeps s₀ (storageWake s) := by
  unfold storageWake
  refine keeps_foldl _ _ ?_ ?_
  · with_reducible apply keeps_State_set
    assumption
  · intro u1 u2 h3
    with_reducible apply keeps_domUp
    · with_reducible apply keeps_State_modDom
      assumption
    · intro u4 u5 u6 h7
      with_reducible apply keeps_applyReg
      assumption
theorem keeps_wakeBy {s₀ : State} {s : State} (cause : Nat) (en : Nat) (net : Bool) (sto : Bool) (frame : Bool) (hk : Keeps s₀ s) :
    Keeps s₀ (wakeBy cause en net sto frame s) := by
  unfold wakeBy
  extract_lets +onlyGivenNames v1
  clear_value v1
  extract_lets +onlyGivenNames v2
  clear_value v2
  extract_lets +onlyGivenNames v3
  clear_value v3
  refine keeps_ite ?_ ?_
  · assumption
  · extract_lets +onlyGivenNames v4
    have hv4 : Keeps s₀ v4 := by
      unfold v4
      with_reducible apply keeps_State_set
      assumption
    clear_value v4
    refine keeps_ite ?_ ?_
    · extract_lets +onlyGivenNames v5
      clear_value v5
      extract_lets +onlyGivenNames v6
      have hv6 : Keeps s₀ v6 := by
        unfold v6
        with_reducible refine keeps_mk ?_
        assumption
      clear_value v6
      with_reducible apply keeps_ringWaking
      with_reducible apply keeps_State_int
      with_reducible apply keeps_State_set
      assumption
    · refine keeps_ite ?_ ?_
      · with_reducible apply keeps_networkWake
        assumption
      · with_reducible apply keeps_storageWake
        assumption
theorem keeps_actHostWake {s₀ : State} {s : State} (hk : Keeps s₀ s) :
    Keeps s₀ (actHostWake s).1 := by
  unfold actHostWake
  refine keeps_pair ?_
  with_reducible apply keeps_wakeBy
  assumption
theorem keeps_storageReady {s₀ : State} {s : State} (t : Nat) (ms : Nat) (hk : Keeps s₀ s) :
    Keeps s₀ (storageReady t ms s) := by
  unfold storageReady
  refine keeps_ite ?_ ?_
  · assumption
  · extract_lets +onlyGivenNames v1
    have hv1 : Keeps s₀ v1 := by
      unfold v1
      with_reducible apply keeps_State_setWord
      with_reducible apply keeps_State_set
      assumption
    clear_value v1
    extract_lets +onlyGivenNames v2
    have hv2 : Keeps s₀ v2 := by
      unfold v2
      with_reducible apply keeps_State_setRate
      assumption
    clear_value v2
    extract_lets +onlyGivenNames v3
    clear_value v3
    extract_lets +onlyGivenNames v4
    clear_value v4
    extract_lets +onlyGivenNames v5
    clear_value v5
    extract_lets +onlyGivenNames v6
    have hv6 : Keeps s₀ v6 := by
      unfold v6
      with_reducible refine keeps_mk ?_
      assumption
    clear_value v6
    extract_lets +onlyGivenNames v7
    have hv7 : Keeps s₀ v7 := by
      unfold v7
      with_reducible apply keeps_ovrCarry
      assumption
    clear_value v7
    extract_lets +onlyGivenNames v8
    have hv8 : Keeps s₀ v8 := by
      unfold v8
      refine keeps_foldl _ _ ?_ ?_
      · with_reducible apply keeps_domsWake
        assumption
      · intro u9 u10 h11
        with_reducible apply keeps_domUp
        · assumption
        · intro u12 u13 u14 h15
          with_reducible apply keeps_applyReg
          assumption
    clear_value v8
    extract_lets +onlyGivenNames v16
    have hv16 : Keeps s₀ v16 := by
      unfold v16
      with_reducible apply keeps_linkResync
      assumption
    clear_value v16
    extract_lets +onlyGivenNames v17
    have hv17 : Keeps s₀ v17 := by
      unfold v17
      with_reducible apply keeps_showTime
      with_reducible refine keeps_mk ?_
      assumption
    clear_value v17
    extract_lets +onlyGivenNames v18
    have hv18 : Keeps s₀ v18 := by
      unfold v18
      with_reducible apply keeps_leaveTo
      assumption
    clear_value v18
    with_reducible apply keeps_State_int
    with_reducible apply keeps_ringWaking
    with_reducible apply keeps_engResume
    with_reducible apply keeps_imgReshow
    assumption
theorem keeps_wakeRx {s₀ : State} {s : State} (p : Nat) (f : List Byte) (hk : Keeps s₀ s) :
    Keeps s₀ (wakeRx p f s) := by
  unfold wakeRx
  refine keeps_ite ?_ ?_
  · assumption
  · extract_lets +onlyGivenNames v1
    have hv1 : Keeps s₀ v1 := by
      unfold v1
      with_reducible apply keeps_State_rxCount
      with_reducible apply keeps_State_event
      assumption
    clear_value v1
    refine keeps_ite ?_ ?_
    · assumption
    · extract_lets +onlyGivenNames v2
      have hv2 : Keeps s₀ v2 := by
        unfold v2
        with_reducible apply keeps_State_ctlMark
        assumption
      clear_value v2
      extract_lets +onlyGivenNames v3
      have hv3 : Keeps s₀ v3 := by
        unfold v3
        with_reducible apply keeps_wakeBy
        assumption
      clear_value v3
      refine keeps_ite ?_ ?_
      · with_reducible apply keeps_State_sendOn
        assumption
      · assumption
theorem keeps_inputWake {s₀ : State} {s : State} (hk : Keeps s₀ s) :
    Keeps s₀ (inputWake s) := by
  unfold inputWake
  refine keeps_ite ?_ ?_
  · with_reducible apply keeps_wakeBy
    assumption
  · assumption
theorem keeps_ovrWake {s₀ : State} {s : State} (hk : Keeps s₀ s) :
    Keeps s₀ (ovrWake s) := by
  unfold ovrWake
  refine keeps_ite ?_ ?_
  · with_reducible apply keeps_wakeBy
    assumption
  · assumption
theorem keeps_ovrInput {s₀ : State} {s : State} (a : Bool) (b : Bool) (hk : Keeps s₀ s) :
    Keeps s₀ (ovrInput a b s) := by
  unfold ovrInput
  extract_lets +onlyGivenNames v1
  have hv1 : Keeps s₀ v1 := by
    unfold v1
    with_reducible apply keeps_inputWake
    with_reducible apply keeps_ovrAccept
    assumption
  clear_value v1
  refine keeps_ite ?_ ?_
  · assumption
  · with_reducible apply keeps_State_modOvr
    assumption
theorem keeps_histPop {s₀ : State} {s : State} (p : Path) (hk : Keeps s₀ s) :
    Keeps s₀ (histPop p s).1 := by
  unfold histPop
  extract_lets +onlyGivenNames v1
  clear_value v1
  extract_lets +onlyGivenNames v2
  clear_value v2
  refine keeps_pair ?_
  with_reducible refine keeps_mk ?_
  assumption
theorem keeps_regRead {s₀ : State} {s : State} (r : RegRow) (i : Nat) (j : Nat) (t : Nat) (p : Path) (hk : Keeps s₀ s) :
    Keeps s₀ (regRead r i j t p s).1 := by
  unfold regRead
  extract_lets +onlyGivenNames v1
  clear_value v1
  refine keeps_ite1 ?_ ?_
  · refine keeps_pair ?_
    assumption
  · split
    · rename_i x2 e3
      extract_lets +onlyGivenNames v4
      clear_value v4
      refine keeps_pair ?_
      refine keeps_ite ?_ ?_
      · assumption
      · with_reducible apply keeps_State_setWord
        assumption
    · rename_i x5 e6
      refine keeps_ite1 ?_ ?_
      · split
        · rename_i x7 x8 x9 e10
          have hx11 := keeps_of_eq (s₀ := s₀) (by
            with_reducible apply keeps_histPop
            assumption
            ) e10
          refine keeps_pair ?_
          assumption
      · refine keeps_pair ?_
        assumption
    · rename_i x12 e13
      refine keeps_ite1 ?_ ?_
      · refine keeps_pair ?_
        assumption
      · refine keeps_ite1 ?_ ?_
        · refine keeps_pair ?_
          assumption
        · split
          · rename_i x14 x15 x16 e17
            have hx18 := keeps_of_eq (s₀ := s₀) (by
              with_reducible apply keeps_semTake
              assumption
              ) e17
            refine keeps_pair ?_
            assumption
    · rename_i x19 e20
      refine keeps_ite1 ?_ ?_
      · refine keeps_pair ?_
        assumption
      · refine keeps_ite1 ?_ ?_
        · refine keeps_pair ?_
          assumption
        · refine keeps_ite1 ?_ ?_
          · split
            · rename_i x21 x22 x23 e24
              have hx25 := keeps_of_eq (s₀ := s₀) (by
                with_reducible apply keeps_semTake
                assumption
                ) e24
              refine keeps_pair ?_
              assumption
          · refine keeps_pair ?_
            assumption
    · rename_i x26 x27 x28 x29 x30
      refine keeps_pair ?_
      assumption
theorem keeps_plainAct {s₀ : State} {s : State} (f : State → State) (hk : Keeps s₀ s) (h_f : ∀ a0, Keeps s₀ a0 → Keeps s₀ (f a0)) :
    Keeps s₀ (plainAct f s).1 := by
  unfold plainAct
  refine keeps_pair ?_
  with_reducible apply h_f
  assumption
theorem keeps_actCores {s₀ : State} {s : State} (halt : Bool) (hk : Keeps s₀ s) :
    Keeps s₀ (actCores halt s).1 := by
  unfold actCores
  extract_lets +onlyGivenNames v1
  clear_value v1
  extract_lets +onlyGivenNames v2
  clear_value v2
  refine keeps_pair ?_
  with_reducible apply keeps_State_set
  assumption
theorem keeps_actSemBreak {s₀ : State} {s : State} (hk : Keeps s₀ s) :
    Keeps s₀ (actSemBreak s).1 := by
  unfold actSemBreak
  refine keeps_pair ?_
  with_reducible apply keeps_semBreak
  assumption
theorem keeps_runActs {s₀ : State} {s : State} (st : Nat) (l : List (State → Act)) (hk : Keeps s₀ s) (h_l : ∀ g, g ∈ l → ∀ u, Keeps s₀ u → Keeps s₀ (g u).1) :
    Keeps s₀ (runActs st l s).1 := by
  unfold runActs
  suffices H : ∀ (l : List (State → Act)) (a : State × Nat), (∀ g, g ∈ l → ∀ u, Keeps s₀ u → Keeps s₀ (g u).1) → Keeps s₀ a.1 →
      Keeps s₀ (l.foldl (fun a f => ((f a.1).1, if a.2 = stOk then (f a.1).2 else a.2)) a).1 from H l (s, st) h_l hk
  intro l
  induction l with
  | nil => intro a _ h; exact h
  | cons g l ih => intro a hl h; exact ih _ (fun g' m => hl g' (List.mem_cons_of_mem _ m)) (hl g (List.mem_cons_self ..) _ h)
/-- Every action of a list keeps the canonical form and the queue. -/
def KeepAll (s₀ : State) (l : List (State → Act)) : Prop := ∀ g, g ∈ l → ∀ u, Keeps s₀ u → Keeps s₀ (g u).1
theorem keepAll_nil {s₀ : State} : KeepAll s₀ [] := fun _ h => by cases h
theorem keepAll_one {s₀ : State} {f : State → Act} (h : ∀ u, Keeps s₀ u → Keeps s₀ (f u).1) : KeepAll s₀ [f] := by
  intro g hg; obtain rfl := List.mem_singleton.mp hg; exact h
theorem keepAll_append {s₀ : State} {a b : List (State → Act)} (ha : KeepAll s₀ a) (hb : KeepAll s₀ b) : KeepAll s₀ (a ++ b) := by
  intro g hg
  rcases List.mem_append.mp hg with h | h
  · exact ha g h
  · exact hb g h
theorem keepAll_ite {s₀ : State} {c : Prop} [Decidable c] {a b : List (State → Act)} (ha : KeepAll s₀ a) (hb : KeepAll s₀ b) : KeepAll s₀ (if c then a else b) := by
  split <;> assumption
theorem keepAll_map {α : Type} {s₀ : State} {f : α → State → Act} {l : List α} (h : ∀ x u, Keeps s₀ u → Keeps s₀ (f x u).1) : KeepAll s₀ (l.map f) := by
  intro g hg; obtain ⟨x, _, rfl⟩ := List.mem_map.mp hg; exact h x
theorem keepAll_waActs {s₀ : State} (r : RegRow) (i t : Nat) (p : Path) (v : Nat) : KeepAll s₀ (waActs r i t p v) := by
  unfold waActs
  dsimp only
  split
  all_goals
    repeat' (first
               | with_reducible exact keepAll_nil | with_reducible apply keepAll_append | with_reducible apply keepAll_ite
               | with_reducible apply keepAll_one | with_reducible apply keepAll_map)
    all_goals
      intros
      try dsimp only
      first
        | (with_reducible apply keeps_actCapture; assumption) | (with_reducible apply keeps_actOvrClr; assumption)
        | (with_reducible apply keeps_actAlarmArm; assumption) | (with_reducible apply keeps_actAlarmDisarm; assumption)
        | (with_reducible apply keeps_actImgArm; assumption) | (with_reducible apply keeps_actImgDisarm; assumption)
        | (with_reducible apply keeps_actImgDiscard; assumption) | (with_reducible apply keeps_actDeactivate; assumption)
        | (with_reducible apply keeps_actAccept; assumption) | (with_reducible apply keeps_imgLoad; assumption)
        | (with_reducible apply keeps_slotOpen; assumption) | (with_reducible apply keeps_slotClose; assumption)
        | (with_reducible apply keeps_slotVerify; assumption) | (with_reducible apply keeps_actPeakClr; assumption)
        | (with_reducible apply keeps_actEngCntClr; assumption) | (with_reducible apply keeps_actSwapArm; assumption)
        | (with_reducible apply keeps_actSwapDisarm; assumption) | (with_reducible apply keeps_actSwapRevert; assumption)
        | (with_reducible apply keeps_actLatchArm; assumption) | (with_reducible apply keeps_actHoldClr; assumption)
        | (with_reducible apply keeps_actPfirLoad; assumption) | (with_reducible apply keeps_actRecRun; assumption)
        | (with_reducible apply keeps_msgOp; assumption) | (with_reducible apply keeps_actCommit; assumption)
        | (with_reducible apply keeps_actTmReq; assumption) | (with_reducible apply keeps_actReroll; assumption)
        | (with_reducible apply keeps_actRingLeave; assumption) | (with_reducible apply keeps_actRingSleep; assumption)
        | (with_reducible apply keeps_actHostWake; assumption) | (with_reducible apply keeps_actSnap; assumption)
        | (with_reducible apply keeps_actOutStart; assumption) | (with_reducible apply keeps_actOutStop; assumption)
        | (with_reducible apply keeps_actAuxSync; assumption) | (with_reducible apply keeps_actAuxFlush; assumption)
        | (with_reducible apply keeps_actAuxMode; assumption) | (with_reducible apply keeps_auxQueueWrite; assumption)
        | (with_reducible apply keeps_phaseStepWrite; assumption) | (with_reducible apply keeps_swApply; assumption)
        | (with_reducible apply keeps_actChArm; assumption) | (with_reducible apply keeps_actChRelease; assumption)
        | (with_reducible apply keeps_actChMute; assumption) | (with_reducible apply keeps_actChDisarm; assumption)
        | (with_reducible apply keeps_actDiagStart; assumption) | (with_reducible apply keeps_actEvict; assumption)
        | (with_reducible apply keeps_actFree; assumption) | (with_reducible apply keeps_actAlloc; assumption)
        | (with_reducible apply keeps_actHoldRelease; assumption) | (with_reducible apply keeps_actHold; assumption)
        | (with_reducible apply keeps_actSemRel; assumption) | (with_reducible apply keeps_actInjArm; assumption)
        | (with_reducible apply keeps_actDomSleep; assumption) | (with_reducible apply keeps_actCores; assumption)
        | (with_reducible apply keeps_actSemBreak; assumption)
        | (with_reducible apply keeps_plainAct; assumption; intros; (try dsimp only); with_reducible apply keeps_latchCancel; assumption)
        | (with_reducible apply keeps_plainAct; assumption; intros; (try dsimp only); with_reducible apply keeps_inputWake; assumption)
        | (with_reducible apply keeps_plainAct; assumption; intros; (try dsimp only); with_reducible apply keeps_slotAppend; assumption)
        | (with_reducible apply keeps_plainAct; assumption; intros; (try dsimp only); with_reducible apply keeps_msgAppend; assumption)
        | (with_reducible apply keeps_plainAct; assumption; intros; (try dsimp only); with_reducible apply keeps_actRingCntClr; assumption)
        | (with_reducible apply keeps_plainAct; assumption; intros; (try dsimp only); with_reducible apply keeps_actAgeClr; assumption)
        | (with_reducible apply keeps_plainAct; assumption; intros; (try dsimp only); with_reducible apply keeps_adcReset; assumption)
        | (with_reducible apply keeps_plainAct; assumption; intros; (try dsimp only); with_reducible apply keeps_actAnaCntClr; assumption)
        | (with_reducible apply keeps_plainAct; assumption; intros; (try dsimp only); with_reducible apply keeps_actAuxCntClr; assumption)
        | (with_reducible apply keeps_plainAct; assumption; intros; (try dsimp only); with_reducible apply keeps_actPwrCntClr; assumption)
        | (with_reducible apply keeps_plainAct; assumption; intros; (try dsimp only); with_reducible apply keeps_actBstCntClr; assumption)
        | (with_reducible apply keeps_plainAct; assumption; intros; (try dsimp only); with_reducible apply keeps_actDiagAbort; assumption)
        | (with_reducible apply keeps_plainAct; assumption; intros; (try dsimp only); with_reducible apply keeps_actFltClear; assumption)
        | (refine keeps_ite1 ?_ ?_; assumption; refine keeps_pair ?_; with_reducible apply keeps_State_recFreeze; assumption)

theorem keeps_regWrite {s₀ : State} {s : State} (r : RegRow) (i : Nat) (j : Nat) (t : Nat) (p : Path) (v : Nat) (m : Nat) (hk : Keeps s₀ s) :
    Keeps s₀ (regWrite r i j t p v m s).1 := by
  unfold regWrite
  extract_lets +onlyGivenNames v1
  clear_value v1
  extract_lets +onlyGivenNames v2
  clear_value v2
  extract_lets +onlyGivenNames v3
  clear_value v3
  extract_lets +onlyGivenNames v4
  have hv4 : Keeps s₀ v4 := by
    unfold v4
    refine keeps_ite ?_ ?_
    · assumption
    · with_reducible apply keeps_State_setWord
      assumption
  clear_value v4
  extract_lets +onlyGivenNames v5
  clear_value v5
  extract_lets +onlyGivenNames v6
  clear_value v6
  extract_lets +onlyGivenNames v7
  clear_value v7
  split
  · rename_i x8 x9 x10 e11
    have hx12 := keeps_of_eq (s₀ := s₀) (by
      refine keeps_ite1 ?_ ?_
      · refine keeps_pair ?_
        assumption
      · with_reducible apply keeps_regRw
        assumption
      ) e11
    with_reducible apply keeps_runActs
    · assumption
    · exact keepAll_waActs _ _ _ _ _
theorem keeps_pwrRun {s₀ : State} {s : State} (q : PwrReq) (hk : Keeps s₀ s) :
    Keeps s₀ (pwrRun q s).1 := by
  unfold pwrRun
  split
  · rename_i x1 e2
    refine keeps_pair ?_
    assumption
  · rename_i x3 x4 x5 x6 e7
    refine keeps_ite1 ?_ ?_
    · split
      · rename_i x8 x9 x10 e11
        have hx12 := keeps_of_eq (s₀ := s₀) (by
          with_reducible apply keeps_regWrite
          assumption
          ) e11
        refine keeps_pair ?_
        assumption
    · refine keeps_pair ?_
      assumption
theorem keeps_State_freeWord {s₀ : State} {s : State} (k : Nat) (n : Nat) (hk : Keeps s₀ s) :
    Keeps s₀ (State.freeWord s k n).1 := by
  unfold State.freeWord
  refine keeps_pair ?_
  with_reducible apply keeps_State_fresh
  assumption
theorem keeps_stoneAccess {s₀ : State} {s : State} (p : Path) (t : Nat) (wr : Bool) (k : Nat) (n : Nat) (v : Nat) (hk : Keeps s₀ s) :
    Keeps s₀ (stoneAccess p t wr k n v s).1 := by
  unfold stoneAccess
  extract_lets +onlyGivenNames v1
  have hv1 : ∀ a1, Keeps s₀ a1 → Keeps s₀ (v1 a1).1 := by
    unfold v1
    intro u2 h3
    refine keeps_pair ?_
    with_reducible apply keeps_State_stoneWrite
    assumption
  clear_value v1
  extract_lets +onlyGivenNames v4
  have hv4 : ∀ a1, Keeps s₀ a1 → Keeps s₀ (v4 a1).1 := by
    unfold v4
    intro u5 h6
    split
    · rename_i x7 x8 x9 e10
      have hx11 := keeps_of_eq (s₀ := s₀) (by
        with_reducible apply keeps_State_eccRead
        assumption
        ) e10
      refine keeps_ite1 ?_ ?_
      · refine keeps_pair ?_
        assumption
      · refine keeps_pair ?_
        with_reducible apply keeps_State_fresh
        assumption
  clear_value v4
  split
  · rename_i x12 e13
    refine keeps_ite1 ?_ ?_
    · refine keeps_pair ?_
      assumption
    · refine keeps_ite1 ?_ ?_
      · with_reducible apply hv1
        assumption
      · with_reducible apply hv4
        assumption
  · rename_i x14 x15 e16
    refine keeps_ite1 ?_ ?_
    · refine keeps_ite1 ?_ ?_
      · with_reducible apply hv1
        assumption
      · refine keeps_pair ?_
        assumption
    · refine keeps_ite1 ?_ ?_
      · refine keeps_pair ?_
        assumption
      · refine keeps_ite1 ?_ ?_
        · split
          · rename_i x17 x18 x19 e20
            have hx21 := keeps_of_eq (s₀ := s₀) (by
              with_reducible apply keeps_State_eccRead
              assumption
              ) e20
            refine keeps_ite1 ?_ ?_
            · with_reducible apply keeps_State_freeWord
              assumption
            · refine keeps_pair ?_
              with_reducible apply keeps_State_fresh
              assumption
        · with_reducible apply hv4
          assumption
theorem keeps_dramAccess {s₀ : State} {s : State} (t : Nat) (wr : Bool) (a : Nat) (n : Nat) (v : Nat) (hk : Keeps s₀ s) :
    Keeps s₀ (dramAccess t wr a n v s).1 := by
  unfold dramAccess
  split
  · rename_i x1 e2
    refine keeps_pair ?_
    assumption
  · rename_i x3 x4 e5
    refine keeps_ite1 ?_ ?_
    · refine keeps_pair ?_
      with_reducible apply keeps_State_dramWrite
      assumption
    · refine keeps_ite1 ?_ ?_
      · with_reducible apply keeps_State_freeWord
        assumption
      · split
        · rename_i x6 x7 x8 e9
          have hx10 := keeps_of_eq (s₀ := s₀) (by
            with_reducible apply keeps_State_eccRead
            assumption
            ) e9
          refine keeps_ite1 ?_ ?_
          · refine keeps_pair ?_
            assumption
          · refine keeps_pair ?_
            assumption
theorem keeps_pwrSend {s₀ : State} {s : State} (wr : Bool) (a : Nat) (v : Word) (hk : Keeps s₀ s) :
    Keeps s₀ (pwrSend wr a v s).1 := by
  unfold pwrSend
  refine keeps_ite1 ?_ ?_
  · refine keeps_pair ?_
    assumption
  · refine keeps_pair ?_
    with_reducible refine keeps_mk ?_
    assumption
theorem keeps_regAccess {s₀ : State} {s : State} (p : Path) (t : Nat) (wr : Bool) (a : Nat) (n : Nat) (v : Nat) (hk : Keeps s₀ s) :
    Keeps s₀ (regAccess p t wr a n v s).1 := by
  unfold regAccess
  split
  · rename_i x1 e2
    refine keeps_ite1 ?_ ?_
    · with_reducible apply keeps_pwrSend
      assumption
    · refine keeps_pair ?_
      assumption
  · rename_i x3 x4 x5 x6 e7
    extract_lets +onlyGivenNames v8
    clear_value v8
    refine keeps_ite1 ?_ ?_
    · refine keeps_ite1 ?_ ?_
      · refine keeps_pair ?_
        assumption
      · refine keeps_ite1 ?_ ?_
        · with_reducible apply keeps_pwrSend
          assumption
        · extract_lets +onlyGivenNames v9
          have hv9 : Keeps s₀ v9.1 := by
            unfold v9
            with_reducible apply keeps_regWrite
            assumption
          clear_value v9
          refine keeps_pair ?_
          assumption
    · refine keeps_ite1 ?_ ?_
      · refine keeps_pair ?_
        assumption
      · refine keeps_ite1 ?_ ?_
        · with_reducible apply keeps_pwrSend
          assumption
        · split
          · rename_i x10 x11 x12 x13 e14
            have hx15 := keeps_of_eq (s₀ := s₀) (by
              with_reducible apply keeps_regRead
              assumption
              ) e14
            refine keeps_pair ?_
            assumption
          · rename_i x16 x17
            with_reducible apply keeps_regRead
            assumption
theorem keeps_mixAccess {s₀ : State} {s : State} (t : Nat) (wr : Bool) (a : Nat) (n : Nat) (v : Nat) (hk : Keeps s₀ s) :
    Keeps s₀ (mixAccess t wr a n v s).1 := by
  unfold mixAccess
  extract_lets +onlyGivenNames v1
  clear_value v1
  extract_lets +onlyGivenNames v2
  clear_value v2
  refine keeps_ite1 ?_ ?_
  · refine keeps_ite1 ?_ ?_
    · extract_lets +onlyGivenNames v3
      have hv3 : Keeps s₀ v3.1 := by
        unfold v3
        with_reducible apply keeps_paramWrite
        assumption
      clear_value v3
      refine keeps_pair ?_
      assumption
    · refine keeps_pair ?_
      assumption
  · split
    · rename_i x4 x5 x6 x7 e8
      have hx9 := keeps_of_eq (s₀ := s₀) (by
        refine keeps_ite1 ?_ ?_
        · with_reducible apply keeps_meterRead
          assumption
        · with_reducible apply keeps_paramRead
          assumption
        ) e8
      refine keeps_pair ?_
      assumption
theorem keeps_access {s₀ : State} {s : State} (p : Path) (t : Nat) (wr : Bool) (a : Nat) (n : Nat) (v : Nat) (hk : Keeps s₀ s) :
    Keeps s₀ (access p t wr a n v s).1 := by
  unfold access
  refine keeps_ite1 ?_ ?_
  · refine keeps_pair ?_
    assumption
  · split
    · rename_i x1 x2 e3
      refine keeps_pair ?_
      with_reducible apply keeps_domDemand
      assumption
    · rename_i x4 e5
      refine keeps_ite1 ?_ ?_
      · refine keeps_pair ?_
        assumption
      · refine keeps_ite1 ?_ ?_
        · refine keeps_pair ?_
          assumption
        · refine keeps_ite1 ?_ ?_
          · with_reducible apply keeps_stoneAccess
            assumption
          · refine keeps_ite1 ?_ ?_
            · with_reducible apply keeps_dramAccess
              assumption
            · refine keeps_ite1 ?_ ?_
              · with_reducible apply keeps_mixAccess
                assumption
              · with_reducible apply keeps_regAccess
                assumption
theorem keeps_spiSend {s₀ : State} {s : State} (body : List Byte) (hk : Keeps s₀ s) :
    Keeps s₀ (spiSend body s) := by
  unfold spiSend
  split
  · rename_i x1 x2 x3 e4
    have hx5 := keeps_of_eq (s₀ := s₀) (by
      with_reducible apply keeps_State_injFrame
      assumption
      ) e4
    extract_lets +onlyGivenNames v6
    clear_value v6
    with_reducible refine keeps_mk ?_
    assumption
theorem keeps_spiAnswer {s₀ : State} {s : State} (st : Nat) (done : Nat) (data : List Byte) (hk : Keeps s₀ s) :
    Keeps s₀ (spiAnswer st done data s) := by
  unfold spiAnswer
  extract_lets +onlyGivenNames v1
  clear_value v1
  with_reducible apply keeps_spiSend
  with_reducible refine keeps_mk ?_
  assumption
theorem keeps_flarySend {s₀ : State} {s : State} (branch : Bool) (h : FlaryHdr) (auth : List Byte) (body : List Byte) (hk : Keeps s₀ s) :
    Keeps s₀ (flarySend branch h auth body s) := by
  unfold flarySend
  refine keeps_ite ?_ ?_
  · with_reducible apply keeps_State_sendOn
    assumption
  · refine keeps_foldl _ _ ?_ ?_
    · assumption
    · intro u1 u2 h3
      refine keeps_ite ?_ ?_
      · with_reducible apply keeps_State_sendOn
        assumption
      · assumption
theorem keeps_flaryAnswer {s₀ : State} {s : State} (h : FlaryHdr) (branch : Bool) (st : Nat) (done : Nat) (body : List Byte) (hk : Keeps s₀ s) :
    Keeps s₀ (flaryAnswer h branch st done body s) := by
  unfold flaryAnswer
  extract_lets +onlyGivenNames v1
  clear_value v1
  extract_lets +onlyGivenNames v2
  clear_value v2
  with_reducible apply keeps_flarySend
  assumption
theorem keeps_flaryKeep {s₀ : State} {s : State} (h : FlaryHdr) (st : Nat) (done : Nat) (body : List Byte) (hk : Keeps s₀ s) :
    Keeps s₀ (flaryKeep h st done body s) := by
  unfold flaryKeep
  with_reducible refine keeps_mk ?_
  assumption
theorem keeps_finish {s₀ : State} {s : State} (q : Request) (st : Nat) (v : Word) (hk : Keeps s₀ s) :
    Keeps s₀ (finish q st v s) := by
  unfold finish
  split
  · rename_i x1 e2
    with_reducible refine keeps_mk ?_
    assumption
  · rename_i x3 e4
    with_reducible apply keeps_spiAnswer
    assumption
  · rename_i x5 x6 x7 e8
    extract_lets +onlyGivenNames v9
    clear_value v9
    with_reducible apply keeps_flaryKeep
    with_reducible apply keeps_flaryAnswer
    assumption
  · rename_i x10 x11 x12 e13
    extract_lets +onlyGivenNames v14
    clear_value v14
    with_reducible apply keeps_flaryKeep
    with_reducible apply keeps_flaryAnswer
    assumption
  · rename_i x15 e16
    with_reducible refine keeps_mk ?_
    assumption
theorem keeps_stall {s₀ : State} {s : State} (q : Request) (w : Wait) (hk : Keeps s₀ s) :
    Keeps s₀ (stall q w s) := by
  unfold stall
  with_reducible refine keeps_mk ?_
  assumption
theorem keeps_runReq {s₀ : State} {s : State} (x0_ : Nat) (x1_ : Word) (x2_ : Request) (hk : Keeps s₀ s) :
    Keeps s₀ (runReq x0_ x1_ x2_ s) := by
  induction x0_ generalizing s x1_ x2_ with
  | zero => exact keeps_finish _ _ _ hk
  | succ n ih =>
    unfold runReq
    split
    · rename_i x1 x2 x3 x4 e5
      have hx6 := keeps_of_eq (s₀ := s₀) (by
        with_reducible apply keeps_access
        assumption
        ) e5
      refine keeps_ite ?_ ?_
      · with_reducible apply ih
        assumption
      · with_reducible apply keeps_finish
        assumption
    · rename_i x7 x8 x9 e10
      have hx11 := keeps_of_eq (s₀ := s₀) (by
        with_reducible apply keeps_access
        assumption
        ) e10
      with_reducible apply keeps_stall
      assumption
theorem keeps_feed {s₀ : State} {s : State} (q : Request) (st : Nat) (v : Word) (hk : Keeps s₀ s) :
    Keeps s₀ (feed q st v s) := by
  unfold feed
  refine keeps_ite ?_ ?_
  · with_reducible apply keeps_runReq
    assumption
  · with_reducible apply keeps_finish
    assumption
theorem keeps_resumeN {s₀ : State} {s : State} (x0_ : Nat) (hk : Keeps s₀ s) :
    Keeps s₀ (resumeN x0_ s) := by
  induction x0_ generalizing s with
  | zero => exact hk
  | succ n ih =>
    unfold resumeN
    split
    · rename_i x1 e2
      assumption
    · rename_i x3 x4 x5 e6
      with_reducible apply ih
      with_reducible apply keeps_runReq
      with_reducible refine keeps_mk ?_
      assumption
theorem keeps_resume {s₀ : State} {s : State} (hk : Keeps s₀ s) :
    Keeps s₀ (resume s) := by
  unfold resume
  with_reducible apply keeps_resumeN
  assumption
theorem keeps_deliverOne {s₀ : State} {s : State} (r : Nat × Word) (hk : Keeps s₀ s) :
    Keeps s₀ (deliverOne s r) := by
  unfold deliverOne
  split
  · rename_i x1 e2
    assumption
  · rename_i x3 x4 x5 e6
    with_reducible apply keeps_feed
    with_reducible refine keeps_mk ?_
    assumption
theorem keeps_deliver {s₀ : State} {s : State} (rs : List (Nat × Word)) (hk : Keeps s₀ s) :
    Keeps s₀ (deliver rs s) := by
  unfold deliver
  refine keeps_foldl _ _ ?_ ?_
  · assumption
  · intro u1 u2 h3
    with_reducible apply keeps_deliverOne
    assumption
theorem keeps_barrierFail {s₀ : State} {s : State} (hk : Keeps s₀ s) :
    Keeps s₀ (barrierFail s) := by
  unfold barrierFail
  refine keeps_ite ?_ ?_
  · assumption
  · extract_lets +onlyGivenNames v1
    clear_value v1
    extract_lets +onlyGivenNames v2
    clear_value v2
    with_reducible apply keeps_deliver
    with_reducible refine keeps_mk ?_
    assumption
theorem keeps_single {s₀ : State} {s : State} (x : Access) (wr : Bool) (a : Nat) (n : Nat) (v : Nat) (hk : Keeps s₀ s) :
    Keeps s₀ (single x wr a n v s) := by
  unfold single
  refine keeps_ite ?_ ?_
  · assumption
  · with_reducible apply keeps_resume
    with_reducible apply keeps_runReq
    assumption
theorem keeps_hostRead {s₀ : State} {s : State} (x : Access) (a : Nat) (hk : Keeps s₀ s) :
    Keeps s₀ (hostRead x a s) := by
  unfold hostRead
  with_reducible apply keeps_single
  assumption
theorem keeps_hostWrite {s₀ : State} {s : State} (x : Access) (a : Nat) (v : Nat) (hk : Keeps s₀ s) :
    Keeps s₀ (hostWrite x a v s) := by
  unfold hostWrite
  with_reducible apply keeps_single
  assumption
theorem keeps_hostSet {s₀ : State} {s : State} (x : Access) (f : Fld) (i : Nat) (fs : List (Nat × Nat × Nat)) (hk : Keeps s₀ s) :
    Keeps s₀ (hostSet x f i fs s) := by
  unfold hostSet
  extract_lets +onlyGivenNames v1
  clear_value v1
  extract_lets +onlyGivenNames v2
  clear_value v2
  extract_lets +onlyGivenNames v3
  clear_value v3
  extract_lets +onlyGivenNames v4
  clear_value v4
  with_reducible apply keeps_hostWrite
  assumption
theorem keeps_core1 {s₀ : State} {s : State} (w : Waiting) (f : State → State) (hk : Keeps s₀ s) (h_f : ∀ a0, Keeps s₀ a0 → Keeps s₀ (f a0)) :
    Keeps s₀ (core1 w f s) := by
  unfold core1
  refine keeps_ite ?_ ?_
  · with_reducible apply h_f
    assumption
  · refine keeps_ite ?_ ?_
    · with_reducible refine keeps_mk ?_
      assumption
    · assumption
theorem keeps_spiRefuse {s₀ : State} {s : State} (st : Nat) (hk : Keeps s₀ s) :
    Keeps s₀ (spiRefuse st s) := by
  unfold spiRefuse
  with_reducible apply keeps_spiSend
  assumption
theorem keeps_spiAccess {s₀ : State} {s : State} (write : Bool) (fixed : Bool) (count : Nat) (width : Nat) (addr : Nat) (data : List Byte) (hk : Keeps s₀ s) :
    Keeps s₀ (spiAccess write fixed count width addr data s) := by
  unfold spiAccess
  extract_lets +onlyGivenNames v1
  clear_value v1
  refine keeps_ite ?_ ?_
  · with_reducible apply keeps_spiRefuse
    assumption
  · with_reducible apply keeps_resume
    with_reducible apply keeps_runReq
    assumption
theorem keeps_spiStatus {s₀ : State} {s : State} (hk : Keeps s₀ s) :
    Keeps s₀ (spiStatus s) := by
  unfold spiStatus
  with_reducible apply keeps_spiAnswer
  assumption
theorem keeps_spiRepeat {s₀ : State} {s : State} (hk : Keeps s₀ s) :
    Keeps s₀ (spiRepeat s) := by
  unfold spiRepeat
  refine keeps_ite ?_ ?_
  · with_reducible apply keeps_spiRefuse
    assumption
  · with_reducible apply keeps_spiSend
    assumption
theorem keeps_spiServe {s₀ : State} {s : State} (op : Nat) (count : Nat) (width : Nat) (addr : Nat) (data : List Byte) (crcOk : Bool) (hk : Keeps s₀ s) :
    Keeps s₀ (spiServe op count width addr data crcOk s) := by
  unfold spiServe
  refine keeps_ite ?_ ?_
  · with_reducible apply keeps_spiRefuse
    assumption
  · split
    · rename_i x1
      with_reducible apply keeps_spiStatus
      assumption
    · rename_i x2
      with_reducible apply keeps_spiRepeat
      assumption
    · rename_i x3 x4 x5
      with_reducible apply keeps_spiAccess
      assumption
theorem keeps_spiFrame {s₀ : State} {s : State} (op : Nat) (count : Nat) (width : Nat) (addr : Nat) (data : List Byte) (crcOk : Bool) (hk : Keeps s₀ s) :
    Keeps s₀ (spiFrame op count width addr data crcOk s) := by
  unfold spiFrame
  refine keeps_ite ?_ ?_
  · assumption
  · with_reducible apply keeps_core1
    · assumption
    · intro u1 h2
      with_reducible apply keeps_spiServe
      assumption
theorem keeps_flaryPass {s₀ : State} {s : State} (r : FlaryReq) (hk : Keeps s₀ s) :
    Keeps s₀ (flaryPass r s) := by
  unfold flaryPass
  extract_lets +onlyGivenNames v1
  clear_value v1
  refine keeps_ite ?_ ?_
  · assumption
  · extract_lets +onlyGivenNames v2
    clear_value v2
    extract_lets +onlyGivenNames v3
    clear_value v3
    with_reducible apply keeps_State_sendOn
    assumption
theorem keeps_flaryRelay {s₀ : State} {s : State} (r : FlaryReq) (hk : Keeps s₀ s) :
    Keeps s₀ (flaryRelay r s) := by
  unfold flaryRelay
  refine keeps_foldl _ _ ?_ ?_
  · assumption
  · intro u1 u2 h3
    refine keeps_ite ?_ ?_
    · with_reducible apply keeps_State_sendOn
      assumption
    · assumption
theorem keeps_flaryTake {s₀ : State} {s : State} (r : FlaryReq) (act : State → State) (hk : Keeps s₀ s) (h_act : ∀ a0, Keeps s₀ a0 → Keeps s₀ (act a0)) :
    Keeps s₀ (flaryTake r act s) := by
  unfold flaryTake
  extract_lets +onlyGivenNames v1
  extract_lets +onlyGivenNames v2
  have hv2 : Keeps s₀ v2 := by
    unfold v2
    refine keeps_ite ?_ ?_
    · with_reducible apply h_act
      assumption
    · assumption
  clear_value v2
  refine keeps_ite ?_ ?_
  · with_reducible apply keeps_flaryRelay
    assumption
  · assumption
theorem keeps_flaryArrive {s₀ : State} {s : State} (r : FlaryReq) (act : State → State) (hk : Keeps s₀ s) (h_act : ∀ a0, Keeps s₀ a0 → Keeps s₀ (act a0)) :
    Keeps s₀ (flaryArrive r act s) := by
  unfold flaryArrive
  refine keeps_ite ?_ ?_
  · assumption
  · extract_lets +onlyGivenNames v1
    have hv1 : Keeps s₀ v1 := by
      unfold v1
      with_reducible apply keeps_State_rxCount
      with_reducible apply keeps_State_event
      assumption
    clear_value v1
    extract_lets +onlyGivenNames v2
    extract_lets +onlyGivenNames v3
    refine keeps_ite ?_ ?_
    · refine keeps_ite ?_ ?_
      · with_reducible apply keeps_core1
        · assumption
        · intro u4 h5
          with_reducible apply keeps_flaryTake
          · assumption
          · intro u6 h7
            with_reducible apply h_act
            assumption
      · assumption
    · refine keeps_ite ?_ ?_
      · assumption
      · refine keeps_ite ?_ ?_
        · assumption
        · extract_lets +onlyGivenNames v8
          have hv8 : Keeps s₀ v8 := by
            unfold v8
            refine keeps_ite ?_ ?_
            · assumption
            · with_reducible apply keeps_flaryPass
              assumption
          clear_value v8
          refine keeps_ite ?_ ?_
          · with_reducible apply keeps_core1
            · assumption
            · intro u9 h10
              with_reducible apply keeps_flaryTake
              · assumption
              · intro u11 h12
                with_reducible apply h_act
                assumption
          · assumption
theorem keeps_flaryNote {s₀ : State} {s : State} (r : FlaryReq) (hk : Keeps s₀ s) :
    Keeps s₀ (flaryNote r s) := by
  unfold flaryNote
  extract_lets +onlyGivenNames v1
  clear_value v1
  extract_lets +onlyGivenNames v2
  clear_value v2
  with_reducible refine keeps_mk ?_
  assumption
theorem keeps_flaryAuthFail {s₀ : State} {s : State} (r : FlaryReq) (hk : Keeps s₀ s) :
    Keeps s₀ (flaryAuthFail r s) := by
  unfold flaryAuthFail
  extract_lets +onlyGivenNames v1
  have hv1 : Keeps s₀ v1 := by
    unfold v1
    with_reducible apply keeps_State_raise
    with_reducible apply keeps_State_int
    with_reducible apply keeps_State_inc
    assumption
  clear_value v1
  with_reducible apply keeps_flaryAnswer
  assumption
theorem keeps_flaryCheck {s₀ : State} {s : State} (r : FlaryReq) (act : State → State) (hk : Keeps s₀ s) (h_act : ∀ a0, Keeps s₀ a0 → Keeps s₀ (act a0)) :
    Keeps s₀ (flaryCheck r act s) := by
  unfold flaryCheck
  refine keeps_ite ?_ ?_
  · with_reducible apply keeps_flaryAuthFail
    assumption
  · split
    · rename_i x1 e2
      with_reducible apply h_act
      with_reducible apply keeps_flaryNote
      assumption
    · rename_i x3 x4 e5
      refine keeps_ite ?_ ?_
      · with_reducible apply h_act
        with_reducible apply keeps_flaryNote
        assumption
      · refine keeps_ite ?_ ?_
        · with_reducible apply keeps_flaryAnswer
          with_reducible apply keeps_State_inc
          assumption
        · refine keeps_ite ?_ ?_
          · assumption
          · with_reducible apply keeps_flaryAnswer
            assumption
theorem keeps_flaryReply {s₀ : State} {s : State} (r : FlaryReq) (st : Nat) (body : List Byte) (hk : Keeps s₀ s) :
    Keeps s₀ (flaryReply r st body s) := by
  unfold flaryReply
  with_reducible apply keeps_flaryKeep
  with_reducible apply keeps_flaryAnswer
  assumption
theorem keeps_flaryDiscover {s₀ : State} {s : State} (r : FlaryReq) (hk : Keeps s₀ s) :
    Keeps s₀ (flaryDiscover r s) := by
  unfold flaryDiscover
  refine keeps_ite ?_ ?_
  · with_reducible apply keeps_flaryAnswer
    assumption
  · with_reducible apply keeps_flaryAnswer
    assumption
theorem keeps_flaryAccess {s₀ : State} {s : State} (write : Bool) (fixed : Bool) (r : FlaryReq) (hk : Keeps s₀ s) :
    Keeps s₀ (flaryAccess write fixed r s) := by
  unfold flaryAccess
  extract_lets +onlyGivenNames v1
  clear_value v1
  extract_lets +onlyGivenNames v2
  clear_value v2
  extract_lets +onlyGivenNames v3
  clear_value v3
  extract_lets +onlyGivenNames v4
  clear_value v4
  extract_lets +onlyGivenNames v5
  clear_value v5
  refine keeps_ite ?_ ?_
  · with_reducible apply keeps_flaryReply
    assumption
  · with_reducible apply keeps_resume
    with_reducible apply keeps_runReq
    assumption
theorem keeps_flaryRight {s₀ : State} {s : State} (k : Nat) (r : FlaryReq) (act : State → State) (hk : Keeps s₀ s) (h_act : ∀ a0, Keeps s₀ a0 → Keeps s₀ (act a0)) :
    Keeps s₀ (flaryRight k r act s) := by
  unfold flaryRight
  refine keeps_ite ?_ ?_
  · with_reducible apply h_act
    assumption
  · with_reducible apply keeps_flaryReply
    assumption
theorem keeps_eventSub {s₀ : State} {s : State} (r : FlaryReq) (hk : Keeps s₀ s) :
    Keeps s₀ (eventSub r s) := by
  unfold eventSub
  refine keeps_ite ?_ ?_
  · with_reducible apply keeps_flaryReply
    assumption
  · extract_lets +onlyGivenNames v1
    clear_value v1
    extract_lets +onlyGivenNames v2
    clear_value v2
    extract_lets +onlyGivenNames v3
    clear_value v3
    extract_lets +onlyGivenNames v4
    clear_value v4
    extract_lets +onlyGivenNames v5
    clear_value v5
    extract_lets +onlyGivenNames v6
    clear_value v6
    with_reducible apply keeps_flaryReply
    with_reducible refine keeps_mk ?_
    assumption
theorem keeps_eventSend {s₀ : State} {s : State} (k : Nat) (hk : Keeps s₀ s) :
    Keeps s₀ (eventSend k s) := by
  unfold eventSend
  split
  · rename_i x1 e2
    assumption
  · rename_i x3 x4 e5
    refine keeps_ite ?_ ?_
    · assumption
    · extract_lets +onlyGivenNames v6
      clear_value v6
      extract_lets +onlyGivenNames v7
      clear_value v7
      extract_lets +onlyGivenNames v8
      clear_value v8
      with_reducible apply keeps_flarySend
      extract_lets +onlyGivenNames v9
      have hv9 : Keeps s₀ v9 := by
        unfold v9
        with_reducible apply keeps_State_fresh
        assumption
      clear_value v9
      with_reducible refine keeps_mk ?_
      assumption
theorem keeps_subLapse {s₀ : State} {s : State} (k : Nat) (hk : Keeps s₀ s) :
    Keeps s₀ (subLapse k s) := by
  unfold subLapse
  with_reducible refine keeps_mk ?_
  assumption
theorem keeps_fwXfer {s₀ : State} {s : State} (act : Nat) (c : Nat) (off : Nat) (data : List Byte) (hk : Keeps s₀ s) :
    Keeps s₀ (fwXfer act c off data s).1 := by
  unfold fwXfer
  extract_lets +onlyGivenNames v1
  clear_value v1
  extract_lets +onlyGivenNames v2
  have hv2 : ∀ a1 a2, Keeps s₀ a2 → Keeps s₀ (v2 a1 a2) := by
    unfold v2
    intro u3 u4 h5
    with_reducible refine keeps_mk ?_
    assumption
  clear_value v2
  refine keeps_ite1 ?_ ?_
  · refine keeps_pair ?_
    assumption
  · split
    · rename_i x6
      refine keeps_pair ?_
      with_reducible apply hv2
      assumption
    · rename_i x7
      refine keeps_ite1 ?_ ?_
      · refine keeps_pair ?_
        assumption
      · refine keeps_ite1 ?_ ?_
        · refine keeps_pair ?_
          assumption
        · refine keeps_pair ?_
          with_reducible apply hv2
          assumption
    · rename_i x8
      refine keeps_ite1 ?_ ?_
      · refine keeps_pair ?_
        with_reducible apply hv2
        assumption
      · refine keeps_pair ?_
        assumption
    · rename_i x9 x10 x11 x12
      refine keeps_ite1 ?_ ?_
      · refine keeps_pair ?_
        assumption
      · refine keeps_pair ?_
        with_reducible apply hv2
        assumption
theorem keeps_slotXfer {s₀ : State} {s : State} (r : FlaryReq) (hk : Keeps s₀ s) :
    Keeps s₀ (slotXfer r s) := by
  unfold slotXfer
  extract_lets +onlyGivenNames v1
  clear_value v1
  extract_lets +onlyGivenNames v2
  clear_value v2
  extract_lets +onlyGivenNames v3
  clear_value v3
  extract_lets +onlyGivenNames v4
  clear_value v4
  extract_lets +onlyGivenNames v5
  clear_value v5
  refine keeps_ite ?_ ?_
  · with_reducible apply keeps_flaryReply
    assumption
  · refine keeps_ite ?_ ?_
    · with_reducible apply keeps_flaryReply
      assumption
    · refine keeps_ite ?_ ?_
      · with_reducible apply keeps_flaryReply
        assumption
      · split
        · rename_i x6 x7 x8 e9
          have hx10 := keeps_of_eq (s₀ := s₀) (by
            refine keeps_ite1 ?_ ?_
            · with_reducible apply keeps_fwXfer
              assumption
            · split
              · rename_i x11
                with_reducible apply keeps_slotOpen
                assumption
              · rename_i x12
                refine keeps_ite1 ?_ ?_
                · refine keeps_pair ?_
                  assumption
                · refine keeps_pair ?_
                  with_reducible apply keeps_slotAppend
                  assumption
              · rename_i x13
                with_reducible apply keeps_slotClose
                assumption
              · rename_i x14 x15 x16 x17
                with_reducible apply keeps_slotVerify
                assumption
            ) e9
          extract_lets +onlyGivenNames v18
          clear_value v18
          with_reducible apply keeps_flaryReply
          with_reducible apply keeps_State_fresh
          assumption
theorem keeps_msgXfer {s₀ : State} {s : State} (r : FlaryReq) (hk : Keeps s₀ s) :
    Keeps s₀ (msgXfer r s) := by
  unfold msgXfer
  extract_lets +onlyGivenNames v1
  clear_value v1
  extract_lets +onlyGivenNames v2
  clear_value v2
  extract_lets +onlyGivenNames v3
  clear_value v3
  extract_lets +onlyGivenNames v4
  clear_value v4
  extract_lets +onlyGivenNames v5
  clear_value v5
  refine keeps_ite ?_ ?_
  · with_reducible apply keeps_flaryReply
    assumption
  · refine keeps_ite ?_ ?_
    · with_reducible apply keeps_flaryReply
      assumption
    · split
      · rename_i x6 x7 x8 e9
        have hx10 := keeps_of_eq (s₀ := s₀) (by
          split
          · rename_i x11
            with_reducible apply keeps_msgOp
            assumption
          · rename_i x12
            refine keeps_ite1 ?_ ?_
            · refine keeps_pair ?_
              assumption
            · refine keeps_pair ?_
              with_reducible apply keeps_msgAppend
              assumption
          · rename_i x13
            with_reducible apply keeps_msgOp
            assumption
          · rename_i x14
            with_reducible apply keeps_msgOp
            assumption
          · rename_i x15 x16 x17 x18 x19
            with_reducible apply keeps_msgOp
            assumption
          ) e9
        with_reducible apply keeps_flaryReply
        assumption
theorem keeps_logRead {s₀ : State} {s : State} (r : FlaryReq) (hk : Keeps s₀ s) :
    Keeps s₀ (logRead r s) := by
  unfold logRead
  extract_lets +onlyGivenNames v1
  clear_value v1
  extract_lets +onlyGivenNames v2
  clear_value v2
  refine keeps_ite ?_ ?_
  · with_reducible apply keeps_flaryReply
    assumption
  · with_reducible apply keeps_flaryReply
    assumption
theorem keeps_telemetry {s₀ : State} {s : State} (r : FlaryReq) (hk : Keeps s₀ s) :
    Keeps s₀ (telemetry r s) := by
  unfold telemetry
  refine keeps_ite ?_ ?_
  · with_reducible apply keeps_flaryReply
    assumption
  · with_reducible apply keeps_resume
    with_reducible apply keeps_runReq
    assumption
theorem keeps_flaryAct {s₀ : State} {s : State} (r : FlaryReq) (hk : Keeps s₀ s) :
    Keeps s₀ (flaryAct r s) := by
  unfold flaryAct
  split
  · rename_i x1 e2
    with_reducible apply keeps_flaryDiscover
    assumption
  · rename_i x3 e4
    with_reducible apply keeps_flaryCheck
    · assumption
    · intro u5 h6
      with_reducible apply keeps_flaryAccess
      assumption
  · rename_i x7 e8
    with_reducible apply keeps_flaryCheck
    · assumption
    · intro u9 h10
      with_reducible apply keeps_flaryAccess
      assumption
  · rename_i x11 e12
    with_reducible apply keeps_flaryCheck
    · assumption
    · intro u13 h14
      with_reducible apply keeps_flaryAccess
      assumption
  · rename_i x15 e16
    with_reducible apply keeps_flaryCheck
    · assumption
    · intro u17 h18
      with_reducible apply keeps_flaryAccess
      assumption
  · rename_i x19 e20
    with_reducible apply keeps_flaryCheck
    · assumption
    · intro u21 h22
      with_reducible apply keeps_flaryRight
      · assumption
      · intro u23 h24
        with_reducible apply keeps_eventSub
        assumption
  · rename_i x25 e26
    with_reducible apply keeps_flaryCheck
    · assumption
    · intro u27 h28
      with_reducible apply keeps_flaryRight
      · assumption
      · intro u29 h30
        with_reducible apply keeps_logRead
        assumption
  · rename_i x31 e32
    with_reducible apply keeps_flaryCheck
    · assumption
    · intro u33 h34
      with_reducible apply keeps_flaryRight
      · assumption
      · intro u35 h36
        with_reducible apply keeps_telemetry
        assumption
  · rename_i x37 x38 x39 x40 x41 x42 x43 x44 x45 x46 e47
    refine keeps_ite ?_ ?_
    · with_reducible apply keeps_flaryCheck
      · assumption
      · intro u48 h49
        with_reducible apply keeps_slotXfer
        assumption
    · with_reducible apply keeps_flaryCheck
      · assumption
      · intro u50 h51
        with_reducible apply keeps_flaryRight
        · assumption
        · intro u52 h53
          with_reducible apply keeps_msgXfer
          assumption
  · rename_i x54 e55
    with_reducible apply keeps_flaryCheck
    · assumption
    · intro u56 h57
      with_reducible apply keeps_flaryReply
      assumption
theorem keeps_flaryRow {s₀ : State} {s : State} (k : Nat) (r : FlaryReq) (hk : Keeps s₀ s) :
    Keeps s₀ (flaryRow k r s) := by
  unfold flaryRow
  split
  · rename_i x1 x2 e3
    refine keeps_ite ?_ ?_
    · with_reducible apply keeps_flaryArrive
      · assumption
      · intro u4 h5
        with_reducible apply keeps_flaryAct
        assumption
    · assumption
  · rename_i x6 e7
    refine keeps_ite ?_ ?_
    · assumption
    · with_reducible apply keeps_flaryArrive
      · assumption
      · intro u8 h9
        with_reducible apply keeps_flaryAct
        assumption
theorem keeps_flaryRelayed {s₀ : State} {s : State} (r : FlaryReq) (hk : Keeps s₀ s) :
    Keeps s₀ (flaryRelayed r s) := by
  unfold flaryRelayed
  with_reducible apply keeps_State_sendOn
  assumption
theorem keeps_flaryResponse {s₀ : State} {s : State} (r : FlaryReq) (hk : Keeps s₀ s) :
    Keeps s₀ (flaryResponse r s) := by
  unfold flaryResponse
  refine keeps_ite ?_ ?_
  · assumption
  · extract_lets +onlyGivenNames v1
    have hv1 : Keeps s₀ v1 := by
      unfold v1
      with_reducible apply keeps_State_rxCount
      with_reducible apply keeps_State_event
      assumption
    clear_value v1
    refine keeps_ite ?_ ?_
    · assumption
    · refine keeps_ite ?_ ?_
      · with_reducible apply keeps_core1
        · assumption
        · intro u2 h3
          with_reducible apply keeps_flaryRelayed
          assumption
      · with_reducible apply keeps_flaryPass
        assumption
theorem keeps_serveOne {s₀ : State} {s : State} (w : Waiting) (hk : Keeps s₀ s) :
    Keeps s₀ (serveOne w s) := by
  unfold serveOne
  split
  · rename_i x1 x2 x3 x4 x5 x6 x7
    with_reducible apply keeps_spiServe
    assumption
  · rename_i x8 x9
    refine keeps_ite ?_ ?_
    · with_reducible apply keeps_flaryRelayed
      assumption
    · with_reducible apply keeps_flaryTake
      · assumption
      · intro u10 h11
        with_reducible apply keeps_flaryAct
        assumption
theorem keeps_serveN {s₀ : State} {s : State} (x0_ : Nat) (hk : Keeps s₀ s) :
    Keeps s₀ (serveN x0_ s) := by
  induction x0_ generalizing s with
  | zero => exact hk
  | succ n ih =>
    unfold serveN
    extract_lets +onlyGivenNames v1
    clear_value v1
    split
    · rename_i x2 e3
      assumption
    · rename_i x4 x5 e6
      with_reducible apply ih
      with_reducible apply keeps_serveOne
      with_reducible refine keeps_mk ?_
      assumption
theorem keeps_served {s₀ : State} {s : State} (before : State) (hk : Keeps s₀ s) :
    Keeps s₀ (served before s) := by
  unfold served
  refine keeps_ite ?_ ?_
  · with_reducible apply keeps_serveN
    assumption
  · assumption
theorem keeps_semTimeout {s₀ : State} {s : State} (n : Nat) (hk : Keeps s₀ s) :
    Keeps s₀ (semTimeout n s) := by
  unfold semTimeout
  split
  · rename_i x1 e2
    assumption
  · rename_i x3 x4 x5 e6
    extract_lets +onlyGivenNames v7
    clear_value v7
    extract_lets +onlyGivenNames v8
    have hv8 : Keeps s₀ v8 := by
      unfold v8
      with_reducible refine keeps_mk ?_
      assumption
    clear_value v8
    with_reducible apply keeps_finish
    with_reducible apply keeps_State_int
    assumption
theorem keeps_leaseExpire {s₀ : State} {s : State} (n : Nat) (hk : Keeps s₀ s) :
    Keeps s₀ (leaseExpire n s) := by
  unfold leaseExpire
  extract_lets +onlyGivenNames v1
  clear_value v1
  refine keeps_ite ?_ ?_
  · with_reducible apply keeps_resume
    with_reducible apply keeps_semBreak
    assumption
  · assumption
theorem keeps_watchdog {s₀ : State} {s : State} (c : Nat) (hk : Keeps s₀ s) :
    Keeps s₀ (watchdog c s) := by
  unfold watchdog
  refine keeps_ite ?_ ?_
  · assumption
  · extract_lets +onlyGivenNames v1
    clear_value v1
    extract_lets +onlyGivenNames v2
    clear_value v2
    extract_lets +onlyGivenNames v3
    have hv3 : Keeps s₀ v3 := by
      unfold v3
      with_reducible refine keeps_mk ?_
      assumption
    clear_value v3
    extract_lets +onlyGivenNames v4
    have hv4 : Keeps s₀ v4 := by
      unfold v4
      with_reducible apply keeps_State_forN
      · assumption
      · intro u5 u6 h7
        refine keeps_ite ?_ ?_
        · with_reducible apply keeps_semBreak
          assumption
        · assumption
    clear_value v4
    extract_lets +onlyGivenNames v8
    have hv8 : Keeps s₀ v8 := by
      unfold v8
      with_reducible apply keeps_State_set
      assumption
    clear_value v8
    with_reducible apply keeps_resume
    with_reducible apply keeps_State_raise
    with_reducible apply keeps_State_event
    assumption
theorem keeps_tapLoad {s₀ : State} {s : State} (code : Nat) (hk : Keeps s₀ s) :
    Keeps s₀ (tapLoad code s) := by
  unfold tapLoad
  extract_lets +onlyGivenNames v1
  clear_value v1
  extract_lets +onlyGivenNames v2
  clear_value v2
  extract_lets +onlyGivenNames v3
  have hv3 : Keeps s₀ v3 := by
    unfold v3
    with_reducible refine keeps_mk ?_
    assumption
  clear_value v3
  refine keeps_ite ?_ ?_
  · extract_lets +onlyGivenNames v4
    clear_value v4
    extract_lets +onlyGivenNames v5
    have hv5 : Keeps s₀ v5 := by
      unfold v5
      with_reducible refine keeps_mk ?_
      assumption
    clear_value v5
    with_reducible apply keeps_State_raiseActive
    with_reducible apply keeps_State_event
    assumption
  · refine keeps_ite ?_ ?_
    · with_reducible apply keeps_State_endActive
      with_reducible refine keeps_mk ?_
      assumption
    · assumption
theorem keeps_daw {s₀ : State} {s : State} (write : Bool) (addr : Nat) (data : Nat) (hk : Keeps s₀ s) :
    Keeps s₀ (daw write addr data s) := by
  unfold daw
  refine keeps_ite ?_ ?_
  · assumption
  · extract_lets +onlyGivenNames v1
    clear_value v1
    extract_lets +onlyGivenNames v2
    clear_value v2
    extract_lets +onlyGivenNames v3
    have hv3 : Keeps s₀ v3 := by
      unfold v3
      with_reducible refine keeps_mk ?_
      assumption
    clear_value v3
    with_reducible apply keeps_resume
    with_reducible apply keeps_runReq
    assumption
theorem keeps_domWoken {s₀ : State} {s : State} (d : Nat) (hk : Keeps s₀ s) :
    Keeps s₀ (domWoken d s) := by
  unfold domWoken
  refine keeps_ite ?_ ?_
  · with_reducible apply keeps_domUp
    · assumption
    · intro u1 u2 u3 h4
      with_reducible apply keeps_applyReg
      assumption
  · assumption
theorem keeps_isoBarrier {s₀ : State} {s : State} (hk : Keeps s₀ s) :
    Keeps s₀ (isoBarrier s) := by
  unfold isoBarrier
  refine keeps_ite ?_ ?_
  · with_reducible apply keeps_hvCapstone
    assumption
  · extract_lets +onlyGivenNames v1
    have hv1 : Keeps s₀ v1 := by
      unfold v1
      with_reducible apply keeps_State_raise
      with_reducible apply keeps_State_event
      assumption
    clear_value v1
    refine keeps_ite ?_ ?_
    · assumption
    · with_reducible apply keeps_State_hvSafe
      with_reducible refine keeps_mk ?_
      assumption
theorem keeps_tickEdge {s₀ : State} {s : State} (hk : Keeps s₀ s) :
    Keeps s₀ (tickEdge s) := by
  unfold tickEdge
  extract_lets +onlyGivenNames v1
  clear_value v1
  extract_lets +onlyGivenNames v2
  have hv2 : Keeps s₀ v2 := by
    unfold v2
    with_reducible refine keeps_mk ?_
    assumption
  clear_value v2
  with_reducible apply keeps_holdClear
  with_reducible apply keeps_latchesDue
  with_reducible apply keeps_plumbEdge
  assumption
theorem keeps_edgeWork {s₀ : State} {s : State} (hk : Keeps s₀ s) :
    Keeps s₀ (edgeWork s) := by
  unfold edgeWork
  with_reducible apply keeps_swKeep
  with_reducible apply keeps_hvTick
  · with_reducible apply keeps_fnWatch
    with_reducible apply keeps_fltTickStart
    with_reducible apply keeps_barrierFail
    with_reducible apply keeps_upTickEnd
    assumption
  · intro u1 u2 h3
    with_reducible apply keeps_pwrRun
    assumption
theorem keeps_cycleHead {s₀ : State} {s : State} (hk : Keeps s₀ s) :
    Keeps s₀ (cycleHead s) := by
  unfold cycleHead
  refine keeps_ite ?_ ?_
  · with_reducible apply keeps_ovrStat
    with_reducible apply keeps_wakeCheck
    with_reducible apply keeps_wakeStep
    with_reducible apply keeps_rerollCheck
    with_reducible apply keeps_commitStep
    with_reducible apply keeps_stepLapse
    with_reducible apply keeps_stepRetrain
    with_reducible apply keeps_timingSwitch
    with_reducible apply keeps_rdpCycleShow
    with_reducible apply keeps_planCheck
    assumption
  · assumption
theorem keeps_tickFollow {s₀ : State} {s : State} (hk : Keeps s₀ s) :
    Keeps s₀ (tickFollow s) := by
  unfold tickFollow
  with_reducible apply keeps_branchLpi
  with_reducible apply keeps_jackTick
  with_reducible apply keeps_holdTick
  with_reducible apply keeps_domFollow
  · with_reducible apply keeps_sleepReady
    with_reducible apply keeps_sleepEnter
    with_reducible apply keeps_gptpTick
    assumption
  · intro u1 u2 u3 h4
    with_reducible apply keeps_applyReg
    assumption
theorem keeps_tickStamped {s₀ : State} {s : State} (hk : Keeps s₀ s) :
    Keeps s₀ (tickStamped s) := by
  unfold tickStamped
  extract_lets +onlyGivenNames v1
  have hv1 : Keeps s₀ v1 := by
    unfold v1
    with_reducible apply keeps_ovrWake
    with_reducible apply keeps_ovrHead
    with_reducible apply keeps_deactivateDone
    with_reducible apply keeps_activation
    with_reducible apply keeps_fltClearDue
    assumption
  clear_value v1
  extract_lets +onlyGivenNames v2
  have hv2 : Keeps s₀ v2 := by
    unfold v2
    with_reducible apply keeps_paramTick
    assumption
  clear_value v2
  extract_lets +onlyGivenNames v3
  have hv3 : Keeps s₀ v3 := by
    unfold v3
    with_reducible apply keeps_State_forN
    · with_reducible apply keeps_State_forN
      · assumption
      · intro u4 u5 h6
        with_reducible apply keeps_swapStage
        assumption
    · intro u7 u8 h9
      with_reducible apply keeps_swapFire
      assumption
  clear_value v3
  with_reducible apply keeps_State_forN
  · assumption
  · intro u10 u11 h12
    with_reducible apply keeps_alarmFire
    assumption
theorem keeps_tickGather {s₀ : State} {s : State} (env : TickEnv) (hk : Keeps s₀ s) :
    Keeps s₀ (tickGather env s) := by
  unfold tickGather
  split
  · rename_i x1 x2 x3 e4
    have hx5 := keeps_of_eq (s₀ := s₀) (by
      with_reducible apply keeps_gather
      assumption
      ) e4
    extract_lets +onlyGivenNames v6
    have hv6 : Keeps s₀ v6 := by
      unfold v6
      with_reducible apply keeps_rdpClassify
      assumption
    clear_value v6
    extract_lets +onlyGivenNames v7
    have hv7 : Keeps s₀ v7 := by
      unfold v7
      with_reducible apply keeps_State_forN
      · assumption
      · intro u8 u9 h10
        with_reducible apply keeps_adcTick
        assumption
    clear_value v7
    extract_lets +onlyGivenNames v11
    have hv11 : Keeps s₀ v11 := by
      unfold v11
      with_reducible apply keeps_diagListen
      assumption
    clear_value v11
    extract_lets +onlyGivenNames v12
    have hv12 : Keeps s₀ v12 := by
      unfold v12
      with_reducible apply keeps_bstHead
      with_reducible apply keeps_srcTick
      assumption
    clear_value v12
    with_reducible apply keeps_engHead
    with_reducible apply keeps_diagFadeTick
    with_reducible apply keeps_auxHead
    assumption
theorem keeps_keystoneTick {s₀ : State} {s : State} (env : TickEnv) (hk : Keeps s₀ s) :
    Keeps s₀ (keystoneTick env s) := by
  unfold keystoneTick
  extract_lets +onlyGivenNames v1
  clear_value v1
  refine keeps_ite ?_ ?_
  · assumption
  · extract_lets +onlyGivenNames v2
    have hv2 : Keeps s₀ v2 := by
      unfold v2
      with_reducible apply keeps_tickFollow
      with_reducible apply keeps_cycleHead
      with_reducible apply keeps_edgeWork
      with_reducible apply keeps_tickEdge
      with_reducible apply keeps_commitPoint
      · assumption
      · intro u3 u4 u5 h6
        with_reducible apply keeps_applyReg
        assumption
    clear_value v2
    refine keeps_ite ?_ ?_
    · assumption
    · extract_lets +onlyGivenNames v7
      have hv7 : Keeps s₀ v7 := by
        unfold v7
        with_reducible apply keeps_rebuildStart
        with_reducible apply keeps_tickGather
        with_reducible apply keeps_tickStamped
        assumption
      clear_value v7
      with_reducible apply keeps_resume
      with_reducible apply keeps_engTo
      · assumption
      · intro u8 u9 u10 h11
        with_reducible apply keeps_applyReg
        assumption
theorem keeps_logicReset {s₀ : State} {s : State} (foot : Bool) (hk : Keeps s₀ s) :
    Keeps s₀ (logicReset foot s) := by
  unfold logicReset
  extract_lets +onlyGivenNames r doms a1 a2 a3 a4 a5 a6 a7 a8 a9 a10 a11 a12 v0
  have hv0 : Keeps s₀ v0 := by
    refine ⟨hk.1, fun c => ?_⟩
    have w := canon_parts.mp (hk.2 c)
    refine canon_parts.mpr ⟨rising_filter _ _ w.1, ?_, ?_, ?_, ?_⟩
    · unfold v0; cases foot <;> rfl
    · unfold v0; cases foot <;> rfl
    · unfold v0; cases foot <;> rfl
    · unfold v0; cases foot
      · rfl
      · exact w.2.2.2.2
  clear_value v0
  extract_lets +onlyGivenNames v1
  have hv1 : Keeps s₀ v1 := by
    unfold v1
    with_reducible apply keeps_showPll
    with_reducible apply keeps_jackShow
    with_reducible apply keeps_State_forN
    · assumption
    · intro u2 u3 h4
      with_reducible apply keeps_State_showBst
      assumption
  clear_value v1
  refine keeps_ite ?_ ?_
  · extract_lets +onlyGivenNames v5
    have hv5 : Keeps s₀ v5 := by
      unfold v5
      with_reducible apply keeps_State_set64
      with_reducible apply keeps_State_set
      with_reducible apply keeps_imgShow
      with_reducible apply keeps_State_unstage
      assumption
    clear_value v5
    extract_lets +onlyGivenNames v6
    have hv6 : Keeps s₀ v6 := by
      unfold v6
      with_reducible apply keeps_State_setB
      with_reducible apply keeps_State_setB
      with_reducible apply keeps_State_setB
      assumption
    clear_value v6
    with_reducible apply keeps_tenDeactivate
    with_reducible apply keeps_State_setB
    with_reducible apply keeps_State_set
    assumption
  · with_reducible apply keeps_State_setWord
    assumption
theorem keeps_vl5Off {s₀ : State} {s : State} (hk : Keeps s₀ s) :
    Keeps s₀ (vl5Off s) := by
  unfold vl5Off
  extract_lets +onlyGivenNames v1
  have hv1 : Keeps s₀ v1 := by
    unfold v1
    with_reducible apply keeps_logicReset
    assumption
  clear_value v1
  with_reducible apply keeps_safeReqAssert
  with_reducible refine keeps_mk ?_
  assumption
theorem keeps_vl5On {s₀ : State} {s : State} (xtal : Bool) (hk : Keeps s₀ s) :
    Keeps s₀ (vl5On xtal s) := by
  unfold vl5On
  extract_lets +onlyGivenNames v1
  have hv1 : Keeps s₀ v1 := by
    unfold v1
    with_reducible apply keeps_logicReset
    assumption
  clear_value v1
  with_reducible apply keeps_State_setB
  with_reducible apply keeps_State_setB
  with_reducible refine keeps_mk ?_
  assumption
theorem keeps_rstN {s₀ : State} {s : State} (hk : Keeps s₀ s) :
    Keeps s₀ (rstN s) := by
  unfold rstN
  refine keeps_ite ?_ ?_
  · with_reducible apply keeps_logicReset
    with_reducible apply keeps_linkPark
    assumption
  · assumption
theorem keeps_bootDone {s₀ : State} {s : State} (copyA : Bool) (copyB : Bool) (version : Word) (ucode : Nat) (bands : List (List Word)) (hk : Keeps s₀ s) :
    Keeps s₀ (bootDone copyA copyB version ucode bands s) := by
  unfold bootDone
  refine keeps_ite ?_ ?_
  · assumption
  · extract_lets +onlyGivenNames v1
    clear_value v1
    extract_lets +onlyGivenNames v2
    have hv2 : Keeps s₀ v2 := by
      unfold v2
      with_reducible refine keeps_mk ?_
      assumption
    clear_value v2
    extract_lets +onlyGivenNames v3
    have hv3 : Keeps s₀ v3 := by
      unfold v3
      with_reducible apply keeps_State_setWord
      assumption
    clear_value v3
    extract_lets +onlyGivenNames v4
    have hv4 : Keeps s₀ v4 := by
      unfold v4
      with_reducible apply keeps_State_setWord
      assumption
    clear_value v4
    extract_lets +onlyGivenNames v5
    have hv5 : Keeps s₀ v5 := by
      unfold v5
      with_reducible apply keeps_State_forN
      · assumption
      · intro u6 u7 h8
        with_reducible apply keeps_State_forN
        · assumption
        · intro u9 u10 h11
          with_reducible apply keeps_State_setWord
          assumption
    clear_value v5
    extract_lets +onlyGivenNames v12
    have hv12 : Keeps s₀ v12 := by
      unfold v12
      refine keeps_ite ?_ ?_
      · assumption
      · with_reducible apply keeps_State_raise
        with_reducible apply keeps_State_event
        assumption
    clear_value v12
    refine keeps_ite ?_ ?_
    · with_reducible apply keeps_imgLoad
      assumption
    · assumption

end Sys2Proof.Machine
end

