-- ==== Sys2Proof/WellFormed.lean ====
section
/-! DEFINITION. Operands that the types of Syntax.lean admit and the hardware cannot bring: a command is well-formed when
its lists have the sizes of the units they come from and its numbers fit their fields. -/
namespace Sys2Proof

/-- The samples of the four converters are 24-bit codes (R403). -/
def TickEnv.ok (e : TickEnv) : Bool := e.adc.length = 4 && e.adc.all (fun v => decide (-8388608 ≤ v) && decide (v ≤ 8388607))
/-- A tick's sense data names every channel, converter and power die (R17, R201). -/
def Sense.ok (x : Sense) : Bool :=
  x.v.length = 8 && x.i.length = 8 && x.rail.length = 4 && x.railI.length = 4 && x.iin.length = 4 && x.die.length = 4
/-- A Flary frame's header fields have the widths of R495: TTL, HOPS and DONE 2 bytes, AUTH 16, a body of at most 1,400. -/
def FlaryReq.ok (r : FlaryReq) : Bool :=
  decide (r.ttl < 65536) && decide (r.hops < 65536) && decide (r.done < 65536) && r.auth.length = 16 && decide (r.body.length ≤ 1400)
/-- An 8-byte word of a scrubbed memory: 32 MiB of tick SRAM, 64 KiB of footing memory, the DRAM pools (R532). -/
def scrubWordOk (m : ScrubMem) (w : Nat) : Bool :=
  match m with
  | .sram => decide (w < 4194304)
  | .footing => decide (w < 8192)
  | .dram => decide (w < 8589934592)
/-- The data of an SPI write are at most 256 words (R490). -/
def spiDataOk (d : List Byte) : Bool := decide (d.length ≤ 1024)
/-- Calibration tables of three PLLs with sixteen entries each. -/
def bandsOk (b : List (List Word)) : Bool := b.length = 3 && b.all (fun t => t.length = 16)
/-- Well-formed commands. -/
def Instr.wf (i : Instr) : Bool :=
  match i with
  | .regWrite _ _ _ => true
  | .vl5PowerOn _ => true
  | .rstN => true
  | .vdrvRelease => true
  | .vdrvRemoved => true
  | .vbusRemoved => true
  | .vbusStart => true
  | .vbusAbs => true
  | .vdrvLow => true
  | .dieHot _ => true
  | .vl5Low => true
  | .vl5Recover => true
  | .logicHot => true
  | .logicCool => true
  | .isoBarrier => true
  | .dnFrame _ => true
  | .dnLinkLost => true
  | .logicCollapse => true
  | .upFrame _ x => x.ok
  | .upLinkLost => true
  | .safeReqAssert => true
  | .safeStateOff _ => true
  | .safeStateSlow _ => true
  | .linkResync => true
  | .keystoneTick env => env.ok
  | .stoneWake _ => true
  | .streamLineArrive _ _ => true
  | .streamWritebackDone _ => true
  | .commitPoint => true
  | .ksAlarmArm _ _ => true
  | .ksAlarmDisarm _ _ => true
  | .ksAlarmFire _ => true
  | .ksCapture _ => true
  | .ksOvrClr _ => true
  | .gptpSync _ _ _ => true
  | .gptpPdelay _ _ => true
  | .syncTimeout => true
  | .slotOpen _ _ => true
  | .slotEraseDone _ => true
  | .slotData _ _ => true
  | .slotClose _ _ => true
  | .slotVerify _ _ => true
  | .slotVerifyDone _ _ => true
  | .imgLoad _ _ => true
  | .imgLoadDone _ => true
  | .imgArm _ => true
  | .imgDisarm _ => true
  | .imgDiscard _ => true
  | .imgDeactivate _ => true
  | .deactivateDone => true
  | .imgAccept _ => true
  | .rebuildStart => true
  | .activation => true
  | .sigLock _ => true
  | .stoneScrub _ _ _ => true
  | .memoryScrub m w _ => scrubWordOk m w
  | .engCntClr _ => true
  | .engPeakClr _ => true
  | .paramWrite _ _ _ _ => true
  | .swapArm _ _ => true
  | .swapDisarm _ _ => true
  | .swapRevert _ _ => true
  | .swapStage _ => true
  | .swapFire _ => true
  | .latchArm _ => true
  | .latchDisarm _ => true
  | .holdClr _ => true
  | .meterLatch => true
  | .pfirLoad _ _ _ => true
  | .pfirLoadDone => true
  | .srcAbsent _ => true
  | .srcSettled _ => true
  | .srcRampEnd _ => true
  | .recFreeze _ => true
  | .recRun _ => true
  | .recFrozen => true
  | .msgOpen _ _ => true
  | .msgData _ _ => true
  | .msgClose _ _ => true
  | .msgVerify _ _ => true
  | .msgDelete _ _ => true
  | .msgOpDone => true
  | .ovrInputAccept _ _ => true
  | .ovrDiscExpire => true
  | .ovrStatUpdate => true
  | .audioFrame _ _ => true
  | .headLaunch _ _ => true
  | .frameGenerate _ _ => true
  | .dpAgeClr _ => true
  | .dpCntClr _ => true
  | .beaconRx _ _ => true
  | .claimRx _ _ => true
  | .rollRx _ _ => true
  | .reportRx _ _ => true
  | .planRx _ _ => true
  | .planEffective => true
  | .segmentRx _ _ => true
  | .probeRx _ _ => true
  | .timingReqRx _ _ => true
  | .timingAckRx _ _ => true
  | .timingAssertRx _ _ => true
  | .timingSwitch => true
  | .timingLapse => true
  | .stepReqRx _ _ => true
  | .stepGoRx _ _ => true
  | .stepDoneRx _ _ => true
  | .stepDenyRx _ _ => true
  | .stepFailRx _ _ => true
  | .stepRetrain => true
  | .stepLinkUp _ => true
  | .stepTimeout _ => true
  | .sleepRx _ _ => true
  | .sleepEnter => true
  | .wakeRx _ _ => true
  | .snapshotRx _ _ => true
  | .controlFrameBad _ _ => true
  | .listenTimeout => true
  | .claimRepeat => true
  | .waitingTimeout => true
  | .followerTimeout => true
  | .standbyTakeover => true
  | .beaconSend => true
  | .reportSend => true
  | .planBuildTimeout => true
  | .planResend => true
  | .headLaunchExpire => true
  | .segmentSilence _ => true
  | .linkDown _ => true
  | .linkUp _ _ _ => true
  | .holdOffDone _ => true
  | .probeSend _ => true
  | .segmentRerollTimeout => true
  | .silenceResume => true
  | .ringCommit _ => true
  | .ringTmReq _ => true
  | .ringLeave _ => true
  | .ringReroll _ => true
  | .ringSleep _ => true
  | .ringWake _ => true
  | .portModeWrite _ _ _ => true
  | .speedLowerReq _ => true
  | .speedRaiseReq _ => true
  | .pauseRx _ _ => true
  | .pauseBreak _ => true
  | .pauseRecover _ => true
  | .aafRx _ _ => true
  | .aafTx => true
  | .aafStreamEnable _ _ => true
  | .aecpCommand _ _ => true
  | .acmpCommand _ _ => true
  | .adpDiscover _ _ => true
  | .adpAvailable => true
  | .sbusRx _ => true
  | .sbusTxHead _ _ => true
  | .sbusTxDone _ => true
  | .sbusRxTail _ _ => true
  | .plcaLoss => true
  | .plcaBeacon => true
  | .snapSend _ => true
  | .snapLocal _ => true
  | .snapshotFire => true
  | .chArm _ _ => true
  | .chRelease _ _ _ => true
  | .chMute _ _ _ => true
  | .chDisarm _ _ => true
  | .releaseDue _ => true
  | .releaseEdge _ => true
  | .muteDue _ => true
  | .muteEnd _ => true
  | .modulatorSample _ _ _ _ _ => true
  | .loadShort _ => true
  | .swApply _ => true
  | .swRampEnd => true
  | .clkFailover => true
  | .clkReturn _ => true
  | .clkLost => true
  | .phaseLoss _ _ => true
  | .bstPhaseLoss _ _ => true
  | .railOv _ => true
  | .railLow _ => true
  | .fallbackEnd _ => true
  | .thermalUpdate => true
  | .rmeasUpdate => true
  | .dcFault _ => true
  | .protSelectWrite _ _ _ => true
  | .diagStart _ => true
  | .diagAbort _ => true
  | .diagReadyTimeout => true
  | .diagDwellEnd => true
  | .diagChannelEnd => true
  | .acouMeasEnd => true
  | .diagRunEnd => true
  | .adcGainApply _ => true
  | .adcSync _ => true
  | .adcSettled _ => true
  | .adcRampEnd _ => true
  | .outStart _ _ => true
  | .outStop _ _ => true
  | .outRampEnd _ => true
  | .outPowerUpEnd _ => true
  | .outPowerDownEnd _ => true
  | .cpFail => true
  | .cpRecover => true
  | .outShort _ => true
  | .jackAccept _ _ => true
  | .aesLock => true
  | .aesLockLoss => true
  | .aesSubframe _ _ _ _ _ _ _ => true
  | .aesBlockEnd => true
  | .nonaudioEnd => true
  | .sapEnable _ _ => true
  | .sapFrame _ _ _ => true
  | .sapLock _ => true
  | .sapLockLoss _ => true
  | .dmaEnable _ _ _ => true
  | .capRdWrite _ _ _ => true
  | .pbWrWrite _ _ _ => true
  | .rateMeasure _ _ => true
  | .auxUpdate _ => true
  | .auxQueueWrite _ _ _ => true
  | .auxFlush _ _ => true
  | .auxSync _ _ => true
  | .auxModeReq _ _ _ => true
  | .auxEnable _ _ => true
  | .auxDisable _ _ => true
  | .auxStartEnd _ => true
  | .auxShort _ => true
  | .refLoss => true
  | .refReturn _ => true
  | .pllStart _ => true
  | .pllLock _ => true
  | .pllLockLoss _ => true
  | .pllHoldEnd _ => true
  | .pllBwChange _ => true
  | .phaseStepWrite _ _ _ => true
  | .phaseStepUnit _ => true
  | .rampLoad _ _ => true
  | .rampSegmentEnd _ => true
  | .mclkConfig _ => true
  | .spiRead _ _ _ _ => true
  | .spiWrite _ _ _ d _ => spiDataOk d
  | .spiReadFix _ _ _ _ => true
  | .spiWriteFix _ _ _ d _ => spiDataOk d
  | .spiStatus _ => true
  | .spiRepeat _ => true
  | .spiCsAbort => true
  | .flaryDiscover r => r.ok
  | .flaryRead r => r.ok
  | .flaryWrite r => r.ok
  | .flaryReadFix r => r.ok
  | .flaryWriteFix r => r.ok
  | .flaryEventSub r => r.ok
  | .flaryEventSend _ => true
  | .flarySubLapse _ => true
  | .slotXferOpen r => r.ok
  | .slotXferData r => r.ok
  | .slotXferClose r => r.ok
  | .slotXferVerify r => r.ok
  | .msgXferOpen r => r.ok
  | .msgXferData r => r.ok
  | .msgXferClose r => r.ok
  | .msgXferVerify r => r.ok
  | .msgXferDelete r => r.ok
  | .flaryLogRead r => r.ok
  | .flaryTelemetry r => r.ok
  | .flaryResponse r => r.ok
  | .tenAlloc _ _ => true
  | .tenFree _ _ => true
  | .tenHold _ _ => true
  | .tenRelease _ _ => true
  | .tenEvict _ _ => true
  | .dramWinWrite _ _ => true
  | .capWrite _ _ _ _ => true
  | .semRead _ _ => true
  | .semWait _ _ => true
  | .semWaitTimeout _ => true
  | .semRel _ _ => true
  | .semLeaseExpire _ => true
  | .watchdogExpire _ => true
  | .dawRead _ => true
  | .dawWrite _ _ => true
  | .dawReadNext => true
  | .dawWriteNext _ => true
  | .extest => true
  | .clamp => true
  | .highz => true
  | .idcode => true
  | .samplePreload => true
  | .bypass => true
  | .tapReset => true
  | .coreHalt _ _ => true
  | .coreResume _ _ => true
  | .semBreak _ _ => true
  | .dbgLock _ => true
  | .fltClassWrite _ _ _ => true
  | .fltClearHalt _ => true
  | .fltClearLoad _ _ => true
  | .fltClearRestart _ _ _ _ => true
  | .fltCntClr _ => true
  | .fltClearEffect => true
  | .histPop _ => true
  | .injArm _ _ _ _ => true
  | .extFault => true
  | .domainIdleDescend _ => true
  | .domainDemandWake _ => true
  | .domainWakeDone _ => true
  | .domainTargetWrite _ _ _ => true
  | .domSleep _ _ => true
  | .sleepEntryReady => true
  | .domWake _ => true
  | .wakeNPin => true
  | .linkEnergy _ => true
  | .sbusActivity => true
  | .storageWakeReady _ _ => true
  | .vl5PowerOff => true
  | .faultNWireReleased => true
  | .vdrvRecover => true
  | .powerDieCool _ => true
  | .outShortEnd _ => true
  | .auxShortEnd _ => true
  | .pauseEnd _ => true
  | .portLoadUpdate _ => true
  | .thermalDeratingUpdate _ => true
  | .firmwareBootDone _ _ _ _ bands => bandsOk bands
  | .dawInstruction => true

end Sys2Proof
end

