-- ==== Sys2Proof/Laws/PerInstr.lean ====
section
/-! SUPPORT. Per command: a Flary request in a well-formed command has a body of at most 1,400 bytes and an authenticator of 16. -/
namespace Sys2Proof.Laws.WellFormed
open Sys2Proof

/-- The Flary requests among the operands of a command. -/
def requests (i : Instr) : List FlaryReq :=
  match i with
  | .regWrite _ _ _ => []
  | .vl5PowerOn _ => []
  | .rstN => []
  | .vdrvRelease => []
  | .vdrvRemoved => []
  | .vbusRemoved => []
  | .vbusStart => []
  | .vbusAbs => []
  | .vdrvLow => []
  | .dieHot _ => []
  | .vl5Low => []
  | .vl5Recover => []
  | .logicHot => []
  | .logicCool => []
  | .isoBarrier => []
  | .dnFrame _ => []
  | .dnLinkLost => []
  | .logicCollapse => []
  | .upFrame _ _ => []
  | .upLinkLost => []
  | .safeReqAssert => []
  | .safeStateOff _ => []
  | .safeStateSlow _ => []
  | .linkResync => []
  | .keystoneTick _ => []
  | .stoneWake _ => []
  | .streamLineArrive _ _ => []
  | .streamWritebackDone _ => []
  | .commitPoint => []
  | .ksAlarmArm _ _ => []
  | .ksAlarmDisarm _ _ => []
  | .ksAlarmFire _ => []
  | .ksCapture _ => []
  | .ksOvrClr _ => []
  | .gptpSync _ _ _ => []
  | .gptpPdelay _ _ => []
  | .syncTimeout => []
  | .slotOpen _ _ => []
  | .slotEraseDone _ => []
  | .slotData _ _ => []
  | .slotClose _ _ => []
  | .slotVerify _ _ => []
  | .slotVerifyDone _ _ => []
  | .imgLoad _ _ => []
  | .imgLoadDone _ => []
  | .imgArm _ => []
  | .imgDisarm _ => []
  | .imgDiscard _ => []
  | .imgDeactivate _ => []
  | .deactivateDone => []
  | .imgAccept _ => []
  | .rebuildStart => []
  | .activation => []
  | .sigLock _ => []
  | .stoneScrub _ _ _ => []
  | .memoryScrub _ _ _ => []
  | .engCntClr _ => []
  | .engPeakClr _ => []
  | .paramWrite _ _ _ _ => []
  | .swapArm _ _ => []
  | .swapDisarm _ _ => []
  | .swapRevert _ _ => []
  | .swapStage _ => []
  | .swapFire _ => []
  | .latchArm _ => []
  | .latchDisarm _ => []
  | .holdClr _ => []
  | .meterLatch => []
  | .pfirLoad _ _ _ => []
  | .pfirLoadDone => []
  | .srcAbsent _ => []
  | .srcSettled _ => []
  | .srcRampEnd _ => []
  | .recFreeze _ => []
  | .recRun _ => []
  | .recFrozen => []
  | .msgOpen _ _ => []
  | .msgData _ _ => []
  | .msgClose _ _ => []
  | .msgVerify _ _ => []
  | .msgDelete _ _ => []
  | .msgOpDone => []
  | .ovrInputAccept _ _ => []
  | .ovrDiscExpire => []
  | .ovrStatUpdate => []
  | .audioFrame _ _ => []
  | .headLaunch _ _ => []
  | .frameGenerate _ _ => []
  | .dpAgeClr _ => []
  | .dpCntClr _ => []
  | .beaconRx _ _ => []
  | .claimRx _ _ => []
  | .rollRx _ _ => []
  | .reportRx _ _ => []
  | .planRx _ _ => []
  | .planEffective => []
  | .segmentRx _ _ => []
  | .probeRx _ _ => []
  | .timingReqRx _ _ => []
  | .timingAckRx _ _ => []
  | .timingAssertRx _ _ => []
  | .timingSwitch => []
  | .timingLapse => []
  | .stepReqRx _ _ => []
  | .stepGoRx _ _ => []
  | .stepDoneRx _ _ => []
  | .stepDenyRx _ _ => []
  | .stepFailRx _ _ => []
  | .stepRetrain => []
  | .stepLinkUp _ => []
  | .stepTimeout _ => []
  | .sleepRx _ _ => []
  | .sleepEnter => []
  | .wakeRx _ _ => []
  | .snapshotRx _ _ => []
  | .controlFrameBad _ _ => []
  | .listenTimeout => []
  | .claimRepeat => []
  | .waitingTimeout => []
  | .followerTimeout => []
  | .standbyTakeover => []
  | .beaconSend => []
  | .reportSend => []
  | .planBuildTimeout => []
  | .planResend => []
  | .headLaunchExpire => []
  | .segmentSilence _ => []
  | .linkDown _ => []
  | .linkUp _ _ _ => []
  | .holdOffDone _ => []
  | .probeSend _ => []
  | .segmentRerollTimeout => []
  | .silenceResume => []
  | .ringCommit _ => []
  | .ringTmReq _ => []
  | .ringLeave _ => []
  | .ringReroll _ => []
  | .ringSleep _ => []
  | .ringWake _ => []
  | .portModeWrite _ _ _ => []
  | .speedLowerReq _ => []
  | .speedRaiseReq _ => []
  | .pauseRx _ _ => []
  | .pauseBreak _ => []
  | .pauseRecover _ => []
  | .aafRx _ _ => []
  | .aafTx => []
  | .aafStreamEnable _ _ => []
  | .aecpCommand _ _ => []
  | .acmpCommand _ _ => []
  | .adpDiscover _ _ => []
  | .adpAvailable => []
  | .sbusRx _ => []
  | .sbusTxHead _ _ => []
  | .sbusTxDone _ => []
  | .sbusRxTail _ _ => []
  | .plcaLoss => []
  | .plcaBeacon => []
  | .snapSend _ => []
  | .snapLocal _ => []
  | .snapshotFire => []
  | .chArm _ _ => []
  | .chRelease _ _ _ => []
  | .chMute _ _ _ => []
  | .chDisarm _ _ => []
  | .releaseDue _ => []
  | .releaseEdge _ => []
  | .muteDue _ => []
  | .muteEnd _ => []
  | .modulatorSample _ _ _ _ _ => []
  | .loadShort _ => []
  | .swApply _ => []
  | .swRampEnd => []
  | .clkFailover => []
  | .clkReturn _ => []
  | .clkLost => []
  | .phaseLoss _ _ => []
  | .bstPhaseLoss _ _ => []
  | .railOv _ => []
  | .railLow _ => []
  | .fallbackEnd _ => []
  | .thermalUpdate => []
  | .rmeasUpdate => []
  | .dcFault _ => []
  | .protSelectWrite _ _ _ => []
  | .diagStart _ => []
  | .diagAbort _ => []
  | .diagReadyTimeout => []
  | .diagDwellEnd => []
  | .diagChannelEnd => []
  | .acouMeasEnd => []
  | .diagRunEnd => []
  | .adcGainApply _ => []
  | .adcSync _ => []
  | .adcSettled _ => []
  | .adcRampEnd _ => []
  | .outStart _ _ => []
  | .outStop _ _ => []
  | .outRampEnd _ => []
  | .outPowerUpEnd _ => []
  | .outPowerDownEnd _ => []
  | .cpFail => []
  | .cpRecover => []
  | .outShort _ => []
  | .jackAccept _ _ => []
  | .aesLock => []
  | .aesLockLoss => []
  | .aesSubframe _ _ _ _ _ _ _ => []
  | .aesBlockEnd => []
  | .nonaudioEnd => []
  | .sapEnable _ _ => []
  | .sapFrame _ _ _ => []
  | .sapLock _ => []
  | .sapLockLoss _ => []
  | .dmaEnable _ _ _ => []
  | .capRdWrite _ _ _ => []
  | .pbWrWrite _ _ _ => []
  | .rateMeasure _ _ => []
  | .auxUpdate _ => []
  | .auxQueueWrite _ _ _ => []
  | .auxFlush _ _ => []
  | .auxSync _ _ => []
  | .auxModeReq _ _ _ => []
  | .auxEnable _ _ => []
  | .auxDisable _ _ => []
  | .auxStartEnd _ => []
  | .auxShort _ => []
  | .refLoss => []
  | .refReturn _ => []
  | .pllStart _ => []
  | .pllLock _ => []
  | .pllLockLoss _ => []
  | .pllHoldEnd _ => []
  | .pllBwChange _ => []
  | .phaseStepWrite _ _ _ => []
  | .phaseStepUnit _ => []
  | .rampLoad _ _ => []
  | .rampSegmentEnd _ => []
  | .mclkConfig _ => []
  | .spiRead _ _ _ _ => []
  | .spiWrite _ _ _ _ _ => []
  | .spiReadFix _ _ _ _ => []
  | .spiWriteFix _ _ _ _ _ => []
  | .spiStatus _ => []
  | .spiRepeat _ => []
  | .spiCsAbort => []
  | .flaryDiscover r => [r]
  | .flaryRead r => [r]
  | .flaryWrite r => [r]
  | .flaryReadFix r => [r]
  | .flaryWriteFix r => [r]
  | .flaryEventSub r => [r]
  | .flaryEventSend _ => []
  | .flarySubLapse _ => []
  | .slotXferOpen r => [r]
  | .slotXferData r => [r]
  | .slotXferClose r => [r]
  | .slotXferVerify r => [r]
  | .msgXferOpen r => [r]
  | .msgXferData r => [r]
  | .msgXferClose r => [r]
  | .msgXferVerify r => [r]
  | .msgXferDelete r => [r]
  | .flaryLogRead r => [r]
  | .flaryTelemetry r => [r]
  | .flaryResponse r => [r]
  | .tenAlloc _ _ => []
  | .tenFree _ _ => []
  | .tenHold _ _ => []
  | .tenRelease _ _ => []
  | .tenEvict _ _ => []
  | .dramWinWrite _ _ => []
  | .capWrite _ _ _ _ => []
  | .semRead _ _ => []
  | .semWait _ _ => []
  | .semWaitTimeout _ => []
  | .semRel _ _ => []
  | .semLeaseExpire _ => []
  | .watchdogExpire _ => []
  | .dawRead _ => []
  | .dawWrite _ _ => []
  | .dawReadNext => []
  | .dawWriteNext _ => []
  | .extest => []
  | .clamp => []
  | .highz => []
  | .idcode => []
  | .samplePreload => []
  | .bypass => []
  | .tapReset => []
  | .coreHalt _ _ => []
  | .coreResume _ _ => []
  | .semBreak _ _ => []
  | .dbgLock _ => []
  | .fltClassWrite _ _ _ => []
  | .fltClearHalt _ => []
  | .fltClearLoad _ _ => []
  | .fltClearRestart _ _ _ _ => []
  | .fltCntClr _ => []
  | .fltClearEffect => []
  | .histPop _ => []
  | .injArm _ _ _ _ => []
  | .extFault => []
  | .domainIdleDescend _ => []
  | .domainDemandWake _ => []
  | .domainWakeDone _ => []
  | .domainTargetWrite _ _ _ => []
  | .domSleep _ _ => []
  | .sleepEntryReady => []
  | .domWake _ => []
  | .wakeNPin => []
  | .linkEnergy _ => []
  | .sbusActivity => []
  | .storageWakeReady _ _ => []
  | .vl5PowerOff => []
  | .faultNWireReleased => []
  | .vdrvRecover => []
  | .powerDieCool _ => []
  | .outShortEnd _ => []
  | .auxShortEnd _ => []
  | .pauseEnd _ => []
  | .portLoadUpdate _ => []
  | .thermalDeratingUpdate _ => []
  | .firmwareBootDone _ _ _ _ _ => []
  | .dawInstruction => []
/-- The sizes of the Flary requests of a well-formed command (R495). -/
def Statement (i : Instr) : Prop := i.wf = true → ∀ r ∈ requests i, r.body.length ≤ 1400 ∧ r.auth.length = 16

theorem ok_sizes (r : FlaryReq) (h : r.ok = true) : r.body.length ≤ 1400 ∧ r.auth.length = 16 := by
  simp only [FlaryReq.ok, Bool.and_eq_true, decide_eq_true_eq] at h
  exact ⟨h.2, h.1.2⟩
theorem regWrite (acc : Access) (addr : Word) (value : Word) : Statement (.regWrite acc addr value) := fun _ _ h => absurd h List.not_mem_nil
theorem vl5PowerOn (xtal : Bool) : Statement (.vl5PowerOn xtal) := fun _ _ h => absurd h List.not_mem_nil
theorem rstN : Statement (.rstN) := fun _ _ h => absurd h List.not_mem_nil
theorem vdrvRelease : Statement (.vdrvRelease) := fun _ _ h => absurd h List.not_mem_nil
theorem vdrvRemoved : Statement (.vdrvRemoved) := fun _ _ h => absurd h List.not_mem_nil
theorem vbusRemoved : Statement (.vbusRemoved) := fun _ _ h => absurd h List.not_mem_nil
theorem vbusStart : Statement (.vbusStart) := fun _ _ h => absurd h List.not_mem_nil
theorem vbusAbs : Statement (.vbusAbs) := fun _ _ h => absurd h List.not_mem_nil
theorem vdrvLow : Statement (.vdrvLow) := fun _ _ h => absurd h List.not_mem_nil
theorem dieHot (k : Fin 4) : Statement (.dieHot k) := fun _ _ h => absurd h List.not_mem_nil
theorem vl5Low : Statement (.vl5Low) := fun _ _ h => absurd h List.not_mem_nil
theorem vl5Recover : Statement (.vl5Recover) := fun _ _ h => absurd h List.not_mem_nil
theorem logicHot : Statement (.logicHot) := fun _ _ h => absurd h List.not_mem_nil
theorem logicCool : Statement (.logicCool) := fun _ _ h => absurd h List.not_mem_nil
theorem isoBarrier : Statement .isoBarrier := fun _ _ h => absurd h List.not_mem_nil
theorem dnFrame (crcOk : Bool) : Statement (.dnFrame crcOk) := fun _ _ h => absurd h List.not_mem_nil
theorem dnLinkLost : Statement (.dnLinkLost) := fun _ _ h => absurd h List.not_mem_nil
theorem logicCollapse : Statement (.logicCollapse) := fun _ _ h => absurd h List.not_mem_nil
theorem upFrame (crcOk : Bool) (sense : Sense) : Statement (.upFrame crcOk sense) := fun _ _ h => absurd h List.not_mem_nil
theorem upLinkLost : Statement (.upLinkLost) := fun _ _ h => absurd h List.not_mem_nil
theorem safeReqAssert : Statement (.safeReqAssert) := fun _ _ h => absurd h List.not_mem_nil
theorem safeStateOff (n : Fin 8) : Statement (.safeStateOff n) := fun _ _ h => absurd h List.not_mem_nil
theorem safeStateSlow (n : Fin 8) : Statement (.safeStateSlow n) := fun _ _ h => absurd h List.not_mem_nil
theorem linkResync : Statement (.linkResync) := fun _ _ h => absurd h List.not_mem_nil
theorem keystoneTick (env : TickEnv) : Statement (.keystoneTick env) := fun _ _ h => absurd h List.not_mem_nil
theorem stoneWake (stone : Fin 32) : Statement (.stoneWake stone) := fun _ _ h => absurd h List.not_mem_nil
theorem streamLineArrive (stone : Fin 32) (cycle : Nat) : Statement (.streamLineArrive stone cycle) := fun _ _ h => absurd h List.not_mem_nil
theorem streamWritebackDone (id : Nat) : Statement (.streamWritebackDone id) := fun _ _ h => absurd h List.not_mem_nil
theorem commitPoint : Statement (.commitPoint) := fun _ _ h => absurd h List.not_mem_nil
theorem ksAlarmArm (acc : Access) (n : Fin 4) : Statement (.ksAlarmArm acc n) := fun _ _ h => absurd h List.not_mem_nil
theorem ksAlarmDisarm (acc : Access) (n : Fin 4) : Statement (.ksAlarmDisarm acc n) := fun _ _ h => absurd h List.not_mem_nil
theorem ksAlarmFire (n : Fin 4) : Statement (.ksAlarmFire n) := fun _ _ h => absurd h List.not_mem_nil
theorem ksCapture (acc : Access) : Statement (.ksCapture acc) := fun _ _ h => absurd h List.not_mem_nil
theorem ksOvrClr (acc : Access) : Statement (.ksOvrClr acc) := fun _ _ h => absurd h List.not_mem_nil
theorem gptpSync (portB : Bool) (gm : BitVec 48) (timeNs : Nat) : Statement (.gptpSync portB gm timeNs) := fun _ _ h => absurd h List.not_mem_nil
theorem gptpPdelay (port : Fin 3) (delayNs : Nat) : Statement (.gptpPdelay port delayNs) := fun _ _ h => absurd h List.not_mem_nil
theorem syncTimeout : Statement (.syncTimeout) := fun _ _ h => absurd h List.not_mem_nil
theorem slotOpen (acc : Access) (slotB : Bool) : Statement (.slotOpen acc slotB) := fun _ _ h => absurd h List.not_mem_nil
theorem slotEraseDone (slotB : Bool) : Statement (.slotEraseDone slotB) := fun _ _ h => absurd h List.not_mem_nil
theorem slotData (acc : Access) (data : Word) : Statement (.slotData acc data) := fun _ _ h => absurd h List.not_mem_nil
theorem slotClose (acc : Access) (slotB : Bool) : Statement (.slotClose acc slotB) := fun _ _ h => absurd h List.not_mem_nil
theorem slotVerify (acc : Access) (slotB : Bool) : Statement (.slotVerify acc slotB) := fun _ _ h => absurd h List.not_mem_nil
theorem slotVerifyDone (slotB : Bool) (badPages : List Nat) : Statement (.slotVerifyDone slotB badPages) := fun _ _ h => absurd h List.not_mem_nil
theorem imgLoad (acc : Access) (slotB : Bool) : Statement (.imgLoad acc slotB) := fun _ _ h => absurd h List.not_mem_nil
theorem imgLoadDone (badPages : List Nat) : Statement (.imgLoadDone badPages) := fun _ _ h => absurd h List.not_mem_nil
theorem imgArm (acc : Access) : Statement (.imgArm acc) := fun _ _ h => absurd h List.not_mem_nil
theorem imgDisarm (acc : Access) : Statement (.imgDisarm acc) := fun _ _ h => absurd h List.not_mem_nil
theorem imgDiscard (acc : Access) : Statement (.imgDiscard acc) := fun _ _ h => absurd h List.not_mem_nil
theorem imgDeactivate (acc : Access) : Statement (.imgDeactivate acc) := fun _ _ h => absurd h List.not_mem_nil
theorem deactivateDone : Statement (.deactivateDone) := fun _ _ h => absurd h List.not_mem_nil
theorem imgAccept (acc : Access) : Statement (.imgAccept acc) := fun _ _ h => absurd h List.not_mem_nil
theorem rebuildStart : Statement (.rebuildStart) := fun _ _ h => absurd h List.not_mem_nil
theorem activation : Statement (.activation) := fun _ _ h => absurd h List.not_mem_nil
theorem sigLock (acc : Access) : Statement (.sigLock acc) := fun _ _ h => absurd h List.not_mem_nil
theorem stoneScrub (stone : Fin 32) (word : Fin 32768) (found : ScrubFind) : Statement (.stoneScrub stone word found) := fun _ _ h => absurd h List.not_mem_nil
theorem memoryScrub (mem : ScrubMem) (word : Nat) (found : ScrubFind) : Statement (.memoryScrub mem word found) := fun _ _ h => absurd h List.not_mem_nil
theorem engCntClr (acc : Access) : Statement (.engCntClr acc) := fun _ _ h => absurd h List.not_mem_nil
theorem engPeakClr (acc : Access) : Statement (.engPeakClr acc) := fun _ _ h => absurd h List.not_mem_nil
theorem paramWrite (acc : Access) (offset : Fin 65536) (width : Fin 3) (value : Word) : Statement (.paramWrite acc offset width value) := fun _ _ h => absurd h List.not_mem_nil
theorem swapArm (acc : Access) (space : Fin 8) : Statement (.swapArm acc space) := fun _ _ h => absurd h List.not_mem_nil
theorem swapDisarm (acc : Access) (space : Fin 8) : Statement (.swapDisarm acc space) := fun _ _ h => absurd h List.not_mem_nil
theorem swapRevert (acc : Access) (space : Fin 8) : Statement (.swapRevert acc space) := fun _ _ h => absurd h List.not_mem_nil
theorem swapStage (space : Fin 8) : Statement (.swapStage space) := fun _ _ h => absurd h List.not_mem_nil
theorem swapFire (space : Fin 8) : Statement (.swapFire space) := fun _ _ h => absurd h List.not_mem_nil
theorem latchArm (acc : Access) : Statement (.latchArm acc) := fun _ _ h => absurd h List.not_mem_nil
theorem latchDisarm (acc : Access) : Statement (.latchDisarm acc) := fun _ _ h => absurd h List.not_mem_nil
theorem holdClr (acc : Access) : Statement (.holdClr acc) := fun _ _ h => absurd h List.not_mem_nil
theorem meterLatch : Statement (.meterLatch) := fun _ _ h => absurd h List.not_mem_nil
theorem pfirLoad (acc : Access) (id : Fin 4096) (ch : Fin 8) : Statement (.pfirLoad acc id ch) := fun _ _ h => absurd h List.not_mem_nil
theorem pfirLoadDone : Statement (.pfirLoadDone) := fun _ _ h => absurd h List.not_mem_nil
theorem srcAbsent (id : Fin 4096) : Statement (.srcAbsent id) := fun _ _ h => absurd h List.not_mem_nil
theorem srcSettled (id : Fin 4096) : Statement (.srcSettled id) := fun _ _ h => absurd h List.not_mem_nil
theorem srcRampEnd (id : Fin 4096) : Statement (.srcRampEnd id) := fun _ _ h => absurd h List.not_mem_nil
theorem recFreeze (acc : Access) : Statement (.recFreeze acc) := fun _ _ h => absurd h List.not_mem_nil
theorem recRun (acc : Access) : Statement (.recRun acc) := fun _ _ h => absurd h List.not_mem_nil
theorem recFrozen : Statement (.recFrozen) := fun _ _ h => absurd h List.not_mem_nil
theorem msgOpen (acc : Access) (number : Fin 1024) : Statement (.msgOpen acc number) := fun _ _ h => absurd h List.not_mem_nil
theorem msgData (acc : Access) (data : Word) : Statement (.msgData acc data) := fun _ _ h => absurd h List.not_mem_nil
theorem msgClose (acc : Access) (number : Fin 1024) : Statement (.msgClose acc number) := fun _ _ h => absurd h List.not_mem_nil
theorem msgVerify (acc : Access) (number : Fin 1024) : Statement (.msgVerify acc number) := fun _ _ h => absurd h List.not_mem_nil
theorem msgDelete (acc : Access) (number : Fin 1024) : Statement (.msgDelete acc number) := fun _ _ h => absurd h List.not_mem_nil
theorem msgOpDone : Statement (.msgOpDone) := fun _ _ h => absurd h List.not_mem_nil
theorem ovrInputAccept (pinA : Bool) (pinB : Bool) : Statement (.ovrInputAccept pinA pinB) := fun _ _ h => absurd h List.not_mem_nil
theorem ovrDiscExpire : Statement (.ovrDiscExpire) := fun _ _ h => absurd h List.not_mem_nil
theorem ovrStatUpdate : Statement (.ovrStatUpdate) := fun _ _ h => absurd h List.not_mem_nil
theorem audioFrame (portB : Bool) (frame : List Byte) : Statement (.audioFrame portB frame) := fun _ _ h => absurd h List.not_mem_nil
theorem headLaunch (west : Bool) (k : Fin 16) : Statement (.headLaunch west k) := fun _ _ h => absurd h List.not_mem_nil
theorem frameGenerate (west : Bool) (k : Fin 16) : Statement (.frameGenerate west k) := fun _ _ h => absurd h List.not_mem_nil
theorem dpAgeClr (acc : Access) : Statement (.dpAgeClr acc) := fun _ _ h => absurd h List.not_mem_nil
theorem dpCntClr (acc : Access) : Statement (.dpCntClr acc) := fun _ _ h => absurd h List.not_mem_nil
theorem beaconRx (portB : Bool) (frame : List Byte) : Statement (.beaconRx portB frame) := fun _ _ h => absurd h List.not_mem_nil
theorem claimRx (portB : Bool) (frame : List Byte) : Statement (.claimRx portB frame) := fun _ _ h => absurd h List.not_mem_nil
theorem rollRx (portB : Bool) (frame : List Byte) : Statement (.rollRx portB frame) := fun _ _ h => absurd h List.not_mem_nil
theorem reportRx (portB : Bool) (frame : List Byte) : Statement (.reportRx portB frame) := fun _ _ h => absurd h List.not_mem_nil
theorem planRx (portB : Bool) (frame : List Byte) : Statement (.planRx portB frame) := fun _ _ h => absurd h List.not_mem_nil
theorem planEffective : Statement (.planEffective) := fun _ _ h => absurd h List.not_mem_nil
theorem segmentRx (portB : Bool) (frame : List Byte) : Statement (.segmentRx portB frame) := fun _ _ h => absurd h List.not_mem_nil
theorem probeRx (portB : Bool) (frame : List Byte) : Statement (.probeRx portB frame) := fun _ _ h => absurd h List.not_mem_nil
theorem timingReqRx (portB : Bool) (frame : List Byte) : Statement (.timingReqRx portB frame) := fun _ _ h => absurd h List.not_mem_nil
theorem timingAckRx (portB : Bool) (frame : List Byte) : Statement (.timingAckRx portB frame) := fun _ _ h => absurd h List.not_mem_nil
theorem timingAssertRx (portB : Bool) (frame : List Byte) : Statement (.timingAssertRx portB frame) := fun _ _ h => absurd h List.not_mem_nil
theorem timingSwitch : Statement (.timingSwitch) := fun _ _ h => absurd h List.not_mem_nil
theorem timingLapse : Statement (.timingLapse) := fun _ _ h => absurd h List.not_mem_nil
theorem stepReqRx (portB : Bool) (frame : List Byte) : Statement (.stepReqRx portB frame) := fun _ _ h => absurd h List.not_mem_nil
theorem stepGoRx (portB : Bool) (frame : List Byte) : Statement (.stepGoRx portB frame) := fun _ _ h => absurd h List.not_mem_nil
theorem stepDoneRx (portB : Bool) (frame : List Byte) : Statement (.stepDoneRx portB frame) := fun _ _ h => absurd h List.not_mem_nil
theorem stepDenyRx (portB : Bool) (frame : List Byte) : Statement (.stepDenyRx portB frame) := fun _ _ h => absurd h List.not_mem_nil
theorem stepFailRx (portB : Bool) (frame : List Byte) : Statement (.stepFailRx portB frame) := fun _ _ h => absurd h List.not_mem_nil
theorem stepRetrain : Statement (.stepRetrain) := fun _ _ h => absurd h List.not_mem_nil
theorem stepLinkUp (portB : Bool) : Statement (.stepLinkUp portB) := fun _ _ h => absurd h List.not_mem_nil
theorem stepTimeout (portB : Bool) : Statement (.stepTimeout portB) := fun _ _ h => absurd h List.not_mem_nil
theorem sleepRx (portB : Bool) (frame : List Byte) : Statement (.sleepRx portB frame) := fun _ _ h => absurd h List.not_mem_nil
theorem sleepEnter : Statement (.sleepEnter) := fun _ _ h => absurd h List.not_mem_nil
theorem wakeRx (portB : Bool) (frame : List Byte) : Statement (.wakeRx portB frame) := fun _ _ h => absurd h List.not_mem_nil
theorem snapshotRx (portB : Bool) (frame : List Byte) : Statement (.snapshotRx portB frame) := fun _ _ h => absurd h List.not_mem_nil
theorem controlFrameBad (portB : Bool) (frame : List Byte) : Statement (.controlFrameBad portB frame) := fun _ _ h => absurd h List.not_mem_nil
theorem listenTimeout : Statement (.listenTimeout) := fun _ _ h => absurd h List.not_mem_nil
theorem claimRepeat : Statement (.claimRepeat) := fun _ _ h => absurd h List.not_mem_nil
theorem waitingTimeout : Statement (.waitingTimeout) := fun _ _ h => absurd h List.not_mem_nil
theorem followerTimeout : Statement (.followerTimeout) := fun _ _ h => absurd h List.not_mem_nil
theorem standbyTakeover : Statement (.standbyTakeover) := fun _ _ h => absurd h List.not_mem_nil
theorem beaconSend : Statement (.beaconSend) := fun _ _ h => absurd h List.not_mem_nil
theorem reportSend : Statement (.reportSend) := fun _ _ h => absurd h List.not_mem_nil
theorem planBuildTimeout : Statement (.planBuildTimeout) := fun _ _ h => absurd h List.not_mem_nil
theorem planResend : Statement (.planResend) := fun _ _ h => absurd h List.not_mem_nil
theorem headLaunchExpire : Statement (.headLaunchExpire) := fun _ _ h => absurd h List.not_mem_nil
theorem segmentSilence (portB : Bool) : Statement (.segmentSilence portB) := fun _ _ h => absurd h List.not_mem_nil
theorem linkDown (port : Fin 3) : Statement (.linkDown port) := fun _ _ h => absurd h List.not_mem_nil
theorem linkUp (port : Fin 3) (speed : Fin 3) (advert : Fin 8) : Statement (.linkUp port speed advert) := fun _ _ h => absurd h List.not_mem_nil
theorem holdOffDone (portB : Bool) : Statement (.holdOffDone portB) := fun _ _ h => absurd h List.not_mem_nil
theorem probeSend (portB : Bool) : Statement (.probeSend portB) := fun _ _ h => absurd h List.not_mem_nil
theorem segmentRerollTimeout : Statement (.segmentRerollTimeout) := fun _ _ h => absurd h List.not_mem_nil
theorem silenceResume : Statement (.silenceResume) := fun _ _ h => absurd h List.not_mem_nil
theorem ringCommit (acc : Access) : Statement (.ringCommit acc) := fun _ _ h => absurd h List.not_mem_nil
theorem ringTmReq (acc : Access) : Statement (.ringTmReq acc) := fun _ _ h => absurd h List.not_mem_nil
theorem ringLeave (acc : Access) : Statement (.ringLeave acc) := fun _ _ h => absurd h List.not_mem_nil
theorem ringReroll (acc : Access) : Statement (.ringReroll acc) := fun _ _ h => absurd h List.not_mem_nil
theorem ringSleep (acc : Access) : Statement (.ringSleep acc) := fun _ _ h => absurd h List.not_mem_nil
theorem ringWake (acc : Access) : Statement (.ringWake acc) := fun _ _ h => absurd h List.not_mem_nil
theorem portModeWrite (acc : Access) (port : Fin 3) (mode : Fin 8) : Statement (.portModeWrite acc port mode) := fun _ _ h => absurd h List.not_mem_nil
theorem speedLowerReq (port : Fin 3) : Statement (.speedLowerReq port) := fun _ _ h => absurd h List.not_mem_nil
theorem speedRaiseReq (port : Fin 3) : Statement (.speedRaiseReq port) := fun _ _ h => absurd h List.not_mem_nil
theorem pauseRx (port : Fin 3) (frame : List Byte) : Statement (.pauseRx port frame) := fun _ _ h => absurd h List.not_mem_nil
theorem pauseBreak (port : Fin 3) : Statement (.pauseBreak port) := fun _ _ h => absurd h List.not_mem_nil
theorem pauseRecover (port : Fin 3) : Statement (.pauseRecover port) := fun _ _ h => absurd h List.not_mem_nil
theorem aafRx (port : Fin 3) (frame : List Byte) : Statement (.aafRx port frame) := fun _ _ h => absurd h List.not_mem_nil
theorem aafTx : Statement (.aafTx) := fun _ _ h => absurd h List.not_mem_nil
theorem aafStreamEnable (acc : Access) (stream : Fin 16) : Statement (.aafStreamEnable acc stream) := fun _ _ h => absurd h List.not_mem_nil
theorem aecpCommand (port : Fin 3) (frame : List Byte) : Statement (.aecpCommand port frame) := fun _ _ h => absurd h List.not_mem_nil
theorem acmpCommand (port : Fin 3) (frame : List Byte) : Statement (.acmpCommand port frame) := fun _ _ h => absurd h List.not_mem_nil
theorem adpDiscover (port : Fin 3) (frame : List Byte) : Statement (.adpDiscover port frame) := fun _ _ h => absurd h List.not_mem_nil
theorem adpAvailable : Statement (.adpAvailable) := fun _ _ h => absurd h List.not_mem_nil
theorem sbusRx (frame : SbusFrame) : Statement (.sbusRx frame) := fun _ _ h => absurd h List.not_mem_nil
theorem sbusTxHead (acc : Access) (value : Word) : Statement (.sbusTxHead acc value) := fun _ _ h => absurd h List.not_mem_nil
theorem sbusTxDone (result : SbusSent) : Statement (.sbusTxDone result) := fun _ _ h => absurd h List.not_mem_nil
theorem sbusRxTail (acc : Access) (value : Word) : Statement (.sbusRxTail acc value) := fun _ _ h => absurd h List.not_mem_nil
theorem plcaLoss : Statement (.plcaLoss) := fun _ _ h => absurd h List.not_mem_nil
theorem plcaBeacon : Statement (.plcaBeacon) := fun _ _ h => absurd h List.not_mem_nil
theorem snapSend (acc : Access) : Statement (.snapSend acc) := fun _ _ h => absurd h List.not_mem_nil
theorem snapLocal (acc : Access) : Statement (.snapLocal acc) := fun _ _ h => absurd h List.not_mem_nil
theorem snapshotFire : Statement (.snapshotFire) := fun _ _ h => absurd h List.not_mem_nil
theorem chArm (acc : Access) (n : Fin 8) : Statement (.chArm acc n) := fun _ _ h => absurd h List.not_mem_nil
theorem chRelease (acc : Access) (n : Fin 8) (timed : Bool) : Statement (.chRelease acc n timed) := fun _ _ h => absurd h List.not_mem_nil
theorem chMute (acc : Access) (n : Fin 8) (timed : Bool) : Statement (.chMute acc n timed) := fun _ _ h => absurd h List.not_mem_nil
theorem chDisarm (acc : Access) (n : Fin 8) : Statement (.chDisarm acc n) := fun _ _ h => absurd h List.not_mem_nil
theorem releaseDue (n : Fin 8) : Statement (.releaseDue n) := fun _ _ h => absurd h List.not_mem_nil
theorem releaseEdge (n : Fin 8) : Statement (.releaseEdge n) := fun _ _ h => absurd h List.not_mem_nil
theorem muteDue (n : Fin 8) : Statement (.muteDue n) := fun _ _ h => absurd h List.not_mem_nil
theorem muteEnd (n : Fin 8) : Statement (.muteEnd n) := fun _ _ h => absurd h List.not_mem_nil
theorem modulatorSample (n : Fin 8) (vA : Int) (vB : Int) (i : Int) (rail : DriveSense) : Statement (.modulatorSample n vA vB i rail) := fun _ _ h => absurd h List.not_mem_nil
theorem loadShort (n : Fin 8) : Statement (.loadShort n) := fun _ _ h => absurd h List.not_mem_nil
theorem swApply (acc : Access) : Statement (.swApply acc) := fun _ _ h => absurd h List.not_mem_nil
theorem swRampEnd : Statement (.swRampEnd) := fun _ _ h => absurd h List.not_mem_nil
theorem clkFailover : Statement (.clkFailover) := fun _ _ h => absurd h List.not_mem_nil
theorem clkReturn (ramp : Bool) : Statement (.clkReturn ramp) := fun _ _ h => absurd h List.not_mem_nil
theorem clkLost : Statement (.clkLost) := fun _ _ h => absurd h List.not_mem_nil
theorem phaseLoss (n : Fin 8) (phase : Fin 4) : Statement (.phaseLoss n phase) := fun _ _ h => absurd h List.not_mem_nil
theorem bstPhaseLoss (k : Fin 4) (phase : Fin 3) : Statement (.bstPhaseLoss k phase) := fun _ _ h => absurd h List.not_mem_nil
theorem railOv (k : Fin 4) : Statement (.railOv k) := fun _ _ h => absurd h List.not_mem_nil
theorem railLow (k : Fin 4) : Statement (.railLow k) := fun _ _ h => absurd h List.not_mem_nil
theorem fallbackEnd (n : Fin 8) : Statement (.fallbackEnd n) := fun _ _ h => absurd h List.not_mem_nil
theorem thermalUpdate : Statement (.thermalUpdate) := fun _ _ h => absurd h List.not_mem_nil
theorem rmeasUpdate : Statement (.rmeasUpdate) := fun _ _ h => absurd h List.not_mem_nil
theorem dcFault (n : Fin 8) : Statement (.dcFault n) := fun _ _ h => absurd h List.not_mem_nil
theorem protSelectWrite (acc : Access) (n : Fin 8) (value : Word) : Statement (.protSelectWrite acc n value) := fun _ _ h => absurd h List.not_mem_nil
theorem diagStart (acc : Access) : Statement (.diagStart acc) := fun _ _ h => absurd h List.not_mem_nil
theorem diagAbort (acc : Access) : Statement (.diagAbort acc) := fun _ _ h => absurd h List.not_mem_nil
theorem diagReadyTimeout : Statement (.diagReadyTimeout) := fun _ _ h => absurd h List.not_mem_nil
theorem diagDwellEnd : Statement (.diagDwellEnd) := fun _ _ h => absurd h List.not_mem_nil
theorem diagChannelEnd : Statement (.diagChannelEnd) := fun _ _ h => absurd h List.not_mem_nil
theorem acouMeasEnd : Statement (.acouMeasEnd) := fun _ _ h => absurd h List.not_mem_nil
theorem diagRunEnd : Statement (.diagRunEnd) := fun _ _ h => absurd h List.not_mem_nil
theorem adcGainApply (n : Fin 4) : Statement (.adcGainApply n) := fun _ _ h => absurd h List.not_mem_nil
theorem adcSync (acc : Access) : Statement (.adcSync acc) := fun _ _ h => absurd h List.not_mem_nil
theorem adcSettled (n : Fin 4) : Statement (.adcSettled n) := fun _ _ h => absurd h List.not_mem_nil
theorem adcRampEnd (n : Fin 4) : Statement (.adcRampEnd n) := fun _ _ h => absurd h List.not_mem_nil
theorem outStart (acc : Access) (n : Fin 4) : Statement (.outStart acc n) := fun _ _ h => absurd h List.not_mem_nil
theorem outStop (acc : Access) (n : Fin 4) : Statement (.outStop acc n) := fun _ _ h => absurd h List.not_mem_nil
theorem outRampEnd (n : Fin 4) : Statement (.outRampEnd n) := fun _ _ h => absurd h List.not_mem_nil
theorem outPowerUpEnd (n : Fin 4) : Statement (.outPowerUpEnd n) := fun _ _ h => absurd h List.not_mem_nil
theorem outPowerDownEnd (n : Fin 4) : Statement (.outPowerDownEnd n) := fun _ _ h => absurd h List.not_mem_nil
theorem cpFail : Statement (.cpFail) := fun _ _ h => absurd h List.not_mem_nil
theorem cpRecover : Statement (.cpRecover) := fun _ _ h => absurd h List.not_mem_nil
theorem outShort (n : Fin 4) : Statement (.outShort n) := fun _ _ h => absurd h List.not_mem_nil
theorem jackAccept (input : Fin 7) (high : Bool) : Statement (.jackAccept input high) := fun _ _ h => absurd h List.not_mem_nil
theorem aesLock : Statement (.aesLock) := fun _ _ h => absurd h List.not_mem_nil
theorem aesLockLoss : Statement (.aesLockLoss) := fun _ _ h => absurd h List.not_mem_nil
theorem aesSubframe (b : Bool) (index : Fin 192) (sample : BitVec 24) (cs : Bool) (validity : Bool) (parity : Bool) (code : Bool) : Statement (.aesSubframe b index sample cs validity parity code) := fun _ _ h => absurd h List.not_mem_nil
theorem aesBlockEnd : Statement (.aesBlockEnd) := fun _ _ h => absurd h List.not_mem_nil
theorem nonaudioEnd : Statement (.nonaudioEnd) := fun _ _ h => absurd h List.not_mem_nil
theorem sapEnable (acc : Access) (n : Fin 3) : Statement (.sapEnable acc n) := fun _ _ h => absurd h List.not_mem_nil
theorem sapFrame (n : Fin 3) (rx : List Nat) (clocks : Bool) : Statement (.sapFrame n rx clocks) := fun _ _ h => absurd h List.not_mem_nil
theorem sapLock (n : Fin 3) : Statement (.sapLock n) := fun _ _ h => absurd h List.not_mem_nil
theorem sapLockLoss (n : Fin 3) : Statement (.sapLockLoss n) := fun _ _ h => absurd h List.not_mem_nil
theorem dmaEnable (acc : Access) (n : Fin 3) (playback : Bool) : Statement (.dmaEnable acc n playback) := fun _ _ h => absurd h List.not_mem_nil
theorem capRdWrite (acc : Access) (n : Fin 3) (value : Word) : Statement (.capRdWrite acc n value) := fun _ _ h => absurd h List.not_mem_nil
theorem pbWrWrite (acc : Access) (n : Fin 3) (value : Word) : Statement (.pbWrWrite acc n value) := fun _ _ h => absurd h List.not_mem_nil
theorem rateMeasure (unit : Fin 4) (rate : Fin 33554432) : Statement (.rateMeasure unit rate) := fun _ _ h => absurd h List.not_mem_nil
theorem auxUpdate (n : Fin 4) : Statement (.auxUpdate n) := fun _ _ h => absurd h List.not_mem_nil
theorem auxQueueWrite (acc : Access) (n : Fin 4) (value : Word) : Statement (.auxQueueWrite acc n value) := fun _ _ h => absurd h List.not_mem_nil
theorem auxFlush (acc : Access) (n : Fin 4) : Statement (.auxFlush acc n) := fun _ _ h => absurd h List.not_mem_nil
theorem auxSync (acc : Access) (n : Fin 4) : Statement (.auxSync acc n) := fun _ _ h => absurd h List.not_mem_nil
theorem auxModeReq (acc : Access) (n : Fin 4) (mode : Fin 4) : Statement (.auxModeReq acc n mode) := fun _ _ h => absurd h List.not_mem_nil
theorem auxEnable (acc : Access) (n : Fin 4) : Statement (.auxEnable acc n) := fun _ _ h => absurd h List.not_mem_nil
theorem auxDisable (acc : Access) (n : Fin 4) : Statement (.auxDisable acc n) := fun _ _ h => absurd h List.not_mem_nil
theorem auxStartEnd (n : Fin 4) : Statement (.auxStartEnd n) := fun _ _ h => absurd h List.not_mem_nil
theorem auxShort (n : Fin 4) : Statement (.auxShort n) := fun _ _ h => absurd h List.not_mem_nil
theorem refLoss : Statement (.refLoss) := fun _ _ h => absurd h List.not_mem_nil
theorem refReturn (xtal : Bool) : Statement (.refReturn xtal) := fun _ _ h => absurd h List.not_mem_nil
theorem pllStart (p : Fin 3) : Statement (.pllStart p) := fun _ _ h => absurd h List.not_mem_nil
theorem pllLock (p : Fin 3) : Statement (.pllLock p) := fun _ _ h => absurd h List.not_mem_nil
theorem pllLockLoss (p : Fin 3) : Statement (.pllLockLoss p) := fun _ _ h => absurd h List.not_mem_nil
theorem pllHoldEnd (p : Fin 3) : Statement (.pllHoldEnd p) := fun _ _ h => absurd h List.not_mem_nil
theorem pllBwChange (p : Fin 3) : Statement (.pllBwChange p) := fun _ _ h => absurd h List.not_mem_nil
theorem phaseStepWrite (acc : Access) (p : Fin 3) (value : Word) : Statement (.phaseStepWrite acc p value) := fun _ _ h => absurd h List.not_mem_nil
theorem phaseStepUnit (p : Fin 3) : Statement (.phaseStepUnit p) := fun _ _ h => absurd h List.not_mem_nil
theorem rampLoad (p : Fin 3) (segs : List (Word × Word)) : Statement (.rampLoad p segs) := fun _ _ h => absurd h List.not_mem_nil
theorem rampSegmentEnd (p : Fin 3) : Statement (.rampSegmentEnd p) := fun _ _ h => absurd h List.not_mem_nil
theorem mclkConfig (n : Fin 2) : Statement (.mclkConfig n) := fun _ _ h => absurd h List.not_mem_nil
theorem spiRead (count : Fin 512) (width : Fin 4) (addr : Word) (crcOk : Bool) : Statement (.spiRead count width addr crcOk) := fun _ _ h => absurd h List.not_mem_nil
theorem spiWrite (count : Fin 512) (width : Fin 4) (addr : Word) (data : List Byte) (crcOk : Bool) : Statement (.spiWrite count width addr data crcOk) := fun _ _ h => absurd h List.not_mem_nil
theorem spiReadFix (count : Fin 512) (width : Fin 4) (addr : Word) (crcOk : Bool) : Statement (.spiReadFix count width addr crcOk) := fun _ _ h => absurd h List.not_mem_nil
theorem spiWriteFix (count : Fin 512) (width : Fin 4) (addr : Word) (data : List Byte) (crcOk : Bool) : Statement (.spiWriteFix count width addr data crcOk) := fun _ _ h => absurd h List.not_mem_nil
theorem spiStatus (crcOk : Bool) : Statement (.spiStatus crcOk) := fun _ _ h => absurd h List.not_mem_nil
theorem spiRepeat (crcOk : Bool) : Statement (.spiRepeat crcOk) := fun _ _ h => absurd h List.not_mem_nil
theorem spiCsAbort : Statement (.spiCsAbort) := fun _ _ h => absurd h List.not_mem_nil
theorem flaryDiscover (q : FlaryReq) : Statement (.flaryDiscover q) := fun h r hr => ok_sizes r (List.mem_singleton.mp hr ▸ h)
theorem flaryRead (q : FlaryReq) : Statement (.flaryRead q) := fun h r hr => ok_sizes r (List.mem_singleton.mp hr ▸ h)
theorem flaryWrite (q : FlaryReq) : Statement (.flaryWrite q) := fun h r hr => ok_sizes r (List.mem_singleton.mp hr ▸ h)
theorem flaryReadFix (q : FlaryReq) : Statement (.flaryReadFix q) := fun h r hr => ok_sizes r (List.mem_singleton.mp hr ▸ h)
theorem flaryWriteFix (q : FlaryReq) : Statement (.flaryWriteFix q) := fun h r hr => ok_sizes r (List.mem_singleton.mp hr ▸ h)
theorem flaryEventSub (q : FlaryReq) : Statement (.flaryEventSub q) := fun h r hr => ok_sizes r (List.mem_singleton.mp hr ▸ h)
theorem flaryEventSend (sub : Nat) : Statement (.flaryEventSend sub) := fun _ _ h => absurd h List.not_mem_nil
theorem flarySubLapse (sub : Nat) : Statement (.flarySubLapse sub) := fun _ _ h => absurd h List.not_mem_nil
theorem slotXferOpen (q : FlaryReq) : Statement (.slotXferOpen q) := fun h r hr => ok_sizes r (List.mem_singleton.mp hr ▸ h)
theorem slotXferData (q : FlaryReq) : Statement (.slotXferData q) := fun h r hr => ok_sizes r (List.mem_singleton.mp hr ▸ h)
theorem slotXferClose (q : FlaryReq) : Statement (.slotXferClose q) := fun h r hr => ok_sizes r (List.mem_singleton.mp hr ▸ h)
theorem slotXferVerify (q : FlaryReq) : Statement (.slotXferVerify q) := fun h r hr => ok_sizes r (List.mem_singleton.mp hr ▸ h)
theorem msgXferOpen (q : FlaryReq) : Statement (.msgXferOpen q) := fun h r hr => ok_sizes r (List.mem_singleton.mp hr ▸ h)
theorem msgXferData (q : FlaryReq) : Statement (.msgXferData q) := fun h r hr => ok_sizes r (List.mem_singleton.mp hr ▸ h)
theorem msgXferClose (q : FlaryReq) : Statement (.msgXferClose q) := fun h r hr => ok_sizes r (List.mem_singleton.mp hr ▸ h)
theorem msgXferVerify (q : FlaryReq) : Statement (.msgXferVerify q) := fun h r hr => ok_sizes r (List.mem_singleton.mp hr ▸ h)
theorem msgXferDelete (q : FlaryReq) : Statement (.msgXferDelete q) := fun h r hr => ok_sizes r (List.mem_singleton.mp hr ▸ h)
theorem flaryLogRead (q : FlaryReq) : Statement (.flaryLogRead q) := fun h r hr => ok_sizes r (List.mem_singleton.mp hr ▸ h)
theorem flaryTelemetry (q : FlaryReq) : Statement (.flaryTelemetry q) := fun h r hr => ok_sizes r (List.mem_singleton.mp hr ▸ h)
theorem flaryResponse (q : FlaryReq) : Statement (.flaryResponse q) := fun h r hr => ok_sizes r (List.mem_singleton.mp hr ▸ h)
theorem tenAlloc (acc : Access) (mib : Fin 8192) : Statement (.tenAlloc acc mib) := fun _ _ h => absurd h List.not_mem_nil
theorem tenFree (acc : Access) (handle : Fin 16) : Statement (.tenFree acc handle) := fun _ _ h => absurd h List.not_mem_nil
theorem tenHold (acc : Access) (id : Fin 4096) : Statement (.tenHold acc id) := fun _ _ h => absurd h List.not_mem_nil
theorem tenRelease (acc : Access) (id : Fin 4096) : Statement (.tenRelease acc id) := fun _ _ h => absurd h List.not_mem_nil
theorem tenEvict (acc : Access) (ten : Fin 8) : Statement (.tenEvict acc ten) := fun _ _ h => absurd h List.not_mem_nil
theorem dramWinWrite (acc : Access) (value : Word) : Statement (.dramWinWrite acc value) := fun _ _ h => absurd h List.not_mem_nil
theorem capWrite (acc : Access) (ten : Fin 8) (cap : Fin 4) (value : Word) : Statement (.capWrite acc ten cap value) := fun _ _ h => absurd h List.not_mem_nil
theorem semRead (acc : Access) (n : Fin 64) : Statement (.semRead acc n) := fun _ _ h => absurd h List.not_mem_nil
theorem semWait (acc : Access) (n : Fin 64) : Statement (.semWait acc n) := fun _ _ h => absurd h List.not_mem_nil
theorem semWaitTimeout (n : Fin 64) : Statement (.semWaitTimeout n) := fun _ _ h => absurd h List.not_mem_nil
theorem semRel (acc : Access) (n : Fin 64) : Statement (.semRel acc n) := fun _ _ h => absurd h List.not_mem_nil
theorem semLeaseExpire (n : Fin 64) : Statement (.semLeaseExpire n) := fun _ _ h => absurd h List.not_mem_nil
theorem watchdogExpire (core : Fin 4) : Statement (.watchdogExpire core) := fun _ _ h => absurd h List.not_mem_nil
theorem dawRead (addr : Word) : Statement (.dawRead addr) := fun _ _ h => absurd h List.not_mem_nil
theorem dawWrite (addr : Word) (data : Word) : Statement (.dawWrite addr data) := fun _ _ h => absurd h List.not_mem_nil
theorem dawReadNext : Statement (.dawReadNext) := fun _ _ h => absurd h List.not_mem_nil
theorem dawWriteNext (data : Word) : Statement (.dawWriteNext data) := fun _ _ h => absurd h List.not_mem_nil
theorem extest : Statement (.extest) := fun _ _ h => absurd h List.not_mem_nil
theorem clamp : Statement (.clamp) := fun _ _ h => absurd h List.not_mem_nil
theorem highz : Statement (.highz) := fun _ _ h => absurd h List.not_mem_nil
theorem idcode : Statement (.idcode) := fun _ _ h => absurd h List.not_mem_nil
theorem samplePreload : Statement (.samplePreload) := fun _ _ h => absurd h List.not_mem_nil
theorem bypass : Statement (.bypass) := fun _ _ h => absurd h List.not_mem_nil
theorem tapReset : Statement (.tapReset) := fun _ _ h => absurd h List.not_mem_nil
theorem coreHalt (acc : Access) (mask : Fin 16) : Statement (.coreHalt acc mask) := fun _ _ h => absurd h List.not_mem_nil
theorem coreResume (acc : Access) (mask : Fin 16) : Statement (.coreResume acc mask) := fun _ _ h => absurd h List.not_mem_nil
theorem semBreak (acc : Access) (n : Fin 64) : Statement (.semBreak acc n) := fun _ _ h => absurd h List.not_mem_nil
theorem dbgLock (acc : Access) : Statement (.dbgLock acc) := fun _ _ h => absurd h List.not_mem_nil
theorem fltClassWrite (acc : Access) (source : Fin 256) (cls : Fin 4) : Statement (.fltClassWrite acc source cls) := fun _ _ h => absurd h List.not_mem_nil
theorem fltClearHalt (acc : Access) : Statement (.fltClearHalt acc) := fun _ _ h => absurd h List.not_mem_nil
theorem fltClearLoad (acc : Access) (mask : Fin 256) : Statement (.fltClearLoad acc mask) := fun _ _ h => absurd h List.not_mem_nil
theorem fltClearRestart (acc : Access) (halt : Bool) (load : Bool) (mask : Fin 256) : Statement (.fltClearRestart acc halt load mask) := fun _ _ h => absurd h List.not_mem_nil
theorem fltCntClr (acc : Access) : Statement (.fltCntClr acc) := fun _ _ h => absurd h List.not_mem_nil
theorem fltClearEffect : Statement (.fltClearEffect) := fun _ _ h => absurd h List.not_mem_nil
theorem histPop (acc : Access) : Statement (.histPop acc) := fun _ _ h => absurd h List.not_mem_nil
theorem injArm (acc : Access) (target : Fin 16) (mode : Fin 4) (unit : Fin 32) : Statement (.injArm acc target mode unit) := fun _ _ h => absurd h List.not_mem_nil
theorem extFault : Statement (.extFault) := fun _ _ h => absurd h List.not_mem_nil
theorem domainIdleDescend (d : Fin 60) : Statement (.domainIdleDescend d) := fun _ _ h => absurd h List.not_mem_nil
theorem domainDemandWake (d : Fin 60) : Statement (.domainDemandWake d) := fun _ _ h => absurd h List.not_mem_nil
theorem domainWakeDone (d : Fin 60) : Statement (.domainWakeDone d) := fun _ _ h => absurd h List.not_mem_nil
theorem domainTargetWrite (acc : Access) (d : Fin 60) (target : Fin 4) : Statement (.domainTargetWrite acc d target) := fun _ _ h => absurd h List.not_mem_nil
theorem domSleep (acc : Access) (storage : Bool) : Statement (.domSleep acc storage) := fun _ _ h => absurd h List.not_mem_nil
theorem sleepEntryReady : Statement (.sleepEntryReady) := fun _ _ h => absurd h List.not_mem_nil
theorem domWake (acc : Access) : Statement (.domWake acc) := fun _ _ h => absurd h List.not_mem_nil
theorem wakeNPin : Statement (.wakeNPin) := fun _ _ h => absurd h List.not_mem_nil
theorem linkEnergy (port : Fin 3) : Statement (.linkEnergy port) := fun _ _ h => absurd h List.not_mem_nil
theorem sbusActivity : Statement (.sbusActivity) := fun _ _ h => absurd h List.not_mem_nil
theorem storageWakeReady (timeNs : Nat) (sleptMs : Nat) : Statement (.storageWakeReady timeNs sleptMs) := fun _ _ h => absurd h List.not_mem_nil
theorem vl5PowerOff : Statement (.vl5PowerOff) := fun _ _ h => absurd h List.not_mem_nil
theorem faultNWireReleased : Statement (.faultNWireReleased) := fun _ _ h => absurd h List.not_mem_nil
theorem vdrvRecover : Statement (.vdrvRecover) := fun _ _ h => absurd h List.not_mem_nil
theorem powerDieCool (k : Fin 4) : Statement (.powerDieCool k) := fun _ _ h => absurd h List.not_mem_nil
theorem outShortEnd (n : Fin 4) : Statement (.outShortEnd n) := fun _ _ h => absurd h List.not_mem_nil
theorem auxShortEnd (n : Fin 4) : Statement (.auxShortEnd n) := fun _ _ h => absurd h List.not_mem_nil
theorem pauseEnd (port : Fin 3) : Statement (.pauseEnd port) := fun _ _ h => absurd h List.not_mem_nil
theorem portLoadUpdate (port : Fin 3) : Statement (.portLoadUpdate port) := fun _ _ h => absurd h List.not_mem_nil
theorem thermalDeratingUpdate (tc : Int) : Statement (.thermalDeratingUpdate tc) := fun _ _ h => absurd h List.not_mem_nil
theorem firmwareBootDone (copyA : Bool) (copyB : Bool) (version : Word) (ucode : Fin 65536) (bands : List (List Word)) : Statement (.firmwareBootDone copyA copyB version ucode bands) := fun _ _ h => absurd h List.not_mem_nil
theorem dawInstruction : Statement (.dawInstruction) := fun _ _ h => absurd h List.not_mem_nil

end Sys2Proof.Laws.WellFormed
end

