-- ==== Sys2Proof/Laws/Rows.lean ====
section
/-! SUPPORT. The rows of the registers that hosts command through, at the addresses of their arrays. -/
namespace Sys2Proof.Machine.Laws
open Sys2Proof Sys2Proof.Machine

/-- The row of KS_CTRL. -/
def row_KS_CTRL : RegRow := ⟨0x10004, 0x0, 0, 1, 0x0, 1, 0x0, .owner, false, false, [(.wa, 1, 1), (.wa, 0, 0)]⟩
theorem find_KS_CTRL : regFind (Reg.KS_CTRL.addr + Reg.KS_CTRL.s1 * 0) = some (row_KS_CTRL, 0, 0) := by decide
theorem addr_KS_CTRL : (Reg.KS_CTRL.addr + Reg.KS_CTRL.s1 * 0) % 4 = 0 ∧ inRegs (Reg.KS_CTRL.addr + Reg.KS_CTRL.s1 * 0) = true ∧ (Reg.KS_CTRL.addr + Reg.KS_CTRL.s1 * 0) / 65536 = 1 := by decide
/-- The row of KS_ALARMn_CTRL. -/
def row_KS_ALARMn_CTRL : RegRow := ⟨0x10048, 0x10, 0, 4, 0x0, 1, 0x0, .owner, false, false, [(.wa, 1, 1), (.wa, 0, 0)]⟩
theorem find_KS_ALARMn_CTRL : ∀ n : Fin 4, regFind (Reg.KS_ALARMn_CTRL.addr + Reg.KS_ALARMn_CTRL.s1 * n.val) = some (row_KS_ALARMn_CTRL, n.val, 0) := by decide
theorem addr_KS_ALARMn_CTRL : ∀ n : Fin 4, (Reg.KS_ALARMn_CTRL.addr + Reg.KS_ALARMn_CTRL.s1 * n.val) % 4 = 0 ∧ inRegs (Reg.KS_ALARMn_CTRL.addr + Reg.KS_ALARMn_CTRL.s1 * n.val) = true ∧ (Reg.KS_ALARMn_CTRL.addr + Reg.KS_ALARMn_CTRL.s1 * n.val) / 65536 = 1 := by decide
/-- The row of IMG_CTRL. -/
def row_IMG_CTRL : RegRow := ⟨0x20004, 0x0, 0, 1, 0x0, 1, 0x0, .owner, false, false, [(.rw, 8, 8), (.wa, 5, 5), (.wa, 4, 4), (.wa, 3, 3), (.wa, 2, 2), (.wa, 1, 1), (.wa, 0, 0)]⟩
theorem find_IMG_CTRL : regFind (Reg.IMG_CTRL.addr + Reg.IMG_CTRL.s1 * 0) = some (row_IMG_CTRL, 0, 0) := by decide
theorem addr_IMG_CTRL : (Reg.IMG_CTRL.addr + Reg.IMG_CTRL.s1 * 0) % 4 = 0 ∧ inRegs (Reg.IMG_CTRL.addr + Reg.IMG_CTRL.s1 * 0) = true ∧ (Reg.IMG_CTRL.addr + Reg.IMG_CTRL.s1 * 0) / 65536 = 2 := by decide
/-- The row of IMG_SLOT_CTRL. -/
def row_IMG_SLOT_CTRL : RegRow := ⟨0x20048, 0x0, 0, 1, 0x0, 1, 0x0, .owner, false, false, [(.rw, 8, 8), (.wa, 2, 2), (.wa, 1, 1), (.wa, 0, 0)]⟩
theorem find_IMG_SLOT_CTRL : regFind (Reg.IMG_SLOT_CTRL.addr + Reg.IMG_SLOT_CTRL.s1 * 0) = some (row_IMG_SLOT_CTRL, 0, 0) := by decide
theorem addr_IMG_SLOT_CTRL : (Reg.IMG_SLOT_CTRL.addr + Reg.IMG_SLOT_CTRL.s1 * 0) % 4 = 0 ∧ inRegs (Reg.IMG_SLOT_CTRL.addr + Reg.IMG_SLOT_CTRL.s1 * 0) = true ∧ (Reg.IMG_SLOT_CTRL.addr + Reg.IMG_SLOT_CTRL.s1 * 0) / 65536 = 2 := by decide
/-- The row of IMG_SLOT_DATA. -/
def row_IMG_SLOT_DATA : RegRow := ⟨0x2004C, 0x0, 0, 1, 0x0, 1, 0x0, .owner, false, false, [(.wo, 31, 0)]⟩
theorem find_IMG_SLOT_DATA : regFind (Reg.IMG_SLOT_DATA.addr + Reg.IMG_SLOT_DATA.s1 * 0) = some (row_IMG_SLOT_DATA, 0, 0) := by decide
theorem addr_IMG_SLOT_DATA : (Reg.IMG_SLOT_DATA.addr + Reg.IMG_SLOT_DATA.s1 * 0) % 4 = 0 ∧ inRegs (Reg.IMG_SLOT_DATA.addr + Reg.IMG_SLOT_DATA.s1 * 0) = true ∧ (Reg.IMG_SLOT_DATA.addr + Reg.IMG_SLOT_DATA.s1 * 0) / 65536 = 2 := by decide
/-- The row of IMG_SIG. -/
def row_IMG_SIG : RegRow := ⟨0x2003C, 0x0, 0, 1, 0x0, 1, 0x0, .owner, false, true, [(.rw, 1, 1), (.rw, 0, 0)]⟩
theorem find_IMG_SIG : regFind (Reg.IMG_SIG.addr + Reg.IMG_SIG.s1 * 0) = some (row_IMG_SIG, 0, 0) := by decide
theorem addr_IMG_SIG : (Reg.IMG_SIG.addr + Reg.IMG_SIG.s1 * 0) % 4 = 0 ∧ inRegs (Reg.IMG_SIG.addr + Reg.IMG_SIG.s1 * 0) = true ∧ (Reg.IMG_SIG.addr + Reg.IMG_SIG.s1 * 0) / 65536 = 2 := by decide
/-- The row of ENG_CTRL. -/
def row_ENG_CTRL : RegRow := ⟨0x30004, 0x0, 0, 1, 0x0, 1, 0x1, .owner, false, false, [(.wa, 2, 2), (.wa, 1, 1), (.rw, 0, 0)]⟩
theorem find_ENG_CTRL : regFind (Reg.ENG_CTRL.addr + Reg.ENG_CTRL.s1 * 0) = some (row_ENG_CTRL, 0, 0) := by decide
theorem addr_ENG_CTRL : (Reg.ENG_CTRL.addr + Reg.ENG_CTRL.s1 * 0) % 4 = 0 ∧ inRegs (Reg.ENG_CTRL.addr + Reg.ENG_CTRL.s1 * 0) = true ∧ (Reg.ENG_CTRL.addr + Reg.ENG_CTRL.s1 * 0) / 65536 = 3 := by decide
/-- The row of MIX_SWAP_CTRL. -/
def row_MIX_SWAP_CTRL : RegRow := ⟨0x70004, 0x0, 0, 1, 0x0, 1, 0x0, .every, true, false, [(.rw, 10, 8), (.wa, 2, 2), (.wa, 1, 1), (.wa, 0, 0)]⟩
theorem find_MIX_SWAP_CTRL : regFind (Reg.MIX_SWAP_CTRL.addr + Reg.MIX_SWAP_CTRL.s1 * 0) = some (row_MIX_SWAP_CTRL, 0, 0) := by decide
theorem addr_MIX_SWAP_CTRL : (Reg.MIX_SWAP_CTRL.addr + Reg.MIX_SWAP_CTRL.s1 * 0) % 4 = 0 ∧ inRegs (Reg.MIX_SWAP_CTRL.addr + Reg.MIX_SWAP_CTRL.s1 * 0) = true ∧ (Reg.MIX_SWAP_CTRL.addr + Reg.MIX_SWAP_CTRL.s1 * 0) / 65536 = 7 := by decide
/-- The row of MIX_LATCH_CTRL. -/
def row_MIX_LATCH_CTRL : RegRow := ⟨0x70014, 0x0, 0, 1, 0x0, 1, 0x0, .owner, false, false, [(.wa, 2, 2), (.wa, 1, 1), (.wa, 0, 0)]⟩
theorem find_MIX_LATCH_CTRL : regFind (Reg.MIX_LATCH_CTRL.addr + Reg.MIX_LATCH_CTRL.s1 * 0) = some (row_MIX_LATCH_CTRL, 0, 0) := by decide
theorem addr_MIX_LATCH_CTRL : (Reg.MIX_LATCH_CTRL.addr + Reg.MIX_LATCH_CTRL.s1 * 0) % 4 = 0 ∧ inRegs (Reg.MIX_LATCH_CTRL.addr + Reg.MIX_LATCH_CTRL.s1 * 0) = true ∧ (Reg.MIX_LATCH_CTRL.addr + Reg.MIX_LATCH_CTRL.s1 * 0) / 65536 = 7 := by decide
/-- The row of MIX_PFIR_CTRL. -/
def row_MIX_PFIR_CTRL : RegRow := ⟨0x70028, 0x0, 0, 1, 0x0, 1, 0x0, .every, true, false, [(.wa, 31, 31), (.rw, 14, 12), (.rw, 11, 0)]⟩
theorem find_MIX_PFIR_CTRL : regFind (Reg.MIX_PFIR_CTRL.addr + Reg.MIX_PFIR_CTRL.s1 * 0) = some (row_MIX_PFIR_CTRL, 0, 0) := by decide
theorem addr_MIX_PFIR_CTRL : (Reg.MIX_PFIR_CTRL.addr + Reg.MIX_PFIR_CTRL.s1 * 0) % 4 = 0 ∧ inRegs (Reg.MIX_PFIR_CTRL.addr + Reg.MIX_PFIR_CTRL.s1 * 0) = true ∧ (Reg.MIX_PFIR_CTRL.addr + Reg.MIX_PFIR_CTRL.s1 * 0) / 65536 = 7 := by decide
/-- The row of MIX_REC_CTRL. -/
def row_MIX_REC_CTRL : RegRow := ⟨0x70040, 0x0, 0, 1, 0x0, 1, 0x4B0004, .owner, false, false, [(.rw, 27, 8), (.rw, 2, 2), (.wa, 1, 1), (.wa, 0, 0)]⟩
theorem find_MIX_REC_CTRL : regFind (Reg.MIX_REC_CTRL.addr + Reg.MIX_REC_CTRL.s1 * 0) = some (row_MIX_REC_CTRL, 0, 0) := by decide
theorem addr_MIX_REC_CTRL : (Reg.MIX_REC_CTRL.addr + Reg.MIX_REC_CTRL.s1 * 0) % 4 = 0 ∧ inRegs (Reg.MIX_REC_CTRL.addr + Reg.MIX_REC_CTRL.s1 * 0) = true ∧ (Reg.MIX_REC_CTRL.addr + Reg.MIX_REC_CTRL.s1 * 0) / 65536 = 7 := by decide
/-- The row of MIX_MSG_CTRL. -/
def row_MIX_MSG_CTRL : RegRow := ⟨0x70060, 0x0, 0, 1, 0x0, 1, 0x0, .msg, false, false, [(.rw, 25, 16), (.wa, 3, 3), (.wa, 2, 2), (.wa, 1, 1), (.wa, 0, 0)]⟩
theorem find_MIX_MSG_CTRL : regFind (Reg.MIX_MSG_CTRL.addr + Reg.MIX_MSG_CTRL.s1 * 0) = some (row_MIX_MSG_CTRL, 0, 0) := by decide
theorem addr_MIX_MSG_CTRL : (Reg.MIX_MSG_CTRL.addr + Reg.MIX_MSG_CTRL.s1 * 0) % 4 = 0 ∧ inRegs (Reg.MIX_MSG_CTRL.addr + Reg.MIX_MSG_CTRL.s1 * 0) = true ∧ (Reg.MIX_MSG_CTRL.addr + Reg.MIX_MSG_CTRL.s1 * 0) / 65536 = 7 := by decide
/-- The row of MIX_MSG_DATA. -/
def row_MIX_MSG_DATA : RegRow := ⟨0x70064, 0x0, 0, 1, 0x0, 1, 0x0, .msg, false, false, [(.wo, 31, 0)]⟩
theorem find_MIX_MSG_DATA : regFind (Reg.MIX_MSG_DATA.addr + Reg.MIX_MSG_DATA.s1 * 0) = some (row_MIX_MSG_DATA, 0, 0) := by decide
theorem addr_MIX_MSG_DATA : (Reg.MIX_MSG_DATA.addr + Reg.MIX_MSG_DATA.s1 * 0) % 4 = 0 ∧ inRegs (Reg.MIX_MSG_DATA.addr + Reg.MIX_MSG_DATA.s1 * 0) = true ∧ (Reg.MIX_MSG_DATA.addr + Reg.MIX_MSG_DATA.s1 * 0) / 65536 = 7 := by decide
/-- The row of RING_DP_CTRL. -/
def row_RING_DP_CTRL : RegRow := ⟨0x8000C, 0x0, 0, 1, 0x0, 1, 0x1, .owner, false, false, [(.wa, 2, 2), (.wa, 1, 1), (.rw, 0, 0)]⟩
theorem find_RING_DP_CTRL : regFind (Reg.RING_DP_CTRL.addr + Reg.RING_DP_CTRL.s1 * 0) = some (row_RING_DP_CTRL, 0, 0) := by decide
theorem addr_RING_DP_CTRL : (Reg.RING_DP_CTRL.addr + Reg.RING_DP_CTRL.s1 * 0) % 4 = 0 ∧ inRegs (Reg.RING_DP_CTRL.addr + Reg.RING_DP_CTRL.s1 * 0) = true ∧ (Reg.RING_DP_CTRL.addr + Reg.RING_DP_CTRL.s1 * 0) / 65536 = 8 := by decide
/-- The row of RING_CTL_CTRL. -/
def row_RING_CTL_CTRL : RegRow := ⟨0x80818, 0x0, 0, 1, 0x0, 1, 0x0, .owner, false, false, [(.rw, 8, 8), (.wa, 5, 5), (.wa, 4, 4), (.wa, 3, 3), (.wa, 2, 2), (.wa, 1, 1), (.wa, 0, 0)]⟩
theorem find_RING_CTL_CTRL : regFind (Reg.RING_CTL_CTRL.addr + Reg.RING_CTL_CTRL.s1 * 0) = some (row_RING_CTL_CTRL, 0, 0) := by decide
theorem addr_RING_CTL_CTRL : (Reg.RING_CTL_CTRL.addr + Reg.RING_CTL_CTRL.s1 * 0) % 4 = 0 ∧ inRegs (Reg.RING_CTL_CTRL.addr + Reg.RING_CTL_CTRL.s1 * 0) = true ∧ (Reg.RING_CTL_CTRL.addr + Reg.RING_CTL_CTRL.s1 * 0) / 65536 = 8 := by decide
/-- The row of PORT_Pp_CFG. -/
def row_PORT_Pp_CFG : RegRow := ⟨0x90000, 0x20, 0, 3, 0x0, 1, 0x41, .owner, false, false, [(.rw, 6, 6), (.rw, 5, 5), (.rw, 4, 4), (.rw, 3, 1), (.rw, 0, 0)]⟩
theorem find_PORT_Pp_CFG : ∀ n : Fin 3, regFind (Reg.PORT_Pp_CFG.addr + Reg.PORT_Pp_CFG.s1 * n.val) = some (row_PORT_Pp_CFG, n.val, 0) := by decide
theorem addr_PORT_Pp_CFG : ∀ n : Fin 3, (Reg.PORT_Pp_CFG.addr + Reg.PORT_Pp_CFG.s1 * n.val) % 4 = 0 ∧ inRegs (Reg.PORT_Pp_CFG.addr + Reg.PORT_Pp_CFG.s1 * n.val) = true ∧ (Reg.PORT_Pp_CFG.addr + Reg.PORT_Pp_CFG.s1 * n.val) / 65536 = 9 := by decide
/-- The row of PORT_STAT_CTRL. -/
def row_PORT_STAT_CTRL : RegRow := ⟨0x90090, 0x0, 0, 1, 0x0, 1, 0x0, .owner, false, false, [(.wa, 1, 1), (.wa, 0, 0)]⟩
theorem find_PORT_STAT_CTRL : regFind (Reg.PORT_STAT_CTRL.addr + Reg.PORT_STAT_CTRL.s1 * 0) = some (row_PORT_STAT_CTRL, 0, 0) := by decide
theorem addr_PORT_STAT_CTRL : (Reg.PORT_STAT_CTRL.addr + Reg.PORT_STAT_CTRL.s1 * 0) % 4 = 0 ∧ inRegs (Reg.PORT_STAT_CTRL.addr + Reg.PORT_STAT_CTRL.s1 * 0) = true ∧ (Reg.PORT_STAT_CTRL.addr + Reg.PORT_STAT_CTRL.s1 * 0) / 65536 = 9 := by decide
/-- The row of PORT_AAFs_CFG. -/
def row_PORT_AAFs_CFG : RegRow := ⟨0x90200, 0x20, 0, 16, 0x0, 1, 0x0, .avdecc, false, false, [(.rw, 31, 31), (.rw, 30, 30), (.rw, 29, 29), (.rw, 28, 22), (.rw, 21, 19), (.rw, 11, 0)]⟩
theorem find_PORT_AAFs_CFG : ∀ n : Fin 16, regFind (Reg.PORT_AAFs_CFG.addr + Reg.PORT_AAFs_CFG.s1 * n.val) = some (row_PORT_AAFs_CFG, n.val, 0) := by decide
theorem addr_PORT_AAFs_CFG : ∀ n : Fin 16, (Reg.PORT_AAFs_CFG.addr + Reg.PORT_AAFs_CFG.s1 * n.val) % 4 = 0 ∧ inRegs (Reg.PORT_AAFs_CFG.addr + Reg.PORT_AAFs_CFG.s1 * n.val) = true ∧ (Reg.PORT_AAFs_CFG.addr + Reg.PORT_AAFs_CFG.s1 * n.val) / 65536 = 9 := by decide
/-- The row of SBUS_TX_HEAD. -/
def row_SBUS_TX_HEAD : RegRow := ⟨0xA0014, 0x0, 0, 1, 0x0, 1, 0x0, .owner, false, false, [(.rw, 5, 0)]⟩
theorem find_SBUS_TX_HEAD : regFind (Reg.SBUS_TX_HEAD.addr + Reg.SBUS_TX_HEAD.s1 * 0) = some (row_SBUS_TX_HEAD, 0, 0) := by decide
theorem addr_SBUS_TX_HEAD : (Reg.SBUS_TX_HEAD.addr + Reg.SBUS_TX_HEAD.s1 * 0) % 4 = 0 ∧ inRegs (Reg.SBUS_TX_HEAD.addr + Reg.SBUS_TX_HEAD.s1 * 0) = true ∧ (Reg.SBUS_TX_HEAD.addr + Reg.SBUS_TX_HEAD.s1 * 0) / 65536 = 10 := by decide
/-- The row of SBUS_RX_TAIL. -/
def row_SBUS_RX_TAIL : RegRow := ⟨0xA0028, 0x0, 0, 1, 0x0, 1, 0x0, .owner, false, false, [(.rw, 5, 0)]⟩
theorem find_SBUS_RX_TAIL : regFind (Reg.SBUS_RX_TAIL.addr + Reg.SBUS_RX_TAIL.s1 * 0) = some (row_SBUS_RX_TAIL, 0, 0) := by decide
theorem addr_SBUS_RX_TAIL : (Reg.SBUS_RX_TAIL.addr + Reg.SBUS_RX_TAIL.s1 * 0) % 4 = 0 ∧ inRegs (Reg.SBUS_RX_TAIL.addr + Reg.SBUS_RX_TAIL.s1 * 0) = true ∧ (Reg.SBUS_RX_TAIL.addr + Reg.SBUS_RX_TAIL.s1 * 0) / 65536 = 10 := by decide
/-- The row of SAPn_CFG. -/
def row_SAPn_CFG : RegRow := ⟨0xB0000, 0x100, 0, 3, 0x0, 1, 0x90002, .owner, false, false, [(.rw, 31, 31), (.rw, 30, 30), (.rw, 29, 29), (.rw, 28, 28), (.rw, 27, 27), (.rw, 26, 26), (.rw, 25, 24), (.rw, 23, 23), (.rw, 19, 18), (.rw, 17, 16), (.rw, 5, 0)]⟩
theorem find_SAPn_CFG : ∀ n : Fin 3, regFind (Reg.SAPn_CFG.addr + Reg.SAPn_CFG.s1 * n.val) = some (row_SAPn_CFG, n.val, 0) := by decide
theorem addr_SAPn_CFG : ∀ n : Fin 3, (Reg.SAPn_CFG.addr + Reg.SAPn_CFG.s1 * n.val) % 4 = 0 ∧ inRegs (Reg.SAPn_CFG.addr + Reg.SAPn_CFG.s1 * n.val) = true ∧ (Reg.SAPn_CFG.addr + Reg.SAPn_CFG.s1 * n.val) / 65536 = 11 := by decide
/-- The row of SAPn_CAP_CFG. -/
def row_SAPn_CAP_CFG : RegRow := ⟨0xB0020, 0x100, 0, 3, 0x0, 1, 0x0, .owner, false, false, [(.rw, 31, 31), (.rw, 30, 30), (.rw, 15, 0)]⟩
theorem find_SAPn_CAP_CFG : ∀ n : Fin 3, regFind (Reg.SAPn_CAP_CFG.addr + Reg.SAPn_CAP_CFG.s1 * n.val) = some (row_SAPn_CAP_CFG, n.val, 0) := by decide
theorem addr_SAPn_CAP_CFG : ∀ n : Fin 3, (Reg.SAPn_CAP_CFG.addr + Reg.SAPn_CAP_CFG.s1 * n.val) % 4 = 0 ∧ inRegs (Reg.SAPn_CAP_CFG.addr + Reg.SAPn_CAP_CFG.s1 * n.val) = true ∧ (Reg.SAPn_CAP_CFG.addr + Reg.SAPn_CAP_CFG.s1 * n.val) / 65536 = 11 := by decide
/-- The row of SAPn_PB_CFG. -/
def row_SAPn_PB_CFG : RegRow := ⟨0xB0050, 0x100, 0, 3, 0x0, 1, 0x0, .owner, false, false, [(.rw, 31, 31), (.rw, 30, 30), (.rw, 15, 0)]⟩
theorem find_SAPn_PB_CFG : ∀ n : Fin 3, regFind (Reg.SAPn_PB_CFG.addr + Reg.SAPn_PB_CFG.s1 * n.val) = some (row_SAPn_PB_CFG, n.val, 0) := by decide
theorem addr_SAPn_PB_CFG : ∀ n : Fin 3, (Reg.SAPn_PB_CFG.addr + Reg.SAPn_PB_CFG.s1 * n.val) % 4 = 0 ∧ inRegs (Reg.SAPn_PB_CFG.addr + Reg.SAPn_PB_CFG.s1 * n.val) = true ∧ (Reg.SAPn_PB_CFG.addr + Reg.SAPn_PB_CFG.s1 * n.val) / 65536 = 11 := by decide
/-- The row of SAPn_CAP_RD. -/
def row_SAPn_CAP_RD : RegRow := ⟨0xB0034, 0x100, 0, 3, 0x0, 1, 0x0, .owner, false, false, [(.rw, 31, 0)]⟩
theorem find_SAPn_CAP_RD : ∀ n : Fin 3, regFind (Reg.SAPn_CAP_RD.addr + Reg.SAPn_CAP_RD.s1 * n.val) = some (row_SAPn_CAP_RD, n.val, 0) := by decide
theorem addr_SAPn_CAP_RD : ∀ n : Fin 3, (Reg.SAPn_CAP_RD.addr + Reg.SAPn_CAP_RD.s1 * n.val) % 4 = 0 ∧ inRegs (Reg.SAPn_CAP_RD.addr + Reg.SAPn_CAP_RD.s1 * n.val) = true ∧ (Reg.SAPn_CAP_RD.addr + Reg.SAPn_CAP_RD.s1 * n.val) / 65536 = 11 := by decide
/-- The row of SAPn_PB_WR. -/
def row_SAPn_PB_WR : RegRow := ⟨0xB0060, 0x100, 0, 3, 0x0, 1, 0x0, .owner, false, false, [(.rw, 31, 0)]⟩
theorem find_SAPn_PB_WR : ∀ n : Fin 3, regFind (Reg.SAPn_PB_WR.addr + Reg.SAPn_PB_WR.s1 * n.val) = some (row_SAPn_PB_WR, n.val, 0) := by decide
theorem addr_SAPn_PB_WR : ∀ n : Fin 3, (Reg.SAPn_PB_WR.addr + Reg.SAPn_PB_WR.s1 * n.val) % 4 = 0 ∧ inRegs (Reg.SAPn_PB_WR.addr + Reg.SAPn_PB_WR.s1 * n.val) = true ∧ (Reg.SAPn_PB_WR.addr + Reg.SAPn_PB_WR.s1 * n.val) / 65536 = 11 := by decide
/-- The row of ANA_CTRL. -/
def row_ANA_CTRL : RegRow := ⟨0xC0004, 0x0, 0, 1, 0x0, 1, 0x0, .owner, false, false, [(.wa, 1, 1), (.wa, 0, 0)]⟩
theorem find_ANA_CTRL : regFind (Reg.ANA_CTRL.addr + Reg.ANA_CTRL.s1 * 0) = some (row_ANA_CTRL, 0, 0) := by decide
theorem addr_ANA_CTRL : (Reg.ANA_CTRL.addr + Reg.ANA_CTRL.s1 * 0) % 4 = 0 ∧ inRegs (Reg.ANA_CTRL.addr + Reg.ANA_CTRL.s1 * 0) = true ∧ (Reg.ANA_CTRL.addr + Reg.ANA_CTRL.s1 * 0) / 65536 = 12 := by decide
/-- The row of ANA_OUTn_CTRL. -/
def row_ANA_OUTn_CTRL : RegRow := ⟨0xC0044, 0x10, 0, 4, 0x0, 1, 0x0, .owner, false, false, [(.wa, 1, 1), (.wa, 0, 0)]⟩
theorem find_ANA_OUTn_CTRL : ∀ n : Fin 4, regFind (Reg.ANA_OUTn_CTRL.addr + Reg.ANA_OUTn_CTRL.s1 * n.val) = some (row_ANA_OUTn_CTRL, n.val, 0) := by decide
theorem addr_ANA_OUTn_CTRL : ∀ n : Fin 4, (Reg.ANA_OUTn_CTRL.addr + Reg.ANA_OUTn_CTRL.s1 * n.val) % 4 = 0 ∧ inRegs (Reg.ANA_OUTn_CTRL.addr + Reg.ANA_OUTn_CTRL.s1 * n.val) = true ∧ (Reg.ANA_OUTn_CTRL.addr + Reg.ANA_OUTn_CTRL.s1 * n.val) / 65536 = 12 := by decide
/-- The row of AUXn_CFG. -/
def row_AUXn_CFG : RegRow := ⟨0xD0100, 0x40, 0, 4, 0x0, 1, 0x100001, .owner, false, false, [(.rw, 31, 31), (.rw, 29, 28), (.rw, 25, 24), (.rw, 21, 16), (.rw, 15, 0)]⟩
theorem find_AUXn_CFG : ∀ n : Fin 4, regFind (Reg.AUXn_CFG.addr + Reg.AUXn_CFG.s1 * n.val) = some (row_AUXn_CFG, n.val, 0) := by decide
theorem addr_AUXn_CFG : ∀ n : Fin 4, (Reg.AUXn_CFG.addr + Reg.AUXn_CFG.s1 * n.val) % 4 = 0 ∧ inRegs (Reg.AUXn_CFG.addr + Reg.AUXn_CFG.s1 * n.val) = true ∧ (Reg.AUXn_CFG.addr + Reg.AUXn_CFG.s1 * n.val) / 65536 = 13 := by decide
/-- The row of AUXn_CTRL. -/
def row_AUXn_CTRL : RegRow := ⟨0xD0104, 0x40, 0, 4, 0x0, 1, 0x0, .owner, false, false, [(.wa, 9, 8), (.wa, 1, 1), (.wa, 0, 0)]⟩
theorem find_AUXn_CTRL : ∀ n : Fin 4, regFind (Reg.AUXn_CTRL.addr + Reg.AUXn_CTRL.s1 * n.val) = some (row_AUXn_CTRL, n.val, 0) := by decide
theorem addr_AUXn_CTRL : ∀ n : Fin 4, (Reg.AUXn_CTRL.addr + Reg.AUXn_CTRL.s1 * n.val) % 4 = 0 ∧ inRegs (Reg.AUXn_CTRL.addr + Reg.AUXn_CTRL.s1 * n.val) = true ∧ (Reg.AUXn_CTRL.addr + Reg.AUXn_CTRL.s1 * n.val) / 65536 = 13 := by decide
/-- The row of AUXn_QUEUE. -/
def row_AUXn_QUEUE : RegRow := ⟨0xD011C, 0x40, 0, 4, 0x0, 1, 0x0, .owner, false, false, [(.wo, 15, 0)]⟩
theorem find_AUXn_QUEUE : ∀ n : Fin 4, regFind (Reg.AUXn_QUEUE.addr + Reg.AUXn_QUEUE.s1 * n.val) = some (row_AUXn_QUEUE, n.val, 0) := by decide
theorem addr_AUXn_QUEUE : ∀ n : Fin 4, (Reg.AUXn_QUEUE.addr + Reg.AUXn_QUEUE.s1 * n.val) % 4 = 0 ∧ inRegs (Reg.AUXn_QUEUE.addr + Reg.AUXn_QUEUE.s1 * n.val) = true ∧ (Reg.AUXn_QUEUE.addr + Reg.AUXn_QUEUE.s1 * n.val) / 65536 = 13 := by decide
/-- The row of CLK_Pp_PHASE. -/
def row_CLK_Pp_PHASE : RegRow := ⟨0xE010C, 0x100, 0, 3, 0x0, 1, 0x0, .owner, false, false, [(.wa, 15, 0)]⟩
theorem find_CLK_Pp_PHASE : ∀ n : Fin 3, regFind (Reg.CLK_Pp_PHASE.addr + Reg.CLK_Pp_PHASE.s1 * n.val) = some (row_CLK_Pp_PHASE, n.val, 0) := by decide
theorem addr_CLK_Pp_PHASE : ∀ n : Fin 3, (Reg.CLK_Pp_PHASE.addr + Reg.CLK_Pp_PHASE.s1 * n.val) % 4 = 0 ∧ inRegs (Reg.CLK_Pp_PHASE.addr + Reg.CLK_Pp_PHASE.s1 * n.val) = true ∧ (Reg.CLK_Pp_PHASE.addr + Reg.CLK_Pp_PHASE.s1 * n.val) / 65536 = 14 := by decide
/-- The row of PWR_CHn_CTRL. -/
def row_PWR_CHn_CTRL : RegRow := ⟨0xF0108, 0x40, 0, 8, 0x0, 1, 0x0, .owner, false, false, [(.rw, 8, 8), (.wa, 3, 3), (.wa, 2, 2), (.wa, 1, 1), (.wa, 0, 0)]⟩
theorem find_PWR_CHn_CTRL : ∀ n : Fin 8, regFind (Reg.PWR_CHn_CTRL.addr + Reg.PWR_CHn_CTRL.s1 * n.val) = some (row_PWR_CHn_CTRL, n.val, 0) := by decide
theorem addr_PWR_CHn_CTRL : ∀ n : Fin 8, (Reg.PWR_CHn_CTRL.addr + Reg.PWR_CHn_CTRL.s1 * n.val) % 4 = 0 ∧ inRegs (Reg.PWR_CHn_CTRL.addr + Reg.PWR_CHn_CTRL.s1 * n.val) = true ∧ (Reg.PWR_CHn_CTRL.addr + Reg.PWR_CHn_CTRL.s1 * n.val) / 65536 = 15 := by decide
/-- The row of PWR_SW_CTRL. -/
def row_PWR_SW_CTRL : RegRow := ⟨0xF0010, 0x0, 0, 1, 0x0, 1, 0x0, .owner, false, false, [(.wa, 0, 0)]⟩
theorem find_PWR_SW_CTRL : regFind (Reg.PWR_SW_CTRL.addr + Reg.PWR_SW_CTRL.s1 * 0) = some (row_PWR_SW_CTRL, 0, 0) := by decide
theorem addr_PWR_SW_CTRL : (Reg.PWR_SW_CTRL.addr + Reg.PWR_SW_CTRL.s1 * 0) % 4 = 0 ∧ inRegs (Reg.PWR_SW_CTRL.addr + Reg.PWR_SW_CTRL.s1 * 0) = true ∧ (Reg.PWR_SW_CTRL.addr + Reg.PWR_SW_CTRL.s1 * 0) / 65536 = 15 := by decide
/-- The row of BST_CHn_PROT. -/
def row_BST_CHn_PROT : RegRow := ⟨0x100104, 0x40, 0, 8, 0x0, 1, 0x140640, .owner, false, false, [(.rw, 23, 16), (.rw, 12, 4), (.rw, 1, 1), (.rw, 0, 0)]⟩
theorem find_BST_CHn_PROT : ∀ n : Fin 8, regFind (Reg.BST_CHn_PROT.addr + Reg.BST_CHn_PROT.s1 * n.val) = some (row_BST_CHn_PROT, n.val, 0) := by decide
theorem addr_BST_CHn_PROT : ∀ n : Fin 8, (Reg.BST_CHn_PROT.addr + Reg.BST_CHn_PROT.s1 * n.val) % 4 = 0 ∧ inRegs (Reg.BST_CHn_PROT.addr + Reg.BST_CHn_PROT.s1 * n.val) = true ∧ (Reg.BST_CHn_PROT.addr + Reg.BST_CHn_PROT.s1 * n.val) / 65536 = 16 := by decide
/-- The row of BST_DIAG_CTRL. -/
def row_BST_DIAG_CTRL : RegRow := ⟨0x100304, 0x0, 0, 1, 0x0, 1, 0x0, .owner, false, false, [(.wa, 4, 4), (.rw, 3, 2), (.wa, 0, 0)]⟩
theorem find_BST_DIAG_CTRL : regFind (Reg.BST_DIAG_CTRL.addr + Reg.BST_DIAG_CTRL.s1 * 0) = some (row_BST_DIAG_CTRL, 0, 0) := by decide
theorem addr_BST_DIAG_CTRL : (Reg.BST_DIAG_CTRL.addr + Reg.BST_DIAG_CTRL.s1 * 0) % 4 = 0 ∧ inRegs (Reg.BST_DIAG_CTRL.addr + Reg.BST_DIAG_CTRL.s1 * 0) = true ∧ (Reg.BST_DIAG_CTRL.addr + Reg.BST_DIAG_CTRL.s1 * 0) / 65536 = 16 := by decide
/-- The row of TEN_CTRL. -/
def row_TEN_CTRL : RegRow := ⟨0x110004, 0x0, 0, 1, 0x0, 1, 0x0, .owner, false, false, [(.wa, 8, 8), (.rw, 2, 0)]⟩
theorem find_TEN_CTRL : regFind (Reg.TEN_CTRL.addr + Reg.TEN_CTRL.s1 * 0) = some (row_TEN_CTRL, 0, 0) := by decide
theorem addr_TEN_CTRL : (Reg.TEN_CTRL.addr + Reg.TEN_CTRL.s1 * 0) % 4 = 0 ∧ inRegs (Reg.TEN_CTRL.addr + Reg.TEN_CTRL.s1 * 0) = true ∧ (Reg.TEN_CTRL.addr + Reg.TEN_CTRL.s1 * 0) / 65536 = 17 := by decide
/-- The row of TEN_ALLOC_CTRL. -/
def row_TEN_ALLOC_CTRL : RegRow := ⟨0x110030, 0x0, 0, 1, 0x0, 1, 0x0, .every, true, false, [(.wa, 31, 31), (.wa, 30, 30), (.rw, 19, 16), (.rw, 12, 0)]⟩
theorem find_TEN_ALLOC_CTRL : regFind (Reg.TEN_ALLOC_CTRL.addr + Reg.TEN_ALLOC_CTRL.s1 * 0) = some (row_TEN_ALLOC_CTRL, 0, 0) := by decide
theorem addr_TEN_ALLOC_CTRL : (Reg.TEN_ALLOC_CTRL.addr + Reg.TEN_ALLOC_CTRL.s1 * 0) % 4 = 0 ∧ inRegs (Reg.TEN_ALLOC_CTRL.addr + Reg.TEN_ALLOC_CTRL.s1 * 0) = true ∧ (Reg.TEN_ALLOC_CTRL.addr + Reg.TEN_ALLOC_CTRL.s1 * 0) / 65536 = 17 := by decide
/-- The row of TEN_HOLD. -/
def row_TEN_HOLD : RegRow := ⟨0x110038, 0x0, 0, 1, 0x0, 1, 0x0, .every, true, false, [(.wa, 31, 31), (.wa, 30, 30), (.rw, 11, 0)]⟩
theorem find_TEN_HOLD : regFind (Reg.TEN_HOLD.addr + Reg.TEN_HOLD.s1 * 0) = some (row_TEN_HOLD, 0, 0) := by decide
theorem addr_TEN_HOLD : (Reg.TEN_HOLD.addr + Reg.TEN_HOLD.s1 * 0) % 4 = 0 ∧ inRegs (Reg.TEN_HOLD.addr + Reg.TEN_HOLD.s1 * 0) = true ∧ (Reg.TEN_HOLD.addr + Reg.TEN_HOLD.s1 * 0) / 65536 = 17 := by decide
/-- The row of TEN_DRAM_WIN. -/
def row_TEN_DRAM_WIN : RegRow := ⟨0x11003C, 0x0, 0, 1, 0x0, 1, 0x0, .every, true, false, [(.rw, 2, 0)]⟩
theorem find_TEN_DRAM_WIN : regFind (Reg.TEN_DRAM_WIN.addr + Reg.TEN_DRAM_WIN.s1 * 0) = some (row_TEN_DRAM_WIN, 0, 0) := by decide
theorem addr_TEN_DRAM_WIN : (Reg.TEN_DRAM_WIN.addr + Reg.TEN_DRAM_WIN.s1 * 0) % 4 = 0 ∧ inRegs (Reg.TEN_DRAM_WIN.addr + Reg.TEN_DRAM_WIN.s1 * 0) = true ∧ (Reg.TEN_DRAM_WIN.addr + Reg.TEN_DRAM_WIN.s1 * 0) / 65536 = 17 := by decide
/-- The row of TEN_Tt_CAP0. -/
def row_TEN_Tt_CAP0 : RegRow := ⟨0x110108, 0x40, 0, 8, 0x0, 1, 0xFFFFF, .owner, false, false, [(.rw, 19, 0)]⟩
theorem find_TEN_Tt_CAP0 : ∀ n : Fin 8, regFind (Reg.TEN_Tt_CAP0.addr + Reg.TEN_Tt_CAP0.s1 * n.val) = some (row_TEN_Tt_CAP0, n.val, 0) := by decide
theorem addr_TEN_Tt_CAP0 : ∀ n : Fin 8, (Reg.TEN_Tt_CAP0.addr + Reg.TEN_Tt_CAP0.s1 * n.val) % 4 = 0 ∧ inRegs (Reg.TEN_Tt_CAP0.addr + Reg.TEN_Tt_CAP0.s1 * n.val) = true ∧ (Reg.TEN_Tt_CAP0.addr + Reg.TEN_Tt_CAP0.s1 * n.val) / 65536 = 17 := by decide
/-- The row of TEN_Tt_CAP1. -/
def row_TEN_Tt_CAP1 : RegRow := ⟨0x11010C, 0x40, 0, 8, 0x0, 1, 0xFFFFFFFF, .owner, false, false, [(.rw, 31, 0)]⟩
theorem find_TEN_Tt_CAP1 : ∀ n : Fin 8, regFind (Reg.TEN_Tt_CAP1.addr + Reg.TEN_Tt_CAP1.s1 * n.val) = some (row_TEN_Tt_CAP1, n.val, 0) := by decide
theorem addr_TEN_Tt_CAP1 : ∀ n : Fin 8, (Reg.TEN_Tt_CAP1.addr + Reg.TEN_Tt_CAP1.s1 * n.val) % 4 = 0 ∧ inRegs (Reg.TEN_Tt_CAP1.addr + Reg.TEN_Tt_CAP1.s1 * n.val) = true ∧ (Reg.TEN_Tt_CAP1.addr + Reg.TEN_Tt_CAP1.s1 * n.val) / 65536 = 17 := by decide
/-- The row of TEN_Tt_CAP2. -/
def row_TEN_Tt_CAP2 : RegRow := ⟨0x110110, 0x40, 0, 8, 0x0, 1, 0x1A00, .owner, false, false, [(.rw, 12, 0)]⟩
theorem find_TEN_Tt_CAP2 : ∀ n : Fin 8, regFind (Reg.TEN_Tt_CAP2.addr + Reg.TEN_Tt_CAP2.s1 * n.val) = some (row_TEN_Tt_CAP2, n.val, 0) := by decide
theorem addr_TEN_Tt_CAP2 : ∀ n : Fin 8, (Reg.TEN_Tt_CAP2.addr + Reg.TEN_Tt_CAP2.s1 * n.val) % 4 = 0 ∧ inRegs (Reg.TEN_Tt_CAP2.addr + Reg.TEN_Tt_CAP2.s1 * n.val) = true ∧ (Reg.TEN_Tt_CAP2.addr + Reg.TEN_Tt_CAP2.s1 * n.val) / 65536 = 17 := by decide
/-- The row of TEN_Tt_CAP3. -/
def row_TEN_Tt_CAP3 : RegRow := ⟨0x110114, 0x40, 0, 8, 0x0, 1, 0x404000, .owner, false, false, [(.rw, 22, 16), (.rw, 14, 0)]⟩
theorem find_TEN_Tt_CAP3 : ∀ n : Fin 8, regFind (Reg.TEN_Tt_CAP3.addr + Reg.TEN_Tt_CAP3.s1 * n.val) = some (row_TEN_Tt_CAP3, n.val, 0) := by decide
theorem addr_TEN_Tt_CAP3 : ∀ n : Fin 8, (Reg.TEN_Tt_CAP3.addr + Reg.TEN_Tt_CAP3.s1 * n.val) % 4 = 0 ∧ inRegs (Reg.TEN_Tt_CAP3.addr + Reg.TEN_Tt_CAP3.s1 * n.val) = true ∧ (Reg.TEN_Tt_CAP3.addr + Reg.TEN_Tt_CAP3.s1 * n.val) / 65536 = 17 := by decide
/-- The row of TEN_SEMn. -/
def row_TEN_SEMn : RegRow := ⟨0x110C00, 0x10, 0, 64, 0x0, 1, 0x0, .nobody, false, false, [(.rc, 31, 31), (.rc, 30, 30), (.rc, 29, 29), (.rc, 4, 0)]⟩
theorem find_TEN_SEMn : ∀ n : Fin 64, regFind (Reg.TEN_SEMn.addr + Reg.TEN_SEMn.s1 * n.val) = some (row_TEN_SEMn, n.val, 0) := by decide
theorem addr_TEN_SEMn : ∀ n : Fin 64, (Reg.TEN_SEMn.addr + Reg.TEN_SEMn.s1 * n.val) % 4 = 0 ∧ inRegs (Reg.TEN_SEMn.addr + Reg.TEN_SEMn.s1 * n.val) = true ∧ (Reg.TEN_SEMn.addr + Reg.TEN_SEMn.s1 * n.val) / 65536 = 17 := by decide
/-- The row of TEN_SEMn_WAIT. -/
def row_TEN_SEMn_WAIT : RegRow := ⟨0x110C04, 0x10, 0, 64, 0x0, 1, 0x0, .nobody, false, false, [(.rc, 31, 0)]⟩
theorem find_TEN_SEMn_WAIT : ∀ n : Fin 64, regFind (Reg.TEN_SEMn_WAIT.addr + Reg.TEN_SEMn_WAIT.s1 * n.val) = some (row_TEN_SEMn_WAIT, n.val, 0) := by decide
theorem addr_TEN_SEMn_WAIT : ∀ n : Fin 64, (Reg.TEN_SEMn_WAIT.addr + Reg.TEN_SEMn_WAIT.s1 * n.val) % 4 = 0 ∧ inRegs (Reg.TEN_SEMn_WAIT.addr + Reg.TEN_SEMn_WAIT.s1 * n.val) = true ∧ (Reg.TEN_SEMn_WAIT.addr + Reg.TEN_SEMn_WAIT.s1 * n.val) / 65536 = 17 := by decide
/-- The row of TEN_SEMn_REL. -/
def row_TEN_SEMn_REL : RegRow := ⟨0x110C08, 0x10, 0, 64, 0x0, 1, 0x0, .semOwner, false, false, [(.wa, 0, 0)]⟩
theorem find_TEN_SEMn_REL : ∀ n : Fin 64, regFind (Reg.TEN_SEMn_REL.addr + Reg.TEN_SEMn_REL.s1 * n.val) = some (row_TEN_SEMn_REL, n.val, 0) := by decide
theorem addr_TEN_SEMn_REL : ∀ n : Fin 64, (Reg.TEN_SEMn_REL.addr + Reg.TEN_SEMn_REL.s1 * n.val) % 4 = 0 ∧ inRegs (Reg.TEN_SEMn_REL.addr + Reg.TEN_SEMn_REL.s1 * n.val) = true ∧ (Reg.TEN_SEMn_REL.addr + Reg.TEN_SEMn_REL.s1 * n.val) / 65536 = 17 := by decide
/-- The row of DBG_CFG. -/
def row_DBG_CFG : RegRow := ⟨0x140000, 0x0, 0, 1, 0x0, 1, 0x1, .dbgCfg, false, true, [(.rw, 2, 2), (.rw, 1, 1), (.rw, 0, 0)]⟩
theorem find_DBG_CFG : regFind (Reg.DBG_CFG.addr + Reg.DBG_CFG.s1 * 0) = some (row_DBG_CFG, 0, 0) := by decide
theorem addr_DBG_CFG : (Reg.DBG_CFG.addr + Reg.DBG_CFG.s1 * 0) % 4 = 0 ∧ inRegs (Reg.DBG_CFG.addr + Reg.DBG_CFG.s1 * 0) = true ∧ (Reg.DBG_CFG.addr + Reg.DBG_CFG.s1 * 0) / 65536 = 20 := by decide
/-- The row of DBG_CORE_CTRL. -/
def row_DBG_CORE_CTRL : RegRow := ⟨0x140004, 0x0, 0, 1, 0x0, 1, 0x0, .debug, false, false, [(.wa, 9, 9), (.wa, 8, 8), (.rw, 3, 0)]⟩
theorem find_DBG_CORE_CTRL : regFind (Reg.DBG_CORE_CTRL.addr + Reg.DBG_CORE_CTRL.s1 * 0) = some (row_DBG_CORE_CTRL, 0, 0) := by decide
theorem addr_DBG_CORE_CTRL : (Reg.DBG_CORE_CTRL.addr + Reg.DBG_CORE_CTRL.s1 * 0) % 4 = 0 ∧ inRegs (Reg.DBG_CORE_CTRL.addr + Reg.DBG_CORE_CTRL.s1 * 0) = true ∧ (Reg.DBG_CORE_CTRL.addr + Reg.DBG_CORE_CTRL.s1 * 0) / 65536 = 20 := by decide
/-- The row of DBG_SEM_BREAK. -/
def row_DBG_SEM_BREAK : RegRow := ⟨0x14000C, 0x0, 0, 1, 0x0, 1, 0x0, .debug, false, false, [(.wa, 31, 31), (.rw, 5, 0)]⟩
theorem find_DBG_SEM_BREAK : regFind (Reg.DBG_SEM_BREAK.addr + Reg.DBG_SEM_BREAK.s1 * 0) = some (row_DBG_SEM_BREAK, 0, 0) := by decide
theorem addr_DBG_SEM_BREAK : (Reg.DBG_SEM_BREAK.addr + Reg.DBG_SEM_BREAK.s1 * 0) % 4 = 0 ∧ inRegs (Reg.DBG_SEM_BREAK.addr + Reg.DBG_SEM_BREAK.s1 * 0) = true ∧ (Reg.DBG_SEM_BREAK.addr + Reg.DBG_SEM_BREAK.s1 * 0) / 65536 = 20 := by decide
/-- The row of FLT_SRCn. -/
def row_FLT_SRCn : RegRow := ⟨0x120400, 0x4, 0, 256, 0x0, 1, 0x0, .owner, false, false, [(.rw, 25, 24)]⟩
set_option maxRecDepth 20000 in
theorem find_FLT_SRCn : ∀ n : Fin 256, regFind (Reg.FLT_SRCn.addr + Reg.FLT_SRCn.s1 * n.val) = some (row_FLT_SRCn, n.val, 0) := by decide
set_option maxRecDepth 20000 in
theorem addr_FLT_SRCn : ∀ n : Fin 256, (Reg.FLT_SRCn.addr + Reg.FLT_SRCn.s1 * n.val) % 4 = 0 ∧ inRegs (Reg.FLT_SRCn.addr + Reg.FLT_SRCn.s1 * n.val) = true ∧ (Reg.FLT_SRCn.addr + Reg.FLT_SRCn.s1 * n.val) / 65536 = 18 := by decide
/-- The row of FLT_CLEAR. -/
def row_FLT_CLEAR : RegRow := ⟨0x120008, 0x0, 0, 1, 0x0, 1, 0x0, .owner, false, false, [(.wa, 31, 31), (.wa, 30, 30), (.wa, 29, 29), (.wa, 28, 28), (.wo, 7, 0)]⟩
theorem find_FLT_CLEAR : regFind (Reg.FLT_CLEAR.addr + Reg.FLT_CLEAR.s1 * 0) = some (row_FLT_CLEAR, 0, 0) := by decide
theorem addr_FLT_CLEAR : (Reg.FLT_CLEAR.addr + Reg.FLT_CLEAR.s1 * 0) % 4 = 0 ∧ inRegs (Reg.FLT_CLEAR.addr + Reg.FLT_CLEAR.s1 * 0) = true ∧ (Reg.FLT_CLEAR.addr + Reg.FLT_CLEAR.s1 * 0) / 65536 = 18 := by decide
/-- The row of FLT_INJ. -/
def row_FLT_INJ : RegRow := ⟨0x120040, 0x0, 0, 1, 0x0, 1, 0x100, .owner, false, false, [(.wa, 31, 31), (.rw, 19, 16), (.rw, 9, 8), (.rw, 4, 0)]⟩
theorem find_FLT_INJ : regFind (Reg.FLT_INJ.addr + Reg.FLT_INJ.s1 * 0) = some (row_FLT_INJ, 0, 0) := by decide
theorem addr_FLT_INJ : (Reg.FLT_INJ.addr + Reg.FLT_INJ.s1 * 0) % 4 = 0 ∧ inRegs (Reg.FLT_INJ.addr + Reg.FLT_INJ.s1 * 0) = true ∧ (Reg.FLT_INJ.addr + Reg.FLT_INJ.s1 * 0) / 65536 = 18 := by decide
/-- The row of DOM_CTRL. -/
def row_DOM_CTRL : RegRow := ⟨0x130004, 0x0, 0, 1, 0x0, 1, 0x0, .owner, false, false, [(.rw, 8, 8), (.wa, 1, 1), (.wa, 0, 0)]⟩
theorem find_DOM_CTRL : regFind (Reg.DOM_CTRL.addr + Reg.DOM_CTRL.s1 * 0) = some (row_DOM_CTRL, 0, 0) := by decide
theorem addr_DOM_CTRL : (Reg.DOM_CTRL.addr + Reg.DOM_CTRL.s1 * 0) % 4 = 0 ∧ inRegs (Reg.DOM_CTRL.addr + Reg.DOM_CTRL.s1 * 0) = true ∧ (Reg.DOM_CTRL.addr + Reg.DOM_CTRL.s1 * 0) / 65536 = 19 := by decide
/-- The row of DOM_Dnn_CFG. -/
def row_DOM_Dnn_CFG : RegRow := ⟨0x130100, 0x20, 0, 60, 0x0, 1, 0x3E80000, .owner, false, true, [(.rw, 31, 16), (.rw, 1, 0)]⟩
theorem find_DOM_Dnn_CFG : ∀ n : Fin 60, regFind (Reg.DOM_Dnn_CFG.addr + Reg.DOM_Dnn_CFG.s1 * n.val) = some (row_DOM_Dnn_CFG, n.val, 0) := by decide
theorem addr_DOM_Dnn_CFG : ∀ n : Fin 60, (Reg.DOM_Dnn_CFG.addr + Reg.DOM_Dnn_CFG.s1 * n.val) % 4 = 0 ∧ inRegs (Reg.DOM_Dnn_CFG.addr + Reg.DOM_Dnn_CFG.s1 * n.val) = true ∧ (Reg.DOM_Dnn_CFG.addr + Reg.DOM_Dnn_CFG.s1 * n.val) / 65536 = 19 := by decide

end Sys2Proof.Machine.Laws
end

