-- ==== Sys2Proof/Tests/Slice0.lean ====
section
/-! SUPPORT. Tests of one step or one value each, with the values that the spec works out, and for each obligation with
conditions a theorem that shows, clause by clause, a state and operands that meet them all. -/
namespace Sys2Proof.Tests
set_option maxRecDepth 100000
set_option linter.unusedVariables false
set_option Elab.async false
open Sys2Proof Sys2Proof.Machine

/-- An empty image of class L for one tenancy. -/
def wImg : Image := ⟨0, 1, 0, 0, 0, 0, 0, [], [], 0, 0, [], [], [], [], [], false, 0, [], [], [], none, none, [], false, 0⟩
/-- A record with no fields set but WRITERS. -/
def wInst : Inst := ⟨0, 0, 0, 0, 0, 1, 0, 0, 0, 0, 0, 0, 0, 0, 0⟩
/-- A request to be filled in. -/
def wReq : FlaryReq := ⟨false, false, 0#48, 1, 0, 1, 0, 0#48, 0#48, 0#48, 1#32, 0#8, 0, List.replicate 16 0#8, []⟩
/-- A plan of one frame. -/
def wPlan : Plan := ⟨1, 0, 1, 10, 2, 0, 0, 0, 0, 0, 0, [1]⟩
/-- Sense data of a quiet power stage. -/
def wSense : Sense := ⟨List.replicate 8 0, List.replicate 8 0, List.replicate 4 0, List.replicate 4 0, 0, List.replicate 4 0, List.replicate 4 0, 0⟩
/-- ring up on port A, firmware running, nonce known -/
def wRing (s : State) : State :=
  (({ s with host := { s.host with fwRun := true }, rct := { s.rct with nonce := 5 } } : State).setB Reg.PORT_Pp_LINK_LINK true 0).setB Reg.RING_SEG_PORTp_IN_SERVICE true 0
/-- another node -/
def wPeer : State := ({ State.reset with rct := { State.reset.rct with nonce := 9 } } : State).set Reg.IDENT_MAC_LO 0x777
/-- A ring control frame of the other node. -/
def wCtl (typ : Nat) (body : List Byte) : List Byte := wPeer.ctlFrame typ 0 1 body
/-- A ring control frame of this node's own. -/
def wOwn (typ : Nat) (body : List Byte) : List Byte := (wRing State.reset).ctlFrame typ 0 1 body

/-- The row of a register address. -/
def wRowOf (a : Nat) : RegRow := match regFind a with
  | some (r, _, _) => r
  | none => ⟨0, 0, 0, 0, 0, 0, 0, .owner, false, false, []⟩
/-- The row of IMG_CTRL. -/
def wRow : RegRow := wRowOf 0x20004
/-- A frame after one hop, its FCS made anew. -/
def wPass (f : List Byte) : List Byte := (fun g => g ++ leBytes 4 (fcs32 g)) (splice (f.take (f.length - 4)) 16 (beBytes 2 1))
/-- The head of a plan with its link up, and a frame whose FCS is wrong. -/
def wBadSt : State := (fun s : State => { s with rct := { s.rct with pos := some 0 } }) (wRing ((fun s : State => { s with rdp := { s.rdp with plan := some wPlan } }) (State.reset.setB Reg.PORT_Pp_LINK_LINK true 0)))
def wBadF : List Byte := (fun g : List Byte => g.take (g.length - 1) ++ [(g.getLast?.getD 0#8) ^^^ 1#8]) (withFcs (beBytes 6 1 ++ beBytes 6 9 ++ beBytes 2 0x88B5 ++ beBytes 1 17 ++ beBytes 1 0 ++ beBytes 1 1 ++ List.replicate 5 0#8 ++ beBytes 2 1))
/-- That node after the frame is counted, by the two errors on the line that are free. -/
def wBadSeen (x y : Bool) : State :=
  let s := (wBadSt.event.addWire 0 (wireLen wBadF) 0).cntBy 0 0 wBadF.length
  let u := s.fresh.2
  let u := if u.get Reg.PORT_Pp_LINK_SPEED 0 = 0 && x then u.cnt 0 18 else u
  (if y then u.cnt 0 22 else u).cnt 0 17
theorem wBad_seen : wBadSt.ctlSeen false wBadF = wBadSeen (bit (Config.lineError wBadSt.event.free) 0) (bit (Config.lineError wBadSt.event.free) 1) := by
  simp only [State.ctlSeen, State.rxCount, State.lineErrors, show fcsOk wBadF = false by decide +kernel, show ¬(wBadF.length < 64) by decide +kernel, show ¬(1522 < wBadF.length) by decide +kernel,
    Bool.not_false,
    show b2n false = 0 from rfl, if_true, if_false, Bool.false_eq_true, show (0 : Nat) < 3 by decide]
  rfl
theorem wBad_met : ∀ x y : Bool, (wBadSeen x y).carries (b2n false) = true ∧ (wBadSeen x y).rxPort 0 = b2n false ∧
    (wBadSeen x y).isHead = true := by decide +kernel
/-- A request signed with the key that the node holds for its tenancy. -/
def wSigned (s : State) (r : FlaryReq) : FlaryReq := { r with auth := s.flaryAuth r.ten.val r.authMsg }
/-- The image that a successful check gives. -/
def wOk (c : Except Refuse Image) : Image := match c with
  | .ok im => im
  | .error _ => wImg
/-- The refusal that a failed check gives. -/
def wErr (c : Except Refuse Image) : Refuse := match c with
  | .ok _ => ⟨0, 0, 0⟩
  | .error e => e
theorem wOk_eq {c : Except Refuse Image} (h : c.isOk = true) : c = .ok (wOk c) := by
  cases c <;> simp_all [Except.isOk, Except.toBool, wOk]
theorem wErr_eq {c : Except Refuse Image} (h : c.isOk = false) : c = .error (wErr c) := by
  cases c <;> simp_all [Except.isOk, Except.toBool, wErr]
theorem wUnit_eq {c : Except Refuse Unit} (h : c.isOk = true) : c = .ok () := by
  cases c <;> simp_all [Except.isOk, Except.toBool]
/-- The 736 bytes of the image that the spec works out field by field (03_ashlar_image.md), 32 bytes a numeral. -/
def workedImage : List Byte :=
  [0x4153484c01004000e00200000100000003020100000000002881b00008000000, 0x01000000584d504c0100000000000000000000000000000000000000723ed37d,
    0x010100ff00010000000000002b1e6a4701000000182e00000100000000000000, 0x0000000010000000000000000000000000000000000000000000000000000000,
    0x0000000000000000000000000000000000000000000000000000000000000000, 0x0000000000000000000000000000000000000000000000000000000000000000,
    0x0000000000000000000000000000000000000000000000000000000000000000, 0x0000000000000000000000000000000000000000000000000000000000000000,
    0x0000000000000000000000000000000000000000000000000000000000000000, 0x0000000000000000000000000000000000000000000000000000000000000000,
    0x00000000000000000000000000000000020100ff1000000001000000a9e773ea, 0x01000000010000000000000000000000030100ff7000000002000000cf1a4eb4,
    0x0300000000000000000000000000000000004000ff0001000001000008000000, 0x0100000000000000000000000000000001000100000001000101000000000000,
    0x4000000000000000020000000000000002004100ff0001010100000009000200, 0x01000000000000000000000000000000040100ff2000000003000000a6a19f72,
    0x0200000000000000000000000000000000000000010000000100000002000000, 0x050100ff20000000040000000774531501000000000000000000000000000000,
    0x00000100000000000100000000000000060100ff30000000050000002952ee95, 0x02000000000000000000000000000000010000000000000000000c0000000000,
    0x0300000000000c0040000000000000000b01000020000000060000006c505611, 0x0100000000000000000000000000000001000000020000000000003f60000000,
    0xff0100ff1000000007000000760ac528e00200000800000021454e4400000000].flatMap (beBytes 32)
/-- Slot 0 holds the worked image, closed; its load is in progress. -/
def wStaged : State :=
  (fun s : State => { s with img := { s.img with loading := some 0 } }) (State.reset.modSlot 0 (fun c => { c with state := 2, bytes := workedImage }))
/-- The load of an empty slot 0 is in progress. -/
def wLoading : State := (fun s : State => { s with img := { s.img with loading := some 0 } }) State.reset
def wStageFS : Except Refuse Image :=
  stageFS ((wStaged.modSlot 0 (fun x => { x with bad := [] })).slot 0) (wStaged.modSlot 0 (fun x => { x with bad := [] })).sigCtx
def wEmptyFS : Except Refuse Image :=
  stageFS ((wLoading.modSlot 0 (fun x => { x with bad := [] })).slot 0) (wLoading.modSlot 0 (fun x => { x with bad := [] })).sigCtx

/-- A tick's environment of four quiet converters. -/
def quietTick : TickEnv := ⟨[0, 0, 0, 0], [], []⟩

/-! Well-formedness: an ill-formed term for each check, and its neighbour that passes. -/
theorem test_wf_tick : (Instr.keystoneTick quietTick).wf = true ∧ (Instr.keystoneTick ⟨[0, 0, 0], [], []⟩).wf = false ∧
    (Instr.keystoneTick ⟨[0, 0, 0, 8388608], [], []⟩).wf = false := by decide
theorem test_wf_sense : (Instr.upFrame true wSense).wf = true ∧ (Instr.upFrame true { wSense with v := [] }).wf = false ∧
    (Instr.upFrame true { wSense with iin := [0, 0, 0] }).wf = false := by decide
theorem test_wf_scrub : (Instr.memoryScrub .footing 8191 .clean).wf = true ∧ (Instr.memoryScrub .footing 8192 .clean).wf = false ∧
    (Instr.memoryScrub .sram 4194304 .clean).wf = false ∧ (Instr.memoryScrub .dram 8589934592 .clean).wf = false := by decide
theorem test_wf_spi : spiDataOk (List.replicate 1024 0#8) = true ∧ spiDataOk (List.replicate 1025 0#8) = false := by decide +kernel
theorem test_wf_flary : (Instr.flaryRead wReq).wf = true ∧ (Instr.flaryRead { wReq with auth := [] }).wf = false ∧
    (Instr.flaryRead { wReq with ttl := 65536 }).wf = false ∧ (Instr.flaryRead { wReq with hops := 65536 }).wf = false ∧
    (Instr.flaryRead { wReq with done := 65536 }).wf = false := by decide
theorem test_wf_flary_body : ({ wReq with body := List.replicate 1400 0#8 } : FlaryReq).ok = true ∧
    ({ wReq with body := List.replicate 1401 0#8 } : FlaryReq).ok = false := by decide +kernel
theorem test_wf_bands : bandsOk (List.replicate 3 (List.replicate 16 0#32)) = true ∧ bandsOk (List.replicate 2 (List.replicate 16 0#32)) = false ∧
    bandsOk (List.replicate 3 (List.replicate 15 0#32)) = false := by decide

/-! Values that the spec works out. -/
/-- R77: the CRC-32C of the ASCII bytes "123456789". -/
theorem test_crc32c_check_value : crc32c [0x31#8, 0x32#8, 0x33#8, 0x34#8, 0x35#8, 0x36#8, 0x37#8, 0x38#8, 0x39#8] = 0xE3069283 := by decide +kernel
/-- The worked image of 03_ashlar_image.md passes stages F, S and X, and its W is 29 ticks. -/
theorem test_worked_image_passes : wStageFS.isOk = true ∧ (stageX (wOk wStageFS) (wStaged.xctx (wOk wStageFS))).isOk = true ∧
    rebuildTicks (wOk wStageFS) = 29 := by decide +kernel
/-- The activation example: armed in tick 9,599,200 for T = 9,600,000 its head is 9,599,971; armed in that very tick it is late. -/
theorem test_arm_example :
    let s (n : Nat) : State := (fun s : State => { s with ks := { s.ks with count := n } }) (State.reset.setB Reg.IMG_STATUS_ACTIVE false)
    ((armAt 9600000 (wOk wStageFS) (s 9599200)).stage = 3 ∧ (armAt 9600000 (wOk wStageFS) (s 9599200)).img.rebuildAt = 9599971) ∧
    (armAt 9600000 (wOk wStageFS) (s 9599971)).stage = 2 := by decide +kernel
/-- The costs of the chain of 04_engine.md: a gain of 8, ten sections, 512 taps, a delay, a peak limiter, a meter. -/
theorem test_chain_costs :
    ([(1, 0, 8), (3, 10, 8), (4, 32, 8), (6, 0, 8), (8, 2, 8)].map (fun x => (⟨0, x.1, x.2.1, 0, 0, 1, 0, x.2.2, x.2.2, 0, 0, 0, 0, 0, 0⟩ : Inst).cost)) =
      [28, 144, 1064, 40, 184] ∧ (⟨0, 14, 0, 0, 0, 1, 0, 8, 0, 0, 0, 0, 0, 0, 0⟩ : Inst).cost = 40 := by decide +kernel
/-- The delay example of 04_engine.md: LOCAL_LEN 30,912 gives 961 ticks. -/
theorem test_delay_reach : (⟨0, 6, 0, 0, 0, 1, 0, 8, 8, 0, 30912, 0, 9, 0, 0⟩ : Inst).maxDelay 1 = 961 := by decide +kernel
/-- The clip example: 1.25 on a port stays 1.25, and the output endpoint hands on 0x7FFFFF (R136, R138). -/
theorem test_output_clips : portF32 0x3FA00000#32 = (0x3FA00000#32, 0) ∧ f32ToSample 0x3FA00000#32 = 0x7FFFFF := by decide +kernel
/-- The frame example of 06_ring_transport.md: bytes 14 to 29 before HOPS counts its four nodes. -/
theorem test_audio_header : (audioHead 0 0 1 1 32 4000001 0x31 0 false).drop 14 =
    [0x11#8, 0x11#8, 0x20#8, 0#8, 0#8, 0x3D#8, 0x09#8, 0x01#8, 0#8, 0x31#8, 0#8, 0#8, 0#8, 0#8, 0#8, 0#8] := by decide +kernel

/-! One step each. -/
/-- The state after a command, from a state in which it does not stop. -/
def after (c : Instr) (s : State) : State :=
  match exec c s with
  | .next t => t
  | .fault _ => s
  | .refused _ => s
/-- The IDENT_ID example of 14_hosts.md: status OK, one access, the value 0x00B08128. -/
theorem test_spi_reads_ident : ((execSpiRead 1 2 0#32 true) ((fun s : State => { s with host := { s.host with fwRun := true } }) State.reset) |> fun o =>
    match o with
    | .next t => t.host.spiResp
    | .fault _ => []
    | .refused _ => []) = [0#8, 1#8, 0#8, 0x28#8, 0x81#8, 0xB0#8, 0#8] := by decide +kernel
/-- R517: a free semaphore read by the debug port is taken by it, and the read says so in bit 31. -/
theorem test_semaphore_taken :
    ((after (.semRead ⟨.debug, 0⟩ 20) (State.reset.setB Reg.DBG_CFG_QUIET false)).sem 20).owner = 16 ∧
    (after (.semRead ⟨.debug, 0⟩ 20) (State.reset.setB Reg.DBG_CFG_QUIET false)).host.last = (0, 0x80000010#32) := by decide +kernel
/-- A tick of a running keystone counts by one. -/
theorem test_tick_counts :
    (after (.keystoneTick quietTick) ((fun s : State => { s with ks := { s.ks with running := true, committed := true, count := 5 } }) State.reset)).ks.count = 6 := by
  decide +kernel
/-- A step takes the front of the queue; an empty queue idles. -/
theorem test_step_queue : step State.reset = .next State.reset ∧
    step { State.reset with pending := [.idcode, .bypass] } = exec .idcode { State.reset with pending := [.bypass] } := ⟨rfl, rfl⟩
/-- No row of the table gives bits. -/
theorem test_no_word_spells : decodeTableWord 32 0 = none ∧ State.reset.withFetchWord 32 0 = State.reset := ⟨rfl, rfl⟩

/-! The conditions of the obligations can be met. -/
/-- Each clause of StepRunsFrontCommand has a state and operands that meet its conditions. -/
theorem witness_StepRunsFrontCommand :
    (∃ (s : State) (c : Instr) (rest : List Instr), s.pending = c :: rest) ∧
    (∃ (s : State), s.pending = []) :=
  ⟨⟨(fun s : State => { s with pending := [.idcode] }) State.reset, Instr.idcode, [], by decide +kernel⟩,
   ⟨State.reset, by decide +kernel⟩⟩
/-- Each clause of KeystoneCommandsTakeEffect has a state and operands that meet its conditions. -/
theorem witness_KeystoneCommandsTakeEffect :
    (∃ (acc : Access) (n : Fin 4) (s : State), s.owns acc (0x10048 + 0x10 * n.val) = true ∧ s.ks.count < s.get64 Reg.KS_ALARMn_LO Reg.KS_ALARMn_HI n.val) ∧
    (∃ (acc : Access) (n : Fin 4) (s : State), s.owns acc (0x10048 + 0x10 * n.val) = true ∧ s.get64 Reg.KS_ALARMn_LO Reg.KS_ALARMn_HI n.val ≤ s.ks.count) ∧
    (∃ (acc : Access) (n : Fin 4) (s : State), s.owns acc (0x10048 + 0x10 * n.val) = true ∧ nth s.ks.alarmOn n.val false = true) ∧
    (∃ (acc : Access) (n : Fin 4) (s : State), s.owns acc (0x10048 + 0x10 * n.val) = true ∧ nth s.ks.alarmOn n.val false = false) ∧
    (∃ (acc : Access) (s : State), s.owns acc 0x10004 = true ∧ s.ks.cycle < rateCycles s.rate) ∧
    (∃ (acc : Access) (s : State), s.owns acc 0x10004 = true) :=
  ⟨⟨⟨.debug, 0⟩, 0, State.reset.set64 Reg.KS_ALARMn_LO Reg.KS_ALARMn_HI 5 0, by decide +kernel⟩,
   ⟨⟨.debug, 0⟩, 0, State.reset, by decide +kernel⟩,
   ⟨⟨.debug, 0⟩, 0, State.reset.setAlarm 0 true, by decide +kernel⟩,
   ⟨⟨.debug, 0⟩, 0, State.reset, by decide +kernel⟩,
   ⟨⟨.debug, 0⟩, State.reset, by decide +kernel⟩,
   ⟨⟨.debug, 0⟩, State.reset, by decide +kernel⟩⟩
/-- Each clause of FlashSlotCommandsTakeEffect has a state and operands that meet its conditions. -/
theorem witness_FlashSlotCommandsTakeEffect :
    (∃ (acc : Access) (b : Bool) (s : State), s.owns acc 0x20048 = true ∧ s.canon = true ∧ s.slotBusy (b2n b) = false ∧ (s.is Reg.IMG_STATUS_ACTIVE && s.get Reg.IMG_STATUS_ACT_SLOT == b2n b) = false) ∧
    (∃ (acc : Access) (b : Bool) (s : State), s.owns acc 0x20048 = true ∧ s.canon = true ∧ s.slotBusy (b2n b) = false ∧ (s.is Reg.IMG_STATUS_ACTIVE && s.get Reg.IMG_STATUS_ACT_SLOT == b2n b) = true) ∧
    (∃ (acc : Access) (b : Bool) (s : State), s.owns acc 0x20048 = true ∧ s.canon = true ∧ s.slotBusy (b2n b) = false ∧ (s.slot (b2n b)).state = 1) ∧
    (∃ (acc : Access) (b : Bool) (s : State), s.owns acc 0x20048 = true ∧ s.canon = true ∧ s.slotBusy (b2n b) = false ∧ 2 ≤ (s.slot (b2n b)).state) ∧
    (∃ (acc : Access) (d : Word) (s : State), s.owns acc 0x2004C = true ∧ (s.slot (s.get Reg.IMG_SLOT_CTRL_SLOT)).state = 1 ∧ (s.slot (s.get Reg.IMG_SLOT_CTRL_SLOT)).bytes.length + 4 ≤ 67108864) :=
  ⟨⟨⟨.debug, 0⟩, false, State.reset, by decide +kernel⟩,
   ⟨⟨.debug, 0⟩, true, (State.reset.setB Reg.IMG_STATUS_ACTIVE true).set Reg.IMG_STATUS_ACT_SLOT 1, by decide +kernel⟩,
   ⟨⟨.debug, 0⟩, false, State.reset.modSlot 0 (fun c => { c with state := 1 }), by decide +kernel⟩,
   ⟨⟨.debug, 0⟩, false, State.reset.modSlot 0 (fun c => { c with state := 2 }), by decide +kernel⟩,
   ⟨⟨.debug, 0⟩, (0#32), State.reset.modSlot 0 (fun c => { c with state := 1 }), by decide +kernel⟩⟩
/-- Each clause of ImageCommandsTakeEffect has a state and operands that meet its conditions. -/
theorem witness_ImageCommandsTakeEffect :
    (∃ (acc : Access) (b : Bool) (s : State), s.owns acc 0x20004 = true ∧ s.canon = true ∧ s.stage ≠ 3 ∧ s.stage ≠ 4 ∧ (s.slot (b2n b)).state ≠ 1) ∧
    (∃ (acc : Access) (im : Image) (s : State), s.owns acc 0x20004 = true ∧ s.canon = true ∧ s.img.staged = some im ∧ s.stage = 2) ∧
    (∃ (acc : Access) (s : State), s.owns acc 0x20004 = true ∧ s.canon = true ∧ s.stage = 3) ∧
    (∃ (acc : Access) (s : State), s.owns acc 0x20004 = true ∧ s.canon = true ∧ s.stage ≠ 3 ∧ s.stage ≠ 4) ∧
    (∃ (acc : Access) (s : State), s.owns acc 0x20004 = true ∧ s.canon = true ∧ s.img.active.isSome = true ∧ s.stage ≠ 4 ∧ s.is Reg.MIX_OVR_STATUS_EFFECTIVE = false) ∧
    (∃ (acc : Access) (im : Image) (s : State), s.owns acc 0x20004 = true ∧ s.canon = true ∧ s.img.active = some im ∧ s.epochMis = true ∧ im.dMin ≤ s.get Reg.KS_PRES_DELAY ∧ s.is Reg.RING_CTL_STATUS_RATE_MIS = false) ∧
    (∃ (acc : Access) (s : State), s.owns acc 0x2003C = true ∧ s.canon = true ∧ s.is Reg.IMG_SIG_LOCK = false) :=
  ⟨⟨⟨.debug, 0⟩, false, State.reset, by decide +kernel⟩,
   ⟨⟨.debug, 0⟩, wImg, ((fun s : State => { s with img := { s.img with staged := some wImg } }) State.reset).set Reg.IMG_STATUS_STAGE 2, by decide +kernel⟩,
   ⟨⟨.debug, 0⟩, State.reset.set Reg.IMG_STATUS_STAGE 3, by decide +kernel⟩,
   ⟨⟨.debug, 0⟩, State.reset, by decide +kernel⟩,
   ⟨⟨.debug, 0⟩, (fun s : State => { s with img := { s.img with active := some wImg } }) State.reset, by decide +kernel⟩,
   ⟨⟨.debug, 0⟩, wImg, (fun s : State => { s with rct := { s.rct with epoch := some 7 } }) ((fun s : State => { s with img := { s.img with active := some wImg } }) State.reset), by decide +kernel⟩,
   ⟨⟨.debug, 0⟩, State.reset, by decide +kernel⟩⟩
/-- Each clause of EngineCommandsTakeEffect has a state and operands that meet its conditions. -/
theorem witness_EngineCommandsTakeEffect :
    (∃ (acc : Access) (s : State), s.owns acc 0x30004 = true ∧ s.canon = true) ∧
    (∃ (acc : Access) (s : State), s.owns acc 0x30004 = true ∧ s.canon = true) ∧
    (∃ (acc : Access) (s : State), s.owns acc 0x70014 = true ∧ s.ks.count < s.get64 Reg.MIX_LATCH_TICK_LO Reg.MIX_LATCH_TICK_HI) ∧
    (∃ (acc : Access) (s : State), s.owns acc 0x70014 = true ∧ s.get64 Reg.MIX_LATCH_TICK_LO Reg.MIX_LATCH_TICK_HI ≤ s.ks.count) ∧
    (∃ (acc : Access) (s : State), s.owns acc 0x70014 = true ∧ s.mix.latchOn = true) ∧
    (∃ (acc : Access) (s : State), s.owns acc 0x70014 = true) ∧
    (∃ (acc : Access) (s : State), s.owns acc 0x70040 = true ∧ s.canon = true ∧ s.get Reg.MIX_REC_STATUS_STATE ≠ 0) ∧
    (∃ (acc : Access) (s : State), s.owns acc 0x70040 = true ∧ s.canon = true ∧ s.get Reg.MIX_REC_STATUS_STATE = 1) ∧
    (∃ (acc : Access) (id : Fin 4096) (ch : Fin 8) (im : Image) (x : Inst) (s : State), s.opens acc 0x70028 = true ∧ s.canon = true ∧ s.img.active = some im ∧ im.inst id.val = some x ∧ s.mix.pfir = none ∧ x.kind = 5 ∧ bit x.writers (accTen acc) = true ∧ ch.val < x.nIn ∧ s.get Reg.MIX_PFIR_SRC 0 0 (accTen acc) % 64 = 0 ∧ 0x40000000 ≤ s.get Reg.MIX_PFIR_SRC 0 0 (accTen acc) ∧ s.get Reg.MIX_PFIR_SRC 0 0 (accTen acc) + 16384 * x.kver ≤ 2 ^ 32 ∧ s.poolCovered (accTen acc) 16 (s.pfirOff (accTen acc)) (s.pfirOff (accTen acc) + 16384 * x.kver) = true) :=
  ⟨⟨⟨.debug, 0⟩, State.reset, by decide +kernel⟩,
   ⟨⟨.debug, 0⟩, State.reset, by decide +kernel⟩,
   ⟨⟨.debug, 0⟩, State.reset.set Reg.MIX_LATCH_TICK_LO 5, by decide +kernel⟩,
   ⟨⟨.debug, 0⟩, State.reset, by decide +kernel⟩,
   ⟨⟨.debug, 0⟩, (fun s : State => { s with mix := { s.mix with latchOn := true } }) State.reset, by decide +kernel⟩,
   ⟨⟨.debug, 0⟩, State.reset, by decide +kernel⟩,
   ⟨⟨.debug, 0⟩, State.reset.set Reg.MIX_REC_STATUS_STATE 1, by decide +kernel⟩,
   ⟨⟨.debug, 0⟩, State.reset.set Reg.MIX_REC_STATUS_STATE 1, by decide +kernel⟩,
   ⟨⟨.debug, 0⟩, 0, 0, { wImg with insts := [⟨0, 5, 1, 0, 0, 1, 0, 1, 0, 0, 0, 0, 0, 0, 0⟩] }, ⟨0, 5, 1, 0, 0, 1, 0, 1, 0, 0, 0, 0, 0, 0, 0⟩, ((fun s : State => { s with ten := { s.ten with allocs := [⟨0, 1, 0, 64⟩] } }) ((fun s : State => { s with img := { s.img with active := some { wImg with insts := [⟨0, 5, 1, 0, 0, 1, 0, 1, 0, 0, 0, 0, 0, 0, 0⟩] } } }) State.reset)).set Reg.MIX_PFIR_SRC 0x40000000 0 0 0, by decide +kernel⟩⟩
/-- Each clause of ParameterCommandsTakeEffect has a state and operands that meet its conditions. -/
theorem witness_ParameterCommandsTakeEffect :
    (∃ (acc : Access) (sp : Fin 8) (im : Image) (s : State), s.opens acc 0x70004 = true ∧ s.canon = true ∧ s.img.active = some im ∧ im.cls ≠ 0 ∧ im.maySwap (accTen acc) sp.val = true ∧ (s.swap sp.val).state ≠ 2 ∧ (¬((s.swap sp.val).on = true ∧ (s.swap sp.val).by' ≠ accTen acc)) ∧ s.ks.count + im.swapG sp.val < s.get64 Reg.MIX_SWAP_TICK_LO Reg.MIX_SWAP_TICK_HI 0 (accTen acc)) ∧
    (∃ (acc : Access) (sp : Fin 8) (s : State), s.opens acc 0x70004 = true ∧ s.canon = true ∧ (s.swap sp.val).on = true ∧ (s.swap sp.val).by' = accTen acc) ∧
    (∃ (acc : Access) (sp : Fin 8) (im : Image) (s : State), s.opens acc 0x70004 = true ∧ s.canon = true ∧ s.img.active = some im ∧ im.cls ≠ 0 ∧ im.maySwap (accTen acc) sp.val = true ∧ (s.swap sp.val).state ≠ 2 ∧ s.stage ≠ 4 ∧ s.spaceInsts sp.val = []) ∧
    (∃ (acc : Access) (off : Fin 65536) (v : Word) (s : State) (im : Image) (x : Inst), s.opens acc (0x40000 + off.val) = true ∧ off.val % 4 = 0 ∧ s.img.active = some im ∧ im.paramInst (s.get Reg.MIX_VIEW_TEN 0 0 (accTen acc)) (off.val / 4) = some x ∧ bit x.writers (accTen acc) = true ∧ s.heldFrom (accTen acc) x.id = false ∧ s.stage ≠ 3 ∧ s.stage ≠ 4 ∧ im.shadowAddr (s.get Reg.MIX_VIEW_TEN 0 0 (accTen acc)) (off.val / 4) = none ∧ (x.range im.cls im.rate (off.val / 4 - x.paramBase)).ok v = true ∧ x.tiesOk (setNth (s.parNext x) (off.val / 4 - x.paramBase) ((x.range im.cls im.rate (off.val / 4 - x.paramBase)).norm v)) = true) ∧
    (∃ (acc : Access) (sp : Fin 8) (im : Image) (s : State), s.opens acc 0x70004 = true ∧ s.canon = true ∧ s.img.active = some im ∧ im.cls ≠ 0 ∧ im.maySwap (accTen acc) sp.val = true ∧ (s.swap sp.val).state ≠ 2 ∧ (¬((s.swap sp.val).on = true ∧ (s.swap sp.val).by' ≠ accTen acc)) ∧ s.get64 Reg.MIX_SWAP_TICK_LO Reg.MIX_SWAP_TICK_HI 0 (accTen acc) ≤ s.ks.count + im.swapG sp.val) ∧
    (∃ (acc : Access) (off : Fin 65536) (v : Word) (s : State) (im : Image) (x : Inst) (a : Nat), s.opens acc (0x40000 + off.val) = true ∧ off.val % 4 = 0 ∧ s.img.active = some im ∧ im.paramInst (s.get Reg.MIX_VIEW_TEN 0 0 (accTen acc)) (off.val / 4) = some x ∧ bit x.writers (accTen acc) = true ∧ s.heldFrom (accTen acc) x.id = false ∧ s.stage ≠ 3 ∧ s.stage ≠ 4 ∧ im.shadowAddr (s.get Reg.MIX_VIEW_TEN 0 0 (accTen acc)) (off.val / 4) = some a ∧ (x.range im.cls im.rate (off.val / 4 - x.paramBase)).ok v = true) ∧
    (∃ (acc : Access) (off : Fin 65536) (w : Fin 3) (v new : Word) (s : State) (im : Image) (x : Inst), s.opens acc (0x40000 + off.val) = true ∧ off.val % 2 ^ w.val = 0 ∧ s.img.active = some im ∧ im.paramInst (s.get Reg.MIX_VIEW_TEN 0 0 (accTen acc)) (off.val / 4) = some x ∧ bit x.writers (accTen acc) = true ∧ s.heldFrom (accTen acc) x.id = false ∧ s.stage ≠ 3 ∧ s.stage ≠ 4 ∧ im.shadowAddr (s.get Reg.MIX_VIEW_TEN 0 0 (accTen acc)) (off.val / 4) = none ∧ new = BitVec.ofNat 32 (putBits (nth (s.parNext x) (off.val / 4 - x.paramBase) 0#32).toNat (8 * (off.val % 4 + 2 ^ w.val) - 1) (8 * (off.val % 4)) (v.toNat % 2 ^ (8 * 2 ^ w.val))) ∧ (x.range im.cls im.rate (off.val / 4 - x.paramBase)).ok new = true ∧ x.tiesOk (setNth (s.parNext x) (off.val / 4 - x.paramBase) ((x.range im.cls im.rate (off.val / 4 - x.paramBase)).norm new)) = true) ∧
    (∃ (acc : Access) (off : Fin 65536) (w : Fin 3) (v new : Word) (s : State) (im : Image) (x : Inst), s.opens acc (0x40000 + off.val) = true ∧ off.val % 2 ^ w.val = 0 ∧ s.img.active = some im ∧ im.paramInst (s.get Reg.MIX_VIEW_TEN 0 0 (accTen acc)) (off.val / 4) = some x ∧ bit x.writers (accTen acc) = true ∧ s.heldFrom (accTen acc) x.id = false ∧ s.stage ≠ 3 ∧ s.stage ≠ 4 ∧ im.shadowAddr (s.get Reg.MIX_VIEW_TEN 0 0 (accTen acc)) (off.val / 4) = none ∧ new = BitVec.ofNat 32 (putBits (nth (s.parNext x) (off.val / 4 - x.paramBase) 0#32).toNat (8 * (off.val % 4 + 2 ^ w.val) - 1) (8 * (off.val % 4)) (v.toNat % 2 ^ (8 * 2 ^ w.val))) ∧ (((x.range im.cls im.rate (off.val / 4 - x.paramBase)).ok new = false ∨ x.tiesOk (setNth (s.parNext x) (off.val / 4 - x.paramBase) ((x.range im.cls im.rate (off.val / 4 - x.paramBase)).norm new)) = false))) ∧
    (∃ (acc : Access) (off : Fin 65536) (w : Fin 3) (v new : Word) (s : State) (im : Image) (x : Inst) (a : Nat), s.opens acc (0x40000 + off.val) = true ∧ off.val % 2 ^ w.val = 0 ∧ s.img.active = some im ∧ im.paramInst (s.get Reg.MIX_VIEW_TEN 0 0 (accTen acc)) (off.val / 4) = some x ∧ bit x.writers (accTen acc) = true ∧ s.heldFrom (accTen acc) x.id = false ∧ s.stage ≠ 3 ∧ s.stage ≠ 4 ∧ im.shadowAddr (s.get Reg.MIX_VIEW_TEN 0 0 (accTen acc)) (off.val / 4) = some a ∧ new = BitVec.ofNat 32 (putBits (Mem.word s.mem.sram a).toNat (8 * (off.val % 4 + 2 ^ w.val) - 1) (8 * (off.val % 4)) (v.toNat % 2 ^ (8 * 2 ^ w.val))) ∧ (x.range im.cls im.rate (off.val / 4 - x.paramBase)).ok new = true) ∧
    (∃ (acc : Access) (off : Fin 65536) (w : Fin 3) (v new : Word) (s : State) (im : Image) (x : Inst) (a : Nat), s.opens acc (0x40000 + off.val) = true ∧ off.val % 2 ^ w.val = 0 ∧ s.img.active = some im ∧ im.paramInst (s.get Reg.MIX_VIEW_TEN 0 0 (accTen acc)) (off.val / 4) = some x ∧ bit x.writers (accTen acc) = true ∧ s.heldFrom (accTen acc) x.id = false ∧ s.stage ≠ 3 ∧ s.stage ≠ 4 ∧ im.shadowAddr (s.get Reg.MIX_VIEW_TEN 0 0 (accTen acc)) (off.val / 4) = some a ∧ new = BitVec.ofNat 32 (putBits (Mem.word s.mem.sram a).toNat (8 * (off.val % 4 + 2 ^ w.val) - 1) (8 * (off.val % 4)) (v.toNat % 2 ^ (8 * 2 ^ w.val))) ∧ (x.range im.cls im.rate (off.val / 4 - x.paramBase)).ok new = false) ∧
    (∃ (acc : Access) (sp : Fin 8) (im : Image) (s : State), s.opens acc 0x70004 = true ∧ s.canon = true ∧ s.img.active = some im ∧ im.cls ≠ 0 ∧ im.maySwap (accTen acc) sp.val = true ∧ (s.swap sp.val).state ≠ 2 ∧ s.stage ≠ 4) ∧
    (∃ (acc : Access) (sp : Fin 8) (im : Image) (s : State), s.opens acc 0x70004 = true ∧ s.canon = true ∧ s.img.active = some im ∧ (im.cls = 0 ∨ (s.swap sp.val).state = 2 ∨ s.stage = 4)) :=
  ⟨⟨⟨.debug, 0⟩, 0, { wImg with insts := [⟨0, 1, 0, 0, 0, 1, 0, 1, 1, 0, 0, 0, 1, 0, 0⟩] }, ((fun s : State => { s with img := { s.img with active := some { wImg with insts := [⟨0, 1, 0, 0, 0, 1, 0, 1, 1, 0, 0, 0, 1, 0, 0⟩] } } }) State.reset).set Reg.MIX_SWAP_TICK_LO 9 0 0 0, by decide +kernel⟩,
   ⟨⟨.debug, 0⟩, 0, State.reset.modSwap 0 (fun c => { c with on := true }), by decide +kernel⟩,
   ⟨⟨.debug, 0⟩, 0, { wImg with insts := [⟨0, 1, 0, 0, 0, 1, 0, 1, 1, 0, 0, 0, 0, 0, 0⟩] }, ((fun s : State => { s with img := { s.img with active := some { wImg with insts := [⟨0, 1, 0, 0, 0, 1, 0, 1, 1, 0, 0, 0, 0, 0, 0⟩] } } }) State.reset).set Reg.IMG_STATUS_STAGE 0, by decide +kernel⟩,
   ⟨⟨.debug, 0⟩, 0, 0x3F000000#32, (fun s : State => { s with img := { s.img with active := some { wImg with cls := 0, insts := [⟨0, 1, 0, 0, 0, 1, 0, 1, 1, 0, 0, 0, 2, 0, 0⟩] } } }) State.reset, { wImg with cls := 0, insts := [⟨0, 1, 0, 0, 0, 1, 0, 1, 1, 0, 0, 0, 2, 0, 0⟩] }, ⟨0, 1, 0, 0, 0, 1, 0, 1, 1, 0, 0, 0, 2, 0, 0⟩, by decide +kernel⟩,
   ⟨⟨.debug, 0⟩, 0, { wImg with cls := 1, insts := [⟨0, 1, 0, 0, 0, 1, 0, 1, 1, 0, 0, 0, 1, 0, 0⟩] }, ((fun s : State => { s with img := { s.img with active := some { wImg with cls := 1, insts := [⟨0, 1, 0, 0, 0, 1, 0, 1, 1, 0, 0, 0, 1, 0, 0⟩] } } }) State.reset).set Reg.MIX_SWAP_TICK_LO 1 0 0 0, by decide +kernel⟩,
   ⟨⟨.debug, 0⟩, 0, 0x3F000000#32, (fun s : State => { s with img := { s.img with active := some { wImg with cls := 1, insts := [⟨0, 1, 0, 0, 0, 1, 0, 1, 1, 0, 0, 0, 2, 0, 0⟩], regions := [⟨6, 0, 64, 64, 0⟩] } } }) State.reset, { wImg with cls := 1, insts := [⟨0, 1, 0, 0, 0, 1, 0, 1, 1, 0, 0, 0, 2, 0, 0⟩], regions := [⟨6, 0, 64, 64, 0⟩] }, ⟨0, 1, 0, 0, 0, 1, 0, 1, 1, 0, 0, 0, 2, 0, 0⟩, 64, by decide +kernel⟩,
   (by refine ⟨⟨.debug, 0⟩, 2, 1, 0x3F00#32, _, (fun s : State => { s with img := { s.img with active := some { wImg with cls := 0, insts := [⟨0, 1, 0, 0, 0, 1, 0, 1, 1, 0, 0, 0, 2, 0, 0⟩] } } }) State.reset, { wImg with cls := 0, insts := [⟨0, 1, 0, 0, 0, 1, 0, 1, 1, 0, 0, 0, 2, 0, 0⟩] }, ⟨0, 1, 0, 0, 0, 1, 0, 1, 1, 0, 0, 0, 2, 0, 0⟩, ?_, ?_, ?_, ?_, ?_, ?_, ?_, ?_, ?_, rfl, ?_⟩ <;> decide +kernel),
   (by refine ⟨⟨.debug, 0⟩, 2, 1, 0xFFFF#32, _, (fun s : State => { s with img := { s.img with active := some { wImg with cls := 0, insts := [⟨0, 1, 0, 0, 0, 1, 0, 1, 1, 0, 0, 0, 2, 0, 0⟩] } } }) State.reset, { wImg with cls := 0, insts := [⟨0, 1, 0, 0, 0, 1, 0, 1, 1, 0, 0, 0, 2, 0, 0⟩] }, ⟨0, 1, 0, 0, 0, 1, 0, 1, 1, 0, 0, 0, 2, 0, 0⟩, ?_, ?_, ?_, ?_, ?_, ?_, ?_, ?_, ?_, rfl, ?_⟩ <;> decide +kernel),
   (by refine ⟨⟨.debug, 0⟩, 2, 1, 0x3F00#32, _, (fun s : State => { s with img := { s.img with active := some { wImg with cls := 1, insts := [⟨0, 1, 0, 0, 0, 1, 0, 1, 1, 0, 0, 0, 2, 0, 0⟩], regions := [⟨6, 0, 64, 64, 0⟩] } } }) State.reset, { wImg with cls := 1, insts := [⟨0, 1, 0, 0, 0, 1, 0, 1, 1, 0, 0, 0, 2, 0, 0⟩], regions := [⟨6, 0, 64, 64, 0⟩] }, ⟨0, 1, 0, 0, 0, 1, 0, 1, 1, 0, 0, 0, 2, 0, 0⟩, 64, ?_, ?_, ?_, ?_, ?_, ?_, ?_, ?_, ?_, rfl, ?_⟩ <;> decide +kernel),
   (by refine ⟨⟨.debug, 0⟩, 2, 1, 0xFFFF#32, _, (fun s : State => { s with img := { s.img with active := some { wImg with cls := 1, insts := [⟨0, 1, 0, 0, 0, 1, 0, 1, 1, 0, 0, 0, 2, 0, 0⟩], regions := [⟨6, 0, 64, 64, 0⟩] } } }) State.reset, { wImg with cls := 1, insts := [⟨0, 1, 0, 0, 0, 1, 0, 1, 1, 0, 0, 0, 2, 0, 0⟩], regions := [⟨6, 0, 64, 64, 0⟩] }, ⟨0, 1, 0, 0, 0, 1, 0, 1, 1, 0, 0, 0, 2, 0, 0⟩, 64, ?_, ?_, ?_, ?_, ?_, ?_, ?_, ?_, ?_, rfl, ?_⟩ <;> decide +kernel),
   ⟨⟨.debug, 0⟩, 0, { wImg with cls := 1, insts := [⟨0, 1, 0, 0, 0, 1, 0, 1, 1, 0, 0, 0, 2, 0, 0⟩], regions := [⟨6, 0, 64, 64, 0⟩] }, ((fun s : State => { s with img := { s.img with active := some { wImg with cls := 1, insts := [⟨0, 1, 0, 0, 0, 1, 0, 1, 1, 0, 0, 0, 2, 0, 0⟩], regions := [⟨6, 0, 64, 64, 0⟩] } } }) State.reset).set Reg.IMG_STATUS_STAGE 0, by decide +kernel⟩,
   ⟨⟨.debug, 0⟩, 0, { wImg with cls := 0, insts := [⟨0, 1, 0, 0, 0, 1, 0, 1, 1, 0, 0, 0, 2, 0, 0⟩] }, (fun s : State => { s with img := { s.img with active := some { wImg with cls := 0, insts := [⟨0, 1, 0, 0, 0, 1, 0, 1, 1, 0, 0, 0, 2, 0, 0⟩] } } }) State.reset, by decide +kernel⟩⟩
/-- Each clause of MessageCommandsTakeEffect has a state and operands that meet its conditions. -/
theorem witness_MessageCommandsTakeEffect :
    (∃ (acc : Access) (m : Fin 1024) (s : State), s.opens acc 0x70060 = true ∧ ((accTen acc = 0 ∨ bit (s.get Reg.TEN_Tt_RIGHTS_RIGHTS (accTen acc)) 0 = true)) ∧ s.canon = true ∧ m.val ≠ 0 ∧ s.mix.msgOp = none ∧ s.msgPlayed m.val = false) ∧
    (∃ (acc : Access) (m : Fin 1024) (s : State), s.opens acc 0x70060 = true ∧ ((accTen acc = 0 ∨ bit (s.get Reg.TEN_Tt_RIGHTS_RIGHTS (accTen acc)) 0 = true)) ∧ s.canon = true ∧ m.val ≠ 0 ∧ s.mix.msgOp = none ∧ (s.msg m.val).state = 1) ∧
    (∃ (acc : Access) (m : Fin 1024) (s : State), s.opens acc 0x70060 = true ∧ ((accTen acc = 0 ∨ bit (s.get Reg.TEN_Tt_RIGHTS_RIGHTS (accTen acc)) 0 = true)) ∧ s.canon = true ∧ m.val ≠ 0 ∧ s.mix.msgOp = none ∧ 2 ≤ (s.msg m.val).state) ∧
    (∃ (acc : Access) (m : Fin 1024) (s : State), s.opens acc 0x70060 = true ∧ ((accTen acc = 0 ∨ bit (s.get Reg.TEN_Tt_RIGHTS_RIGHTS (accTen acc)) 0 = true)) ∧ s.canon = true ∧ m.val ≠ 0 ∧ s.mix.msgOp = none ∧ s.msgPlayed m.val = false) ∧
    (∃ (acc : Access) (d : Word) (s : State), s.owns acc 0x70064 = true ∧ s.get Reg.MIX_MSG_CTRL_NUMBER ≠ 0 ∧ (s.msg (s.get Reg.MIX_MSG_CTRL_NUMBER)).state = 1 ∧ s.mix.msgOp = none ∧ s.msgUsed + 4 ≤ 268435456) :=
  ⟨⟨⟨.debug, 0⟩, 1, State.reset, by decide +kernel⟩,
   ⟨⟨.debug, 0⟩, 1, (fun s : State => { s with mix := { s.mix with msgs := [⟨1, 1, []⟩] } }) State.reset, by decide +kernel⟩,
   ⟨⟨.debug, 0⟩, 1, (fun s : State => { s with mix := { s.mix with msgs := [⟨1, 2, []⟩] } }) State.reset, by decide +kernel⟩,
   ⟨⟨.debug, 0⟩, 1, State.reset, by decide +kernel⟩,
   ⟨⟨.debug, 0⟩, (0#32), (fun s : State => { s with mix := { s.mix with msgs := [⟨1, 1, []⟩] } }) (State.reset.set Reg.MIX_MSG_CTRL_NUMBER 1), by decide +kernel⟩⟩
/-- Each clause of RingCommandsTakeEffect has a state and operands that meet its conditions. -/
theorem witness_RingCommandsTakeEffect :
    (∃ (acc : Access) (s : State), s.owns acc 0x8000C = true ∧ s.canon = true) ∧
    (∃ (acc : Access) (s : State), s.owns acc 0x8000C = true ∧ s.canon = true) ∧
    (∃ (acc : Access) (s : State), s.owns acc 0x80818 = true ∧ s.canon = true ∧ s.isCoord = false) ∧
    (∃ (acc : Access) (s : State), s.owns acc 0x80818 = true ∧ s.canon = true ∧ s.isCoord = true ∧ s.rct.conf = none ∧ s.cfgConf.ok = true ∧ s.lacking s.cfgConf.speed s.free = []) ∧
    (∃ (acc : Access) (s : State), s.owns acc 0x80818 = true ∧ s.canon = true ∧ s.isCoord = true) ∧
    (∃ (acc : Access) (s : State), s.owns acc 0x80818 = true ∧ s.canon = true ∧ s.tmBarred = true) ∧
    (∃ (acc : Access) (s : State), s.owns acc 0x80818 = true ∧ s.canon = true ∧ s.tmBarred = false ∧ s.tmGood = true) ∧
    (∃ (acc : Access) (s : State), s.owns acc 0x80818 = true ∧ s.canon = true ∧ s.isCoord = false) ∧
    (∃ (acc : Access) (s : State), s.owns acc 0x80818 = true ∧ s.canon = true ∧ s.isCoord = true ∧ s.rct.standby ≠ none) ∧
    (∃ (acc : Access) (s : State), s.owns acc 0x80818 = true ∧ s.canon = true ∧ s.isCoord = true) ∧
    (∃ (acc : Access) (s : State), s.owns acc 0x80818 = true ∧ s.canon = true) ∧
    (∃ (acc : Access) (s : State), s.owns acc 0x80818 = true ∧ s.canon = true ∧ s.isCoord = true ∧ s.rct.conf = none ∧ s.cfgConf.ok = true ∧ s.lacking s.cfgConf.speed s.free ≠ []) ∧
    (∃ (acc : Access) (s : State), s.owns acc 0x80818 = true ∧ s.canon = true ∧ s.isCoord = true ∧ s.rct.conf = none ∧ s.cfgConf.ok = false) ∧
    (∃ (acc : Access) (s : State), s.owns acc 0x80818 = true ∧ s.canon = true ∧ s.isCoord = true ∧ s.rct.standby = none) ∧
    (∃ (acc : Access) (s : State), s.owns acc 0x80818 = true ∧ s.canon = true ∧ s.isCoord = false) ∧
    (∃ (acc : Access) (s : State), s.owns acc 0x80818 = true ∧ s.canon = true ∧ s.tmBarred = false ∧ s.tmGood = false) ∧
    (∃ (acc : Access) (s : State), s.owns acc 0x80818 = true ∧ s.canon = true ∧ s.isCoord = false) :=
  ⟨⟨⟨.debug, 0⟩, State.reset, by decide +kernel⟩,
   ⟨⟨.debug, 0⟩, State.reset, by decide +kernel⟩,
   ⟨⟨.debug, 0⟩, State.reset, by decide +kernel⟩,
   ⟨⟨.debug, 0⟩, State.reset.set Reg.RING_CTL_STATUS_STATE 5, by decide +kernel⟩,
   ⟨⟨.debug, 0⟩, State.reset.set Reg.RING_CTL_STATUS_STATE 5, by decide +kernel⟩,
   ⟨⟨.debug, 0⟩, ((fun s : State => { s with rct := { s.rct with tmLock := some 0 } }) State.reset).set Reg.RING_CTL_RTT_RTT 100, by decide +kernel⟩,
   ⟨⟨.debug, 0⟩, (fun s : State => { s with rct := { s.rct with gm := some s.baseMac } }) (State.reset.set Reg.RING_TM_TARGET_LO 0x777), by decide +kernel⟩,
   ⟨⟨.debug, 0⟩, State.reset, by decide +kernel⟩,
   ⟨⟨.debug, 0⟩, (fun s : State => { s with rct := { s.rct with standby := some 3 } }) (State.reset.set Reg.RING_CTL_STATUS_STATE 5), by decide +kernel⟩,
   ⟨⟨.debug, 0⟩, State.reset.set Reg.RING_CTL_STATUS_STATE 5, by decide +kernel⟩,
   ⟨⟨.debug, 0⟩, State.reset, by decide +kernel⟩,
   ⟨⟨.debug, 0⟩, (((fun s : State => { s with rct := { s.rct with pos := some 0 } }) (((((fun s : State => { s with rdp := { s.rdp with plan := some { wPlan with nodes := 2 } } }) (State.reset.set Reg.RING_CTL_STATUS_STATE 5)).set Reg.RING_CFG_PLAN_CHANNELS 512).set Reg.RING_CFG_PLAN_DELAY (dRange 0).2).set Reg.RING_CFG_PLAN_RATE 0)).setB Reg.RING_SEG_PORTp_IN_SERVICE true 0).setB Reg.RING_SEG_PORTp_IN_SERVICE true 1, by decide +kernel⟩,
   ⟨⟨.debug, 0⟩, (State.reset.set Reg.RING_CTL_STATUS_STATE 5).set Reg.RING_CFG_PLAN_RATE 3, by decide +kernel⟩,
   ⟨⟨.debug, 0⟩, State.reset.set Reg.RING_CTL_STATUS_STATE 5, by decide +kernel⟩,
   ⟨⟨.debug, 0⟩, State.reset, by decide +kernel⟩,
   ⟨⟨.debug, 0⟩, State.reset, by decide +kernel⟩,
   ⟨⟨.debug, 0⟩, State.reset, by decide +kernel⟩⟩
/-- Each clause of PortCommandsTakeEffect has a state and operands that meet its conditions. -/
theorem witness_PortCommandsTakeEffect :
    (∃ (acc : Access) (p : Fin 3) (m : Fin 8) (s : State), s.owns acc (0x90000 + 0x20 * p.val) = true ∧ s.canon = true ∧ m.val ≤ 4 ∧ (¬(p.val = 2 ∧ (m.val = 1 ∨ m.val = 4))) ∧ m.val ≠ s.get Reg.PORT_Pp_CFG_MODE p.val) ∧
    (∃ (acc : Access) (k : Fin 16) (s : State), s.owns acc (0x90200 + 0x20 * k.val) = true ∧ s.canon = true ∧ s.is Reg.PORT_AAFs_CFG_EN k.val = false) ∧
    (∃ (acc : Access) (v : Word) (s : State), s.owns acc 0xA0014 = true ∧ s.canon = true ∧ (v.toNat % 64 + 64 - s.get Reg.SBUS_TX_HEAD_INDEX) % 64 + (s.get Reg.SBUS_TX_HEAD_INDEX + 64 - s.get Reg.SBUS_TX_TAIL_INDEX) % 64 ≤ 32) ∧
    (∃ (acc : Access) (v : Word) (s : State), s.owns acc 0xA0028 = true ∧ s.canon = true ∧ (v.toNat % 64 + 64 - s.get Reg.SBUS_RX_TAIL_INDEX) % 64 ≤ (s.get Reg.SBUS_RX_HEAD_INDEX + 64 - s.get Reg.SBUS_RX_TAIL_INDEX) % 64) ∧
    (∃ (acc : Access) (s : State), s.owns acc 0x90090 = true ∧ s.get Reg.PORT_SNAP_ID ≠ 0 ∧ s.ks.count < s.get64 Reg.PORT_SNAP_TICK_LO Reg.PORT_SNAP_TICK_HI ∧ s.canon = true) ∧
    (∃ (acc : Access) (s : State), s.owns acc 0x90090 = true ∧ s.get Reg.PORT_SNAP_ID ≠ 0 ∧ s.ks.count < s.get64 Reg.PORT_SNAP_TICK_LO Reg.PORT_SNAP_TICK_HI ∧ s.canon = true) ∧
    (∃ (acc : Access) (p : Fin 3) (m : Fin 8) (s : State), s.owns acc (0x90000 + 0x20 * p.val) = true ∧ s.canon = true ∧ (4 < m.val ∨ (p.val = 2 ∧ (m.val = 1 ∨ m.val = 4)))) ∧
    (∃ (acc : Access) (p : Fin 3) (m : Fin 8) (s : State), s.owns acc (0x90000 + 0x20 * p.val) = true ∧ s.canon = true ∧ m.val ≤ 4 ∧ (¬(p.val = 2 ∧ (m.val = 1 ∨ m.val = 4))) ∧ m.val = s.get Reg.PORT_Pp_CFG_MODE p.val) :=
  ⟨⟨⟨.debug, 0⟩, 0, 4, State.reset, by decide +kernel⟩,
   ⟨⟨.debug, 0⟩, 0, State.reset, by decide +kernel⟩,
   ⟨⟨.debug, 0⟩, (0#32), State.reset, by decide +kernel⟩,
   ⟨⟨.debug, 0⟩, (0#32), State.reset, by decide +kernel⟩,
   ⟨⟨.debug, 0⟩, State.reset.set Reg.PORT_SNAP_TICK_LO 9, by decide +kernel⟩,
   ⟨⟨.debug, 0⟩, State.reset.set Reg.PORT_SNAP_TICK_LO 9, by decide +kernel⟩,
   ⟨⟨.debug, 0⟩, 2, 1, State.reset, by decide +kernel⟩,
   ⟨⟨.debug, 0⟩, 0, 0, State.reset, by decide +kernel⟩⟩
/-- Each clause of PowerChannelCommandsTakeEffect has a state and operands that meet its conditions. -/
theorem witness_PowerChannelCommandsTakeEffect :
    (∃ (acc : Access) (n : Fin 8) (s : State), s.owns acc (0xF0108 + 0x40 * n.val) = true ∧ s.linkOk = true) ∧
    (∃ (acc : Access) (n : Fin 8) (tm : Bool) (s : State), s.owns acc (0xF0108 + 0x40 * n.val) = true ∧ s.linkOk = true) ∧
    (∃ (acc : Access) (n : Fin 8) (tm : Bool) (s : State), s.owns acc (0xF0108 + 0x40 * n.val) = true ∧ s.linkOk = true) ∧
    (∃ (acc : Access) (n : Fin 8) (s : State), s.owns acc (0xF0108 + 0x40 * n.val) = true ∧ s.linkOk = true) ∧
    (∃ (acc : Access) (s : State), s.owns acc 0xF0010 = true ∧ s.linkOk = true) ∧
    (∃ (n : Fin 8) (s : State), s.ch n.val = 1 ∧ s.armBarred n.val = false) ∧
    (∃ (n : Fin 8) (s : State), s.ch n.val = 2) ∧
    (∃ (n : Fin 8) (s : State), s.ch n.val ≠ 4) ∧
    (∃ (acc : Access) (n : Fin 8) (s : State), s.owns acc (0xF0108 + 0x40 * n.val) = true ∧ s.linkOk = true) ∧
    (∃ (acc : Access) (n : Fin 8) (s : State), s.owns acc (0xF0108 + 0x40 * n.val) = true ∧ s.linkOk = true) ∧
    (∃ (acc : Access) (n : Fin 8) (s : State), s.owns acc (0xF0108 + 0x40 * n.val) = true ∧ s.linkOk = true) ∧
    (∃ (acc : Access) (n : Fin 8) (s : State), s.owns acc (0xF0108 + 0x40 * n.val) = true ∧ s.linkOk = true) ∧
    (∃ (acc : Access) (s : State), s.owns acc 0xF0010 = true ∧ s.linkOk = true) :=
  ⟨⟨⟨.debug, 0⟩, 0, (fun s : State => { s with pwr := { s.pwr with on := true, dnSeen := true, upSeen := true } }) State.reset, by decide +kernel⟩,
   ⟨⟨.debug, 0⟩, 0, false, (fun s : State => { s with pwr := { s.pwr with on := true, dnSeen := true, upSeen := true } }) State.reset, by decide +kernel⟩,
   ⟨⟨.debug, 0⟩, 0, false, (fun s : State => { s with pwr := { s.pwr with on := true, dnSeen := true, upSeen := true } }) State.reset, by decide +kernel⟩,
   ⟨⟨.debug, 0⟩, 0, (fun s : State => { s with pwr := { s.pwr with on := true, dnSeen := true, upSeen := true } }) State.reset, by decide +kernel⟩,
   ⟨⟨.debug, 0⟩, (fun s : State => { s with pwr := { s.pwr with on := true, dnSeen := true, upSeen := true } }) State.reset, by decide +kernel⟩,
   ⟨0, State.reset.set Reg.PWR_CHn_STATE_STATE 1 0, by decide +kernel⟩,
   ⟨0, State.reset.set Reg.PWR_CHn_STATE_STATE 2 0, by decide +kernel⟩,
   ⟨0, State.reset, by decide +kernel⟩,
   ⟨⟨.debug, 0⟩, 0, (fun s : State => { s with pwr := { s.pwr with on := true, dnSeen := true, upSeen := true } }) State.reset, by decide +kernel⟩,
   ⟨⟨.debug, 0⟩, 0, (fun s : State => { s with pwr := { s.pwr with on := true, dnSeen := true, upSeen := true } }) State.reset, by decide +kernel⟩,
   ⟨⟨.debug, 0⟩, 0, (fun s : State => { s with pwr := { s.pwr with on := true, dnSeen := true, upSeen := true } }) State.reset, by decide +kernel⟩,
   ⟨⟨.debug, 0⟩, 0, (fun s : State => { s with pwr := { s.pwr with on := true, dnSeen := true, upSeen := true } }) State.reset, by decide +kernel⟩,
   ⟨⟨.debug, 0⟩, (fun s : State => { s with pwr := { s.pwr with on := true, dnSeen := true, upSeen := true } }) State.reset, by decide +kernel⟩⟩
/-- Each clause of ProtectionCommandsTakeEffect has a state and operands that meet its conditions. -/
theorem witness_ProtectionCommandsTakeEffect :
    (∃ (acc : Access) (n : Fin 8) (v : Word) (s : State), s.owns acc (0x100104 + 0x40 * n.val) = true ∧ s.canon = true) ∧
    (∃ (acc : Access) (n : Fin 8) (v : Word) (s : State), s.owns acc (0x100104 + 0x40 * n.val) = true ∧ s.canon = true ∧ v.toNat % 4 ≠ 0) ∧
    (∃ (acc : Access) (n : Fin 8) (v : Word) (s : State), s.owns acc (0x100104 + 0x40 * n.val) = true ∧ s.canon = true ∧ v.toNat % 4 = 0 ∧ s.img.active.isSome = true ∧ bit s.served n.val = true) ∧
    (∃ (acc : Access) (im : Image) (s : State), s.owns acc 0x100304 = true ∧ s.canon = true ∧ s.diagRuns = false ∧ s.is Reg.MIX_OVR_STATUS_EFFECTIVE = false ∧ s.img.active = some im ∧ s.stage ≠ 3 ∧ s.stage ≠ 4 ∧ s.is Reg.IMG_STATUS_EPOCH_HOLD = false ∧ s.get Reg.BST_DIAG_CTRL_MODE = 1 ∧ s.get Reg.BST_DIAG_CFG_CHMASK ≠ 0 ∧ (bitsSet (s.get Reg.BST_DIAG_CFG_CHMASK) 8).all (fun n => (im.tester n).isSome) = true) ∧
    (∃ (acc : Access) (s : State), s.owns acc 0x100304 = true ∧ s.canon = true ∧ s.diagRuns = true) :=
  ⟨⟨⟨.debug, 0⟩, 0, (0#32), State.reset, by decide +kernel⟩,
   ⟨⟨.debug, 0⟩, 0, 3#32, State.reset, by decide +kernel⟩,
   ⟨⟨.debug, 0⟩, 0, (0#32), (fun s : State => { s with img := { s.img with active := some { wImg with insts := [⟨0, 0x13, 1, 0, 0, 1, 0, 0, 1, 0, 0, 0, 4, 0, 0⟩, ⟨1, 0x41, 0, 0, 0, 1, 0, 1, 0, 10, 0, 0, 0, 0, 0⟩], nets := [⟨0, 0, 1, 0, 0⟩] } } }) State.reset, by decide +kernel⟩,
   ⟨⟨.debug, 0⟩, { wImg with insts := [⟨0, 0x13, 1, 0, 0, 1, 0, 0, 1, 0, 0, 0, 4, 0, 0⟩, ⟨1, 0x41, 0, 0, 0, 1, 0, 1, 0, 10, 0, 0, 0, 0, 0⟩], nets := [⟨0, 0, 1, 0, 0⟩] }, (((fun s : State => { s with img := { s.img with active := some { wImg with insts := [⟨0, 0x13, 1, 0, 0, 1, 0, 0, 1, 0, 0, 0, 4, 0, 0⟩, ⟨1, 0x41, 0, 0, 0, 1, 0, 1, 0, 10, 0, 0, 0, 0, 0⟩], nets := [⟨0, 0, 1, 0, 0⟩] } } }) State.reset).set Reg.BST_DIAG_CTRL_MODE 1).set Reg.BST_DIAG_CFG_CHMASK 1, by decide +kernel⟩,
   ⟨⟨.debug, 0⟩, (fun s : State => { s with bst := { s.bst with diag := { s.bst.diag with step := .background } } }) State.reset, by decide +kernel⟩⟩
/-- Each clause of AudioCommandsTakeEffect has a state and operands that meet its conditions. -/
theorem witness_AudioCommandsTakeEffect :
    (∃ (acc : Access) (s : State), s.owns acc 0xC0004 = true) ∧
    (∃ (acc : Access) (n : Fin 4) (s : State), s.owns acc (0xC0044 + 0x10 * n.val) = true ∧ s.anaSt n.val = 1 ∧ s.get Reg.ANA_OUTn_STAT_RAMP n.val ≠ 2 ∧ s.img.active.isSome = true ∧ s.anaBarred n.val = false ∧ s.is Reg.IMG_STATUS_EPOCH_HOLD = false ∧ s.jackMuted n.val = false) ∧
    (∃ (acc : Access) (n : Fin 4) (s : State), s.owns acc (0xC0044 + 0x10 * n.val) = true) ∧
    (∃ (acc : Access) (n : Fin 3) (s : State), s.owns acc (0xB0000 + 0x100 * n.val) = true ∧ s.canon = true ∧ s.is Reg.SAPn_CFG_EN n.val = false) ∧
    (∃ (acc : Access) (n : Fin 3) (s : State), s.owns acc (0xB0020 + 0x100 * n.val) = true ∧ s.canon = true ∧ s.is Reg.SAPn_CAP_CFG_EN n.val = false ∧ s.dmaOk n.val Reg.SAPn_CAP_MASK Reg.SAPn_CAP_BASE Reg.SAPn_CAP_FRAMES_FRAMES (s.is Reg.SAPn_CAP_CFG_PACK n.val) = true) ∧
    (∃ (acc : Access) (n : Fin 3) (s : State), s.owns acc (0xB0050 + 0x100 * n.val) = true ∧ s.canon = true ∧ s.is Reg.SAPn_PB_CFG_EN n.val = false ∧ s.dmaOk n.val Reg.SAPn_PB_MASK Reg.SAPn_PB_BASE Reg.SAPn_PB_FRAMES_FRAMES (s.is Reg.SAPn_PB_CFG_PACK n.val) = true) ∧
    (∃ (acc : Access) (n : Fin 3) (v : Word) (s : State), s.owns acc (0xB0034 + 0x100 * n.val) = true ∧ (v - s.word Reg.SAPn_CAP_RD n.val).toNat ≤ (s.word Reg.SAPn_CAP_WR n.val - s.word Reg.SAPn_CAP_RD n.val).toNat) ∧
    (∃ (acc : Access) (n : Fin 3) (v : Word) (s : State), s.owns acc (0xB0060 + 0x100 * n.val) = true ∧ (v - s.word Reg.SAPn_PB_WR n.val).toNat + (s.word Reg.SAPn_PB_WR n.val - s.word Reg.SAPn_PB_RD n.val).toNat ≤ s.get Reg.SAPn_PB_FRAMES_FRAMES n.val) :=
  ⟨⟨⟨.debug, 0⟩, State.reset, by decide +kernel⟩,
   ⟨⟨.debug, 0⟩, 0, (fun s : State => { s with img := { s.img with active := some wImg } }) (State.reset.set Reg.ANA_OUTn_STAT_STATE 1 0), by decide +kernel⟩,
   ⟨⟨.debug, 0⟩, 0, State.reset, by decide +kernel⟩,
   ⟨⟨.debug, 0⟩, 0, State.reset, by decide +kernel⟩,
   ⟨⟨.debug, 0⟩, 0, ((((fun s : State => { s with ten := { s.ten with allocs := [⟨0, 1, 0, 64⟩] } }) State.reset).set Reg.SAPn_CAP_MASK 1 0).set Reg.SAPn_CAP_BASE 0x40000000 0).set Reg.SAPn_CAP_FRAMES_FRAMES 16 0, by decide +kernel⟩,
   ⟨⟨.debug, 0⟩, 0, ((((fun s : State => { s with ten := { s.ten with allocs := [⟨0, 1, 0, 64⟩] } }) State.reset).set Reg.SAPn_PB_MASK 1 0).set Reg.SAPn_PB_BASE 0x40000000 0).set Reg.SAPn_PB_FRAMES_FRAMES 16 0, by decide +kernel⟩,
   ⟨⟨.debug, 0⟩, 0, (0#32), State.reset, by decide +kernel⟩,
   ⟨⟨.debug, 0⟩, 0, (0#32), State.reset, by decide +kernel⟩⟩
/-- Each clause of AuxAndClockCommandsTakeEffect has a state and operands that meet its conditions. -/
theorem witness_AuxAndClockCommandsTakeEffect :
    (∃ (acc : Access) (n : Fin 4) (v : Word) (s : State), s.owns acc (0xD011C + 0x40 * n.val) = true ∧ (s.ax n.val).queue.length < 64) ∧
    (∃ (acc : Access) (n : Fin 4) (s : State), s.owns acc (0xD0104 + 0x40 * n.val) = true) ∧
    (∃ (acc : Access) (n : Fin 4) (s : State), s.owns acc (0xD0104 + 0x40 * n.val) = true) ∧
    (∃ (acc : Access) (n m : Fin 4) (s : State), s.owns acc (0xD0104 + 0x40 * n.val) = true ∧ ((m.val = 1 ∧ (s.auxMode n.val = 1 ∨ s.auxMode n.val = 3)) ∨ (m.val = 2 ∧ (s.auxMode n.val = 1 ∨ s.auxMode n.val = 2)))) ∧
    (∃ (acc : Access) (n : Fin 4) (s : State), s.owns acc (0xD0100 + 0x40 * n.val) = true ∧ s.canon = true ∧ s.is Reg.AUXn_CFG_EN n.val = false ∧ s.get Reg.AUXn_CFG_DIV n.val ≠ 0 ∧ s.get Reg.AUXn_CFG_SRC n.val ≠ 3) ∧
    (∃ (acc : Access) (n : Fin 4) (s : State), s.owns acc (0xD0100 + 0x40 * n.val) = true ∧ s.canon = true ∧ s.get Reg.AUXn_CFG_DIV n.val ≠ 0 ∧ s.get Reg.AUXn_CFG_SRC n.val ≠ 3) ∧
    (∃ (acc : Access) (p : Fin 3) (v : Word) (s : State), s.owns acc (0xE010C + 0x100 * p.val) = true ∧ p.val < 2 ∧ v.toNat % 65536 ≠ 0 ∧ s.get Reg.CLK_Pp_PHASE_PENDING p.val = 0) :=
  ⟨⟨⟨.debug, 0⟩, 0, (0#32), State.reset, by decide +kernel⟩,
   ⟨⟨.debug, 0⟩, 0, State.reset, by decide +kernel⟩,
   ⟨⟨.debug, 0⟩, 0, State.reset, by decide +kernel⟩,
   ⟨⟨.debug, 0⟩, 0, 2, State.reset.set Reg.AUXn_STATE_MODE 1 0, by decide +kernel⟩,
   ⟨⟨.debug, 0⟩, 0, State.reset, by decide +kernel⟩,
   ⟨⟨.debug, 0⟩, 0, State.reset, by decide +kernel⟩,
   ⟨⟨.debug, 0⟩, 0, 3#32, State.reset, by decide +kernel⟩⟩
/-- Each clause of TenancyCommandsTakeEffect has a state and operands that meet its conditions. -/
theorem witness_TenancyCommandsTakeEffect :
    (∃ (acc : Access) (mib : Fin 8192) (o : Nat) (s : State), s.opens acc 0x110030 = true ∧ s.canon = true ∧ mib.val ≠ 0 ∧ mib.val ≤ 6656 ∧ accTen acc = 0 ∧ s.ten.allocs.all (fun a => a.ten ≠ 0 || a.handle ≠ 1) = true ∧ s.dramUse 0 + mib.val ≤ (s.quota 0).dramMib ∧ s.lowestFit 0 mib.val (s.tenRec 0).dramMib = some o) ∧
    (∃ (acc : Access) (h : Fin 16) (s : State), s.opens acc 0x110030 = true ∧ s.canon = true ∧ h.val ≠ 0 ∧ s.ten.allocs.any (fun a => a.ten = accTen acc && a.handle = h.val) = true) ∧
    (∃ (acc : Access) (id : Fin 4096) (s : State), s.opens acc 0x110038 = true ∧ s.canon = true ∧ s.mayWrite (accTen acc) id.val = true ∧ s.ten.holds.all (fun h => h.2 ≠ id.val) = true ∧ (s.ten.holds.filter (fun h => h.1 = accTen acc)).length < 16) ∧
    (∃ (acc : Access) (id : Fin 4096) (s : State), s.opens acc 0x110038 = true ∧ s.canon = true ∧ s.ten.holds.contains (accTen acc, id.val) = true) ∧
    (∃ (acc : Access) (t : Fin 8) (s : State), s.owns acc 0x110004 = true ∧ s.canon = true ∧ t.val ≠ 0) ∧
    (∃ (acc : Access) (v : Word) (s : State), s.opens acc 0x11003C = true ∧ s.canon = true ∧ v.toNat % 8 ≤ 4) ∧
    (∃ (acc : Access) (t : Fin 8) (v : Word) (s : State), s.owns acc (0x110108 + 0x40 * t.val) = true ∧ s.canon = true) ∧
    (∃ (acc : Access) (mib : Fin 8192) (h o : Nat) (s : State), s.opens acc 0x110030 = true ∧ s.canon = true ∧ mib.val ≠ 0 ∧ mib.val ≤ 6656 ∧ (accTen acc = 0 ∨ bit (s.get Reg.TEN_Tt_RIGHTS_RIGHTS (accTen acc)) 4 = true) ∧ 1 ≤ h ∧ h ≤ 15 ∧ s.ten.allocs.all (fun a => a.ten ≠ accTen acc || a.handle ≠ h) = true ∧ (List.range h).all (fun g => g = 0 || s.ten.allocs.any (fun a => a.ten = accTen acc && a.handle = g)) = true ∧ s.dramUse (accTen acc) + mib.val ≤ (s.quota (accTen acc)).dramMib ∧ s.lowestFit (accTen acc) mib.val (s.tenRec (accTen acc)).dramMib = some o) ∧
    (∃ (acc : Access) (mib : Fin 8192) (s : State), s.opens acc 0x110030 = true ∧ s.canon = true ∧ (mib.val = 0 ∨ 6656 < mib.val)) ∧
    (∃ (acc : Access) (id : Fin 4096) (b : Nat) (s : State), s.opens acc 0x110038 = true ∧ s.canon = true ∧ s.mayWrite (accTen acc) id.val = true ∧ s.ten.holds.filter (fun h => h.2 = id.val) = [(b, id.val)] ∧ b ≠ accTen acc) ∧
    (∃ (acc : Access) (id : Fin 4096) (s : State), s.opens acc 0x110038 = true ∧ s.canon = true ∧ s.mayWrite (accTen acc) id.val = false) ∧
    (∃ (acc : Access) (t : Fin 8) (v : Word) (s : State), s.owns acc (0x11010C + 0x40 * t.val) = true ∧ s.canon = true) ∧
    (∃ (acc : Access) (t : Fin 8) (v : Word) (s : State), s.owns acc (0x110110 + 0x40 * t.val) = true ∧ s.canon = true) ∧
    (∃ (acc : Access) (t : Fin 8) (v : Word) (s : State), s.owns acc (0x110114 + 0x40 * t.val) = true ∧ s.canon = true) :=
  ⟨⟨⟨.debug, 0⟩, 4, 0, ((fun s : State => { s with img := { s.img with active := some { wImg with tens := [⟨1, 0, 0, 0, 64, 0, 0⟩] } } }) State.reset).set Reg.TEN_Tt_CAP2_DRAM_MIB 64 0, by decide +kernel⟩,
   ⟨⟨.debug, 0⟩, 1, (fun s : State => { s with ten := { s.ten with allocs := [⟨0, 1, 0, 64⟩] } }) State.reset, by decide +kernel⟩,
   ⟨⟨.debug, 0⟩, 0, (fun s : State => { s with img := { s.img with active := some { wImg with insts := [⟨0, 1, 0, 0, 0, 1, 0, 1, 1, 0, 0, 0, 2, 0, 0⟩] } } }) State.reset, by decide +kernel⟩,
   ⟨⟨.debug, 0⟩, 0, (fun s : State => { s with ten := { s.ten with holds := [(0, 0)] } }) State.reset, by decide +kernel⟩,
   ⟨⟨.debug, 0⟩, 1, State.reset, by decide +kernel⟩,
   ⟨⟨.debug, 0⟩, (0#32), State.reset, by decide +kernel⟩,
   ⟨⟨.debug, 0⟩, 0, (0#32), State.reset, by decide +kernel⟩,
   ⟨⟨.debug, 0⟩, 4, 2, 8, (fun s : State => { s with ten := { s.ten with allocs := [⟨0, 1, 0, 8⟩] } }) (((fun s : State => { s with img := { s.img with active := some { wImg with tens := [⟨1, 0, 0, 0, 64, 0, 0⟩] } } }) State.reset).set Reg.TEN_Tt_CAP2_DRAM_MIB 64 0), by decide +kernel⟩,
   ⟨⟨.debug, 0⟩, 0, State.reset, by decide +kernel⟩,
   ⟨⟨.debug, 0⟩, 0, 1, (fun s : State => { s with ten := { s.ten with holds := [(1, 0)] } }) ((fun s : State => { s with img := { s.img with active := some { wImg with insts := [⟨0, 1, 0, 0, 0, 1, 0, 1, 1, 0, 0, 0, 2, 0, 0⟩] } } }) State.reset), by decide +kernel⟩,
   ⟨⟨.debug, 0⟩, 5, State.reset, by decide +kernel⟩,
   ⟨⟨.debug, 0⟩, 0, (0#32), State.reset, by decide +kernel⟩,
   ⟨⟨.debug, 0⟩, 0, (0#32), State.reset, by decide +kernel⟩,
   ⟨⟨.debug, 0⟩, 0, (0#32), State.reset, by decide +kernel⟩⟩
/-- Each clause of SemaphoreCommandsTakeEffect has a state and operands that meet its conditions. -/
theorem witness_SemaphoreCommandsTakeEffect :
    (∃ (acc : Access) (n : Fin 64) (s : State), s.opens acc (0x110C00 + 0x10 * n.val) = true ∧ semAllowed n.val (semCode acc.path (accTen acc)) = true ∧ s.quietRead acc.path = false) ∧
    (∃ (acc : Access) (n : Fin 64) (s : State), s.opens acc (0x110C00 + 0x10 * n.val) = true ∧ semAllowed n.val (semCode acc.path (accTen acc)) = true ∧ s.quietRead acc.path = false ∧ (s.sem n.val).owner ≠ 0 ∧ (s.sem n.val).owner ≠ semCode acc.path (accTen acc)) ∧
    (∃ (acc : Access) (n : Fin 64) (s : State), s.opens acc (0x110C04 + 0x10 * n.val) = true ∧ semAllowed n.val (semCode acc.path (accTen acc)) = true ∧ s.quietRead acc.path = false) ∧
    (∃ (acc : Access) (n : Fin 64) (s : State), s.opens acc (0x110C04 + 0x10 * n.val) = true ∧ semAllowed n.val (semCode acc.path (accTen acc)) = true ∧ s.quietRead acc.path = false ∧ (s.sem n.val).owner ≠ 0 ∧ (s.sem n.val).owner ≠ semCode acc.path (accTen acc)) ∧
    (∃ (acc : Access) (n : Fin 64) (s : State), s.opens acc 0x14000C = true ∧ acc.path = .debug ∧ s.canon = true ∧ (s.sem n.val).owner ≠ 0) ∧
    (∃ (n : Fin 64) (s : State) (q : Request), q.kind = .single ∧ s.host.stalled = [⟨q, .sem n.val⟩]) ∧
    (∃ (n : Fin 64) (s : State), 8 ≤ (s.sem n.val).owner ∧ (s.sem n.val).owner ≤ 15 ∧ s.get Reg.TEN_SEM_CFG_LEASE_MS ≠ 0 ∧ s.host.stalled = []) ∧
    (∃ (c : Fin 4) (s : State), s.pathOpen (.core c) = true ∧ s.host.stalled = [] ∧ ((∀ n, n < 64 → (s.sem n).owner ≠ 1 + c.val))) ∧
    (∃ (s : State) (n : Fin 64) (x : Stalled) (l : List Stalled), takeFirst (fun x => x.wait = .sem n.val) s.host.stalled = some (x, l)) ∧
    (∃ (s : State) (n : Fin 64), 8 ≤ (s.sem n.val).owner ∧ (s.sem n.val).owner ≤ 15 ∧ s.get Reg.TEN_SEM_CFG_LEASE_MS ≠ 0) ∧
    (∃ (s u : State) (c : Fin 4), s.pathOpen (.core c) = true ∧ u = ({ s with host := { s.host with stalled := s.host.stalled.filter (fun x => decide (x.wait = .barrier) || !(x.req.path = .core c)) } } : State).forN 64 (fun t n => if (t.sem n).owner = 1 + c.val then semBreak n t else t)) ∧
    (∃ (s : State) (n : Nat), (s.sem n).owner ≠ 0) :=
  ⟨⟨⟨.debug, 0⟩, 20, State.reset.setB Reg.DBG_CFG_QUIET false, by decide +kernel⟩,
   ⟨⟨.debug, 0⟩, 20, (State.reset.setB Reg.DBG_CFG_QUIET false).setSem 20 ⟨9, false⟩, by decide +kernel⟩,
   ⟨⟨.debug, 0⟩, 20, State.reset.setB Reg.DBG_CFG_QUIET false, by decide +kernel⟩,
   ⟨⟨.debug, 0⟩, 20, (State.reset.setB Reg.DBG_CFG_QUIET false).setSem 20 ⟨9, false⟩, by decide +kernel⟩,
   ⟨⟨.debug, 0⟩, 0, State.reset.setSem 0 ⟨9, false⟩, by decide +kernel⟩,
   ⟨0, (fun s : State => { s with host := { s.host with stalled := [⟨(⟨.single, .debug, 0, false, 0, 2, 1, 0, [], 0, []⟩ : Request), .sem 0⟩] } }) State.reset, ⟨.single, .debug, 0, false, 0, 2, 1, 0, [], 0, []⟩, by decide +kernel⟩,
   ⟨0, (State.reset.set Reg.TEN_SEM_CFG_LEASE_MS 1).setSem 0 ⟨9, false⟩, by decide +kernel⟩,
   ⟨0, (fun s : State => { s with host := { s.host with fwRun := true } }) State.reset, by decide +kernel⟩,
   ⟨(fun s : State => { s with host := { s.host with stalled := [⟨⟨.single, .debug, 0, false, 0, 4, 1, 0x110C04, [], 0, []⟩, .sem 0⟩] } }) State.reset, 0, ⟨⟨.single, .debug, 0, false, 0, 4, 1, 0x110C04, [], 0, []⟩, .sem 0⟩, [], by decide +kernel⟩,
   ⟨(State.reset.set Reg.TEN_SEM_CFG_LEASE_MS 1).setSem 0 ⟨9, false⟩, 0, by decide +kernel⟩,
   (by refine ⟨((fun s : State => { s with host := { s.host with fwRun := true } }) State.reset).setSem 3 ⟨1, false⟩, _, 0, ?_, rfl⟩ <;> decide +kernel),
   ⟨State.reset.setSem 0 ⟨9, false⟩, 0, by decide +kernel⟩⟩
/-- Each clause of DebugCommandsTakeEffect has a state and operands that meet its conditions. -/
theorem witness_DebugCommandsTakeEffect :
    (∃ (acc : Access) (m : Fin 16) (s : State), s.opens acc 0x140004 = true ∧ acc.path = .debug ∧ s.canon = true) ∧
    (∃ (acc : Access) (m : Fin 16) (s : State), s.opens acc 0x140004 = true ∧ acc.path = .debug ∧ s.canon = true) ∧
    (∃ (acc : Access) (s : State), s.opens acc 0x140000 = true ∧ acc.path = .spi ∧ s.canon = true) ∧
    (∃ (s b : State) (op count width addr : Nat) (data : List Byte) (ok : Bool), s.pathOpen .spi = true ∧ b.pathOpen .spi = false ∧ s.host.waiting = [.spi op count width addr data ok]) :=
  ⟨⟨⟨.debug, 0⟩, 0, State.reset, by decide +kernel⟩,
   ⟨⟨.debug, 0⟩, 0, State.reset, by decide +kernel⟩,
   ⟨⟨.spi, 0⟩, (fun s : State => { s with host := { s.host with fwRun := true } }) State.reset, by decide +kernel⟩,
   ⟨(fun s : State => { s with host := { s.host with waiting := [.spi 1 1 0 0x20004 [] true] } }) ((fun s : State => { s with host := { s.host with fwRun := true } }) ((fun s : State => { s with host := { s.host with waiting := [.spi 1 1 0 0x20004 ([] : List Byte) true] } }) State.reset)), { ((fun s : State => { s with host := { s.host with waiting := [.spi 1 1 0 0x20004 [] true] } }) ((fun s : State => { s with host := { s.host with fwRun := true } }) ((fun s : State => { s with host := { s.host with waiting := [.spi 1 1 0 0x20004 ([] : List Byte) true] } }) State.reset))) with host := { ((fun s : State => { s with host := { s.host with waiting := [.spi 1 1 0 0x20004 [] true] } }) ((fun s : State => { s with host := { s.host with fwRun := true } }) ((fun s : State => { s with host := { s.host with waiting := [.spi 1 1 0 0x20004 ([] : List Byte) true] } }) State.reset))).host with fwRun := false } }, 1, 1, 0, 0x20004, [], true, by decide +kernel⟩⟩
/-- Each clause of FaultCommandsTakeEffect has a state and operands that meet its conditions. -/
theorem witness_FaultCommandsTakeEffect :
    (∃ (acc : Access) (n : Fin 256) (c : Fin 4) (s : State), s.owns acc (0x120400 + 4 * n.val) = true ∧ (sourceRow n.val).isSome = true ∧ 3 ≤ n.val) ∧
    (∃ (acc : Access) (s : State), s.owns acc 0x120008 = true ∧ s.flt.clear = none) ∧
    (∃ (acc : Access) (m : Fin 256) (s : State), s.owns acc 0x120008 = true ∧ s.flt.clear = none) ∧
    (∃ (acc : Access) (h l : Bool) (m : Fin 256) (s : State), s.owns acc 0x120008 = true ∧ s.flt.clear = none ∧ (h || l) = true) ∧
    (∃ (acc : Access) (s : State), s.owns acc 0x120008 = true ∧ s.flt.clear = none) ∧
    (∃ (acc : Access) (e : HistEntry) (l : List HistEntry) (s : State), s.owns acc 0x120030 = true ∧ s.quietRead acc.path = false ∧ s.flt.frozen = false ∧ s.flt.hist = e :: l) ∧
    (∃ (s : State), s.flt.clear = none) ∧
    (∃ (s : State) (c : ClearReq), s.flt.clear = some c ∧ s.ks.count ≤ c.tick) ∧
    (∃ (s : State) (c : ClearReq), s.flt.clear = some c ∧ c.tick < s.ks.count ∧ s.flt.capstone = true) ∧
    (∃ (s : State) (c : ClearReq), s.canon = true ∧ s.flt.clear = some c ∧ c.tick < s.ks.count ∧ s.flt.capstone = false ∧ c.halt = true ∧ c.load = false ∧ c.restart = false ∧ c.cnt = false ∧ s.flt.active = [] ∧ s.flt.loads = [] ∧ (∀ r, r ∈ s.flt.raises → r.tick ≤ c.tick)) ∧
    (∃ (acc : Access) (g : Fin 16) (m : Fin 4) (k : Fin 32) (s : State), s.owns acc 0x120040 = true ∧ s.canon = true ∧ s.is Reg.FLT_CFG_INJ_EN = true ∧ s.get Reg.FLT_INJ_STATE ≠ 1 ∧ s.is Reg.MIX_OVR_STATUS_EFFECTIVE = false ∧ s.flt.capstone = false ∧ 4 ≤ g.val ∧ g.val < 8) ∧
    (∃ (acc : Access) (g : Fin 16) (m : Fin 4) (k : Fin 32) (s : State), s.owns acc 0x120040 = true ∧ s.canon = true ∧ s.is Reg.FLT_CFG_INJ_EN = true ∧ s.get Reg.FLT_INJ_STATE ≠ 1 ∧ s.is Reg.MIX_OVR_STATUS_EFFECTIVE = false ∧ s.flt.capstone = false ∧ g.val < 4 ∧ m.val ≠ 0) ∧
    (∃ (acc : Access) (g : Fin 16) (m : Fin 4) (k : Fin 32) (s : State), s.owns acc 0x120040 = true ∧ s.canon = true ∧ s.is Reg.FLT_CFG_INJ_EN = true ∧ s.get Reg.FLT_INJ_STATE ≠ 1 ∧ s.is Reg.MIX_OVR_STATUS_EFFECTIVE = false ∧ s.flt.capstone = false ∧ (8 ≤ g.val ∨ (g.val < 4 ∧ m.val = 0))) ∧
    (∃ (acc : Access) (g : Fin 16) (m : Fin 4) (k : Fin 32) (s : State), s.owns acc 0x120040 = true ∧ s.canon = true ∧ s.is Reg.FLT_CFG_INJ_EN = false) ∧
    (∃ (acc : Access) (g : Fin 16) (m : Fin 4) (k : Fin 32) (s : State), s.owns acc 0x120040 = true ∧ s.canon = true ∧ s.is Reg.FLT_CFG_INJ_EN = true ∧ (s.get Reg.FLT_INJ_STATE = 1 ∨ s.is Reg.MIX_OVR_STATUS_EFFECTIVE = true ∨ s.flt.capstone = true)) ∧
    (∃ (s : State) (c : ClearReq), s.flt.clear = some c ∧ c.tick < s.ks.count ∧ s.flt.capstone = false ∧ c.halt = false ∧ c.load = false ∧ c.cnt = true ∧ s.canon = true) :=
  ⟨⟨⟨.debug, 0⟩, 0x66, 0, State.reset, by decide +kernel⟩,
   ⟨⟨.debug, 0⟩, State.reset, by decide +kernel⟩,
   ⟨⟨.debug, 0⟩, 0, State.reset, by decide +kernel⟩,
   ⟨⟨.debug, 0⟩, true, false, 0, State.reset, by decide +kernel⟩,
   ⟨⟨.debug, 0⟩, (fun s : State => { s with flt := { s.flt with clear := none } }) State.reset, by decide +kernel⟩,
   ⟨⟨.debug, 0⟩, ⟨0,0,0,0,false,0,0,0⟩, [], ((fun s : State => { s with flt := { s.flt with hist := (⟨0,0,0,0,false,0,0,0⟩ : HistEntry) :: ([] : List HistEntry) } }) State.reset).setB Reg.DBG_CFG_QUIET false, by decide +kernel⟩,
   ⟨State.reset, by decide +kernel⟩,
   ⟨(fun s : State => { s with flt := { s.flt with clear := some (⟨true,false,false,false,0,0⟩ : ClearReq) } }) State.reset, ⟨true,false,false,false,0,0⟩, by decide +kernel⟩,
   ⟨(fun s : State => { s with ks := { s.ks with count := 1 } }) ((fun s : State => { s with flt := { s.flt with capstone := true } }) ((fun s : State => { s with flt := { s.flt with clear := some (⟨true,false,false,false,0,0⟩ : ClearReq) } }) State.reset)), ⟨true,false,false,false,0,0⟩, by decide +kernel⟩,
   ⟨(fun s : State => { s with ks := { s.ks with count := 1 } }) ((fun s : State => { s with flt := { s.flt with clear := some (⟨true,false,false,false,0,0⟩ : ClearReq) } }) State.reset), ⟨true,false,false,false,0,0⟩, by decide +kernel⟩,
   ⟨⟨.debug, 0⟩, 4, 0, 0, State.reset.setB Reg.FLT_CFG_INJ_EN true, by decide +kernel⟩,
   ⟨⟨.debug, 0⟩, 0, 1, 0, State.reset.setB Reg.FLT_CFG_INJ_EN true, by decide +kernel⟩,
   ⟨⟨.debug, 0⟩, 9, 0, 0, State.reset.setB Reg.FLT_CFG_INJ_EN true, by decide +kernel⟩,
   ⟨⟨.debug, 0⟩, 0, 0, 0, State.reset, by decide +kernel⟩,
   ⟨⟨.debug, 0⟩, 0, 0, 0, (State.reset.setB Reg.FLT_CFG_INJ_EN true).set Reg.FLT_INJ_STATE 1, by decide +kernel⟩,
   ⟨(fun s : State => { s with ks := { s.ks with count := 1 } }) ((fun s : State => { s with flt := { s.flt with capstone := false } }) ((fun s : State => { s with flt := { s.flt with clear := some ⟨false, false, false, true, 0, 0⟩ } }) State.reset)), ⟨false, false, false, true, 0, 0⟩, by decide +kernel⟩⟩
/-- Each clause of DomainCommandsTakeEffect has a state and operands that meet its conditions. -/
theorem witness_DomainCommandsTakeEffect :
    (∃ (acc : Access) (d : Fin 60) (g : Fin 4) (s : State), s.owns acc (0x130100 + 0x20 * d.val) = true ∧ s.canon = true ∧ (s.floored d.val = false ∨ g.val < 2)) ∧
    (∃ (acc : Access) (b : Bool) (s : State), s.owns acc 0x130004 = true ∧ s.canon = true ∧ s.ctl ≠ 4 ∧ s.ctl ≠ 5 ∧ s.asleep = false ∧ s.stage ≠ 3 ∧ s.stage ≠ 4 ∧ s.is Reg.MIX_OVR_STATUS_EFFECTIVE = false) ∧
    (∃ (acc : Access) (s : State), s.owns acc 0x130004 = true ∧ s.canon = true) ∧
    (∃ (acc : Access) (d : Fin 60) (g : Fin 4) (s : State), s.owns acc (0x130100 + 0x20 * d.val) = true ∧ s.floored d.val = true ∧ 2 ≤ g.val) :=
  ⟨⟨⟨.debug, 0⟩, 0, 0, State.reset, by decide +kernel⟩,
   ⟨⟨.debug, 0⟩, false, State.reset, by decide +kernel⟩,
   ⟨⟨.debug, 0⟩, State.reset, by decide +kernel⟩,
   ⟨⟨.debug, 0⟩, 0, 2, (fun s : State => { s with img := { s.img with active := some { wImg with used := 1 } } }) State.reset, by decide +kernel⟩⟩
/-- Each clause of LogicSupplyEventsTakeEffect has a state and operands that meet its conditions. -/
theorem witness_LogicSupplyEventsTakeEffect :
    (∃ (s : State), s.isActive 3 = false) ∧
    (∃ (s : State), s.isActive 4 = false) ∧
    (∃ (s : State), s.flt.fnSeen = true ∧ s.is Reg.FLT_CFG_FN_WATCH = true ∧ s.fnDrive = false ∧ s.isActive 5 = false) ∧
    (∃ (s : State), s.flt.fnSeen = false ∧ s.fnDrive = false ∧ s.isActive 5 = true) ∧
    (∃ (s : State), s.isActive 3 = true) ∧
    (∃ (s : State), s.isActive 4 = true) ∧
    (∃ (s : State), s.flt.fnSeen = false ∧ s.fnDrive = false ∧ s.isActive 5 = false) ∧
    (∃ (s : State), s.flt.fnSeen = true ∧ s.fnDrive = false) ∧
    (∃ (s : State), s.isActive 3 = false) ∧
    (∃ (s : State), s.isActive 4 = false) :=
  ⟨⟨State.reset, by decide +kernel⟩,
   ⟨State.reset, by decide +kernel⟩,
   ⟨((fun s : State => { s with flt := { s.flt with fnSeen := true } }) State.reset).setB Reg.FLT_CFG_FN_WATCH true, by decide +kernel⟩,
   ⟨(fun s : State => { s with flt := { s.flt with active := [(5, 0, 1)] } }) State.reset, by decide +kernel⟩,
   ⟨(fun s : State => { s with flt := { s.flt with active := [(3, 0, 1)] } }) State.reset, by decide +kernel⟩,
   ⟨(fun s : State => { s with flt := { s.flt with active := [(4, 0, 1)] } }) State.reset, by decide +kernel⟩,
   ⟨State.reset, by decide +kernel⟩,
   ⟨(fun s : State => { s with flt := { s.flt with fnSeen := true } }) State.reset, by decide +kernel⟩,
   ⟨State.reset, by decide +kernel⟩,
   ⟨State.reset, by decide +kernel⟩⟩
/-- Each clause of PowerSupplyEventsTakeEffect has a state and operands that meet its conditions. -/
theorem witness_PowerSupplyEventsTakeEffect :
    (∃ (s : State), s.pwr.on = false) ∧
    (∃ (s : State), s.canon = true) ∧
    (∃ (s : State), s.pwr.on = true) ∧
    (∃ (s : State), s.pwr.on = true ∧ s.pwr.held.contains 1 = false) ∧
    (∃ (s : State), s.pwr.on = true ∧ s.pwr.vdrvLow = false) ∧
    (∃ (s : State), s.pwr.vdrvLow = true) ∧
    (∃ (s : State) (k : Fin 4), s.pwr.on = true ∧ nth s.pwr.hot k.val false = false) ∧
    (∃ (s : State) (k : Fin 4), nth s.pwr.hot k.val false = true) ∧
    (∃ (s : State), s.pwr.on = true ∧ s.pwr.held.contains 0 = false) :=
  ⟨⟨State.reset, by decide +kernel⟩,
   ⟨State.reset, by decide +kernel⟩,
   ⟨(fun s : State => { s with pwr := { s.pwr with on := true } }) State.reset, by decide +kernel⟩,
   ⟨(fun s : State => { s with pwr := { s.pwr with on := true } }) State.reset, by decide +kernel⟩,
   ⟨(fun s : State => { s with pwr := { s.pwr with on := true } }) State.reset, by decide +kernel⟩,
   ⟨(fun s : State => { s with pwr := { s.pwr with vdrvLow := true } }) State.reset, by decide +kernel⟩,
   ⟨(fun s : State => { s with pwr := { s.pwr with on := true } }) State.reset, 0, by decide +kernel⟩,
   ⟨(fun s : State => { s with pwr := { s.pwr with hot := [true, false, false, false] } }) State.reset, 0, by decide +kernel⟩,
   ⟨(fun s : State => { s with pwr := { s.pwr with on := true } }) State.reset, by decide +kernel⟩⟩
/-- Each clause of BarrierLinkEventsTakeEffect has a state and operands that meet its conditions. -/
theorem witness_BarrierLinkEventsTakeEffect :
    (∃ (s : State), s.pwr.dnDone = false ∧ s.dom.parked = false ∧ s.flt.inj = none ∧ s.pwr.on = true) ∧
    (∃ (s : State), s.pwr.dnDone = false ∧ s.dom.parked = false ∧ s.flt.inj = none ∧ s.pwr.on = true ∧ s.pwr.dnSeen = true) ∧
    (∃ (s : State), s.pwr.on = true ∧ s.pwr.dnSeen = true ∧ s.dom.parked = false ∧ s.pwr.safeReq = false ∧ s.pwr.dnLost = false) ∧
    (∃ (s : State), s.pwr.on = true ∧ s.pwr.dnSeen = true ∧ s.dom.parked = false ∧ s.pwr.safeReq = true ∧ s.pwr.dnOk = false ∧ s.pwr.held.contains 2 = false) ∧
    (∃ (s : State) (x : Sense) (v : State), s.pwr.on = true ∧ s.dom.parked = false ∧ s.pwr.upDone = false ∧ v = limitSense x.iin ({ s with pwr := { s.pwr with upDone := true } } : State).event ∧ v.flt.inj = none ∧ v.pwr.faults = [] ∧ v.pwr.results = [] ∧ v.flt.ownUp = false) ∧
    (∃ (s : State), s.pwr.upSeen = true ∧ s.pwr.fresh = false ∧ s.dom.parked = false ∧ s.flt.ownUp = false) ∧
    (∃ (s : State), s.pwr.on = true) ∧
    (∃ (s : State) (n : Fin 8), (s.pc n.val).low = true) ∧
    (∃ (s : State) (n : Fin 8), (s.pc n.val).low = true) ∧
    (∃ (s : State), s.dom.parked = true ∧ (nth s.dom.doms 55 ⟨0, false, false⟩).state = 0) :=
  ⟨⟨(fun s : State => { s with pwr := { s.pwr with on := true } }) State.reset, by decide +kernel⟩,
   ⟨(fun s : State => { s with pwr := { s.pwr with dnSeen := true } }) ((fun s : State => { s with pwr := { s.pwr with on := true } }) State.reset), by decide +kernel⟩,
   ⟨(fun s : State => { s with pwr := { s.pwr with dnSeen := true } }) ((fun s : State => { s with pwr := { s.pwr with on := true } }) State.reset), by decide +kernel⟩,
   ⟨(fun s : State => { s with pwr := { s.pwr with safeReq := true } }) ((fun s : State => { s with pwr := { s.pwr with dnSeen := true } }) ((fun s : State => { s with pwr := { s.pwr with on := true } }) State.reset)), by decide +kernel⟩,
   (by refine ⟨(fun s : State => { s with pwr := { s.pwr with on := true } }) State.reset, wSense, _, ?_, ?_, ?_, rfl, ?_⟩ <;> decide +kernel),
   ⟨(fun s : State => { s with flt := { s.flt with ownUp := false } }) ((fun s : State => { s with pwr := { s.pwr with upSeen := true } }) State.reset), by decide +kernel⟩,
   ⟨(fun s : State => { s with pwr := { s.pwr with on := true } }) State.reset, by decide +kernel⟩,
   ⟨State.reset.modPc 0 (fun c => { c with low := true }), 0, by decide +kernel⟩,
   ⟨State.reset.modPc 0 (fun c => { c with low := true }), 0, by decide +kernel⟩,
   ⟨(fun s : State => { s with dom := { s.dom with parked := true } }) State.reset, by decide +kernel⟩⟩
/-- Each clause of ChannelEventsTakeEffect has a state and operands that meet its conditions. -/
theorem witness_ChannelEventsTakeEffect :
    (∃ (s : State) (n : Fin 8), (s.pc n.val).act = 1 ∧ (s.pc n.val).target ≤ s.ks.count ∧ s.ch n.val = 2 ∧ s.is Reg.PWR_CHn_STATE_READY n.val = true) ∧
    (∃ (s : State) (n : Fin 8), (s.pc n.val).act = 1 ∧ (s.pc n.val).target ≤ s.ks.count ∧ s.ch n.val = 2 ∧ s.is Reg.PWR_CHn_STATE_READY n.val = false ∧ (s.pc n.val).timed = true) ∧
    (∃ (s : State) (n : Fin 8) (t : Nat), (s.pc n.val).edge = some t ∧ t + 2 ≤ s.ks.count ∧ s.ch n.val = 2) ∧
    (∃ (s : State) (n : Fin 8), (s.pc n.val).act = 2 ∧ (s.pc n.val).target ≤ s.ks.count ∧ s.ch n.val = 3) ∧
    (∃ (s : State) (n : Fin 8), s.ch n.val = 4 ∧ (s.pc n.val).muteT + (s.pc n.val).muteM + 2 ≤ s.ks.count) ∧
    (∃ (s : State) (n : Fin 8), s.pwr.on = true ∧ 2 ≤ s.ch n.val) ∧
    (∃ (s : State) (n : Fin 8) (ph : Fin 4), s.pwr.on = true ∧ s.ch n.val ≠ 0 ∧ (s.pc n.val).out = 0) ∧
    (∃ (s : State) (n : Fin 8) (vA vB i : Int) (rail : DriveSense), s.ch n.val < 2) ∧
    (∃ (s : State) (n : Fin 8) (vA vB i : Int) (rail : DriveSense), s.ch n.val = 4 ∧ (s.pc n.val).muteT + (s.pc n.val).muteM + 1 ≤ s.ks.count ∧ rail.rail ≠ 0 ∧ s.coefsFinite n.val = true ∧ (s.pc n.val).sub < tickSamples s.rate) ∧
    (∃ (s : State) (n : Fin 8) (vA vB i : Int) (rail : DriveSense) (c : PwrCh) (r e q s1 u : Rat), s.ch n.val = 3 ∧ 0 < rail.rail ∧ (s.pc n.val).sub < tickSamples s.rate ∧ s.coefsFinite n.val = true ∧ c = s.pc n.val ∧ r = ((s.get Reg.PWR_CHn_CFG_VFS n.val : Nat) : Rat) / 2 * interpolate s.rate c.hist c.sub ∧ e = r - ((vA - vB : Int) : Rat) / 1000 ∧ s1 = clampRat ((rail.rail : Rat) / 1000) (c.ls + s.coef n.val 0 * e) ∧ q = s.coef n.val 1 * e + s.coef n.val 2 * c.le1 + s.coef n.val 3 * c.le2 - s.coef n.val 4 * c.lq1 - s.coef n.val 5 * c.lq2 ∧ u = r + s1 + q - s.coef n.val 6 * ((i : Rat) / 1000) ∧ ratAbs (i : Rat) < s.ilim n.val ∧ ratAbs (u / ((rail.rail : Rat) / 1000)) ≤ 97 / 100) ∧
    (∃ (s : State) (n : Fin 8) (ph : Fin 4), s.pwr.on = true ∧ s.ch n.val ≠ 0 ∧ (s.pc n.val).out &&& 2 ^ (3 - ph.val) ≠ 0) :=
  ⟨⟨((State.reset.modPc 0 (fun c => { c with act := 1 })).set Reg.PWR_CHn_STATE_STATE 2 0).setB Reg.PWR_CHn_STATE_READY true 0, 0, by decide +kernel⟩,
   ⟨((State.reset.modPc 0 (fun c => { c with act := 1 })).set Reg.PWR_CHn_STATE_STATE 2 0).modPc 0 (fun c => { c with timed := true }), 0, by decide +kernel⟩,
   ⟨(fun s : State => { s with ks := { s.ks with count := 2 } }) ((State.reset.modPc 0 (fun c => { c with edge := some 0 })).set Reg.PWR_CHn_STATE_STATE 2 0), 0, 0, by decide +kernel⟩,
   ⟨(State.reset.modPc 0 (fun c => { c with act := 2 })).set Reg.PWR_CHn_STATE_STATE 3 0, 0, by decide +kernel⟩,
   ⟨(fun s : State => { s with ks := { s.ks with count := 1000 } }) (State.reset.set Reg.PWR_CHn_STATE_STATE 4 0), 0, by decide +kernel⟩,
   ⟨((fun s : State => { s with pwr := { s.pwr with on := true } }) State.reset).set Reg.PWR_CHn_STATE_STATE 2 0, 0, by decide +kernel⟩,
   ⟨((fun s : State => { s with pwr := { s.pwr with on := true } }) State.reset).set Reg.PWR_CHn_STATE_STATE 1 0, 0, 0, by decide +kernel⟩,
   ⟨State.reset, 0, 0, 0, 0, ⟨48000, 12000⟩, by decide +kernel⟩,
   ⟨(fun s : State => { s with ks := { s.ks with count := 1000 } }) (State.reset.set Reg.PWR_CHn_STATE_STATE 4 0), 0, 0, 0, 0, ⟨48, 12000⟩, by decide +kernel⟩,
   (by refine ⟨State.reset.set Reg.PWR_CHn_STATE_STATE 3 0, 0, 0, 0, 0, ⟨48000, 12000⟩, _, _, _, _, _, _, ?_, ?_, ?_, ?_, rfl, rfl, rfl, rfl, rfl, rfl, ?_⟩ <;> decide +kernel),
   ⟨(((fun s : State => { s with pwr := { s.pwr with on := true } }) State.reset).set Reg.PWR_CHn_STATE_STATE 1 0).modPc 0 (fun c => { c with out := 8 }), 0, 0, by decide +kernel⟩⟩
/-- Each clause of ConverterEventsTakeEffect has a state and operands that meet its conditions. -/
theorem witness_ConverterEventsTakeEffect :
    (∃ (s : State) (k : Fin 4) (ph : Fin 3), s.pwr.on = true ∧ (s.bst' k.val).out = 0) ∧
    (∃ (s : State) (k : Fin 4), s.pwr.on = true ∧ (s.bst' k.val).stopped = false) ∧
    (∃ (s : State) (k : Fin 4), s.pwr.on = true) ∧
    (∃ (s : State) (tc : Int), s.pwr.on = true ∧ tc ≤ 850 ∧ s.pwr.derate < 1 ∧ tc ≤ s.pwr.derateAt - 10) ∧
    (∃ (s : State) (tc : Int), s.pwr.on = true ∧ 1250 ≤ tc ∧ 3 / 10 < s.pwr.derate) ∧
    (∃ (s : State) (hz f t : Nat), s.pwr.swRamp = some (hz, f, t)) ∧
    (∃ (s : State), s.pwr.on = true ∧ s.get Reg.PWR_SW_STATUS_SOURCE = 0 ∧ s.is Reg.PWR_SW_STATUS_LOC_VALID = true) ∧
    (∃ (s : State) (ramp : Bool), s.pwr.on = true ∧ s.get Reg.PWR_SW_STATUS_SOURCE ≠ 0 ∧ s.pwr.swRamp = none) ∧
    (∃ (s : State), s.pwr.on = true) ∧
    (∃ (s : State) (k : Fin 4) (ph : Fin 3), s.pwr.on = true ∧ (s.bst' k.val).out ≠ 0 ∧ (s.bst' k.val).out &&& 2 ^ (2 - ph.val) = 0) ∧
    (∃ (s : State) (tc : Int) (k : Rat), s.pwr.on = true ∧ 850 < tc ∧ tc < 1250 ∧ k = 1 - 7 / 10 * ((tc : Rat) / 10 - 85) / 40 ∧ k < s.pwr.derate) :=
  ⟨⟨(fun s : State => { s with pwr := { s.pwr with on := true } }) State.reset, 0, 0, by decide +kernel⟩,
   ⟨(fun s : State => { s with pwr := { s.pwr with on := true } }) State.reset, 0, by decide +kernel⟩,
   ⟨(fun s : State => { s with pwr := { s.pwr with on := true } }) State.reset, 0, by decide +kernel⟩,
   ⟨(fun s : State => { s with pwr := { s.pwr with derateAt := 900 } }) ((fun s : State => { s with pwr := { s.pwr with derate := 1/2 } }) ((fun s : State => { s with pwr := { s.pwr with on := true } }) State.reset)), 800, by decide +kernel⟩,
   ⟨(fun s : State => { s with pwr := { s.pwr with on := true } }) State.reset, 1300, by decide +kernel⟩,
   ⟨(fun s : State => { s with pwr := { s.pwr with swRamp := some (0, 0, 0) } }) State.reset, 0, 0, 0, by decide +kernel⟩,
   ⟨((fun s : State => { s with pwr := { s.pwr with on := true } }) State.reset).set Reg.PWR_SW_STATUS_SOURCE 0, by decide +kernel⟩,
   ⟨(fun s : State => { s with pwr := { s.pwr with swRamp := none } }) ((fun s : State => { s with pwr := { s.pwr with on := true } }) State.reset), false, by decide +kernel⟩,
   ⟨(fun s : State => { s with pwr := { s.pwr with on := true } }) State.reset, by decide +kernel⟩,
   ⟨(fun s : State => { s with pwr := { s.pwr with bsts := modNth s.pwr.bsts 0 (fun x => { x with out := 1 }) } }) ((fun s : State => { s with pwr := { s.pwr with on := true } }) State.reset), 0, 0, by decide +kernel⟩,
   (by refine ⟨(fun s : State => { s with pwr := { s.pwr with on := true } }) State.reset, 1000, _, ?_, ?_, ?_, rfl, ?_⟩ <;> decide +kernel)⟩
/-- Each clause of ProtectionEventsTakeEffect has a state and operands that meet its conditions. -/
theorem witness_ProtectionEventsTakeEffect :
    (∃ (s : State) (n : Fin 8), (s.bc n.val).fallback = true ∧ 12 * s.nTicks ≤ (s.bc n.val).okTicks) ∧
    (∃ (s : State), s.bstRuns = true) ∧
    (∃ (s : State), s.bstRuns = true) ∧
    (∃ (s : State) (n : Fin 8), s.dcTicks n.val ≤ (s.bc n.val).dc ∧ 0 < (s.bc n.val).dc ∧ s.flt.loads = []) ∧
    (∃ (s : State) (n : Nat) (l : List Nat), s.bst.diag.step = .starting ∧ s.bst.diag.chans = n :: l ∧ s.ch n ≠ 3) ∧
    (∃ (s : State) (k n : Nat) (l : List Nat) (t : Inst), s.bst.diag.step = .dwell k ∧ s.bst.diag.chans = n :: l ∧ s.tester = some t ∧ (nth (s.instPar t.id) (t.kver + 1) 0#32).toNat ≤ s.bst.diag.ticks) ∧
    (∃ (s : State) (n : Nat) (l : List Nat), s.bst.diag.chans = n :: l ∧ s.bst.diag.step = .muting ∧ s.bst.diag.mode ≠ 1) ∧
    (∃ (s : State) (n : Nat) (l : List Nat), s.bst.diag.chans = n :: l ∧ s.bst.diag.step = .muting ∧ s.bst.diag.mode = 1) ∧
    (∃ (s : State) (n : Nat) (l : List Nat), s.bst.diag.chans = n :: l ∧ s.bst.diag.step = .measure ∧ s.bst.diag.mode = 2) ∧
    (∃ (s : State), s.bst.diag.step = .muting ∧ s.bst.diag.chans = [] ∧ s.bst.diag.bad = false) :=
  ⟨⟨(State.reset.modBc 0 (fun c => { c with fallback := true })).modBc 0 (fun c => { c with okTicks := 100000 }), 0, by decide +kernel⟩,
   ⟨State.reset, by decide +kernel⟩,
   ⟨State.reset, by decide +kernel⟩,
   ⟨State.reset.modBc 0 (fun c => { c with dc := 100000 }), 0, by decide +kernel⟩,
   ⟨(fun s : State => { s with bst := { s.bst with diag := { s.bst.diag with step := .starting, mode := 1, chans := [0] } } }) State.reset, 0, [], by decide +kernel⟩,
   ⟨(fun s : State => { s with img := { s.img with active := some { wImg with insts := [⟨0, 0x13, 1, 0, 0, 1, 0, 0, 1, 0, 0, 0, 4, 0, 0⟩, ⟨1, 0x41, 0, 0, 0, 1, 0, 1, 0, 10, 0, 0, 0, 0, 0⟩], nets := [⟨0, 0, 1, 0, 0⟩] } } }) ((fun s : State => { s with bst := { s.bst with diag := { s.bst.diag with step := .dwell 0, mode := 1, chans := [0] } } }) State.reset), 0, 0, [], ⟨0, 0x13, 1, 0, 0, 1, 0, 0, 1, 0, 0, 0, 4, 0, 0⟩, by decide +kernel⟩,
   ⟨(fun s : State => { s with bst := { s.bst with diag := { s.bst.diag with step := .muting, mode := 2, chans := [0] } } }) State.reset, 0, [], by decide +kernel⟩,
   ⟨(fun s : State => { s with bst := { s.bst with diag := { s.bst.diag with step := .muting, mode := 1, chans := [0] } } }) State.reset, 0, [], by decide +kernel⟩,
   ⟨(fun s : State => { s with bst := { s.bst with diag := { s.bst.diag with step := .measure, mode := 2, chans := [0] } } }) State.reset, 0, [], by decide +kernel⟩,
   ⟨(fun s : State => { s with bst := { s.bst with diag := { s.bst.diag with step := .muting, mode := 1, chans := [] } } }) State.reset, by decide +kernel⟩⟩
/-- Each clause of KeystoneTickTakesEffect has a state and operands that meet its conditions. -/
theorem witness_KeystoneTickTakesEffect :
    (∃ (s : State) (env : TickEnv) (u : State), s.dom.powered = true ∧ (s.asleep && s.is Reg.DOM_STATUS_STORAGE && !s.dom.entering) = false ∧ (tickFollow (cycleHead (edgeWork (tickEdge (commitPoint applyReg s))))).ks.running = true ∧ u = rebuildStart (tickGather env (tickStamped (tickFollow (cycleHead (edgeWork (tickEdge (commitPoint applyReg s)))))))) ∧
    (∃ (s : State) (env : TickEnv), s.dom.powered = false) ∧
    (∃ (s : State), s.ks.running = true ∧ s.ks.committed = false ∧ s.img.active = none) ∧
    (∃ (s : State), s.ks.committed = true) ∧
    (∃ (s : State) (n : Fin 32), (s.stone n.val).gated = true) ∧
    (∃ (s : State) (n : Fin 32) (cyc : Nat), (s.stone n.val).stall = none) ∧
    (∃ (s : State) (n : Fin 32) (cyc id : Nat), (s.stone n.val).stall = some id ∧ (engTo applyReg false (min (commitCycle s.rate) (max cyc s.ks.cycle)) s).eng.late.contains id = true) ∧
    (∃ (s : State) (id : Nat), (List.range 32).find? (fun n => (s.stone n).stall = some id) = none) ∧
    (∃ (s u : State) (im : Image), s.ks.running = true ∧ s.ks.committed = false ∧ u = engTo applyReg false (commitCycle s.rate) s ∧ u.img.active = some im ∧ u.is Reg.ENG_STATUS_RUN = true) ∧
    (∃ (s u : State) (id n : Nat), u = s.modEng (fun e => { e with writing := dropWriting id e.writing }) ∧ (List.range 32).find? (fun n => (u.stone n).stall = some id) = some n ∧ u.wbBlocked id = false ∧ u.eng.late.contains id = false ∧ u.ks.committed = false) ∧
    (∃ (s : State) (env : TickEnv), s.asleep = true ∧ s.is Reg.DOM_STATUS_STORAGE = true ∧ s.dom.entering = false) ∧
    (∃ (s u : State) (env : TickEnv), s.dom.powered = true ∧ (s.asleep && s.is Reg.DOM_STATUS_STORAGE && !s.dom.entering) = false ∧ u = tickFollow (cycleHead (edgeWork (tickEdge (commitPoint applyReg s)))) ∧ u.ks.running = false) :=
  ⟨(by refine ⟨State.reset, ⟨[0,0,0,0],[],[]⟩, _, ?_, ?_, ?_, rfl⟩ <;> decide +kernel),
   ⟨(fun s : State => { s with dom := { s.dom with powered := false } }) State.reset, ⟨[0,0,0,0],[],[]⟩, by decide +kernel⟩,
   ⟨(fun s : State => { s with ks := { s.ks with running := true } }) State.reset, by decide +kernel⟩,
   ⟨(fun s : State => { s with ks := { s.ks with committed := true } }) State.reset, by decide +kernel⟩,
   ⟨State.reset.modStone 0 (fun c => { c with gated := true }), 0, by decide +kernel⟩,
   ⟨State.reset, 0, 0, by decide +kernel⟩,
   ⟨(fun s : State => { s with ks := { s.ks with cycle := 100000 } }) ((State.reset.modStone 0 (fun c => { c with stall := some 0 })).modEng (fun e => { e with late := [0] })), 0, 0, 0, by decide +kernel⟩,
   ⟨State.reset, 0, by decide +kernel⟩,
   (by refine ⟨((fun s : State => { s with img := { s.img with active := some wImg } }) ((fun s : State => { s with ks := { s.ks with running := true } }) State.reset)).setB Reg.ENG_STATUS_RUN true, _, wImg, ?_, ?_, rfl, ?_⟩ <;> decide +kernel),
   (by refine ⟨State.reset.modStone 0 (fun t => { t with stall := some 0 }), _, 0, 0, rfl, ?_⟩ <;> decide +kernel),
   ⟨(State.reset.setB Reg.DOM_STATUS_STORAGE true).set Reg.DOM_STATUS_SLEEP 2, ⟨[0,0,0,0],[],[]⟩, by decide +kernel⟩,
   (by refine ⟨(fun s : State => { s with dom := { s.dom with entering := true } }) ((State.reset.set Reg.DOM_STATUS_SLEEP 3).setB Reg.DOM_STATUS_STORAGE true), _, ⟨[0,0,0,0],[],[]⟩, ?_, ?_, rfl, ?_⟩ <;> decide +kernel)⟩
/-- Each clause of PowerAndResetTakeEffect has a state and operands that meet its conditions. -/
theorem witness_PowerAndResetTakeEffect :
    (∃ (s : State) (xtal : Bool), s.canon = true) ∧
    (∃ (s : State), s.dom.powered = true) ∧
    (∃ (s : State) (b : Bool) (v : Word) (u : Fin 65536) (bands : List (List Word)), s.dom.powered = true ∧ s.host.fwRun = false ∧ s.canon = true ∧ s.is Reg.IMG_BOOT_AUTO = false) :=
  ⟨⟨State.reset, false, by decide +kernel⟩,
   ⟨State.reset, by decide +kernel⟩,
   ⟨State.reset, false, (0#32), 0, (List.replicate 3 (List.replicate 16 (0#32))), by decide +kernel⟩⟩
/-- Each clause of TimeBaseEventsTakeEffect has a state and operands that meet its conditions. -/
theorem witness_TimeBaseEventsTakeEffect :
    (∃ (s : State) (n : Fin 4), nth s.ks.alarmOn n.val false = true ∧ nth s.ks.alarmTgt n.val 0 ≤ s.ks.count) ∧
    (∃ (s : State) (n : Fin 4), s.ks.count < nth s.ks.alarmTgt n.val 0) ∧
    (∃ (s : State) (b : Bool) (gm : BitVec 48) (t : Nat), s.linkUp (b2n b) = true ∧ nth s.rct.portState (b2n b) 0 = 1 ∧ s.rct.gm = some gm.toNat ∧ s.isTm = false ∧ s.outputsActive = false ∧ s.asCapable (b2n b) = true ∧ countAt s.rate t = s.ks.count) ∧
    (∃ (s : State) (b : Bool) (gm : BitVec 48) (t : Nat), s.linkUp (b2n b) = true ∧ nth s.rct.portState (b2n b) 0 = 1 ∧ s.rct.gm = some gm.toNat ∧ s.isTm = false ∧ s.outputsActive = false ∧ s.asCapable (b2n b) = true ∧ countAt s.rate t ≠ s.ks.count) ∧
    (∃ (s : State) (b : Bool) (gm : BitVec 48) (t : Nat), s.linkUp (b2n b) = true ∧ s.rct.gm ≠ some gm.toNat) ∧
    (∃ (s : State) (p : Fin 3) (d : Nat), s.linkUp p.val = true) ∧
    (∃ (s : State), s.isTm = false ∧ s.rct.portState.contains 1 = true ∧ s.isCoord = false) ∧
    (∃ (s : State) (b : Bool) (gm : BitVec 48) (t : Nat), s.linkUp (b2n b) = true ∧ nth s.rct.portState (b2n b) 0 = 1 ∧ s.rct.gm = some gm.toNat ∧ s.isTm = false ∧ s.outputsActive = true ∧ s.asCapable (b2n b) = true ∧ s.host.fwRun = false) ∧
    (∃ (s : State) (m c : Nat) (mine : Bool), s.rct.tmSwitch = some (m, c, mine) ∧ cycDue c s.cycleNo = true) ∧
    (∃ (s : State) (m : Nat), s.rct.tmReq = some m ∧ s.canon = true) ∧
    (∃ (s : State), s.ctl = 1 ∧ s.ctlRuns = true ∧ s.hushed = false ∧ s.able = true ∧ s.canon = true) ∧
    (∃ (s : State), s.ctl = 2 ∧ s.ctlRuns = true ∧ s.hushed = false ∧ s.able = true) ∧
    (∃ (s : State), s.ctl = 3 ∧ s.ctlRuns = true ∧ s.hushed = false ∧ s.canon = true) ∧
    (∃ (s : State), s.ctl = 4 ∧ s.ctlRuns = true ∧ s.hushed = false ∧ s.isStandby = false) ∧
    (∃ (s : State), s.ctl = 4 ∧ s.ctlRuns = true ∧ s.hushed = false ∧ s.isStandby = true) ∧
    (∃ (s : State), s.isCoord = true ∧ s.ctlRuns = true ∧ s.rct.beaconAt + 12 ≤ s.cycleNo) ∧
    (∃ (s : State), s.ctl = 4 ∧ s.ctlRuns = true ∧ s.svc ≠ [] ∧ s.rct.reportDue = true) ∧
    (∃ (s : State), s.isCoord = true ∧ s.ctlRuns = true ∧ s.rct.building = true) ∧
    (∃ (s : State) (p : Plan) (n : Nat), s.isCoord = true ∧ s.ctlRuns = true ∧ s.rct.waiting = [p] ∧ s.rct.sendsLeft = n + 1) ∧
    (∃ (s : State), s.isCoord = true ∧ s.ctlRuns = true ∧ s.rct.segDown.any (fun x => !x.rolled && decide (x.since + 120000 ≤ s.cycleNo)) = true ∧ s.rct.building = false) :=
  ⟨⟨(fun s : State => { s with ks := { s.ks with alarmOn := [true, false, false, false] } }) State.reset, 0, by decide +kernel⟩,
   ⟨(fun s : State => { s with ks := { s.ks with alarmTgt := [5, 0, 0, 0] } }) State.reset, 0, by decide +kernel⟩,
   ⟨(((fun s : State => { s with rct := { s.rct with portState := [1, 0, 0] } }) ((fun s : State => { s with rct := { s.rct with gm := some (0#48).toNat } }) (State.reset.setB Reg.PORT_Pp_LINK_LINK true 0))).set Reg.IDENT_MAC_LO 0x777).set Reg.PORT_Pp_LINK_DELAY_NS 100 0, false, (0#48), 0, by decide +kernel⟩,
   ⟨(((fun s : State => { s with rct := { s.rct with portState := [1, 0, 0] } }) ((fun s : State => { s with rct := { s.rct with gm := some (0#48).toNat } }) (State.reset.setB Reg.PORT_Pp_LINK_LINK true 0))).set Reg.IDENT_MAC_LO 0x777).set Reg.PORT_Pp_LINK_DELAY_NS 100 0, false, (0#48), 1000000000, by decide +kernel⟩,
   ⟨State.reset.setB Reg.PORT_Pp_LINK_LINK true 0, false, (0#48), 0, by decide +kernel⟩,
   ⟨State.reset.setB Reg.PORT_Pp_LINK_LINK true 0, 0, 0, by decide +kernel⟩,
   ⟨(fun s : State => { s with rct := { s.rct with portState := [1, 0, 0] } }) State.reset, by decide +kernel⟩,
   ⟨((((fun s : State => { s with rct := { s.rct with portState := [1, 0, 0] } }) ((fun s : State => { s with rct := { s.rct with gm := some (0#48).toNat } }) (State.reset.setB Reg.PORT_Pp_LINK_LINK true 0))).set Reg.IDENT_MAC_LO 0x777).set Reg.PORT_Pp_LINK_DELAY_NS 100 0).set Reg.PWR_CHn_STATE_STATE 3 0, false, (0#48), 0, by decide +kernel⟩,
   ⟨(fun s : State => { s with rct := { s.rct with tmSwitch := some (0, 0, false) } }) State.reset, 0, 0, false, by decide +kernel⟩,
   ⟨(fun s : State => { s with rct := { s.rct with tmReq := some 0 } }) State.reset, 0, by decide +kernel⟩,
   ⟨(fun s : State => { s with host := { s.host with fwRun := true } }) (State.reset.set Reg.RING_CTL_STATUS_STATE 1), by decide +kernel⟩,
   ⟨(fun s : State => { s with host := { s.host with fwRun := true } }) (State.reset.set Reg.RING_CTL_STATUS_STATE 2), by decide +kernel⟩,
   ⟨(fun s : State => { s with host := { s.host with fwRun := true } }) (State.reset.set Reg.RING_CTL_STATUS_STATE 3), by decide +kernel⟩,
   ⟨(fun s : State => { s with host := { s.host with fwRun := true } }) (State.reset.set Reg.RING_CTL_STATUS_STATE 4), by decide +kernel⟩,
   ⟨(fun s : State => { s with rct := { s.rct with standby := some 5 } }) (((fun s : State => { s with host := { s.host with fwRun := true } }) (State.reset.set Reg.RING_CTL_STATUS_STATE 4)).set Reg.IDENT_MAC_LO 5), by decide +kernel⟩,
   ⟨(fun s : State => { s with ks := { s.ks with count := 100000 } }) ((fun s : State => { s with host := { s.host with fwRun := true } }) (State.reset.set Reg.RING_CTL_STATUS_STATE 5)), by decide +kernel⟩,
   ⟨wRing ((fun s : State => { s with rct := { s.rct with reportDue := true } }) ((fun s : State => { s with host := { s.host with fwRun := true } }) (State.reset.set Reg.RING_CTL_STATUS_STATE 4))), by decide +kernel⟩,
   ⟨(fun s : State => { s with rct := { s.rct with building := true } }) ((fun s : State => { s with host := { s.host with fwRun := true } }) (State.reset.set Reg.RING_CTL_STATUS_STATE 5)), by decide +kernel⟩,
   ⟨(fun s : State => { s with rct := { s.rct with sendsLeft := 0 + 1 } }) ((fun s : State => { s with rct := { s.rct with waiting := [wPlan] } }) ((fun s : State => { s with host := { s.host with fwRun := true } }) (State.reset.set Reg.RING_CTL_STATUS_STATE 5))), wPlan, 0, by decide +kernel⟩,
   ⟨(fun s : State => { s with ks := { s.ks with count := 1000000000 } }) ((fun s : State => { s with rct := { s.rct with segDown := [⟨1, 1, 0, false⟩] } }) ((fun s : State => { s with rct := { s.rct with building := false } }) ((fun s : State => { s with host := { s.host with fwRun := true } }) (State.reset.set Reg.RING_CTL_STATUS_STATE 5)))), by decide +kernel⟩⟩
/-- Each clause of ImageEventsTakeEffect has a state and operands that meet its conditions. -/
theorem witness_ImageEventsTakeEffect :
    (∃ (s : State) (b : Bool), (s.slot (b2n b)).erasing = true) ∧
    (∃ (s : State) (b : Bool) (bad : List Nat), (s.slot (b2n b)).verifying = true) ∧
    (∃ (s : State) (n : Nat) (bad : List Nat) (im : Image), s.img.loading = some n ∧ s.img.auto = false ∧ stageFS ((s.modSlot n (fun x => { x with bad := bad })).slot n) (s.modSlot n (fun x => { x with bad := bad })).sigCtx = .ok im ∧ stageX im (s.xctx im) = .ok ()) ∧
    (∃ (s : State) (n : Nat) (bad : List Nat) (e : Refuse), s.img.loading = some n ∧ stageFS ((s.modSlot n (fun x => { x with bad := bad })).slot n) (s.modSlot n (fun x => { x with bad := bad })).sigCtx = .error e) ∧
    (∃ (s : State), s.img.deact = true ∧ s.outputsActive = false ∧ s.stage ≠ 4 ∧ (s.ks.running = false ∨ s.ks.committed = true)) ∧
    (∃ (s : State) (im : Image), s.img.staged = some im ∧ s.stage = 3 ∧ s.img.rebuildAt ≤ s.ks.count ∧ s.stageA im true 0 = none) ∧
    (∃ (s : State) (im : Image) (c : Nat), s.img.staged = some im ∧ s.stage = 3 ∧ s.img.rebuildAt ≤ s.ks.count ∧ s.stageA im true 0 = some c) ∧
    (∃ (s : State) (im : Image), s.img.staged = some im ∧ s.stage = 4 ∧ s.img.target ≤ s.ks.count) :=
  ⟨⟨State.reset.modSlot 0 (fun c => { c with erasing := true }), false, by decide +kernel⟩,
   ⟨State.reset.modSlot 0 (fun c => { c with verifying := true }), false, [], by decide +kernel⟩,
   ⟨wStaged, 0, [], wOk wStageFS, by decide +kernel, by decide +kernel, wOk_eq (by decide +kernel), wUnit_eq (by decide +kernel)⟩,
   ⟨wLoading, 0, [], wErr wEmptyFS, by decide +kernel, wErr_eq (by decide +kernel)⟩,
   ⟨(fun s : State => { s with ks := { s.ks with running := false ∨ s.ks.committed = true } }) ((fun s : State => { s with img := { s.img with deact := true } }) State.reset), by decide +kernel⟩,
   ⟨((fun s : State => { s with img := { s.img with staged := some wImg } }) State.reset).set Reg.IMG_STATUS_STAGE 3, wImg, by decide +kernel⟩,
   ⟨(fun s : State => { s with flt := { s.flt with capstone := true } }) (((fun s : State => { s with img := { s.img with staged := some wImg } }) State.reset).set Reg.IMG_STATUS_STAGE 3), wImg, 0x53, by decide +kernel⟩,
   ⟨((fun s : State => { s with img := { s.img with staged := some wImg } }) State.reset).set Reg.IMG_STATUS_STAGE 4, wImg, by decide +kernel⟩⟩
/-- Each clause of ScrubbersFindAndCorrect has a state and operands that meet its conditions. -/
theorem witness_ScrubbersFindAndCorrect :
    (∃ (s : State) (n : Fin 32) (w : Fin 32768), s.domAt n.val = 0 ∧ s.mem.ecc = []) ∧
    (∃ (s : State) (n : Fin 32) (w : Fin 32768), s.domAt n.val = 0 ∧ s.mem.ecc = []) ∧
    (∃ (s : State) (n : Fin 32) (w : Fin 32768), s.domAt n.val = 0 ∧ s.mem.ecc = []) ∧
    (∃ (s : State) (w : Nat), w < 8192 ∧ s.mem.ecc = []) ∧
    (∃ (s : State) (w : Nat), w < 4194304 ∧ s.domAt (32 + 8 * w / 4194304) = 0 ∧ s.mem.ecc = []) ∧
    (∃ (s : State) (w : Nat), w < 2 ^ 33 ∧ s.domAt 40 = 0 ∧ s.mem.ecc = []) :=
  ⟨⟨State.reset, 0, 0, by decide +kernel⟩,
   ⟨State.reset, 0, 0, by decide +kernel⟩,
   ⟨State.reset, 0, 0, by decide +kernel⟩,
   ⟨State.reset, 0, by decide +kernel⟩,
   ⟨State.reset, 0, by decide +kernel⟩,
   ⟨State.reset, 0, by decide +kernel⟩⟩
/-- Each clause of MixerEventsTakeEffect has a state and operands that meet its conditions. -/
theorem witness_MixerEventsTakeEffect :
    (∃ (s : State) (sp : Fin 8) (im : Image), s.img.active = some im ∧ (s.swap sp.val).on = true ∧ s.ks.count + im.swapG sp.val < (s.swap sp.val).target) ∧
    (∃ (s : State) (sp : Fin 8) (im : Image) (a : Nat), s.img.active = some im ∧ (s.swap sp.val).on = true ∧ (s.swap sp.val).target ≤ s.ks.count + im.swapG sp.val ∧ im.shadowAddr sp.val 0 = some a ∧ (nth im.tens sp.val TenCfg.absent).paramWords = 0 ∧ s.mem.ecc = [] ∧ s.spaceInsts sp.val = []) ∧
    (∃ (s : State) (sp : Fin 8), (s.swap sp.val).state = 2 ∧ (s.swap sp.val).target ≤ s.ks.count) ∧
    (∃ (s : State), s.mix.latchOn = true ∧ s.mix.latchTgt ≤ s.ks.count) ∧
    (∃ (s : State), s.mix.latchOn = false) ∧
    (∃ (s : State) (l : PfirLoad) (im : Image) (x : Inst), s.mix.pfir = some l ∧ s.img.active = some im ∧ im.inst l.id = some x ∧ ((s.instSt l.id).pfirFade l.ch).1 = 2 ∧ s.mem.ecc = []) ∧
    (∃ (s : State), s.get Reg.MIX_REC_STATUS_STATE = 2 ∧ s.mix.post = 0) ∧
    (∃ (s : State) (n : Nat), s.mix.msgOp = some (2, n)) ∧
    (∃ (s : State) (n : Nat), s.mix.msgOp = some (3, n)) ∧
    (∃ (s : State), s.port.snapOn = true ∧ s.port.snapTgt ≤ s.ks.count) ∧
    (∃ (s : State) (sp : Fin 8) (im : Image) (a : Nat) (bank : List Word) (bad : List Inst), s.img.active = some im ∧ (s.swap sp.val).on = true ∧ (s.swap sp.val).target ≤ s.ks.count + im.swapG sp.val ∧ im.shadowAddr sp.val 0 = some a ∧ s.mem.ecc = [] ∧ bank = (List.range (nth im.tens sp.val TenCfg.absent).paramWords).map (fun k => Mem.word s.mem.sram (a + 4 * k)) ∧ bad = (s.spaceInsts sp.val).filter (fun i => !i.tiesOk (i.bankOf bank))) ∧
    (∃ (s : State) (n : Nat), s.mix.msgOp = some (1, n)) :=
  ⟨⟨(((fun s : State => { s with img := { s.img with active := some wImg } }) State.reset).modSwap 0 (fun c => { c with on := true })).modSwap 0 (fun c => { c with target := 9 }), 0, wImg, by decide +kernel⟩,
   ⟨((fun s : State => { s with img := { s.img with active := some { wImg with regions := [⟨6, 0, 0, 64, 0⟩] } } }) State.reset).modSwap 0 (fun c => { c with on := true }), 0, { wImg with regions := [⟨6, 0, 0, 64, 0⟩] }, 0, by decide +kernel⟩,
   ⟨State.reset.modSwap 0 (fun c => { c with state := 2 }), 0, by decide +kernel⟩,
   ⟨(fun s : State => { s with mix := { s.mix with latchOn := true } }) State.reset, by decide +kernel⟩,
   ⟨State.reset, by decide +kernel⟩,
   ⟨((fun s : State => { s with img := { s.img with active := some { wImg with insts := [⟨0, 5, 1, 0, 0, 1, 0, 1, 0, 0, 0, 0, 0, 0, 0⟩] } } }) ((fun s : State => { s with mix := { s.mix with pfir := some ⟨0, 0, 0, 0⟩ } }) State.reset)).modEng (fun e => { e with insts := [⟨0, [], [], [], [], [0, 2, 0, 0], [], []⟩] }), ⟨0, 0, 0, 0⟩, { wImg with insts := [⟨0, 5, 1, 0, 0, 1, 0, 1, 0, 0, 0, 0, 0, 0, 0⟩] }, ⟨0, 5, 1, 0, 0, 1, 0, 1, 0, 0, 0, 0, 0, 0, 0⟩, by decide +kernel⟩,
   ⟨State.reset.set Reg.MIX_REC_STATUS_STATE 2, by decide +kernel⟩,
   ⟨(fun s : State => { s with mix := { s.mix with msgOp := some (2, 0) } }) State.reset, 0, by decide +kernel⟩,
   ⟨(fun s : State => { s with mix := { s.mix with msgOp := some (3, 0) } }) State.reset, 0, by decide +kernel⟩,
   ⟨(fun s : State => { s with port := { s.port with snapOn := true } }) State.reset, by decide +kernel⟩,
   ⟨((fun s : State => { s with img := { s.img with active := some { wImg with cls := 1, insts := [⟨0, 1, 0, 0, 0, 1, 0, 1, 1, 0, 0, 0, 2, 0, 0⟩], regions := [⟨6, 0, 64, 64, 0⟩] } } }) State.reset).modSwap 0 (fun c => { c with on := true }), 0, { wImg with cls := 1, insts := [⟨0, 1, 0, 0, 0, 1, 0, 1, 1, 0, 0, 0, 2, 0, 0⟩], regions := [⟨6, 0, 64, 64, 0⟩] }, 64, [], [], by decide +kernel⟩,
   ⟨(fun s : State => { s with mix := { s.mix with msgOp := some (1, 0) } }) State.reset, 0, by decide +kernel⟩⟩
/-- Each clause of OverrideEventsTakeEffect has a state and operands that meet its conditions. -/
theorem witness_OverrideEventsTakeEffect :
    (∃ (s : State) (a b : Bool), s.ovr.pinA = a ∧ s.ovr.pinB = b ∧ s.ovrA = false ∧ s.ovrB = false) ∧
    (∃ (s : State) (a b : Bool), s.ovrSt = 0 ∧ s.is Reg.MIX_OVR_STATUS_DISC = false ∧ a = s.is Reg.MIX_OVR_CFG_POL_A ∧ b ≠ s.is Reg.MIX_OVR_CFG_POL_B ∧ (s.ovr.pinA ≠ a ∨ s.ovr.pinB ≠ b) ∧ s.dom.entering = false ∧ s.sleepCode ≠ 1 ∧ s.sleepCode ≠ 2) ∧
    (∃ (s : State), s.ovrA = s.ovrB) ∧
    (∃ (s : State), s.ovrA ≠ s.ovrB ∧ s.ovrSt = 1 ∧ s.ks.running = false) :=
  ⟨⟨(((fun s : State => { s with ovr := { s.ovr with pinB := false } }) ((fun s : State => { s with ovr := { s.ovr with pinA := false } }) State.reset)).setB Reg.MIX_OVR_CFG_POL_A true).setB Reg.MIX_OVR_CFG_POL_B true, false, false, by decide +kernel⟩,
   ⟨State.reset, false, true, by decide +kernel⟩,
   ⟨State.reset, by decide +kernel⟩,
   ⟨(State.reset.set Reg.MIX_OVR_STATUS_STATE 1).setB Reg.MIX_OVR_CFG_POL_A true, by decide +kernel⟩⟩
/-- Each clause of ClockEventsTakeEffect has a state and operands that meet its conditions. -/
theorem witness_ClockEventsTakeEffect :
    (∃ (s : State), s.refOk = true) ∧
    (∃ (s : State) (x : Bool), s.refOk = false) ∧
    (∃ (s : State) (p : Fin 3) (b : Nat), (s.pll p.val).on = false ∧ s.domAt (47 + p.val) = 0 ∧ s.pllBand p.val = some b ∧ p.val ≠ 1 ∧ s.canon = true) ∧
    (∃ (s : State) (p : Fin 3), (s.pll p.val).on = false ∧ s.domAt (47 + p.val) = 0 ∧ s.pllBand p.val = none) ∧
    (∃ (s : State) (p : Fin 3), (s.pll p.val).on = true ∧ s.is Reg.CLK_Pp_STATUS_LOCK p.val = false) ∧
    (∃ (s : State) (p : Fin 3), s.is Reg.CLK_Pp_STATUS_LOCK p.val = true ∧ s.canon = true ∧ s.refOk = false) ∧
    (∃ (s : State) (p : Fin 3), s.is Reg.CLK_Pp_STATUS_LOCK p.val = true) ∧
    (∃ (s : State) (p : Fin 3), p.val < 2 ∧ 0 < sext 16 (s.get Reg.CLK_Pp_PHASE_PENDING p.val)) ∧
    (∃ (s : State) (p : Fin 3), p.val < 2 ∧ sext 16 (s.get Reg.CLK_Pp_PHASE_PENDING p.val) < 0) ∧
    (∃ (s : State) (p : Fin 3) (segs : List (Word × Word)), p.val < 2 ∧ (nth segs 0 (0#32, 0#32)).2 ≠ 0#32) ∧
    (∃ (s : State) (p : Fin 3), p.val < 2 ∧ s.get Reg.CLK_Pp_STATUS_SEG p.val = 0) ∧
    (∃ (s : State) (p : Fin 3), p.val = 1 ∧ s.get Reg.CLK_Pp_STATUS_SEG p.val = 8) ∧
    (∃ (s : State) (p : Fin 3) (g : Nat), p.val < 2 ∧ s.get Reg.CLK_Pp_STATUS_SEG p.val = g + 1 ∧ g < 7 ∧ s.word Reg.CLK_Pp_RAMPs_DUR p.val (g + 1) ≠ 0#32 ∧ (p.val = 1 ∨ s.outputsActive = false)) ∧
    (∃ (s : State) (p : Fin 3) (segs : List (Word × Word)), 2 ≤ p.val) ∧
    (∃ (s : State) (p : Fin 3), s.is Reg.CLK_Pp_STATUS_LOCK p.val = true ∧ s.canon = true ∧ s.refOk = true) ∧
    (∃ (s : State) (b : Nat), (s.pll 1).on = false ∧ s.domAt 48 = 0 ∧ s.pllBand 1 = some b ∧ s.canon = true) ∧
    (∃ (s : State) (p : Fin 3) (g n : Nat) (d : Int), p.val = 0 ∧ s.get Reg.CLK_Pp_STATUS_SEG 0 = g + 1 ∧ g < 7 ∧ s.word Reg.CLK_Pp_RAMPs_DUR 0 (g + 1) ≠ 0#32 ∧ s.outputsActive = true ∧ n = (s.word Reg.CLK_Pp_RAMPs_DUR 0 g).toNat ∧ d = sext 32 (s.word Reg.CLK_Pp_RAMPs_SLOPE 0 g).toNat) :=
  ⟨⟨State.reset.setB Reg.CLK_STATUS_REF_OK true, by decide +kernel⟩,
   ⟨State.reset, false, by decide +kernel⟩,
   ⟨State.reset.set Reg.CLK_Pp_BANDb_F_HI 0xFFFF 0 0, 0, 0, by decide +kernel⟩,
   ⟨State.reset, 0, by decide +kernel⟩,
   ⟨State.reset.modPll 0 (fun c => { c with on := true }), 0, by decide +kernel⟩,
   ⟨State.reset.setB Reg.CLK_Pp_STATUS_LOCK true 0, 0, by decide +kernel⟩,
   ⟨State.reset.setB Reg.CLK_Pp_STATUS_LOCK true 0, 0, by decide +kernel⟩,
   ⟨State.reset.set Reg.CLK_Pp_PHASE_PENDING 3 0, 0, by decide +kernel⟩,
   ⟨State.reset.set Reg.CLK_Pp_PHASE_PENDING 0xFFFD 0, 0, by decide +kernel⟩,
   ⟨State.reset, 0, [(1#32, 2#32)], by decide +kernel⟩,
   ⟨State.reset, 0, by decide +kernel⟩,
   ⟨State.reset.set Reg.CLK_Pp_STATUS_SEG 8 1, 1, by decide +kernel⟩,
   ⟨(State.reset.set Reg.CLK_Pp_STATUS_SEG 1 0).setWord Reg.CLK_Pp_RAMPs_DUR 5#32 0 1, 0, 0, by decide +kernel⟩,
   ⟨State.reset, 2, [], by decide +kernel⟩,
   ⟨(State.reset.setB Reg.CLK_Pp_STATUS_LOCK true 0).setB Reg.CLK_STATUS_REF_OK true, 0, by decide +kernel⟩,
   ⟨State.reset.set Reg.CLK_Pp_BANDb_F_HI 0xFFFF 1 0, 0, by decide +kernel⟩,
   (by refine ⟨(((((State.reset.set Reg.CLK_Pp_STATUS_SEG 1 0).setWord Reg.CLK_Pp_RAMPs_DUR 5#32 0 1).setWord Reg.CLK_Pp_RAMPs_DUR 1000#32 0 0).setWord Reg.CLK_Pp_RAMPs_SLOPE 1000000#32 0 0).set Reg.CLK_MEDIA_SLEW_RATE 7).set Reg.PWR_CHn_STATE_STATE 3 0, 0, 0, _, _, ?_, ?_, ?_, ?_, ?_, rfl, rfl⟩ <;> decide +kernel)⟩
/-- Each clause of AnalogEventsTakeEffect has a state and operands that meet its conditions. -/
theorem witness_AnalogEventsTakeEffect :
    (∃ (s : State) (n : Fin 4), s.is Reg.ANA_ADCn_STAT_GAIN_PEND n.val = true) ∧
    (∃ (s : State) (n : Fin 4), s.is Reg.ANA_ADCn_STAT_SETTLING n.val = true ∧ s.is Reg.ANA_ADCn_STAT_RAMPING n.val = false ∧ adcZ s.rate ≤ (s.adcCh n.val).ticks) ∧
    (∃ (s : State) (n : Fin 4), s.is Reg.ANA_ADCn_STAT_RAMPING n.val = true ∧ 64 ≤ (s.adcCh n.val).ticks) ∧
    (∃ (s : State) (n : Fin 4), s.get Reg.ANA_OUTn_STAT_RAMP n.val = 1 ∧ (s.outCh n.val).len ≤ (s.outCh n.val).pos) ∧
    (∃ (s : State) (n : Fin 4), s.get Reg.ANA_OUTn_STAT_RAMP n.val = 2 ∧ (s.outCh n.val).pos = 0) ∧
    (∃ (s : State) (n : Fin 4), 2 ≤ n.val ∧ (s.outCh n.val).up = true ∧ (s.outCh n.val).start = false) ∧
    (∃ (s : State) (n : Fin 4), 2 ≤ n.val ∧ (s.outCh n.val).up = true ∧ (s.outCh n.val).start = true) ∧
    (∃ (s : State) (n : Fin 4), (s.outCh n.val).down = true) ∧
    (∃ (s : State) (n : Fin 4), s.is Reg.ANA_OUTn_STAT_SHORT n.val = false) ∧
    (∃ (s : State) (b : Fin 7) (h : Bool), nth s.ana.jack b.val true ≠ h) ∧
    (∃ (s : State) (n : Fin 4), n.val < 2 ∧ (s.outCh 0).up = true ∧ (s.outCh 1).up = true ∧ (s.outCh 0).start = false ∧ (s.outCh 1).start = false) ∧
    (∃ (s : State) (n : Fin 4), 2 ≤ n.val ∧ (s.outCh n.val).up = false) :=
  ⟨⟨State.reset.setB Reg.ANA_ADCn_STAT_GAIN_PEND true 0, 0, by decide +kernel⟩,
   ⟨(State.reset.setB Reg.ANA_ADCn_STAT_SETTLING true 0).modAdc 0 (fun c => { c with ticks := 99 }), 0, by decide +kernel⟩,
   ⟨(State.reset.setB Reg.ANA_ADCn_STAT_RAMPING true 0).modAdc 0 (fun c => { c with ticks := 99 }), 0, by decide +kernel⟩,
   ⟨(State.reset.set Reg.ANA_OUTn_STAT_RAMP 1 0).modOut 0 (fun c => { c with pos := 480, len := 480 }), 0, by decide +kernel⟩,
   ⟨State.reset.set Reg.ANA_OUTn_STAT_RAMP 2 0, 0, by decide +kernel⟩,
   ⟨State.reset.modOut 2 (fun c => { c with up := true }), 2, by decide +kernel⟩,
   ⟨(State.reset.modOut 2 (fun c => { c with up := true })).modOut 2 (fun c => { c with start := true }), 2, by decide +kernel⟩,
   ⟨State.reset.modOut 0 (fun c => { c with down := true }), 0, by decide +kernel⟩,
   ⟨State.reset, 0, by decide +kernel⟩,
   ⟨State.reset, 0, false, by decide +kernel⟩,
   ⟨(State.reset.modOut 0 (fun c => { c with up := true })).modOut 1 (fun c => { c with up := true }), 0, by decide +kernel⟩,
   ⟨State.reset, 2, by decide +kernel⟩⟩
/-- Each clause of Aes3ReceiverEventsTakeEffect has a state and operands that meet its conditions. -/
theorem witness_Aes3ReceiverEventsTakeEffect :
    (∃ (s : State), s.is Reg.ANA_AES_CFG_EN = true ∧ s.domAt 53 = 0) ∧
    (∃ (s : State), s.is Reg.ANA_AES_CFG_EN = false) ∧
    (∃ (s : State) (b : Bool), s.is Reg.ANA_AES_STAT_LOCK ≠ b ∧ s.canon = true) ∧
    (∃ (s : State) (b : Bool) (i : Fin 192) (x : BitVec 24) (cs v p c : Bool), s.is Reg.ANA_AES_STAT_LOCK = false) ∧
    (∃ (s : State) (i : Fin 192) (x : BitVec 24), s.is Reg.ANA_AES_STAT_LOCK = true ∧ s.is Reg.ANA_AES_CFG_NA_EN = false ∧ s.is Reg.ANA_AES_CFG_VMUTE = false ∧ s.canon = true ∧ s.aes.cs.length = 2) ∧
    (∃ (s : State), s.is Reg.ANA_AES_STAT_LOCK = true) ∧
    (∃ (s : State), s.is Reg.ANA_AES_STAT_NONAUDIO = true ∧ 2 ≤ s.aes.clean ∧ 8192 ≤ s.aes.quiet) ∧
    (∃ (s : State) (i : Fin 192) (x : BitVec 24), s.is Reg.ANA_AES_STAT_LOCK = true ∧ s.is Reg.ANA_AES_CFG_NA_EN = false ∧ s.is Reg.ANA_AES_CFG_VMUTE = false ∧ s.canon = true ∧ s.aes.cs.length = 2 ∧ s.is Reg.ANA_AES_STAT_VALIDITY = false) :=
  ⟨⟨State.reset, by decide +kernel⟩,
   ⟨State.reset.setB Reg.ANA_AES_CFG_EN false, by decide +kernel⟩,
   ⟨State.reset, true, by decide +kernel⟩,
   ⟨State.reset, false, 0, (0#24), false, false, false, false, by decide +kernel⟩,
   ⟨(State.reset.setB Reg.ANA_AES_STAT_LOCK true).setB Reg.ANA_AES_CFG_NA_EN false, 0, (0#24), by decide +kernel⟩,
   ⟨State.reset.setB Reg.ANA_AES_STAT_LOCK true, by decide +kernel⟩,
   ⟨(fun s : State => { s with aes := { s.aes with quiet := 8192 } }) ((fun s : State => { s with aes := { s.aes with clean := 2 } }) (State.reset.setB Reg.ANA_AES_STAT_NONAUDIO true)), by decide +kernel⟩,
   ⟨(State.reset.setB Reg.ANA_AES_STAT_LOCK true).setB Reg.ANA_AES_CFG_NA_EN false, 0, (0#24), by decide +kernel⟩⟩
/-- Each clause of SerialAudioEventsTakeEffect has a state and operands that meet its conditions. -/
theorem witness_SerialAudioEventsTakeEffect :
    (∃ (s : State) (n : Fin 3) (rx : List Nat) (c : Bool), s.is Reg.SAPn_STAT_RUN n.val = false ∧ s.is Reg.SAPn_CFG_EN n.val = false) ∧
    (∃ (s : State) (n : Fin 3) (rx : List Nat), s.is Reg.SAPn_STAT_RUN n.val = true ∧ s.is Reg.SAPn_STAT_LOCK n.val = true ∧ s.is Reg.SAPn_CFG_LEADER n.val = true ∧ s.is Reg.SAPn_CFG_EN n.val = true ∧ s.is Reg.SAPn_CAP_CFG_EN n.val = false ∧ s.is Reg.SAPn_PB_CFG_EN n.val = false ∧ s.canon = true) ∧
    (∃ (s : State) (n : Fin 3), s.is Reg.SAPn_CFG_EN n.val = true ∧ s.is Reg.SAPn_STAT_RUN n.val = true ∧ s.is Reg.SAPn_CFG_LEADER n.val = false ∧ s.is Reg.SAPn_STAT_RATE_BAD n.val = false ∧ s.domAt 53 = 0 ∧ 16 ≤ (s.sp n.val).good) ∧
    (∃ (s : State) (n : Fin 3), s.is Reg.SAPn_STAT_RUN n.val = false) ∧
    (∃ (s : State) (n : Fin 3), s.is Reg.SAPn_CFG_LEADER n.val = false ∧ s.is Reg.SAPn_STAT_LOCK n.val = true) ∧
    (∃ (s : State) (n : Fin 4) (r : Fin 33554432), n.val < 3 ∧ s.is Reg.SAPn_STAT_RUN n.val = false ∧ s.is Reg.SAPn_CFG_EN n.val = false) ∧
    (∃ (s : State) (r : Fin 33554432), s.canon = true) ∧
    (∃ (s : State) (n : Fin 4) (r : Fin 33554432), n.val < 3 ∧ s.is Reg.SAPn_STAT_RUN n.val = true ∧ s.is Reg.SAPn_CFG_LEADER n.val = true ∧ s.canon = true ∧ s.get Reg.SAPn_RATE_REF_RATE n.val = 100 * rateHz s.rate ∧ s.is Reg.SAPn_STAT_LOCK n.val = true ∧ s.get Reg.SAPn_STAT_CLASS n.val = rateClass (100 * rateHz s.rate)) :=
  ⟨⟨State.reset, 0, [], false, by decide +kernel⟩,
   ⟨(((State.reset.setB Reg.SAPn_STAT_RUN true 0).setB Reg.SAPn_STAT_LOCK true 0).setB Reg.SAPn_CFG_LEADER true 0).setB Reg.SAPn_CFG_EN true 0, 0, [], by decide +kernel⟩,
   ⟨((State.reset.setB Reg.SAPn_CFG_EN true 0).setB Reg.SAPn_STAT_RUN true 0).modSap 0 (fun c => { c with good := 16 }), 0, by decide +kernel⟩,
   ⟨State.reset, 0, by decide +kernel⟩,
   ⟨State.reset.setB Reg.SAPn_STAT_LOCK true 0, 0, by decide +kernel⟩,
   ⟨State.reset, 0, 0, by decide +kernel⟩,
   ⟨State.reset, 0, by decide +kernel⟩,
   ⟨(fun s : State => s.set Reg.SAPn_STAT_CLASS (rateClass (100 * rateHz s.rate)) 0) ((fun s : State => s.set Reg.SAPn_RATE_REF_RATE (100 * rateHz s.rate) 0) (((State.reset.setB Reg.SAPn_STAT_RUN true 0).setB Reg.SAPn_CFG_LEADER true 0).setB Reg.SAPn_STAT_LOCK true 0)), 0, 0, by decide +kernel⟩⟩
/-- Each clause of AuxConverterEventsTakeEffect has a state and operands that meet its conditions. -/
theorem witness_AuxConverterEventsTakeEffect :
    (∃ (s : State) (n : Fin 4), s.auxDue n.val = false) ∧
    (∃ (s : State) (n : Fin 4) (v : Nat) (r : List Nat), s.auxDue n.val = true ∧ s.auxNext n.val = none ∧ s.auxMode n.val = 2 ∧ (s.ax n.val).req = 0 ∧ (s.ax n.val).sync = false ∧ nth s.auxRec n.val false = false ∧ s.get Reg.AUXn_CFG_SRC n.val = 0 ∧ (s.ax n.val).queue = v :: r ∧ r.length ≠ s.get Reg.AUXn_CFG_LOW_MARK n.val ∧ n.val < s.aux.length ∧ s.canon = true ∧ v < 65536) ∧
    (∃ (s : State) (n : Fin 4), s.auxDue n.val = true ∧ s.auxNext n.val = none ∧ s.auxMode n.val = 2 ∧ (s.ax n.val).sync = false ∧ nth s.auxRec n.val false = false ∧ s.get Reg.AUXn_CFG_SRC n.val = 0 ∧ (s.ax n.val).queue = [] ∧ n.val < s.aux.length ∧ s.canon = true) ∧
    (∃ (s : State) (n : Fin 4), s.auxMode n.val ≠ 1) ∧
    (∃ (s : State) (n : Fin 4), s.auxMode n.val = 1 ∧ s.get Reg.AUXn_HOLD_START_TICKS n.val ≤ s.ks.count - (s.ax n.val).entered) ∧
    (∃ (s : State) (n : Fin 4), s.is Reg.AUXn_STATE_SHORT n.val = false) :=
  ⟨⟨State.reset, 0, by decide +kernel⟩,
   ⟨((fun s : State => { s with ks := { s.ks with committed := true } }) ((State.reset.set Reg.AUXn_STATE_MODE 2 0).modAux 0 (fun c => { c with queue := 0 :: [1] }))).set Reg.AUXn_CFG_LOW_MARK 4 0, 0, 0, [1], by decide +kernel⟩,
   ⟨(fun s : State => { s with ks := { s.ks with committed := true } }) (State.reset.set Reg.AUXn_STATE_MODE 2 0), 0, by decide +kernel⟩,
   ⟨State.reset, 0, by decide +kernel⟩,
   ⟨State.reset.set Reg.AUXn_STATE_MODE 1 0, 0, by decide +kernel⟩,
   ⟨State.reset, 0, by decide +kernel⟩⟩
/-- Each clause of DomainEventsTakeEffect has a state and operands that meet its conditions. -/
theorem witness_DomainEventsTakeEffect :
    (∃ (s : State) (d : Fin 60), (s.domn d.val).waking = false ∧ (s.domn d.val).sleepHold = false ∧ s.domAt d.val = 0 ∧ s.domKeep d.val = false ∧ s.domTarget d.val ≠ 0 ∧ s.floored d.val = false) ∧
    (∃ (s : State) (d : Fin 60), (s.domn d.val).waking = false ∧ (s.domn d.val).sleepHold = false ∧ s.domAt d.val = 0 ∧ s.domKeep d.val = false ∧ s.domTarget d.val ≠ 0 ∧ s.floored d.val = true) ∧
    (∃ (s : State) (d : Fin 60), s.domAt d.val = 0 ∧ d.val < 43 ∧ d.val ≠ 41 ∧ d.val < s.dom.doms.length) ∧
    (∃ (s : State) (d : Fin 60), s.domAt d.val ≠ 0 ∧ (s.domn d.val).waking = false) ∧
    (∃ (s : State) (d : Fin 60), s.domAt d.val = 0) ∧
    (∃ (s : State) (d : Fin 60), (s.domn d.val).waking = true) ∧
    (∃ (s : State), s.dom.entering = false) ∧
    (∃ (s : State), s.dom.entering = true ∧ s.outputsActive = false ∧ (s.ks.running = true → s.ks.committed = true) ∧ s.canon = true) ∧
    (∃ (s : State), bit (s.word Reg.DOM_WAKE_EN).toNat 5 = false) ∧
    (∃ (s : State), bit (s.word Reg.DOM_WAKE_EN).toNat 5 = true ∧ s.sleepCode = 1 ∧ s.dom.entering = false) ∧
    (∃ (s : State), bit (s.word Reg.DOM_WAKE_EN).toNat 4 = true ∧ s.sleepCode = 1 ∧ s.dom.entering = false) ∧
    (∃ (s : State) (p : Fin 3), bit (s.word Reg.DOM_WAKE_EN).toNat p.val = true ∧ s.sleepCode = 2 ∧ s.is Reg.DOM_STATUS_STORAGE = true ∧ s.dom.entering = false) ∧
    (∃ (s : State) (p : Fin 3), s.is Reg.DOM_STATUS_STORAGE = false) ∧
    (∃ (s : State) (ns ms : Nat), s.sleepCode = 3 ∧ s.dom.entering = false ∧ s.is Reg.DOM_STATUS_STORAGE = true) ∧
    (∃ (s : State) (ns ms : Nat), s.sleepCode ≠ 3) ∧
    (∃ (s : State), bit (s.word Reg.DOM_WAKE_EN).toNat 5 = true ∧ s.sleepCode = 2 ∧ s.is Reg.DOM_STATUS_STORAGE = true ∧ s.dom.entering = false) ∧
    (∃ (s : State) (m : Nat), s.sleepDue = some m ∧ s.asleep = false ∧ s.canon = true) ∧
    (∃ (s : State), s.rct.quiet = true) ∧
    (∃ (acc : Access) (s : State), s.owns acc 0x80818 = true ∧ s.canon = true ∧ s.isCoord = true) ∧
    (∃ (acc : Access) (s : State), s.owns acc 0x80818 = true ∧ s.canon = true ∧ s.dom.entering = true ∧ bit (s.word Reg.DOM_WAKE_EN).toNat 7 = true) ∧
    (∃ (s : State), s.ks.running = true ∧ s.ks.committed = false) :=
  ⟨⟨State.reset.set Reg.DOM_Dnn_CFG_TARGET 2 0, 0, by decide +kernel⟩,
   ⟨(fun s : State => { s with img := { s.img with active := some { wImg with used := 1 } } }) (State.reset.set Reg.DOM_Dnn_CFG_TARGET 2 0), 0, by decide +kernel⟩,
   ⟨State.reset, 0, by decide +kernel⟩,
   ⟨State.reset.modDom 0 (fun c => { c with state := 2 }), 0, by decide +kernel⟩,
   ⟨State.reset, 0, by decide +kernel⟩,
   ⟨State.reset.modDom 0 (fun c => { c with waking := true }), 0, by decide +kernel⟩,
   ⟨State.reset, by decide +kernel⟩,
   ⟨(fun s : State => { s with dom := { s.dom with entering := true } }) State.reset, by decide +kernel⟩,
   ⟨State.reset.setWord Reg.DOM_WAKE_EN 0#32, by decide +kernel⟩,
   ⟨State.reset.set Reg.DOM_STATUS_SLEEP 1, by decide +kernel⟩,
   ⟨State.reset.set Reg.DOM_STATUS_SLEEP 1, by decide +kernel⟩,
   ⟨(State.reset.set Reg.DOM_STATUS_SLEEP 2).setB Reg.DOM_STATUS_STORAGE true, 0, by decide +kernel⟩,
   ⟨State.reset, 0, by decide +kernel⟩,
   ⟨(State.reset.set Reg.DOM_STATUS_SLEEP 3).setB Reg.DOM_STATUS_STORAGE true, 0, 0, by decide +kernel⟩,
   ⟨State.reset, 0, 0, by decide +kernel⟩,
   ⟨(State.reset.set Reg.DOM_STATUS_SLEEP 2).setB Reg.DOM_STATUS_STORAGE true, by decide +kernel⟩,
   ⟨(fun s : State => { s with dom := { s.dom with sleepAt := some (1, 0) } }) State.reset, 1, by decide +kernel⟩,
   ⟨(fun s : State => { s with rct := { s.rct with quiet := true } }) State.reset, by decide +kernel⟩,
   ⟨⟨.debug, 0⟩, State.reset.set Reg.RING_CTL_STATUS_STATE 5, by decide +kernel⟩,
   ⟨⟨.debug, 0⟩, (fun s : State => { s with dom := { s.dom with entering := true } }) State.reset, by decide +kernel⟩,
   ⟨(fun s : State => { s with ks := { s.ks with committed := false } }) ((fun s : State => { s with ks := { s.ks with running := true } }) State.reset), by decide +kernel⟩⟩
/-- Each clause of SpiRequestsTakeEffect has a state and operands that meet its conditions. -/
theorem witness_SpiRequestsTakeEffect :
    (∃ (s : State) (c : Fin 512) (w : Fin 4) (a : Word), s.pathOpen .spi = true ∧ s.spiBusy = false ∧ w.val ≠ 3 ∧ c.val ≠ 0 ∧ c.val ≤ 256) ∧
    (∃ (s : State) (c : Fin 512) (w : Fin 4) (a : Word) (d : List Byte), s.pathOpen .spi = true ∧ s.spiBusy = false ∧ w.val ≠ 3 ∧ c.val ≠ 0 ∧ c.val ≤ 256 ∧ d.length = c.val * 2 ^ w.val) ∧
    (∃ (s : State) (c : Fin 512) (w : Fin 4) (a : Word), s.pathOpen .spi = true ∧ s.spiBusy = false ∧ w.val ≠ 3 ∧ c.val ≠ 0 ∧ c.val ≤ 256) ∧
    (∃ (s : State) (c : Fin 512) (w : Fin 4) (a : Word) (d : List Byte), s.pathOpen .spi = true ∧ s.spiBusy = false ∧ w.val ≠ 3 ∧ c.val ≠ 0 ∧ c.val ≤ 256 ∧ d.length = c.val * 2 ^ w.val) ∧
    (∃ (s : State) (c : Fin 512) (w : Fin 4) (a : Word), s.pathOpen .spi = true ∧ s.spiBusy = false) ∧
    (∃ (s : State) (c : Fin 512) (a : Word) (d : List Byte), s.pathOpen .spi = true ∧ s.spiBusy = false) ∧
    (∃ (s : State), s.pathOpen .spi = true ∧ s.spiBusy = false) ∧
    (∃ (s : State), s.pathOpen .spi = true ∧ s.spiBusy = false ∧ s.host.spiResp ≠ []) ∧
    (∃ (s : State) (b : List Byte), s.flt.inj = none) ∧
    (∃ (s : State) (count : Fin 512) (width : Fin 4) (addr : Word) (crcOk : Bool), s.spiBusy = false ∧ s.pathOpen .spi = false ∧ s.host.fwRun = true) :=
  ⟨⟨(fun s : State => { s with host := { s.host with fwRun := true } }) State.reset, 1, 0, (0#32), by decide +kernel⟩,
   ⟨(fun s : State => { s with host := { s.host with fwRun := true } }) State.reset, 1, 0, (0#32), [1#8], by decide +kernel⟩,
   ⟨(fun s : State => { s with host := { s.host with fwRun := true } }) State.reset, 1, 0, (0#32), by decide +kernel⟩,
   ⟨(fun s : State => { s with host := { s.host with fwRun := true } }) State.reset, 1, 0, (0#32), [1#8], by decide +kernel⟩,
   ⟨(fun s : State => { s with host := { s.host with fwRun := true } }) State.reset, 1, 0, (0#32), by decide +kernel⟩,
   ⟨(fun s : State => { s with host := { s.host with fwRun := true } }) State.reset, 0, (0#32), [], by decide +kernel⟩,
   ⟨(fun s : State => { s with host := { s.host with fwRun := true } }) State.reset, by decide +kernel⟩,
   ⟨(fun s : State => { s with host := { s.host with spiResp := [1#8] } }) ((fun s : State => { s with host := { s.host with fwRun := true } }) State.reset), by decide +kernel⟩,
   ⟨State.reset, [], by decide +kernel⟩,
   ⟨((fun s : State => { s with host := { s.host with fwRun := true } }) ((fun s : State => { s with host := { s.host with fwRun := true } }) State.reset)).set Reg.DBG_CORE_STATUS_HALTED 2, 0, 0, (0#32), false, by decide +kernel⟩⟩
/-- Each clause of FlaryMessagesTakeEffect has a state and operands that meet its conditions. -/
theorem witness_FlaryMessagesTakeEffect :
    (∃ (s : State) (r : FlaryReq), r.op.val = 1 ∧ s.flaryReach r = true ∧ r.body = []) ∧
    (∃ (s : State) (r : FlaryReq), r.op.val = 2 ∧ s.flaryOk r = true ∧ 8 ≤ r.body.length ∧ beAt r.body 0 1 ≤ 2 ∧ beAt r.body 2 2 ≠ 0 ∧ beAt r.body 2 2 ≤ 256 ∧ r.body.length = 8 + 0) ∧
    (∃ (s : State) (r : FlaryReq), r.op.val = 3 ∧ s.flaryOk r = true ∧ 8 ≤ r.body.length ∧ beAt r.body 0 1 ≤ 2 ∧ beAt r.body 2 2 ≠ 0 ∧ beAt r.body 2 2 ≤ 256 ∧ r.body.length = 8 + beAt r.body 2 2 * 2 ^ beAt r.body 0 1) ∧
    (∃ (s : State) (r : FlaryReq), r.op.val = 4 ∧ s.flaryOk r = true ∧ 8 ≤ r.body.length ∧ beAt r.body 0 1 ≤ 2 ∧ beAt r.body 2 2 ≠ 0 ∧ beAt r.body 2 2 ≤ 256 ∧ r.body.length = 8 + 0) ∧
    (∃ (s : State) (r : FlaryReq), r.op.val = 5 ∧ s.flaryOk r = true ∧ 8 ≤ r.body.length ∧ beAt r.body 0 1 ≤ 2 ∧ beAt r.body 2 2 ≠ 0 ∧ beAt r.body 2 2 ≤ 256 ∧ r.body.length = 8 + beAt r.body 2 2 * 2 ^ beAt r.body 0 1) ∧
    (∃ (s : State) (r : FlaryReq), r.op.val = 6 ∧ s.flaryOk r = true ∧ (s.flaryAt r).hasRight r.ten.val 3 = true ∧ r.body = leBytes 4 0) ∧
    (∃ (s : State) (r : FlaryReq), r.op.val = 6 ∧ s.flaryOk r = true ∧ (s.flaryAt r).hasRight r.ten.val 3 = true ∧ r.body.length = 4 ∧ beAt r.body 0 4 ≠ 0 ∧ (s.flaryAt r).ten.subs.all (fun u => u.ten ≠ r.ten.val) = true) ∧
    (∃ (s : State) (r : FlaryReq), r.op.val = 6 ∧ s.flaryOk r = true ∧ (s.flaryAt r).hasRight r.ten.val 3 = false) ∧
    (∃ (s : State) (r : FlaryReq), r.op.val = 10 ∧ s.flaryOk r = true ∧ (s.flaryAt r).hasRight r.ten.val 1 = true ∧ r.body.length = 6 ∧ beAt r.body 4 2 ≠ 0 ∧ beAt r.body 4 2 ≤ 20) ∧
    (∃ (s : State) (r : FlaryReq), r.op.val = 11 ∧ s.flaryOk r = true ∧ (s.flaryAt r).hasRight r.ten.val 2 = true ∧ r.body = []) ∧
    (∃ (s : State) (r : FlaryReq), r.op.val = 2 ∧ s.flaryReach r = true ∧ (s.flaryIn r).hasKey r.ten.val = false) ∧
    (∃ (s : State) (k : Nat), s.ten.subs[k]? = none) ∧
    (∃ (s : State) (k : Nat) (u : Sub), s.ten.subs[k]? = some u ∧ u.rose ≠ 0 ∧ s.pathOpen .branch = true) ∧
    (∃ (s : State) (r : FlaryReq), 128 ≤ r.op.val ∧ s.linkUp r.port = true ∧ r.branch = false ∧ (s.flaryIn r).inService r.port = true ∧ r.target.toNat ≠ (s.flaryIn r).baseMac ∧ r.relay = 0#48) ∧
    (∃ (s : State) (r : FlaryReq), 128 ≤ r.op.val ∧ s.linkUp r.port = true ∧ r.branch = false ∧ (s.flaryIn r).inService r.port = true ∧ r.target.toNat ≠ (s.flaryIn r).baseMac ∧ r.relay.toNat = (s.flaryIn r).baseMac ∧ r.relay ≠ 0#48 ∧ (s.flaryIn r).pathOpen .branch = true) ∧
    (∃ (s : State) (r : FlaryReq), r.op.val = 1 ∧ s.flaryReach r = true ∧ r.body ≠ []) ∧
    (∃ (s : State) (w : Waiting) (f : State → State), s.pathOpen .spi = false ∧ s.host.fwRun = true) :=
  ⟨⟨(fun s : State => { s with img := { s.img with active := some { wImg with tens := [⟨1, 0, 0, 0, 0, 0, 0⟩, ⟨1, 0, 0, 0, 0, 0, 0⟩] } } }) ((((((fun s : State => { s with host := { s.host with fwRun := true } }) State.reset).setB Reg.PORT_Pp_LINK_LINK true 0).setB Reg.RING_SEG_PORTp_IN_SERVICE true 0).setWord Reg.TEN_KEYt_w 1#32 0 0).setWord Reg.TEN_KEYt_w 1#32 1 0), { wReq with op := 1, ten := 0, body := [], target := 0#48 }, by decide +kernel⟩,
   ⟨(fun s : State => { s with img := { s.img with active := some { wImg with tens := [⟨1, 0, 0, 0, 0, 0, 0⟩, ⟨1, 0, 0, 0, 0, 0, 0⟩] } } }) ((((((fun s : State => { s with host := { s.host with fwRun := true } }) State.reset).setB Reg.PORT_Pp_LINK_LINK true 0).setB Reg.RING_SEG_PORTp_IN_SERVICE true 0).setWord Reg.TEN_KEYt_w 1#32 0 0).setWord Reg.TEN_KEYt_w 1#32 1 0), wSigned ((fun s : State => { s with img := { s.img with active := some { wImg with tens := [⟨1, 0, 0, 0, 0, 0, 0⟩, ⟨1, 0, 0, 0, 0, 0, 0⟩] } } }) ((((((fun s : State => { s with host := { s.host with fwRun := true } }) State.reset).setB Reg.PORT_Pp_LINK_LINK true 0).setB Reg.RING_SEG_PORTp_IN_SERVICE true 0).setWord Reg.TEN_KEYt_w 1#32 0 0).setWord Reg.TEN_KEYt_w 1#32 1 0)) { wReq with op := 2, ten := 0, body := [2#8, 0#8, 0#8, 1#8, 0#8, 0#8, 0#8, 0x10#8], target := 0#48 }, by decide +kernel⟩,
   ⟨(fun s : State => { s with img := { s.img with active := some { wImg with tens := [⟨1, 0, 0, 0, 0, 0, 0⟩, ⟨1, 0, 0, 0, 0, 0, 0⟩] } } }) ((((((fun s : State => { s with host := { s.host with fwRun := true } }) State.reset).setB Reg.PORT_Pp_LINK_LINK true 0).setB Reg.RING_SEG_PORTp_IN_SERVICE true 0).setWord Reg.TEN_KEYt_w 1#32 0 0).setWord Reg.TEN_KEYt_w 1#32 1 0), wSigned ((fun s : State => { s with img := { s.img with active := some { wImg with tens := [⟨1, 0, 0, 0, 0, 0, 0⟩, ⟨1, 0, 0, 0, 0, 0, 0⟩] } } }) ((((((fun s : State => { s with host := { s.host with fwRun := true } }) State.reset).setB Reg.PORT_Pp_LINK_LINK true 0).setB Reg.RING_SEG_PORTp_IN_SERVICE true 0).setWord Reg.TEN_KEYt_w 1#32 0 0).setWord Reg.TEN_KEYt_w 1#32 1 0)) { wReq with op := 3, ten := 0, body := [2#8, 0#8, 0#8, 1#8, 0#8, 0#8, 0#8, 0x10#8] ++ [1#8,2#8,3#8,4#8], target := 0#48 }, by decide +kernel⟩,
   ⟨(fun s : State => { s with img := { s.img with active := some { wImg with tens := [⟨1, 0, 0, 0, 0, 0, 0⟩, ⟨1, 0, 0, 0, 0, 0, 0⟩] } } }) ((((((fun s : State => { s with host := { s.host with fwRun := true } }) State.reset).setB Reg.PORT_Pp_LINK_LINK true 0).setB Reg.RING_SEG_PORTp_IN_SERVICE true 0).setWord Reg.TEN_KEYt_w 1#32 0 0).setWord Reg.TEN_KEYt_w 1#32 1 0), wSigned ((fun s : State => { s with img := { s.img with active := some { wImg with tens := [⟨1, 0, 0, 0, 0, 0, 0⟩, ⟨1, 0, 0, 0, 0, 0, 0⟩] } } }) ((((((fun s : State => { s with host := { s.host with fwRun := true } }) State.reset).setB Reg.PORT_Pp_LINK_LINK true 0).setB Reg.RING_SEG_PORTp_IN_SERVICE true 0).setWord Reg.TEN_KEYt_w 1#32 0 0).setWord Reg.TEN_KEYt_w 1#32 1 0)) { wReq with op := 4, ten := 0, body := [2#8, 0#8, 0#8, 1#8, 0#8, 0#8, 0#8, 0x10#8], target := 0#48 }, by decide +kernel⟩,
   ⟨(fun s : State => { s with img := { s.img with active := some { wImg with tens := [⟨1, 0, 0, 0, 0, 0, 0⟩, ⟨1, 0, 0, 0, 0, 0, 0⟩] } } }) ((((((fun s : State => { s with host := { s.host with fwRun := true } }) State.reset).setB Reg.PORT_Pp_LINK_LINK true 0).setB Reg.RING_SEG_PORTp_IN_SERVICE true 0).setWord Reg.TEN_KEYt_w 1#32 0 0).setWord Reg.TEN_KEYt_w 1#32 1 0), wSigned ((fun s : State => { s with img := { s.img with active := some { wImg with tens := [⟨1, 0, 0, 0, 0, 0, 0⟩, ⟨1, 0, 0, 0, 0, 0, 0⟩] } } }) ((((((fun s : State => { s with host := { s.host with fwRun := true } }) State.reset).setB Reg.PORT_Pp_LINK_LINK true 0).setB Reg.RING_SEG_PORTp_IN_SERVICE true 0).setWord Reg.TEN_KEYt_w 1#32 0 0).setWord Reg.TEN_KEYt_w 1#32 1 0)) { wReq with op := 5, ten := 0, body := [2#8, 0#8, 0#8, 1#8, 0#8, 0#8, 0#8, 0x10#8] ++ [1#8,2#8,3#8,4#8], target := 0#48 }, by decide +kernel⟩,
   ⟨(fun s : State => { s with img := { s.img with active := some { wImg with tens := [⟨1, 0, 0, 0, 0, 0, 0⟩, ⟨1, 0, 0, 0, 0, 0, 0⟩] } } }) ((((((fun s : State => { s with host := { s.host with fwRun := true } }) State.reset).setB Reg.PORT_Pp_LINK_LINK true 0).setB Reg.RING_SEG_PORTp_IN_SERVICE true 0).setWord Reg.TEN_KEYt_w 1#32 0 0).setWord Reg.TEN_KEYt_w 1#32 1 0), wSigned ((fun s : State => { s with img := { s.img with active := some { wImg with tens := [⟨1, 0, 0, 0, 0, 0, 0⟩, ⟨1, 0, 0, 0, 0, 0, 0⟩] } } }) ((((((fun s : State => { s with host := { s.host with fwRun := true } }) State.reset).setB Reg.PORT_Pp_LINK_LINK true 0).setB Reg.RING_SEG_PORTp_IN_SERVICE true 0).setWord Reg.TEN_KEYt_w 1#32 0 0).setWord Reg.TEN_KEYt_w 1#32 1 0)) { wReq with op := 6, ten := 0, body := [0#8,0#8,0#8,0#8], target := 0#48 }, by decide +kernel⟩,
   ⟨(fun s : State => { s with img := { s.img with active := some { wImg with tens := [⟨1, 0, 0, 0, 0, 0, 0⟩, ⟨1, 0, 0, 0, 0, 0, 0⟩] } } }) ((((((fun s : State => { s with host := { s.host with fwRun := true } }) State.reset).setB Reg.PORT_Pp_LINK_LINK true 0).setB Reg.RING_SEG_PORTp_IN_SERVICE true 0).setWord Reg.TEN_KEYt_w 1#32 0 0).setWord Reg.TEN_KEYt_w 1#32 1 0), wSigned ((fun s : State => { s with img := { s.img with active := some { wImg with tens := [⟨1, 0, 0, 0, 0, 0, 0⟩, ⟨1, 0, 0, 0, 0, 0, 0⟩] } } }) ((((((fun s : State => { s with host := { s.host with fwRun := true } }) State.reset).setB Reg.PORT_Pp_LINK_LINK true 0).setB Reg.RING_SEG_PORTp_IN_SERVICE true 0).setWord Reg.TEN_KEYt_w 1#32 0 0).setWord Reg.TEN_KEYt_w 1#32 1 0)) { wReq with op := 6, ten := 0, body := [0#8,0#8,0#8,3#8], target := 0#48 }, by decide +kernel⟩,
   ⟨(fun s : State => { s with img := { s.img with active := some { wImg with tens := [⟨1, 0, 0, 0, 0, 0, 0⟩, ⟨1, 0, 0, 0, 0, 0, 0⟩] } } }) ((((((fun s : State => { s with host := { s.host with fwRun := true } }) State.reset).setB Reg.PORT_Pp_LINK_LINK true 0).setB Reg.RING_SEG_PORTp_IN_SERVICE true 0).setWord Reg.TEN_KEYt_w 1#32 0 0).setWord Reg.TEN_KEYt_w 1#32 1 0), wSigned ((fun s : State => { s with img := { s.img with active := some { wImg with tens := [⟨1, 0, 0, 0, 0, 0, 0⟩, ⟨1, 0, 0, 0, 0, 0, 0⟩] } } }) ((((((fun s : State => { s with host := { s.host with fwRun := true } }) State.reset).setB Reg.PORT_Pp_LINK_LINK true 0).setB Reg.RING_SEG_PORTp_IN_SERVICE true 0).setWord Reg.TEN_KEYt_w 1#32 0 0).setWord Reg.TEN_KEYt_w 1#32 1 0)) { wReq with op := 6, ten := 1, body := [0#8,0#8,0#8,0#8], target := 0#48 }, by decide +kernel⟩,
   ⟨(fun s : State => { s with img := { s.img with active := some { wImg with tens := [⟨1, 0, 0, 0, 0, 0, 0⟩, ⟨1, 0, 0, 0, 0, 0, 0⟩] } } }) ((((((fun s : State => { s with host := { s.host with fwRun := true } }) State.reset).setB Reg.PORT_Pp_LINK_LINK true 0).setB Reg.RING_SEG_PORTp_IN_SERVICE true 0).setWord Reg.TEN_KEYt_w 1#32 0 0).setWord Reg.TEN_KEYt_w 1#32 1 0), wSigned ((fun s : State => { s with img := { s.img with active := some { wImg with tens := [⟨1, 0, 0, 0, 0, 0, 0⟩, ⟨1, 0, 0, 0, 0, 0, 0⟩] } } }) ((((((fun s : State => { s with host := { s.host with fwRun := true } }) State.reset).setB Reg.PORT_Pp_LINK_LINK true 0).setB Reg.RING_SEG_PORTp_IN_SERVICE true 0).setWord Reg.TEN_KEYt_w 1#32 0 0).setWord Reg.TEN_KEYt_w 1#32 1 0)) { wReq with op := 10, ten := 0, body := [0#8,0#8,0#8,0#8,0#8,1#8], target := 0#48 }, by decide +kernel⟩,
   ⟨(fun s : State => { s with img := { s.img with active := some { wImg with tens := [⟨1, 0, 0, 0, 0, 0, 0⟩, ⟨1, 0, 0, 0, 0, 0, 0⟩] } } }) ((((((fun s : State => { s with host := { s.host with fwRun := true } }) State.reset).setB Reg.PORT_Pp_LINK_LINK true 0).setB Reg.RING_SEG_PORTp_IN_SERVICE true 0).setWord Reg.TEN_KEYt_w 1#32 0 0).setWord Reg.TEN_KEYt_w 1#32 1 0), wSigned ((fun s : State => { s with img := { s.img with active := some { wImg with tens := [⟨1, 0, 0, 0, 0, 0, 0⟩, ⟨1, 0, 0, 0, 0, 0, 0⟩] } } }) ((((((fun s : State => { s with host := { s.host with fwRun := true } }) State.reset).setB Reg.PORT_Pp_LINK_LINK true 0).setB Reg.RING_SEG_PORTp_IN_SERVICE true 0).setWord Reg.TEN_KEYt_w 1#32 0 0).setWord Reg.TEN_KEYt_w 1#32 1 0)) { wReq with op := 11, ten := 0, body := [], target := 0#48 }, by decide +kernel⟩,
   ⟨(fun s : State => { s with img := { s.img with active := some { wImg with tens := [⟨1, 0, 0, 0, 0, 0, 0⟩, ⟨1, 0, 0, 0, 0, 0, 0⟩] } } }) ((((((fun s : State => { s with host := { s.host with fwRun := true } }) State.reset).setB Reg.PORT_Pp_LINK_LINK true 0).setB Reg.RING_SEG_PORTp_IN_SERVICE true 0).setWord Reg.TEN_KEYt_w 1#32 0 0).setWord Reg.TEN_KEYt_w 1#32 1 0), { wReq with op := 2, ten := 3, body := [], target := 0#48 }, by decide +kernel⟩,
   ⟨State.reset, 0, by decide +kernel⟩,
   ⟨(fun s : State => { s with ten := { s.ten with subs := [⟨0, 0, 0, 1, false, 0⟩] } }) ((fun s : State => { s with host := { s.host with fwRun := true } }) State.reset), 0, ⟨0,0,0,1,false,0⟩, by decide +kernel⟩,
   ⟨(fun s : State => { s with img := { s.img with active := some { wImg with tens := [⟨1, 0, 0, 0, 0, 0, 0⟩, ⟨1, 0, 0, 0, 0, 0, 0⟩] } } }) ((((((fun s : State => { s with host := { s.host with fwRun := true } }) State.reset).setB Reg.PORT_Pp_LINK_LINK true 0).setB Reg.RING_SEG_PORTp_IN_SERVICE true 0).setWord Reg.TEN_KEYt_w 1#32 0 0).setWord Reg.TEN_KEYt_w 1#32 1 0), { wReq with op := 129, target := 5#48 }, by decide +kernel⟩,
   ⟨((fun s : State => { s with img := { s.img with active := some { wImg with tens := [⟨1, 0, 0, 0, 0, 0, 0⟩, ⟨1, 0, 0, 0, 0, 0, 0⟩] } } }) ((((((fun s : State => { s with host := { s.host with fwRun := true } }) State.reset).setB Reg.PORT_Pp_LINK_LINK true 0).setB Reg.RING_SEG_PORTp_IN_SERVICE true 0).setWord Reg.TEN_KEYt_w 1#32 0 0).setWord Reg.TEN_KEYt_w 1#32 1 0)).set Reg.IDENT_MAC_LO 0x700, { wReq with op := 129, target := 5#48, relay := 0x700#48 }, by decide +kernel⟩,
   ⟨(fun s : State => { s with img := { s.img with active := some { wImg with tens := [⟨1, 0, 0, 0, 0, 0, 0⟩, ⟨1, 0, 0, 0, 0, 0, 0⟩] } } }) ((((((fun s : State => { s with host := { s.host with fwRun := true } }) State.reset).setB Reg.PORT_Pp_LINK_LINK true 0).setB Reg.RING_SEG_PORTp_IN_SERVICE true 0).setWord Reg.TEN_KEYt_w 1#32 0 0).setWord Reg.TEN_KEYt_w 1#32 1 0), { wReq with op := 1, ten := 0, body := [1#8], target := 0#48 }, by decide +kernel⟩,
   ⟨((fun s : State => { s with host := { s.host with fwRun := true } }) ((fun s : State => { s with host := { s.host with fwRun := true } }) State.reset)).set Reg.DBG_CORE_STATUS_HALTED 2, (Waiting.spi 1 1 0 0 [] true), (fun s => s), by decide +kernel⟩⟩
/-- Each clause of FlaryTransfersTakeEffect has a state and operands that meet its conditions. -/
theorem witness_FlaryTransfersTakeEffect :
    (∃ (s : State) (r : FlaryReq), r.op.val = 8 ∧ s.flaryOk r = true ∧ beAt r.body 0 1 = 1 ∧ r.ten.val = 0 ∧ 8 ≤ r.body.length ∧ r.body.drop 8 = [] ∧ beAt r.body 1 1 < 2) ∧
    (∃ (s : State) (r : FlaryReq), r.op.val = 8 ∧ s.flaryOk r = true ∧ beAt r.body 0 1 = 2 ∧ r.ten.val = 0 ∧ 8 ≤ r.body.length ∧ r.body.length ≤ 1032 ∧ beAt r.body 1 1 < 2 ∧ beAt r.body 4 4 = ((s.flaryAt r).slot (beAt r.body 1 1)).bytes.length) ∧
    (∃ (s : State) (r : FlaryReq), r.op.val = 8 ∧ s.flaryOk r = true ∧ beAt r.body 0 1 = 3 ∧ r.ten.val = 0 ∧ 8 ≤ r.body.length ∧ r.body.drop 8 = [] ∧ beAt r.body 1 1 < 2) ∧
    (∃ (s : State) (r : FlaryReq), r.op.val = 8 ∧ s.flaryOk r = true ∧ beAt r.body 0 1 = 4 ∧ r.ten.val = 0 ∧ 8 ≤ r.body.length ∧ r.body.drop 8 = [] ∧ beAt r.body 1 1 < 2) ∧
    (∃ (s : State) (r : FlaryReq), r.op.val = 8 ∧ s.flaryOk r = true ∧ beAt r.body 0 1 = 1 ∧ r.ten.val ≠ 0) ∧
    (∃ (s : State) (r : FlaryReq), r.op.val = 9 ∧ s.flaryOk r = true ∧ beAt r.body 0 1 = 1 ∧ (s.flaryAt r).hasRight r.ten.val 0 = true ∧ 7 ≤ r.body.length ∧ r.body.drop 7 = [] ∧ beAt r.body 1 2 ≤ 1023) ∧
    (∃ (s : State) (r : FlaryReq), r.op.val = 9 ∧ s.flaryOk r = true ∧ beAt r.body 0 1 = 2 ∧ (s.flaryAt r).hasRight r.ten.val 0 = true ∧ 7 ≤ r.body.length ∧ r.body.length ≤ 1031 ∧ beAt r.body 1 2 ≤ 1023 ∧ beAt r.body 1 2 ≠ 0 ∧ beAt r.body 3 4 = ((s.flaryAt r).msg (beAt r.body 1 2)).bytes.length) ∧
    (∃ (s : State) (r : FlaryReq), r.op.val = 9 ∧ s.flaryOk r = true ∧ beAt r.body 0 1 = 3 ∧ (s.flaryAt r).hasRight r.ten.val 0 = true ∧ 7 ≤ r.body.length ∧ r.body.drop 7 = [] ∧ beAt r.body 1 2 ≤ 1023) ∧
    (∃ (s : State) (r : FlaryReq), r.op.val = 9 ∧ s.flaryOk r = true ∧ beAt r.body 0 1 = 4 ∧ (s.flaryAt r).hasRight r.ten.val 0 = true ∧ 7 ≤ r.body.length ∧ r.body.drop 7 = [] ∧ beAt r.body 1 2 ≤ 1023) ∧
    (∃ (s : State) (r : FlaryReq), r.op.val = 9 ∧ s.flaryOk r = true ∧ beAt r.body 0 1 = 5 ∧ (s.flaryAt r).hasRight r.ten.val 0 = true ∧ 7 ≤ r.body.length ∧ r.body.drop 7 = [] ∧ beAt r.body 1 2 ≤ 1023) :=
  ⟨⟨(fun s : State => { s with img := { s.img with active := some { wImg with tens := [⟨1, 0, 0, 0, 0, 0, 0⟩, ⟨1, 0, 0, 0, 0, 0, 0⟩] } } }) ((((((fun s : State => { s with host := { s.host with fwRun := true } }) State.reset).setB Reg.PORT_Pp_LINK_LINK true 0).setB Reg.RING_SEG_PORTp_IN_SERVICE true 0).setWord Reg.TEN_KEYt_w 1#32 0 0).setWord Reg.TEN_KEYt_w 1#32 1 0), wSigned ((fun s : State => { s with img := { s.img with active := some { wImg with tens := [⟨1, 0, 0, 0, 0, 0, 0⟩, ⟨1, 0, 0, 0, 0, 0, 0⟩] } } }) ((((((fun s : State => { s with host := { s.host with fwRun := true } }) State.reset).setB Reg.PORT_Pp_LINK_LINK true 0).setB Reg.RING_SEG_PORTp_IN_SERVICE true 0).setWord Reg.TEN_KEYt_w 1#32 0 0).setWord Reg.TEN_KEYt_w 1#32 1 0)) { wReq with op := 8, ten := 0, body := ([1#8, 0#8] ++ List.replicate 6 0#8), target := 0#48 }, by decide +kernel⟩,
   ⟨((fun s : State => { s with img := { s.img with active := some { wImg with tens := [⟨1, 0, 0, 0, 0, 0, 0⟩, ⟨1, 0, 0, 0, 0, 0, 0⟩] } } }) ((((((fun s : State => { s with host := { s.host with fwRun := true } }) State.reset).setB Reg.PORT_Pp_LINK_LINK true 0).setB Reg.RING_SEG_PORTp_IN_SERVICE true 0).setWord Reg.TEN_KEYt_w 1#32 0 0).setWord Reg.TEN_KEYt_w 1#32 1 0)).modSlot 0 (fun c => { c with state := 1 }), wSigned (((fun s : State => { s with img := { s.img with active := some { wImg with tens := [⟨1, 0, 0, 0, 0, 0, 0⟩, ⟨1, 0, 0, 0, 0, 0, 0⟩] } } }) ((((((fun s : State => { s with host := { s.host with fwRun := true } }) State.reset).setB Reg.PORT_Pp_LINK_LINK true 0).setB Reg.RING_SEG_PORTp_IN_SERVICE true 0).setWord Reg.TEN_KEYt_w 1#32 0 0).setWord Reg.TEN_KEYt_w 1#32 1 0)).modSlot 0 (fun c => { c with state := 1 })) { wReq with op := 8, ten := 0, body := ([2#8, 0#8] ++ List.replicate 6 0#8 ++ [7#8]), target := 0#48 }, by decide +kernel⟩,
   ⟨(fun s : State => { s with img := { s.img with active := some { wImg with tens := [⟨1, 0, 0, 0, 0, 0, 0⟩, ⟨1, 0, 0, 0, 0, 0, 0⟩] } } }) ((((((fun s : State => { s with host := { s.host with fwRun := true } }) State.reset).setB Reg.PORT_Pp_LINK_LINK true 0).setB Reg.RING_SEG_PORTp_IN_SERVICE true 0).setWord Reg.TEN_KEYt_w 1#32 0 0).setWord Reg.TEN_KEYt_w 1#32 1 0), wSigned ((fun s : State => { s with img := { s.img with active := some { wImg with tens := [⟨1, 0, 0, 0, 0, 0, 0⟩, ⟨1, 0, 0, 0, 0, 0, 0⟩] } } }) ((((((fun s : State => { s with host := { s.host with fwRun := true } }) State.reset).setB Reg.PORT_Pp_LINK_LINK true 0).setB Reg.RING_SEG_PORTp_IN_SERVICE true 0).setWord Reg.TEN_KEYt_w 1#32 0 0).setWord Reg.TEN_KEYt_w 1#32 1 0)) { wReq with op := 8, ten := 0, body := ([3#8, 0#8] ++ List.replicate 6 0#8), target := 0#48 }, by decide +kernel⟩,
   ⟨(fun s : State => { s with img := { s.img with active := some { wImg with tens := [⟨1, 0, 0, 0, 0, 0, 0⟩, ⟨1, 0, 0, 0, 0, 0, 0⟩] } } }) ((((((fun s : State => { s with host := { s.host with fwRun := true } }) State.reset).setB Reg.PORT_Pp_LINK_LINK true 0).setB Reg.RING_SEG_PORTp_IN_SERVICE true 0).setWord Reg.TEN_KEYt_w 1#32 0 0).setWord Reg.TEN_KEYt_w 1#32 1 0), wSigned ((fun s : State => { s with img := { s.img with active := some { wImg with tens := [⟨1, 0, 0, 0, 0, 0, 0⟩, ⟨1, 0, 0, 0, 0, 0, 0⟩] } } }) ((((((fun s : State => { s with host := { s.host with fwRun := true } }) State.reset).setB Reg.PORT_Pp_LINK_LINK true 0).setB Reg.RING_SEG_PORTp_IN_SERVICE true 0).setWord Reg.TEN_KEYt_w 1#32 0 0).setWord Reg.TEN_KEYt_w 1#32 1 0)) { wReq with op := 8, ten := 0, body := ([4#8, 0#8] ++ List.replicate 6 0#8), target := 0#48 }, by decide +kernel⟩,
   ⟨(fun s : State => { s with img := { s.img with active := some { wImg with tens := [⟨1, 0, 0, 0, 0, 0, 0⟩, ⟨1, 0, 0, 0, 0, 0, 0⟩] } } }) ((((((fun s : State => { s with host := { s.host with fwRun := true } }) State.reset).setB Reg.PORT_Pp_LINK_LINK true 0).setB Reg.RING_SEG_PORTp_IN_SERVICE true 0).setWord Reg.TEN_KEYt_w 1#32 0 0).setWord Reg.TEN_KEYt_w 1#32 1 0), wSigned ((fun s : State => { s with img := { s.img with active := some { wImg with tens := [⟨1, 0, 0, 0, 0, 0, 0⟩, ⟨1, 0, 0, 0, 0, 0, 0⟩] } } }) ((((((fun s : State => { s with host := { s.host with fwRun := true } }) State.reset).setB Reg.PORT_Pp_LINK_LINK true 0).setB Reg.RING_SEG_PORTp_IN_SERVICE true 0).setWord Reg.TEN_KEYt_w 1#32 0 0).setWord Reg.TEN_KEYt_w 1#32 1 0)) { wReq with op := 8, ten := 1, body := ([1#8, 0#8] ++ List.replicate 6 0#8), target := 0#48 }, by decide +kernel⟩,
   ⟨(fun s : State => { s with img := { s.img with active := some { wImg with tens := [⟨1, 0, 0, 0, 0, 0, 0⟩, ⟨1, 0, 0, 0, 0, 0, 0⟩] } } }) ((((((fun s : State => { s with host := { s.host with fwRun := true } }) State.reset).setB Reg.PORT_Pp_LINK_LINK true 0).setB Reg.RING_SEG_PORTp_IN_SERVICE true 0).setWord Reg.TEN_KEYt_w 1#32 0 0).setWord Reg.TEN_KEYt_w 1#32 1 0), wSigned ((fun s : State => { s with img := { s.img with active := some { wImg with tens := [⟨1, 0, 0, 0, 0, 0, 0⟩, ⟨1, 0, 0, 0, 0, 0, 0⟩] } } }) ((((((fun s : State => { s with host := { s.host with fwRun := true } }) State.reset).setB Reg.PORT_Pp_LINK_LINK true 0).setB Reg.RING_SEG_PORTp_IN_SERVICE true 0).setWord Reg.TEN_KEYt_w 1#32 0 0).setWord Reg.TEN_KEYt_w 1#32 1 0)) { wReq with op := 9, ten := 0, body := ([1#8, 0#8, 1#8] ++ List.replicate 4 0#8), target := 0#48 }, by decide +kernel⟩,
   ⟨(fun s : State => { s with img := { s.img with active := some { wImg with tens := [⟨1, 0, 0, 0, 0, 0, 0⟩, ⟨1, 0, 0, 0, 0, 0, 0⟩] } } }) ((((((fun s : State => { s with host := { s.host with fwRun := true } }) State.reset).setB Reg.PORT_Pp_LINK_LINK true 0).setB Reg.RING_SEG_PORTp_IN_SERVICE true 0).setWord Reg.TEN_KEYt_w 1#32 0 0).setWord Reg.TEN_KEYt_w 1#32 1 0), wSigned ((fun s : State => { s with img := { s.img with active := some { wImg with tens := [⟨1, 0, 0, 0, 0, 0, 0⟩, ⟨1, 0, 0, 0, 0, 0, 0⟩] } } }) ((((((fun s : State => { s with host := { s.host with fwRun := true } }) State.reset).setB Reg.PORT_Pp_LINK_LINK true 0).setB Reg.RING_SEG_PORTp_IN_SERVICE true 0).setWord Reg.TEN_KEYt_w 1#32 0 0).setWord Reg.TEN_KEYt_w 1#32 1 0)) { wReq with op := 9, ten := 0, body := ([2#8, 0#8, 1#8] ++ List.replicate 4 0#8 ++ [7#8]), target := 0#48 }, by decide +kernel⟩,
   ⟨(fun s : State => { s with img := { s.img with active := some { wImg with tens := [⟨1, 0, 0, 0, 0, 0, 0⟩, ⟨1, 0, 0, 0, 0, 0, 0⟩] } } }) ((((((fun s : State => { s with host := { s.host with fwRun := true } }) State.reset).setB Reg.PORT_Pp_LINK_LINK true 0).setB Reg.RING_SEG_PORTp_IN_SERVICE true 0).setWord Reg.TEN_KEYt_w 1#32 0 0).setWord Reg.TEN_KEYt_w 1#32 1 0), wSigned ((fun s : State => { s with img := { s.img with active := some { wImg with tens := [⟨1, 0, 0, 0, 0, 0, 0⟩, ⟨1, 0, 0, 0, 0, 0, 0⟩] } } }) ((((((fun s : State => { s with host := { s.host with fwRun := true } }) State.reset).setB Reg.PORT_Pp_LINK_LINK true 0).setB Reg.RING_SEG_PORTp_IN_SERVICE true 0).setWord Reg.TEN_KEYt_w 1#32 0 0).setWord Reg.TEN_KEYt_w 1#32 1 0)) { wReq with op := 9, ten := 0, body := ([3#8, 0#8, 1#8] ++ List.replicate 4 0#8), target := 0#48 }, by decide +kernel⟩,
   ⟨(fun s : State => { s with img := { s.img with active := some { wImg with tens := [⟨1, 0, 0, 0, 0, 0, 0⟩, ⟨1, 0, 0, 0, 0, 0, 0⟩] } } }) ((((((fun s : State => { s with host := { s.host with fwRun := true } }) State.reset).setB Reg.PORT_Pp_LINK_LINK true 0).setB Reg.RING_SEG_PORTp_IN_SERVICE true 0).setWord Reg.TEN_KEYt_w 1#32 0 0).setWord Reg.TEN_KEYt_w 1#32 1 0), wSigned ((fun s : State => { s with img := { s.img with active := some { wImg with tens := [⟨1, 0, 0, 0, 0, 0, 0⟩, ⟨1, 0, 0, 0, 0, 0, 0⟩] } } }) ((((((fun s : State => { s with host := { s.host with fwRun := true } }) State.reset).setB Reg.PORT_Pp_LINK_LINK true 0).setB Reg.RING_SEG_PORTp_IN_SERVICE true 0).setWord Reg.TEN_KEYt_w 1#32 0 0).setWord Reg.TEN_KEYt_w 1#32 1 0)) { wReq with op := 9, ten := 0, body := ([4#8, 0#8, 1#8] ++ List.replicate 4 0#8), target := 0#48 }, by decide +kernel⟩,
   ⟨(fun s : State => { s with img := { s.img with active := some { wImg with tens := [⟨1, 0, 0, 0, 0, 0, 0⟩, ⟨1, 0, 0, 0, 0, 0, 0⟩] } } }) ((((((fun s : State => { s with host := { s.host with fwRun := true } }) State.reset).setB Reg.PORT_Pp_LINK_LINK true 0).setB Reg.RING_SEG_PORTp_IN_SERVICE true 0).setWord Reg.TEN_KEYt_w 1#32 0 0).setWord Reg.TEN_KEYt_w 1#32 1 0), wSigned ((fun s : State => { s with img := { s.img with active := some { wImg with tens := [⟨1, 0, 0, 0, 0, 0, 0⟩, ⟨1, 0, 0, 0, 0, 0, 0⟩] } } }) ((((((fun s : State => { s with host := { s.host with fwRun := true } }) State.reset).setB Reg.PORT_Pp_LINK_LINK true 0).setB Reg.RING_SEG_PORTp_IN_SERVICE true 0).setWord Reg.TEN_KEYt_w 1#32 0 0).setWord Reg.TEN_KEYt_w 1#32 1 0)) { wReq with op := 9, ten := 0, body := ([5#8, 0#8, 1#8] ++ List.replicate 4 0#8), target := 0#48 }, by decide +kernel⟩⟩
/-- Each clause of TestPortCommandsTakeEffect has a state and operands that meet its conditions. -/
theorem witness_TestPortCommandsTakeEffect :
    (∃ (s : State), s.flt.ownExt = true) ∧
    (∃ (s : State), s.flt.ownExt = true) ∧
    (∃ (s : State), s.flt.ownExt = true) ∧
    (∃ (s : State), s.flt.ownExt = true) ∧
    (∃ (s : State), s.flt.ownExt = false) ∧
    (∃ (s : State), s.flt.ownExt = false) ∧
    (∃ (s : State), s.flt.ownExt = false) ∧
    (∃ (s : State), s.flt.ownExt = false) ∧
    (∃ (s : State), s.flt.ownExt = false ∧ s.is Reg.DBG_CFG_LOCK = false) ∧
    (∃ (s : State), s.flt.ownExt = false ∧ s.is Reg.DBG_CFG_LOCK = true) ∧
    (∃ (s : State) (a : Word), s.pathOpen .debug = true ∧ s.host.tap = 0x20 ∧ s.host.dawBusy = false) ∧
    (∃ (s : State) (a d : Word), s.pathOpen .debug = true ∧ s.host.tap = 0x20 ∧ s.host.dawBusy = false) ∧
    (∃ (s : State), s.pathOpen .debug = true ∧ s.host.tap = 0x20 ∧ s.host.dawBusy = false) ∧
    (∃ (s : State) (d : Word), s.pathOpen .debug = true ∧ s.host.tap = 0x20 ∧ s.host.dawBusy = false) ∧
    (∃ (s : State) (a : Word), s.host.dawBusy = true) :=
  ⟨⟨(fun s : State => { s with flt := { s.flt with ownExt := true } }) State.reset, by decide +kernel⟩,
   ⟨(fun s : State => { s with flt := { s.flt with ownExt := true } }) State.reset, by decide +kernel⟩,
   ⟨(fun s : State => { s with flt := { s.flt with ownExt := true } }) State.reset, by decide +kernel⟩,
   ⟨(fun s : State => { s with flt := { s.flt with ownExt := true } }) State.reset, by decide +kernel⟩,
   ⟨State.reset, by decide +kernel⟩,
   ⟨State.reset, by decide +kernel⟩,
   ⟨State.reset, by decide +kernel⟩,
   ⟨State.reset, by decide +kernel⟩,
   ⟨State.reset, by decide +kernel⟩,
   ⟨State.reset.setB Reg.DBG_CFG_LOCK true, by decide +kernel⟩,
   ⟨(fun s : State => { s with host := { s.host with tap := 0x20 } }) State.reset, (0#32), by decide +kernel⟩,
   ⟨(fun s : State => { s with host := { s.host with tap := 0x20 } }) State.reset, (0#32), (0#32), by decide +kernel⟩,
   ⟨(fun s : State => { s with host := { s.host with tap := 0x20 } }) State.reset, by decide +kernel⟩,
   ⟨(fun s : State => { s with host := { s.host with tap := 0x20 } }) State.reset, (0#32), by decide +kernel⟩,
   ⟨(fun s : State => { s with host := { s.host with dawBusy := true } }) State.reset, (0#32), by decide +kernel⟩⟩
/-- Each clause of RingControlFramesTakeEffect has a state and operands that meet its conditions. -/
theorem witness_RingControlFramesTakeEffect :
    (∃ (s : State) (b : Bool) (f : List Byte), s.flooded 2 b f = true ∧ (s.ctlNoted b f (cOrigin f)).isCoord = false ∧ (s.ctlNoted b f (cOrigin f)).ctl ≠ 4 ∧ (s.ctlNoted b f (cOrigin f)).ctl ≠ 0) ∧
    (∃ (s : State) (b : Bool) (f : List Byte), s.flooded 2 b f = true ∧ (s.ctlNoted b f (cOrigin f)).isCoord = true ∧ cBody f 20 6 ≠ (s.ctlNoted b f (cOrigin f)).baseMac ∧ (s.ctlNoted b f (cOrigin f)).tuple ≤ cBody f 0 8) ∧
    (∃ (s : State) (b : Bool) (f : List Byte), s.flooded 2 b f = true ∧ (s.ctlNoted b f (cOrigin f)).isCoord = true ∧ cBody f 0 8 < (s.ctlNoted b f (cOrigin f)).tuple) ∧
    (∃ (s : State) (b : Bool) (f : List Byte), s.ctlGood 3 b f = true ∧ (s.ctlSeen b f).inService (b2n b) = true ∧ (s.ctlSeen b f).ctlRuns = true ∧ cMac f = (s.ctlSeen b f).baseMac ∧ cNonce f = (s.ctlSeen b f).rct.nonce) ∧
    (∃ (s : State) (b : Bool) (f : List Byte), s.ctlGood 3 b f = true ∧ (s.ctlSeen b f).inService (b2n b) = true ∧ (s.ctlSeen b f).ctlRuns = true ∧ cMac f ≠ (s.ctlSeen b f).baseMac ∧ cTtl f ≤ 1) ∧
    (∃ (s : State) (b : Bool) (f : List Byte), s.ctlGood 4 b f = true ∧ (s.ctlSeen b f).inService (b2n b) = true ∧ (s.ctlSeen b f).ctlRuns = true ∧ cMac f = (s.ctlSeen b f).baseMac ∧ cNonce f = (s.ctlSeen b f).rct.nonce) ∧
    (∃ (s : State) (b : Bool) (f : List Byte), s.ctlGood 4 b f = true ∧ (s.ctlSeen b f).inService (b2n b) = false) ∧
    (∃ (s : State) (b : Bool) (f : List Byte), s.flooded 5 b f = true) ∧
    (∃ (s : State) (b : Bool) (f : List Byte), s.flooded 5 b f = true ∧ (s.ctlNoted b f (cOrigin f)).isCoord = false ∧ s.canon = true) ∧
    (∃ (s : State) (b : Bool) (f : List Byte) (c : Nat), s.flooded 6 b f = true ∧ (s.ctlActs b f).isCoord = false ∧ (s.ctlActs b f).ctl ≠ 0 ∧ (s.ctlActs b f).ctl ≠ 6 ∧ (s.ctlActs b f).rct.coord = some c ∧ tupleMac c = cMac f ∧ (readPlan f).id ≠ 0 ∧ (s.ctlActs b f).rdp.plan.map planBody ≠ some (planBody (readPlan f)) ∧ (s.ctlActs b f).rct.waiting = []) ∧
    (∃ (s : State) (b : Bool) (f : List Byte), s.flooded 7 b f = true ∧ cBody f 2 2 ≠ 0xFFFF ∧ cBody f 0 1 = 2) ∧
    (∃ (s : State) (b : Bool) (f : List Byte), s.flooded 7 b f = true ∧ cBody f 0 1 = 1) ∧
    (∃ (s : State) (b : Bool) (f : List Byte), s.ctlGood 8 b f = true) ∧
    (∃ (s : State) (b : Bool) (f : List Byte), s.flooded 9 b f = true ∧ cBody f 0 1 = 1 ∧ cBody f 2 6 ≠ (s.ctlActs b f).baseMac) ∧
    (∃ (s : State) (b : Bool) (f : List Byte), s.flooded 9 b f = true ∧ cBody f 0 1 = 1 ∧ cBody f 2 6 = (s.ctlActs b f).baseMac ∧ (s.ctlActs b f).rct.tmReq = none ∧ (if (s.ctlActs b f).otherTm (s.ctlActs b f).baseMac (cMac f) = (s.ctlActs b f).baseMac then (s.ctlActs b f).able else (s.ctlActs b f).mayBeTm (cMac f)) = true) ∧
    (∃ (s : State) (b : Bool) (f : List Byte), s.flooded 9 b f = true ∧ cBody f 0 1 = 2 ∧ (s.ctlActs b f).rct.tmReq = none) ∧
    (∃ (s : State) (b : Bool) (f : List Byte), s.flooded 9 b f = true ∧ cBody f 0 1 = 3) ∧
    (∃ (s : State) (b : Bool) (f : List Byte) (r : Nat), s.flooded 10 b f = true ∧ cBody f 0 1 = 1 ∧ (s.ctlActs b f).isCoord = true ∧ cBody f 2 2 ≠ 0xFFFF ∧ (s.ctlActs b f).stepDeny (cBody f 1 1) = some r) ∧
    (∃ (s : State) (b : Bool) (f : List Byte), s.flooded 10 b f = true ∧ cBody f 0 1 = 1 ∧ (s.ctlActs b f).isCoord = true ∧ cBody f 2 2 ≠ 0xFFFF ∧ (s.ctlActs b f).stepDeny (cBody f 1 1) = none) ∧
    (∃ (s : State) (b : Bool) (f : List Byte), s.flooded 10 b f = true ∧ cBody f 0 1 = 2 ∧ (s.ctlActs b f).isCoord = false ∧ (s.ctlActs b f).stepMine (cBody f 2 2) ≠ [] ∧ (s.ctlActs b f).rct.stepPorts = []) ∧
    (∃ (s : State) (b : Bool) (f : List Byte) (g : StepGo), s.flooded 10 b f = true ∧ cBody f 0 1 = 3 ∧ (s.ctlActs b f).isCoord = true ∧ (s.ctlActs b f).rct.step = some g ∧ g.segment = cBody f 2 2 ∧ cBody f 2 2 ≠ 0xFFFF ∧ (s.ctlActs b f).rct.commit = none ∧ (s.ctlActs b f).rct.stepLeft.filter (· ≠ cBody f 2 2) = []) ∧
    (∃ (s : State) (b : Bool) (f : List Byte), s.flooded 10 b f = true ∧ cBody f 0 1 = 4 ∧ nth (s.ctlActs b f).rct.stepReq 0 false = false ∧ nth (s.ctlActs b f).rct.stepReq 1 false = false) ∧
    (∃ (s : State) (b : Bool) (f : List Byte), s.flooded 10 b f = true ∧ cBody f 0 1 = 5 ∧ (s.ctlActs b f).isCoord = true ∧ (s.ctlActs b f).rct.step = none) ∧
    (∃ (s : State) (b : Bool) (f : List Byte), s.flooded 11 b f = true ∧ (cBody f 0 1 = 1 ∨ cBody f 0 1 = 2)) ∧
    (∃ (s : State) (b : Bool) (f : List Byte), s.ctlGood 12 b f = true ∧ (s.ctlSeen b f).ctlFirst f = false) ∧
    (∃ (s : State) (b : Bool) (f : List Byte), s.ctlGood 12 b f = true ∧ (s.ctlSeen b f).ctlFirst f = true ∧ cMac f ≠ (s.ctlSeen b f).baseMac ∧ (wakeBy 1 3 true false true ((s.ctlSeen b f).ctlMark f)).linkUp (1 - b2n b) = true) ∧
    (∃ (s : State) (b : Bool) (f : List Byte), s.flooded 13 b f = true ∧ (s.ctlActs b f).get Reg.PORT_SNAP_STATUS_STATE ≠ 1 ∧ (s.ctlActs b f).ks.count < cBody f 0 8) ∧
    (∃ (s : State) (b : Bool) (f : List Byte), s.linkUp (b2n b) = true ∧ beAt f 12 2 = 0x88B5 ∧ ringType f ≠ 1 ∧ frameGood f = true ∧ ctlBad f = true) ∧
    (∃ (s : State) (b : Bool) (f : List Byte) (c : Nat), s.flooded 2 b f = true ∧ (s.ctlNoted b f (cOrigin f)).isCoord = false ∧ (s.ctlNoted b f (cOrigin f)).ctl = 4 ∧ (s.ctlNoted b f (cOrigin f)).rct.coord = some c ∧ tupleMac c = tupleMac (cBody f 0 8)) ∧
    (∃ (s : State) (b : Bool) (f : List Byte) (c : Nat), s.flooded 2 b f = true ∧ (s.ctlNoted b f (cOrigin f)).isCoord = false ∧ (s.ctlNoted b f (cOrigin f)).ctl = 4 ∧ (s.ctlNoted b f (cOrigin f)).rct.coord = some c ∧ c < cBody f 0 8 ∧ tupleMac c ≠ tupleMac (cBody f 0 8) ∧ tupleMac c ≠ cBody f 20 6 ∧ tupleMac c ≠ (s.ctlNoted b f (cOrigin f)).baseMac) ∧
    (∃ (s : State) (b : Bool) (f : List Byte) (v : State), s.ctlGood 3 b f = true ∧ (s.ctlSeen b f).inService (b2n b) = true ∧ (s.ctlSeen b f).ctlRuns = true ∧ cMac f ≠ (s.ctlSeen b f).baseMac ∧ 1 < cTtl f ∧ v = dupMac f ((s.ctlSeen b f).note (cBody f 0 8) none) ∧ v.rct.claims = [] ∧ cBody f 0 8 < v.tuple ∧ v.ctl = 2) ∧
    (∃ (s : State) (b : Bool) (f : List Byte) (v : State), s.ctlGood 4 b f = true ∧ (s.ctlSeen b f).inService (b2n b) = true ∧ (s.ctlSeen b f).inService (1 - b2n b) = true ∧ cMac f ≠ (s.ctlSeen b f).baseMac ∧ 1 < cTtl f ∧ v = (s.ctlSeen b f).ctlPass (b2n b) f id ∧ v.ctlRuns = true ∧ cRefl f = false ∧ v.ctlFirst f = true ∧ v.rct.coord.map tupleMac = some (cMac f)) ∧
    (∃ (s : State) (b : Bool) (f : List Byte), s.flooded 7 b f = true ∧ cBody f 2 2 = 0xFFFF ∧ cBody f 0 1 = 2) ∧
    (∃ (s : State) (b : Bool) (f : List Byte), s.flooded 9 b f = true ∧ cBody f 0 1 = 2 ∧ (s.ctlActs b f).rct.tmReq = some (cMac f) ∧ cBody f 2 6 = (s.ctlActs b f).baseMac) ∧
    (∃ (s : State) (b : Bool) (f : List Byte), s.flooded 10 b f = true ∧ cBody f 0 1 = 1 ∧ (s.ctlActs b f).isCoord = true ∧ cBody f 2 2 = 0xFFFF) ∧
    (∃ (s : State) (b : Bool) (f : List Byte) (r : Bool), s.flooded 10 b f = true ∧ cBody f 0 1 = 4 ∧ (s.ctlActs b f).rct.stepReq = [true, r] ∧ (s.ctlActs b f).segOf 0 = cBody f 2 2 ∧ (s.ctlActs b f).segOf 1 ≠ cBody f 2 2) ∧
    (∃ (s : State) (b : Bool) (f : List Byte) (g : StepGo), s.flooded 10 b f = true ∧ cBody f 0 1 = 3 ∧ (s.ctlActs b f).isCoord = true ∧ (s.ctlActs b f).rct.step = some g ∧ g.segment = 0xFFFF ∧ (s.ctlActs b f).rct.stepLeft.filter (· ≠ cBody f 2 2) ≠ []) :=
  ⟨⟨(wRing State.reset).set Reg.RING_CTL_STATUS_STATE 3, false, wCtl 2 (List.replicate 64 0#8), by decide +kernel⟩,
   ⟨(wRing State.reset).set Reg.RING_CTL_STATUS_STATE 5, false, wCtl 2 (List.replicate 8 0xFF#8 ++ List.replicate 12 0#8 ++ beBytes 6 0x777 ++ List.replicate 38 0#8), by decide +kernel⟩,
   ⟨((wRing State.reset).set Reg.RING_CTL_STATUS_STATE 5).set Reg.RING_CTL_CFG_PRIORITY 3, false, wCtl 2 (beBytes 8 1 ++ List.replicate 12 0#8 ++ beBytes 6 0x777 ++ List.replicate 38 0#8), by decide +kernel⟩,
   ⟨wRing State.reset, false, wOwn 3 (List.replicate 16 0#8), by decide +kernel⟩,
   ⟨wRing State.reset, false, wPass (wCtl 3 (List.replicate 16 0#8)), by decide +kernel⟩,
   ⟨wRing State.reset, false, wOwn 4 (List.replicate 16 0#8), by decide +kernel⟩,
   ⟨(wRing State.reset).setB Reg.RING_SEG_PORTp_IN_SERVICE false 0, false, wCtl 4 (List.replicate 16 0#8), by decide +kernel⟩,
   ⟨wRing State.reset, false, wCtl 5 (beBytes 8 0x777 ++ List.replicate 24 0#8), by decide +kernel⟩,
   ⟨wRing State.reset, false, wCtl 5 (beBytes 8 0x777 ++ List.replicate 24 0#8), by decide +kernel⟩,
   ⟨(fun s : State => { s with rct := { s.rct with coord := some 0x777 } }) ((wRing State.reset).set Reg.RING_CTL_STATUS_STATE 4), false, wCtl 6 (beBytes 2 3 ++ List.replicate 38 0#8), 0x777, by decide +kernel⟩,
   ⟨(wRing State.reset).set Reg.RING_CTL_STATUS_STATE 5, false, wCtl 7 (beBytes 1 2 ++ beBytes 1 0 ++ beBytes 2 1 ++ List.replicate 12 0#8), by decide +kernel⟩,
   ⟨(wRing State.reset).set Reg.RING_CTL_STATUS_STATE 4, false, wCtl 7 (beBytes 1 1 ++ beBytes 1 2 ++ beBytes 2 3 ++ List.replicate 12 0#8), by decide +kernel⟩,
   ⟨wRing State.reset, false, wCtl 8 (List.replicate 32 0#8), by decide +kernel⟩,
   ⟨wRing State.reset, false, wCtl 9 (beBytes 1 1 ++ beBytes 1 0 ++ beBytes 6 5 ++ List.replicate 8 0#8), by decide +kernel⟩,
   ⟨wRing State.reset, false, wCtl 9 (beBytes 1 1 ++ List.replicate 15 0#8), by decide +kernel⟩,
   ⟨wRing State.reset, false, wCtl 9 (beBytes 1 2 ++ List.replicate 15 0#8), by decide +kernel⟩,
   ⟨wRing State.reset, false, wCtl 9 (beBytes 1 3 ++ List.replicate 15 0#8), by decide +kernel⟩,
   ⟨(fun s : State => { s with rct := { s.rct with segDown := [⟨1, 1, 0, false⟩] } }) ((wRing State.reset).set Reg.RING_CTL_STATUS_STATE 5), false, wCtl 10 (beBytes 1 1 ++ List.replicate 15 0#8), 1, by decide +kernel⟩,
   ⟨(wRing State.reset).set Reg.RING_CTL_STATUS_STATE 5, false, wCtl 10 (beBytes 1 1 ++ List.replicate 15 0#8), by decide +kernel⟩,
   ⟨(wRing State.reset).set Reg.RING_CTL_STATUS_STATE 4, false, wCtl 10 (beBytes 1 2 ++ beBytes 1 0 ++ beBytes 2 0xFFFF ++ List.replicate 12 0#8), by decide +kernel⟩,
   ⟨(fun s : State => { s with rct := { s.rct with step := some ⟨0, 1, 0⟩ } }) ((wRing State.reset).set Reg.RING_CTL_STATUS_STATE 5), false, wCtl 10 (beBytes 1 3 ++ List.replicate 15 0#8), ⟨0,1,0⟩, by decide +kernel⟩,
   ⟨wRing State.reset, false, wCtl 10 (beBytes 1 4 ++ List.replicate 15 0#8), by decide +kernel⟩,
   ⟨(wRing State.reset).set Reg.RING_CTL_STATUS_STATE 5, false, wCtl 10 (beBytes 1 5 ++ List.replicate 15 0#8), by decide +kernel⟩,
   ⟨wRing State.reset, false, wCtl 11 (beBytes 1 1 ++ List.replicate 15 0#8), by decide +kernel⟩,
   ⟨(fun s : State => { s with rct := { s.rct with seen := [(0x777, 9, 12, 1)] } }) (wRing State.reset), false, wCtl 12 (List.replicate 16 0#8), by decide +kernel⟩,
   ⟨(wRing State.reset).setB Reg.PORT_Pp_LINK_LINK true 1, false, wCtl 12 (List.replicate 16 0#8), by decide +kernel⟩,
   ⟨wRing State.reset, false, wCtl 13 (beBytes 8 9 ++ beBytes 4 1 ++ List.replicate 4 0#8), by decide +kernel⟩,
   ⟨wRing (State.reset.setB Reg.PORT_Pp_LINK_LINK true 0), false, wCtl 15 (List.replicate 16 0#8), by decide +kernel⟩,
   ⟨(fun s : State => { s with rct := { s.rct with coord := some 0x777 } }) ((wRing State.reset).set Reg.RING_CTL_STATUS_STATE 4), false, wCtl 2 (beBytes 8 0x777 ++ List.replicate 12 0#8 ++ beBytes 6 0x778 ++ List.replicate 38 0#8), 0x777, by decide +kernel⟩,
   ⟨(fun s : State => { s with rct := { s.rct with coord := some 0x555 } }) ((wRing State.reset).set Reg.RING_CTL_STATUS_STATE 4), false, wCtl 2 (beBytes 8 0xF00000000777 ++ List.replicate 12 0#8 ++ beBytes 6 0x778 ++ List.replicate 38 0#8), 0x555, by decide +kernel⟩,
   (by refine ⟨(wRing State.reset).set Reg.RING_CTL_STATUS_STATE 2, false, wCtl 3 (beBytes 8 5 ++ List.replicate 8 0#8), _, ?_, ?_, ?_, ?_, ?_, rfl, ?_⟩ <;> decide +kernel),
   (by refine ⟨(fun s : State => { s with rct := { s.rct with coord := some 0x777 } }) (((wRing State.reset).setB Reg.RING_SEG_PORTp_IN_SERVICE true 1).setB Reg.PORT_Pp_LINK_LINK true 1), false, wCtl 4 (List.replicate 16 0#8), _, ?_, ?_, ?_, ?_, ?_, rfl, ?_⟩ <;> decide +kernel),
   ⟨(wRing State.reset).set Reg.RING_CTL_STATUS_STATE 5, false, wCtl 7 (beBytes 1 2 ++ beBytes 1 0 ++ beBytes 2 0xFFFF ++ List.replicate 12 0#8), by decide +kernel⟩,
   ⟨(fun s : State => { s with rct := { s.rct with tmReq := some 0x777 } }) (wRing State.reset), false, wCtl 9 (beBytes 1 2 ++ beBytes 1 0 ++ beBytes 6 0 ++ List.replicate 8 0#8), by decide +kernel⟩,
   ⟨(wRing State.reset).set Reg.RING_CTL_STATUS_STATE 5, false, wCtl 10 (beBytes 1 1 ++ beBytes 1 0 ++ beBytes 2 0xFFFF ++ List.replicate 12 0#8), by decide +kernel⟩,
   ⟨(fun s : State => { s with rct := { s.rct with stepReq := [true, false] } }) ((fun s : State => { s with rdp := { s.rdp with plan := some { wPlan with nodes := 4 } }, rct := { s.rct with pos := some 1 } }) (wRing State.reset)), false, wCtl 10 (stepBody 4 0 0 0 1), false, by decide +kernel⟩,
   ⟨(fun s : State => { s with rct := { s.rct with stepLeft := [1, 2] } }) ((fun s : State => { s with rct := { s.rct with step := some ⟨0xFFFF, 1, 0⟩ } }) ((fun s : State => { s with rdp := { s.rdp with plan := some { wPlan with nodes := 4 } }, rct := { s.rct with pos := some 1 } }) ((wRing State.reset).set Reg.RING_CTL_STATUS_STATE 5))), false, wCtl 10 (stepBody 3 0 1 0 0), ⟨0xFFFF, 1, 0⟩, by decide +kernel⟩⟩
/-- Each clause of RingControlTimesTakeEffect has a state and operands that meet its conditions. -/
theorem witness_RingControlTimesTakeEffect :
    (∃ (s : State), s.ctl = 1 ∧ s.ctlRuns = true ∧ s.hushed = false ∧ s.able = true) ∧
    (∃ (s : State), s.ctl = 2 ∧ s.ctlRuns = true ∧ s.hushed = false ∧ s.able = true) ∧
    (∃ (s : State), s.ctl = 3 ∧ s.ctlRuns = true ∧ s.hushed = false) ∧
    (∃ (s : State), s.ctl = 4 ∧ s.ctlRuns = true ∧ s.hushed = false ∧ s.isStandby = false) ∧
    (∃ (s : State), s.ctl = 4 ∧ s.ctlRuns = true ∧ s.hushed = false ∧ s.isStandby = true) ∧
    (∃ (s : State), s.isCoord = true ∧ s.ctlRuns = true ∧ s.rct.beaconAt + 12 ≤ s.cycleNo) ∧
    (∃ (s : State), s.ctl = 4 ∧ s.ctlRuns = true ∧ s.svc ≠ [] ∧ s.rct.reportDue = true) ∧
    (∃ (s : State), s.isCoord = true ∧ s.ctlRuns = true ∧ s.rct.building = true) ∧
    (∃ (s : State) (p : Plan) (n : Nat), s.isCoord = true ∧ s.ctlRuns = true ∧ s.rct.waiting = [p] ∧ s.rct.sendsLeft = n + 1) ∧
    (∃ (s : State) (p : Plan), s.isCoord = true ∧ s.ctlRuns = true ∧ s.rct.waiting = [] ∧ s.rdp.plan = some p) ∧
    (∃ (s : State) (p : Plan), s.ks.count % s.nTicks = 0 ∧ (s.ctl = 4 ∨ s.ctl = 5) ∧ s.is Reg.KS_STATUS_LOCK = true ∧ s.rct.waiting = [p] ∧ planDue p.effective s.cycleNo = true) ∧
    (∃ (s : State), s.rct.waiting = []) ∧
    (∃ (s : State) (m c : Nat) (u : State), s.rct.tmSwitch = some (m, c, true) ∧ cycDue c s.cycleNo = true ∧ u = (s.modRct (fun r => { r with tmSwitch := none })).setGm (some m) ∧ (s.isTm = true ∨ u.isTm = true)) ∧
    (∃ (s : State) (m : Nat), s.rct.tmReq = some m) ∧
    (∃ (s : State), s.rdp.launchOn = true ∧ s.rct.beaconAt + 240 ≤ s.cycleNo) ∧
    (∃ (s : State) (b : Bool), s.inService (b2n b) = true) ∧
    (∃ (s : State) (b : Bool), s.inService (b2n b) = false) ∧
    (∃ (s : State) (b : Bool), s.linkUp (b2n b) = true ∧ s.inService (b2n b) = false ∧ s.is Reg.RING_SEG_PORTp_STEPPING (b2n b) = false ∧ s.heldOff (b2n b) = true) ∧
    (∃ (s : State) (b : Bool), s.linkUp (b2n b) = true ∧ s.inService (b2n b) = false ∧ s.ctlRuns = true ∧ s.rdp.plan = none) ∧
    (∃ (s : State), s.isCoord = true ∧ s.rct.segDown.any (fun x => !x.rolled && decide (x.since + 120000 ≤ s.cycleNo)) = true) ∧
    (∃ (s : State), s.rct.quiet = true ∧ s.rdp.plan = none) ∧
    (∃ (s : State), s.rct.stepLocal = none) ∧
    (∃ (s : State) (g : StepGo) (p : Nat), s.rct.stepLocal = some g ∧ s.rct.stepPorts = [p] ∧ s.is Reg.RING_SEG_PORTp_STEPPING p = false ∧ cycDue g.cycle s.cycleNo = true) ∧
    (∃ (s : State) (b : Bool), s.rct.stepLocal = none) ∧
    (∃ (s : State) (b : Bool) (g : StepGo), s.rct.stepLocal = some g ∧ s.is Reg.RING_SEG_PORTp_STEPPING (b2n b) = true ∧ s.linkUp (b2n b) = true ∧ s.speed (b2n b) = g.speed ∧ s.isCoord = false ∧ s.rdp.plan = none ∧ s.ctlRuns = false ∧ s.rct.stepPorts = [b2n b, 1 - b2n b] ∧ s.canon = true) ∧
    (∃ (s : State) (b : Bool), s.rct.stepLocal = none) ∧
    (∃ (s : State) (b : Bool) (g : StepGo), s.rct.stepLocal = some g ∧ s.is Reg.RING_SEG_PORTp_STEPPING (b2n b) = true ∧ s.isCoord = false ∧ s.ctlRuns = false ∧ s.rct.stepPorts = [b2n b, 1 - b2n b] ∧ s.canon = true) ∧
    (∃ (s : State), s.sleepDue = none) ∧
    (∃ (s : State) (m : Nat), s.sleepDue = some m ∧ s.asleep = false) ∧
    (∃ (s : State) (b : Bool) (p : Plan), s.linkUp (b2n b) = true ∧ s.inService (b2n b) = false ∧ s.ctlRuns = true ∧ s.rdp.plan = some p) ∧
    (∃ (s : State) (p : Plan), s.rct.quiet = true ∧ s.rdp.plan = some p ∧ s.isCoord = true ∧ s.ctlRuns = true ∧ s.rct.step = none ∧ p.conf.speed ≠ 0 ∧ s.noneLive = true) :=
  ⟨⟨(fun s : State => { s with host := { s.host with fwRun := true } }) (State.reset.set Reg.RING_CTL_STATUS_STATE 1), by decide +kernel⟩,
   ⟨(fun s : State => { s with host := { s.host with fwRun := true } }) (State.reset.set Reg.RING_CTL_STATUS_STATE 2), by decide +kernel⟩,
   ⟨(fun s : State => { s with host := { s.host with fwRun := true } }) (State.reset.set Reg.RING_CTL_STATUS_STATE 3), by decide +kernel⟩,
   ⟨(fun s : State => { s with host := { s.host with fwRun := true } }) (State.reset.set Reg.RING_CTL_STATUS_STATE 4), by decide +kernel⟩,
   ⟨(fun s : State => { s with rct := { s.rct with standby := some 5 } }) (((fun s : State => { s with host := { s.host with fwRun := true } }) (State.reset.set Reg.RING_CTL_STATUS_STATE 4)).set Reg.IDENT_MAC_LO 5), by decide +kernel⟩,
   ⟨(fun s : State => { s with ks := { s.ks with count := 100000 } }) ((fun s : State => { s with host := { s.host with fwRun := true } }) (State.reset.set Reg.RING_CTL_STATUS_STATE 5)), by decide +kernel⟩,
   ⟨wRing ((fun s : State => { s with rct := { s.rct with reportDue := true } }) ((fun s : State => { s with host := { s.host with fwRun := true } }) (State.reset.set Reg.RING_CTL_STATUS_STATE 4))), by decide +kernel⟩,
   ⟨(fun s : State => { s with rct := { s.rct with building := true } }) ((fun s : State => { s with host := { s.host with fwRun := true } }) (State.reset.set Reg.RING_CTL_STATUS_STATE 5)), by decide +kernel⟩,
   ⟨(fun s : State => { s with rct := { s.rct with sendsLeft := 0 + 1 } }) ((fun s : State => { s with rct := { s.rct with waiting := [wPlan] } }) ((fun s : State => { s with host := { s.host with fwRun := true } }) (State.reset.set Reg.RING_CTL_STATUS_STATE 5))), wPlan, 0, by decide +kernel⟩,
   ⟨(fun s : State => { s with rdp := { s.rdp with plan := some wPlan } }) ((fun s : State => { s with host := { s.host with fwRun := true } }) (State.reset.set Reg.RING_CTL_STATUS_STATE 5)), wPlan, by decide +kernel⟩,
   ⟨((fun s : State => { s with rct := { s.rct with waiting := [wPlan] } }) (State.reset.setB Reg.KS_STATUS_LOCK true)).set Reg.RING_CTL_STATUS_STATE 4, wPlan, by decide +kernel⟩,
   ⟨State.reset, by decide +kernel⟩,
   (by refine ⟨((fun s : State => { s with rct := { s.rct with tmSwitch := some (5, 0, true) } }) State.reset).set Reg.IDENT_MAC_LO 5, 5, 0, _, ?_, ?_, rfl, ?_⟩ <;> decide +kernel),
   ⟨(fun s : State => { s with rct := { s.rct with tmReq := some 0 } }) State.reset, 0, by decide +kernel⟩,
   ⟨(fun s : State => { s with ks := { s.ks with count := 10000000 } }) ((fun s : State => { s with rdp := { s.rdp with launchOn := true } }) State.reset), by decide +kernel⟩,
   ⟨State.reset.setB Reg.RING_SEG_PORTp_IN_SERVICE true 0, false, by decide +kernel⟩,
   ⟨State.reset, false, by decide +kernel⟩,
   ⟨(fun s : State => { s with ks := { s.ks with count := 1000000000 } }) (State.reset.setB Reg.PORT_Pp_LINK_LINK true 0), false, by decide +kernel⟩,
   ⟨(fun s : State => { s with host := { s.host with fwRun := true } }) (State.reset.setB Reg.PORT_Pp_LINK_LINK true 0), false, by decide +kernel⟩,
   ⟨(fun s : State => { s with ks := { s.ks with count := 1000000000 } }) ((fun s : State => { s with rct := { s.rct with segDown := [⟨1, 1, 0, false⟩] } }) (State.reset.set Reg.RING_CTL_STATUS_STATE 5)), by decide +kernel⟩,
   ⟨(fun s : State => { s with rct := { s.rct with quiet := true } }) State.reset, by decide +kernel⟩,
   ⟨State.reset, by decide +kernel⟩,
   ⟨(fun s : State => { s with rct := { s.rct with stepPorts := [0] } }) ((fun s : State => { s with rct := { s.rct with stepLocal := some (⟨0,1,0⟩ : StepGo) } }) State.reset), ⟨0,1,0⟩, 0, by decide +kernel⟩,
   ⟨State.reset, false, by decide +kernel⟩,
   ⟨((fun s : State => { s with rct := { s.rct with stepPorts := [b2n false, 1 - b2n false] } }) ((((fun s : State => { s with rct := { s.rct with stepLocal := some (⟨0,1,0⟩ : StepGo) } }) State.reset).setB Reg.RING_SEG_PORTp_STEPPING true 0).setB Reg.PORT_Pp_LINK_LINK true 0)).set Reg.PORT_Pp_LINK_SPEED 1 0, false, ⟨0,1,0⟩, by decide +kernel⟩,
   ⟨State.reset, false, by decide +kernel⟩,
   ⟨(fun s : State => { s with rct := { s.rct with stepPorts := [b2n false, 1 - b2n false] } }) (((fun s : State => { s with rct := { s.rct with stepLocal := some (⟨0,1,0⟩ : StepGo) } }) State.reset).setB Reg.RING_SEG_PORTp_STEPPING true 0), false, ⟨0,1,0⟩, by decide +kernel⟩,
   ⟨State.reset, by decide +kernel⟩,
   ⟨(fun s : State => { s with dom := { s.dom with sleepAt := some (1, 0) } }) State.reset, 1, by decide +kernel⟩,
   ⟨(fun s : State => { s with rdp := { s.rdp with plan := some wPlan } }) ((fun s : State => { s with host := { s.host with fwRun := true } }) (State.reset.setB Reg.PORT_Pp_LINK_LINK true 0)), false, wPlan, by decide +kernel⟩,
   ⟨(fun s : State => { s with host := { s.host with fwRun := true } }) (((fun s : State => { s with rdp := { s.rdp with plan := some { wPlan with channels := 512, nodes := 1 } } }) ((fun s : State => { s with rct := { s.rct with quiet := true } }) State.reset)).set Reg.RING_CTL_STATUS_STATE 5), { wPlan with channels := 512, nodes := 1 }, by decide +kernel⟩⟩
/-- Each clause of LinkEventsTakeEffect has a state and operands that meet its conditions. -/
theorem witness_LinkEventsTakeEffect :
    (∃ (s : State) (p : Fin 3), s.linkUp p.val = false) ∧
    (∃ (s : State), s.linkUp 2 = true) ∧
    (∃ (s : State) (p : Fin 3), p.val < 2 ∧ s.linkUp p.val = true) ∧
    (∃ (s : State) (p v : Fin 3) (a : Fin 8), s.linkUp p.val = true) ∧
    (∃ (s : State) (v : Fin 3) (a : Fin 8), s.linkUp 2 = false ∧ s.linkSpeed 2 a.val = some v.val ∧ s.canon = true) ∧
    (∃ (s : State) (p : Fin 3), s.is Reg.PORT_Pp_CFG_AUTO_LOW p.val = false) ∧
    (∃ (s : State), s.linkUp 2 = true ∧ s.is Reg.PORT_Pp_CFG_AUTO_LOW 2 = true ∧ s.get Reg.PORT_Pp_CFG_MODE 2 = 0 ∧ s.speed 2 = 1 ∧ s.aafOn = false ∧ s.get Reg.PORT_Pp_LINK_LOAD 2 ≤ s.get Reg.PORT_Pp_SPEED_LOW_PCT 2) ∧
    (∃ (s : State), s.linkUp 2 = true ∧ s.get Reg.PORT_Pp_CFG_MODE 2 = 0 ∧ s.speed 2 = 0 ∧ bit (nth s.port.advert 2 0) 1 = true ∧ 10 * s.get Reg.PORT_Pp_SPEED_RAISE_PCT 2 ≤ s.get Reg.PORT_Pp_LINK_LOAD 2) ∧
    (∃ (s : State) (p : Fin 3), s.linkUp p.val = false) ∧
    (∃ (s : State) (p : Fin 3) (f : List Byte), s.linkUp p.val = true ∧ isPause f = true ∧ frameGood f = true ∧ (s.rxCount p.val f).is Reg.PORT_Pp_CFG_PAUSE_HONOUR p.val = true ∧ nth (s.rxCount p.val f).port.deaf p.val false = false ∧ beAt f 16 2 ≠ 0) ∧
    (∃ (s : State) (p : Fin 3) (f : List Byte), s.linkUp p.val = true ∧ isPause f = true ∧ (s.rxCount p.val f).is Reg.PORT_Pp_CFG_PAUSE_HONOUR p.val = false) ∧
    (∃ (s : State) (p : Fin 3), s.is Reg.PORT_Pp_LINK_PAUSED p.val = true) ∧
    (∃ (s : State) (p : Fin 3), s.is Reg.PORT_Pp_LINK_PAUSED p.val = true) ∧
    (∃ (s : State) (p : Fin 3), s.linkUp p.val = false) ∧
    (∃ (s : State) (p : Fin 3), s.canon = true) ∧
    (∃ (s : State) (p v : Fin 3) (a : Fin 8), p.val < 2 ∧ s.linkUp p.val = false ∧ s.linkSpeed p.val a.val = some v.val ∧ s.get Reg.DOM_STATUS_SLEEP ≠ 1) ∧
    (∃ (s : State) (p : Fin 3), p.val < 2 ∧ s.ctlRuns = true ∧ s.linkUp p.val = true ∧ s.is Reg.PORT_Pp_CFG_AUTO_LOW p.val = true ∧ s.get Reg.PORT_Pp_CFG_MODE p.val = 0 ∧ s.speed p.val ≠ 0 ∧ s.stepFree p.val = true ∧ s.rdp.plan.all (fun l => l.fits (s.speed p.val - 1)) = true ∧ s.get Reg.PORT_Pp_LINK_LOAD p.val * speedBits (s.speed p.val) ≤ 10 * s.get Reg.PORT_Pp_SPEED_LOW_PCT p.val * speedBits (s.speed p.val - 1)) ∧
    (∃ (s : State) (p : Fin 3), p.val < 2 ∧ s.ctlRuns = true ∧ s.linkUp p.val = true ∧ s.get Reg.PORT_Pp_CFG_MODE p.val = 0 ∧ s.speed p.val < 2 ∧ s.stepFree p.val = true ∧ bit (nth s.port.advert p.val 0) (s.speed p.val + 1) = true ∧ 10 * s.get Reg.PORT_Pp_SPEED_RAISE_PCT p.val ≤ s.get Reg.PORT_Pp_LINK_LOAD p.val) ∧
    (∃ (s : State) (p v : Nat), s.segOf p ≠ 0xFFFF ∧ s.isCoord = false) ∧
    (∃ (s : State) (b : Bool), s.inService (b2n b) = true ∧ s.canon = true) ∧
    (∃ (s : State) (b : Bool), s.linkUp (b2n b) = true ∧ s.inService (b2n b) = false ∧ s.is Reg.RING_SEG_PORTp_STEPPING (b2n b) = false ∧ s.heldOff (b2n b) = true ∧ nth s.rct.probes (b2n b) none = none ∧ s.canon = true) ∧
    (∃ (s : State) (b : Bool), s.linkUp (b2n b) = true ∧ s.inService (b2n b) = false ∧ s.ctlRuns = true) ∧
    (∃ (s : State) (g : StepGo) (b : Bool), s.rct.stepLocal = some g ∧ s.rct.stepPorts = [b2n b] ∧ s.is Reg.RING_SEG_PORTp_STEPPING (b2n b) = false ∧ cycDue g.cycle s.cycleNo = true ∧ s.canon = true) ∧
    (∃ (s : State) (b : Bool) (g : StepGo), s.rct.stepLocal = some g ∧ s.is Reg.RING_SEG_PORTp_STEPPING (b2n b) = true ∧ s.linkUp (b2n b) = true ∧ s.speed (b2n b) = g.speed ∧ s.rdp.plan = none ∧ s.isCoord = false ∧ s.rct.stepPorts = [b2n b, 1 - b2n b] ∧ s.canon = true) ∧
    (∃ (s : State) (b : Bool) (g : StepGo), s.rct.stepLocal = some g ∧ s.is Reg.RING_SEG_PORTp_STEPPING (b2n b) = true ∧ s.isCoord = false ∧ s.rct.stepPorts = [b2n b, 1 - b2n b] ∧ s.canon = true) :=
  ⟨⟨State.reset, 0, by decide +kernel⟩,
   ⟨State.reset.setB Reg.PORT_Pp_LINK_LINK true 2, by decide +kernel⟩,
   ⟨State.reset.setB Reg.PORT_Pp_LINK_LINK true 0, 0, by decide +kernel⟩,
   ⟨State.reset.setB Reg.PORT_Pp_LINK_LINK true 0, 0, 0, 0, by decide +kernel⟩,
   ⟨State.reset, 1, 7, by decide +kernel⟩,
   ⟨State.reset, 0, by decide +kernel⟩,
   ⟨((State.reset.setB Reg.PORT_Pp_LINK_LINK true 2).setB Reg.PORT_Pp_CFG_AUTO_LOW true 2).set Reg.PORT_Pp_LINK_SPEED 1 2, by decide +kernel⟩,
   ⟨(((fun s : State => { s with port := { s.port with advert := [0, 0, 2] } }) (State.reset.setB Reg.PORT_Pp_LINK_LINK true 2)).set Reg.PORT_Pp_SPEED_RAISE_PCT 10 2).set Reg.PORT_Pp_LINK_LOAD 900 2, by decide +kernel⟩,
   ⟨State.reset, 0, by decide +kernel⟩,
   ⟨State.reset.setB Reg.PORT_Pp_LINK_LINK true 0, 0, withFcs (beBytes 6 0x0180C2000001 ++ beBytes 6 9 ++ beBytes 2 0x8808 ++ beBytes 2 1 ++ beBytes 2 5), by decide +kernel⟩,
   ⟨(State.reset.setB Reg.PORT_Pp_LINK_LINK true 0).setB Reg.PORT_Pp_CFG_PAUSE_HONOUR false 0, 0, withFcs (beBytes 6 0x0180C2000001 ++ beBytes 6 9 ++ beBytes 2 0x8808 ++ beBytes 2 1 ++ beBytes 2 5), by decide +kernel⟩,
   ⟨State.reset.setB Reg.PORT_Pp_LINK_PAUSED true 0, 0, by decide +kernel⟩,
   ⟨State.reset.setB Reg.PORT_Pp_LINK_PAUSED true 0, 0, by decide +kernel⟩,
   ⟨State.reset, 0, by decide +kernel⟩,
   ⟨State.reset, 0, by decide +kernel⟩,
   ⟨State.reset, 0, 2, 7, by decide +kernel⟩,
   ⟨(((((fun s : State => { s with host := { s.host with fwRun := true } }) State.reset).setB Reg.PORT_Pp_LINK_LINK true 0).setB Reg.PORT_Pp_CFG_AUTO_LOW true 0).set Reg.PORT_Pp_LINK_SPEED 1 0).setB Reg.RING_SEG_PORTp_IN_SERVICE true 0, 0, by decide +kernel⟩,
   ⟨(fun s : State => { s with port := { s.port with advert := [7, 7, 7] } }) (((((fun s : State => { s with host := { s.host with fwRun := true } }) State.reset).setB Reg.PORT_Pp_LINK_LINK true 0).setB Reg.RING_SEG_PORTp_IN_SERVICE true 0).set Reg.PORT_Pp_LINK_LOAD 1000 0), 0, by decide +kernel⟩,
   ⟨(fun s : State => { s with rct := { s.rct with pos := some 0 } }) ((fun s : State => { s with rdp := { s.rdp with plan := some wPlan } }) State.reset), 0, 1, by decide +kernel⟩,
   ⟨State.reset.setB Reg.RING_SEG_PORTp_IN_SERVICE true 0, false, by decide +kernel⟩,
   ⟨(fun s : State => { s with ks := { s.ks with count := 1000000000 } }) (((State.reset.setB Reg.PORT_Pp_LINK_LINK true 0).setB Reg.RING_SEG_PORTp_IN_SERVICE false 0).setB Reg.RING_SEG_PORTp_STEPPING false 0), false, by decide +kernel⟩,
   ⟨(fun s : State => { s with host := { s.host with fwRun := true } }) ((State.reset.setB Reg.PORT_Pp_LINK_LINK true 0).setB Reg.RING_SEG_PORTp_IN_SERVICE false 0), false, by decide +kernel⟩,
   ⟨((fun s : State => { s with rct := { s.rct with stepPorts := [b2n false] } }) ((fun s : State => { s with rct := { s.rct with stepLocal := some (⟨0,1,0⟩ : StepGo) } }) State.reset)).setB Reg.RING_SEG_PORTp_STEPPING false 0, ⟨0,1,0⟩, false, by decide +kernel⟩,
   ⟨((fun s : State => { s with rct := { s.rct with stepPorts := [b2n false, 1 - b2n false] } }) ((fun s : State => { s with rdp := { s.rdp with plan := none } }) ((((fun s : State => { s with rct := { s.rct with stepLocal := some (⟨0,1,0⟩ : StepGo) } }) State.reset).setB Reg.RING_SEG_PORTp_STEPPING true 0).setB Reg.PORT_Pp_LINK_LINK true 0))).set Reg.PORT_Pp_LINK_SPEED 1 0, false, ⟨0,1,0⟩, by decide +kernel⟩,
   ⟨(fun s : State => { s with rct := { s.rct with stepPorts := [b2n false, 1 - b2n false] } }) (((fun s : State => { s with rct := { s.rct with stepLocal := some (⟨0,1,0⟩ : StepGo) } }) State.reset).setB Reg.RING_SEG_PORTp_STEPPING true 0), false, ⟨0,1,0⟩, by decide +kernel⟩⟩
/-- Each clause of AvbFramesTakeEffect has a state and operands that meet its conditions. -/
theorem witness_AvbFramesTakeEffect :
    (∃ (s : State) (p : Fin 3) (f : List Byte), p.val ≠ 2) ∧
    (∃ (s : State) (f : List Byte) (o i : Nat), s.linkUp 2 = true ∧ etherType f = 0x22F0 ∧ 18 < f.length ∧ frameGood f = true ∧ o = (if beAt f 12 2 = 0x8100 then 18 else 14) ∧ bit (beAt f (o + 1) 1) 7 = true ∧ (List.range 8).find? (fun i => (s.rxCount 2 f).is Reg.PORT_AAFs_CFG_EN i && (s.rxCount 2 f).aafSid i = beAt f (o + 4) 8) = some i ∧ (s.rxCount 2 f).aafGood i f = false) ∧
    (∃ (s : State) (f : List Byte) (i : Nat), s.linkUp 2 = true ∧ etherType f = 0x22F0 ∧ 18 < f.length ∧ frameGood f = true ∧ bit (beAt f 19 1) 7 = true ∧ (List.range 8).find? (fun i => (s.rxCount 2 f).is Reg.PORT_AAFs_CFG_EN i && (s.rxCount 2 f).aafSid i = beAt f 22 8) = some i ∧ (s.rxCount 2 f).aafGood i f = true ∧ ((s.rxCount 2 f).aaf i).seen = false) ∧
    (∃ (s : State) (i : Nat), (s.is Reg.PORT_AAFs_CFG_EN i = false ∨ s.linkUp 2 = false)) ∧
    (∃ (s : State) (p : Fin 3) (f : List Byte), p.val ≠ 2) ∧
    (∃ (s : State) (f : List Byte), s.linkUp 2 = true ∧ frameGood f = true ∧ (s.rxCount 2 f).avdecc = true ∧ etherType f = 0x22F0 ∧ beAt f 14 1 = 0xFB ∧ beAt f 15 1 = 0 ∧ beAt f 18 8 = (s.rxCount 2 f).entityId ∧ beAt f 36 2 % 32768 = 2) ∧
    (∃ (s : State) (p : Fin 3) (f : List Byte), p.val ≠ 2) ∧
    (∃ (s : State) (f : List Byte), s.linkUp 2 = true ∧ frameGood f = true ∧ (s.rxCount 2 f).avdecc = true ∧ etherType f = 0x22F0 ∧ beAt f 14 1 = 0xFC ∧ beAt f 15 1 % 16 = 6 ∧ beAt f 42 8 = (s.rxCount 2 f).entityId ∧ (s.rxCount 2 f).descStream 5 (beAt f 52 2) = none) ∧
    (∃ (s : State) (f : List Byte), s.linkUp 2 = true ∧ frameGood f = true ∧ (s.rxCount 2 f).avdecc = true ∧ etherType f = 0x22F0 ∧ beAt f 14 2 % 4096 = 0xA02 ∧ beAt f 18 8 = 0) ∧
    (∃ (s : State), s.avdecc = true) ∧
    (∃ (s : State), s.avdecc = false) ∧
    (∃ (s : State) (i n : Nat), s.is Reg.PORT_AAFs_CFG_EN i = true ∧ s.linkUp 2 = true ∧ n = aafTicks (bitsOf (s.word Reg.PORT_AAFs_CFG i).toNat 29 29) ∧ n ≤ (s.aaf i).staged.length) ∧
    (∃ (s u v : State) (f : List Byte) (i : Nat) (w : Word), s.linkUp 2 = true ∧ frameGood f = true ∧ u = s.rxCount 2 f ∧ u.avdecc = true ∧ etherType f = 0x22F0 ∧ beAt f 14 1 = 0xFC ∧ beAt f 15 1 % 16 = 6 ∧ beAt f 42 8 = u.entityId ∧ u.descStream 5 (beAt f 52 2) = some i ∧ u.is Reg.PORT_BR_CFG_AVDECC_WR = true ∧ u.port.acquired = none ∧ u.port.locked = none ∧ w = u.cfgWith i (beAt f 66 2) true ∧ u.aafOk i w = true ∧ v = (aafCfgWrite i w ((u.setStream i (beAt f 18 8) (beAt f 54 6) (beAt f 66 2 % 4096)).modAaf i (fun a => { a with peer := some (beAt f 34 8) }))).1) :=
  ⟨⟨State.reset, 0, [], by decide +kernel⟩,
   ⟨(State.reset.setB Reg.PORT_Pp_LINK_LINK true 2).setB Reg.PORT_AAFs_CFG_EN true 0, withFcs (beBytes 6 1 ++ beBytes 6 9 ++ beBytes 2 0x8100 ++ beBytes 2 0 ++ beBytes 2 0x22F0 ++ beBytes 1 2 ++ beBytes 1 0x80 ++ List.replicate 44 0#8), 18, 0, by decide +kernel⟩,
   ⟨(State.reset.setB Reg.PORT_Pp_LINK_LINK true 2).setWord Reg.PORT_AAFs_CFG (BitVec.ofNat 32 (2^31 + 2^22)) 0, withFcs (beBytes 6 1 ++ beBytes 6 9 ++ beBytes 2 0x8100 ++ beBytes 2 0 ++ beBytes 2 0x22F0 ++ beBytes 1 2 ++ beBytes 1 0x80 ++ List.replicate 14 0#8 ++ beBytes 1 3 ++ beBytes 2 (0x5000 + 1) ++ beBytes 1 24 ++ beBytes 2 (aafTicks 0 * 3) ++ List.replicate 80 0#8), 0, by decide +kernel⟩,
   ⟨State.reset, 0, by decide +kernel⟩,
   ⟨State.reset, 0, [], by decide +kernel⟩,
   ⟨(State.reset.setB Reg.PORT_Pp_LINK_LINK true 2).setB Reg.PORT_BR_CFG_AVDECC true, withFcs (beBytes 6 1 ++ beBytes 6 9 ++ beBytes 2 0x22F0 ++ beBytes 1 0xFB ++ beBytes 1 0 ++ beBytes 2 0 ++ beBytes 8 (State.reset.entityId) ++ List.replicate 10 0#8 ++ beBytes 2 2), by decide +kernel⟩,
   ⟨State.reset, 0, [], by decide +kernel⟩,
   ⟨(State.reset.setB Reg.PORT_Pp_LINK_LINK true 2).setB Reg.PORT_BR_CFG_AVDECC true, withFcs (beBytes 6 1 ++ beBytes 6 9 ++ beBytes 2 0x22F0 ++ beBytes 1 0xFC ++ beBytes 1 6 ++ List.replicate 26 0#8 ++ beBytes 8 (State.reset.entityId) ++ List.replicate 10 0#8), by decide +kernel⟩,
   ⟨(State.reset.setB Reg.PORT_Pp_LINK_LINK true 2).setB Reg.PORT_BR_CFG_AVDECC true, withFcs (beBytes 6 1 ++ beBytes 6 9 ++ beBytes 2 0x22F0 ++ beBytes 2 0xFA02 ++ List.replicate 20 0#8), by decide +kernel⟩,
   ⟨(State.reset.setB Reg.PORT_BR_CFG_AVDECC true).setB Reg.PORT_Pp_LINK_LINK true 2, by decide +kernel⟩,
   ⟨State.reset, by decide +kernel⟩,
   ⟨((State.reset.setB Reg.PORT_AAFs_CFG_EN true 8).setB Reg.PORT_Pp_LINK_LINK true 2).modAaf 8 (fun a => { a with staged := List.replicate 12 (0, []) }), 8, 6, by decide +kernel⟩,
   (by refine ⟨((fun s : State => { s with img := { s.img with active := some { wImg with insts := [⟨1, 0x40, 0, 0, 0, 1, 0, 0, 1, 3, 0, 0, 0, 0, 0⟩] } } }) (((State.reset.setB Reg.PORT_Pp_LINK_LINK true 2).setB Reg.PORT_BR_CFG_AVDECC true).setB Reg.PORT_BR_CFG_AVDECC_WR true)).setWord Reg.PORT_AAFs_CFG (BitVec.ofNat 32 (2^29 + 4 * 2^22)) 0, _, _, withFcs (beBytes 6 1 ++ beBytes 6 9 ++ beBytes 2 0x22F0 ++ beBytes 1 0xFC ++ beBytes 1 6 ++ List.replicate 26 0#8 ++ beBytes 8 (State.reset.entityId) ++ List.replicate 20 0#8), 0, _, ?_, ?_, rfl, ?_, ?_, ?_, ?_, ?_, ?_, ?_, ?_, ?_, rfl, ?_, rfl⟩ <;> decide +kernel)⟩
/-- Each clause of ServiceBusEventsTakeEffect has a state and operands that meet its conditions. -/
theorem witness_ServiceBusEventsTakeEffect :
    (∃ (s : State) (f : List Byte) (o c : Bool), s.is Reg.SBUS_CFG_EN = false) ∧
    (∃ (s : State) (f : List Byte) (o c : Bool), s.is Reg.SBUS_CFG_EN = true ∧ s.domAt 46 = 0 ∧ frameGood f = false) ∧
    (∃ (s u : State) (f : List Byte) (a : Nat), s.is Reg.SBUS_CFG_EN = true ∧ s.domAt 46 = 0 ∧ frameGood f = true ∧ u = ({ s with port := { s.port with sbusAt := some s.ks.count } } : State).rxCount 3 f ∧ beAt f 0 6 = u.portMac 3 ∧ (u.get Reg.SBUS_RX_HEAD_INDEX + 64 - u.get Reg.SBUS_RX_TAIL_INDEX) % 64 ≠ 32 ∧ u.sbusSlot Reg.SBUS_RX_BASE (u.get Reg.SBUS_RX_HEAD_INDEX) = some a) ∧
    (∃ (s u : State) (f : List Byte) (a : Nat), s.is Reg.SBUS_CFG_EN = true ∧ s.domAt 46 = 0 ∧ frameGood f = true ∧ u = ({ s with port := { s.port with sbusAt := some s.ks.count } } : State).rxCount 3 f ∧ beAt f 0 6 = u.portMac 3 ∧ (u.get Reg.SBUS_RX_HEAD_INDEX + 64 - u.get Reg.SBUS_RX_TAIL_INDEX) % 64 = 32 ∧ u.sbusSlot Reg.SBUS_RX_BASE (u.get Reg.SBUS_RX_HEAD_INDEX) = some a) ∧
    (∃ (s : State) (r : Fin 4) (c : Fin 17) (d : Bool), s.get Reg.SBUS_TX_HEAD_INDEX = s.get Reg.SBUS_TX_TAIL_INDEX) ∧
    (∃ (s : State) (r : Fin 4) (c : Fin 17) (d : Bool), s.get Reg.SBUS_TX_HEAD_INDEX ≠ s.get Reg.SBUS_TX_TAIL_INDEX ∧ s.is Reg.SBUS_CFG_EN = true ∧ s.domAt 46 = 0 ∧ s.sbusSlot Reg.SBUS_TX_BASE (s.get Reg.SBUS_TX_TAIL_INDEX) = none) ∧
    (∃ (s : State) (a : Nat), s.get Reg.SBUS_TX_HEAD_INDEX ≠ s.get Reg.SBUS_TX_TAIL_INDEX ∧ s.is Reg.SBUS_CFG_EN = true ∧ s.domAt 46 = 0 ∧ s.sbusSlot Reg.SBUS_TX_BASE (s.get Reg.SBUS_TX_TAIL_INDEX) = some a ∧ s.mem.ecc = [] ∧ 60 ≤ leVal (Mem.rdN s.mem.dram a 2) ∧ leVal (Mem.rdN s.mem.dram a 2) ≤ 1518 ∧ s.canon = true) ∧
    (∃ (s : State), s.is Reg.SBUS_CFG_PLCA = true ∧ s.is Reg.SBUS_CFG_EN = true ∧ s.get Reg.SBUS_CFG_NODE_ID ≠ 0 ∧ s.port.plcaLost = false) ∧
    (∃ (s : State), s.port.plcaLost = true) ∧
    (∃ (s : State), s.is Reg.SBUS_CFG_EN = true ∧ s.domAt 46 = 0 ∧ s.is Reg.SBUS_CFG_PLCA = true) :=
  ⟨⟨State.reset.setB Reg.SBUS_CFG_EN false, [], false, false, by decide +kernel⟩,
   ⟨State.reset, [], false, false, by decide +kernel⟩,
   (by refine ⟨(((fun s : State => { s with ten := { s.ten with allocs := [⟨0, 1, 0, 64⟩] } }) State.reset).set Reg.SBUS_RX_BASE 0x40000000).set Reg.SBUS_TX_BASE 0x40000000, _, withFcs (beBytes 6 (State.reset.portMac 3) ++ beBytes 6 9 ++ beBytes 2 0x0800), 0, ?_, ?_, ?_, rfl, ?_⟩ <;> decide +kernel),
   (by refine ⟨((((fun s : State => { s with ten := { s.ten with allocs := [⟨0, 1, 0, 64⟩] } }) State.reset).set Reg.SBUS_RX_BASE 0x40000000).set Reg.SBUS_TX_BASE 0x40000000).set Reg.SBUS_RX_HEAD_INDEX 32, _, withFcs (beBytes 6 (State.reset.portMac 3) ++ beBytes 6 9 ++ beBytes 2 0x0800), 0, ?_, ?_, ?_, rfl, ?_⟩ <;> decide +kernel),
   ⟨State.reset, 0, 0, false, by decide +kernel⟩,
   ⟨State.reset.set Reg.SBUS_TX_HEAD_INDEX 1, 0, 0, false, by decide +kernel⟩,
   ⟨(((((fun s : State => { s with ten := { s.ten with allocs := [⟨0, 1, 0, 64⟩] } }) State.reset).set Reg.SBUS_RX_BASE 0x40000000).set Reg.SBUS_TX_BASE 0x40000000).set Reg.SBUS_TX_HEAD_INDEX 1).dramWrite 0 [60#8, 0#8], 0, by decide +kernel⟩,
   ⟨State.reset.set Reg.SBUS_CFG_NODE_ID 1, by decide +kernel⟩,
   ⟨(fun s : State => { s with port := { s.port with plcaLost := true } }) State.reset, by decide +kernel⟩,
   ⟨State.reset, by decide +kernel⟩⟩
/-- Each clause of RingAudioFramesTakeEffect has a state and operands that meet its conditions. -/
theorem witness_RingAudioFramesTakeEffect :
    (∃ (s : State) (b : Bool) (f : List Byte), s.linkUp (b2n b) = true ∧ isAudio f = true ∧ s.rdp.plan = none ∧ (s.ctlSeen b f).inService (b2n b) = true) ∧
    (∃ (s : State) (b : Bool) (f : List Byte) (p : Plan), s.linkUp (b2n b) = true ∧ isAudio f = true ∧ s.rdp.plan = some p ∧ (s.ctlSeen b f).carries (b2n b) = true ∧ ringVer f ≠ 1) ∧
    (∃ (s u : State) (b : Bool) (f : List Byte) (p : Plan) (k dir : Nat), s.linkUp (b2n b) = true ∧ isAudio f = true ∧ s.rdp.plan = some p ∧ u = s.ctlSeen b f ∧ u.carries (b2n b) = true ∧ ringVer f = 1 ∧ k = bitsOf (beAt f 15 1) 3 0 ∧ dir = bitsOf (beAt f 15 1) 7 7 ∧ u.rxPort dir = b2n b ∧ k < p.frames ∧ beAt f 16 1 = p.slots k ∧ fcsOk f = true ∧ beAt f 22 2 = p.id ∧ u.isHead = true) ∧
    (∃ (s : State) (w : Bool) (k : Fin 16), s.isHead = false) ∧
    (∃ (s : State) (w : Bool) (k : Fin 16) (p : Plan) (body : List Byte) (aged : Nat), s.rdp.plan = some p ∧ s.isHead = true ∧ s.rdp.launchOn = true ∧ k.val < p.frames ∧ s.rdp.since ≤ s.cycleNo ∧ lastOf s.rdp.launched (b2n w * 16 + k.val) ≠ some s.cycleNo ∧ (body, aged) = (match s.rdp.returned.find? (fun r => r.dir = b2n w && r.index = k.val) with | some r => if r.plan = p.id then ageBody p k.val s.cycleNo r.body else (emptyBody (p.slots k.val) (rateN p.rate), 0) | none => (emptyBody (p.slots k.val) (rateN p.rate), 0))) ∧
    (∃ (s : State) (w : Bool) (k : Fin 16), lastOf s.rdp.launched (b2n w * 16 + k.val) = some s.cycleNo) ∧
    (∃ (s : State) (w : Bool) (k : Fin 16), lastOf s.rdp.seen (b2n w * 16 + k.val) = some s.cycleNo) ∧
    (∃ (s : State) (k : Fin 16) (p : Plan), s.rdp.plan = some p ∧ s.isHead = false ∧ k.val < p.frames ∧ lastOf s.rdp.seen k.val = none ∧ s.rdp.gen = []) ∧
    (∃ (s u v : State) (b : Bool) (f : List Byte) (p : Plan) (k dir : Nat), s.linkUp (b2n b) = true ∧ isAudio f = true ∧ s.rdp.plan = some p ∧ u = s.ctlSeen b f ∧ u.carries (b2n b) = true ∧ ringVer f = 1 ∧ k = bitsOf (beAt f 15 1) 3 0 ∧ dir = bitsOf (beAt f 15 1) 7 7 ∧ u.rxPort dir = b2n b ∧ k < p.frames ∧ beAt f 16 1 = p.slots k ∧ fcsOk f = true ∧ beAt f 22 2 = p.id ∧ u.isHead = false ∧ u.rdp.gen.contains (dir * 16 + k, beAt f 18 4) = false ∧ v = ({ u with rdp := { u.rdp with seen := setLast u.rdp.seen (dir * 16 + k) (if beAt f 18 4 = (u.cycleNo + 1) % 2 ^ 32 then u.cycleNo + 1 else u.cycleNo), good := modNth u.rdp.good dir (fun g => if g.contains u.cycleNo then g else g ++ [u.cycleNo]) } } : State).tapFrame p dir k f) ∧
    (∃ (s u : State) (b : Bool) (f : List Byte) (p : Plan) (k dir : Nat), s.linkUp (b2n b) = true ∧ isAudio f = true ∧ s.rdp.plan = some p ∧ u = s.ctlSeen b f ∧ u.carries (b2n b) = true ∧ ringVer f = 1 ∧ k = bitsOf (beAt f 15 1) 3 0 ∧ dir = bitsOf (beAt f 15 1) 7 7 ∧ u.rxPort dir = b2n b ∧ k < p.frames ∧ beAt f 16 1 = p.slots k ∧ fcsOk f = false ∧ beAt f 22 2 = p.id ∧ u.isHead = true) ∧
    (∃ (acc : Access) (s : State), s.owns acc 0x8000C = true ∧ s.canon = true) ∧
    (∃ (acc : Access) (s : State), s.owns acc 0x8000C = true ∧ s.canon = true) ∧
    (∃ (s : State) (p : Plan), s.ks.count % s.nTicks = 0 ∧ (s.ctl = 4 ∨ s.ctl = 5) ∧ s.is Reg.KS_STATUS_LOCK = true ∧ s.rct.waiting = [p] ∧ planDue p.effective s.cycleNo = true) ∧
    (∃ (s : State), s.rdp.launchOn = true ∧ s.rct.beaconAt + 240 ≤ s.cycleNo) ∧
    (∃ (acc : Access) (s : State), s.owns acc 0x80818 = true ∧ s.canon = true ∧ s.isCoord = true ∧ s.rct.conf = none ∧ s.cfgConf.ok = true ∧ s.lacking s.cfgConf.speed s.free = []) ∧
    (∃ (acc : Access) (s : State), s.owns acc 0x80818 = true ∧ s.canon = true ∧ s.tmBarred = false ∧ s.tmGood = true) ∧
    (∃ (acc : Access) (s : State), s.owns acc 0x80818 = true ∧ s.canon = true ∧ s.isCoord = false) ∧
    (∃ (acc : Access) (s : State), s.owns acc 0x80818 = true ∧ s.canon = true ∧ s.isCoord = true ∧ s.ctlRuns = true ∧ s.rct.building = false) :=
  ⟨⟨wRing (State.reset.setB Reg.PORT_Pp_LINK_LINK true 0), false, withFcs (beBytes 6 1 ++ beBytes 6 9 ++ beBytes 2 0x88B5 ++ beBytes 1 17 ++ beBytes 1 0 ++ beBytes 1 1 ++ List.replicate 5 0#8 ++ beBytes 2 1), by decide +kernel⟩,
   ⟨wRing ((fun s : State => { s with rdp := { s.rdp with plan := some wPlan } }) (State.reset.setB Reg.PORT_Pp_LINK_LINK true 0)), false, withFcs (beBytes 6 1 ++ beBytes 6 9 ++ beBytes 2 0x88B5 ++ beBytes 1 33 ++ beBytes 1 0 ++ beBytes 1 1 ++ List.replicate 5 0#8 ++ beBytes 2 1), wPlan, by decide +kernel⟩,
   (by refine ⟨(fun s : State => { s with rct := { s.rct with pos := some 0 } }) (wRing ((fun s : State => { s with rdp := { s.rdp with plan := some wPlan } }) (State.reset.setB Reg.PORT_Pp_LINK_LINK true 0))), _, false, withFcs (beBytes 6 1 ++ beBytes 6 9 ++ beBytes 2 0x88B5 ++ beBytes 1 17 ++ beBytes 1 0 ++ beBytes 1 1 ++ List.replicate 5 0#8 ++ beBytes 2 1), wPlan, 0, 0, ?_, ?_, ?_, rfl, ?_⟩ <;> decide +kernel),
   ⟨State.reset, false, 0, by decide +kernel⟩,
   ⟨(fun s : State => { s with rct := { s.rct with pos := some 0 } }) ((fun s : State => { s with rdp := { s.rdp with launchOn := true } }) ((fun s : State => { s with rdp := { s.rdp with plan := some wPlan } }) State.reset)), false, 0, wPlan, emptyBody (wPlan.slots 0) (rateN wPlan.rate), 0, by decide +kernel⟩,
   ⟨(fun s : State => { s with rdp := { s.rdp with launched := [(0, 0)] } }) State.reset, false, 0, by decide +kernel⟩,
   ⟨(fun s : State => { s with rdp := { s.rdp with seen := [(0, 0)] } }) State.reset, false, 0, by decide +kernel⟩,
   ⟨(fun s : State => { s with rdp := { s.rdp with plan := some wPlan } }) State.reset, 0, wPlan, by decide +kernel⟩,
   (by refine ⟨(fun s : State => { s with rct := { s.rct with pos := some 1 } }) (wRing ((fun s : State => { s with rdp := { s.rdp with plan := some { wPlan with head := 9 } } }) (State.reset.setB Reg.PORT_Pp_LINK_LINK true 0))), _, _, false, withFcs (beBytes 6 1 ++ beBytes 6 9 ++ beBytes 2 0x88B5 ++ beBytes 1 17 ++ beBytes 1 0 ++ beBytes 1 1 ++ List.replicate 5 0#8 ++ beBytes 2 1), { wPlan with head := 9 }, 0, 0, ?_, ?_, ?_, rfl, ?_, ?_, ?_, ?_, ?_, ?_, ?_, ?_, ?_, ?_, ?_, rfl⟩ <;> decide +kernel),
   (by
    refine ⟨wBadSt, _, false, wBadF, wPlan, 0, 0, ?_, ?_, ?_, rfl, ?_⟩
    · decide +kernel
    · decide +kernel
    · rfl
    · rw [wBad_seen]
      obtain ⟨h1, h2, h3⟩ := wBad_met (bit (Config.lineError wBadSt.event.free) 0) (bit (Config.lineError wBadSt.event.free) 1)
      refine ⟨h1, ?_, ?_, ?_, h2, ?_, ?_, ?_, ?_, h3⟩ <;> decide +kernel),
   ⟨⟨.debug, 0⟩, State.reset, by decide +kernel⟩,
   ⟨⟨.debug, 0⟩, State.reset, by decide +kernel⟩,
   ⟨((fun s : State => { s with rct := { s.rct with waiting := [wPlan] } }) (State.reset.setB Reg.KS_STATUS_LOCK true)).set Reg.RING_CTL_STATUS_STATE 4, wPlan, by decide +kernel⟩,
   ⟨(fun s : State => { s with ks := { s.ks with count := 10000000 } }) ((fun s : State => { s with rdp := { s.rdp with launchOn := true } }) State.reset), by decide +kernel⟩,
   ⟨⟨.debug, 0⟩, (fun s : State => { s with rct := { s.rct with conf := none } }) (State.reset.set Reg.RING_CTL_STATUS_STATE 5), by decide +kernel⟩,
   ⟨⟨.debug, 0⟩, (fun s : State => { s with rct := { s.rct with gm := some s.baseMac } }) (State.reset.set Reg.RING_TM_TARGET_LO 0x777), by decide +kernel⟩,
   ⟨⟨.debug, 0⟩, State.reset, by decide +kernel⟩,
   ⟨⟨.debug, 0⟩, (fun s : State => { s with rct := { s.rct with building := false } }) ((fun s : State => { s with host := { s.host with fwRun := true } }) (State.reset.set Reg.RING_CTL_STATUS_STATE 5)), by decide +kernel⟩⟩
/-- Each clause of StepKeepsCanon has a state and operands that meet its conditions. -/
theorem witness_StepKeepsCanon :
    (∃ (s t : State), s.canon = true ∧ step s = .next t) :=
  ⟨State.reset, State.reset, by decide +kernel, rfl⟩
/-- Each clause of EveryCommandCompletesAndKeepsQueue has a state and operands that meet its conditions. -/
theorem witness_EveryCommandCompletesAndKeepsQueue :
    (∃ (s : State) (c : Instr) (rest : List Instr), s.pending = c :: rest) :=
  ⟨(fun s : State => { s with pending := [Instr.idcode] }) State.reset, Instr.idcode, [], by decide +kernel⟩
/-- Each clause of RegisterFieldsReadBack has a state and operands that meet its conditions. -/
theorem witness_RegisterFieldsReadBack :
    (∃ (s : State) (f : Fld) (v i j t : Nat), s.canon = true ∧ f.lo ≤ f.hi ∧ f.hi < 32) ∧
    (∃ (s : State) (f g : Fld) (v i j t : Nat), s.canon = true ∧ f.lo ≤ f.hi ∧ f.hi < 32 ∧ g.hi < 32 ∧ g.addr = f.addr ∧ g.s1 = f.s1 ∧ g.s2 = f.s2 ∧ g.own = f.own ∧ g.reset = f.reset ∧ (f.hi < g.lo ∨ g.hi < f.lo)) ∧
    (∃ (s : State) (f g : Fld) (v i j t i' j' t' : Nat), s.canon = true ∧ g.key i' j' t' ≠ f.key i j t) ∧
    (∃ (s : State) (f : Fld) (i j t : Nat), s.canon = true ∧ f.lo ≤ f.hi ∧ f.hi < 32) :=
  ⟨⟨State.reset, Reg.KS_STATUS_RATE, 0, 0, 0, 0, by decide +kernel⟩,
   ⟨State.reset, Reg.RING_DP_CTRL_SEND_EN, Reg.RING_DP_CTRL_CNT_CLR, 1, 0, 0, 0, by decide +kernel⟩,
   ⟨State.reset, Reg.KS_STATUS_RATE, Reg.IDENT_ID_REV, 0, 0, 0, 0, 0, 0, 0, by decide +kernel⟩,
   ⟨State.reset, Reg.KS_STATUS_RATE, 0, 0, 0, by decide +kernel⟩⟩
/-- Each clause of MemoryBytesReadBack has a state and operands that meet its conditions. -/
theorem witness_MemoryBytesReadBack :
    (∃ (m : List Host.Cell) (a i : Nat) (bs : List Byte), Mem.wf m = true ∧ i < bs.length) ∧
    (∃ (m : List Host.Cell) (a b : Nat) (bs : List Byte), Mem.wf m = true ∧ (b < a ∨ a + bs.length ≤ b)) ∧
    (∃ (m : List Host.Cell) (a b n : Nat), Mem.wf m = true) ∧
    (∃ (m : List Host.Cell) (a n : Nat) (bs : List Byte), Mem.wf m = true) ∧
    (∃ (s : State) (a : Nat) (v : List Byte), s.canon = true) :=
  ⟨⟨[], 0, 0, [1#8], by decide +kernel⟩,
   ⟨[], 0, 0, [], by decide +kernel⟩,
   ⟨[], 0, 0, 0, by decide +kernel⟩,
   ⟨[], 0, 0, [], by decide +kernel⟩,
   ⟨State.reset, 0, [], by decide +kernel⟩⟩
/-- Each clause of SafeStateHoldsNamedChannels has a state and operands that meet its conditions. -/
theorem witness_SafeStateHoldsNamedChannels :
    (∃ (s : State) (mask cause : Nat) (n : Fin 8), s.canon = true ∧ cause < 16 ∧ bit mask n.val = true ∧ s.ch n.val ≠ 0 ∧ ((bit (s.get Reg.PWR_STATUS_SAFE) n.val = false ∨ 2 ≤ s.ch n.val))) ∧
    (∃ (s : State) (mask cause : Nat) (n : Fin 8), s.canon = true ∧ (bit mask n.val = false ∨ s.ch n.val = 0)) :=
  ⟨⟨State.reset.set Reg.PWR_CHn_STATE_STATE 1 0, 1, 0, 0, by decide +kernel⟩,
   ⟨State.reset, 0, 0, 0, by decide +kernel⟩⟩
/-- Each clause of FaultRaiseCountsAndHolds has a state and operands that meet its conditions. -/
theorem witness_FaultRaiseCountsAndHolds :
    (∃ (s : State) (n u d : Nat), s.canon = true ∧ n < 256 ∧ (sourceRow n).isSome = true ∧ s.flt.counted.contains n = false) ∧
    (∃ (s : State) (n u d m : Nat), s.canon = true ∧ n < 256 ∧ m < 256 ∧ (m ≠ n ∨ s.flt.counted.contains n = true)) ∧
    (∃ (s : State) (n u d : Nat), s.canon = true ∧ (sourceRow n).isSome = true ∧ s.srcClass n < 4) ∧
    (∃ (s : State) (n u d : Nat), s.canon = true ∧ s.srcClass n < 2) ∧
    (∃ (s : State) (n u d : Nat), (sourceRow n).isSome = true ∧ 2 ≤ s.srcClass n) ∧
    (∃ (s : State) (n u d : Nat), sourceRow n = none) :=
  ⟨⟨State.reset, 0, 0, 0, by decide +kernel⟩,
   ⟨State.reset, 1, 0, 0, 0, by decide +kernel⟩,
   ⟨State.reset, 0, 0, 0, by decide +kernel⟩,
   ⟨State.reset, 0x20, 0, 0, by decide +kernel⟩,
   ⟨State.reset, 0, 0, 0, by decide +kernel⟩,
   ⟨State.reset, 0xFF, 0, 0, by decide +kernel⟩⟩
/-- Each clause of ProtectionGainStaysBounded has a state and operands that meet its conditions. -/
theorem witness_ProtectionGainStaysBounded :
    (∃ (tl : Rat) (c : BstCh), -40 ≤ c.g ∧ c.g ≤ 0 ∧ -34 ≤ c.overdrive ∧ c.overdrive ≤ 0) ∧
    (∃ (tl : Rat) (c : BstCh), c.tc ≤ tl - 10 ∧ -40 ≤ c.g ∧ c.g ≤ 0 ∧ c.overdrive = 0) ∧
    (∃ (tl : Rat) (c : BstCh), tl < c.tc ∧ -34 ≤ c.overdrive - 1 / 100 ∧ -40 ≤ c.g ∧ c.g ≤ 0) :=
  ⟨⟨0, BstCh.reset, by decide +kernel⟩,
   ⟨100, BstCh.reset, by decide +kernel⟩,
   ⟨0, BstCh.reset, by decide +kernel⟩⟩
/-- Each clause of UnmappedOrCutOffAccessErrs has a state and operands that meet its conditions. -/
theorem witness_UnmappedOrCutOffAccessErrs :
    (∃ (p : Path) (t a n v : Nat) (wr : Bool) (s : State), ((0x150000 ≤ a ∧ a < 0x10000000) ∨ (0x10800000 ≤ a ∧ a < 0x40000000) ∨ 0x100000000 ≤ a)) ∧
    (∃ (acc : Access) (a v : Word) (s : State), s.pathOpen acc.path = true ∧ s.host.stalled = [] ∧ ((0x150000 ≤ a.toNat ∧ a.toNat < 0x10000000) ∨ (0x10800000 ≤ a.toNat ∧ a.toNat < 0x40000000))) ∧
    (∃ (p : Path) (t a n v : Nat) (wr : Bool) (s : State), 0xF0000 ≤ a ∧ a < 0x100000 ∧ widthOk a n = true ∧ s.linkOk = false ∧ s.tenPresent t = true ∧ (s.accDomains t wr a).all (fun d => s.domReady a d) = true ∧ ((∀ r i j, regFind (a / 4 * 4) = some (r, i, j) → (wr = false ∨ s.mayWriteReg r i t p = true)))) :=
  ⟨⟨Path.debug, 0, 0x150000, 0, 0, false, State.reset, by decide +kernel⟩,
   ⟨⟨.debug, 0⟩, 0x150000#32, (0#32), State.reset, by decide +kernel⟩,
   (by refine ⟨.debug, 0, 0xF0000, 4, 0, false, State.reset, ?_, ?_, ?_, ?_, ?_, ?_, fun _ _ _ _ => Or.inl rfl⟩ <;> decide +kernel)⟩
/-- Each clause of AccessWithoutRightIsRefused has a state and operands that meet its conditions. -/
theorem witness_AccessWithoutRightIsRefused :
    (∃ (p : Path) (t a n v : Nat) (s : State) (r : RegRow) (i j : Nat), regFind (a / 4 * 4) = some (r, i, j) ∧ widthOk a n = true ∧ ((a < 0x40000 ∨ (0x70000 ≤ a ∧ a < 0x150000))) ∧ s.tenPresent t = true) ∧
    (∃ (p : Path) (t a n v : Nat) (s : State) (r : RegRow) (i j : Nat), regFind (a / 4 * 4) = some (r, i, j) ∧ widthOk a n = true ∧ ((a < 0x40000 ∨ (0x70000 ≤ a ∧ a < 0x150000))) ∧ s.tenPresent t = true ∧ (s.accDomains t true a).all (fun d => s.domReady a d) = true ∧ s.mayWriteReg r i t p = false) ∧
    (∃ (p : Path) (t a n v : Nat) (s : State) (r : RegRow) (i j : Nat), regFind (a / 4 * 4) = some (r, i, j) ∧ widthOk a n = true ∧ ((a < 0x40000 ∨ (0x70000 ≤ a ∧ a < 0x150000))) ∧ s.tenPresent t = true ∧ (s.accDomains t false a).all (fun d => s.domReady a d) = true ∧ mayRead r t = false) ∧
    (∃ (acc : Access) (a v : Word) (s : State) (r : RegRow) (i j : Nat), regFind a.toNat = some (r, i, j) ∧ a.toNat % 4 = 0 ∧ ((a.toNat < 0x40000 ∨ (0x70000 ≤ a.toNat ∧ a.toNat < 0x150000))) ∧ s.opens acc a.toNat = true ∧ s.mayWriteReg r i (accTen acc) acc.path = false) :=
  ⟨⟨Path.debug, 0, 0x20004, 4, 0, State.reset, wRow, 0, 0, by decide +kernel⟩,
   ⟨.ring false, 1, 0x20004, 4, 0, (fun s : State => { s with img := { s.img with active := some { wImg with tens := [⟨1, 0, 0, 0, 0, 0, 0⟩, ⟨1, 0, 0, 0, 0, 0, 0⟩] } } }) State.reset, wRow, 0, 0, by decide +kernel⟩,
   ⟨.ring false, 1, 0x140000, 4, 0, (fun s : State => { s with img := { s.img with active := some { wImg with tens := [⟨1, 0, 0, 0, 0, 0, 0⟩, ⟨1, 0, 0, 0, 0, 0, 0⟩] } } }) State.reset, wRowOf 0x140000, 0, 0, by decide +kernel⟩,
   ⟨⟨.ring false, 1⟩, 0x20004#32, (0#32), (fun s : State => { s with host := { s.host with fwRun := true } }) ((fun s : State => { s with img := { s.img with active := some { wImg with tens := [⟨1, 0, 0, 0, 0, 0, 0⟩, ⟨1, 0, 0, 0, 0, 0, 0⟩] } } }) State.reset), wRow, 0, 0, by decide +kernel⟩⟩
/-- Each clause of RegisterWriteActsByFieldTypes has a state and operands that meet its conditions. -/
theorem witness_RegisterWriteActsByFieldTypes :
    (∃ (acc : Access) (a v : Word) (s u : State) (st : Nat) (r : RegRow) (i j : Nat), s.opens acc a.toNat = true ∧ regFind a.toNat = some (r, i, j) ∧ a.toNat % 4 = 0 ∧ a.toNat / 65536 ≠ 15 ∧ ((a.toNat < 0x40000 ∨ (0x70000 ≤ a.toNat ∧ a.toNat < 0x150000))) ∧ s.mayWriteReg r i (accTen acc) acc.path = true ∧ regWrite r i j (accTen acc) acc.path v.toNat (2 ^ 32 - 1) s = (u, st) ∧ u.host.stalled = []) ∧
    (∃ (acc : Access) (a v : Word) (s : State), s.opens acc a.toNat = true ∧ regFind a.toNat = none ∧ a.toNat % 4 = 0 ∧ a.toNat / 65536 ≠ 15 ∧ ((a.toNat < 0x40000 ∨ (0x70000 ≤ a.toNat ∧ a.toNat < 0x150000)))) ∧
    (∃ (acc : Access) (a v : Word) (s : State), s.opens acc a.toNat = true ∧ a.toNat % 4 ≠ 0 ∧ ((a.toNat < 0x40000 ∨ (0x80000 ≤ a.toNat ∧ a.toNat < 0x150000)))) ∧
    (∃ (s : State) (r : RegRow) (i j t v : Nat) (p : Path), s.canon = true ∧ v < 2 ^ 32 ∧ r.mask .rw = 0 ∧ r.addr ≠ 0x140000 ∧ r.addr ≠ 0x110400 ∧ waActs r i t p v = []) ∧
    (∃ (s : State) (r : RegRow) (i j t v hi lo : Nat) (p : Path), s.canon = true ∧ v < 2 ^ 32 ∧ r.mask .w1c = 0 ∧ r.addr ≠ 0x140000 ∧ r.addr ≠ 0x110400 ∧ waActs r i t p v = [] ∧ (∀ w, regRw r i j t w s = (s.setWord r.fld w i j t, stOk)) ∧ hi < 32) :=
  ⟨(by refine ⟨⟨.debug, 0⟩, 0x8000C#32, 3#32, State.reset, _, 0, wRowOf 0x8000C, 0, 0, ?_, ?_, ?_, ?_, ?_, ?_, rfl, ?_⟩ <;> decide +kernel),
   ⟨⟨.debug, 0⟩, 0xFFFC#32, (0#32), State.reset, by decide +kernel⟩,
   ⟨⟨.debug, 0⟩, 1#32, (0#32), State.reset, by decide +kernel⟩,
   ⟨State.reset.setWord Reg.KS_INT_STATUS 3#32, wRowOf 0x10034, 0, 0, 0, 2, Path.debug, by decide +kernel⟩,
   (by refine ⟨State.reset, wRowOf 0x10038, 0, 0, 0, 6, 0, 0, .debug, ?_, ?_, ?_, ?_, ?_, ?_, fun _ => rfl, ?_⟩ <;> decide +kernel)⟩
/-- Each clause of SemaphoreReleasedByOwnerOnly has a state and operands that meet its conditions. -/
theorem witness_SemaphoreReleasedByOwnerOnly :
    (∃ (acc : Access) (n : Fin 64) (s : State), s.opens acc (0x110C08 + 0x10 * n.val) = true) ∧
    (∃ (acc : Access) (n : Fin 64) (s : State), s.opens acc (0x110C08 + 0x10 * n.val) = true ∧ (s.sem n.val).owner = semCode acc.path (accTen acc)) ∧
    (∃ (acc : Access) (n : Fin 64) (s : State), s.opens acc (0x110C08 + 0x10 * n.val) = true ∧ (s.sem n.val).owner ≠ semCode acc.path (accTen acc)) :=
  ⟨⟨⟨.debug, 0⟩, 0, State.reset, by decide +kernel⟩,
   ⟨⟨.debug, 0⟩, 0, State.reset.setSem 0 ⟨16, false⟩, by decide +kernel⟩,
   ⟨⟨.debug, 0⟩, 0, State.reset, by decide +kernel⟩⟩

end Sys2Proof.Tests
end

/-! PROOFS. Accesses that the address map answers itself: the register behind an address at any width it takes, the refusal
of a tenancy without the right (R9), and a host's write that changes nothing but its answer. -/
namespace Sys2Proof.Machine
open Sys2Proof

/-! ## The way of an access to a register -/

/-- A present tenancy's access at an accepted width, with its domains at L0, reaches the register behind the address. -/
theorem access_eq_regAccess {p : Path} {t : Nat} {wr : Bool} {a n v : Nat} {s : State} (hreg : inRegs a = true)
    (hwidth : widthOk a n = true) (hten : s.tenPresent t = true)
    (hdom : (s.accDomains t wr a).all (fun d => s.domReady a d) = true) : access p t wr a n v s = regAccess p t wr a n v s := by
  obtain ⟨hmapped, hstones, hdram, hmix⟩ : mapped a = true ∧ inStones a = false ∧ inDram a = false ∧
      (inMix a && decide (a < 0x70000)) = false := by
    simp only [inRegs, mapped, inBlocks, inMix, inStones, inDram, Bool.or_eq_true, Bool.and_eq_true, Bool.and_eq_false_iff,
      decide_eq_true_eq, decide_eq_false_iff_not] at *
    omega
  have hready := find_none_of_all (fun d => s.domReady a d) _ hdom
  simp [access, hready, hmapped, hwidth, hten, hstones, hdram, hmix]

/-! ## The refusal of R9 -/

theorem regAccess_write_refused {p : Path} {t a n v : Nat} {s : State} {r : RegRow} {i j : Nat}
    (hrow : regFind (a / 4 * 4) = some (r, i, j)) (hright : s.mayWriteReg r i t p = false) :
    regAccess p t true a n v s = (s, .done stPerm 0#32) := by
  simp [regAccess, hrow, hright]

theorem regAccess_read_refused {p : Path} {t a n v : Nat} {s : State} {r : RegRow} {i j : Nat}
    (hrow : regFind (a / 4 * 4) = some (r, i, j)) (hright : mayRead r t = false) :
    regAccess p t false a n v s = (s, .done stPerm 0#32) := by
  simp [regAccess, hrow, hright]

/-! ## A host's write that changes nothing -/

theorem resume_of_quiet {s : State} (hquiet : s.host.stalled = []) : resume s = s := by
  simp [resume, resumeN, hquiet]

/-- A request of one access of a host's own ends with the access, whose status and data are the answer. -/
theorem runReq_single_done {q : Request} {w v : Word} {st : Nat} {s u : State} (hkind : q.kind = .single)
    (hacc : access q.path q.ten q.write q.addr q.width (leVal (q.data.take q.width)) s = (u, .done st v)) :
    runReq 1 w q s = u.answered st v := by
  by_cases hst : st = stOk
  · simp [runReq, hacc, hst, finish, Request.next, hkind, State.answered]
  · simp [runReq, hacc, hst, finish, hkind, State.answered]

/-- A host's single write whose access leaves the state alone and reads 0 changes only the answer. -/
theorem hostWrite_of_access_unchanged {x : Access} {a v st : Nat} {s : State} (hopen : s.pathOpen x.path = true)
    (hquiet : s.host.stalled = []) (hacc : ∀ w, access x.path (accTen x) true a 4 w s = (s, .done st 0#32)) :
    hostWrite x a v s = s.answered st := by
  have hresume : resume (s.answered st) = s.answered st := resume_of_quiet hquiet
  rw [hostWrite, single, hopen, runReq_single_done rfl (hacc _)]
  exact hresume

theorem pathOpen_answered (s : State) (st : Nat) (p : Path) : (s.answered st).pathOpen p = s.pathOpen p := by
  cases p <;> rfl

/-- An answer alone opens no path, so no request that waits for the service cores is taken. -/
theorem served_answered (s : State) (st : Nat) : served s (s.answered st) = s.answered st := by
  simp [served, pathOpen_answered]

theorem exec_regWrite_of_access_unchanged {x : Access} {a v : Word} {st : Nat} {s : State} (hopen : s.pathOpen x.path = true)
    (hquiet : s.host.stalled = []) (hacc : ∀ w, access x.path (accTen x) true a.toNat 4 w s = (s, .done st 0#32)) :
    exec (.regWrite x a v) s = .next (s.answered st) := by
  simp only [exec, execRegWrite, hostWrite_of_access_unchanged hopen hquiet hacc, served_answered]

/-- Settles O8: the access reaches the register, whose rights are judged before anything else is done; a host's own write
then leaves only its answer. -/
theorem accessWithoutRightIsRefused : Obligations.AccessWithoutRightIsRefused := by
  refine ⟨fun p t a n v s r i j hrow hwidth hrange hten => ?_, fun acc a v s r i j hrow halign hrange hopens hright => ?_⟩
  · have hreg : inRegs a = true := by simpa [inRegs] using hrange
    constructor
    · intro hdom hright
      rw [access_eq_regAccess hreg hwidth hten hdom, regAccess_write_refused hrow hright]
    · intro hdom hright
      rw [access_eq_regAccess hreg hwidth hten hdom, regAccess_read_refused hrow hright]
  · have hreg : inRegs a.toNat = true := by simpa [inRegs] using hrange
    obtain ⟨hopen, hten, hdom, hquiet⟩ := opens_parts hopens
    have hword : a.toNat / 4 * 4 = a.toNat := by omega
    refine exec_regWrite_of_access_unchanged hopen hquiet fun w => ?_
    rw [access_regs _ _ _ _ _ _ hten hdom hreg halign, regAccess_write_refused (hword ▸ hrow) hright]

end Sys2Proof.Machine

/-! PROOFS. Accesses that end in the access-error status with no effect: those outside the address map (R23), and those to
the PWR block while the barrier link is down (R18). -/
namespace Sys2Proof.Machine
open Sys2Proof

/-! ## Addresses outside the map -/

theorem mapped_eq_false_iff {a : Nat} : mapped a = false ↔
    (0x150000 ≤ a ∧ a < 0x10000000) ∨ (0x10800000 ≤ a ∧ a < 0x40000000) ∨ 0x100000000 ≤ a := by
  simp only [mapped, inBlocks, inMix, inStones, inDram, Bool.or_eq_false_iff, Bool.and_eq_false_iff, decide_eq_false_iff_not]
  omega

theorem access_of_not_mapped {a : Nat} (hmap : mapped a = false) (p : Path) (t : Nat) (wr : Bool) (n v : Nat) (s : State) :
    access p t wr a n v s = (s, .done stAccess 0#32) := by
  simp [access, hmap]

/-! ## The PWR block while the barrier link is down -/

theorem regFind_mem_blockRegs {a i j : Nat} {r : RegRow} (hrow : regFind a = some (r, i, j)) : r ∈ blockRegs (a / 65536) := by
  obtain ⟨r', hmem, hat⟩ := List.exists_of_findSome?_eq_some hrow
  obtain ⟨ij, -, heq⟩ := Option.map_eq_some_iff.mp hat
  cases heq
  exact hmem

theorem regRowsPwr_block : ∀ r ∈ regRowsPwr, r.addr / 65536 = 15 := by decide

/-- Only registers of the TEN, FLT and DBG blocks, 17, 18 and 20, keep a tenancy from reading them. -/
theorem mayRead_of_pwr_block {r : RegRow} (hblock : r.addr / 65536 = 15) (t : Nat) : mayRead r t = true := by
  have hcap : r.addr ≠ 0x110400 := by omega
  simp [mayRead, hblock, hcap]

theorem pwrSend_of_link_down {s : State} (hlink : s.linkOk = false) (wr : Bool) (a : Nat) (v : Word) :
    pwrSend wr a v s = (s, .done stAccess 0#32) := by
  simp [pwrSend, hlink]

/-- With the link down, an access to the PWR block that the writers of its register do not refuse ends at the barrier: every
tenancy may read there, and an offset with no register crosses the barrier too. -/
theorem regAccess_pwr_of_link_down {p : Path} {t a n v : Nat} {wr : Bool} {s : State} (hpwr : a / 65536 = 15)
    (hlink : s.linkOk = false)
    (hright : ∀ r i j, regFind (a / 4 * 4) = some (r, i, j) → (wr = false ∨ s.mayWriteReg r i t p = true)) :
    regAccess p t wr a n v s = (s, .done stAccess 0#32) := by
  cases hrow : regFind (a / 4 * 4) with
  | none => simp [regAccess, hrow, hpwr, pwrSend_of_link_down hlink]
  | some found =>
    obtain ⟨r, i, j⟩ := found
    cases wr with
    | true =>
      have hwrite : s.mayWriteReg r i t p = true := (hright r i j hrow).resolve_left (by decide)
      simp [regAccess, hrow, hwrite, hpwr, pwrSend_of_link_down hlink]
    | false =>
      have hword : a / 4 * 4 / 65536 = 15 := by omega
      have hmem : r ∈ regRowsPwr := by simpa only [hword, blockRegs] using regFind_mem_blockRegs hrow
      have hread : mayRead r t = true := mayRead_of_pwr_block (regRowsPwr_block r hmem) t
      simp [regAccess, hrow, hread, hpwr, pwrSend_of_link_down hlink]

/-- Settles O9: the map is judged before the domains, the width and the tenancy, and a request to the PWR block meets the link
only after its register's rights, which no read lacks there; a host's own write then leaves only its answer. -/
theorem unmappedOrCutOffAccessErrs : Obligations.UnmappedOrCutOffAccessErrs := by
  refine ⟨fun p t a n v wr s hout => ?_, fun acc a v s hopen hquiet hout => ?_,
    fun p t a n v wr s hlow hhigh hwidth hlink hten hdom hright => ?_⟩
  · exact access_of_not_mapped (mapped_eq_false_iff.mpr hout) p t wr n v s
  · have hmap : mapped a.toNat = false := mapped_eq_false_iff.mpr (by omega)
    exact exec_regWrite_of_access_unchanged hopen hquiet fun w => access_of_not_mapped hmap _ _ _ _ w s
  · have hreg : inRegs a = true := by
      simp only [inRegs, Bool.or_eq_true, Bool.and_eq_true, decide_eq_true_eq]
      omega
    rw [access_eq_regAccess hreg hwidth hten hdom, regAccess_pwr_of_link_down (by omega) hlink hright]

end Sys2Proof.Machine

/-! PROOFS. A semaphore's release: what the register of the release lets through, and what its one action does (R519). -/
namespace Sys2Proof.Machine
open Sys2Proof Sys2Proof.Machine.Laws

/-! ## The release register -/

/-- Only the owner of semaphore `i` may write its release register (R519). -/
theorem mayWriteReg_TEN_SEMn_REL (s : State) (i t : Nat) (p : Path) :
    s.mayWriteReg row_TEN_SEMn_REL i t p = decide ((s.sem i).owner = semCode p t) := rfl

theorem waActs_TEN_SEMn_REL_one (i t : Nat) (p : Path) :
    waActs row_TEN_SEMn_REL i t p 1 = [actSemRel i (semCode p t)] := rfl

theorem actSemRel_owner {n code : Nat} {s : State} (howner : (s.sem n).owner = code) :
    actSemRel n code s = (s.setSem n ⟨0, false⟩, stOk) := if_pos howner

/-- A 1 written by the owner runs the release alone: the register has no other field. -/
theorem regWrite_TEN_SEMn_REL_one {i t : Nat} {p : Path} {s : State} (howner : (s.sem i).owner = semCode p t) :
    regWrite row_TEN_SEMn_REL i 0 t p 1 (2 ^ 32 - 1) s = (s.setSem i ⟨0, false⟩, stOk) := by
  have hacts : waActs row_TEN_SEMn_REL i t p (1 &&& (2 ^ 32 - 1)) = [actSemRel i (semCode p t)] :=
    waActs_TEN_SEMn_REL_one i t p
  rw [regWrite_acts (by decide) (by decide) (by decide) (by decide), hacts]
  simp [runActs, actSemRel_owner howner]

/-! ## A host's release -/

theorem hostWrite_semRel_owner {x : Access} {n : Fin 64} {s : State} (hopens : s.opens x (0x110C08 + 0x10 * n.val) = true)
    (howner : (s.sem n.val).owner = semCode x.path (accTen x)) :
    hostWrite x (0x110C08 + 0x10 * n.val) 1 s = (s.setSem n.val ⟨0, false⟩).answered stOk := by
  have hright : s.mayWriteReg row_TEN_SEMn_REL n.val (accTen x) x.path = true := by
    simp [mayWriteReg_TEN_SEMn_REL, howner]
  have hquiet : (s.setSem n.val ⟨0, false⟩).host.stalled = [] := by simp [opens_quiet hopens]
  exact hostWrite_row (f := Reg.TEN_SEMn_REL) (i := n.val) (v := 1) hopens (find_TEN_SEMn_REL n) (addr_TEN_SEMn_REL n) (by decide)
    hright (regWrite_TEN_SEMn_REL_one howner) hquiet

theorem hostWrite_semRel_other {x : Access} {n : Fin 64} {v : Nat} {s : State}
    (hopens : s.opens x (0x110C08 + 0x10 * n.val) = true) (hother : (s.sem n.val).owner ≠ semCode x.path (accTen x)) :
    hostWrite x (0x110C08 + 0x10 * n.val) v s = s.answered stPerm := by
  obtain ⟨hopen, hten, hdom, hquiet⟩ := opens_parts hopens
  obtain ⟨halign, hreg, -⟩ := addr_TEN_SEMn_REL n
  have hword : (0x110C08 + 0x10 * n.val) / 4 * 4 = 0x110C08 + 0x10 * n.val := by omega
  have hright : s.mayWriteReg row_TEN_SEMn_REL n.val (accTen x) x.path = false := by
    simp [mayWriteReg_TEN_SEMn_REL, hother]
  refine hostWrite_of_access_unchanged hopen hquiet fun w => ?_
  rw [access_regs _ _ _ _ _ _ hten hdom hreg halign, regAccess_write_refused (hword.symm ▸ find_TEN_SEMn_REL n) hright]

/-- Settles O14: the register's rights name the owner alone, so another owner's write ends before its action, and the owner's
runs it. -/
theorem semaphoreReleasedByOwnerOnly : Obligations.SemaphoreReleasedByOwnerOnly :=
  fun _ _ _ hopens =>
    ⟨fun howner => congrArg _ (hostWrite_semRel_owner hopens howner),
      fun hother => congrArg _ (hostWrite_semRel_other hopens hother)⟩

end Sys2Proof.Machine

/-! PROOFS. Every command completes, keeps the queue, and keeps the data in canonical form: one arm for each command, from the
lemma about the operation that is its meaning. -/
namespace Sys2Proof.Machine
open Sys2Proof

/-- A command's outcome is a next state that keeps the queue, and the canonical form of the data. -/
def Completes (s : State) (o : Host.Outcome State Fault Refusal) : Prop := ∃ t, o = .next t ∧ Keeps s t

theorem completes_next {s t : State} (hkeeps : Keeps s t) : Completes s (.next t) := ⟨t, rfl, hkeeps⟩

/-- Every row's meaning is one operation (or a choice between two), which keeps the queue and the canonical form. -/
theorem exec_completes (c : Instr) (s : State) : Completes s (exec c s) := by
  have hs : Keeps s s := keeps_refl s
  cases c with
  | regWrite => exact completes_next (keeps_served _ (keeps_hostWrite _ _ _ hs))
  | vl5PowerOn => exact completes_next (keeps_vl5On _ hs)
  | rstN => exact completes_next (keeps_rstN hs)
  | vdrvRelease => exact completes_next (keeps_vdrvRelease hs)
  | vdrvRemoved => exact completes_next (keeps_vdrvRemoved hs)
  | vbusRemoved => exact completes_next (keeps_vbusRemoved hs)
  | vbusStart => exact completes_next (keeps_vbusStart hs)
  | vbusAbs => exact completes_next (keeps_vbusAbs hs)
  | vdrvLow => exact completes_next (keeps_vdrvLow hs)
  | dieHot => exact completes_next (keeps_dieHot _ hs)
  | vl5Low => exact completes_next (keeps_ite hs (keeps_lowHotOn _ hs))
  | vl5Recover => exact completes_next (keeps_mk (keeps_State_endActive _ _ hs))
  | logicHot => exact completes_next (keeps_ite hs (keeps_lowHotOn _ hs))
  | logicCool => exact completes_next (keeps_mk (keeps_State_endActive _ _ hs))
  | isoBarrier => exact completes_next (keeps_isoBarrier hs)
  | dnFrame => exact completes_next (keeps_dnFrame _ hs)
  | dnLinkLost => exact completes_next (keeps_dnLinkLost hs)
  | logicCollapse => exact completes_next (keeps_logicCollapse hs)
  | upFrame => exact completes_next (keeps_resume (keeps_upFrame _ _ _ hs fun _ _ => keeps_deliver _))
  | upLinkLost => exact completes_next (keeps_upLinkLost hs)
  | safeReqAssert => exact completes_next (keeps_safeReqAssert hs)
  | safeStateOff => exact completes_next (keeps_safeOff _ hs)
  | safeStateSlow => exact completes_next (keeps_safeSlow _ hs)
  | linkResync => exact completes_next (keeps_resume (keeps_linkResync hs))
  | keystoneTick => exact completes_next (keeps_keystoneTick _ hs)
  | stoneWake => exact completes_next (keeps_stoneWake _ hs)
  | streamLineArrive => exact completes_next (keeps_lineArrive _ _ _ hs fun _ _ _ => keeps_applyReg _ _)
  | streamWritebackDone => exact completes_next (keeps_writebackDone _ _ hs fun _ _ _ => keeps_applyReg _ _)
  | commitPoint => exact completes_next (keeps_commitPoint _ hs fun _ _ _ => keeps_applyReg _ _)
  | ksAlarmArm | ksAlarmDisarm | ksCapture | ksOvrClr | slotOpen | slotClose | slotVerify | imgLoad | imgArm | imgDisarm
  | imgDiscard | imgDeactivate | imgAccept | sigLock | engCntClr | engPeakClr | swapArm | swapDisarm | swapRevert |
  latchArm | latchDisarm | holdClr | pfirLoad | recFreeze | recRun | msgOpen | msgClose | msgVerify | msgDelete |
  dpAgeClr | dpCntClr | ringCommit | ringTmReq | ringLeave | ringReroll | ringSleep | ringWake | portModeWrite |
  aafStreamEnable | snapSend | snapLocal | chArm | chRelease | chMute | chDisarm | swApply | diagStart | diagAbort |
  adcSync | outStart | outStop | sapEnable | dmaEnable | auxFlush | auxSync | auxModeReq | auxEnable | auxDisable |
  tenAlloc | tenFree | tenHold | tenRelease | tenEvict | coreHalt | semBreak | dbgLock | fltClassWrite | fltClearHalt |
  fltClearLoad | fltClearRestart | fltCntClr | injArm | domainTargetWrite | domSleep | domWake =>
    exact completes_next (keeps_hostSet _ _ _ _ hs)
  | ksAlarmFire => exact completes_next (keeps_alarmFire _ hs)
  | gptpSync => exact completes_next (keeps_gptpSync _ _ _ hs)
  | gptpPdelay => exact completes_next (keeps_gptpPdelay _ _ hs)
  | syncTimeout => exact completes_next (keeps_syncTimeout hs)
  | slotEraseDone => exact completes_next (keeps_slotErased _ hs)
  | slotData | msgData | sbusTxHead | sbusRxTail | protSelectWrite | capRdWrite | pbWrWrite | auxQueueWrite |
  phaseStepWrite | dramWinWrite | capWrite | semRel =>
    exact completes_next (keeps_hostWrite _ _ _ hs)
  | slotVerifyDone => exact completes_next (keeps_slotVerified _ _ hs)
  | imgLoadDone => exact completes_next (keeps_imgLoadDone _ hs)
  | deactivateDone => exact completes_next (keeps_ite hs (keeps_deactivateDone hs))
  | rebuildStart => exact completes_next (keeps_rebuildStart hs)
  | activation => exact completes_next (keeps_activation hs)
  | stoneScrub => exact completes_next (keeps_stoneScrub _ _ _ hs)
  | memoryScrub => exact completes_next (keeps_memoryScrub _ _ _ hs)
  | paramWrite => exact completes_next (keeps_single _ _ _ _ _ hs)
  | swapStage => exact completes_next (keeps_swapStage _ hs)
  | swapFire => exact completes_next (keeps_swapFire _ hs)
  | meterLatch => exact completes_next (keeps_latchFire _ hs)
  | pfirLoadDone => exact completes_next (keeps_pfirDone hs)
  | srcAbsent | srcSettled | srcRampEnd => exact completes_next (keeps_State_modSrc _ _ hs)
  | recFrozen => exact completes_next (keeps_recFrozen hs)
  | msgOpDone => exact completes_next (keeps_msgDone hs)
  | ovrInputAccept => exact completes_next (keeps_ovrInput _ _ hs)
  | ovrDiscExpire => exact completes_next (keeps_ovrWake (keeps_ovrDiscExpire hs))
  | ovrStatUpdate => exact completes_next (keeps_ovrStat hs)
  | audioFrame => exact completes_next (keeps_audioFrame _ _ hs)
  | headLaunch => exact completes_next (keeps_headLaunch _ _ hs)
  | frameGenerate => exact completes_next (keeps_frameGenerate _ _ hs)
  | beaconRx => exact completes_next (keeps_beaconRx _ _ hs)
  | claimRx => exact completes_next (keeps_claimRx _ _ hs)
  | rollRx => exact completes_next (keeps_rollRx _ _ hs)
  | reportRx => exact completes_next (keeps_reportRx _ _ hs)
  | planRx => exact completes_next (keeps_planRx _ _ hs)
  | planEffective => exact completes_next (keeps_planCheck hs)
  | segmentRx => exact completes_next (keeps_segmentRx _ _ hs)
  | probeRx => exact completes_next (keeps_probeRx _ _ hs)
  | timingReqRx => exact completes_next (keeps_timingRx _ _ _ _ hs fun _ => keeps_timingReqAct _)
  | timingAckRx => exact completes_next (keeps_timingRx _ _ _ _ hs fun _ => keeps_timingAckAct _)
  | timingAssertRx => exact completes_next (keeps_timingRx _ _ _ _ hs fun _ => keeps_timingAssertAct _)
  | timingSwitch => exact completes_next (keeps_timingSwitch hs)
  | timingLapse => exact completes_next (keeps_timingLapse hs)
  | stepReqRx => exact completes_next (keeps_stepRx _ _ _ _ hs fun _ => keeps_stepReqAct _)
  | stepGoRx => exact completes_next (keeps_stepRx _ _ _ _ hs fun _ => keeps_stepGoAct _)
  | stepDoneRx => exact completes_next (keeps_stepRx _ _ _ _ hs fun _ => keeps_stepOver _ _)
  | stepDenyRx => exact completes_next (keeps_stepRx _ _ _ _ hs fun _ => keeps_stepDenyAct _)
  | stepFailRx => exact completes_next (keeps_stepRx _ _ _ _ hs fun _ => keeps_stepFailAct _)
  | stepRetrain => exact completes_next (keeps_stepRetrain hs)
  | stepLinkUp => exact completes_next (keeps_stepLinkUp _ hs)
  | stepTimeout => exact completes_next (keeps_stepTimeout _ hs)
  | sleepRx => exact completes_next (keeps_ctlFlood _ _ _ _ _ hs (fun _ h => h) fun _ => keeps_sleepAct _)
  | snapshotRx => exact completes_next (keeps_ctlFlood _ _ _ _ _ hs (fun _ h => h) fun _ => keeps_snapAct _)
  | sleepEnter => exact completes_next (keeps_sleepEnter hs)
  | wakeRx => exact completes_next (keeps_wakeRx _ _ hs)
  | controlFrameBad => exact completes_next (keeps_controlFrameBad _ _ hs)
  | listenTimeout => exact completes_next (keeps_listenTimeout hs)
  | claimRepeat => exact completes_next (keeps_claimRepeat hs)
  | waitingTimeout => exact completes_next (keeps_waitingTimeout hs)
  | followerTimeout => exact completes_next (keeps_followerTimeout hs)
  | standbyTakeover => exact completes_next (keeps_standbyTakeover hs)
  | beaconSend => exact completes_next (keeps_beaconSend hs)
  | reportSend => exact completes_next (keeps_reportSend hs)
  | planBuildTimeout => exact completes_next (keeps_planBuildTimeout hs)
  | planResend => exact completes_next (keeps_planResend hs)
  | headLaunchExpire => exact completes_next (keeps_headLaunchExpire hs)
  | segmentSilence => exact completes_next (keeps_segLost _ _ hs)
  | linkDown => exact completes_next (keeps_linkDown _ hs)
  | linkUp => exact completes_next (keeps_linkUpEv _ _ _ hs)
  | holdOffDone => exact completes_next (keeps_holdOffDone _ hs)
  | probeSend => exact completes_next (keeps_probeSend _ hs)
  | segmentRerollTimeout => exact completes_next (keeps_segmentRerollTimeout hs)
  | silenceResume => exact completes_next (keeps_silenceResume hs)
  | speedLowerReq => exact completes_next (keeps_speedLower _ hs)
  | speedRaiseReq => exact completes_next (keeps_speedRaise _ hs)
  | pauseRx => exact completes_next (keeps_pauseRx _ _ hs)
  | pauseBreak => exact completes_next (keeps_pauseBreak _ hs)
  | pauseRecover => exact completes_next (keeps_pauseRecover _ hs)
  | aafRx => exact completes_next (keeps_aafRx _ _ hs)
  | aafTx => exact completes_next (keeps_aafTx hs)
  | aecpCommand => exact completes_next (keeps_aecpCommand _ _ hs)
  | acmpCommand => exact completes_next (keeps_acmpCommand _ _ hs)
  | adpDiscover => exact completes_next (keeps_adpDiscover _ _ hs)
  | adpAvailable => exact completes_next (keeps_adpAvailable hs)
  | sbusRx => exact completes_next (keeps_sbusRx _ _ _ hs)
  | sbusTxDone => exact completes_next (keeps_sbusTxDone _ _ _ hs)
  | plcaLoss => exact completes_next (keeps_plcaLoss hs)
  | plcaBeacon => exact completes_next (keeps_plcaBeacon hs)
  | snapshotFire => exact completes_next (keeps_latchesDue hs)
  | releaseDue => exact completes_next (keeps_releaseDue _ hs)
  | releaseEdge => exact completes_next (keeps_releaseEdge _ hs)
  | muteDue => exact completes_next (keeps_muteDue _ hs)
  | muteEnd => exact completes_next (keeps_muteEnd _ hs)
  | modulatorSample => exact completes_next (keeps_modSample _ _ _ _ _ hs)
  | loadShort => exact completes_next (keeps_loadShort _ hs)
  | swRampEnd => exact completes_next (keeps_swRampEnd hs)
  | clkFailover => exact completes_next (keeps_clkFailover hs)
  | clkReturn => exact completes_next (keeps_clkReturn _ hs)
  | clkLost => exact completes_next (keeps_clkLost hs)
  | phaseLoss => exact completes_next (keeps_phaseLoss _ _ hs)
  | bstPhaseLoss => exact completes_next (keeps_bstPhaseLoss _ _ hs)
  | railOv => exact completes_next (keeps_bstStop _ _ hs)
  | railLow => exact completes_next (keeps_railLow _ hs)
  | fallbackEnd => exact completes_next (keeps_fallbackEnd _ hs)
  | thermalUpdate => exact completes_next (keeps_thermalUpdate hs)
  | rmeasUpdate => exact completes_next (keeps_rmeasUpdate hs)
  | dcFault => exact completes_next (keeps_dcDeclare _ (keeps_State_event hs))
  | diagReadyTimeout => exact completes_next (keeps_diagReadyTimeout hs)
  | diagDwellEnd => exact completes_next (keeps_diagDwellEnd hs)
  | diagChannelEnd => exact completes_next (keeps_diagChannelEnd hs)
  | acouMeasEnd => exact completes_next (keeps_acouMeasEnd hs)
  | diagRunEnd => exact completes_next (keeps_diagRunEnd hs)
  | adcGainApply => exact completes_next (keeps_adcGainApply _ hs)
  | adcSettled => exact completes_next (keeps_adcSettled _ hs)
  | adcRampEnd => exact completes_next (keeps_adcRampEnd _ hs)
  | outRampEnd => exact completes_next (keeps_outRampEnd _ hs)
  | outPowerUpEnd => exact completes_next (keeps_outPowerUpEnd _ hs)
  | outPowerDownEnd => exact completes_next (keeps_outPowerDownEnd _ hs)
  | cpFail => exact completes_next (keeps_cpFail hs)
  | cpRecover => exact completes_next (keeps_cpRecover hs)
  | outShort => exact completes_next (keeps_outShort _ hs)
  | jackAccept => exact completes_next (keeps_jackAccept _ _ hs)
  | aesLock => exact completes_next (keeps_aesLockOn hs)
  | aesLockLoss => exact completes_next (keeps_State_aesLock _ hs)
  | aesSubframe => exact completes_next (keeps_aesSubframe _ _ _ _ _ _ _ hs)
  | aesBlockEnd => exact completes_next (keeps_aesBlockEnd hs)
  | nonaudioEnd => exact completes_next (keeps_nonaudioEnd hs)
  | sapFrame => exact completes_next (keeps_sapFrame _ _ _ hs)
  | sapLock => exact completes_next (keeps_sapLockOn _ hs)
  | sapLockLoss => exact completes_next (keeps_ite hs (keeps_sapLockLoss _ hs))
  | rateMeasure => exact completes_next (keeps_ite (keeps_aesRate _ hs) (keeps_sapRate _ _ hs))
  | auxUpdate => exact completes_next (keeps_auxUpdate _ hs)
  | auxStartEnd => exact completes_next (keeps_ite (keeps_auxUpdate _ hs) hs)
  | auxShort => exact completes_next (keeps_auxShort _ hs)
  | refLoss => exact completes_next (keeps_refLoss hs)
  | refReturn => exact completes_next (keeps_refReturn _ hs)
  | pllStart => exact completes_next (keeps_pllStart _ hs)
  | pllLock => exact completes_next (keeps_pllLock _ hs)
  | pllLockLoss => exact completes_next (keeps_pllLockLoss _ hs)
  | pllHoldEnd => exact completes_next (keeps_pllHoldEnd _ hs)
  | pllBwChange => exact completes_next (keeps_pllBwChange _ hs)
  | phaseStepUnit => exact completes_next (keeps_phaseStepUnit _ hs)
  | rampLoad => exact completes_next (keeps_rampLoad _ _ hs)
  | rampSegmentEnd => exact completes_next (keeps_rampSegmentEnd _ hs)
  | mclkConfig => exact completes_next (keeps_mclkConfig _ hs)
  | spiRead | spiWrite | spiReadFix | spiWriteFix | spiStatus | spiRepeat =>
    exact completes_next (keeps_spiFrame _ _ _ _ _ _ hs)
  | spiCsAbort => exact completes_next (keeps_mk hs)
  | flaryDiscover | flaryRead | flaryWrite | flaryReadFix | flaryWriteFix | flaryEventSub | slotXferOpen | slotXferData
  | slotXferClose | slotXferVerify | msgXferOpen | msgXferData | msgXferClose | msgXferVerify | msgXferDelete |
  flaryLogRead | flaryTelemetry =>
    exact completes_next (keeps_flaryRow _ _ hs)
  | flaryEventSend => exact completes_next (keeps_eventSend _ hs)
  | flarySubLapse => exact completes_next (keeps_subLapse _ hs)
  | flaryResponse => exact completes_next (keeps_flaryResponse _ hs)
  | semRead | semWait | histPop => exact completes_next (keeps_hostRead _ _ hs)
  | semWaitTimeout => exact completes_next (keeps_semTimeout _ hs)
  | semLeaseExpire => exact completes_next (keeps_leaseExpire _ hs)
  | watchdogExpire => exact completes_next (keeps_watchdog _ hs)
  | dawRead | dawReadNext => exact completes_next (keeps_daw _ _ _ hs)
  | dawWrite | dawWriteNext => exact completes_next (keeps_served _ (keeps_daw _ _ _ hs))
  | extest | clamp | highz | idcode | samplePreload | bypass | tapReset | dawInstruction =>
    exact completes_next (keeps_tapLoad _ hs)
  | coreResume => exact completes_next (keeps_served _ (keeps_hostSet _ _ _ _ hs))
  | fltClearEffect => exact completes_next (keeps_fltClearDue hs)
  | extFault => exact completes_next (keeps_fnWatch (keeps_mk (keeps_State_event hs)))
  | domainIdleDescend => exact completes_next (keeps_domIdle _ hs)
  | domainDemandWake => exact completes_next (keeps_domDemand _ hs)
  | domainWakeDone => exact completes_next (keeps_resume (keeps_domWoken _ hs))
  | sleepEntryReady => exact completes_next (keeps_ite hs (keeps_sleepReady hs))
  | wakeNPin | linkEnergy | sbusActivity => exact completes_next (keeps_wakeBy _ _ _ _ _ hs)
  | storageWakeReady => exact completes_next (keeps_storageReady _ _ hs)
  | vl5PowerOff => exact completes_next (keeps_vl5Off hs)
  | faultNWireReleased => exact completes_next (keeps_fnWatch (keeps_mk (keeps_State_event hs)))
  | vdrvRecover => exact completes_next (keeps_vdrvRecover hs)
  | powerDieCool => exact completes_next (keeps_dieCool _ hs)
  | outShortEnd | auxShortEnd => exact completes_next (keeps_State_setB _ _ _ _ _ hs)
  | pauseEnd => exact completes_next (keeps_pauseEnd _ hs)
  | portLoadUpdate => exact completes_next (keeps_portLoadUpdate _ hs)
  | thermalDeratingUpdate => exact completes_next (keeps_deratingUpdate _ hs)
  | firmwareBootDone => exact completes_next (keeps_bootDone _ _ _ _ _ hs)

theorem step_of_pending_cons {s : State} {c : Instr} {rest : List Instr} (hfront : s.pending = c :: rest) :
    step s = exec c { s with pending := rest } := by
  simp only [step, hfront]

theorem step_of_pending_nil {s : State} (hempty : s.pending = []) : step s = .next s := by
  simp only [step, hempty]

/-- The queue is no part of the canonical form. -/
theorem canon_withPending (s : State) (rest : List Instr) : ({ s with pending := rest } : State).canon = s.canon := rfl

/-- Settles O4: an idle step changes nothing, and a step of a waiting queue is a command, which keeps the form. -/
theorem stepKeepsCanon : Obligations.StepKeepsCanon := by
  intro s t hcanon hstep
  cases hqueue : s.pending with
  | nil =>
    rw [step_of_pending_nil hqueue] at hstep
    cases hstep
    exact hcanon
  | cons c rest =>
    obtain ⟨u, hexec, -, hform⟩ := exec_completes c { s with pending := rest }
    rw [step_of_pending_cons hqueue, hexec] at hstep
    cases hstep
    exact hform (canon_withPending s rest ▸ hcanon)

/-- Settles O2: the first clause is the case analysis over the commands, the second is what they say of a step. -/
theorem everyCommandCompletesAndKeepsQueue : Obligations.EveryCommandCompletesAndKeepsQueue := by
  have hexec (c : Instr) (s : State) : Runs (exec c s) (fun t => t.pending = s.pending) := by
    obtain ⟨t, hnext, hqueue, -⟩ := exec_completes c s
    exact ⟨t, hnext, hqueue⟩
  refine ⟨hexec, fun s c rest hfront => ?_⟩
  rw [step_of_pending_cons hfront]
  exact hexec c { s with pending := rest }

/-- Settles O1: the two cases of a step. -/
theorem stepRunsFrontCommand : Obligations.StepRunsFrontCommand :=
  ⟨fun _ _ _ hfront => step_of_pending_cons hfront, fun _ hempty => step_of_pending_nil hempty⟩

end Sys2Proof.Machine

/-! PROOFS. The register file and the memories: what a read shows after a write. -/
namespace Sys2Proof.Machine
open Sys2Proof

/-! ## Fields of a register -/

/-- A field within 32 bits reads the same from the word that a number makes. -/
theorem bitsOf_ofNat32 (x lo : Nat) {hi : Nat} (hword : hi < 32) : bitsOf (BitVec.ofNat 32 x).toNat hi lo = bitsOf x hi lo := by
  apply Nat.eq_of_testBit_eq
  intro i
  rw [testBit_bitsOf, testBit_bitsOf, BitVec.toNat_ofNat, Nat.testBit_mod_two_pow]
  by_cases hin : i < hi + 1 - lo
  · have hbit : lo + i < 32 := by omega
    simp [hbit]
  · simp [hin]

theorem rising_of_canon {s : State} (hcanon : s.canon = true) : rising s.regs = true := (canon_parts.mp hcanon).1

/-- A field just written reads as the value, cut to its width. -/
theorem get_set_same {s : State} {f : Fld} (v i j t : Nat) (hregs : rising s.regs = true) (hle : f.lo ≤ f.hi) (hword : f.hi < 32) :
    (s.set f v i j t).get f i j t = v % 2 ^ (f.hi + 1 - f.lo) := by
  rw [State.set, get_setWord_same _ _ _ _ _ _ _ hregs ⟨rfl, rfl, rfl, rfl, rfl⟩, bitsOf_ofNat32 _ _ hword,
    bitsOf_putBits_same _ _ _ _ hle]

/-- A field of the same register beside the one written reads as before. -/
theorem get_set_beside {s : State} {f g : Fld} (v i j t : Nat) (hregs : rising s.regs = true) (hle : f.lo ≤ f.hi) (hword : g.hi < 32)
    (hsame : g.addr = f.addr ∧ g.s1 = f.s1 ∧ g.s2 = f.s2 ∧ g.reset = f.reset ∧ g.own = f.own) (hbeside : f.hi < g.lo ∨ g.hi < f.lo) :
    (s.set f v i j t).get g i j t = s.get g i j t := by
  have hbefore : s.word g i j t = s.word f i j t := by simp only [State.word, Fld.resetWord, Fld.key, hsame]
  rw [State.set, get_setWord_same _ _ _ _ _ _ _ hregs hsame, bitsOf_ofNat32 _ _ hword, bitsOf_putBits_ne _ _ _ _ _ _ hle hbeside,
    State.get, hbefore]

/-- A field of a register at another key reads as before. -/
theorem get_set_ne {s : State} {f g : Fld} (v i j t i' j' t' : Nat) (hregs : rising s.regs = true) (hkey : g.key i' j' t' ≠ f.key i j t) :
    (s.set f v i j t).get g i' j' t' = s.get g i' j' t' :=
  get_setWord_ne _ _ _ _ _ _ _ _ _ _ hregs hkey

theorem get_lt (s : State) (f : Fld) (i j t : Nat) : s.get f i j t < 2 ^ (f.hi + 1 - f.lo) := bitsOf_lt _ _ _

/-- A counter reads one more, or holds at its largest value. -/
theorem get_inc_same {s : State} {f : Fld} (i j t : Nat) (hregs : rising s.regs = true) (hle : f.lo ≤ f.hi) (hword : f.hi < 32) :
    (s.inc f i j t).get f i j t = min (s.get f i j t + 1) (2 ^ (f.hi + 1 - f.lo) - 1) := by
  have hlt := get_lt s f i j t
  rw [State.inc, get_set_same _ _ _ _ hregs hle hword, satInc]
  split
  · rw [Nat.mod_eq_of_lt (by omega)]
    omega
  · rw [Nat.mod_eq_of_lt hlt]
    omega

/-- Settles O5: a write and a read of a register meet at its key, and there at the bits of its fields. -/
theorem registerFieldsReadBack : Obligations.RegisterFieldsReadBack :=
  ⟨fun _ _ v i j t hcanon hle hword => get_set_same v i j t (rising_of_canon hcanon) hle hword,
    fun _ _ _ v i j t hcanon hle _ hword haddr hs1 hs2 hown hreset hbeside =>
      get_set_beside v i j t (rising_of_canon hcanon) hle hword ⟨haddr, hs1, hs2, hreset, hown⟩ hbeside,
    fun _ _ _ v i j t i' j' t' hcanon hkey => get_set_ne v i j t i' j' t' (rising_of_canon hcanon) hkey,
    fun _ _ i j t hcanon hle hword => get_inc_same i j t (rising_of_canon hcanon) hle hword⟩

/-! ## Bytes of a memory -/

theorem get_filter {α : Type} (d : Nat → α) (p : Nat → Bool) (m : KMap α) (k : Nat) (hm : rising m = true) :
    KMap.get d (m.filter fun e => p e.1) k = if p k then KMap.get d m k else d k := by
  induction m with
  | nil => simp [KMap.get]
  | cons e m ih =>
    obtain ⟨key, v⟩ := e
    simp only [rising, Bool.and_eq_true] at hm
    obtain ⟨habove, hm⟩ := hm
    have hrest (hbelow : k ≤ key) : KMap.get d m k = d k := by
      refine get_below d m k (List.all_eq_true.mpr fun x hx => ?_)
      have hx := List.all_eq_true.mp habove x hx
      simp only [decide_eq_true_eq] at *
      omega
    rw [List.filter_cons]
    by_cases hkeep : p key = true
    · simp only [hkeep, if_true, KMap.get, ih hm]
      by_cases hkey : key = k
      · subst hkey
        simp [hkeep]
      · by_cases hlt : k < key <;> simp [hkey, hlt]
    · simp only [hkeep, Bool.false_eq_true, if_false, KMap.get, ih hm]
      by_cases hkey : key = k
      · subst hkey
        simp [hkeep]
      · by_cases hlt : k < key
        · simp [hkey, hlt, hrest (Nat.le_of_lt hlt)]
        · simp [hkey, hlt]

/-- A cleared range reads as unlisted bytes do; every other byte reads as before. -/
theorem Mem.rd_clear (m : List Host.Cell) (a b n : Nat) (hm : Mem.wf m = true) :
    Mem.rd (Mem.clear m a n) b = if a ≤ b ∧ b < a + n then 0#8 else Mem.rd m b := by
  have hget := get_filter memDflt (fun k => !(decide (a ≤ k) && decide (k < a + n))) m b (wfFrom_rising memDflt m 0 hm)
  rw [Mem.rd, Mem.clear, KMap.dropKeys, hget]
  by_cases hin : a ≤ b ∧ b < a + n
  · simp [hin, memDflt]
  · have hout : ¬(a ≤ b) ∨ ¬(b < a + n) := by omega
    rcases hout with hout | hout <;> simp [hout, Mem.rd]

/-- Settles O6: reads and writes of single bytes, carried along a list of bytes, and the form of the memory that each keeps. -/
theorem memoryBytesReadBack : Obligations.MemoryBytesReadBack :=
  ⟨fun m a i bs hm hin => Mem.rd_wrN_in bs m a i hm hin,
    fun m a b bs hm hout => Mem.rd_wrN_out bs m a b hm hout,
    fun m a b n hm => Mem.rd_clear m a b n hm,
    fun m a n bs hm => ⟨Mem.wf_wrN bs m a hm, Mem.wf_clear m a n hm⟩,
    fun s a v hcanon => ⟨(keeps_State_stoneWrite a v (keeps_refl s)).2 hcanon, (keeps_State_sramWrite a v (keeps_refl s)).2 hcanon,
      (keeps_State_dramWrite a v (keeps_refl s)).2 hcanon⟩⟩

end Sys2Proof.Machine

/-! PROOFS. The protection gain over one millisecond (R386), and the values that grout carries (R65). -/
namespace Sys2Proof.Machine
open Sys2Proof

/-! ## The protection gain -/

/-- What the coil's temperature asks of the gain. -/
def gainHeat (tl : Rat) (c : BstCh) : Rat := if c.tc ≤ tl - 10 then 0 else -6 / 10 * (c.tc - (tl - 10))
/-- The slow part after one millisecond. -/
def gainSlow (tl : Rat) (c : BstCh) : Rat := if tl < c.tc then max (c.overdrive - 1 / 100) (-34) else min (c.overdrive + 2 / 1000) 0
/-- What both parts ask, at least -40 dB. -/
def gainWant (tl : Rat) (c : BstCh) : Rat := max (gainHeat tl c + gainSlow tl c) (-40)

theorem gainStep_overdrive (tl : Rat) (c : BstCh) : (gainStep tl c).overdrive = gainSlow tl c := rfl
theorem gainStep_g (tl : Rat) (c : BstCh) :
    (gainStep tl c).g = if gainWant tl c < c.g then gainWant tl c else min (gainWant tl c) (c.g + 2 / 1000) := rfl

theorem ratMax_eq (a b : Rat) : max a b = if a ≤ b then b else a := rfl

theorem ratMin_eq (a b : Rat) : min a b = if a ≤ b then a else b := rfl

/-- A greater of two is at most what both are at most, and at least each of them. -/
theorem ratMax_bounds (a b : Rat) : a ≤ max a b ∧ b ≤ max a b ∧ ∀ x, a ≤ x → b ≤ x → max a b ≤ x := by
  rw [ratMax_eq]
  split <;> grind

theorem ratMin_bounds (a b : Rat) : min a b ≤ a ∧ min a b ≤ b ∧ ∀ x, x ≤ a → x ≤ b → x ≤ min a b := by
  rw [ratMin_eq]
  split <;> grind

theorem gainHeat_nonpos (tl : Rat) (c : BstCh) : gainHeat tl c ≤ 0 := by
  unfold gainHeat
  split <;> grind

theorem gainSlow_bounds {tl : Rat} {c : BstCh} (hlow : -34 ≤ c.overdrive) (hhigh : c.overdrive ≤ 0) :
    -34 ≤ gainSlow tl c ∧ gainSlow tl c ≤ 0 := by
  unfold gainSlow
  split
  · obtain ⟨-, hge, hle⟩ := ratMax_bounds (c.overdrive - 1 / 100) (-34)
    exact ⟨hge, hle 0 (by grind) (by decide)⟩
  · obtain ⟨-, hle, hge⟩ := ratMin_bounds (c.overdrive + 2 / 1000) 0
    exact ⟨hge (-34) (by grind) (by decide), hle⟩

theorem gainWant_ge (tl : Rat) (c : BstCh) : -40 ≤ gainWant tl c := (ratMax_bounds _ _).2.1

theorem gainWant_nonpos {tl : Rat} {c : BstCh} (hslow : gainSlow tl c ≤ 0) : gainWant tl c ≤ 0 := by
  have hheat := gainHeat_nonpos tl c
  obtain ⟨-, -, hle⟩ := ratMax_bounds (gainHeat tl c + gainSlow tl c) (-40)
  exact hle 0 (by grind) (by decide)

/-- The gain never passes what is asked, and never rises by more than 0.002 dB. -/
theorem gainStep_g_le (tl : Rat) (c : BstCh) : (gainStep tl c).g ≤ gainWant tl c ∧ (gainStep tl c).g ≤ c.g + 2 / 1000 := by
  obtain ⟨hwant, hrise, -⟩ := ratMin_bounds (gainWant tl c) (c.g + 2 / 1000)
  rw [gainStep_g]
  split
  · exact ⟨Rat.le_refl, by grind⟩
  · exact ⟨hwant, hrise⟩

theorem gainStep_g_ge {tl : Rat} {c : BstCh} (hg : -40 ≤ c.g) : -40 ≤ (gainStep tl c).g := by
  have hwant := gainWant_ge tl c
  obtain ⟨-, -, hge⟩ := ratMin_bounds (gainWant tl c) (c.g + 2 / 1000)
  rw [gainStep_g]
  split
  · exact hwant
  · exact hge (-40) hwant (by grind)

/-- Settles O12: the gain goes at once to what is asked where that is lower, else up to it by at most 0.002 dB. -/
theorem protectionGainStaysBounded : Obligations.ProtectionGainStaysBounded := by
  refine ⟨fun tl c hlow hhigh hslow hslow0 => ?_, fun tl c hcool hlow hhigh hslow => ?_, fun tl c hhot hslow hlow hhigh => ?_⟩
  · obtain ⟨hge, hle⟩ := gainSlow_bounds (tl := tl) hslow hslow0
    obtain ⟨hwant, hrise⟩ := gainStep_g_le tl c
    exact ⟨gainStep_g_ge hlow, Rat.le_trans hwant (gainWant_nonpos hle), hrise, hge, hle⟩
  · have hheat : gainHeat tl c = 0 := if_pos hcool
    have hover : gainSlow tl c = 0 := by
      rw [gainSlow, if_neg (by grind), hslow]
      decide +kernel
    have hwant : gainWant tl c = 0 := by
      rw [gainWant, hheat, hover]
      decide +kernel
    exact ⟨hover, by rw [gainStep_g, hwant, if_neg (Rat.not_lt.mpr hhigh)]⟩
  · have hheat : gainHeat tl c = -6 / 10 * (c.tc - tl + 10) := by
      rw [gainHeat, if_neg (by grind)]
      grind
    have hover : gainSlow tl c = c.overdrive - 1 / 100 := by
      rw [gainSlow, if_pos hhot, ratMax_eq]
      split <;> grind
    have hwant : gainWant tl c = max (-6 / 10 * (c.tc - tl + 10) + c.overdrive - 1 / 100) (-40) := by
      rw [gainWant, hheat, hover]
      exact congrArg (max · (-40)) (by grind)
    exact ⟨hover, hwant ▸ (gainStep_g_le tl c).1⟩

/-! ## Grout -/

/-- An integer is at most the floor of a fraction where it is at most the quotient. -/
theorem ratFloor_intCast_div (n : Int) {d : Nat} (hd : 0 < d) : ratFloor ((n : Rat) / (d : Rat)) = n / d := by
  have hpos : (0 : Rat) < d := Rat.natCast_pos.mpr hd
  have hposInt : (0 : Int) < d := by omega
  have hle (z : Int) : z ≤ ((n : Rat) / (d : Rat)).floor ↔ z ≤ n / d := by
    rw [Rat.le_floor_iff, Int.le_ediv_iff_mul_le hposInt, ← Rat.not_lt, Rat.div_lt_iff hpos, ← Rat.intCast_natCast, ← Rat.intCast_mul,
      Rat.intCast_lt_intCast, Int.not_lt]
  rw [ratFloor, ← Rat.floor_def]
  exact Int.le_antisymm ((hle _).mp (Int.le_refl _)) ((hle _).mpr (Int.le_refl _))

/-- Rounding toward zero of a fraction is the division of integers that rounds toward zero. -/
theorem ratTrunc_intCast_div (n : Int) {d : Nat} (hd : 0 < d) : ratTrunc ((n : Rat) / (d : Rat)) = n.tdiv d := by
  have hpos : (0 : Rat) < d := Rat.natCast_pos.mpr hd
  have hsign : (n : Rat) / d < 0 ↔ n < 0 := by
    rw [Rat.div_lt_iff hpos, Rat.zero_mul]
    exact Rat.intCast_neg_iff
  by_cases hn : n < 0
  · have hflip : -((n : Rat) / d) = ((-n : Int) : Rat) / d := by grind
    rw [ratTrunc, if_pos (hsign.mpr hn), hflip, ratFloor_intCast_div _ hd, ← Int.tdiv_eq_ediv_of_nonneg (by omega), Int.neg_tdiv,
      Int.neg_neg]
  · rw [ratTrunc, if_neg (fun hneg => hn (hsign.mp hneg)), ratFloor_intCast_div _ hd, ← Int.tdiv_eq_ediv_of_nonneg (by omega)]

theorem groutFactor_fading {j : Nat} (hfrom : 2 ≤ j) (hto : j ≤ 33) : groutFactor j = ((33 - j : Nat) : Rat) / 32 := by
  rw [groutFactor, if_neg (by omega), if_pos hto]

theorem groutFactor_over {j : Nat} (hover : 33 ≤ j) : groutFactor j = 0 := by
  rw [groutFactor, if_neg (by omega)]
  split
  · rw [show 33 - j = 0 by omega]
    decide +kernel
  · rfl

theorem groutInt_first (x : Int) : groutInt x 1 = x := rfl

theorem groutInt_fading (x : Int) {j : Nat} (hfrom : 2 ≤ j) (hto : j ≤ 33) : groutInt x j = (x * (33 - j)).tdiv 32 := by
  have hscaled : (x : Rat) * groutFactor j = ((x * (33 - j) : Int) : Rat) / ((32 : Nat) : Rat) := by
    have hleft : ((33 - j : Nat) : Rat) = ((33 - j : Int) : Rat) := by
      rw [← Rat.intCast_natCast, Int.ofNat_sub hto]
      rfl
    rw [groutFactor_fading hfrom hto, hleft, Rat.intCast_mul]
    grind
  rw [groutInt, if_neg (by omega), hscaled, ratTrunc_intCast_div _ (by decide)]
  rfl

theorem groutInt_over (x : Int) {j : Nat} (hover : 34 ≤ j) : groutInt x j = 0 := by
  rw [groutInt, if_neg (by omega), groutFactor_over (by omega), Rat.mul_zero]
  rfl

theorem f32Rat_f32Trunc_zero (neg : Bool) : f32Rat (f32Trunc (.fin neg 0)) = 0 := by
  cases neg <;> rfl

/-- Only a finite pattern stands for a number that is not 0. -/
theorem f32Val_of_f32Rat_ne {w : F32} (hw : f32Rat w ≠ 0) : ∃ neg q, f32Val w = .fin neg q := by
  unfold f32Rat at hw
  match hval : f32Val w with
  | .nan => simp [hval, FVal.rat] at hw
  | .inf neg => simp [hval, FVal.rat] at hw
  | .fin neg q => exact ⟨neg, q, rfl⟩

theorem groutF32_over {w : F32} {j : Nat} (hover : 33 ≤ j) (hw : f32Rat w ≠ 0) : f32Rat (groutF32 w j) = 0 := by
  obtain ⟨neg, q, hval⟩ := f32Val_of_f32Rat_ne hw
  have hproduct : fvMul (f32Val w) (.fin false (groutFactor j)) = .fin (neg != false) 0 := by
    rw [hval, groutFactor_over hover]
    exact congrArg _ (Rat.mul_zero q)
  rw [groutF32, if_neg (by omega), hproduct, f32Rat_f32Trunc_zero]

/-- Settles O13: the first tick is the sample, and the factor of each later tick decides the rest. -/
theorem groutHoldsThenFades : Obligations.GroutHoldsThenFades :=
  ⟨fun x _ => ⟨groutInt_first x, groutInt_fading x, groutInt_over x⟩, fun _ _ => ⟨rfl, groutF32_over⟩⟩

end Sys2Proof.Machine

/-! PROOFS. The state after reset. -/
namespace Sys2Proof.Machine
open Sys2Proof

/-- With an empty register file, every register reads its reset word. -/
theorem get_reset (f : Fld) (i j t : Nat) : State.reset.get f i j t = bitsOf (f.resetWord i t).toNat f.hi f.lo := rfl

theorem ch_reset (n : Fin 8) : State.reset.ch n.val = 0 := by
  rw [State.ch, get_reset]
  revert n
  decide

theorem anaSt_reset (n : Fin 4) : State.reset.anaSt n.val = 0 := by
  rw [State.anaSt, get_reset]
  revert n
  decide

/-- Settles O3: the lists of the reset state are empty, and the registers that the statement names hold their reset words. -/
theorem resetStateHoldsSpecValues : Obligations.ResetStateHoldsSpecValues := by
  refine ⟨by decide, rfl, ⟨?_, ?_⟩, ⟨rfl, ?_, ?_⟩, ⟨rfl, by decide, ?_⟩, ch_reset, anaSt_reset, ⟨rfl, rfl, rfl⟩, fun _ => rfl,
    fun _ => ⟨rfl, rfl, rfl, rfl⟩⟩
  all_goals simp only [State.is, get_reset]
  all_goals decide

end Sys2Proof.Machine

/-! PROOFS. A host's write of a whole register (R10, R609): which way the access takes, and what the register's word becomes. -/
namespace Sys2Proof.Machine
open Sys2Proof

/-! ## The access -/

theorem exec_regWrite_row {x : Access} {a v : Word} {s u : State} {st : Nat} {r : RegRow} {i j : Nat}
    (hopens : s.opens x a.toNat = true) (hrow : regFind a.toNat = some (r, i, j)) (hright : s.mayWriteReg r i (accTen x) x.path = true)
    (hreg : inRegs a.toNat = true) (halign : a.toNat % 4 = 0) (hpwr : a.toNat / 65536 ≠ 15)
    (hwrite : regWrite r i j (accTen x) x.path v.toNat (2 ^ 32 - 1) s = (u, st)) (hquiet : u.host.stalled = []) :
    exec (.regWrite x a v) s = .next (served s (u.answered st)) := by
  have hword : v.toNat % 2 ^ 32 = v.toNat := Nat.mod_eq_of_lt v.isLt
  simp only [exec, execRegWrite, hostWrite_open hopens hrow hright hreg halign hpwr (hword.symm ▸ hwrite) hquiet]

theorem regAccess_write_of_no_row {a : Nat} (hrow : regFind (a / 4 * 4) = none) (hpwr : a / 65536 ≠ 15) (p : Path) (t n v : Nat)
    (s : State) : regAccess p t true a n v s = (s, .done stOk 0#32) := by
  simp [regAccess, hrow, hpwr]

/-- A word access off the word boundary is refused where words alone are accessed. -/
theorem access_of_unaligned {p : Path} {t a v : Nat} {wr : Bool} {s : State} (hmap : mapped a = true)
    (hdom : (s.accDomains t wr a).all (fun d => s.domReady a d) = true) (halign : a % 4 ≠ 0) :
    access p t wr a 4 v s = (s, .done stAccess 0#32) := by
  have hready := find_none_of_all (fun d => s.domReady a d) _ hdom
  simp [access, hready, hmap, widthOk, halign]

/-! ## The word written -/

theorem and_ones32 {v : Nat} (hv : v < 2 ^ 32) : v &&& (2 ^ 32 - 1) = v := by
  rw [Nat.and_two_pow_sub_one_eq_mod, Nat.mod_eq_of_lt hv]

/-- The W1C bits that a write of `v` clears. -/
def RegRow.clears (r : RegRow) (s : State) (i j t v : Nat) : Nat := (s.word r.fld i j t).toNat &&& r.mask .w1c &&& v

theorem clears_le (r : RegRow) (s : State) (i j t v : Nat) : r.clears s i j t v ≤ (s.word r.fld i j t).toNat :=
  Nat.le_trans Nat.and_le_left Nat.and_le_left

/-- Without RW fields and actions, a write clears the W1C bits written 1. -/
theorem regWrite_w1c {r : RegRow} {i j t v : Nat} {p : Path} {s : State} (hv : v < 2 ^ 32) (hrw : r.mask .rw = 0)
    (hdbg : r.addr ≠ 0x140000) (hsem : r.addr ≠ 0x110400) (hacts : waActs r i t p v = []) :
    (regWrite r i j t p v (2 ^ 32 - 1) s).1 = if r.clears s i j t v = 0 then s else
      s.setWord r.fld (BitVec.ofNat 32 ((s.word r.fld i j t).toNat - r.clears s i j t v)) i j t := by
  have hclears : (s.word r.fld i j t).toNat &&& r.mask .w1c &&& v &&& (2 ^ 32 - 1) = r.clears s i j t v := by
    rw [Nat.and_assoc _ v, and_ones32 hv]
    rfl
  simp only [regWrite, hclears, hdbg, hsem, hrw, if_false, Nat.zero_and, if_true, and_ones32 hv, hacts, runActs, List.foldl_nil]

theorem word_regWrite_w1c {r : RegRow} {i j t v : Nat} {p : Path} {s : State} (hregs : rising s.regs = true) (hv : v < 2 ^ 32)
    (hrw : r.mask .rw = 0) (hdbg : r.addr ≠ 0x140000) (hsem : r.addr ≠ 0x110400) (hacts : waActs r i t p v = []) :
    ((regWrite r i j t p v (2 ^ 32 - 1) s).1.word r.fld i j t).toNat = (s.word r.fld i j t).toNat - r.clears s i j t v := by
  rw [regWrite_w1c hv hrw hdbg hsem hacts]
  split
  · omega
  · have hlt := (s.word r.fld i j t).isLt
    rw [word_setWord_same _ _ _ _ _ _ hregs, BitVec.toNat_ofNat, Nat.mod_eq_of_lt (by omega)]

/-- A number with the bits of the mask `k` taken from `v`. -/
def merged (old v k : Nat) : Nat := old - (old &&& k) + (v &&& k)

theorem merged_zero (old v : Nat) : merged old v 0 = old := by simp [merged]

/-- A field outside the mask of a merge reads as in the old word. -/
theorem bitsOf_merged_out {old v k hi lo : Nat} (hout : ∀ b, lo ≤ b → b ≤ hi → k.testBit b = false) (hword : hi < 32) :
    bitsOf (BitVec.ofNat 32 (merged old v k)).toNat hi lo = bitsOf old hi lo := by
  rw [bitsOf_ofNat32 _ _ hword]
  apply Nat.eq_of_testBit_eq
  intro b
  rw [testBit_bitsOf, testBit_bitsOf, merged, testBit_merge]
  by_cases hin : b < hi + 1 - lo
  · simp [hout (lo + b) (by omega) (by omega)]
  · simp [hin]

/-- A write to a register without W1C bits and actions whose unit takes any word: the RW bits come from the word written. -/
theorem word_regWrite_rw {r : RegRow} {i j t v : Nat} {p : Path} {s : State} (hregs : rising s.regs = true) (hv : v < 2 ^ 32)
    (hw1c : r.mask .w1c = 0) (hdbg : r.addr ≠ 0x140000) (hsem : r.addr ≠ 0x110400) (hacts : waActs r i t p v = [])
    (hplain : ∀ w, regRw r i j t w s = (s.setWord r.fld w i j t, stOk)) :
    (regWrite r i j t p v (2 ^ 32 - 1) s).1.word r.fld i j t =
      BitVec.ofNat 32 (merged (s.word r.fld i j t).toNat v (r.mask .rw &&& (2 ^ 32 - 1))) := by
  by_cases hmask : r.mask .rw &&& (2 ^ 32 - 1) = 0
  · have hsame : (regWrite r i j t p v (2 ^ 32 - 1) s).1 = s := by
      simp only [regWrite, hw1c, hdbg, hsem, hmask, if_false, Nat.and_zero, Nat.zero_and, if_true, and_ones32 hv, hacts, runActs,
        List.foldl_nil]
    rw [hsame, hmask, merged_zero, BitVec.ofNat_toNat, BitVec.setWidth_eq]
  · rw [regWrite_plain hw1c rfl hdbg hsem hplain hmask, and_ones32 hv, hacts]
    exact word_setWord_same _ _ _ _ _ _ hregs

/-- Below bit 32 the mask of the write covers every bit, so the merge's mask has the register's RW bits. -/
theorem testBit_rw_mask (r : RegRow) {b : Nat} (hb : b < 32) : (r.mask .rw &&& (2 ^ 32 - 1)).testBit b = bit (r.mask .rw) b := by
  rw [Nat.and_two_pow_sub_one_eq_mod, Nat.testBit_mod_two_pow, bit_eq_testBit]
  simp [hb]

/-- Settles O7: the first three clauses follow the access, the last two the word of the register. -/
theorem registerWriteActsByFieldTypes : Obligations.RegisterWriteActsByFieldTypes := by
  refine ⟨fun acc a v s u st r i j hopens hrow halign hpwr hrange hright hwrite hquiet => ?_,
    fun acc a v s hopens hrow halign hpwr hrange => ?_, fun acc a v s hopens halign hrange => ?_,
    fun s r i j t v p hcanon hv hrw hdbg hsem hacts => word_regWrite_w1c (rising_of_canon hcanon) hv hrw hdbg hsem hacts,
    fun s r i j t v hi lo p hcanon hv hw1c hdbg hsem hacts hplain hword => ?_⟩
  · have hreg : inRegs a.toNat = true := by simpa [inRegs] using hrange
    exact exec_regWrite_row hopens hrow hright hreg halign hpwr hwrite hquiet
  · have hreg : inRegs a.toNat = true := by simpa [inRegs] using hrange
    have haddr : a.toNat / 4 * 4 = a.toNat := by omega
    obtain ⟨hopen, hten, hdom, hquiet⟩ := opens_parts hopens
    refine exec_regWrite_of_access_unchanged hopen hquiet fun w => ?_
    rw [access_regs _ _ _ _ _ _ hten hdom hreg halign, regAccess_write_of_no_row (haddr.symm ▸ hrow) hpwr]
  · obtain ⟨hopen, -, hdom, hquiet⟩ := opens_parts hopens
    have hmap : mapped a.toNat = true := by
      simp only [mapped, inBlocks, inMix, Bool.or_eq_true, Bool.and_eq_true, decide_eq_true_eq]
      omega
    exact exec_regWrite_of_access_unchanged hopen hquiet fun w => access_of_unaligned hmap hdom halign
  · rw [word_regWrite_rw (rising_of_canon hcanon) hv hw1c hdbg hsem hacts hplain]
    constructor
    · intro hin
      exact bitsOf_merge _ _ _ _ _ (fun b hlo hhi => (testBit_rw_mask r (by omega)).trans (hin b hlo hhi)) hword
    · intro hout
      exact bitsOf_merged_out (fun b hlo hhi => (testBit_rw_mask r (by omega)).trans (hout b hlo hhi)) hword

end Sys2Proof.Machine

/-! PROOFS. What an operation leaves of the register file: the keys outside a set read as before, carried through the
operations that write registers. -/
namespace Sys2Proof.Machine
open Sys2Proof

/-- Outside the keys that `K` names, `t` reads every register as `s` does; and a register file in rising order stays so. -/
def RegFrame (K : Nat → Prop) (s t : State) : Prop :=
  rising s.regs = true → rising t.regs = true ∧ ∀ k, ¬K k → ∀ d, KMap.get d t.regs k = KMap.get d s.regs k

section
variable {K : Nat → Prop} {s t u : State}

theorem regFrame_refl (K : Nat → Prop) (s : State) : RegFrame K s s := fun hregs => ⟨hregs, fun _ _ _ => rfl⟩

theorem regFrame_trans (hst : RegFrame K s t) (htu : RegFrame K t u) : RegFrame K s u := fun hregs =>
  ⟨(htu (hst hregs).1).1, fun k hk d => ((htu (hst hregs).1).2 k hk d).trans ((hst hregs).2 k hk d)⟩

theorem regFrame_of_regs_eq (hst : RegFrame K s t) (hregs : u.regs = t.regs) : RegFrame K s u := by
  unfold RegFrame at *
  rwa [hregs]

theorem regFrame_mono {L : Nat → Prop} (hst : RegFrame K s t) (hsub : ∀ k, K k → L k) : RegFrame L s t := fun hregs =>
  ⟨(hst hregs).1, fun k hk d => (hst hregs).2 k (fun h => hk (hsub k h)) d⟩

theorem regFrame_setWord {f : Fld} {v : Word} {i j n : Nat} (hst : RegFrame K s t) (hkey : K (f.key i j n)) :
    RegFrame K s (t.setWord f v i j n) := fun hregs => by
  obtain ⟨hrise, hread⟩ := hst hregs
  refine ⟨rising_setWord _ _ _ _ _ _ hrise, fun k hk d => ?_⟩
  have hne : k ≠ f.key i j n := fun h => hk (h ▸ hkey)
  exact (get_put_ne _ d _ _ _ _ hrise hne).trans (hread k hk d)

theorem regFrame_set {f : Fld} {v i j n : Nat} (hst : RegFrame K s t) (hkey : K (f.key i j n)) : RegFrame K s (t.set f v i j n) :=
  regFrame_setWord hst hkey

theorem regFrame_setB {f : Fld} {b : Bool} {i j n : Nat} (hst : RegFrame K s t) (hkey : K (f.key i j n)) :
    RegFrame K s (t.setB f b i j n) := regFrame_setWord hst hkey

theorem regFrame_inc {f : Fld} {i j n : Nat} (hst : RegFrame K s t) (hkey : K (f.key i j n)) : RegFrame K s (t.inc f i j n) :=
  regFrame_setWord hst hkey

theorem int_regs (s : State) (f : Fld) (b : Nat) :
    (s.int f b).regs = (s.setWord f (BitVec.ofNat 32 (putBits (s.word f).toNat (f.lo + b) (f.lo + b) 1))).regs := by
  simp only [State.int]
  split <;> rfl

theorem regFrame_int {f : Fld} {b : Nat} (hst : RegFrame K s t) (hkey : K (f.key 0 0 0)) : RegFrame K s (t.int f b) :=
  regFrame_of_regs_eq (regFrame_setWord hst hkey) (int_regs t f b)

theorem regFrame_ite {c : Prop} [Decidable c] (ht : RegFrame K s t) (hu : RegFrame K s u) : RegFrame K s (if c then t else u) := by
  split <;> assumption

theorem regFrame_foldl {α : Type} {f : State → α → State} {l : List α} (hst : RegFrame K s t)
    (hf : ∀ x ∈ l, ∀ u, RegFrame K s u → RegFrame K s (f u x)) : RegFrame K s (l.foldl f t) := by
  induction l generalizing t with
  | nil => exact hst
  | cons x l ih => exact ih (hf x (by simp) t hst) fun y hy => hf y (by simp [hy])

theorem regFrame_forN {n : Nat} {f : State → Nat → State} (hst : RegFrame K s t)
    (hf : ∀ m < n, ∀ u, RegFrame K s u → RegFrame K s (f u m)) : RegFrame K s (t.forN n f) :=
  regFrame_foldl hst fun m hm => hf m (List.mem_range.mp hm)

theorem word_of_regFrame {f : Fld} {i j n : Nat} (hst : RegFrame K s t) (hregs : rising s.regs = true) (hkey : ¬K (f.key i j n)) :
    t.word f i j n = s.word f i j n := (hst hregs).2 _ hkey _

theorem get_of_regFrame {f : Fld} {i j n : Nat} (hst : RegFrame K s t) (hregs : rising s.regs = true) (hkey : ¬K (f.key i j n)) :
    t.get f i j n = s.get f i j n := by
  simp only [State.get, word_of_regFrame hst hregs hkey]

end

/-- An interrupt bit just set is set. -/
theorem bit_word_int (s : State) (f : Fld) {b : Nat} (hregs : rising s.regs = true) (hb : f.lo + b < 32) :
    bit ((s.int f b).word f).toNat (f.lo + b) = true := by
  have hword : (s.int f b).word f = BitVec.ofNat 32 (putBits (s.word f).toNat (f.lo + b) (f.lo + b) 1) := by
    simp only [State.word, int_regs]
    exact get_put_same _ _ _ _ hregs
  rw [hword, BitVec.toNat_ofNat, bit_mod _ _ hb, bit_putBits_same]
  rfl

end Sys2Proof.Machine

/-! PROOFS. The raise of a fault source (R31, R533), in its four parts: the count, the history entry, the interrupt bit of the
class, and what a HALT or CAPSTONE raise holds. -/
namespace Sys2Proof.Machine
open Sys2Proof

/-! ## The parts of a raise -/

/-- The count of a source, once in a tick. -/
def State.raiseCounted (s : State) (src : Nat) : State :=
  if s.flt.counted.contains src then s
  else ({ s with flt := { s.flt with counted := src :: s.flt.counted } } : State).inc Reg.FLT_SRCn_COUNT src

/-- The history entry of a source and unit, once in a tick. -/
def State.raiseEntered (s : State) (src unit : Nat) (entry : HistEntry) : State :=
  if s.flt.entered.contains (src, unit) then s
  else ({ s with flt := { s.flt with entered := (src, unit) :: s.flt.entered } } : State).histPush entry

/-- The raise as the collector keeps it. -/
def State.raiseKept (s : State) (src unit cls ch an : Nat) (entry : HistEntry) : State :=
  { s with flt := { s.flt with
    raises := s.flt.raises.filter (fun r => !(r.source = src && r.unit = unit)) ++ [⟨src, cls, unit, ch, an, s.ks.count⟩],
    first := if s.flt.firstOpen then some entry else s.flt.first, firstOpen := false, capstone := s.flt.capstone || cls = 3 } }

/-- What a kept raise brings about: outputs held, the recorder and the history frozen, the auxiliary channels told. -/
def State.raiseActs (s : State) (cls an : Nat) : State :=
  let s := s.holdAnalog an
  let s := if s.is Reg.MIX_REC_CTRL_ON_HALT then s.recFreeze else s
  let s : State := { s with auxRec := s.auxRec.map (fun _ => true) }
  if cls = 3 ∧ !s.flt.frozen then s.freezeHist else s

/-- The parts up to the interrupt bit, which every raise of a source of the table has. -/
def State.raiseNoted (s : State) (src unit : Nat) (entry : HistEntry) : State :=
  ((State.raiseCounted { s with free := s.free + 1 } src).raiseEntered src unit entry).int Reg.FLT_INT_STATUS (s.srcClass src)

theorem raise_of_no_row {s : State} {src : Nat} {cyc : Option Nat} {hv inj : Bool} (hrow : sourceRow src = none) (unit d : Nat) :
    s.raise src unit d cyc hv inj = s := by
  simp only [State.raise, hrow]

theorem raise_of_row {s : State} {src : Nat} {row : Nat × Nat × Scope} {cyc : Option Nat} {hv inj : Bool}
    (hrow : sourceRow src = some row) (unit d : Nat) :
    ∃ entry ch an, s.raise src unit d cyc hv inj = if s.srcClass src < 2 then s.raiseNoted src unit entry
      else ((s.raiseNoted src unit entry).raiseKept src unit (s.srcClass src) ch an entry).raiseActs (s.srcClass src) an := by
  simp only [State.raise, hrow]
  exact ⟨_, _, _, rfl⟩

/-! ## The registers that they write -/

/-- The registers of the history, and the interrupt bits of the collector. -/
def histKeys (k : Nat) : Prop := k = 0x120020 ∨ k = 0x120050
/-- The registers that a kept raise acts on: the recorder's, the analog outputs', and the injection's state. -/
def heldKeys (k : Nat) : Prop := k = 0x120040 ∨ k = 0x70044 ∨ k = 0xC0100 ∨ (0xC0048 ≤ k ∧ k ≤ 0xC0078)

section
variable {K : Nat → Prop} {s t : State}

@[simp] theorem log_regs (s : State) (kind source : Nat) (data : List Byte) : (s.log kind source data).regs = s.regs := by
  unfold State.log
  split <;> rfl

theorem regFrame_log {kind source : Nat} {data : List Byte} (hst : RegFrame K s t) : RegFrame K s (t.log kind source data) :=
  regFrame_of_regs_eq hst (log_regs t kind source data)

theorem regFrame_histPush {e : HistEntry} (hst : RegFrame histKeys s t) : RegFrame histKeys s (t.histPush e) := by
  have hlose {u : State} (hu : RegFrame histKeys s u) :
      RegFrame histKeys s ((u.inc Reg.FLT_HIST_STAT_LOST).int Reg.FLT_INT_STATUS_HIST_LOST) :=
    regFrame_int (regFrame_inc hu (Or.inl rfl)) (Or.inr rfl)
  have hlog := fun data => regFrame_log (kind := 0) (source := e.source) (data := data) hst
  unfold State.histPush
  exact regFrame_ite (hlose hst) (regFrame_ite (hlose (hlog _)) (hlog _))

theorem regFrame_raiseEntered {src unit : Nat} {e : HistEntry} (hst : RegFrame histKeys s t) :
    RegFrame histKeys s (t.raiseEntered src unit e) := by
  unfold State.raiseEntered
  exact regFrame_ite hst (regFrame_histPush hst)

theorem regFrame_holdAnalog {mask : Nat} (hst : RegFrame heldKeys s t) : RegFrame heldKeys s (t.holdAnalog mask) := by
  refine regFrame_forN hst fun n hn u hu => regFrame_ite ?_ hu
  have hkey : heldKeys (Reg.ANA_OUTn_STAT_STATE.key n 0 0) := by
    simp only [heldKeys, Fld.key, Reg.ANA_OUTn_STAT_STATE, Bool.false_eq_true, if_false]
    omega
  exact regFrame_int (regFrame_set (regFrame_set hu hkey) hkey) (Or.inr (Or.inr (Or.inl rfl)))

theorem regFrame_recFreeze (hst : RegFrame heldKeys s t) : RegFrame heldKeys s t.recFreeze :=
  regFrame_ite (regFrame_set hst (Or.inr (Or.inl rfl))) hst

theorem eccDrops_regs (ws : List Nat) (k : Nat) (s : State) : (ws.foldl (fun s w => s.eccDrop k w) s).regs = s.regs := by
  induction ws generalizing s with
  | nil => rfl
  | cons w ws ih => exact ih _

theorem regFrame_eccWrite {k a n : Nat} (hst : RegFrame heldKeys s t) : RegFrame heldKeys s (t.eccWrite k a n) := by
  unfold State.eccWrite
  extract_lets ws u
  have hdropped : RegFrame heldKeys s u := regFrame_of_regs_eq hst (eccDrops_regs _ _ _)
  clear_value u
  split
  · exact regFrame_ite (regFrame_set (f := Reg.FLT_INJ_STATE) hdropped (Or.inl rfl)) hdropped
  · exact hdropped

theorem regFrame_raiseActs {cls an : Nat} (hst : RegFrame heldKeys s t) : RegFrame heldKeys s (t.raiseActs cls an) := by
  have hheld := regFrame_holdAnalog (mask := an) hst
  have hfrozen := regFrame_ite (c := (t.holdAnalog an).is Reg.MIX_REC_CTRL_ON_HALT = true) (regFrame_recFreeze hheld) hheld
  unfold State.raiseActs
  exact regFrame_ite (regFrame_eccWrite hfrozen) hfrozen

end

/-! ## Its count -/

/-- The key of a source's register. -/
theorem srcKey (n : Nat) : Reg.FLT_SRCn_COUNT.key n 0 0 = 0x120400 + 4 * n := by
  simp [Fld.key, Reg.FLT_SRCn_COUNT]

theorem raiseCounted_get_same {s : State} {n : Nat} (hregs : rising s.regs = true) (hfresh : s.flt.counted.contains n = false) :
    (s.raiseCounted n).get Reg.FLT_SRCn_COUNT n = min (s.get Reg.FLT_SRCn_COUNT n + 1) 65535 := by
  rw [State.raiseCounted, if_neg (by simpa using hfresh)]
  exact get_inc_same (s := { s with flt := { s.flt with counted := n :: s.flt.counted } }) n 0 0 hregs (by decide) (by decide)

theorem raiseCounted_get_other {s : State} {n m : Nat} (hregs : rising s.regs = true)
    (hother : m ≠ n ∨ s.flt.counted.contains n = true) :
    (s.raiseCounted n).get Reg.FLT_SRCn_COUNT m = s.get Reg.FLT_SRCn_COUNT m := by
  unfold State.raiseCounted
  split
  · rfl
  · next hfresh =>
    have hkey : Reg.FLT_SRCn_COUNT.key m 0 0 ≠ Reg.FLT_SRCn_COUNT.key n 0 0 := by
      have hne : m ≠ n := hother.resolve_right hfresh
      simp only [srcKey]
      omega
    exact get_set_ne (s := { s with flt := { s.flt with counted := n :: s.flt.counted } }) _ n 0 0 m 0 0 hregs hkey

theorem raiseCounted_rising {s : State} (n : Nat) (hregs : rising s.regs = true) : rising (s.raiseCounted n).regs = true := by
  unfold State.raiseCounted
  split
  · exact hregs
  · exact rising_set _ _ _ _ _ _ hregs

/-- After the count, a raise writes none of these registers again. -/
def afterCountKeys (k : Nat) : Prop := histKeys k ∨ heldKeys k

theorem regFrame_raiseNoted {s : State} {src unit : Nat} {e : HistEntry} :
    RegFrame histKeys (State.raiseCounted { s with free := s.free + 1 } src) (s.raiseNoted src unit e) :=
  regFrame_int (regFrame_raiseEntered (regFrame_refl _ _)) (Or.inr rfl)

theorem raise_regFrame {s : State} {src : Nat} {row : Nat × Nat × Scope} (hrow : sourceRow src = some row) (unit d : Nat) :
    RegFrame afterCountKeys (State.raiseCounted { s with free := s.free + 1 } src) (s.raise src unit d) := by
  obtain ⟨entry, ch, an, hraise⟩ := raise_of_row (s := s) hrow unit d
  have hnoted := regFrame_mono (L := afterCountKeys) (regFrame_raiseNoted (s := s) (src := src) (unit := unit) (e := entry))
    fun _ => Or.inl
  rw [hraise]
  refine regFrame_ite hnoted (regFrame_trans hnoted (regFrame_mono (regFrame_raiseActs ?_) fun _ => Or.inr))
  exact regFrame_of_regs_eq (regFrame_refl _ _) rfl

theorem not_afterCountKeys_srcKey {n : Nat} (hn : n < 256) : ¬afterCountKeys (Reg.FLT_SRCn_COUNT.key n 0 0) := by
  simp only [srcKey, afterCountKeys, histKeys, heldKeys]
  omega

theorem raise_count_same {s : State} {n : Nat} (unit d : Nat) (hregs : rising s.regs = true) (hn : n < 256)
    (hrow : (sourceRow n).isSome = true) (hfresh : s.flt.counted.contains n = false) :
    (s.raise n unit d).get Reg.FLT_SRCn_COUNT n = min (s.get Reg.FLT_SRCn_COUNT n + 1) 65535 := by
  obtain ⟨row, hrow⟩ := Option.isSome_iff_exists.mp hrow
  rw [get_of_regFrame (raise_regFrame hrow unit d) (raiseCounted_rising n hregs) (not_afterCountKeys_srcKey hn)]
  exact raiseCounted_get_same (s := { s with free := s.free + 1 }) hregs hfresh

theorem raise_count_other {s : State} {n m : Nat} (unit d : Nat) (hregs : rising s.regs = true) (hm : m < 256)
    (hother : m ≠ n ∨ s.flt.counted.contains n = true) :
    (s.raise n unit d).get Reg.FLT_SRCn_COUNT m = s.get Reg.FLT_SRCn_COUNT m := by
  cases hrow : sourceRow n with
  | none => rw [raise_of_no_row hrow]
  | some row =>
    rw [get_of_regFrame (raise_regFrame hrow unit d) (raiseCounted_rising n hregs) (not_afterCountKeys_srcKey hm)]
    exact raiseCounted_get_other (s := { s with free := s.free + 1 }) hregs hother

/-! ## The interrupt bit of its class -/

theorem raise_int {s : State} {n : Nat} (unit d : Nat) (hregs : rising s.regs = true) (hrow : (sourceRow n).isSome = true)
    (hcls : s.srcClass n < 4) : bit ((s.raise n unit d).word Reg.FLT_INT_STATUS).toNat (s.srcClass n) = true := by
  obtain ⟨row, hrow⟩ := Option.isSome_iff_exists.mp hrow
  obtain ⟨entry, ch, an, hraise⟩ := raise_of_row (s := s) hrow unit d
  have hentered : rising ((State.raiseCounted { s with free := s.free + 1 } n).raiseEntered n unit entry).regs = true :=
    (regFrame_raiseEntered (regFrame_refl _ _) (raiseCounted_rising (s := { s with free := s.free + 1 }) n hregs)).1
  have hbit : bit ((s.raiseNoted n unit entry).word Reg.FLT_INT_STATUS).toNat (s.srcClass n) = true := by
    have hset := bit_word_int _ Reg.FLT_INT_STATUS (b := s.srcClass n) hentered (show 0 + s.srcClass n < 32 by omega)
    rwa [show Reg.FLT_INT_STATUS.lo + s.srcClass n = s.srcClass n from Nat.zero_add _] at hset
  have hnoted : rising (s.raiseNoted n unit entry).regs = true :=
    (regFrame_raiseNoted (raiseCounted_rising (s := { s with free := s.free + 1 }) n hregs)).1
  have hkey : ¬heldKeys (Reg.FLT_INT_STATUS.key 0 0 0) := by
    simp [heldKeys, Fld.key, Reg.FLT_INT_STATUS]
  rw [hraise]
  split
  · exact hbit
  · rw [word_of_regFrame (regFrame_raiseActs (regFrame_refl _ _)) (by exact hnoted) hkey]
    exact hbit

/-! ## What it keeps -/

@[simp] theorem log_flt (s : State) (kind source : Nat) (data : List Byte) : (s.log kind source data).flt = s.flt := by
  unfold State.log
  split <;> rfl

theorem histPush_kept (s : State) (e : HistEntry) :
    (s.histPush e).flt.raises = s.flt.raises ∧ (s.histPush e).flt.capstone = s.flt.capstone := by
  unfold State.histPush
  split
  · simp
  · simp only []
    split <;> simp

theorem raiseNoted_kept (s : State) (src unit : Nat) (e : HistEntry) :
    (s.raiseNoted src unit e).flt.raises = s.flt.raises ∧ (s.raiseNoted src unit e).flt.capstone = s.flt.capstone := by
  have hcounted : (State.raiseCounted { s with free := s.free + 1 } src).flt.raises = s.flt.raises ∧
      (State.raiseCounted { s with free := s.free + 1 } src).flt.capstone = s.flt.capstone := by
    unfold State.raiseCounted
    split <;> exact ⟨rfl, rfl⟩
  rw [State.raiseNoted, State.int_flt, State.raiseEntered]
  split
  · exact hcounted
  · exact ⟨(histPush_kept _ _).1.trans hcounted.1, (histPush_kept _ _).2.trans hcounted.2⟩

theorem forN_flt {f : State → Nat → State} (hf : ∀ u m, (f u m).flt = u.flt) (s : State) (n : Nat) : (s.forN n f).flt = s.flt := by
  unfold State.forN
  induction List.range n generalizing s with
  | nil => rfl
  | cons m l ih => exact (ih (f s m)).trans (hf s m)

theorem holdAnalog_flt (s : State) (mask : Nat) : (s.holdAnalog mask).flt = s.flt :=
  forN_flt (fun u m => by split <;> simp) s 4

theorem recFreeze_flt (s : State) : s.recFreeze.flt = s.flt := by
  unfold State.recFreeze
  split <;> rfl

theorem eccWrite_kept (s : State) (k a n : Nat) :
    (s.eccWrite k a n).flt.raises = s.flt.raises ∧ (s.eccWrite k a n).flt.capstone = s.flt.capstone := by
  have hdrops (ws : List Nat) (u : State) : (ws.foldl (fun s w => s.eccDrop k w) u).flt = u.flt := by
    induction ws generalizing u with
    | nil => rfl
    | cons w ws ih => exact ih _
  unfold State.eccWrite
  extract_lets ws u
  have hdropped : u.flt.raises = s.flt.raises ∧ u.flt.capstone = s.flt.capstone := by simp only [u, hdrops, and_self]
  clear_value u
  split
  · split <;> exact hdropped
  · exact hdropped

theorem freezeHist_kept (s : State) :
    s.freezeHist.flt.raises = s.flt.raises ∧ s.freezeHist.flt.capstone = s.flt.capstone :=
  eccWrite_kept _ _ _ _

theorem raiseActs_kept (s : State) (cls an : Nat) :
    (s.raiseActs cls an).flt.raises = s.flt.raises ∧ (s.raiseActs cls an).flt.capstone = s.flt.capstone := by
  unfold State.raiseActs
  extract_lets held frozen told
  have htold : told.flt = s.flt := by
    simp only [told, frozen, held]
    split <;> simp only [recFreeze_flt, holdAnalog_flt]
  clear_value told
  split
  · simp only [freezeHist_kept, htold, and_self]
  · simp only [htold, and_self]

/-- A NOTE or DEGRADE raise is no more than its count, its entry and its interrupt bit. -/
theorem raise_mild {s : State} {n : Nat} (unit d : Nat) (hcls : s.srcClass n < 2) :
    s.raise n unit d = s ∨ ∃ entry, s.raise n unit d = s.raiseNoted n unit entry := by
  cases hrow : sourceRow n with
  | none => exact Or.inl (raise_of_no_row hrow unit d)
  | some row =>
    obtain ⟨entry, ch, an, hraise⟩ := raise_of_row (s := s) hrow unit d
    exact Or.inr ⟨entry, by rw [hraise, if_pos hcls]⟩

/-- The count, the entry and the interrupt bit lie in the registers of the collector. -/
theorem regFrame_raise_mild {s : State} {n : Nat} (unit d : Nat) (hcls : s.srcClass n < 2) :
    RegFrame (fun k => 0x120000 ≤ k) s (s.raise n unit d) := by
  rcases raise_mild unit d hcls with hraise | ⟨entry, hraise⟩
  · rw [hraise]
    exact regFrame_refl _ _
  · have hcounted : RegFrame (fun k => 0x120000 ≤ k) s (State.raiseCounted { s with free := s.free + 1 } n) := by
      unfold State.raiseCounted
      refine regFrame_ite (regFrame_refl _ _) (regFrame_inc (regFrame_refl _ _) ?_)
      rw [srcKey]
      omega
    rw [hraise]
    refine regFrame_trans hcounted (regFrame_mono regFrame_raiseNoted fun k hk => ?_)
    unfold histKeys at hk
    omega

theorem raise_mild_kept {s : State} {n : Nat} (unit d : Nat) (hcls : s.srcClass n < 2) :
    (s.raise n unit d).flt.raises = s.flt.raises ∧ (s.raise n unit d).flt.capstone = s.flt.capstone := by
  rcases raise_mild unit d hcls with hraise | ⟨entry, hraise⟩
  · simp [hraise]
  · exact hraise ▸ raiseNoted_kept s n unit entry

theorem raise_severe_kept {s : State} {n : Nat} (unit d : Nat) (hrow : (sourceRow n).isSome = true) (hcls : 2 ≤ s.srcClass n) :
    (s.raise n unit d).flt.raises.any (fun r => r.source = n && r.unit = unit && r.cls = s.srcClass n) = true ∧
      (s.raise n unit d).flt.capstone = (s.flt.capstone || s.srcClass n = 3) := by
  obtain ⟨row, hrow⟩ := Option.isSome_iff_exists.mp hrow
  obtain ⟨entry, ch, an, hraise⟩ := raise_of_row (s := s) hrow unit d
  rw [hraise, if_neg (by omega), (raiseActs_kept _ _ _).1, (raiseActs_kept _ _ _).2]
  constructor
  · simp [State.raiseKept]
  · simp [State.raiseKept, (raiseNoted_kept s n unit entry).2]

/-- Settles O11: each clause from the part of the raise that it speaks of, and the registers that the other parts write. -/
theorem faultRaiseCountsAndHolds : Obligations.FaultRaiseCountsAndHolds := by
  refine ⟨fun s n u d hcanon hn hrow hfresh => raise_count_same u d (rising_of_canon hcanon) hn hrow hfresh,
    fun s n u d m hcanon _ hm hother => raise_count_other u d (rising_of_canon hcanon) hm hother,
    fun s n u d hcanon hrow hcls => raise_int u d (rising_of_canon hcanon) hrow hcls,
    fun s n u d hcanon hcls => ⟨(raise_mild_kept u d hcls).1, (raise_mild_kept u d hcls).2, fun k hk => ?_, fun k hk => ?_⟩,
    fun s n u d hrow hcls => raise_severe_kept u d hrow hcls, fun s n u d hrow => raise_of_no_row hrow u d⟩
  all_goals
    refine get_of_regFrame (regFrame_raise_mild u d hcls) (rising_of_canon hcanon) ?_
  · simp only [Fld.key, Reg.PWR_CHn_STATE_STATE, Bool.false_eq_true, if_false]
    omega
  · simp only [Fld.key, Reg.ANA_OUTn_STAT_STATE, Bool.false_eq_true, if_false]
    omega

end Sys2Proof.Machine

/-! PROOFS. A host's write to a register that commands are given through: which fields the composed word holds, which actions
it starts, and what the write then leaves. -/
namespace Sys2Proof.Machine
open Sys2Proof

/-! ## The row behind a register -/

/-- The row of a register at an index of its array: a register on this side of the barrier, without interrupt bits and without
a rule of its own for the debug port. -/
structure RowAt (f : Fld) (i : Nat) (r : RegRow) : Prop where
  found : regFind (f.addr + f.s1 * i) = some (r, i, 0)
  place : (f.addr + f.s1 * i) % 4 = 0 ∧ inRegs (f.addr + f.s1 * i) = true ∧ (f.addr + f.s1 * i) / 65536 ≠ 15
  noW1c : r.mask .w1c = 0
  noRule : r.addr ≠ 0x140000 ∧ r.addr ≠ 0x110400

theorem rowAt_of {f : Fld} {i k : Nat} {r : RegRow} (hfound : regFind (f.addr + f.s1 * i) = some (r, i, 0))
    (hplace : (f.addr + f.s1 * i) % 4 = 0 ∧ inRegs (f.addr + f.s1 * i) = true ∧ (f.addr + f.s1 * i) / 65536 = k)
    (hrow : (decide (k ≠ 15) && r.mask .w1c == 0 && decide (r.addr ≠ 0x140000) && decide (r.addr ≠ 0x110400)) = true) :
    RowAt f i r := by
  simp only [Bool.and_eq_true, decide_eq_true_eq, beq_iff_eq] at hrow
  obtain ⟨⟨⟨hk, hw1c⟩, hdbg⟩, hsem⟩ := hrow
  exact ⟨hfound, ⟨hplace.1, hplace.2.1, hplace.2.2 ▸ hk⟩, hw1c, hdbg, hsem⟩

theorem mayWriteReg_of_owner {s : State} {r : RegRow} {i : Nat} {x : Access} (hrow : r.writers = .owner ∧ r.addr ≠ 0xE010C)
    (hten : accTen x = 0) : s.mayWriteReg r i (accTen x) x.path = true := by
  simp [State.mayWriteReg, hrow.1, hrow.2, hten]

theorem mayWriteReg_of_every {s : State} {r : RegRow} {i t : Nat} {p : Path} (hrow : r.writers = .every) :
    s.mayWriteReg r i t p = true := by
  simp [State.mayWriteReg, hrow]

/-! ## Registers of actions alone -/

/-- The word of fields on a register that keeps nothing. -/
def fieldsWord (fs : List (Nat × Nat × Nat)) : Nat := fs.foldl (fun w g => putBits w g.1 g.2.1 g.2.2) 0 % 2 ^ 32

theorem fieldsWord_lt (fs : List (Nat × Nat × Nat)) : fieldsWord fs < 2 ^ 32 := Nat.mod_lt _ (by decide)

theorem runActs_one {act : State → Act} {s u : State} {st : Nat} (hact : act s = (u, st)) : runActs stOk [act] s = (u, st) := by
  simp [runActs, hact]

/-- A write of fields to a register that keeps nothing is the one action that it starts. -/
theorem hostSet_act {x : Access} {f : Fld} {i st : Nat} {fs : List (Nat × Nat × Nat)} {s u : State} {r : RegRow}
    {act : State → Act} (hrow : RowAt f i r) (hrw : r.mask .rw = 0) (hopens : s.opens x (f.addr + f.s1 * i) = true)
    (hright : s.mayWriteReg r i (accTen x) x.path = true) (hacts : waActs r i (accTen x) x.path (fieldsWord fs) = [act])
    (hact : act s = (u, st)) (hhost : u.host = s.host) : hostSet x f i fs s = u.answered st := by
  obtain ⟨halign, hreg, hpwr⟩ := hrow.place
  refine hostSet_open hopens hrow.found hright hreg halign hpwr ?_ (hhost ▸ opens_quiet hopens)
  have hword : fs.foldl (fun w g => putBits w g.1 g.2.1 g.2.2) ((s.word f i 0 (accTen x)).toNat &&& r.mask .rw) % 2 ^ 32 =
      fieldsWord fs := by rw [hrw, Nat.and_zero, fieldsWord]
  rw [hword, regWrite_acts hrow.noW1c hrw hrow.noRule.1 hrow.noRule.2, and_ones32 (fieldsWord_lt fs), hacts]
  exact runActs_one hact

/-- The same for a whole word. -/
theorem hostWrite_act {x : Access} {f : Fld} {i st v : Nat} {s u : State} {r : RegRow} {act : State → Act} (hrow : RowAt f i r)
    (hrw : r.mask .rw = 0) (hopens : s.opens x (f.addr + f.s1 * i) = true) (hright : s.mayWriteReg r i (accTen x) x.path = true)
    (hv : v < 2 ^ 32) (hacts : waActs r i (accTen x) x.path v = [act]) (hact : act s = (u, st)) (hhost : u.host = s.host) :
    hostWrite x (f.addr + f.s1 * i) v s = u.answered st := by
  obtain ⟨halign, hreg, hpwr⟩ := hrow.place
  refine hostWrite_open hopens hrow.found hright hreg halign hpwr ?_ (hhost ▸ opens_quiet hopens)
  rw [Nat.mod_eq_of_lt hv, regWrite_acts hrow.noW1c hrw hrow.noRule.1 hrow.noRule.2, and_ones32 hv, hacts]
  exact runActs_one hact

/-! ## The composed word -/

/-- Bit `b` of a word after fields are replaced, from what it was before. -/
def bitAfter (fs : List (Nat × Nat × Nat)) (b : Nat) (before : Bool) : Bool :=
  fs.foldl (fun c g => if decide (g.2.1 ≤ b) && decide (b ≤ g.1) then bit g.2.2 (b - g.2.1) else c) before

/-- A field after fields are replaced, from what it was before: each is that field, or does not meet it. -/
def fieldAfter (fs : List (Nat × Nat × Nat)) (hi lo before : Nat) : Nat :=
  fs.foldl (fun c g => if g.1 == hi && g.2.1 == lo then g.2.2 % 2 ^ (hi + 1 - lo) else c) before

/-- Each replaced field is the one named, or does not meet it. -/
def apartFrom (fs : List (Nat × Nat × Nat)) (hi lo : Nat) : Bool :=
  fs.all (fun g => decide (g.2.1 ≤ g.1) && ((g.1 == hi && g.2.1 == lo) || decide (g.1 < lo) || decide (hi < g.2.1)))

theorem bit_putFields {fs : List (Nat × Nat × Nat)} (hfs : fs.all (fun g => decide (g.2.1 ≤ g.1)) = true) (w b : Nat) :
    bit (fs.foldl (fun w g => putBits w g.1 g.2.1 g.2.2) w) b = bitAfter fs b (bit w b) := by
  induction fs generalizing w with
  | nil => rfl
  | cons g fs ih =>
    simp only [List.all_cons, Bool.and_eq_true, decide_eq_true_eq] at hfs
    have hput : bit (putBits w g.1 g.2.1 g.2.2) b =
        if decide (g.2.1 ≤ b) && decide (b ≤ g.1) then bit g.2.2 (b - g.2.1) else bit w b := by
      simp only [bit_eq_testBit, testBit_putBits _ _ _ _ _ hfs.1, Bool.and_eq_true, decide_eq_true_eq]
    rw [List.foldl_cons, ih hfs.2, hput]
    rfl

theorem bitsOf_putFields {fs : List (Nat × Nat × Nat)} {hi lo : Nat} (hfs : apartFrom fs hi lo = true) (w : Nat) :
    bitsOf (fs.foldl (fun w g => putBits w g.1 g.2.1 g.2.2) w) hi lo = fieldAfter fs hi lo (bitsOf w hi lo) := by
  induction fs generalizing w with
  | nil => rfl
  | cons g fs ih =>
    simp only [apartFrom, List.all_cons, Bool.and_eq_true, Bool.or_eq_true, decide_eq_true_eq, beq_iff_eq] at hfs
    obtain ⟨⟨hle, happart⟩, hrest⟩ := hfs
    have hput : bitsOf (putBits w g.1 g.2.1 g.2.2) hi lo =
        if g.1 == hi && g.2.1 == lo then g.2.2 % 2 ^ (hi + 1 - lo) else bitsOf w hi lo := by
      split
      · next hsame =>
        simp only [Bool.and_eq_true, beq_iff_eq] at hsame
        rw [hsame.1, hsame.2, bitsOf_putBits_same _ _ _ _ (hsame.1 ▸ hsame.2 ▸ hle)]
      · next hother =>
        simp only [Bool.and_eq_true, beq_iff_eq] at hother
        refine bitsOf_putBits_ne _ _ _ _ _ _ hle ?_
        omega
    rw [List.foldl_cons, ih (by simpa [apartFrom] using hrest), hput]
    rfl

/-- Bits that the register does not keep are 0 in the composed word but where a field sets them. -/
theorem bit_composed {s : State} {f : Fld} {i t k : Nat} {fs : List (Nat × Nat × Nat)}
    (hfs : fs.all (fun g => decide (g.2.1 ≤ g.1)) = true) {b : Nat} (hb : b < 32) (hk : bit k b = false) :
    bit (composed s f i t k fs % 2 ^ 32) b = bitAfter fs b false := by
  rw [bit_mod _ _ hb, composed, bit_putFields hfs, bit_and, hk, Bool.and_false]

/-- Every bit of a field lies in a mask. -/
def covers (k hi lo : Nat) : Bool := (List.range (hi + 1)).all (fun b => decide (b < lo) || bit k b)

theorem testBit_of_covers {k hi lo b : Nat} (hcovers : covers k hi lo = true) (hlo : lo ≤ b) (hhi : b ≤ hi) : k.testBit b = true := by
  have hbit := List.all_eq_true.mp hcovers b (List.mem_range.mpr (by omega))
  rw [← bit_eq_testBit]
  simpa [show ¬b < lo by omega] using hbit

/-- A field of the register whose word a write composes: it shares the word, its bits are kept, and the fields replaced are it
or do not meet it. -/
def fieldOf (f : Fld) (r : RegRow) (fs : List (Nat × Nat × Nat)) (g : Fld) : Bool :=
  g.addr == f.addr && g.s1 == f.s1 && g.s2 == f.s2 && g.reset == f.reset && g.own == f.own && decide (g.hi < 32) &&
    covers (r.mask .rw) g.hi g.lo && apartFrom fs g.hi g.lo

theorem bitsOf_composed {s : State} {f g : Fld} {i t : Nat} {r : RegRow} {fs : List (Nat × Nat × Nat)}
    (hfield : fieldOf f r fs g = true) :
    bitsOf (composed s f i t (r.mask .rw) fs % 2 ^ 32) g.hi g.lo = fieldAfter fs g.hi g.lo (s.get g i 0 t) := by
  simp only [fieldOf, Bool.and_eq_true, beq_iff_eq, decide_eq_true_eq] at hfield
  obtain ⟨⟨⟨⟨⟨⟨⟨haddr, hs1⟩, hs2⟩, hreset⟩, hown⟩, hword⟩, hcovers⟩, hapart⟩ := hfield
  have hsame : s.word g i 0 t = s.word f i 0 t := by simp only [State.word, Fld.resetWord, Fld.key, haddr, hs1, hs2, hreset, hown]
  rw [← BitVec.toNat_ofNat, bitsOf_ofNat32 _ _ hword, composed, bitsOf_putFields hapart,
    bitsOf_and _ _ _ _ (fun b hlo hhi => testBit_of_covers hcovers hlo hhi), State.get, hsame]

/-- Every field named reads, after a composed write, as the value named. -/
def FieldsRead (f : Fld) (r : RegRow) (fs : List (Nat × Nat × Nat)) (old : Fld → Nat) (vals : List (Fld × Nat)) : Prop :=
  ∀ p ∈ vals, fieldOf f r fs p.1 = true ∧ fieldAfter fs p.1.hi p.1.lo (old p.1) = p.2

theorem fieldsRead_nil {f : Fld} {r : RegRow} {fs : List (Nat × Nat × Nat)} {old : Fld → Nat} : FieldsRead f r fs old [] :=
  fun _ hp => nomatch hp

theorem fieldsRead_cons {f g : Fld} {r : RegRow} {fs : List (Nat × Nat × Nat)} {old : Fld → Nat} {v : Nat} {vals : List (Fld × Nat)}
    (hfield : fieldOf f r fs g = true) (hvalue : fieldAfter fs g.hi g.lo (old g) = v) (hvals : FieldsRead f r fs old vals) :
    FieldsRead f r fs old ((g, v) :: vals) :=
  List.forall_mem_cons.mpr ⟨⟨hfield, hvalue⟩, hvals⟩

/-- A composed write to a register whose unit takes any word, which starts one action: the word's fields as named, and then
what the action leaves. -/
theorem hostSet_wrote {x : Access} {f : Fld} {i st t : Nat} {fs : List (Nat × Nat × Nat)} {s : State} {r : RegRow}
    {vals : List (Fld × Nat)} {act : State → Act} {g : State → State} (hrow : RowAt f i r) (hfld : r.fld = f)
    (hrw : r.mask .rw < 2 ^ 32 ∧ r.mask .rw ≠ 0) (ht : accTen x = t)
    (hplain : ∀ w, regRw r i 0 t w s = (s.setWord f w i 0 t, stOk))
    (hopens : s.opens x (f.addr + f.s1 * i) = true) (hright : s.mayWriteReg r i t x.path = true)
    (hfs : fs.all (fun g => decide (g.2.1 ≤ g.1)) = true)
    (hvals : FieldsRead f r fs (fun g => s.get g i 0 t) vals)
    (hacts : ∀ v, (∀ b, b < 32 → bit (r.mask .rw) b = false → bit v b = bitAfter fs b false) →
      waActs r i t x.path v = [act])
    (hact : ∀ w, (∀ p ∈ vals, bitsOf w.toNat p.1.hi p.1.lo = p.2) →
      act (s.setWord f w i 0 t) = (g (s.setWord f w i 0 t), st) ∧ (g (s.setWord f w i 0 t)).host = s.host) :
    ∃ u, s.Wrote f i t vals u ∧ hostSet x f i fs s = (g u).answered st := by
  subst ht
  obtain ⟨w, hbits, hrun⟩ := hostSet_word (fs := fs) hopens hrow.found ⟨hrow.place.1, hrow.place.2.1, rfl⟩ hrow.place.2.2 hright
    hrow.noW1c rfl hrw hrow.noRule (hfld.symm ▸ hplain) hfld
  have hvalues : ∀ p ∈ vals, bitsOf w.toNat p.1.hi p.1.lo = p.2 := fun p hp => by
    obtain ⟨hfield, hvalue⟩ := hvals p hp
    have hkept := hfield
    simp only [fieldOf, Bool.and_eq_true, beq_iff_eq, decide_eq_true_eq] at hkept
    obtain ⟨⟨⟨-, hword⟩, hcovers⟩, -⟩ := hkept
    rw [hbits _ _ (fun b hlo hhi => testBit_of_covers hcovers hlo hhi) hword, bitsOf_composed hfield, hvalue]
  obtain ⟨hruns, hhost⟩ := hact w hvalues
  refine ⟨_, ⟨w, hvalues, rfl⟩, hrun _ _ ?_ (hhost ▸ opens_quiet hopens)⟩
  rw [hacts _ fun b hb hk => bit_composed hfs hb hk]
  exact runActs_one hruns

/-- A composed write to a register that its unit takes with a rule of its own: the unit is handed a word with the fields as named,
and its status is the answer. -/
theorem hostSet_unit_vals {x : Access} {f : Fld} {i t : Nat} {fs : List (Nat × Nat × Nat)} {s : State} {r : RegRow}
    {vals : List (Fld × Nat)} (hrow : RowAt f i r) (hrw : r.mask .rw < 2 ^ 32 ∧ r.mask .rw ≠ 0) (ht : accTen x = t)
    (hacts : ∀ v, waActs r i t x.path v = []) (hopens : s.opens x (f.addr + f.s1 * i) = true)
    (hright : s.mayWriteReg r i t x.path = true)
    (hvals : FieldsRead f r fs (fun g => s.get g i 0 t) vals) :
    ∃ w : Word, (∀ p ∈ vals, bitsOf w.toNat p.1.hi p.1.lo = p.2) ∧
      ∀ u st, regRw r i 0 t w s = (u, st) → u.host = s.host → hostSet x f i fs s = u.answered st := by
  subst ht
  obtain ⟨w, hbits, hrun⟩ := hostSet_unit (fs := fs) hopens hrow.found ⟨hrow.place.1, hrow.place.2.1, rfl⟩ hrow.place.2.2 hright
    hrow.noW1c rfl hrw hrow.noRule hacts
  refine ⟨w, fun p hp => ?_, fun u st hunit hhost => hrun u st hunit (hhost ▸ opens_quiet hopens)⟩
  obtain ⟨hfield, hvalue⟩ := hvals p hp
  have hkept := hfield
  simp only [fieldOf, Bool.and_eq_true, beq_iff_eq, decide_eq_true_eq] at hkept
  obtain ⟨⟨⟨-, hword⟩, hcovers⟩, -⟩ := hkept
  rw [hbits _ _ (fun b hlo hhi => testBit_of_covers hcovers hlo hhi) hword, bitsOf_composed hfield, hvalue]

/-! ## Registers of the owner -/

/-- A command that completes with what a write leaves. -/
theorem next_of_wrote {P : State → Prop} {o : Host.Outcome State Fault Refusal} {a : State} {g : State → State}
    (ho : o = .next a) (hleaves : ∃ u, P u ∧ a = g u) : ∃ u, P u ∧ o = .next (g u) := by
  obtain ⟨u, hu, ha⟩ := hleaves
  exact ⟨u, hu, ha ▸ ho⟩


/-- `hostSet_act` for a register that only the owner writes. -/
theorem hostSet_owner {x : Access} {f : Fld} {i st : Nat} {fs : List (Nat × Nat × Nat)} {s u : State} {r : RegRow}
    {act : State → Act} (hrow : RowAt f i r) (hrw : r.mask .rw = 0) (howner : r.writers = .owner ∧ r.addr ≠ 0xE010C)
    (howns : s.owns x (f.addr + f.s1 * i) = true) (hacts : waActs r i 0 x.path (fieldsWord fs) = [act])
    (hact : act s = (u, st)) (hhost : u.host = s.host) : hostSet x f i fs s = u.answered st :=
  hostSet_act hrow hrw (owns_opens howns) (mayWriteReg_of_owner howner (owns_zero howns)) ((owns_zero howns).symm ▸ hacts) hact
    hhost

/-- `hostWrite_act` for a register that only the owner writes. -/
theorem hostWrite_owner {x : Access} {f : Fld} {i st v : Nat} {s u : State} {r : RegRow} {act : State → Act}
    (hrow : RowAt f i r) (hrw : r.mask .rw = 0) (howner : r.writers = .owner ∧ r.addr ≠ 0xE010C)
    (howns : s.owns x (f.addr + f.s1 * i) = true) (hv : v < 2 ^ 32) (hacts : waActs r i 0 x.path v = [act])
    (hact : act s = (u, st)) (hhost : u.host = s.host) : hostWrite x (f.addr + f.s1 * i) v s = u.answered st :=
  hostWrite_act hrow hrw (owns_opens howns) (mayWriteReg_of_owner howner (owns_zero howns)) hv ((owns_zero howns).symm ▸ hacts)
    hact hhost

/-- `hostSet_wrote` for a register that only the owner writes. -/
theorem hostSet_owner_wrote {x : Access} {f : Fld} {i st : Nat} {fs : List (Nat × Nat × Nat)} {s : State} {r : RegRow}
    {vals : List (Fld × Nat)} {act : State → Act} {g : State → State} (hrow : RowAt f i r) (hfld : r.fld = f)
    (hrw : r.mask .rw < 2 ^ 32 ∧ r.mask .rw ≠ 0) (howner : r.writers = .owner ∧ r.addr ≠ 0xE010C)
    (hplain : ∀ w, regRw r i 0 0 w s = (s.setWord f w i 0 0, stOk)) (howns : s.owns x (f.addr + f.s1 * i) = true)
    (hfs : fs.all (fun g => decide (g.2.1 ≤ g.1)) = true)
    (hvals : FieldsRead f r fs (fun g => s.get g i) vals)
    (hacts : ∀ v, (∀ b, b < 32 → bit (r.mask .rw) b = false → bit v b = bitAfter fs b false) → waActs r i 0 x.path v = [act])
    (hact : ∀ w, (∀ p ∈ vals, bitsOf w.toNat p.1.hi p.1.lo = p.2) →
      act (s.setWord f w i) = (g (s.setWord f w i), st) ∧ (g (s.setWord f w i)).host = s.host) :
    ∃ u, s.Wrote f i 0 vals u ∧ hostSet x f i fs s = (g u).answered st :=
  hostSet_wrote hrow hfld hrw (owns_zero howns) hplain (owns_opens howns)
    (owns_zero howns ▸ mayWriteReg_of_owner howner (owns_zero howns)) hfs hvals hacts hact

end Sys2Proof.Machine

/-! PROOFS. The keystone commands of a host (R10, R53, R66). -/
namespace Sys2Proof.Machine
open Sys2Proof Sys2Proof.Machine.Laws

theorem rowAt_KS_CTRL : RowAt Reg.KS_CTRL 0 row_KS_CTRL := rowAt_of find_KS_CTRL addr_KS_CTRL rfl
theorem rowAt_KS_ALARMn_CTRL (n : Fin 4) : RowAt Reg.KS_ALARMn_CTRL n.val row_KS_ALARMn_CTRL :=
  rowAt_of (find_KS_ALARMn_CTRL n) (addr_KS_ALARMn_CTRL n) rfl

theorem actAlarmArm_later {s : State} {n : Nat} (hlater : s.ks.count < s.get64 Reg.KS_ALARMn_LO Reg.KS_ALARMn_HI n) :
    actAlarmArm n s = ((((s.withAlarm n (s.get64 Reg.KS_ALARMn_LO Reg.KS_ALARMn_HI n)).setAlarm n true).set
      Reg.KS_ALARMn_CTRL_STATE 1 n), stOk) := by
  simp only [actAlarmArm, if_neg (Nat.not_le.mpr hlater), State.withAlarm]

theorem actAlarmArm_late {s : State} {n : Nat} (hlate : s.get64 Reg.KS_ALARMn_LO Reg.KS_ALARMn_HI n ≤ s.ks.count) :
    actAlarmArm n s = (s.set Reg.KS_ALARMn_CTRL_STATE 3 n, stOk) := if_pos hlate

theorem actAlarmDisarm_on {s : State} {n : Nat} (hon : nth s.ks.alarmOn n false = true) :
    actAlarmDisarm n s = ((s.setAlarm n false).set Reg.KS_ALARMn_CTRL_STATE 4 n, stOk) := by
  simp only [actAlarmDisarm, hon, if_true]

theorem actAlarmDisarm_off {s : State} {n : Nat} (hoff : nth s.ks.alarmOn n false = false) :
    actAlarmDisarm n s = (s, stOk) := by
  simp only [actAlarmDisarm, hoff, Bool.false_eq_true, if_false]

/-- A capture takes a cycle from the last one known of the tick up to its last. -/
theorem actCapture_cycle {s : State} (hcycle : s.ks.cycle < rateCycles s.rate) :
    ∃ c, s.ks.cycle ≤ c ∧ c < rateCycles s.rate ∧ actCapture s =
      ((({ s with free := s.free + 1 } : State).set64 Reg.KS_CAP_LO Reg.KS_CAP_HI s.ks.count).set Reg.KS_CAP_CYCLE_CYCLE c, stOk) := by
  have hfree := Nat.mod_lt (Config.asyncCycle s.free) (Nat.sub_pos_of_lt hcycle)
  exact ⟨s.ks.cycle + Config.asyncCycle s.free % (rateCycles s.rate - s.ks.cycle), by omega, by omega, rfl⟩

theorem actOvrClr_eq (s : State) : actOvrClr s = (((s.setWord Reg.KS_OVR_COUNT 0#32).set64 Reg.KS_OVR_LAST_LO
    Reg.KS_OVR_LAST_HI 0).setWord Reg.KS_OVR_STONES 0#32, stOk) := rfl

/-- Settles O15: each write starts one action of KS_CTRL or KS_ALARMn_CTRL, which keep no field of their own. -/
theorem keystoneCommandsTakeEffect : Obligations.KeystoneCommandsTakeEffect := by
  refine ⟨fun acc n s howns hlater => ?_, fun acc n s howns hlate => ?_, fun acc n s howns hon => ?_, fun acc n s howns hoff => ?_,
    fun acc s howns hcycle => ?_, fun acc s howns => ?_⟩
  · exact congrArg _ (hostSet_owner (rowAt_KS_ALARMn_CTRL n) rfl ⟨rfl, by decide⟩ howns rfl (actAlarmArm_later hlater) rfl)
  · exact congrArg _ (hostSet_owner (rowAt_KS_ALARMn_CTRL n) rfl ⟨rfl, by decide⟩ howns rfl (actAlarmArm_late hlate) rfl)
  · exact congrArg _ (hostSet_owner (rowAt_KS_ALARMn_CTRL n) rfl ⟨rfl, by decide⟩ howns rfl (actAlarmDisarm_on hon) rfl)
  · exact congrArg _ (hostSet_owner (rowAt_KS_ALARMn_CTRL n) rfl ⟨rfl, by decide⟩ howns rfl (actAlarmDisarm_off hoff) rfl)
  · obtain ⟨c, hfrom, hbelow, hcapture⟩ := actCapture_cycle hcycle
    exact ⟨c, hfrom, hbelow, congrArg _ (hostSet_owner rowAt_KS_CTRL rfl ⟨rfl, by decide⟩ howns rfl hcapture rfl)⟩
  · exact congrArg _ (hostSet_owner rowAt_KS_CTRL rfl ⟨rfl, by decide⟩ howns rfl (actOvrClr_eq s) rfl)

end Sys2Proof.Machine

/-! PROOFS. What the shared operations leave alone: the word of another register, and the host interface. -/
namespace Sys2Proof.Machine
open Sys2Proof

/-! ## Reads after the word of another register -/

theorem get_setWord_other {s : State} {f g : Fld} {w : Word} {i j t i' j' t' : Nat} (hregs : rising s.regs = true)
    (hkey : g.key i' j' t' ≠ f.key i j t) : (s.setWord f w i j t).get g i' j' t' = s.get g i' j' t' :=
  get_setWord_ne s f g w i j t i' j' t' hregs hkey

theorem is_setWord_ne {s : State} {f g : Fld} {w : Word} {i j t i' j' t' : Nat} (hregs : rising s.regs = true)
    (hkey : g.key i' j' t' ≠ f.key i j t) : (s.setWord f w i j t).is g i' j' t' = s.is g i' j' t' := by
  simp only [State.is, get_setWord_ne s f g w i j t i' j' t' hregs hkey]

theorem get64_setWord_ne {s : State} {f lo hi : Fld} {w : Word} {i j t i' t' : Nat} (hregs : rising s.regs = true)
    (hlo : lo.key i' 0 t' ≠ f.key i j t) (hhi : hi.key i' 0 t' ≠ f.key i j t) :
    (s.setWord f w i j t).get64 lo hi i' t' = s.get64 lo hi i' t' := by
  simp only [State.get64, get_setWord_ne s f _ w i j t i' 0 t' hregs hlo, get_setWord_ne s f _ w i j t i' 0 t' hregs hhi]

theorem get_setWord_field {s : State} {f g : Fld} {w : Word} {i j t v : Nat} (hregs : rising s.regs = true)
    (hsame : g.addr = f.addr ∧ g.s1 = f.s1 ∧ g.s2 = f.s2 ∧ g.reset = f.reset ∧ g.own = f.own) (hw : bitsOf w.toNat g.hi g.lo = v) :
    (s.setWord f w i j t).get g i j t = v := by
  rw [get_setWord_same _ _ _ _ _ _ _ hregs hsame, hw]

/-! ## The host interface

No operation of the units touches the requests of the hosts: a write that goes straight through is answered at once. -/

theorem foldl_host {α : Type} {f : State → α → State} (hf : ∀ u x, (f u x).host = u.host) (l : List α) (s : State) :
    (l.foldl f s).host = s.host := by
  induction l generalizing s with
  | nil => rfl
  | cons x l ih => exact (ih _).trans (hf _ _)

theorem forN_host {f : State → Nat → State} (hf : ∀ u m, (f u m).host = u.host) (n : Nat) (s : State) :
    (s.forN n f).host = s.host := foldl_host hf _ _

@[simp] theorem fresh_host (s : State) : s.fresh.2.host = s.host := rfl

@[simp] theorem log_host (s : State) (kind source : Nat) (data : List Byte) : (s.log kind source data).host = s.host := by
  simp only [State.log]
  split <;> rfl

@[simp] theorem histPush_host (s : State) (e : HistEntry) : (s.histPush e).host = s.host := by
  simp only [State.histPush]
  split
  · simp
  · split <;> simp

@[simp] theorem holdAnalog_host (s : State) (mask : Nat) : (s.holdAnalog mask).host = s.host := by
  refine forN_host (fun u n => ?_) 4 s
  dsimp only
  split <;> simp

@[simp] theorem recFreeze_host (s : State) : s.recFreeze.host = s.host := by
  simp only [State.recFreeze]
  split <;> rfl

@[simp] theorem eccWrite_host (s : State) (k a n : Nat) : (s.eccWrite k a n).host = s.host := by
  unfold State.eccWrite
  extract_lets ws u
  have hdrops : u.host = s.host := foldl_host (f := fun s w => s.eccDrop k w) (fun _ _ => rfl) ws s
  clear_value u
  split
  · split <;> exact hdrops
  · exact hdrops

@[simp] theorem freezeHist_host (s : State) : s.freezeHist.host = s.host := eccWrite_host _ _ _ _

@[simp] theorem raiseEntered_host (s : State) (src unit : Nat) (e : HistEntry) : (s.raiseEntered src unit e).host = s.host := by
  simp only [State.raiseEntered]
  split <;> simp

@[simp] theorem raiseNoted_host (s : State) (src unit : Nat) (e : HistEntry) : (s.raiseNoted src unit e).host = s.host := by
  simp only [State.raiseNoted, State.raiseCounted]
  split <;> simp

@[simp] theorem raiseActs_host (s : State) (cls an : Nat) : (s.raiseActs cls an).host = s.host := by
  simp only [State.raiseActs]
  split <;> split <;> simp

@[simp] theorem raise_host (s : State) (src unit d : Nat) (cyc : Option Nat) (hv inj : Bool) :
    (s.raise src unit d cyc hv inj).host = s.host := by
  cases hrow : sourceRow src with
  | none => rw [raise_of_no_row hrow]
  | some row =>
    obtain ⟨entry, ch, an, hraise⟩ := raise_of_row (s := s) (cyc := cyc) (hv := hv) (inj := inj) hrow unit d
    rw [hraise]
    split
    · simp
    · simp [State.raiseKept]

@[simp] theorem raiseActive_host (s : State) (src unit d : Nat) (cyc : Option Nat) (hv : Bool) :
    (s.raiseActive src unit d cyc hv).host = s.host := raise_host _ _ _ _ _ _ _

@[simp] theorem follow_host (s : State) (src : Nat) (on : Bool) : (s.follow src on).host = s.host := by
  simp only [State.follow]
  split
  · simp
  · split <;> simp

/-! ### Outputs -/

@[simp] theorem setAna_host (s : State) (n v : Nat) : (s.setAna n v).host = s.host := by
  simp only [State.setAna]
  split <;> simp

@[simp] theorem anaDown_host (s : State) (n : Nat) : (s.anaDown n).host = s.host := by
  simp only [State.anaDown]
  split
  · rfl
  · split <;> simp

@[simp] theorem anaStop_host (s : State) (mask : Nat) : (s.anaStop mask).host = s.host := by
  refine forN_host (fun u n => ?_) 4 s
  split <;> simp

@[simp] theorem runCtrl_host (s : State) (n : Nat) (bits : List Nat) : (s.runCtrl n bits).host = s.host := by
  simp only [State.runCtrl]
  split <;> rfl

@[simp] theorem diagFinish_host (result : Nat) (s : State) : (diagFinish result s).host = s.host := by simp [diagFinish]

@[simp] theorem diagAbort_host (keep : Nat) (s : State) : (diagAbort keep s).host = s.host := by
  simp only [diagAbort]
  split
  · rfl
  · rw [diagFinish_host]
    exact foldl_host (fun _ _ => runCtrl_host _ _ _) _ _

@[simp] theorem muteOutputs_host (mask : Nat) (s : State) : (muteOutputs mask s).host = s.host := by
  simp only [muteOutputs, diagStopped, anaStop_host, State.askStop]
  split <;> simp

@[simp] theorem anaUp_host (s : State) (n : Nat) : (s.anaUp n).host = s.host := by simp [State.anaUp]

@[simp] theorem anaOwnStart_host (s : State) (n : Nat) : (s.anaOwnStart n).host = s.host := by
  simp only [State.anaOwnStart]
  repeat' split
  all_goals simp

@[simp] theorem anaStart_host (s : State) (mask : Nat) : (s.anaStart mask).host = s.host := by
  refine forN_host (fun u n => ?_) 4 s
  split <;> simp

@[simp] theorem startOutputs_host (s : State) : (startOutputs s).host = s.host := by
  simp only [startOutputs]
  split
  · simp [State.askStart]
  · rfl

@[simp] theorem holdUpdate_host (s : State) : (holdUpdate s).host = s.host := by
  simp only [holdUpdate]
  repeat' split
  all_goals simp

end Sys2Proof.Machine

/-! PROOFS. The flash slots and the image control of a host (R69 to R72, R105 to R125). -/
namespace Sys2Proof.Machine
open Sys2Proof Sys2Proof.Machine.Laws

/-! ## The flash slots -/

theorem rowAt_IMG_SLOT_CTRL : RowAt Reg.IMG_SLOT_CTRL 0 row_IMG_SLOT_CTRL := rowAt_of find_IMG_SLOT_CTRL addr_IMG_SLOT_CTRL rfl

theorem waActs_IMG_SLOT_CTRL (i t : Nat) (p : Path) (v : Nat) : waActs row_IMG_SLOT_CTRL i t p v =
    (if bit v 0 then [fun s => slotOpen (s.get Reg.IMG_SLOT_CTRL_SLOT) s] else []) ++
    (if bit v 1 then [fun s => slotClose (s.get Reg.IMG_SLOT_CTRL_SLOT) s] else []) ++
    (if bit v 2 then [fun s => slotVerify (s.get Reg.IMG_SLOT_CTRL_SLOT) s] else []) := rfl

/-- The state in which a slot is open and erasing. -/
def State.slotOpened (s : State) (n : Nat) : State :=
  (s.modSlot n (fun x => { x with state := 1, code := 0, bytes := [], bad := [], erasing := true, cut := false })).slotWritten n

theorem slotWritten_host (s : State) (n : Nat) : (s.slotWritten n).host = s.host := by
  simp only [State.slotWritten]
  split <;> rfl

theorem slotWritten_slot (s : State) (n k : Nat) : (s.slotWritten n).slot k = s.slot k := by
  simp only [State.slotWritten]
  split <;> rfl

/-- SLOT_OPEN opens the slot that it names. -/
theorem exec_slotOpen {acc : Access} {b : Bool} {s : State} (howns : s.owns acc 0x20048 = true) (hcanon : s.canon = true)
    (hfree : s.slotBusy (b2n b) = false) : ∃ u, s.Wrote Reg.IMG_SLOT_CTRL 0 0 [(Reg.IMG_SLOT_CTRL_SLOT, b2n b)] u ∧
    exec (.slotOpen acc b) s = .next ((u.slotOpened (b2n b)).answered stOk) := by
  have hregs := rising_of_canon hcanon
  refine next_of_wrote rfl (hostSet_owner_wrote (act := fun s => slotOpen (s.get Reg.IMG_SLOT_CTRL_SLOT) s) rowAt_IMG_SLOT_CTRL
    rfl (by decide) ⟨rfl, by decide⟩ (fun w => rfl) howns rfl
    (fieldsRead_cons rfl (by cases b <;> rfl) fieldsRead_nil) (fun v hv => ?_) (fun w hw => ?_))
  · rw [waActs_IMG_SLOT_CTRL, hv 0 (by decide) rfl, hv 1 (by decide) rfl, hv 2 (by decide) rfl]
    rfl
  · have hslot := get_setWord_field hregs (f := Reg.IMG_SLOT_CTRL) (g := Reg.IMG_SLOT_CTRL_SLOT) (i := 0) (j := 0) (t := 0)
      ⟨rfl, rfl, rfl, rfl, rfl⟩ (hw _ List.mem_cons_self)
    refine ⟨?_, slotWritten_host _ _⟩
    rw [hslot]
    exact if_neg (Bool.eq_false_iff.mp hfree)

/-- A node just powered, with slot 0 written in part when power failed. -/
def cutSlot : State :=
  { State.reset with
    dom := { DomState.reset with powered := true }
    img := { ImgState.reset with slots := [{ Slot.erased with cut := true }, Slot.erased] } }

/-- Refutes O16: SLOT_OPEN also ends the mark of a slot that was being written when power failed (R73), which the statement
keeps. -/
theorem not_flashSlotCommandsTakeEffect : ¬ Obligations.FlashSlotCommandsTakeEffect := by
  unfold Obligations.FlashSlotCommandsTakeEffect
  rintro ⟨hopen, -⟩
  have howns : cutSlot.owns ⟨.debug, 0⟩ 0x20048 = true := by decide
  have hcanon : cutSlot.canon = true := by decide
  have hidle : cutSlot.slotBusy (b2n false) = false := by decide
  obtain ⟨u, ⟨w, -, rfl⟩, hkept⟩ := hopen ⟨.debug, 0⟩ false cutSlot howns hcanon hidle (by decide)
  obtain ⟨v, ⟨x, -, rfl⟩, hcleared⟩ := exec_slotOpen (b := false) howns hcanon hidle
  rw [hcleared] at hkept
  injection hkept with hsame
  have hcut := congrArg (fun s : State => (s.slot 0).cut) hsame
  simp only [State.answered, State.slotOpened] at hcut
  have hslot := congrArg Slot.cut (slotWritten_slot ((cutSlot.setWord Reg.IMG_SLOT_CTRL x).modSlot (b2n false)
    (fun x => { x with state := 1, code := 0, bytes := [], bad := [], erasing := true, cut := false })) (b2n false) 0)
  exact Bool.false_ne_true (hslot.symm.trans hcut)

/-! ## Image control -/

theorem rowAt_IMG_CTRL : RowAt Reg.IMG_CTRL 0 row_IMG_CTRL := rowAt_of find_IMG_CTRL addr_IMG_CTRL rfl

/-- The actions of IMG_CTRL whose bits are set. -/
def imgActs (on : Nat → Bool) : List (State → Act) :=
  (if on 0 then [fun s => imgLoad (s.get Reg.IMG_CTRL_SLOT) false s] else []) ++ (if on 1 then [actImgArm] else []) ++
    (if on 2 then [actImgDisarm] else []) ++ (if on 3 then [actImgDiscard] else []) ++
    (if on 4 then [actDeactivate] else []) ++ (if on 5 then [actAccept] else [])

theorem waActs_IMG_CTRL (i t : Nat) (p : Path) (v : Nat) : waActs row_IMG_CTRL i t p v = imgActs (bit v) := rfl

theorem imgActs_congr {on off : Nat → Bool} (hsame : ∀ b < 6, on b = off b) : imgActs on = imgActs off := by
  simp only [imgActs, hsame 0 (by decide), hsame 1 (by decide), hsame 2 (by decide), hsame 3 (by decide), hsame 4 (by decide),
    hsame 5 (by decide)]

/-- A write of IMG_CTRL with one of its action bits: the slot is kept, and the one action acts. -/
theorem hostSet_IMG_CTRL {acc : Access} {s : State} {st slot : Nat} {act : State → Act} {g : State → State}
    {fs : List (Nat × Nat × Nat)} (howns : s.owns acc 0x20004 = true) (hacts : imgActs (fun b => bitAfter fs b false) = [act])
    (hfs : fs.all (fun g => decide (g.2.1 ≤ g.1)) = true) (hslot : fieldOf Reg.IMG_CTRL row_IMG_CTRL fs Reg.IMG_CTRL_SLOT = true ∧
      fieldAfter fs 8 8 (s.get Reg.IMG_CTRL_SLOT) = slot)
    (hact : ∀ w : Word, bitsOf w.toNat 8 8 = slot →
      act (s.setWord Reg.IMG_CTRL w) = (g (s.setWord Reg.IMG_CTRL w), st) ∧ (g (s.setWord Reg.IMG_CTRL w)).host = s.host) :
    ∃ u, s.Wrote Reg.IMG_CTRL 0 0 [(Reg.IMG_CTRL_SLOT, slot)] u ∧ hostSet acc Reg.IMG_CTRL 0 fs s = (g u).answered st := by
  have hmask : ∀ b < 6, bit (row_IMG_CTRL.mask .rw) b = false := by decide
  refine hostSet_owner_wrote rowAt_IMG_CTRL rfl (by decide) ⟨rfl, by decide⟩ (fun w => rfl) howns hfs
    (fieldsRead_cons hslot.1 hslot.2 fieldsRead_nil) (fun v hv => ?_) (fun w hw => hact w (hw _ List.mem_cons_self))
  rw [waActs_IMG_CTRL, imgActs_congr fun b hb => hv b (by omega) (hmask b hb), hacts]

section
variable {s : State} {w : Word}

theorem stage_IMG_CTRL (hregs : rising s.regs = true) : (s.setWord Reg.IMG_CTRL w).stage = s.stage :=
  get_setWord_ne _ _ _ _ _ _ _ _ _ _ hregs (by decide)

theorem epochMis_IMG_CTRL (hregs : rising s.regs = true) : (s.setWord Reg.IMG_CTRL w).epochMis = s.epochMis := by
  simp (disch := decide) only [State.epochMis, State.setWord_img, State.setWord_rct, is_setWord_ne hregs]

end

@[simp] theorem refuse_host (s : State) (e : Refuse) : (s.refuse e).host = s.host := by simp [State.refuse]

@[simp] theorem armAt_host (tick : Nat) (im : Image) (s : State) : (armAt tick im s).host = s.host := by
  simp only [armAt]
  split
  · simp [State.refuseA]
  · rfl

theorem rowAt_IMG_SIG : RowAt Reg.IMG_SIG 0 row_IMG_SIG := rowAt_of find_IMG_SIG addr_IMG_SIG rfl

theorem withImg_set (s : State) (im : ImgState) (f : Fld) (v i j t : Nat) :
    ({ s with img := im } : State).set f v i j t = { s.set f v i j t with img := im } := rfl

theorem withImg_set64 (s : State) (im : ImgState) (lo hi : Fld) (v i t : Nat) :
    ({ s with img := im } : State).set64 lo hi v i t = { s.set64 lo hi v i t with img := im } := rfl

section
variable {acc : Access} {s : State}

theorem exec_imgLoad {b : Bool} (howns : s.owns acc 0x20004 = true) (hcanon : s.canon = true) (h3 : s.stage ≠ 3)
    (h4 : s.stage ≠ 4) (hclosed : (s.slot (b2n b)).state ≠ 1) :
    ∃ u, s.Wrote Reg.IMG_CTRL 0 0 [(Reg.IMG_CTRL_SLOT, b2n b)] u ∧ exec (.imgLoad acc b) s = .next
    ((((({ u with img := { u.img with staged := none, loading := some (b2n b), auto := false } } : State).set
      Reg.IMG_REBUILD_TICKS 0).set64 Reg.IMG_EPOCH_STG_LO Reg.IMG_EPOCH_STG_HI 0).set Reg.IMG_STATUS_STAGE 1).answered stOk) := by
  have hregs := rising_of_canon hcanon
  refine next_of_wrote rfl (hostSet_IMG_CTRL howns rfl rfl (by cases b <;> exact ⟨rfl, rfl⟩) fun w hw => ⟨?_, by simp⟩)
  have hrun : ¬(s.stage = 3 ∨ s.stage = 4 ∨ ((s.setWord Reg.IMG_CTRL w).slot (b2n b)).state = 1) :=
    not_or.mpr ⟨h3, not_or.mpr ⟨h4, hclosed⟩⟩
  rw [get_setWord_field (f := Reg.IMG_CTRL) (g := Reg.IMG_CTRL_SLOT) hregs ⟨rfl, rfl, rfl, rfl, rfl⟩ hw, imgLoad,
    stage_IMG_CTRL hregs, if_neg hrun]
  simp -implicitDefEqProofs only [State.unstage, withImg_set, withImg_set64]

theorem exec_imgArm {im : Image} (howns : s.owns acc 0x20004 = true) (hcanon : s.canon = true) (hstaged : s.img.staged = some im)
    (hstage : s.stage = 2) : ∃ u, s.Wrote Reg.IMG_CTRL 0 0 [(Reg.IMG_CTRL_SLOT, s.get Reg.IMG_CTRL_SLOT)] u ∧
    exec (.imgArm acc) s = .next ((armAt (s.get64 Reg.IMG_ACT_TICK_LO Reg.IMG_ACT_TICK_HI) im u).answered stOk) := by
  have hregs := rising_of_canon hcanon
  refine next_of_wrote rfl (hostSet_IMG_CTRL howns rfl rfl ⟨rfl, rfl⟩ fun w hw => ⟨?_, by simp⟩)
  simp (disch := decide) only [actImgArm, State.setWord_img, hstaged, stage_IMG_CTRL hregs, hstage, if_true,
    get64_setWord_ne hregs]

theorem exec_imgDisarm (howns : s.owns acc 0x20004 = true) (hcanon : s.canon = true) (hstage : s.stage = 3) :
    ∃ u, s.Wrote Reg.IMG_CTRL 0 0 [(Reg.IMG_CTRL_SLOT, s.get Reg.IMG_CTRL_SLOT)] u ∧
    exec (.imgDisarm acc) s = .next ((u.set Reg.IMG_STATUS_STAGE 2).answered stOk) := by
  have hregs := rising_of_canon hcanon
  refine next_of_wrote rfl (hostSet_IMG_CTRL howns rfl rfl ⟨rfl, rfl⟩ fun w hw => ⟨?_, by simp⟩)
  simp [actImgDisarm, stage_IMG_CTRL hregs, hstage]

theorem exec_imgDiscard (howns : s.owns acc 0x20004 = true) (hcanon : s.canon = true) (h3 : s.stage ≠ 3) (h4 : s.stage ≠ 4) :
    ∃ u, s.Wrote Reg.IMG_CTRL 0 0 [(Reg.IMG_CTRL_SLOT, s.get Reg.IMG_CTRL_SLOT)] u ∧ exec (.imgDiscard acc) s = .next
    ((((({ u with img := { u.img with staged := none, loading := none, auto := false } } : State).set
      Reg.IMG_REBUILD_TICKS 0).set64 Reg.IMG_EPOCH_STG_LO Reg.IMG_EPOCH_STG_HI 0).set Reg.IMG_STATUS_STAGE 0).answered stOk) := by
  have hregs := rising_of_canon hcanon
  refine next_of_wrote rfl (hostSet_IMG_CTRL howns rfl rfl ⟨rfl, rfl⟩ fun w hw => ⟨?_, by simp⟩)
  rw [actImgDiscard, stage_IMG_CTRL hregs, if_neg (by simp [h3, h4])]
  simp -implicitDefEqProofs only [State.unstage, withImg_set, withImg_set64]

theorem exec_imgDeactivate (howns : s.owns acc 0x20004 = true) (hcanon : s.canon = true) (hactive : s.img.active.isSome = true)
    (h4 : s.stage ≠ 4) (hovr : s.is Reg.MIX_OVR_STATUS_EFFECTIVE = false) :
    ∃ u, s.Wrote Reg.IMG_CTRL 0 0 [(Reg.IMG_CTRL_SLOT, s.get Reg.IMG_CTRL_SLOT)] u ∧
    exec (.imgDeactivate acc) s = .next ((muteOutputs 4095 { u with img := { u.img with deact := true } }).answered stOk) := by
  have hregs := rising_of_canon hcanon
  refine next_of_wrote rfl (hostSet_IMG_CTRL howns rfl rfl ⟨rfl, rfl⟩ fun w hw => ⟨?_, by simp⟩)
  simp (disch := decide) only [actDeactivate, stage_IMG_CTRL hregs, is_setWord_ne hregs, State.setWord_img]
  exact if_neg (by simpa [h4, hovr, Option.isSome_iff_ne_none] using hactive)

theorem exec_imgAccept {im : Image} (howns : s.owns acc 0x20004 = true) (hcanon : s.canon = true) (hactive : s.img.active = some im)
    (hmis : s.epochMis = true) (hdelay : im.dMin ≤ s.get Reg.KS_PRES_DELAY) (hrate : s.is Reg.RING_CTL_STATUS_RATE_MIS = false) :
    ∃ u, s.Wrote Reg.IMG_CTRL 0 0 [(Reg.IMG_CTRL_SLOT, s.get Reg.IMG_CTRL_SLOT)] u ∧
    exec (.imgAccept acc) s = .next ((holdUpdate (u.setB Reg.IMG_STATUS_ACCEPTED true)).answered stOk) := by
  have hregs := rising_of_canon hcanon
  refine next_of_wrote rfl (hostSet_IMG_CTRL howns rfl rfl ⟨rfl, rfl⟩ fun w hw => ⟨?_, by simp⟩)
  simp (disch := decide) only [actAccept, State.setWord_img, hactive, epochMis_IMG_CTRL hregs, hmis, is_setWord_ne hregs, hrate,
    get_setWord_other hregs]
  simp [Nat.not_lt.mpr hdelay]

theorem exec_sigLock (howns : s.owns acc 0x2003C = true) (hlock : s.is Reg.IMG_SIG_LOCK = false) :
    ∃ u, s.Wrote Reg.IMG_SIG 0 0 [(Reg.IMG_SIG_LOCK, 1), (Reg.IMG_SIG_ENFORCE, s.get Reg.IMG_SIG_ENFORCE)] u ∧
      exec (.sigLock acc) s = .next (u.answered stOk) := by
  obtain ⟨w, hvals, hrun⟩ := hostSet_unit_vals (fs := [Reg.IMG_SIG_LOCK.is' 1]) (t := 0)
    (vals := [(Reg.IMG_SIG_LOCK, 1), (Reg.IMG_SIG_ENFORCE, s.get Reg.IMG_SIG_ENFORCE)]) rowAt_IMG_SIG (by decide) (owns_zero howns)
    (fun v => rfl) (owns_opens howns) (owns_zero howns ▸ mayWriteReg_of_owner ⟨rfl, by decide⟩ (owns_zero howns))
    (fieldsRead_cons rfl rfl (fieldsRead_cons rfl rfl fieldsRead_nil))
  have hunlocked : bit (s.word Reg.IMG_SIG).toNat 1 = false := hlock
  refine ⟨_, ⟨w, hvals, rfl⟩, congrArg _ (hrun (s.setWord Reg.IMG_SIG w) stOk ?_ rfl)⟩
  show (s.setWord Reg.IMG_SIG (if bit (s.word Reg.IMG_SIG).toNat 1 then s.word Reg.IMG_SIG else w), stOk) = _
  rw [hunlocked]
  rfl

end

/-- Settles O17: each write of IMG_CTRL starts the action of its bit on the state with the slot kept; IMG_SIG has a lock of its
own. -/
theorem imageCommandsTakeEffect : Obligations.ImageCommandsTakeEffect :=
  ⟨fun _ _ _ howns hcanon h3 h4 hclosed => exec_imgLoad howns hcanon h3 h4 hclosed,
    fun _ _ _ howns hcanon hstaged hstage => exec_imgArm howns hcanon hstaged hstage,
    fun _ _ howns hcanon hstage => exec_imgDisarm howns hcanon hstage,
    fun _ _ howns hcanon h3 h4 => exec_imgDiscard howns hcanon h3 h4,
    fun _ _ howns hcanon hactive h4 hovr => exec_imgDeactivate howns hcanon hactive h4 hovr,
    fun _ _ _ howns hcanon hactive hmis hdelay hrate => exec_imgAccept howns hcanon hactive hmis hdelay hrate,
    fun _ _ howns _ hlock => exec_sigLock howns hlock⟩

end Sys2Proof.Machine

/-! PROOFS. Engine, latch, recorder and PFIR commands of a host (R153, R166, R178, R191, R195, R202). -/
namespace Sys2Proof.Machine
open Sys2Proof Sys2Proof.Machine.Laws

theorem rowAt_ENG_CTRL : RowAt Reg.ENG_CTRL 0 row_ENG_CTRL := rowAt_of find_ENG_CTRL addr_ENG_CTRL rfl
theorem rowAt_MIX_LATCH_CTRL : RowAt Reg.MIX_LATCH_CTRL 0 row_MIX_LATCH_CTRL := rowAt_of find_MIX_LATCH_CTRL addr_MIX_LATCH_CTRL rfl
theorem rowAt_MIX_REC_CTRL : RowAt Reg.MIX_REC_CTRL 0 row_MIX_REC_CTRL := rowAt_of find_MIX_REC_CTRL addr_MIX_REC_CTRL rfl
theorem rowAt_MIX_PFIR_CTRL : RowAt Reg.MIX_PFIR_CTRL 0 row_MIX_PFIR_CTRL := rowAt_of find_MIX_PFIR_CTRL addr_MIX_PFIR_CTRL rfl

theorem waActs_ENG_CTRL (i t : Nat) (p : Path) (v : Nat) : waActs row_ENG_CTRL i t p v =
    (if bit v 1 then [actPeakClr] else []) ++ (if bit v 2 then [actEngCntClr] else []) := rfl
theorem waActs_MIX_REC_CTRL (i t : Nat) (p : Path) (v : Nat) : waActs row_MIX_REC_CTRL i t p v =
    (if bit v 0 then [actRecRun] else []) ++
    (if bit v 1 then [fun s => if s.get Reg.MIX_REC_STATUS_STATE = 0 then (s, stBusy) else (s.recFreeze, stOk)] else []) := rfl
theorem waActs_MIX_PFIR_CTRL (i t : Nat) (p : Path) (v : Nat) : waActs row_MIX_PFIR_CTRL i t p v =
    (if bit v 31 then [actPfirLoad t] else []) := rfl

section
variable {acc : Access} {s : State}

/-! ## Counters of the engine -/

theorem exec_engCntClr (howns : s.owns acc 0x30004 = true) :
    ∃ u, s.Wrote Reg.ENG_CTRL 0 0 [(Reg.ENG_CTRL_GATE, s.get Reg.ENG_CTRL_GATE)] u ∧ exec (.engCntClr acc) s = .next
    ((((((u.setWord Reg.ENG_XFER_GROUT 0#32).setWord Reg.ENG_STREAM_LATE 0#32).setWord Reg.ENG_ECC_CORR 0#32).setWord
      Reg.ENG_NAN 0#32).setB Reg.ENG_STREAM_LAST_VALID false).answered stOk) := by
  refine next_of_wrote rfl (hostSet_owner_wrote (act := actEngCntClr) rowAt_ENG_CTRL rfl (by decide) ⟨rfl, by decide⟩ (fun w => rfl)
    howns rfl (fieldsRead_cons rfl rfl fieldsRead_nil) (fun v hv => ?_) (fun w _ => ⟨rfl, by simp⟩))
  rw [waActs_ENG_CTRL, hv 1 (by decide) rfl, hv 2 (by decide) rfl]
  rfl

theorem exec_engPeakClr (howns : s.owns acc 0x30004 = true) :
    ∃ u, s.Wrote Reg.ENG_CTRL 0 0 [(Reg.ENG_CTRL_GATE, s.get Reg.ENG_CTRL_GATE)] u ∧ exec (.engPeakClr acc) s = .next
    ((u.forN 32 (fun s n => (s.set Reg.ENG_STONEn_PEAK_END 0 n).setWord Reg.ENG_STONEn_STALL 0#32 n)).answered stOk) := by
  refine next_of_wrote rfl (hostSet_owner_wrote (act := actPeakClr) rowAt_ENG_CTRL rfl (by decide) ⟨rfl, by decide⟩ (fun w => rfl)
    howns rfl (fieldsRead_cons rfl rfl fieldsRead_nil) (fun v hv => ?_) (fun w _ => ⟨rfl, forN_host (by simp) _ _⟩))
  rw [waActs_ENG_CTRL, hv 1 (by decide) rfl, hv 2 (by decide) rfl]
  rfl

/-! ## The latch and the holds -/

theorem actLatchArm_later (hlater : s.ks.count < s.get64 Reg.MIX_LATCH_TICK_LO Reg.MIX_LATCH_TICK_HI) :
    actLatchArm s = (({ s with mix := { s.mix with latchOn := true, latchTgt := s.get64 Reg.MIX_LATCH_TICK_LO Reg.MIX_LATCH_TICK_HI } }
      : State).set Reg.MIX_LATCH_CTRL_STATE 1, stOk) := if_neg (Nat.not_le.mpr hlater)

theorem actLatchArm_late (hlate : s.get64 Reg.MIX_LATCH_TICK_LO Reg.MIX_LATCH_TICK_HI ≤ s.ks.count) :
    actLatchArm s = (s.set Reg.MIX_LATCH_CTRL_STATE 3, stOk) := if_pos hlate

theorem latchCancel_on (hon : s.mix.latchOn = true) : plainAct (fun s => (latchCancel s).1) s =
    (({ s with mix := { s.mix with latchOn := false } } : State).set Reg.MIX_LATCH_CTRL_STATE 4, stOk) := by
  simp only [plainAct, latchCancel, hon, if_true]

/-! ## The recorder -/

theorem exec_recRun (howns : s.owns acc 0x70040 = true) (hcanon : s.canon = true) (hstate : s.get Reg.MIX_REC_STATUS_STATE ≠ 0) :
    ∃ u, s.Wrote Reg.MIX_REC_CTRL 0 0 [(Reg.MIX_REC_CTRL_POST, s.get Reg.MIX_REC_CTRL_POST), (Reg.MIX_REC_CTRL_ON_HALT,
    s.get Reg.MIX_REC_CTRL_ON_HALT)] u ∧ exec (.recRun acc) s = .next ((u.set Reg.MIX_REC_STATUS_STATE 1).answered stOk) := by
  have hregs := rising_of_canon hcanon
  refine next_of_wrote rfl (hostSet_owner_wrote (act := actRecRun) rowAt_MIX_REC_CTRL rfl (by decide) ⟨rfl, by decide⟩
    (fun w => rfl) howns rfl (fieldsRead_cons rfl rfl (fieldsRead_cons rfl rfl fieldsRead_nil)) (fun v hv => ?_)
    (fun w _ => ⟨?_, by simp⟩))
  · rw [waActs_MIX_REC_CTRL, hv 0 (by decide) rfl, hv 1 (by decide) rfl]
    rfl
  · simp (disch := decide) only [actRecRun, get_setWord_other hregs, if_neg hstate]

theorem exec_recFreeze (howns : s.owns acc 0x70040 = true) (hcanon : s.canon = true)
    (hstate : s.get Reg.MIX_REC_STATUS_STATE = 1) :
    ∃ u, s.Wrote Reg.MIX_REC_CTRL 0 0 [(Reg.MIX_REC_CTRL_POST, s.get Reg.MIX_REC_CTRL_POST), (Reg.MIX_REC_CTRL_ON_HALT,
    s.get Reg.MIX_REC_CTRL_ON_HALT)] u ∧ exec (.recFreeze acc) s = .next
    ((({ u with mix := { u.mix with post := s.get Reg.MIX_REC_CTRL_POST } } : State).set Reg.MIX_REC_STATUS_STATE 2).answered stOk) := by
  have hregs := rising_of_canon hcanon
  refine next_of_wrote rfl (hostSet_owner_wrote
    (act := fun s => if s.get Reg.MIX_REC_STATUS_STATE = 0 then (s, stBusy) else (s.recFreeze, stOk)) rowAt_MIX_REC_CTRL rfl
    (by decide) ⟨rfl, by decide⟩ (fun w => rfl) howns rfl
    (fieldsRead_cons rfl rfl (fieldsRead_cons rfl rfl fieldsRead_nil)) (fun v hv => ?_)
    (fun w hw => ⟨?_, by simp⟩))
  · rw [waActs_MIX_REC_CTRL, hv 0 (by decide) rfl, hv 1 (by decide) rfl]
    rfl
  · have hpost := get_setWord_field (f := Reg.MIX_REC_CTRL) (g := Reg.MIX_REC_CTRL_POST) (i := 0) (j := 0) (t := 0) hregs
      ⟨rfl, rfl, rfl, rfl, rfl⟩ (hw _ List.mem_cons_self)
    simp (disch := decide) only [State.recFreeze, get_setWord_other hregs, hstate, hpost]
    rfl

/-! ## A PFIR load -/

theorem poolCovered_congr {u : State} (hten : u.ten = s.ten) (tn n lo hi : Nat) :
    u.poolCovered tn n lo hi = s.poolCovered tn n lo hi := by
  induction n generalizing lo with
  | zero => rfl
  | succ n ih => simp only [State.poolCovered, hten, ih]


theorem exec_pfirLoad {id : Fin 4096} {ch : Fin 8} {im : Image} {x : Inst} (hopens : s.opens acc 0x70028 = true)
    (hcanon : s.canon = true) (hactive : s.img.active = some im) (hinst : im.inst id.val = some x) (hfree : s.mix.pfir = none)
    (hkind : x.kind = 5) (hwriter : bit x.writers (accTen acc) = true) (hch : ch.val < x.nIn)
    (halign : s.get Reg.MIX_PFIR_SRC 0 0 (accTen acc) % 64 = 0) (hbase : 0x40000000 ≤ s.get Reg.MIX_PFIR_SRC 0 0 (accTen acc))
    (hend : s.get Reg.MIX_PFIR_SRC 0 0 (accTen acc) + 16384 * x.kver ≤ 2 ^ 32)
    (hcovered : s.poolCovered (accTen acc) 16 (s.pfirOff (accTen acc)) (s.pfirOff (accTen acc) + 16384 * x.kver) = true) : ∃ u,
    s.Wrote Reg.MIX_PFIR_CTRL 0 (accTen acc) [(Reg.MIX_PFIR_CTRL_CH, ch.val), (Reg.MIX_PFIR_CTRL_ID, id.val)] u ∧
    exec (.pfirLoad acc id ch) s = .next
    ((({ (u.putInst ((u.instSt id.val).setFade ch.val (fadeOut ((u.instSt id.val).pfirFade ch.val)))) with
      mix := { u.mix with pfir := some ⟨accTen acc, id.val, ch.val, 2 ^ 33 * accTen acc + s.pfirOff (accTen acc)⟩ } }
      : State)).answered stOk) := by
  have hregs := rising_of_canon hcanon
  refine next_of_wrote rfl (hostSet_wrote (act := actPfirLoad (accTen acc)) rowAt_MIX_PFIR_CTRL rfl (by decide) rfl
    (fun w => rfl) hopens (mayWriteReg_of_every rfl) rfl
    (fieldsRead_cons rfl (Nat.mod_eq_of_lt ch.isLt) (fieldsRead_cons rfl (Nat.mod_eq_of_lt id.isLt) fieldsRead_nil))
    (fun v hv => ?_) (fun w hw => ⟨?_, by simp⟩))
  · rw [waActs_MIX_PFIR_CTRL, hv 31 (by decide) rfl]
    rfl
  · have hchGet := get_setWord_field (f := Reg.MIX_PFIR_CTRL) (g := Reg.MIX_PFIR_CTRL_CH) (i := 0) (j := 0) (t := accTen acc) hregs
      ⟨rfl, rfl, rfl, rfl, rfl⟩ (hw _ List.mem_cons_self)
    have hidGet := get_setWord_field (f := Reg.MIX_PFIR_CTRL) (g := Reg.MIX_PFIR_CTRL_ID) (i := 0) (j := 0) (t := accTen acc) hregs
      ⟨rfl, rfl, rfl, rfl, rfl⟩ (hw _ (List.mem_cons_of_mem _ List.mem_cons_self))
    have hsrc : (s.setWord Reg.MIX_PFIR_CTRL w 0 0 (accTen acc)).get Reg.MIX_PFIR_SRC 0 0 (accTen acc) =
        s.get Reg.MIX_PFIR_SRC 0 0 (accTen acc) := get_setWord_other hregs (by simp [Fld.key, Reg.MIX_PFIR_SRC, Reg.MIX_PFIR_CTRL])
    have hcov := hcovered
    rw [← poolCovered_congr (show (s.setWord Reg.MIX_PFIR_CTRL w 0 0 (accTen acc)).ten = s.ten from rfl)] at hcov
    simp only [State.pfirOff] at hcov
    simp only [actPfirLoad, hchGet, hidGet, hsrc, State.setWord_img, hactive, hinst, State.setWord_mix, hfree, State.setWord_ten]
    rw [if_pos]
    · rfl
    · simp only [hcov, hwriter, hkind, hch, halign, hbase, hend, Option.isNone_none, decide_true, Bool.and_self]

end

/-- Settles O18: MIX_LATCH_CTRL keeps no field; in the other registers each write keeps the register's fields and starts the
action of its bit. -/
theorem engineCommandsTakeEffect : Obligations.EngineCommandsTakeEffect := by
  refine ⟨fun _ _ howns _ => exec_engCntClr howns, fun _ _ howns _ => exec_engPeakClr howns, fun acc s howns hlater => ?_,
    fun acc s howns hlate => ?_, fun acc s howns hon => ?_, fun acc s howns => ?_,
    fun _ _ howns hcanon hstate => exec_recRun howns hcanon hstate, fun _ _ howns hcanon hstate => exec_recFreeze howns hcanon hstate,
    fun _ _ _ _ _ _ hopens hcanon hactive hinst hfree hkind hwriter hch halign hbase hend hcovered =>
      exec_pfirLoad hopens hcanon hactive hinst hfree hkind hwriter hch halign hbase hend hcovered⟩
  · exact congrArg _ (hostSet_owner rowAt_MIX_LATCH_CTRL rfl ⟨rfl, by decide⟩ howns rfl (actLatchArm_later hlater) rfl)
  · exact congrArg _ (hostSet_owner rowAt_MIX_LATCH_CTRL rfl ⟨rfl, by decide⟩ howns rfl (actLatchArm_late hlate) rfl)
  · exact congrArg _ (hostSet_owner rowAt_MIX_LATCH_CTRL rfl ⟨rfl, by decide⟩ howns rfl (latchCancel_on hon) rfl)
  · exact congrArg _ (hostSet_owner (act := actHoldClr) rowAt_MIX_LATCH_CTRL rfl ⟨rfl, by decide⟩ howns rfl rfl rfl)

end Sys2Proof.Machine

/-! PROOFS. Parameters and safe-load swaps under a host (R53, R170, R189 to R191). -/
namespace Sys2Proof.Machine
open Sys2Proof Sys2Proof.Machine.Laws

/-! ## One access of a host -/

theorem leVal_leBytes (n v : Nat) : leVal (leBytes n v) = v % 2 ^ (8 * n) := by
  induction n generalizing v with
  | zero => simp [leBytes, leVal, Nat.mod_one]
  | succ n ih =>
    rw [leBytes, leVal, ih, BitVec.toNat_ofNat, show 8 * (n + 1) = 8 + 8 * n by omega, Nat.pow_add, Nat.mod_mul]

theorem leBytes_length (n v : Nat) : (leBytes n v).length = n := by
  induction n generalizing v with
  | zero => rfl
  | succ n ih => rw [leBytes, List.length_cons, ih]

/-- A write that goes straight through is answered with its status. -/
theorem single_open {x : Access} {a n v st : Nat} {s u : State} (hopens : s.opens x a = true)
    (haccess : access x.path (accTen x) true a n (v % 2 ^ (8 * n)) s = (u, .done st 0#32)) (hquiet : u.host.stalled = []) :
    single x true a n v s = u.answered st := by
  have hdata : leVal ((leBytes n v).take n) = v % 2 ^ (8 * n) := by
    rw [List.take_of_length_le (Nat.le_of_eq (leBytes_length n v)), leVal_leBytes]
  simp only [single, (opens_parts hopens).1]
  rw [runReq_single_done (u := u) (st := st) rfl (hdata.symm ▸ haccess)]
  exact resume_of_quiet hquiet

/-! ## The PARAM page -/

theorem widthOk_param {off : Nat} {w : Fin 3} (hoff : off < 65536) (halign : off % 2 ^ w.val = 0) :
    widthOk (0x40000 + off) (2 ^ w.val) = true := by
  have hblocks : inBlocks (0x40000 + off) = false := by simp [inBlocks]; omega
  have hwidths : ∀ w : Fin 3, 2 ^ w.val = 4 ∨ 2 ^ w.val = 1 ∨ 2 ^ w.val = 2 := by decide
  have hwidth := hwidths w
  have hmod : (0x40000 + off) % 2 ^ w.val = 0 := by
    rcases hwidth with h | h | h <;> rw [h] at halign ⊢ <;> omega
  rw [widthOk, hblocks]
  rcases hwidth with h | h | h <;> rw [h] at hmod ⊢ <;> simp [hmod]

/-- A write of `n` bytes to the PARAM page that goes straight through is the parameter write. -/
theorem exec_paramWrite {acc : Access} {off : Fin 65536} {w : Fin 3} {v : Word} {s u : State} {st : Nat}
    (hopens : s.opens acc (0x40000 + off.val) = true) (halign : off.val % 2 ^ w.val = 0)
    (hwrite : paramWrite (accTen acc) (off.val / 4) (off.val % 4) (2 ^ w.val) (v.toNat % 2 ^ (8 * 2 ^ w.val)) s = (u, st))
    (hhost : u.host = s.host) : exec (.paramWrite acc off w v) s = .next (u.answered st) := by
  refine congrArg _ (single_open hopens ?_ (hhost ▸ opens_quiet hopens))
  obtain ⟨-, hten, hdom, -⟩ := opens_parts hopens
  have hoff := off.isLt
  have hwidth := widthOk_param hoff halign
  have hmap : mapped (0x40000 + off.val) = true ∧ inStones (0x40000 + off.val) = false ∧ inDram (0x40000 + off.val) = false ∧
      (inMix (0x40000 + off.val) && decide (0x40000 + off.val < 0x70000)) = true := by
    simp [mapped, inMix, inStones, inDram]; omega
  obtain ⟨hmapped, hstones, hdram, hmix⟩ := hmap
  have hpage : (0x40000 + off.val) / 65536 = 4 ∧ (0x40000 + off.val) % 65536 = off.val ∧ (0x40000 + off.val) % 4 = off.val % 4 := by
    omega
  obtain ⟨hpage, hrest, hbyte⟩ := hpage
  simp only [access, hmapped, find_none_of_all _ _ hdom, hwidth, hten, hstones, hdram, hmix, mixAccess, hpage, hrest, hbyte, hwrite]
  rfl

section
variable {tn w o n v : Nat} {s : State} {im : Image} {x : Inst}

/-- What stands in a word when a parameter write meets it, and the word that it makes of it. -/
def mergedParam (old : Word) (o n v : Nat) : Word := BitVec.ofNat 32 (putBits old.toNat (8 * (o + n) - 1) (8 * o) v)

/-- A parameter write that the tenancy may make, of a class S word. -/
theorem paramWrite_classS (hactive : s.img.active = some im) (hinst : im.paramInst (s.get Reg.MIX_VIEW_TEN 0 0 tn) w = some x)
    (hwriter : bit x.writers tn = true) (hheld : s.heldFrom tn x.id = false) (h3 : s.stage ≠ 3) (h4 : s.stage ≠ 4)
    (hshadow : im.shadowAddr (s.get Reg.MIX_VIEW_TEN 0 0 tn) w = none) {new : Word}
    (hnew : new = mergedParam (nth (s.parNext x) (w - x.paramBase) 0#32) o n v) : paramWrite tn w o n v s =
      if !(x.range im.cls im.rate (w - x.paramBase)).ok new || !x.tiesOk (setNth (s.parNext x) (w - x.paramBase)
        ((x.range im.cls im.rate (w - x.paramBase)).norm new)) then mixReject tn s
      else ({ s with mix := { s.mix with pendS := s.mix.pendS ++
        [(x.id, w - x.paramBase, (x.range im.cls im.rate (w - x.paramBase)).norm new)] } }, stOk) := by
  simp only [paramWrite, hactive, hinst, hwriter, hheld, h3, h4, hshadow, hnew, mergedParam]
  rfl

/-- A parameter write that the tenancy may make, of a class L word. -/
theorem paramWrite_classL (hactive : s.img.active = some im) (hinst : im.paramInst (s.get Reg.MIX_VIEW_TEN 0 0 tn) w = some x)
    (hwriter : bit x.writers tn = true) (hheld : s.heldFrom tn x.id = false) (h3 : s.stage ≠ 3) (h4 : s.stage ≠ 4) {a : Nat}
    (hshadow : im.shadowAddr (s.get Reg.MIX_VIEW_TEN 0 0 tn) w = some a) {new : Word}
    (hnew : new = mergedParam (Mem.word s.mem.sram a) o n v) : paramWrite tn w o n v s =
      if !(x.range im.cls im.rate (w - x.paramBase)).ok new then mixReject tn s
      else ((s.sramWrite a (leBytes 4 ((x.range im.cls im.rate (w - x.paramBase)).norm new).toNat)).modSwap
        (s.get Reg.MIX_VIEW_TEN 0 0 tn) (fun y => { y with pend := true }), stOk) := by
  simp only [paramWrite, hactive, hinst, hwriter, hheld, h3, h4, hshadow, hnew, mergedParam]
  rfl

end

@[simp] theorem sramWrite_host (s : State) (a : Nat) (bs : List Byte) : (s.sramWrite a bs).host = s.host := by
  simp [State.sramWrite]

/-- A whole word replaces the old one. -/
theorem mergedParam_word (old v : Word) : mergedParam old 0 4 (v.toNat % 2 ^ (8 * 4)) = v := by
  have hold := old.isLt
  have hv := v.isLt
  apply BitVec.eq_of_toNat_eq
  simp only [mergedParam, putBits, BitVec.toNat_ofNat]
  omega

/-! ## Swaps -/

theorem rowAt_MIX_SWAP_CTRL : RowAt Reg.MIX_SWAP_CTRL 0 row_MIX_SWAP_CTRL := rowAt_of find_MIX_SWAP_CTRL addr_MIX_SWAP_CTRL rfl

/-- The actions of MIX_SWAP_CTRL whose bits are set. -/
def swapActs (t : Nat) (on : Nat → Bool) : List (State → Act) :=
  (if on 0 then [actSwapArm t] else []) ++ (if on 1 then [actSwapDisarm t] else []) ++ (if on 2 then [actSwapRevert t] else [])

theorem waActs_MIX_SWAP_CTRL (i t : Nat) (p : Path) (v : Nat) : waActs row_MIX_SWAP_CTRL i t p v = swapActs t (bit v) := rfl

/-- A write of MIX_SWAP_CTRL with one of its action bits: the space is kept, and the one action acts. -/
theorem hostSet_MIX_SWAP_CTRL {acc : Access} {s : State} {st : Nat} {sp : Fin 8} {act : State → Act} {g : State → State}
    {k : Nat × Nat × Nat} (hopens : s.opens acc 0x70004 = true) (hcanon : s.canon = true)
    (hacts : swapActs (accTen acc) (fun b => bitAfter [Reg.MIX_SWAP_CTRL_TEN.is' sp.val, k] b false) = [act])
    (hfield : fieldOf Reg.MIX_SWAP_CTRL row_MIX_SWAP_CTRL [Reg.MIX_SWAP_CTRL_TEN.is' sp.val, k] Reg.MIX_SWAP_CTRL_TEN = true)
    (hk : k.2.1 ≤ k.1 ∧ k.1 < 8)
    (hact : ∀ w, (s.setWord Reg.MIX_SWAP_CTRL w 0 0 (accTen acc)).get Reg.MIX_SWAP_CTRL_TEN 0 0 (accTen acc) = sp.val →
      act (s.setWord Reg.MIX_SWAP_CTRL w 0 0 (accTen acc)) = (g (s.setWord Reg.MIX_SWAP_CTRL w 0 0 (accTen acc)), st) ∧
        (g (s.setWord Reg.MIX_SWAP_CTRL w 0 0 (accTen acc))).host = s.host) :
    ∃ u, s.Wrote Reg.MIX_SWAP_CTRL 0 (accTen acc) [(Reg.MIX_SWAP_CTRL_TEN, sp.val)] u ∧
      hostSet acc Reg.MIX_SWAP_CTRL 0 [Reg.MIX_SWAP_CTRL_TEN.is' sp.val, k] s = (g u).answered st := by
  have hregs := rising_of_canon hcanon
  have hvalue : fieldAfter [Reg.MIX_SWAP_CTRL_TEN.is' sp.val, k] 10 8 (s.get Reg.MIX_SWAP_CTRL_TEN 0 0 (accTen acc)) = sp.val := by
    have hother : (k.1 == 10 && k.2.1 == 8) = false := by simp; omega
    simp only [fieldAfter, List.foldl_cons, List.foldl_nil, hother]
    exact Nat.mod_eq_of_lt sp.isLt
  refine hostSet_wrote (act := act) rowAt_MIX_SWAP_CTRL rfl (by decide) rfl (fun w => rfl) hopens (mayWriteReg_of_every rfl) ?_
    (fieldsRead_cons hfield hvalue fieldsRead_nil) (fun v hv => ?_) (fun w hw => hact w ?_)
  · simpa [Fld.is'] using ⟨by decide, hk.1⟩
  · rw [waActs_MIX_SWAP_CTRL, ← hacts]
    simp only [swapActs, hv 0 (by decide) rfl, hv 1 (by decide) rfl, hv 2 (by decide) rfl]
  · exact get_setWord_field hregs ⟨rfl, rfl, rfl, rfl, rfl⟩ (hw _ List.mem_cons_self)

section
variable {u : State} {tn sp : Nat} {im : Image}

theorem actSwapArm_may (hsp : u.get Reg.MIX_SWAP_CTRL_TEN 0 0 tn = sp) (hactive : u.img.active = some im) (hcls : im.cls ≠ 0)
    (hmay : im.maySwap tn sp = true) (hstage : (u.swap sp).state ≠ 2) (hmine : ¬((u.swap sp).on = true ∧ (u.swap sp).by' ≠ tn)) :
    actSwapArm tn u = if u.get64 Reg.MIX_SWAP_TICK_LO Reg.MIX_SWAP_TICK_HI 0 tn ≤ u.ks.count + im.swapG sp then
        ((u.modSwap sp (fun x => { x with state := 4, by' := tn })).int Reg.MIX_INT_STATUS_SWAP_LATE, stOk)
      else (u.modSwap sp (fun x =>
        { x with state := 1, on := true, by' := tn, target := u.get64 Reg.MIX_SWAP_TICK_LO Reg.MIX_SWAP_TICK_HI 0 tn }), stOk) := by
  simp only [actSwapArm, hsp, hactive, if_neg hcls, hmay, Bool.not_true, Bool.false_eq_true, if_false, hstage, hmine, or_self]

theorem actSwapDisarm_mine (hsp : u.get Reg.MIX_SWAP_CTRL_TEN 0 0 tn = sp) (hon : (u.swap sp).on = true)
    (hby : (u.swap sp).by' = tn) : actSwapDisarm tn u =
      ((u.modSwap sp (fun x => { x with state := 5, on := false, bank := [] })).int Reg.MIX_INT_STATUS_SWAP_LATE, stOk) := by
  simp only [actSwapDisarm, hsp, hon, hby, and_self, if_true, State.swapDrop]

/-- The state in which the words in effect stand in the shadow of every unit of a space again. -/
def State.shadowed (u : State) (im : Image) (sp : Nat) : State :=
  (u.spaceInsts sp).foldl (fun (t : State) i => match im.shadowAddr sp i.paramBase with
    | some a => t.sramWrite a ((t.instSt i.id).par.flatMap (fun w => leBytes 4 w.toNat))
    | none => t) u

@[simp] theorem shadowed_host (u : State) (im : Image) (sp : Nat) : (u.shadowed im sp).host = u.host := by
  refine foldl_host (fun t i => ?_) _ _
  split <;> simp

theorem actSwapRevert_may (hsp : u.get Reg.MIX_SWAP_CTRL_TEN 0 0 tn = sp) (hactive : u.img.active = some im) (hcls : im.cls ≠ 0)
    (hmay : im.maySwap tn sp = true) (hstage : (u.swap sp).state ≠ 2) (h4 : u.stage ≠ 4) :
    actSwapRevert tn u = ((u.shadowed im sp).modSwap sp (fun x => { x with pend := false }), stOk) := by
  simp only [actSwapRevert, hsp, hactive, hcls, hstage, h4, or_self, if_false, hmay, Bool.not_true, Bool.false_eq_true]
  rfl

theorem actSwapRevert_busy (hsp : u.get Reg.MIX_SWAP_CTRL_TEN 0 0 tn = sp) (hactive : u.img.active = some im)
    (hbusy : im.cls = 0 ∨ (u.swap sp).state = 2 ∨ u.stage = 4) : actSwapRevert tn u = (u, stBusy) := by
  simp only [actSwapRevert, hsp, hactive, if_pos hbusy]

end

section
variable {s : State} {w : Word} {tn : Nat}

theorem swapTick_MIX_SWAP_CTRL (hregs : rising s.regs = true) :
    (s.setWord Reg.MIX_SWAP_CTRL w 0 0 tn).get64 Reg.MIX_SWAP_TICK_LO Reg.MIX_SWAP_TICK_HI 0 tn =
      s.get64 Reg.MIX_SWAP_TICK_LO Reg.MIX_SWAP_TICK_HI 0 tn := by
  refine get64_setWord_ne hregs ?_ ?_ <;> simp [Fld.key, Reg.MIX_SWAP_TICK_LO, Reg.MIX_SWAP_TICK_HI, Reg.MIX_SWAP_CTRL]

theorem stage_MIX_SWAP_CTRL (hregs : rising s.regs = true) : (s.setWord Reg.MIX_SWAP_CTRL w 0 0 tn).stage = s.stage := by
  refine get_setWord_other hregs ?_
  simp [Fld.key, Reg.IMG_STATUS_STAGE, Reg.MIX_SWAP_CTRL]
  omega

end

/-- Settles O19: a write of the PARAM page is the parameter write, a write of MIX_SWAP_CTRL the action of its bit. -/
theorem parameterCommandsTakeEffect : Obligations.ParameterCommandsTakeEffect := by
  refine ⟨fun acc sp im s hopens hcanon hactive hcls hmay hstaging hmine hlater => ?_,
    fun acc sp s hopens hcanon hon hby => ?_, fun acc sp im s hopens hcanon hactive hcls hmay hstaging h4 hempty => ?_,
    fun acc off v s im x hopens halign hactive hinst hwriter hheld h3 h4 hshadow hok hties => ?_,
    fun acc sp im s hopens hcanon hactive hcls hmay hstaging hmine hlate => ?_,
    fun acc off v s im x a hopens halign hactive hinst hwriter hheld h3 h4 hshadow hok => ?_,
    fun acc off w v new s im x hopens halign hactive hinst hwriter hheld h3 h4 hshadow hnew hok hties => ?_,
    fun acc off w v new s im x hopens halign hactive hinst hwriter hheld h3 h4 hshadow hnew hbad => ?_,
    fun acc off w v new s im x a hopens halign hactive hinst hwriter hheld h3 h4 hshadow hnew hok => ?_,
    fun acc off w v new s im x a hopens halign hactive hinst hwriter hheld h3 h4 hshadow hnew hbad => ?_,
    fun acc sp im s hopens hcanon hactive hcls hmay hstaging h4 => ?_,
    fun acc sp im s hopens hcanon hactive hbusy => ?_⟩
  · refine next_of_wrote rfl (hostSet_MIX_SWAP_CTRL hopens hcanon rfl rfl (by decide) fun w hsp => ⟨?_, by simp⟩)
    rw [actSwapArm_may hsp hactive hcls hmay hstaging hmine, swapTick_MIX_SWAP_CTRL (rising_of_canon hcanon)]
    exact if_neg (Nat.not_le.mpr hlater)
  · refine next_of_wrote rfl (hostSet_MIX_SWAP_CTRL hopens hcanon rfl rfl (by decide) fun w hsp => ⟨?_, by simp⟩)
    exact actSwapDisarm_mine hsp hon hby
  · refine next_of_wrote rfl (hostSet_MIX_SWAP_CTRL hopens hcanon rfl rfl (by decide) fun w hsp => ⟨?_, by simp⟩)
    rw [actSwapRevert_may hsp hactive hcls hmay hstaging (stage_MIX_SWAP_CTRL (rising_of_canon hcanon) ▸ h4), State.shadowed]
    rw [show (s.setWord Reg.MIX_SWAP_CTRL w 0 0 (accTen acc)).spaceInsts sp.val = [] from hempty, List.foldl_nil]
  · have haligned : off.val % 2 ^ (2 : Fin 3).val = 0 := halign
    refine exec_paramWrite hopens haligned ?_ rfl
    show paramWrite (accTen acc) (off.val / 4) (off.val % 4) 4 (v.toNat % 2 ^ (8 * 4)) s = _
    rw [halign, paramWrite_classS hactive hinst hwriter hheld h3 h4 hshadow (mergedParam_word _ v).symm]
    exact if_neg (by simp [hok, hties])
  · refine next_of_wrote rfl (hostSet_MIX_SWAP_CTRL hopens hcanon rfl rfl (by decide) fun w hsp => ⟨?_, by simp⟩)
    rw [actSwapArm_may hsp hactive hcls hmay hstaging hmine, swapTick_MIX_SWAP_CTRL (rising_of_canon hcanon)]
    exact if_pos hlate
  · have haligned : off.val % 2 ^ (2 : Fin 3).val = 0 := halign
    refine exec_paramWrite hopens haligned ?_ (by simp)
    show paramWrite (accTen acc) (off.val / 4) (off.val % 4) 4 (v.toNat % 2 ^ (8 * 4)) s = _
    rw [halign, paramWrite_classL hactive hinst hwriter hheld h3 h4 hshadow (mergedParam_word _ v).symm]
    exact if_neg (by simp [hok])
  · refine exec_paramWrite hopens halign ?_ rfl
    rw [paramWrite_classS hactive hinst hwriter hheld h3 h4 hshadow hnew]
    exact if_neg (by simp [hok, hties])
  · refine exec_paramWrite hopens halign ?_ (by simp)
    rw [paramWrite_classS hactive hinst hwriter hheld h3 h4 hshadow hnew]
    exact if_pos (by simpa using hbad)
  · refine exec_paramWrite hopens halign ?_ (by simp)
    rw [paramWrite_classL hactive hinst hwriter hheld h3 h4 hshadow hnew]
    exact if_neg (by simp [hok])
  · refine exec_paramWrite hopens halign ?_ (by simp)
    rw [paramWrite_classL hactive hinst hwriter hheld h3 h4 hshadow hnew]
    exact if_pos (by simp [hbad])
  · refine next_of_wrote rfl (hostSet_MIX_SWAP_CTRL hopens hcanon rfl rfl (by decide) fun w hsp => ⟨?_, ?_⟩)
    · exact actSwapRevert_may hsp hactive hcls hmay hstaging (stage_MIX_SWAP_CTRL (rising_of_canon hcanon) ▸ h4)
    · exact shadowed_host _ _ _
  · refine next_of_wrote rfl (hostSet_MIX_SWAP_CTRL (g := id) hopens hcanon rfl rfl (by decide) fun w hsp => ⟨?_, rfl⟩)
    exact actSwapRevert_busy hsp hactive (stage_MIX_SWAP_CTRL (rising_of_canon hcanon) ▸ hbusy)

end Sys2Proof.Machine

/-! PROOFS. The announcement store under a host (R204, R205). -/
namespace Sys2Proof.Machine
open Sys2Proof Sys2Proof.Machine.Laws

theorem rowAt_MIX_MSG_CTRL : RowAt Reg.MIX_MSG_CTRL 0 row_MIX_MSG_CTRL := rowAt_of find_MIX_MSG_CTRL addr_MIX_MSG_CTRL rfl
theorem rowAt_MIX_MSG_DATA : RowAt Reg.MIX_MSG_DATA 0 row_MIX_MSG_DATA := rowAt_of find_MIX_MSG_DATA addr_MIX_MSG_DATA rfl

/-- The operation of a bit of MIX_MSG_CTRL on the message that the register names. -/
def msgAct (b : Nat) (s : State) : Act := msgOp (nth [1, 0, 2, 3] b 0) (s.get Reg.MIX_MSG_CTRL_NUMBER) s

theorem waActs_MIX_MSG_CTRL (i t : Nat) (p : Path) (v : Nat) :
    waActs row_MIX_MSG_CTRL i t p v = ((List.range 4).filter (bit v)).map msgAct := rfl

theorem mayWriteReg_of_msg {s : State} {r : RegRow} {i t : Nat} {p : Path} (hrow : r.writers = .msg)
    (hright : t = 0 ∨ bit (s.get Reg.TEN_Tt_RIGHTS_RIGHTS t) 0 = true) : s.mayWriteReg r i t p = true := by
  simpa [State.mayWriteReg, hrow] using hright

/-- A register that the tenancies share has one word. -/
theorem setWord_shared {f : Fld} (hown : f.own = false ∧ f.addr ≠ 0x70000 ∧ f.addr ≠ 0x70004) (s : State) (w : Word) (i j t : Nat) :
    s.setWord f w i j t = s.setWord f w i j := by
  simp only [State.setWord, Fld.key, Fld.resetWord, hown, Bool.false_eq_true, if_false]

theorem get_shared {f : Fld} (hown : f.own = false ∧ f.addr ≠ 0x70000 ∧ f.addr ≠ 0x70004) (s : State) (i j t : Nat) :
    s.get f i j t = s.get f i j := by
  simp only [State.get, State.word, Fld.key, Fld.resetWord, hown, Bool.false_eq_true, if_false]

theorem wrote_shared {s u : State} {f : Fld} {i t : Nat} {vals : List (Fld × Nat)}
    (hown : f.own = false ∧ f.addr ≠ 0x70000 ∧ f.addr ≠ 0x70004) (hwrote : s.Wrote f i t vals u) : s.Wrote f i 0 vals u := by
  obtain ⟨w, hw, rfl⟩ := hwrote
  exact ⟨w, hw, setWord_shared hown s w i 0 t⟩

/-- A write of MIX_MSG_CTRL with one of its action bits: the number is kept, and the one operation runs. -/
theorem hostSet_MIX_MSG_CTRL {acc : Access} {s : State} {st b : Nat} {m : Fin 1024} {g : State → State}
    {k : Nat × Nat × Nat} (hopens : s.opens acc 0x70060 = true) (hcanon : s.canon = true)
    (hright : accTen acc = 0 ∨ bit (s.get Reg.TEN_Tt_RIGHTS_RIGHTS (accTen acc)) 0 = true)
    (hacts : (List.range 4).filter (fun c => bitAfter [Reg.MIX_MSG_CTRL_NUMBER.is' m.val, k] c false) = [b])
    (hfield : fieldOf Reg.MIX_MSG_CTRL row_MIX_MSG_CTRL [Reg.MIX_MSG_CTRL_NUMBER.is' m.val, k] Reg.MIX_MSG_CTRL_NUMBER = true)
    (hk : k.2.1 ≤ k.1 ∧ k.1 < 16)
    (hact : ∀ w, (s.setWord Reg.MIX_MSG_CTRL w 0 0 (accTen acc)).get Reg.MIX_MSG_CTRL_NUMBER = m.val →
      msgAct b (s.setWord Reg.MIX_MSG_CTRL w 0 0 (accTen acc)) = (g (s.setWord Reg.MIX_MSG_CTRL w 0 0 (accTen acc)), st) ∧
        (g (s.setWord Reg.MIX_MSG_CTRL w 0 0 (accTen acc))).host = s.host) :
    ∃ u, s.Wrote Reg.MIX_MSG_CTRL 0 0 [(Reg.MIX_MSG_CTRL_NUMBER, m.val)] u ∧
      hostSet acc Reg.MIX_MSG_CTRL 0 [Reg.MIX_MSG_CTRL_NUMBER.is' m.val, k] s = (g u).answered st := by
  have hregs := rising_of_canon hcanon
  have hvalue : fieldAfter [Reg.MIX_MSG_CTRL_NUMBER.is' m.val, k] 25 16 (s.get Reg.MIX_MSG_CTRL_NUMBER 0 0 (accTen acc)) = m.val := by
    have hother : (k.1 == 25 && k.2.1 == 16) = false := by simp; omega
    simp only [fieldAfter, List.foldl_cons, List.foldl_nil, hother]
    exact Nat.mod_eq_of_lt m.isLt
  have hmask : ∀ c < 4, bit (row_MIX_MSG_CTRL.mask .rw) c = false := by decide
  obtain ⟨u, hwrote, hrun⟩ := hostSet_wrote (act := msgAct b) rowAt_MIX_MSG_CTRL rfl (by decide) rfl (fun w => rfl) hopens
    (mayWriteReg_of_msg rfl hright) (by simpa [Fld.is'] using ⟨by decide, hk.1⟩)
    (fieldsRead_cons hfield hvalue fieldsRead_nil) (fun v hv => by
      rw [waActs_MIX_MSG_CTRL, ← List.map_singleton, ← hacts]
      refine congrArg _ (List.filter_congr fun c hc => ?_)
      have hsmall := List.mem_range.mp hc
      exact hv c (by omega) (hmask c hsmall))
    (fun w hw => hact w (by
      have hnumber := get_setWord_field (f := Reg.MIX_MSG_CTRL) (g := Reg.MIX_MSG_CTRL_NUMBER) (i := 0) (j := 0) (t := accTen acc)
        hregs ⟨rfl, rfl, rfl, rfl, rfl⟩ (hw _ List.mem_cons_self)
      rw [← get_shared (t := accTen acc) (by decide)]
      exact hnumber))
  exact ⟨u, wrote_shared (by decide) hwrote, hrun⟩

section
variable {s : State} {w : Word} {t : Nat} {m : Nat}

theorem msgPlayed_MIX_MSG_CTRL (hregs : rising s.regs = true) :
    (s.setWord Reg.MIX_MSG_CTRL w 0 0 t).msgPlayed m = s.msgPlayed m := by
  rw [setWord_shared (by decide)]
  have hcourse : (s.setWord Reg.MIX_MSG_CTRL w).ovrCourse = s.ovrCourse := rfl
  have himg : (s.setWord Reg.MIX_MSG_CTRL w).imgHas = s.imgHas := rfl
  have hinst : (s.setWord Reg.MIX_MSG_CTRL w).instSt = s.instSt := rfl
  have hannouncing : (s.setWord Reg.MIX_MSG_CTRL w).announcing = s.announcing := by
    rw [State.announcing, hcourse, is_setWord_ne hregs (by decide)]
    rfl
  simp (disch := decide) only [State.msgPlayed, hannouncing, himg, hinst, is_setWord_ne hregs]

theorem msgAct_open {u : State} (hnumber : u.get Reg.MIX_MSG_CTRL_NUMBER = m) (hm : m ≠ 0) (hfree : u.mix.msgOp = none)
    (hidle : u.msgPlayed m = false) : msgAct 0 u = ((u.putMsg ⟨m, 1, []⟩).msgStart 1 m, stOk) := by
  simp [msgAct, hnumber, msgOp, hm, hfree, hidle, nth]

theorem msgAct_close {u : State} (hnumber : u.get Reg.MIX_MSG_CTRL_NUMBER = m) (hm : m ≠ 0) (hfree : u.mix.msgOp = none)
    (hopen : (u.msg m).state = 1) :
    msgAct 1 u = ((u.putMsg { u.msg m with state := 2 }).int Reg.MIX_INT_STATUS_MSG_DONE, stOk) := by
  simp [msgAct, hnumber, msgOp, hm, hfree, hopen, nth]

theorem msgAct_delete {u : State} (hnumber : u.get Reg.MIX_MSG_CTRL_NUMBER = m) (hm : m ≠ 0) (hfree : u.mix.msgOp = none)
    (hidle : u.msgPlayed m = false) : msgAct 2 u = (u.msgStart 2 m, stOk) := by
  simp [msgAct, hnumber, msgOp, hm, hfree, hidle, nth]

theorem msgAct_verify {u : State} (hnumber : u.get Reg.MIX_MSG_CTRL_NUMBER = m) (hm : m ≠ 0) (hfree : u.mix.msgOp = none)
    (hclosed : 2 ≤ (u.msg m).state) : msgAct 3 u = (u.msgStart 3 m, stOk) := by
  simp [msgAct, hnumber, msgOp, hm, hfree, hclosed, nth]

theorem msgAppend_open {bs : List Byte} (hm : m ≠ 0) (hopen : (s.msg m).state = 1) (hfree : s.mix.msgOp = none)
    (hroom : s.msgUsed + bs.length ≤ 268435456) :
    msgAppend m bs s = s.putMsg { s.msg m with bytes := (s.msg m).bytes ++ bs } := by
  simp [msgAppend, hm, hopen, hfree, hroom]

end

/-- Settles O20: a write of MIX_MSG_CTRL runs the operation of its bit on the message named, and MIX_MSG_DATA appends. -/
theorem messageCommandsTakeEffect : Obligations.MessageCommandsTakeEffect := by
  refine ⟨fun acc m s hopens hright hcanon hm hfree hidle => ?_, fun acc m s hopens hright hcanon hm hfree hopen => ?_,
    fun acc m s hopens hright hcanon hm hfree hclosed => ?_, fun acc m s hopens hright hcanon hm hfree hidle => ?_,
    fun acc d s howns hm hopen hfree hroom => ?_⟩
  · refine next_of_wrote rfl (hostSet_MIX_MSG_CTRL (b := 0) hopens hcanon hright rfl rfl (by decide) fun w hnumber => ⟨?_, by simp⟩)
    exact msgAct_open hnumber hm hfree ((msgPlayed_MIX_MSG_CTRL (rising_of_canon hcanon)).trans hidle)
  · refine next_of_wrote rfl (hostSet_MIX_MSG_CTRL (b := 1) hopens hcanon hright rfl rfl (by decide) fun w hnumber => ⟨?_, by simp⟩)
    exact msgAct_close hnumber hm hfree hopen
  · refine next_of_wrote rfl (hostSet_MIX_MSG_CTRL (b := 3) hopens hcanon hright rfl rfl (by decide) fun w hnumber => ⟨?_, by simp⟩)
    exact msgAct_verify hnumber hm hfree hclosed
  · refine next_of_wrote rfl (hostSet_MIX_MSG_CTRL (b := 2) hopens hcanon hright rfl rfl (by decide) fun w hnumber => ⟨?_, by simp⟩)
    exact msgAct_delete hnumber hm hfree ((msgPlayed_MIX_MSG_CTRL (rising_of_canon hcanon)).trans hidle)
  · refine congrArg _ (hostWrite_act (f := Reg.MIX_MSG_DATA) (i := 0) rowAt_MIX_MSG_DATA rfl (owns_opens howns)
      (mayWriteReg_of_msg rfl (Or.inl (owns_zero howns))) d.isLt rfl (Prod.ext (msgAppend_open hm hopen hfree hroom) rfl) rfl)

end Sys2Proof.Machine

/-! PROOFS. What the operations of the units leave of the host interface: no request of a host is touched by them. -/
namespace Sys2Proof.Machine
open Sys2Proof

@[simp] theorem actRingCntClr_host (s : State) : (actRingCntClr s).host = s.host := by simp [actRingCntClr]

@[simp] theorem actAgeClr_host (s : State) : (actAgeClr s).host = s.host := by
  refine foldl_host (fun u n => ?_) _ _
  simp

@[simp] theorem setResult_host (s : State) (r : Nat) : (s.setResult r).host = s.host := by simp [State.setResult]

@[simp] theorem eccDrop_host (s : State) (k a : Nat) : (s.eccDrop k a).host = s.host := by simp [State.eccDrop]

@[simp] theorem showTime_host (s : State) : (showTime s).host = s.host := by
  simp only [showTime]
  repeat' split
  all_goals simp

@[simp] theorem showRoles_host (s : State) : (showRoles s).host = s.host := by simp [showRoles]

@[simp] theorem setStandby_host (s : State) (b : Option Nat) : (s.setStandby b).host = s.host := by simp [State.setStandby]

@[simp] theorem cntBy_host (s : State) (m i k : Nat) : (s.cntBy m i k).host = s.host := by
  simp only [State.cntBy]
  repeat' split
  all_goals simp

@[simp] theorem cnt_host (s : State) (m i : Nat) : (s.cnt m i).host = s.host := by simp [State.cnt]

@[simp] theorem addWire_host (s : State) (m rx tx : Nat) : (s.addWire m rx tx).host = s.host := by simp [State.addWire]

@[simp] theorem txCount_host (s : State) (m : Nat) (f : List Byte) : (s.txCount m f).host = s.host := by
  simp only [State.txCount]
  split <;> simp

@[simp] theorem sendOn_host (s : State) (p : Nat) (f : List Byte) : (s.sendOn p f).host = s.host := by
  simp only [State.sendOn]
  repeat' split
  all_goals simp

@[simp] theorem ctlSend_host (s : State) (typ : Nat) (ports : List Nat) (body : List Byte) :
    (s.ctlSend typ ports body).host = s.host := by
  refine foldl_host (fun u n => ?_) _ _
  simp

@[simp] theorem buildPlan_host (s : State) : (buildPlan s).host = s.host := by simp [buildPlan]

@[simp] theorem commitIssue_host (c : RingConf) (s : State) : (commitIssue c s).host = s.host := by
  simp only [commitIssue]
  split <;> simp

@[simp] theorem stepJoin_host (g : StepGo) (s : State) : (stepJoin g s).host = s.host := by
  simp only [stepJoin]
  split <;> simp

@[simp] theorem stepGrant_host (seg speed : Nat) (s : State) : (stepGrant seg speed s).host = s.host := by simp [stepGrant]

@[simp] theorem commitStep_host (s : State) : (commitStep s).host = s.host := by
  simp only [commitStep]
  split <;> simp [apply_ite State.host]

@[simp] theorem actCommit_host (s : State) : (actCommit s).1.host = s.host := by
  simp only [actCommit]
  repeat' split
  all_goals simp

@[simp] theorem actTmReq_host (s : State) : (actTmReq s).1.host = s.host := by
  simp only [actTmReq]
  repeat' split
  all_goals simp

@[simp] theorem sendRolls_host (s : State) : (sendRolls s).host = s.host := by
  simp only [sendRolls]
  repeat' split
  all_goals simp

@[simp] theorem reroll_host (s : State) : (reroll s).host = s.host := by
  simp only [reroll]
  repeat' split
  all_goals simp

@[simp] theorem actReroll_host (s : State) : (actReroll s).1.host = s.host := by
  simp only [actReroll]
  split <;> simp

@[simp] theorem sendReport_host (s : State) : (sendReport s).host = s.host := by simp [sendReport]

@[simp] theorem portsUpdate_host (s : State) : (portsUpdate s).host = s.host := by simp [portsUpdate]

@[simp] theorem showDown_host (s : State) (segs : List Nat) : (s.showDown segs).host = s.host := by simp [State.showDown]

@[simp] theorem sendBeacon_host (handoff : Bool) (s : State) : (sendBeacon handoff s).host = s.host := by simp [sendBeacon]

@[simp] theorem actRingLeave_host (s : State) : (actRingLeave s).1.host = s.host := by
  simp only [actRingLeave]
  repeat' split
  all_goals simp

@[simp] theorem actRingSleep_host (s : State) : (actRingSleep s).1.host = s.host := by
  simp only [actRingSleep]
  split <;> simp [forN_host]

@[simp] theorem ringWaking_host (s : State) : (ringWaking s).host = s.host := by simp [ringWaking]

@[simp] theorem engResume_host (s : State) : (engResume s).host = s.host := by
  simp only [engResume]
  split <;> simp

@[simp] theorem showSettling_host (s : State) : (showSettling s).host = s.host := by simp [showSettling]

@[simp] theorem adcReset_host (s : State) : (adcReset s).host = s.host := (showSettling_host _).trans (forN_host (by simp) _ _)

@[simp] theorem anaFollow_host (s : State) : (anaFollow s).host = s.host := by
  refine forN_host (fun u n => ?_) _ _
  simp [apply_ite State.host]

@[simp] theorem sapInt_host (s : State) (n k : Nat) : (s.sapInt n k).host = s.host := by simp [State.sapInt]

@[simp] theorem modSrc_host (s : State) (p : Src → Bool) (f : Src → Src) : (s.modSrc p f).host = s.host := by
  simp only [State.modSrc]
  split <;> simp

@[simp] theorem srcLock_host (s : State) (port unit : Nat) (locked : Bool) :
    (s.srcLock port unit locked).host = s.host := by simp [State.srcLock]

@[simp] theorem sapLock_host (s : State) (n : Nat) (on : Bool) : (s.sapLock n on).host = s.host := by
  simp only [State.sapLock]
  repeat' split
  all_goals simp

@[simp] theorem sapStart_host (n : Nat) (s : State) : (sapStart n s).1.host = s.host := by
  simp only [sapStart]
  repeat' split
  all_goals simp

@[simp] theorem showSafe_host (s : State) : s.showSafe.host = s.host := by simp [State.showSafe]

@[simp] theorem showPhases_host (s : State) (n : Nat) : (s.showPhases n).host = s.host := by simp [State.showPhases]

@[simp] theorem setCh_host (s : State) (n v : Nat) : (s.setCh n v).host = s.host := by
  simp only [State.setCh]
  split <;> simp

@[simp] theorem chFollow_host (s : State) : (chFollow s).host = s.host := by
  refine forN_host (fun u n => ?_) _ _
  simp [apply_ite State.host]

@[simp] theorem domReached_host (d old : Nat) (s : State) : (domReached d old s).host = s.host := by
  simp only [domReached]
  split <;> simp [forN_host, apply_ite State.host]

@[simp] theorem stoneEcc_host (s : State) (addr : Nat) (dbl : Bool) : (s.stoneEcc addr dbl).host = s.host := by
  simp only [State.stoneEcc]
  split <;> simp

@[simp] theorem injReport_host (s : State) : s.injReport.host = s.host := by simp [State.injReport]

@[simp] theorem eccMeet_host (s : State) (e : EccMark) (cyc : Option Nat) : (s.eccMeet e cyc).host = s.host := by
  simp only [State.eccMeet]
  repeat' split
  all_goals simp

@[simp] theorem eccRead_host (s : State) (k a n : Nat) (cyc : Option Nat) : (s.eccRead k a n cyc).1.host = s.host := by
  refine foldl_host (fun u n => ?_) _ _
  simp

@[simp] theorem domRegsReset_host (d : Nat) (s : State) : (domRegsReset d s).host = s.host := by
  refine (foldl_host (by simp) _ _).trans (foldl_host (fun u r => foldl_host (by simp) _ _) _ _)

@[simp] theorem bstSaved_host (s : State) : (bstSaved s).host = s.host := by simp [bstSaved]

@[simp] theorem domUnitLost_host (d : Nat) (s : State) : (domUnitLost d s).host = s.host := by
  unfold domUnitLost
  split
  · exact forN_host (by simp) _ _
  all_goals simp

@[simp] theorem setPlca_host (s : State) (ok : Bool) : (s.setPlca ok).host = s.host := by
  simp only [State.setPlca]
  split <;> simp

@[simp] theorem showPll_host (s : State) :
    (showPll s).host = s.host := (State.setB_host ..).trans ((State.set_host ..).trans ((State.set_host ..).trans (forN_host (by simp) _ _)))

@[simp] theorem showQueue_host (s : State) (n : Nat) : (showQueue s n).host = s.host := by simp [showQueue]

@[simp] theorem dmaCounts_host (s : State) : (dmaCounts s).host = s.host := by
  refine forN_host (fun u n => ?_) _ _
  simp [apply_ite State.host]

@[simp] theorem sapOwn_host (s : State) : (sapOwn s).host = s.host := by
  refine forN_host (fun u n => ?_) _ _
  simp

@[simp] theorem jackShow_host (s : State) : (jackShow s).host = s.host := by
  refine forN_host (fun u n => ?_) _ _
  simp [apply_ite State.host]

@[simp] theorem showFallback_host (s : State) : (showFallback s).host = s.host := by
  refine forN_host (fun u n => ?_) _ _
  simp

@[simp] theorem showModel_host (s : State) (n : Nat) : (showModel s n).host = s.host := by simp [showModel]

@[simp] theorem domShow_host (d : Nat) (s : State) : (domShow d s).host = s.host := by
  unfold domShow
  split
  · simp
  · simp
  · exact forN_host (by simp) _ _
  · simp
  · exact (showFallback_host _).trans (forN_host (by simp) _ _)
  · rfl

@[simp] theorem domRegsRestore_host (d : Nat) (s : State) : (domRegsRestore d s).host = s.host := by
  refine foldl_host (fun u n => ?_) _ _
  simp

@[simp] theorem bstCold_host (s : State) : (bstCold s).host = s.host := (forN_host (by simp) _ _).trans (forN_host (by simp) _ _)

@[simp] theorem footWrite_host (s : State) (a : Nat) (bs : List Byte) :
    (s.footWrite a bs).host = s.host := by simp [State.footWrite]

@[simp] theorem saveDrop_host (s : State) (d : Nat) : (s.saveDrop d).host = s.host := by simp [State.saveDrop]

@[simp] theorem domFromL3_host (ap : Nat → Nat → State → State) (d : Nat) (s : State) (hap : ∀ a0 a1 u, (ap a0 a1 u).host = u.host) :
    (domFromL3 ap d s).host = s.host := by simp [hap, domFromL3, foldl_host, apply_ite State.host]

@[simp] theorem domUp_host (ap : Nat → Nat → State → State) (d : Nat) (s : State) (hap : ∀ a0 a1 u, (ap a0 a1 u).host = u.host) :
    (domUp ap d s).host = s.host := by
  simp only [domUp]
  repeat' split
  all_goals simp [hap]

@[simp] theorem auxEmpty_host (n : Nat) (s : State) : (auxEmpty n s).host = s.host := by simp [auxEmpty]

@[simp] theorem auxInt_host (s : State) (n k : Nat) : (s.auxInt n k).host = s.host := by simp [State.auxInt]

@[simp] theorem auxOff_host (n : Nat) (s : State) : (auxOff n s).host = s.host := by
  simp only [auxOff]
  split <;> simp

@[simp] theorem aafSet_host (i : Nat) (v : Word) (s : State) : (aafSet i v s).host = s.host := by
  simp only [aafSet]
  repeat' split
  all_goals simp

@[simp] theorem dmaAddrWrite_host (f : Fld) (i t : Nat) (v : Word) (s : State) :
    (dmaAddrWrite f i t v s).1.host = s.host := by simp [dmaAddrWrite]

@[simp] theorem setEffective_host (s : State) (on : Bool) : (s.setEffective on).host = s.host := by simp [State.setEffective]

@[simp] theorem ovrBegin_host (s : State) : (ovrBegin s).host = s.host := by
  simp only [ovrBegin]
  repeat' split
  all_goals simp

@[simp] theorem diagStopped_host (mask : Nat) (s : State) : (diagStopped mask s).host = s.host := by
  simp only [diagStopped]
  split <;> simp

@[simp] theorem askStop_host (s : State) (mask : Nat) : (s.askStop mask).host = s.host := by simp [State.askStop]

@[simp] theorem playersStop_host (s : State) : (playersStop s).host = s.host := by
  simp only [playersStop]
  split <;> simp

@[simp] theorem ovrEnd_host (s : State) : (ovrEnd s).host = s.host := by
  simp only [ovrEnd]
  repeat' split
  all_goals simp

@[simp] theorem ovrMove_host (s : State) : (ovrMove s).host = s.host := by
  simp only [ovrMove]
  split <;> simp [apply_ite State.host]

@[simp] theorem ovrCfgWrite_host (v : Word) (s : State) : (ovrCfgWrite v s).1.host = s.host := by simp [ovrCfgWrite]

@[simp] theorem ctlCfgWrite_host (v : Word) (s : State) : (ctlCfgWrite v s).1.host = s.host := by simp [ctlCfgWrite]

@[simp] theorem addDown_host (s : State) (seg reason : Nat) : (s.addDown seg reason).host = s.host := by
  simp only [State.addDown]
  split <;> simp

@[simp] theorem askStart_host (s : State) (mask : Nat) : (s.askStart mask).host = s.host := by simp [State.askStart]

@[simp] theorem showBound_host (s : State) : (showBound s).host = s.host := by
  unfold showBound
  split
  · rfl
  · simp [State.fresh]

@[simp] theorem rdpShow_host (s : State) : (rdpShow s).host = s.host := by
  refine (foldl_host (by simp) _ _).trans ((foldl_host (by simp) _ _).trans ?_)
  dsimp only
  split <;> simp

@[simp] theorem sendConflicts_host (s : State) : (sendConflicts s).host = s.host := by
  simp only [sendConflicts]
  split <;> simp

@[simp] theorem dropPlan_host (s : State) : (dropPlan s).host = s.host := by
  simp only [dropPlan]
  split <;> simp

@[simp] theorem setCtl_host (s : State) (v : Nat) : (s.setCtl v).host = s.host := by
  simp only [State.setCtl]
  split <;> simp

@[simp] theorem setCoord_host (s : State) (t : Option Nat) : (s.setCoord t).host = s.host := by
  simp only [State.setCoord]
  split <;> simp

@[simp] theorem setGm_host (s : State) (g : Option Nat) : (s.setGm g).host = s.host := by
  simp only [State.setGm]
  repeat' split
  all_goals simp

@[simp] theorem leaveTo_host (st : Nat) (s : State) : (leaveTo st s).host = s.host := by
  simp only [leaveTo]
  split <;> simp

@[simp] theorem segLost_host (p reason : Nat) (s : State) : (segLost p reason s).host = s.host := by
  simp only [segLost]
  repeat' split
  all_goals simp

@[simp] theorem dropCount_host (p : Nat) (s : State) : (dropCount p s).host = s.host := by
  simp only [dropCount]
  repeat' split
  all_goals simp

@[simp] theorem ringLinkDown_host (p : Nat) (s : State) : (ringLinkDown p s).host = s.host := by
  simp only [ringLinkDown]
  split <;> simp

@[simp] theorem linkDown_host (p : Nat) (s : State) : (linkDown p s).host = s.host := by
  simp only [linkDown]
  repeat' split
  all_goals simp

@[simp] theorem portCfgWrite_host (p : Nat) (v : Word) (s : State) : (portCfgWrite p v s).1.host = s.host := by
  simp only [portCfgWrite]
  repeat' split
  all_goals simp

@[simp] theorem avtpCtl_host (s : State) (dst sub typ status : Nat) (data : List Byte) :
    (s.avtpCtl dst sub typ status data).host = s.host := by simp [State.avtpCtl]

@[simp] theorem adpSend_host (typ : Nat) (s : State) : (adpSend typ s).host = s.host := by simp [adpSend, State.fresh]

@[simp] theorem brCfgWrite_host (v : Word) (s : State) : (brCfgWrite v s).1.host = s.host := by
  simp only [brCfgWrite]
  split <;> simp

@[simp] theorem aafCfgWrite_host (i : Nat) (v : Word) (s : State) : (aafCfgWrite i v s).1.host = s.host := by
  simp only [aafCfgWrite]
  repeat' split
  all_goals simp

@[simp] theorem sbusCfgWrite_host (v : Word) (s : State) : (sbusCfgWrite v s).1.host = s.host := by
  simp only [sbusCfgWrite]
  split <;> simp

@[simp] theorem sbusTxHead_host (v : Word) (s : State) : (sbusTxHead v s).1.host = s.host := by
  simp only [sbusTxHead]
  split <;> simp

@[simp] theorem sbusRxTail_host (v : Word) (s : State) : (sbusRxTail v s).1.host = s.host := by
  simp only [sbusRxTail]
  split <;> simp

@[simp] theorem sapCfgWrite_host (n : Nat) (v : Word) (s : State) : (sapCfgWrite n v s).1.host = s.host := by
  simp only [sapCfgWrite]
  repeat' split
  all_goals simp

@[simp] theorem dmaCfgWrite_host (pb : Bool) (n : Nat) (v : Word) (s : State) : (dmaCfgWrite pb n v s).1.host = s.host := by
  simp only [dmaCfgWrite]
  repeat' split
  all_goals simp

@[simp] theorem capRdWrite_host (n : Nat) (v : Word) (s : State) : (capRdWrite n v s).1.host = s.host := by
  simp only [capRdWrite]
  split <;> simp

@[simp] theorem pbWrWrite_host (n : Nat) (v : Word) (s : State) : (pbWrWrite n v s).1.host = s.host := by
  simp only [pbWrWrite]
  split <;> simp

@[simp] theorem adcCfgWrite_host (n : Nat) (v : Word) (s : State) : (adcCfgWrite n v s).1.host = s.host := by
  simp only [adcCfgWrite]
  repeat' split
  all_goals simp

@[simp] theorem aesLock_host (s : State) (on : Bool) : (s.aesLock on).host = s.host := by
  simp only [State.aesLock]
  repeat' split
  all_goals simp

@[simp] theorem aesCfgWrite_host (v : Word) (s : State) : (aesCfgWrite v s).1.host = s.host := by
  simp only [aesCfgWrite]
  split <;> simp

@[simp] theorem auxCfgWrite_host (n : Nat) (v : Word) (s : State) : (auxCfgWrite n v s).1.host = s.host := by
  simp only [auxCfgWrite]
  repeat' split
  all_goals simp

@[simp] theorem auxGenWrite_host (n : Nat) (v : Word) (s : State) : (auxGenWrite n v s).1.host = s.host := by
  simp only [auxGenWrite]
  split <;> simp

@[simp] theorem mclkWrite_host (n : Nat) (v : Word) (s : State) : (mclkWrite n v s).1.host = s.host := by
  simp only [mclkWrite]
  split <;> simp

@[simp] theorem dramWinWrite_host (t : Nat) (v : Word) (s : State) : (dramWinWrite t v s).1.host = s.host := by
  simp only [dramWinWrite]
  split <;> simp

@[simp] theorem overUpdate_host (s : State) : (overUpdate s).host = s.host := by
  refine forN_host (fun u n => ?_) _ _
  simp [apply_ite State.host]

@[simp] theorem capWrite_host (f : Fld) (t : Nat) (v : Word) (s : State) :
    (capWrite f t v s).1.host = s.host := by simp [capWrite]

@[simp] theorem domCfgWrite_host (d : Nat) (v : Word) (s : State) : (domCfgWrite d v s).1.host = s.host := by
  simp only [domCfgWrite]
  split <;> simp

@[simp] theorem regRw_host (r : RegRow) (i j t : Nat) (v : Word) (s : State) : (regRw r i j t v s).1.host = s.host := by
  unfold regRw
  repeat' split
  all_goals simp

@[simp] theorem applyReg_host (a v : Nat) (s : State) : (applyReg a v s).host = s.host := by
  unfold applyReg
  split
  · rfl
  · extract_lets u
    have hu : u.host = s.host := by
      unfold u
      split
      iterate 9 exact State.setB_host ..
      · repeat' split
        · rfl
        · exact (State.setB_host ..).trans ((auxEmpty_host ..).trans (auxOff_host ..))
      · rfl
    clear_value u
    repeat' split
    · exact hu
    · exact (aafSet_host _ _ _).trans hu
    · exact (State.setWord_host ..).trans hu
    · exact (regRw_host ..).trans hu

@[simp] theorem domFollow_host (ap : Nat → Nat → State → State) (s : State) (hap : ∀ a0 a1 u, (ap a0 a1 u).host = u.host) :
    (domFollow ap s).host = s.host := by simp [hap, domFollow, forN_host, apply_ite State.host]

@[simp] theorem domsWake_host (s : State) : (domsWake s).host = s.host := by
  refine (domFollow_host _ _ fun a v u => applyReg_host a v u).trans ((forN_host (fun u d => ?_) _ _).trans (forN_host (by simp) _ _))
  split
  · exact (domUp_host _ _ _ fun a v u => applyReg_host a v u)
  · rfl

@[simp] theorem ringStir_host (s : State) : (ringStir s).host = s.host := by
  refine forN_host (fun u n => ?_) _ _
  simp [apply_ite State.host]

@[simp] theorem networkWake_host (cause : Nat) (frame : Bool) (s : State) : (networkWake cause frame s).host = s.host := by
  simp only [networkWake]
  repeat' split
  all_goals simp

@[simp] theorem storageWake_host (s : State) : (storageWake s).host = s.host := by simp [storageWake]

@[simp] theorem wakeBy_host (cause en : Nat) (net sto frame : Bool) (s : State) :
    (wakeBy cause en net sto frame s).host = s.host := by
  simp only [wakeBy]
  repeat' split
  all_goals simp

@[simp] theorem actHostWake_host (s : State) : (actHostWake s).1.host = s.host := by simp [actHostWake]

end Sys2Proof.Machine

/-! PROOFS. Ring commands of a host (R237, R241, R264, R265, R273, R278, R281, R290). -/
namespace Sys2Proof.Machine
open Sys2Proof Sys2Proof.Machine.Laws

theorem rowAt_RING_DP_CTRL : RowAt Reg.RING_DP_CTRL 0 row_RING_DP_CTRL := rowAt_of find_RING_DP_CTRL addr_RING_DP_CTRL rfl
theorem rowAt_RING_CTL_CTRL : RowAt Reg.RING_CTL_CTRL 0 row_RING_CTL_CTRL := rowAt_of find_RING_CTL_CTRL addr_RING_CTL_CTRL rfl

theorem waActs_RING_DP_CTRL (i t : Nat) (p : Path) (v : Nat) : waActs row_RING_DP_CTRL i t p v =
    (if bit v 1 then [plainAct actRingCntClr] else []) ++ (if bit v 2 then [plainAct actAgeClr] else []) := rfl

/-- The actions of RING_CTL_CTRL whose bits are set. -/
def ringActs (on : Nat → Bool) : List (State → Act) :=
  (if on 0 then [actCommit] else []) ++ (if on 1 then [actTmReq] else []) ++ (if on 2 then [actReroll] else []) ++
    (if on 3 then [actRingLeave] else []) ++ (if on 4 then [actRingSleep] else []) ++ (if on 5 then [actHostWake] else [])

theorem waActs_RING_CTL_CTRL (i t : Nat) (p : Path) (v : Nat) : waActs row_RING_CTL_CTRL i t p v = ringActs (bit v) := rfl

/-! ## What ring control reads beside RING_CTL_CTRL -/

section
variable {s : State} {w : Word} (hregs : rising s.regs = true)
include hregs

theorem isCoord_RING_CTL_CTRL : (s.setWord Reg.RING_CTL_CTRL w).isCoord = s.isCoord := by
  simp (disch := decide) only [State.isCoord, State.ctl, get_setWord_other hregs]
  rfl

theorem ctl_RING_CTL_CTRL : (s.setWord Reg.RING_CTL_CTRL w).ctl = s.ctl := by
  simp (disch := decide) only [State.ctl, get_setWord_other hregs]

theorem cycleNo_RING_CTL_CTRL : (s.setWord Reg.RING_CTL_CTRL w).cycleNo = s.cycleNo := by
  simp (disch := decide) only [State.cycleNo, State.nTicks, State.rate, get_setWord_other hregs, State.setWord_ks]

theorem cfgConf_RING_CTL_CTRL : (s.setWord Reg.RING_CTL_CTRL w).cfgConf = s.cfgConf := by
  simp (disch := decide) only [State.cfgConf, get_setWord_other hregs, get64_setWord_ne hregs]

theorem inService_RING_CTL_CTRL (p : Nat) : (s.setWord Reg.RING_CTL_CTRL w).inService p = s.inService p :=
  is_setWord_ne hregs (by simp only [Fld.key, Reg.RING_SEG_PORTp_IN_SERVICE, Reg.RING_CTL_CTRL]; simp; omega)

theorem svc_RING_CTL_CTRL : (s.setWord Reg.RING_CTL_CTRL w).svc = s.svc := by
  simp only [State.svc, inService_RING_CTL_CTRL hregs]

theorem speed_RING_CTL_CTRL (p : Nat) : (s.setWord Reg.RING_CTL_CTRL w).speed p = s.speed p :=
  get_setWord_other hregs (by simp only [Fld.key, Reg.PORT_Pp_LINK_SPEED, Reg.RING_CTL_CTRL]; simp; omega)

theorem segOf_RING_CTL_CTRL : (s.setWord Reg.RING_CTL_CTRL w).segOf = s.segOf := by
  funext p
  simp (disch := decide) only [State.segOf, State.setWord_rdp, State.setWord_rct, State.rxPort, get_setWord_other hregs]

theorem lacking_RING_CTL_CTRL (v e : Nat) : (s.setWord Reg.RING_CTL_CTRL w).lacking v e = s.lacking v e := by
  have hdown : (s.setWord Reg.RING_CTL_CTRL w).downSegs = s.downSegs := by
    simp (disch := decide) only [State.downSegs, isCoord_RING_CTL_CTRL hregs, State.setWord_rct, get_setWord_other hregs,
      inService_RING_CTL_CTRL hregs, segOf_RING_CTL_CTRL hregs]
  simp only [State.lacking, State.setWord_rdp, hdown, segOf_RING_CTL_CTRL hregs, speed_RING_CTL_CTRL hregs]

theorem baseMac_RING_CTL_CTRL : (s.setWord Reg.RING_CTL_CTRL w).baseMac = s.baseMac := by
  have hhi : (s.setWord Reg.RING_CTL_CTRL w).word Reg.IDENT_MAC_HI = s.word Reg.IDENT_MAC_HI :=
    word_setWord_ne _ _ _ _ _ _ _ _ _ _ hregs (by decide)
  simp (disch := decide) only [State.baseMac, get_setWord_other hregs, hhi]

theorem tmBarred_RING_CTL_CTRL : (s.setWord Reg.RING_CTL_CTRL w).tmBarred = s.tmBarred := by
  simp (disch := decide) only [State.tmBarred, State.setWord_rct, cycleNo_RING_CTL_CTRL hregs, get_setWord_other hregs]

theorem tmTarget_RING_CTL_CTRL : (s.setWord Reg.RING_CTL_CTRL w).tmTarget = s.tmTarget := by
  simp (disch := decide) only [State.tmTarget, get_setWord_other hregs]

theorem tmGood_RING_CTL_CTRL : (s.setWord Reg.RING_CTL_CTRL w).tmGood = s.tmGood := by
  simp (disch := decide) only [State.tmGood, tmTarget_RING_CTL_CTRL hregs, baseMac_RING_CTL_CTRL hregs, State.isTm, State.able,
    State.isDup, State.mayBeTm, State.setWord_rct, get_setWord_other hregs, is_setWord_ne hregs]

end

/-! ## The actions -/

section
variable {s : State}

theorem fresh_lacking (v e : Nat) : s.fresh.2.lacking v e = s.lacking v e := rfl

theorem actCommit_issues (hcoord : s.isCoord = true) (hconf : s.rct.conf = none) (hok : s.cfgConf.ok = true)
    (hlacking : s.lacking s.cfgConf.speed s.free = []) : actCommit s = (commitIssue s.cfgConf s.fresh.2, stOk) := by
  have hnone : s.fresh.2.lacking s.cfgConf.speed s.fresh.1 = [] := hlacking
  simp [actCommit, hcoord, hconf, hok, hnone]

theorem actCommit_steps (hcoord : s.isCoord = true) (hconf : s.rct.conf = none) (hok : s.cfgConf.ok = true)
    (hlacking : s.lacking s.cfgConf.speed s.free ≠ []) : actCommit s = (commitStep ((s.fresh.2.modRct (fun r =>
      { r with commit := some s.cfgConf, commitSegs := s.lacking s.cfgConf.speed s.free })).setResult 9), stOk) := by
  have hsome : s.fresh.2.lacking s.cfgConf.speed s.fresh.1 = s.lacking s.cfgConf.speed s.free := rfl
  obtain ⟨g, l, hl⟩ := List.exists_cons_of_ne_nil hlacking
  simp [actCommit, hcoord, hconf, hok, hsome, hl]

theorem actCommit_refuses (hcoord : s.isCoord = true) (hconf : s.rct.conf = none) (hok : s.cfgConf.ok = false) :
    actCommit s = (s.setResult 4, stBusy) := by
  simp [actCommit, hcoord, hconf, hok]

theorem actTmReq_open (hbarred : s.tmBarred = false) : actTmReq s = if s.tmGood then
      ((s.modRct (fun r => { r with tmReq := some s.tmTarget })).ctlSend 9 s.svc (timingBody 1 s.tmTarget 0), stOk)
    else (s.setResult 7, stBusy) := by
  have hsvc : (s.modRct (fun r => { r with tmReq := some s.tmTarget })).svc = s.svc := rfl
  cases hgood : s.tmGood with
  | false =>
    have hbad : (!s.tmGood) = true := by rw [hgood]; rfl
    simp only [actTmReq, hbarred, Bool.false_eq_true, if_false]
    exact if_pos hbad
  | true =>
    have hok : ¬(!s.tmGood) = true := by rw [hgood]; decide
    simp only [actTmReq, hbarred, Bool.false_eq_true, if_false, if_true]
    exact if_neg hok

theorem actRingLeave_follower (hcoord : s.isCoord = false) : actRingLeave s =
    ((sendReport (s.modRct (fun r => { r with left := decide (s.ctl ≠ 0) }))).setResult 1, stOk) := by
  have hcoord' : (s.modRct (fun r => { r with left := decide (s.ctl ≠ 0) })).isCoord = false := hcoord
  simp only [actRingLeave, hcoord, hcoord', Bool.false_and, Bool.false_eq_true, if_false]

theorem actRingLeave_office (hcoord : s.isCoord = true) (hstandby : s.rct.standby ≠ none) : actRingLeave s =
    ((sendReport (sendBeacon true (s.modRct (fun r => { r with left := decide (s.ctl ≠ 0) })))).setResult 1, stOk) := by
  have hcoord' : (s.modRct (fun r => { r with left := decide (s.ctl ≠ 0) })).isCoord = true := hcoord
  simp only [actRingLeave, hcoord, hcoord', hstandby, Bool.true_and, decide_false, Bool.false_eq_true, if_false, if_true]

theorem actRingLeave_alone (hcoord : s.isCoord = true) (hstandby : s.rct.standby = none) :
    actRingLeave s = (s.setResult 10, stBusy) := by
  simp [actRingLeave, hcoord, hstandby]

theorem actRingSleep_office (hcoord : s.isCoord = true) : actRingSleep s =
    (({ s with dom := { s.dom with sleepAt := some (1 + s.get Reg.RING_CTL_CTRL_SLEEP_MODE, (s.cycleNo + 256) % 2 ^ 32) } }
      : State).forN 3 (fun t _ => t.ctlSend 11 t.svc (s.sleepBody (1 + s.get Reg.RING_CTL_CTRL_SLEEP_MODE))), stOk) := by
  simp only [actRingSleep, hcoord, Bool.not_true, Bool.false_eq_true, if_false]
  rfl

end

/-! ## The writes -/

section
variable {acc : Access} {s : State}

/-- A write of RING_DP_CTRL with one of its action bits keeps SEND_EN. -/
theorem hostSet_RING_DP_CTRL {act : State → State} {k : Nat × Nat × Nat} (howns : s.owns acc 0x8000C = true)
    (hacts : (if bitAfter [k] 1 false then [plainAct actRingCntClr] else []) ++
      (if bitAfter [k] 2 false then [plainAct actAgeClr] else []) = [plainAct act]) (hk : k.2.1 ≤ k.1)
    (hfield : fieldOf Reg.RING_DP_CTRL row_RING_DP_CTRL [k] Reg.RING_DP_CTRL_SEND_EN = true)
    (hkept : fieldAfter [k] 0 0 (s.get Reg.RING_DP_CTRL_SEND_EN) = s.get Reg.RING_DP_CTRL_SEND_EN)
    (hhost : ∀ u, (act u).host = u.host) :
    ∃ u, s.Wrote Reg.RING_DP_CTRL 0 0 [(Reg.RING_DP_CTRL_SEND_EN, s.get Reg.RING_DP_CTRL_SEND_EN)] u ∧
      hostSet acc Reg.RING_DP_CTRL 0 [k] s = (act u).answered stOk := by
  refine hostSet_owner_wrote (act := plainAct act) rowAt_RING_DP_CTRL rfl (by decide) ⟨rfl, by decide⟩ (fun w => rfl) howns (by simpa using hk)
    (fieldsRead_cons hfield hkept fieldsRead_nil) (fun v hv => ?_) (fun w _ => ⟨rfl, hhost _⟩)
  rw [waActs_RING_DP_CTRL, hv 1 (by decide) rfl, hv 2 (by decide) rfl, hacts]

/-- A write of RING_CTL_CTRL with one of its action bits: SLEEP_MODE is kept, and the one action acts. -/
theorem hostSet_RING_CTL_CTRL {st b : Nat} {act : State → Act} {g : State → State} (howns : s.owns acc 0x80818 = true)
    (hcanon : s.canon = true) (hacts : ringActs (fun c => bitAfter [(b, b, 1)] c false) = [act])
    (hfield : fieldOf Reg.RING_CTL_CTRL row_RING_CTL_CTRL [(b, b, 1)] Reg.RING_CTL_CTRL_SLEEP_MODE = true)
    (hkept : fieldAfter [(b, b, 1)] 8 8 (s.get Reg.RING_CTL_CTRL_SLEEP_MODE) = s.get Reg.RING_CTL_CTRL_SLEEP_MODE)
    (hact : ∀ w, (s.setWord Reg.RING_CTL_CTRL w).get Reg.RING_CTL_CTRL_SLEEP_MODE = s.get Reg.RING_CTL_CTRL_SLEEP_MODE →
      act (s.setWord Reg.RING_CTL_CTRL w) = (g (s.setWord Reg.RING_CTL_CTRL w), st) ∧
        (g (s.setWord Reg.RING_CTL_CTRL w)).host = s.host) :
    ∃ u, s.Wrote Reg.RING_CTL_CTRL 0 0 [(Reg.RING_CTL_CTRL_SLEEP_MODE, s.get Reg.RING_CTL_CTRL_SLEEP_MODE)] u ∧
      hostSet acc Reg.RING_CTL_CTRL 0 [(b, b, 1)] s = (g u).answered st := by
  have hmask : ∀ c < 6, bit (row_RING_CTL_CTRL.mask .rw) c = false := by decide
  refine hostSet_owner_wrote rowAt_RING_CTL_CTRL rfl (by decide) ⟨rfl, by decide⟩ (fun w => rfl) howns (by simp)
    (fieldsRead_cons hfield hkept fieldsRead_nil) (fun v hv => ?_)
    (fun w hw => hact w (get_setWord_field (rising_of_canon hcanon) ⟨rfl, rfl, rfl, rfl, rfl⟩ (hw _ List.mem_cons_self)))
  have hbits : ∀ c < 6, bit v c = bitAfter [(b, b, 1)] c false := fun c hc => hv c (by omega) (hmask c hc)
  rw [waActs_RING_CTL_CTRL, ← hacts]
  simp only [ringActs, hbits 0 (by decide), hbits 1 (by decide), hbits 2 (by decide), hbits 3 (by decide), hbits 4 (by decide),
    hbits 5 (by decide)]

end

/-- Settles O21: each write starts the action of its bit; what ring control reads is apart from the word written. -/
theorem ringCommandsTakeEffect : Obligations.RingCommandsTakeEffect := by
  refine ⟨fun acc s howns _ => ?_, fun acc s howns _ => ?_, fun acc s howns hcanon hcoord => ?_,
    fun acc s howns hcanon hcoord hconf hok hlacking => ?_, fun acc s howns hcanon hcoord => ?_,
    fun acc s howns hcanon hbarred => ?_, fun acc s howns hcanon hbarred hgood => ?_, fun acc s howns hcanon hcoord => ?_,
    fun acc s howns hcanon hcoord hstandby => ?_, fun acc s howns hcanon hcoord => ?_, fun acc s howns hcanon => ?_,
    fun acc s howns hcanon hcoord hconf hok hlacking => ?_, fun acc s howns hcanon hcoord hconf hok => ?_,
    fun acc s howns hcanon hcoord hstandby => ?_, fun acc s howns hcanon hcoord => ?_,
    fun acc s howns hcanon hbarred hgood => ?_, fun acc s howns hcanon hcoord => ?_⟩
  · exact next_of_wrote rfl (hostSet_RING_DP_CTRL howns rfl (by decide) rfl rfl (by simp))
  · exact next_of_wrote rfl (hostSet_RING_DP_CTRL howns rfl (by decide) rfl rfl (by simp))
  all_goals have hregs := rising_of_canon hcanon
  · refine next_of_wrote rfl (hostSet_RING_CTL_CTRL (b := 0) howns hcanon rfl rfl rfl fun w _ => ⟨?_, by simp⟩)
    simp [actCommit, isCoord_RING_CTL_CTRL hregs, hcoord]
  · refine next_of_wrote rfl (hostSet_RING_CTL_CTRL (b := 0) howns hcanon rfl rfl rfl fun w _ => ⟨?_, by simp⟩)
    have hfits := actCommit_issues (s := s.setWord Reg.RING_CTL_CTRL w) ((isCoord_RING_CTL_CTRL hregs).trans hcoord) hconf
      (cfgConf_RING_CTL_CTRL hregs ▸ hok) (by rw [lacking_RING_CTL_CTRL hregs, cfgConf_RING_CTL_CTRL hregs]; exact hlacking)
    rw [hfits, cfgConf_RING_CTL_CTRL hregs]
  · refine next_of_wrote rfl (hostSet_RING_CTL_CTRL (b := 2) howns hcanon rfl rfl rfl fun w _ => ⟨?_, by simp⟩)
    simp [actReroll, isCoord_RING_CTL_CTRL hregs, hcoord]
  · refine next_of_wrote rfl (hostSet_RING_CTL_CTRL (b := 1) howns hcanon rfl rfl rfl fun w _ => ⟨?_, by simp⟩)
    simp only [actTmReq, tmBarred_RING_CTL_CTRL hregs, hbarred, if_true]
  · refine next_of_wrote rfl (hostSet_RING_CTL_CTRL (b := 1) howns hcanon rfl rfl rfl fun w _ => ⟨?_, by simp⟩)
    rw [actTmReq_open ((tmBarred_RING_CTL_CTRL hregs).trans hbarred), tmGood_RING_CTL_CTRL hregs, hgood, if_pos rfl,
      tmTarget_RING_CTL_CTRL hregs, svc_RING_CTL_CTRL hregs]
  · refine next_of_wrote rfl (hostSet_RING_CTL_CTRL (b := 3) howns hcanon rfl rfl rfl fun w _ => ⟨?_, by simp⟩)
    rw [actRingLeave_follower ((isCoord_RING_CTL_CTRL hregs).trans hcoord), ctl_RING_CTL_CTRL hregs]
  · refine next_of_wrote rfl (hostSet_RING_CTL_CTRL (b := 3) howns hcanon rfl rfl rfl fun w _ => ⟨?_, by simp⟩)
    rw [actRingLeave_office ((isCoord_RING_CTL_CTRL hregs).trans hcoord) hstandby, ctl_RING_CTL_CTRL hregs]
  · refine next_of_wrote rfl (hostSet_RING_CTL_CTRL (b := 4) howns hcanon rfl rfl rfl fun w hmode => ⟨?_, forN_host (by simp) _ _⟩)
    rw [actRingSleep_office ((isCoord_RING_CTL_CTRL hregs).trans hcoord), hmode, State.sleepBody, State.sleepBody,
      cycleNo_RING_CTL_CTRL hregs]
  · refine next_of_wrote rfl (hostSet_RING_CTL_CTRL (b := 5) howns hcanon rfl rfl rfl fun w _ => ⟨rfl, by simp⟩)
  · refine next_of_wrote rfl (hostSet_RING_CTL_CTRL (b := 0) howns hcanon rfl rfl rfl fun w _ => ⟨?_, by simp⟩)
    have hsteps := actCommit_steps (s := s.setWord Reg.RING_CTL_CTRL w) ((isCoord_RING_CTL_CTRL hregs).trans hcoord) hconf
      (cfgConf_RING_CTL_CTRL hregs ▸ hok) (by rw [lacking_RING_CTL_CTRL hregs, cfgConf_RING_CTL_CTRL hregs]; exact hlacking)
    rw [hsteps, lacking_RING_CTL_CTRL hregs, cfgConf_RING_CTL_CTRL hregs]
    rfl
  · refine next_of_wrote rfl (hostSet_RING_CTL_CTRL (b := 0) howns hcanon rfl rfl rfl fun w _ => ⟨?_, by simp⟩)
    exact actCommit_refuses ((isCoord_RING_CTL_CTRL hregs).trans hcoord) hconf (cfgConf_RING_CTL_CTRL hregs ▸ hok)
  · refine next_of_wrote rfl (hostSet_RING_CTL_CTRL (b := 3) howns hcanon rfl rfl rfl fun w _ => ⟨?_, by simp⟩)
    exact actRingLeave_alone ((isCoord_RING_CTL_CTRL hregs).trans hcoord) hstandby
  · refine next_of_wrote rfl (hostSet_RING_CTL_CTRL (b := 2) (g := id) howns hcanon rfl rfl rfl fun w _ => ⟨?_, rfl⟩)
    simp [actReroll, isCoord_RING_CTL_CTRL hregs, hcoord]
  · refine next_of_wrote rfl (hostSet_RING_CTL_CTRL (b := 1) howns hcanon rfl rfl rfl fun w _ => ⟨?_, by simp⟩)
    rw [actTmReq_open ((tmBarred_RING_CTL_CTRL hregs).trans hbarred), tmGood_RING_CTL_CTRL hregs, hgood]
    rfl
  · refine next_of_wrote rfl (hostSet_RING_CTL_CTRL (b := 4) (g := id) howns hcanon rfl rfl rfl fun w _ => ⟨?_, rfl⟩)
    simp [actRingSleep, isCoord_RING_CTL_CTRL hregs, hcoord]

end Sys2Proof.Machine

/-! PROOFS. The mode of a port under a host (R298). -/
namespace Sys2Proof.Machine
open Sys2Proof Sys2Proof.Machine.Laws

theorem rowAt_PORT_Pp_CFG (p : Fin 3) : RowAt Reg.PORT_Pp_CFG p.val row_PORT_Pp_CFG :=
  rowAt_of (find_PORT_Pp_CFG p) (addr_PORT_Pp_CFG p) rfl

theorem regRw_PORT_Pp_CFG (i j t : Nat) (v : Word) (s : State) : regRw row_PORT_Pp_CFG i j t v s = portCfgWrite i v s := rfl

/-- A write of a mode that a port has, and that differs from its own, ends what was known of the branch port's speed. -/
theorem portCfgWrite_branchOnly {s : State} {v : Word} (hbad : bitsOf v.toNat 3 1 = 2) (hnew : s.get Reg.PORT_Pp_CFG_MODE 2 ≠ 2) :
    (portCfgWrite 2 v s).1.port.branchOnly = none := by
  have hchg : (2 ≠ s.get Reg.PORT_Pp_CFG_MODE 2) := fun h => hnew h.symm
  simp [portCfgWrite, hbad, hchg]

/-- A node just powered, whose branch port is to come back at one speed alone. -/
def branchSpeed : State :=
  { State.reset with
    dom := { DomState.reset with powered := true }
    port := { PortState.reset with branchOnly := some 1 } }

/-- Refutes O22: a new mode of the branch port also ends the one speed that the port was to come back at (R298), which the
statement keeps. -/
theorem not_portCommandsTakeEffect : ¬ Obligations.PortCommandsTakeEffect := by
  unfold Obligations.PortCommandsTakeEffect
  rintro ⟨hmode, -⟩
  have howns : branchSpeed.owns ⟨.debug, 0⟩ (0x90000 + 0x20 * (2 : Fin 3).val) = true := by decide
  obtain ⟨u, ⟨w, -, rfl⟩, hkept⟩ := hmode ⟨.debug, 0⟩ 2 2 branchSpeed howns (by decide) (by decide) (by decide) (by decide)
  obtain ⟨v, hvals, hrun⟩ := hostSet_unit_vals (fs := [Reg.PORT_Pp_CFG_MODE.is' 2]) (t := 0) (vals := [(Reg.PORT_Pp_CFG_MODE, 2)])
    (rowAt_PORT_Pp_CFG 2) (by decide) rfl (fun v => rfl) (owns_opens howns) (mayWriteReg_of_owner (x := ⟨.debug, 0⟩) ⟨rfl, by decide⟩ rfl)
    (fieldsRead_cons rfl rfl fieldsRead_nil)
  have hended : exec (.portModeWrite ⟨.debug, 0⟩ 2 2) branchSpeed =
      .next ((portCfgWrite 2 v branchSpeed).1.answered (portCfgWrite 2 v branchSpeed).2) :=
    congrArg Host.Outcome.next (hrun (portCfgWrite 2 v branchSpeed).1 (portCfgWrite 2 v branchSpeed).2 (regRw_PORT_Pp_CFG 2 0 0 v branchSpeed)
      (portCfgWrite_host _ _ _))
  rw [hended] at hkept
  injection hkept with hsame
  have hbranch := congrArg (fun s : State => s.port.branchOnly) hsame
  have hnone : (portCfgWrite 2 v branchSpeed).1.port.branchOnly = none :=
    portCfgWrite_branchOnly (hvals _ List.mem_cons_self) (by decide)
  have hdown : linkDown 2 (branchSpeed.setWord Reg.PORT_Pp_CFG w 2) = branchSpeed.setWord Reg.PORT_Pp_CFG w 2 := by
    have hregs : rising branchSpeed.regs = true := by decide
    have hlink : (branchSpeed.setWord Reg.PORT_Pp_CFG w 2).linkUp 2 = false := by
      rw [State.linkUp, is_setWord_ne hregs (by decide)]
      decide
    simp [linkDown, hlink]
  have hsome : (State.setB ((fun t : State => { t with port := { t.port with linked := setNth t.port.linked 2 false } })
      (linkDown 2 (branchSpeed.setWord Reg.PORT_Pp_CFG w 2))) Reg.PORT_Pp_LINK_CORBEL (decide ((2 : Nat) = 4)) 2).port.branchOnly =
      some 1 := by
    rw [hdown]
    rfl
  exact absurd (hnone.symm.trans (hbranch.trans hsome)) (by decide)

end Sys2Proof.Machine

/-! PROOFS. Requests of a host to the power-control die, and what they do there (R25, R344 to R352, R369). -/
namespace Sys2Proof.Machine
open Sys2Proof Sys2Proof.Machine.Laws

/-! ## Across the barrier -/

/-- The state in which a host's write to a register of the power-control die waits for its result. -/
def State.crossing (s : State) (p : Path) (a : Nat) (w : Word) : State :=
  { s with
    pwr := { s.pwr with reqs := s.pwr.reqs ++ [⟨true, a, w, .host⟩] }
    host := { s.host with stalled := [⟨⟨.single, p, 0, true, 0, 4, 1, a, leBytes 4 w.toNat, 0, []⟩, .barrier⟩] } }

theorem leBytes4_mod (v : Nat) : leBytes 4 (v % 2 ^ 32) = leBytes 4 v := by
  simp only [leBytes, List.cons.injEq, and_true]
  refine ⟨?_, ?_, ?_, ?_⟩ <;> apply BitVec.eq_of_toNat_eq <;> simp only [BitVec.toNat_ofNat] <;> omega

/-- The one request that waits, waits on while its condition stands. -/
theorem resume_waiting {s : State} {x : Stalled} (hover : s.waitOver x = false) (hstalled : s.host.stalled = [x]) :
    resume s = s := by
  have hnone (n : Nat) : resumeN n s = s := by
    cases n with
    | zero => rfl
    | succ n => simp [resumeN, hstalled, takeFirst, hover]
  exact hnone _

/-- With the link carrying frames both ways, the owner's write to a register of the power-control die becomes a request. -/
theorem hostWrite_pwr {x : Access} {a v : Nat} {s : State} {r : RegRow} {i j : Nat} (howns : s.owns x a = true)
    (hrow : regFind a = some (r, i, j)) (howner : r.writers = .owner ∧ r.addr ≠ 0xE010C) (halign : a % 4 = 0)
    (hpwr : a / 65536 = 15) (hlink : s.linkOk = true) : hostWrite x a v s = s.crossing x.path a (BitVec.ofNat 32 v) := by
  obtain ⟨hopen, hten, hdom, hquiet⟩ := opens_parts (owns_opens howns)
  have hzero := owns_zero howns
  have hreg : inRegs a = true := by simp [inRegs]; omega
  have hword : a / 4 * 4 = a := by omega
  have hright := mayWriteReg_of_owner (s := s) (i := i) howner hzero
  have hdata : leVal ((leBytes 4 v).take 4) = v % 2 ^ 32 := by
    rw [List.take_of_length_le (Nat.le_of_eq (leBytes_length 4 v)), leVal_leBytes]
  have hvalue : BitVec.ofNat 32 (v % 2 ^ 32) = BitVec.ofNat 32 v := by
    apply BitVec.eq_of_toNat_eq
    simp
  have hacc : access x.path (accTen x) true a 4 (v % 2 ^ 32) s =
      ({ s with pwr := { s.pwr with reqs := s.pwr.reqs ++ [⟨true, a, BitVec.ofNat 32 v, .host⟩] } }, .wait .barrier) := by
    rw [access_regs _ _ _ _ _ _ hten hdom hreg halign]
    simp [regAccess, hword, hrow, hright, hpwr, pwrSend, hlink]
    exact hvalue
  simp only [hostWrite, single, hopen, runReq, hdata, hacc, stall]
  refine (resume_waiting (x := ⟨⟨.single, x.path, accTen x, true, 0, 4, 1, a, leBytes 4 v, 0, []⟩, .barrier⟩) rfl ?_).trans ?_
  · simp [hquiet]
  · simp only [State.crossing, hquiet, hzero, List.nil_append, BitVec.toNat_ofNat, leBytes4_mod]

/-- The same for a write of fields. -/
theorem hostSet_pwr {x : Access} {f : Fld} {i : Nat} {fs : List (Nat × Nat × Nat)} {s : State} {r : RegRow}
    (howns : s.owns x (f.addr + f.s1 * i) = true) (hrow : regFind (f.addr + f.s1 * i) = some (r, i, 0))
    (howner : r.writers = .owner ∧ r.addr ≠ 0xE010C)
    (hplace : (f.addr + f.s1 * i) % 4 = 0 ∧ inRegs (f.addr + f.s1 * i) = true ∧ (f.addr + f.s1 * i) / 65536 = 15)
    (hlink : s.linkOk = true) :
    hostSet x f i fs s = s.crossing x.path (f.addr + f.s1 * i) (BitVec.ofNat 32 (composed s f i 0 (r.mask .rw) fs)) := by
  simp only [hostSet, hrow, owns_zero howns]
  exact hostWrite_pwr howns hrow howner hplace.1 hplace.2.2 hlink

/-! ## The word of the request -/


/-- The word of a request to a channel: the fields named, TIMED kept. -/
def chWord (s : State) (n : Nat) (fs : List (Nat × Nat × Nat)) : Word :=
  BitVec.ofNat 32 (composed s Reg.PWR_CHn_CTRL n 0 (row_PWR_CHn_CTRL.mask .rw) fs)

theorem mod256_of_bits {v k : Nat} (hbits : ∀ b < 8, bit v b = bit k b) : v % 256 = k % 256 := by
  apply Nat.eq_of_testBit_eq
  intro b
  rw [show (256 : Nat) = 2 ^ 8 from rfl, Nat.testBit_mod_two_pow, Nat.testBit_mod_two_pow]
  by_cases hb : b < 8
  · simp only [hb, decide_true, Bool.true_and, ← bit_eq_testBit, hbits b hb]
  · simp [hb]

theorem chWord_low {s : State} {n k : Nat} {fs : List (Nat × Nat × Nat)} (hfs : fs.all (fun g => decide (g.2.1 ≤ g.1)) = true)
    (hk : ∀ b < 8, bitAfter fs b false = bit k b) : (chWord s n fs).toNat % 256 = k % 256 := by
  have hmask : ∀ b < 8, bit (row_PWR_CHn_CTRL.mask .rw) b = false := by decide
  refine mod256_of_bits fun b hb => ?_
  rw [chWord, BitVec.toNat_ofNat, bit_composed hfs (by omega) (hmask b hb), hk b hb]

theorem chWord_timed {s : State} {n : Nat} {fs : List (Nat × Nat × Nat)} {tm : Bool}
    (hfs : fs.all (fun g => decide (g.2.1 ≤ g.1)) = true) (htm : ∀ before, bitAfter fs 8 before = tm) :
    bit (chWord s n fs).toNat 8 = tm := by
  rw [chWord, BitVec.toNat_ofNat, bit_mod _ _ (by decide), composed, bit_putFields hfs, htm]

/-! ## At the die -/

theorem waActs_PWR_CHn_CTRL (i t : Nat) (p : Path) (v : Nat) : waActs row_PWR_CHn_CTRL i t p v =
    (if bit v 0 then [actChArm i] else []) ++ (if bit v 1 then [actChRelease i] else []) ++
    (if bit v 2 then [actChMute i] else []) ++ (if bit v 3 then [actChDisarm i] else []) := rfl

theorem bit_of_mod256 {v b : Nat} (hb : b < 8) : bit v b = bit (v % 256) b := by
  rw [bit_eq_testBit, bit_eq_testBit, show (256 : Nat) = 2 ^ 8 from rfl, Nat.testBit_mod_two_pow]
  simp [hb]

/-- A request for a channel at the die: TIMED is taken, and the action of the low byte acts. -/
theorem pwrRun_ch {n : Fin 8} {w : Word} {u : State} {k : Nat} {act : State → Act} {who : PwrWho}
    (hlow : w.toNat % 256 = k) (hacts : waActs row_PWR_CHn_CTRL n.val 0 .spi k = [act]) :
    ∃ x : Word, bitsOf x.toNat 8 8 = bitsOf w.toNat 8 8 ∧ ∀ v st, act (u.setWord Reg.PWR_CHn_CTRL x n.val) = (v, st) →
      pwrRun ⟨true, 0xF0108 + 0x40 * n.val, w, who⟩ u = (v, st, 0#32) := by
  have hrow : regFind (0xF0108 + 0x40 * n.val) = some (row_PWR_CHn_CTRL, n.val, 0) := find_PWR_CHn_CTRL n
  have hones : w.toNat &&& (2 ^ 32 - 1) = w.toNat := and_ones32 w.isLt
  have hbits : waActs row_PWR_CHn_CTRL n.val 0 .spi w.toNat = [act] := by
    rw [← hacts, ← hlow, waActs_PWR_CHn_CTRL, waActs_PWR_CHn_CTRL]
    simp only [← bit_of_mod256 (v := w.toNat) (b := 0) (by decide), ← bit_of_mod256 (v := w.toNat) (b := 1) (by decide),
      ← bit_of_mod256 (v := w.toNat) (b := 2) (by decide), ← bit_of_mod256 (v := w.toNat) (b := 3) (by decide)]
  refine ⟨_, bitsOf_merge (u.word Reg.PWR_CHn_CTRL n.val).toNat w.toNat 0x100 8 8 ?_ (by decide), fun v st hact => ?_⟩
  · intro b hlo hhi
    obtain rfl : b = 8 := by omega
    decide
  · have hwrite : regWrite row_PWR_CHn_CTRL n.val 0 0 .spi w.toNat (2 ^ 32 - 1) u = (v, st) := by
      rw [regWrite_plain (k := 0x100) rfl rfl (by decide) (by decide) (fun _ => rfl) (by decide), hones, hbits]
      exact runActs_one hact
    simp only [pwrRun, hrow, if_true]
    exact congrArg (fun r : Act => (r.1, r.2, 0#32)) hwrite

/-! ### What the actions of a channel leave -/

theorem nth_modNth {α : Type} (l : List α) (n : Nat) (f : α → α) (d : α) (hn : n < l.length) :
    nth (modNth l n f) n d = f (nth l n d) := by
  simp [nth, modNth, hn]

theorem pc_modPc {s : State} {n : Nat} (f : PwrCh → PwrCh) (hn : n < s.pwr.chans.length) : (s.modPc n f).pc n = f (s.pc n) :=
  nth_modNth _ _ _ _ hn

theorem setAction_pwr (s : State) (n v : Nat) : (s.setAction n v).pwr = s.pwr := by
  simp only [State.setAction]
  split <;> simp

theorem setAction_pc (s : State) (n v k : Nat) : (s.setAction n v).pc k = s.pc k := by
  simp only [State.pc, setAction_pwr]

theorem cancelAction_idle {s : State} {n : Nat} (hn : n < s.pwr.chans.length) :
    ((s.cancelAction n).pc n).act = 0 ∧ ((s.cancelAction n).pc n).edge = none := by
  simp only [State.cancelAction]
  split
  · next hidle => simpa [Option.isNone_iff_eq_none] using hidle
  · rw [setAction_pc, pc_modPc _ hn]
    exact ⟨rfl, rfl⟩

theorem cancelAction_length (s : State) (n : Nat) : (s.cancelAction n).pwr.chans.length = s.pwr.chans.length := by
  simp only [State.cancelAction]
  split
  · rfl
  · rw [setAction_pwr]
    simp only [State.modPc, modNth]
    split <;> simp

/-- A release or mute that waits for no tick is due 4 ticks on. -/
theorem schedule_untimed {s : State} {n act : Nat} (hn : n < s.pwr.chans.length) :
    ((s.schedule n act false).pc n).act = act ∧ ((s.schedule n act false).pc n).target = s.ks.count + 4 := by
  have hlen : n < (s.cancelAction n).pwr.chans.length := cancelAction_length s n ▸ hn
  simp only [State.schedule, Bool.false_and, Bool.false_eq_true, if_false]
  rw [setAction_pc, pc_modPc _ hlen]
  exact ⟨rfl, rfl⟩

/-- What a register elsewhere says stays when a channel's control word is replaced. -/
theorem ch_setCtrl {u : State} {x : Word} {n : Nat} (hregs : rising u.regs = true) :
    (u.setWord Reg.PWR_CHn_CTRL x n).ch n = u.ch n :=
  get_setWord_other hregs (by simp [Fld.key, Reg.PWR_CHn_CTRL, Reg.PWR_CHn_STATE_STATE])

theorem armBarred_setCtrl {u : State} {x : Word} {n : Nat} (hregs : rising u.regs = true) :
    (u.setWord Reg.PWR_CHn_CTRL x n).armBarred n = u.armBarred n := by
  have hsource : (u.setWord Reg.PWR_CHn_CTRL x n).get Reg.PWR_SW_STATUS_SOURCE = u.get Reg.PWR_SW_STATUS_SOURCE :=
    get_setWord_other hregs (by simp [Fld.key, Reg.PWR_CHn_CTRL, Reg.PWR_SW_STATUS_SOURCE]; omega)
  simp only [State.armBarred, State.hvHold, hsource]
  rfl

theorem timed_setCtrl {u : State} {x : Word} {n : Nat} (hregs : rising u.regs = true) :
    (u.setWord Reg.PWR_CHn_CTRL x n).is Reg.PWR_CHn_CTRL_TIMED n = bit x.toNat 8 := by
  have hfield : (u.setWord Reg.PWR_CHn_CTRL x n).get Reg.PWR_CHn_CTRL_TIMED n = bitsOf x.toNat 8 8 :=
    get_setWord_field hregs ⟨rfl, rfl, rfl, rfl, rfl⟩ rfl
  exact congrArg (· == 1) hfield

theorem get_int_ne {s : State} {f g : Fld} {b i j t : Nat} (hregs : rising s.regs = true) (hkey : g.key i j t ≠ f.key 0 0 0) :
    (s.int f b).get g i j t = s.get g i j t :=
  get_of_regFrame (K := fun k => k = f.key 0 0 0) (regFrame_int (regFrame_refl _ s) rfl) hregs hkey

theorem ch_setCh {s : State} {n v : Nat} (hregs : rising s.regs = true) (hv : v < 8) : (s.setCh n v).ch n = v := by
  simp only [State.setCh]
  split
  · next hsame => exact hsame
  · refine (get_int_ne (rising_setWord _ _ _ _ _ _ hregs) ?_).trans ?_
    · simp [Fld.key, Reg.PWR_CHn_STATE_STATE, Reg.PWR_INT_STATUS_STATE]; omega
    · exact (get_set_same (f := Reg.PWR_CHn_STATE_STATE) v n 0 0 hregs (by decide) (by decide)).trans (Nat.mod_eq_of_lt hv)

theorem ch_arm {s : State} {n : Nat} (hregs : rising s.regs = true) : (s.arm n).ch n = 2 := by
  unfold State.arm
  extract_lets _ _ u w
  have hstart : RegFrame (fun _ => True) s u := regFrame_refl _ s
  have hframe : RegFrame (fun _ => True) s w :=
    regFrame_ite hstart (regFrame_forN hstart fun _ _ _ hmid => regFrame_setWord hmid trivial)
  have hready : RegFrame (fun _ => True) s (w.setB Reg.PWR_CHn_STATE_READY false n) := regFrame_setB hframe trivial
  exact ch_setCh (hready hregs).1 (by decide)

theorem actChArm_held {s : State} {n : Nat} (hheld : s.ch n = 1) (hfree : s.armBarred n = false) :
    actChArm n s = (s.arm n, stOk) := by simp [actChArm, hheld, hfree]

theorem actChRelease_armed {s : State} {n : Nat} (harmed : s.ch n = 2) :
    actChRelease n s = (s.schedule n 1 (s.is Reg.PWR_CHn_CTRL_TIMED n), stOk) := if_pos harmed

theorem actChMute_armed {s : State} {n : Nat} (harmed : s.ch n = 2) : actChMute n s = (s.disarmed n, stOk) := if_pos harmed

theorem actChMute_live {s : State} {n : Nat} (hlive : s.ch n = 3) :
    actChMute n s = (s.schedule n 2 (s.is Reg.PWR_CHn_CTRL_TIMED n), stOk) := by
  simp [actChMute, hlive]

theorem actChDisarm_quiet {s : State} {n : Nat} (hother : s.ch n ≠ 4) : actChDisarm n s = (s.cancelAction n, stOk) := if_neg hother

/-! ## From the request to its effect -/

/-- A request whose word starts one action of the channel, and what that action leaves of the state it acts on. -/
theorem pwrRun_ch_of {n : Fin 8} {w : Word} {u : State} {k : Nat} {act : State → Act} {P : State → Prop}
    (hlow : w.toNat % 256 = k) (hacts : waActs row_PWR_CHn_CTRL n.val 0 .spi k = [act])
    (hact : ∀ x : Word, bit x.toNat 8 = bit w.toNat 8 → ∃ v, act (u.setWord Reg.PWR_CHn_CTRL x n.val) = (v, stOk) ∧ P v) :
    ∃ v, pwrRun ⟨true, 0xF0108 + 0x40 * n.val, w, .host⟩ u = (v, stOk, 0#32) ∧ P v := by
  obtain ⟨x, htimed, hrun⟩ := pwrRun_ch (u := u) (who := .host) hlow hacts
  obtain ⟨v, hv, hleft⟩ := hact x (congrArg (· == 1) htimed)
  exact ⟨v, hrun v stOk hv, hleft⟩

theorem hostSet_ch {acc : Access} {n : Fin 8} {s : State} {fs : List (Nat × Nat × Nat)}
    (howns : s.owns acc (0xF0108 + 0x40 * n.val) = true) (hlink : s.linkOk = true) :
    hostSet acc Reg.PWR_CHn_CTRL n.val fs s = s.crossing acc.path (0xF0108 + 0x40 * n.val) (chWord s n.val fs) :=
  hostSet_pwr howns (find_PWR_CHn_CTRL n) ⟨rfl, by decide⟩ (addr_PWR_CHn_CTRL n) hlink

theorem hostSet_apply {acc : Access} {s : State} (howns : s.owns acc 0xF0010 = true) (hlink : s.linkOk = true) :
    hostSet acc Reg.PWR_SW_CTRL 0 [Reg.PWR_SW_CTRL_APPLY.is' 1] s = s.crossing acc.path 0xF0010 1#32 := by
  refine (hostSet_pwr howns find_PWR_SW_CTRL ⟨rfl, by decide⟩ addr_PWR_SW_CTRL hlink).trans (congrArg _ ?_)
  simp only [composed, show row_PWR_SW_CTRL.mask .rw = 0 from rfl, Nat.and_zero]
  rfl

theorem pwrRun_apply (u : State) : pwrRun ⟨true, 0xF0010, 1#32, .host⟩ u = ((swApply u).1, (swApply u).2, 0#32) := by
  have hwrite : regWrite row_PWR_SW_CTRL 0 0 0 .spi 1 (2 ^ 32 - 1) u = swApply u :=
    (regWrite_acts rfl rfl (by decide) (by decide)).trans (runActs_one rfl)
  have hrow : regFind 0xF0010 = some (row_PWR_SW_CTRL, 0, 0) := find_PWR_SW_CTRL
  simp only [pwrRun, hrow, if_true]
  exact congrArg (fun r : Act => (r.1, r.2, 0#32)) hwrite

theorem bit_b2n (tm : Bool) : bit (b2n tm) 0 = tm := by cases tm <;> rfl

/-- Settles O23: a request is the word of the write, which at the die starts the one action of its low byte. -/
theorem powerChannelCommandsTakeEffect : Obligations.PowerChannelCommandsTakeEffect := by
  have harm (s : State) (n : Nat) : (chWord s n [Reg.PWR_CHn_CTRL_ARM.is' 1]).toNat % 256 = 1 := chWord_low (k := 1) rfl (by decide)
  have hdisarm (s : State) (n : Nat) : (chWord s n [Reg.PWR_CHn_CTRL_DISARM.is' 1]).toNat % 256 = 8 := chWord_low (k := 8) rfl (by decide)
  have hrelease (s : State) (n : Nat) (tm : Bool) :
      (chWord s n [Reg.PWR_CHn_CTRL_TIMED.is' (b2n tm), Reg.PWR_CHn_CTRL_RELEASE.is' 1]).toNat % 256 = 2 :=
    chWord_low (k := 2) rfl (by cases tm <;> exact of_decide_eq_true rfl)
  have hmute (s : State) (n : Nat) (tm : Bool) :
      (chWord s n [Reg.PWR_CHn_CTRL_TIMED.is' (b2n tm), Reg.PWR_CHn_CTRL_MUTE.is' 1]).toNat % 256 = 4 :=
    chWord_low (k := 4) rfl (by cases tm <;> exact of_decide_eq_true rfl)
  have htimed (s : State) (n : Nat) (tm : Bool) :
      bit (chWord s n [Reg.PWR_CHn_CTRL_TIMED.is' (b2n tm), Reg.PWR_CHn_CTRL_RELEASE.is' 1]).toNat 8 = tm ∧
      bit (chWord s n [Reg.PWR_CHn_CTRL_TIMED.is' (b2n tm), Reg.PWR_CHn_CTRL_MUTE.is' 1]).toNat 8 = tm :=
    ⟨chWord_timed rfl fun _ => bit_b2n tm, chWord_timed rfl fun _ => bit_b2n tm⟩
  have hch {n : Fin 8} {u : State} (x : Word) (hcanon : u.canon = true) :=
    ch_setCtrl (n := n.val) (x := x) (rising_of_canon hcanon)
  refine ⟨fun acc n s howns hlink => ⟨_, harm s n, congrArg _ (hostSet_ch howns hlink)⟩,
    fun acc n tm s howns hlink => ⟨_, hrelease s n tm, (htimed s n tm).1, congrArg _ (hostSet_ch howns hlink)⟩,
    fun acc n tm s howns hlink => ⟨_, hmute s n tm, (htimed s n tm).2, congrArg _ (hostSet_ch howns hlink)⟩,
    fun acc n s howns hlink => ⟨_, hdisarm s n, congrArg _ (hostSet_ch howns hlink)⟩,
    fun acc s howns hlink => ⟨_, rfl, congrArg _ (hostSet_apply howns hlink)⟩,
    fun n s => actChArm_held, fun n s => actChMute_armed, fun n s => actChDisarm_quiet,
    fun acc n s howns hlink => ⟨_, _, congrArg Host.Outcome.next (hostSet_ch howns hlink), rfl, rfl, rfl, fun u hcanon hn hheld hfree => ?_⟩,
    fun acc n s howns hlink => ⟨_, _, congrArg Host.Outcome.next (hostSet_ch howns hlink), rfl, rfl, rfl, fun u hcanon hn harmed => ?_⟩,
    fun acc n s howns hlink => ⟨_, _, congrArg Host.Outcome.next (hostSet_ch howns hlink), rfl, rfl, rfl, fun u hcanon hn hlive => ?_⟩,
    fun acc n s howns hlink => ⟨_, _, congrArg Host.Outcome.next (hostSet_ch howns hlink), rfl, rfl, rfl, fun u hcanon hn hquiet => ?_⟩,
    fun acc s howns hlink => ⟨_, _, congrArg Host.Outcome.next (hostSet_apply howns hlink), rfl, rfl, rfl, pwrRun_apply⟩⟩
  · refine pwrRun_ch_of (harm s n) rfl fun x _ => ⟨_, actChArm_held ((hch x hcanon).trans hheld) ?_, ch_arm ?_⟩
    · rw [armBarred_setCtrl (rising_of_canon hcanon), hfree]
    · exact rising_setWord _ _ _ _ _ _ (rising_of_canon hcanon)
  · refine pwrRun_ch_of (hrelease s n false) rfl fun x hx => ⟨_, actChRelease_armed ((hch x hcanon).trans harmed), ?_⟩
    rw [timed_setCtrl (rising_of_canon hcanon), hx, (htimed s n false).1]
    exact schedule_untimed hn
  · refine pwrRun_ch_of (hmute s n false) rfl fun x hx => ⟨_, actChMute_live ((hch x hcanon).trans hlive), ?_⟩
    rw [timed_setCtrl (rising_of_canon hcanon), hx, (htimed s n false).2]
    exact schedule_untimed hn
  · exact pwrRun_ch_of (hdisarm s n) rfl fun x _ =>
      ⟨_, actChDisarm_quiet (fun hmuting => hquiet ((hch x hcanon).symm.trans hmuting)), cancelAction_idle hn⟩

end Sys2Proof.Machine

/-! PROOFS. The abort of a diagnostic run under a host (R397). -/
namespace Sys2Proof.Machine
open Sys2Proof Sys2Proof.Machine.Laws

/-- What is read of the state in which a command completes. -/
def readAfter {α : Type} (read : State → α) (other : α) : Host.Outcome State Fault Refusal → α
  | .next t => read t
  | .fault _ | .refused _ => other

theorem rowAt_BST_DIAG_CTRL : RowAt Reg.BST_DIAG_CTRL 0 row_BST_DIAG_CTRL := rowAt_of find_BST_DIAG_CTRL addr_BST_DIAG_CTRL rfl

theorem waActs_BST_DIAG_CTRL (t : Nat) (p : Path) (v : Nat) : waActs row_BST_DIAG_CTRL 0 t p v =
    (if bit v 0 then [actDiagStart] else []) ++ (if bit v 4 then [plainAct actDiagAbort] else []) := rfl

/-- DIAG_ABORT aborts the run. -/
theorem exec_diagAbort {acc : Access} {s : State} (howns : s.owns acc 0x100304 = true) :
    ∃ u, s.Wrote Reg.BST_DIAG_CTRL 0 0 [(Reg.BST_DIAG_CTRL_MODE, s.get Reg.BST_DIAG_CTRL_MODE)] u ∧
      exec (.diagAbort acc) s = .next ((diagAbort 0 u).answered stOk) := by
  refine next_of_wrote rfl (hostSet_owner_wrote (act := plainAct actDiagAbort) rowAt_BST_DIAG_CTRL rfl (by decide)
    ⟨rfl, by decide⟩ (fun w => rfl) howns rfl (fieldsRead_cons rfl rfl fieldsRead_nil) (fun v hv => ?_)
    (fun w _ => ⟨rfl, diagAbort_host _ _⟩))
  rw [waActs_BST_DIAG_CTRL, hv 0 (by decide) rfl, hv 4 (by decide) rfl]
  rfl

/-- The end of a run leaves what the logic side has asked of the channels. -/
theorem diagFinish_stops (result : Nat) (s : State) : (diagFinish result s).pwr.stops = s.pwr.stops := by
  simp [diagFinish, State.modDiag]

theorem runCtrl_stops (s : State) (n : Nat) (bits : List Nat) : (s.runCtrl n bits).pwr.stops = s.pwr.stops := by
  simp only [State.runCtrl]
  split <;> rfl

/-- An abort asks for its channels at the power-control die, not with the outputs that the logic side stops. -/
theorem diagAbort_stops (keep : Nat) (s : State) : (diagAbort keep s).pwr.stops = s.pwr.stops := by
  simp only [diagAbort]
  split
  · rfl
  · rw [diagFinish_stops]
    exact List.foldlRecOn (motive := fun u : State => u.pwr.stops = s.pwr.stops) _ _ rfl
      fun u hu n _ => (runCtrl_stops u n [4]).trans hu

/-- A run that has started channel 0, with the link to the power-control die in order. -/
def runStarted : State :=
  { State.reset with
    pwr := { PwrState.reset with on := true, dnSeen := true, upSeen := true }
    bst := { BstState.reset with diag := { DiagState.reset with step := .starting, mode := 1, chans := [0], started := 1 } } }

/-- Refutes O24: the abort of a run sends the mute of each channel that the run started as a request to the power-control die
(R397), where the statement notes it as a stop asked for by the logic side. -/
theorem not_protectionCommandsTakeEffect : ¬ Obligations.ProtectionCommandsTakeEffect := by
  unfold Obligations.ProtectionCommandsTakeEffect
  rintro ⟨-, -, habort⟩
  have howns : runStarted.owns ⟨.debug, 0⟩ 0x100304 = true := by decide
  obtain ⟨u, ⟨w, -, rfl⟩, hstated⟩ := habort ⟨.debug, 0⟩ runStarted howns (by decide) (by decide)
  obtain ⟨v, ⟨x, -, rfl⟩, hran⟩ := exec_diagAbort howns
  rw [hran] at hstated
  injection hstated with hsame
  have hstops := congrArg (fun s : State => s.pwr.stops) hsame
  have hkept : (diagAbort 0 (runStarted.setWord Reg.BST_DIAG_CTRL x)).pwr.stops = 0 := diagAbort_stops _ _
  have hasked : (diagFinish 4 ((runStarted.setWord Reg.BST_DIAG_CTRL w).askStop runStarted.bst.diag.started)).pwr.stops =
      runStarted.pwr.stops ||| runStarted.bst.diag.started := diagFinish_stops _ _
  exact absurd (hkept.symm.trans (hstops.trans hasked)) (by decide)

end Sys2Proof.Machine

/-! PROOFS. Enabling a playback path and an auxiliary converter under a host (R440, R451). -/
namespace Sys2Proof.Machine
open Sys2Proof

/-- Playback of slot 0 of serial port 0 is in order, and the slot is one that the port's routing owns too. -/
def sharedSlot : State :=
  (((({ State.reset with ten := { TenState.reset with allocs := [⟨0, 1, 0, 64⟩] } } : State).set Reg.SAPn_PB_MASK 1).set
    Reg.SAPn_PB_BASE 0x40000000).set Reg.SAPn_PB_FRAMES_FRAMES 16).set Reg.SAPn_TXOWN 1

theorem conflict_cleared {s : State} (hregs : rising s.regs = true) :
    (((s.setWord Reg.SAPn_PB_STAT 0#32).setWord Reg.SAPn_PB_WR 0#32).setWord Reg.SAPn_PB_RD 0#32).is Reg.SAPn_PB_STAT_CONFLICT =
      false := by
  have hstat := rising_setWord _ Reg.SAPn_PB_STAT 0#32 0 0 0 hregs
  have hread : (s.setWord Reg.SAPn_PB_STAT 0#32).get Reg.SAPn_PB_STAT_CONFLICT = 0 :=
    get_setWord_field hregs ⟨rfl, rfl, rfl, rfl, rfl⟩ rfl
  rw [is_setWord_ne (rising_setWord _ _ _ _ _ _ hstat) (by decide), is_setWord_ne hstat (by decide), State.is, hread]
  rfl

/-- Refutes O25: a playback path whose slots meet those of SAPn_TXOWN starts with CONFLICT set (R439), which the statement
leaves at 0. -/
theorem not_audioCommandsTakeEffect : ¬ Obligations.AudioCommandsTakeEffect := by
  unfold Obligations.AudioCommandsTakeEffect
  rintro ⟨-, -, -, -, -, hplay, -⟩
  have hcanon : sharedSlot.canon = true := by decide +kernel
  obtain ⟨u, ⟨w, -, rfl⟩, hstated⟩ := hplay ⟨.debug, 0⟩ 0 sharedSlot (by decide +kernel) hcanon (by decide +kernel) (by decide +kernel)
  have hran : readAfter (·.is Reg.SAPn_PB_STAT_CONFLICT) false (exec (.dmaEnable ⟨.debug, 0⟩ 0 true) sharedSlot) = true := by
    decide +kernel
  generalize sharedSlot = s at hcanon hstated hran
  rw [hstated] at hran
  exact Bool.noConfusion (hran.symm.trans (conflict_cleared (rising_setWord s Reg.SAPn_PB_CFG w 0 0 0 (rising_of_canon hcanon))))

/-- Refutes O26: enabling a channel also notes the level that its pin starts from (R451), which the statement keeps. -/
theorem not_auxAndClockCommandsTakeEffect : ¬ Obligations.AuxAndClockCommandsTakeEffect := by
  unfold Obligations.AuxAndClockCommandsTakeEffect
  rintro ⟨-, -, -, -, henable, -⟩
  obtain ⟨u, ⟨w, -, rfl⟩, hstated⟩ := henable ⟨.debug, 0⟩ 0 State.reset (by decide +kernel) (by decide +kernel) (by decide +kernel)
    (by decide +kernel) (by decide +kernel)
  have hran : readAfter (·.aux.map (·.pin.isSome)) [] (exec (.auxEnable ⟨.debug, 0⟩ 0) State.reset) =
      [true, false, false, false] := by decide +kernel
  have hkept : State.reset.aux.map (·.pin.isSome) = [false, false, false, false] := by decide +kernel
  rw [hstated] at hran
  exact absurd (hran.symm.trans hkept) (by decide)

end Sys2Proof.Machine

/-! PROOFS. Memory, holds, windows and quotas under a host (R503 to R513). -/
namespace Sys2Proof.Machine
open Sys2Proof Sys2Proof.Machine.Laws

/-! ## What a register of a tenancy leaves of the partition -/

theorem partIm_setWord {s : State} {f : Fld} {w : Word} {i t : Nat} (hregs : rising s.regs = true)
    (hkey : Reg.IMG_STATUS_STAGE.key 0 0 0 ≠ f.key i 0 t) : (s.setWord f w i 0 t).partIm = s.partIm := by
  simp only [State.partIm, State.stage, get_setWord_other hregs hkey]
  rfl

theorem tenRec_setWord {s : State} {f : Fld} {w : Word} {i t : Nat} (hregs : rising s.regs = true)
    (hkey : Reg.IMG_STATUS_STAGE.key 0 0 0 ≠ f.key i 0 t) (k : Nat) : (s.setWord f w i 0 t).tenRec k = s.tenRec k := by
  simp only [State.tenRec, partIm_setWord hregs hkey]

theorem rankOf_setWord {s : State} {f : Fld} {w : Word} {i t : Nat} (hregs : rising s.regs = true)
    (hkey : Reg.IMG_STATUS_STAGE.key 0 0 0 ≠ f.key i 0 t) (k : Nat) : (s.setWord f w i 0 t).rankOf k = s.rankOf k := by
  simp only [State.rankOf, tenRec_setWord hregs hkey]

/-! ## Allocations -/

theorem rowAt_TEN_ALLOC_CTRL : RowAt Reg.TEN_ALLOC_CTRL 0 row_TEN_ALLOC_CTRL := rowAt_of find_TEN_ALLOC_CTRL addr_TEN_ALLOC_CTRL rfl

theorem waActs_TEN_ALLOC_CTRL (i t : Nat) (p : Path) (v : Nat) : waActs row_TEN_ALLOC_CTRL i t p v =
    (if bit v 30 then [actFree t] else []) ++ (if bit v 31 then [actAlloc t] else []) := rfl

/-- A write of TEN_ALLOC_CTRL that allocates: the size is kept, and the allocation acts. -/
theorem exec_tenAlloc {acc : Access} {mib : Fin 8192} {s : State} {st : Nat} {g : State → State}
    (hopens : s.opens acc 0x110030 = true) (hcanon : s.canon = true)
    (hact : ∀ w, (s.setWord Reg.TEN_ALLOC_CTRL w 0 0 (accTen acc)).get Reg.TEN_ALLOC_CTRL_SIZE_MIB 0 0 (accTen acc) = mib.val →
      actAlloc (accTen acc) (s.setWord Reg.TEN_ALLOC_CTRL w 0 0 (accTen acc)) =
        (g (s.setWord Reg.TEN_ALLOC_CTRL w 0 0 (accTen acc)), st))
    (hhost : ∀ u, (g u).host = u.host) :
    ∃ u, s.Wrote Reg.TEN_ALLOC_CTRL 0 (accTen acc) [(Reg.TEN_ALLOC_CTRL_HANDLE, s.get Reg.TEN_ALLOC_CTRL_HANDLE 0 0 (accTen acc)),
      (Reg.TEN_ALLOC_CTRL_SIZE_MIB, mib.val)] u ∧ exec (.tenAlloc acc mib) s = .next ((g u).answered st) := by
  refine next_of_wrote rfl (hostSet_wrote (act := actAlloc (accTen acc)) rowAt_TEN_ALLOC_CTRL rfl (by decide) rfl (fun w => rfl)
    hopens (mayWriteReg_of_every rfl) rfl (fieldsRead_cons rfl rfl (fieldsRead_cons rfl (Nat.mod_eq_of_lt mib.isLt) fieldsRead_nil))
    (fun v hv => ?_) (fun w hw => ⟨hact w ?_, hhost _⟩))
  · rw [waActs_TEN_ALLOC_CTRL, hv 30 (by decide) rfl, hv 31 (by decide) rfl]
    rfl
  · exact get_setWord_field (rising_of_canon hcanon) ⟨rfl, rfl, rfl, rfl, rfl⟩ (hw _ (List.mem_cons_of_mem _ List.mem_cons_self))

/-- A write of TEN_ALLOC_CTRL that frees: the handle is kept, and the release acts. -/
theorem exec_tenFree {acc : Access} {h : Fin 16} {s : State} {st : Nat} {g : State → State}
    (hopens : s.opens acc 0x110030 = true) (hcanon : s.canon = true)
    (hact : ∀ w, (s.setWord Reg.TEN_ALLOC_CTRL w 0 0 (accTen acc)).get Reg.TEN_ALLOC_CTRL_HANDLE 0 0 (accTen acc) = h.val →
      actFree (accTen acc) (s.setWord Reg.TEN_ALLOC_CTRL w 0 0 (accTen acc)) =
        (g (s.setWord Reg.TEN_ALLOC_CTRL w 0 0 (accTen acc)), st))
    (hhost : ∀ u, (g u).host = u.host) :
    ∃ u, s.Wrote Reg.TEN_ALLOC_CTRL 0 (accTen acc) [(Reg.TEN_ALLOC_CTRL_HANDLE, h.val),
      (Reg.TEN_ALLOC_CTRL_SIZE_MIB, s.get Reg.TEN_ALLOC_CTRL_SIZE_MIB 0 0 (accTen acc))] u ∧
      exec (.tenFree acc h) s = .next ((g u).answered st) := by
  refine next_of_wrote rfl (hostSet_wrote (act := actFree (accTen acc)) rowAt_TEN_ALLOC_CTRL rfl (by decide) rfl (fun w => rfl)
    hopens (mayWriteReg_of_every rfl) rfl (fieldsRead_cons rfl (Nat.mod_eq_of_lt h.isLt) (fieldsRead_cons rfl rfl fieldsRead_nil))
    (fun v hv => ?_) (fun w hw => ⟨hact w ?_, hhost _⟩))
  · rw [waActs_TEN_ALLOC_CTRL, hv 30 (by decide) rfl, hv 31 (by decide) rfl]
    rfl
  · exact get_setWord_field (rising_of_canon hcanon) ⟨rfl, rfl, rfl, rfl, rfl⟩ (hw _ List.mem_cons_self)

/-- The lowest free handle is the least one that is not taken. -/
theorem freeHandles_cons {p : Nat → Bool} {h : Nat} (hlo : 1 ≤ h) (hhi : h ≤ 15) (hfree : p h = false)
    (hbelow : ∀ g, 1 ≤ g → g < h → p g = true) :
    ∃ rest, ((List.range 15).map (· + 1)).filter (fun h => !p h) = h :: rest := by
  have hsplit : (List.range 15).map (· + 1) = List.range' 1 (h - 1) ++ h :: List.range' (h + 1) (15 - h) := by
    rw [show (List.range 15).map (· + 1) = List.range' 1 15 from rfl, show 15 = (h - 1) + (15 - h + 1) by omega,
      ← List.range'_append_1, List.range'_succ, show 1 + (h - 1) = h by omega]
    simp only [show h - 1 + (15 - h + 1) - h = 15 - h by omega]
  refine ⟨(List.range' (h + 1) (15 - h)).filter (fun h => !p h), ?_⟩
  have hnone : (List.range' 1 (h - 1)).filter (fun h => !p h) = [] := by
    simp only [List.filter_eq_nil_iff, List.mem_range'_1, Bool.not_eq_true', Bool.not_eq_false]
    exact fun g hg => hbelow g hg.1 (by omega)
  rw [hsplit, List.filter_append, hnone, List.filter_cons, hfree]
  rfl

section
variable {u : State} {t n : Nat}

theorem actAlloc_size (hsize : u.get Reg.TEN_ALLOC_CTRL_SIZE_MIB 0 0 t = n) (hbad : n = 0 ∨ 6656 < n) :
    actAlloc t u = (u, stAccess) := by
  simp only [actAlloc, hsize, Bool.or_eq_true, decide_eq_true_eq, if_pos hbad]

theorem actAlloc_fits {h o : Nat} (hsize : u.get Reg.TEN_ALLOC_CTRL_SIZE_MIB 0 0 t = n) (hsome : n ≠ 0) (hmost : n ≤ 6656)
    (hright : t = 0 ∨ bit (u.get Reg.TEN_Tt_RIGHTS_RIGHTS t) 4 = true) (hlo : 1 ≤ h) (hhi : h ≤ 15)
    (hfree : u.ten.allocs.all (fun a => a.ten ≠ t || a.handle ≠ h) = true)
    (hbelow : (List.range h).all (fun g => g = 0 || u.ten.allocs.any (fun a => a.ten = t && a.handle = g)) = true)
    (hquota : u.dramUse t + n ≤ (u.quota t).dramMib) (hfit : u.lowestFit t n (u.tenRec t).dramMib = some o) :
    actAlloc t u = ((((overUpdate (u.allocated t h o n)).set Reg.TEN_ALLOC_STAT_HANDLE h 0 0 t).set Reg.TEN_ALLOC_STAT_OFFSET_MIB o
      0 0 t).set Reg.TEN_ALLOC_STAT_RESULT 1 0 0 t, stOk) := by
  have hunused : u.ten.allocs.any (fun a => a.ten = t && a.handle = h) = false := by
    simp only [List.all_eq_true, Bool.or_eq_true, decide_eq_true_eq, List.any_eq_false, Bool.and_eq_true,
      Classical.not_and_iff_not_or_not] at hfree ⊢
    exact hfree
  have hused (g : Nat) (hg : 1 ≤ g) (hgh : g < h) : u.ten.allocs.any (fun a => a.ten = t && a.handle = g) = true := by
    have hany := List.all_eq_true.mp hbelow g (List.mem_range.mpr hgh)
    simpa [show g ≠ 0 by omega] using hany
  obtain ⟨rest, hhandles⟩ := freeHandles_cons (p := fun h => u.ten.allocs.any (fun a => a.ten = t && a.handle = h)) hlo hhi hunused hused
  have hmay : (t ≠ 0 && !bit (u.get Reg.TEN_Tt_RIGHTS_RIGHTS t) 4) = false := by
    rcases hright with h0 | hbit
    · simp [h0]
    · simp [hbit]
  simp only [actAlloc, hsize, hsome, Nat.not_lt.mpr hmost, decide_false, Bool.or_false, Bool.false_eq_true, if_false, hmay, hhandles,
    Nat.not_lt.mpr hquota, hfit]
  rfl

theorem actFree_held {h : Nat} (hhandle : u.get Reg.TEN_ALLOC_CTRL_HANDLE 0 0 t = h) (hsome : h ≠ 0)
    (hheld : u.ten.allocs.any (fun a => a.ten = t && a.handle = h) = true) :
    actFree t u = ((overUpdate { u with ten := { u.ten with allocs := u.ten.allocs.filter (fun a => !(a.ten = t && a.handle = h)) } }).set
      Reg.TEN_ALLOC_STAT_RESULT 1 0 0 t, stOk) := by
  simp only [actFree, hhandle, hsome, if_false, hheld, if_true]
  rfl

end
@[simp] theorem allocated_host (u : State) (t h o n : Nat) : (u.allocated t h o n).host = u.host := rfl

theorem stage_ne_TEN_ALLOC_CTRL (t : Nat) : Reg.IMG_STATUS_STAGE.key 0 0 0 ≠ Reg.TEN_ALLOC_CTRL.key 0 0 t := by
  simp [Fld.key, Reg.IMG_STATUS_STAGE, Reg.TEN_ALLOC_CTRL]
  omega

/-- The caps stand apart from a tenancy's own registers. -/
theorem quota_setAlloc {s : State} {w : Word} {t : Nat} (hregs : rising s.regs = true) (k : Nat) :
    (s.setWord Reg.TEN_ALLOC_CTRL w 0 0 t).quota k = s.quota k := by
  have hcap (c : Nat) (hc : c < 8) (g : Fld) (hg : g.s1 = 0x40 ∧ g.own = false ∧ 0x110108 ≤ g.addr ∧ g.addr < 0x111000) :
      (s.setWord Reg.TEN_ALLOC_CTRL w 0 0 t).get g c = s.get g c := by
    refine get_setWord_other hregs ?_
    obtain ⟨hs1, hown, hlo, hhi⟩ := hg
    simp [Fld.key, hs1, hown, Reg.TEN_ALLOC_CTRL]
    omega
  have hcaps : (s.setWord Reg.TEN_ALLOC_CTRL w 0 0 t).caps = s.caps := by
    refine List.map_congr_left fun c hc => ?_
    have hc8 : c < 8 := List.mem_range.mp hc
    rw [hcap c hc8 _ ⟨rfl, rfl, by decide, by decide⟩, hcap c hc8 _ ⟨rfl, rfl, by decide, by decide⟩,
      hcap c hc8 _ ⟨rfl, rfl, by decide, by decide⟩, hcap c hc8 _ ⟨rfl, rfl, by decide, by decide⟩,
      hcap c hc8 _ ⟨rfl, rfl, by decide, by decide⟩]
  simp only [State.quota, tenRec_setWord hregs (stage_ne_TEN_ALLOC_CTRL t), hcaps]

/-- TEN_ALLOC of a size that fits the quota and the pool takes the lowest free handle. -/
theorem exec_tenAlloc_fits {acc : Access} {mib : Fin 8192} {h o t : Nat} {s : State} (ht : accTen acc = t)
    (hopens : s.opens acc 0x110030 = true)
    (hcanon : s.canon = true) (hsome : mib.val ≠ 0) (hmost : mib.val ≤ 6656)
    (hright : t = 0 ∨ bit (s.get Reg.TEN_Tt_RIGHTS_RIGHTS t) 4 = true) (hlo : 1 ≤ h) (hhi : h ≤ 15)
    (hfree : s.ten.allocs.all (fun a => a.ten ≠ t || a.handle ≠ h) = true)
    (hbelow : (List.range h).all (fun g => g = 0 || s.ten.allocs.any (fun a => a.ten = t && a.handle = g)) = true)
    (hquota : s.dramUse t + mib.val ≤ (s.quota t).dramMib)
    (hfit : s.lowestFit t mib.val (s.tenRec t).dramMib = some o) :
    ∃ u, s.Wrote Reg.TEN_ALLOC_CTRL 0 (accTen acc) [(Reg.TEN_ALLOC_CTRL_HANDLE,
      s.get Reg.TEN_ALLOC_CTRL_HANDLE 0 0 (accTen acc)), (Reg.TEN_ALLOC_CTRL_SIZE_MIB, mib.val)] u ∧
      exec (.tenAlloc acc mib) s = .next
        (((((overUpdate (u.allocated t h o mib.val)).set Reg.TEN_ALLOC_STAT_HANDLE h 0 0 t).set
        Reg.TEN_ALLOC_STAT_OFFSET_MIB o 0 0 t).set Reg.TEN_ALLOC_STAT_RESULT 1 0 0 t).answered stOk) := by
  subst ht
  have hregs := rising_of_canon hcanon
  refine exec_tenAlloc (g := fun u => ((overUpdate (u.allocated (accTen acc) h o mib.val)).set _ h 0 0 _ |>.set _ o 0 0 _).set _ 1 0 0 _)
    hopens hcanon (fun w hsize => ?_) (fun u => by simp)
  refine actAlloc_fits hsize hsome hmost (hright.imp_right fun hbit => ?_) hlo hhi hfree hbelow ?_ ?_
  · rw [get_setWord_other hregs, hbit]
    simp [Fld.key, Reg.TEN_Tt_RIGHTS_RIGHTS, Reg.TEN_ALLOC_CTRL]
    omega
  · rw [quota_setAlloc hregs]
    exact hquota
  · rw [tenRec_setWord hregs (stage_ne_TEN_ALLOC_CTRL _)]
    exact hfit

/-! ## Holds -/

theorem rowAt_TEN_HOLD : RowAt Reg.TEN_HOLD 0 row_TEN_HOLD := rowAt_of find_TEN_HOLD addr_TEN_HOLD rfl

theorem waActs_TEN_HOLD (i t : Nat) (p : Path) (v : Nat) : waActs row_TEN_HOLD i t p v =
    (if bit v 30 then [actHoldRelease t] else []) ++ (if bit v 31 then [actHold t] else []) := rfl

theorem stage_ne_TEN_HOLD (t : Nat) : Reg.IMG_STATUS_STAGE.key 0 0 0 ≠ Reg.TEN_HOLD.key 0 0 t := by
  simp [Fld.key, Reg.IMG_STATUS_STAGE, Reg.TEN_HOLD]
  omega

/-- A write of TEN_HOLD: what the register names is kept, and the action of its bit acts. -/
theorem hostSet_TEN_HOLD {acc : Access} {id : Fin 4096} {s : State} {st : Nat} {act : State → Act} {g : State → State}
    {k : Nat × Nat × Nat} (hopens : s.opens acc 0x110038 = true) (hcanon : s.canon = true) (hk : k.2.1 ≤ k.1 ∧ 12 ≤ k.2.1)
    (hacts : (if bitAfter [Reg.TEN_HOLD_ID.is' id.val, k] 30 false then [actHoldRelease (accTen acc)] else []) ++
      (if bitAfter [Reg.TEN_HOLD_ID.is' id.val, k] 31 false then [actHold (accTen acc)] else []) = [act])
    (hact : ∀ w, (s.setWord Reg.TEN_HOLD w 0 0 (accTen acc)).get Reg.TEN_HOLD_ID 0 0 (accTen acc) = id.val →
      act (s.setWord Reg.TEN_HOLD w 0 0 (accTen acc)) = (g (s.setWord Reg.TEN_HOLD w 0 0 (accTen acc)), st))
    (hhost : ∀ u, (g u).host = u.host) :
    ∃ u, s.Wrote Reg.TEN_HOLD 0 (accTen acc) [(Reg.TEN_HOLD_ID, id.val)] u ∧
      hostSet acc Reg.TEN_HOLD 0 [Reg.TEN_HOLD_ID.is' id.val, k] s = (g u).answered st := by
  have hfield : fieldOf Reg.TEN_HOLD row_TEN_HOLD [Reg.TEN_HOLD_ID.is' id.val, k] Reg.TEN_HOLD_ID = true := by
    have hcovers : covers (row_TEN_HOLD.mask .rw) 11 0 = true := by decide
    have hk12 : 11 < k.2.1 := by omega
    simp [fieldOf, hcovers, apartFrom, Fld.is', Reg.TEN_HOLD_ID, Reg.TEN_HOLD, hk.1, hk12]
  have hvalue : fieldAfter [Reg.TEN_HOLD_ID.is' id.val, k] 11 0 (s.get Reg.TEN_HOLD_ID 0 0 (accTen acc)) = id.val := by
    have hother : (k.1 == 11 && k.2.1 == 0) = false := by simp; omega
    simp only [fieldAfter, List.foldl_cons, List.foldl_nil, hother]
    exact Nat.mod_eq_of_lt id.isLt
  refine hostSet_wrote (act := act) rowAt_TEN_HOLD rfl (by decide) rfl (fun w => rfl) hopens (mayWriteReg_of_every rfl) ?_
    (fieldsRead_cons hfield hvalue fieldsRead_nil) (fun v hv => ?_) (fun w hw => ⟨hact w ?_, hhost _⟩)
  · simpa [Fld.is'] using ⟨by decide, hk.1⟩
  · rw [waActs_TEN_HOLD, hv 30 (by decide) rfl, hv 31 (by decide) rfl, hacts]
  · exact get_setWord_field (rising_of_canon hcanon) ⟨rfl, rfl, rfl, rfl, rfl⟩ (hw _ List.mem_cons_self)

section
variable {u : State} {t id : Nat} (hid : u.get Reg.TEN_HOLD_ID 0 0 t = id)
include hid

theorem actHold_refused (hmay : u.mayWrite t id = false) : actHold t u = (u.holdResult t 3, stPerm) := by
  simp only [actHold, hid, hmay, Bool.not_false, if_true]

theorem actHold_free (hmay : u.mayWrite t id = true) (hfree : u.ten.holds.all (fun h => h.2 ≠ id) = true)
    (hroom : (u.ten.holds.filter (fun h => h.1 = t)).length < 16) :
    actHold t u = (({ u with ten := { u.ten with holds := u.ten.holds ++ [(t, id)] } } : State).holdResult t 1, stOk) := by
  have hnobody : u.ten.holds.find? (fun h => h.2 = id) = none := by simpa using hfree
  have hall : u.ten.holds.filter (fun h => h.2 ≠ id) = u.ten.holds := List.filter_eq_self.mpr (by simpa using hfree)
  simp only [actHold, hid, hmay, Bool.not_true, Bool.false_eq_true, if_false, hnobody, Nat.not_le.mpr hroom, hall]

theorem actHold_taken {b : Nat} (hmay : u.mayWrite t id = true) (hholder : u.ten.holds.filter (fun h => h.2 = id) = [(b, id)])
    (hother : b ≠ t) : actHold t u =
      if u.rankOf b ≤ u.rankOf t ∨ 16 ≤ (u.ten.holds.filter (fun h => h.1 = t)).length then (u.holdResult t 2, stBusy)
      else (({ u with ten := { u.ten with holds := u.ten.holds.filter (fun h => h.2 ≠ id) ++ [(t, id)] } } : State).holdResult t 1,
        stOk) := by
  have hfind : u.ten.holds.find? (fun h => h.2 = id) = some (b, id) := by
    rw [← List.head?_filter, hholder]
    rfl
  simp only [actHold, hid, hmay, Bool.not_true, Bool.false_eq_true, if_false, hfind, hother]

theorem actHoldRelease_held (hheld : u.ten.holds.contains (t, id) = true) : actHoldRelease t u =
    (({ u with ten := { u.ten with holds := u.ten.holds.filter (· ≠ (t, id)) } } : State).holdResult t 1, stOk) := by
  simp only [actHoldRelease, hid, hheld, if_true]

end

/-! ## Windows and quotas -/

theorem rowAt_TEN_CTRL : RowAt Reg.TEN_CTRL 0 row_TEN_CTRL := rowAt_of find_TEN_CTRL addr_TEN_CTRL rfl

theorem waActs_TEN_CTRL (i t : Nat) (p : Path) (v : Nat) : waActs row_TEN_CTRL i t p v = if bit v 8 then [actEvict] else [] := rfl

theorem actEvict_of {u : State} {t : Nat} (hten : u.get Reg.TEN_CTRL_TEN = t) (hsome : t ≠ 0) :
    actEvict u = ({ u with ten := { u.ten with evict := u.ten.evict.filter (· ≠ t) ++ [t] } }, stOk) := by
  simp only [actEvict, hten, if_neg hsome]

theorem exec_dramWinWrite {acc : Access} {v : Word} {s : State} (hopens : s.opens acc 0x11003C = true) (hwindow : v.toNat % 8 ≤ 4) :
    ∃ u, s.Wrote Reg.TEN_DRAM_WIN 0 (accTen acc) [(Reg.TEN_DRAM_WIN_BASE_GIB, v.toNat % 8)] u ∧
      exec (.dramWinWrite acc v) s = .next (u.answered stOk) := by
  obtain ⟨w, hbits, hrun⟩ := hostWrite_unit (f := Reg.TEN_DRAM_WIN) (v := v.toNat) hopens find_TEN_DRAM_WIN addr_TEN_DRAM_WIN
    (by decide) (mayWriteReg_of_every rfl) rfl rfl (by decide) (by decide) (fun _ => rfl)
  have hbase : bitsOf w.toNat 2 0 = v.toNat % 8 := by
    rw [hbits 2 0 (fun j _ hj => testBit_of_covers (by decide) (Nat.zero_le j) hj) (by decide), Nat.mod_eq_of_lt v.isLt, bitsOf]
    omega
  have hlow : ¬4 < w.toNat % 8 := by
    simp only [bitsOf] at hbase
    omega
  have hquiet : s.host.stalled = [] := opens_quiet hopens
  exact ⟨_, ⟨w, by simpa [Reg.TEN_DRAM_WIN_BASE_GIB] using hbase, rfl⟩,
    congrArg Host.Outcome.next (hrun (s.setWord Reg.TEN_DRAM_WIN w 0 0 (accTen acc)) stOk (if_neg hlow) hquiet)⟩

/-- Every field named reads, in a word, as the value named, and its bits are among those kept. -/
def WordReads (k v : Nat) (vals : List (Fld × Nat)) : Prop :=
  ∀ p ∈ vals, covers k p.1.hi p.1.lo = true ∧ p.1.hi < 32 ∧ bitsOf v p.1.hi p.1.lo = p.2

theorem wordReads_nil {k v : Nat} : WordReads k v [] := fun _ hp => nomatch hp

theorem wordReads_cons {k v x : Nat} {g : Fld} {vals : List (Fld × Nat)} (hcovers : covers k g.hi g.lo = true) (hword : g.hi < 32)
    (hvalue : bitsOf v g.hi g.lo = x) (hvals : WordReads k v vals) : WordReads k v ((g, x) :: vals) :=
  List.forall_mem_cons.mpr ⟨⟨hcovers, hword, hvalue⟩, hvals⟩

/-- A write of a cap sets its fields, is logged, and brings the overruns up to date. -/
theorem exec_capWrite {acc : Access} {t : Fin 8} {cap : Fin 4} {v : Word} {s : State} {f : Fld} {r : RegRow}
    {vals : List (Fld × Nat)} (haddr : f.addr + f.s1 * t.val = Reg.TEN_Tt_CAP0.addr + Reg.TEN_Tt_CAP0.s1 * t.val + 4 * cap.val)
    (howns : s.owns acc (f.addr + f.s1 * t.val) = true) (hrow : RowAt f t.val r) (howner : r.writers = .owner ∧ r.addr ≠ 0xE010C)
    (hrw : r.mask .rw < 2 ^ 32 ∧ r.mask .rw ≠ 0) (hacts : ∀ v, waActs r t.val (accTen acc) acc.path v = [])
    (hunit : ∀ w, regRw r t.val 0 (accTen acc) w s = capWrite f t.val w s)
    (hvals : WordReads (r.mask .rw) v.toNat vals) :
    ∃ u, s.Wrote f t.val 0 vals u ∧ exec (.capWrite acc t cap v) s = .next ((overUpdate (u.log 5 t.val [])).answered stOk) := by
  obtain ⟨w, hbits, hrun⟩ := hostWrite_unit (f := f) (v := v.toNat) (owns_opens howns) hrow.found
    ⟨hrow.place.1, hrow.place.2.1, rfl⟩ hrow.place.2.2 (mayWriteReg_of_owner howner (owns_zero howns)) hrow.noW1c rfl hrw
    hrow.noRule hacts
  refine ⟨s.setWord f w t.val, ⟨w, fun p hp => ?_, rfl⟩, ?_⟩
  · obtain ⟨hcovers, hword, hvalue⟩ := hvals p hp
    rw [hbits _ _ (fun j hlo hhi => testBit_of_covers hcovers hlo hhi) hword, Nat.mod_eq_of_lt v.isLt, hvalue]
  · have hwrite := hrun _ _ (hunit w) (by simpa using opens_quiet (owns_opens howns))
    rw [haddr] at hwrite
    exact congrArg Host.Outcome.next hwrite

theorem rowAt_TEN_Tt_CAP0 (t : Fin 8) : RowAt Reg.TEN_Tt_CAP0 t.val row_TEN_Tt_CAP0 :=
  rowAt_of (find_TEN_Tt_CAP0 t) (addr_TEN_Tt_CAP0 t) rfl
theorem rowAt_TEN_Tt_CAP1 (t : Fin 8) : RowAt Reg.TEN_Tt_CAP1 t.val row_TEN_Tt_CAP1 :=
  rowAt_of (find_TEN_Tt_CAP1 t) (addr_TEN_Tt_CAP1 t) rfl
theorem rowAt_TEN_Tt_CAP2 (t : Fin 8) : RowAt Reg.TEN_Tt_CAP2 t.val row_TEN_Tt_CAP2 :=
  rowAt_of (find_TEN_Tt_CAP2 t) (addr_TEN_Tt_CAP2 t) rfl
theorem rowAt_TEN_Tt_CAP3 (t : Fin 8) : RowAt Reg.TEN_Tt_CAP3 t.val row_TEN_Tt_CAP3 :=
  rowAt_of (find_TEN_Tt_CAP3 t) (addr_TEN_Tt_CAP3 t) rfl

/-- Settles O27: each write of a tenancy's register is the one action that it starts, or the rule of its unit. -/
theorem tenancyCommandsTakeEffect : Obligations.TenancyCommandsTakeEffect := by
  refine ⟨fun acc mib o s hopens hcanon hsome hmost hzero hfree hquota hfit => ?_,
    fun acc h s hopens hcanon hsome hheld => ?_, fun acc id s hopens hcanon hmay hnobody hroom => ?_,
    fun acc id s hopens hcanon hheld => ?_, fun acc t s howns hcanon hsome => ?_,
    fun acc v s hopens _ hwindow => exec_dramWinWrite hopens hwindow, fun acc t v s howns _ => ?_,
    fun acc mib h o s hopens hcanon hsome hmost hright hlo hhi hfree hbelow hquota hfit =>
      exec_tenAlloc_fits rfl hopens hcanon hsome hmost hright hlo hhi hfree hbelow hquota hfit,
    fun acc mib s hopens hcanon hbad => exec_tenAlloc (g := id) hopens hcanon (fun w hsize => actAlloc_size hsize hbad) fun _ => rfl,
    fun acc id b s hopens hcanon hmay hholder hother => ?_, fun acc id s hopens hcanon hmay => ?_,
    fun acc t v s howns _ => ?_, fun acc t v s howns _ => ?_, fun acc t v s howns _ => ?_⟩
  · exact exec_tenAlloc_fits hzero hopens hcanon hsome hmost (.inl rfl) (by decide) (by decide) hfree rfl hquota hfit
  · exact exec_tenFree (g := fun u => (overUpdate { u with ten := { u.ten with allocs := u.ten.allocs.filter (fun a =>
      !(a.ten = accTen acc && a.handle = h.val)) } }).set _ 1 0 0 _) hopens hcanon (fun w hhandle => actFree_held hhandle hsome hheld)
      (fun u => by simp)
  · exact next_of_wrote rfl (hostSet_TEN_HOLD hopens hcanon (by decide) rfl (fun w hid => actHold_free hid hmay hnobody hroom) fun _ => rfl)
  · exact next_of_wrote rfl (hostSet_TEN_HOLD hopens hcanon (by decide) rfl (fun w hid => actHoldRelease_held hid hheld) fun _ => rfl)
  · refine next_of_wrote rfl (hostSet_owner_wrote (act := actEvict) rowAt_TEN_CTRL rfl (by decide) ⟨rfl, by decide⟩ (fun w => rfl)
      howns rfl (fieldsRead_cons rfl (Nat.mod_eq_of_lt t.isLt) fieldsRead_nil) (fun v hv => ?_) (fun w hw => ⟨actEvict_of ?_ hsome, rfl⟩))
    · rw [waActs_TEN_CTRL, hv 8 (by decide) rfl]
      rfl
    · exact get_setWord_field (rising_of_canon hcanon) ⟨rfl, rfl, rfl, rfl, rfl⟩ (hw _ List.mem_cons_self)
  · refine exec_capWrite (cap := 0) rfl howns (rowAt_TEN_Tt_CAP0 t) ⟨rfl, by decide⟩ (by decide) (fun _ => rfl) (fun w => rfl)
      (wordReads_cons rfl (by decide) ?_ wordReads_nil)
    simp [bitsOf, Reg.TEN_Tt_CAP0_CYCLES]
  · by_cases hrefused : s.rankOf b ≤ s.rankOf (accTen acc) ∨ 16 ≤ (s.ten.holds.filter (fun h => h.1 = accTen acc)).length
    · simp only [if_pos hrefused]
      refine next_of_wrote rfl (hostSet_TEN_HOLD hopens hcanon (by decide) rfl (fun w hid => ?_) fun _ => rfl)
      rw [actHold_taken hid hmay hholder hother, rankOf_setWord (rising_of_canon hcanon) (stage_ne_TEN_HOLD _),
        rankOf_setWord (rising_of_canon hcanon) (stage_ne_TEN_HOLD _)]
      exact if_pos hrefused
    · simp only [if_neg hrefused]
      refine next_of_wrote rfl (hostSet_TEN_HOLD hopens hcanon (by decide) rfl (fun w hid => ?_) fun _ => rfl)
      rw [actHold_taken hid hmay hholder hother, rankOf_setWord (rising_of_canon hcanon) (stage_ne_TEN_HOLD _),
        rankOf_setWord (rising_of_canon hcanon) (stage_ne_TEN_HOLD _)]
      exact if_neg hrefused
  · exact next_of_wrote rfl (hostSet_TEN_HOLD hopens hcanon (by decide) rfl (fun w hid => actHold_refused hid hmay) fun _ => rfl)
  · refine exec_capWrite (cap := 1) ?_ howns (rowAt_TEN_Tt_CAP1 t) ⟨rfl, by decide⟩ (by decide) (fun _ => rfl) (fun w => rfl)
      (wordReads_cons rfl (by decide) ?_ wordReads_nil)
    · simp [Reg.TEN_Tt_CAP1, Reg.TEN_Tt_CAP0]
      omega
    · have hv := v.isLt
      simp only [bitsOf, Reg.TEN_Tt_CAP1]
      omega
  · refine exec_capWrite (cap := 2) ?_ howns (rowAt_TEN_Tt_CAP2 t) ⟨rfl, by decide⟩ (by decide) (fun _ => rfl) (fun w => rfl)
      (wordReads_cons rfl (by decide) ?_ wordReads_nil)
    · simp [Reg.TEN_Tt_CAP2, Reg.TEN_Tt_CAP0]
      omega
    · simp [bitsOf, Reg.TEN_Tt_CAP2_DRAM_MIB]
  · refine exec_capWrite (cap := 3) ?_ howns (rowAt_TEN_Tt_CAP3 t) ⟨rfl, by decide⟩ (by decide) (fun _ => rfl) (fun w => rfl)
      (wordReads_cons rfl (by decide) rfl (wordReads_cons rfl (by decide) ?_ wordReads_nil))
    · simp [Reg.TEN_Tt_CAP3, Reg.TEN_Tt_CAP0]
      omega
    · simp [bitsOf, Reg.TEN_Tt_CAP3_PARAM_WORDS]

end Sys2Proof.Machine

/-! PROOFS. Semaphores and the debug registers (R517 to R527). -/
namespace Sys2Proof.Machine
open Sys2Proof Sys2Proof.Machine.Laws

/-! ## A read of a host -/

theorem lanes_word (w : Word) : lanes w 0 4 = w := by
  apply BitVec.eq_of_toNat_eq
  have hw := w.isLt
  simp [lanes]
  omega

/-- The domains of an access outside the mixer are the same for reads and writes. -/
theorem accDomains_read {s : State} {t a : Nat} (hmix : inMix a = false) : s.accDomains t false a = s.accDomains t true a := by
  simp [State.accDomains, hmix]

/-- A host's read of a register outside the mixer, on this side of the barrier, goes through what the register gives. -/
theorem access_read {x : Access} {a k : Nat} {s u : State} {r : RegRow} {i : Nat} {y : Acc} (hopens : s.opens x a = true)
    (hrow : regFind a = some (r, i, 0)) (hplace : a % 4 = 0 ∧ inRegs a = true ∧ a / 65536 = k) (hk : 16 ≤ k)
    (hright : mayRead r (accTen x) = true) (hread : regRead r i 0 (accTen x) x.path s = (u, y)) :
    access x.path (accTen x) false a 4 0 s = (u, y) := by
  obtain ⟨-, hten, hdom, -⟩ := opens_parts hopens
  obtain ⟨halign, hreg, hblock⟩ := hplace
  have hmix : inMix a = false := by
    simp [inMix]
    omega
  have hword : a / 4 * 4 = a := by omega
  rw [access_regs _ _ _ _ _ _ hten ((accDomains_read hmix).symm ▸ hdom) hreg halign]
  have hfar : a / 65536 ≠ 15 := by omega
  simp only [regAccess, hword, hrow, hright, Bool.not_true, Bool.false_eq_true, if_false, hfar, halign, hread]
  cases y with
  | done st w => simp only [lanes_word]
  | wait w => rfl

/-- A read that completes is answered with its value. -/
theorem hostRead_done {x : Access} {a : Nat} {s u : State} {v : Word} (hopens : s.opens x a = true)
    (hacc : access x.path (accTen x) false a 4 0 s = (u, .done stOk v)) (hquiet : u.host.stalled = []) :
    hostRead x a s = u.answered stOk v := by
  rw [hostRead, single, (opens_parts hopens).1, runReq_single_done rfl hacc]
  exact resume_of_quiet hquiet

/-- A read that waits is kept, and waits while its condition stands. -/
theorem hostRead_wait {x : Access} {a : Nat} {s : State} {w : Wait} (hopens : s.opens x a = true)
    (hacc : access x.path (accTen x) false a 4 0 s = (s, .wait w))
    (hover : s.waitOver ⟨⟨.single, x.path, accTen x, false, 0, 4, 1, a, leBytes 4 0, 0, []⟩, w⟩ = false) :
    hostRead x a s = { s with host := { s.host with stalled :=
      [⟨⟨.single, x.path, accTen x, false, 0, 4, 1, a, leBytes 4 0, 0, []⟩, w⟩] } } := by
  have hquiet := opens_quiet hopens
  have hrun : runReq 1 0#32 ⟨.single, x.path, accTen x, false, 0, 4, 1, a, leBytes 4 0, 0, []⟩ s =
      { s with host := { s.host with stalled := [⟨⟨.single, x.path, accTen x, false, 0, 4, 1, a, leBytes 4 0, 0, []⟩, w⟩] } } := by
    have hacc' : access x.path (accTen x) false a 4 (leVal (List.take 4 (leBytes 4 0))) s = (s, .wait w) := hacc
    simp [runReq, hacc', stall, hquiet]
  rw [hostRead, single, (opens_parts hopens).1, hrun]
  exact resume_waiting hover rfl

/-! ## What a read of a semaphore does -/

theorem regRead_TEN_SEMn (n t : Nat) (p : Path) (s : State) : regRead row_TEN_SEMn n 0 t p s =
    if !semAllowed n (semCode p t) then (s, .done stPerm 0#32)
    else if s.quietRead p then (s, .done stOk (s.semPeek n (semCode p t)))
    else ((semTake n (semCode p t) s).1, .done stOk (semTake n (semCode p t) s).2) := rfl

theorem regRead_TEN_SEMn_WAIT (n t : Nat) (p : Path) (s : State) : regRead row_TEN_SEMn_WAIT n 0 t p s =
    if !semAllowed n (semCode p t) then (s, .done stPerm 0#32)
    else if s.quietRead p then (s, .done stOk (s.semPeek n (semCode p t)))
    else if (s.sem n).owner = 0 ∨ (s.sem n).owner = semCode p t then
      ((semTake n (semCode p t) s).1, .done stOk (semTake n (semCode p t) s).2)
    else (s, .wait (.sem n)) := rfl

theorem semTake_free {n code : Nat} {s : State} (hfree : (s.sem n).owner = 0) : semTake n code s =
    (s.setSem n ⟨code, false⟩, BitVec.ofNat 32 (2 ^ 31 + b2n (s.sem n).broken * 2 ^ 29 + code)) := if_pos hfree

theorem semTake_taken {n code : Nat} {s : State} (howner : (s.sem n).owner ≠ 0) (hother : (s.sem n).owner ≠ code) :
    semTake n code s = (s, BitVec.ofNat 32 (s.sem n).owner) := by
  simp only [semTake, if_neg howner, if_neg hother]

/-! ## Broken semaphores -/

theorem semBreak_owned {n : Nat} {s : State} (howner : (s.sem n).owner ≠ 0) :
    semBreak n s = ((s.setSem n ⟨0, true⟩).int Reg.TEN_INT_STATUS_SEM_BROKEN).event.raise 0x84 0 := if_neg howner

@[simp] theorem event_host (s : State) : s.event.host = s.host := rfl

@[simp] theorem semBreak_host (n : Nat) (s : State) : (semBreak n s).host = s.host := by
  simp only [semBreak]
  split
  · rfl
  · simp [State.setSem]

theorem semTimeout_of {n : Nat} {s : State} {x : Stalled} {l : List Stalled}
    (hwaits : takeFirst (fun x => x.wait = .sem n) s.host.stalled = some (x, l)) : semTimeout n s =
      finish x.req stTimeout 0#32 (({ s with host := { s.host with stalled := l } } : State).int Reg.TEN_INT_STATUS_SEM_TIMEOUT) := by
  simp only [semTimeout, hwaits]

theorem leaseExpire_of {n : Nat} {s : State} (hlo : 8 ≤ (s.sem n).owner) (hhi : (s.sem n).owner ≤ 15)
    (hlease : s.get Reg.TEN_SEM_CFG_LEASE_MS ≠ 0) : leaseExpire n s =
      resume (((s.setSem n ⟨0, true⟩).int Reg.TEN_INT_STATUS_SEM_BROKEN).event.raise 0x84 0) := by
  rw [← semBreak_owned (by omega)]
  exact if_pos ⟨hlo, hhi, hlease⟩

/-- The state after a core's own waits are dropped and what it held is broken. -/
def State.coreDropped (s : State) (c : Fin 4) : State :=
  ({ s with host := { s.host with stalled := s.host.stalled.filter (fun x =>
    decide (x.wait = .barrier) || !(x.req.path = .core c)) } } : State).forN 64
      (fun t n => if (t.sem n).owner = 1 + c.val then semBreak n t else t)

theorem watchdog_open {c : Fin 4} {s : State} (hopen : s.pathOpen (.core c) = true) : watchdog c.val s =
    resume (((s.coreDropped c).set Reg.DBG_CORE_STATUS_RESTARTED
      ((s.coreDropped c).get Reg.DBG_CORE_STATUS_RESTARTED ||| 2 ^ c.val)).event.raise 0x83 0) := by
  have hcore : (⟨c.val % 4, Nat.mod_lt c.val (by decide)⟩ : Fin 4) = c := Fin.ext (Nat.mod_eq_of_lt c.isLt)
  simp only [watchdog, hcore, hopen, Bool.not_true, Bool.false_eq_true, if_false]
  rfl

/-- A core that waits for nothing and holds nothing loses nothing. -/
theorem coreDropped_quiet {c : Fin 4} {s : State} (hquiet : s.host.stalled = []) (hnone : ∀ n, n < 64 → (s.sem n).owner ≠ 1 + c.val) :
    s.coreDropped c = s := by
  have hstalled : ({ s with host := { s.host with stalled := s.host.stalled.filter (fun x =>
      decide (x.wait = .barrier) || !(x.req.path = .core c)) } } : State) = s := by
    simp only [hquiet, List.filter_nil]
    rw [← hquiet]
  rw [State.coreDropped, hstalled]
  exact List.foldlRecOn (motive := fun u : State => u = s) _ _ rfl
    fun u hu n hn => hu.symm ▸ if_neg (hnone n (List.mem_range.mp hn))

theorem rowAt_DBG_SEM_BREAK : RowAt Reg.DBG_SEM_BREAK 0 row_DBG_SEM_BREAK := rowAt_of find_DBG_SEM_BREAK addr_DBG_SEM_BREAK rfl

theorem waActs_DBG_SEM_BREAK (i t : Nat) (p : Path) (v : Nat) : waActs row_DBG_SEM_BREAK i t p v =
    if bit v 31 then [actSemBreak] else [] := rfl

theorem mayWriteReg_of_debug {s : State} {r : RegRow} {i t : Nat} {x : Access} (hrow : r.writers = .debug) (hpath : x.path = .debug) :
    s.mayWriteReg r i t x.path = true := by
  simp [State.mayWriteReg, hrow, hpath]

theorem accTen_debug {x : Access} (hpath : x.path = .debug) : accTen x = 0 := by
  simp [accTen, hpath]

/-- SEM_BREAK from the debug port breaks the semaphore that it names. -/
theorem exec_semBreak {acc : Access} {n : Fin 64} {s : State} (hopens : s.opens acc 0x14000C = true) (hpath : acc.path = .debug)
    (hcanon : s.canon = true) (howner : (s.sem n.val).owner ≠ 0) :
    ∃ u, s.Wrote Reg.DBG_SEM_BREAK 0 0 [(Reg.DBG_SEM_BREAK_SEM, n.val)] u ∧ exec (.semBreak acc n) s = .next
      ((((u.setSem n.val ⟨0, true⟩).int Reg.TEN_INT_STATUS_SEM_BROKEN).event.raise 0x84 0).answered stOk) := by
  refine next_of_wrote rfl (hostSet_wrote (act := actSemBreak) rowAt_DBG_SEM_BREAK rfl (by decide) (accTen_debug hpath)
    (fun w => rfl) hopens (mayWriteReg_of_debug rfl hpath) rfl (fieldsRead_cons rfl (Nat.mod_eq_of_lt n.isLt) fieldsRead_nil)
    (fun v hv => ?_) (fun w hw => ⟨?_, by simp [State.setSem]⟩))
  · rw [waActs_DBG_SEM_BREAK, hv 31 (by decide) rfl]
    rfl
  · have hsem := get_setWord_field (rising_of_canon hcanon) (f := Reg.DBG_SEM_BREAK) (g := Reg.DBG_SEM_BREAK_SEM) (i := 0) (j := 0)
      (t := 0) ⟨rfl, rfl, rfl, rfl, rfl⟩ (hw _ List.mem_cons_self)
    exact congrArg (·, stOk) (hsem.symm ▸ semBreak_owned howner)

/-- Settles O28: a read takes or leaves the semaphore, and each end of an owner breaks it. -/
theorem semaphoreCommandsTakeEffect : Obligations.SemaphoreCommandsTakeEffect := by
  refine ⟨fun acc n s hopens hallowed hloud => ?_, fun acc n s hopens hallowed hloud => ?_,
    fun acc n s => exec_semBreak, fun n s q hsingle hstalled => ?_,
    fun n s hlo hhi hlease hquiet => congrArg Host.Outcome.next ?_, fun c s hopen hquiet hnone => congrArg Host.Outcome.next ?_,
    fun s n x l hwaits => congrArg Host.Outcome.next (semTimeout_of hwaits),
    fun s n hlo hhi hlease => congrArg Host.Outcome.next (leaseExpire_of hlo hhi hlease),
    fun s u c hopen hu => congrArg Host.Outcome.next (hu ▸ watchdog_open hopen), fun s n => semBreak_owned⟩
  · have hrow := find_TEN_SEMn n
    have hread := regRead_TEN_SEMn n.val (accTen acc) acc.path s
    simp only [hallowed, hloud, Bool.not_true, Bool.false_eq_true, if_false] at hread
    constructor
    · intro hfree
      rw [semTake_free hfree] at hread
      exact congrArg Host.Outcome.next (hostRead_done hopens (access_read hopens hrow (addr_TEN_SEMn n) (by decide) rfl hread) (opens_quiet hopens))
    · intro howner hother
      rw [semTake_taken howner hother] at hread
      exact congrArg Host.Outcome.next (hostRead_done hopens (access_read hopens hrow (addr_TEN_SEMn n) (by decide) rfl hread) (opens_quiet hopens))
  · have hrow := find_TEN_SEMn_WAIT n
    have hread := regRead_TEN_SEMn_WAIT n.val (accTen acc) acc.path s
    simp only [hallowed, hloud, Bool.not_true, Bool.false_eq_true, if_false] at hread
    constructor
    · intro hfree
      rw [if_pos (.inl hfree), semTake_free hfree] at hread
      exact congrArg Host.Outcome.next
        (hostRead_done hopens (access_read hopens hrow (addr_TEN_SEMn_WAIT n) (by decide) rfl hread) (opens_quiet hopens))
    · intro howner hother
      rw [if_neg (not_or.mpr ⟨howner, hother⟩)] at hread
      refine congrArg Host.Outcome.next
        (hostRead_wait hopens (access_read hopens hrow (addr_TEN_SEMn_WAIT n) (by decide) rfl hread) ?_)
      simp [State.waitOver, howner, hother]
  · refine congrArg Host.Outcome.next ((semTimeout_of (x := ⟨q, .sem n.val⟩) (l := []) ?_).trans ?_)
    · simp [hstalled, takeFirst]
    · simp only [finish, hsingle]
      rfl
  · refine (leaseExpire_of hlo hhi hlease).trans (resume_of_quiet ?_)
    simpa [State.setSem] using hquiet
  · rw [watchdog_open hopen, coreDropped_quiet hquiet hnone]
    exact resume_of_quiet (by simpa using hquiet)

end Sys2Proof.Machine

/-! PROOFS. The debug registers (R523 to R527). -/
namespace Sys2Proof.Machine
open Sys2Proof Sys2Proof.Machine.Laws

theorem rowAt_DBG_CORE_CTRL : RowAt Reg.DBG_CORE_CTRL 0 row_DBG_CORE_CTRL := rowAt_of find_DBG_CORE_CTRL addr_DBG_CORE_CTRL rfl

theorem waActs_DBG_CORE_CTRL (i t : Nat) (p : Path) (v : Nat) : waActs row_DBG_CORE_CTRL i t p v =
    (if bit v 8 then [actCores true] else []) ++ (if bit v 9 then [actCores false] else []) := rfl

/-- A write of DBG_CORE_CTRL with one action bit: MASK is kept, and the one action acts. -/
theorem hostSet_DBG_CORE_CTRL {acc : Access} {m : Fin 16} {s : State} {halt : Bool} {k : Nat × Nat × Nat}
    (hopens : s.opens acc 0x140004 = true) (hpath : acc.path = .debug) (hcanon : s.canon = true)
    (hk : k = if halt then Reg.DBG_CORE_CTRL_HALT.is' 1 else Reg.DBG_CORE_CTRL_RESUME.is' 1) :
    ∃ u, s.Wrote Reg.DBG_CORE_CTRL 0 0 [(Reg.DBG_CORE_CTRL_MASK, m.val)] u ∧
      hostSet acc Reg.DBG_CORE_CTRL 0 [Reg.DBG_CORE_CTRL_MASK.is' m.val, k] s =
        (u.set Reg.DBG_CORE_STATUS_HALTED (if halt then s.get Reg.DBG_CORE_STATUS_HALTED ||| m.val
          else s.get Reg.DBG_CORE_STATUS_HALTED - (s.get Reg.DBG_CORE_STATUS_HALTED &&& m.val))).answered stOk := by
  have hregs := rising_of_canon hcanon
  subst hk
  refine hostSet_wrote (act := actCores halt) rowAt_DBG_CORE_CTRL rfl (by decide) (accTen_debug hpath) (fun w => rfl) hopens
    (mayWriteReg_of_debug rfl hpath) (by cases halt <;> rfl) (fieldsRead_cons (by cases halt <;> rfl) ?_ fieldsRead_nil)
    (fun v hv => ?_) (fun w hw => ⟨?_, rfl⟩)
  · cases halt <;> exact Nat.mod_eq_of_lt m.isLt
  · have h8 := hv 8 (by decide) rfl
    have h9 := hv 9 (by decide) rfl
    rw [waActs_DBG_CORE_CTRL, h8, h9]
    cases halt <;> rfl
  · have hmask : (s.setWord Reg.DBG_CORE_CTRL w).get Reg.DBG_CORE_CTRL_MASK = m.val :=
      get_setWord_field hregs ⟨rfl, rfl, rfl, rfl, rfl⟩ (hw _ List.mem_cons_self)
    have hhalted : (s.setWord Reg.DBG_CORE_CTRL w).get Reg.DBG_CORE_STATUS_HALTED = s.get Reg.DBG_CORE_STATUS_HALTED :=
      get_setWord_other hregs (by decide)
    simp only [actCores, hmask, hhalted]

/-! ## DBG_CFG -/

/-- A field that the mask of a merge does not meet reads as before. -/
theorem bitsOf_merge_beside (old v : Nat) {k hi lo : Nat} (hk : ∀ i, lo ≤ i → i ≤ hi → k.testBit i = false) (hword : hi < 32) :
    bitsOf (BitVec.ofNat 32 (old - (old &&& k) + (v &&& k))).toNat hi lo = bitsOf old hi lo := by
  rw [bitsOf_ofNat32 _ _ hword]
  apply Nat.eq_of_testBit_eq
  intro i
  rw [testBit_bitsOf, testBit_bitsOf, testBit_merge]
  by_cases hi' : i < hi + 1 - lo
  · rw [hk (lo + i) (by omega) (by omega)]
    rfl
  · simp [hi']

/-- The word that the SPI port's write of DBG_CFG hands over: LOCK alone is taken (R527). -/
def lockWord (s : State) (v : Nat) : Word :=
  BitVec.ofNat 32 ((s.word Reg.DBG_CFG).toNat - ((s.word Reg.DBG_CFG).toNat &&& 4) + (v &&& 4))

theorem regWrite_DBG_CFG_spi {v : Nat} {s : State} (hv : v < 2 ^ 32) :
    regWrite row_DBG_CFG 0 0 0 .spi v (2 ^ 32 - 1) s = regRw row_DBG_CFG 0 0 0 (lockWord s v) s := by
  have hw1c : row_DBG_CFG.mask .w1c = 0 := rfl
  have haddr : row_DBG_CFG.addr = 0x140000 := rfl
  have hmask : (if (Path.spi : Path) = .debug then 3 else 4) &&& (2 ^ 32 - 1) = 4 := by decide
  have hnone : waActs row_DBG_CFG 0 0 .spi v = [] := rfl
  simp only [regWrite, hw1c, haddr, if_true, hmask, and_ones32 hv, hnone, Nat.and_zero, Nat.zero_and, Nat.sub_zero]
  rfl

theorem regRw_DBG_CFG (v : Word) (s : State) : regRw row_DBG_CFG 0 0 0 v s =
    (s.setWord Reg.DBG_CFG (if bit (s.word Reg.DBG_CFG).toNat 2 then BitVec.ofNat 32 (putBits v.toNat 2 2 1) else v), stOk) := rfl

/-- The word that DBG_CFG then holds: LOCK once set stays (R527). -/
def lockedWord (s : State) (v : Nat) : Word :=
  if bit (s.word Reg.DBG_CFG).toNat 2 then BitVec.ofNat 32 (putBits (lockWord s v).toNat 2 2 1) else lockWord s v

theorem lockWord_beside (s : State) (v : Nat) {b : Nat} (hb : b < 2) :
    bitsOf (lockWord s v).toNat b b = bitsOf (s.word Reg.DBG_CFG).toNat b b :=
  bitsOf_merge_beside _ _ (fun i hlo hhi => by
    have hlow : i = 0 ∨ i = 1 := by omega
    rcases hlow with rfl | rfl <;> rfl) (by omega)

theorem lockedWord_beside (s : State) (v : Nat) {b : Nat} (hb : b < 2) :
    bitsOf (lockedWord s v).toNat b b = bitsOf (s.word Reg.DBG_CFG).toNat b b := by
  rw [lockedWord]
  split
  · rw [bitsOf_ofNat32 _ _ (by omega), bitsOf_putBits_ne _ _ _ _ _ _ (by decide) (by omega), lockWord_beside s v hb]
  · exact lockWord_beside s v hb

theorem lockedWord_lock {s : State} {v : Nat} (hlock : bitsOf v 2 2 = 1) : bitsOf (lockedWord s v).toNat 2 2 = 1 := by
  rw [lockedWord]
  split
  · exact (bitsOf_ofNat32 _ _ (by decide)).trans (bitsOf_putBits_same _ _ _ _ (by decide))
  · refine (bitsOf_merge _ _ _ _ _ (fun i hlo hhi => ?_) (by decide)).trans hlock
    obtain rfl : i = 2 := by omega
    rfl

theorem exec_dbgLock {acc : Access} {s : State} (hopens : s.opens acc 0x140000 = true) (hpath : acc.path = .spi) :
    ∃ u, s.Wrote Reg.DBG_CFG 0 0 [(Reg.DBG_CFG_LOCK, 1), (Reg.DBG_CFG_QUIET, s.get Reg.DBG_CFG_QUIET),
      (Reg.DBG_CFG_INTRUSIVE, s.get Reg.DBG_CFG_INTRUSIVE)] u ∧ exec (.dbgLock acc) s = .next (u.answered stOk) := by
  have hten : accTen acc = 0 := by simp [accTen, hpath]
  have hright : s.mayWriteReg row_DBG_CFG 0 (accTen acc) acc.path = true := by simp [State.mayWriteReg, row_DBG_CFG, hpath]
  obtain ⟨v, hv, hwritten⟩ : ∃ v, v = [Reg.DBG_CFG_LOCK.is' 1].foldl (fun w g => putBits w g.1 g.2.1 g.2.2)
      ((s.word Reg.DBG_CFG 0 0 (accTen acc)).toNat &&& row_DBG_CFG.mask .rw) % 2 ^ 32 ∧
      regWrite row_DBG_CFG 0 0 (accTen acc) acc.path v (2 ^ 32 - 1) s = (s.setWord Reg.DBG_CFG (lockedWord s v), stOk) := by
    refine ⟨_, rfl, ?_⟩
    rw [hten, hpath, regWrite_DBG_CFG_spi (Nat.mod_lt _ (by decide)), regRw_DBG_CFG]
    rfl
  have hlock : bitsOf v 2 2 = 1 := by
    rw [hv, ← BitVec.toNat_ofNat, bitsOf_ofNat32 _ _ (by decide)]
    exact bitsOf_putBits_same _ _ _ _ (by decide)
  have hquiet : s.host.stalled = [] := opens_quiet hopens
  subst hv
  refine ⟨_, ⟨_, ?_, rfl⟩, congrArg Host.Outcome.next (hostSet_row (fs := [Reg.DBG_CFG_LOCK.is' 1]) hopens find_DBG_CFG addr_DBG_CFG
    (by decide) hright hwritten hquiet)⟩
  exact List.forall_mem_cons.mpr ⟨lockedWord_lock hlock, List.forall_mem_cons.mpr
    ⟨lockedWord_beside (b := 0) _ _ (by decide), List.forall_mem_cons.mpr ⟨lockedWord_beside (b := 1) _ _ (by decide), nofun⟩⟩⟩

/-! ## What waits for service core 1 -/

/-- Where service core 1 runs again, the one request that waited is taken. -/
theorem served_spi {s b : State} {op count width addr : Nat} {data : List Byte} {ok : Bool} (hopen : s.pathOpen .spi = true)
    (hclosed : b.pathOpen .spi = false) (hwaits : s.host.waiting = [.spi op count width addr data ok]) :
    served b s = spiServe op count width addr data ok { s with host := { s.host with waiting := [] } } := by
  simp [served, hopen, hclosed, hwaits, serveN, serveOne]

/-- Settles O29: a halt, a resume and the lock are the one action or field of their register. -/
theorem debugCommandsTakeEffect : Obligations.DebugCommandsTakeEffect := by
  refine ⟨fun acc m s hopens hpath hcanon => next_of_wrote rfl (hostSet_DBG_CORE_CTRL (halt := true) hopens hpath hcanon rfl),
    fun acc m s hopens hpath hcanon => ?_, fun acc s hopens hpath _ => exec_dbgLock hopens hpath,
    fun s b op count width addr data ok => served_spi⟩
  obtain ⟨u, hwrote, hset⟩ := hostSet_DBG_CORE_CTRL (m := m) (halt := false) hopens hpath hcanon rfl
  exact ⟨u, hwrote, congrArg (fun t => Host.Outcome.next (served s t)) hset⟩

end Sys2Proof.Machine

/-! PROOFS. The fault collector under a host (R529, R533, R541, R544, R550 to R554). -/
namespace Sys2Proof.Machine
open Sys2Proof Sys2Proof.Machine.Laws

/-! ## Classes -/

theorem rowAt_FLT_SRCn (n : Fin 256) : RowAt Reg.FLT_SRCn n.val row_FLT_SRCn := rowAt_of (find_FLT_SRCn n) (addr_FLT_SRCn n) rfl

theorem regRw_FLT_SRCn {n t : Nat} {w : Word} {s : State} (hsource : (sourceRow n).isSome = true) (hclass : 3 ≤ n) :
    regRw row_FLT_SRCn n 0 t w s =
      ({ s with flt := { s.flt with clsPend := s.flt.clsPend ++ [(n, bitsOf w.toNat 25 24)] } }, stOk) := by
  have hkept : ¬((sourceRow n).isNone = true ∨ n < 3) := by
    simp [Option.isSome_iff_ne_none.mp hsource]
    omega
  exact if_neg hkept

/-! ## Clears -/

theorem rowAt_FLT_CLEAR : RowAt Reg.FLT_CLEAR 0 row_FLT_CLEAR := rowAt_of find_FLT_CLEAR addr_FLT_CLEAR rfl

theorem waActs_FLT_CLEAR (i t : Nat) (p : Path) (v : Nat) : waActs row_FLT_CLEAR i t p v =
    if bitsOf v 31 28 = 0 then [] else [plainAct (actFltClear (bit v 31) (bit v 30) (bit v 29) (bit v 28) (v % 256))] := rfl

/-- What a word of FLT_CLEAR asks for. -/
def clearWord (h l r c : Bool) (m v : Nat) : Bool :=
  bitsOf v 31 28 != 0 && bit v 31 == h && bit v 30 == l && bit v 29 == r && bit v 28 == c && v % 256 == m

/-- A clear with no other waiting is kept, with its kinds, mask and tick. -/
theorem hostSet_FLT_CLEAR {acc : Access} {s : State} {fs : List (Nat × Nat × Nat)} {h l r c : Bool} {m : Nat}
    (howns : s.owns acc 0x120008 = true) (hnone : s.flt.clear = none) (hkind : (h || l || c) = true)
    (hword : clearWord h l r c m (fieldsWord fs) = true) : hostSet acc Reg.FLT_CLEAR 0 fs s =
      ({ s with flt := { s.flt with clear := some ⟨h, l, r, c, if l then m else 0, s.ks.count⟩ } } : State).answered stOk := by
  simp only [clearWord, Bool.and_eq_true, bne_iff_ne, beq_iff_eq] at hword
  obtain ⟨⟨⟨⟨⟨hsome, hh⟩, hl⟩, hr⟩, hc⟩, hm⟩ := hword
  refine hostSet_owner rowAt_FLT_CLEAR rfl ⟨rfl, by decide⟩ howns (act := plainAct (actFltClear h l r c m)) ?_ ?_ rfl
  · rw [waActs_FLT_CLEAR, if_neg hsome, hh, hl, hr, hc, hm]
  · simp only [plainAct, actFltClear, hkind, Bool.not_true, Bool.false_eq_true, if_false, hnone]

/-! ### The effect of a clear -/

theorem clearAct_waits {s : State} {c : ClearReq} (hclear : s.flt.clear = some c) (hearly : s.ks.count ≤ c.tick) :
    clearAct s = (s, 0, false) := by
  simp only [clearAct, hclear, if_pos hearly]

theorem clearAct_none {s : State} (hclear : s.flt.clear = none) : clearAct s = (s, 0, false) := by
  simp only [clearAct, hclear]

theorem fltClearDue_of {s u : State} {freed : Nat} (hact : clearAct s = (u, freed, false)) : fltClearDue s = u := by
  simp only [fltClearDue, hact, Bool.not_false, Bool.true_or, if_true]

theorem clearAct_capstone {s : State} {c : ClearReq} (hclear : s.flt.clear = some c) (hdue : c.tick < s.ks.count)
    (hcapstone : s.flt.capstone = true) : clearAct s =
      (({ s with flt := { s.flt with clear := none } } : State).set Reg.FLT_CLEAR_STAT_RESULT 3, 0, false) := by
  simp only [clearAct, hclear, if_neg (Nat.not_le.mpr hdue), hcapstone, Bool.not_true, Bool.and_false, Bool.false_eq_true, if_false,
    if_true]

/-- The state once the waiting clear is taken. -/
def State.clearTaken (s : State) : State := { s with flt := { s.flt with clear := none } }

theorem fltCntClr_flt (s : State) : (fltCntClr s).flt = s.flt := by
  rw [fltCntClr, State.set_flt]
  exact forN_flt (fun _ _ => State.set_flt _ _ _ _ _ _) _ _

theorem clearAct_counts {s : State} {c : ClearReq} (hclear : s.flt.clear = some c) (hdue : c.tick < s.ks.count)
    (hcapstone : s.flt.capstone = false) (hhalt : c.halt = false) (hload : c.load = false) (hcnt : c.cnt = true) :
    clearAct s = (fltCntClr s.clearTaken, 0, false) := by
  unfold clearAct
  rw [hclear]
  dsimp -zeta only
  rw [if_neg (Nat.not_le.mpr hdue)]
  extract_lets _ u v
  have hcounts : v = fltCntClr s.clearTaken := if_pos (by
    show (c.cnt && !s.flt.capstone) = true
    rw [hcnt, hcapstone]
    rfl)
  have hkept : v.flt.capstone = false := by rw [hcounts, fltCntClr_flt, ← hcapstone, State.clearTaken]
  rw [if_neg (by simp [hkept]), if_pos (by simp [hhalt, hload]), hcounts]

/-- One count of FLT_CLEAR.CNT_CLR: what the tick has counted of a source. -/
def State.countKept (s : State) (n : Nat) : State := s.set Reg.FLT_SRCn_COUNT (b2n (s.flt.counted.contains n)) n

/-- The counts are written one by one: those below the place reached hold what the tick has counted. -/
theorem get_count_forN {s : State} (hregs : rising s.regs = true) (m : Nat) : rising (s.forN m State.countKept).regs = true ∧
    (s.forN m State.countKept).flt = s.flt ∧
      ∀ n < m, (s.forN m State.countKept).get Reg.FLT_SRCn_COUNT n = b2n (s.flt.counted.contains n) := by
  induction m with
  | zero => exact ⟨hregs, rfl, nofun⟩
  | succ m ih =>
    obtain ⟨hrise, hflt, hread⟩ := ih
    have hstep : s.forN (m + 1) State.countKept = (s.forN m State.countKept).countKept m := by
      simp only [State.forN, List.range_succ, List.foldl_append, List.foldl_cons, List.foldl_nil]
    rw [hstep]
    refine ⟨rising_set _ _ _ _ _ _ hrise, hflt, fun n hn => ?_⟩
    rcases Nat.lt_succ_iff_lt_or_eq.mp hn with hlt | rfl
    · refine (get_set_ne _ _ _ _ _ _ _ hrise ?_).trans (hread n hlt)
      simp [Fld.key, Reg.FLT_SRCn_COUNT]
      omega
    · refine (get_set_same (f := Reg.FLT_SRCn_COUNT) _ n 0 0 hrise (by decide) (by decide)).trans ?_
      rw [hflt]
      cases s.flt.counted.contains n <;> rfl

theorem lost_cleared {s : State} (hregs : rising s.regs = true) :
    (s.set Reg.FLT_HIST_STAT_LOST 0).get Reg.FLT_HIST_STAT_LOST = 0 :=
  (get_set_same 0 0 0 0 hregs (by decide) (by decide)).trans (Nat.zero_mod _)

theorem count_setLost {s : State} {n : Nat} (hregs : rising s.regs = true) :
    (s.set Reg.FLT_HIST_STAT_LOST 0).get Reg.FLT_SRCn_COUNT n = s.get Reg.FLT_SRCn_COUNT n := by
  refine get_set_ne _ _ _ _ _ _ _ hregs ?_
  simp [Fld.key, Reg.FLT_SRCn_COUNT, Reg.FLT_HIST_STAT_LOST]
  omega

theorem counts_fltCntClr {s : State} (hregs : rising s.regs = true) : (fltCntClr s).get Reg.FLT_HIST_STAT_LOST = 0 ∧
    ∀ n, n < 256 → (fltCntClr s).get Reg.FLT_SRCn_COUNT n = b2n (s.flt.counted.contains n) := by
  obtain ⟨hrise, -, hread⟩ := get_count_forN hregs 256
  have hclr : fltCntClr s = (s.forN 256 State.countKept).set Reg.FLT_HIST_STAT_LOST 0 := rfl
  rw [hclr]
  exact ⟨lost_cleared hrise, fun n hn => (count_setLost hrise).trans (hread n hn)⟩

/-- A push to the history leaves the raises, the waiting clear and the mark of the oldest raise. -/
theorem histPush_flt (s : State) (e : HistEntry) : (s.histPush e).flt.raises = s.flt.raises ∧
    (s.histPush e).flt.clear = s.flt.clear ∧ (s.histPush e).flt.firstOpen = s.flt.firstOpen := by
  unfold State.histPush
  split
  · simp
  · simp only []
    split <;> simp

/-- What FLT_CLEAR_STAT shows once everything asked for is cleared. -/
theorem clearStat_reads {s : State} (hregs : rising s.regs = true) :
    (((s.set Reg.FLT_CLEAR_STAT_RESULT 1).set Reg.FLT_CLEAR_STAT_LOAD_LEFT 0).set Reg.FLT_CLEAR_STAT_HALT_LEFT 0).get
      Reg.FLT_CLEAR_STAT_RESULT = 1 ∧
    (((s.set Reg.FLT_CLEAR_STAT_RESULT 1).set Reg.FLT_CLEAR_STAT_LOAD_LEFT 0).set Reg.FLT_CLEAR_STAT_HALT_LEFT 0).get
      Reg.FLT_CLEAR_STAT_HALT_LEFT = 0 := by
  have hresult : rising (s.set Reg.FLT_CLEAR_STAT_RESULT 1).regs = true := rising_set _ _ _ _ _ _ hregs
  have hload : rising ((s.set Reg.FLT_CLEAR_STAT_RESULT 1).set Reg.FLT_CLEAR_STAT_LOAD_LEFT 0).regs = true :=
    rising_set _ _ _ _ _ _ hresult
  refine ⟨?_, get_set_same _ _ _ _ hload (by decide) (by decide)⟩
  rw [get_set_beside (f := Reg.FLT_CLEAR_STAT_HALT_LEFT) (g := Reg.FLT_CLEAR_STAT_RESULT) 0 0 0 0 hload (by decide) (by decide)
      ⟨rfl, rfl, rfl, rfl, rfl⟩ (by decide),
    get_set_beside (f := Reg.FLT_CLEAR_STAT_LOAD_LEFT) (g := Reg.FLT_CLEAR_STAT_RESULT) 0 0 0 0 hresult (by decide) (by decide)
      ⟨rfl, rfl, rfl, rfl, rfl⟩ (by decide),
    get_set_same 1 0 0 0 hregs (by decide) (by decide)]
  rfl

/-- A HALT clear with nothing active and no raise newer than it. -/
theorem clearAct_halt {s : State} {c : ClearReq} (hregs : rising s.regs = true) (hclear : s.flt.clear = some c)
    (hdue : c.tick < s.ks.count) (hcapstone : s.flt.capstone = false) (hhalt : c.halt = true) (hload : c.load = false)
    (hrestart : c.restart = false) (hcnt : c.cnt = false) (hactive : s.flt.active = []) (hloads : s.flt.loads = [])
    (hold : ∀ r ∈ s.flt.raises, r.tick ≤ c.tick) : ∃ t freed, clearAct s = (t, freed, false) ∧ t.flt.raises = [] ∧
      t.flt.clear = none ∧ t.flt.firstOpen = true ∧ t.get Reg.FLT_CLEAR_STAT_RESULT = 1 ∧
      t.get Reg.FLT_CLEAR_STAT_HALT_LEFT = 0 := by
  unfold clearAct
  rw [hclear]
  dsimp -zeta only
  rw [if_neg (Nat.not_le.mpr hdue)]
  extract_lets _ u v _ goneLoads leftLoads _ w x may gone left halts _ y loadMask loadLeft all z t
  have hv : v = s.clearTaken := if_neg (by simp [hcnt])
  clear_value v
  subst hv
  have hgone : goneLoads = [] := (congrArg (List.filter _) hloads).trans rfl
  have hnoLoads : leftLoads = [] := (congrArg (List.filter _) hloads).trans rfl
  clear_value goneLoads leftLoads
  subst hgone hnoLoads
  obtain ⟨hraises, hquiet, htaken, hregs', hcapX⟩ : x.flt.raises = s.flt.raises ∧ x.flt.active = [] ∧ x.flt.clear = none ∧
      x.regs = s.regs ∧ x.flt.capstone = false := ⟨rfl, hactive, rfl, rfl, hcapstone⟩
  rw [if_neg (by exact Bool.eq_false_iff.mp hcapstone), if_neg (by rw [hhalt]; exact Bool.noConfusion)]
  clear_value x
  have hmay : ∀ r ∈ s.flt.raises, may r = true := fun r hr => by
    have hinactive : x.isActive r.source = false := by rw [State.isActive, hquiet]; rfl
    show (c.halt && decide (r.tick ≤ c.tick) && !x.isActive r.source && !List.any [] _) = true
    rw [hhalt, hinactive, decide_eq_true (hold r hr)]
    rfl
  clear_value may
  have hleft : left = [] := by
    rw [show left = x.flt.raises.filter (fun r => !may r) from rfl, hraises, List.filter_eq_nil_iff]
    exact fun r hr => by simp [hmay r hr]
  clear_value left
  subst hleft
  have hhalts : halts = [] := rfl
  clear_value halts
  subst hhalts
  obtain ⟨hyraises, hyclear, hyopen, hyregs⟩ : y.flt.raises = [] ∧ y.flt.clear = none ∧ y.flt.firstOpen = true ∧ y.regs = s.regs := by
    refine ⟨rfl, htaken, ?_, hregs'⟩
    show (x.flt.firstOpen || c.halt && decide (([] : List Raise) = [])) = true
    rw [hhalt]
    simp
  clear_value y
  have hloadLeft : loadLeft = 0 := if_neg (by rw [hload]; exact Bool.false_ne_true)
  clear_value loadLeft
  subst hloadLeft
  have hall : all = true := by
    show (decide (0 = 0) && (!c.halt || decide (([] : List Raise) = []))) = true
    simp
  clear_value all
  subst hall
  obtain ⟨hresult, hnoneLeft⟩ := clearStat_reads (s := y) (hyregs ▸ hregs)
  have hz : z = ((y.set Reg.FLT_CLEAR_STAT_RESULT 1).set Reg.FLT_CLEAR_STAT_LOAD_LEFT 0).set Reg.FLT_CLEAR_STAT_HALT_LEFT 0 := rfl
  have hzflt : z.flt = y.flt := rfl
  have hzregs : rising z.regs = true := by
    exact rising_set _ _ _ _ _ _ (rising_set _ _ _ _ _ _ (rising_set _ _ _ _ _ _ (hyregs ▸ hregs)))
  rw [← hz] at hresult hnoneLeft
  clear_value z
  obtain ⟨htraises, htclear, htopen⟩ := histPush_flt z ⟨z.ks.count, 0, 0, 2, false, 0, loadMask + 256 * min 255 gone.length, z.flt.seq⟩
  have hframe : RegFrame histKeys z t := regFrame_histPush (regFrame_refl histKeys z)
  refine ⟨t, _, congrArg (fun b => (t, _, b)) hrestart, htraises.trans (hzflt ▸ hyraises), htclear.trans (hzflt ▸ hyclear),
    htopen.trans (hzflt ▸ hyopen), ?_, ?_⟩
  · exact (get_of_regFrame hframe hzregs (by unfold histKeys; decide)).trans hresult
  · exact (get_of_regFrame hframe hzregs (by unfold histKeys; decide)).trans hnoneLeft

/-! ## The history -/

/-- The row of FLT_HIST_TOP0. -/
def row_FLT_HIST_TOP0 : RegRow := ⟨0x120030, 0x0, 0, 1, 0x0, 1, 0x0, .nobody, false, false, [(.rc, 31, 0)]⟩
theorem find_FLT_HIST_TOP0 : regFind 0x120030 = some (row_FLT_HIST_TOP0, 0, 0) := by decide

theorem regRead_FLT_HIST_TOP0 {p : Path} {t : Nat} {s : State} (ht : t = 0) :
    regRead row_FLT_HIST_TOP0 0 0 t p s = ((histPop p s).1, .done stOk (histPop p s).2) := by
  subst ht
  rfl

theorem histPop_takes {s : State} {p : Path} {e : HistEntry} {l : List HistEntry} (hloud : s.quietRead p = false)
    (hmelted : s.flt.frozen = false) (hhist : s.flt.hist = e :: l) : histPop p s =
      ({ s with flt := { s.flt with hist := l, bufs := setNth s.flt.bufs (pathBuf p) e.words } }, nth e.words 0 0#32) := by
  simp only [histPop, hloud, hmelted, hhist]
  rfl

/-! ## Injections -/

theorem waActs_FLT_INJ (i t : Nat) (p : Path) (v : Nat) : waActs row_FLT_INJ i t p v = if bit v 31 then [actInjArm] else [] := rfl

/-- The fields of an injection as a host arms it. -/
def injFields (g m k : Nat) : List (Fld × Nat) := [(Reg.FLT_INJ_TARGET, g), (Reg.FLT_INJ_MODE, m), (Reg.FLT_INJ_UNIT, k)]

/-- A composed write of the owner's register whose unit takes any word: the fields kept read as composed, the other bits as
before, and then the actions of the composed word act. -/
theorem hostSet_owner_merged {x : Access} {f : Fld} {i : Nat} {fs : List (Nat × Nat × Nat)} {s : State} {r : RegRow}
    (hrow : RowAt f i r) (hfld : r.fld = f) (hrw : r.mask .rw < 2 ^ 32 ∧ r.mask .rw ≠ 0)
    (howner : r.writers = .owner ∧ r.addr ≠ 0xE010C) (hplain : ∀ w, regRw r i 0 0 w s = (s.setWord f w i 0 0, stOk))
    (howns : s.owns x (f.addr + f.s1 * i) = true) :
    ∃ w, (∀ hi lo, (∀ j, lo ≤ j → j ≤ hi → (r.mask .rw).testBit j = true) → hi < 32 →
        bitsOf w.toNat hi lo = bitsOf (composed s f i 0 (r.mask .rw) fs % 2 ^ 32) hi lo) ∧
      (∀ hi lo, (∀ j, lo ≤ j → j ≤ hi → (r.mask .rw).testBit j = false) → hi < 32 →
        bitsOf w.toNat hi lo = bitsOf (s.word f i).toNat hi lo) ∧
      ∀ u st, runActs stOk (waActs r i 0 x.path (composed s f i 0 (r.mask .rw) fs % 2 ^ 32)) (s.setWord f w i) = (u, st) →
        u.host = s.host → hostSet x f i fs s = u.answered st := by
  have hzero := owns_zero howns
  have hopens := owns_opens howns
  refine ⟨BitVec.ofNat 32 ((s.word f i).toNat - ((s.word f i).toNat &&& r.mask .rw) +
    ((composed s f i 0 (r.mask .rw) fs % 2 ^ 32) &&& r.mask .rw)), fun hi lo hkept hword => bitsOf_merge _ _ _ _ _ hkept hword,
    fun hi lo hother hword => bitsOf_merge_beside _ _ hother hword, fun u st hacts hhost => ?_⟩
  refine hostSet_row hopens hrow.found ⟨hrow.place.1, hrow.place.2.1, rfl⟩ hrow.place.2.2
    (mayWriteReg_of_owner howner hzero) ?_ (hhost ▸ opens_quiet hopens)
  rw [hzero, regWrite_plain hrow.noW1c (and_ones32 hrw.1) hrow.noRule.1 hrow.noRule.2 (hfld.symm ▸ hplain) hrw.2, hfld,
    and_ones32 (Nat.mod_lt _ (by decide))]
  exact hacts

theorem rowAt_FLT_INJ : RowAt Reg.FLT_INJ 0 row_FLT_INJ := rowAt_of find_FLT_INJ addr_FLT_INJ rfl

/-- INJ_ARM takes TARGET, MODE and UNIT, keeps STATE, and arms. -/
theorem exec_injArm {acc : Access} {g : Fin 16} {m : Fin 4} {k : Fin 32} {s : State} {f : State → Act}
    (howns : s.owns acc 0x120040 = true) (hcanon : s.canon = true) (hhost : ∀ u, (f u).1.host = u.host)
    (hact : ∀ w, (s.setWord Reg.FLT_INJ w).get Reg.FLT_INJ_TARGET = g.val → (s.setWord Reg.FLT_INJ w).get Reg.FLT_INJ_MODE = m.val →
      (s.setWord Reg.FLT_INJ w).get Reg.FLT_INJ_UNIT = k.val →
      (s.setWord Reg.FLT_INJ w).get Reg.FLT_INJ_STATE = s.get Reg.FLT_INJ_STATE →
      actInjArm (s.setWord Reg.FLT_INJ w) = f (s.setWord Reg.FLT_INJ w)) :
    ∃ u, s.Wrote Reg.FLT_INJ 0 0 (injFields g.val m.val k.val) u ∧ exec (.injArm acc g m k) s = .next ((f u).1.answered (f u).2) := by
  have hregs := rising_of_canon hcanon
  obtain ⟨w, hkept, hbeside, hrun⟩ := hostSet_owner_merged (fs := [Reg.FLT_INJ_TARGET.is' g.val, Reg.FLT_INJ_MODE.is' m.val,
    Reg.FLT_INJ_UNIT.is' k.val, Reg.FLT_INJ_ARM.is' 1]) rowAt_FLT_INJ rfl (by decide) ⟨rfl, by decide⟩ (fun w => rfl) howns
  have hvals : FieldsRead Reg.FLT_INJ row_FLT_INJ [Reg.FLT_INJ_TARGET.is' g.val, Reg.FLT_INJ_MODE.is' m.val,
      Reg.FLT_INJ_UNIT.is' k.val, Reg.FLT_INJ_ARM.is' 1] (fun f => s.get f) (injFields g.val m.val k.val) :=
    fieldsRead_cons rfl (Nat.mod_eq_of_lt g.isLt) (fieldsRead_cons rfl (Nat.mod_eq_of_lt m.isLt)
      (fieldsRead_cons rfl (Nat.mod_eq_of_lt k.isLt) fieldsRead_nil))
  have hw : ∀ p ∈ injFields g.val m.val k.val, bitsOf w.toNat p.1.hi p.1.lo = p.2 := fun p hp => by
    obtain ⟨hfield, hvalue⟩ := hvals p hp
    have hparts := hfield
    simp only [fieldOf, Bool.and_eq_true, beq_iff_eq, decide_eq_true_eq] at hparts
    obtain ⟨⟨⟨-, hword⟩, hcovers⟩, -⟩ := hparts
    rw [hkept _ _ (fun b hlo hhi => testBit_of_covers hcovers hlo hhi) hword, bitsOf_composed hfield, hvalue]
  have hstate : bitsOf w.toNat 26 24 = s.get Reg.FLT_INJ_STATE := hbeside 26 24 (fun j hlo hhi => by
    have hbits : j = 24 ∨ j = 25 ∨ j = 26 := by omega
    rcases hbits with rfl | rfl | rfl <;> rfl) (by decide)
  have hacts := hact w (get_setWord_field hregs ⟨rfl, rfl, rfl, rfl, rfl⟩ (hw (Reg.FLT_INJ_TARGET, g.val) (by simp [injFields])))
    (get_setWord_field hregs ⟨rfl, rfl, rfl, rfl, rfl⟩ (hw (Reg.FLT_INJ_MODE, m.val) (by simp [injFields])))
    (get_setWord_field hregs ⟨rfl, rfl, rfl, rfl, rfl⟩ (hw (Reg.FLT_INJ_UNIT, k.val) (by simp [injFields])))
    (get_setWord_field hregs ⟨rfl, rfl, rfl, rfl, rfl⟩ hstate)
  refine ⟨_, ⟨w, hw, rfl⟩, congrArg Host.Outcome.next (hrun _ _ ?_ (hhost _))⟩
  rw [waActs_FLT_INJ, bit_composed rfl (by decide) rfl]
  exact runActs_one hacts

section
variable {u : State} {g : Nat}

theorem actInjArm_off (hoff : u.is Reg.FLT_CFG_INJ_EN = false) : actInjArm u = (u, stPerm) := by
  simp only [actInjArm, hoff, Bool.not_false, if_true]

theorem actInjArm_barred (hon : u.is Reg.FLT_CFG_INJ_EN = true)
    (hbarred : u.get Reg.FLT_INJ_STATE = 1 ∨ u.is Reg.MIX_OVR_STATUS_EFFECTIVE = true ∨ u.flt.capstone = true) :
    actInjArm u = (u, stBusy) := by
  have hany : (u.get Reg.FLT_INJ_STATE = 1 || u.is Reg.MIX_OVR_STATUS_EFFECTIVE || u.flt.capstone) = true := by
    simpa [or_assoc] using hbarred
  simp only [actInjArm, hon, Bool.not_true, Bool.false_eq_true, if_false, hany, if_true]

variable (htarget : u.get Reg.FLT_INJ_TARGET = g) (hon : u.is Reg.FLT_CFG_INJ_EN = true) (hidle : u.get Reg.FLT_INJ_STATE ≠ 1)
  (hnormal : u.is Reg.MIX_OVR_STATUS_EFFECTIVE = false) (hcapstone : u.flt.capstone = false)
include htarget hon hidle hnormal hcapstone

theorem actInjArm_idle : actInjArm u =
    if 8 ≤ g then (u.set Reg.FLT_INJ_STATE 4, stAccess)
    else if g < 4 && (u.get Reg.FLT_INJ_MODE = 0 || !u.injAddrOk g) then (u.set Reg.FLT_INJ_STATE 4, stAccess)
    else (({ u with flt := { u.flt with inj := some ⟨g, u.get Reg.FLT_INJ_MODE, u.get Reg.FLT_INJ_UNIT, u.injKey⟩ } } : State).set
      Reg.FLT_INJ_STATE 1, stOk) := by
  simp only [actInjArm, htarget, hon, Bool.not_true, Bool.false_eq_true, if_false, hidle, hnormal, hcapstone, decide_false,
    Bool.or_self]

end

/-- What arming an injection asks of other registers stays when FLT_INJ is written. -/
theorem injBars_setInj {s : State} {w : Word} (hregs : rising s.regs = true) :
    (s.setWord Reg.FLT_INJ w).is Reg.FLT_CFG_INJ_EN = s.is Reg.FLT_CFG_INJ_EN ∧
    (s.setWord Reg.FLT_INJ w).is Reg.MIX_OVR_STATUS_EFFECTIVE = s.is Reg.MIX_OVR_STATUS_EFFECTIVE :=
  ⟨is_setWord_ne hregs (by decide), is_setWord_ne hregs (by decide)⟩

/-- Settles O30: classes and clears are kept as asked, a due clear acts as `clearAct` says, and an injection is armed by its
target, mode and address. -/
theorem faultCommandsTakeEffect : Obligations.FaultCommandsTakeEffect := by
  refine ⟨fun acc n c s howns hsource hclass => ?_, fun acc s howns hnone => congrArg Host.Outcome.next ?_,
    fun acc m s howns hnone => congrArg Host.Outcome.next ?_, fun acc h l m s howns hnone hkind => congrArg Host.Outcome.next ?_,
    fun acc s howns hnone => congrArg Host.Outcome.next ?_, fun acc e l s howns hloud hmelted hhist => ?_,
    fun s hnone => congrArg Host.Outcome.next (fltClearDue_of (clearAct_none hnone)),
    fun s c hclear hearly => congrArg Host.Outcome.next (fltClearDue_of (clearAct_waits hclear hearly)),
    fun s c hclear hdue hcapstone => congrArg Host.Outcome.next (fltClearDue_of (clearAct_capstone hclear hdue hcapstone)),
    fun s c hcanon hclear hdue hcapstone hhalt hload hrestart hcnt hactive hloads hold => ?_,
    fun acc g m k s howns hcanon hon hidle hnormal hcapstone hlink hhi => ?_,
    fun acc g m k s howns hcanon hon hidle hnormal hcapstone hmem hmode => ?_,
    fun acc g m k s howns hcanon hon hidle hnormal hcapstone hbad => ?_, fun acc g m k s howns hcanon hoff => ?_,
    fun acc g m k s howns hcanon hon hbarred => ?_, fun s c hclear hdue hcapstone hhalt hload hcnt hcanon => ?_⟩
  · refine congrArg Host.Outcome.next ?_
    obtain ⟨w, hw, hrun⟩ := hostSet_unit_vals (fs := [Reg.FLT_SRCn_CLASS.is' c.val]) (rowAt_FLT_SRCn n) (by decide) (owns_zero howns)
      (fun _ => rfl) (owns_opens howns) (owns_zero howns ▸ mayWriteReg_of_owner ⟨rfl, by decide⟩ (owns_zero howns))
      (fieldsRead_cons (g := Reg.FLT_SRCn_CLASS) rfl (Nat.mod_eq_of_lt c.isLt) fieldsRead_nil)
    have hclassed := regRw_FLT_SRCn (t := 0) (w := w) (s := s) hsource hclass
    rw [show bitsOf w.toNat 25 24 = c.val from hw _ List.mem_cons_self] at hclassed
    exact hrun _ _ hclassed rfl
  · exact hostSet_FLT_CLEAR (m := 0) howns hnone rfl rfl
  · refine hostSet_FLT_CLEAR howns hnone rfl ?_
    revert m
    decide +kernel
  · refine (hostSet_FLT_CLEAR (m := m.val) (r := true) (c := false) howns hnone (by simp [hkind]) ?_)
    clear hkind
    revert h l m
    decide +kernel
  · exact hostSet_FLT_CLEAR (m := 0) howns hnone rfl rfl
  · have hread := regRead_FLT_HIST_TOP0 (p := acc.path) (s := s) (owns_zero howns)
    rw [histPop_takes hloud hmelted hhist] at hread
    exact congrArg Host.Outcome.next (hostRead_done (owns_opens howns) (access_read (k := 18) (owns_opens howns) find_FLT_HIST_TOP0
      (by decide) (by decide) ((owns_zero howns).symm ▸ rfl) hread) (opens_quiet (owns_opens howns)))
  · obtain ⟨t, freed, hact, hleft⟩ := clearAct_halt (rising_of_canon hcanon) hclear hdue hcapstone hhalt hload hrestart hcnt hactive
      hloads hold
    exact ⟨t, congrArg Host.Outcome.next (fltClearDue_of hact), hleft⟩
  · refine exec_injArm howns hcanon (f := fun u => (({ u with flt := { u.flt with
      inj := some ⟨g.val, m.val, k.val, u.injKey⟩ } } : State).set Reg.FLT_INJ_STATE 1, stOk)) (fun _ => rfl)
      fun w htarget hm hk hstate => ?_
    obtain ⟨hen, heff⟩ := injBars_setInj (w := w) (rising_of_canon hcanon)
    rw [actInjArm_idle htarget (hen.trans hon) (fun hpending => hidle (hstate.symm.trans hpending)) (heff.trans hnormal) hcapstone, hm, hk]
    simp [show ¬8 ≤ g.val by omega, show ¬g.val < 4 by omega]
  · obtain ⟨u, hwrote, hran⟩ := exec_injArm (g := g) (m := m) (k := k) howns hcanon (f := fun u => if u.injAddrOk g.val then
      (({ u with flt := { u.flt with inj := some ⟨g.val, m.val, k.val, u.injKey⟩ } } : State).set Reg.FLT_INJ_STATE 1, stOk)
      else (u.set Reg.FLT_INJ_STATE 4, stAccess)) (fun u => by dsimp only; split <;> rfl) fun w htarget hm hk hstate => by
        obtain ⟨hen, heff⟩ := injBars_setInj (w := w) (rising_of_canon hcanon)
        rw [actInjArm_idle htarget (hen.trans hon) (fun hpending => hidle (hstate.symm.trans hpending)) (heff.trans hnormal) hcapstone, hm, hk]
        cases hok : (s.setWord Reg.FLT_INJ w).injAddrOk g.val <;> simp [show ¬8 ≤ g.val by omega, hmem, hmode]
    refine ⟨u, hwrote, hran.trans ?_⟩
    dsimp only
    split <;> rfl
  · refine exec_injArm howns hcanon (f := fun u => (u.set Reg.FLT_INJ_STATE 4, stAccess)) (fun _ => rfl)
      fun w htarget hm hk hstate => ?_
    obtain ⟨hen, heff⟩ := injBars_setInj (w := w) (rising_of_canon hcanon)
    rw [actInjArm_idle htarget (hen.trans hon) (fun hpending => hidle (hstate.symm.trans hpending)) (heff.trans hnormal) hcapstone, hm]
    rcases hbad with hfar | ⟨hmem, hmode⟩
    · exact if_pos hfar
    · simp [hmem, hmode]
  · exact exec_injArm howns hcanon (f := fun u => (u, stPerm)) (fun _ => rfl) fun w _ _ _ _ =>
      actInjArm_off ((injBars_setInj (rising_of_canon hcanon)).1.trans hoff)
  · refine exec_injArm howns hcanon (f := fun u => (u, stBusy)) (fun _ => rfl) fun w _ _ _ hstate => ?_
    obtain ⟨hen, heff⟩ := injBars_setInj (w := w) (rising_of_canon hcanon)
    exact actInjArm_barred (hen.trans hon) (hbarred.imp hstate.trans (Or.imp_left heff.trans))
  · obtain ⟨hlost, hcounts⟩ := counts_fltCntClr (s := s.clearTaken) (rising_of_canon hcanon)
    refine ⟨_, congrArg Host.Outcome.next (fltClearDue_of (clearAct_counts hclear hdue hcapstone hhalt hload hcnt)), ?_, hlost, hcounts⟩
    rw [fltCntClr_flt]
    rfl

end Sys2Proof.Machine

/-! PROOFS. Power domains under a host (R555, R557, R560, R566). -/
namespace Sys2Proof.Machine
open Sys2Proof Sys2Proof.Machine.Laws

theorem rowAt_DOM_CTRL : RowAt Reg.DOM_CTRL 0 row_DOM_CTRL := rowAt_of find_DOM_CTRL addr_DOM_CTRL rfl
theorem rowAt_DOM_Dnn_CFG (d : Fin 60) : RowAt Reg.DOM_Dnn_CFG d.val row_DOM_Dnn_CFG :=
  rowAt_of (find_DOM_Dnn_CFG d) (addr_DOM_Dnn_CFG d) rfl

theorem waActs_DOM_CTRL (i t : Nat) (p : Path) (v : Nat) : waActs row_DOM_CTRL i t p v =
    (if bit v 0 then [actDomSleep] else []) ++ (if bit v 1 then [actHostWake] else []) := rfl

/-! ## Targets -/

theorem regRw_DOM_Dnn_CFG (d t : Nat) (w : Word) (s : State) : regRw row_DOM_Dnn_CFG d 0 t w s = domCfgWrite d w s := rfl

theorem mod4_of_target {w : Word} {g : Nat} (hw : bitsOf w.toNat 1 0 = g) : w.toNat % 4 = g := by
  simp only [bitsOf] at hw
  omega

/-- A level that the floor allows is taken. -/
theorem domCfgWrite_taken {d g : Nat} {w : Word} {s : State} (hw : bitsOf w.toNat 1 0 = g) (hfloor : s.floored d = false ∨ g < 2) :
    domCfgWrite d w s = (s.setWord Reg.DOM_Dnn_CFG w d, stOk) := by
  have hlow : (s.floored d && decide (2 ≤ w.toNat % 4)) = false := by
    rw [mod4_of_target hw]
    rcases hfloor with hnone | hlow
    · rw [hnone, Bool.false_and]
    · simp [hlow]
  simp only [domCfgWrite, hlow, Bool.false_eq_true, if_false]

/-- A level below the floor is not. -/
theorem domCfgWrite_floored {d g : Nat} {w : Word} {s : State} (hw : bitsOf w.toNat 1 0 = g) (hfloor : s.floored d = true)
    (hg : 2 ≤ g) : domCfgWrite d w s = (s.int Reg.DOM_INT_STATUS_FLOOR, stBusy) := by
  have hbelow : (s.floored d && decide (2 ≤ w.toNat % 4)) = true := by
    rw [mod4_of_target hw, hfloor, decide_eq_true hg]
    rfl
  simp only [domCfgWrite, hbelow, if_true]

/-- A write of TARGET hands its unit a word with TARGET as named and IDLE_US kept. -/
theorem hostSet_target {acc : Access} {d : Fin 60} {g : Fin 4} {s : State} (howns : s.owns acc (0x130100 + 0x20 * d.val) = true) :
    ∃ w : Word, (∀ p ∈ [(Reg.DOM_Dnn_CFG_TARGET, g.val), (Reg.DOM_Dnn_CFG_IDLE_US, s.get Reg.DOM_Dnn_CFG_IDLE_US d.val)],
        bitsOf w.toNat p.1.hi p.1.lo = p.2) ∧ bitsOf w.toNat 1 0 = g.val ∧
      ∀ u st, domCfgWrite d.val w s = (u, st) → u.host = s.host →
        exec (.domainTargetWrite acc d g) s = .next (u.answered st) := by
  obtain ⟨w, hw, hrun⟩ := hostSet_unit_vals (fs := [Reg.DOM_Dnn_CFG_TARGET.is' g.val]) (rowAt_DOM_Dnn_CFG d) (by decide)
    (owns_zero howns) (fun _ => rfl) (owns_opens howns) (owns_zero howns ▸ mayWriteReg_of_owner ⟨rfl, by decide⟩ (owns_zero howns))
    (fieldsRead_cons (g := Reg.DOM_Dnn_CFG_TARGET) rfl (Nat.mod_eq_of_lt g.isLt)
      (fieldsRead_cons (g := Reg.DOM_Dnn_CFG_IDLE_US) rfl rfl fieldsRead_nil))
  exact ⟨w, hw, hw _ List.mem_cons_self, fun u st hunit hhost => congrArg Host.Outcome.next
    (hrun u st ((regRw_DOM_Dnn_CFG _ _ _ _).trans hunit) hhost)⟩

/-! ## Sleep -/

/-- An awake node that may sleep plans it for this tick. -/
theorem actDomSleep_awake {u : State} {k : Nat} (hmode : u.get Reg.DOM_CTRL_MODE = k) (h4 : u.ctl ≠ 4) (h5 : u.ctl ≠ 5)
    (hawake : u.asleep = false) (hstage3 : u.stage ≠ 3) (hstage4 : u.stage ≠ 4)
    (hnormal : u.is Reg.MIX_OVR_STATUS_EFFECTIVE = false) :
    actDomSleep u = ({ u with dom := { u.dom with sleepAt := some (3 + k, u.ks.count) } }, stOk) := by
  simp only [actDomSleep, h4, h5, hawake, hstage3, hstage4, hnormal, hmode, Bool.false_eq_true, or_self, if_false]

/-- Settles O31: a target goes by its domain's floor, SLEEP and WAKE are the one action of their bit. -/
theorem domainCommandsTakeEffect : Obligations.DomainCommandsTakeEffect := by
  refine ⟨fun acc d g s howns _ hfloor => ?_, fun acc b s howns hcanon h4 h5 hawake hstage3 hstage4 hnormal => ?_,
    fun acc s howns _ => ?_, fun acc d g s howns hfloor hg => ?_⟩
  · obtain ⟨w, hw, htarget, hrun⟩ := hostSet_target howns
    exact ⟨_, ⟨w, hw, rfl⟩, hrun _ _ (domCfgWrite_taken htarget hfloor) rfl⟩
  · have hregs := rising_of_canon hcanon
    refine next_of_wrote rfl (hostSet_owner_wrote (act := actDomSleep) rowAt_DOM_CTRL rfl (by decide) ⟨rfl, by decide⟩ (fun w => rfl)
      howns rfl (fieldsRead_cons rfl (by cases b <;> rfl) fieldsRead_nil) (fun v hv => ?_) (fun w hw => ⟨?_, rfl⟩))
    · rw [waActs_DOM_CTRL, hv 0 (by decide) rfl, hv 1 (by decide) rfl]
      rfl
    · have hmode : (s.setWord Reg.DOM_CTRL w).get Reg.DOM_CTRL_MODE = b2n b :=
        get_setWord_field hregs ⟨rfl, rfl, rfl, rfl, rfl⟩ (hw _ List.mem_cons_self)
      have hstage : (s.setWord Reg.DOM_CTRL w).stage = s.stage := get_setWord_other hregs (by decide)
      have hctl : (s.setWord Reg.DOM_CTRL w).ctl = s.ctl := get_setWord_other hregs (by decide)
      have hsleep : (s.setWord Reg.DOM_CTRL w).sleepCode = s.sleepCode := get_setWord_other hregs (by decide)
      refine actDomSleep_awake hmode (hctl ▸ h4) (hctl ▸ h5) ?_ (hstage ▸ hstage3) (hstage ▸ hstage4) ?_
      · rw [State.asleep, hsleep]
        exact hawake
      · rw [is_setWord_ne hregs (by decide), hnormal]
  · refine next_of_wrote rfl (hostSet_owner_wrote (act := actHostWake) rowAt_DOM_CTRL rfl (by decide) ⟨rfl, by decide⟩ (fun w => rfl)
      howns rfl (fieldsRead_cons rfl rfl fieldsRead_nil) (fun v hv => ?_) (fun w _ => ⟨rfl, wakeBy_host _ _ _ _ _ _⟩))
    rw [waActs_DOM_CTRL, hv 0 (by decide) rfl, hv 1 (by decide) rfl]
    rfl
  · obtain ⟨w, -, htarget, hrun⟩ := hostSet_target (g := g) howns
    exact hrun _ _ (domCfgWrite_floored htarget hfloor hg) (State.int_host _ _ _)

end Sys2Proof.Machine

/-! PROOFS. Supply, temperature and FAULT_N events of the logic side (R532, R535, R538, R539). -/
namespace Sys2Proof.Machine
open Sys2Proof

/-! ## An interrupt bit set leaves the other registers, whatever the form of the register file -/

theorem get_put_other {α : Type} [DecidableEq α] {d : Nat → α} (d' : Nat → α) (m : KMap α) {k j : Nat} {v : α} (hv : v ≠ d k) (hj : j ≠ k) :
    KMap.get d' (KMap.put d m k v) j = KMap.get d' m j := by
  induction m with
  | nil =>
    simp only [KMap.put, if_neg hv, KMap.get, if_neg hj.symm]
    split <;> rfl
  | cons e m ih =>
    obtain ⟨k', v'⟩ := e
    simp only [KMap.put, if_neg hv]
    split
    · next hsame =>
      subst hsame
      simp only [KMap.get, if_neg hj.symm]
    · split
      · next hlt =>
        simp only [KMap.get, if_neg hj.symm]
        split
        · next hjk => rw [if_neg (by omega), if_pos (by omega)]
        · rfl
      · simp only [KMap.get, ih]

/-- A word with an interrupt bit set is not the 0 that an interrupt register has at reset. -/
theorem get_int_other {s : State} {f g : Fld} {b i j t : Nat} (hreset : f.resetWord 0 0 = 0#32) (hb : f.lo + b < 32)
    (hkey : g.key i j t ≠ f.key 0 0 0) : (s.int f b).get g i j t = s.get g i j t := by
  have hset : BitVec.ofNat 32 (putBits (s.word f).toNat (f.lo + b) (f.lo + b) 1) ≠ f.resetWord 0 0 := fun hzero => by
    have hbit : bit (BitVec.ofNat 32 (putBits (s.word f).toNat (f.lo + b) (f.lo + b) 1)).toNat (f.lo + b) = true := by
      rw [BitVec.toNat_ofNat, bit_mod _ _ hb, bit_putBits_same]
      rfl
    rw [hzero, hreset, bit_eq_testBit] at hbit
    simp at hbit
  have hword : (s.int f b).word g i j t = s.word g i j t := by
    simp only [State.word, int_regs]
    exact get_put_other _ _ hset hkey
  simp only [State.get, hword]

/-! ## Sources that become ACTIVE -/

theorem isActive_raiseActive (s : State) (src unit : Nat) : (s.raiseActive src unit).isActive src = true := by
  simp [State.raiseActive, State.isActive]

theorem isActive_of_flt {s t : State} (hflt : t.flt = s.flt) (src : Nat) : t.isActive src = s.isActive src := by
  simp only [State.isActive, hflt]

/-- VL5_LOW leaves its source ACTIVE and its own reaction on. -/
theorem lowHotOn_reacts {src : Nat} (hsrc : src = 3 ∨ src = 4) (s : State) :
    (lowHotOn src s).isActive src = true ∧ (lowHotOn src s).ownMask = 255 := by
  rcases hsrc with rfl | rfl
  · have hflt : (lowHotOn 3 s).flt = { (s.event.raiseActive 3 0).flt with ownVl5 := true } := holdAnalog_flt _ _
    exact ⟨by simpa [State.isActive, hflt] using isActive_raiseActive s.event 3 0, by simp [State.ownMask, hflt]⟩
  · have hflt : (lowHotOn 4 s).flt = { (s.event.raiseActive 4 0).flt with ownHot := true } := holdAnalog_flt _ _
    exact ⟨by simpa [State.isActive, hflt] using isActive_raiseActive s.event 4 0, by simp [State.ownMask, hflt]⟩

/-! ## The FAULT_N wire -/

theorem get_FLT_CFG_fnChg (s : State) (g : Fld) (hg : g.key 0 0 0 = 0x120004) :
    (s.int Reg.FLT_INT_STATUS_FN_CHG).get g = s.get g :=
  get_int_other rfl (by decide) (hg ▸ by decide)

theorem fnDrive_fnChg (s : State) : (s.int Reg.FLT_INT_STATUS_FN_CHG).fnDrive = s.fnDrive := by
  simp only [State.fnDrive, get_FLT_CFG_fnChg s Reg.FLT_CFG_FN_CLASS rfl, State.int_flt, State.actives, State.srcClass]

/-- What the watch then does with source 5. -/
def State.fnFollowed (s : State) : State :=
  if s.is Reg.FLT_CFG_FN_WATCH && s.flt.wireLow && !s.fnDrive && !s.isActive 5 then s.raiseActive 5 0
  else if !(s.is Reg.FLT_CFG_FN_WATCH && s.flt.wireLow && !s.fnDrive) && s.isActive 5 then s.endActive 5 0 else s

/-- A wire that stands as it was seen raises or ends source 5 alone. -/
theorem fnWatch_seen {s : State} (hseen : s.fnLow = s.flt.fnSeen) : fnWatch s = s.fnFollowed := by
  simp only [fnWatch, hseen, ne_eq, not_true_eq_false, if_false, State.fnFollowed]

/-- A wire that does not is noted before. -/
theorem fnWatch_unseen {s : State} (hseen : s.fnLow ≠ s.flt.fnSeen) : fnWatch s =
    (({ s with flt := { s.flt with fnSeen := s.fnLow } } : State).int Reg.FLT_INT_STATUS_FN_CHG).fnFollowed := by
  simp only [fnWatch, ne_eq, hseen, not_false_eq_true, if_true, State.fnFollowed]

section
variable {s : State}

/-- The wire as another module pulls it low. -/
def State.wireAt (s : State) (low : Bool) : State := { s.event with flt := { s.event.flt with wireLow := low } }

theorem fnLow_wireAt (hquiet : s.fnDrive = false) (low : Bool) : (s.wireAt low).fnLow = low := by
  have hdrive : (s.wireAt low).fnDrive = false := hquiet
  rw [State.fnLow, hdrive, Bool.or_false]
  rfl

/-- The wire as noted, with its interrupt. -/
def State.wireNoted (s : State) (low : Bool) : State :=
  ({ s.event with flt := { s.event.flt with wireLow := low, fnSeen := low } } : State).int Reg.FLT_INT_STATUS_FN_CHG

theorem wireNoted_reads (low : Bool) : (s.wireNoted low).is Reg.FLT_CFG_FN_WATCH = s.is Reg.FLT_CFG_FN_WATCH ∧
    (s.wireNoted low).flt.wireLow = low ∧ (s.wireNoted low).fnDrive = s.fnDrive ∧ (s.wireNoted low).isActive 5 = s.isActive 5 := by
  refine ⟨?_, by simp [State.wireNoted], ?_, by simp [State.wireNoted, State.isActive, State.event]⟩
  · simp only [State.is, State.wireNoted, get_FLT_CFG_fnChg _ Reg.FLT_CFG_FN_WATCH rfl]
    rfl
  · rw [State.wireNoted, fnDrive_fnChg]
    rfl

/-- A change of the wire that was not seen is noted, and then followed. -/
theorem fnWatch_changed {low : Bool} (hquiet : s.fnDrive = false) (hseen : s.flt.fnSeen = !low) :
    fnWatch (s.wireAt low) = (s.wireNoted low).fnFollowed := by
  have hlow := fnLow_wireAt hquiet low
  have hchange : (s.wireAt low).fnLow ≠ (s.wireAt low).flt.fnSeen := by
    rw [hlow, show (s.wireAt low).flt.fnSeen = !low from hseen]
    cases low <;> decide
  rw [fnWatch_unseen hchange, hlow]
  rfl

/-- A wire that stands as it was seen is followed. -/
theorem fnWatch_same {low : Bool} (hquiet : s.fnDrive = false) (hseen : s.flt.fnSeen = low) :
    fnWatch (s.wireAt low) = (s.wireAt low).fnFollowed :=
  fnWatch_seen ((fnLow_wireAt hquiet low).trans hseen.symm)

end

/-- Settles O32: each event is its source's start or end, and the wire is noted where it changed before it is followed. -/
theorem logicSupplyEventsTakeEffect : Obligations.LogicSupplyEventsTakeEffect := by
  have hstart (src : Nat) (s : State) (hidle : s.isActive src = false) :
      (if s.isActive src then s else lowHotOn src s) = lowHotOn src s := by rw [hidle]; rfl
  refine ⟨fun s hidle => congrArg Host.Outcome.next (hstart 3 s hidle), fun s hidle => congrArg Host.Outcome.next (hstart 4 s hidle),
    fun s => rfl, fun s => rfl, fun s hseen hwatch hquiet hidle => congrArg Host.Outcome.next ?_,
    fun s hseen hquiet hactive => congrArg Host.Outcome.next ?_, fun s hactive => congrArg Host.Outcome.next (if_pos hactive),
    fun s hactive => congrArg Host.Outcome.next (if_pos hactive), fun s hseen hquiet hidle => congrArg Host.Outcome.next ?_,
    fun s hseen hquiet => congrArg Host.Outcome.next ?_,
    fun s hidle => ⟨_, congrArg Host.Outcome.next (hstart 3 s hidle), lowHotOn_reacts (.inl rfl) s⟩,
    fun s hidle => ⟨_, congrArg Host.Outcome.next (hstart 4 s hidle), lowHotOn_reacts (.inr rfl) s⟩⟩
  · refine (fnWatch_same hquiet hseen).trans (if_pos ?_)
    show (s.is Reg.FLT_CFG_FN_WATCH && true && !s.fnDrive && !s.isActive 5) = true
    rw [hwatch, hquiet, hidle]
    rfl
  · have hends : (s.wireAt false).fnFollowed = (s.wireAt false).endActive 5 0 := by
      have hlow : (s.wireAt false).flt.wireLow = false := rfl
      have hon : (s.wireAt false).isActive 5 = true := hactive
      simp [State.fnFollowed, hlow, hon]
    exact (fnWatch_same hquiet hseen).trans hends
  · refine (fnWatch_changed (low := true) hquiet hseen).trans ?_
    obtain ⟨hwatch, hlow, hdrive, hactive⟩ := wireNoted_reads (s := s) true
    rw [State.fnFollowed, hwatch, hlow, hdrive, hactive, hquiet, hidle]
    cases s.is Reg.FLT_CFG_FN_WATCH <;> rfl
  · refine (fnWatch_changed (low := false) hquiet hseen).trans ?_
    obtain ⟨hwatch, hlow, hdrive, hactive⟩ := wireNoted_reads (s := s) false
    rw [State.fnFollowed, hwatch, hlow, hdrive, hactive, Bool.and_false]
    cases s.isActive 5 <;> rfl

end Sys2Proof.Machine

/-! PROOFS. What a raise leaves alone; and the supplies and temperatures of the power stage (R15, R368, R532, R576, R578, R583,
R611). -/
namespace Sys2Proof.Machine
open Sys2Proof

/-! ## The units that a raise leaves alone -/

/-- The units that the fault collector does not reach: all but the collector itself, the log, the memories, the analog
outputs, the recorder, the auxiliary channels' records, the register file and the count of free values. -/
structure SameUnits (s t : State) : Prop where
  ks : t.ks = s.ks
  img : t.img = s.img
  eng : t.eng = s.eng
  ovr : t.ovr = s.ovr
  host : t.host = s.host
  dom : t.dom = s.dom
  rdp : t.rdp = s.rdp
  rct : t.rct = s.rct
  time : t.time = s.time
  port : t.port = s.port
  pwr : t.pwr = s.pwr
  bst : t.bst = s.bst
  aes : t.aes = s.aes
  sap : t.sap = s.sap
  aux : t.aux = s.aux
  clk : t.clk = s.clk
  emitted : t.emitted = s.emitted
  pending : t.pending = s.pending

section
variable {s t u : State}

theorem sameUnits_refl (s : State) : SameUnits s s := by constructor <;> rfl

theorem sameUnits_trans (hst : SameUnits s t) (htu : SameUnits t u) : SameUnits s u where
  ks := htu.ks.trans hst.ks
  img := htu.img.trans hst.img
  eng := htu.eng.trans hst.eng
  ovr := htu.ovr.trans hst.ovr
  host := htu.host.trans hst.host
  dom := htu.dom.trans hst.dom
  rdp := htu.rdp.trans hst.rdp
  rct := htu.rct.trans hst.rct
  time := htu.time.trans hst.time
  port := htu.port.trans hst.port
  pwr := htu.pwr.trans hst.pwr
  bst := htu.bst.trans hst.bst
  aes := htu.aes.trans hst.aes
  sap := htu.sap.trans hst.sap
  aux := htu.aux.trans hst.aux
  clk := htu.clk.trans hst.clk
  emitted := htu.emitted.trans hst.emitted
  pending := htu.pending.trans hst.pending

theorem sameUnits_ite {c : Prop} [Decidable c] (ht : SameUnits s t) (hu : SameUnits s u) : SameUnits s (if c then t else u) := by
  split <;> assumption

theorem sameUnits_foldl {α : Type} {f : State → α → State} (hf : ∀ u x, SameUnits u (f u x)) (l : List α) (s : State) :
    SameUnits s (l.foldl f s) := by
  induction l generalizing s with
  | nil => exact sameUnits_refl s
  | cons x l ih => exact sameUnits_trans (hf s x) (ih _)

theorem sameUnits_set (s : State) (f : Fld) (v i j n : Nat) : SameUnits s (s.set f v i j n) := by constructor <;> rfl

theorem sameUnits_inc (s : State) (f : Fld) (i j n : Nat) : SameUnits s (s.inc f i j n) := by constructor <;> rfl

theorem sameUnits_int (s : State) (f : Fld) (b : Nat) : SameUnits s (s.int f b) := by
  unfold State.int
  extract_lets raw w u rose
  have hu : SameUnits s u := by constructor <;> rfl
  clear_value u
  exact sameUnits_ite hu (sameUnits_trans hu (by constructor <;> rfl))

theorem sameUnits_log (s : State) (kind source : Nat) (data : List Byte) : SameUnits s (s.log kind source data) := by
  unfold State.log
  exact sameUnits_ite (by constructor <;> rfl) (sameUnits_refl s)

theorem sameUnits_histPush (s : State) (e : HistEntry) : SameUnits s (s.histPush e) := by
  have hlose (u : State) : SameUnits u ((u.inc Reg.FLT_HIST_STAT_LOST).int Reg.FLT_INT_STATUS_HIST_LOST) :=
    sameUnits_trans (sameUnits_inc _ _ _ _ _) (sameUnits_int _ _ _)
  unfold State.histPush
  extract_lets lose u l
  have hu : SameUnits s u := sameUnits_log _ _ _ _
  clear_value u l
  have hkept (l : List HistEntry) : SameUnits s { u with flt := { u.flt with hist := l } } :=
    sameUnits_trans hu (by constructor <;> rfl)
  exact sameUnits_ite (hlose s) (sameUnits_ite (sameUnits_trans (hkept _) (hlose _)) (hkept _))

theorem sameUnits_holdAnalog (s : State) (mask : Nat) : SameUnits s (s.holdAnalog mask) := by
  refine sameUnits_foldl (fun u n => sameUnits_ite ?_ (sameUnits_refl u)) _ s
  refine sameUnits_trans ?_ (sameUnits_int _ _ _)
  constructor <;> rfl

theorem sameUnits_recFreeze (s : State) : SameUnits s s.recFreeze :=
  sameUnits_ite (by constructor <;> rfl) (sameUnits_refl s)

theorem sameUnits_eccWrite (s : State) (k a n : Nat) : SameUnits s (s.eccWrite k a n) := by
  unfold State.eccWrite
  extract_lets ws u
  have hu : SameUnits s u := sameUnits_foldl (f := fun u w => u.eccDrop k w) (fun _ _ => by constructor <;> rfl) ws s
  clear_value u
  split
  · exact sameUnits_ite (sameUnits_trans hu (by constructor <;> rfl)) hu
  · exact hu

theorem sameUnits_freezeHist (s : State) : SameUnits s s.freezeHist := by
  unfold State.freezeHist
  exact sameUnits_trans (by constructor <;> rfl) (sameUnits_eccWrite _ _ _ _)

theorem sameUnits_raiseCounted (s : State) (src : Nat) : SameUnits s (s.raiseCounted src) :=
  sameUnits_ite (sameUnits_refl s) (by constructor <;> rfl)

theorem sameUnits_raiseEntered (s : State) (src unit : Nat) (e : HistEntry) : SameUnits s (s.raiseEntered src unit e) :=
  sameUnits_ite (sameUnits_refl s) (sameUnits_trans (by constructor <;> rfl) (sameUnits_histPush _ _))

theorem sameUnits_raiseNoted (s : State) (src unit : Nat) (e : HistEntry) : SameUnits s (s.raiseNoted src unit e) := by
  have hfree : SameUnits s { s with free := s.free + 1 } := by constructor <;> rfl
  exact sameUnits_trans hfree (sameUnits_trans (sameUnits_raiseCounted _ _)
    (sameUnits_trans (sameUnits_raiseEntered _ _ _ _) (sameUnits_int _ _ _)))

theorem sameUnits_raiseActs (s : State) (cls an : Nat) : SameUnits s (s.raiseActs cls an) := by
  unfold State.raiseActs
  extract_lets u v w
  have hu : SameUnits s u := sameUnits_holdAnalog s an
  have hv : SameUnits s v := sameUnits_ite (sameUnits_trans hu (sameUnits_recFreeze u)) hu
  clear_value u v
  have hw : SameUnits s w := sameUnits_trans hv (by constructor <;> rfl)
  clear_value w
  exact sameUnits_ite (sameUnits_trans hw (sameUnits_freezeHist w)) hw

theorem sameUnits_raise (s : State) (src unit d : Nat) (cyc : Option Nat) (hv inj : Bool) :
    SameUnits s (s.raise src unit d cyc hv inj) := by
  cases hrow : sourceRow src with
  | none => rw [raise_of_no_row hrow]; exact sameUnits_refl s
  | some row =>
    obtain ⟨entry, ch, an, hraise⟩ := raise_of_row (s := s) (cyc := cyc) (hv := hv) (inj := inj) hrow unit d
    rw [hraise]
    have hnoted := sameUnits_raiseNoted s src unit entry
    exact sameUnits_ite hnoted (sameUnits_trans hnoted (sameUnits_trans (by constructor <;> rfl) (sameUnits_raiseActs _ _ _)))

theorem sameUnits_event (s : State) : SameUnits s s.event := by constructor <;> rfl

theorem sameUnits_raiseActive (s : State) (src unit d : Nat) (cyc : Option Nat) (hv : Bool) :
    SameUnits s (s.raiseActive src unit d cyc hv) :=
  sameUnits_trans (sameUnits_raise s src unit d cyc hv false) (by constructor <;> rfl)

end

/-! ## The power-control die without its supply -/

theorem get_dropKeys {α : Type} {p : Nat → Bool} (d : Nat → α) (m : KMap α) {k : Nat} (hk : p k = true) :
    KMap.get d (KMap.dropKeys p m) k = d k := by
  induction m with
  | nil => rfl
  | cons e m ih =>
    obtain ⟨k', v'⟩ := e
    by_cases hdrop : p k' = true
    · simpa [KMap.dropKeys, List.filter_cons, hdrop] using ih
    · have hne : k' ≠ k := fun h => hdrop (h ▸ hk)
      have hkept : KMap.dropKeys p ((k', v') :: m) = (k', v') :: KMap.dropKeys p m := by simp [KMap.dropKeys, hdrop]
      rw [hkept, KMap.get, if_neg hne, ih]
      split <;> rfl

/-- Where no channel's state is beyond OFF, nothing is shown as safe. -/
theorem showSafe_allOff {s : State} (hregs : rising s.regs = true) (hoff : ∀ n, n < 8 → s.ch n = 0) :
    s.showSafe.pwr = s.pwr ∧ s.showSafe.get Reg.PWR_STATUS_SAFE = 0 ∧ ∀ n, n < 8 → s.showSafe.ch n = 0 := by
  have hnone : (List.range 8).filter (fun n => s.ch n ≠ 0) = [] := by
    simp only [List.filter_eq_nil_iff, List.mem_range]
    exact fun n hn => by simp [hoff n hn]
  have hlive : maskOf ((List.range 8).filter (fun n => s.ch n ≠ 0)) 8 = 0 := by rw [hnone]; rfl
  have hshow : s.showSafe = (s.set Reg.PWR_STATUS_SAFE 0).setB Reg.PWR_STATUS_SAFE_IND false := by
    unfold State.showSafe
    rw [hlive]
    simp only [Nat.and_zero, ne_eq, not_true_eq_false, decide_false]
  have hsafe : rising (s.set Reg.PWR_STATUS_SAFE 0).regs = true := rising_set _ _ _ _ _ _ hregs
  rw [hshow]
  refine ⟨rfl, ?_, fun n hn => ?_⟩
  · rw [State.setB, get_set_beside (f := Reg.PWR_STATUS_SAFE_IND) (g := Reg.PWR_STATUS_SAFE) _ 0 0 0 hsafe (by decide) (by decide)
      ⟨rfl, rfl, rfl, rfl, rfl⟩ (by decide), get_set_same _ _ _ _ hregs (by decide) (by decide)]
    rfl
  · have hkey (f : Fld) (hf : f.key 0 0 0 = 0xF0000) : Reg.PWR_CHn_STATE_STATE.key n 0 0 ≠ f.key 0 0 0 := by
      rw [hf]
      simp [Fld.key, Reg.PWR_CHn_STATE_STATE]
      omega
    rw [State.setB, State.ch, get_set_ne _ _ _ _ _ _ _ hsafe (hkey _ rfl), get_set_ne _ _ _ _ _ _ _ hregs (hkey _ rfl)]
    exact hoff n hn

/-- A register of the die's block falls to its reset value where the block is dropped. -/
theorem get_dropBlock {s : State} {f : Fld} {i j t : Nat} {m : KMap Word} (hregs : s.regs =
    KMap.dropKeys (fun k => decide (0xF0000 ≤ k) && decide (k < 0x100000)) m) (hlo : 0xF0000 ≤ f.key i j t)
    (hhi : f.key i j t < 0x100000) : s.get f i j t = bitsOf (f.resetWord i t).toNat f.hi f.lo := by
  rw [State.get, State.word, hregs, get_dropKeys _ _ (by simp [hlo, hhi])]

theorem key_chState (n : Nat) : Reg.PWR_CHn_STATE_STATE.key n 0 0 = 0xF0114 + 0x40 * n := by
  simp [Fld.key, Reg.PWR_CHn_STATE_STATE]

theorem chan_reset {n : Nat} (hn : n < 8) : nth PwrState.reset.chans n PwrCh.reset = PwrCh.reset := by
  have hall : ∀ k < 8, nth PwrState.reset.chans k PwrCh.reset = PwrCh.reset := by
    rw [show PwrState.reset.chans = List.replicate 8 PwrCh.reset from rfl]
    intro k hk
    simp [nth, List.getD_eq_getElem?_getD, hk, -List.reduceReplicate]
  exact hall n hn

/-- The state of the die without its supply: its registers, its channels and its conditions are as at reset. -/
theorem vdrvRemoved_off {s : State} (hcanon : s.canon = true) : (vdrvRemoved s).pwr.on = false ∧ (vdrvRemoved s).pwr.held = [] ∧
    (vdrvRemoved s).pwr.dnSeen = false ∧ (∀ n, n < 8 → (vdrvRemoved s).ch n = 0 ∧ (vdrvRemoved s).pc n = PwrCh.reset) ∧
    (vdrvRemoved s).get Reg.PWR_STATUS_SAFE = 0 := by
  unfold vdrvRemoved
  extract_lets u p keep
  have hu : rising u.regs = true := rising_of_canon ((keeps_clearHeld (keeps_allOff (keeps_refl s))).2 hcanon)
  clear_value u
  have hregs : keep.regs = KMap.dropKeys (fun k => decide (0xF0000 ≤ k) && decide (k < 0x100000)) u.regs := rfl
  have hon : keep.pwr.on = false := rfl
  have hheld : keep.pwr.held = [] := rfl
  have hdn : keep.pwr.dnSeen = false := rfl
  have hchans : keep.pwr.chans = PwrState.reset.chans := rfl
  clear_value keep
  have hrising : rising keep.regs = true := by rw [hregs]; exact rising_filter _ _ hu
  have hoff : ∀ n, n < 8 → keep.ch n = 0 := fun n hn => by
    have hkey := key_chState n
    have hzero : Reg.PWR_CHn_STATE_STATE.resetWord n 0 = 0#32 := by simp [Fld.resetWord, Reg.PWR_CHn_STATE_STATE]
    rw [State.ch, get_dropBlock hregs (by omega) (by omega), hzero]
    rfl
  obtain ⟨hpwr, hsafe, hch⟩ := showSafe_allOff hrising hoff
  rw [hpwr]
  refine ⟨hon, hheld, hdn, fun n hn => ⟨hch n hn, ?_⟩, hsafe⟩
  rw [State.pc, hpwr, hchans, chan_reset hn]

/-! ## The conditions of the die -/

theorem hvCapstone_new {s : State} {src : Nat} (cause : Nat) (hon : s.pwr.on = true) (hnew : s.pwr.held.contains src = false) :
    hvCapstone src cause s =
      (({ s with pwr := { s.pwr with held := s.pwr.held ++ [src] } } : State).hvFault src 0 0).hvSafe 255 cause :=
  if_neg (by rw [hon, hnew]; decide)

/-- The die holds a CAPSTONE condition until VBUS or its own supply is removed (R15). -/
def State.hold (s : State) (src : Nat) : State := { s with pwr := { s.pwr with held := s.pwr.held ++ [src] } }

theorem isoBarrier_new {s : State} (hon : s.pwr.on = true) (hnew : s.pwr.held.contains 0 = false) : isoBarrier s =
    if Config.isoSide s.free then ((s.fresh.2.hold 0).hvFault 0 0 0).hvSafe 255 1
    else ((s.fresh.2.event.raise 0 0).hold 0).hvSafe 255 1 := by
  have hpwr : (s.fresh.2.event.raise 0 0).pwr = s.pwr := (sameUnits_raise s.fresh.2.event 0 0 0 none false false).pwr
  have hlow : (if !(s.fresh.2.event.raise 0 0).pwr.on || (s.fresh.2.event.raise 0 0).pwr.held.contains 0 then
      s.fresh.2.event.raise 0 0 else ((s.fresh.2.event.raise 0 0).hold 0).hvSafe 255 1) =
        ((s.fresh.2.event.raise 0 0).hold 0).hvSafe 255 1 :=
    if_neg (by rw [hpwr, hon, hnew]; decide)
  exact ite_congr rfl (fun _ => hvCapstone_new 1 hon hnew) (fun _ => hlow)

/-- Settles O33: each row is its event's function; a condition that is new passes its guard, and without its supply the die's
registers fall to their reset values. -/
theorem powerSupplyEventsTakeEffect : Obligations.PowerSupplyEventsTakeEffect := by
  unfold Obligations.PowerSupplyEventsTakeEffect
  refine ⟨fun s hoff => ?_, fun s hcanon => ?_, fun s => rfl, fun s hon => ?_, fun s hon hnew => ?_, fun s hon hnew => ?_,
    fun s hlow => ?_, fun s k hon hnew => ?_, fun s k hhot => ?_, fun s hon hnew => ?_⟩
  · exact congrArg Host.Outcome.next (if_neg (by simp [hoff]))
  · obtain ⟨hon, hheld, hdn, hch, hsafe⟩ := vdrvRemoved_off hcanon
    exact ⟨vdrvRemoved s, rfl, hon, hheld, hdn, hch, hsafe, (keeps_vdrvRemoved (keeps_refl s)).1⟩
  · exact congrArg (fun u : State => Host.Outcome.next (u.forN 4 (fun u k => u.showBst k))) (if_pos hon)
  · exact congrArg Host.Outcome.next (hvCapstone_new 10 hon hnew)
  · exact congrArg Host.Outcome.next (if_neg (by simp [hon, hnew]))
  · exact congrArg Host.Outcome.next (if_neg (by simp [hlow]))
  · exact congrArg Host.Outcome.next (if_neg (by rw [hon, hnew]; decide))
  · exact congrArg Host.Outcome.next (if_neg (by rw [hhot]; decide))
  · exact congrArg Host.Outcome.next (isoBarrier_new hon hnew)

end Sys2Proof.Machine

/-! PROOFS. The barrier link (R13 to R19, R353, R535, R562). -/
namespace Sys2Proof.Machine
open Sys2Proof

/-! ## What the sense data leaves of the die -/

theorem foldl_kept {α β : Type} {g : State → β} {f : State → α → State} (hf : ∀ u x, g (f u x) = g u) (l : List α) (s : State) :
    g (l.foldl f s) = g s := by
  induction l generalizing s with
  | nil => rfl
  | cons x l ih => exact (ih _).trans (hf s x)

theorem forN_kept {β : Type} {g : State → β} {f : State → Nat → State} (hf : ∀ u k, g (f u k) = g u) (n : Nat) (s : State) :
    g (s.forN n f) = g s := foldl_kept hf _ s

theorem ite_kept {β : Type} {g : State → β} {c : Prop} [Decidable c] {s t u : State} (ht : g t = g s) (hu : g u = g s) :
    g (if c then t else u) = g s := by
  split <;> assumption

theorem showBst_pwr (s : State) (k : Nat) : (s.showBst k).pwr = s.pwr := by
  simp only [State.showBst, State.set_pwr, State.setB_pwr]

theorem showSense_pwr (s : State) : (showSense s).pwr = s.pwr := by
  unfold showSense
  extract_lets x
  refine forN_kept (g := State.pwr) (fun u k => ?_) 4 s
  simp only [showBst_pwr, State.set_pwr]

theorem bstSense_pwr (s : State) : (bstSense s).pwr = s.pwr := by
  unfold bstSense
  extract_lets x keep
  dsimp only

/-- The die's state with one of its fields moved. -/
def State.modPwr (s : State) (f : PwrState → PwrState) : State := { s with pwr := f s.pwr }

/-- The sense data, with what the registers show of them. -/
def State.sensed (s : State) (x : Sense) : State := bstSense (showSense (s.modPwr fun p => { p with sense := x }))

theorem sensed_pwr (s : State) (x : Sense) : (s.sensed x).pwr = { s.pwr with sense := x } := by
  unfold State.sensed
  rw [bstSense_pwr, showSense_pwr]
  rfl

theorem modDiag_same (s : State) : s.modDiag (fun _ => s.bst.diag) = s := rfl

/-- The sense data add at most a sample to a diagnostic run. -/
theorem upSense_diag (x : Sense) (s : State) : ∃ d, upSense (some x) s = (s.sensed x).modDiag fun _ => d := by
  unfold upSense
  extract_lets _ v w
  have hw : w = s.sensed x := rfl
  rw [← hw]
  clear_value w
  have hsame : ∃ d, w = w.modDiag fun _ => d := ⟨_, (modDiag_same w).symm⟩
  have hmod : ∀ e, ∃ d, w.modDiag (fun _ => e) = w.modDiag fun _ => d := fun e => ⟨e, rfl⟩
  cases w.bst.diag.step with
  | dwell k =>
    cases w.bst.diag.chans.head? with
    | none => exact hsame
    | some n => exact hmod _
  | _ => exact hsame

theorem upSense_pwr (x : Sense) (s : State) : (upSense (some x) s).pwr = { s.pwr with sense := x } := by
  obtain ⟨d, hd⟩ := upSense_diag x s
  rw [hd, State.modDiag_pwr, sensed_pwr]

/-! ## The frames of the link -/

theorem injFrame_none {s : State} (hinj : s.flt.inj = none) (tgt unit : Nat) : s.injFrame tgt unit = (s, false) := by
  unfold State.injFrame
  rw [hinj]

section
variable {s : State}

theorem dnFrame_plain {crcOk : Bool} (hdone : s.pwr.dnDone = false) (hpark : s.dom.parked = false) (hinj : s.flt.inj = none)
    (hon : s.pwr.on = true) : dnFrame crcOk s =
      if crcOk then dnAccept (s.modPwr fun p => { p with dnDone := true }).event
      else if s.pwr.dnSeen then dnBad false (s.modPwr fun p => { p with dnDone := true }).event
      else s.modPwr fun p => { p with dnDone := true } := by
  have hu : (s.modPwr fun p => { p with dnDone := true }).injFrame 4 0 = (s.modPwr fun p => { p with dnDone := true }, false) :=
    injFrame_none (s := s.modPwr _) hinj 4 0
  unfold dnFrame
  rw [if_neg (by rw [hdone, hpark]; decide)]
  change (let (s, spoiled) := (s.modPwr fun p => { p with dnDone := true }).injFrame 4 0
    if !s.pwr.on then s else if crcOk && !spoiled then dnAccept s.event
    else if s.pwr.dnSeen then dnBad spoiled s.event else s) = _
  rw [hu]
  dsimp only
  rw [if_neg (by simp [State.modPwr, hon]), Bool.not_false, Bool.and_true]
  rfl

theorem upFrame_plain {x : Sense} (hon : s.pwr.on = true) (hpark : s.dom.parked = false) (hdone : s.pwr.upDone = false)
    (hinj : (limitSense x.iin (s.modPwr fun p => { p with upDone := true }).event).flt.inj = none) : upFrame deliver true x s =
      upAccept deliver x (limitSense x.iin (s.modPwr fun p => { p with upDone := true }).event) := by
  unfold upFrame
  rw [if_neg (by rw [hon, hpark, hdone]; decide)]
  extract_lets _ u
  have hu : u = limitSense x.iin (s.modPwr fun p => { p with upDone := true }).event := rfl
  rw [← hu] at hinj ⊢
  clear_value u
  rw [injFrame_none hinj 5 0]
  rfl

/-- A good frame as the logic side notes it. -/
def State.upNoted (s : State) : State := s.modPwr fun p => { p with
  upSeen := true, fresh := p.fresh && !p.dnSeen, upGood := p.upGood + 1, upBad := 0 }

theorem modPwr_reported {s : State} (hfaults : s.pwr.faults = []) (hresults : s.pwr.results = []) :
    (s.modPwr fun p => { p with faults := [], results := [] }) = s := by
  have hpwr : { s.pwr with faults := [], results := [] } = s.pwr := by rw [← hfaults, ← hresults]
  rw [State.modPwr, hpwr]

/-- A good frame with nothing reported in it: the sense data are taken, and no report is delivered. -/
theorem upAccept_plain {x : Sense} (hown : s.flt.ownUp = false) (hfaults : s.pwr.faults = []) (hresults : s.pwr.results = []) :
    upAccept deliver x s = upSense (some x) (s.upNoted.setWord Reg.IDENT_HVID 0x100B0#32) := by
  unfold upAccept
  rw [hown]
  extract_lets lost good _ u _ _ v w fs rs _ z y
  have hv : v = s.upNoted := if_neg Bool.false_ne_true
  have hw : w = upSense (some x) (s.upNoted.setWord Reg.IDENT_HVID 0x100B0#32) := by rw [← hv]
  have hpwr : w.pwr = { s.upNoted.pwr with sense := x } := by rw [hw, upSense_pwr, State.setWord_pwr]
  have hfs : fs = [] := (congrArg PwrState.faults hpwr).trans hfaults
  have hrs : rs = [] := (congrArg PwrState.results hpwr).trans hresults
  have hz : z = w := modPwr_reported hfs hrs
  have hy : y = w := by
    simp only [y]
    rw [hfs]
    exact hz
  rw [hrs, hy, hw]
  rfl

/-- The frames count as lost: none since the last reset of the link. -/
theorem upLinkLost_now (hseen : s.pwr.upSeen = true) (hfresh : s.pwr.fresh = false) (hpark : s.dom.parked = false)
    (hown : s.flt.ownUp = false) : upLinkLost s = (fun u : State => { u with
      flt := { u.flt with ownUp := true }, pwr := { u.pwr with upBad := max 4 s.pwr.upBad, upGood := 0 } })
        (s.event.raiseActive 0x23 0) := by
  have hpwr : (s.event.raiseActive 0x23 0).pwr = s.pwr := (sameUnits_raiseActive s.event 0x23 0 0 none false).pwr
  unfold upLinkLost
  rw [if_neg (by rw [hseen, hpark, hown]; decide)]
  generalize s.event.raiseActive 0x23 0 = u at hpwr ⊢
  dsimp only
  rw [hpwr, ← hfresh]

theorem dnLinkLost_now (hon : s.pwr.on = true) (hseen : s.pwr.dnSeen = true) (hpark : s.dom.parked = false)
    (hreq : s.pwr.safeReq = false) (hlost : s.pwr.dnLost = false) : dnLinkLost s =
      recLost (((s.modPwr fun p => { p with dnLost := true, dnOk := false, fresh := false }).hvFault 0x21 0 1).hvSafe 255 7) := by
  unfold dnLinkLost
  rw [if_neg (by rw [hon, hseen, hpark, hlost]; decide), hreq]
  exact congrArg recLost (if_neg (by decide))

theorem logicCollapse_now (hon : s.pwr.on = true) (hseen : s.pwr.dnSeen = true) (hpark : s.dom.parked = false)
    (hreq : s.pwr.safeReq = true) (hok : s.pwr.dnOk = false) :
    logicCollapse s = hvCapstone 2 8 (s.modPwr fun p => { p with dnLost := true }) :=
  if_pos (by rw [hon, hseen, hpark, hreq, hok]; decide)

theorem safeReqAssert_now (hon : s.pwr.on = true) : safeReqAssert s =
    ((s.modPwr fun p => { p with safeReq := true }).setB Reg.PWR_STATUS_SAFE_REQ true).hvSafe
      (if s.pwr.dnOk then s.pwr.dnMask else 255) 1 := by
  unfold safeReqAssert
  rw [if_neg (by rw [hon]; decide)]
  rfl

end

/-- Settles O34: each frame and each time passes its guards; an UP_FRAME that reports nothing leaves what it senses. -/
theorem barrierLinkEventsTakeEffect : Obligations.BarrierLinkEventsTakeEffect := by
  unfold Obligations.BarrierLinkEventsTakeEffect
  refine ⟨fun s hdone hpark hinj hon => ?_, fun s hdone hpark hinj hon hseen => ?_, fun s hon hseen hpark hreq hlost => ?_,
    fun s hon hseen hpark hreq hok hnew => ?_, fun s x v hon hpark hdone hv hinj hfaults hresults hown => ?_,
    fun s hseen hfresh hpark hown => ?_, fun s hon => ?_, fun s n hlow => ?_, fun s n hlow => ?_, fun s hpark hl0 => ?_⟩
  · exact congrArg Host.Outcome.next ((dnFrame_plain hdone hpark hinj hon).trans (if_pos rfl))
  · exact congrArg Host.Outcome.next ((dnFrame_plain hdone hpark hinj hon).trans ((if_neg (by decide)).trans (if_pos hseen)))
  · exact congrArg Host.Outcome.next (dnLinkLost_now hon hseen hpark hreq hlost)
  · exact congrArg Host.Outcome.next ((logicCollapse_now hon hseen hpark hreq hok).trans
      (hvCapstone_new (s := s.modPwr _) 8 hon hnew))
  · subst hv
    exact congrArg (fun u => Host.Outcome.next (resume u)) ((upFrame_plain hon hpark hdone hinj).trans (upAccept_plain hown hfaults hresults))
  · exact congrArg Host.Outcome.next (upLinkLost_now hseen hfresh hpark hown)
  · exact congrArg Host.Outcome.next (safeReqAssert_now hon)
  · exact congrArg Host.Outcome.next (if_pos hlow)
  · exact congrArg Host.Outcome.next (if_pos hlow)
  · exact congrArg (fun u => Host.Outcome.next (resume u)) (if_pos (by rw [hpark, hl0]; decide))

end Sys2Proof.Machine

/-! PROOFS. Releases, mutes and faults of power channels (R338, R346, R349, R352, R363, R364, R368). -/
namespace Sys2Proof.Machine
open Sys2Proof

section
variable {s : State} {n : Nat}

/-! ## The due times -/

theorem releaseDue_ready (hact : (s.pc n).act = 1) (hdue : (s.pc n).target ≤ s.ks.count) (hch : s.ch n = 2) :
    releaseDue n s = if s.is Reg.PWR_CHn_STATE_READY n then s.modPc n (fun c => { c with act := 0, edge := some s.ks.count })
      else if (s.pc n).timed then (s.modPc n (fun c => { c with act := 0 })).setAction n 5 else s :=
  if_pos (by simp [hact, hdue, hch])

theorem releaseEdge_due {t : Nat} (hedge : (s.pc n).edge = some t) (hdue : t + 2 ≤ s.ks.count) (hch : s.ch n = 2) :
    releaseEdge n s =
      (((s.modPc n (fun c => { c with edge := none })).setB Reg.PWR_CHn_STATE_READY false n).setAction n 3).setCh n 3 := by
  unfold releaseEdge
  rw [hedge]
  exact if_pos (by simp [hdue, hch])

theorem muteDue_due (hact : (s.pc n).act = 2) (hdue : (s.pc n).target ≤ s.ks.count) (hch : s.ch n = 3) :
    muteDue n s = s.startMute n s.ks.count := if_pos (by simp [hact, hdue, hch])

theorem muteEnd_due (hch : s.ch n = 4) (hdue : (s.pc n).muteT + (s.pc n).muteM + 2 ≤ s.ks.count) : muteEnd n s =
    ((s.modPc n (fun c => { c with ls := 0, le1 := 0, le2 := 0, lq1 := 0, lq2 := 0, m := 0 })).setAction n 3).setCh n 1 :=
  if_pos (by simp [hch, hdue])

/-! ## A lost phase -/

theorem modNth_congr {α : Type} {f g : α → α} (l : List α) (n : Nat) (d : α) (hfg : f (nth l n d) = g (nth l n d)) :
    modNth l n f = modNth l n g := by
  unfold modNth
  cases hget : l[n]? with
  | none => rfl
  | some a =>
    have ha : nth l n d = a := by rw [nth, List.getD_eq_getElem?_getD, hget]; rfl
    rw [ha] at hfg
    exact congrArg (l.set n) hfg

theorem modPc_congr {f g : PwrCh → PwrCh} (hfg : f (s.pc n) = g (s.pc n)) : s.modPc n f = s.modPc n g := by
  unfold State.modPc
  rw [modNth_congr s.pwr.chans n PwrCh.reset hfg]

/-- A channel that is not in the list keeps its reset data. -/
theorem pc_modPc_cases (f : PwrCh → PwrCh) : (s.modPc n f).pc n = f (s.pc n) ∨ (s.modPc n f).pc n = s.pc n := by
  by_cases hn : n < s.pwr.chans.length
  · exact Or.inl (pc_modPc f hn)
  · have hnone : s.pwr.chans[n]? = none := List.getElem?_eq_none (Nat.le_of_not_lt hn)
    refine Or.inr ?_
    simp only [State.pc, State.modPc, modNth, hnone]

theorem showPhases_pwr (s : State) (n : Nat) : (s.showPhases n).pwr = s.pwr := by
  simp only [State.showPhases, State.set_pwr, State.setB_pwr]

theorem hvFault_pc (s : State) (src unit what k : Nat) : (s.hvFault src unit what).pc k = s.pc k := by
  unfold State.hvFault
  split <;> rfl

theorem legsOk_of_out {c : PwrCh} (ph : Fin 4) (hout : c.out = 2 ^ (3 - ph.val) ∨ c.out = 0) : c.legsOk = true := by
  have hall : ∀ ph : Fin 4, (bitsOf (2 ^ (3 - ph.val)) 3 2 ≠ 3 && bitsOf (2 ^ (3 - ph.val)) 1 0 ≠ 3) = true := by decide
  rcases hout with hout | hout
  · rw [PwrCh.legsOk, hout]; exact hall ph
  · rw [PwrCh.legsOk, hout]; rfl

/-- One phase out leaves both legs with a phase. -/
theorem phaseLoss_new {ph : Fin 4} (hon : s.pwr.on = true) (hch : s.ch n ≠ 0) (hout : (s.pc n).out = 0) :
    phaseLoss n ph.val s = ((((s.modPc n (fun c => { c with out := 2 ^ (3 - ph.val) })).showPhases n).int
      Reg.PWR_INT_STATUS_PHASE).hvFault 0x24 n 0) := by
  have hmod : s.modPc n (fun c => { c with out := c.out ||| 2 ^ (3 - ph.val) }) =
      s.modPc n (fun c => { c with out := 2 ^ (3 - ph.val) }) := modPc_congr (by rw [hout, Nat.zero_or])
  unfold phaseLoss
  extract_lets b u v
  have hv : v = ((((s.modPc n (fun c => { c with out := 2 ^ (3 - ph.val) })).showPhases n).int
      Reg.PWR_INT_STATUS_PHASE).hvFault 0x24 n 0) := by rw [← hmod]
  rw [if_neg (by simp [hon, hch, hout]), hv]
  refine if_pos (legsOk_of_out ph ?_)
  have hpwr (u : State) : ((((u.showPhases n).int Reg.PWR_INT_STATUS_PHASE).hvFault 0x24 n 0)).pc n = u.pc n := by
    rw [hvFault_pc, State.pc, State.int_pwr, showPhases_pwr]
    rfl
  rw [hpwr]
  rcases pc_modPc_cases (s := s) (n := n) (fun c => { c with out := 2 ^ (3 - ph.val) }) with h | h
  · exact Or.inl (by rw [h])
  · exact Or.inr (by rw [h, hout])

/-! ## The modulator -/

variable {vA vB i : Int} {x : DriveSense}

theorem modSample_idle (hch : s.ch n < 2) : modSample n vA vB i x s = s := if_pos (Or.inl hch)

theorem vrail_ne_zero (hrail : x.rail ≠ 0) : (x.rail : Rat) / 1000 ≠ 0 := fun hzero => by
  have hcast : (x.rail : Rat) = 0 := by grind
  exact hrail (Rat.intCast_eq_zero_iff.mp hcast)

/-- Past the last tick of a mute the modulator is 0. -/
theorem modSample_halted (hch : s.ch n = 4) (hend : (s.pc n).muteT + (s.pc n).muteM + 1 ≤ s.ks.count) (hrail : x.rail ≠ 0)
    (hcoef : s.coefsFinite n = true) (hsub : (s.pc n).sub < tickSamples s.rate) :
    modSample n vA vB i x s = s.modPc n (fun c => { c with m := 0, sub := c.sub + 1 }) := by
  have hvr := vrail_ne_zero hrail
  unfold modSample
  rw [hch]
  extract_lets st c rail k halt r v ia vr e s1 q u limit m0 step m1 lim clip s2 w z
  rw [if_neg (by omega)]
  have hw : w = s := if_neg (by decide : ¬4 = 2)
  have hz : z = s := (if_neg (by rw [hw, hcoef, decide_eq_false (show vr ≠ 0 from hvr)]; decide)).trans hw
  rw [hz]
  exact if_pos (by simp [halt, st, c, hend])

/-- A LIVE channel below its current limit and in range: one step of the loops. -/
theorem modSample_live {c : PwrCh} {r e q s1 u : Rat} (hch : s.ch n = 3) (hrail : 0 < x.rail)
    (hsub : (s.pc n).sub < tickSamples s.rate) (hcoef : s.coefsFinite n = true) (hc : c = s.pc n)
    (hr : r = ((s.get Reg.PWR_CHn_CFG_VFS n : Nat) : Rat) / 2 * interpolate s.rate c.hist c.sub)
    (he : e = r - ((vA - vB : Int) : Rat) / 1000) (hs1 : s1 = clampRat ((x.rail : Rat) / 1000) (c.ls + s.coef n 0 * e))
    (hq : q = s.coef n 1 * e + s.coef n 2 * c.le1 + s.coef n 3 * c.le2 - s.coef n 4 * c.lq1 - s.coef n 5 * c.lq2)
    (hu : u = r + s1 + q - s.coef n 6 * ((i : Rat) / 1000)) (hlimit : ratAbs (i : Rat) < s.ilim n)
    (hclip : ratAbs (u / ((x.rail : Rat) / 1000)) ≤ 97 / 100) :
    modSample n vA vB i x s = s.modPc n (fun c => { c with
      ls := s1, le1 := e, le2 := c.le1, lq1 := q, lq2 := c.lq1, m := clampRat (97 / 100) (u / ((x.rail : Rat) / 1000)),
      sub := c.sub + 1 }) := by
  have hvr := vrail_ne_zero (Int.ne_of_gt hrail)
  unfold modSample
  rw [hch]
  extract_lets st c' rail k halt r' v ia vr e' s1' q' u' limit m0 step m1 lim clip s2 w z y y'
  have hr' : r' = r := (if_neg (by decide)).trans (by rw [hr, hc])
  have he' : e' = e := by rw [he, ← hr']
  have hs1' : s1' = s1 := by rw [hs1, ← he', hc]
  have hq' : q' = q := by rw [hq, ← he', hc]
  have hu' : u' = u := by rw [hu, ← hr', ← hs1', ← hq']
  have hm0 : m0 = u / ((x.rail : Rat) / 1000) := (if_neg hvr).trans (by rw [hu'])
  have hnolimit : limit = false := by simp only [limit, decide_eq_false (Rat.not_le.mpr hlimit), Bool.false_and]
  have hm1 : m1 = m0 := if_neg (by rw [hnolimit]; decide)
  have hnoclip : clip = false := by
    simp only [clip, hm1, hm0, lim, decide_eq_false (Rat.not_lt.mpr hclip), Bool.and_false]
  have hs2 : s2 = s1 := (if_neg (by rw [hnolimit, hnoclip]; decide)).trans hs1'
  have hw : w = s := if_neg (by decide : ¬3 = 2)
  have hz : z = s := (if_neg (by rw [hw, hcoef, decide_eq_false (show vr ≠ 0 from hvr)]; decide)).trans hw
  have hy : y = s.modPc n (fun c => { c with
      ls := s1, le1 := e, le2 := c.le1, lq1 := q, lq2 := c.lq1, m := clampRat (97 / 100) (u / ((x.rail : Rat) / 1000)),
      sub := c.sub + 1 }) := by
    simp only [y, hz, hs2, he', hq', hm1, hm0, hnoclip, hnolimit, st, lim, Bool.or_false]
    exact modPc_congr (by simp)
  have hy' : y' = y := if_neg (by rw [hnoclip]; exact Bool.false_ne_true)
  rw [if_neg (by rw [not_or]; exact ⟨by decide, Nat.not_le.mpr hsub⟩), if_neg (by simp [halt, st]), hy',
    if_neg (by rw [hnolimit]; exact Bool.false_ne_true), hy]

end

/-- Settles O35: each due time and each fault passes its guard; a sample of a LIVE channel takes no limit and no clip. -/
theorem channelEventsTakeEffect : Obligations.ChannelEventsTakeEffect := by
  unfold Obligations.ChannelEventsTakeEffect
  refine ⟨fun s n hact hdue hch hready => ?_, fun s n hact hdue hch hready htimed => ?_, fun s n t hedge hdue hch => ?_,
    fun s n hact hdue hch => ?_, fun s n hch hdue => ?_, fun s n hon hch => ?_, fun s n ph hon hch hout => ?_,
    fun s n vA vB i x hch => ?_, fun s n vA vB i x hch hend hrail hcoef hsub => ?_, ?_, fun s n ph hon hch hout => ?_⟩
  · exact congrArg Host.Outcome.next ((releaseDue_ready hact hdue hch).trans (if_pos hready))
  · exact congrArg Host.Outcome.next
      ((releaseDue_ready hact hdue hch).trans ((if_neg (by simp [hready])).trans (if_pos htimed)))
  · exact congrArg Host.Outcome.next (releaseEdge_due hedge hdue hch)
  · exact congrArg Host.Outcome.next (muteDue_due hact hdue hch)
  · exact congrArg Host.Outcome.next (muteEnd_due hch hdue)
  · exact congrArg Host.Outcome.next (if_neg (by simp [hon]; omega))
  · exact congrArg Host.Outcome.next (phaseLoss_new hon hch hout)
  · exact congrArg Host.Outcome.next (modSample_idle hch)
  · exact congrArg Host.Outcome.next (modSample_halted hch hend hrail hcoef hsub)
  · intro s n vA vB i x c r e q s1 u hch hrail hsub hcoef hc hr he hs1 hq hu hlimit hclip
    exact congrArg Host.Outcome.next (modSample_live hch hrail hsub hcoef hc hr he hs1 hq hu hlimit hclip)
  · exact congrArg Host.Outcome.next (if_pos (by simp [hout]))

end Sys2Proof.Machine

/-! PROOFS. CLK_RETURN on a register file with two words of one register (R362). -/
namespace Sys2Proof.Machine
open Sys2Proof

/-- The die is on, and the register file, which is not in rising order, holds PWR_SW_STATUS twice: with SOURCE 1 and LOC_VALID,
then with SOURCE 0. -/
def swTwice : State := { State.reset with
  pwr := { PwrState.reset with on := true }, regs := [(0xF0014, 0x14000000#32), (0xF0014, 0#32)] }

/-- Refutes O36: the clause of CLK_RETURN takes every state, those not in canonical form as well. On `swTwice` both sources
become valid, which is the reset word, so its entry goes and the second one is read: SOURCE is 0, the clock is taken to be back
already, and no ramp begins, where the clause names one. -/
theorem not_converterEventsTakeEffect : ¬ Obligations.ConverterEventsTakeEffect := by
  unfold Obligations.ConverterEventsTakeEffect
  intro h
  obtain ⟨-, -, -, -, -, -, -, hreturn, -⟩ := h
  have hstated := hreturn swTwice true (by decide +kernel) (by decide +kernel) (by decide +kernel)
  have hran : readAfter (fun t => t.pwr.swRamp.isSome) true (exec (.clkReturn true) swTwice) = false := by decide +kernel
  rw [hstated] at hran
  revert hran
  decide +kernel

end Sys2Proof.Machine

/-! PROOFS. Protection models, load faults and diagnostic runs (R381 to R400). -/
namespace Sys2Proof.Machine
open Sys2Proof

section
variable {s : State} {n k : Nat} {l : List Nat}

theorem diagReadyTimeout_other (hstep : s.bst.diag.step = .starting) (hchans : s.bst.diag.chans = n :: l) (hch : s.ch n ≠ 3) :
    diagReadyTimeout s = diagNext n (if s.bst.diag.faulted then 9 else 8) s := by
  unfold diagReadyTimeout
  rw [hstep, hchans]
  exact if_neg hch

theorem diagDwellEnd_gathered {t : Inst} (hstep : s.bst.diag.step = .dwell k) (hchans : s.bst.diag.chans = n :: l)
    (htester : s.tester = some t) (hticks : (nth (s.instPar t.id) (t.kver + 1) 0#32).toNat ≤ s.bst.diag.ticks) : diagDwellEnd s =
      s.modDiag (fun d => { d with
        ticks := d.ticks - (nth (s.instPar t.id) (t.kver + 1) 0#32).toNat
        samples := d.samples.take (d.ticks - (nth (s.instPar t.id) (t.kver + 1) 0#32).toNat)
        step := if k + 1 < t.kver then .dwell (k + 1) else .muting
        meas := d.meas ++ [measureZ (rateHz s.rate) (f32Rat (nth (s.instPar t.id) k 0#32))
          ((s.get Reg.PWR_CHn_FILT_C_NF n : Nat) : Rat) (nth (s.instPar t.id) (t.kver + 1) 0#32).toNat
          (s.bst.diag.samples.reverse.take (nth (s.instPar t.id) (t.kver + 1) 0#32).toNat)] }) := by
  unfold diagDwellEnd
  rw [hstep, hchans, htester]
  exact if_neg (Nat.not_lt.mpr hticks)

theorem diagChannelEnd_muting (hchans : s.bst.diag.chans = n :: l) (hstep : s.bst.diag.step = .muting) : diagChannelEnd s =
    (if s.bst.diag.mode = 1 then diagNext n (loadVerdict n s).2 (loadVerdict n s).1 else diagNext n (acouVerdict n s) s) := by
  unfold diagChannelEnd
  rw [hchans, hstep]
  dsimp only [List.head?_cons]
  rw [if_pos (show (decide (DiagStep.muting = .muting) || s.bst.diag.faulted && decide (DiagStep.muting ≠ .background)) = true
    from rfl)]
  by_cases hmode : s.bst.diag.mode = 1
  · rw [if_pos hmode, if_pos hmode]
  · rw [if_neg hmode, if_neg hmode]

theorem acouMeasEnd_plain (hchans : s.bst.diag.chans = n :: l) (hstep : s.bst.diag.step = .measure) (hmode : s.bst.diag.mode = 2) :
    acouMeasEnd s = (({ s with free := s.free + 1 } : State).forN 10 (fun u b => u.set Reg.BST_ACOU_LVLn_b_LVL
      (toTwos 16 (clampI (-32768) 32767 (s.micLevel (s.get Reg.BST_ACOU_TIME_MEAS_MS) b))) n b)).modDiag
        (fun d => { d with step := .muting }) := by
  unfold acouMeasEnd
  extract_lets d u ms level
  have hplain : ∀ w v : State, (if d.mode = 3 && !d.faulted && w.snrOk n then v else w) = w := fun w v =>
    if_neg (by simp [d, hmode])
  have hms : ms = s.get Reg.BST_ACOU_TIME_MEAS_MS := congrArg s.get (if_neg (by simp only [d, hstep]; decide))
  have hd : d.step = .measure := hstep
  have hd' : d.chans = n :: l := hchans
  rw [hd, hd']
  dsimp only [List.head?_cons]
  rw [hplain, ← hms]
  rfl

theorem diagRunEnd_over (hstep : s.bst.diag.step = .muting) (hchans : s.bst.diag.chans = []) : diagRunEnd s = diagFinish 1 s :=
  if_pos (by simp [hstep, hchans])

theorem dcDeclare_full {s : State} (hfull : s.dcTicks n ≤ (s.bc n).dc) (hdc : 0 < (s.bc n).dc) (hloads : s.flt.loads = []) :
    dcDeclare n s.event = ((((s.event.raise 0x38 n).loadFault 0x38 n).setB Reg.BST_CHn_STATE_TRIPPED true n).int
      Reg.BST_INT_STATUS_TRIP) := by
  have hdue : (decide (s.event.dcTicks n ≤ (s.event.bc n).dc) && decide (0 < (s.event.bc n).dc)) = true := by
    simp only [Bool.and_eq_true, decide_eq_true_eq]
    exact ⟨hfull, hdc⟩
  have hnone : s.event.flt.loads = [] := hloads
  rw [dcDeclare, if_pos hdue, declareTrip, hnone]
  exact if_neg Bool.false_ne_true

end

/-- Settles O37: each event passes its guard and does its work. -/
theorem protectionEventsTakeEffect : Obligations.ProtectionEventsTakeEffect := by
  unfold Obligations.ProtectionEventsTakeEffect
  refine ⟨fun s n hback hok => ?_, fun s hruns => ?_, fun s hruns => ?_, fun s n hfull hdc hloads => ?_,
    fun s n l hstep hchans hch => ?_, fun s k n l t hstep hchans htester hticks => ?_, fun s n l hchans hstep hmode => ?_,
    fun s n l hchans hstep hmode => ?_, fun s n l hchans hstep hmode => ?_, fun s hstep hchans hbad => ?_⟩
  · exact congrArg Host.Outcome.next (if_pos (by simp [hback, hok]))
  · exact congrArg Host.Outcome.next (if_neg (by simp [hruns]))
  · exact congrArg Host.Outcome.next (if_neg (by simp [hruns]))
  · exact congrArg Host.Outcome.next (dcDeclare_full hfull hdc hloads)
  · exact congrArg Host.Outcome.next (diagReadyTimeout_other hstep hchans hch)
  · exact congrArg Host.Outcome.next (diagDwellEnd_gathered hstep hchans htester hticks)
  · exact congrArg Host.Outcome.next ((diagChannelEnd_muting hchans hstep).trans (if_neg hmode))
  · exact congrArg Host.Outcome.next ((diagChannelEnd_muting hchans hstep).trans (if_pos hmode))
  · exact congrArg Host.Outcome.next (acouMeasEnd_plain hchans hstep hmode)
  · exact congrArg Host.Outcome.next (diagRunEnd_over hstep hchans)

end Sys2Proof.Machine

/-! PROOFS. STREAM_LINE_ARRIVE of a stone that is not stalled (R153). -/
namespace Sys2Proof.Machine
open Sys2Proof

/-- An image runs whose stream unit 5 stands on stone 0, with its line late; no stone is stalled. -/
def lateLine : State := { State.reset with
  img := { State.reset.img with active := some { Image.empty with
    insts := [⟨5, 0, 0, 0, 0, 0, 0, 0, 0, 0, 0, 0, 0, 0, 0⟩] } }
  eng := { State.reset.eng with late := [5] } }

/-- Refutes O38: a line that arrives at a stone which is not stalled is no longer late, so a late line of a unit on that
stone leaves the list of late lines; the clause says that nothing changes. -/
theorem not_keystoneTickTakesEffect : ¬ Obligations.KeystoneTickTakesEffect := by
  unfold Obligations.KeystoneTickTakesEffect
  intro h
  obtain ⟨-, -, -, -, -, hline, -⟩ := h
  have hstated := hline lateLine 0 0 (by decide +kernel)
  have hran : readAfter (fun t => t.eng.late) [5] (exec (.streamLineArrive 0 0) lateLine) = [] := by decide +kernel
  rw [hstated] at hran
  revert hran
  decide +kernel

end Sys2Proof.Machine

/-! PROOFS. Power on, power off, reset and boot of the logic side (R515, R545, R578, R582). -/
namespace Sys2Proof.Machine
open Sys2Proof

/-! ## What the shown registers leave -/

/-- The keystone, the image, the fault collector, the memories, the domains and the queue are the same, and the die is on or off
as it was. -/
structure SameCore (s t : State) : Prop where
  ks : t.ks = s.ks
  img : t.img = s.img
  flt : t.flt = s.flt
  mem : t.mem = s.mem
  dom : t.dom = s.dom
  pending : t.pending = s.pending
  on : t.pwr.on = s.pwr.on

section
variable {s t u : State}

theorem sameCore_refl (s : State) : SameCore s s := by constructor <;> rfl

theorem sameCore_trans (hst : SameCore s t) (htu : SameCore t u) : SameCore s u where
  ks := htu.ks.trans hst.ks
  img := htu.img.trans hst.img
  flt := htu.flt.trans hst.flt
  mem := htu.mem.trans hst.mem
  dom := htu.dom.trans hst.dom
  pending := htu.pending.trans hst.pending
  on := htu.on.trans hst.on

theorem sameCore_ite {c : Prop} [Decidable c] (ht : SameCore s t) (hu : SameCore s u) : SameCore s (if c then t else u) := by
  split <;> assumption

theorem sameCore_foldl {α : Type} {f : State → α → State} (hf : ∀ u x, SameCore u (f u x)) (l : List α) (s : State) :
    SameCore s (l.foldl f s) := by
  induction l generalizing s with
  | nil => exact sameCore_refl s
  | cons x l ih => exact sameCore_trans (hf s x) (ih _)

theorem sameCore_set (hst : SameCore s t) (f : Fld) (v i j n : Nat) : SameCore s (t.set f v i j n) :=
  sameCore_trans hst (by constructor <;> rfl)

theorem sameCore_setWord (hst : SameCore s t) (f : Fld) (v : Word) (i j n : Nat) : SameCore s (t.setWord f v i j n) :=
  sameCore_trans hst (by constructor <;> rfl)

theorem sameCore_setB (hst : SameCore s t) (f : Fld) (b : Bool) (i j n : Nat) : SameCore s (t.setB f b i j n) :=
  sameCore_set hst f _ i j n

theorem sameCore_set64 (hst : SameCore s t) (lo hi : Fld) (v i n : Nat) : SameCore s (t.set64 lo hi v i n) :=
  sameCore_trans hst (by constructor <;> rfl)

theorem sameCore_int (hst : SameCore s t) (f : Fld) (b : Nat) : SameCore s (t.int f b) := by
  refine sameCore_trans hst ?_
  unfold State.int
  extract_lets raw w u rose
  have hu : SameCore t u := by constructor <;> rfl
  clear_value u
  exact sameCore_ite hu (sameCore_trans hu (by constructor <;> rfl))

theorem sameCore_modPc (hst : SameCore s t) (n : Nat) (f : PwrCh → PwrCh) : SameCore s (t.modPc n f) :=
  sameCore_trans hst (by constructor <;> rfl)

theorem sameCore_setAction (hst : SameCore s t) (n v : Nat) : SameCore s (t.setAction n v) :=
  sameCore_ite (sameCore_int (sameCore_set hst _ _ _ _ _) _ _) (sameCore_set hst _ _ _ _ _)

theorem sameCore_cancelAction (hst : SameCore s t) (n : Nat) : SameCore s (t.cancelAction n) :=
  sameCore_ite hst (sameCore_setAction (sameCore_modPc hst _ _) _ _)

theorem sameCore_setCh (hst : SameCore s t) (n v : Nat) : SameCore s (t.setCh n v) :=
  sameCore_ite hst (sameCore_int (sameCore_set hst _ _ _ _ _) _ _)

theorem sameCore_showPhases (hst : SameCore s t) (n : Nat) : SameCore s (t.showPhases n) :=
  sameCore_set (sameCore_setB (sameCore_setB (sameCore_set hst _ _ _ _ _) _ _ _ _ _) _ _ _ _ _) _ _ _ _ _

theorem sameCore_showSafe (hst : SameCore s t) : SameCore s t.showSafe :=
  sameCore_setB (sameCore_set hst _ _ _ _ _) _ _ _ _ _

theorem sameCore_showBst (hst : SameCore s t) (k : Nat) : SameCore s (t.showBst k) := by
  unfold State.showBst
  extract_lets b run off pass ph v
  have hv : SameCore s v := sameCore_setB (sameCore_setB (sameCore_setB (sameCore_set hst _ _ _ _ _) _ _ _ _ _) _ _ _ _ _) _ _ _ _ _
  exact sameCore_set (sameCore_setB (sameCore_setB (sameCore_set hv _ _ _ _ _) _ _ _ _ _) _ _ _ _ _) _ _ _ _ _

theorem sameCore_forN (hst : SameCore s t) {f : State → Nat → State} (hf : ∀ u k, SameCore u (f u k)) (n : Nat) :
    SameCore s (t.forN n f) := sameCore_trans hst (sameCore_foldl hf _ t)

theorem sameCore_allOff (hst : SameCore s t) : SameCore s (allOff t) :=
  sameCore_showSafe (sameCore_forN hst (fun u n => sameCore_showPhases (sameCore_setCh
    (sameCore_modPc (sameCore_setB (sameCore_cancelAction (sameCore_refl u) n) _ _ _ _ _) _ _) _ _) _) 8)

theorem sameCore_safeOne (hst : SameCore s t) (cause n : Nat) : SameCore s (t.safeOne cause n) := by
  refine sameCore_trans hst ?_
  unfold State.safeOne
  refine sameCore_ite (sameCore_refl t) ?_
  extract_lets a b c d _ _ e
  have hb : SameCore t b := sameCore_ite (sameCore_setAction (sameCore_cancelAction (sameCore_refl t) n) _ _)
    (sameCore_cancelAction (sameCore_refl t) n)
  have hd : SameCore t d := sameCore_int (sameCore_modPc (sameCore_setB (sameCore_set hb _ _ _ _ _) _ _ _ _ _) _ _) _ _
  clear_value d
  have he : SameCore t e := sameCore_ite (sameCore_trans hd (by constructor <;> rfl)) hd
  exact sameCore_setCh he _ _

theorem sameCore_safeReqAssert (hst : SameCore s t) : SameCore s (safeReqAssert t) := by
  refine sameCore_trans hst ?_
  unfold safeReqAssert
  refine sameCore_ite (sameCore_refl t) ?_
  extract_lets _ u
  have hu : SameCore t u := by constructor <;> rfl
  clear_value u
  unfold State.hvSafe State.safeNew
  exact sameCore_showSafe (sameCore_forN hu
    (fun v n => sameCore_ite (sameCore_safeOne (sameCore_refl v) _ _) (sameCore_refl v)) 8)

theorem sameCore_anaDown (hst : SameCore s t) (n : Nat) : SameCore s (t.anaDown n) := by
  refine sameCore_trans hst ?_
  unfold State.anaDown
  extract_lets r len
  exact sameCore_ite (sameCore_refl t)
    (sameCore_set (sameCore_ite (sameCore_refl t) (by constructor <;> rfl)) _ _ _ _ _)

theorem sameCore_jackShow (hst : SameCore s t) : SameCore s (jackShow t) := by
  refine sameCore_forN (sameCore_set hst _ _ _ _ _) (fun u n => ?_) 4
  have hjack : SameCore u (u.setB Reg.ANA_OUTn_STAT_JACK (u.plugged (outJack n)) n) := sameCore_setB (sameCore_refl u) _ _ _ _ _
  exact sameCore_ite (sameCore_anaDown hjack n) hjack

theorem sameCore_showPll (hst : SameCore s t) : SameCore s (showPll t) :=
  sameCore_setB (sameCore_set (sameCore_set
    (sameCore_forN hst (fun u _ => sameCore_setB (sameCore_refl u) _ _ _ _ _) 3) _ _ _ _ _) _ _ _ _ _) _ _ _ _ _

theorem sameCore_imgShow (hst : SameCore s t) : SameCore s (imgShow t) := by
  unfold imgShow
  split
  · exact sameCore_set64 (sameCore_setB (sameCore_setB (sameCore_set (sameCore_set
      (sameCore_setB hst _ _ _ _ _) _ _ _ _ _) _ _ _ _ _) _ _ _ _ _) _ _ _ _ _) _ _ _ _ _
  · exact sameCore_set64 (sameCore_setB (sameCore_setB (sameCore_set (sameCore_set
      (sameCore_setB hst _ _ _ _ _) _ _ _ _ _) _ _ _ _ _) _ _ _ _ _) _ _ _ _ _) _ _ _ _ _

/-- Without an image no tenancy is over its quota, so no overrun is raised. -/
theorem sameCore_overUpdate (hst : SameCore s t) (hactive : s.img.active = none) (hstaged : s.img.staged = none) :
    SameCore s (overUpdate t) := by
  refine List.foldlRecOn (motive := SameCore s) _ _ hst (fun u hu k _ => ?_)
  have hnone : u.partIm = none := by
    unfold State.partIm
    rw [hu.img, hactive, hstaged]
    exact ite_self none
  extract_lets old new _ v
  have hnew : new = 0 := by simp only [new, hnone, Option.isNone_none, if_true]
  rw [if_neg (by simp [hnew])]
  exact sameCore_trans hu (by constructor <;> rfl)

end

/-! ## The reset -/

section
variable {s : State}

/-- What a reset of the logic side sets and what it keeps. -/
structure ResetCore (foot : Bool) (s r : State) : Prop where
  ks : r.ks = State.reset.ks
  active : r.img.active = none
  staged : r.img.staged = none
  mem : foot = false → r.mem = State.reset.mem
  kept : foot = true → r.mem.foot = s.mem.foot ∧ r.flt.capstone = s.flt.capstone
  parked : r.dom.parked = s.dom.parked
  powered : r.dom.powered = true
  on : r.pwr.on = s.pwr.on
  pending : r.pending = s.pending

theorem resetCore_of {foot : Bool} {r t : State} (hr : ResetCore foot s r) (ht : SameCore r t) : ResetCore foot s t where
  ks := ht.ks.trans hr.ks
  active := (congrArg ImgState.active ht.img).trans hr.active
  staged := (congrArg ImgState.staged ht.img).trans hr.staged
  mem := fun hfoot => ht.mem.trans (hr.mem hfoot)
  kept := fun hfoot => by rw [ht.mem, ht.flt]; exact hr.kept hfoot
  parked := (congrArg DomState.parked ht.dom).trans hr.parked
  powered := (congrArg DomState.powered ht.dom).trans hr.powered
  on := ht.on.trans hr.on
  pending := ht.pending.trans hr.pending

theorem sameCore_unstage {r t : State} (ht : SameCore r t) (hstaged : r.img.staged = none) : SameCore r t.unstage := by
  refine sameCore_set64 (sameCore_set (sameCore_trans ht ?_) _ _ _ _ _) _ _ _ _ _
  have himg : { t.img with staged := none } = t.img := by
    rw [← hstaged, ← ht.img]
  exact ⟨rfl, himg, rfl, rfl, rfl, rfl, rfl⟩

theorem resetCore_logicReset (foot : Bool) (s : State) : ResetCore foot s (logicReset foot s) := by
  unfold logicReset
  extract_lets r back doms _ _ _ _ _ _ _ _ _ _ _ t u v w
  have ht : ResetCore foot s t := by
    refine ⟨rfl, rfl, rfl, ?_, ?_, rfl, rfl, rfl, rfl⟩
    · intro hfoot
      exact if_neg (by simp [hfoot])
    · intro hfoot
      have hmem : t.mem = { r.mem with foot := s.mem.foot, ecc := s.mem.ecc.filter (fun e => e.mem = 3) } := if_pos hfoot
      have hcap : t.flt.capstone = s.flt.capstone := by
        show FltState.capstone (if foot = true then _ else _) = _
        rw [if_pos hfoot]
      rw [hmem]
      exact ⟨rfl, hcap⟩
  clear_value t
  have hu : SameCore t u :=
    sameCore_showPll (sameCore_jackShow (sameCore_forN (sameCore_refl t) (fun x k => sameCore_showBst (sameCore_refl x) k) 4))
  clear_value u
  have hv : SameCore t v := sameCore_set64 (sameCore_set (sameCore_imgShow (sameCore_unstage hu ht.staged)) _ _ _ _ _) _ _ _ _ _
  clear_value v
  have hw : SameCore t w := sameCore_setB (sameCore_setB (sameCore_setB hv _ _ _ _ _) _ _ _ _ _) _ _ _ _ _
  clear_value w
  split
  · have hset : SameCore t ((w.set Reg.DOM_STATUS_SLEEP 0).setB Reg.DOM_STATUS_STORAGE false) :=
      sameCore_setB (sameCore_set hw _ _ _ _ _) _ _ _ _ _
    generalize (w.set Reg.DOM_STATUS_SLEEP 0).setB Reg.DOM_STATUS_STORAGE false = x at hset
    exact resetCore_of ht (sameCore_overUpdate (sameCore_trans hset (by constructor <;> rfl)) ht.active ht.staged)
  · exact resetCore_of ht (sameCore_setWord hu _ _ _ _ _)

end

/-! ## Power on, power off and RST_N -/

theorem linkPark_core (s : State) : (linkPark s).dom.parked = true ∧ (linkPark s).mem = s.mem ∧ (linkPark s).flt = s.flt ∧
    (linkPark s).pending = s.pending := by
  unfold linkPark
  split
  · next hpark => exact ⟨hpark, rfl, rfl, rfl⟩
  · extract_lets _ _ u _ v
    have hv : v.dom.parked = true ∧ v.mem = s.mem ∧ v.flt = s.flt ∧ v.pending = s.pending := by
      simp only [v]
      split <;> exact ⟨rfl, rfl, rfl, rfl⟩
    clear_value v
    obtain ⟨hpark, hmem, hflt, hpending⟩ := hv
    have hoff : SameCore v ((allOff v).forN 4 (fun s k => s.showBst k)) :=
      sameCore_forN (sameCore_allOff (sameCore_refl v)) (fun x k => sameCore_showBst (sameCore_refl x) k) 4
    exact ⟨(congrArg DomState.parked hoff.dom).trans hpark, hoff.mem.trans hmem, hoff.flt.trans hflt, hoff.pending.trans hpending⟩

/-- The reference that the power brings is shown. -/
theorem refShown {s : State} (xtal : Bool) (hregs : rising s.regs = true) :
    ((s.setB Reg.CLK_STATUS_REF_OK true).setB Reg.CLK_STATUS_REF_XTAL xtal).is Reg.CLK_STATUS_REF_OK = true ∧
    ((s.setB Reg.CLK_STATUS_REF_OK true).setB Reg.CLK_STATUS_REF_XTAL xtal).is Reg.CLK_STATUS_REF_XTAL = xtal := by
  have hok : rising (s.setB Reg.CLK_STATUS_REF_OK true).regs = true := rising_set _ _ _ _ _ _ hregs
  have hbeside := get_set_beside (f := Reg.CLK_STATUS_REF_XTAL) (g := Reg.CLK_STATUS_REF_OK) (b2n xtal) 0 0 0 hok (by decide) (by decide)
    ⟨rfl, rfl, rfl, rfl, rfl⟩ (by decide)
  have hsame := get_set_same (f := Reg.CLK_STATUS_REF_OK) (b2n true) 0 0 0 hregs (by decide) (by decide)
  have hxtal := get_set_same (f := Reg.CLK_STATUS_REF_XTAL) (b2n xtal) 0 0 0 hok (by decide) (by decide)
  constructor
  · rw [State.is, State.setB, hbeside, State.setB, hsame]
    rfl
  · rw [State.is, State.setB, hxtal]
    cases xtal <;> rfl

/-- The node with or without its supply. -/
def State.withPower (s : State) (on : Bool) : State := { s with dom := { s.dom with powered := on } }

theorem powerOn_of_reset {s u : State} (xtal : Bool) (hregs : rising u.regs = true) (hreset : ResetCore false s u) :
    let t := ((u.withPower true).setB Reg.CLK_STATUS_REF_OK true).setB Reg.CLK_STATUS_REF_XTAL xtal
    t.dom.powered = true ∧ t.is Reg.CLK_STATUS_REF_OK = true ∧ t.is Reg.CLK_STATUS_REF_XTAL = xtal ∧
      t.img.active = none ∧ t.ks = State.reset.ks ∧ t.mem = State.reset.mem ∧ t.pending = s.pending := by
  obtain ⟨hok, hxtal⟩ := refShown (s := u.withPower true) xtal hregs
  exact ⟨rfl, hok, hxtal, hreset.active, hreset.ks, hreset.mem rfl, hreset.pending⟩

theorem powerOff_of_reset {s t u : State} (hcore : SameCore (u.withPower false) t) (hreset : ResetCore false s u) :
    t.dom.powered = false ∧ t.img.active = none ∧ t.ks = State.reset.ks ∧ t.mem = State.reset.mem ∧ t.pwr.on = s.pwr.on ∧
      t.pending = s.pending :=
  ⟨congrArg DomState.powered hcore.dom, (congrArg ImgState.active hcore.img).trans hreset.active,
    hcore.ks.trans hreset.ks, hcore.mem.trans (hreset.mem rfl), hcore.on.trans hreset.on, hcore.pending.trans hreset.pending⟩

theorem vl5Off_core (s : State) : SameCore ((logicReset false s).withPower false) (vl5Off s) :=
  sameCore_safeReqAssert (sameCore_refl _)

/-! ## The boot of the firmware -/

/-- The firmware runs, with what its image in the flash gives. -/
def State.booted (s : State) (v : Word) (u : Nat) (bands : List (List Word)) : State :=
  ((({ s with host := { s.host with fwRun := true } } : State).setWord Reg.IDENT_FW (BitVec.ofNat 32 (v.toNat % 2 ^ 24))).setWord
    Reg.ENG_UCODE (BitVec.ofNat 32 u)).forN 3
      (fun s p => s.forN 16 (fun s b => s.setWord Reg.CLK_Pp_BANDb (nth (nth bands p []) b 0#32) p b))

theorem regFrame_booted (s : State) (v : Word) (u : Nat) (bands : List (List Word)) :
    RegFrame (· ≠ Reg.IMG_BOOT_AUTO.addr) s (s.booted v u bands) := by
  refine regFrame_forN (regFrame_setWord (f := Reg.ENG_UCODE) (regFrame_setWord (f := Reg.IDENT_FW)
    (regFrame_of_regs_eq (regFrame_refl _ s) rfl) (by decide)) (by decide)) fun p _ u hu => ?_
  refine regFrame_forN hu fun b _ u' hu' => regFrame_setWord (f := Reg.CLK_Pp_BANDb) hu' ?_
  simp [Fld.key, Reg.CLK_Pp_BANDb, Reg.IMG_BOOT_AUTO]
  omega

theorem bootDone_copyA {s : State} {b : Bool} {v : Word} {u : Nat} {bands : List (List Word)} (hon : s.dom.powered = true)
    (hrun : s.host.fwRun = false) (hcanon : s.canon = true) (hauto : s.is Reg.IMG_BOOT_AUTO = false) :
    bootDone true b v u bands s = s.booted v u bands := by
  have hauto' : (s.booted v u bands).is Reg.IMG_BOOT_AUTO = false := by
    rw [State.is, get_of_regFrame (regFrame_booted s v u bands) (rising_of_canon hcanon) (by decide)]
    exact hauto
  have hcopy : b2n (!true) * 2 ^ 24 + v.toNat % 2 ^ 24 = v.toNat % 2 ^ 24 := by simp [b2n]
  unfold bootDone
  rw [if_neg (by rw [hon, hrun]; cases b <;> decide), hcopy]
  extract_lets _ x y z w w'
  have hw' : w' = s.booted v u bands := if_pos rfl
  clear_value w'
  rw [hw', hauto']
  exact if_neg Bool.false_ne_true

/-- Settles O39: a reset sets the units it names and keeps the others, and what it then shows moves registers alone; the boot's
writes leave the register that asks for an automatic load. -/
theorem powerAndResetTakeEffect : Obligations.PowerAndResetTakeEffect := by
  unfold Obligations.PowerAndResetTakeEffect
  refine ⟨fun s xtal hcanon => ?_, fun s => ?_, fun s hon => ?_, fun s b v u bands hon hrun hcanon hauto => ?_, fun s v u bands => ?_⟩
  · exact ⟨vl5On xtal s, rfl, powerOn_of_reset xtal
      (rising_of_canon ((keeps_logicReset false (keeps_refl s)).2 hcanon)) (resetCore_logicReset false s)⟩
  · exact ⟨vl5Off s, rfl, powerOff_of_reset (vl5Off_core s) (resetCore_logicReset false s)⟩
  · obtain ⟨hpark, hmem, hflt, hpending⟩ := linkPark_core s
    have hreset := resetCore_logicReset true (linkPark s)
    obtain ⟨hfoot, hcap⟩ := hreset.kept rfl
    refine ⟨logicReset true (linkPark s), congrArg Host.Outcome.next (if_pos hon), hreset.parked.trans hpark, hreset.powered,
      hreset.active, hreset.ks, hfoot.trans ?_, hcap.trans ?_, hreset.pending.trans hpending⟩
    · rw [hmem]
    · rw [hflt]
  · exact congrArg Host.Outcome.next (bootDone_copyA hon hrun hcanon hauto)
  · exact congrArg Host.Outcome.next (if_pos (by simp))

end Sys2Proof.Machine

/-! PROOFS. A change of the timing master that finds the time far off (R31, R48, R269, R549). -/
namespace Sys2Proof.Machine
open Sys2Proof

/-- A change of the timing master to node 5 is due, the last Sync measured an offset of one second, and source 0x11 has the class
CAPSTONE. The register file is the one of reset; one word of the footing memory, where the history is kept, has a single-bit
error. -/
def farSwitch : State := { State.reset with
  rct := { RctState.reset with tmSwitch := some (5, 0, false) }
  time := ⟨1000000000, true⟩
  flt := { FltState.reset with cls := [(0x11, 3)] }
  mem := { MemState.reset with ecc := [⟨3, 0xF400, false, false⟩] } }

/-- Refutes O40: TIMING_SWITCH shows the roles and the time anew, which raises source 0x11 where the offset is beyond a tick.
With that source in the class CAPSTONE the raise freezes the fault history in the footing memory, so the error of the word that
it writes is gone; the clause says that the memories are kept. -/
theorem not_timeBaseEventsTakeEffect : ¬ Obligations.TimeBaseEventsTakeEffect := by
  unfold Obligations.TimeBaseEventsTakeEffect
  intro h
  obtain ⟨-, -, -, -, -, -, -, -, hswitch, -⟩ := h
  obtain ⟨t, hexec, -, -, hmem, -⟩ := hswitch farSwitch 5 0 false (by decide +kernel) (by decide +kernel)
  have hran : readAfter (fun t => t.mem.ecc.isEmpty) false (exec .timingSwitch farSwitch) = true := by decide +kernel
  rw [hexec, readAfter, hmem] at hran
  revert hran
  decide +kernel

end Sys2Proof.Machine

/-! PROOFS. The image machine from erasure to activation (R70, R106 to R120). -/
namespace Sys2Proof.Machine
open Sys2Proof

section
variable {s : State} {n : Nat} {bad : List Nat} {im : Image}

/-! ## A load that ends -/

/-- The slot with the bad bytes that the load or the check found. -/
def State.withBad (s : State) (n : Nat) (bad : List Nat) : State := s.modSlot n (fun x => { x with bad := bad })

/-- No load is under way, automatic or not. -/
def State.unloading (s : State) : State := { s with img := { s.img with loading := none, auto := false } }

/-! ### The checks of an image read neither the slots nor the load -/

section
variable (s : State) (n : Nat) (bad : List Nat) (im : Image)

theorem caps_unloading : (s.withBad n bad).unloading.caps = s.caps := rfl

theorem domTarget_unloading : (s.withBad n bad).unloading.domTarget = s.domTarget := rfl

theorem fieldAfter_unloading : @State.fieldAfter (s.withBad n bad).unloading im = @State.fieldAfter s im := rfl

theorem regRule_unloading (a v : Nat) : (s.withBad n bad).unloading.regRule im a v = s.regRule im a v := by
  unfold State.regRule
  exact ite_congr rfl (fun _ => rfl) (fun _ => rfl)

theorem aafCourseOk_unloading (i : Nat) : (s.withBad n bad).unloading.aafCourseOk im i = s.aafCourseOk im i := by
  unfold State.aafCourseOk
  rw [fieldAfter_unloading]

theorem sapCourseOk_unloading (i : Nat) : (s.withBad n bad).unloading.sapCourseOk im i = s.sapCourseOk im i := by
  unfold State.sapCourseOk
  rw [fieldAfter_unloading]

theorem dram0Covered_unloading (k lo hi : Nat) :
    (s.withBad n bad).unloading.dram0Covered k lo hi = s.dram0Covered k lo hi := by
  induction k generalizing lo with
  | zero => rfl
  | succ k ih =>
    unfold State.dram0Covered
    simp only [ih]
    rfl

theorem dmaFits_unloading : (s.withBad n bad).unloading.dmaFits = s.dmaFits := by
  funext i base m a f pack
  unfold State.dmaFits
  rw [show (s.withBad n bad).unloading.dmaKey = s.dmaKey from rfl]
  dsimp only
  rw [dram0Covered_unloading]
  rfl

theorem dmaCourseOk_unloading (i : Nat) : (s.withBad n bad).unloading.dmaCourseOk im i = s.dmaCourseOk im i := by
  unfold State.dmaCourseOk
  rw [fieldAfter_unloading, dmaFits_unloading]

theorem combosOk_unloading : (s.withBad n bad).unloading.combosOk im = s.combosOk im := by
  unfold State.combosOk
  rw [fieldAfter_unloading, funext (aafCourseOk_unloading s n bad im), funext (sapCourseOk_unloading s n bad im),
    funext (dmaCourseOk_unloading s n bad im)]

theorem xctx_unloading : (s.withBad n bad).unloading.xctx im = s.xctx im := by
  unfold State.xctx
  rw [combosOk_unloading, caps_unloading, domTarget_unloading,
    funext fun a => funext fun v => regRule_unloading s n bad im a v]

end

theorem imgLoadDone_refused {e : Refuse} (hload : s.img.loading = some n)
    (hstage : stageFS ((s.withBad n bad).slot n) (s.withBad n bad).sigCtx = .error e) :
    imgLoadDone bad s = ((((s.withBad n bad).unloading).slotResult n (some e)).set Reg.IMG_STATUS_STAGE 5).refuse e := by
  unfold imgLoadDone
  rw [hload]
  dsimp -zeta only
  extract_lets u auto _ v r
  have hr : r = .error e := by
    have hfs : stageFS (v.slot n) v.sigCtx = .error e := hstage
    simp only [r, hfs]
    rfl
  rw [hr]
  rfl

theorem imgLoadDone_staged (hload : s.img.loading = some n) (hauto : s.img.auto = false)
    (hstage : stageFS ((s.withBad n bad).slot n) (s.withBad n bad).sigCtx = .ok im) (hx : stageX im (s.xctx im) = .ok ()) :
    imgLoadDone bad s = ((({ (((s.withBad n bad).unloading).slotResult n none).set Reg.IMG_STATUS_STAGE 2 with
      img := { ((((s.withBad n bad).unloading).slotResult n none).set Reg.IMG_STATUS_STAGE 2).img with
        staged := some { im with slot := n } } } : State).set
          Reg.IMG_REBUILD_TICKS (rebuildTicks { im with slot := n })).set64 Reg.IMG_EPOCH_STG_LO Reg.IMG_EPOCH_STG_HI im.epoch).int
            Reg.IMG_INT_STATUS_STAGED := by
  unfold imgLoadDone
  rw [hload]
  dsimp -zeta only
  extract_lets u auto _ v r
  have hr : r = .ok { im with slot := n } := by
    have hfs : stageFS (v.slot n) v.sigCtx = .ok im := hstage
    have hx' : stageX im (v.xctx im) = .ok () := (congrArg (stageX im) (xctx_unloading s n bad im)).trans hx
    show (stageFS (v.slot n) v.sigCtx >>= fun im => stageX im (v.xctx im) >>= fun _ => Except.ok { im with slot := n }) = _
    rw [hfs]
    show (stageX im (v.xctx im) >>= fun _ => Except.ok { im with slot := n }) = _
    rw [hx']
    rfl
  have hplain : auto = false := hauto
  rw [hr, hplain]
  rfl

/-! ## Verification, deactivation, the rebuild and the activation -/

theorem deactivateDone_over (hdeact : s.img.deact = true) (hquiet : s.outputsActive = false) (hstage : s.stage ≠ 4) :
    deactivateDone s = rateHome (noImage s) :=
  congrArg rateHome (if_pos (by rw [hdeact, hquiet]; simpa using hstage))

theorem rebuildStart_due (hstaged : s.img.staged = some im) (hstage : s.stage = 3) (hdue : s.img.rebuildAt ≤ s.ks.count) :
    rebuildStart s = (match s.stageA im true 0 with
      | some c => s.refuseA c
      | none => rebuild im s) := by
  unfold rebuildStart
  rw [hstaged]
  exact if_neg (by rw [hstage]; omega)

theorem activation_due (hstaged : s.img.staged = some im) (hstage : s.stage = 4) (hdue : s.img.target ≤ s.ks.count) :
    activation s = activate im s := by
  unfold activation
  rw [hstaged]
  exact if_pos ⟨hstage, hdue⟩

end

/-- Settles O41: each event passes its guard; a load's checks read nothing that the end of the load moves. -/
theorem imageEventsTakeEffect : Obligations.ImageEventsTakeEffect := by
  unfold Obligations.ImageEventsTakeEffect
  refine ⟨fun s b herase => ?_, fun s b bad hverify => ?_, fun s n bad im hload hauto hstage hx => ?_,
    fun s n bad e hload hstage => ?_, fun s hdeact hquiet hstage hrun => ?_, fun s im hstaged hstage hdue hA => ?_,
    fun s im c hstaged hstage hdue hA => ?_, fun s im hstaged hstage hdue => ?_⟩
  · exact congrArg Host.Outcome.next (if_pos herase)
  · exact congrArg Host.Outcome.next (if_neg (by simp [hverify]))
  · exact congrArg Host.Outcome.next (imgLoadDone_staged hload hauto hstage hx)
  · exact congrArg Host.Outcome.next (imgLoadDone_refused hload hstage)
  · have hover : ¬(s.ks.running && !s.ks.committed) = true := by
      rcases hrun with hrun | hrun <;> simp [hrun]
    exact congrArg Host.Outcome.next ((if_neg hover).trans (deactivateDone_over hdeact hquiet hstage))
  · exact congrArg Host.Outcome.next ((rebuildStart_due hstaged hstage hdue).trans (by rw [hA]))
  · exact congrArg Host.Outcome.next ((rebuildStart_due hstaged hstage hdue).trans (by rw [hA]; rfl))
  · exact congrArg Host.Outcome.next (activation_due hstaged hstage hdue)

end Sys2Proof.Machine

/-! PROOFS. Scrubbers (R130, R532). -/
namespace Sys2Proof.Machine
open Sys2Proof

section
variable {s : State} {k a : Nat}

/-- The state with one error noted, that of the word at `a`. -/
def State.withMark (s : State) (k a : Nat) (dbl : Bool) : State := { s with mem := { s.mem with ecc := [⟨k, a, dbl, false⟩] } }

theorem eccDrop_none (hecc : s.mem.ecc = []) : s.eccDrop k a = s := by
  have hmem : { s.mem with ecc := s.mem.ecc.filter (fun e => !(e.mem = k && e.addr = a / 8 * 8)) } = s.mem := by
    rw [hecc, List.filter_nil, ← hecc]
  unfold State.eccDrop
  rw [hmem]

theorem scrub_clean (hecc : s.mem.ecc = []) : scrub k a .clean s = s.event := by
  have hnone : s.event.mem.ecc = [] := hecc
  have hread : s.event.eccRead k a 8 = (s.event, true) := by
    simp only [State.eccRead, State.eccIn, hnone, List.filter_nil, List.foldl_nil, List.all_nil]
  unfold scrub eccFind
  dsimp only
  rw [hread]
  exact eccDrop_none hnone

/-- The word with the error is the only one that a read of it meets. -/
theorem eccRead_withMark (dbl : Bool) :
    (s.withMark k a dbl).eccRead k a 8 = ((s.withMark k a dbl).eccMeet ⟨k, a, dbl, false⟩ none, !dbl) := by
  have hin : (s.withMark k a dbl).eccIn k a 8 = [⟨k, a, dbl, false⟩] := by
    have haddr : a / 8 * 8 ≤ a := Nat.div_mul_le_self a 8
    simp [State.eccIn, State.withMark, haddr]
  simp only [State.eccRead, hin, List.foldl_cons, List.foldl_nil, List.all_cons, List.all_nil, Bool.and_true]

theorem eccFind_single (hecc : s.mem.ecc = []) : eccFind k a .single s = s.withMark k a false := by
  simp [eccFind, State.eccAt, State.withMark, hecc]

theorem eccFind_double (hecc : s.mem.ecc = []) : eccFind k a .double s = s.withMark k a true := by
  simp [eccFind, State.eccIn, State.withMark, hecc]

theorem scrub_single (hecc : s.mem.ecc = []) :
    scrub k a .single s = ((s.event.withMark k a false).eccMeet ⟨k, a, false, false⟩ none).eccDrop k a := by
  unfold scrub
  rw [eccFind_single (s := s.event) hecc, eccRead_withMark false]
  rfl

theorem scrub_double (hecc : s.mem.ecc = []) :
    scrub k a .double s = (s.event.withMark k a true).eccMeet ⟨k, a, true, false⟩ none := by
  unfold scrub
  rw [eccFind_double (s := s.event) hecc, eccRead_withMark true]
  rfl

theorem stoneScrub_on {n w : Nat} (f : ScrubFind) (hon : s.domAt n = 0) : stoneScrub n w f s = scrub 0 (262144 * n + 8 * w) f s :=
  if_pos hon

end

/-- Settles O42: with no error noted, what a scrub finds is the only mark that its read meets. -/
theorem scrubbersFindAndCorrect : Obligations.ScrubbersFindAndCorrect := by
  unfold Obligations.ScrubbersFindAndCorrect
  refine ⟨fun s n w hon hecc => ?_, fun s n w hon hecc => ?_, fun s n w hon hecc => ?_, fun s w hw hecc => ?_,
    fun s w hw hon hecc => ?_, fun s w hw hon hecc => ?_⟩
  · exact congrArg Host.Outcome.next ((stoneScrub_on _ hon).trans (scrub_clean hecc))
  · exact congrArg Host.Outcome.next ((stoneScrub_on _ hon).trans (scrub_single hecc))
  · exact congrArg Host.Outcome.next ((stoneScrub_on _ hon).trans (scrub_double hecc))
  · have hin : memoryScrub .footing w .single s = scrub 3 (8 * w) .single s := if_pos (by omega)
    exact congrArg Host.Outcome.next (hin.trans (scrub_single hecc))
  · have hin : memoryScrub .sram w .double s = scrub 1 (8 * w) .double s := if_pos ⟨by omega, hon⟩
    exact congrArg Host.Outcome.next (hin.trans (scrub_double hecc))
  · have hin : memoryScrub .dram w .clean s = scrub 2 (8 * w) .clean s := if_pos ⟨by omega, hon⟩
    exact congrArg Host.Outcome.next (hin.trans (scrub_clean hecc))

end Sys2Proof.Machine

/-! PROOFS. SWAP_STAGE in REBUILDING (R118, R190). -/
namespace Sys2Proof.Machine
open Sys2Proof

/-- An image of class L without parameters in space 0, whose shadow lies at the start of the tick SRAM. -/
def shadowedImage : Image := { Image.empty with cls := 1, regions := [⟨6, 0, 0, 64, 0⟩] }

/-- A swap of space 0 is armed and due, while an image rebuilds. -/
def rebuildingSwap : State :=
  (({ State.reset with img := { State.reset.img with active := some shadowedImage } } : State).modSwap 0
    (fun x => { x with on := true })).set Reg.IMG_STATUS_STAGE 4

/-- Refutes O43: in REBUILDING nothing is staged, while the clause of SWAP_STAGE stages whatever the stage of the image machine
is. -/
theorem not_mixerEventsTakeEffect : ¬ Obligations.MixerEventsTakeEffect := by
  unfold Obligations.MixerEventsTakeEffect
  intro h
  obtain ⟨-, hstage, -⟩ := h
  have hstated := hstage rebuildingSwap 0 shadowedImage 0 (by decide +kernel) (by decide +kernel) (by decide +kernel)
    (by decide +kernel) (by decide +kernel) (by decide +kernel) (by decide +kernel)
  have hran : readAfter (fun t => (t.swap 0).on) false (exec (.swapStage 0) rebuildingSwap) = true := by decide +kernel
  rw [hstated] at hran
  revert hran
  decide +kernel

end Sys2Proof.Machine

/-! PROOFS. OVR_INPUT_ACCEPT under an image with an OVERRIDE course (R207). -/
namespace Sys2Proof.Machine
open Sys2Proof

/-- The state after reset with an image whose OVERRIDE course gives 10 ms of discrepancy; both inputs are inactive. -/
def courseIdle : State := { State.reset with
  img := { State.reset.img with active := some { Image.empty with ovr := some ⟨0, 0, 0, 0, 10, 0⟩ } } }

/-- Refutes O44: with input A alone becoming active the discrepancy time starts as well as PENDING; the clause leaves it as it
was, with none running. -/
theorem not_overrideEventsTakeEffect : ¬ Obligations.OverrideEventsTakeEffect := by
  unfold Obligations.OverrideEventsTakeEffect
  intro h
  obtain ⟨-, haccept, -⟩ := h
  have hstated := haccept courseIdle false true (by decide +kernel) (by decide +kernel) (by decide +kernel) (by decide +kernel)
    (by decide +kernel) (by decide +kernel) (by decide +kernel) (by decide +kernel)
  have hran : readAfter (fun t => t.ovr.discAt) none (exec (.ovrInputAccept false true) courseIdle) = some 960 := by decide +kernel
  rw [hstated] at hran
  revert hran
  decide +kernel

end Sys2Proof.Machine

/-! PROOFS. PLL_START of the media PLL after a servo has moved it. -/
namespace Sys2Proof.Machine
open Sys2Proof

/-- The media PLL is stopped with a band that covers its window, and the servo stands away from 0. -/
def servoMoved : State :=
  let s : State := { State.reset with clk := { ClkState.reset with servo := 5 } }
  (s.set Reg.CLK_Pp_BANDb_F_HI 4095 0 0).set Reg.CLK_Pp_BANDb_F_LO 0 0 0

/-- Refutes O45: the start of the media PLL sets its servo to 0, which the clause of PLL_START keeps. -/
theorem not_clockEventsTakeEffect : ¬ Obligations.ClockEventsTakeEffect := by
  unfold Obligations.ClockEventsTakeEffect
  intro h
  obtain ⟨-, -, hstart, -⟩ := h
  have hstated := hstart servoMoved 0 0 (by decide +kernel) (by decide +kernel) (by decide +kernel) (by decide +kernel)
    (by decide +kernel)
  have hran : readAfter (fun t => t.clk.servo) 1 (exec (.pllStart 0) servoMoved) = 0 := by decide +kernel
  rw [hstated] at hran
  revert hran
  decide +kernel

end Sys2Proof.Machine

/-! PROOFS. Analog converters, outputs, charge pump and jacks (R404 to R418). -/
namespace Sys2Proof.Machine
open Sys2Proof

section
variable {s : State} {n : Nat}

theorem nth_modNth_ne {α : Type} (l : List α) {n k : Nat} (f : α → α) (d : α) (hk : k ≠ n) : nth (modNth l n f) k d = nth l k d := by
  unfold modNth
  split
  · simp [nth, List.getD_eq_getElem?_getD, List.getElem?_set_ne (Ne.symm hk)]
  · rfl

theorem setAna_out (s : State) (n v : Nat) : (s.setAna n v).ana.out = s.ana.out := by
  unfold State.setAna
  split
  · rfl
  · rw [State.int_ana, State.set_ana]

/-- The power-up of one output ends. -/
def State.poweredUp (s : State) (n : Nat) : State := (s.modOut n (fun c => { c with up := false, start := false })).setAna n 1

theorem outCh_poweredUp {k : Nat} (hk : k ≠ n) : (s.poweredUp n).outCh k = s.outCh k := by
  unfold State.poweredUp State.outCh
  rw [setAna_out]
  exact nth_modNth_ne _ _ _ hk

/-- One output of an amplifier at the end of its power-up. -/
def State.powerUpStep (s : State) (n : Nat) : State :=
  if !(s.outCh n).up then s else if (s.outCh n).start then (s.poweredUp n).anaOwnStart n else s.poweredUp n

theorem outPowerUpEnd_eq (n : Nat) (s : State) : outPowerUpEnd n s = (ampOuts n).foldl State.powerUpStep s := rfl

theorem outPowerUpEnd_single (hn : 2 ≤ n) : outPowerUpEnd n s = s.powerUpStep n := by
  rw [outPowerUpEnd_eq, ampOuts, if_neg (Nat.not_lt.mpr hn)]
  rfl

theorem powerUpStep_held (hup : (s.outCh n).up = true) (hstart : (s.outCh n).start = false) : s.powerUpStep n = s.poweredUp n := by
  simp [State.powerUpStep, hup, hstart]

theorem powerUpStep_start (hup : (s.outCh n).up = true) (hstart : (s.outCh n).start = true) :
    s.powerUpStep n = (s.poweredUp n).anaOwnStart n := by
  simp [State.powerUpStep, hup, hstart]

theorem powerUpStep_down (hup : (s.outCh n).up = false) : s.powerUpStep n = s := by
  simp [State.powerUpStep, hup]

/-- Outputs 0 and 1 share an amplifier. -/
theorem outPowerUpEnd_pair (hn : n < 2) (hup0 : (s.outCh 0).up = true) (hup1 : (s.outCh 1).up = true)
    (hstart0 : (s.outCh 0).start = false) (hstart1 : (s.outCh 1).start = false) :
    outPowerUpEnd n s = (s.poweredUp 0).poweredUp 1 := by
  have hother : (s.poweredUp 0).outCh 1 = s.outCh 1 := outCh_poweredUp (by decide)
  rw [outPowerUpEnd_eq, ampOuts, if_pos hn, List.foldl_cons, List.foldl_cons, List.foldl_nil, powerUpStep_held hup0 hstart0,
    powerUpStep_held (by rw [hother]; exact hup1) (by rw [hother]; exact hstart1)]

theorem outRampEnd_up (hramp : s.get Reg.ANA_OUTn_STAT_RAMP n = 1) (hfull : (s.outCh n).len ≤ (s.outCh n).pos) :
    outRampEnd n s = s.set Reg.ANA_OUTn_STAT_RAMP 0 n := by
  unfold outRampEnd
  rw [hramp]
  exact if_pos hfull

theorem outRampEnd_down (hramp : s.get Reg.ANA_OUTn_STAT_RAMP n = 2) (hzero : (s.outCh n).pos = 0) :
    outRampEnd n s = (s.set Reg.ANA_OUTn_STAT_RAMP 0 n).setAna n 1 := by
  unfold outRampEnd
  rw [hramp]
  exact if_pos hzero

end

/-- Settles O46: each event passes its guard; the outputs of one amplifier end their power-up one after the other. -/
theorem analogEventsTakeEffect : Obligations.AnalogEventsTakeEffect := by
  unfold Obligations.AnalogEventsTakeEffect
  refine ⟨fun s n hpend => ?_, fun s n hsettle hramp hticks => ?_, fun s n hramp hticks => ?_, fun s n hramp hfull => ?_,
    fun s n hramp hzero => ?_, fun s n hn hup hstart => ?_, fun s n hn hup hstart => ?_, fun s n hdown => ?_, fun s => rfl,
    fun s => rfl, fun s n hshort => ?_, fun s n => rfl, fun s b h hdiff => ?_, fun s n hn hup0 hup1 hstart0 hstart1 => ?_,
    fun s n hn hup => ?_⟩
  · exact congrArg Host.Outcome.next (if_pos hpend)
  · exact congrArg Host.Outcome.next (if_pos (by simp [hsettle, hramp, hticks]))
  · exact congrArg Host.Outcome.next (if_pos (by simp [hramp, hticks]))
  · exact congrArg Host.Outcome.next (outRampEnd_up hramp hfull)
  · exact congrArg Host.Outcome.next (outRampEnd_down hramp hzero)
  · exact congrArg Host.Outcome.next ((outPowerUpEnd_single hn).trans (powerUpStep_held hup hstart))
  · exact congrArg Host.Outcome.next ((outPowerUpEnd_single hn).trans (powerUpStep_start hup hstart))
  · exact congrArg Host.Outcome.next (if_pos hdown)
  · exact congrArg Host.Outcome.next (if_neg (by simp [hshort]))
  · exact congrArg Host.Outcome.next (if_neg hdiff)
  · exact congrArg Host.Outcome.next (outPowerUpEnd_pair hn hup0 hup1 hstart0 hstart1)
  · exact congrArg Host.Outcome.next ((outPowerUpEnd_single hn).trans (powerUpStep_down hup))

end Sys2Proof.Machine

/-! PROOFS. The AES3 receiver (R419 to R425). -/
namespace Sys2Proof.Machine
open Sys2Proof Sys2Proof.Machine.Laws

/-! ## The registers that any raise may write -/

/-- The registers of the collector, and those that a kept raise acts on. -/
def raiseKeys (k : Nat) : Prop := (0x120000 ≤ k ∧ k < 0x130000) ∨ heldKeys k

theorem regFrame_raise (s : State) {src : Nat} (unit d : Nat) (hsrc : src < 256) : RegFrame raiseKeys s (s.raise src unit d) := by
  cases hrow : sourceRow src with
  | none =>
    rw [raise_of_no_row hrow]
    exact regFrame_refl _ _
  | some row =>
    have hcounted : RegFrame raiseKeys s (State.raiseCounted { s with free := s.free + 1 } src) := by
      unfold State.raiseCounted
      refine regFrame_ite (regFrame_refl _ _) (regFrame_inc (regFrame_refl _ _) (Or.inl ?_))
      rw [srcKey]
      omega
    refine regFrame_trans hcounted (regFrame_mono (raise_regFrame hrow unit d) fun k hk => ?_)
    rcases hk with hhist | hheld
    · unfold histKeys at hhist
      exact Or.inl (by omega)
    · exact Or.inr hheld

/-- A change of the converters writes at most their interrupt bit. -/
theorem regFrame_modSrc {K : Nat → Prop} {s : State} (hkey : K (Reg.MIX_INT_STATUS_SRC_RESYNC.key 0 0 0)) (p : Src → Bool)
    (f : Src → Src) : RegFrame K s (s.modSrc p f) := by
  unfold State.modSrc
  exact regFrame_ite (regFrame_int (regFrame_of_regs_eq (regFrame_refl K s) rfl) hkey)
    (regFrame_of_regs_eq (regFrame_refl K s) rfl)

/-! ## Its lock -/

/-- LOCK as a change of lock writes it. -/
def State.aesMarked (s : State) (b : Bool) : State := (s.setB Reg.ANA_AES_STAT_LOCK b).int Reg.ANA_INT_STATUS_AES_LOCK

/-- The same with the class of the rate in the same word. -/
def State.withAesLock (s : State) (b : Bool) : State :=
  (s.aesMarked b).set Reg.ANA_AES_STAT_CLASS (if b then rateClass ((s.aesMarked b).get Reg.ANA_AES_RATE_RATE) else 0)

/-- A change of lock writes the status word in that step only. -/
theorem regFrame_aesLock {s : State} {b : Bool} (hlock : s.is Reg.ANA_AES_STAT_LOCK ≠ b) :
    RegFrame (fun k => k ≠ 0xC00A4) (s.withAesLock b) (s.aesLock b) := by
  rw [State.aesLock, if_neg hlock]
  extract_lets locked classed shown converted _ ended
  have hshown : RegFrame (fun k => k ≠ 0xC00A4) (s.withAesLock b) shown :=
    regFrame_int (regFrame_set (regFrame_refl _ _) (show (0xC00AC : Nat) ≠ 0xC00A4 by decide))
      (show (0xC0100 : Nat) ≠ 0xC00A4 by decide)
  have hended : RegFrame (fun k => k ≠ 0xC00A4) (s.withAesLock b) ended :=
    regFrame_of_regs_eq (regFrame_trans hshown (regFrame_modSrc (show (0x70080 : Nat) ≠ 0xC00A4 by decide) _ _)) rfl
  clear_value ended
  refine regFrame_ite hended (regFrame_trans (regFrame_of_regs_eq (u := ended.event) hended rfl)
    (regFrame_mono (regFrame_raise _ _ _ (by decide)) fun k hk => ?_))
  simp only [raiseKeys, heldKeys] at hk
  omega

theorem aesMarked_rising {s : State} (b : Bool) (hregs : rising s.regs = true) : rising (s.aesMarked b).regs = true :=
  (regFrame_int (K := fun _ => True) (regFrame_refl _ _) trivial (rising_set _ _ _ _ _ _ hregs)).1

theorem withAesLock_rising {s : State} (b : Bool) (hregs : rising s.regs = true) : rising (s.withAesLock b).regs = true :=
  rising_set _ _ _ _ _ _ (aesMarked_rising b hregs)

/-- A field of the status word beside CLASS reads as the write of LOCK leaves it. -/
theorem withAesLock_get {s : State} {f : Fld} (b : Bool) (hregs : rising s.regs = true)
    (hsame : f.addr = 0xC00A4 ∧ f.s1 = 0 ∧ f.s2 = 0 ∧ f.reset = 0 ∧ f.own = false) (hbeside : 19 < f.lo) (hword : f.hi < 32) :
    (s.withAesLock b).get f = (s.setB Reg.ANA_AES_STAT_LOCK b).get f := by
  have hkey : f.key 0 0 0 ≠ Reg.ANA_INT_STATUS_AES_LOCK.key 0 0 0 := by
    obtain ⟨haddr, hs1, hs2, -, hown⟩ := hsame
    simp [Fld.key, haddr, hs1, hs2, hown, Reg.ANA_INT_STATUS_AES_LOCK]
  exact (get_set_beside _ 0 0 0 (aesMarked_rising b hregs) (by decide) hword hsame (Or.inl hbeside)).trans
    (get_int_ne (rising_set _ _ _ _ _ _ hregs) hkey)

/-- What a change of lock leaves in the status word: LOCK as named, NONAUDIO as it was. -/
theorem withAesLock_lock {s : State} (b : Bool) (hregs : rising s.regs = true) : (s.withAesLock b).is Reg.ANA_AES_STAT_LOCK = b := by
  rw [State.is, withAesLock_get b hregs (by decide) (by decide) (by decide), State.setB,
    get_set_same _ 0 0 0 hregs (by decide) (by decide)]
  cases b <;> rfl

theorem withAesLock_nonaudio {s : State} (b : Bool) (hregs : rising s.regs = true) :
    (s.withAesLock b).is Reg.ANA_AES_STAT_NONAUDIO = s.is Reg.ANA_AES_STAT_NONAUDIO := by
  rw [State.is, withAesLock_get b hregs (by decide) (by decide) (by decide), State.setB,
    get_set_beside _ 0 0 0 hregs (by decide) (by decide) (by decide) (by decide)]
  rfl

theorem aesLock_reads {s : State} {b : Bool} (hlock : s.is Reg.ANA_AES_STAT_LOCK ≠ b) (hcanon : s.canon = true) :
    (s.aesLock b).is Reg.ANA_AES_STAT_LOCK = b ∧
      (s.aesLock b).is Reg.ANA_AES_STAT_NONAUDIO = s.is Reg.ANA_AES_STAT_NONAUDIO ∧ (s.aesLock b).pending = s.pending := by
  have hregs := rising_of_canon hcanon
  have hframe := regFrame_aesLock hlock
  have hrise := withAesLock_rising b hregs
  refine ⟨?_, ?_, (keeps_State_aesLock b (keeps_refl s)).1⟩
  · rw [State.is, get_of_regFrame hframe hrise (by decide)]
    exact withAesLock_lock b hregs
  · rw [State.is, get_of_regFrame hframe hrise (by decide)]
    exact withAesLock_nonaudio b hregs

/-! ## Its subframes -/

theorem modNth_id {α : Type} (l : List α) (n : Nat) : modNth l n (fun x => x) = l := by
  unfold modNth
  cases hget : l[n]? with
  | none => rfl
  | some a =>
    obtain ⟨hlt, rfl⟩ := List.getElem?_eq_some_iff.mp hget
    exact List.set_getElem_self hlt

/-- The receiver after the sample of a good subframe: no code error in a row, and the burst preamble looked for (R423). -/
def AesState.heard (a : AesState) (x : Nat) : AesState :=
  { a with bad := 0, pa := decide (x / 256 % 65536 = 0xF872),
           quiet := if a.pa && decide (x / 256 % 65536 = 0x4E1F) then 0 else a.quiet }

/-- The state after a good subframe of which no channel-status bit and no validity bit is set. -/
def State.aesHeard (s : State) (x : Nat) : State :=
  ({ s.event with aes := s.aes.heard x } : State).setB Reg.ANA_AES_STAT_VALIDITY false

theorem aesHeard_na {s : State} (x : Nat) (hregs : rising s.regs = true) :
    (s.aesHeard x).is Reg.ANA_AES_CFG_NA_EN = s.is Reg.ANA_AES_CFG_NA_EN :=
  congrArg (· == 1) (get_set_ne (s := { s.event with aes := s.aes.heard x }) _ 0 0 0 0 0 0 hregs (by decide))

/-- A good subframe, with no muting on validity and none on NONAUDIO, is kept or makes a frame with the one before. -/
theorem aesSubframe_good {s : State} (b : Bool) (i x : Nat) (hlock : s.is Reg.ANA_AES_STAT_LOCK = true)
    (hna : s.is Reg.ANA_AES_CFG_NA_EN = false) (hcanon : s.canon = true)
    (hvalid : b = false ∨ s.is Reg.ANA_AES_STAT_VALIDITY = false) :
    aesSubframe b i x false false false false s =
      (if b then aesFrame (s.aes.first, some (sext 24 x))
          { s.aesHeard x with aes := { (s.aesHeard x).aes with first := none } }
        else { s.aesHeard x with aes := { (s.aesHeard x).aes with first := some (sext 24 x) } }) := by
  unfold aesSubframe
  rw [if_neg (by simp [hlock])]
  extract_lets k u vbad counted coded codedAes fresh good sample valid validAes marked up burst markedAes heard na _ muted done _ _ _
  have hvbad : vbad = false := Bool.and_false _
  have hsample : sample = some (sext 24 x) := by
    simp only [sample, good, hvbad]
    rfl
  have hcounted : counted = s.event := by
    simp only [counted, hvbad]
    exact if_neg Bool.false_ne_true
  have hfresh : fresh = { s.event with aes := { s.aes with bad := 0 } } := by
    simp only [fresh, codedAes, coded, hcounted, Bool.false_eq_true, if_false]
    rfl
  have hvalidity : valid = fresh.setB Reg.ANA_AES_STAT_VALIDITY false := by
    have hold : fresh.is Reg.ANA_AES_STAT_VALIDITY = s.is Reg.ANA_AES_STAT_VALIDITY := by
      rw [hfresh]
      rfl
    simp only [valid, hold, Bool.or_false]
    rcases hvalid with hb | hv
    · rw [hb, if_neg Bool.false_ne_true]
    · rw [hv, ite_self]
  have hmarked : marked = valid := by
    have hcs : modNth valid.aes.cs k (fun w => if false = true then w ||| 2 ^ i else w) = valid.aes.cs := modNth_id _ _
    simp only [marked, hcs, validAes]
  have hheard : heard = s.aesHeard x := by
    simp only [heard, burst, good, up, markedAes, hmarked, hvalidity, hfresh]
    rfl
  have hdone : done = s.aesHeard x := by
    have hoff : na = false := by
      simp only [na, hheard]
      rw [aesHeard_na x (rising_of_canon hcanon), hna]
    simp only [done, muted, hoff, Bool.false_and, Bool.false_eq_true, if_false, hheard]
  have hbad : fresh.aes.bad = 0 := by
    rw [hfresh]
  clear_value done fresh sample
  subst hdone hsample
  rw [if_neg (by omega)]
  cases b <;> rfl

/-! ## Its blocks -/

theorem setWords_aes (s : State) (f : Fld) (v : Nat → Word) (c n : Nat) :
    (s.forN n (fun u k => u.setWord f (v k) c k)).aes = s.aes :=
  forN_kept (g := State.aes) (fun _ _ => State.setWord_aes ..) n s

theorem aesBlockEnd_fresh {s : State} (hlock : s.is Reg.ANA_AES_STAT_LOCK = true) :
    (aesBlockEnd s).aes = { s.aes with cs := [0, 0], clean := if s.aes.cs.all (fun w => !bit w 1) then s.aes.clean + 1 else 0 } := by
  unfold aesBlockEnd
  rw [if_neg (by simp [hlock])]
  extract_lets bits checked clean a
  have hchecked : checked.aes = s.aes := by
    refine forN_kept (g := State.aes) (fun u k => ?_) 2 s
    dsimp only
    split
    · exact State.inc_aes ..
    · rw [setWords_aes]
      exact State.setB_aes ..
  clear_value checked
  simp only [a, hchecked]
  rfl

/-- Settles O47: each row is its function of the model, and a change of lock and a good subframe leave what the lemmas above
say. -/
theorem aes3ReceiverEventsTakeEffect : Obligations.Aes3ReceiverEventsTakeEffect := by
  unfold Obligations.Aes3ReceiverEventsTakeEffect
  refine ⟨?lock, ?off, ?loss, ?change, ?unlocked, ?kept, ?block, ?audio, ?frame⟩
  case lock =>
    intro s hon hdom
    exact congrArg Host.Outcome.next (if_pos (by simp [hon, hdom]))
  case off =>
    intro s hoff
    exact congrArg Host.Outcome.next (if_neg (by simp [hoff]))
  case loss => exact fun s => rfl
  case change => exact fun s b hlock hcanon => aesLock_reads hlock hcanon
  case unlocked =>
    intro s b i x cs v p c hlock
    exact congrArg Host.Outcome.next (if_pos (by simp [hlock]))
  case kept =>
    intro s i x hlock hna _ hcanon _
    exact congrArg Host.Outcome.next (aesSubframe_good false i.val x.toNat hlock hna hcanon (Or.inl rfl))
  case block =>
    intro s hlock
    refine ⟨_, rfl, ?_, ?_, ?_, (keeps_aesBlockEnd (keeps_refl s)).1⟩
    all_goals rw [aesBlockEnd_fresh hlock]
  case audio =>
    intro s hna hclean hquiet
    exact congrArg Host.Outcome.next (if_pos (by simp [hna, hclean, hquiet]))
  case frame =>
    intro s i x hlock hna _ hcanon _ hvalid
    exact congrArg Host.Outcome.next (aesSubframe_good true i.val x.toNat hlock hna hcanon (Or.inr hvalid))

end Sys2Proof.Machine

/-! PROOFS. Serial audio ports and rate measurement (R429 to R438). -/
namespace Sys2Proof.Machine
open Sys2Proof Sys2Proof.Machine.Laws

/-! ## A set bit written again -/

/-- To put back what stands there changes nothing, where that is not what an unlisted key reads. -/
theorem put_get_self {α : Type} [DecidableEq α] (d : Nat → α) (m : KMap α) (k : Nat) (hlisted : KMap.get d m k ≠ d k) :
    KMap.put d m k (KMap.get d m k) = m := by
  induction m with
  | nil => exact absurd rfl hlisted
  | cons e m ih =>
    obtain ⟨k', v⟩ := e
    unfold KMap.get at hlisted ⊢
    unfold KMap.put
    split
    · next hk =>
      rw [if_pos hk] at hlisted
      rw [if_neg hlisted, hk]
    · next hk =>
      rw [if_neg hk] at hlisted
      split
      · next hlt => exact absurd (if_pos hlt) hlisted
      · next hlt =>
        rw [if_neg hlt] at hlisted
        rw [ih hlisted]

theorem putBits_bit_self {w b : Nat} (hset : bitsOf w b b = 1) : putBits w b b 1 = w := by
  refine Nat.eq_of_testBit_eq fun i => ?_
  rw [testBit_putBits _ _ _ _ _ (Nat.le_refl b)]
  split
  · next hi =>
    obtain rfl : i = b := by omega
    rw [Nat.sub_self, ← hset, testBit_bitsOf]
    simp
  · rfl

/-- A bit that is set, set again. -/
theorem setB_true_self {s : State} {f : Fld} {i j t : Nat} (hbit : f.hi = f.lo) (hreset : f.resetWord i t = 0#32)
    (hon : s.is f i j t = true) : s.setB f true i j t = s := by
  have hget : bitsOf (s.word f i j t).toNat f.lo f.lo = 1 := by
    have := eq_of_beq hon
    rwa [State.get, hbit] at this
  have hword : s.word f i j t ≠ f.resetWord i t := fun hzero => by
    rw [hzero, hreset] at hget
    simp [bitsOf] at hget
  have hsame : BitVec.ofNat 32 (putBits (s.word f i j t).toNat f.hi f.lo (b2n true)) = s.word f i j t := by
    rw [hbit, b2n, if_pos rfl, putBits_bit_self hget, BitVec.ofNat_toNat, BitVec.setWidth_eq]
  have hregs : KMap.put (fun _ => f.resetWord i t) s.regs (f.key i j t) (s.word f i j t) = s.regs :=
    put_get_self (fun _ => f.resetWord i t) s.regs (f.key i j t) hword
  rw [State.setB, State.set, hsame, State.setWord, hregs]

/-! ## The frame of a port -/

theorem sp_modSap (s : State) {n : Nat} (f : SapPort → SapPort) (hn : n < s.sap.length) : (s.modSap n f).sp n = f (s.sp n) :=
  nth_modNth _ _ f _ hn

/-- What a good frame leaves of a port: its counts of frames, what was received, and what is sent. -/
def SapPort.framed (p : SapPort) (rx : List Nat) (sent : List (Option Nat)) : SapPort :=
  { p with bad := 0, good := min 16 (p.good + 1), rx := rx, sent := sent }

theorem modNth_modNth {α : Type} (l : List α) (n : Nat) (f g : α → α) : modNth (modNth l n f) n g = modNth l n (fun x => g (f x)) := by
  unfold modNth
  cases hget : l[n]? with
  | none => simp [hget]
  | some a =>
    obtain ⟨hlt, rfl⟩ := List.getElem?_eq_some_iff.mp hget
    simp [hlt]

theorem modSap_modSap (s : State) (n : Nat) (f g : SapPort → SapPort) : (s.modSap n f).modSap n g = s.modSap n (fun p => g (f p)) :=
  congrArg (fun l => { s with sap := l }) (modNth_modNth s.sap n f g)

/-- The count of bad frames after a good one. -/
theorem sp_bad_of_good (s : State) (n : Nat) : ((s.modSap n (fun p => { p with bad := 0, good := min 16 (p.good + 1) })).sp n).bad = 0 := by
  by_cases hn : n < s.sap.length
  · rw [sp_modSap s _ hn]
  · have hsame : modNth s.sap n (fun p => { p with bad := 0, good := min 16 (p.good + 1) }) = s.sap := by
      unfold modNth
      rw [List.getElem?_eq_none (by omega)]
    have hdefault : s.sp n = SapPort.reset := by
      rw [State.sp, nth, List.getD_eq_getElem?_getD, List.getElem?_eq_none (by omega)]
      rfl
    rw [State.sp, State.modSap, hsame]
    exact congrArg SapPort.bad hdefault

/-- A leader in lock with its clocks, enabled, with neither capture nor playback: the port alone changes. -/
theorem sapFrame_leader {s : State} {n : Nat} (rx : List Nat) (hrun : s.is Reg.SAPn_STAT_RUN n = true)
    (hlock : s.is Reg.SAPn_STAT_LOCK n = true) (hleader : s.is Reg.SAPn_CFG_LEADER n = true) (hen : s.is Reg.SAPn_CFG_EN n = true)
    (hcap : s.is Reg.SAPn_CAP_CFG_EN n = false) (hpb : s.is Reg.SAPn_PB_CFG_EN n = false) :
    ∃ sent, sapFrame n rx true s = s.modSap n (fun p =>
      p.framed ((rx.take (s.sapSlots n)).map (· % 2 ^ widthBits (s.get Reg.SAPn_CFG_DATA_BITS n))) sent) := by
  unfold sapFrame
  rw [if_neg (by simp [hen])]
  extract_lets running leader good clocked counted kept db taken resampled played done
  have hrunning : running = s := setB_true_self rfl rfl hrun
  have hcounted : counted = s.modSap n (fun p => { p with bad := 0, good := min 16 (p.good + 1) }) := by
    simp only [counted, clocked, good, Bool.or_true, if_true, hrunning]
  have hkept : kept = counted := by
    refine if_neg ?_
    rw [hcounted, sp_bad_of_good]
    decide
  have hplayed : played = taken := by
    have hresampled : resampled = taken := by
      refine if_pos ?_
      simp only [leader, hrunning, hleader]
    have hlocked : kept.is Reg.SAPn_STAT_LOCK n = true := by
      rw [hkept, hcounted]
      exact hlock
    have hregs : taken.regs = s.regs := by
      simp only [taken, hkept, hcounted]
      rfl
    have hnocap : capFrame n taken = taken := if_pos (by simp only [State.is, State.get, State.word, hregs] at hcap ⊢; simp [hcap])
    have hnopb : pbFrame n taken = taken := if_pos (by simp only [State.is, State.get, State.word, hregs] at hpb ⊢; simp [hpb])
    simp only [played, hlocked, good, Bool.or_true, Bool.and_self, if_true, hresampled, hnocap, hnopb]
  have hdone : done = s.modSap n (fun p =>
      p.framed ((rx.take (s.sapSlots n)).map (· % 2 ^ widthBits (s.get Reg.SAPn_CFG_DATA_BITS n))) (played.sapSend n)) := by
    simp only [done]
    conv in played.modSap => rw [hplayed]
    simp only [taken, db, hkept, hcounted, modSap_modSap]
    rfl
  refine ⟨played.sapSend n, ?_⟩
  clear_value done
  subst hdone
  exact if_pos hen

/-! ## The rate of a port -/

/-- A leader in lock whose references agree measures the engine's rate. -/
theorem sapRate_leader {s : State} {n : Nat} (r : Nat) (hrun : s.is Reg.SAPn_STAT_RUN n = true)
    (hleader : s.is Reg.SAPn_CFG_LEADER n = true) (hcanon : s.canon = true)
    (href : s.get Reg.SAPn_RATE_REF_RATE n = 100 * rateHz s.rate) (hlock : s.is Reg.SAPn_STAT_LOCK n = true)
    (hclass : s.get Reg.SAPn_STAT_CLASS n = rateClass (100 * rateHz s.rate)) :
    sapRate n r s = ((s.set Reg.SAPn_RATE_RATE (100 * rateHz s.rate) n).setB Reg.SAPn_STAT_RATE_BAD false n).set
      Reg.SAPn_STAT_CLASS (rateClass (100 * rateHz s.rate)) n := by
  unfold sapRate
  rw [if_neg (by simp [hrun])]
  extract_lets leader rate ref bad rated kept cls far chg classed resampled
  have hregs := rising_of_canon hcanon
  have hrate : rate = 100 * rateHz s.rate := if_pos hleader
  have hgood : bad = false := by
    simp only [bad, leader, hleader, Bool.not_true, Bool.false_and]
  have hkept : kept = rated := if_neg (by simp [hgood])
  have hrise := rising_set s Reg.SAPn_RATE_RATE rate n 0 0 hregs
  have hlocked : kept.is Reg.SAPn_STAT_LOCK n = true := by
    rw [hkept, State.is]
    simp only [rated, State.setB]
    rw [get_set_beside _ n 0 0 hrise (by decide) (by decide) (by decide) (by decide),
      get_set_ne _ n 0 0 n 0 0 hregs (by simp [Fld.key, Reg.SAPn_STAT_LOCK, Reg.SAPn_RATE_RATE])]
    exact hlock
  have hclassed : kept.get Reg.SAPn_STAT_CLASS n = rateClass rate := by
    rw [hkept]
    simp only [rated, State.setB]
    rw [get_set_beside _ n 0 0 hrise (by decide) (by decide) (by decide) (by decide),
      get_set_ne _ n 0 0 n 0 0 hregs (by simp [Fld.key, Reg.SAPn_STAT_CLASS, Reg.SAPn_RATE_RATE]), hclass, hrate]
  have hcls : cls = rateClass rate := if_pos hlocked
  have hnear : far = false := by
    simp [far, ref, href, hrate]
  have hsame : chg = false := by
    simp [chg, hnear, hcls, hclassed]
  have hresampled : resampled = classed := if_pos hleader
  rw [if_neg (by simp [hsame]), hresampled]
  simp only [classed, hkept, hcls, rated, hgood, hrate]

/-! ## The rate of the AES3 receiver -/

theorem rateClass_lt (r : Nat) : rateClass r < 16 := by
  have hindex : ∀ p ∈ indexed [32000, 44100, 48000, 88200, 96000, 176400, 192000], p.1 < 15 := by decide
  unfold rateClass
  extract_lets near
  cases hfind : (indexed [32000, 44100, 48000, 88200, 96000, 176400, 192000]).find? (fun p => near p.2) with
  | none => exact Nat.zero_lt_succ 15
  | some p => exact Nat.succ_lt_succ (hindex p (List.mem_of_find?_eq_some hfind))

theorem aesRate_shows {s : State} {r : Nat} (hr : r < 2 ^ 25) (hcanon : s.canon = true) :
    (aesRate r s).get Reg.ANA_AES_RATE_RATE = r ∧
      (aesRate r s).get Reg.ANA_AES_STAT_CLASS = (if s.is Reg.ANA_AES_STAT_LOCK then rateClass r else 0) := by
  unfold aesRate
  extract_lets ref cls far chg classed measured
  have hregs := rising_of_canon hcanon
  have hrise := rising_set s Reg.ANA_AES_RATE_RATE r 0 0 0 hregs
  have hframe : RegFrame (fun k => k ≠ 0xC00A4 ∧ k ≠ 0xC00A8) classed
      (if chg then (measured.set Reg.ANA_AES_RATE_REF_RATE r).int Reg.ANA_INT_STATUS_AES_RATE else measured) := by
    have hmeasured : RegFrame (fun k => k ≠ 0xC00A4 ∧ k ≠ 0xC00A8) classed measured :=
      regFrame_modSrc (by decide) _ _
    exact regFrame_ite (regFrame_int (regFrame_set hmeasured (by decide)) (by decide)) hmeasured
  have hcls : cls < 16 := by
    simp only [cls]
    split
    · exact rateClass_lt r
    · decide
  rw [get_of_regFrame hframe (rising_set _ _ _ _ _ _ hrise) (by decide),
    get_of_regFrame hframe (rising_set _ _ _ _ _ _ hrise) (by decide)]
  constructor
  · exact (get_set_ne _ 0 0 0 0 0 0 hrise (by decide)).trans
      ((get_set_same _ 0 0 0 hregs (by decide) (by decide)).trans (Nat.mod_eq_of_lt hr))
  · exact (get_set_same _ 0 0 0 hrise (by decide) (by decide)).trans (Nat.mod_eq_of_lt hcls)

/-- Settles O48: each row is its function of the model, the frame of a leader and its rate are what the lemmas above say. -/
theorem serialAudioEventsTakeEffect : Obligations.SerialAudioEventsTakeEffect := by
  unfold Obligations.SerialAudioEventsTakeEffect
  refine ⟨?idle, ?frame, ?lock, ?stopped, ?loss, ?unmeasured, ?receiver, ?leader⟩
  case idle =>
    intro s n rx c hrun hen
    exact congrArg Host.Outcome.next (if_pos (by simp [hrun, hen]))
  case frame =>
    intro s n rx hrun hlock hleader hen hcap hpb _
    obtain ⟨sent, hframe⟩ := sapFrame_leader rx hrun hlock hleader hen hcap hpb
    exact ⟨_, congrArg Host.Outcome.next hframe, rfl, rfl, rfl, fun hn => congrArg SapPort.rx (sp_modSap s _ hn)⟩
  case lock =>
    intro s n hen hrun hleader hgood hdom hcount
    exact congrArg Host.Outcome.next (if_pos (by simp [hen, hrun, hleader, hgood, hdom, hcount]))
  case stopped =>
    intro s n hrun
    exact congrArg Host.Outcome.next (if_neg (by simp [hrun]))
  case loss =>
    intro s n hleader hlock
    exact congrArg Host.Outcome.next ((if_neg (by simp [hleader])).trans (if_neg (by simp [hlock])))
  case unmeasured =>
    intro s n r hn hrun hen
    exact congrArg Host.Outcome.next ((if_neg (Nat.ne_of_lt hn)).trans (if_pos (by simp [hrun, hen])))
  case receiver =>
    intro s r hcanon
    obtain ⟨hrate, hclass⟩ := aesRate_shows r.isLt hcanon
    exact ⟨_, rfl, hrate, hclass, (keeps_aesRate r.val (keeps_refl s)).1⟩
  case leader =>
    intro s n r hn hrun hleader hcanon href hlock hclass
    exact congrArg Host.Outcome.next ((if_neg (Nat.ne_of_lt hn)).trans
      (sapRate_leader r.val hrun hleader hcanon href hlock hclass))

end Sys2Proof.Machine

/-! PROOFS. Auxiliary converters as their updates fall due (R446 to R451, R458). -/
namespace Sys2Proof.Machine
open Sys2Proof Sys2Proof.Machine.Laws

theorem ax_modAux (s : State) {n : Nat} (f : AuxCh → AuxCh) (hn : n < s.aux.length) : (s.modAux n f).ax n = f (s.ax n) :=
  nth_modNth _ _ f _ hn

theorem modAux_modAux (s : State) (n : Nat) (f g : AuxCh → AuxCh) : (s.modAux n f).modAux n g = s.modAux n (fun c => g (f c)) :=
  congrArg (fun l => { s with aux := l }) (modNth_modNth s.aux n f g)

/-- The generator moves its own fields only. -/
theorem auxGen_keeps (s : State) (n : Nat) : (s.auxGen n).2.queue = (s.ax n).queue ∧ (s.auxGen n).2.done = (s.ax n).done := ⟨rfl, rfl⟩

/-- A channel whose update is noted, with what was asked for taken. -/
def AuxCh.noted (c : AuxCh) (count mode : Nat) : AuxCh :=
  { c with done := some count, req := if c.req ≠ 0 && mode ≠ 0 then 0 else c.req }

/-- A channel at an update in NORMAL mode from its queue: WAVE 0, the channel moved on, its update noted. -/
def State.auxMoved (s : State) (n : Nat) (c : AuxCh) : State := (s.set Reg.AUXn_STATE_WAVE 0 n).modAux n (fun _ => c)

/-- A due update in NORMAL mode from the queue, with nothing asked for and no profile in use, takes the next sample. -/
theorem auxUpdate_pops {s : State} {n : Nat} (hdue : s.auxDue n = true) (hnext : s.auxNext n = none) (hmode : s.auxMode n = 2)
    (hsync : (s.ax n).sync = false) (hrec : nth s.auxRec n false = false) (hsrc : s.get Reg.AUXn_CFG_SRC n = 0)
    (hn : n < s.aux.length) (hcanon : s.canon = true) :
    ∃ c, c.queue = (s.ax n).queue ∧ c.done = some s.ks.count ∧ auxUpdate n s = auxPop n (s.auxMoved n c) := by
  unfold auxUpdate
  rw [if_neg (by simp [hdue])]
  extract_lets next sync rec' noted unrecorded entered mode waved
  have hunrecorded : unrecorded = noted := by
    simp only [unrecorded, rec', hrec, Bool.false_eq_true, if_false]
    rfl
  have hentered : entered = noted := by
    have hstay : (if sync = true then auxEnter n (unrecorded.auxMode n) unrecorded else unrecorded) = unrecorded :=
      if_neg (by simp [sync, hsync])
    simp only [entered, next, hnext, hstay]
    exact hunrecorded
  have hmarked : mode = 2 := by
    simp only [mode, hentered]
    exact hmode
  have hwaved : waved = (s.set Reg.AUXn_STATE_WAVE 0 n).modAux n (fun c => c.noted s.ks.count (s.auxMode n)) := by
    simp only [waved, hentered, hmarked, if_true]
    rfl
  have hsource : waved.get Reg.AUXn_CFG_SRC n = 0 := by
    rw [hwaved]
    exact (get_set_ne _ n 0 0 n 0 0 (rising_of_canon hcanon) (by simp [Fld.key, Reg.AUXn_CFG_SRC, Reg.AUXn_STATE_WAVE])).trans hsrc
  obtain ⟨hqueue, hdone⟩ := auxGen_keeps waved n
  have hax : waved.ax n = (s.ax n).noted s.ks.count (s.auxMode n) := by
    rw [hwaved]
    exact ax_modAux (s.set Reg.AUXn_STATE_WAVE 0 n) _ hn
  refine ⟨(waved.auxGen n).2, by rw [hqueue, hax]; rfl, by rw [hdone, hax]; rfl, ?_⟩
  have hstep : auxStep n false waved = s.auxMoved n (waved.auxGen n).2 := by
    have hover : auxStep n false waved = waved.modAux n (fun _ => (waved.auxGen n).2) := rfl
    rw [hover]
    generalize (waved.auxGen n).2 = c
    rw [hwaved, modAux_modAux]
    rfl
  rw [if_neg (by simp [hmarked]), if_pos hmarked, hsource, hstep]
  rfl

section
variable {s : State} {n : Nat} {c : AuxCh}

theorem rising_auxMoved (hregs : rising s.regs = true) : rising (s.auxMoved n c).regs = true := rising_set _ _ _ _ _ _ hregs

theorem get_auxMoved {f : Fld} (hregs : rising s.regs = true) (hkey : f.key n 0 0 ≠ Reg.AUXn_STATE_WAVE.key n 0 0) :
    (s.auxMoved n c).get f n = s.get f n :=
  get_set_ne _ n 0 0 n 0 0 hregs hkey

theorem aux_auxMoved_length : (s.auxMoved n c).aux.length = s.aux.length := by
  change (modNth s.aux n (fun _ => c)).length = s.aux.length
  unfold modNth
  split
  · exact List.length_set
  · rfl

theorem ax_auxMoved (hn : n < s.aux.length) : (s.auxMoved n c).ax n = c :=
  ax_modAux (s.set Reg.AUXn_STATE_WAVE 0 n) _ hn

/-- A sample taken: it becomes the code, and the queue goes on behind it. -/
def State.auxTaken (s : State) (n v : Nat) (r : List Nat) : State :=
  (s.modAux n (fun c => { c with queue := r })).set Reg.AUXn_STATE_CODE v n

theorem auxPop_cons {v : Nat} {r : List Nat} (hqueue : (s.ax n).queue = v :: r) :
    ∃ b : Bool, auxPop n s =
      if b then (showQueue (s.auxTaken n v r) n).auxInt n 0 else showQueue (s.auxTaken n v r) n := by
  unfold auxPop
  rw [hqueue]
  exact ⟨decide (r.length = (showQueue (s.auxTaken n v r) n).get Reg.AUXn_CFG_LOW_MARK n), by simp only [decide_eq_true_eq]; rfl⟩

theorem auxTaken_ax {v : Nat} {r : List Nat} (hn : n < s.aux.length) : (s.auxTaken n v r).ax n = { s.ax n with queue := r } :=
  ax_modAux s _ hn

theorem auxTaken_code {v : Nat} {r : List Nat} (hregs : rising s.regs = true) (hv : v < 65536) :
    (s.auxTaken n v r).get Reg.AUXn_STATE_CODE n = v :=
  (get_set_same _ n 0 0 hregs (by decide) (by decide)).trans (Nat.mod_eq_of_lt hv)

/-- What is shown of the queue and its interrupt stand beside the code. -/
theorem get_code_shown (b : Bool) (hregs : rising s.regs = true) (hn : n < 4) :
    (if b then (showQueue s n).auxInt n 0 else showQueue s n).get Reg.AUXn_STATE_CODE n = s.get Reg.AUXn_STATE_CODE n := by
  have hshown : RegFrame (fun k => k ≠ Reg.AUXn_STATE_CODE.key n 0 0) s (showQueue s n) :=
    regFrame_set (regFrame_refl _ _) (by simp [Fld.key, Reg.AUXn_STATE_CODE, Reg.AUXn_QSTAT_LEVEL])
  have hint : (Reg.AUX_INT_STATUS.key 0 0 0) ≠ Reg.AUXn_STATE_CODE.key n 0 0 := by
    simp [Fld.key, Reg.AUXn_STATE_CODE, Reg.AUX_INT_STATUS]
    omega
  exact get_of_regFrame (regFrame_ite (regFrame_int hshown hint) hshown) hregs (by simp)

theorem ax_shown (b : Bool) : (if b then (showQueue s n).auxInt n 0 else showQueue s n).ax n = s.ax n := by
  cases b
  · rfl
  · exact congrArg (fun l => nth l n AuxCh.reset) (State.int_aux ..)

/-- A sample taken becomes the code and leaves the queue. -/
theorem auxPop_code {v : Nat} {r : List Nat} (hregs : rising s.regs = true) (hn : n < 4) (hv : v < 65536)
    (hqueue : (s.ax n).queue = v :: r) : (auxPop n s).get Reg.AUXn_STATE_CODE n = v := by
  obtain ⟨b, hpop⟩ := auxPop_cons hqueue
  have hrise : rising (s.auxTaken n v r).regs = true := rising_set _ _ _ _ _ _ hregs
  rw [hpop, get_code_shown b hrise hn, auxTaken_code hregs hv]

theorem auxPop_ax {v : Nat} {r : List Nat} (hn : n < s.aux.length) (hqueue : (s.ax n).queue = v :: r) :
    (auxPop n s).ax n = { s.ax n with queue := r } := by
  obtain ⟨b, hpop⟩ := auxPop_cons hqueue
  rw [hpop, ax_shown, auxTaken_ax hn]

/-- An empty queue keeps the code and counts UNDER. -/
theorem auxPop_empty (hregs : rising s.regs = true) (hn : n < 4) (hqueue : (s.ax n).queue = []) :
    (auxPop n s).get Reg.AUXn_STATE_CODE n = s.get Reg.AUXn_STATE_CODE n ∧
      (auxPop n s).get Reg.AUXn_QSTAT_UNDER n = satInc 4095 (s.get Reg.AUXn_QSTAT_UNDER n) := by
  unfold auxPop
  rw [hqueue]
  dsimp only
  have hrise : rising (s.inc Reg.AUXn_QSTAT_UNDER n).regs = true := rising_set _ _ _ _ _ _ hregs
  constructor
  · refine (get_int_ne hrise ?_).trans (get_set_ne _ n 0 0 n 0 0 hregs ?_)
    · simp [Fld.key, Reg.AUXn_STATE_CODE, Reg.AUX_INT_STATUS]
      omega
    · simp [Fld.key, Reg.AUXn_STATE_CODE, Reg.AUXn_QSTAT_UNDER]
  · have hlt : satInc 4095 (s.get Reg.AUXn_QSTAT_UNDER n) < 2 ^ 12 := by
      have hold : s.get Reg.AUXn_QSTAT_UNDER n < 2 ^ 12 := bitsOf_lt _ _ _
      unfold satInc
      split <;> omega
    refine (get_int_ne hrise ?_).trans ((get_set_same _ n 0 0 hregs (by decide) (by decide)).trans (Nat.mod_eq_of_lt hlt))
    simp [Fld.key, Reg.AUXn_QSTAT_UNDER, Reg.AUX_INT_STATUS]
    omega

end

/-- Settles O49: a due update takes a sample or counts an empty queue; the other rows are their functions of the model. -/
theorem auxConverterEventsTakeEffect : Obligations.AuxConverterEventsTakeEffect := by
  unfold Obligations.AuxConverterEventsTakeEffect
  refine ⟨?early, ?pops, ?empty, ?notStarting, ?started, ?short, fun s n => rfl⟩
  case early =>
    intro s n hdue
    exact congrArg Host.Outcome.next (if_pos (by simp [hdue]))
  case pops =>
    intro s n v r hdue hnext hmode _ hsync hrec hsrc hqueue _ hn hcanon hv
    obtain ⟨c, hcqueue, hcdone, hupdate⟩ := auxUpdate_pops hdue hnext hmode hsync hrec hsrc hn hcanon
    have hmoved : ((s.auxMoved n.val c).ax n.val).queue = v :: r := by
      rw [ax_auxMoved hn, hcqueue, hqueue]
    have hcode := auxPop_code (rising_auxMoved (rising_of_canon hcanon)) n.isLt hv hmoved
    have hax := auxPop_ax (by rw [aux_auxMoved_length]; exact hn) hmoved
    refine ⟨auxUpdate n.val s, rfl, ?_, ?_, ?_, (keeps_auxUpdate n.val (keeps_refl s)).1⟩
    · rw [hupdate, hcode]
    · rw [hupdate, hax]
    · rw [hupdate, hax, ax_auxMoved hn, hcdone]
  case empty =>
    intro s n hdue hnext hmode hsync hrec hsrc hqueue hn hcanon
    have hregs := rising_of_canon hcanon
    obtain ⟨c, hcqueue, -, hupdate⟩ := auxUpdate_pops hdue hnext hmode hsync hrec hsrc hn hcanon
    obtain ⟨hcode, hunder⟩ := auxPop_empty (s := s.auxMoved n.val c) (rising_auxMoved hregs) n.isLt
      (by rw [ax_auxMoved hn, hcqueue, hqueue])
    refine ⟨auxUpdate n.val s, rfl, ?_, ?_, (keeps_auxUpdate n.val (keeps_refl s)).1⟩
    · rw [hupdate, hcode]
      exact get_set_beside _ n.val 0 0 hregs (by decide) (by decide) (by decide) (by decide)
    · rw [hupdate, hunder, get_auxMoved hregs (by simp [Fld.key, Reg.AUXn_QSTAT_UNDER, Reg.AUXn_STATE_WAVE])]
      rfl
  case notStarting =>
    intro s n hmode
    exact congrArg Host.Outcome.next (if_neg (by simp [hmode]))
  case started =>
    intro s n hmode hticks
    exact congrArg Host.Outcome.next (if_pos (by simp [hmode, hticks]))
  case short =>
    intro s n hshort
    exact congrArg Host.Outcome.next (if_neg (by simp [hshort]))

end Sys2Proof.Machine

/-! PROOFS. The SPI host port (R490 to R493). -/
namespace Sys2Proof.Machine
open Sys2Proof Sys2Proof.Machine.Laws

section
variable {s : State}

/-- A frame is served where the path is open and no request of the port is under way. -/
theorem spiFrame_served {op count width addr : Nat} {data : List Byte} {crcOk : Bool} (hopen : s.pathOpen .spi = true)
    (hfree : s.spiBusy = false) : spiFrame op count width addr data crcOk s = spiServe op count width addr data crcOk s :=
  (if_neg (by simp [hfree])).trans (if_pos hopen)

/-- An access of a good width and count, with as many data as it writes, runs. -/
theorem spiAccess_runs {write fixed : Bool} {count width : Nat} (addr : Nat) (data : List Byte) (hwidth : width ≠ 3)
    (hsome : count ≠ 0) (hcount : count ≤ 256) (hdata : write = true → data.length = count * 2 ^ width) :
    spiAccess write fixed count width addr data s = resume (runReq count 0#32
      ⟨.spi, .spi, 0, write, if fixed then 0 else 2 ^ width, 2 ^ width, count, addr, data, 0, []⟩ s) := by
  unfold spiAccess
  refine if_neg ?_
  rintro (h | h | h | ⟨hw, h⟩)
  · exact hwidth h
  · exact hsome h
  · omega
  · exact h (hdata hw)

theorem spiAccess_width (write fixed : Bool) (count addr : Nat) (data : List Byte) :
    spiAccess write fixed count 3 addr data s = spiRefuse stBad s := by
  unfold spiAccess
  exact if_pos (Or.inl rfl)

/-- A response without an injection: its body between the start byte and the CRC. -/
theorem spiSend_plain (b : List Byte) (hinj : s.flt.inj = none) :
    spiSend b s = { s with host := { s.host with spiOut := [0xA5#8] ++ b ++ leBytes 4 (crc32c b) } } := by
  unfold spiSend
  rw [injFrame_none hinj]
  rfl

end

/-- Settles O51: a frame is served where the path is open, an access of good form runs, and the others are answered. -/
theorem spiRequestsTakeEffect : Obligations.SpiRequestsTakeEffect := by
  unfold Obligations.SpiRequestsTakeEffect
  refine ⟨?read, ?write, ?readFix, ?writeFix, ?badCrc, ?badWidth, ?status, ?repeats, fun s => rfl, fun s b => spiSend_plain b, ?waits⟩
  case read =>
    intro s c w a hopen hfree hwidth hsome hcount
    exact congrArg Host.Outcome.next ((spiFrame_served hopen hfree).trans (spiAccess_runs _ _ hwidth hsome hcount (by simp)))
  case write =>
    intro s c w a d hopen hfree hwidth hsome hcount hdata
    exact congrArg Host.Outcome.next ((spiFrame_served hopen hfree).trans (spiAccess_runs _ _ hwidth hsome hcount fun _ => hdata))
  case readFix =>
    intro s c w a hopen hfree hwidth hsome hcount
    exact congrArg Host.Outcome.next ((spiFrame_served hopen hfree).trans (spiAccess_runs _ _ hwidth hsome hcount (by simp)))
  case writeFix =>
    intro s c w a d hopen hfree hwidth hsome hcount hdata
    exact congrArg Host.Outcome.next ((spiFrame_served hopen hfree).trans (spiAccess_runs _ _ hwidth hsome hcount fun _ => hdata))
  case badCrc =>
    intro s c w a hopen hfree
    exact congrArg Host.Outcome.next (spiFrame_served hopen hfree)
  case badWidth =>
    intro s c a d hopen hfree
    exact congrArg Host.Outcome.next ((spiFrame_served hopen hfree).trans (spiAccess_width true false c.val a.toNat d))
  case status =>
    intro s hopen hfree
    exact congrArg Host.Outcome.next (spiFrame_served hopen hfree)
  case repeats =>
    intro s hopen hfree hkept
    exact congrArg Host.Outcome.next ((spiFrame_served hopen hfree).trans (if_neg hkept))
  case waits =>
    intro s count width addr crcOk hfree hclosed hfw
    exact congrArg Host.Outcome.next ((if_neg (by simp [hfree])).trans ((if_neg (by simp [hclosed])).trans (if_pos hfw)))

end Sys2Proof.Machine

/-! PROOFS. The test port and its DAW commands (R521 to R523). -/
namespace Sys2Proof.Machine
open Sys2Proof Sys2Proof.Machine.Laws

section
variable {s : State}

/-- An instruction of the boundary scan makes every channel safe. -/
theorem tapLoad_drives {code : Nat} (hcode : code = 0 ∨ code = 4 ∨ code = 5) :
    tapLoad code s = ((fun u : State => { u with flt := { u.flt with ownExt := true } })
      { s with host := { s.host with tap := code } }).event.raiseActive 0x85 0 := by
  have hplain : (if code = 0x20 && s.is Reg.DBG_CFG_LOCK then 0xFF else code) = code := if_neg (by
    rcases hcode with rfl | rfl | rfl <;> simp)
  unfold tapLoad
  simp only [hplain]
  exact if_pos hcode

/-- Another instruction, as the port takes it: DAW is the bypass while the port is locked. -/
theorem tapLoad_other {code as : Nat} (htaken : (if code = 0x20 && s.is Reg.DBG_CFG_LOCK then 0xFF else code) = as)
    (hcode : ¬(as = 0 ∨ as = 4 ∨ as = 5)) :
    tapLoad code s = if s.flt.ownExt then ((fun u : State => { u with flt := { u.flt with ownExt := false } })
      { s with host := { s.host with tap := as } }).endActive 0x85 0 else { s with host := { s.host with tap := as } } := by
  unfold tapLoad
  simp only [htaken]
  exact if_neg hcode

/-- An instruction that ends what the boundary scan drives, and one that finds nothing to end. -/
theorem tapLoad_ends {code : Nat} (hcode : ¬(code = 0 ∨ code = 4 ∨ code = 5 ∨ code = 0x20)) (hext : s.flt.ownExt = true) :
    tapLoad code s = ((fun u : State => { u with flt := { u.flt with ownExt := false } })
      { s with host := { s.host with tap := code } }).endActive 0x85 0 :=
  (tapLoad_other (if_neg (by simp; omega)) (by omega)).trans (if_pos hext)

theorem tapLoad_selects {code as : Nat} (htaken : (if code = 0x20 && s.is Reg.DBG_CFG_LOCK then 0xFF else code) = as)
    (hcode : ¬(as = 0 ∨ as = 4 ∨ as = 5)) (hext : s.flt.ownExt = false) :
    tapLoad code s = { s with host := { s.host with tap := as } } :=
  (tapLoad_other htaken hcode).trans (if_neg (by simp [hext]))

/-- A DAW command with the path open, its register selected and none under way is one access of tenancy 0. -/
theorem daw_runs {write : Bool} (a data : Nat) (hopen : s.pathOpen .debug = true) (htap : s.host.tap = 0x20)
    (hfree : s.host.dawBusy = false) :
    daw write a data s = resume (runReq 1 0#32 ⟨.daw, .debug, 0, write, 0, 4, 1, a % 2 ^ 32, leBytes 4 data, 0, []⟩
      ({ s with host := { s.host with dawAddr := a % 2 ^ 32, dawBusy := true } } : State)) :=
  if_neg (by simp [hopen, htap, hfree])

end

/-- Settles O54: each row is its function of the model, an instruction or one access of the DAW. -/
theorem testPortCommandsTakeEffect : Obligations.TestPortCommandsTakeEffect := by
  unfold Obligations.TestPortCommandsTakeEffect
  have hword (a : Word) : a.toNat % 2 ^ 32 = a.toNat := Nat.mod_eq_of_lt a.isLt
  refine ⟨?extest, ?clamp, ?highz, ?idcode, ?sample, ?bypass, ?reset, ?idcodeOnly, ?sampleOnly, ?bypassOnly, ?resetOnly, ?dawOnly,
    ?locked, ?read, ?write, ?readNext, ?writeNext, ?busy⟩
  case extest => exact fun s => congrArg Host.Outcome.next (tapLoad_drives (Or.inl rfl))
  case clamp => exact fun s => congrArg Host.Outcome.next (tapLoad_drives (Or.inr (Or.inl rfl)))
  case highz => exact fun s => congrArg Host.Outcome.next (tapLoad_drives (Or.inr (Or.inr rfl)))
  case idcode => exact fun s hext => congrArg Host.Outcome.next (tapLoad_ends (by decide) hext)
  case sample => exact fun s hext => congrArg Host.Outcome.next (tapLoad_ends (by decide) hext)
  case bypass => exact fun s hext => congrArg Host.Outcome.next (tapLoad_ends (by decide) hext)
  case reset => exact fun s hext => congrArg Host.Outcome.next (tapLoad_ends (by decide) hext)
  case idcodeOnly => exact fun s hext => congrArg Host.Outcome.next (tapLoad_selects (if_neg (by simp)) (by decide) hext)
  case sampleOnly => exact fun s hext => congrArg Host.Outcome.next (tapLoad_selects (if_neg (by simp)) (by decide) hext)
  case bypassOnly => exact fun s hext => congrArg Host.Outcome.next (tapLoad_selects (if_neg (by simp)) (by decide) hext)
  case resetOnly => exact fun s hext => congrArg Host.Outcome.next (tapLoad_selects (if_neg (by simp)) (by decide) hext)
  case dawOnly =>
    exact fun s hext hlock => congrArg Host.Outcome.next (tapLoad_selects (if_neg (by simp [hlock])) (by decide) hext)
  case locked =>
    exact fun s hext hlock => congrArg Host.Outcome.next (tapLoad_selects (if_pos (by simp [hlock])) (by decide) hext)
  case read =>
    intro s a hopen htap hfree
    have hruns := daw_runs (write := false) a.toNat 0 hopen htap hfree
    rw [hword] at hruns
    exact congrArg Host.Outcome.next hruns
  case write =>
    intro s a d hopen htap hfree
    have hruns := daw_runs (write := true) a.toNat d.toNat hopen htap hfree
    rw [hword] at hruns
    exact congrArg (fun u => Host.Outcome.next (served s u)) hruns
  case readNext =>
    exact fun s hopen htap hfree => congrArg Host.Outcome.next (daw_runs _ _ hopen htap hfree)
  case writeNext =>
    exact fun s d hopen htap hfree => congrArg (fun u => Host.Outcome.next (served s u)) (daw_runs _ _ hopen htap hfree)
  case busy =>
    intro s a hbusy
    exact congrArg Host.Outcome.next (if_pos (by simp [hbusy]))

end Sys2Proof.Machine

/-! PROOFS. Flary messages, and slots and messages over Flary (R495 to R504). -/
namespace Sys2Proof.Machine
open Sys2Proof Sys2Proof.Machine.Laws

section
variable {s : State} {r : FlaryReq}

/-! ## A request that reaches this node -/

/-- Service core 1 takes what comes by the ring, the branch port and the SPI host port. -/
theorem pathOpen_ring (s : State) (b : Bool) : s.pathOpen (.ring b) = s.pathOpen .spi := rfl

theorem pathOpen_branch (s : State) : s.pathOpen .branch = s.pathOpen .spi := rfl

theorem core1_open (w : Waiting) (f : State → State) (hopen : s.pathOpen .spi = true) : core1 w f s = f s := if_pos hopen

/-- What it takes for a request of a ring port to be acted on by its target. -/
theorem flaryReach_parts (hreach : s.flaryReach r = true) :
    s.linkUp r.port = true ∧ r.branch = false ∧ (s.flaryIn r).inService r.port = true ∧ r.target.toNat = (s.flaryIn r).baseMac ∧
      ¬(r.relay.toNat = (s.flaryIn r).baseMac ∧ r.relay ≠ 0#48) ∧ (s.flaryIn r).is Reg.TEN_FLARY_CFG_RING = true ∧
      (s.flaryIn r).pathOpen .spi = true := by
  unfold State.flaryReach at hreach
  simp only [Bool.and_eq_true, decide_eq_true_eq] at hreach
  obtain ⟨⟨⟨⟨⟨⟨hlink, hbranch⟩, hservice⟩, hown⟩, hrelay⟩, hring⟩, hopen⟩ := hreach
  have hbranch : r.branch = false := by simpa using hbranch
  refine ⟨hlink, hbranch, hservice, hown, fun ⟨hrelayed, hnamed⟩ => by simp [hrelayed, hnamed] at hrelay, hring, ?_⟩
  have hpath : r.path = .ring r.portB := by simp [FlaryReq.path, hbranch]
  rw [hpath, pathOpen_ring] at hopen
  exact hopen

theorem flaryTake_own (act : State → State) (hown : r.target.toNat = s.baseMac) (hbranch : r.branch = false) :
    flaryTake r act s = act s := by
  simp [flaryTake, hown, hbranch]

theorem flaryArrive_reach (act : State → State) (hreach : s.flaryReach r = true) : flaryArrive r act s = act (s.flaryIn r) := by
  obtain ⟨hlink, hbranch, hservice, hown, hrelay, hring, hopen⟩ := flaryReach_parts hreach
  unfold flaryArrive
  rw [if_neg (by simp [hlink])]
  dsimp only
  rw [show s.event.rxCount r.port (r.frame s) = s.flaryIn r from rfl, if_neg (by simp [hbranch]), if_neg (by simp [hservice]),
    if_neg hrelay, if_pos hown, if_pos (by simp [hown, hring])]
  exact (core1_open _ _ hopen).trans (flaryTake_own act hown hbranch)

theorem flaryRow_reach {k : Nat} (hrow : r.rowOf = some k) (hreach : s.flaryReach r = true) :
    flaryRow k r s = flaryAct r (s.flaryIn r) := by
  unfold flaryRow
  rw [hrow]
  exact (if_pos rfl).trans (flaryArrive_reach _ hreach)

theorem flaryOk_reach (hok : s.flaryOk r = true) : s.flaryReach r = true := by
  unfold State.flaryOk at hok
  simp only [Bool.and_eq_true] at hok
  exact hok.1.1.1

/-- An authentic and new request is given on, its SEQ noted. -/
theorem flaryCheck_ok (act : State → State) (hok : s.flaryOk r = true) : flaryCheck r act (s.flaryIn r) = act (s.flaryAt r) := by
  unfold State.flaryOk at hok
  simp only [Bool.and_eq_true, decide_eq_true_eq] at hok
  obtain ⟨⟨⟨-, hkey⟩, hauth⟩, hnew⟩ := hok
  unfold flaryCheck
  rw [if_neg (by simp [hkey, ← hauth])]
  cases hseen : (s.flaryIn r).flarySeen r with
  | none => rfl
  | some x =>
    rw [hseen] at hnew
    exact if_pos (of_decide_eq_true hnew)

theorem flaryAuthFail_ring (hbranch : r.branch = false) :
    flaryAuthFail r s =
      flaryAnswer r.hdr false stAuth 0 [] (((s.inc Reg.TEN_CNT_AUTH).int Reg.TEN_INT_STATUS_AUTH).raise 0x80 r.ten.val) := by
  rw [flaryAuthFail, hbranch]

/-! ## The row of a request -/

theorem rowOf_plain {n : Nat} (hop : r.op.val = n) (hn : n ≠ 8 ∧ n ≠ 9 ∧ n ≠ 0 ∧ n ≤ 11 ∧ n ≠ 7) : r.rowOf = some n := by
  obtain ⟨h8, h9, h0, h11, h7⟩ := hn
  unfold FlaryReq.rowOf
  rw [hop]
  split
  · exact absurd rfl h8
  · exact absurd rfl h9
  · exact if_pos ⟨h0, h11, h7⟩

theorem rowOf_slot {act : Nat} (hop : r.op.val = 8) (hact : beAt r.body 0 1 = act) (hrange : 1 ≤ act ∧ act ≤ 4) :
    r.rowOf = some (16 + act) := by
  unfold FlaryReq.rowOf
  rw [hop, hact]
  exact if_pos hrange

theorem rowOf_msg {act : Nat} (hop : r.op.val = 9) (hact : beAt r.body 0 1 = act) (hrange : 1 ≤ act ∧ act ≤ 5) :
    r.rowOf = some (32 + act) := by
  unfold FlaryReq.rowOf
  rw [hop, hact]
  exact if_pos hrange

/-- An accepted request of a row does what the row asks for. -/
theorem flaryRow_ok {k : Nat} {act : State → State} (hrow : r.rowOf = some k) (hok : s.flaryOk r = true)
    (hact : ∀ u, flaryAct r u = flaryCheck r act u) : flaryRow k r s = act (s.flaryAt r) := by
  rw [flaryRow_reach hrow (flaryOk_reach hok), hact, flaryCheck_ok act hok]

theorem flaryRight_held {k : Nat} (act : State → State) (hright : s.hasRight r.ten.val k = true) : flaryRight k r act s = act s :=
  if_pos hright

/-! ## Its accesses -/

theorem flaryAccess_runs {write fixed : Bool} (hlen : 8 ≤ r.body.length) (hwidth : beAt r.body 0 1 ≤ 2) (hsome : beAt r.body 2 2 ≠ 0)
    (hcount : beAt r.body 2 2 ≤ 256)
    (hdata : r.body.length = 8 + if write then beAt r.body 2 2 * 2 ^ beAt r.body 0 1 else 0) :
    flaryAccess write fixed r s = resume (runReq (beAt r.body 2 2) 0#32 ⟨.flary r.hdr.pack r.branch, r.path, r.ten.val, write,
      if fixed then 0 else 2 ^ beAt r.body 0 1, 2 ^ beAt r.body 0 1, beAt r.body 2 2, beAt r.body 4 4, r.body.drop 8, 0, []⟩ s) := by
  refine if_neg ?_
  have hdrop : (r.body.drop 8).length = if write then beAt r.body 2 2 * 2 ^ beAt r.body 0 1 else 0 := by
    rw [List.length_drop, hdata, Nat.add_sub_cancel_left]
  rintro (h | h | h | h | h)
  · omega
  · omega
  · exact hsome h
  · omega
  · exact h hdrop

/-- The row of an access that is accepted. -/
theorem flaryAccess_row {k : Nat} {write fixed : Bool} (hrow : r.rowOf = some k) (hok : s.flaryOk r = true)
    (hact : ∀ u, flaryAct r u = flaryCheck r (flaryAccess write fixed r) u) (hlen : 8 ≤ r.body.length) (hwidth : beAt r.body 0 1 ≤ 2)
    (hsome : beAt r.body 2 2 ≠ 0) (hcount : beAt r.body 2 2 ≤ 256)
    (hdata : r.body.length = 8 + if write then beAt r.body 2 2 * 2 ^ beAt r.body 0 1 else 0) :
    flaryRow k r s = resume (runReq (beAt r.body 2 2) 0#32 ⟨.flary r.hdr.pack r.branch, r.path, r.ten.val, write,
      if fixed then 0 else 2 ^ beAt r.body 0 1, 2 ^ beAt r.body 0 1, beAt r.body 2 2, beAt r.body 4 4, r.body.drop 8, 0, []⟩
      (s.flaryAt r)) :=
  (flaryRow_ok hrow hok hact).trans (flaryAccess_runs hlen hwidth hsome hcount hdata)

/-! ## Subscriptions -/

theorem eventSub_ends (hbody : r.body = leBytes 4 0) :
    eventSub r s = flaryReply r stOk []
      { s with ten := { s.ten with subs := s.ten.subs.filter (fun u => !(u.ten = r.ten.val && u.mac = r.reqMac.toNat)) } } := by
  have hmask : beAt r.body 0 4 = 0 := by
    rw [hbody]
    decide
  unfold eventSub
  rw [if_neg (by simp [hbody, leBytes])]
  extract_lets t mask rest mine kept rose new
  have hkept : kept = rest := if_neg fun h => h.2 hmask
  have hnew : new = [] := if_pos hmask
  rw [hkept, hnew, List.append_nil]

theorem eventSub_new (hlen : r.body.length = 4) (hmask : beAt r.body 0 4 ≠ 0) (hbranch : r.branch = false)
    (hnone : s.ten.subs.all (fun u => u.ten ≠ r.ten.val) = true) :
    eventSub r s = flaryReply r stOk [] { s with ten := { s.ten with
      subs := s.ten.subs ++ [⟨r.ten.val, r.reqMac.toNat, beAt r.body 0 4, 0, false, r.relay.toNat⟩] } } := by
  have hother : ∀ u ∈ s.ten.subs, u.ten ≠ r.ten.val := fun u hu => of_decide_eq_true (List.all_eq_true.mp hnone u hu)
  unfold eventSub
  rw [if_neg (by simp [hlen])]
  extract_lets t mask rest mine kept rose new
  have hrest : rest = s.ten.subs := List.filter_eq_self.mpr fun u hu => by simp [t, hother u hu]
  have hmine : mine = [] := List.filter_eq_nil_iff.mpr fun u hu => by
    rw [hrest] at hu
    simpa [t] using hother u hu
  have hkept : kept = s.ten.subs := (if_neg fun h => by simp [hmine] at h).trans hrest
  have hfind : s.ten.subs.find? (fun u => u.ten = t && u.mac = r.reqMac.toNat) = none :=
    List.find?_eq_none.mpr fun u hu => by simp [t, hother u hu]
  have hrose : rose = 0 := by
    simp only [rose, hfind]
  have hnew : new = [⟨r.ten.val, r.reqMac.toNat, beAt r.body 0 4, 0, false, r.relay.toNat⟩] := by
    simp only [new, mask, hrose, hbranch, if_neg hmask, t]
  rw [hkept, hnew]

end

/-! ## Events and responses -/

section
variable {s : State}

theorem eventSend_none {k : Nat} (hnone : s.ten.subs[k]? = none) : eventSend k s = s := by
  simp only [eventSend, hnone]

theorem eventSend_some {k : Nat} {u : Sub} (hsub : s.ten.subs[k]? = some u) (hrose : u.rose ≠ 0)
    (hopen : s.pathOpen .branch = true) :
    ∃ (h : FlaryHdr) (auth body : List Byte), h.op = 7 ∧ h.ten = u.ten ∧ h.reqMac = u.mac ∧ h.relay = u.relay ∧
      body.take 4 = leBytes 4 u.rose ∧ auth = s.flaryAuth u.ten (h.bytes body.length ++ body) ∧
      eventSend k s = flarySend u.branch h auth body
        { s with free := s.free + 1, ten := { s.ten with subs := setNth s.ten.subs k { u with rose := 0 } } } := by
  unfold eventSend
  simp only [hsub]
  rw [if_neg (by simp [hrose, hopen])]
  exact ⟨_, _, _, rfl, rfl, rfl, rfl, List.take_left' (by simp [leBytes]), rfl, rfl⟩

variable {r : FlaryReq}

/-- A response or an EVENT of another node on a segment in service. -/
theorem flaryResponse_other (hop : 128 ≤ r.op.val) (hlink : s.linkUp r.port = true) (hbranch : r.branch = false)
    (hservice : (s.flaryIn r).inService r.port = true) (hother : r.target.toNat ≠ (s.flaryIn r).baseMac) :
    flaryResponse r s = if r.relay.toNat = (s.flaryIn r).baseMac ∧ r.relay ≠ 0#48 then
      core1 (.flary r) (flaryRelayed r) (s.flaryIn r) else flaryPass r (s.flaryIn r) := by
  unfold flaryResponse
  rw [if_neg (by simp [hlink]; omega)]
  dsimp only
  rw [show s.event.rxCount r.port (r.frame s) = s.flaryIn r from rfl, if_neg (by simp [hbranch, hservice, hother])]

end

/-! ## The obligations -/

/-- Settles O52: a request that reaches this node does what its row asks for, and what goes on is passed on or relayed. -/
theorem flaryMessagesTakeEffect : Obligations.FlaryMessagesTakeEffect := by
  unfold Obligations.FlaryMessagesTakeEffect
  refine ⟨?discover, ?read, ?write, ?readFix, ?writeFix, ?subEnds, ?subNew, ?subBarred, ?log, ?telemetry, ?noKey,
    fun s k hnone => congrArg Host.Outcome.next (eventSend_none hnone), ?event, fun s k => rfl, ?passed, ?relayed, ?discoverBad, ?waits⟩
  case discover =>
    intro s r hop hreach hbody
    have hplain : flaryAct r (s.flaryIn r) = flaryDiscover r (s.flaryIn r) := by
      simp only [flaryAct, rowOf_plain hop (by decide)]
    refine congrArg Host.Outcome.next ((flaryRow_reach (rowOf_plain hop (by decide)) hreach).trans (hplain.trans ?_))
    rw [← (flaryReach_parts hreach).2.1]
    exact if_neg (by simp [hbody])
  case discoverBad =>
    intro s r hop hreach hbody
    have hplain : flaryAct r (s.flaryIn r) = flaryDiscover r (s.flaryIn r) := by
      simp only [flaryAct, rowOf_plain hop (by decide)]
    refine congrArg Host.Outcome.next ((flaryRow_reach (rowOf_plain hop (by decide)) hreach).trans (hplain.trans ?_))
    rw [← (flaryReach_parts hreach).2.1]
    exact if_pos hbody
  case read =>
    intro s r hop hok hlen hwidth hsome hcount hdata
    have hrow := rowOf_plain hop (by decide)
    exact congrArg Host.Outcome.next (flaryAccess_row (write := false) (fixed := false) hrow hok
      (fun u => by simp only [flaryAct, hrow]) hlen hwidth hsome hcount hdata)
  case write =>
    intro s r hop hok hlen hwidth hsome hcount hdata
    have hrow := rowOf_plain hop (by decide)
    exact congrArg Host.Outcome.next (flaryAccess_row (write := true) (fixed := false) hrow hok
      (fun u => by simp only [flaryAct, hrow]) hlen hwidth hsome hcount hdata)
  case readFix =>
    intro s r hop hok hlen hwidth hsome hcount hdata
    have hrow := rowOf_plain hop (by decide)
    exact congrArg Host.Outcome.next (flaryAccess_row (write := false) (fixed := true) hrow hok
      (fun u => by simp only [flaryAct, hrow]) hlen hwidth hsome hcount hdata)
  case writeFix =>
    intro s r hop hok hlen hwidth hsome hcount hdata
    have hrow := rowOf_plain hop (by decide)
    exact congrArg Host.Outcome.next (flaryAccess_row (write := true) (fixed := true) hrow hok
      (fun u => by simp only [flaryAct, hrow]) hlen hwidth hsome hcount hdata)
  case subEnds =>
    intro s r hop hok hright hbody
    have hrow := rowOf_plain hop (by decide)
    refine congrArg Host.Outcome.next ((flaryRow_ok hrow hok fun u => ?_).trans
      ((flaryRight_held (eventSub r) hright).trans (eventSub_ends hbody)))
    simp only [flaryAct, hrow]
  case subNew =>
    intro s r hop hok hright hlen hmask hnone
    have hrow := rowOf_plain hop (by decide)
    have hbranch := (flaryReach_parts (flaryOk_reach hok)).2.1
    refine congrArg Host.Outcome.next ((flaryRow_ok hrow hok fun u => ?_).trans
      ((flaryRight_held (eventSub r) hright).trans (eventSub_new hlen hmask hbranch hnone)))
    simp only [flaryAct, hrow]
  case subBarred =>
    intro s r hop hok hright
    have hrow := rowOf_plain hop (by decide)
    refine congrArg Host.Outcome.next ((flaryRow_ok (act := flaryRight 3 r (eventSub r)) hrow hok fun u => ?_).trans
      (if_neg (by simp [hright])))
    simp only [flaryAct, hrow]
  case log =>
    intro s r hop hok hright hlen hsome hmany
    have hrow := rowOf_plain hop (by decide)
    refine congrArg Host.Outcome.next ((flaryRow_ok hrow hok fun u => ?_).trans
      ((flaryRight_held (logRead r) hright).trans (if_neg (by simp [hlen, hsome]; omega))))
    simp only [flaryAct, hrow]
  case telemetry =>
    intro s r hop hok hright hbody
    have hrow := rowOf_plain hop (by decide)
    refine congrArg Host.Outcome.next ((flaryRow_ok hrow hok fun u => ?_).trans
      ((flaryRight_held (telemetry r) hright).trans (if_neg (by simp [hbody]))))
    simp only [flaryAct, hrow]
  case noKey =>
    intro s r hop hreach hkey
    have hrow := rowOf_plain hop (by decide)
    have hcheck : flaryAct r (s.flaryIn r) = flaryAuthFail r (s.flaryIn r) := by
      simp only [flaryAct, hrow]
      exact if_pos (by simp [hkey])
    exact congrArg Host.Outcome.next ((flaryRow_reach hrow hreach).trans
      (hcheck.trans (flaryAuthFail_ring (flaryReach_parts hreach).2.1)))
  case event =>
    intro s k u hsub hrose hopen
    obtain ⟨h, auth, body, hop, hten, hmac, hrelay, htake, hauth, hsend⟩ := eventSend_some hsub hrose hopen
    exact ⟨h, auth, body, hop, hten, hmac, hrelay, htake, hauth, congrArg Host.Outcome.next hsend⟩
  case passed =>
    intro s r hop hlink hbranch hservice hother hrelay
    exact congrArg Host.Outcome.next ((flaryResponse_other hop hlink hbranch hservice hother).trans (if_neg fun h => h.2 hrelay))
  case relayed =>
    intro s r hop hlink hbranch hservice hother hrelay hsome hopen
    have hspi : (s.flaryIn r).pathOpen .spi = true := by
      rw [← pathOpen_branch]
      exact hopen
    have hrelayed : flaryResponse r s = flaryRelayed r (s.flaryIn r) := by
      rw [flaryResponse_other hop hlink hbranch hservice hother, if_pos ⟨hrelay, hsome⟩, core1_open _ _ hspi]
    exact congrArg Host.Outcome.next hrelayed
  case waits =>
    intro s w f hclosed hfw
    exact (if_neg (by simp [hclosed])).trans (if_pos hfw)

end Sys2Proof.Machine

/-! PROOFS. Slots and messages over Flary (R70, R205, R500, R501). -/
namespace Sys2Proof.Machine
open Sys2Proof Sys2Proof.Machine.Laws

section
variable {s : State} {r : FlaryReq}

/-! ## Slots -/

/-- The answer to a slot transfer: its status, with the slot's code and state. -/
def slotXferDone (r : FlaryReq) (x : Act) : State :=
  flaryReply r x.2 (wordsLe [BitVec.ofNat 32 ((x.1.slot (beAt r.body 1 1)).code * 256 + (x.1.slot (beAt r.body 1 1)).state)]) x.1.fresh.2

/-- A slot transfer of tenancy 0 in good form. -/
structure SlotXferGood (r : FlaryReq) (act : Nat) : Prop where
  ten : r.ten.val = 0
  named : beAt r.body 0 1 = act
  known : 1 ≤ act ∧ act ≤ 4
  long : 8 ≤ r.body.length
  data : (r.body.drop 8).length ≤ 1024 ∧ (act = 2 ∨ r.body.drop 8 = [])
  slot : beAt r.body 1 1 < 2

/-- The operation of its slot that it asks for; data only at the offset that comes next. -/
def slotXferAct (r : FlaryReq) (act : Nat) (s : State) : Act :=
  match act with
  | 1 => slotOpen (beAt r.body 1 1) s
  | 2 => if beAt r.body 4 4 ≠ (s.slot (beAt r.body 1 1)).bytes.length then (s, stAccess)
    else (slotAppend (beAt r.body 1 1) (r.body.drop 8) s, stOk)
  | 3 => slotClose (beAt r.body 1 1) s
  | _ => slotVerify (beAt r.body 1 1) s

theorem slotXfer_good {act : Nat} (hgood : SlotXferGood r act) : slotXfer r s = slotXferDone r (slotXferAct r act s) := by
  obtain ⟨hten, hact, ⟨h1, h4⟩, hlong, ⟨hmany, hdata⟩, hslot⟩ := hgood
  have hform : ¬(r.body.length < 8 ∨ 1024 < (r.body.drop 8).length ∨ beAt r.body 0 1 = 0 ∨ 4 < beAt r.body 0 1 ∨
      (beAt r.body 0 1 ≠ 2 ∧ r.body.drop 8 ≠ [])) := by
    rw [hact]
    rintro (h | h | h | h | ⟨h, h'⟩)
    · omega
    · omega
    · omega
    · omega
    · exact h' (hdata.resolve_left h)
  unfold slotXfer
  extract_lets b a sl off data
  rw [if_neg (by simpa using hten), if_neg hform, if_neg (by simp only [sl, b]; omega)]
  have hsl : ¬2 ≤ sl := by simp only [sl, b]; omega
  have hsl' : sl < 2 := hslot
  simp only [hsl, if_false, hsl', if_true]
  have ha : a = act := hact
  rw [ha]
  rcases show act = 1 ∨ act = 2 ∨ act = 3 ∨ act = 4 by omega with rfl | rfl | rfl | rfl <;> rfl

/-- An accepted slot transfer in good form. -/
theorem slotXfer_row {act : Nat} (hop : r.op.val = 8) (hok : s.flaryOk r = true) (hgood : SlotXferGood r act) :
    flaryRow (16 + act) r s = slotXferDone r (slotXferAct r act (s.flaryAt r)) := by
  have hrow := rowOf_slot hop hgood.named hgood.known
  refine (flaryRow_ok (act := slotXfer r) hrow hok fun u => ?_).trans (slotXfer_good hgood)
  obtain ⟨h1, h4⟩ := hgood.known
  rcases show act = 1 ∨ act = 2 ∨ act = 3 ∨ act = 4 by omega with rfl | rfl | rfl | rfl <;> simp [flaryAct, hrow]

/-! ## Messages -/

/-- The answer to a message transfer: its status, with the message's. -/
def msgXferDone (r : FlaryReq) (x : Act) : State :=
  flaryReply r x.2 (wordsLe [x.1.msgStatus (beAt r.body 1 2)]) x.1

/-- A message transfer in good form. -/
structure MsgXferGood (r : FlaryReq) (act : Nat) : Prop where
  named : beAt r.body 0 1 = act
  known : 1 ≤ act ∧ act ≤ 5
  long : 7 ≤ r.body.length
  data : (r.body.drop 7).length ≤ 1024 ∧ (act = 2 ∨ r.body.drop 7 = [])
  number : beAt r.body 1 2 ≤ 1023

/-- The operation of its message that it asks for; data only at the offset that comes next. -/
def msgXferAct (r : FlaryReq) (act : Nat) (s : State) : Act :=
  match act with
  | 1 => msgOp 1 (beAt r.body 1 2) s
  | 2 => if beAt r.body 1 2 = 0 ∨ beAt r.body 3 4 ≠ (s.msg (beAt r.body 1 2)).bytes.length then (s, stAccess)
    else (msgAppend (beAt r.body 1 2) (r.body.drop 7) s, stOk)
  | 3 => msgOp 0 (beAt r.body 1 2) s
  | 4 => msgOp 3 (beAt r.body 1 2) s
  | _ => msgOp 2 (beAt r.body 1 2) s

theorem msgXfer_good {act : Nat} (hgood : MsgXferGood r act) : msgXfer r s = msgXferDone r (msgXferAct r act s) := by
  obtain ⟨hact, ⟨h1, h5⟩, hlong, ⟨hmany, hdata⟩, hnumber⟩ := hgood
  have hform : ¬(r.body.length < 7 ∨ 1024 < (r.body.drop 7).length ∨ beAt r.body 0 1 = 0 ∨ 5 < beAt r.body 0 1 ∨
      (beAt r.body 0 1 ≠ 2 ∧ r.body.drop 7 ≠ [])) := by
    rw [hact]
    rintro (h | h | h | h | ⟨h, h'⟩)
    · omega
    · omega
    · omega
    · omega
    · exact h' (hdata.resolve_left h)
  unfold msgXfer
  extract_lets b a num off data
  rw [if_neg hform, if_neg (by simp only [num, b]; omega)]
  have ha : a = act := hact
  rw [ha]
  rcases show act = 1 ∨ act = 2 ∨ act = 3 ∨ act = 4 ∨ act = 5 by omega with rfl | rfl | rfl | rfl | rfl <;> rfl

/-- An accepted message transfer in good form, with the right. -/
theorem msgXfer_row {act : Nat} (hop : r.op.val = 9) (hok : s.flaryOk r = true) (hright : (s.flaryAt r).hasRight r.ten.val 0 = true)
    (hgood : MsgXferGood r act) : flaryRow (32 + act) r s = msgXferDone r (msgXferAct r act (s.flaryAt r)) := by
  have hrow := rowOf_msg hop hgood.named hgood.known
  refine (flaryRow_ok (act := flaryRight 0 r (msgXfer r)) hrow hok fun u => ?_).trans
    ((flaryRight_held (msgXfer r) hright).trans (msgXfer_good hgood))
  obtain ⟨h1, h5⟩ := hgood.known
  rcases show act = 1 ∨ act = 2 ∨ act = 3 ∨ act = 4 ∨ act = 5 by omega with rfl | rfl | rfl | rfl | rfl <;> simp [flaryAct, hrow]

end

/-- Settles O53: an accepted transfer in good form is the operation of its slot or message, answered with what that leaves. -/
theorem flaryTransfersTakeEffect : Obligations.FlaryTransfersTakeEffect := by
  unfold Obligations.FlaryTransfersTakeEffect
  refine ⟨?slotOpen, ?slotData, ?slotClose, ?slotVerify, ?barred, ?msgOpen, ?msgData, ?msgClose, ?msgVerify, ?msgDelete⟩
  case slotOpen =>
    intro s r hop hok hact hten hlong hdata hslot
    exact congrArg Host.Outcome.next
      (slotXfer_row hop hok ⟨hten, hact, by decide, hlong, ⟨by simp [hdata], Or.inr hdata⟩, hslot⟩)
  case slotData =>
    intro s r hop hok hact hten hlong hmany hslot hoff
    have hnext : slotXferAct r 2 (s.flaryAt r) = (slotAppend (beAt r.body 1 1) (r.body.drop 8) (s.flaryAt r), stOk) :=
      if_neg fun h => h hoff
    have hrun := slotXfer_row hop hok
      ⟨hten, hact, by decide, hlong, ⟨by rw [List.length_drop]; omega, Or.inl rfl⟩, hslot⟩
    rw [hnext] at hrun
    exact congrArg Host.Outcome.next hrun
  case slotClose =>
    intro s r hop hok hact hten hlong hdata hslot
    exact congrArg Host.Outcome.next
      (slotXfer_row hop hok ⟨hten, hact, by decide, hlong, ⟨by simp [hdata], Or.inr hdata⟩, hslot⟩)
  case slotVerify =>
    intro s r hop hok hact hten hlong hdata hslot
    exact congrArg Host.Outcome.next
      (slotXfer_row hop hok ⟨hten, hact, by decide, hlong, ⟨by simp [hdata], Or.inr hdata⟩, hslot⟩)
  case barred =>
    intro s r hop hok hact hten
    have hrow := rowOf_slot hop hact (by decide)
    refine congrArg Host.Outcome.next ((flaryRow_ok (act := slotXfer r) hrow hok fun u => ?_).trans (if_pos hten))
    simp [flaryAct, hrow]
  case msgOpen =>
    intro s r hop hok hact hright hlong hdata hnumber
    exact congrArg Host.Outcome.next
      (msgXfer_row hop hok hright ⟨hact, by decide, hlong, ⟨by simp [hdata], Or.inr hdata⟩, hnumber⟩)
  case msgData =>
    intro s r hop hok hact hright hlong hmany hnumber hsome hoff
    have hnext : msgXferAct r 2 (s.flaryAt r) = (msgAppend (beAt r.body 1 2) (r.body.drop 7) (s.flaryAt r), stOk) :=
      if_neg fun h => h.elim hsome fun h => h hoff
    have hrun := msgXfer_row hop hok hright
      ⟨hact, by decide, hlong, ⟨by rw [List.length_drop]; omega, Or.inl rfl⟩, hnumber⟩
    rw [hnext] at hrun
    exact congrArg Host.Outcome.next hrun
  case msgClose =>
    intro s r hop hok hact hright hlong hdata hnumber
    exact congrArg Host.Outcome.next
      (msgXfer_row hop hok hright ⟨hact, by decide, hlong, ⟨by simp [hdata], Or.inr hdata⟩, hnumber⟩)
  case msgVerify =>
    intro s r hop hok hact hright hlong hdata hnumber
    exact congrArg Host.Outcome.next
      (msgXfer_row hop hok hright ⟨hact, by decide, hlong, ⟨by simp [hdata], Or.inr hdata⟩, hnumber⟩)
  case msgDelete =>
    intro s r hop hok hact hright hlong hdata hnumber
    exact congrArg Host.Outcome.next
      (msgXfer_row hop hok hright ⟨hact, by decide, hlong, ⟨by simp [hdata], Or.inr hdata⟩, hnumber⟩)

end Sys2Proof.Machine

/-! PROOFS. A SNAPSHOT frame at a node whose snapshot is armed (R329). -/
namespace Sys2Proof.Machine
open Sys2Proof

/-- A node after reset with its firmware running and the segment of port A in service. -/
def ringNode : State :=
  (({ State.reset with host := { State.reset.host with fwRun := true }, rct := { State.reset.rct with nonce := 5 } } : State).setB
    Reg.PORT_Pp_LINK_LINK true 0).setB Reg.RING_SEG_PORTp_IN_SERVICE true 0

/-- A ring control frame of another node, of MAC address 0x777. -/
def frameOfPeer (typ : Nat) (body : List Byte) : List Byte :=
  (({ State.reset with rct := { State.reset.rct with nonce := 9 } } : State).set Reg.IDENT_MAC_LO 0x777).ctlFrame typ 0 1 body

/-- The node with snapshot 1 pending for tick 4, while STATE does not read ARMED. -/
def snapPending : State := { ringNode with port := { ringNode.port with snapOn := true, snapId := 1, snapTgt := 4 } }

/-- A SNAPSHOT of ID 1 for tick 9. -/
def snapFrame : List Byte := frameOfPeer 13 (beBytes 8 9 ++ beBytes 4 1 ++ List.replicate 4 0#8)

/-- Refutes O55: a pending snapshot of the same ID stays as it is, whatever STATE reads; the clause has it armed anew for the
tick of the frame. -/
theorem not_ringControlFramesTakeEffect : ¬ Obligations.RingControlFramesTakeEffect := by
  unfold Obligations.RingControlFramesTakeEffect
  intro h
  obtain ⟨-, -, -, -, -, -, -, -, -, -, -, -, -, -, -, -, -, -, -, -, -, -, -, -, -, -, hsnapshot, -⟩ := h
  have hstated := hsnapshot snapPending false snapFrame (by decide +kernel) (by decide +kernel) (by decide +kernel)
  have hran : readAfter (fun t => t.port.snapTgt) 0 (exec (.snapshotRx false snapFrame) snapPending) = 4 := by decide +kernel
  rw [hstated] at hran
  revert hran
  decide +kernel

end Sys2Proof.Machine

/-! PROOFS. Times of ring control (R244, R252 to R294). -/
namespace Sys2Proof.Machine
open Sys2Proof Sys2Proof.Machine.Laws

section
variable {s : State}

/-! ## Plans and the handover -/

theorem planResend_waiting {p : Plan} {n : Nat} (hcoord : s.isCoord = true) (hruns : s.ctlRuns = true) (hwaiting : s.rct.waiting = [p])
    (hleft : s.rct.sendsLeft = n + 1) :
    planResend s = (s.ctlSend 6 s.svc (planBody p)).modRct (fun r => { r with sendsLeft := n }) := by
  unfold planResend
  rw [if_neg (by simp [hcoord, hruns]), hwaiting, hleft]
  rfl

theorem planResend_effective {p : Plan} (hcoord : s.isCoord = true) (hruns : s.ctlRuns = true) (hwaiting : s.rct.waiting = [])
    (hplan : s.rdp.plan = some p) : planResend s = s.ctlSend 6 s.svc (planBody p) := by
  unfold planResend
  rw [if_neg (by simp [hcoord, hruns]), hwaiting, hplan]
  cases s.rct.sendsLeft <;> rfl

theorem planCheck_due {p : Plan} (hstart : s.ks.count % s.nTicks = 0) (hctl : s.ctl = 4 ∨ s.ctl = 5)
    (hlock : s.is Reg.KS_STATUS_LOCK = true) (hwaiting : s.rct.waiting = [p]) (hdue : planDue p.effective s.cycleNo = true) :
    planCheck s = putPlan p (p.effective % 2 ^ 32 ≠ s.cycleNo % 2 ^ 32) s := by
  have hwait : s.rct.waiting.filter (fun q => planDue q.effective s.cycleNo) = [p] := by
    rw [hwaiting]
    exact List.filter_eq_self.mpr (by simp [hdue])
  unfold planCheck
  simp only [hwait]
  rw [if_neg (by rcases hctl with h | h <;> simp [hstart, hlock, h])]
  rfl

theorem planCheck_none (hwaiting : s.rct.waiting = []) : planCheck s = s := by
  unfold planCheck
  rw [hwaiting]
  exact ite_self _

theorem timingSwitch_own {m c : Nat} {u : State} (hswitch : s.rct.tmSwitch = some (m, c, true)) (hdue : cycDue c s.cycleNo = true)
    (hu : u = (s.modRct (fun r => { r with tmSwitch := none })).setGm (some m)) (htm : s.isTm = true ∨ u.isTm = true) :
    timingSwitch s = (u.modRct (fun r => { r with tmLock := some u.cycleNo })).setResult 1 := by
  unfold timingSwitch
  rw [hswitch]
  dsimp only
  rw [if_neg (by simp [hdue]), ← hu, if_pos (show (s.isTm || u.isTm) = true by simpa using htm)]
  rfl

theorem timingLapse_asked {m : Nat} (hreq : s.rct.tmReq = some m) :
    timingLapse s = (s.modRct (fun r => { r with tmReq := none })).setResult 8 := by
  simp only [timingLapse, hreq]

/-! ## Probes -/

theorem probeSend_plain {p : Nat} (hlink : s.linkUp p = true) (hout : s.inService p = false) (hruns : s.ctlRuns = true)
    (hplan : s.rdp.plan = none) :
    probeSend p s = s.ctlSend 8 [p] (beBytes 6 ((s.rct.coord.map tupleMac).getD 0) ++ beBytes 2 (s.rct.pos.getD 0xFFFF) ++
      beBytes 8 0 ++ beBytes 2 0 ++ beBytes 2 (b2n (s.is Reg.RING_SEG_PORTp_READY p)) ++
      beBytes 4 (min (2 ^ 32 - 1) (s.upTicks p * 1000 / rateHz s.rate)) ++ beBytes 8 0) := by
  unfold probeSend
  rw [if_neg (by simp [hlink, hout, hruns]), hplan]

theorem probeSend_plan {p : Nat} {pl : Plan} (hlink : s.linkUp p = true) (hout : s.inService p = false) (hruns : s.ctlRuns = true)
    (hplan : s.rdp.plan = some pl) :
    probeSend p s = s.ctlSend 8 [p] (beBytes 6 ((s.rct.coord.map tupleMac).getD 0) ++ beBytes 2 (s.rct.pos.getD 0xFFFF) ++
      beBytes 8 pl.epoch ++ beBytes 2 pl.id ++ beBytes 2 (b2n (s.is Reg.RING_SEG_PORTp_READY p)) ++
      beBytes 4 (min (2 ^ 32 - 1) (s.upTicks p * 1000 / rateHz s.rate)) ++ beBytes 8 0) := by
  unfold probeSend
  rw [if_neg (by simp [hlink, hout, hruns]), hplan]

/-! ## The end of a sleep -/

theorem silenceResume_unplanned (hquiet : s.rct.quiet = true) (hplan : s.rdp.plan = none) :
    silenceResume s = s.modRct (fun r => { r with quiet := false, wakeStep := s.isCoord }) := by
  unfold silenceResume wakeStep
  rw [if_neg (by simp [hquiet]), show (s.modRct (fun r => { r with quiet := false, wakeStep := s.isCoord })).rdp.plan = none from hplan]

theorem silenceResume_grants {p : Plan} (hquiet : s.rct.quiet = true) (hplan : s.rdp.plan = some p) (hcoord : s.isCoord = true)
    (hruns : s.ctlRuns = true) (hstep : s.rct.step = none) (hspeed : p.conf.speed ≠ 0) (hlive : s.noneLive = true) :
    silenceResume s = stepGrant 0xFFFF p.conf.speed (s.modRct (fun r => { r with quiet := false, wakeStep := false })) := by
  unfold silenceResume wakeStep
  rw [if_neg (by simp [hquiet]), hcoord,
    show (s.modRct (fun r => { r with quiet := false, wakeStep := true })).rdp.plan = some p from hplan]
  dsimp only
  have hmay : ((s.modRct (fun r => { r with quiet := false, wakeStep := true })).rct.wakeStep &&
      (s.modRct (fun r => { r with quiet := false, wakeStep := true })).isCoord &&
      (s.modRct (fun r => { r with quiet := false, wakeStep := true })).ctlRuns &&
      (s.modRct (fun r => { r with quiet := false, wakeStep := true })).rct.step.isNone &&
      (s.modRct (fun r => { r with quiet := false, wakeStep := true })).noneLive) = true := by
    rw [show (s.modRct (fun r => { r with quiet := false, wakeStep := true })).isCoord = true from hcoord,
      show (s.modRct (fun r => { r with quiet := false, wakeStep := true })).ctlRuns = true from hruns,
      show (s.modRct (fun r => { r with quiet := false, wakeStep := true })).rct.step = none from hstep,
      show (s.modRct (fun r => { r with quiet := false, wakeStep := true })).noneLive = true from hlive]
    rfl
  rw [hmay, if_neg (by simp), if_neg hspeed]
  rfl

/-! ## Steps of this node -/

theorem stepRetrain_one {g : StepGo} {p : Nat} (hgo : s.rct.stepLocal = some g) (hports : s.rct.stepPorts = [p])
    (hstay : s.is Reg.RING_SEG_PORTp_STEPPING p = false) (hdue : cycDue g.cycle s.cycleNo = true) :
    stepRetrain s = portsUpdate (((linkDown p ((s.setB Reg.RING_SEG_PORTp_STEPPING true p).setB Reg.RING_SEG_PORTp_IN_SERVICE false p)).inc
      Reg.RING_CTL_CNT_STEP).int Reg.RING_CTL_INT_STATUS_SEGMENT) := by
  have hmine : s.rct.stepPorts.filter (fun q => !s.is Reg.RING_SEG_PORTp_STEPPING q) = [p] := by
    rw [hports]
    exact List.filter_eq_self.mpr (by simp [hstay])
  unfold stepRetrain
  rw [hgo]
  dsimp only
  rw [hmine, if_neg (by simp [hdue])]
  rfl

/-- The registers that a step of port p ends in: the word of its segment and the interrupts of ring control. -/
def steppedKeys (p k : Nat) : Prop := k = 0x80850 + 4 * p ∨ k = 0x80880

theorem segKey (p : Nat) : Reg.RING_SEG_PORTp.key p 0 0 = 0x80850 + 4 * p := by
  simp [Fld.key, Reg.RING_SEG_PORTp]

theorem regFrame_stepPortEnd (p : Nat) : RegFrame (steppedKeys p) s (s.stepPortEnd p) :=
  regFrame_of_regs_eq (regFrame_int (f := Reg.RING_CTL_INT_STATUS_STEP) (regFrame_setB (f := Reg.RING_SEG_PORTp_STEPPING)
    (regFrame_refl _ s) (Or.inl (segKey p))) (Or.inr rfl)) rfl

theorem stepPortEnd_stepping {p : Nat} (hp : p < 2) (hregs : rising s.regs = true) :
    (s.stepPortEnd p).is Reg.RING_SEG_PORTp_STEPPING p = false := by
  have hkey : Reg.RING_SEG_PORTp_STEPPING.key p 0 0 ≠ Reg.RING_CTL_INT_STATUS_STEP.key 0 0 0 := by
    rw [show Reg.RING_SEG_PORTp_STEPPING.key p 0 0 = 0x80850 + 4 * p from segKey p]
    simp [Fld.key, Reg.RING_CTL_INT_STATUS_STEP]
    omega
  have hread : (s.stepPortEnd p).get Reg.RING_SEG_PORTp_STEPPING p = 0 :=
    (get_int_ne (rising_set _ _ _ _ _ _ hregs) hkey).trans (get_set_same _ p 0 0 hregs (by decide) (by decide))
  rw [State.is, hread]
  rfl

/-- Where the words of the two segments and the interrupts alone change, ring control stays in its state, and its firmware in its. -/
theorem ctl_of_stepped {t : State} {K : Nat → Prop} (hframe : RegFrame K s t) (hregs : rising s.regs = true)
    (hkey : ¬K (Reg.RING_CTL_STATUS_STATE.key 0 0 0)) : t.isCoord = s.isCoord := by
  unfold State.isCoord State.ctl
  rw [get_of_regFrame hframe hregs hkey]

theorem ctlRuns_of_stepped {t : State} {K : Nat → Prop} (hframe : RegFrame K s t) (hhost : t.host = s.host) (hregs : rising s.regs = true)
    (hkey : ¬K (Reg.DBG_CORE_STATUS_HALTED.key 0 0 0)) : t.ctlRuns = s.ctlRuns := by
  unfold State.ctlRuns
  rw [get_of_regFrame hframe hregs hkey, hhost]

/-- The segment of a port is back at the granted speed: in service and READY, its step over. -/
def State.steppedBack (s : State) (p : Nat) : State :=
  ((s.stepPortEnd p).setB Reg.RING_SEG_PORTp_IN_SERVICE true p).setB Reg.RING_SEG_PORTp_READY true p

/-- The same once it is noted. -/
def State.steppedUp (s : State) (p : Nat) : State := portsUpdate ((s.steppedBack p).int Reg.RING_CTL_INT_STATUS_SEGMENT)

theorem regFrame_steppedUp (p : Nat) : RegFrame (steppedKeys p) s (s.steppedUp p) :=
  regFrame_of_regs_eq (regFrame_int (f := Reg.RING_CTL_INT_STATUS_SEGMENT) (regFrame_setB (f := Reg.RING_SEG_PORTp_READY)
    (regFrame_setB (f := Reg.RING_SEG_PORTp_IN_SERVICE) (regFrame_stepPortEnd p) (Or.inl (segKey p))) (Or.inl (segKey p)))
    (Or.inr rfl)) rfl

theorem stepPortEnd_host (p : Nat) : (s.stepPortEnd p).host = s.host := State.int_host _ _ _

theorem stepPortEnd_rdp (p : Nat) : (s.stepPortEnd p).rdp = s.rdp := State.int_rdp _ _ _

theorem stepPortEnd_ports (p : Nat) : (s.stepPortEnd p).rct.stepPorts = s.rct.stepPorts.filter (· ≠ p) :=
  congrArg (fun r : RctState => r.stepPorts.filter (· ≠ p)) (State.int_rct _ _ _)

theorem portsUpdate_rdp (s : State) : (portsUpdate s).rdp = s.rdp := rfl

theorem portsUpdate_is (s : State) (f : Fld) (i : Nat) : (portsUpdate s).is f i = s.is f i := rfl

theorem portsUpdate_probes (s : State) : (portsUpdate s).rct.probes = s.rct.probes := rfl

theorem portsUpdate_ports (s : State) : (portsUpdate s).rct.stepPorts = s.rct.stepPorts := rfl

theorem steppedUp_host (p : Nat) : (s.steppedUp p).host = s.host := by
  rw [State.steppedUp, portsUpdate_host, State.int_host, State.steppedBack, State.setB_host, State.setB_host, stepPortEnd_host]

theorem steppedUp_rdp (p : Nat) : (s.steppedUp p).rdp = s.rdp := by
  rw [State.steppedUp, portsUpdate_rdp, State.int_rdp, State.steppedBack, State.setB_rdp, State.setB_rdp, stepPortEnd_rdp]

theorem steppedUp_ports (p : Nat) : (s.steppedUp p).rct.stepPorts = s.rct.stepPorts.filter (· ≠ p) := by
  rw [State.steppedUp, portsUpdate_ports, State.int_rct, State.steppedBack, State.setB_rct, State.setB_rct, stepPortEnd_ports]

/-- With no plan, a node that is not coordinator and whose firmware does not run does no more at its link's return. -/
theorem stepLinkUp_follower {p : Nat} {g : StepGo} (hgo : s.rct.stepLocal = some g)
    (hstepping : s.is Reg.RING_SEG_PORTp_STEPPING p = true) (hlink : s.linkUp p = true) (hspeed : s.speed p = g.speed)
    (hcoord : s.isCoord = false) (hplan : s.rdp.plan = none) (hruns : s.ctlRuns = false) (hregs : rising s.regs = true) (hp : p < 2) :
    stepLinkUp p s = s.steppedUp p := by
  have hframe := regFrame_steppedUp (s := s) p
  have hruns' : (s.steppedUp p).ctlRuns = false := by
    rw [ctlRuns_of_stepped hframe (steppedUp_host p) hregs (by simp [steppedKeys, Fld.key, Reg.DBG_CORE_STATUS_HALTED]; omega), hruns]
  have hcoord' : (s.steppedUp p).isCoord = false := by
    rw [ctl_of_stepped hframe hregs (by simp [steppedKeys, Fld.key, Reg.RING_CTL_STATUS_STATE]; omega), hcoord]
  have hplan' : (s.steppedUp p).rdp.plan = none := by rw [steppedUp_rdp, hplan]
  have hdone : ∀ u : State, u.ctlRuns = false → u.isCoord = false → u.rdp.plan = none →
      capacityCheck (stepOver (u.segOf p) true
        (if u.ctlRuns then u.ctlSend 10 u.svc (stepBody 3 g.speed (u.segOf p) 0 0) else u)) = u := by
    intro u hr hc hpl
    rw [if_neg (by simp [hr]), stepOver, if_pos (by simp [hc]), capacityCheck, hpl]
  unfold stepLinkUp
  rw [hgo]
  dsimp only
  rw [if_neg (by simp [hstepping, hlink, hspeed])]
  exact hdone (s.steppedUp p) hruns' hcoord' hplan'

theorem steppedUp_reads {p : Nat} (hp : p < 2) (hregs : rising s.regs = true) :
    (s.steppedUp p).inService p = true ∧ (s.steppedUp p).is Reg.RING_SEG_PORTp_READY p = true ∧
      (s.steppedUp p).is Reg.RING_SEG_PORTp_STEPPING p = false := by
  have hend := (regFrame_stepPortEnd (s := s) p hregs).1
  have hserved : rising ((s.stepPortEnd p).setB Reg.RING_SEG_PORTp_IN_SERVICE true p).regs = true := rising_set _ _ _ _ _ _ hend
  have hback (f : Fld) (hkey : f.key p 0 0 = 0x80850 + 4 * p) : (s.steppedUp p).is f p = (s.steppedBack p).is f p :=
    congrArg (· == 1) (get_int_ne (rising_set _ _ _ _ _ _ hserved) (by
      rw [hkey]
      simp [Fld.key, Reg.RING_CTL_INT_STATUS_SEGMENT]
      omega))
  refine ⟨(hback Reg.RING_SEG_PORTp_IN_SERVICE (segKey p)).trans ?_, (hback Reg.RING_SEG_PORTp_READY (segKey p)).trans ?_,
    (hback Reg.RING_SEG_PORTp_STEPPING (segKey p)).trans ?_⟩
  · rw [State.steppedBack, State.is, State.setB, get_set_beside _ p 0 0 hserved (by decide) (by decide) (by decide) (by decide),
      State.setB, get_set_same _ p 0 0 hend (by decide) (by decide)]
    rfl
  · rw [State.steppedBack, State.is, State.setB, get_set_same _ p 0 0 hserved (by decide) (by decide)]
    rfl
  · rw [State.steppedBack, State.is, State.setB, get_set_beside _ p 0 0 hserved (by decide) (by decide) (by decide) (by decide),
      State.setB, get_set_beside _ p 0 0 hend (by decide) (by decide) (by decide) (by decide)]
    exact stepPortEnd_stepping hp hregs

/-- What the time-out of a step leaves before the other nodes are told: the step over, its segment down, not READY, no probe heard. -/
def State.steppedOut (s : State) (p : Nat) : State :=
  ((((s.stepPortEnd p).addDown (s.segOf p) 4).setB Reg.RING_SEG_PORTp_READY false p).raise 0x44 p).modRct
    (fun r => { r with probes := setNth r.probes p none })

theorem addDown_keeps (s : State) (seg reason : Nat) : (s.addDown seg reason).regs = s.regs ∧ (s.addDown seg reason).host = s.host ∧
    (s.addDown seg reason).rct.stepPorts = s.rct.stepPorts := by
  unfold State.addDown
  split
  · exact ⟨rfl, rfl, rfl⟩
  · exact ⟨rfl, rfl, rfl⟩

/-- The registers that it writes are those of the step and of the raise. -/
theorem regFrame_steppedOut (p : Nat) : RegFrame (fun k => steppedKeys p k ∨ raiseKeys k) s (s.steppedOut p) := by
  have hdown : RegFrame (fun k => steppedKeys p k ∨ raiseKeys k) s ((s.stepPortEnd p).addDown (s.segOf p) 4) :=
    regFrame_of_regs_eq (regFrame_mono (regFrame_stepPortEnd p) fun k => Or.inl) (addDown_keeps _ _ _).1
  refine regFrame_of_regs_eq (regFrame_trans (regFrame_setB (f := Reg.RING_SEG_PORTp_READY) hdown (Or.inl (Or.inl (segKey p))))
    (regFrame_mono (regFrame_raise _ p 0 (by decide)) fun k => Or.inr)) rfl

theorem steppedOut_host (p : Nat) : (s.steppedOut p).host = s.host :=
  (sameUnits_raise _ 0x44 p 0 none false false).host.trans ((addDown_keeps (s.stepPortEnd p) (s.segOf p) 4).2.1.trans (stepPortEnd_host p))

theorem steppedOut_rct (p : Nat) : (s.steppedOut p).rct =
    (fun r => { r with probes := setNth r.probes p none }) ((s.stepPortEnd p).addDown (s.segOf p) 4).rct :=
  congrArg (fun r : RctState => { r with probes := setNth r.probes p none }) (sameUnits_raise _ 0x44 p 0 none false false).rct

theorem steppedOut_ports (p : Nat) : (s.steppedOut p).rct.stepPorts = s.rct.stepPorts.filter (· ≠ p) := by
  rw [steppedOut_rct]
  exact (addDown_keeps (s.stepPortEnd p) (s.segOf p) 4).2.2.trans (stepPortEnd_ports p)

theorem nth_setNth_none {α : Type} (l : List (Option α)) (n : Nat) : nth (setNth l n none) n none = none := by
  simp only [nth, setNth, List.getD_eq_getElem?_getD, List.getElem?_set_self']
  cases l[n]? <;> rfl

theorem steppedOut_probe (p : Nat) : nth (s.steppedOut p).rct.probes p none = none := by
  rw [steppedOut_rct]
  exact nth_setNth_none _ p

theorem steppedOut_stepping {p : Nat} (hp : p < 2) (hregs : rising s.regs = true) :
    (s.steppedOut p).is Reg.RING_SEG_PORTp_STEPPING p = false := by
  have hend : rising ((s.stepPortEnd p).addDown (s.segOf p) 4).regs = true := by
    rw [(addDown_keeps _ _ _).1]
    exact (regFrame_stepPortEnd (s := s) p hregs).1
  have hraise : (s.steppedOut p).get Reg.RING_SEG_PORTp_STEPPING p =
      (((s.stepPortEnd p).addDown (s.segOf p) 4).setB Reg.RING_SEG_PORTp_READY false p).get Reg.RING_SEG_PORTp_STEPPING p :=
    get_of_regFrame (regFrame_raise _ p 0 (by decide)) (rising_set _ _ _ _ _ _ hend) (by
      rw [show Reg.RING_SEG_PORTp_STEPPING.key p 0 0 = 0x80850 + 4 * p from segKey p]
      simp only [raiseKeys, heldKeys]
      omega)
  have hdown : ((s.stepPortEnd p).addDown (s.segOf p) 4).get Reg.RING_SEG_PORTp_STEPPING p =
      (s.stepPortEnd p).get Reg.RING_SEG_PORTp_STEPPING p := by
    simp only [State.get, State.word, (addDown_keeps _ _ _).1]
  rw [State.is, hraise, State.setB, get_set_beside _ p 0 0 hend (by decide) (by decide) (by decide) (by decide), hdown]
  exact stepPortEnd_stepping hp hregs

/-- While another port still steps, a node that is not coordinator and whose firmware does not run does no more. -/
theorem stepTimeout_follower {p : Nat} {g : StepGo} (hgo : s.rct.stepLocal = some g)
    (hstepping : s.is Reg.RING_SEG_PORTp_STEPPING p = true) (hcoord : s.isCoord = false) (hruns : s.ctlRuns = false)
    (hports : s.rct.stepPorts.filter (· ≠ p) ≠ []) (hregs : rising s.regs = true) (hp : p < 2) :
    stepTimeout p s = portsUpdate (s.steppedOut p) := by
  have hframe := regFrame_steppedOut (s := s) p
  have hruns' : (s.steppedOut p).ctlRuns = false := by
    rw [ctlRuns_of_stepped hframe (steppedOut_host p) hregs
      (by simp [steppedKeys, raiseKeys, heldKeys, Fld.key, Reg.DBG_CORE_STATUS_HALTED]; omega), hruns]
  have hcoord' : (s.steppedOut p).isCoord = false := by
    rw [ctl_of_stepped hframe hregs (by simp [steppedKeys, raiseKeys, heldKeys, Fld.key, Reg.RING_CTL_STATUS_STATE]; omega), hcoord]
  have hcut : (s.steppedOut p).cutOff = false := by
    have hmore : (s.steppedOut p).rct.stepPorts ≠ [] := by rwa [steppedOut_ports]
    simp [State.cutOff, hmore]
  have hdone : ∀ (u : State) (seg : Nat) (a b : List Byte), u.ctlRuns = false → u.isCoord = false → u.cutOff = false →
      (let v := stepOver seg false (if u.ctlRuns then (u.ctlSend 10 u.svc a).ctlSend 7 u.svc b else u)
       if v.cutOff then leaveTo 0 v else portsUpdate v) = portsUpdate u := by
    intro u seg a b hr hc hcutu
    have hquiet : (if u.ctlRuns then (u.ctlSend 10 u.svc a).ctlSend 7 u.svc b else u) = u :=
      if_neg (by simp [hr])
    have hover : stepOver seg false u = u := if_pos (by simp [hc])
    rw [hquiet, hover]
    exact if_neg (by simp [hcutu])
  unfold stepTimeout
  rw [hgo]
  dsimp only
  rw [if_neg (by simp [hstepping])]
  exact hdone (s.steppedOut p) (s.segOf p) _ _ hruns' hcoord' hcut

/-- The outputs that run as a sleep begins. -/
def State.liveOutputs (s : State) : Nat :=
  maskOf ((List.range 12).filter (fun n => if n < 8 then s.ch n = 3 && !bit s.bst.diag.started n else s.anaSt (n - 8) = 3)) 12

theorem sleepEnter_due {m : Nat} (hdue : s.sleepDue = some m) (hawake : s.asleep = false) :
    sleepEnter s = muteOutputs 4095 ((fun u : State => { u with dom := { u.dom with entering := true, resume := s.liveOutputs } })
      ((({ s with dom := { s.dom with sleepAt := none } } : State).set Reg.DOM_STATUS_SLEEP 3).setB Reg.DOM_STATUS_STORAGE (m = 2))) := by
  unfold sleepEnter
  rw [hdue]
  dsimp only
  rw [show ({ s with dom := { s.dom with sleepAt := none } } : State).asleep = false from hawake]
  rfl

end

/-- Settles O56: each row is its function of the model where its conditions hold. -/
theorem ringControlTimesTakeEffect : Obligations.RingControlTimesTakeEffect := by
  unfold Obligations.RingControlTimesTakeEffect
  refine ⟨?listen, ?claim, ?waiting, ?follower, ?standby, ?beacon, ?report, ?build, ?resendWaiting, ?resend, ?effective, ?noPlan,
    ?switch, ?lapse, ?launch, ?silence, ?unserved, ?held, ?probe, ?reroll, ?resume, ?noRetrain, ?retrain, ?noLinkUp, ?linkUp,
    ?noTimeout, ?timeout, ?noSleep, ?sleep, ?probePlan, ?grant⟩
  case listen =>
    intro s hctl hruns hquiet hable
    exact congrArg Host.Outcome.next (if_pos (by simp [hctl, hruns, hquiet, hable]))
  case claim =>
    intro s hctl hruns hquiet hable
    exact congrArg Host.Outcome.next (if_pos (by simp [hctl, hruns, hquiet, hable]))
  case waiting =>
    intro s hctl hruns hquiet
    exact congrArg Host.Outcome.next (if_pos (by simp [hctl, hruns, hquiet]))
  case follower =>
    intro s hctl hruns hquiet hstandby
    exact congrArg Host.Outcome.next (if_pos (by simp [hctl, hruns, hquiet, hstandby]))
  case standby =>
    intro s hctl hruns hquiet hstandby
    exact congrArg Host.Outcome.next (if_pos (by simp [hctl, hruns, hquiet, hstandby]))
  case beacon =>
    intro s hcoord hruns hdue
    exact congrArg Host.Outcome.next (if_pos (by simp [hcoord, hruns, hdue]))
  case report =>
    intro s hctl hruns hsvc hdue
    exact congrArg Host.Outcome.next (if_pos (by simp [hctl, hruns, hsvc, hdue]))
  case build =>
    intro s hcoord hruns hbuilding
    exact congrArg Host.Outcome.next (if_pos (by simp [hcoord, hruns, hbuilding]))
  case resendWaiting =>
    exact fun s p n hcoord hruns hwaiting hleft => congrArg Host.Outcome.next (planResend_waiting hcoord hruns hwaiting hleft)
  case resend =>
    exact fun s p hcoord hruns hwaiting hplan => congrArg Host.Outcome.next (planResend_effective hcoord hruns hwaiting hplan)
  case effective =>
    exact fun s p hstart hctl hlock hwaiting hdue => congrArg Host.Outcome.next (planCheck_due hstart hctl hlock hwaiting hdue)
  case noPlan => exact fun s hwaiting => congrArg Host.Outcome.next (planCheck_none hwaiting)
  case switch =>
    exact fun s m c u hswitch hdue hu htm => congrArg Host.Outcome.next (timingSwitch_own hswitch hdue hu htm)
  case lapse => exact fun s m hreq => congrArg Host.Outcome.next (timingLapse_asked hreq)
  case launch =>
    intro s hon hdue
    exact congrArg Host.Outcome.next (if_pos (by simp [hon, hdue]))
  case silence => exact fun s b hserved => rfl
  case unserved =>
    intro s b hout
    exact congrArg Host.Outcome.next (if_pos (by simp [hout]))
  case held =>
    intro s b hlink hout hstay hheld
    exact congrArg Host.Outcome.next (if_pos (by simp [hlink, hout, hstay, hheld]))
  case probe => exact fun s b hlink hout hruns hplan => congrArg Host.Outcome.next (probeSend_plain hlink hout hruns hplan)
  case reroll =>
    intro s hcoord hlong
    exact congrArg Host.Outcome.next (if_pos (by rw [hcoord, hlong]; rfl))
  case resume => exact fun s hquiet hplan => congrArg Host.Outcome.next (silenceResume_unplanned hquiet hplan)
  case noRetrain =>
    intro s hnone
    exact congrArg Host.Outcome.next (by simp only [stepRetrain, hnone])
  case retrain =>
    exact fun s g p hgo hports hstay hdue => congrArg Host.Outcome.next (stepRetrain_one hgo hports hstay hdue)
  case noLinkUp =>
    intro s b hnone
    exact congrArg Host.Outcome.next (by simp only [stepLinkUp, hnone])
  case linkUp =>
    intro s b g hgo hstepping hlink hspeed hcoord hplan hruns hports hcanon
    have hregs := rising_of_canon hcanon
    have hp : b2n b < 2 := by cases b <;> decide
    have hrun := stepLinkUp_follower hgo hstepping hlink hspeed hcoord hplan hruns hregs hp
    obtain ⟨hserved, hready, hstay⟩ := steppedUp_reads hp hregs
    refine ⟨s.steppedUp (b2n b), congrArg Host.Outcome.next hrun, hserved, hready, hstay, ?_, ?_⟩
    · rw [steppedUp_ports, hports]
      cases b <;> rfl
    · rw [← hrun]
      exact (keeps_stepLinkUp _ (keeps_refl s)).1
  case noTimeout =>
    intro s b hnone
    exact congrArg Host.Outcome.next (by simp only [stepTimeout, hnone])
  case timeout =>
    intro s b g hgo hstepping hcoord hruns hports hcanon
    have hregs := rising_of_canon hcanon
    have hp : b2n b < 2 := by cases b <;> decide
    have hother : s.rct.stepPorts.filter (· ≠ b2n b) = [1 - b2n b] := by
      rw [hports]
      cases b <;> rfl
    have hrun := stepTimeout_follower hgo hstepping hcoord hruns (by rw [hother]; exact List.cons_ne_nil _ _) hregs hp
    refine ⟨portsUpdate (s.steppedOut (b2n b)), congrArg Host.Outcome.next hrun, ?_, ?_, ?_, ?_⟩
    · rw [portsUpdate_is, steppedOut_stepping hp hregs]
    · rw [portsUpdate_ports, steppedOut_ports, hother]
    · rw [portsUpdate_probes, steppedOut_probe]
    · rw [← hrun]
      exact (keeps_stepTimeout _ (keeps_refl s)).1
  case noSleep =>
    intro s hnone
    exact congrArg Host.Outcome.next (by simp only [sleepEnter, hnone])
  case sleep => exact fun s m hdue hawake => congrArg Host.Outcome.next (sleepEnter_due hdue hawake)
  case probePlan => exact fun s b p hlink hout hruns hplan => congrArg Host.Outcome.next (probeSend_plan hlink hout hruns hplan)
  case grant =>
    exact fun s p hquiet hplan hcoord hruns hstep hspeed hlive =>
      congrArg Host.Outcome.next (silenceResume_grants hquiet hplan hcoord hruns hstep hspeed hlive)

end Sys2Proof.Machine

/-! PROOFS. LINK_UP of a ring port whose counter of speed changes stands in the register file at 0 (R298, R301). -/
namespace Sys2Proof.Machine
open Sys2Proof

/-- The state after reset, but with counter 51 of port A listed with its reset value; the register file is in rising order. -/
def speedCountListed : State := { State.reset with regs := [(Reg.PORT_CNTm_i.key 0 51 0, 0#32)] }

/-- Refutes O57: a link that comes up at a speed that is no change does not touch the counter; the clause has it written with the
value it holds, which takes a listed reset value out of the register file. -/
theorem not_linkEventsTakeEffect : ¬ Obligations.LinkEventsTakeEffect := by
  unfold Obligations.LinkEventsTakeEffect
  intro h
  obtain ⟨-, -, -, -, -, -, -, -, -, -, -, -, -, -, -, -, hup, -⟩ := h
  have hstated := hup speedCountListed 0 2 7 (by decide +kernel) (by decide +kernel) (by decide +kernel) (by decide +kernel)
  have hran : readAfter (fun t => t.regs.any (fun e => e.1 = Reg.PORT_CNTm_i.key 0 51 0)) false
      (exec (.linkUp 0 2 7) speedCountListed) = true := by decide +kernel
  rw [hstated] at hran
  revert hran
  decide +kernel

end Sys2Proof.Machine

/-! PROOFS. IEEE 1722 and 1722.1 on the branch port (R312 to R318). -/
namespace Sys2Proof.Machine
open Sys2Proof Sys2Proof.Machine.Laws

section
variable {s : State} {f : List Byte}

/-! ## Streams received -/

/-- A stream takes a frame: its sequence number, and the last tick that it carries. -/
def State.aafTaken (s : State) (i : Nat) (f : List Byte) : State :=
  (s.modAaf i (fun a => { a with
    seq := beAt f 20 1, seen := true, lastTick := some s.ks.count, staged := [(s.ks.count, s.aafLast i f)] })).srcStream i

/-- A frame judged by its stream: one that fits is taken, with a gap in the sequence numbers counted (R316). -/
def aafJudged (i : Nat) (f : List Byte) (s : State) : State :=
  if !s.aafGood i f then aafBad i s
  else State.aafTaken (if (s.aaf i).seen && beAt f 20 1 ≠ ((s.aaf i).seq + 1) % 256 then
    (s.inc Reg.PORT_AAFs_STAT_GAPS i).int Reg.PORT_INT_STATUS_AAF else s) i f

/-- A frame of an enabled stream, in good order on the branch port, is judged by that stream. -/
theorem aafRx_stream {o i : Nat} (hlink : s.linkUp 2 = true) (htype : etherType f = 0x22F0) (hlen : 18 < f.length)
    (hgood : frameGood f = true) (ho : o = (if beAt f 12 2 = 0x8100 then 18 else 14)) (hvalid : bit (beAt f (o + 1) 1) 7 = true)
    (hstream : (List.range 8).find? (fun i => (s.rxCount 2 f).is Reg.PORT_AAFs_CFG_EN i &&
      (s.rxCount 2 f).aafSid i = beAt f (o + 4) 8) = some i) : aafRx 2 f s = aafJudged i f (s.rxCount 2 f) := by
  subst ho
  unfold aafRx
  rw [if_neg (by simp [hlink, htype, hlen])]
  dsimp only
  rw [if_neg (by simp [hgood, hvalid]), hstream]
  rfl

/-- A frame that fits a stream has a VLAN tag. -/
theorem tagged_of_aafGood {i : Nat} (hgood : s.aafGood i f = true) : beAt f 12 2 = 0x8100 := by
  unfold State.aafGood at hgood
  simp only [Bool.and_eq_true, decide_eq_true_eq] at hgood
  simp [hgood]

theorem aafJudged_first {i : Nat} (hgood : s.aafGood i f = true) (hnew : (s.aaf i).seen = false) : aafJudged i f s = s.aafTaken i f := by
  unfold aafJudged
  rw [if_neg (by simp [hgood]), if_neg (by simp [hnew])]

/-! ## Streams sent -/

/-- A change of a stream speaks of what it holds now. -/
theorem modAaf_congr (s : State) (i : Nat) {g h : Aaf → Aaf} (hsame : g (s.aaf i) = h (s.aaf i)) : s.modAaf i g = s.modAaf i h := by
  have hlist : modNth s.port.aaf i g = modNth s.port.aaf i h := by
    unfold modNth
    cases hget : s.port.aaf[i]? with
    | none => rfl
    | some a =>
      have ha : s.aaf i = a := by simp [State.aaf, nth, hget]
      rw [ha] at hsame
      exact congrArg (s.port.aaf.set i) hsame
  unfold State.modAaf
  rw [hlist]

/-- A disabled stream, or no link, sends nothing. -/
theorem aafSend_idle {i : Nat} (hidle : s.is Reg.PORT_AAFs_CFG_EN i = false ∨ s.linkUp 2 = false) : aafSend i s = s := by
  refine if_pos ?_
  rcases hidle with hoff | hdown
  · simp [hoff]
  · simp [hdown]

/-- The header of a frame of a stream, up to the presentation time of its oldest tick (R315). -/
def State.aafHeader (s : State) (i t0 : Nat) : List Byte :=
  beBytes 6 (s.get Reg.PORT_AAFs_DMAC_LO i + 2 ^ 32 * s.get Reg.PORT_AAFs_DMAC_HI_DMAC i) ++ beBytes 6 (s.portMac 2) ++ beBytes 2 0x8100 ++
    beBytes 2 (s.get Reg.PORT_AAFs_CFG_PCP i * 8192 + s.get Reg.PORT_AAFs_CFG_VID i) ++ beBytes 2 0x22F0 ++ beBytes 1 2 ++ beBytes 1 0x81 ++
    beBytes 1 (if (s.aaf i).seen then ((s.aaf i).seq + 1) % 256 else (s.aaf i).seq) ++ beBytes 1 0 ++ beBytes 8 (s.aafSid i) ++
    beBytes 4 ((s.timeNs t0 + 1000 * s.get Reg.PORT_AAFs_TRANSIT_TRANSIT i) % 2 ^ 32)

theorem aafSend_full {i n : Nat} (hon : s.is Reg.PORT_AAFs_CFG_EN i = true) (hlink : s.linkUp 2 = true)
    (hn : n = aafTicks (bitsOf (s.word Reg.PORT_AAFs_CFG i).toNat 29 29)) (hfull : n ≤ (s.aaf i).staged.length) :
    ∃ body, aafSend i s = (s.modAaf i (fun a => { a with
      seq := if a.seen then (a.seq + 1) % 256 else a.seq, seen := true, lastTick := some s.ks.count, staged := [] })).sendOn 2
      (withFcs (s.aafHeader i ((((s.aaf i).staged.drop ((s.aaf i).staged.length - n)).map (·.1)).headD 0) ++ body)) := by
  have hmany : n ≤ ((s.aaf i).staged.drop ((s.aaf i).staged.length - n)).length := by
    rw [List.length_drop]
    omega
  subst hn
  unfold aafSend
  extract_lets w fmt ch n a ticks t0 ts one data dmac seq frame sent
  have hsent : sent = s.modAaf i (fun a => { a with
      seq := if a.seen then (a.seq + 1) % 256 else a.seq, seen := true, lastTick := some s.ks.count, staged := [] }) :=
    modAaf_congr s i rfl
  have hmay : ¬(!s.is Reg.PORT_AAFs_CFG_EN i || decide (ticks.length < n) || !s.linkUp 2) = true := by
    have hlen : ¬ticks.length < n := Nat.not_lt.mpr hmany
    simp [hon, hlink, hlen]
  refine ⟨beBytes 1 (if fmt = 0 then 3 else 2) ++ beBytes 2 ((if bitsOf w 29 29 = 0 then 5 else 7) * 4096 + ch) ++ beBytes 1 24 ++
    beBytes 2 data.length ++ beBytes 2 0 ++ data, ?_⟩
  have hframe : frame = s.aafHeader i t0 ++ (beBytes 1 (if fmt = 0 then 3 else 2) ++
      beBytes 2 ((if bitsOf w 29 29 = 0 then 5 else 7) * 4096 + ch) ++ beBytes 1 24 ++ beBytes 2 data.length ++ beBytes 2 0 ++ data) := by
    simp only [← List.append_assoc]
    rfl
  rw [if_neg hmay, hframe, hsent]

/-! ## AVDECC -/

/-- ENTITY_AVAILABLE is answered SUCCESS with nothing more. -/
theorem aecpCommand_available (hlink : s.linkUp 2 = true) (hgood : frameGood f = true) (havdecc : (s.rxCount 2 f).avdecc = true)
    (htype : etherType f = 0x22F0) (hsub : beAt f 14 1 = 0xFB) (hmsg : beAt f 15 1 = 0) (hme : beAt f 18 8 = (s.rxCount 2 f).entityId)
    (hcmd : beAt f 36 2 % 32768 = 2) :
    aecpCommand 2 f s = (s.rxCount 2 f).fresh.2.avtpCtl (beAt f 6 6) 0xFB 1 0 (slice f 18 20) := by
  unfold aecpCommand
  rw [if_neg (by simp [hlink])]
  dsimp only
  rw [if_neg (by simp [hgood, havdecc, htype, hsub, hmsg, hme]), hmsg, hcmd, if_pos rfl]
  have hanswer (who mac : Nat) (d : List Byte) (u : State) : aemAnswer 2 who mac d u = (u.fresh.2, 0, []) := rfl
  rw [hanswer, List.append_nil]
  exact if_neg (by simp)

/-- CONNECT_RX of a stream that this node lacks is answered with status 1. -/
theorem acmpCommand_connect_unknown (hlink : s.linkUp 2 = true) (hgood : frameGood f = true) (havdecc : (s.rxCount 2 f).avdecc = true)
    (htype : etherType f = 0x22F0) (hsub : beAt f 14 1 = 0xFC) (hmsg : beAt f 15 1 % 16 = 6)
    (hme : beAt f 42 8 = (s.rxCount 2 f).entityId) (hnone : (s.rxCount 2 f).descStream 5 (beAt f 52 2) = none) :
    acmpCommand 2 f s = (s.rxCount 2 f).avtpCtl 0x91E0F0010000 0xFC 7 1 (slice f 18 52) := by
  unfold acmpCommand
  rw [if_neg (by simp [hlink])]
  dsimp only
  rw [hmsg]
  rw [if_neg (by simp [hgood, havdecc, htype, hsub, hme]), if_neg (by simp)]
  change (match (s.rxCount 2 f).descStream 5 (beAt f 52 2) with | none => _ | some i => _) = _
  rw [hnone]
  rfl

/-- What ACMP says of stream i of the node, in answer to CONNECT_RX. -/
def State.acmpConnected (v : State) (i : Nat) (f : List Byte) : State :=
  v.avtpCtl 0x91E0F0010000 0xFC 7 0 (beBytes 8 (v.aafSid i) ++ slice f 26 28 ++
    beBytes 6 (v.get Reg.PORT_AAFs_DMAC_LO i + 2 ^ 32 * v.get Reg.PORT_AAFs_DMAC_HI_DMAC i) ++ beBytes 2 (b2n (v.is Reg.PORT_AAFs_CFG_EN i)) ++
    slice f 62 4 ++ beBytes 2 (v.get Reg.PORT_AAFs_CFG_VID i) ++ beBytes 2 0)

/-- CONNECT_RX of a stream of this node that may be set up so. -/
theorem acmpCommand_connect {u : State} {i : Nat} {w : Word} (hlink : s.linkUp 2 = true) (hgood : frameGood f = true)
    (hu : u = s.rxCount 2 f) (havdecc : u.avdecc = true) (htype : etherType f = 0x22F0) (hsub : beAt f 14 1 = 0xFC)
    (hmsg : beAt f 15 1 % 16 = 6) (hme : beAt f 42 8 = u.entityId) (hknown : u.descStream 5 (beAt f 52 2) = some i)
    (hallowed : u.is Reg.PORT_BR_CFG_AVDECC_WR = true) (hacquired : u.port.acquired = none) (hlocked : u.port.locked = none)
    (hw : w = u.cfgWith i (beAt f 66 2) true) (hok : u.aafOk i w = true) :
    acmpCommand 2 f s = ((aafCfgWrite i w ((u.setStream i (beAt f 18 8) (beAt f 54 6) (beAt f 66 2 % 4096)).modAaf i
      (fun a => { a with peer := some (beAt f 34 8) }))).1).acmpConnected i f := by
  subst hu hw
  unfold acmpCommand
  rw [if_neg (by simp [hlink])]
  dsimp only
  rw [hmsg]
  rw [if_neg (by simp [hgood, havdecc, htype, hsub, hme]), if_neg (by simp)]
  change (match (s.rxCount 2 f).descStream 5 (beAt f 52 2) with | none => _ | some i => _) = _
  rw [hknown]
  dsimp only
  rw [if_neg (by simp), if_neg (by simp [hallowed]), if_neg (by simp [hacquired, hlocked])]
  rw [if_neg (by simp [hok])]
  rfl

end

/-- Settles O58: a frame of an enabled stream is judged by that stream, a stream with enough staged ticks sends a frame of the
header of R315, and the AVDECC commands are followed through their conditions. -/
theorem avbFramesTakeEffect : Obligations.AvbFramesTakeEffect := by
  refine ⟨fun s p f hp => ?notBranch, fun s f o i hlink htype hlen hgood ho hvalid hstream hbad => ?bad,
    fun s f i hlink htype hlen hgood hvalid hstream hfits hnew => ?taken, fun s => rfl, fun s i hidle => aafSend_idle hidle,
    fun s p f hp => ?notBranchAecp, fun s f hlink hgood havdecc htype hsub hmsg hme hcmd => ?available, fun s p f hp => ?notBranchAcmp,
    fun s f hlink hgood havdecc htype hsub hmsg hme hnone => ?unknown, fun s f hlink hgood havdecc htype hmsg hall => ?discover,
    fun s havdecc => ?advertises, fun s havdecc => ?silent, fun s i n hon hlink hn hfull => ?sends,
    fun s u v f i w hlink hgood hu havdecc htype hsub hmsg hme hknown hallowed hacquired hlocked hw hok hv => ?connects⟩
  case notBranch => exact congrArg Host.Outcome.next (if_pos (by simp [hp]))
  case bad =>
    exact congrArg Host.Outcome.next ((aafRx_stream hlink htype hlen hgood ho hvalid hstream).trans (if_pos (by simp [hbad])))
  case taken =>
    have htag := tagged_of_aafGood hfits
    exact congrArg Host.Outcome.next ((aafRx_stream (o := 18) hlink htype hlen hgood (by rw [if_pos htag]) hvalid hstream).trans
      (aafJudged_first hfits hnew))
  case notBranchAecp => exact congrArg Host.Outcome.next (if_pos (by simp [hp]))
  case available => exact congrArg Host.Outcome.next (aecpCommand_available hlink hgood havdecc htype hsub hmsg hme hcmd)
  case notBranchAcmp => exact congrArg Host.Outcome.next (if_pos (by simp [hp]))
  case unknown => exact congrArg Host.Outcome.next (acmpCommand_connect_unknown hlink hgood havdecc htype hsub hmsg hme hnone)
  case discover =>
    have hlinked : adpDiscover 2 f s = adpAvailable (s.rxCount 2 f) :=
      (if_neg (by simp [hlink])).trans (if_pos (by simp [hgood, havdecc, htype, hmsg, hall]))
    exact congrArg Host.Outcome.next hlinked
  case advertises => exact congrArg Host.Outcome.next (if_neg (by simp [havdecc]))
  case silent => exact congrArg Host.Outcome.next (if_pos (by simp [havdecc]))
  case sends => exact aafSend_full hon hlink hn hfull
  case connects =>
    subst hv
    exact congrArg Host.Outcome.next
      (acmpCommand_connect hlink hgood hu havdecc htype hsub hmsg hme hknown hallowed hacquired hlocked hw hok)

end Sys2Proof.Machine

/-! PROOFS. The service bus (R320 to R324). -/
namespace Sys2Proof.Machine
open Sys2Proof Sys2Proof.Machine.Laws

section
variable {s : State}

/-! ## What counting and writing leave -/

theorem cntBy_kept (s : State) (m i k : Nat) : (s.cntBy m i k).mem = s.mem ∧ (s.cntBy m i k).emitted = s.emitted := by
  simp only [State.cntBy]
  repeat' split
  all_goals simp

theorem txCount_kept (s : State) (m : Nat) (f : List Byte) : (s.txCount m f).mem = s.mem ∧ (s.txCount m f).emitted = s.emitted := by
  have hwire : (s.addWire m 0 (wireLen f)).mem = s.mem ∧ (s.addWire m 0 (wireLen f)).emitted = s.emitted := ⟨rfl, rfl⟩
  simp only [State.txCount, State.cnt]
  split <;> simp only [cntBy_kept, hwire, and_self]

theorem eccWrite_dram (s : State) (k a n : Nat) : (s.eccWrite k a n).mem.dram = s.mem.dram ∧ (s.eccWrite k a n).emitted = s.emitted := by
  have hdrops (ws : List Nat) (u : State) : (ws.foldl (fun s w => s.eccDrop k w) u).mem.dram = u.mem.dram ∧
      (ws.foldl (fun s w => s.eccDrop k w) u).emitted = u.emitted := by
    induction ws generalizing u with
    | nil => exact ⟨rfl, rfl⟩
    | cons w ws ih => exact ih _
  unfold State.eccWrite
  extract_lets ws u
  have hdropped : u.mem.dram = s.mem.dram ∧ u.emitted = s.emitted := hdrops ws s
  clear_value u
  split
  · split <;> exact hdropped
  · exact hdropped

/-- Bytes written to the DRAM stand in it. -/
theorem dramWrite_dram (s : State) (a : Nat) (bs : List Byte) : (s.dramWrite a bs).mem.dram = Mem.wrN s.mem.dram a bs :=
  (eccWrite_dram _ _ _ _).1

theorem dramWrite_emitted (s : State) (a : Nat) (bs : List Byte) : (s.dramWrite a bs).emitted = s.emitted := (eccWrite_dram _ _ _ _).2

/-- A status of two bytes reads back, whatever is written right after it. -/
theorem status_reads_back {m : List Host.Cell} {a v : Nat} {after : List Byte} (hm : Mem.wf m = true) :
    leVal (Mem.rdN (Mem.wrN (Mem.wrN m a (leBytes 2 v)) (a + 2) after) a 2) = v % 65536 := by
  have hkept (i : Nat) (hi : i < 2) : Mem.rd (Mem.wrN (Mem.wrN m a (leBytes 2 v)) (a + 2) after) (a + i) = (leBytes 2 v)[i]'hi := by
    rw [Mem.rd_wrN_out _ _ _ _ (Mem.wf_wrN _ _ _ hm) (by omega)]
    exact Mem.rd_wrN_in _ _ _ _ hm hi
  have hread : Mem.rdN (Mem.wrN (Mem.wrN m a (leBytes 2 v)) (a + 2) after) a 2 = leBytes 2 v :=
    (congrArg (fun x => [x, _]) (hkept 0 (by decide))).trans (congrArg (fun y => [_, y]) (hkept 1 (by decide)))
  exact (congrArg leVal hread).trans (leVal_leBytes 2 v)

/-! ## Reception -/

theorem sbusRx_off {f : List Byte} {odd code : Bool} (hoff : s.is Reg.SBUS_CFG_EN = false) : sbusRx f odd code s = s :=
  if_pos (by simp [hoff])

/-- The service bus with a frame heard. -/
def State.sbusHeard (s : State) (f : List Byte) : State := ({ s with port := { s.port with sbusAt := some s.ks.count } } : State).rxCount 3 f

/-- A bad frame is counted and dropped. -/
theorem sbusRx_bad {f : List Byte} {odd code : Bool} (hon : s.is Reg.SBUS_CFG_EN = true) (hup : s.domAt 46 = 0)
    (hbad : frameGood f = false) : sbusRx f odd code s = (if code then fun u : State => u.cnt 3 22 else id)
      ((if odd && !fcsOk f then fun u : State => u.cnt 3 18 else id) (s.sbusHeard f)) := by
  unfold sbusRx
  rw [if_neg (by simp [hon, hup])]
  dsimp only
  rw [if_pos (by simp [hbad])]
  cases code <;> cases (odd && !fcsOk f) <;> rfl

/-- A good frame for this node's address takes the next receive slot, or counts as lost while the ring is full. -/
theorem sbusRx_mine {f : List Byte} {u : State} {a : Nat} (hon : s.is Reg.SBUS_CFG_EN = true) (hup : s.domAt 46 = 0)
    (hgood : frameGood f = true) (hu : u = s.sbusHeard f) (hme : beAt f 0 6 = u.portMac 3)
    (hslot : u.sbusSlot Reg.SBUS_RX_BASE (u.get Reg.SBUS_RX_HEAD_INDEX) = some a) :
    sbusRx f false false s = if (u.get Reg.SBUS_RX_HEAD_INDEX + 64 - u.get Reg.SBUS_RX_TAIL_INDEX) % 64 = 32 then u.cnt 3 23 else
      ((u.dramWrite a (leBytes 2 (f.take (f.length - 4)).length ++ leBytes 2 0 ++ leBytes 8 u.ks.count ++ leBytes 4 0 ++
        f.take (f.length - 4))).set Reg.SBUS_RX_HEAD_INDEX ((u.get Reg.SBUS_RX_HEAD_INDEX + 1) % 64)).int Reg.SBUS_INT_STATUS_RX := by
  subst hu
  unfold sbusRx
  rw [if_neg (by simp [hon, hup])]
  change (if (!frameGood f || !(decide (beAt f 0 6 = (s.sbusHeard f).portMac 3) || _ || _)) = true then _ else
    match (s.sbusHeard f).sbusSlot Reg.SBUS_RX_BASE ((s.sbusHeard f).get Reg.SBUS_RX_HEAD_INDEX) with
    | some a => _
    | none => _) = _
  rw [if_neg (by simp [hgood, hme]), hslot]
  rfl

/-! ## Transmission -/

theorem sbusTxDone_empty {r c : Nat} {d : Bool} (hempty : s.get Reg.SBUS_TX_HEAD_INDEX = s.get Reg.SBUS_TX_TAIL_INDEX) :
    sbusTxDone r c d s = s := if_pos (by simp [hempty])

/-- The transmit ring past its slot: TAIL advances, with TX_DONE. -/
def State.sbusSent (s : State) (tail : Nat) : State :=
  (s.set Reg.SBUS_TX_TAIL_INDEX ((tail + 1) % 64)).int Reg.SBUS_INT_STATUS_TX_DONE

theorem sbusTxDone_outside {r c : Nat} {d : Bool} (hwaits : s.get Reg.SBUS_TX_HEAD_INDEX ≠ s.get Reg.SBUS_TX_TAIL_INDEX)
    (hon : s.is Reg.SBUS_CFG_EN = true) (hup : s.domAt 46 = 0)
    (hnone : s.sbusSlot Reg.SBUS_TX_BASE (s.get Reg.SBUS_TX_TAIL_INDEX) = none) :
    sbusTxDone r c d s = (s.sbusSent (s.get Reg.SBUS_TX_TAIL_INDEX)).int Reg.SBUS_INT_STATUS_TX_ERR := by
  unfold sbusTxDone
  extract_lets h t next
  rw [if_neg (by simp [h, t, hwaits, hon, hup]), hnone]
  rfl

/-- The frame of the slot at a, on the wire with its FCS. -/
def State.sbusFrame (s : State) (a : Nat) : List Byte := withFcs (Mem.rdN s.mem.dram (a + 16) (leVal (Mem.rdN s.mem.dram a 2)))

/-- A slot whose frame was sent well: the frame counted, and the status and time written. -/
def State.sbusTold (s : State) (a : Nat) : State :=
  let u := (({ s with port := { s.port with sbusAt := some s.ks.count } } : State).emit 3 (s.sbusFrame a)).txCount 3 (s.sbusFrame a)
  (u.dramWrite (a + 2) (leBytes 2 0)).dramWrite (a + 4) (leBytes 8 u.ks.count ++ leBytes 4 0)

theorem sbusTxDone_sent {a : Nat} (hwaits : s.get Reg.SBUS_TX_HEAD_INDEX ≠ s.get Reg.SBUS_TX_TAIL_INDEX)
    (hon : s.is Reg.SBUS_CFG_EN = true) (hup : s.domAt 46 = 0)
    (hslot : s.sbusSlot Reg.SBUS_TX_BASE (s.get Reg.SBUS_TX_TAIL_INDEX) = some a) (hecc : s.mem.ecc = [])
    (hmin : 60 ≤ leVal (Mem.rdN s.mem.dram a 2)) (hmax : leVal (Mem.rdN s.mem.dram a 2) ≤ 1518) :
    sbusTxDone 0 0 false s = (s.sbusTold a).sbusSent (s.get Reg.SBUS_TX_TAIL_INDEX) := by
  have hread : s.eccRead 2 a 2048 = (s, true) := by
    simp only [State.eccRead, State.eccIn, hecc, List.filter_nil, List.foldl_nil, List.all_nil]
  unfold sbusTxDone
  extract_lets h t next
  rw [if_neg (by simp [h, t, hwaits, hon, hup]), hslot]
  dsimp only
  rw [hread]
  have hgood : (decide (60 ≤ leVal (Mem.rdN s.mem.dram a 2)) && decide (leVal (Mem.rdN s.mem.dram a 2) ≤ 1518)) = true := by
    simp [hmin, hmax]
  dsimp only
  rw [hgood]
  have hnotRejected : ((0 : Nat) = 3) = False := eq_false (by decide)
  have hnoRetry : ((0 : Nat) = 1) = False := eq_false (by decide)
  have hnotLate : ((0 : Nat) = 2) = False := eq_false (by decide)
  have hnoRetries : ((2 : Nat) ≤ 0) = False := eq_false (by decide)
  simp only [Bool.true_and, decide_eq_true_eq, ↓reduceIte, ne_eq, not_true_eq_false, hnotRejected, hnoRetry, hnotLate, hnoRetries,
    and_false, false_and, Bool.and_false, Bool.false_eq_true]
  simp only [next, t, State.sbusSent, State.sbusTold, State.sbusFrame]

theorem sbusTold_keeps (hcanon : s.canon = true) (a : Nat) : (s.sbusTold a).pending = s.pending ∧ (s.sbusTold a).canon = true := by
  have hkeeps : Keeps s (s.sbusTold a) := keeps_State_dramWrite _ _ (keeps_State_dramWrite _ _ (keeps_State_txCount _ _ (keeps_refl s)))
  exact ⟨hkeeps.1, hkeeps.2 hcanon⟩

theorem sbusTold_emitted (a : Nat) : (s.sbusTold a).emitted = s.emitted ++ [⟨3, s.sbusFrame a⟩] := by
  unfold State.sbusTold
  rw [dramWrite_emitted, dramWrite_emitted, (txCount_kept _ _ _).2]
  rfl

theorem sbusTold_status (hcanon : s.canon = true) (a : Nat) : leVal (Mem.rdN (s.sbusTold a).mem.dram (a + 2) 2) = 0 := by
  obtain ⟨-, -, -, hdram, -⟩ := canon_parts.mp hcanon
  unfold State.sbusTold
  rw [dramWrite_dram, dramWrite_dram, (txCount_kept _ _ _).1]
  exact status_reads_back hdram

theorem sbusSent_keeps (t : State) (tail : Nat) : (t.sbusSent tail).pending = t.pending ∧ (t.sbusSent tail).emitted = t.emitted ∧
    (t.sbusSent tail).mem = t.mem := by
  simp [State.sbusSent]

theorem sbusSent_tail {t : State} (hregs : rising t.regs = true) (tail : Nat) :
    (t.sbusSent tail).get Reg.SBUS_TX_TAIL_INDEX = (tail + 1) % 64 := by
  refine (get_int_ne (rising_set _ _ _ _ _ _ hregs) (by decide)).trans ?_
  refine (get_set_same _ 0 0 0 hregs (by decide) (by decide)).trans ?_
  exact Nat.mod_eq_of_lt (Nat.mod_lt _ (by decide))

end

/-- Settles O59: a bad frame is counted and a good one takes the next receive slot; the transmit ring advances past its slot,
whose frame is on the wire and whose status reads back; PLCA ends with a loss and returns with a beacon. -/
theorem serviceBusEventsTakeEffect : Obligations.ServiceBusEventsTakeEffect := by
  refine ⟨fun s f o c hoff => ?rxOff, fun s f o c hon hup hbad => ?rxBad, fun s u f a hon hup hgood hu hme hroom hslot => ?rxTaken,
    fun s u f a hon hup hgood hu hme hfull hslot => ?rxFull, fun s r c d hempty => ?txEmpty, fun s r c d hwaits hon hup hnone => ?txOutside,
    fun s a hwaits hon hup hslot hecc hmin hmax hcanon => ?txSent, fun s hplca hon hnode hkept => ?plcaLost,
    fun s hlost => ?plcaStaysLost, fun s hon hup hplca => ?plcaBack⟩
  case rxOff => exact congrArg Host.Outcome.next (sbusRx_off hoff)
  case rxBad => exact congrArg Host.Outcome.next (sbusRx_bad hon hup hbad)
  case rxTaken => exact congrArg Host.Outcome.next ((sbusRx_mine hon hup hgood hu hme hslot).trans (if_neg hroom))
  case rxFull => exact congrArg Host.Outcome.next ((sbusRx_mine hon hup hgood hu hme hslot).trans (if_pos hfull))
  case txEmpty => exact congrArg Host.Outcome.next (sbusTxDone_empty hempty)
  case txOutside => exact congrArg Host.Outcome.next (sbusTxDone_outside hwaits hon hup hnone)
  case txSent =>
    obtain ⟨htoldQueue, htoldCanon⟩ := sbusTold_keeps hcanon a
    obtain ⟨hqueue, hemitted, hmem⟩ := sbusSent_keeps (s.sbusTold a) (s.get Reg.SBUS_TX_TAIL_INDEX)
    exact ⟨_, congrArg Host.Outcome.next (sbusTxDone_sent hwaits hon hup hslot hecc hmin hmax), sbusSent_tail (rising_of_canon htoldCanon) _,
      hemitted.trans (sbusTold_emitted a), by rw [hmem]; exact sbusTold_status hcanon a, hqueue.trans htoldQueue⟩
  case plcaLost => exact congrArg Host.Outcome.next (if_neg (by simp [hplca, hon, hnode, hkept]))
  case plcaStaysLost => exact congrArg Host.Outcome.next (if_pos (by simp [hlost]))
  case plcaBack =>
    have hback : plcaBeacon s = (if s.is Reg.SBUS_CFG_PLCA then
        ({ s with port := { s.port with plcaLost := false, sbusAt := some s.ks.count } } : State).setPlca true else
        { s with port := { s.port with plcaLost := false, sbusAt := some s.ks.count } }).cnt 3 48 := if_neg (by simp [hon, hup])
    exact congrArg Host.Outcome.next (hback.trans (by rw [if_pos hplca]))

end Sys2Proof.Machine

/-! PROOFS. A plan that takes effect at a coordinator and calls for another (R260, R261, R263). -/
namespace Sys2Proof.Machine
open Sys2Proof

/-- A plan of one channel that gives the channel to node 3, due at cycle 0. -/
def planOfThree : Plan :=
  { id := 1, rate := 0, channels := 1, d := 1, nodes := 2, head := 0, effective := 0, epoch := 0, hold := 0, standby := 0,
    gm := 0, source := [3] }

/-- A locked coordinator with that plan waiting. No node declares that it sends channel 0. -/
def planWaiting : State :=
  (({ State.reset with
    host := { State.reset.host with fwRun := true }
    rct := { State.reset.rct with waiting := [planOfThree] } } : State).set Reg.RING_CTL_STATUS_STATE 5).setB Reg.KS_STATUS_LOCK true

/-- Refutes O60: a coordinator that puts a plan into effect checks its channels at once. Where the plan gives a channel to a node
that does not send it, the coordinator issues a plan in its place, so one waits again; the clause says that none does. -/
theorem not_ringAudioFramesTakeEffect : ¬ Obligations.RingAudioFramesTakeEffect := by
  unfold Obligations.RingAudioFramesTakeEffect
  intro h
  obtain ⟨-, -, -, -, -, -, -, -, -, -, -, -, hplan, -⟩ := h
  obtain ⟨t, hexec, hnone, -, -⟩ := hplan planWaiting planOfThree (by decide +kernel) (by decide +kernel) (by decide +kernel) rfl
    (by decide +kernel)
  have hran : readAfter (fun t => t.rct.waiting.length) 0 (exec .planEffective planWaiting) = 1 := by decide +kernel
  rw [hexec, readAfter, hnone] at hran
  exact absurd hran (by decide)

end Sys2Proof.Machine

/-! PROOFS. Power domains and sleep (R290 to R294, R555 to R574). -/
namespace Sys2Proof.Machine
open Sys2Proof Sys2Proof.Machine.Laws

section
variable {s t u : State}

/-- The queue is what it was, whatever a command leaves. -/
theorem pending_of_exec {c : Instr} (hexec : exec c s = .next t) : t.pending = s.pending := by
  obtain ⟨u, hnext, hqueue, -⟩ := exec_completes c s
  cases hexec.symm.trans hnext
  exact hqueue

/-! ## What a change leaves of SLEEP -/

/-- A change after which the register file is still in rising order, with SLEEP as it was. -/
def SleepKept (s t : State) : Prop := rising s.regs = true → rising t.regs = true ∧ t.sleepCode = s.sleepCode

theorem sleepKept_refl (s : State) : SleepKept s s := fun hregs => ⟨hregs, rfl⟩

theorem sleepKept_trans (hst : SleepKept s t) (htu : SleepKept t u) : SleepKept s u := fun hregs =>
  ⟨(htu (hst hregs).1).1, (htu (hst hregs).1).2.trans (hst hregs).2⟩

theorem sleepKept_of_regFrame {K : Nat → Prop} (hframe : RegFrame K s t) (hkey : ¬K 0x130000) : SleepKept s t := fun hregs =>
  ⟨(hframe hregs).1, get_of_regFrame hframe hregs hkey⟩

theorem sleepKept_of_regs_eq (hst : SleepKept s t) (hregs : u.regs = t.regs) : SleepKept s u := by
  unfold SleepKept State.sleepCode State.get State.word at *
  rwa [hregs]

theorem sleepKept_ite {c : Prop} [Decidable c] (ht : SleepKept s t) (hu : SleepKept s u) : SleepKept s (if c then t else u) := by
  split <;> assumption

theorem sleepKept_foldl {α : Type} {f : State → α → State} (hf : ∀ u x, SleepKept u (f u x)) (l : List α) (s : State) :
    SleepKept s (l.foldl f s) := by
  induction l generalizing s with
  | nil => exact sleepKept_refl s
  | cons x l ih => exact sleepKept_trans (hf s x) (ih _)

/-- A write of a field depends on the place of its register, not on its name. -/
theorem set_eq_of_place {f g : Fld} {v i : Nat} (hbits : f.hi = g.hi ∧ f.lo = g.lo) (hkey : f.key i 0 0 = g.key 0 0 0)
    (hreset : f.resetWord i 0 = g.resetWord 0 0) : s.set f v i = s.set g v := by
  simp only [State.set, State.setWord, State.word, hbits, hkey, hreset]

/-- A bit of the segment word above SLEEP's bits leaves SLEEP, even where the word of a port that does not exist is that of SLEEP. -/
theorem sleepKept_setSeg {b p : Nat} {v : Bool} (hb : 1 < b) :
    SleepKept s (s.setB ⟨0x80850, 4, 0, b, b, 0, false⟩ v p) := fun hregs => by
  refine ⟨rising_set _ _ _ _ _ _ hregs, ?_⟩
  by_cases hplace : 0x130000 = 0x80850 + 4 * p
  · have hsame : s.setB ⟨0x80850, 4, 0, b, b, 0, false⟩ v p = s.set ⟨0x130000, 0, 0, b, b, 0, false⟩ (b2n v) :=
      set_eq_of_place ⟨rfl, rfl⟩ (by simp only [Fld.key]; omega) (by simp [Fld.resetWord])
    rw [hsame]
    exact get_set_beside _ 0 0 0 hregs (Nat.le_refl b) (by decide) ⟨rfl, rfl, rfl, rfl, rfl⟩ (Or.inr hb)
  · exact get_set_ne _ p 0 0 0 0 0 hregs (by simp [Fld.key, Reg.DOM_STATUS_SLEEP]; omega)

/-! ## Links that go down as a node falls asleep -/

/-- The registers of a port whose link goes down. -/
def linkKeys (p k : Nat) : Prop :=
  k = 0x90004 + 0x20 * p ∨ k = 0x910D0 + 0x100 * p ∨ k = 0x910A4 + 0x100 * p ∨ k = 0x90104 + 8 * p ∨ k = 0x900C0

/-- The registers of a ring port whose segment is out of service. -/
def ringDownKeys (p k : Nat) : Prop := k = 0x80850 + 4 * p ∨ k = 0x80010 ∨ raiseKeys k

theorem regFrame_cntBy {K : Nat → Prop} {m i n : Nat} (hst : RegFrame K s t) (hi : 32 ≤ i) (hcount : K (0x91000 + 0x100 * m + 4 * i))
    (hhalf : K (0x90104 + 8 * m)) (hint : K 0x900C0) : RegFrame K s (t.cntBy m i n) := by
  have hkey : Reg.PORT_CNTm_i.key m i 0 = 0x91000 + 0x100 * m + 4 * i := by simp [Fld.key, Reg.PORT_CNTm_i]
  have hhalfKey : Reg.PORT_STAT_HALFm_HI.key m 0 0 = 0x90104 + 8 * m := by simp [Fld.key, Reg.PORT_STAT_HALFm_HI]
  have hcounted (w : Nat) : RegFrame K s (t.set Reg.PORT_CNTm_i w m i) := regFrame_set hst (hkey ▸ hcount)
  unfold State.cntBy
  dsimp only
  rw [if_neg (by omega : ¬i < 32)]
  have hmarked (w : Nat) (x : Word) : RegFrame K s ((t.set Reg.PORT_CNTm_i w m i).setWord Reg.PORT_STAT_HALFm_HI x m) :=
    regFrame_setWord (hcounted w) (hhalfKey ▸ hhalf)
  exact regFrame_ite (regFrame_ite (regFrame_int (f := Reg.PORT_INT_STATUS_HALF) (hmarked _ _) hint) (hmarked _ _)) (hcounted _)

/-- A port whose link goes down, before the ring hears of it. -/
def State.linkFell (s : State) (p : Nat) : State :=
  let lost := (s.port.held.filter (fun h => h.port = p)).length
  let s : State := { s with port := { s.port with held := s.port.held.filter (fun h => h.port ≠ p) } }
  let s := ((s.setB Reg.PORT_Pp_LINK_LINK false p).setB Reg.PORT_Pp_LINK_PAUSED false p).set Reg.PORT_Pp_LINK_DELAY_NS 0xFFFF p
  (((s.setB Reg.PORT_Pp_LINK_LPI false p).cnt p 52).cntBy p 41 lost).int Reg.PORT_INT_STATUS_LINK_CHG

theorem linkDown_eq (p : Nat) : linkDown p s = if !s.linkUp p then s else
    if p < 2 then ringLinkDown p ((s.linkFell p).modRct (fun r => { r with stepReq := setNth r.stepReq p false })) else s.linkFell p := rfl

theorem regFrame_linkFell (p : Nat) : RegFrame (linkKeys p) s (s.linkFell p) := by
  have hlink (f : Fld) (hf : f.addr = 0x90004 ∧ f.s1 = 0x20 ∧ f.s2 = 0 ∧ f.own = false) : linkKeys p (f.key p 0 0) := by
    obtain ⟨haddr, hs1, hs2, hown⟩ := hf
    exact Or.inl (by simp [Fld.key, haddr, hs1, hs2, hown])
  unfold State.linkFell
  extract_lets lost _ u v
  have hv : RegFrame (linkKeys p) s v := by
    refine regFrame_set (regFrame_setB (regFrame_setB (regFrame_of_regs_eq (regFrame_refl _ s) rfl) ?_) ?_) ?_ <;>
      exact hlink _ ⟨rfl, rfl, rfl, rfl⟩
  have hlpi : RegFrame (linkKeys p) s (v.setB Reg.PORT_Pp_LINK_LPI false p) := regFrame_setB hv (hlink _ ⟨rfl, rfl, rfl, rfl⟩)
  refine regFrame_int (regFrame_cntBy (regFrame_cntBy hlpi ?_ ?_ ?_ ?_) ?_ ?_ ?_ ?_) ?_ <;>
    simp [linkKeys, Fld.key, Reg.PORT_INT_STATUS_LINK_CHG] <;> omega

theorem regFrame_dropCount (p : Nat) : RegFrame raiseKeys s (dropCount p s) := by
  unfold dropCount
  extract_lets now minute l dropped again
  have hdropped : RegFrame raiseKeys s dropped := regFrame_of_regs_eq (regFrame_refl _ s) rfl
  clear_value dropped
  refine regFrame_ite ?_ hdropped
  refine regFrame_trans ?_ (regFrame_raise _ (src := 0x45) p 0 (by decide))
  exact regFrame_of_regs_eq hdropped (State.modRct_regs _ _)

theorem regFrame_showBound {K : Nat → Prop} (hkey : K 0x80010) : RegFrame K s (showBound s) := by
  unfold showBound
  split
  · exact regFrame_refl K s
  · exact regFrame_setWord (f := Reg.RING_DP_BOUND) (regFrame_of_regs_eq (regFrame_refl K s) rfl) hkey

theorem segLost_out {p reason : Nat} (hout : s.inService p = false) : segLost p reason s = s := if_pos (by simp [hout])

/-- A link lost on a segment out of service: the segment's word, the age bound, and what a fault raised writes. -/
theorem regFrame_ringLinkDown {p : Nat} (hp : p < 2) (hregs : rising s.regs = true) (hout : s.inService p = false) :
    RegFrame (ringDownKeys p) s (ringLinkDown p s) := by
  have hkey (f : Fld) (hf : f.addr = 0x80850 ∧ f.s1 = 4 ∧ f.s2 = 0 ∧ f.own = false) : f.key p 0 0 = 0x80850 + 4 * p := by
    obtain ⟨haddr, hs1, hs2, hown⟩ := hf
    simp [Fld.key, haddr, hs1, hs2, hown]
  have hnotRaised : ¬raiseKeys (0x80850 + 4 * p) := by
    unfold raiseKeys heldKeys
    omega
  unfold ringLinkDown
  extract_lets down lost
  have hdown : RegFrame (ringDownKeys p) s down := by
    refine regFrame_set (regFrame_setB (regFrame_setB (regFrame_refl _ s) ?_) ?_) ?_ <;> exact Or.inl (hkey _ ⟨rfl, rfl, rfl, rfl⟩)
  have hdownOut : down.inService p = false := by
    have hlink := rising_set s Reg.RING_SEG_PORTp_LINK (b2n false) p 0 0 hregs
    have hready := rising_set _ Reg.RING_SEG_PORTp_READY (b2n false) p 0 0 hlink
    have hbelowLink : (s.setB Reg.RING_SEG_PORTp_LINK false p).get Reg.RING_SEG_PORTp_IN_SERVICE p = s.get Reg.RING_SEG_PORTp_IN_SERVICE p :=
      get_set_beside _ p 0 0 hregs (by decide) (by decide) ⟨rfl, rfl, rfl, rfl, rfl⟩ (by decide)
    have haboveReady : ((s.setB Reg.RING_SEG_PORTp_LINK false p).setB Reg.RING_SEG_PORTp_READY false p).get Reg.RING_SEG_PORTp_IN_SERVICE p =
        (s.setB Reg.RING_SEG_PORTp_LINK false p).get Reg.RING_SEG_PORTp_IN_SERVICE p :=
      get_set_beside _ p 0 0 hlink (by decide) (by decide) ⟨rfl, rfl, rfl, rfl, rfl⟩ (by decide)
    have haboveHold : down.get Reg.RING_SEG_PORTp_IN_SERVICE p =
        ((s.setB Reg.RING_SEG_PORTp_LINK false p).setB Reg.RING_SEG_PORTp_READY false p).get Reg.RING_SEG_PORTp_IN_SERVICE p :=
      get_set_beside (f := Reg.RING_SEG_PORTp_HOLD_LEFT) 0 p 0 0 hready (by decide) (by decide) ⟨rfl, rfl, rfl, rfl, rfl⟩ (by decide)
    have hread := haboveHold.trans (haboveReady.trans hbelowLink)
    unfold State.inService State.is at hout ⊢
    rw [hread]
    exact hout
  clear_value down
  have hdropped : RegFrame raiseKeys down ((dropCount p down).modRct (fun r => { r with probes := setNth r.probes p none })) :=
    regFrame_of_regs_eq (regFrame_dropCount p) (State.modRct_regs _ _)
  have hdroppedOut : ((dropCount p down).modRct (fun r => { r with probes := setNth r.probes p none })).inService p = false := by
    unfold State.inService State.is at hdownOut ⊢
    rw [get_of_regFrame hdropped (hdown hregs).1 (by rw [hkey _ ⟨rfl, rfl, rfl, rfl⟩]; exact hnotRaised)]
    exact hdownOut
  have hlost : RegFrame (ringDownKeys p) s lost :=
    regFrame_ite hdown (by
      rw [segLost_out hdroppedOut]
      exact regFrame_trans hdown (regFrame_mono hdropped fun k hk => Or.inr (Or.inr hk)))
  exact regFrame_trans hlost (regFrame_showBound (Or.inr (Or.inl rfl)))

/-- SLEEP stays while the link of a port out of service goes down. -/
theorem sleepKept_linkDown {p : Nat} (hregs : rising s.regs = true) (hout : s.inService p = false) : SleepKept s (linkDown p s) := by
  rw [linkDown_eq]
  have hfell : SleepKept s (s.linkFell p) := sleepKept_of_regFrame (regFrame_linkFell p) (by unfold linkKeys; omega)
  refine sleepKept_ite (sleepKept_refl s) ?_
  split
  · next hp =>
    have hread : ((s.linkFell p).modRct (fun r => { r with stepReq := setNth r.stepReq p false })).inService p = false := by
      have hkept : (s.linkFell p).get Reg.RING_SEG_PORTp_IN_SERVICE p = s.get Reg.RING_SEG_PORTp_IN_SERVICE p :=
        get_of_regFrame (regFrame_linkFell p) hregs (by
          unfold linkKeys
          simp [Fld.key, Reg.RING_SEG_PORTp_IN_SERVICE]
          omega)
      unfold State.inService State.is at hout ⊢
      exact (congrArg (· == 1) hkept).trans hout
    refine sleepKept_trans (sleepKept_of_regs_eq hfell (State.modRct_regs _ _))
      (sleepKept_of_regFrame (regFrame_ringLinkDown hp (hfell hregs).1 hread) ?_)
    unfold ringDownKeys raiseKeys heldKeys
    omega
  · exact hfell

/-! ## The ring laid to sleep -/

theorem stepJoin_regs (g : StepGo) : (stepJoin g s).regs = s.regs := by
  unfold stepJoin
  extract_lets busy mine
  split <;> rfl

theorem sleepKept_stepRetrain : SleepKept s (stepRetrain s) := by
  unfold stepRetrain
  split
  · exact sleepKept_refl s
  · next g _ =>
    extract_lets ports down
    have hdown : SleepKept s down := sleepKept_foldl (fun u p hregs => by
      have hstepping : SleepKept u (u.setB Reg.RING_SEG_PORTp_STEPPING true p) := sleepKept_setSeg (b := 29) (by decide)
      have hstepped := (hstepping hregs).1
      have hserved : SleepKept (u.setB Reg.RING_SEG_PORTp_STEPPING true p)
          ((u.setB Reg.RING_SEG_PORTp_STEPPING true p).setB Reg.RING_SEG_PORTp_IN_SERVICE false p) :=
        sleepKept_setSeg (b := 30) (by decide)
      have hout : ((u.setB Reg.RING_SEG_PORTp_STEPPING true p).setB Reg.RING_SEG_PORTp_IN_SERVICE false p).inService p = false := by
        have hread : ((u.setB Reg.RING_SEG_PORTp_STEPPING true p).setB Reg.RING_SEG_PORTp_IN_SERVICE false p).get
            Reg.RING_SEG_PORTp_IN_SERVICE p = 0 := get_set_same _ p 0 0 hstepped (by decide) (by decide)
        rw [State.inService, State.is, hread]
        rfl
      exact sleepKept_trans hstepping (sleepKept_trans hserved (sleepKept_linkDown (hserved hstepped).1 hout)) hregs) _ _
    refine sleepKept_ite (sleepKept_refl s) (sleepKept_trans hdown (sleepKept_of_regs_eq (sleepKept_of_regFrame
      (K := fun k => k = 0x80868 ∨ k = 0x80880) ?_ (by decide)) rfl))
    exact regFrame_int (f := Reg.RING_CTL_INT_STATUS_SEGMENT) (regFrame_inc (f := Reg.RING_CTL_CNT_STEP) (regFrame_refl _ _) (Or.inl rfl))
      (Or.inr rfl)

theorem sleepKept_ringDoze : SleepKept s (ringDoze s) := by
  unfold ringDoze
  extract_lets g quiet asked
  have hquiet : SleepKept s quiet := sleepKept_foldl (fun u p hregs => by
    split
    · exact ⟨hregs, rfl⟩
    · next hout =>
      exact sleepKept_linkDown hregs (by simp only [Bool.or_eq_true, not_or, Bool.not_eq_true] at hout; exact hout.1) hregs) _ _
  have hjoined : SleepKept quiet (stepJoin g asked) := sleepKept_of_regs_eq (sleepKept_refl quiet) (stepJoin_regs g)
  exact sleepKept_trans hquiet (sleepKept_trans hjoined sleepKept_stepRetrain)

/-- The end of an entry: SLEEP says which sleep it is, and the interrupt tells of it. -/
def State.sleptAs (s : State) (storage : Bool) : State :=
  let s := s.set Reg.DOM_STATUS_SLEEP (if storage then 2 else 1)
  let s := if storage then s else ringDoze s
  let s : State := if storage then { s with flt := { s.flt with plumb := false } } else s
  let s : State := { s with
    dom := { s.dom with entering := false, sleptAt := s.ks.count }
    ks := { s.ks with running := s.ks.running && !storage } }
  s.int Reg.DOM_INT_STATUS_SLEPT

/-- What the entry into sleep begins with leaves the form of the state. -/
theorem sleepReady_ends (hentering : s.dom.entering = true) (hquiet : s.outputsActive = false) :
    ∃ u, Keeps s u ∧ sleepReady s = u.sleptAs (s.is Reg.DOM_STATUS_STORAGE) := by
  unfold sleepReady
  rw [if_neg (by simp [hentering, hquiet])]
  extract_lets storage cut cancelled noImg recorded ringed slept _ _ _ _ _ _
  have hcancelled : Keeps s cancelled := keeps_ite (keeps_cancelActions _ (keeps_refl s)) (keeps_refl s)
  have hnoImg : Keeps s noImg := keeps_ite (keeps_noImage hcancelled) hcancelled
  have hrecorded : Keeps s recorded := keeps_sleepRecord (keeps_State_setB _ _ _ _ _ hnoImg)
  have hringed : Keeps s ringed := keeps_ite (keeps_State_setCtl _ (keeps_State_modRct _ hrecorded)) hrecorded
  have hslept : Keeps s slept := keeps_foldl _ _ hringed fun u d hu => keeps_domSleep _ _ hu
  exact ⟨slept, hslept, rfl⟩

theorem sleptAs_entering (storage : Bool) : (s.sleptAs storage).dom.entering = false := by
  unfold State.sleptAs
  rw [State.int_dom]

theorem sleptAs_sleepCode (storage : Bool) (hregs : rising s.regs = true) :
    (s.sleptAs storage).sleepCode = if storage then 2 else 1 := by
  unfold State.sleptAs
  extract_lets told dozed _ held _ _ ended
  have htold : told.sleepCode = if storage then 2 else 1 :=
    (get_set_same _ 0 0 0 hregs (by decide) (by decide)).trans (by cases storage <;> rfl)
  have hdozed : SleepKept told dozed := sleepKept_ite (sleepKept_refl told) sleepKept_ringDoze
  have hended : SleepKept told ended := by
    refine sleepKept_of_regs_eq hdozed ?_
    cases storage <;> rfl
  have hint : SleepKept told (ended.int Reg.DOM_INT_STATUS_SLEPT) :=
    sleepKept_trans hended (sleepKept_of_regFrame (K := fun k => k = 0x130010) (regFrame_int (regFrame_refl _ _) rfl) (by decide))
  exact (hint (rising_set _ _ _ _ _ _ hregs)).2.trans htold

/-! ## The ends of sleep -/

theorem get_put_listed {α : Type} [DecidableEq α] {d : Nat → α} (d' : Nat → α) (m : KMap α) {k : Nat} {v : α} (hv : v ≠ d k) :
    KMap.get d' (KMap.put d m k v) k = v := by
  induction m with
  | nil => simp only [KMap.put, if_neg hv, KMap.get, if_pos]
  | cons e m ih =>
    obtain ⟨k', v'⟩ := e
    simp only [KMap.put, if_neg hv]
    split
    · simp only [KMap.get, if_pos]
    · next hne =>
      split
      · simp only [KMap.get, if_pos]
      · next hlt => rw [KMap.get, if_neg hne, if_neg hlt, ih]

/-- A cause beside SLEEP leaves it, whatever the form of the register file. -/
theorem sleepCode_caused {c : Nat} (hpos : 0 < c) (hlt : c < 16) : (s.set Reg.DOM_STATUS_CAUSE c).sleepCode = s.sleepCode := by
  have hcause : bitsOf (BitVec.ofNat 32 (putBits (s.word Reg.DOM_STATUS_CAUSE).toNat 11 8 c)).toNat 11 8 = c := by
    rw [bitsOf_ofNat32 _ _ (by decide), bitsOf_putBits_same _ _ _ _ (by decide)]
    exact Nat.mod_eq_of_lt hlt
  have hlisted : BitVec.ofNat 32 (putBits (s.word Reg.DOM_STATUS_CAUSE).toNat 11 8 c) ≠ Reg.DOM_STATUS_CAUSE.resetWord 0 0 :=
      fun hzero => by
    rw [hzero] at hcause
    have hreset : bitsOf (Reg.DOM_STATUS_CAUSE.resetWord 0 0).toNat 11 8 = 0 := by decide
    omega
  have hword : (s.set Reg.DOM_STATUS_CAUSE c).word Reg.DOM_STATUS_SLEEP =
      BitVec.ofNat 32 (putBits (s.word Reg.DOM_STATUS_CAUSE).toNat 11 8 c) := get_put_listed _ _ hlisted
  unfold State.sleepCode State.get
  rw [hword]
  exact (bitsOf_ofNat32 _ _ (by decide)).trans (bitsOf_putBits_ne _ _ _ _ _ _ (by decide) (Or.inr (by decide)))

variable {cause en : Nat} {net sto frame : Bool}

theorem wakeBy_deaf (hdeaf : (if s.is Reg.DOM_STATUS_STORAGE then sto else net) = false ∨
    en ≠ 6 ∧ bit (s.word Reg.DOM_WAKE_EN).toNat en = false) : wakeBy cause en net sto frame s = s := by
  refine if_pos ?_
  rcases hdeaf with hkind | ⟨hen, hoff⟩
  · simp [hkind]
  · simp [hen, hoff]

/-- An entry that ends before the sleep: SLEEP reads 0, and the ring wakes. -/
def State.entryLeft (s : State) : State := ringWaking ((s.set Reg.DOM_STATUS_SLEEP 0).int Reg.DOM_INT_STATUS_WOKE)

theorem entryLeft_dom (s : State) : s.entryLeft.dom = s.dom := by
  simp only [State.entryLeft, ringWaking, State.modRct_dom, State.int_dom, State.set_dom]

theorem entryLeft_get {f : Fld} (hregs : rising s.regs = true) (hkey : f.key 0 0 0 ≠ 0x130010) :
    s.entryLeft.get f = (s.set Reg.DOM_STATUS_SLEEP 0).get f := get_int_ne (rising_set _ _ _ _ _ _ hregs) hkey

/-- A wake that is enabled notes its cause, and does what the sleep calls for. -/
theorem wakeBy_heard (hkind : (if s.is Reg.DOM_STATUS_STORAGE then sto else net) = true) (hon : bit (s.word Reg.DOM_WAKE_EN).toNat en = true)
    (hasleep : s.dom.entering = true ∨ s.sleepCode = 1 ∨ s.sleepCode = 2) (hpos : 0 < cause) (hlt : cause < 16) :
    wakeBy cause en net sto frame s = if s.dom.entering then
      ({ s.set Reg.DOM_STATUS_CAUSE cause with dom := { s.dom with entering := false } } : State).entryLeft
      else if s.sleepCode = 1 then networkWake cause frame (s.set Reg.DOM_STATUS_CAUSE cause)
      else storageWake (s.set Reg.DOM_STATUS_CAUSE cause) := by
  unfold wakeBy
  extract_lets kind on asleep caused
  have hcode : caused.sleepCode = s.sleepCode := sleepCode_caused hpos hlt
  rw [if_neg (by rcases hasleep with h | h | h <;> simp [kind, on, asleep, hkind, hon, h]), hcode]
  rfl

theorem wakeBy_network (hkind : (if s.is Reg.DOM_STATUS_STORAGE then sto else net) = true)
    (hon : bit (s.word Reg.DOM_WAKE_EN).toNat en = true) (hcode : s.sleepCode = 1) (hentering : s.dom.entering = false) (hpos : 0 < cause)
    (hlt : cause < 16) : wakeBy cause en net sto frame s = networkWake cause frame (s.set Reg.DOM_STATUS_CAUSE cause) := by
  rw [wakeBy_heard hkind hon (Or.inr (Or.inl hcode)) hpos hlt, if_neg (by simp [hentering]), if_pos hcode]

theorem wakeBy_storage (hsto : sto = true) (hstorage : s.is Reg.DOM_STATUS_STORAGE = true)
    (hon : bit (s.word Reg.DOM_WAKE_EN).toNat en = true) (hcode : s.sleepCode = 2) (hentering : s.dom.entering = false) (hpos : 0 < cause)
    (hlt : cause < 16) : wakeBy cause en net sto frame s = storageWake (s.set Reg.DOM_STATUS_CAUSE cause) := by
  rw [wakeBy_heard (by rw [hstorage, hsto]; rfl) hon (Or.inr (Or.inr hcode)) hpos hlt, if_neg (by simp [hentering]),
    if_neg (by simp [hcode])]

/-- An entry that a wake ends leaves the node awake, with the cause. -/
theorem wakeBy_entering (hkind : (if s.is Reg.DOM_STATUS_STORAGE then sto else net) = true)
    (hon : bit (s.word Reg.DOM_WAKE_EN).toNat en = true) (hentering : s.dom.entering = true) (hpos : 0 < cause) (hlt : cause < 16)
    (hregs : rising s.regs = true) :
    (wakeBy cause en net sto frame s).dom.entering = false ∧ (wakeBy cause en net sto frame s).sleepCode = 0 ∧
      (wakeBy cause en net sto frame s).get Reg.DOM_STATUS_CAUSE = cause := by
  rw [wakeBy_heard hkind hon (Or.inl hentering) hpos hlt, if_pos hentering]
  have hcaused : rising (s.set Reg.DOM_STATUS_CAUSE cause).regs = true := rising_set _ _ _ _ _ _ hregs
  have hread : (s.set Reg.DOM_STATUS_CAUSE cause).get Reg.DOM_STATUS_CAUSE = cause :=
    (get_set_same _ 0 0 0 hregs (by decide) (by decide)).trans (Nat.mod_eq_of_lt hlt)
  generalize hu : ({ s.set Reg.DOM_STATUS_CAUSE cause with dom := { s.dom with entering := false } } : State) = u
  have hu_regs : u.regs = (s.set Reg.DOM_STATUS_CAUSE cause).regs := hu ▸ rfl
  have hu_entering : u.dom.entering = false := hu ▸ rfl
  have hu_rising : rising u.regs = true := hu_regs ▸ hcaused
  have hu_cause : u.get Reg.DOM_STATUS_CAUSE = cause := by
    rw [← hread, State.get, State.word, hu_regs]
    rfl
  refine ⟨?_, ?_, ?_⟩
  · rw [entryLeft_dom, hu_entering]
  · exact (entryLeft_get hu_rising (by decide)).trans (get_set_same _ 0 0 0 hu_rising (by decide) (by decide))
  · exact ((entryLeft_get (f := Reg.DOM_STATUS_CAUSE) hu_rising (by decide)).trans
      (get_set_beside (g := Reg.DOM_STATUS_CAUSE) 0 0 0 0 hu_rising (by decide) (by decide) ⟨rfl, rfl, rfl, rfl, rfl⟩
        (by decide))).trans hu_cause

/-- The wake from storage ends with the ring quiet and waking. -/
theorem storageReady_rct {ns ms : Nat} (hcode : s.sleepCode = 3) (hentering : s.dom.entering = false)
    (hstorage : s.is Reg.DOM_STATUS_STORAGE = true) :
    (storageReady ns ms s).rct.quiet = true ∧ (storageReady ns ms s).rct.wakeStart = true := by
  have hdue : ¬(s.sleepCode ≠ 3 ∨ s.dom.entering = true ∨ (!s.is Reg.DOM_STATUS_STORAGE) = true) := by
    simp [hcode, hentering, hstorage]
  have hends : ∃ u, storageReady ns ms s = (ringWaking u).int Reg.DOM_INT_STATUS_WOKE := ⟨_, if_neg hdue⟩
  obtain ⟨u, hu⟩ := hends
  rw [hu, State.int_rct]
  exact ⟨rfl, rfl⟩

/-! ## The beginning of an entry -/

theorem diagFinish_kept (result : Nat) (s : State) : SleepKept s (diagFinish result s) ∧ (diagFinish result s).dom = s.dom := by
  unfold diagFinish
  refine ⟨sleepKept_of_regFrame (K := fun k => k = Reg.BST_DIAG_STATUS_RESULT.key 0 0 0 ∨ k = Reg.BST_INT_STATUS_DIAG_DONE.key 0 0 0)
    ?_ (by decide), by rw [State.int_dom]; rfl⟩
  exact regFrame_int (regFrame_setB (regFrame_set (regFrame_of_regs_eq (regFrame_refl _ s) rfl) (Or.inl rfl)) (Or.inl rfl)) (Or.inr rfl)

theorem runCtrl_kept (n : Nat) (bits : List Nat) (s : State) : SleepKept s (s.runCtrl n bits) ∧ (s.runCtrl n bits).dom = s.dom := by
  unfold State.runCtrl
  split
  · exact ⟨sleepKept_refl s, rfl⟩
  · exact ⟨sleepKept_of_regs_eq (sleepKept_refl s) rfl, rfl⟩

theorem diagStopped_kept (mask : Nat) (s : State) : SleepKept s (diagStopped mask s) ∧ (diagStopped mask s).dom = s.dom := by
  have hstopped (l : List Nat) : SleepKept s (l.foldl (fun s n => s.runCtrl n [4]) s) ∧
      (l.foldl (fun s n => s.runCtrl n [4]) s).dom = s.dom :=
    ⟨sleepKept_foldl (fun u n => (runCtrl_kept n [4] u).1) l s, foldl_kept (fun u n => (runCtrl_kept n [4] u).2) l s⟩
  unfold diagStopped diagAbort
  split
  · split
    · exact ⟨sleepKept_refl s, rfl⟩
    · obtain ⟨hsleep, hdom⟩ := diagFinish_kept 4 ((bitsSet (s.bst.diag.started - (s.bst.diag.started &&& s.ovrOuts)) 8).foldl
        (fun s n => s.runCtrl n [4]) s)
      exact ⟨sleepKept_trans (hstopped _).1 hsleep, hdom.trans (hstopped _).2⟩
  · exact ⟨sleepKept_refl s, rfl⟩

theorem anaDown_kept (n : Nat) (s : State) : SleepKept s (s.anaDown n) ∧ (s.anaDown n).dom = s.dom := by
  have hkey : Reg.ANA_OUTn_STAT_RAMP.key n 0 0 ≠ 0x130000 := by
    simp [Fld.key, Reg.ANA_OUTn_STAT_RAMP]
    omega
  have hramp (u : State) (hu : u.regs = s.regs) : SleepKept s (u.set Reg.ANA_OUTn_STAT_RAMP 2 n) :=
    sleepKept_of_regFrame (K := fun k => k = Reg.ANA_OUTn_STAT_RAMP.key n 0 0)
      (regFrame_set (regFrame_of_regs_eq (regFrame_refl _ s) hu) rfl) hkey.symm
  unfold State.anaDown
  extract_lets r len
  split
  · exact ⟨sleepKept_refl s, rfl⟩
  · split
    · exact ⟨hramp s rfl, rfl⟩
    · exact ⟨hramp _ rfl, rfl⟩

/-- To mute outputs leaves the power domains and SLEEP. -/
theorem muteOutputs_kept (mask : Nat) (s : State) : SleepKept s (muteOutputs mask s) ∧ (muteOutputs mask s).dom = s.dom := by
  obtain ⟨hsleep, hdom⟩ := diagStopped_kept mask s
  have hmuted (u : State) (n : Nat) : SleepKept u (if bit (mask / 256) n then (u.anaDown n).modOut n (fun c => { c with start := false })
      else u) ∧ (if bit (mask / 256) n then (u.anaDown n).modOut n (fun c => { c with start := false }) else u).dom = u.dom := by
    split
    · exact ⟨sleepKept_of_regs_eq (anaDown_kept n u).1 rfl, (anaDown_kept n u).2⟩
    · exact ⟨sleepKept_refl u, rfl⟩
  have hasked (w : Nat) : SleepKept s ((diagStopped mask s).askStop w) := sleepKept_of_regs_eq hsleep rfl
  exact ⟨sleepKept_trans (hasked _) (sleepKept_foldl (fun u n => (hmuted u n).1) _ _),
    (forN_kept (fun u n => (hmuted u n).2) 4 _).trans hdom⟩

/-- An entry begun: SLEEP reads 3 with no sleep due, while the outputs are muted. -/
theorem sleepEnter_begins {m : Nat} (hregs : rising s.regs = true) (hdue : s.sleepDue = some m) (hawake : s.asleep = false) :
    (sleepEnter s).dom.entering = true ∧ (sleepEnter s).dom.sleepAt = none ∧ (sleepEnter s).sleepCode = 3 := by
  rw [sleepEnter_due hdue hawake]
  generalize hu : (fun u : State => { u with dom := { u.dom with entering := true, resume := s.liveOutputs } })
      ((({ s with dom := { s.dom with sleepAt := none } } : State).set Reg.DOM_STATUS_SLEEP 3).setB Reg.DOM_STATUS_STORAGE (m = 2)) = u
  have hcoded : rising (({ s with dom := { s.dom with sleepAt := none } } : State).set Reg.DOM_STATUS_SLEEP 3).regs = true :=
    rising_set _ _ _ _ _ _ hregs
  have hrising : rising u.regs = true := hu ▸ rising_set _ Reg.DOM_STATUS_STORAGE (b2n (m = 2)) 0 0 0 hcoded
  have hcode : u.sleepCode = 3 := by
    rw [← hu]
    exact (get_set_beside (f := Reg.DOM_STATUS_STORAGE) (g := Reg.DOM_STATUS_SLEEP) (b2n (m = 2)) 0 0 0 hcoded (by decide) (by decide)
      ⟨rfl, rfl, rfl, rfl, rfl⟩ (by decide)).trans (get_set_same (f := Reg.DOM_STATUS_SLEEP) 3 0 0 0 hregs (by decide) (by decide))
  obtain ⟨hsleep, hdom⟩ := muteOutputs_kept 4095 u
  exact ⟨by rw [hdom, ← hu], by rw [hdom, ← hu]; rfl, (hsleep hrising).2.trans hcode⟩

/-! ## Frames of ring control -/

theorem cntBy_units (s : State) (m i k : Nat) : (s.cntBy m i k).rct = s.rct ∧ (s.cntBy m i k).dom = s.dom := by
  simp only [State.cntBy]
  repeat' split
  all_goals simp

theorem txCount_units (s : State) (m : Nat) (f : List Byte) : (s.txCount m f).rct = s.rct ∧ (s.txCount m f).dom = s.dom := by
  have hwire : (s.addWire m 0 (wireLen f)).rct = s.rct ∧ (s.addWire m 0 (wireLen f)).dom = s.dom := ⟨rfl, rfl⟩
  simp only [State.txCount, State.cnt]
  split <;> simp only [cntBy_units, hwire, and_self]

theorem sendOn_units (s : State) (p : Nat) (f : List Byte) :
    (s.sendOn p f).rct = s.rct ∧ (s.sendOn p f).dom = s.dom ∧ (s.sendOn p f).mem = s.mem := by
  have hlpi : (if p = 2 then s.setB Reg.PORT_Pp_LINK_LPI false 2 else s).rct = s.rct ∧
      (if p = 2 then s.setB Reg.PORT_Pp_LINK_LPI false 2 else s).dom = s.dom ∧
      (if p = 2 then s.setB Reg.PORT_Pp_LINK_LPI false 2 else s).mem = s.mem := by
    split <;> exact ⟨rfl, rfl, rfl⟩
  simp only [State.sendOn, State.cnt]
  split
  · split
    · exact ⟨rfl, rfl, rfl⟩
    · exact ⟨(cntBy_units _ _ _ _).1, (cntBy_units _ _ _ _).2, (cntBy_kept _ _ _ _).1⟩
  · split
    · exact ⟨rfl, rfl, rfl⟩
    · exact ⟨(txCount_units _ _ _).1.trans hlpi.1, (txCount_units _ _ _).2.trans hlpi.2.1, (txCount_kept _ _ _).1.trans hlpi.2.2⟩

/-- A frame of ring control takes the next sequence number, and leaves the domains and the memories. -/
theorem ctlSend_units (s : State) (typ : Nat) (ports : List Nat) (body : List Byte) :
    (s.ctlSend typ ports body).rct = { s.rct with seq := (s.rct.seq + 1) % 65536 } ∧ (s.ctlSend typ ports body).dom = s.dom ∧
      (s.ctlSend typ ports body).mem = s.mem :=
  ⟨foldl_kept (g := State.rct) (fun u p => (sendOn_units u p _).1) ports _,
    foldl_kept (g := State.dom) (fun u p => (sendOn_units u p _).2.1) ports _,
    foldl_kept (g := State.mem) (fun u p => (sendOn_units u p _).2.2) ports _⟩

theorem stepJoin_units (g : StepGo) (s : State) : (stepJoin g s).rct.quiet = s.rct.quiet ∧ (stepJoin g s).mem = s.mem := by
  unfold stepJoin
  extract_lets busy mine
  split <;> exact ⟨rfl, rfl⟩

theorem stepGrant_units (seg speed : Nat) (s : State) :
    (stepGrant seg speed s).rct.quiet = s.rct.quiet ∧ (stepGrant seg speed s).mem = s.mem := by
  unfold stepGrant
  extract_lets c g joined
  obtain ⟨hquiet, hmem⟩ := stepJoin_units g (s.modRct (fun r => { r with step := some g, stepLeft := s.stepSegs seg }))
  obtain ⟨hrct, -, hsent⟩ := ctlSend_units joined 10 joined.svc (stepBody 2 speed seg c 0)
  exact ⟨by rw [hrct]; exact hquiet, hsent.trans hmem⟩

theorem wakeStep_units (s : State) : (wakeStep s).rct.quiet = s.rct.quiet ∧ (wakeStep s).mem = s.mem := by
  unfold wakeStep
  split
  · exact ⟨rfl, rfl⟩
  · split
    · exact ⟨rfl, rfl⟩
    · next p _ _ =>
      extract_lets told
      split
      · exact ⟨rfl, rfl⟩
      · exact stepGrant_units 0xFFFF p.conf.speed told

theorem silenceResume_ends (hquiet : s.rct.quiet = true) : (silenceResume s).rct.quiet = false ∧ (silenceResume s).mem = s.mem := by
  unfold silenceResume
  rw [if_neg (by simp [hquiet])]
  exact wakeStep_units _

/-- Three frames of ring control. -/
theorem ctlSend_thrice (s : State) (typ : Nat) (body : List Byte) :
    (s.forN 3 (fun t _ => t.ctlSend typ t.svc body)).rct.seq = (s.rct.seq + 3) % 65536 ∧
      (s.forN 3 (fun t _ => t.ctlSend typ t.svc body)).dom = s.dom := by
  refine ⟨?_, forN_kept (fun u _ => (ctlSend_units u _ _ _).2.1) 3 s⟩
  have hnext (u : State) : (u.ctlSend typ u.svc body).rct.seq = (u.rct.seq + 1) % 65536 := by rw [(ctlSend_units u _ _ _).1]
  change ((((s.ctlSend typ s.svc body).ctlSend typ _ body)).ctlSend typ _ body).rct.seq = _
  rw [hnext, hnext, hnext]
  omega

/-! ## Domains -/

theorem domIdle_goes {d : Nat} (hwaking : (s.domn d).waking = false) (hhold : (s.domn d).sleepHold = false) (hkeep : s.domKeep d = false) :
    domIdle d s = domDown d (if s.floored d then min 1 (s.domTarget d) else s.domTarget d) s := by
  unfold domIdle
  rw [if_neg (by simp [hwaking]), if_neg (by simp [hhold]), if_neg (by simp [hkeep])]

/-- The domains of the stones, the engine and the memories let nothing go at L1. -/
theorem domLeft_plain {d : Nat} (hd : d < 43) : domLeft d s = s := by
  unfold domLeft
  split
  case h_15 => rfl
  all_goals omega

theorem domDown_first {d : Nat} (hat : s.domAt d = 0) (hd : d < 43) :
    domDown d 1 s = s.modDom d (fun x => { x with state := 1, waking := false }) := by
  unfold domDown
  extract_lets old saved lowered
  rw [if_neg (by simp [old, hat]), if_pos (show old = 0 from hat), domLeft_plain hd]
  rfl

theorem domAt_lowered {d : Nat} (hd : d < s.dom.doms.length) :
    (s.modDom d (fun x => { x with state := 1, waking := false })).domAt d = 1 := by
  have hstate : (nth (s.modDom d (fun x => { x with state := 1, waking := false })).dom.doms d ⟨0, false, false⟩).state = 1 :=
    congrArg Domain.state (nth_modNth s.dom.doms d (fun x => { x with state := 1, waking := false }) _ hd)
  unfold State.domAt
  rw [hstate]
  rfl

end

/-- Settles O50: a domain goes down to its target or to L1 and is woken by demand; an entry ends in the sleep that
STORAGE names, and a wake ends it with its cause; the frames of ring control that a sleep takes leave the rest. -/
theorem domainEventsTakeEffect : Obligations.DomainEventsTakeEffect := by
  refine ⟨fun s d hwaking hhold _ hkeep _ hfloor => ?target, fun s d hwaking hhold _ hkeep htarget hfloor => ?floored,
    fun s d hat hd _ hlen => ?low, fun s d hat hwaking => ?wakes, fun s d hat => ?up, fun s d hwaking => ?woken,
    fun s hentering => ?noEntry, fun s hentering hquiet hcommitted hcanon => ?slept, fun s hoff => ?pinOff,
    fun s hon hcode hentering => ?pinNetwork, fun s hon hcode hentering => ?bus, fun s p hon hcode hstorage hentering => ?energy,
    fun s p hstorage => ?noEnergy, fun s ns ms hcode hentering hstorage => ?storage, fun s ns ms hcode => ?noStorage,
    fun s hon hcode hstorage hentering => ?pinStorage, fun s m hdue hawake hcanon => ?enters, fun s hquiet => ?resumes,
    fun acc s howns hcanon hcoord => ?ringSleep, fun acc s howns hcanon hentering hon => ?ringWake, fun s hrunning hcommitted => ?running⟩
  case target =>
    exact congrArg Host.Outcome.next ((domIdle_goes hwaking hhold hkeep).trans (by rw [if_neg (by simp [hfloor])]))
  case floored =>
    have hmin : min 1 (s.domTarget d.val) = 1 := by omega
    exact congrArg Host.Outcome.next ((domIdle_goes hwaking hhold hkeep).trans (by rw [if_pos hfloor, hmin]))
  case low =>
    rw [domDown_first hat hd]
    exact ⟨domAt_lowered hlen, rfl, rfl⟩
  case wakes => exact congrArg Host.Outcome.next (if_neg (by simp [hat, hwaking]))
  case up => exact congrArg Host.Outcome.next (if_pos (by simp [hat]))
  case woken => exact congrArg (fun u => Host.Outcome.next (resume u)) (if_pos hwaking)
  case noEntry =>
    have hnone : sleepReady s = s := if_pos (by simp [hentering])
    exact congrArg Host.Outcome.next ((congrArg (fun u => if s.ks.running && !s.ks.committed then s else u) hnone).trans (ite_self _))
  case slept =>
    have hdue : ¬(s.ks.running && !s.ks.committed) = true := by
      cases hrun : s.ks.running <;> simp [hrun] at hcommitted ⊢
      exact hcommitted
    have hexec : exec .sleepEntryReady s = .next (sleepReady s) := congrArg Host.Outcome.next (if_neg hdue)
    obtain ⟨u, hkeeps, hends⟩ := sleepReady_ends hentering hquiet
    refine ⟨_, hexec, ?_, ?_, pending_of_exec hexec⟩
    · rw [hends, sleptAs_entering]
    · rw [hends]
      exact sleptAs_sleepCode _ (rising_of_canon (hkeeps.2 hcanon))
  case pinOff => exact congrArg Host.Outcome.next (wakeBy_deaf (Or.inr ⟨by decide, hoff⟩))
  case pinNetwork => exact congrArg Host.Outcome.next (wakeBy_network (ite_self _) hon hcode hentering (by decide) (by decide))
  case bus => exact congrArg Host.Outcome.next (wakeBy_network (ite_self _) hon hcode hentering (by decide) (by decide))
  case energy => exact congrArg Host.Outcome.next (wakeBy_storage rfl hstorage hon hcode hentering (by decide) (by decide))
  case noEnergy => exact congrArg Host.Outcome.next (wakeBy_deaf (Or.inl (by rw [hstorage]; rfl)))
  case storage =>
    obtain ⟨hquiet, hstart⟩ := storageReady_rct (ns := ns) (ms := ms) hcode hentering hstorage
    exact ⟨_, rfl, hquiet, hstart, pending_of_exec (c := .storageWakeReady ns ms) rfl⟩
  case noStorage => exact congrArg Host.Outcome.next (if_pos (Or.inl hcode))
  case pinStorage => exact congrArg Host.Outcome.next (wakeBy_storage rfl hstorage hon hcode hentering (by decide) (by decide))
  case enters =>
    obtain ⟨hentering, hnone, hcode⟩ := sleepEnter_begins (rising_of_canon hcanon) hdue hawake
    exact ⟨_, rfl, hentering, hnone, hcode, pending_of_exec (c := .sleepEnter) rfl⟩
  case resumes =>
    obtain ⟨hended, hmem⟩ := silenceResume_ends hquiet
    exact ⟨_, rfl, hended, hmem, pending_of_exec (c := .silenceResume) rfl⟩
  case ringSleep =>
    obtain ⟨-, -, -, -, -, -, -, -, -, hsleep, -⟩ := ringCommandsTakeEffect
    obtain ⟨u, ⟨w, -, rfl⟩, hexec⟩ := hsleep acc s howns hcanon hcoord
    refine ⟨_, hexec, ?_, ?_, pending_of_exec hexec⟩
    · exact congrArg DomState.sleepAt (ctlSend_thrice _ 11 _).2
    · exact (ctlSend_thrice _ 11 _).1
  case ringWake =>
    obtain ⟨-, -, -, -, -, -, -, -, -, -, hwake, -⟩ := ringCommandsTakeEffect
    obtain ⟨u, ⟨w, -, rfl⟩, hexec⟩ := hwake acc s howns hcanon
    have hregs := rising_of_canon hcanon
    have hheard : bit ((s.setWord Reg.RING_CTL_CTRL w).word Reg.DOM_WAKE_EN).toNat 7 = true := by
      rw [word_setWord_ne _ _ _ _ _ _ _ _ _ _ hregs (by decide)]
      exact hon
    obtain ⟨hleft, hcode, hcause⟩ := wakeBy_entering (s := s.setWord Reg.RING_CTL_CTRL w) (cause := 5) (en := 7)
      (net := true) (sto := true) (frame := false) (ite_self _) hheard hentering (by decide) (by decide) (rising_setWord _ _ _ _ _ _ hregs)
    exact ⟨_, hexec, hleft, hcode, hcause, pending_of_exec hexec⟩
  case running => exact congrArg Host.Outcome.next (if_pos (by simp [hrunning, hcommitted]))

end Sys2Proof.Machine
